-- ==== Sys2Proof/Word.lean ====
section
/-! DEFINITION. The words of the EK5200: bytes, 32-bit register words, 64-bit stamps and phase
coordinates, 40-bit addresses, the two fibres and the two DRAM channels (00_scope Notation, 01 Address map). -/

namespace Sys2Proof

/-- One byte. -/
abbrev Byte := BitVec 8
/-- A 32-bit register or parameter word. -/
abbrev Word := BitVec 32
/-- A 64-bit word: a stamp, a phase coordinate, an engine instruction. -/
abbrev DWord := BitVec 64
/-- A 40-bit internal address (01, Address map). -/
abbrev Addr := BitVec 40
/-- Fibre A is channel 0 and fibre B is channel 1 (00, Numbers and units). -/
abbrev Fib := Fin 2
/-- DRAM channel DA is 0 and DB is 1 (R21). -/
abbrev Chan := Fin 2
/-- A list of key and value pairs, keys strictly rising: registers, memories, error maps. -/
abbrev KMap (α : Type) := List (Nat × α)

end Sys2Proof
end

