-- ==== Sys2Proof/Syntax.lean ====
section
/-! DEFINITION. The commands of the EK5200: one constructor for each row of spec/opcode_table.json, with what
reaches the block from outside at that step. -/

namespace Sys2Proof

/-- A requester on the interconnect (01, Masters and access rights); `fixed` is the fixed-function hardware of a block
that reads its own memories, whose ID the spec does not give. -/
inductive Master where
  | engine (k : Fin 16)
  | mgmt
  | cmd
  | scrub
  | linkDma
  | dma (k : Fin 16) (ch : Fin 2)
  | rt (p : Fin 4)
  | stream
  | fill
  | fixed (blk : Fin 21)
  deriving DecidableEq, Repr

/-- Where a command packet came from (14, the two sources; an in-band one names its group's first lane and the
sender's device ID). -/
inductive CmdSrc where
  | spi
  | inband (group : Fin 8) (dev : Fin 16)
  deriving DecidableEq, Repr

/-- What reaches an opcode when its command is executed: where it came from, its TAG and its parameter words (R315). -/
structure CmdIn where
  src : CmdSrc
  tag : BitVec 16
  ps : List Word
  deriving DecidableEq, Repr

/-- The low registers whose high register is latched on their read (R507). -/
inductive LowReg where
  | refPeriod
  | phase
  | next (f : Fib)
  | tdcNow
  | tdcPer (n : Fin 4)
  | uptime
  | bw (c : Chan) (p : Fin 7)
  | pmonCyc
  deriving DecidableEq, Repr

/-- The blocks and units that have a CLR_CNT bit. -/
inductive CntBlk where
  | seq (f : Fib) | rxf (f : Fib) | prism (f : Fib) | pfil (f : Fib) | eng | bril (f : Fib) | lw (f : Fib) | out
  | lane (n : Fin 8) | link | cmd | dramc (ch : Chan) | scrub | tdc (n : Fin 4) | hk | cal (f : Fib) | emit | pwr
  deriving DecidableEq, Repr

/-- Sources of a hardware trigger (R79, SEQ_CTRL.TRIG_SRC 1, 2, 3 and 5). -/
inductive TrigSrc where
  | phmark | tstop0 | tstop1 | link
  deriving DecidableEq, Repr

/-- One envelope word's raw material: five sample instants, each the six raw 12-bit converter codes (R91, R92, R214). -/
abbrev EnvRaw := Vector (Vector (BitVec 12) 6) 5

/-- A class S stream: fibre and index (R232). -/
structure StreamId where
  fib : Fib
  idx : Fin 18
  deriving DecidableEq, Repr

/-- One received 66-bit block at the receiver's candidate boundary: sync header, scrambled payload, and whether the
elastic buffer over- or underflowed with it (R259, R262); its arrival at the LRX pins as channel 7 stamps it (R304). -/
structure RxBlock where
  sh : BitVec 2
  payload : DWord
  elastic : Bool
  stamp : DWord
  deriving DecidableEq, Repr

/-- A packet as its start block, data and terminate block give it (R288). Where a start block stands inside a packet against
R289, `cut` lists the class and LEN of every packet that this discards: the packet, the one the start block begins, and the
outer one where a class A packet was inserted. -/
structure RxPacket where
  cls : Fin 4
  dir : Bool
  src : Fin 16
  dst : Fin 16
  seq : Fin 4096
  payload : List Byte
  crc : Word
  errBlock : Bool
  cut : List (Fin 4 × Nat)
  deriving DecidableEq, Repr

/-- The content of a complete timing set (R304). -/
structure TimingSet where
  setSeq : Fin 32
  departPrev : DWord
  period : BitVec 56
  epochValid : Bool
  holdover : Bool
  onInternal : Bool
  locked : Bool
  epochGen : Fin 16
  start : DWord
  startValid : Bool
  runGen : Fin 16
  deriving DecidableEq, Repr

/-- Which response is formed: shot, position and polarisation (R115). Its slot and code are the shot's, and its value
follows from the samples of its window. -/
structure Response where
  shot : Nat
  pos : Nat
  pol : Fin 2
  deriving DecidableEq, Repr

/-- What the boot ROM finds (R341, R456, R490): the flash's SFDP signature, density in KiB, 4 KiB erase, page size, whether it
advertises 4-byte addresses and the 1-1-4 fast read, its JEDEC identity, whether REFCLK_SMP passes the monitor, and the
supplies of banks IO_A and IO_B in mV. -/
structure BootIn where
  sfdp : Bool
  kib : Nat
  erase4k : Bool
  page : Nat
  addr4 : Bool
  quad : Bool
  vioA : Nat
  vioB : Nat
  jedec : BitVec 24
  refclk : Bool
  deriving DecidableEq, Repr

/-- What bring-up of a DRAM channel gives (R382): whether every step succeeds, the mode register values that firmware writes,
and what training leaves in the delay registers (WR_DQS, WR_DQ, RD_GATE, RD_DQS of each byte lane) and in DRAMC_VREF. -/
structure BringIn where
  trained : Bool
  modes : Vector (BitVec 18) 7
  delays : Vector (BitVec 10 × BitVec 7 × BitVec 10 × BitVec 7) 9
  vref : BitVec 7
  deriving DecidableEq, Repr

/-- A port's request to a DRAM channel (R369, R371): the port in the order RT0–RT3, BE0–BE2, and the byte offset in the
aperture. -/
structure DramReq where
  port : Fin 7
  write : Bool
  off : BitVec 34
  deriving DecidableEq, Repr

/-- An edge at an interpolator's input (R399, R400): the coarse count of the boundary that ends the charge, the converter's
code, and the edge's direction. -/
structure EdgeIn where
  coarse : BitVec 48
  code : BitVec 10
  falling : Bool
  deriving DecidableEq, Repr

/-- One half of a housekeeping conversion (R415, R427): the code, and for an RTD half the common mode of the sense pair in
mV and whether the excitation is at its compliance limit, at the start and at the end of the conversion. -/
structure HkHalf where
  code : BitVec 16
  cmStart : Nat
  cmEnd : Nat
  limStart : Bool
  limEnd : Bool
  deriving DecidableEq, Repr

/-- A housekeeping conversion on both converters (R415). -/
structure HkSample where
  h0 : HkHalf
  h1 : HkHalf
  deriving DecidableEq, Repr

/-- A command to the block: an opcode executed from the command queue (operand `CmdIn`), an engine instruction issued
by engine `k`, or an event of the block, its pins and its bus. -/
inductive Instr where
  /-- REGISTER_WRITE (R8): A register-window write to a register with no row of its own stores or acts on its fields under the Type codes, R506 and the register's write conditions. -/
  | registerWrite (m : Master) (addr : BitVec 40) (bytes : Nat) (value : BitVec 32)
  /-- LATCHED_LOW_READ (R507): A read of a low register whose high register is latched on read returns the live low bits and copies the high bits of the same instant. -/
  | latchedLowRead (r : LowReg)
  /-- CLR_CNT (R82): A write of 1 to a block's CLR_CNT bit clears that block's counters. -/
  | clrCnt (b : CntBlk)
  /-- TRANSMIT_ARBITER_SERVE (R17): The link transmit arbiter sends the next packet, class A before S before B, with at least one B in 16 and class A inserted at block boundaries. -/
  | transmitArbiterServe (g : Fin 8)
  /-- REFCLK_SMP_BAD (R28): The clock monitor finds REFCLK_SMP absent or off by more than 200 ppm for 1 µs after the sampling PLL started, and stops clk_smp, clk_fab and clk_eng. -/
  | refclkSmpBad
  /-- SAMPLING_PLL_START (R456): Once REFCLK_SMP has passed the monitor for 1 ms without a break, the device starts the sampling and engine PLLs. -/
  | samplingPllStart
  /-- SAMPLING_PLL_LOCK (R457): The sampling PLL locks, so clk_fab runs and the blocks that need it become reachable. -/
  | samplingPllLock
  /-- DEFERRED_INIT_WORK (R457): Once clk_fab runs after boot without it, firmware performs the deferred INIT work in order and clears CORE_WAIT. -/
  | deferredInitWork
  /-- TRACKER_REFIT (R56): The stamp of the prescaled PHREF edge that closes a reference cycle is added, and the tracker refits period and residual and updates LOCKED. -/
  | trackerRefit (stamp : BitVec 64)
  /-- INTERNAL_REFERENCE_LOCK (R58): 1 µs after the internal reference is selected, the tracker sets LOCKED. -/
  | internalReferenceLock
  /-- FLIGHT_EPOCH_SET (R62): The flight epoch is set at the first qualifying cycle boundary or PHMARK edge after LOCKED, a voiding or SEQ_EPOCH. -/
  | flightEpochSet (at_ : BitVec 64)
  /-- REFERENCE_LOST (R59): No prescaled PHREF edge, or on a worker no timing set, arrives within the limit, so the tracker enters holdover. -/
  | referenceLost
  /-- HOLDOVER_LIMIT_STOP (R59): Holdover lasts longer than HOLD_MAX, so every armed or running sequencer is stopped and STOP_REF is set. -/
  | holdoverLimitStop
  /-- HOLDOVER_PHASE_CHECK (R61): After the reference returns and W new stamps are fitted, the tracker compares the phase with the holdover model and resumes or sets PHASE_JUMP. -/
  | holdoverPhaseCheck
  /-- MARKER_EDGE (R64): A PHMARK edge is assigned to the nearest expected boundary, and deviations and duplicates count as marker errors. -/
  | markerEdge (stamp : BitVec 64)
  /-- LAUNCH_HANDOVER (R71): At least 64 clk_fab cycles before a launch, the sequencer converts its phase into a time and hands it to the probe synthesizer. -/
  | launchHandover (f : Fib)
  /-- SHOT_LAUNCH (R88): The first code sample leaves the PSx pins at the handed-over time, PGATE is driven, and the Brillouin capture decision is made. -/
  | shotLaunch (f : Fib)
  /-- LMON_EDGE (R72): An LMON edge stamp within the acceptance window becomes the measured launch instant, and further edges count as LMON_EXTRA. -/
  | lmonEdge (f : Fib) (stamp : BitVec 64)
  /-- LMON_WINDOW_CLOSE (R72): The LMON window of a shot closes without an edge, so the scheduled instant is used and SEQ_LMON_MISS increments. -/
  | lmonWindowClose (f : Fib)
  /-- HARDWARE_TRIGGER (R79): A time-measurement stamp of PHMARK, TSTOP0 or TSTOP1 registers a sequencer trigger, which is classified as start, held, abort, lost or ignored. -/
  | hardwareTrigger (f : Fib) (src : TrigSrc)
  /-- TIME_TRIGGER (R74): The TIME trigger set by SEQ_ARM is registered 64 clk_fab cycles before SEQ_TRIG_AT. -/
  | timeTrigger (f : Fib)
  /-- SEQ_TRIG_GO (R509): A write of SEQ_TRIG.GO registers a software trigger, or counts it as ignored unless TRIG_SRC is software. -/
  | seqTrigGo (f : Fib)
  /-- RUN_START (R74): At the computed start phase the run begins, the sequencer becomes RUNNING and SEQ_RUN increments. -/
  | runStart (f : Fib)
  /-- FLIGHT_END (R75): A flight ends, and the sequencer either continues the run, ends it and returns to ARMED, or starts the held trigger's new run. -/
  | flightEnd (f : Fib)
  /-- RUN_ABORT (R76): Under RESTART the run is aborted at the next shot boundary and the sequencer enters DRAINING. -/
  | runAbort (f : Fib)
  /-- DRAIN_COMPLETE (R76): T_d after the last launched shot the pending run starts, and the sequencer becomes RUNNING. -/
  | drainComplete (f : Fib)
  /-- STOP_AT_BOUNDARY (R79): A stop that waited in STOPPING reaches its shot boundary, and the sequencer becomes IDLE. -/
  | stopAtBoundary (f : Fib)
  /-- PAGE_SWITCH_APPLY (R80): A pending page switch takes effect at a qualifying flight boundary, at the start of the next run, or when the sequencer reaches IDLE. -/
  | pageSwitchApply (f : Fib)
  /-- SEQ_CONFIG (R84): Command 0x10 sets fibre length, group index, guard and connector delay. -/
  | seqConfig (c : CmdIn)
  /-- SEQ_REF (R84): Command 0x11 writes the shared reference-tracker registers. -/
  | seqRef (c : CmdIn)
  /-- SEQ_FLIGHT_WRITE (R84): Command 0x12 writes entries of a flight table page. -/
  | seqFlightWrite (c : CmdIn)
  /-- SEQ_PERIOD (R84): Command 0x13 sets the flight period of a page. -/
  | seqPeriod (c : CmdIn)
  /-- SEQ_PAGE_SWITCH (R80): Command 0x14 switches the active flight page at once or holds the switch as pending. -/
  | seqPageSwitch (c : CmdIn)
  /-- SEQ_ARM (R84): Command 0x15 validates the configuration and arms the sequencer, choosing its reference under R60. -/
  | seqArm (c : CmdIn)
  /-- SEQ_TRIGGER (R509): Command 0x16 registers a software trigger and replies with its classification. -/
  | seqTrigger (c : CmdIn)
  /-- SEQ_STOP (R79): Command 0x17 stops the sequencer at the next shot boundary, or at once from ARMED, and discards held triggers. -/
  | seqStop (c : CmdIn)
  /-- SEQ_EPOCH (R62): Command 0x18 requests a new epoch at the next cycle boundary or marker. -/
  | seqEpoch (c : CmdIn)
  /-- SEQ_GET_STATUS (R84): Command 0x19 returns sequencer status, tracker state and counters. -/
  | seqGetStatus (c : CmdIn)
  /-- SEQ_LMON (R84): Command 0x1A sets LMON enable, offset and window. -/
  | seqLmon (c : CmdIn)
  /-- PROBE_TEST_EMIT (R89): Every PERIOD µs the enabled probe test emits its descriptor in its slot with PGATE inactive. -/
  | probeTestEmit (f : Fib)
  /-- CONVERTER_GROUP_READY (R93): 20 µs after a converter group is enabled it is ready, and RXF_STATUS shows it. -/
  | converterGroupReady (f : Fib) (bril : Bool)
  /-- GAIN_STEP (R97): At a stair entry's offset, or at sample 0, the gain codes change, STEP flags begin and RXF_STEP_COUNT increments. -/
  | gainStep (f : Fib) (entry : Fin 16) (ofs : Fin 5)
  /-- RXF_PROBE_WRITE (R510): Command 0x20 writes a probe code descriptor. -/
  | rxfProbeWrite (c : CmdIn)
  /-- RXF_CODE_WRITE (R103): Command 0x21 writes code memory words. -/
  | rxfCodeWrite (c : CmdIn)
  /-- RXF_STAIR_WRITE (R103): Command 0x22 writes gain stair entries. -/
  | rxfStairWrite (c : CmdIn)
  /-- RXF_GATE (R103): Command 0x23 sets PGATE lead, lag and polarities. -/
  | rxfGate (c : CmdIn)
  /-- RXF_POWER (R93): Command 0x24 powers the converter groups and sets STAIR_EN. -/
  | rxfPower (c : CmdIn)
  /-- RXF_PROBE_TEST (R89): Command 0x25 enables or disables the probe test. -/
  | rxfProbeTest (c : CmdIn)
  /-- RXF_GET_STATUS (R103): Command 0x26 returns receiver status and counters. -/
  | rxfGetStatus (c : CmdIn)
  /-- ENVELOPE_WORD (R216): Loss watch takes an envelope word and updates the edge triggers and the mask test, mask learn and trace capture for that interval. -/
  | envelopeWord (f : Fib) (raw : EnvRaw)
  /-- HOLDOFF_EXPIRY (R223): A TIME hold-off of COUNT × 100 ns expires. -/
  | holdoffExpiry (f : Fib)
  /-- EVENT_FIFO_TRANSFER (R224): An event waiting in the loss-watch event FIFO enters the OUT alarm queue once it has room. -/
  | eventFifoTransfer (f : Fib)
  /-- ALARM_PULSE_EXPIRY (R225): In PULSE mode the alarm latch clears PULSE_W × 100 ns after the last event that set it. -/
  | alarmPulseExpiry (f : Fib)
  /-- PRISM_RESPONSE (R115): The Prism forms a response of a position, slot and polarisation, sets its quality flags and updates the gallery entry. -/
  | prismResponse (f : Fib) (r : Response)
  /-- LANDING_RUN_WRITE (R124): The Prism writes a run into the open landing half, handing the half over when it is full or dropping the run when both halves are held. -/
  | landingRunWrite (k : Fin 16) (shot : Nat)
  /-- LANDING_FLUSH_TIMEOUT (R127): PRISM_LAND_FLUSH cycles after the first run was written, the half is handed over if the other half is free. -/
  | landingFlushTimeout (k : Fin 16)
  /-- GAL_INIT (R117): A write of PRISM_GAL_CTRL.GAL_INIT starts the initialisation of the fibre's galleries. -/
  | galInit (f : Fib)
  /-- GAL_INIT_COMPLETE (R117): The gallery initialisation ends after 98,304 cycles and sets GAL_VALID. -/
  | galInitComplete (f : Fib)
  /-- QCLR (R118): A write of PRISM_GAL_CTRL.QCLR starts the clear of the quality counts. -/
  | qclr (f : Fib)
  /-- QCLR_COMPLETE (R118): The quality clear ends after 32,768 cycles and GAL_BUSY clears. -/
  | qclrComplete (f : Fib)
  /-- SPECTRUM_DELIVERY (R121): The Prism delivers the spectrum of a temperature position to the temperature path, and releases the capture buffer after its last spectrum. -/
  | spectrumDelivery (f : Fib) (pos : Nat)
  /-- DESCRIPTOR_POST (R201): After the count array and any dump are written, the BRIL block writes the bank descriptor to the fit engine, READY_SEQ last. -/
  | descriptorPost (f : Fib)
  /-- DONE_SEQ_POLL (R203): Every 4,096 cycles the BRIL block reads DONE_SEQ, and on a match it releases the bank and reads the result area. -/
  | doneSeqPoll (f : Fib)
  /-- RESULT_AREA_READ (R210): The result area read completes, and the temperature frame is handed to the output unit. -/
  | resultAreaRead (f : Fib)
  /-- PRISM_CONFIG (R130): Command 0x30 sets the Prism window, format, scales and flush time. -/
  | prismConfig (c : CmdIn)
  /-- PRISM_GALLERY (R130): Command 0x31 sets the gallery parameters. -/
  | prismGallery (c : CmdIn)
  /-- PRISM_GAL_INIT (R117): Command 0x32 starts the gallery initialisation. -/
  | prismGalInit (c : CmdIn)
  /-- PRISM_QCLEAR (R118): Command 0x33 starts the quality clear. -/
  | prismQclear (c : CmdIn)
  /-- PRISM_BRIL (R130): Command 0x34 sets the Brillouin section control. -/
  | prismBril (c : CmdIn)
  /-- PRISM_MF_INFO (R109): Command 0x35 returns the matched-filter taps, offset and truncation loss of a descriptor. -/
  | prismMfInfo (c : CmdIn)
  /-- PRISM_GET_STATUS (R130): Command 0x36 returns Prism status and counters. -/
  | prismGetStatus (c : CmdIn)
  /-- BRICK_WRITE (R132): Once the 4 frames of a brick have closed, RT0 writes the brick to the corner-turn buffer, or discards the frames under overrun. -/
  | brickWrite (f : Fib)
  /-- TILE_SET_PROCESS (R147): When RT0 has written the last brick of a tile set, the filter starts reading and processing it and applies any pending SYNC or loupe change. -/
  | tileSetProcess (f : Fib)
  /-- TILE_SET_RELEASE (R147): The filter finishes a tile set, hands its last output frame over and releases the buffer to RT0. -/
  | tileSetRelease (f : Fib)
  /-- FADE_COMPLETE (R143): At FIR sample j = L the fade completes, and a held swap starts its fade. -/
  | fadeComplete (f : Fib)
  /-- PFIL_SYNC_GO (R141): A write of PFIL_SYNC.GO requests a SYNC. -/
  | pfilSyncGo (f : Fib)
  /-- PFIL_CONFIG (R151): Command 0x40 sets the main-stream filter configuration. -/
  | pfilConfig (c : CmdIn)
  /-- PFIL_MEM_SETUP (R151): Command 0x41 places the corner-turn and filter-state areas. -/
  | pfilMemSetup (c : CmdIn)
  /-- PFIL_COEF_WRITE (R144): Command 0x42 writes coefficients of a bank. -/
  | pfilCoefWrite (c : CmdIn)
  /-- PFIL_SWAP (R144): Command 0x43 changes the active bank at once, starts a fade or holds a swap. -/
  | pfilSwap (c : CmdIn)
  /-- PFIL_SYNC (R141): Command 0x44 requests a SYNC. -/
  | pfilSync (c : CmdIn)
  /-- PFIL_LOUPE (R42): Command 0x45 enables, disables or redefines a loupe region. -/
  | pfilLoupe (c : CmdIn)
  /-- PFIL_BUDGET (R511): Command 0x46 returns the load, capacity, largest TAPS and slack computed now. -/
  | pfilBudget (c : CmdIn)
  /-- PFIL_GET_STATUS (R151): Command 0x47 returns filter status and counters. -/
  | pfilGetStatus (c : CmdIn)
  /-- FRAME_HANDOVER (R250): A producer hands a frame to the OUT block, which discards, holds or drops it. -/
  | frameHandover
  /-- FRAME_ENCODE (R250): The encoder takes the held frame with the earliest hand-over, frees its slot and writes FRAME_HEAD. -/
  | frameEncode
  /-- BLOCK_ENCODE (R243): Once the transmit buffer has room, the encoder codes one block of 64 samples and updates the history. -/
  | blockEncode
  /-- FRAME_TAIL (R246): Once 16 bytes are free, the encoder writes FRAME_TAIL with the CRC and the frame is complete. -/
  | frameTail
  /-- DROP_MARKER_SEND (R251): A stream's pending DROP marker is sent after its frame in progress or at the next packet boundary. -/
  | dropMarkerSend (sid : StreamId)
  /-- USER_AREA_POLL (R254): Every 1,024 cycles the OUT block reads SEND_SEQ of an enabled engine user area and sends a new record. -/
  | userAreaPoll (de15 : Bool)
  /-- OUT_STREAM (R233): Command 0x80 enables or disables a stream. -/
  | outStream (c : CmdIn)
  /-- OUT_CMP (R256): Command 0x81 sets the compression configuration of a fibre. -/
  | outCmp (c : CmdIn)
  /-- OUT_MEM_SETUP (R249): Command 0x82 places the holding area. -/
  | outMemSetup (c : CmdIn)
  /-- OUT_CMP_SAVE (R247): Command 0x83 saves a stream's compressor history to DRAM. -/
  | outCmpSave (c : CmdIn)
  /-- OUT_CMP_RESTORE (R247): Command 0x84 restores a stream's compressor history from DRAM. -/
  | outCmpRestore (c : CmdIn)
  /-- OUT_SNAP_READ (R253): Command 0x85 sends part of the snapshot buffer as a BULK transfer. -/
  | outSnapRead (c : CmdIn)
  /-- OUT_USER (R254): Command 0x86 sets the user-area enables. -/
  | outUser (c : CmdIn)
  /-- OUT_GET_STATUS (R256): Command 0x87 returns output status and counters. -/
  | outGetStatus (c : CmdIn)
  /-- DEK_CTRL_START (R153): A write of ENG_DEk_CTRL.START starts the engine at address 0. -/
  | dekCtrlStart (k : Fin 16)
  /-- DEK_CTRL_STOP (R153): A write of ENG_DEk_CTRL.STOP stops the engine. -/
  | dekCtrlStop (k : Fin 16)
  /-- DMA_COMPLETE (R167): A DMA transfer ends with DONE, or with HALT and a cause. -/
  | dmaComplete (k : Fin 16) (ch : Fin 2)
  /-- LANDING_WAIT_RESUME (R165): An engine blocked in LWAIT takes the half handed over and resumes. -/
  | landingWaitResume (k : Fin 16)
  /-- DMA_WAIT_RESUME (R191): An engine stalled in DWAIT or DSTART resumes when the channel completes. -/
  | dmaWaitResume (k : Fin 16)
  /-- FRAME_OUTPUT_RESUME (R169): An engine stalled in FOUT resumes when the staging area has room. -/
  | frameOutputResume (k : Fin 16)
  /-- QUALITY_REPORT_APPLY (R170): A queued engine quality report is applied to the gallery entry. -/
  | qualityReportApply (k : Fin 16)
  /-- ALARM_POST_ACCEPT (R171): An engine alarm post stalled on a full queue is accepted once an entry frees. -/
  | alarmPostAccept (k : Fin 16)
  /-- EXTERNAL_ACCESS_WAIT_EXPIRY (R158): A DMA or external access to X or Y that has waited 16 clk_eng cycles takes the next cycle and stalls the engine for one cycle. -/
  | externalAccessWaitExpiry (k : Fin 16)
  /-- MEMINIT_COMPLETE (R159): ENG_MEMINIT finishes zeroing the three memories after 5,120 cycles. -/
  | meminitComplete (k : Fin 16)
  /-- ENG_ASSIGN (R180): Command 0x50 sets the landing sources of the engines. -/
  | engAssign (c : CmdIn)
  /-- ENG_SPAN (R180): Command 0x51 sets an engine's span. -/
  | engSpan (c : CmdIn)
  /-- ENG_GAUGE (R180): Command 0x52 sets the gauge of a fibre. -/
  | engGauge (c : CmdIn)
  /-- ENG_LOAD (R180): Command 0x53 writes words to an engine memory, one at a time. -/
  | engLoad (c : CmdIn)
  /-- ENG_READ (R180): Command 0x54 returns words of an engine memory. -/
  | engRead (c : CmdIn)
  /-- ENG_START (R153): Command 0x55 starts an engine. -/
  | engStart (c : CmdIn)
  /-- ENG_STOP (R153): Command 0x56 stops an engine. -/
  | engStop (c : CmdIn)
  /-- ENG_MEMINIT (R159): Command 0x57 starts zeroing an engine's memories. -/
  | engMeminit (c : CmdIn)
  /-- ENG_DEFAULT (R180): Command 0x58 loads the default kernel and parameter block into an engine. -/
  | engDefault (c : CmdIn)
  /-- ENG_GET_STATUS (R180): Command 0x59 returns an engine's status and counters. -/
  | engGetStatus (c : CmdIn)
  /-- ADD (R186): Instruction 0x01 adds. -/
  | addOp (k : Fin 16)
  /-- SUB (R186): Instruction 0x02 subtracts. -/
  | subOp (k : Fin 16)
  /-- AND (R186): Instruction 0x03 forms the bitwise AND. -/
  | andOp (k : Fin 16)
  /-- OR (R186): Instruction 0x04 forms the bitwise OR. -/
  | orOp (k : Fin 16)
  /-- XOR (R186): Instruction 0x05 forms the bitwise XOR. -/
  | xorOp (k : Fin 16)
  /-- SHL (R186): Instruction 0x06 shifts left. -/
  | shlOp (k : Fin 16)
  /-- SHR (R186): Instruction 0x07 shifts right logically. -/
  | shr (k : Fin 16)
  /-- SRA (R186): Instruction 0x08 shifts right arithmetically. -/
  | sra (k : Fin 16)
  /-- MUL (R186): Instruction 0x09 multiplies. -/
  | mulOp (k : Fin 16)
  /-- SLT (R186): Instruction 0x0A compares signed. -/
  | slt (k : Fin 16)
  /-- SLTU (R186): Instruction 0x0B compares unsigned. -/
  | sltu (k : Fin 16)
  /-- LI (R186): Instruction 0x0C loads an immediate. -/
  | li (k : Fin 16)
  /-- MTS (R185): Instruction 0x10 writes a special register. -/
  | mts (k : Fin 16)
  /-- MFS (R185): Instruction 0x11 reads a special register. -/
  | mfs (k : Fin 16)
  /-- OVR (R186): Instruction 0x12 reads the OV and OVS bits of an accumulator. -/
  | ovr (k : Fin 16)
  /-- LPOP (R193): Instruction 0x17 removes the innermost loop. -/
  | lpop (k : Fin 16)
  /-- BR (R192): Instruction 0x18 branches. -/
  | br (k : Fin 16)
  /-- BZ (R192): Instruction 0x19 branches if zero. -/
  | bz (k : Fin 16)
  /-- BNZ (R192): Instruction 0x1A branches if not zero. -/
  | bnz (k : Fin 16)
  /-- BLTZ (R192): Instruction 0x1B branches if negative. -/
  | bltz (k : Fin 16)
  /-- BGEZ (R192): Instruction 0x1C branches if not negative. -/
  | bgez (k : Fin 16)
  /-- JAL (R192): Instruction 0x1D jumps and links. -/
  | jal (k : Fin 16)
  /-- JR (R192): Instruction 0x1E jumps to a register. -/
  | jr (k : Fin 16)
  /-- LOOP (R193): Instruction 0x1F enters a hardware loop. -/
  | loopOp (k : Fin 16)
  /-- NOP (R186): Instruction 0xFD does nothing. -/
  | nopOp (k : Fin 16)
  /-- BREAK (R186): Instruction 0xFE traps with cause BREAK. -/
  | breakOp (k : Fin 16)
  /-- HALT (R186): Instruction 0xFF takes the engine to STOPPED. -/
  | haltOp (k : Fin 16)
  /-- ILLEGAL (R182): An undefined opcode, nonzero reserved field or illegal operand combination traps with cause ILLEGAL. -/
  | illegal (k : Fin 16)
  /-- VADD (R187): Vector instruction 0x20 adds with wrap. -/
  | vadd (k : Fin 16)
  /-- VSUB (R187): Vector instruction 0x21 subtracts with wrap. -/
  | vsub (k : Fin 16)
  /-- VADDS (R187): Vector instruction 0x22 adds with saturation. -/
  | vadds (k : Fin 16)
  /-- VSUBS (R187): Vector instruction 0x23 subtracts with saturation. -/
  | vsubs (k : Fin 16)
  /-- VAND (R187): Vector instruction 0x24 forms the AND. -/
  | vand (k : Fin 16)
  /-- VOR (R187): Vector instruction 0x25 forms the OR. -/
  | vor (k : Fin 16)
  /-- VXOR (R187): Vector instruction 0x26 forms the XOR. -/
  | vxor (k : Fin 16)
  /-- VSRA (R187): Vector instruction 0x27 shifts right arithmetically. -/
  | vsra (k : Fin 16)
  /-- VCMPLT (R187): Vector instruction 0x28 compares lanes. -/
  | vcmplt (k : Fin 16)
  /-- VALIGN (R187): Vector instruction 0x29 extracts aligned lanes. -/
  | valign (k : Fin 16)
  /-- VEVEN (R187): Vector instruction 0x2A gathers the even lanes. -/
  | veven (k : Fin 16)
  /-- VODD (R187): Vector instruction 0x2B gathers the odd lanes. -/
  | vodd (k : Fin 16)
  /-- VSPLAT (R187): Vector instruction 0x2C broadcasts a g register. -/
  | vsplat (k : Fin 16)
  /-- VEXT (R187): Vector instruction 0x2D extracts a lane. -/
  | vext (k : Fin 16)
  /-- VINS (R187): Vector instruction 0x2E inserts a lane. -/
  | vins (k : Fin 16)
  /-- VMOVE (R183): Vector instruction 0x2F performs parallel moves only. -/
  | vmove (k : Fin 16)
  /-- MAC (R161): Instruction 0x30 multiplies and accumulates. -/
  | macOp (k : Fin 16)
  /-- MSU (R161): Instruction 0x31 multiplies and subtracts. -/
  | msu (k : Fin 16)
  /-- MACF (R161): Instruction 0x32 multiplies and accumulates in fractional mode. -/
  | macf (k : Fin 16)
  /-- MSUF (R161): Instruction 0x33 multiplies and subtracts in fractional mode. -/
  | msuf (k : Fin 16)
  /-- MPY (R187): Instruction 0x34 clears the accumulator and multiplies. -/
  | mpy (k : Fin 16)
  /-- MPYF (R187): Instruction 0x35 clears the accumulator and multiplies in fractional mode. -/
  | mpyf (k : Fin 16)
  /-- CLRA (R187): Instruction 0x36 clears an accumulator. -/
  | clra (k : Fin 16)
  /-- LDA (R187): Instruction 0x37 loads an accumulator. -/
  | lda (k : Fin 16)
  /-- SATV (R162): Instruction 0x38 stores saturated accumulator lanes into a v register. -/
  | satv (k : Fin 16)
  /-- LD (R188): Instruction 0x40 loads from X or Y. -/
  | ld (k : Fin 16)
  /-- ST (R188): Instruction 0x41 stores to X or Y. -/
  | stOp (k : Fin 16)
  /-- SST (R162): Instruction 0x42 stores saturated accumulator values. -/
  | sst (k : Fin 16)
  /-- LWAIT (R163): Instruction 0x50 takes the oldest landing half, or stalls until one exists. -/
  | lwait (k : Fin 16)
  /-- LTEST (R188): Instruction 0x51 tests whether a half is available. -/
  | ltest (k : Fin 16)
  /-- LRD (R164): Instruction 0x52 reads from the current landing half. -/
  | lrd (k : Fin 16)
  /-- LREL (R164): Instruction 0x53 releases the current landing half. -/
  | lrel (k : Fin 16)
  /-- DSTART (R167): Instruction 0x54 starts a DMA channel. -/
  | dstart (k : Fin 16)
  /-- DWAIT (R188): Instruction 0x55 waits for a DMA channel. -/
  | dwait (k : Fin 16)
  /-- FOUT (R168): Instruction 0x56 sends 8 samples to the frame output port. -/
  | fout (k : Fin 16)
  /-- FCLOSE (R168): Instruction 0x57 closes a shot. -/
  | fclose (k : Fin 16)
  /-- QREP (R170): Instruction 0x58 posts a quality report. -/
  | qrep (k : Fin 16)
  /-- ALARM (R171): Instruction 0x59 posts an alarm to the OUT alarm queue. -/
  | alarmOp (k : Fin 16)
  /-- BRIL_CONFIG (R213): Command 0x60 sets the temperature path configuration. -/
  | brilConfig (c : CmdIn)
  /-- BRIL_MEM_SETUP (R194): Command 0x61 places the banks and the result area. -/
  | brilMemSetup (c : CmdIn)
  /-- BRIL_ENABLE (R200): Command 0x62 enables or disables accumulation. -/
  | brilEnable (c : CmdIn)
  /-- BRIL_COIL (R213): Command 0x63 sets a reference coil's positions and temperature. -/
  | brilCoil (c : CmdIn)
  /-- BRIL_DUMP (R211): Command 0x64 requests or releases a spectrum dump. -/
  | brilDump (c : CmdIn)
  /-- BRIL_GET_STATUS (R213): Command 0x65 returns temperature path status and counters. -/
  | brilGetStatus (c : CmdIn)
  /-- MASK_FILL_COMPLETE (R218): LW_MASK_FILL finishes writing all 16,384 entries, sets MASK_VALID and replies. -/
  | maskFillComplete (f : Fib)
  /-- MASK_LEARN_COMPLETE (R221): After NL shots the learn writes the mask bounds and sets MASK_VALID. -/
  | maskLearnComplete (f : Fib)
  /-- CAPTURE_RECORD (R228): A captured shot's record is completed in the snapshot buffer, and the capture completes when all records are written. -/
  | captureRecord
  /-- LW_ENABLE (R231): Command 0x70 enables or disables loss watch. -/
  | lwEnable (c : CmdIn)
  /-- LW_TRIGGER (R217): Command 0x71 configures an edge trigger and rearms it. -/
  | lwTrigger (c : CmdIn)
  /-- LW_HOLDOFF (R223): Command 0x72 sets the hold-off. -/
  | lwHoldoff (c : CmdIn)
  /-- LW_MASK_CONFIG (R220): Command 0x73 configures the mask test. -/
  | lwMaskConfig (c : CmdIn)
  /-- LW_MASK_WRITE (R218): Command 0x74 writes mask entries. -/
  | lwMaskWrite (c : CmdIn)
  /-- LW_MASK_FILL (R218): Command 0x75 starts filling the mask memory with one entry word. -/
  | lwMaskFill (c : CmdIn)
  /-- LW_MASK_LEARN (R221): Command 0x76 starts a mask learn. -/
  | lwMaskLearn (c : CmdIn)
  /-- LW_ALARM (R225): Command 0x77 sets the alarm mode and clears latches. -/
  | lwAlarm (c : CmdIn)
  /-- LW_CAPTURE (R227): Command 0x78 enables or disables a trace capture. -/
  | lwCapture (c : CmdIn)
  /-- LW_LAST_EVENT (R231): Command 0x79 returns the last event as one set. -/
  | lwLastEvent (c : CmdIn)
  /-- LW_GET_STATUS (R231): Command 0x7A returns loss-watch status and counters. -/
  | lwGetStatus (c : CmdIn)
  /-- REFCLK_LANE_BAD (R258): REFCLK_LANE is absent or off frequency for 10 µs, so the lane PLLs are held in reset and enabled lanes go to DETECT. -/
  | refclkLaneBad
  /-- REFCLK_LANE_OK (R513): REFCLK_LANE has been valid for 100 µs, so REFCLK_OK is set and the lane PLLs start. -/
  | refclkLaneOk
  /-- LANE_PLL_LOCK (R513): A quad's lane PLL locks, and its lanes may begin detection. -/
  | lanePllLock (q : Fin 2)
  /-- DETECT_ATTEMPT (R268): A receiver-detect attempt is made, and two consecutive positive attempts take the lane to TRAIN. -/
  | detectAttempt (n : Fin 8) (found : Bool)
  /-- BIT_LOCK (R269): The CDR lock has held for 4,096 UI, so bit lock is declared and the lane enters BITLOCK. -/
  | bitLock (n : Fin 8)
  /-- TRAIN_TIMEOUT (R269): The lane has not reached CAPX within TRAIN_TMO, so it returns to DETECT and counts a training failure. -/
  | trainTimeout (n : Fin 8)
  /-- BLOCK_RECEIVE (R262): A received 66-bit block is checked for block lock, passed to the link layer, or consumed as a training block. -/
  | blockReceive (n : Fin 8) (b : RxBlock)
  /-- IDLE_ENTRY (R273): On an idle-entry request the transmitter sends 4 IDLE_REQ blocks and goes to electrical idle. -/
  | idleEntry (n : Fin 8)
  /-- FAST_EXIT (R274): On a fast-exit request the transmitter sends the exit burst and resumes link-layer blocks. -/
  | fastExit (n : Fin 8)
  /-- RETRAIN (R267): A write of LANE_CTRL.RETRAIN takes the lane back to TRAIN as a loss of block lock. -/
  | retrain (n : Fin 8)
  /-- TEST_MODE_ENTRY (R281): A write of LANE_CTRL.MODE to TEST or LINK takes the lane to TEST or to DETECT. -/
  | testModeEntry (n : Fin 8) (test : Bool)
  /-- ES_START (R277): A write of LANE_ES_CTRL.START starts an eye scan, or sets ABORTED in a state that does not allow it. -/
  | esStart (n : Fin 8)
  /-- ES_ABORT (R277): A write of LANE_ES_CTRL.ABORT ends the scan with ABORTED. -/
  | esAbort (n : Fin 8)
  /-- ES_SCAN_DONE (R277): The scan has compared 2^DWELL bits and sets DONE. -/
  | esScanDone (n : Fin 8) (errors : Nat)
  /-- INJ (R279): A write of LANE_TEST.INJ inverts one transmitted PRBS bit. -/
  | injBit (n : Fin 8)
  /-- INJ_RATE_INJECTION (R279): After every 2^INJ_RATE transmitted bits one PRBS bit is inverted. -/
  | injRateInjection (n : Fin 8)
  /-- DOWN_GROUP_START (R286): The next DOWN group begins bring-up when the previous one becomes ACTIVE or 20 ms after it started. -/
  | downGroupStart (n : Fin 8)
  /-- PACKET_RECEIVE (R297): A received packet is accepted, discarded with a NAK, consumed, looped back or forwarded. -/
  | packetReceive (n : Fin 8) (p : RxPacket)
  /-- TIMING_SET_RECEIVE (R307): A worker receives a complete timing set, refits its tracker and may take a new epoch or a run start. -/
  | timingSetReceive (n : Fin 8) (ts : TimingSet) (arrival : BitVec 64)
  /-- REGULAR_AM (R293): Every 4,096 block slots a regular AM is sent, adding lanes that have become ACTIVE. -/
  | regularAm (n : Fin 8)
  /-- REPLAY_TIMEOUT (R298): ACK has not advanced for REPLAY_TMO µs, so unacknowledged packets are resent. -/
  | replayTimeout (n : Fin 8)
  /-- TIMING_SET_SEND (R304): Every TB_INT µs a timing set is sent and its departure stamped. -/
  | timingSetSend (n : Fin 8) (departure : BitVec 64)
  /-- ECHO_REQUEST (R306): Every ECHO_INT µs a worker sends an ECHO request and counts any lost reply. -/
  | echoRequest (departure : BitVec 64)
  /-- ROUTE_SEND (R301): A worker sends a ROUTE block on a change or every 4,096 block slots. -/
  | routeSend
  /-- LINK_RUN_TRIGGER (R309): At the run start phase S of a new RUN_GEN, a trigger is registered for every sequencer with TRIG_SRC = LINK. -/
  | linkRunTrigger
  /-- LINK_SET_ID (R314): Command 0x90 sets the mode and device ID. -/
  | linkSetId (c : CmdIn)
  /-- LINK_GROUP (R285): Command 0x91 configures and enables or disables a lane group. -/
  | linkGroup (c : CmdIn)
  /-- LINK_TIMING_CFG (R314): Command 0x92 sets timing, replay and echo parameters. -/
  | linkTimingCfg (c : CmdIn)
  /-- LINK_RUN_START (R309): Command 0x93 sets a run start phase and increments RUN_GEN. -/
  | linkRunStart (c : CmdIn)
  /-- LINK_LOOP (R311): Command 0x94 sets far-end link loopback of a group. -/
  | linkLoop (c : CmdIn)
  /-- LINK_TOPOLOGY (R314): Command 0x95 returns the mode, hops, groups and routes. -/
  | linkTopology (c : CmdIn)
  /-- LINK_RTT_STATUS (R314): Command 0x96 returns the RTT and delay of a worker. -/
  | linkRttStatus (c : CmdIn)
  /-- LINK_GET_STATUS (R314): Command 0x97 returns a group's registers and the link counters. -/
  | linkGetStatus (c : CmdIn)
  /-- COMMAND_PACKET_RECEIVE (R324): A complete command packet is checked for length and CRC and entered into the queue, or answered by hardware. -/
  | commandPacketReceive (src : CmdSrc) (bytes : List (BitVec 8))
  /-- COMMAND_DEQUEUE (R323): Firmware takes the next command from the queue and applies the phase and opcode checks before executing it. -/
  | commandDequeue
  /-- COMMAND_TIMEOUT (R325): CMD_TMO expires before execution is complete, so the command is abandoned with TIMEOUT. -/
  | commandTimeout (written : Nat)
  /-- POLL (R334): SPI transaction 0x00 returns the port status word. -/
  | spiPoll
  /-- CMD_WRITE (R335): SPI transaction 0x01 delivers one command packet, or counts a frame error. -/
  | cmdWrite (bytes : List (BitVec 8))
  /-- RPLY_READ (R336): SPI transaction 0x02 sends the oldest reply, which is removed if fully clocked out. -/
  | rplyRead (bytes : Nat)
  /-- SPI_BAD_OP (R334): An SPI transaction with an unknown op code is ignored and sets CMD_FLAGS.SPI_BAD_OP. -/
  | spiBadOp (op : BitVec 8)
  /-- NOP_COMMAND (R329): Command 0x00 does nothing. -/
  | nopCommand (c : CmdIn)
  /-- IDENT (R329): Command 0x01 returns the identity, firmware version, running image and LINK_ID. -/
  | identCmd (c : CmdIn)
  /-- STATUS (R329): Command 0x02 returns the status, device phase, reset cause and CMD_STATUS. -/
  | statusCmd (c : CmdIn)
  /-- READ_REG (R330): Command 0x03 reads n words of memory or registers. -/
  | readReg (c : CmdIn)
  /-- WRITE_REG (R330): Command 0x04 writes n words of memory or registers, one at a time. -/
  | writeReg (c : CmdIn)
  /-- RESET (R326): Command 0x05 replies OK, answers the rest of the queue NOT_READY and starts a full reset. -/
  | resetCmd (c : CmdIn)
  /-- FACTORY_TEST (R323): An opcode of 0xF0–0xFF is refused with DENIED. -/
  | factoryTest (op : Fin 16) (c : CmdIn)
  /-- BOOT (R473): At the release of power-on reset, clk_aon runs, SYS_RST_CAUSE is written and the boot ROM starts SFDP discovery. -/
  | boot (b : BootIn)
  /-- CONFIG_LOAD (R348): In phase CONFIG the boot ROM reads the selection record and configuration slots and chooses the loaded record or the factory defaults. -/
  | configLoad
  /-- IMAGE_LOAD (R344): The boot ROM chooses, loads and verifies a firmware image, rolls back if needed, arms the watchdog and jumps to it, or enters FAULT. -/
  | imageLoad
  /-- CONFIG_APPLY (R349): In phase INIT firmware applies the configuration record, starts the default kernels, brings up DRAM and enables lane groups. -/
  | configApply
  /-- DRAM_BRINGUP (R382): Firmware brings up a DRAM channel, trains it, sets READY or TRAIN_FAIL and writes the default area bases. -/
  | dramBringup (ch : Chan) (b : BringIn)
  /-- WATCHDOG_EXPIRY (R345): The watchdog expires and causes a full reset with cause WATCHDOG. -/
  | watchdogExpiry
  /-- MGMT_WDT_WRITE (R345): A write of MGMT_WDT by master 0x10 restarts the watchdog. -/
  | mgmtWdtWrite (m : Master) (value : BitVec 32)
  /-- CFG_COMMIT_COMPLETE (R350): Programming of the staging image into the other slot ends, and the readback sets CFG_COMMIT_FAIL on a mismatch. -/
  | cfgCommitComplete (ok : Bool)
  /-- UPD_ERASE_COMPLETE (R352): The background erase of the update target ends and UPD_BUSY clears. -/
  | updEraseComplete
  /-- UPD_VERIFY_COMPLETE (R352): The background verification of the update target ends, setting IMG_VALID or UPD_FAIL. -/
  | updVerifyComplete
  /-- PERSISTENT_LOG_APPEND (R355): A record of high enough severity is appended to the persistent event log in flash. -/
  | persistentLogAppend
  /-- LIFETIME_SAMPLE (R358): Every 1 s firmware samples the die sensors and emitter settings into the lifetime counts. -/
  | lifetimeSample
  /-- LIFETIME_APPEND (R358): Every 10 minutes, or at SLEEP entry, firmware appends a lifetime record and checks it by readback. -/
  | lifetimeAppend (ok : Bool)
  /-- DIE_SENSOR_UPDATE (R359): Every 1 ms the die sensors and supply monitors update, and the TJ limit, calibration and TDC temperature checks are made. -/
  | dieSensorUpdate (temps : Vector (BitVec 16) 8) (mv : Vector (BitVec 16) 10)
  /-- DRAM_SENSOR_READ (R359): Every 32 ms firmware reads the DRAM module thermal sensors over I2C and writes DRAMC_TEMP. -/
  | dramSensorRead (da db : Option (BitVec 16))
  /-- COIL_TEMPERATURE_UPDATE (R429): Once per second firmware reads the RTD accumulators with clearing and writes BRIL_COILn_T. -/
  | coilTemperatureUpdate
  /-- MON_HELP (R361): Monitor command help lists the commands. -/
  | monHelp
  /-- MON_IDENT (R361): Monitor commands ident and status print identity and status. -/
  | monIdent (status : Bool)
  /-- MON_LOG (R361): Monitor command log prints the last n event records. -/
  | monLog (n : Option Nat)
  /-- MON_LIFE (R361): Monitor commands life and sensors print lifetime and sensor data. -/
  | monLife (sensors : Bool)
  /-- MON_RD (R361): Monitor command rd reads n words. -/
  | monRd (addr : BitVec 40) (n : Nat)
  /-- MON_BAUD (R360): Monitor command baud changes the rate after the OK line and ends an unlocked session. -/
  | monBaud (code : Fin 8)
  /-- MON_UNLOCK (R362): Monitor command unlock opens an unlocked session or counts a wrong token. -/
  | monUnlock (token : BitVec 32)
  /-- MON_LOCK (R362): Monitor command lock ends the unlocked session. -/
  | monLock
  /-- MON_WR (R361): Monitor command wr writes one word. -/
  | monWr (addr : BitVec 40) (value : BitVec 32)
  /-- MON_RESET (R361): Monitor command reset resets the device as the RESET command does. -/
  | monReset
  /-- MONITOR_SESSION_TIMEOUT (R362): An unlocked session ends after 600 s without input. -/
  | monitorSessionTimeout
  /-- MGMT_STATUS (R365): Command 0xA0 returns management status, image versions and the loaded GEN. -/
  | mgmtStatus (c : CmdIn)
  /-- CFG_READ (R365): Command 0xA1 reads words of a configuration source. -/
  | cfgRead (c : CmdIn)
  /-- CFG_WRITE (R350): Command 0xA2 writes words of the staging image. -/
  | cfgWrite (c : CmdIn)
  /-- CFG_COMMIT (R350): Command 0xA3 checks the staging image and starts programming it into the other slot. -/
  | cfgCommit (c : CmdIn)
  /-- UPD_BEGIN (R352): Command 0xA4 starts an update and erases the target image. -/
  | updBegin (c : CmdIn)
  /-- UPD_DATA (R352): Command 0xA5 writes image words at the next offset. -/
  | updData (c : CmdIn)
  /-- UPD_COMMIT (R352): Command 0xA6 starts verification of the written image. -/
  | updCommit (c : CmdIn)
  /-- UPD_SELECT (R353): Command 0xA7 sets a trial, confirms it, or prefers an image. -/
  | updSelect (c : CmdIn)
  /-- LOG_READ (R365): Command 0xA8 returns event records from the ring or the persistent log. -/
  | logRead (c : CmdIn)
  /-- LIFE_READ (R365): Command 0xA9 returns the lifetime record. -/
  | lifeRead (c : CmdIn)
  /-- SENSOR_READ (R365): Command 0xAA returns sensor readings. -/
  | sensorRead (c : CmdIn)
  /-- DRAM_REQUEST (R371): A port's request enters a per-bank queue and is served under the scheduling of the channel. -/
  | dramRequest (ch : Chan) (rq : DramReq)
  /-- REFRESH_TIMER_EXPIRY (R374): A rank's refresh timer expires, incrementing owed and forcing a refresh beyond the allowance. -/
  | refreshTimerExpiry (ch : Chan) (rank : Fin 2)
  /-- BANK_IDLE_TIMEOUT (R372): IDLE_TMO nCK pass with no request to an open bank, so the bank is closed. -/
  | bankIdleTimeout (ch : Chan) (rank : Fin 2) (bank : Fin 16)
  /-- DRAMC_TEMP_WRITE (R375): A write of DRAMC_TEMP registers a module reading, which may cause a crossing, clear HOT or set OVERTEMP. -/
  | dramcTempWrite (ch : Chan) (temp : BitVec 16)
  /-- TEMP_STALE_TIMEOUT (R376): No DRAMC_TEMP write for 128 ms counts as a hot reading and sets TEMP_STALE. -/
  | tempStaleTimeout (ch : Chan)
  /-- ZQCS_INTERVAL (R382): Every ZQ_INT ms the controller issues ZQCS to every rank. -/
  | zqcsInterval (ch : Chan)
  /-- DRAMC_MRS_GO (R382): A write of DRAMC_MRS.GO issues an MRS command. -/
  | dramcMrsGo (ch : Chan)
  /-- TRN_START (R382): A write of DRAMC_TRN_CTRL.START runs one training pass. -/
  | trnStart (ch : Chan)
  /-- TRAINING_PASS_COMPLETE (R382): A training pass ends and sets DONE and the per-lane PASS bits. -/
  | trainingPassComplete (ch : Chan) (pass : BitVec 9)
  /-- FILL_GO (R381): A write of DRAMC_FILL_CTRL.GO checks the range and starts the fill engine, or records an address error. -/
  | fillGo (ch : Chan)
  /-- FILL_COMPLETE (R381): The fill engine has written every burst and BUSY clears. -/
  | fillComplete (ch : Chan)
  /-- COMBINING_TIMEOUT (R390): A held lower half is written alone as a narrow write 16 cycles after it was held. -/
  | combiningTimeout (m : Master)
  /-- SCRUB_GO (R392): A write of SCRUB_CTRL.GO checks the range and starts a scrub pass, or sets RANGE_ERR. -/
  | scrubGo
  /-- SCRUB_ABORT (R392): A write of SCRUB_CTRL.ABORT ends the pass after the word in progress. -/
  | scrubAbort
  /-- SCRUB_PASS_COMPLETE (R393): A scrub pass ends, fills the summary registers, sets DONE and sends a kind 1 report. -/
  | scrubPassComplete
  /-- SCRUB_WAIT_EXPIRY (R392): The scrubber has waited 16 cycles for a memory and takes the next cycle. -/
  | scrubWaitExpiry
  /-- SCRUB_INJ (R395): A write of SCRUB_INJ.MODE arms an error injection on the next whole-word write by master 0x11. -/
  | scrubInj (mode : BitVec 2)
  /-- EDGE_STAMP (R400): An edge on a time-measurement input is stamped, delivered to its user, tested against the window and recorded. -/
  | edgeStamp (ip : Fin 9) (e : EdgeIn)
  /-- GATE_CLOSE (R408): A frequency gate closes, the period is fitted and the result registers are written. -/
  | gateClose (n : Fin 4)
  /-- TDC_CALIBRATION_COMPLETE (R405): An interpolator calibration ends, setting its table and CAL_VALID or CAL_FAIL. -/
  | tdcCalibrationComplete (ip : Fin 9) (hist : List Nat)
  /-- FIFO0_READ (R411): A read of TDC_CHn_FIFO0 removes the oldest record and latches its other words. -/
  | fifo0Read (n : Fin 4)
  /-- TDC_CONFIG (R413): Command 0xC6 configures a user channel. -/
  | tdcConfig (c : CmdIn)
  /-- TDC_CALIBRATE (R406): Command 0xC7 starts calibration of the named interpolators. -/
  | tdcCalibrate (c : CmdIn)
  /-- TDC_READ (R413): Command 0xC8 returns and removes stamp records. -/
  | tdcRead (c : CmdIn)
  /-- TDC_FREQ (R409): Command 0xC9 starts a gate or reads the frequency result. -/
  | tdcFreq (c : CmdIn)
  /-- TDC_GET_STATUS (R413): Command 0xCA returns time-measurement status. -/
  | tdcGetStatus (c : CmdIn)
  /-- HK_CONVERSION_COMPLETE (R415): A housekeeping conversion ends, and its results are accumulated or discarded with the window, mirror and RTD checks. -/
  | hkConversionComplete (x : HkSample)
  /-- HK_SETTLE_EXPIRY (R417): A slot's settling delay expires and the next conversion starts. -/
  | hkSettleExpiry
  /-- PERIOD_BOUNDARY (R419): A PERIODIC grid boundary starts a pass, or counts an overrun while one runs. -/
  | periodBoundary
  /-- HK_START (R419): A write of HK_CTRL.START starts one SINGLE pass. -/
  | hkStart
  /-- ACC_CLR (R423): A write of HK_ACCa_CTRL.CLR clears an accumulator. -/
  | accClr (a : Fin 72)
  /-- ACC_CNT_READ (R423): A read of HK_ACCa_CNT latches SUM, MIN and MAX of the same instant. -/
  | accCntRead (a : Fin 72)
  /-- RTD_REARM (R428): A write of HK_RTD_CTRL.REARM clears an excitation's FAULT. -/
  | rtdRearm (k : Fin 4)
  /-- HK_SEQ_CONFIG (R432): Command 0xC0 writes slots and starts the regular or injected sequence configuration. -/
  | hkSeqConfig (c : CmdIn)
  /-- HK_INJECT (R420): Command 0xC1 triggers an injected run. -/
  | hkInject (c : CmdIn)
  /-- HK_WINDOW (R424): Command 0xC2 sets an accumulator's window. -/
  | hkWindow (c : CmdIn)
  /-- HK_RTD (R432): Command 0xC3 enables or rearms an excitation. -/
  | hkRtd (c : CmdIn)
  /-- HK_READ_ACC (R423): Command 0xC4 returns accumulators, optionally clearing them. -/
  | hkReadAcc (c : CmdIn)
  /-- HK_GET_STATUS (R432): Command 0xC5 returns housekeeping status. -/
  | hkGetStatus (c : CmdIn)
  /-- CAL_CTRL_RUN (R438): A write of CAL_CTRL.RUN requests a calibration run. -/
  | calCtrlRun (f : Fib)
  /-- CAL_CTRL_ABORT (R440): A write of CAL_CTRL.ABORT aborts the run. -/
  | calCtrlAbort (f : Fib)
  /-- ACCUMULATION_START (R439): A waiting run starts accumulation A at sample 0 of the next shot once the sequencer runs. -/
  | accumulationStart (f : Fib)
  /-- ACCUMULATION_COMPLETE (R437): An accumulation has gathered its instants; after B the estimates are compared and applied or flagged. -/
  | accumulationComplete (f : Fib) (b : Bool)
  /-- ACCUMULATION_TIMEOUT (R440): An accumulation is not complete 10 s after it started, so the run is aborted. -/
  | accumulationTimeout (f : Fib)
  /-- CAL_APPLY (R441): A new calibration set takes effect on all six converters at a shot's sample 0 or an envelope interval, and CAL_APPLIED is written. -/
  | calApply (f : Fib)
  /-- RETRY_WAIT_EXPIRY (R438): RETRY seconds after a failed run, the temperature request is allowed again. -/
  | retryWaitExpiry (f : Fib)
  /-- CAL_RUN (R438): Command 0xB0 requests a calibration run. -/
  | calRun (c : CmdIn)
  /-- CAL_CONFIG (R444): Command 0xB1 sets calibration control, configuration and tolerances. -/
  | calConfig (c : CmdIn)
  /-- CAL_READ (R442): Command 0xB2 returns the calibration record. -/
  | calRead (c : CmdIn)
  /-- CAL_WRITE (R442): Command 0xB3 applies a calibration record at once or holds it. -/
  | calWrite (c : CmdIn)
  /-- CAL_GET_STATUS (R444): Command 0xB4 returns calibration status. -/
  | calGetStatus (c : CmdIn)
  /-- RAMP_STEP (R446): Once per millisecond a sink's applied code moves RAMP codes toward its set code. -/
  | rampStep (c : Fin 4)
  /-- SINK_TEMPERATURE_READ (R448): Every 10 µs a sink sensor is read, and a reading of 150 °C shuts the sink down. -/
  | sinkTemperatureRead (c : Fin 4) (temp : BitVec 16)
  /-- DCH_GO (R452): A write of DCH_CTRL.GO starts a drive-chain transfer. -/
  | dchGo
  /-- DCH_TRANSFER_COMPLETE (R452): The drive-chain transfer latches its bits, clears BUSY and sets DONE. -/
  | dchTransferComplete
  /-- EMIT_SET (R454): Command 0xCB sets a sink's code, ramp and spread. -/
  | emitSet (c : CmdIn)
  /-- EMIT_RESTART (R449): Command 0xCC restarts a sink after a thermal shutdown. -/
  | emitRestart (c : CmdIn)
  /-- DCH_WRITE (R454): Command 0xCD acquires, releases or writes and latches the drive chain. -/
  | dchWrite (c : CmdIn)
  /-- EMIT_GET_STATUS (R454): Command 0xCE returns emitter and drive-chain status. -/
  | emitGetStatus (c : CmdIn)
  /-- GO_STATE (R466): A write of PWR_REQ.GO_STATE requests a power-state change. -/
  | goState
  /-- GO_OP (R461): A write of PWR_REQ.GO_OP requests an operating-point change. -/
  | goOp
  /-- VOLTAGE_CONFIRM (R461): VDD_CORE is confirmed at target, and the divider switches to complete a raise. -/
  | voltageConfirm (mv : Nat)
  /-- VSETTLE_TIMEOUT (R461): A raise is not confirmed within VSETTLE + 1 ms, so VSEL returns and VFAIL is set. -/
  | vsettleTimeout
  /-- STATE_ENTRY_COMPLETE (R466): Entry to STANDBY or SLEEP reaches its wake check and either opens the switches or aborts. -/
  | stateEntryComplete
  /-- WAKE_N_LOW (R468): WAKE_N is low for 2 clk_aon cycles and, if enabled, wakes the device. -/
  | wakeNLow
  /-- SPI_WAKE (R468): A falling edge of TSPI_CS_N in SLEEP wakes the device and the transaction is lost. -/
  | spiWake
  /-- WAKE_TIMER_EXPIRY (R468): PWR_TIMER ms after entry completed, the TIMER source wakes the device. -/
  | wakeTimerExpiry
  /-- LINK_WAKE (R468): Signal returning on the first lane of the HOST or UP group wakes the device from STANDBY. -/
  | linkWake
  /-- WAKE_RESTORE_COMPLETE (R469): Entries and ENG_AUTO have been applied after a STANDBY wake, and the state is ACTIVE. -/
  | wakeRestoreComplete
  /-- PORST_N_ASSERT (R472): PORST_N low for 1 µs or longer starts a full reset with cause PIN. -/
  | porstNAssert
  /-- SUPPLY_BROWNOUT (R489): A required rail falls below its threshold and holds the device in power-on reset. -/
  | supplyBrownout
  /-- PWR_STATE (R465): Command 0xD0 requests a power-state change. -/
  | pwrState (c : CmdIn)
  /-- PWR_OP (R461): Command 0xD1 requests an operating-point change. -/
  | pwrOp (c : CmdIn)
  /-- PWR_WAKE (R476): Command 0xD2 sets the wake sources and timer. -/
  | pwrWake (c : CmdIn)
  /-- PWR_GET_STATUS (R476): Command 0xD3 returns power status. -/
  | pwrGetStatus (c : CmdIn)
  /-- PMON_CLR (R480): A write of PMON_CTRL.CLR zeroes the programmable counters and PMON_WRAP. -/
  | pmonClr
  /-- PMON_SNAP_GO (R482): A write of PMON_SNAP.GO copies the counters into the snapshot registers while the snapshot unit is available. -/
  | pmonSnapGo
  /-- PMON_BW_GO (R484): A write of PMON_BW_CTRL.GO opens a bandwidth window. -/
  | pmonBwGo
  /-- BANDWIDTH_WINDOW_CLOSE (R484): A bandwidth window closes and latches the 14 byte counts, and with CONT the next window opens. -/
  | bandwidthWindowClose
  /-- PMON_CNT_LO_READ (R483): A read of PMON_CNTk_LO returns the live value and latches its high bits. -/
  | pmonCntLoRead (k : Fin 8)
  /-- PMON_CONFIG (R478): Command 0xE0 configures a programmable counter. -/
  | pmonConfig (c : CmdIn)
  /-- PMON_SNAPSHOT (R482): Command 0xE1 takes and returns a snapshot. -/
  | pmonSnapshot (c : CmdIn)
  /-- PMON_READ (R483): Command 0xE2 samples and returns the counters one by one. -/
  | pmonRead (c : CmdIn)
  /-- PMON_BW (R484): Command 0xE3 starts or reads a bandwidth window. -/
  | pmonBw (c : CmdIn)
  /-- PMON_GET_STATUS (R486): Command 0xE4 returns counter status and configuration. -/
  | pmonGetStatus (c : CmdIn)
  /-- CDR_LOCK_LOST (R267): The CDR of a lane in BITLOCK or later loses lock, and the lane returns to TRAIN. -/
  | cdrLockLost (n : Fin 8)
  /-- PRBS_BIT_RECEIVE (R278): The PRBS checker takes received bits, seeds itself, sets or clears PRBS_LOCK and counts wrong and compared bits. -/
  | prbsBitReceive (n : Fin 8) (bit : Bool)
  /-- BLOCK_SLOT_TRANSMIT (R270): A lane's transmitter sends the next block of its slot (training, CAP or idle block), and the counts of RDY and ACK blocks sent move the lane to CAPX or ACTIVE. -/
  | blockSlotTransmit (n : Fin 8)
  /-- DRAM_COMMAND_SLOT (R371): In a command slot of a channel, once tRP or tRFC is met, the scheduler issues a forced or opportunistic REF or serves a request that has become ready. -/
  | dramCommandSlot (ch : Chan)
  deriving DecidableEq, Repr

end Sys2Proof
end

