-- ==== Sys2Proof/Decode.lean ====
section
/-! DEFINITION. Commands spelt by words: opcode_table.json gives no row a bit field, so no word spells a command. The words
of the engine instructions (R183, Machine/EngIsa.lean) and of the command packets (R315, Machine/Cmd.lean) are read by the
meanings of the commands that fetch or receive them. -/

namespace Sys2Proof

/-- The command that a word spells by the table's bits: the table gives none. -/
def decodeTableWord (_nbits _w : Nat) : Option Instr := none

end Sys2Proof
end

