-- ==== Sys2Proof/Config.lean ====
section
/-! DEFINITION. What the spec leaves open and an implementation fixes. Every constant here is opaque:
nothing in Lean can evaluate it, so a claim holds for every value of it. -/

namespace Sys2Proof.Config

/-- The n-th free value the machine draws (State.freeCtr counts them). Log entry 2. -/
opaque freeNat : Nat → Nat
/-- What a byte of on-chip SRAM or DRAM that nothing has written reads as: any data, and another at each
reading (R389, R380): the draw's number and the address. Log entry 3. -/
opaque unwrittenByte : Nat → Nat → Byte
/-- A byte of the boot ROM, by address (01, Address map: factory contents). Log entry 4. -/
opaque romByte : Nat → Byte
/-- Size in KiB of the filter state area for a configuration of a position filter: N, s, TAPS, K, then K and LEN of
each enabled loupe region (R148: PFIL_ST_REQ; the spec gives no formula); below 8 GiB, half of the largest channel. Log
entry 8. -/
opaque stateKib : List Nat → Fin (2 ^ 23)
/-- The word that SEQ_TRIGGER replies for a classification: start 0, held 1, abort 2, lost 3, ignored 4 (R84 gives the
names alone). Log entry 9. -/
opaque trigClass : Nat → Nat
/-- The master ID in the error records of a block's fixed-function reads of its own memories (R386; the table of masters
names none for them). Log entry 10. -/
opaque fixedId : Nat → Nat
/-- The first half of the 256 coefficients of the fixed low-pass filter of a channeliser, which R107 fixes by its response
alone; the other half mirrors it. Log entry 11. -/
opaque lowPass : Nat → Rat
/-- The same of the low-pass filter of the Brillouin section, with its scale to 16-bit samples (R120). Log entry 11. -/
opaque brilPass : Nat → Rat
/-- Sample `m` of a window of `n` samples: kind 1 Hann, 2 Hamming (R109, R120 give the names alone). Log entry 11. -/
opaque window : Nat → Nat → Nat → Rat
/-- The raised-cosine pulse of a chip of the given length, at a distance in samples from the chip's first sample (R86 gives
its roll-off and span; its scale is open). Log entry 11. -/
opaque chipPulse : Nat → Rat → Rat
/-- The scale of |X|² of a segment spectrum (R120 gives none). Log entry 11. -/
opaque spectrumScale : Rat

/-- The coefficients at distances 1, 3, 5, 7 and 9 from the centre of the halfband filter of the prefilter stairs, which R134
fixes by its response alone; the one at 11 follows from unity gain at DC. Log entry 12. -/
opaque halfband : Nat → Rat
/-- Coefficient of a branch and tap of the resampler's fixed 64 × 16 table (R136, by its response alone). Log entry 12. -/
opaque polyphase : Nat → Nat → Rat

/-- Instruction word `i` and version of the default kernel of engine `k` in the factory defaults region of the boot ROM
(R29, R180). Log entry 14. -/
opaque kernelWord : Nat → Nat → Nat
opaque kernelVersion : Nat → Nat

/-- The phase in turns that the default strain-rate kernel makes of the responses of a position that are not excluded: the
format of the records, then word and REF of each (step 1 of the list after R174: weighted by magnitude relative to REF). Log
entry 14. -/
opaque combine : Nat → List (Nat × Nat) → Rat
/-- The static phase offset of a slot at a position, from the position's past responses, newest first (step 2). Log entry 14. -/
opaque slotPhase : List (Nat × Rat) → Nat → Rat
/-- The least-squares fit of R206: from the background and the values of the bins of its window, in order, the centre in bins
from the first of them and the width in bins, to the kernel's precision. Log entry 14. -/
opaque lorentzFit : Rat → List Rat → Rat × Rat

/-- Whether the signature in an image header verifies against the Vrelnos public key in the boot ROM, from header bytes
0–127 (R346; the key is not given). Log entry 16. -/
opaque signatureOk : List Byte → Bool

/-- Words past the factory defaults' record in their region of the boot ROM, which CFG_READ reaches (R348, R365; log entry 18). -/
opaque factoryPad : Nat → Nat

end Sys2Proof.Config
end

