-- ==== Sys2Proof/Machine/Ops0.lean ====
section
/-! DEFINITION. The register store and the byte memories as plain lists with strictly rising keys: looking up, putting
and removing an entry; a register field's place in the store; a register table's row. -/

namespace Sys2Proof.Machine

/-- Put `v` at `k`, keeping the keys strictly rising. -/
def kput {α : Type} (k : Nat) (v : α) : KMap α → KMap α
  | [] => [(k, v)]
  | (j, w) :: t => if k < j then (k, v) :: (j, w) :: t else if k = j then (k, v) :: t else (j, w) :: kput k v t

/-- The entry at `k`. -/
def kget {α : Type} (k : Nat) : KMap α → Option α
  | [] => none
  | (j, w) :: t => if k = j then some w else kget k t

/-- Remove the entry at `k`. -/
def kdel {α : Type} (k : Nat) : KMap α → KMap α
  | [] => []
  | (j, w) :: t => if k = j then t else (j, w) :: kdel k t

/-- Keys strictly rising: the canonical form. -/
def kwf {α : Type} : KMap α → Bool
  | [] => true
  | [_] => true
  | (j, _) :: (k, w) :: t => decide (j < k) && kwf ((k, w) :: t)

/-- The entries whose keys lie outside `[lo, hi)`. -/
def kclear {α : Type} (lo hi : Nat) (m : KMap α) : KMap α := m.filter fun e => e.1 < lo || hi ≤ e.1

/-- The one form of a memory: addresses strictly rising. A byte that nothing has written is not listed, and no listed byte
stands for it (log entry 3). -/
def Memory.wf (m : KMap Byte) : Bool := kwf m

/-- The one form of the boot flash: addresses strictly rising, no byte equal to an erased one (R342, log entry 6). -/
def Memory.flashWf (m : KMap Byte) : Bool := kwf m && m.all fun e => e.2 != 0xFF

/-- A register field: its key in the register store, its width and its reset value. -/
structure Fld where
  key : Nat
  w : Nat
  rst : Nat
  deriving DecidableEq, Repr

/-- The key of the field at bit `lo` of the register at `off` in the window of block `blk` (R5; 01, Block inventory). -/
def key (blk off lo : Nat) : Nat := (blk * 0x10000 + off) * 32 + lo

/-- The Type codes of R8. -/
inductive RType where
  | rw | ro | wo | w1c | w1s | rws
  deriving DecidableEq, Repr

/-- A row of a register table: block, offset of its first instance, strides and counts of its indices, lowest bit, width,
reset value, type and the values an RW field accepts (R8, R506). -/
structure Row where
  blk : Nat
  base : Nat
  dims : List (Nat × Nat)
  lo : Nat
  w : Nat
  rst : Nat
  typ : RType
  allow : Nat → Bool

/-- Whether a distance from the first instance is that of an instance of a row, the outermost index first. -/
def dimsHit : List (Nat × Nat) → Nat → Bool
  | [], d => d == 0
  | (s, n) :: t, d => d / s < n && dimsHit t (d % s)

/-- Whether the row has a field in the register at `off` of block `blk`. -/
def Row.at (r : Row) (blk off : Nat) : Bool := r.blk == blk && r.base ≤ off && dimsHit r.dims (off - r.base)

end Sys2Proof.Machine
end

