-- ==== Sys2Proof/Machine/RegMap.lean ====
section
/-! DEFINITION. The register map: every register field of the spec as a field of the register store, by the
address, place and reset value its register table gives it. A name is the register's name and the field's, an argument the
index the spec writes after it. `rows` is the same map as software meets it: the type of each field and the values it accepts. -/

namespace Sys2Proof.Machine.Reg

/-- 0x0000 bits [0] of SEQ_REF_CTRL (R81): 0 = internal, 1 = PHREF. -/
def SEQ_REF_CTRL_SRC : Fld := ⟨key 1 (0x0) 0, 1, 0⟩
/-- 0x0000 bits [1] of SEQ_REF_CTRL (R81): Start on internal reference if PHREF absent (R60). -/
def SEQ_REF_CTRL_FALLBACK : Fld := ⟨key 1 (0x0) 1, 1, 0⟩
/-- 0x0000 bits [2] of SEQ_REF_CTRL (R81): Use PHMARK; acquires time-measurement channel 3. -/
def SEQ_REF_CTRL_MARK_EN : Fld := ⟨key 1 (0x0) 2, 1, 0⟩
/-- 0x0000 bits [3] of SEQ_REF_CTRL (R81): 0 = rising, 1 = falling marker edge. -/
def SEQ_REF_CTRL_MARK_POL : Fld := ⟨key 1 (0x0) 3, 1, 0⟩
/-- 0x0000 bits [15:8] of SEQ_REF_CTRL (R81): PHREF prescaler = PRESC + 1. -/
def SEQ_REF_CTRL_PRESC : Fld := ⟨key 1 (0x0) 8, 8, 0⟩
/-- 0x0004 bits [15:0] of SEQ_REF_DIV (R81): Cycle divider = DIV + 1. -/
def SEQ_REF_DIV_DIV : Fld := ⟨key 1 (0x4) 0, 16, 0⟩
/-- 0x0008 bits [31:0] of SEQ_INT_DIV (R81): Internal reference cycle in clk_fab cycles, ≥ 4,000. -/
def SEQ_INT_DIV_INT_DIV : Fld := ⟨key 1 (0x8) 0, 32, 0x9c40⟩
/-- 0x000C bits [3:0] of SEQ_TRACK (R81): Fit window W = 2^WIN_LOG2; 2–12. -/
def SEQ_TRACK_WIN_LOG2 : Fld := ⟨key 1 (0xC) 0, 4, 6⟩
/-- 0x000C bits [31:16] of SEQ_TRACK (R81): Holdover limit in ms; 0 = unlimited. -/
def SEQ_TRACK_HOLD_MAX : Fld := ⟨key 1 (0xC) 16, 16, 0x3e8⟩
/-- 0x0010 bits [31:0] of SEQ_RESID_LIM (R81): Residual limit for LOCKED, ps. -/
def SEQ_RESID_LIM_LIM : Fld := ⟨key 1 (0x10) 0, 32, 0x3e8⟩
/-- 0x0014 bits [0] of SEQ_REF_STATUS (R81): R57. -/
def SEQ_REF_STATUS_LOCKED : Fld := ⟨key 1 (0x14) 0, 1, 0⟩
/-- 0x0014 bits [1] of SEQ_REF_STATUS (R81): R59. -/
def SEQ_REF_STATUS_HOLDOVER : Fld := ⟨key 1 (0x14) 1, 1, 0⟩
/-- 0x0014 bits [2] of SEQ_REF_STATUS (R81): PHREF edges arriving. -/
def SEQ_REF_STATUS_PRESENT : Fld := ⟨key 1 (0x14) 2, 1, 0⟩
/-- 0x0014 bits [3] of SEQ_REF_STATUS (R81): Epoch set (R62). -/
def SEQ_REF_STATUS_EPOCH_VALID : Fld := ⟨key 1 (0x14) 3, 1, 0⟩
/-- 0x0014 bits [4] of SEQ_REF_STATUS (R81): R60 fallback in use. -/
def SEQ_REF_STATUS_ON_INTERNAL : Fld := ⟨key 1 (0x14) 4, 1, 0⟩
/-- 0x0018 bits [0] of SEQ_REF_FLAGS (R81): R59. -/
def SEQ_REF_FLAGS_REF_LOST : Fld := ⟨key 1 (0x18) 0, 1, 0⟩
/-- 0x0018 bits [1] of SEQ_REF_FLAGS (R81): R61. -/
def SEQ_REF_FLAGS_PHASE_JUMP : Fld := ⟨key 1 (0x18) 1, 1, 0⟩
/-- 0x0018 bits [2] of SEQ_REF_FLAGS (R81): R64. -/
def SEQ_REF_FLAGS_MARK_SLIP : Fld := ⟨key 1 (0x18) 2, 1, 0⟩
/-- 0x0018 bits [3] of SEQ_REF_FLAGS (R81): R57. -/
def SEQ_REF_FLAGS_RESID_HIGH : Fld := ⟨key 1 (0x18) 3, 1, 0⟩
/-- 0x001C bits [31:0] of SEQ_REF_PERIOD_LO (R81): Tracked period, units of 2^−24 ns, bits [31:0]. -/
def SEQ_REF_PERIOD_LO_PER_LO : Fld := ⟨key 1 (0x1C) 0, 32, 0⟩
/-- 0x0020 bits [23:0] of SEQ_REF_PERIOD_HI (R81): Bits [55:32]; latched on read of PER_LO. -/
def SEQ_REF_PERIOD_HI_PER_HI : Fld := ⟨key 1 (0x20) 0, 24, 0⟩
/-- 0x0024 bits [31:0] of SEQ_REF_RESID (R81): rms fit residual, ps. -/
def SEQ_REF_RESID_RESID : Fld := ⟨key 1 (0x24) 0, 32, 0⟩
/-- 0x0028 bits [31:0] of SEQ_PHASE_LO (R81): Current phase, fraction. -/
def SEQ_PHASE_LO_FRAC : Fld := ⟨key 1 (0x28) 0, 32, 0⟩
/-- 0x002C bits [31:0] of SEQ_PHASE_HI (R81): Current phase, cycles; latched on read of FRAC. -/
def SEQ_PHASE_HI_CYCLES : Fld := ⟨key 1 (0x2C) 0, 32, 0⟩
/-- 0x0030 bits [15:0] of SEQ_MARK_PERIOD (R81): Reference cycles between markers, 1–65,535. -/
def SEQ_MARK_PERIOD_MPER : Fld := ⟨key 1 (0x30) 0, 16, 1⟩
/-- 0x0034 bits [31:0] of SEQ_MARK_ERR (R81): R64 marker errors; saturates. -/
def SEQ_MARK_ERR_COUNT : Fld := ⟨key 1 (0x34) 0, 32, 0⟩
/-- F+0x000 bits [1:0] of SEQ_CTRL (R82): 0 = SINGLE, 1 = REPEAT, 2 = CONTINUOUS; 3 reserved. -/
def SEQ_CTRL_MODE (f : Nat) : Fld := ⟨key 1 (0x1000 + 0x1000 * f) 0, 2, 2⟩
/-- F+0x000 bits [2] of SEQ_CTRL (R82): 0 = QUEUE, 1 = RESTART. -/
def SEQ_CTRL_TRIG_POLICY (f : Nat) : Fld := ⟨key 1 (0x1000 + 0x1000 * f) 2, 1, 0⟩
/-- F+0x000 bits [5:3] of SEQ_CTRL (R82): 0 = software, 1 = PHMARK, 2 = TSTOP0, 3 = TSTOP1, 4 = TIME, 5 = LINK; 6 and 7 reserved. -/
def SEQ_CTRL_TRIG_SRC (f : Nat) : Fld := ⟨key 1 (0x1000 + 0x1000 * f) 3, 3, 0⟩
/-- F+0x000 bits [6] of SEQ_CTRL (R82): R72. -/
def SEQ_CTRL_LMON_EN (f : Nat) : Fld := ⟨key 1 (0x1000 + 0x1000 * f) 6, 1, 0⟩
/-- F+0x000 bits [7] of SEQ_CTRL (R82): R67, R68. -/
def SEQ_CTRL_UNEVEN (f : Nat) : Fld := ⟨key 1 (0x1000 + 0x1000 * f) 7, 1, 0⟩
/-- F+0x000 bits [31] of SEQ_CTRL (R82): Clear all counters of this fibre. -/
def SEQ_CTRL_CLR_CNT (f : Nat) : Fld := ⟨key 1 (0x1000 + 0x1000 * f) 31, 1, 0⟩
/-- F+0x004 bits [2:0] of SEQ_STATUS (R82): 0 IDLE, 1 ARMED, 2 RUNNING, 3 DRAINING, 4 STOPPING. -/
def SEQ_STATUS_STATE (f : Nat) : Fld := ⟨key 1 (0x1004 + 0x1000 * f) 0, 3, 0⟩
/-- F+0x004 bits [3] of SEQ_STATUS (R82): R75. -/
def SEQ_STATUS_TRIG_HELD (f : Nat) : Fld := ⟨key 1 (0x1004 + 0x1000 * f) 3, 1, 0⟩
/-- F+0x004 bits [4] of SEQ_STATUS (R82): Active page. -/
def SEQ_STATUS_PAGE (f : Nat) : Fld := ⟨key 1 (0x1004 + 0x1000 * f) 4, 1, 0⟩
/-- F+0x004 bits [5] of SEQ_STATUS (R82): Switch pending (R80). -/
def SEQ_STATUS_PAGE_PEND (f : Nat) : Fld := ⟨key 1 (0x1004 + 0x1000 * f) 5, 1, 0⟩
/-- F+0x008 bits [15:0] of SEQ_LEN (R82): Fibre length L, m, 1–50,000. -/
def SEQ_LEN_LEN (f : Nat) : Fld := ⟨key 1 (0x1008 + 0x1000 * f) 0, 16, 0xc350⟩
/-- F+0x00C bits [15:0] of SEQ_NG (R82): Group index × 10,000, 14,000–15,500. -/
def SEQ_NG_NG (f : Nat) : Fld := ⟨key 1 (0x100C + 0x1000 * f) 0, 16, 0x395a⟩
/-- F+0x010 bits [11:0] of SEQ_GUARD (R82): Far-end guard G, positions. -/
def SEQ_GUARD_GUARD (f : Nat) : Fld := ⟨key 1 (0x1010 + 0x1000 * f) 0, 12, 0x4e⟩
/-- F+0x014 bits [16:0] of SEQ_CONN_DLY (R82): Connector delay, 1/64 ns, 0–128,000. -/
def SEQ_CONN_DLY_DLY (f : Nat) : Fld := ⟨key 1 (0x1014 + 0x1000 * f) 0, 17, 0⟩
/-- F+0x018 bits [15:0] of SEQ_PERIOD0 (R82): Page 0 flight period numerator, cycles. -/
def SEQ_PERIOD0_NUM (f : Nat) : Fld := ⟨key 1 (0x1018 + 0x1000 * f) 0, 16, 1⟩
/-- F+0x018 bits [25:16] of SEQ_PERIOD0 (R82): Page 0 denominator − 1. -/
def SEQ_PERIOD0_DEN_M1 (f : Nat) : Fld := ⟨key 1 (0x1018 + 0x1000 * f) 16, 10, 0⟩
/-- F+0x01C bits [25:0] of SEQ_PERIOD1 (R82): Page 1, fields as SEQ_PERIOD0. -/
def SEQ_PERIOD1_NUM (f : Nat) : Fld := ⟨key 1 (0x101C + 0x1000 * f) 0, 16, 1⟩
/-- F+0x01C bits [25:0] of SEQ_PERIOD1 (R82): Page 1, fields as SEQ_PERIOD0. -/
def SEQ_PERIOD1_DEN_M1 (f : Nat) : Fld := ⟨key 1 (0x101C + 0x1000 * f) 16, 10, 0⟩
/-- F+0x020 bits [31:0] of SEQ_NFLIGHT (R82): Flights per run in REPEAT, ≥ 1. -/
def SEQ_NFLIGHT_N (f : Nat) : Fld := ⟨key 1 (0x1020 + 0x1000 * f) 0, 32, 1⟩
/-- F+0x024 bits [31:0] of SEQ_START_PHASE (R82): Start grid offset (R74). -/
def SEQ_START_PHASE_FRAC (f : Nat) : Fld := ⟨key 1 (0x1024 + 0x1000 * f) 0, 32, 0⟩
/-- F+0x028 bits [31:0] of SEQ_TRIG_AT_LO (R82): TIME trigger phase, fraction. -/
def SEQ_TRIG_AT_LO_FRAC (f : Nat) : Fld := ⟨key 1 (0x1028 + 0x1000 * f) 0, 32, 0⟩
/-- F+0x02C bits [31:0] of SEQ_TRIG_AT_HI (R82): TIME trigger phase, cycles. -/
def SEQ_TRIG_AT_HI_CYCLES (f : Nat) : Fld := ⟨key 1 (0x102C + 0x1000 * f) 0, 32, 0⟩
/-- F+0x030 bits [31:0] of SEQ_NEXT_LO (R82): Next launch or run start, fraction. -/
def SEQ_NEXT_LO_FRAC (f : Nat) : Fld := ⟨key 1 (0x1030 + 0x1000 * f) 0, 32, 0⟩
/-- F+0x034 bits [31:0] of SEQ_NEXT_HI (R82): Cycles; latched on read of FRAC. -/
def SEQ_NEXT_HI_CYCLES (f : Nat) : Fld := ⟨key 1 (0x1034 + 0x1000 * f) 0, 32, 0⟩
/-- F+0x038 bits [31:0] of SEQ_LMON_OFS (R82): Signed, 1/64 ns. -/
def SEQ_LMON_OFS_OFS (f : Nat) : Fld := ⟨key 1 (0x1038 + 0x1000 * f) 0, 32, 0⟩
/-- F+0x03C bits [9:0] of SEQ_LMON_WIN (R82): Half-width, ns, 1–1,000. -/
def SEQ_LMON_WIN_WIN (f : Nat) : Fld := ⟨key 1 (0x103C + 0x1000 * f) 0, 10, 0x14⟩
/-- F+0x040 bits [31:0] of SEQ_RUN (R82): Runs started since reset. -/
def SEQ_RUN_RUN (f : Nat) : Fld := ⟨key 1 (0x1040 + 0x1000 * f) 0, 32, 0⟩
/-- F+0x044 bits [31:0] of SEQ_TRIG_LOST (R82): R78. -/
def SEQ_TRIG_LOST_COUNT (f : Nat) : Fld := ⟨key 1 (0x1044 + 0x1000 * f) 0, 32, 0⟩
/-- F+0x048 bits [31:0] of SEQ_TRIG_IGNORED (R82): R78, R79. -/
def SEQ_TRIG_IGNORED_COUNT (f : Nat) : Fld := ⟨key 1 (0x1048 + 0x1000 * f) 0, 32, 0⟩
/-- F+0x04C bits [31:0] of SEQ_SHOT_SKIPPED (R82): R69. -/
def SEQ_SHOT_SKIPPED_COUNT (f : Nat) : Fld := ⟨key 1 (0x104C + 0x1000 * f) 0, 32, 0⟩
/-- F+0x050 bits [31:0] of SEQ_LMON_MISS (R82): R72. -/
def SEQ_LMON_MISS_COUNT (f : Nat) : Fld := ⟨key 1 (0x1050 + 0x1000 * f) 0, 32, 0⟩
/-- F+0x054 bits [31:0] of SEQ_LMON_EXTRA (R82): R72. -/
def SEQ_LMON_EXTRA_COUNT (f : Nat) : Fld := ⟨key 1 (0x1054 + 0x1000 * f) 0, 32, 0⟩
/-- F+0x058 bits [0] of SEQ_FLAGS (R82): R78. -/
def SEQ_FLAGS_TRIG_LOST (f : Nat) : Fld := ⟨key 1 (0x1058 + 0x1000 * f) 0, 1, 0⟩
/-- F+0x058 bits [1] of SEQ_FLAGS (R82): R69. -/
def SEQ_FLAGS_SHOT_SKIP (f : Nat) : Fld := ⟨key 1 (0x1058 + 0x1000 * f) 1, 1, 0⟩
/-- F+0x058 bits [2] of SEQ_FLAGS (R82): R72. -/
def SEQ_FLAGS_LMON_MISS (f : Nat) : Fld := ⟨key 1 (0x1058 + 0x1000 * f) 2, 1, 0⟩
/-- F+0x058 bits [3] of SEQ_FLAGS (R82): R72. -/
def SEQ_FLAGS_LMON_EXTRA (f : Nat) : Fld := ⟨key 1 (0x1058 + 0x1000 * f) 3, 1, 0⟩
/-- F+0x058 bits [4] of SEQ_FLAGS (R82): R59. -/
def SEQ_FLAGS_STOP_REF (f : Nat) : Fld := ⟨key 1 (0x1058 + 0x1000 * f) 4, 1, 0⟩
/-- F+0x05C bits [0] of SEQ_TRIG (R82): Software trigger. -/
def SEQ_TRIG_GO (f : Nat) : Fld := ⟨key 1 (0x105C + 0x1000 * f) 0, 1, 0⟩
/-- 0x0000 bits [0] of RXF_STATUS (R101): Fibre A Rayleigh group ready (R93). -/
def RXF_STATUS_RAY_RDY_A : Fld := ⟨key 2 (0x0) 0, 1, 0⟩
/-- 0x0000 bits [1] of RXF_STATUS (R101): Fibre A Brillouin group ready. -/
def RXF_STATUS_BRI_RDY_A : Fld := ⟨key 2 (0x0) 1, 1, 0⟩
/-- 0x0000 bits [2] of RXF_STATUS (R101): Fibre B Rayleigh group ready. -/
def RXF_STATUS_RAY_RDY_B : Fld := ⟨key 2 (0x0) 2, 1, 0⟩
/-- 0x0000 bits [3] of RXF_STATUS (R101): Fibre B Brillouin group ready. -/
def RXF_STATUS_BRI_RDY_B : Fld := ⟨key 2 (0x0) 3, 1, 0⟩
/-- 0x0000 bits [4] of RXF_STATUS (R101): Probe test running, fibre A. -/
def RXF_STATUS_PTEST_A : Fld := ⟨key 2 (0x0) 4, 1, 0⟩
/-- 0x0000 bits [5] of RXF_STATUS (R101): Probe test running, fibre B. -/
def RXF_STATUS_PTEST_B : Fld := ⟨key 2 (0x0) 5, 1, 0⟩
/-- F+0x000 bits [0] of RXF_CTRL (R101): Rayleigh group powered. -/
def RXF_CTRL_RAY_EN (f : Nat) : Fld := ⟨key 2 (0x1000 + 0x1000 * f) 0, 1, 1⟩
/-- F+0x000 bits [1] of RXF_CTRL (R101): Brillouin group powered. -/
def RXF_CTRL_BRI_EN (f : Nat) : Fld := ⟨key 2 (0x1000 + 0x1000 * f) 1, 1, 1⟩
/-- F+0x000 bits [2] of RXF_CTRL (R101): Gain stairs active (R95). -/
def RXF_CTRL_STAIR_EN (f : Nat) : Fld := ⟨key 2 (0x1000 + 0x1000 * f) 2, 1, 0⟩
/-- F+0x000 bits [3] of RXF_CTRL (R101): 0 = active high. -/
def RXF_CTRL_PGATE_POL (f : Nat) : Fld := ⟨key 2 (0x1000 + 0x1000 * f) 3, 1, 0⟩
/-- F+0x000 bits [4] of RXF_CTRL (R101): 0 = rising edge marks launch. -/
def RXF_CTRL_LMON_POL (f : Nat) : Fld := ⟨key 2 (0x1000 + 0x1000 * f) 4, 1, 0⟩
/-- F+0x000 bits [31] of RXF_CTRL (R101): Clear counters of this fibre. -/
def RXF_CTRL_CLR_CNT (f : Nat) : Fld := ⟨key 2 (0x1000 + 0x1000 * f) 31, 1, 0⟩
/-- F+0x004 bits [7:0] of RXF_GATE (R101): PGATE lead, ns. -/
def RXF_GATE_LEAD (f : Nat) : Fld := ⟨key 2 (0x1004 + 0x1000 * f) 0, 8, 0x14⟩
/-- F+0x004 bits [15:8] of RXF_GATE (R101): PGATE lag, ns. -/
def RXF_GATE_LAG (f : Nat) : Fld := ⟨key 2 (0x1004 + 0x1000 * f) 8, 8, 0x14⟩
/-- F+0x008 bits [5:0] of RXF_CLIP_FLAGS (R101): Bit c: converter c clipped (R92). -/
def RXF_CLIP_FLAGS_CLIP (f : Nat) : Fld := ⟨key 2 (0x1008 + 0x1000 * f) 0, 6, 0⟩
/-- F+0x00C bits [31:0] of RXF_STEP_COUNT (R101): Gain steps (R97). -/
def RXF_STEP_COUNT_COUNT (f : Nat) : Fld := ⟨key 2 (0x100C + 0x1000 * f) 0, 32, 0⟩
/-- F+0x010 + 4c bits [31:0] of RXF_CLIP_CNTc (R101): CLIP samples, converter c = 0–5. -/
def RXF_CLIP_CNTc_COUNT (f c : Nat) : Fld := ⟨key 2 (0x1010 + 0x1000 * f + 0x4 * c) 0, 32, 0⟩
/-- F+0x028 bits [0] of RXF_PTEST (R101): Probe test (R89). -/
def RXF_PTEST_EN (f : Nat) : Fld := ⟨key 2 (0x1028 + 0x1000 * f) 0, 1, 0⟩
/-- F+0x028 bits [6:4] of RXF_PTEST (R101): Slot 0–7. -/
def RXF_PTEST_SLOT (f : Nat) : Fld := ⟨key 2 (0x1028 + 0x1000 * f) 4, 3, 0⟩
/-- F+0x028 bits [11:8] of RXF_PTEST (R101): Descriptor 0–15. -/
def RXF_PTEST_CODE (f : Nat) : Fld := ⟨key 2 (0x1028 + 0x1000 * f) 8, 4, 0⟩
/-- F+0x028 bits [31:16] of RXF_PTEST (R101): Repetition, µs, ≥ code length + 1. -/
def RXF_PTEST_PERIOD (f : Nat) : Fld := ⟨key 2 (0x1028 + 0x1000 * f) 16, 16, 0x64⟩
/-- F+0x100 + 0x10d bits [1:0] of RXF_PCODE_CTRL (R101): 0 = off, 1 = CHIRP, 2 = BPSK, 3 reserved. -/
def RXF_PCODE_CTRL_TYPE (f d : Nat) : Fld := ⟨key 2 (0x1100 + 0x1000 * f + 0x10 * d) 0, 2, 0⟩
/-- F+0x100 + 0x10d bits [2] of RXF_PCODE_CTRL (R101): 1 = down-chirp. -/
def RXF_PCODE_CTRL_DIR (f d : Nat) : Fld := ⟨key 2 (0x1100 + 0x1000 * f + 0x10 * d) 2, 1, 0⟩
/-- F+0x100 + 0x10d bits [15:8] of RXF_PCODE_CTRL (R101): Ramp length, 1/256 of code, 0–64. -/
def RXF_PCODE_CTRL_TAPER (f d : Nat) : Fld := ⟨key 2 (0x1100 + 0x1000 * f + 0x10 * d) 8, 8, 0⟩
/-- F+0x100 + 0x10d bits [29:16] of RXF_PCODE_CTRL (R101): Amplitude, 0–8,191. -/
def RXF_PCODE_CTRL_AMP (f d : Nat) : Fld := ⟨key 2 (0x1100 + 0x1000 * f + 0x10 * d) 16, 14, 0⟩
/-- F+0x104 + 0x10d bits [14:0] of RXF_PCODE_LEN (R101): Code length, 0.5 ns samples, 200–20,000. -/
def RXF_PCODE_LEN_LEN (f d : Nat) : Fld := ⟨key 2 (0x1104 + 0x1000 * f + 0x10 * d) 0, 15, 0⟩
/-- F+0x108 + 0x10d bits [16:0] of RXF_PCODE_BW (R101): Chirp bandwidth, kHz, 1,000–100,000. -/
def RXF_PCODE_BW_BW (f d : Nat) : Fld := ⟨key 2 (0x1108 + 0x1000 * f + 0x10 * d) 0, 17, 0⟩
/-- F+0x10C + 0x10d bits [12:0] of RXF_PCODE_BPSK (R101): First chip bit in code memory. -/
def RXF_PCODE_BPSK_START (f d : Nat) : Fld := ⟨key 2 (0x110C + 0x1000 * f + 0x10 * d) 0, 13, 0⟩
/-- F+0x10C + 0x10d bits [30:16] of RXF_PCODE_BPSK (R101): Chip length, 0.5 ns samples, ≥ 25. -/
def RXF_PCODE_BPSK_CHIP (f d : Nat) : Fld := ⟨key 2 (0x110C + 0x1000 * f + 0x10 * d) 16, 15, 0⟩
/-- F+0x400 + 4e bits [18:0] of RXF_STAIRe (R101): Step sample offset; ignored for e = 0. -/
def RXF_STAIRe_OFFSET (f e : Nat) : Fld := ⟨key 2 (0x1400 + 0x1000 * f + 0x4 * e) 0, 19, 0⟩
/-- F+0x400 + 4e bits [23:20] of RXF_STAIRe (R101): Rayleigh gain code. -/
def RXF_STAIRe_RG (f e : Nat) : Fld := ⟨key 2 (0x1400 + 0x1000 * f + 0x4 * e) 20, 4, 0⟩
/-- F+0x400 + 4e bits [27:24] of RXF_STAIRe (R101): Brillouin gain code. -/
def RXF_STAIRe_BG (f e : Nat) : Fld := ⟨key 2 (0x1400 + 0x1000 * f + 0x4 * e) 24, 4, 0⟩
/-- F+0x400 + 4e bits [31] of RXF_STAIRe (R101): Entry enabled; ignored for e = 0. -/
def RXF_STAIRe_EN (f e : Nat) : Fld := ⟨key 2 (0x1400 + 0x1000 * f + 0x4 * e) 31, 1, 0⟩
/-- F+0x800 + 4w bits [31:0] of RXF_CODEw (R101): Code memory, chips 32w to 32w + 31. -/
def RXF_CODEw_BITS (f w : Nat) : Fld := ⟨key 2 (0x1800 + 0x1000 * f + 0x4 * w) 0, 32, 0⟩
/-- 0x0000 bits [0] of PRISM_STATUS (R129): R117. -/
def PRISM_STATUS_GAL_VALID_A : Fld := ⟨key 3 (0x0) 0, 1, 0⟩
/-- 0x0000 bits [1] of PRISM_STATUS (R129): R117. -/
def PRISM_STATUS_GAL_VALID_B : Fld := ⟨key 3 (0x0) 1, 1, 0⟩
/-- 0x0000 bits [2] of PRISM_STATUS (R129): Initialisation or clear running. -/
def PRISM_STATUS_GAL_BUSY_A : Fld := ⟨key 3 (0x0) 2, 1, 0⟩
/-- 0x0000 bits [3] of PRISM_STATUS (R129): As GAL_BUSY_A. -/
def PRISM_STATUS_GAL_BUSY_B : Fld := ⟨key 3 (0x0) 3, 1, 0⟩
/-- F+0x000 bits [1:0] of PRISM_CTRL (R129): 0 none, 1 Hann, 2 Hamming, 3 reserved. -/
def PRISM_CTRL_MF_WIN (f : Nat) : Fld := ⟨key 3 (0x1000 + 0x1000 * f) 0, 2, 0⟩
/-- F+0x000 bits [2] of PRISM_CTRL (R129): 0 = PHASE, 1 = IQ. -/
def PRISM_CTRL_FMT (f : Nat) : Fld := ⟨key 3 (0x1000 + 0x1000 * f) 2, 1, 0⟩
/-- F+0x000 bits [31] of PRISM_CTRL (R129): Clear counters of this fibre. -/
def PRISM_CTRL_CLR_CNT (f : Nat) : Fld := ⟨key 3 (0x1000 + 0x1000 * f) 31, 1, 0⟩
/-- F+0x004 bits [4:0] of PRISM_SCALE (R129): R110. -/
def PRISM_SCALE_MF_SHIFT (f : Nat) : Fld := ⟨key 3 (0x1004 + 0x1000 * f) 0, 5, 0xc⟩
/-- F+0x004 bits [11:8] of PRISM_SCALE (R129): R112. -/
def PRISM_SCALE_MAG_SHIFT (f : Nat) : Fld := ⟨key 3 (0x1004 + 0x1000 * f) 8, 4, 0xb⟩
/-- F+0x004 bits [19:16] of PRISM_SCALE (R129): R112. -/
def PRISM_SCALE_IQ_SHIFT (f : Nat) : Fld := ⟨key 3 (0x1004 + 0x1000 * f) 16, 4, 0xa⟩
/-- F+0x008 bits [3:0] of PRISM_GAL_CTRL (R129): R115. -/
def PRISM_GAL_CTRL_ALPHA (f : Nat) : Fld := ⟨key 3 (0x1008 + 0x1000 * f) 0, 4, 8⟩
/-- F+0x008 bits [4] of PRISM_GAL_CTRL (R129): Stop REF updates. -/
def PRISM_GAL_CTRL_FREEZE (f : Nat) : Fld := ⟨key 3 (0x1008 + 0x1000 * f) 4, 1, 0⟩
/-- F+0x008 bits [5] of PRISM_GAL_CTRL (R129): R115. -/
def PRISM_GAL_CTRL_FADE_AUTO (f : Nat) : Fld := ⟨key 3 (0x1008 + 0x1000 * f) 5, 1, 1⟩
/-- F+0x008 bits [15:8] of PRISM_GAL_CTRL (R129): R115. -/
def PRISM_GAL_CTRL_FADE_RATIO (f : Nat) : Fld := ⟨key 3 (0x1008 + 0x1000 * f) 8, 8, 0x1a⟩
/-- F+0x008 bits [16] of PRISM_GAL_CTRL (R129): R117. -/
def PRISM_GAL_CTRL_GAL_INIT (f : Nat) : Fld := ⟨key 3 (0x1008 + 0x1000 * f) 16, 1, 0⟩
/-- F+0x008 bits [17] of PRISM_GAL_CTRL (R129): R118. -/
def PRISM_GAL_CTRL_QCLR (f : Nat) : Fld := ⟨key 3 (0x1008 + 0x1000 * f) 17, 1, 0⟩
/-- F+0x00C bits [15:0] of PRISM_REF_INIT (R129): REF written by GAL_INIT. -/
def PRISM_REF_INIT_VALUE (f : Nat) : Fld := ⟨key 3 (0x100C + 0x1000 * f) 0, 16, 0⟩
/-- F+0x010 bits [11:0] of PRISM_LAND_FLUSH (R129): R127; 0 = at first run. -/
def PRISM_LAND_FLUSH_CYCLES (f : Nat) : Fld := ⟨key 3 (0x1010 + 0x1000 * f) 0, 12, 0x40⟩
/-- F+0x014 bits [0] of PRISM_BRIL_CTRL (R129): R119. -/
def PRISM_BRIL_CTRL_EN (f : Nat) : Fld := ⟨key 3 (0x1014 + 0x1000 * f) 0, 1, 0⟩
/-- F+0x014 bits [3:1] of PRISM_BRIL_CTRL (R129): Captured slot. -/
def PRISM_BRIL_CTRL_SLOT (f : Nat) : Fld := ⟨key 3 (0x1014 + 0x1000 * f) 1, 3, 0⟩
/-- F+0x014 bits [12:4] of PRISM_BRIL_CTRL (R129): MHz, 100–400. -/
def PRISM_BRIL_CTRL_BAND_CTR (f : Nat) : Fld := ⟨key 3 (0x1014 + 0x1000 * f) 4, 9, 0xfa⟩
/-- F+0x014 bits [23:16] of PRISM_BRIL_CTRL (R129): R119. -/
def PRISM_BRIL_CTRL_DIV (f : Nat) : Fld := ⟨key 3 (0x1014 + 0x1000 * f) 16, 8, 0⟩
/-- F+0x014 bits [28:24] of PRISM_BRIL_CTRL (R129): R121. -/
def PRISM_BRIL_CTRL_BSHIFT (f : Nat) : Fld := ⟨key 3 (0x1014 + 0x1000 * f) 24, 5, 0x10⟩
/-- F+0x018 bits [31:0] of PRISM_CNT_STEP (R129): Q_STEP responses. -/
def PRISM_CNT_STEP_COUNT (f : Nat) : Fld := ⟨key 3 (0x1018 + 0x1000 * f) 0, 32, 0⟩
/-- F+0x01C bits [31:0] of PRISM_CNT_CLIP (R129): Q_CLIP responses. -/
def PRISM_CNT_CLIP_COUNT (f : Nat) : Fld := ⟨key 3 (0x101C + 0x1000 * f) 0, 32, 0⟩
/-- F+0x020 bits [31:0] of PRISM_CNT_FADE (R129): Q_FADE responses. -/
def PRISM_CNT_FADE_COUNT (f : Nat) : Fld := ⟨key 3 (0x1020 + 0x1000 * f) 0, 32, 0⟩
/-- F+0x024 bits [31:0] of PRISM_MF_SAT (R129): R110. -/
def PRISM_MF_SAT_COUNT (f : Nat) : Fld := ⟨key 3 (0x1024 + 0x1000 * f) 0, 32, 0⟩
/-- F+0x028 bits [31:0] of PRISM_BRIL_CAPT (R129): Shots captured. -/
def PRISM_BRIL_CAPT_COUNT (f : Nat) : Fld := ⟨key 3 (0x1028 + 0x1000 * f) 0, 32, 0⟩
/-- F+0x02C bits [31:0] of PRISM_BRIL_SKIP (R129): R119. -/
def PRISM_BRIL_SKIP_COUNT (f : Nat) : Fld := ⟨key 3 (0x102C + 0x1000 * f) 0, 32, 0⟩
/-- F+0x030 bits [31:0] of PRISM_BRIL_CLIPEX (R129): R121. -/
def PRISM_BRIL_CLIPEX_COUNT (f : Nat) : Fld := ⟨key 3 (0x1030 + 0x1000 * f) 0, 32, 0⟩
/-- F+0x034 bits [0] of PRISM_FLAGS (R129): R127. -/
def PRISM_FLAGS_LAND_LOSS (f : Nat) : Fld := ⟨key 3 (0x1034 + 0x1000 * f) 0, 1, 0⟩
/-- F+0x034 bits [1] of PRISM_FLAGS (R129): R119. -/
def PRISM_FLAGS_BRIL_SKIP (f : Nat) : Fld := ⟨key 3 (0x1034 + 0x1000 * f) 1, 1, 0⟩
/-- F+0x034 bits [2] of PRISM_FLAGS (R129): R109. -/
def PRISM_FLAGS_MF_TRUNC (f : Nat) : Fld := ⟨key 3 (0x1034 + 0x1000 * f) 2, 1, 0⟩
/-- F+0x034 bits [3] of PRISM_FLAGS (R129): R110. -/
def PRISM_FLAGS_MF_SAT (f : Nat) : Fld := ⟨key 3 (0x1034 + 0x1000 * f) 3, 1, 0⟩
/-- 0x3000 + 0x10k bits [0] of PRISM_LANDk_STAT (R129): Half 0 held by engine. -/
def PRISM_LANDk_STAT_H0_HELD (k : Nat) : Fld := ⟨key 3 (0x3000 + 0x10 * k) 0, 1, 0⟩
/-- 0x3000 + 0x10k bits [1] of PRISM_LANDk_STAT (R129): Half 1 held by engine. -/
def PRISM_LANDk_STAT_H1_HELD (k : Nat) : Fld := ⟨key 3 (0x3000 + 0x10 * k) 1, 1, 0⟩
/-- 0x3000 + 0x10k bits [2] of PRISM_LANDk_STAT (R129): Half being written. -/
def PRISM_LANDk_STAT_OPEN (k : Nat) : Fld := ⟨key 3 (0x3000 + 0x10 * k) 2, 1, 0⟩
/-- 0x3000 + 0x10k bits [31:16] of PRISM_LANDk_STAT (R129): SEQ of the next half. -/
def PRISM_LANDk_STAT_SEQ (k : Nat) : Fld := ⟨key 3 (0x3000 + 0x10 * k) 16, 16, 0⟩
/-- 0x3004 + 0x10k bits [31:0] of PRISM_LANDk_LOST (R129): R127. -/
def PRISM_LANDk_LOST_COUNT (k : Nat) : Fld := ⟨key 3 (0x3004 + 0x10 * k) 0, 32, 0⟩
/-- F+0x000 bits [0] of PFIL_CTRL (R148): Main stream enabled. -/
def PFIL_CTRL_EN (f : Nat) : Fld := ⟨key 4 (0x1000 + 0x1000 * f) 0, 1, 0⟩
/-- F+0x000 bits [1] of PFIL_CTRL (R148): R142. -/
def PFIL_CTRL_SUPPRESS_SETTLING (f : Nat) : Fld := ⟨key 4 (0x1000 + 0x1000 * f) 1, 1, 0⟩
/-- F+0x000 bits [2] of PFIL_CTRL (R148): 0 = FREE, 1 = LOCKED. -/
def PFIL_CTRL_MODE (f : Nat) : Fld := ⟨key 4 (0x1000 + 0x1000 * f) 2, 1, 0⟩
/-- F+0x000 bits [6:4] of PFIL_CTRL (R148): Stair stages 0–5. -/
def PFIL_CTRL_K (f : Nat) : Fld := ⟨key 4 (0x1000 + 0x1000 * f) 4, 3, 0⟩
/-- F+0x000 bits [9:8] of PFIL_CTRL (R148): Readout spacing s = 1, 2, 4, 8. -/
def PFIL_CTRL_SPACING (f : Nat) : Fld := ⟨key 4 (0x1000 + 0x1000 * f) 8, 2, 0⟩
/-- F+0x000 bits [31] of PFIL_CTRL (R148): Clear counters of this fibre. -/
def PFIL_CTRL_CLR_CNT (f : Nat) : Fld := ⟨key 4 (0x1000 + 0x1000 * f) 31, 1, 0⟩
/-- F+0x004 bits [8:0] of PFIL_FIR (R148): 1–384. -/
def PFIL_FIR_TAPS (f : Nat) : Fld := ⟨key 4 (0x1004 + 0x1000 * f) 0, 9, 0x40⟩
/-- F+0x008 bits [23:0] of PFIL_RATE (R148): FREE rate, 0.01 Hz. -/
def PFIL_RATE_RATE (f : Nat) : Fld := ⟨key 4 (0x1008 + 0x1000 * f) 0, 24, 0x2710⟩
/-- F+0x00C bits [15:0] of PFIL_LOCK (R148): LOCKED outputs per QD cycles, ≥ 1. -/
def PFIL_LOCK_QN (f : Nat) : Fld := ⟨key 4 (0x100C + 0x1000 * f) 0, 16, 1⟩
/-- F+0x00C bits [31:16] of PFIL_LOCK (R148): ≥ 1. -/
def PFIL_LOCK_QD (f : Nat) : Fld := ⟨key 4 (0x100C + 0x1000 * f) 16, 16, 1⟩
/-- F+0x010 bits [31:0] of PFIL_LOCK_OFS (R148): Grid offset, 2^−32 cycle. -/
def PFIL_LOCK_OFS_OFS (f : Nat) : Fld := ⟨key 4 (0x1010 + 0x1000 * f) 0, 32, 0⟩
/-- F+0x014 bits [0] of PFIL_STATUS (R148): Filter receiving frames. -/
def PFIL_STATUS_RUN (f : Nat) : Fld := ⟨key 4 (0x1014 + 0x1000 * f) 0, 1, 0⟩
/-- F+0x014 bits [1] of PFIL_STATUS (R148): Active bank, or bank fading in. -/
def PFIL_STATUS_BANK (f : Nat) : Fld := ⟨key 4 (0x1014 + 0x1000 * f) 1, 1, 0⟩
/-- F+0x014 bits [2] of PFIL_STATUS (R148): R143. -/
def PFIL_STATUS_FADING (f : Nat) : Fld := ⟨key 4 (0x1014 + 0x1000 * f) 2, 1, 0⟩
/-- F+0x014 bits [3] of PFIL_STATUS (R148): R144. -/
def PFIL_STATUS_SWAP_HELD (f : Nat) : Fld := ⟨key 4 (0x1014 + 0x1000 * f) 3, 1, 0⟩
/-- F+0x014 bits [4] of PFIL_STATUS (R148): Main stream settling. -/
def PFIL_STATUS_SETTLING (f : Nat) : Fld := ⟨key 4 (0x1014 + 0x1000 * f) 4, 1, 0⟩
/-- F+0x014 bits [5] of PFIL_STATUS (R148): R141. -/
def PFIL_STATUS_SYNC_PEND (f : Nat) : Fld := ⟨key 4 (0x1014 + 0x1000 * f) 5, 1, 0⟩
/-- F+0x018 bits [12:0] of PFIL_FADE (R148): j of R143. -/
def PFIL_FADE_POS (f : Nat) : Fld := ⟨key 4 (0x1018 + 0x1000 * f) 0, 13, 0⟩
/-- F+0x018 bits [28:16] of PFIL_FADE (R148): L of running fade. -/
def PFIL_FADE_LEN (f : Nat) : Fld := ⟨key 4 (0x1018 + 0x1000 * f) 16, 13, 0⟩
/-- F+0x01C bits [31:0] of PFIL_LOAD (R148): R145, 10^6 tap-op/s. -/
def PFIL_LOAD_LOAD (f : Nat) : Fld := ⟨key 4 (0x101C + 0x1000 * f) 0, 32, 0⟩
/-- F+0x020 bits [31:0] of PFIL_GD (R148): 2D, main stream. -/
def PFIL_GD_GD2 (f : Nat) : Fld := ⟨key 4 (0x1020 + 0x1000 * f) 0, 32, 0⟩
/-- F+0x024 bits [15:0] of PFIL_SETTLE_N (R148): N_s, main stream. -/
def PFIL_SETTLE_N_N (f : Nat) : Fld := ⟨key 4 (0x1024 + 0x1000 * f) 0, 16, 0⟩
/-- F+0x028 bits [3:0] of PFIL_STEP_INT (R148): STEP, integer part. -/
def PFIL_STEP_INT_INT (f : Nat) : Fld := ⟨key 4 (0x1028 + 0x1000 * f) 0, 4, 0⟩
/-- F+0x02C bits [31:0] of PFIL_STEP_FRAC (R148): STEP, fraction. -/
def PFIL_STEP_FRAC_FRAC (f : Nat) : Fld := ⟨key 4 (0x102C + 0x1000 * f) 0, 32, 0⟩
/-- F+0x030 bits [31:12] of PFIL_CT_BASE_LO (R148): Corner-turn base [31:12]. -/
def PFIL_CT_BASE_LO_ADDR (f : Nat) : Fld := ⟨key 4 (0x1030 + 0x1000 * f) 12, 20, 0⟩
/-- F+0x034 bits [7:0] of PFIL_CT_BASE_HI (R148): Base [39:32]. -/
def PFIL_CT_BASE_HI_ADDR (f : Nat) : Fld := ⟨key 4 (0x1034 + 0x1000 * f) 0, 8, 0⟩
/-- F+0x038 bits [31:12] of PFIL_ST_BASE_LO (R148): Filter state area base [31:12], written through RT2. -/
def PFIL_ST_BASE_LO_ADDR (f : Nat) : Fld := ⟨key 4 (0x1038 + 0x1000 * f) 12, 20, 0⟩
/-- F+0x03C bits [7:0] of PFIL_ST_BASE_HI (R148): Base [39:32]. -/
def PFIL_ST_BASE_HI_ADDR (f : Nat) : Fld := ⟨key 4 (0x103C + 0x1000 * f) 0, 8, 0⟩
/-- F+0x040 bits [31:0] of PFIL_CT_REQ (R148): R131 size, KiB. -/
def PFIL_CT_REQ_KIB (f : Nat) : Fld := ⟨key 4 (0x1040 + 0x1000 * f) 0, 32, 0⟩
/-- F+0x044 bits [31:0] of PFIL_ST_REQ (R148): State area size, KiB, for the current configuration. -/
def PFIL_ST_REQ_KIB (f : Nat) : Fld := ⟨key 4 (0x1044 + 0x1000 * f) 0, 32, 0⟩
/-- F+0x048 bits [0] of PFIL_FLAGS (R148): R133. -/
def PFIL_FLAGS_OVERRUN (f : Nat) : Fld := ⟨key 4 (0x1048 + 0x1000 * f) 0, 1, 0⟩
/-- F+0x048 bits [1] of PFIL_FLAGS (R148): R144. -/
def PFIL_FLAGS_SWAP_REPLACED (f : Nat) : Fld := ⟨key 4 (0x1048 + 0x1000 * f) 1, 1, 0⟩
/-- F+0x04C bits [31:0] of PFIL_CT_OVERRUN (R148): R133. -/
def PFIL_CT_OVERRUN_COUNT (f : Nat) : Fld := ⟨key 4 (0x104C + 0x1000 * f) 0, 32, 0⟩
/-- F+0x050 bits [31:0] of PFIL_SYNC_CNT (R148): R141. -/
def PFIL_SYNC_CNT_COUNT (f : Nat) : Fld := ⟨key 4 (0x1050 + 0x1000 * f) 0, 32, 0⟩
/-- F+0x054 bits [31:0] of PFIL_FRAMES (R148): Main-stream frames produced. -/
def PFIL_FRAMES_COUNT (f : Nat) : Fld := ⟨key 4 (0x1054 + 0x1000 * f) 0, 32, 0⟩
/-- F+0x058 bits [0] of PFIL_SYNC (R148): Request SYNC. -/
def PFIL_SYNC_GO (f : Nat) : Fld := ⟨key 4 (0x1058 + 0x1000 * f) 0, 1, 0⟩
/-- G+0x00 bits [0] of PFIL_LPL_CTRL (R149): Region enabled. -/
def PFIL_LPL_CTRL_EN (f l : Nat) : Fld := ⟨key 4 (0x1100 + 0x1000 * f + 0x20 * l) 0, 1, 0⟩
/-- G+0x00 bits [3:1] of PFIL_LPL_CTRL (R149): Stair stages 0–5. -/
def PFIL_LPL_CTRL_K (f l : Nat) : Fld := ⟨key 4 (0x1100 + 0x1000 * f + 0x20 * l) 1, 3, 0⟩
/-- G+0x04 bits [16:0] of PFIL_LPL_START (R149): First position. -/
def PFIL_LPL_START_START (f l : Nat) : Fld := ⟨key 4 (0x1104 + 0x1000 * f + 0x20 * l) 0, 17, 0⟩
/-- G+0x08 bits [14:0] of PFIL_LPL_LEN (R149): 16–16,384. -/
def PFIL_LPL_LEN_LEN (f l : Nat) : Fld := ⟨key 4 (0x1108 + 0x1000 * f + 0x20 * l) 0, 15, 0x10⟩
/-- G+0x0C bits [23:0] of PFIL_LPL_RATE (R149): FREE rate, 0.01 Hz. -/
def PFIL_LPL_RATE_RATE (f l : Nat) : Fld := ⟨key 4 (0x110C + 0x1000 * f + 0x20 * l) 0, 24, 0x2710⟩
/-- G+0x10 bits [15:0] of PFIL_LPL_LOCK (R149): As PFIL_LOCK. -/
def PFIL_LPL_LOCK_QN (f l : Nat) : Fld := ⟨key 4 (0x1110 + 0x1000 * f + 0x20 * l) 0, 16, 1⟩
/-- G+0x10 bits [31:16] of PFIL_LPL_LOCK (R149). -/
def PFIL_LPL_LOCK_QD (f l : Nat) : Fld := ⟨key 4 (0x1110 + 0x1000 * f + 0x20 * l) 16, 16, 1⟩
/-- G+0x14 bits [0] of PFIL_LPL_STATUS (R149): Region settling. -/
def PFIL_LPL_STATUS_SETTLING (f l : Nat) : Fld := ⟨key 4 (0x1114 + 0x1000 * f + 0x20 * l) 0, 1, 0⟩
/-- G+0x14 bits [31:16] of PFIL_LPL_STATUS (R149): N_s of the region. -/
def PFIL_LPL_STATUS_N (f l : Nat) : Fld := ⟨key 4 (0x1114 + 0x1000 * f + 0x20 * l) 16, 16, 0⟩
/-- 0x0000 bits [0] of ENG_CTRL (R179): R173. -/
def ENG_CTRL_AUTO_SPAN : Fld := ⟨key 5 (0x0) 0, 1, 1⟩
/-- 0x0000 bits [31] of ENG_CTRL (R179): Clear all engine counters. -/
def ENG_CTRL_CLR_CNT : Fld := ⟨key 5 (0x0) 31, 1, 0⟩
/-- 0x0004 bits [4k+1:4k], k = 0–7 of ENG_ASSIGN0 (R179): Landing source: 0 none, 1 fibre A, 2 fibre B, 3 reserved. -/
def ENG_ASSIGN_SRC (k : Nat) : Fld := ⟨key 5 (4 + 4 * (k / 8)) (4 * (k % 8)), 2, if k < 6 then 1 else if k < 12 then 2 else 0⟩
/-- 0x000C bits [7:0] of ENG_GAUGE (R179): Gauge g, fibre A, 2–200. -/
def ENG_GAUGE_GAUGE_A : Fld := ⟨key 5 (0xC) 0, 8, 0x14⟩
/-- 0x000C bits [23:16] of ENG_GAUGE (R179): Gauge g, fibre B, 2–200. -/
def ENG_GAUGE_GAUGE_B : Fld := ⟨key 5 (0xC) 16, 8, 0x14⟩
/-- 0x0010 bits [15:0] of ENG_STATUS (R179): Bit k: DEk RUNNING. -/
def ENG_STATUS_RUNNING : Fld := ⟨key 5 (0x10) 0, 16, 0⟩
/-- 0x0010 bits [31:16] of ENG_STATUS (R179): Bit 16 + k: DEk HALTED. -/
def ENG_STATUS_HALTED : Fld := ⟨key 5 (0x10) 16, 16, 0⟩
/-- 0x0014 bits [15:0] of ENG_FLAGS (R179): Bit k: DEk trapped (R172). -/
def ENG_FLAGS_TRAP : Fld := ⟨key 5 (0x14) 0, 16, 0⟩
/-- 0x0014 bits [31:16] of ENG_FLAGS (R179): Bit 16 + k: a channel of DEk halted (R167). -/
def ENG_FLAGS_DMA_HALT : Fld := ⟨key 5 (0x14) 16, 16, 0⟩
/-- 0x0018 bits [15:0] of ENG_IRQ_EN (R179): IRQ_N on TRAP bit. -/
def ENG_IRQ_EN_TRAP : Fld := ⟨key 5 (0x18) 0, 16, 0⟩
/-- 0x0018 bits [31:16] of ENG_IRQ_EN (R179): IRQ_N on DMA_HALT bit. -/
def ENG_IRQ_EN_DMA_HALT : Fld := ⟨key 5 (0x18) 16, 16, 0⟩
/-- E+0x00 bits [0] of ENG_DEk_CTRL (R179): R153. -/
def ENG_DEk_CTRL_START (k : Nat) : Fld := ⟨key 5 (0x1000 + 0x100 * k) 0, 1, 0⟩
/-- E+0x00 bits [1] of ENG_DEk_CTRL (R179): R153. -/
def ENG_DEk_CTRL_STOP (k : Nat) : Fld := ⟨key 5 (0x1000 + 0x100 * k) 1, 1, 0⟩
/-- E+0x04 bits [1:0] of ENG_DEk_STAT (R179): 0 STOPPED, 1 RUNNING, 2 HALTED. -/
def ENG_DEk_STAT_STATE (k : Nat) : Fld := ⟨key 5 (0x1004 + 0x100 * k) 0, 2, 0⟩
/-- E+0x04 bits [2] of ENG_DEk_STAT (R179): Blocked in landing wait. -/
def ENG_DEk_STAT_LWAIT (k : Nat) : Fld := ⟨key 5 (0x1004 + 0x100 * k) 2, 1, 0⟩
/-- E+0x04 bits [3] of ENG_DEk_STAT (R179): Blocked in DMA wait. -/
def ENG_DEk_STAT_DWAIT (k : Nat) : Fld := ⟨key 5 (0x1004 + 0x100 * k) 3, 1, 0⟩
/-- E+0x04 bits [5:4] of ENG_DEk_STAT (R179): Halves held, 0–2. -/
def ENG_DEk_STAT_HELD (k : Nat) : Fld := ⟨key 5 (0x1004 + 0x100 * k) 4, 2, 0⟩
/-- E+0x04 bits [28:16] of ENG_DEk_STAT (R179): Program counter. -/
def ENG_DEk_STAT_PC (k : Nat) : Fld := ⟨key 5 (0x1004 + 0x100 * k) 16, 13, 0⟩
/-- E+0x08 bits [3:0] of ENG_DEk_TRAP (R179): R172; 0 = none. -/
def ENG_DEk_TRAP_CAUSE (k : Nat) : Fld := ⟨key 5 (0x1008 + 0x100 * k) 0, 4, 0⟩
/-- E+0x08 bits [28:16] of ENG_DEk_TRAP (R179): Address of trapping instruction. -/
def ENG_DEk_TRAP_PC (k : Nat) : Fld := ⟨key 5 (0x1008 + 0x100 * k) 16, 13, 0⟩
/-- E+0x0C bits [15:0] of ENG_DEk_TRAP_ADDR (R179): Halfword address, or lp for LANDING. -/
def ENG_DEk_TRAP_ADDR_ADDR (k : Nat) : Fld := ⟨key 5 (0x100C + 0x100 * k) 0, 16, 0⟩
/-- E+0x0C bits [17:16] of ENG_DEk_TRAP_ADDR (R179): 0 X, 1 Y, 2 instruction, 3 landing. -/
def ENG_DEk_TRAP_ADDR_MEM (k : Nat) : Fld := ⟨key 5 (0x100C + 0x100 * k) 16, 2, 0⟩
/-- E+0x10 bits [16:0] of ENG_DEk_SPAN_LO (R179): First output position of span. -/
def ENG_DEk_SPAN_LO_FIRST (k : Nat) : Fld := ⟨key 5 (0x1010 + 0x100 * k) 0, 17, 0⟩
/-- E+0x14 bits [16:0] of ENG_DEk_SPAN_HI (R179): Last output position of span. -/
def ENG_DEk_SPAN_HI_LAST (k : Nat) : Fld := ⟨key 5 (0x1014 + 0x100 * k) 0, 17, 0⟩
/-- E+0x18 bits [0] of ENG_DEk_DMA0 (R179): Channel 0 transferring. -/
def ENG_DEk_DMA0_BUSY (k : Nat) : Fld := ⟨key 5 (0x1018 + 0x100 * k) 0, 1, 0⟩
/-- E+0x18 bits [1] of ENG_DEk_DMA0 (R179): Last transfer complete. -/
def ENG_DEk_DMA0_DONE (k : Nat) : Fld := ⟨key 5 (0x1018 + 0x100 * k) 1, 1, 0⟩
/-- E+0x18 bits [2] of ENG_DEk_DMA0 (R179): Channel halted. -/
def ENG_DEk_DMA0_HALT (k : Nat) : Fld := ⟨key 5 (0x1018 + 0x100 * k) 2, 1, 0⟩
/-- E+0x18 bits [6:4] of ENG_DEk_DMA0 (R179): R167. -/
def ENG_DEk_DMA0_HCAUSE (k : Nat) : Fld := ⟨key 5 (0x1018 + 0x100 * k) 4, 3, 0⟩
/-- E+0x1C bits [6:0] of ENG_DEk_DMA1 (R179): Channel 1, fields as ENG_DEk_DMA0. -/
def ENG_DEk_DMA1_BUSY (k : Nat) : Fld := ⟨key 5 (0x101C + 0x100 * k) 0, 1, 0⟩
/-- E+0x1C bits [6:0] of ENG_DEk_DMA1 (R179): Channel 1, fields as ENG_DEk_DMA0. -/
def ENG_DEk_DMA1_DONE (k : Nat) : Fld := ⟨key 5 (0x101C + 0x100 * k) 1, 1, 0⟩
/-- E+0x1C bits [6:0] of ENG_DEk_DMA1 (R179): Channel 1, fields as ENG_DEk_DMA0. -/
def ENG_DEk_DMA1_HALT (k : Nat) : Fld := ⟨key 5 (0x101C + 0x100 * k) 2, 1, 0⟩
/-- E+0x1C bits [6:0] of ENG_DEk_DMA1 (R179): Channel 1, fields as ENG_DEk_DMA0. -/
def ENG_DEk_DMA1_HCAUSE (k : Nat) : Fld := ⟨key 5 (0x101C + 0x100 * k) 4, 3, 0⟩
/-- E+0x20 bits [31:0] of ENG_DEk_ALARMS (R179): R171. -/
def ENG_DEk_ALARMS_COUNT (k : Nat) : Fld := ⟨key 5 (0x1020 + 0x100 * k) 0, 32, 0⟩
/-- E+0x24 bits [31:0] of ENG_DEk_ASTALL (R179): R171, clk_fab cycles. -/
def ENG_DEk_ASTALL_COUNT (k : Nat) : Fld := ⟨key 5 (0x1024 + 0x100 * k) 0, 32, 0⟩
/-- E+0x28 bits [31:0] of ENG_DEk_QREPS (R179): R170. -/
def ENG_DEk_QREPS_COUNT (k : Nat) : Fld := ⟨key 5 (0x1028 + 0x100 * k) 0, 32, 0⟩
/-- 0x0000 bits [0] of BRIL_STATUS (R212): R211. -/
def BRIL_STATUS_DUMP_PEND : Fld := ⟨key 6 (0x0) 0, 1, 0⟩
/-- 0x0000 bits [1] of BRIL_STATUS (R212): R211. -/
def BRIL_STATUS_DUMP_DONE : Fld := ⟨key 6 (0x0) 1, 1, 0⟩
/-- 0x0000 bits [2] of BRIL_STATUS (R212): Snapshot buffer owned by BRIL. -/
def BRIL_STATUS_SNAP_OWN : Fld := ⟨key 6 (0x0) 2, 1, 0⟩
/-- F+0x000 bits [0] of BRIL_CTRL (R212): Accumulation enabled (R196, R197). -/
def BRIL_CTRL_EN (f : Nat) : Fld := ⟨key 6 (0x1000 + 0x1000 * f) 0, 1, 0⟩
/-- F+0x000 bits [1] of BRIL_CTRL (R212): 0 = TEMP, 1 = SHIFT (R208). -/
def BRIL_CTRL_FORMAT (f : Nat) : Fld := ⟨key 6 (0x1000 + 0x1000 * f) 1, 1, 0⟩
/-- F+0x000 bits [3:2] of BRIL_CTRL (R212): 0–2 (R207); 3 reserved. -/
def BRIL_CTRL_COILS (f : Nat) : Fld := ⟨key 6 (0x1000 + 0x1000 * f) 2, 2, 0⟩
/-- F+0x000 bits [31] of BRIL_CTRL (R212): Clear counters of this fibre. -/
def BRIL_CTRL_CLR_CNT (f : Nat) : Fld := ⟨key 6 (0x1000 + 0x1000 * f) 31, 1, 0⟩
/-- F+0x004 bits [31:0] of BRIL_ACC (R212): ACC, reference cycles (R198). -/
def BRIL_ACC_CYCLES (f : Nat) : Fld := ⟨key 6 (0x1004 + 0x1000 * f) 0, 32, 0x2710⟩
/-- F+0x008 bits [31:0] of BRIL_ACC_OFS (R212): OFS (R197). -/
def BRIL_ACC_OFS_CYCLES (f : Nat) : Fld := ⟨key 6 (0x1008 + 0x1000 * f) 0, 32, 0⟩
/-- F+0x00C bits [31:12] of BRIL_ACC_BASE_LO (R212): Bank base [31:12]. -/
def BRIL_ACC_BASE_LO_ADDR (f : Nat) : Fld := ⟨key 6 (0x100C + 0x1000 * f) 12, 20, 0⟩
/-- F+0x010 bits [7:0] of BRIL_ACC_BASE_HI (R212): [39:32]. -/
def BRIL_ACC_BASE_HI_ADDR (f : Nat) : Fld := ⟨key 6 (0x1010 + 0x1000 * f) 0, 8, 0⟩
/-- F+0x014 bits [31:12] of BRIL_RES_BASE_LO (R212): Result area [31:12]. -/
def BRIL_RES_BASE_LO_ADDR (f : Nat) : Fld := ⟨key 6 (0x1014 + 0x1000 * f) 12, 20, 0⟩
/-- F+0x018 bits [7:0] of BRIL_RES_BASE_HI (R212): [39:32]. -/
def BRIL_RES_BASE_HI_ADDR (f : Nat) : Fld := ⟨key 6 (0x1018 + 0x1000 * f) 0, 8, 0⟩
/-- F+0x01C bits [31:0] of BRIL_ACC_REQ (R212): R194. -/
def BRIL_ACC_REQ_KIB (f : Nat) : Fld := ⟨key 6 (0x101C + 0x1000 * f) 0, 32, 0⟩
/-- F+0x020 bits [31:0] of BRIL_RES_REQ (R212): R202. -/
def BRIL_RES_REQ_KIB (f : Nat) : Fld := ⟨key 6 (0x1020 + 0x1000 * f) 0, 32, 0⟩
/-- F+0x024 bits [6:0] of BRIL_RT3_LIM (R212): R200, 1–90. -/
def BRIL_RT3_LIM_PCT (f : Nat) : Fld := ⟨key 6 (0x1024 + 0x1000 * f) 0, 7, 0x3c⟩
/-- F+0x028 bits [31:0] of BRIL_LOAD (R212): R200. -/
def BRIL_LOAD_MBS (f : Nat) : Fld := ⟨key 6 (0x1028 + 0x1000 * f) 0, 32, 0⟩
/-- F+0x02C bits [3:0] of BRIL_FIT_ENG (R212): R201. -/
def BRIL_FIT_ENG_ENG (f : Nat) : Fld := ⟨key 6 (0x102C + 0x1000 * f) 0, 4, 0xC + f⟩
/-- F+0x030 + 4k bits [14:0] of BRIL_COILk_POS (R212): Coil k = 0–1, first temperature position. -/
def BRIL_COILk_POS_FIRST (f k : Nat) : Fld := ⟨key 6 (0x1030 + 0x1000 * f + 0x4 * k) 0, 15, 0⟩
/-- F+0x030 + 4k bits [30:16] of BRIL_COILk_POS (R212): Last temperature position. -/
def BRIL_COILk_POS_LAST (f k : Nat) : Fld := ⟨key 6 (0x1030 + 0x1000 * f + 0x4 * k) 16, 15, 0⟩
/-- F+0x038 + 4k bits [23:0] of BRIL_COILk_T (R212): Signed, 0.001 °C. -/
def BRIL_COILk_T_TEMP (f k : Nat) : Fld := ⟨key 6 (0x1038 + 0x1000 * f + 0x4 * k) 0, 24, 0⟩
/-- F+0x038 + 4k bits [31] of BRIL_COILk_T (R212): Temperature valid. -/
def BRIL_COILk_T_VALID (f k : Nat) : Fld := ⟨key 6 (0x1038 + 0x1000 * f + 0x4 * k) 31, 1, 0⟩
/-- F+0x040 bits [0] of BRIL_STAT (R212): An interval is accumulating. -/
def BRIL_STAT_OPEN (f : Nat) : Fld := ⟨key 6 (0x1040 + 0x1000 * f) 0, 1, 0⟩
/-- F+0x040 bits [1] of BRIL_STAT (R212): Bank accumulating. -/
def BRIL_STAT_BANK (f : Nat) : Fld := ⟨key 6 (0x1040 + 0x1000 * f) 1, 1, 0⟩
/-- F+0x040 bits [2] of BRIL_STAT (R212): Other bank held by the fit engine. -/
def BRIL_STAT_HELD (f : Nat) : Fld := ⟨key 6 (0x1040 + 0x1000 * f) 2, 1, 0⟩
/-- F+0x044 bits [0] of BRIL_FLAGS (R212): R204. -/
def BRIL_FLAGS_LATE_FIT (f : Nat) : Fld := ⟨key 6 (0x1044 + 0x1000 * f) 0, 1, 0⟩
/-- F+0x044 bits [1] of BRIL_FLAGS (R212): R207, any frame. -/
def BRIL_FLAGS_REF_STALE (f : Nat) : Fld := ⟨key 6 (0x1044 + 0x1000 * f) 1, 1, 0⟩
/-- F+0x044 bits [2] of BRIL_FLAGS (R212): R195, any position. -/
def BRIL_FLAGS_SAT (f : Nat) : Fld := ⟨key 6 (0x1044 + 0x1000 * f) 2, 1, 0⟩
/-- F+0x044 bits [3] of BRIL_FLAGS (R212): R198. -/
def BRIL_FLAGS_SHORT (f : Nat) : Fld := ⟨key 6 (0x1044 + 0x1000 * f) 3, 1, 0⟩
/-- F+0x048 bits [31:0] of BRIL_FRAMES (R212): Frames produced. -/
def BRIL_FRAMES_COUNT (f : Nat) : Fld := ⟨key 6 (0x1048 + 0x1000 * f) 0, 32, 0⟩
/-- F+0x04C bits [31:0] of BRIL_LOST (R212): R204. -/
def BRIL_LOST_COUNT (f : Nat) : Fld := ⟨key 6 (0x104C + 0x1000 * f) 0, 32, 0⟩
/-- F+0x050 bits [31:0] of BRIL_CAPT_DISC (R212): R204. -/
def BRIL_CAPT_DISC_COUNT (f : Nat) : Fld := ⟨key 6 (0x1050 + 0x1000 * f) 0, 32, 0⟩
/-- F+0x054 bits [31:0] of BRIL_CAPT_LAST (R212): Captures in the last closed interval. -/
def BRIL_CAPT_LAST_COUNT (f : Nat) : Fld := ⟨key 6 (0x1054 + 0x1000 * f) 0, 32, 0⟩
/-- 0x0000 bits [1:0] of LW_STATUS (R230): 0 idle, 1 running, 2 frozen, 3 complete. -/
def LW_STATUS_CAP_STATE : Fld := ⟨key 7 (0x0) 0, 2, 0⟩
/-- 0x0000 bits [2] of LW_STATUS (R230): R229. -/
def LW_STATUS_CAP_DONE : Fld := ⟨key 7 (0x0) 2, 1, 0⟩
/-- 0x0000 bits [3] of LW_STATUS (R230): Snapshot buffer owned by a capture. -/
def LW_STATUS_SNAP_OWN : Fld := ⟨key 7 (0x0) 3, 1, 0⟩
/-- 0x0004 bits [0] of LW_ALARM (R230): R225. -/
def LW_ALARM_LATCH_A : Fld := ⟨key 7 (0x4) 0, 1, 0⟩
/-- 0x0004 bits [1] of LW_ALARM (R230): R225. -/
def LW_ALARM_LATCH_B : Fld := ⟨key 7 (0x4) 1, 1, 0⟩
/-- 0x0004 bits [2] of LW_ALARM (R230): 0 = LATCHED, 1 = PULSE. -/
def LW_ALARM_MODE : Fld := ⟨key 7 (0x4) 2, 1, 0⟩
/-- 0x0004 bits [3] of LW_ALARM (R230): R225. -/
def LW_ALARM_REFFAIL_EN : Fld := ⟨key 7 (0x4) 3, 1, 0⟩
/-- 0x0004 bits [31:8] of LW_ALARM (R230): Pulse time, 100 ns, ≥ 1. -/
def LW_ALARM_PULSE_W : Fld := ⟨key 7 (0x4) 8, 24, 0x2710⟩
/-- 0x0008 bits [0] of LW_IRQ_EN (R230): IRQ_N on each fibre A event. -/
def LW_IRQ_EN_EVT_A : Fld := ⟨key 7 (0x8) 0, 1, 0⟩
/-- 0x0008 bits [1] of LW_IRQ_EN (R230): IRQ_N on each fibre B event. -/
def LW_IRQ_EN_EVT_B : Fld := ⟨key 7 (0x8) 1, 1, 0⟩
/-- 0x0008 bits [2] of LW_IRQ_EN (R230): IRQ_N on LW_FLAGS.LOST. -/
def LW_IRQ_EN_LOST : Fld := ⟨key 7 (0x8) 2, 1, 0⟩
/-- 0x0008 bits [3] of LW_IRQ_EN (R230): IRQ_N on MASK_STOPPED. -/
def LW_IRQ_EN_MASK_STOP : Fld := ⟨key 7 (0x8) 3, 1, 0⟩
/-- 0x0008 bits [4] of LW_IRQ_EN (R230): IRQ_N on CAP_DONE. -/
def LW_IRQ_EN_CAP_DONE : Fld := ⟨key 7 (0x8) 4, 1, 0⟩
/-- 0x0010 bits [0] of LW_CAP_CTRL (R230): Capture enabled (R227). -/
def LW_CAP_CTRL_EN : Fld := ⟨key 7 (0x10) 0, 1, 0⟩
/-- 0x0010 bits [1] of LW_CAP_CTRL (R230): 0 = A, 1 = B. -/
def LW_CAP_CTRL_FIBRE : Fld := ⟨key 7 (0x10) 1, 1, 0⟩
/-- 0x0010 bits [2] of LW_CAP_CTRL (R230): 0 = SINGLE, 1 = RING. -/
def LW_CAP_CTRL_MODE : Fld := ⟨key 7 (0x10) 2, 1, 0⟩
/-- 0x0010 bits [3] of LW_CAP_CTRL (R230): R229. -/
def LW_CAP_CTRL_SLOT_SEL : Fld := ⟨key 7 (0x10) 3, 1, 0⟩
/-- 0x0010 bits [6:4] of LW_CAP_CTRL (R230): Slot 0–7. -/
def LW_CAP_CTRL_SLOT : Fld := ⟨key 7 (0x10) 4, 3, 0⟩
/-- 0x0010 bits [11:8] of LW_CAP_CTRL (R230): 0–8. -/
def LW_CAP_CTRL_RED : Fld := ⟨key 7 (0x10) 8, 4, 0⟩
/-- 0x0014 bits [17:0] of LW_CAP_START (R230): First envelope position. -/
def LW_CAP_START_START : Fld := ⟨key 7 (0x14) 0, 18, 0⟩
/-- 0x0018 bits [17:0] of LW_CAP_NPTS (R230): Points per record, ≥ 1. -/
def LW_CAP_NPTS_NPTS : Fld := ⟨key 7 (0x18) 0, 18, 0x400⟩
/-- 0x001C bits [7:0] of LW_CAP_SHOTS (R230): Records, 1–255. -/
def LW_CAP_SHOTS_NSHOT : Fld := ⟨key 7 (0x1C) 0, 8, 1⟩
/-- 0x001C bits [15:8] of LW_CAP_SHOTS (R230): R229. -/
def LW_CAP_SHOTS_POST : Fld := ⟨key 7 (0x1C) 8, 8, 0⟩
/-- 0x0020 bits [7:0] of LW_CAP_STAT (R230): Records written. -/
def LW_CAP_STAT_RECS : Fld := ⟨key 7 (0x20) 0, 8, 0⟩
/-- 0x0020 bits [15:8] of LW_CAP_STAT (R230): R229. -/
def LW_CAP_STAT_TRIG_REC : Fld := ⟨key 7 (0x20) 8, 8, 0⟩
/-- F+0x000 bits [0] of LW_CTRL (R230): Loss watch enabled. -/
def LW_CTRL_EN (f : Nat) : Fld := ⟨key 7 (0x1000 + 0x1000 * f) 0, 1, 0⟩
/-- F+0x000 bits [31] of LW_CTRL (R230): Clear counters of this fibre. -/
def LW_CTRL_CLR_CNT (f : Nat) : Fld := ⟨key 7 (0x1000 + 0x1000 * f) 31, 1, 0⟩
/-- F+0x004 bits [0] of LW_HOLD (R230): 0 = TIME, 1 = EVENTS (R223). -/
def LW_HOLD_MODE (f : Nat) : Fld := ⟨key 7 (0x1004 + 0x1000 * f) 0, 1, 0⟩
/-- F+0x004 bits [31:8] of LW_HOLD (R230): R223. -/
def LW_HOLD_COUNT (f : Nat) : Fld := ⟨key 7 (0x1004 + 0x1000 * f) 8, 24, 0⟩
/-- F+0x008 bits [0] of LW_MASK_CTRL (R230): R219. -/
def LW_MASK_CTRL_EN (f : Nat) : Fld := ⟨key 7 (0x1008 + 0x1000 * f) 0, 1, 0⟩
/-- F+0x008 bits [1] of LW_MASK_CTRL (R230): R219. -/
def LW_MASK_CTRL_STOP (f : Nat) : Fld := ⟨key 7 (0x1008 + 0x1000 * f) 1, 1, 0⟩
/-- F+0x008 bits [2] of LW_MASK_CTRL (R230): Condition 32 sets the alarm latch. -/
def LW_MASK_CTRL_ALM (f : Nat) : Fld := ⟨key 7 (0x1008 + 0x1000 * f) 2, 1, 0⟩
/-- F+0x008 bits [3] of LW_MASK_CTRL (R230): Condition 32 queues a packet. -/
def LW_MASK_CTRL_PKT (f : Nat) : Fld := ⟨key 7 (0x1008 + 0x1000 * f) 3, 1, 0⟩
/-- F+0x008 bits [4] of LW_MASK_CTRL (R230): Condition 32 freezes a RING capture. -/
def LW_MASK_CTRL_FRZ (f : Nat) : Fld := ⟨key 7 (0x1008 + 0x1000 * f) 4, 1, 0⟩
/-- F+0x008 bits [10:8] of LW_MASK_CTRL (R230): 0–4. -/
def LW_MASK_CTRL_MS (f : Nat) : Fld := ⟨key 7 (0x1008 + 0x1000 * f) 8, 3, 0⟩
/-- F+0x008 bits [15:12] of LW_MASK_CTRL (R230): 0–8. -/
def LW_MASK_CTRL_MSHIFT (f : Nat) : Fld := ⟨key 7 (0x1008 + 0x1000 * f) 12, 4, 0⟩
/-- F+0x008 bits [30:16] of LW_MASK_CTRL (R230): 1–16,384. -/
def LW_MASK_CTRL_MLEN (f : Nat) : Fld := ⟨key 7 (0x1008 + 0x1000 * f) 16, 15, 0x4000⟩
/-- F+0x00C bits [15:0] of LW_MASK_LEARN (R230): R221. -/
def LW_MASK_LEARN_NL (f : Nat) : Fld := ⟨key 7 (0x100C + 0x1000 * f) 0, 16, 0x100⟩
/-- F+0x00C bits [23:16] of LW_MASK_LEARN (R230): R221. -/
def LW_MASK_LEARN_MARGIN (f : Nat) : Fld := ⟨key 7 (0x100C + 0x1000 * f) 16, 8, 0x20⟩
/-- F+0x010 bits [0] of LW_FSTAT (R230): R220. -/
def LW_FSTAT_MASK_VALID (f : Nat) : Fld := ⟨key 7 (0x1010 + 0x1000 * f) 0, 1, 0⟩
/-- F+0x010 bits [1] of LW_FSTAT (R230): R219. -/
def LW_FSTAT_MASK_STOPPED (f : Nat) : Fld := ⟨key 7 (0x1010 + 0x1000 * f) 1, 1, 0⟩
/-- F+0x010 bits [2] of LW_FSTAT (R230): R221. -/
def LW_FSTAT_LEARNING (f : Nat) : Fld := ⟨key 7 (0x1010 + 0x1000 * f) 2, 1, 0⟩
/-- F+0x010 bits [3] of LW_FSTAT (R230): Hold-off running. -/
def LW_FSTAT_HOLDOFF (f : Nat) : Fld := ⟨key 7 (0x1010 + 0x1000 * f) 3, 1, 0⟩
/-- F+0x014 bits [31:0] of LW_EVT_COUNT (R230): Events raised. -/
def LW_EVT_COUNT_COUNT (f : Nat) : Fld := ⟨key 7 (0x1014 + 0x1000 * f) 0, 32, 0⟩
/-- F+0x018 bits [31:0] of LW_HOLD_SUPP (R230): R223. -/
def LW_HOLD_SUPP_COUNT (f : Nat) : Fld := ⟨key 7 (0x1018 + 0x1000 * f) 0, 32, 0⟩
/-- F+0x01C bits [31:0] of LW_EVT_LOST (R230): R224. -/
def LW_EVT_LOST_COUNT (f : Nat) : Fld := ⟨key 7 (0x101C + 0x1000 * f) 0, 32, 0⟩
/-- F+0x020 bits [31:0] of LW_MASK_VIOL (R230): R219. -/
def LW_MASK_VIOL_COUNT (f : Nat) : Fld := ⟨key 7 (0x1020 + 0x1000 * f) 0, 32, 0⟩
/-- F+0x024 bits [31:0] of LW_SKIP (R230): R216. -/
def LW_SKIP_COUNT (f : Nat) : Fld := ⟨key 7 (0x1024 + 0x1000 * f) 0, 32, 0⟩
/-- F+0x028 bits [0] of LW_FLAGS (R230): An event was raised. -/
def LW_FLAGS_EVT (f : Nat) : Fld := ⟨key 7 (0x1028 + 0x1000 * f) 0, 1, 0⟩
/-- F+0x028 bits [1] of LW_FLAGS (R230): R224. -/
def LW_FLAGS_LOST (f : Nat) : Fld := ⟨key 7 (0x1028 + 0x1000 * f) 1, 1, 0⟩
/-- F+0x028 bits [2] of LW_FLAGS (R230): MASK_STOPPED was set. -/
def LW_FLAGS_MASK_STOP (f : Nat) : Fld := ⟨key 7 (0x1028 + 0x1000 * f) 2, 1, 0⟩
/-- F+0x02C bits [31:0] of LW_TRG_STATE (R230): Bit n: trigger n TRIPPED. -/
def LW_TRG_STATE_TRIPPED (f : Nat) : Fld := ⟨key 7 (0x102C + 0x1000 * f) 0, 32, 0⟩
/-- F+0x030 bits [31:0] of LW_LAST_CAUSE (R230): Cause bits 0–31 of the last event. -/
def LW_LAST_CAUSE_CAUSE (f : Nat) : Fld := ⟨key 7 (0x1030 + 0x1000 * f) 0, 32, 0⟩
/-- F+0x034 bits [0] of LW_LAST_INFO (R230): Cause bit 32. -/
def LW_LAST_INFO_MASK (f : Nat) : Fld := ⟨key 7 (0x1034 + 0x1000 * f) 0, 1, 0⟩
/-- F+0x034 bits [13:8] of LW_LAST_INFO (R230): 0–32. -/
def LW_LAST_INFO_PRIMARY (f : Nat) : Fld := ⟨key 7 (0x1034 + 0x1000 * f) 8, 6, 0⟩
/-- F+0x038 bits [17:0] of LW_LAST_POS (R230): Envelope position. -/
def LW_LAST_POS_E (f : Nat) : Fld := ⟨key 7 (0x1038 + 0x1000 * f) 0, 18, 0⟩
/-- F+0x03C bits [23:0] of LW_LAST_VALUE (R230): Value of the primary condition. -/
def LW_LAST_VALUE_V (f : Nat) : Fld := ⟨key 7 (0x103C + 0x1000 * f) 0, 24, 0⟩
/-- F+0x040 bits [31:0] of LW_LAST_LFRAC (R230): Launch phase, fraction. -/
def LW_LAST_LFRAC_FRAC (f : Nat) : Fld := ⟨key 7 (0x1040 + 0x1000 * f) 0, 32, 0⟩
/-- F+0x044 bits [31:0] of LW_LAST_LCYC (R230): Launch phase, cycles. -/
def LW_LAST_LCYC_CYCLES (f : Nat) : Fld := ⟨key 7 (0x1044 + 0x1000 * f) 0, 32, 0⟩
/-- G+0x0 bits [0] of LW_TRGn_CTRL (R230): Trigger enabled. -/
def LW_TRGn_CTRL_EN (f n : Nat) : Fld := ⟨key 7 (0x1100 + 0x1000 * f + 0x10 * n) 0, 1, 0⟩
/-- G+0x0 bits [1] of LW_TRGn_CTRL (R230): 0 = FALL, 1 = RISE. -/
def LW_TRGn_CTRL_DIR (f n : Nat) : Fld := ⟨key 7 (0x1100 + 0x1000 * f + 0x10 * n) 1, 1, 0⟩
/-- G+0x0 bits [2] of LW_TRGn_CTRL (R230): Sets the alarm latch. -/
def LW_TRGn_CTRL_ALM (f n : Nat) : Fld := ⟨key 7 (0x1100 + 0x1000 * f + 0x10 * n) 2, 1, 0⟩
/-- G+0x0 bits [3] of LW_TRGn_CTRL (R230): Queues a packet. -/
def LW_TRGn_CTRL_PKT (f n : Nat) : Fld := ⟨key 7 (0x1100 + 0x1000 * f + 0x10 * n) 3, 1, 0⟩
/-- G+0x0 bits [4] of LW_TRGn_CTRL (R230): Freezes a RING capture. -/
def LW_TRGn_CTRL_FRZ (f n : Nat) : Fld := ⟨key 7 (0x1100 + 0x1000 * f + 0x10 * n) 4, 1, 0⟩
/-- G+0x0 bits [11:8] of LW_TRGn_CTRL (R230): Window − 1, 0–15. -/
def LW_TRGn_CTRL_WIDTH_M1 (f n : Nat) : Fld := ⟨key 7 (0x1100 + 0x1000 * f + 0x10 * n) 8, 4, 0⟩
/-- G+0x4 bits [17:0] of LW_TRGn_POS (R230): First envelope position. -/
def LW_TRGn_POS_POS (f n : Nat) : Fld := ⟨key 7 (0x1104 + 0x1000 * f + 0x10 * n) 0, 18, 0⟩
/-- G+0x8 bits [23:0] of LW_TRGn_LEVEL (R230): R217. -/
def LW_TRGn_LEVEL_LEVEL (f n : Nat) : Fld := ⟨key 7 (0x1108 + 0x1000 * f + 0x10 * n) 0, 24, 0⟩
/-- G+0xC bits [23:0] of LW_TRGn_HYST (R230): R217. -/
def LW_TRGn_HYST_HYST (f n : Nat) : Fld := ⟨key 7 (0x110C + 0x1000 * f + 0x10 * n) 0, 24, 0⟩
/-- 0x0000 bits [0] of OUT_CTRL (R255): R254, DE14. -/
def OUT_CTRL_USER_EN14 : Fld := ⟨key 8 (0x0) 0, 1, 0⟩
/-- 0x0000 bits [1] of OUT_CTRL (R255): R254, DE15. -/
def OUT_CTRL_USER_EN15 : Fld := ⟨key 8 (0x0) 1, 1, 0⟩
/-- 0x0000 bits [31] of OUT_CTRL (R255): Clear OUT counters. -/
def OUT_CTRL_CLR_CNT : Fld := ⟨key 8 (0x0) 31, 1, 0⟩
/-- 0x0004 bits [0] of OUT_STATUS (R255): Holding area set up (R249). -/
def OUT_STATUS_HOLD_VALID : Fld := ⟨key 8 (0x4) 0, 1, 0⟩
/-- 0x0004 bits [1] of OUT_STATUS (R255): A host lane group is active. -/
def OUT_STATUS_HOST_ACTIVE : Fld := ⟨key 8 (0x4) 1, 1, 0⟩
/-- 0x0004 bits [2] of OUT_STATUS (R255): Encoder waiting (R250). -/
def OUT_STATUS_STALL : Fld := ⟨key 8 (0x4) 2, 1, 0⟩
/-- 0x0004 bits [3] of OUT_STATUS (R255): Snapshot read in progress. -/
def OUT_STATUS_SNAP_RD : Fld := ⟨key 8 (0x4) 3, 1, 0⟩
/-- 0x0004 bits [4] of OUT_STATUS (R255): Polling of the DE14 user area stopped (R512). -/
def OUT_STATUS_USER_HALT14 : Fld := ⟨key 8 (0x4) 4, 1, 0⟩
/-- 0x0004 bits [5] of OUT_STATUS (R255): Polling of the DE15 user area stopped (R512). -/
def OUT_STATUS_USER_HALT15 : Fld := ⟨key 8 (0x4) 5, 1, 0⟩
/-- 0x0008 bits [17:0] of OUT_STREAM_EN_A (R255): Bit i: fibre A stream index i (R233). -/
def OUT_STREAM_EN_A_EN : Fld := ⟨key 8 (0x8) 0, 18, 0⟩
/-- 0x000C bits [17:0] of OUT_STREAM_EN_B (R255): Bit i: fibre B stream index i. -/
def OUT_STREAM_EN_B_EN : Fld := ⟨key 8 (0xC) 0, 18, 0⟩
/-- 0x0010 bits [1:0] of OUT_CMP_CFG_A (R255): CMP of the main stream. -/
def OUT_CMP_CFG_A_MAIN : Fld := ⟨key 8 (0x10) 0, 2, 0⟩
/-- 0x0010 bits [3:2] of OUT_CMP_CFG_A (R255): CMP of every loupe stream. -/
def OUT_CMP_CFG_A_LOUPE : Fld := ⟨key 8 (0x10) 2, 2, 0⟩
/-- 0x0010 bits [5:4] of OUT_CMP_CFG_A (R255): CMP of the temperature stream. -/
def OUT_CMP_CFG_A_TEMP : Fld := ⟨key 8 (0x10) 4, 2, 0⟩
/-- 0x0010 bits [31:16] of OUT_CMP_CFG_A (R255): R245; 0 = never. -/
def OUT_CMP_CFG_A_REFRESH : Fld := ⟨key 8 (0x10) 16, 16, 0⟩
/-- 0x0014 bits [31:0] of OUT_CMP_CFG_B (R255): Fibre B, fields as OUT_CMP_CFG_A. -/
def OUT_CMP_CFG_B_MAIN : Fld := ⟨key 8 (0x14) 0, 2, 0⟩
/-- 0x0014 bits [31:0] of OUT_CMP_CFG_B (R255): Fibre B, fields as OUT_CMP_CFG_A. -/
def OUT_CMP_CFG_B_LOUPE : Fld := ⟨key 8 (0x14) 2, 2, 0⟩
/-- 0x0014 bits [31:0] of OUT_CMP_CFG_B (R255): Fibre B, fields as OUT_CMP_CFG_A. -/
def OUT_CMP_CFG_B_TEMP : Fld := ⟨key 8 (0x14) 4, 2, 0⟩
/-- 0x0014 bits [31:0] of OUT_CMP_CFG_B (R255): Fibre B, fields as OUT_CMP_CFG_A. -/
def OUT_CMP_CFG_B_REFRESH : Fld := ⟨key 8 (0x14) 16, 16, 0⟩
/-- 0x0018 bits [31:12] of OUT_HOLD_BASE_LO (R255): Holding area [31:12]. -/
def OUT_HOLD_BASE_LO_ADDR : Fld := ⟨key 8 (0x18) 12, 20, 0⟩
/-- 0x001C bits [7:0] of OUT_HOLD_BASE_HI (R255): [39:32]. -/
def OUT_HOLD_BASE_HI_ADDR : Fld := ⟨key 8 (0x1C) 0, 8, 0⟩
/-- 0x0020 bits [31:0] of OUT_HOLD_REQ (R255): 3,328 KiB. -/
def OUT_HOLD_REQ_KIB : Fld := ⟨key 8 (0x20) 0, 32, 0xd00⟩
/-- 0x0024 bits [31:0] of OUT_DROP_COUNT (R255): R250. -/
def OUT_DROP_COUNT_COUNT : Fld := ⟨key 8 (0x24) 0, 32, 0⟩
/-- 0x0028 bits [31:0] of OUT_STALL_CYC (R255): R250, clk_fab cycles. -/
def OUT_STALL_CYC_COUNT : Fld := ⟨key 8 (0x28) 0, 32, 0⟩
/-- 0x002C bits [31:0] of OUT_ALARM_SENT (R255): Class A packets sent. -/
def OUT_ALARM_SENT_COUNT : Fld := ⟨key 8 (0x2C) 0, 32, 0⟩
/-- 0x0030 bits [31:0] of OUT_ALARM_DISC (R255): R239. -/
def OUT_ALARM_DISC_COUNT : Fld := ⟨key 8 (0x30) 0, 32, 0⟩
/-- 0x0034 bits [31:0] of OUT_ASEQ (R255): Next ASEQ (R238). -/
def OUT_ASEQ_NEXT : Fld := ⟨key 8 (0x34) 0, 32, 0⟩
/-- 0x0038 bits [0] of OUT_FLAGS (R255): R250. -/
def OUT_FLAGS_DROP : Fld := ⟨key 8 (0x38) 0, 1, 0⟩
/-- 0x0038 bits [1] of OUT_FLAGS (R255): R239. -/
def OUT_FLAGS_ALARM_DISC : Fld := ⟨key 8 (0x38) 1, 1, 0⟩
/-- 0x0038 bits [2] of OUT_FLAGS (R255): Alarm queue was full. -/
def OUT_FLAGS_ALARM_FULL : Fld := ⟨key 8 (0x38) 2, 1, 0⟩
/-- 0x0038 bits [3] of OUT_FLAGS (R255): A user record was in error (R512). -/
def OUT_FLAGS_USER_ERR : Fld := ⟨key 8 (0x38) 3, 1, 0⟩
/-- 0x003C bits [0] of OUT_IRQ_EN (R255): IRQ_N on DROP. -/
def OUT_IRQ_EN_DROP : Fld := ⟨key 8 (0x3C) 0, 1, 0⟩
/-- 0x003C bits [1] of OUT_IRQ_EN (R255): IRQ_N on ALARM_DISC. -/
def OUT_IRQ_EN_ALARM_DISC : Fld := ⟨key 8 (0x3C) 1, 1, 0⟩
/-- 0x003C bits [2] of OUT_IRQ_EN (R255): IRQ_N on USER_ERR. -/
def OUT_IRQ_EN_USER_ERR : Fld := ⟨key 8 (0x3C) 2, 1, 0⟩
/-- 0x0040 bits [3:0] of OUT_AQ_LEVEL (R255): Alarm queue entries, 0–8. -/
def OUT_AQ_LEVEL_LEVEL : Fld := ⟨key 8 (0x40) 0, 4, 0⟩
/-- 0x0044 bits [18:0] of OUT_BUF_FREE (R255): Unreserved transmit buffer bytes. -/
def OUT_BUF_FREE_BYTES : Fld := ⟨key 8 (0x44) 0, 19, 0x40000⟩
/-- 0x0048 bits [31:0] of OUT_FRAMES (R255): Class S frames sent. -/
def OUT_FRAMES_COUNT : Fld := ⟨key 8 (0x48) 0, 32, 0⟩
/-- 0x0000 bits [0] of LANE_QUAD_CTRL (R282): Quad 0: 0 = 10.3125, 1 = 25.78125 Gb/s (R257). -/
def LANE_QUAD_CTRL_RATE_Q0 : Fld := ⟨key 9 (0x0) 0, 1, 0⟩
/-- 0x0000 bits [1] of LANE_QUAD_CTRL (R282): Quad 1, as RATE_Q0. -/
def LANE_QUAD_CTRL_RATE_Q1 : Fld := ⟨key 9 (0x0) 1, 1, 0⟩
/-- 0x0004 bits [0] of LANE_QUAD_STATUS (R282): Quad 0 lane PLL locked. -/
def LANE_QUAD_STATUS_PLL_LOCK_Q0 : Fld := ⟨key 9 (0x4) 0, 1, 0⟩
/-- 0x0004 bits [1] of LANE_QUAD_STATUS (R282): Quad 1 lane PLL locked. -/
def LANE_QUAD_STATUS_PLL_LOCK_Q1 : Fld := ⟨key 9 (0x4) 1, 1, 0⟩
/-- 0x0004 bits [2] of LANE_QUAD_STATUS (R282): REFCLK_LANE found valid (R513). -/
def LANE_QUAD_STATUS_REFCLK_OK : Fld := ⟨key 9 (0x4) 2, 1, 0⟩
/-- 0x000C bits [7:0] of LANE_FLAGS (R282): Bit n: lane n lost block lock (R264). -/
def LANE_FLAGS_LOL : Fld := ⟨key 9 (0xC) 0, 8, 0⟩
/-- 0x000C bits [15:8] of LANE_FLAGS (R282): Bit 8 + n: lane n training timeout (R269). -/
def LANE_FLAGS_TRAIN_FAIL : Fld := ⟨key 9 (0xC) 8, 8, 0⟩
/-- 0x000C bits [16] of LANE_FLAGS (R282): R258. -/
def LANE_FLAGS_REFCLK_BAD : Fld := ⟨key 9 (0xC) 16, 1, 0⟩
/-- 0x0010 bits [7:0] of LANE_IRQ_EN (R282): IRQ_N on LOL bit. -/
def LANE_IRQ_EN_LOL : Fld := ⟨key 9 (0x10) 0, 8, 0⟩
/-- 0x0010 bits [15:8] of LANE_IRQ_EN (R282): IRQ_N on TRAIN_FAIL bit. -/
def LANE_IRQ_EN_TRAIN_FAIL : Fld := ⟨key 9 (0x10) 8, 8, 0⟩
/-- 0x0010 bits [16] of LANE_IRQ_EN (R282): IRQ_N on REFCLK_BAD. -/
def LANE_IRQ_EN_REFCLK_BAD : Fld := ⟨key 9 (0x10) 16, 1, 0⟩
/-- L+0x00 bits [0] of LANE_CTRL (R283): Lane enabled (R260, R267). -/
def LANE_CTRL_EN (n : Nat) : Fld := ⟨key 9 (0x1000 + 0x100 * n) 0, 1, 0⟩
/-- L+0x00 bits [1] of LANE_CTRL (R283): 0 = LINK, 1 = TEST (R281). -/
def LANE_CTRL_MODE (n : Nat) : Fld := ⟨key 9 (0x1000 + 0x100 * n) 1, 1, 0⟩
/-- L+0x00 bits [2] of LANE_CTRL (R283): Invert LTX polarity. -/
def LANE_CTRL_POL_TX (n : Nat) : Fld := ⟨key 9 (0x1000 + 0x100 * n) 2, 1, 0⟩
/-- L+0x00 bits [3] of LANE_CTRL (R283): Invert LRX polarity. -/
def LANE_CTRL_POL_RX (n : Nat) : Fld := ⟨key 9 (0x1000 + 0x100 * n) 3, 1, 0⟩
/-- L+0x00 bits [4] of LANE_CTRL (R283): R275. -/
def LANE_CTRL_EQ_AUTO (n : Nat) : Fld := ⟨key 9 (0x1000 + 0x100 * n) 4, 1, 1⟩
/-- L+0x00 bits [5] of LANE_CTRL (R283): R267. -/
def LANE_CTRL_RETRAIN (n : Nat) : Fld := ⟨key 9 (0x1000 + 0x100 * n) 5, 1, 0⟩
/-- L+0x00 bits [31] of LANE_CTRL (R283): Clear counters of this lane. -/
def LANE_CTRL_CLR_CNT (n : Nat) : Fld := ⟨key 9 (0x1000 + 0x100 * n) 31, 1, 0⟩
/-- L+0x04 bits [3:0] of LANE_STATUS (R283): R267. -/
def LANE_STATUS_STATE (n : Nat) : Fld := ⟨key 9 (0x1004 + 0x100 * n) 0, 4, 0⟩
/-- L+0x04 bits [4] of LANE_STATUS (R283): R268. -/
def LANE_STATUS_TERM_DET (n : Nat) : Fld := ⟨key 9 (0x1004 + 0x100 * n) 4, 1, 0⟩
/-- L+0x04 bits [5] of LANE_STATUS (R283): R269. -/
def LANE_STATUS_BIT_LOCK (n : Nat) : Fld := ⟨key 9 (0x1004 + 0x100 * n) 5, 1, 0⟩
/-- L+0x04 bits [6] of LANE_STATUS (R283): R263. -/
def LANE_STATUS_BLK_LOCK (n : Nat) : Fld := ⟨key 9 (0x1004 + 0x100 * n) 6, 1, 0⟩
/-- L+0x04 bits [7] of LANE_STATUS (R283): RDY of last training block received. -/
def LANE_STATUS_FAR_RDY (n : Nat) : Fld := ⟨key 9 (0x1004 + 0x100 * n) 7, 1, 0⟩
/-- L+0x04 bits [8] of LANE_STATUS (R283): R273. -/
def LANE_STATUS_TX_IDLE (n : Nat) : Fld := ⟨key 9 (0x1004 + 0x100 * n) 8, 1, 0⟩
/-- L+0x04 bits [9] of LANE_STATUS (R283): R273. -/
def LANE_STATUS_RX_IDLE (n : Nat) : Fld := ⟨key 9 (0x1004 + 0x100 * n) 9, 1, 0⟩
/-- L+0x04 bits [19:16] of LANE_STATUS (R283): CTLE setting in use, dB. -/
def LANE_STATUS_CTLE_ACT (n : Nat) : Fld := ⟨key 9 (0x1004 + 0x100 * n) 16, 4, 0⟩
/-- L+0x04 bits [27:24] of LANE_STATUS (R283): R266. -/
def LANE_STATUS_FAR_LANE (n : Nat) : Fld := ⟨key 9 (0x1004 + 0x100 * n) 24, 4, 0⟩
/-- L+0x08 bits [3:0] of LANE_TX (R283): R276. -/
def LANE_TX_SWING (n : Nat) : Fld := ⟨key 9 (0x1008 + 0x100 * n) 0, 4, 0xc⟩
/-- L+0x08 bits [6:4] of LANE_TX (R283): R276. -/
def LANE_TX_PRE (n : Nat) : Fld := ⟨key 9 (0x1008 + 0x100 * n) 4, 3, 0⟩
/-- L+0x08 bits [11:8] of LANE_TX (R283): R276. -/
def LANE_TX_POST (n : Nat) : Fld := ⟨key 9 (0x1008 + 0x100 * n) 8, 4, 4⟩
/-- L+0x0C bits [3:0] of LANE_RXEQ (R283): Manual peaking, dB. -/
def LANE_RXEQ_CTLE (n : Nat) : Fld := ⟨key 9 (0x100C + 0x100 * n) 0, 4, 6⟩
/-- L+0x0C bits [11:8] of LANE_RXEQ (R283): Adaptation lower limit. -/
def LANE_RXEQ_CTLE_MIN (n : Nat) : Fld := ⟨key 9 (0x100C + 0x100 * n) 8, 4, 0⟩
/-- L+0x0C bits [15:12] of LANE_RXEQ (R283): Adaptation upper limit. -/
def LANE_RXEQ_CTLE_MAX (n : Nat) : Fld := ⟨key 9 (0x100C + 0x100 * n) 12, 4, 0xf⟩
/-- L+0x10 bits [7:0] of LANE_TIMING (R283): Detect interval, 0.1 ms, ≥ 1. -/
def LANE_TIMING_DET_INT (n : Nat) : Fld := ⟨key 9 (0x1010 + 0x100 * n) 0, 8, 0xa⟩
/-- L+0x10 bits [15:8] of LANE_TIMING (R283): Training timeout, ms, ≥ 1. -/
def LANE_TIMING_TRAIN_TMO (n : Nat) : Fld := ⟨key 9 (0x1010 + 0x100 * n) 8, 8, 0xa⟩
/-- L+0x10 bits [21:16] of LANE_TIMING (R283): Burst = 16 × BURST16 blocks, 16–63. -/
def LANE_TIMING_BURST16 (n : Nat) : Fld := ⟨key 9 (0x1010 + 0x100 * n) 16, 6, 0x10⟩
/-- L+0x14 bits [1:0] of LANE_TEST (R283): 0 off, 1 PRBS7, 2 PRBS15, 3 PRBS31. -/
def LANE_TEST_PRBS_TX (n : Nat) : Fld := ⟨key 9 (0x1014 + 0x100 * n) 0, 2, 0⟩
/-- L+0x14 bits [3:2] of LANE_TEST (R283): As PRBS_TX. -/
def LANE_TEST_PRBS_RX (n : Nat) : Fld := ⟨key 9 (0x1014 + 0x100 * n) 2, 2, 0⟩
/-- L+0x14 bits [6:4] of LANE_TEST (R283): R280; 4–7 reserved. -/
def LANE_TEST_LOOP (n : Nat) : Fld := ⟨key 9 (0x1014 + 0x100 * n) 4, 3, 0⟩
/-- L+0x14 bits [7] of LANE_TEST (R283): R279. -/
def LANE_TEST_INJ (n : Nat) : Fld := ⟨key 9 (0x1014 + 0x100 * n) 7, 1, 0⟩
/-- L+0x14 bits [12:8] of LANE_TEST (R283): R279. -/
def LANE_TEST_INJ_RATE (n : Nat) : Fld := ⟨key 9 (0x1014 + 0x100 * n) 8, 5, 0⟩
/-- L+0x18 bits [0] of LANE_PRBS_STAT (R283): R278. -/
def LANE_PRBS_STAT_PRBS_LOCK (n : Nat) : Fld := ⟨key 9 (0x1018 + 0x100 * n) 0, 1, 0⟩
/-- L+0x1C bits [31:0] of LANE_PRBS_ERR (R283): R278. -/
def LANE_PRBS_ERR_COUNT (n : Nat) : Fld := ⟨key 9 (0x101C + 0x100 * n) 0, 32, 0⟩
/-- L+0x20 bits [31:0] of LANE_PRBS_BITS (R283): Compared bits / 65,536. -/
def LANE_PRBS_BITS_COUNT (n : Nat) : Fld := ⟨key 9 (0x1020 + 0x100 * n) 0, 32, 0⟩
/-- L+0x24 bits [0] of LANE_ES_CTRL (R283): R277. -/
def LANE_ES_CTRL_START (n : Nat) : Fld := ⟨key 9 (0x1024 + 0x100 * n) 0, 1, 0⟩
/-- L+0x24 bits [6:1] of LANE_ES_CTRL (R283): 10–40. -/
def LANE_ES_CTRL_DWELL (n : Nat) : Fld := ⟨key 9 (0x1024 + 0x100 * n) 1, 6, 0x14⟩
/-- L+0x24 bits [14:8] of LANE_ES_CTRL (R283): Signed, −63 to +63. -/
def LANE_ES_CTRL_VOFS (n : Nat) : Fld := ⟨key 9 (0x1024 + 0x100 * n) 8, 7, 0⟩
/-- L+0x24 bits [22:16] of LANE_ES_CTRL (R283): Signed, −32 to +32. -/
def LANE_ES_CTRL_HOFS (n : Nat) : Fld := ⟨key 9 (0x1024 + 0x100 * n) 16, 7, 0⟩
/-- L+0x24 bits [31] of LANE_ES_CTRL (R283): R277. -/
def LANE_ES_CTRL_ABORT (n : Nat) : Fld := ⟨key 9 (0x1024 + 0x100 * n) 31, 1, 0⟩
/-- L+0x28 bits [0] of LANE_ES_STAT (R283): Scan running. -/
def LANE_ES_STAT_BUSY (n : Nat) : Fld := ⟨key 9 (0x1028 + 0x100 * n) 0, 1, 0⟩
/-- L+0x28 bits [1] of LANE_ES_STAT (R283): Scan complete. -/
def LANE_ES_STAT_DONE (n : Nat) : Fld := ⟨key 9 (0x1028 + 0x100 * n) 1, 1, 0⟩
/-- L+0x28 bits [2] of LANE_ES_STAT (R283): Scan ended early. -/
def LANE_ES_STAT_ABORTED (n : Nat) : Fld := ⟨key 9 (0x1028 + 0x100 * n) 2, 1, 0⟩
/-- L+0x2C bits [31:0] of LANE_ES_ERR (R283): Disagreements of the last scan; cleared at START. -/
def LANE_ES_ERR_COUNT (n : Nat) : Fld := ⟨key 9 (0x102C + 0x100 * n) 0, 32, 0⟩
/-- L+0x30 bits [31:0] of LANE_BAD_SH (R283): R262. -/
def LANE_BAD_SH_COUNT (n : Nat) : Fld := ⟨key 9 (0x1030 + 0x100 * n) 0, 32, 0⟩
/-- L+0x34 bits [31:0] of LANE_ERR_BLK (R283): R262. -/
def LANE_ERR_BLK_COUNT (n : Nat) : Fld := ⟨key 9 (0x1034 + 0x100 * n) 0, 32, 0⟩
/-- L+0x38 bits [31:0] of LANE_LOL_CNT (R283): R264. -/
def LANE_LOL_CNT_COUNT (n : Nat) : Fld := ⟨key 9 (0x1038 + 0x100 * n) 0, 32, 0⟩
/-- L+0x3C bits [31:0] of LANE_TRAIN_FAIL (R283): R269. -/
def LANE_TRAIN_FAIL_COUNT (n : Nat) : Fld := ⟨key 9 (0x103C + 0x100 * n) 0, 32, 0⟩
/-- L+0x40 bits [31:0] of LANE_EXIT_FAIL (R283): R274. -/
def LANE_EXIT_FAIL_COUNT (n : Nat) : Fld := ⟨key 9 (0x1040 + 0x100 * n) 0, 32, 0⟩
/-- 0x0000 bits [31] of LINK_CTRL (R312): Clear all LINK counters. -/
def LINK_CTRL_CLR_CNT : Fld := ⟨key 10 (0x0) 31, 1, 0⟩
/-- 0x0004 bits [1:0] of LINK_ID (R312): 0 standalone, 1 manager, 2 worker (R284). -/
def LINK_ID_MODE : Fld := ⟨key 10 (0x4) 0, 2, 0⟩
/-- 0x0004 bits [7:4] of LINK_ID (R312): Device ID. -/
def LINK_ID_DEV_ID : Fld := ⟨key 10 (0x4) 4, 4, 0⟩
/-- 0x0008 bits [2:0] of LINK_HOPS (R312): Hop count; 0 on a manager. -/
def LINK_HOPS_HOPS : Fld := ⟨key 10 (0x8) 0, 3, 0⟩
/-- 0x000C bits [15:0] of LINK_TIMING (R312): Timing set interval, µs, 10–10,000. -/
def LINK_TIMING_TB_INT : Fld := ⟨key 10 (0xC) 0, 16, 0x64⟩
/-- 0x000C bits [31:16] of LINK_TIMING (R312): Echo interval, µs, 100–60,000. -/
def LINK_TIMING_ECHO_INT : Fld := ⟨key 10 (0xC) 16, 16, 0x3e8⟩
/-- 0x0010 bits [7:0] of LINK_REPLAY (R312): R298, µs, ≥ 2. -/
def LINK_REPLAY_REPLAY_TMO : Fld := ⟨key 10 (0x10) 0, 8, 0x14⟩
/-- 0x0014 bits [31:0] of LINK_ASYM (R312): Signed asymmetry, ps (R306). -/
def LINK_ASYM_PS : Fld := ⟨key 10 (0x14) 0, 32, 0⟩
/-- 0x0018 bits [15:0] of LINK_RTT_JUMP (R312): R306. -/
def LINK_RTT_JUMP_PS : Fld := ⟨key 10 (0x18) 0, 16, 0xc8⟩
/-- 0x001C bits [31:0] of LINK_RTT (R312): Mean RTT. -/
def LINK_RTT_PS : Fld := ⟨key 10 (0x1C) 0, 32, 0⟩
/-- 0x0020 bits [31:0] of LINK_DELAY (R312): d of R306. -/
def LINK_DELAY_PS : Fld := ⟨key 10 (0x20) 0, 32, 0⟩
/-- 0x0024 bits [0] of LINK_FLAGS (R312): R292. -/
def LINK_FLAGS_CAP_MISMATCH : Fld := ⟨key 10 (0x24) 0, 1, 0⟩
/-- 0x0024 bits [1] of LINK_FLAGS (R312): R306. -/
def LINK_FLAGS_RTT_JUMP : Fld := ⟨key 10 (0x24) 1, 1, 0⟩
/-- 0x0024 bits [2] of LINK_FLAGS (R312): R307. -/
def LINK_FLAGS_EPOCH_CHANGE : Fld := ⟨key 10 (0x24) 2, 1, 0⟩
/-- 0x0024 bits [3] of LINK_FLAGS (R312): R309. -/
def LINK_FLAGS_START_LATE : Fld := ⟨key 10 (0x24) 3, 1, 0⟩
/-- 0x0024 bits [4] of LINK_FLAGS (R312): A group returned to BRINGUP. -/
def LINK_FLAGS_GROUP_DOWN : Fld := ⟨key 10 (0x24) 4, 1, 0⟩
/-- 0x0028 bits [4:0] of LINK_IRQ_EN (R312): IRQ_N on the matching LINK_FLAGS bit. -/
def LINK_IRQ_EN_FLAGS : Fld := ⟨key 10 (0x28) 0, 5, 0⟩
/-- 0x002C bits [31:0] of LINK_UNREACH (R312): R302. -/
def LINK_UNREACH_COUNT : Fld := ⟨key 10 (0x2C) 0, 32, 0⟩
/-- 0x0030 bits [31:0] of LINK_ECHO_LOST (R312): R306. -/
def LINK_ECHO_LOST_COUNT : Fld := ⟨key 10 (0x30) 0, 32, 0⟩
/-- 0x0034 bits [31:0] of LINK_ECHO_OUTLIER (R312): R306. -/
def LINK_ECHO_OUTLIER_COUNT : Fld := ⟨key 10 (0x34) 0, 32, 0⟩
/-- 0x0038 bits [31:0] of LINK_START_LATE (R312): R309. -/
def LINK_START_LATE_COUNT : Fld := ⟨key 10 (0x38) 0, 32, 0⟩
/-- 0x003C bits [31:0] of LINK_FWD_DROP (R312): R310. -/
def LINK_FWD_DROP_COUNT : Fld := ⟨key 10 (0x3C) 0, 32, 0⟩
/-- 0x0040 bits [31:0] of LINK_UNK_CB (R312): R290. -/
def LINK_UNK_CB_COUNT : Fld := ⟨key 10 (0x40) 0, 32, 0⟩
/-- G+0x00 bits [0] of LINK_GRPn_CTRL (R313): R286. -/
def LINK_GRPn_CTRL_EN (n : Nat) : Fld := ⟨key 10 (0x1000 + 0x100 * n) 0, 1, 0⟩
/-- G+0x00 bits [2:1] of LINK_GRPn_CTRL (R313): 0 = 1, 1 = 2, 2 = 4 lanes. -/
def LINK_GRPn_CTRL_WIDTH (n : Nat) : Fld := ⟨key 10 (0x1000 + 0x100 * n) 1, 2, 0⟩
/-- G+0x00 bits [5:4] of LINK_GRPn_CTRL (R313): 0 HOST, 1 DOWN, 2 UP. -/
def LINK_GRPn_CTRL_ROLE (n : Nat) : Fld := ⟨key 10 (0x1000 + 0x100 * n) 4, 2, 0⟩
/-- G+0x00 bits [6] of LINK_GRPn_CTRL (R313): R311. -/
def LINK_GRPn_CTRL_LOOP (n : Nat) : Fld := ⟨key 10 (0x1000 + 0x100 * n) 6, 1, 0⟩
/-- G+0x04 bits [1:0] of LINK_GRPn_STATUS (R313): 0 OFF, 1 BRINGUP, 2 ACTIVE, 3 DEGRADED. -/
def LINK_GRPn_STATUS_STATE (n : Nat) : Fld := ⟨key 10 (0x1004 + 0x100 * n) 0, 2, 0⟩
/-- G+0x04 bits [7:4] of LINK_GRPn_STATUS (R313): Active set. -/
def LINK_GRPn_STATUS_MASK (n : Nat) : Fld := ⟨key 10 (0x1004 + 0x100 * n) 4, 4, 0⟩
/-- G+0x04 bits [11:8] of LINK_GRPn_STATUS (R313): Far DEV_ID. -/
def LINK_GRPn_STATUS_FAR_ID (n : Nat) : Fld := ⟨key 10 (0x1004 + 0x100 * n) 8, 4, 0⟩
/-- G+0x04 bits [14:12] of LINK_GRPn_STATUS (R313): HOPS received. -/
def LINK_GRPn_STATUS_FAR_HOPS (n : Nat) : Fld := ⟨key 10 (0x1004 + 0x100 * n) 12, 3, 0⟩
/-- G+0x04 bits [19:16] of LINK_GRPn_STATUS (R313): Timing lane (R305). -/
def LINK_GRPn_STATUS_TLANE (n : Nat) : Fld := ⟨key 10 (0x1004 + 0x100 * n) 16, 4, 0⟩
/-- G+0x08 bits [15:0] of LINK_GRPn_ROUTE (R313): R301. -/
def LINK_GRPn_ROUTE_MASK (n : Nat) : Fld := ⟨key 10 (0x1008 + 0x100 * n) 0, 16, 0⟩
/-- G+0x0C bits [31:0] of LINK_GRPn_FARCAP0 (R313): Failing CAP block, payload [31:0]. -/
def LINK_GRPn_FARCAP0_BLK_LO (n : Nat) : Fld := ⟨key 10 (0x100C + 0x100 * n) 0, 32, 0⟩
/-- G+0x10 bits [31:0] of LINK_GRPn_FARCAP1 (R313): Payload [63:32]. -/
def LINK_GRPn_FARCAP1_BLK_HI (n : Nat) : Fld := ⟨key 10 (0x1010 + 0x100 * n) 0, 32, 0⟩
/-- G+0x14 bits [31:0] of LINK_GRPn_REPLAYS (R313): R300. -/
def LINK_GRPn_REPLAYS_COUNT (n : Nat) : Fld := ⟨key 10 (0x1014 + 0x100 * n) 0, 32, 0⟩
/-- G+0x18 bits [31:0] of LINK_GRPn_CRC_ERR (R313): Packets discarded under R288 and R289. -/
def LINK_GRPn_CRC_ERR_COUNT (n : Nat) : Fld := ⟨key 10 (0x1018 + 0x100 * n) 0, 32, 0⟩
/-- G+0x1C bits [31:0] of LINK_GRPn_RESTRIPE (R313): RESTRIPE AMs sent or applied. -/
def LINK_GRPn_RESTRIPE_COUNT (n : Nat) : Fld := ⟨key 10 (0x101C + 0x100 * n) 0, 32, 0⟩
/-- G+0x20 bits [31:0] of LINK_GRPn_PKT_LOST (R313): R295. -/
def LINK_GRPn_PKT_LOST_COUNT (n : Nat) : Fld := ⟨key 10 (0x1020 + 0x100 * n) 0, 32, 0⟩
/-- G+0x24 bits [31:0] of LINK_GRPn_PKTS_TX (R313): Packets sent, resends excluded. -/
def LINK_GRPn_PKTS_TX_COUNT (n : Nat) : Fld := ⟨key 10 (0x1024 + 0x100 * n) 0, 32, 0⟩
/-- G+0x28 bits [31:0] of LINK_GRPn_PKTS_RX (R313): Packets accepted. -/
def LINK_GRPn_PKTS_RX_COUNT (n : Nat) : Fld := ⟨key 10 (0x1028 + 0x100 * n) 0, 32, 0⟩
/-- 0x0000 bits [31] of CMD_CTRL (R339): Clear CMD counters. -/
def CMD_CTRL_CLR_CNT : Fld := ⟨key 11 (0x0) 31, 1, 0⟩
/-- 0x0004 bits [4:0] of CMD_STATUS (R339): Occupied queue entries, 0–16. -/
def CMD_STATUS_LEVEL : Fld := ⟨key 11 (0x4) 0, 5, 0⟩
/-- 0x0004 bits [5] of CMD_STATUS (R339): A command is executing. -/
def CMD_STATUS_EXEC : Fld := ⟨key 11 (0x4) 5, 1, 0⟩
/-- 0x0004 bits [12:8] of CMD_STATUS (R339): Replies in the SPI reply buffer. -/
def CMD_STATUS_SPI_RPLY : Fld := ⟨key 11 (0x4) 8, 5, 0⟩
/-- 0x0008 bits [15:0] of CMD_TMO (R339): R325, ms, 1–60,000. -/
def CMD_TMO_MS : Fld := ⟨key 11 (0x8) 0, 16, 0x64⟩
/-- 0x000C bits [0] of CMD_FLAGS (R339): A BUSY reply was sent. -/
def CMD_FLAGS_BUSY : Fld := ⟨key 11 (0xC) 0, 1, 0⟩
/-- 0x000C bits [1] of CMD_FLAGS (R339): A BAD_CRC reply was sent. -/
def CMD_FLAGS_BAD_CRC : Fld := ⟨key 11 (0xC) 1, 1, 0⟩
/-- 0x000C bits [2] of CMD_FLAGS (R339): A TIMEOUT reply was sent. -/
def CMD_FLAGS_TIMEOUT : Fld := ⟨key 11 (0xC) 2, 1, 0⟩
/-- 0x000C bits [3] of CMD_FLAGS (R339): R335. -/
def CMD_FLAGS_FRAME_ERR : Fld := ⟨key 11 (0xC) 3, 1, 0⟩
/-- 0x000C bits [4] of CMD_FLAGS (R339): R334. -/
def CMD_FLAGS_SPI_BAD_OP : Fld := ⟨key 11 (0xC) 4, 1, 0⟩
/-- 0x0010 bits [4:0] of CMD_IRQ_EN (R339): IRQ_N on the matching CMD_FLAGS bit. -/
def CMD_IRQ_EN_FLAGS : Fld := ⟨key 11 (0x10) 0, 5, 0⟩
/-- 0x0014 bits [31:0] of CMD_RX_SPI (R339): Packets entered from the SPI port. -/
def CMD_RX_SPI_COUNT : Fld := ⟨key 11 (0x14) 0, 32, 0⟩
/-- 0x0018 bits [31:0] of CMD_RX_INBAND (R339): Packets entered in-band. -/
def CMD_RX_INBAND_COUNT : Fld := ⟨key 11 (0x18) 0, 32, 0⟩
/-- 0x001C bits [31:0] of CMD_BUSY_CNT (R339): BUSY replies. -/
def CMD_BUSY_CNT_COUNT : Fld := ⟨key 11 (0x1C) 0, 32, 0⟩
/-- 0x0020 bits [31:0] of CMD_CRC_ERR (R339): BAD_CRC replies. -/
def CMD_CRC_ERR_COUNT : Fld := ⟨key 11 (0x20) 0, 32, 0⟩
/-- 0x0024 bits [31:0] of CMD_TMO_CNT (R339): TIMEOUT replies. -/
def CMD_TMO_CNT_COUNT : Fld := ⟨key 11 (0x24) 0, 32, 0⟩
/-- 0x0028 bits [31:0] of CMD_FRAME_ERR (R339): R335. -/
def CMD_FRAME_ERR_COUNT : Fld := ⟨key 11 (0x28) 0, 32, 0⟩
/-- 0x002C bits [7:0] of CMD_LAST (R339): Last reply sent. -/
def CMD_LAST_OPCODE : Fld := ⟨key 11 (0x2C) 0, 8, 0⟩
/-- 0x002C bits [15:8] of CMD_LAST (R339). -/
def CMD_LAST_STATUS : Fld := ⟨key 11 (0x2C) 8, 8, 0⟩
/-- 0x002C bits [31:16] of CMD_LAST (R339). -/
def CMD_LAST_TAG : Fld := ⟨key 11 (0x2C) 16, 16, 0⟩
/-- 0x0000 bits [2:0] of MGMT_STATUS (R364): As STATUS D1. -/
def MGMT_STATUS_PHASE : Fld := ⟨key 20 (0x0) 0, 3, 0⟩
/-- 0x0000 bits [3] of MGMT_STATUS (R364): Running image, 0 = A. -/
def MGMT_STATUS_IMAGE : Fld := ⟨key 20 (0x0) 3, 1, 0⟩
/-- 0x0000 bits [4] of MGMT_STATUS (R364): Running image is on trial. -/
def MGMT_STATUS_TRIAL : Fld := ⟨key 20 (0x0) 4, 1, 0⟩
/-- 0x0000 bits [5] of MGMT_STATUS (R364): R350. -/
def MGMT_STATUS_CFG_BUSY : Fld := ⟨key 20 (0x0) 5, 1, 0⟩
/-- 0x0000 bits [6] of MGMT_STATUS (R364): R352. -/
def MGMT_STATUS_UPD_BUSY : Fld := ⟨key 20 (0x0) 6, 1, 0⟩
/-- 0x0000 bits [7] of MGMT_STATUS (R364): R346. -/
def MGMT_STATUS_IMG_VALID_A : Fld := ⟨key 20 (0x0) 7, 1, 0⟩
/-- 0x0000 bits [8] of MGMT_STATUS (R364): R346. -/
def MGMT_STATUS_IMG_VALID_B : Fld := ⟨key 20 (0x0) 8, 1, 0⟩
/-- 0x0000 bits [9] of MGMT_STATUS (R364): R362. -/
def MGMT_STATUS_MON_UNLOCKED : Fld := ⟨key 20 (0x0) 9, 1, 0⟩
/-- 0x0000 bits [10] of MGMT_STATUS (R364): R362. -/
def MGMT_STATUS_MON_LOCKOUT : Fld := ⟨key 20 (0x0) 10, 1, 0⟩
/-- 0x0000 bits [11] of MGMT_STATUS (R364): R358. -/
def MGMT_STATUS_LIFE_VALID : Fld := ⟨key 20 (0x0) 11, 1, 0⟩
/-- 0x0000 bits [14:12] of MGMT_STATUS (R364): Trial boots left. -/
def MGMT_STATUS_TRIES : Fld := ⟨key 20 (0x0) 12, 3, 0⟩
/-- 0x0004 bits [0] of MGMT_FLAGS (R364): R349. -/
def MGMT_FLAGS_CFG_ENTRY_ERR : Fld := ⟨key 20 (0x4) 0, 1, 0⟩
/-- 0x0004 bits [1] of MGMT_FLAGS (R364): R350. -/
def MGMT_FLAGS_CFG_COMMIT_FAIL : Fld := ⟨key 20 (0x4) 1, 1, 0⟩
/-- 0x0004 bits [2] of MGMT_FLAGS (R364): R352. -/
def MGMT_FLAGS_UPD_FAIL : Fld := ⟨key 20 (0x4) 2, 1, 0⟩
/-- 0x0004 bits [3] of MGMT_FLAGS (R364): R344, at this boot. -/
def MGMT_FLAGS_ROLLBACK : Fld := ⟨key 20 (0x4) 3, 1, 0⟩
/-- 0x0004 bits [4] of MGMT_FLAGS (R364): R358. -/
def MGMT_FLAGS_LIFE_WRITE_FAIL : Fld := ⟨key 20 (0x4) 4, 1, 0⟩
/-- 0x0004 bits [5] of MGMT_FLAGS (R364): R355. -/
def MGMT_FLAGS_LOG_OVERRUN : Fld := ⟨key 20 (0x4) 5, 1, 0⟩
/-- 0x0004 bits [6] of MGMT_FLAGS (R364): R359. -/
def MGMT_FLAGS_TJ_LIMIT : Fld := ⟨key 20 (0x4) 6, 1, 0⟩
/-- 0x0004 bits [7] of MGMT_FLAGS (R364): R359. -/
def MGMT_FLAGS_I2C_FAIL : Fld := ⟨key 20 (0x4) 7, 1, 0⟩
/-- 0x0008 bits [7:0] of MGMT_IRQ_EN (R364): IRQ_N on the matching MGMT_FLAGS bit. -/
def MGMT_IRQ_EN_FLAGS : Fld := ⟨key 20 (0x8) 0, 8, 0⟩
/-- 0x000C bits [31:0] of MGMT_FW_VERSION (R364): VERSION of the running image. -/
def MGMT_FW_VERSION_VERSION : Fld := ⟨key 20 (0xC) 0, 32, 0⟩
/-- 0x0010 bits [15:0] of MGMT_WDT (R364): Watchdog period, ms (R345). -/
def MGMT_WDT_MS : Fld := ⟨key 20 (0x10) 0, 16, 0x3e8⟩
/-- 0x0014 bits [23:0] of MGMT_FLASH_ID (R364): Manufacturer and device ID. -/
def MGMT_FLASH_ID_JEDEC_ID : Fld := ⟨key 20 (0x14) 0, 24, 0⟩
/-- 0x0018 bits [31:0] of MGMT_FLASH_SIZE (R364): Density from SFDP, KiB. -/
def MGMT_FLASH_SIZE_KIB : Fld := ⟨key 20 (0x18) 0, 32, 0⟩
/-- 0x001C bits [15:0] of MGMT_TJ_LIMIT (R364): Signed, 0.1 °C. -/
def MGMT_TJ_LIMIT_LIMIT : Fld := ⟨key 20 (0x1C) 0, 16, 0x4b0⟩
/-- 0x0020 + 4i bits [15:0] of MGMT_TEMPi (R364): Die sensor i = 0–7, signed, 0.1 °C. -/
def MGMT_TEMPi_TEMP (i : Nat) : Fld := ⟨key 20 (0x20 + 0x4 * i) 0, 16, 0⟩
/-- 0x0040 + 4j bits [15:0] of MGMT_VMONj (R364): j: 0 VDD_CORE, 1 VDD_AON, 2 VDD_ANA, 3 VDDA_CV, 4 VDD_LANE 0.9 V, 5 VDD_LANE 1.2 V, 6 VDDQ DA, 7 VDDQ DB, 8 lowest VDD_IO bank, 9 highest VDD_IO bank. -/
def MGMT_VMONj_MV (j : Nat) : Fld := ⟨key 20 (0x40 + 0x4 * j) 0, 16, 0⟩
/-- 0x0068 bits [15:0] of MGMT_DRAM_TEMP (R364): Signed, 0.1 °C. -/
def MGMT_DRAM_TEMP_DA : Fld := ⟨key 20 (0x68) 0, 16, 0x8000⟩
/-- 0x0068 bits [31:16] of MGMT_DRAM_TEMP (R364): Signed, 0.1 °C. -/
def MGMT_DRAM_TEMP_DB : Fld := ⟨key 20 (0x68) 16, 16, 0x8000⟩
/-- 0x006C bits [31:0] of MGMT_LOG_SEQ (R364): Next LSEQ. -/
def MGMT_LOG_SEQ_NEXT : Fld := ⟨key 20 (0x6C) 0, 32, 0⟩
/-- 0x0070 bits [0] of MGMT_LOG_CTRL (R364): R355. -/
def MGMT_LOG_CTRL_STREAM_EN : Fld := ⟨key 20 (0x70) 0, 1, 0⟩
/-- 0x0070 bits [6:4] of MGMT_LOG_CTRL (R364): Severity. -/
def MGMT_LOG_CTRL_STREAM_MIN : Fld := ⟨key 20 (0x70) 4, 3, 3⟩
/-- 0x0070 bits [10:8] of MGMT_LOG_CTRL (R364): Severity; set from the configuration. -/
def MGMT_LOG_CTRL_PERSIST : Fld := ⟨key 20 (0x70) 8, 3, 0⟩
/-- 0x0074 bits [31:0] of MGMT_MON_FAIL (R364): R362. -/
def MGMT_MON_FAIL_COUNT : Fld := ⟨key 20 (0x74) 0, 32, 0⟩
/-- 0x0000 bits [0] of DRAMC_STATUS (R384): DA installed (R368). -/
def DRAMC_STATUS_READY_DA : Fld := ⟨key 12 (0x0) 0, 1, 0⟩
/-- 0x0000 bits [1] of DRAMC_STATUS (R384): DB installed. -/
def DRAMC_STATUS_READY_DB : Fld := ⟨key 12 (0x0) 1, 1, 0⟩
/-- 0x0000 bits [2] of DRAMC_STATUS (R384): R375. -/
def DRAMC_STATUS_HOT_DA : Fld := ⟨key 12 (0x0) 2, 1, 0⟩
/-- 0x0000 bits [3] of DRAMC_STATUS (R384): R375. -/
def DRAMC_STATUS_HOT_DB : Fld := ⟨key 12 (0x0) 3, 1, 0⟩
/-- 0x0004 bits [0] of DRAMC_FLAGS (R384): R378. -/
def DRAMC_FLAGS_CE_DA : Fld := ⟨key 12 (0x4) 0, 1, 0⟩
/-- 0x0004 bits [1] of DRAMC_FLAGS (R384): R380. -/
def DRAMC_FLAGS_UE_DA : Fld := ⟨key 12 (0x4) 1, 1, 0⟩
/-- 0x0004 bits [2] of DRAMC_FLAGS (R384): R378. -/
def DRAMC_FLAGS_CE_DB : Fld := ⟨key 12 (0x4) 2, 1, 0⟩
/-- 0x0004 bits [3] of DRAMC_FLAGS (R384): R380. -/
def DRAMC_FLAGS_UE_DB : Fld := ⟨key 12 (0x4) 3, 1, 0⟩
/-- 0x0004 bits [4] of DRAMC_FLAGS (R384): R376. -/
def DRAMC_FLAGS_TEMP_STALE_DA : Fld := ⟨key 12 (0x4) 4, 1, 0⟩
/-- 0x0004 bits [5] of DRAMC_FLAGS (R384): R376. -/
def DRAMC_FLAGS_TEMP_STALE_DB : Fld := ⟨key 12 (0x4) 5, 1, 0⟩
/-- 0x0004 bits [6] of DRAMC_FLAGS (R384): R376. -/
def DRAMC_FLAGS_OVERTEMP_DA : Fld := ⟨key 12 (0x4) 6, 1, 0⟩
/-- 0x0004 bits [7] of DRAMC_FLAGS (R384): R376. -/
def DRAMC_FLAGS_OVERTEMP_DB : Fld := ⟨key 12 (0x4) 7, 1, 0⟩
/-- 0x0004 bits [8] of DRAMC_FLAGS (R384): R382. -/
def DRAMC_FLAGS_TRAIN_FAIL_DA : Fld := ⟨key 12 (0x4) 8, 1, 0⟩
/-- 0x0004 bits [9] of DRAMC_FLAGS (R384): R382. -/
def DRAMC_FLAGS_TRAIN_FAIL_DB : Fld := ⟨key 12 (0x4) 9, 1, 0⟩
/-- 0x0008 bits [9:0] of DRAMC_IRQ_EN (R384): IRQ_N on the matching DRAMC_FLAGS bit. -/
def DRAMC_IRQ_EN_FLAGS : Fld := ⟨key 12 (0x8) 0, 10, 0⟩
/-- 0x000C bits [6:0] of DRAMC_RT_LIM (R384): R373, 1–80. -/
def DRAMC_RT_LIM_PCT : Fld := ⟨key 12 (0xC) 0, 7, 0x4b⟩
/-- C+0x00 bits [0] of DRAMC_CONFIG (R385): Channel used (R382). -/
def DRAMC_CONFIG_EN (ch : Nat) : Fld := ⟨key 12 (0x1000 + 0x1000 * ch) 0, 1, 0⟩
/-- C+0x00 bits [1] of DRAMC_CONFIG (R385): R382. -/
def DRAMC_CONFIG_SKIP_TRAIN (ch : Nat) : Fld := ⟨key 12 (0x1000 + 0x1000 * ch) 1, 1, 0⟩
/-- C+0x00 bits [2] of DRAMC_CONFIG (R385): 0 = x8, 1 = x16 (R366). -/
def DRAMC_CONFIG_WIDTH (ch : Nat) : Fld := ⟨key 12 (0x1000 + 0x1000 * ch) 2, 1, 0⟩
/-- C+0x00 bits [3] of DRAMC_CONFIG (R385): 0 = 8 Gb, 1 = 16 Gb. -/
def DRAMC_CONFIG_DENS (ch : Nat) : Fld := ⟨key 12 (0x1000 + 0x1000 * ch) 3, 1, 0⟩
/-- C+0x00 bits [4] of DRAMC_CONFIG (R385): 0 = 1, 1 = 2. -/
def DRAMC_CONFIG_RANKS (ch : Nat) : Fld := ⟨key 12 (0x1000 + 0x1000 * ch) 4, 1, 0⟩
/-- C+0x00 bits [7:5] of DRAMC_CONFIG (R385): 0–6: 1,600 to 3,200 MT/s in R366 order; 7 reserved. -/
def DRAMC_CONFIG_RATE (ch : Nat) : Fld := ⟨key 12 (0x1000 + 0x1000 * ch) 5, 3, 6⟩
/-- C+0x00 bits [20:16] of DRAMC_CONFIG (R385): Installed capacity, GiB (R368). -/
def DRAMC_CONFIG_CAP_GIB (ch : Nat) : Fld := ⟨key 12 (0x1000 + 0x1000 * ch) 16, 5, 0⟩
/-- C+0x00 bits [31] of DRAMC_CONFIG (R385): Clear counters of this channel. -/
def DRAMC_CONFIG_CLR_CNT (ch : Nat) : Fld := ⟨key 12 (0x1000 + 0x1000 * ch) 31, 1, 0⟩
/-- C+0x04 bits [0] of DRAMC_CHSTAT (R385): R368. -/
def DRAMC_CHSTAT_READY (ch : Nat) : Fld := ⟨key 12 (0x1004 + 0x1000 * ch) 0, 1, 0⟩
/-- C+0x04 bits [1] of DRAMC_CHSTAT (R385): R382 in progress. -/
def DRAMC_CHSTAT_TRAINING (ch : Nat) : Fld := ⟨key 12 (0x1004 + 0x1000 * ch) 1, 1, 0⟩
/-- C+0x04 bits [2] of DRAMC_CHSTAT (R385): R375. -/
def DRAMC_CHSTAT_HOT (ch : Nat) : Fld := ⟨key 12 (0x1004 + 0x1000 * ch) 2, 1, 0⟩
/-- C+0x04 bits [3] of DRAMC_CHSTAT (R385): R377. -/
def DRAMC_CHSTAT_SELF_REF (ch : Nat) : Fld := ⟨key 12 (0x1004 + 0x1000 * ch) 3, 1, 0⟩
/-- C+0x04 bits [7:4] of DRAMC_CHSTAT (R385): owed, rank 0. -/
def DRAMC_CHSTAT_OWED0 (ch : Nat) : Fld := ⟨key 12 (0x1004 + 0x1000 * ch) 4, 4, 0⟩
/-- C+0x04 bits [11:8] of DRAMC_CHSTAT (R385): owed, rank 1. -/
def DRAMC_CHSTAT_OWED1 (ch : Nat) : Fld := ⟨key 12 (0x1004 + 0x1000 * ch) 8, 4, 0⟩
/-- C+0x04 bits [15:12] of DRAMC_CHSTAT (R385): A in effect (R374). -/
def DRAMC_CHSTAT_ALLOW (ch : Nat) : Fld := ⟨key 12 (0x1004 + 0x1000 * ch) 12, 4, 0⟩
/-- C+0x08 bits [5:0] of DRAMC_TIM0 (R385): CAS latency, nCK. -/
def DRAMC_TIM0_CL (ch : Nat) : Fld := ⟨key 12 (0x1008 + 0x1000 * ch) 0, 6, 0x16⟩
/-- C+0x08 bits [13:8] of DRAMC_TIM0 (R385): nCK. -/
def DRAMC_TIM0_CWL (ch : Nat) : Fld := ⟨key 12 (0x1008 + 0x1000 * ch) 8, 6, 0x10⟩
/-- C+0x08 bits [21:16] of DRAMC_TIM0 (R385): nCK. -/
def DRAMC_TIM0_TRCD (ch : Nat) : Fld := ⟨key 12 (0x1008 + 0x1000 * ch) 16, 6, 0x16⟩
/-- C+0x08 bits [29:24] of DRAMC_TIM0 (R385): nCK. -/
def DRAMC_TIM0_TRP (ch : Nat) : Fld := ⟨key 12 (0x1008 + 0x1000 * ch) 24, 6, 0x16⟩
/-- C+0x0C bits [6:0] of DRAMC_TIM1 (R385): nCK. -/
def DRAMC_TIM1_TRAS (ch : Nat) : Fld := ⟨key 12 (0x100C + 0x1000 * ch) 0, 7, 0x34⟩
/-- C+0x0C bits [11:8] of DRAMC_TIM1 (R385): nCK. -/
def DRAMC_TIM1_TRRD_S (ch : Nat) : Fld := ⟨key 12 (0x100C + 0x1000 * ch) 8, 4, 4⟩
/-- C+0x0C bits [15:12] of DRAMC_TIM1 (R385): nCK. -/
def DRAMC_TIM1_TRRD_L (ch : Nat) : Fld := ⟨key 12 (0x100C + 0x1000 * ch) 12, 4, 8⟩
/-- C+0x0C bits [22:16] of DRAMC_TIM1 (R385): nCK. -/
def DRAMC_TIM1_TFAW (ch : Nat) : Fld := ⟨key 12 (0x100C + 0x1000 * ch) 16, 7, 0x22⟩
/-- C+0x0C bits [28:24] of DRAMC_TIM1 (R385): nCK. -/
def DRAMC_TIM1_TWTR_L (ch : Nat) : Fld := ⟨key 12 (0x100C + 0x1000 * ch) 24, 5, 0xc⟩
/-- C+0x10 bits [5:0] of DRAMC_TIM2 (R385): nCK. -/
def DRAMC_TIM2_TWR (ch : Nat) : Fld := ⟨key 12 (0x1010 + 0x1000 * ch) 0, 6, 0x18⟩
/-- C+0x10 bits [11:8] of DRAMC_TIM2 (R385): nCK. -/
def DRAMC_TIM2_TWTR_S (ch : Nat) : Fld := ⟨key 12 (0x1010 + 0x1000 * ch) 8, 4, 4⟩
/-- C+0x10 bits [15:12] of DRAMC_TIM2 (R385): nCK. -/
def DRAMC_TIM2_TRTP (ch : Nat) : Fld := ⟨key 12 (0x1010 + 0x1000 * ch) 12, 4, 0xc⟩
/-- C+0x10 bits [27:16] of DRAMC_TIM2 (R385): nCK (R374). -/
def DRAMC_TIM2_TRFC (ch : Nat) : Fld := ⟨key 12 (0x1010 + 0x1000 * ch) 16, 12, 0x370⟩
/-- C+0x14 bits [15:0] of DRAMC_REF (R385): 1x interval, nCK. -/
def DRAMC_REF_TREFI (ch : Nat) : Fld := ⟨key 12 (0x1014 + 0x1000 * ch) 0, 16, 0x30c0⟩
/-- C+0x14 bits [19:16] of DRAMC_REF (R385): R374, 0–8. -/
def DRAMC_REF_POSTPONE (ch : Nat) : Fld := ⟨key 12 (0x1014 + 0x1000 * ch) 16, 4, 8⟩
/-- C+0x18 bits [15:0] of DRAMC_TEMP (R385): Module reading, signed, 0.1 °C (R375). -/
def DRAMC_TEMP_TEMP (ch : Nat) : Fld := ⟨key 12 (0x1018 + 0x1000 * ch) 0, 16, 0x8000⟩
/-- C+0x1C bits [11:0] of DRAMC_IDLE (R385): R372, nCK; 0 = close page. -/
def DRAMC_IDLE_IDLE_TMO (ch : Nat) : Fld := ⟨key 12 (0x101C + 0x1000 * ch) 0, 12, 0x40⟩
/-- C+0x20 bits [11:0] of DRAMC_AGE (R385): R371, 64 nCK. -/
def DRAMC_AGE_AGE_MAX (ch : Nat) : Fld := ⟨key 12 (0x1020 + 0x1000 * ch) 0, 12, 0x40⟩
/-- C+0x24 + 4p bits [5:0] of DRAMC_PANICp (R385): Port RTp, p = 0–3, entries (R370). -/
def DRAMC_PANICp_ON (ch p : Nat) : Fld := ⟨key 12 (0x1024 + 0x1000 * ch + 0x4 * p) 0, 6, 0x30⟩
/-- C+0x24 + 4p bits [13:8] of DRAMC_PANICp (R385): Entries, below ON. -/
def DRAMC_PANICp_OFF (ch p : Nat) : Fld := ⟨key 12 (0x1024 + 0x1000 * ch + 0x4 * p) 8, 6, 0x20⟩
/-- C+0x24 + 4p bits [16] of DRAMC_PANICp (R385): Panic raised. -/
def DRAMC_PANICp_ACTIVE (ch p : Nat) : Fld := ⟨key 12 (0x1024 + 0x1000 * ch + 0x4 * p) 16, 1, 0⟩
/-- C+0x34 bits [17:0] of DRAMC_MRS (R385): Mode register value. -/
def DRAMC_MRS_VALUE (ch : Nat) : Fld := ⟨key 12 (0x1034 + 0x1000 * ch) 0, 18, 0⟩
/-- C+0x34 bits [20:18] of DRAMC_MRS (R385): Mode register 0–6. -/
def DRAMC_MRS_MR (ch : Nat) : Fld := ⟨key 12 (0x1034 + 0x1000 * ch) 18, 3, 0⟩
/-- C+0x34 bits [24] of DRAMC_MRS (R385): Target rank. -/
def DRAMC_MRS_RANK (ch : Nat) : Fld := ⟨key 12 (0x1034 + 0x1000 * ch) 24, 1, 0⟩
/-- C+0x34 bits [31] of DRAMC_MRS (R385): Issue the MRS command. -/
def DRAMC_MRS_GO (ch : Nat) : Fld := ⟨key 12 (0x1034 + 0x1000 * ch) 31, 1, 0⟩
/-- C+0x38 bits [2:0] of DRAMC_TRN_CTRL (R385): 0 off, 1 write leveling, 2 read gate, 3 MPR read, 4 write-read compare. -/
def DRAMC_TRN_CTRL_MODE (ch : Nat) : Fld := ⟨key 12 (0x1038 + 0x1000 * ch) 0, 3, 0⟩
/-- C+0x38 bits [31] of DRAMC_TRN_CTRL (R385): One training pass. -/
def DRAMC_TRN_CTRL_START (ch : Nat) : Fld := ⟨key 12 (0x1038 + 0x1000 * ch) 31, 1, 0⟩
/-- C+0x3C bits [8:0] of DRAMC_TRN_RESULT (R385): Bit b: lane b passed the last pass. -/
def DRAMC_TRN_RESULT_PASS (ch : Nat) : Fld := ⟨key 12 (0x103C + 0x1000 * ch) 0, 9, 0⟩
/-- C+0x3C bits [16] of DRAMC_TRN_RESULT (R385): Pass complete. -/
def DRAMC_TRN_RESULT_DONE (ch : Nat) : Fld := ⟨key 12 (0x103C + 0x1000 * ch) 16, 1, 0⟩
/-- C+0x40 bits [6:0] of DRAMC_VREF (R385): Receive Vref, 45 % + 0.5 % × VREF of VDDQ. -/
def DRAMC_VREF_VREF (ch : Nat) : Fld := ⟨key 12 (0x1040 + 0x1000 * ch) 0, 7, 0x32⟩
/-- C+0x44 bits [15:0] of DRAMC_ZQ (R385): ZQCS interval, ms, ≥ 1. -/
def DRAMC_ZQ_ZQ_INT (ch : Nat) : Fld := ⟨key 12 (0x1044 + 0x1000 * ch) 0, 16, 0x80⟩
/-- C+0x48 bits [31:6] of DRAMC_FILL_ADDR_LO (R385): Fill start [31:6] (R381). -/
def DRAMC_FILL_ADDR_LO_ADDR (ch : Nat) : Fld := ⟨key 12 (0x1048 + 0x1000 * ch) 6, 26, 0⟩
/-- C+0x4C bits [7:0] of DRAMC_FILL_ADDR_HI (R385): [39:32]. -/
def DRAMC_FILL_ADDR_HI_ADDR (ch : Nat) : Fld := ⟨key 12 (0x104C + 0x1000 * ch) 0, 8, 0⟩
/-- C+0x50 bits [31:0] of DRAMC_FILL_LEN (R385): 64-byte bursts. -/
def DRAMC_FILL_LEN_BURSTS (ch : Nat) : Fld := ⟨key 12 (0x1050 + 0x1000 * ch) 0, 32, 0⟩
/-- C+0x54 bits [0] of DRAMC_FILL_CTRL (R385): Start fill. -/
def DRAMC_FILL_CTRL_GO (ch : Nat) : Fld := ⟨key 12 (0x1054 + 0x1000 * ch) 0, 1, 0⟩
/-- C+0x54 bits [1] of DRAMC_FILL_CTRL (R385): Fill running. -/
def DRAMC_FILL_CTRL_BUSY (ch : Nat) : Fld := ⟨key 12 (0x1054 + 0x1000 * ch) 1, 1, 0⟩
/-- C+0x58 bits [31:0] of DRAMC_RT_LOAD (R385): R373, MB/s. -/
def DRAMC_RT_LOAD_MBS (ch : Nat) : Fld := ⟨key 12 (0x1058 + 0x1000 * ch) 0, 32, 0⟩
/-- C+0x5C bits [31:0] of DRAMC_CE_CNT (R385): R378. -/
def DRAMC_CE_CNT_COUNT (ch : Nat) : Fld := ⟨key 12 (0x105C + 0x1000 * ch) 0, 32, 0⟩
/-- C+0x60 bits [31:0] of DRAMC_UE_CNT (R385): R380. -/
def DRAMC_UE_CNT_COUNT (ch : Nat) : Fld := ⟨key 12 (0x1060 + 0x1000 * ch) 0, 32, 0⟩
/-- C+0x64 bits [31:3] of DRAMC_CE_ADDR_LO (R385): First corrected word [31:3]. -/
def DRAMC_CE_ADDR_LO_ADDR (ch : Nat) : Fld := ⟨key 12 (0x1064 + 0x1000 * ch) 3, 29, 0⟩
/-- C+0x68 bits [7:0] of DRAMC_CE_ADDR_HI (R385): [39:32]. -/
def DRAMC_CE_ADDR_HI_ADDR (ch : Nat) : Fld := ⟨key 12 (0x1068 + 0x1000 * ch) 0, 8, 0⟩
/-- C+0x6C bits [31:3] of DRAMC_UE_ADDR_LO (R385): First uncorrectable word [31:3]. -/
def DRAMC_UE_ADDR_LO_ADDR (ch : Nat) : Fld := ⟨key 12 (0x106C + 0x1000 * ch) 3, 29, 0⟩
/-- C+0x70 bits [7:0] of DRAMC_UE_ADDR_HI (R385): [39:32]. -/
def DRAMC_UE_ADDR_HI_ADDR (ch : Nat) : Fld := ⟨key 12 (0x1070 + 0x1000 * ch) 0, 8, 0⟩
/-- C+0x74 + 4p bits [31:0] of DRAMC_PANIC_CYCp (R385): R370, clk_fab cycles, p = 0–3. -/
def DRAMC_PANIC_CYCp_COUNT (ch p : Nat) : Fld := ⟨key 12 (0x1074 + 0x1000 * ch + 0x4 * p) 0, 32, 0⟩
/-- C+0x84 bits [31:0] of DRAMC_REF_FORCED (R385): Forced REF commands (R374, R375). -/
def DRAMC_REF_FORCED_COUNT (ch : Nat) : Fld := ⟨key 12 (0x1084 + 0x1000 * ch) 0, 32, 0⟩
/-- C+0x100 + 8b bits [9:0] of DRAMC_DLYb_W (R385): Write DQS delay, tCK/64. -/
def DRAMC_DLYb_W_WR_DQS (ch b : Nat) : Fld := ⟨key 12 (0x1100 + 0x1000 * ch + 0x8 * b) 0, 10, 0⟩
/-- C+0x100 + 8b bits [22:16] of DRAMC_DLYb_W (R385): Write DQ delay from DQS, tCK/64. -/
def DRAMC_DLYb_W_WR_DQ (ch b : Nat) : Fld := ⟨key 12 (0x1100 + 0x1000 * ch + 0x8 * b) 16, 7, 0⟩
/-- C+0x104 + 8b bits [9:0] of DRAMC_DLYb_R (R385): Read gate delay, tCK/64. -/
def DRAMC_DLYb_R_RD_GATE (ch b : Nat) : Fld := ⟨key 12 (0x1104 + 0x1000 * ch + 0x8 * b) 0, 10, 0⟩
/-- C+0x104 + 8b bits [22:16] of DRAMC_DLYb_R (R385): Read DQS sample delay, tCK/64. -/
def DRAMC_DLYb_R_RD_DQS (ch b : Nat) : Fld := ⟨key 12 (0x1104 + 0x1000 * ch + 0x8 * b) 16, 7, 0⟩
/-- 0x0000 bits [0] of SCRUB_CTRL (R396): R392. -/
def SCRUB_CTRL_GO : Fld := ⟨key 13 (0x0) 0, 1, 0⟩
/-- 0x0000 bits [1] of SCRUB_CTRL (R396): R392. -/
def SCRUB_CTRL_ABORT : Fld := ⟨key 13 (0x0) 1, 1, 0⟩
/-- 0x0000 bits [31] of SCRUB_CTRL (R396): Clear counters and first addresses. -/
def SCRUB_CTRL_CLR_CNT : Fld := ⟨key 13 (0x0) 31, 1, 0⟩
/-- 0x0004 bits [0] of SCRUB_STATUS (R396): Pass running. -/
def SCRUB_STATUS_BUSY : Fld := ⟨key 13 (0x4) 0, 1, 0⟩
/-- 0x0004 bits [1] of SCRUB_STATUS (R396): R393. -/
def SCRUB_STATUS_DONE : Fld := ⟨key 13 (0x4) 1, 1, 0⟩
/-- 0x0004 bits [2] of SCRUB_STATUS (R396): R392. -/
def SCRUB_STATUS_RANGE_ERR : Fld := ⟨key 13 (0x4) 2, 1, 0⟩
/-- 0x0004 bits [3] of SCRUB_STATUS (R396): Last pass ended by ABORT. -/
def SCRUB_STATUS_ABORTED : Fld := ⟨key 13 (0x4) 3, 1, 0⟩
/-- 0x0008 bits [31:3] of SCRUB_START_LO (R396): Start [31:3]. -/
def SCRUB_START_LO_ADDR : Fld := ⟨key 13 (0x8) 3, 29, 0⟩
/-- 0x000C bits [7:0] of SCRUB_START_HI (R396): [39:32]. -/
def SCRUB_START_HI_ADDR : Fld := ⟨key 13 (0xC) 0, 8, 0⟩
/-- 0x0010 bits [22:0] of SCRUB_WORDS (R396): 1–4,194,304. -/
def SCRUB_WORDS_WORDS : Fld := ⟨key 13 (0x10) 0, 23, 1⟩
/-- 0x0014 bits [7:0] of SCRUB_REPEAT_LIM (R396): R391, 1–255. -/
def SCRUB_REPEAT_LIM_LIM : Fld := ⟨key 13 (0x14) 0, 8, 4⟩
/-- 0x0018 bits [31:0] of SCRUB_SUM_READ (R396): Words read in last pass. -/
def SCRUB_SUM_READ_COUNT : Fld := ⟨key 13 (0x18) 0, 32, 0⟩
/-- 0x001C bits [31:0] of SCRUB_SUM_CE (R396): Corrected words. -/
def SCRUB_SUM_CE_COUNT : Fld := ⟨key 13 (0x1C) 0, 32, 0⟩
/-- 0x0020 bits [31:0] of SCRUB_SUM_UE (R396): Uncorrectable words. -/
def SCRUB_SUM_UE_COUNT : Fld := ⟨key 13 (0x20) 0, 32, 0⟩
/-- 0x0024 bits [31:3] of SCRUB_SUM_CE_LO (R396): First corrected [31:3]. -/
def SCRUB_SUM_CE_LO_ADDR : Fld := ⟨key 13 (0x24) 3, 29, 0⟩
/-- 0x0028 bits [7:0] of SCRUB_SUM_CE_HI (R396): [39:32]. -/
def SCRUB_SUM_CE_HI_ADDR : Fld := ⟨key 13 (0x28) 0, 8, 0⟩
/-- 0x002C bits [31:3] of SCRUB_SUM_UE_LO (R396): First uncorrectable [31:3]. -/
def SCRUB_SUM_UE_LO_ADDR : Fld := ⟨key 13 (0x2C) 3, 29, 0⟩
/-- 0x0030 bits [7:0] of SCRUB_SUM_UE_HI (R396): [39:32]. -/
def SCRUB_SUM_UE_HI_ADDR : Fld := ⟨key 13 (0x30) 0, 8, 0⟩
/-- 0x0034 bits [31:0] of SCRUB_PASS (R396): Passes started. -/
def SCRUB_PASS_COUNT : Fld := ⟨key 13 (0x34) 0, 32, 0⟩
/-- 0x0038 bits [31:0] of SCRUB_CE_CNT (R396): R386. -/
def SCRUB_CE_CNT_COUNT : Fld := ⟨key 13 (0x38) 0, 32, 0⟩
/-- 0x003C bits [31:0] of SCRUB_UE_CNT (R396): R386. -/
def SCRUB_UE_CNT_COUNT : Fld := ⟨key 13 (0x3C) 0, 32, 0⟩
/-- 0x0040 bits [31:3] of SCRUB_CE_ADDR_LO (R396): R386. -/
def SCRUB_CE_ADDR_LO_ADDR : Fld := ⟨key 13 (0x40) 3, 29, 0⟩
/-- 0x0044 bits [7:0] of SCRUB_CE_ADDR_HI (R396): [39:32]. -/
def SCRUB_CE_ADDR_HI_ADDR : Fld := ⟨key 13 (0x44) 0, 8, 0⟩
/-- 0x0044 bits [23:16] of SCRUB_CE_ADDR_HI (R396): Reader. -/
def SCRUB_CE_ADDR_HI_MASTER : Fld := ⟨key 13 (0x44) 16, 8, 0⟩
/-- 0x0048 bits [31:3] of SCRUB_UE_ADDR_LO (R396): R386. -/
def SCRUB_UE_ADDR_LO_ADDR : Fld := ⟨key 13 (0x48) 3, 29, 0⟩
/-- 0x004C bits [7:0] of SCRUB_UE_ADDR_HI (R396): [39:32]. -/
def SCRUB_UE_ADDR_HI_ADDR : Fld := ⟨key 13 (0x4C) 0, 8, 0⟩
/-- 0x004C bits [23:16] of SCRUB_UE_ADDR_HI (R396): Reader. -/
def SCRUB_UE_ADDR_HI_MASTER : Fld := ⟨key 13 (0x4C) 16, 8, 0⟩
/-- 0x0050 bits [0] of SCRUB_FLAGS (R396): A correction occurred. -/
def SCRUB_FLAGS_CE : Fld := ⟨key 13 (0x50) 0, 1, 0⟩
/-- 0x0050 bits [1] of SCRUB_FLAGS (R396): An uncorrectable read occurred. -/
def SCRUB_FLAGS_UE : Fld := ⟨key 13 (0x50) 1, 1, 0⟩
/-- 0x0050 bits [2] of SCRUB_FLAGS (R396): R391. -/
def SCRUB_FLAGS_PERSISTENT : Fld := ⟨key 13 (0x50) 2, 1, 0⟩
/-- 0x0050 bits [3] of SCRUB_FLAGS (R396): R391. -/
def SCRUB_FLAGS_RPT_OVF : Fld := ⟨key 13 (0x50) 3, 1, 0⟩
/-- 0x0054 bits [3:0] of SCRUB_IRQ_EN (R396): IRQ_N on the matching SCRUB_FLAGS bit. -/
def SCRUB_IRQ_EN_FLAGS : Fld := ⟨key 13 (0x54) 0, 4, 0⟩
/-- 0x0058 bits [31:0] of SCRUB_RPT_OVF (R396): R391. -/
def SCRUB_RPT_OVF_COUNT : Fld := ⟨key 13 (0x58) 0, 32, 0⟩
/-- 0x005C bits [1:0] of SCRUB_INJ (R396): R395; 3 reserved. -/
def SCRUB_INJ_MODE : Fld := ⟨key 13 (0x5C) 0, 2, 0⟩
/-- 0x0100 + 8i bits [31:3] of SCRUB_RPTi_LO (R396): Entry i = 0–15, word address. -/
def SCRUB_RPTi_LO_ADDR (i : Nat) : Fld := ⟨key 13 (0x100 + 0x8 * i) 3, 29, 0⟩
/-- 0x0104 + 8i bits [7:0] of SCRUB_RPTi_INFO (R396): [39:32]. -/
def SCRUB_RPTi_INFO_ADDR_HI (i : Nat) : Fld := ⟨key 13 (0x104 + 0x8 * i) 0, 8, 0⟩
/-- 0x0104 + 8i bits [23:16] of SCRUB_RPTi_INFO (R396): R391. -/
def SCRUB_RPTi_INFO_COUNT (i : Nat) : Fld := ⟨key 13 (0x104 + 0x8 * i) 16, 8, 0⟩
/-- 0x0104 + 8i bits [30] of SCRUB_RPTi_INFO (R396): Reported. -/
def SCRUB_RPTi_INFO_PERS (i : Nat) : Fld := ⟨key 13 (0x104 + 0x8 * i) 30, 1, 0⟩
/-- 0x0104 + 8i bits [31] of SCRUB_RPTi_INFO (R396): Entry in use. -/
def SCRUB_RPTi_INFO_VALID (i : Nat) : Fld := ⟨key 13 (0x104 + 0x8 * i) 31, 1, 0⟩
/-- 0x0000 bits [8:0] of TDC_STATUS (R410): Bit i: interpolator i calibrated (R406). -/
def TDC_STATUS_CAL_VALID : Fld := ⟨key 14 (0x0) 0, 9, 0⟩
/-- 0x0000 bits [24:16] of TDC_STATUS (R410): Bit 16 + i: calibration running. -/
def TDC_STATUS_CAL_BUSY : Fld := ⟨key 14 (0x0) 16, 9, 0⟩
/-- 0x0004 bits [8:0] of TDC_FLAGS (R410): R406. -/
def TDC_FLAGS_CAL_FAIL : Fld := ⟨key 14 (0x4) 0, 9, 0⟩
/-- 0x0004 bits [19:16] of TDC_FLAGS (R410): Bit 16 + n: channel n lost a record (R403). -/
def TDC_FLAGS_LOST : Fld := ⟨key 14 (0x4) 16, 4, 0⟩
/-- 0x0004 bits [27:24] of TDC_FLAGS (R410): Bit 24 + n: frequency result (R408). -/
def TDC_FLAGS_RESULT : Fld := ⟨key 14 (0x4) 24, 4, 0⟩
/-- 0x0008 bits [27:0] of TDC_IRQ_EN (R410): IRQ_N on the matching TDC_FLAGS bit. -/
def TDC_IRQ_EN_FLAGS : Fld := ⟨key 14 (0x8) 0, 28, 0⟩
/-- 0x000C bits [31:0] of TDC_NOW_LO (R410): Current time in u, bits [31:0]. -/
def TDC_NOW_LO_NOW : Fld := ⟨key 14 (0xC) 0, 32, 0⟩
/-- 0x0010 bits [31:0] of TDC_NOW_HI (R410): Bits [63:32]; latched on read of TDC_NOW_LO. -/
def TDC_NOW_HI_NOW : Fld := ⟨key 14 (0x10) 0, 32, 0⟩
/-- 0x0020 + 4i bits [15:0] of TDC_CALTEMPi (R410): Die temperature at the last calibration of interpolator i, signed, 0.1 °C. -/
def TDC_CALTEMPi_TEMP (i : Nat) : Fld := ⟨key 14 (0x20 + 0x4 * i) 0, 16, 0⟩
/-- C+0x00 bits [1:0] of TDC_CHn_CTRL (R411): 0 off, 1 STAMP, 2 FREQ; 3 reserved. -/
def TDC_CHn_CTRL_MODE (n : Nat) : Fld := ⟨key 14 (0x1000 + 0x100 * n) 0, 2, 0⟩
/-- C+0x00 bits [3:2] of TDC_CHn_CTRL (R411): 0 rising, 1 falling, 2 both; 3 reserved. -/
def TDC_CHn_CTRL_POL (n : Nat) : Fld := ⟨key 14 (0x1000 + 0x100 * n) 2, 2, 0⟩
/-- C+0x00 bits [4] of TDC_CHn_CTRL (R411): R409. -/
def TDC_CHn_CTRL_CONT (n : Nat) : Fld := ⟨key 14 (0x1000 + 0x100 * n) 4, 1, 0⟩
/-- C+0x00 bits [15:8] of TDC_CHn_CTRL (R411): Prescaler = PRESC + 1. -/
def TDC_CHn_CTRL_PRESC (n : Nat) : Fld := ⟨key 14 (0x1000 + 0x100 * n) 8, 8, 0⟩
/-- C+0x00 bits [19:16] of TDC_CHn_CTRL (R411): R402. -/
def TDC_CHn_CTRL_REF (n : Nat) : Fld := ⟨key 14 (0x1000 + 0x100 * n) 16, 4, 0xf⟩
/-- C+0x00 bits [31] of TDC_CHn_CTRL (R411): Clear counters of this channel. -/
def TDC_CHn_CTRL_CLR_CNT (n : Nat) : Fld := ⟨key 14 (0x1000 + 0x100 * n) 31, 1, 0⟩
/-- C+0x04 bits [23:0] of TDC_CHn_WIN_OPEN (R411): 1.25 ns steps. -/
def TDC_CHn_WIN_OPEN_OPEN (n : Nat) : Fld := ⟨key 14 (0x1004 + 0x100 * n) 0, 24, 0⟩
/-- C+0x08 bits [23:0] of TDC_CHn_WIN_CLOSE (R411): 1.25 ns steps, ≥ OPEN. -/
def TDC_CHn_WIN_CLOSE_CLOSE (n : Nat) : Fld := ⟨key 14 (0x1008 + 0x100 * n) 0, 24, 0xffffff⟩
/-- C+0x0C bits [23:0] of TDC_CHn_GATE (R411): Gate, µs, 10–10,000,000. -/
def TDC_CHn_GATE_US (n : Nat) : Fld := ⟨key 14 (0x100C + 0x100 * n) 0, 24, 0x3e8⟩
/-- C+0x10 bits [6:0] of TDC_CHn_STAT (R411): Records in the FIFO, 0–64. -/
def TDC_CHn_STAT_LEVEL (n : Nat) : Fld := ⟨key 14 (0x1010 + 0x100 * n) 0, 7, 0⟩
/-- C+0x10 bits [8] of TDC_CHn_STAT (R411): Gate running. -/
def TDC_CHn_STAT_GATE_BUSY (n : Nat) : Fld := ⟨key 14 (0x1010 + 0x100 * n) 8, 1, 0⟩
/-- C+0x10 bits [9] of TDC_CHn_STAT (R411): Gate start held (R409). -/
def TDC_CHn_STAT_GATE_HELD (n : Nat) : Fld := ⟨key 14 (0x1010 + 0x100 * n) 9, 1, 0⟩
/-- C+0x10 bits [10] of TDC_CHn_STAT (R411): R408. -/
def TDC_CHn_STAT_RESULT_VALID (n : Nat) : Fld := ⟨key 14 (0x1010 + 0x100 * n) 10, 1, 0⟩
/-- C+0x10 bits [11] of TDC_CHn_STAT (R411): R408. -/
def TDC_CHn_STAT_NO_EDGES (n : Nat) : Fld := ⟨key 14 (0x1010 + 0x100 * n) 11, 1, 0⟩
/-- C+0x10 bits [31:16] of TDC_CHn_STAT (R411): Owner code (R327); 0 if free. -/
def TDC_CHn_STAT_OWNER (n : Nat) : Fld := ⟨key 14 (0x1010 + 0x100 * n) 16, 16, 0⟩
/-- C+0x14 + 4w bits [31:0] of TDC_CHn_FIFOw (R411): Word w = 0–5 of the record (R403). -/
def TDC_CHn_FIFOw_WORD (n w : Nat) : Fld := ⟨key 14 (0x1014 + 0x100 * n + 0x4 * w) 0, 32, 0⟩
/-- C+0x2C bits [31:0] of TDC_CHn_PER_LO (R411): Period, 2^−24 ns, bits [31:0]. -/
def TDC_CHn_PER_LO_PER (n : Nat) : Fld := ⟨key 14 (0x102C + 0x100 * n) 0, 32, 0⟩
/-- C+0x30 bits [23:0] of TDC_CHn_PER_HI (R411): Bits [55:32]; latched on read of PER_LO. -/
def TDC_CHn_PER_HI_PER (n : Nat) : Fld := ⟨key 14 (0x1030 + 0x100 * n) 0, 24, 0⟩
/-- C+0x34 bits [31:0] of TDC_CHn_RESID (R411): rms residual, ps. -/
def TDC_CHn_RESID_PS (n : Nat) : Fld := ⟨key 14 (0x1034 + 0x100 * n) 0, 32, 0⟩
/-- C+0x38 bits [31:0] of TDC_CHn_NEDGE (R411): Edges in the last gate. -/
def TDC_CHn_NEDGE_COUNT (n : Nat) : Fld := ⟨key 14 (0x1038 + 0x100 * n) 0, 32, 0⟩
/-- C+0x3C bits [31:0] of TDC_CHn_STAMPS (R411): Stamps formed. -/
def TDC_CHn_STAMPS_COUNT (n : Nat) : Fld := ⟨key 14 (0x103C + 0x100 * n) 0, 32, 0⟩
/-- C+0x40 bits [31:0] of TDC_CHn_REJ (R411): R402. -/
def TDC_CHn_REJ_COUNT (n : Nat) : Fld := ⟨key 14 (0x1040 + 0x100 * n) 0, 32, 0⟩
/-- C+0x44 bits [31:0] of TDC_CHn_DEAD (R411): R401; both interpolators on channel 7. -/
def TDC_CHn_DEAD_COUNT (n : Nat) : Fld := ⟨key 14 (0x1044 + 0x100 * n) 0, 32, 0⟩
/-- C+0x48 bits [31:0] of TDC_CHn_LOST (R411): R403. -/
def TDC_CHn_LOST_COUNT (n : Nat) : Fld := ⟨key 14 (0x1048 + 0x100 * n) 0, 32, 0⟩
/-- 0x0000 bits [1:0] of HK_CTRL (R431): R419. -/
def HK_CTRL_MODE : Fld := ⟨key 15 (0x0) 0, 2, 0⟩
/-- 0x0000 bits [2] of HK_CTRL (R431): R415. -/
def HK_CTRL_LP : Fld := ⟨key 15 (0x0) 2, 1, 0⟩
/-- 0x0000 bits [3] of HK_CTRL (R431): SINGLE pass. -/
def HK_CTRL_START : Fld := ⟨key 15 (0x0) 3, 1, 0⟩
/-- 0x0000 bits [4] of HK_CTRL (R431): R420. -/
def HK_CTRL_INJ_LW : Fld := ⟨key 15 (0x0) 4, 1, 0⟩
/-- 0x0000 bits [5] of HK_CTRL (R431): R420. -/
def HK_CTRL_INJ_WIN : Fld := ⟨key 15 (0x0) 5, 1, 0⟩
/-- 0x0000 bits [31] of HK_CTRL (R431): Clear HK counters. -/
def HK_CTRL_CLR_CNT : Fld := ⟨key 15 (0x0) 31, 1, 0⟩
/-- 0x0004 bits [0] of HK_STATUS (R431): Pass running. -/
def HK_STATUS_REG_BUSY : Fld := ⟨key 15 (0x4) 0, 1, 0⟩
/-- 0x0004 bits [1] of HK_STATUS (R431): Injected run. -/
def HK_STATUS_INJ_BUSY : Fld := ⟨key 15 (0x4) 1, 1, 0⟩
/-- 0x0004 bits [2] of HK_STATUS (R431): R420. -/
def HK_STATUS_INJ_HELD : Fld := ⟨key 15 (0x4) 2, 1, 0⟩
/-- 0x0004 bits [7:3] of HK_STATUS (R431): Regular slot in progress. -/
def HK_STATUS_SLOT : Fld := ⟨key 15 (0x4) 3, 5, 0⟩
/-- 0x0004 bits [9:8] of HK_STATUS (R431): Injected slot in progress. -/
def HK_STATUS_INJ_SLOT : Fld := ⟨key 15 (0x4) 8, 2, 0⟩
/-- 0x0008 bits [5:0] of HK_NSLOT (R431): 1–32. -/
def HK_NSLOT_NREG : Fld := ⟨key 15 (0x8) 0, 6, 1⟩
/-- 0x0008 bits [10:8] of HK_NSLOT (R431): 1–4. -/
def HK_NSLOT_NINJ : Fld := ⟨key 15 (0x8) 8, 3, 1⟩
/-- 0x000C bits [31:0] of HK_PERIOD (R431): R419, µs, ≥ 1. -/
def HK_PERIOD_US : Fld := ⟨key 15 (0xC) 0, 32, 0x3e8⟩
/-- 0x0010 bits [15:0] of HK_MIR_TOL (R431): R425. -/
def HK_MIR_TOL_LSB : Fld := ⟨key 15 (0x10) 0, 16, 0x10⟩
/-- 0x0014 bits [15:0] of HK_CM_WIN (R431): mV (R427). -/
def HK_CM_WIN_LO : Fld := ⟨key 15 (0x14) 0, 16, 0x2ee⟩
/-- 0x0014 bits [31:16] of HK_CM_WIN (R431): mV. -/
def HK_CM_WIN_HI : Fld := ⟨key 15 (0x14) 16, 16, 0x41a⟩
/-- 0x0018 bits [3:0] of HK_RTD_CTRL (R431): Bit k: excitation k allowed. -/
def HK_RTD_CTRL_EN : Fld := ⟨key 15 (0x18) 0, 4, 0⟩
/-- 0x0018 bits [11:8] of HK_RTD_CTRL (R431): Bit 8 + k: clear FAULT k. -/
def HK_RTD_CTRL_REARM : Fld := ⟨key 15 (0x18) 8, 4, 0⟩
/-- 0x001C bits [3:0] of HK_RTD_STAT (R431): R428. -/
def HK_RTD_STAT_FAULT : Fld := ⟨key 15 (0x1C) 0, 4, 0⟩
/-- 0x001C bits [7:4] of HK_RTD_STAT (R431): Excitation k driven. -/
def HK_RTD_STAT_ON : Fld := ⟨key 15 (0x1C) 4, 4, 0⟩
/-- 0x001C bits [11:8] of HK_RTD_STAT (R431): Fault k from compliance, else window. -/
def HK_RTD_STAT_COMPL : Fld := ⟨key 15 (0x1C) 8, 4, 0⟩
/-- 0x001C bits [15:12] of HK_RTD_STAT (R431): Failing check at end of conversion. -/
def HK_RTD_STAT_AT_END : Fld := ⟨key 15 (0x1C) 12, 4, 0⟩
/-- 0x0020 bits [0] of HK_FLAGS (R431): R425. -/
def HK_FLAGS_MIRROR : Fld := ⟨key 15 (0x20) 0, 1, 0⟩
/-- 0x0020 bits [1] of HK_FLAGS (R431): R419. -/
def HK_FLAGS_OVERRUN : Fld := ⟨key 15 (0x20) 1, 1, 0⟩
/-- 0x0020 bits [2] of HK_FLAGS (R431): R420. -/
def HK_FLAGS_INJ_LOST : Fld := ⟨key 15 (0x20) 2, 1, 0⟩
/-- 0x0020 bits [3] of HK_FLAGS (R431): R422. -/
def HK_FLAGS_FULL : Fld := ⟨key 15 (0x20) 3, 1, 0⟩
/-- 0x0020 bits [7:4] of HK_FLAGS (R431): R428. -/
def HK_FLAGS_RTD_FAULT : Fld := ⟨key 15 (0x20) 4, 4, 0⟩
/-- 0x0024 bits [7:0] of HK_IRQ_EN (R431): IRQ_N on the matching HK_FLAGS bit. -/
def HK_IRQ_EN_FLAGS : Fld := ⟨key 15 (0x24) 0, 8, 0⟩
/-- 0x0024 bits [8] of HK_IRQ_EN (R431): R424. -/
def HK_IRQ_EN_WIN : Fld := ⟨key 15 (0x24) 8, 1, 0⟩
/-- 0x0028 bits [31:0] of HK_DISC (R431): R417, R421. -/
def HK_DISC_COUNT : Fld := ⟨key 15 (0x28) 0, 32, 0⟩
/-- 0x002C bits [31:0] of HK_FAULT_DISC (R431): R427. -/
def HK_FAULT_DISC_COUNT : Fld := ⟨key 15 (0x2C) 0, 32, 0⟩
/-- 0x0030 bits [31:0] of HK_OVERRUN (R431): R419. -/
def HK_OVERRUN_COUNT : Fld := ⟨key 15 (0x30) 0, 32, 0⟩
/-- 0x0034 bits [31:0] of HK_INJ_LOST (R431): R420. -/
def HK_INJ_LOST_COUNT : Fld := ⟨key 15 (0x34) 0, 32, 0⟩
/-- 0x0038 bits [31:0] of HK_MIRROR_ERR (R431): R425. -/
def HK_MIRROR_ERR_COUNT : Fld := ⟨key 15 (0x38) 0, 32, 0⟩
/-- 0x003C bits [31:0] of HK_PASSES (R431): R419. -/
def HK_PASSES_COUNT : Fld := ⟨key 15 (0x3C) 0, 32, 0⟩
/-- 0x0040 + 4k bits [19:0] of HK_EXCk_CAL (R431): Excitation k current, nA. -/
def HK_EXCk_CAL_NA (k : Nat) : Fld := ⟨key 15 (0x40 + 0x4 * k) 0, 20, 0xf4240⟩
/-- 0x0060 + 4w bits [31:0] of HK_WINFLAGw (R431): w = 0–2; bit b: accumulator 32w + b left its band. -/
def HK_WINFLAGw_OUT (w : Nat) : Fld := ⟨key 15 (0x60 + 0x4 * w) 0, 32, 0⟩
/-- 0x0080 + 8c bits [6:0] of HK_COILc_MAP (R431): R429. -/
def HK_COILc_MAP_RTD_ACC (c : Nat) : Fld := ⟨key 15 (0x80 + 0x8 * c) 0, 7, 0⟩
/-- 0x0080 + 8c bits [14:8] of HK_COILc_MAP (R431): 0x7F = none. -/
def HK_COILc_MAP_REF_ACC (c : Nat) : Fld := ⟨key 15 (0x80 + 0x8 * c) 8, 7, 0x7f⟩
/-- 0x0080 + 8c bits [15] of HK_COILc_MAP (R431): Conversion by firmware. -/
def HK_COILc_MAP_EN (c : Nat) : Fld := ⟨key 15 (0x80 + 0x8 * c) 15, 1, 0⟩
/-- 0x0080 + 8c bits [16] of HK_COILc_MAP (R431): 0 = 100 Ω, 1 = 1,000 Ω. -/
def HK_COILc_MAP_NOMSEL (c : Nat) : Fld := ⟨key 15 (0x80 + 0x8 * c) 16, 1, 0⟩
/-- 0x0084 + 8c bits [23:0] of HK_COILc_RREF (R431): Reference resistor, mΩ. -/
def HK_COILc_RREF_MOHM (c : Nat) : Fld := ⟨key 15 (0x84 + 0x8 * c) 0, 24, 0x186a0⟩
/-- S+0x0, J+0x0 bits [31:0] of HK_SLOTs_CFG, HK_INJi_CFG (R431): R416. -/
def HK_SLOTs_CFG_CFG (s : Nat) : Fld := ⟨key 15 (0x100 + 0x8 * s) 0, 32, 0x10000⟩
/-- S+0x0, J+0x0 bits [31:0] of HK_SLOTs_CFG, HK_INJi_CFG (R431): R416. -/
def HK_INJi_CFG_CFG (i : Nat) : Fld := ⟨key 15 (0x200 + 0x8 * i) 0, 32, 0x10000⟩
/-- S+0x4, J+0x4 bits [31:0] of HK_SLOTs_IN, HK_INJi_IN (R431): R416. -/
def HK_SLOTs_IN_IN (s : Nat) : Fld := ⟨key 15 (0x104 + 0x8 * s) 0, 32, 0⟩
/-- S+0x4, J+0x4 bits [31:0] of HK_SLOTs_IN, HK_INJi_IN (R431): R416. -/
def HK_INJi_IN_IN (i : Nat) : Fld := ⟨key 15 (0x204 + 0x8 * i) 0, 32, 0⟩
/-- A+0x00 bits [31:0] of HK_ACCa_CNT (R431): Read latches SUM, MIN, MAX (R423). -/
def HK_ACCa_CNT_CNT (a : Nat) : Fld := ⟨key 15 (0x1000 + 0x20 * a) 0, 32, 0⟩
/-- A+0x04 bits [31:0] of HK_ACCa_SUM_LO (R431): Bits [31:0]. -/
def HK_ACCa_SUM_LO_SUM (a : Nat) : Fld := ⟨key 15 (0x1004 + 0x20 * a) 0, 32, 0⟩
/-- A+0x08 bits [31:0] of HK_ACCa_SUM_HI (R431): Bits [63:32]. -/
def HK_ACCa_SUM_HI_SUM (a : Nat) : Fld := ⟨key 15 (0x1008 + 0x20 * a) 0, 32, 0⟩
/-- A+0x0C bits [31:0] of HK_ACCa_MIN (R431): Signed. -/
def HK_ACCa_MIN_MIN (a : Nat) : Fld := ⟨key 15 (0x100C + 0x20 * a) 0, 32, 0x7fffffff⟩
/-- A+0x10 bits [31:0] of HK_ACCa_MAX (R431): Signed. -/
def HK_ACCa_MAX_MAX (a : Nat) : Fld := ⟨key 15 (0x1010 + 0x20 * a) 0, 32, 0x80000000⟩
/-- A+0x14 bits [31:0] of HK_ACCa_WLO (R431): Signed (R424). -/
def HK_ACCa_WLO_WLO (a : Nat) : Fld := ⟨key 15 (0x1014 + 0x20 * a) 0, 32, 0x80000000⟩
/-- A+0x18 bits [31:0] of HK_ACCa_WHI (R431): Signed. -/
def HK_ACCa_WHI_WHI (a : Nat) : Fld := ⟨key 15 (0x1018 + 0x20 * a) 0, 32, 0x7fffffff⟩
/-- A+0x1C bits [0] of HK_ACCa_CTRL (R431): R423. -/
def HK_ACCa_CTRL_CLR (a : Nat) : Fld := ⟨key 15 (0x101C + 0x20 * a) 0, 1, 0⟩
/-- A+0x1C bits [1] of HK_ACCa_CTRL (R431): R424. -/
def HK_ACCa_CTRL_WEN (a : Nat) : Fld := ⟨key 15 (0x101C + 0x20 * a) 1, 1, 0⟩
/-- A+0x1C bits [2] of HK_ACCa_CTRL (R431): Window state OUT. -/
def HK_ACCa_CTRL_OUT (a : Nat) : Fld := ⟨key 15 (0x101C + 0x20 * a) 2, 1, 0⟩
/-- A+0x1C bits [3] of HK_ACCa_CTRL (R431): R422. -/
def HK_ACCa_CTRL_FULL (a : Nat) : Fld := ⟨key 15 (0x101C + 0x20 * a) 3, 1, 0⟩
/-- 0x0000 bits [0] of CAL_STATUS (R443): Fibre A state not IDLE. -/
def CAL_STATUS_BUSY_A : Fld := ⟨key 16 (0x0) 0, 1, 0⟩
/-- 0x0000 bits [1] of CAL_STATUS (R443): Fibre B state not IDLE. -/
def CAL_STATUS_BUSY_B : Fld := ⟨key 16 (0x0) 1, 1, 0⟩
/-- 0x0000 bits [2] of CAL_STATUS (R443): CAL_WRITE held, fibre A (R442). -/
def CAL_STATUS_WPEND_A : Fld := ⟨key 16 (0x0) 2, 1, 0⟩
/-- 0x0000 bits [3] of CAL_STATUS (R443): CAL_WRITE held, fibre B. -/
def CAL_STATUS_WPEND_B : Fld := ⟨key 16 (0x0) 3, 1, 0⟩
/-- F+0x000 bits [0] of CAL_CTRL (R443): R438. -/
def CAL_CTRL_AUTO (f : Nat) : Fld := ⟨key 16 (0x1000 + 0x1000 * f) 0, 1, 1⟩
/-- F+0x000 bits [1] of CAL_CTRL (R443): Calibrate pairs 0 and 1. -/
def CAL_CTRL_RAY (f : Nat) : Fld := ⟨key 16 (0x1000 + 0x1000 * f) 1, 1, 1⟩
/-- F+0x000 bits [2] of CAL_CTRL (R443): Calibrate pair 2. -/
def CAL_CTRL_BRI (f : Nat) : Fld := ⟨key 16 (0x1000 + 0x1000 * f) 2, 1, 1⟩
/-- F+0x000 bits [3] of CAL_CTRL (R443): R438. -/
def CAL_CTRL_RUN (f : Nat) : Fld := ⟨key 16 (0x1000 + 0x1000 * f) 3, 1, 0⟩
/-- F+0x000 bits [4] of CAL_CTRL (R443): R440. -/
def CAL_CTRL_ABORT (f : Nat) : Fld := ⟨key 16 (0x1000 + 0x1000 * f) 4, 1, 0⟩
/-- F+0x000 bits [31] of CAL_CTRL (R443): Clear counters of this fibre. -/
def CAL_CTRL_CLR_CNT (f : Nat) : Fld := ⟨key 16 (0x1000 + 0x1000 * f) 31, 1, 0⟩
/-- F+0x004 bits [4:0] of CAL_CFG (R443): R436, 20–30. -/
def CAL_CFG_NSAMP_LOG2 (f : Nat) : Fld := ⟨key 16 (0x1004 + 0x1000 * f) 0, 5, 0x1a⟩
/-- F+0x004 bits [10:8] of CAL_CFG (R443): Die sensor 0–7 (R438). -/
def CAL_CFG_TSENS (f : Nat) : Fld := ⟨key 16 (0x1004 + 0x1000 * f) 8, 3, 2⟩
/-- F+0x004 bits [23:16] of CAL_CFG (R443): 0.1 K, 1–255. -/
def CAL_CFG_DT (f : Nat) : Fld := ⟨key 16 (0x1004 + 0x1000 * f) 16, 8, 0x28⟩
/-- F+0x004 bits [31:24] of CAL_CFG (R443): s, 1–255. -/
def CAL_CFG_RETRY (f : Nat) : Fld := ⟨key 16 (0x1004 + 0x1000 * f) 24, 8, 0xa⟩
/-- F+0x008 bits [7:0] of CAL_TOL (R443): 1/16 LSB. -/
def CAL_TOL_OFS_TOL (f : Nat) : Fld := ⟨key 16 (0x1008 + 0x1000 * f) 0, 8, 4⟩
/-- F+0x008 bits [15:8] of CAL_TOL (R443): 2^−14. -/
def CAL_TOL_GAIN_TOL (f : Nat) : Fld := ⟨key 16 (0x1008 + 0x1000 * f) 8, 8, 8⟩
/-- F+0x008 bits [23:16] of CAL_TOL (R443): 2^−14. -/
def CAL_TOL_PH_TOL (f : Nat) : Fld := ⟨key 16 (0x1008 + 0x1000 * f) 16, 8, 8⟩
/-- F+0x008 bits [31:24] of CAL_TOL (R443): 0.25 ps. -/
def CAL_TOL_SKEW_TOL (f : Nat) : Fld := ⟨key 16 (0x1008 + 0x1000 * f) 24, 8, 4⟩
/-- F+0x00C bits [2:0] of CAL_STAT (R443): 0 IDLE, 1 WAIT, 2 ACC_A, 3 ACC_B, 4 APPLY. -/
def CAL_STAT_STATE (f : Nat) : Fld := ⟨key 16 (0x100C + 0x1000 * f) 0, 3, 0⟩
/-- F+0x00C bits [3] of CAL_STAT (R443): Set in use came from a run or CAL_WRITE. -/
def CAL_STAT_VALID (f : Nat) : Fld := ⟨key 16 (0x100C + 0x1000 * f) 3, 1, 0⟩
/-- F+0x00C bits [4] of CAL_STAT (R443): R438. -/
def CAL_STAT_RETRY_WAIT (f : Nat) : Fld := ⟨key 16 (0x100C + 0x1000 * f) 4, 1, 0⟩
/-- F+0x00C bits [5] of CAL_STAT (R443): R436. -/
def CAL_STAT_SKEW_SETTLED (f : Nat) : Fld := ⟨key 16 (0x100C + 0x1000 * f) 5, 1, 0⟩
/-- F+0x010 bits [0] of CAL_FLAGS (R443): R437. -/
def CAL_FLAGS_DISAGREE (f : Nat) : Fld := ⟨key 16 (0x1010 + 0x1000 * f) 0, 1, 0⟩
/-- F+0x010 bits [1] of CAL_FLAGS (R443): R440. -/
def CAL_FLAGS_ABORT (f : Nat) : Fld := ⟨key 16 (0x1010 + 0x1000 * f) 1, 1, 0⟩
/-- F+0x010 bits [2] of CAL_FLAGS (R443): R439. -/
def CAL_FLAGS_DONE (f : Nat) : Fld := ⟨key 16 (0x1010 + 0x1000 * f) 2, 1, 0⟩
/-- F+0x010 bits [3] of CAL_FLAGS (R443): R437. -/
def CAL_FLAGS_RANGE (f : Nat) : Fld := ⟨key 16 (0x1010 + 0x1000 * f) 3, 1, 0⟩
/-- F+0x014 bits [3:0] of CAL_IRQ_EN (R443): IRQ_N on the matching CAL_FLAGS bit. -/
def CAL_IRQ_EN_FLAGS (f : Nat) : Fld := ⟨key 16 (0x1014 + 0x1000 * f) 0, 4, 0⟩
/-- F+0x018 bits [15:0] of CAL_TEMP (R443): Signed, 0.1 °C (R438, R442). -/
def CAL_TEMP_TEMP (f : Nat) : Fld := ⟨key 16 (0x1018 + 0x1000 * f) 0, 16, 0⟩
/-- F+0x01C bits [31:0] of CAL_APPLIED (R443): R441. -/
def CAL_APPLIED_SHOT (f : Nat) : Fld := ⟨key 16 (0x101C + 0x1000 * f) 0, 32, 0⟩
/-- F+0x020 bits [31:0] of CAL_RUNS (R443): Runs started. -/
def CAL_RUNS_COUNT (f : Nat) : Fld := ⟨key 16 (0x1020 + 0x1000 * f) 0, 32, 0⟩
/-- F+0x024 bits [31:0] of CAL_DISAGREE_CNT (R443): R437, DISAGREE or RANGE. -/
def CAL_DISAGREE_CNT_COUNT (f : Nat) : Fld := ⟨key 16 (0x1024 + 0x1000 * f) 0, 32, 0⟩
/-- F+0x028 bits [31:0] of CAL_ABORT_CNT (R443): R440. -/
def CAL_ABORT_CNT_COUNT (f : Nat) : Fld := ⟨key 16 (0x1028 + 0x1000 * f) 0, 32, 0⟩
/-- F+0x030 + 4c bits [11:0] of CAL_OFSc (R443): Converter c = 0–5, signed, 1/16 LSB (R433). -/
def CAL_OFSc_OFS (f c : Nat) : Fld := ⟨key 16 (0x1030 + 0x1000 * f + 0x4 * c) 0, 12, 0⟩
/-- F+0x048 + 4p bits [15:0] of CAL_GAINp (R443): Pair p = 0–2 (R434). -/
def CAL_GAINp_GAIN (f p : Nat) : Fld := ⟨key 16 (0x1048 + 0x1000 * f + 0x4 * p) 0, 16, 0x4000⟩
/-- F+0x054 + 4p bits [15:0] of CAL_PHp (R443): Signed (R434). -/
def CAL_PHp_PH (f p : Nat) : Fld := ⟨key 16 (0x1054 + 0x1000 * f + 0x4 * p) 0, 16, 0⟩
/-- F+0x060 + 4p bits [8:0] of CAL_SKEWp (R443): Signed, 0.25 ps (R435). -/
def CAL_SKEWp_SKEW (f p : Nat) : Fld := ⟨key 16 (0x1060 + 0x1000 * f + 0x4 * p) 0, 9, 0⟩
/-- 0x0000 bits [3:0] of EMIT_STATUS (R453): Bit c: sink c shut down (R448). -/
def EMIT_STATUS_SD : Fld := ⟨key 17 (0x0) 0, 4, 0⟩
/-- 0x0000 bits [7:4] of EMIT_STATUS (R453): Bit 4 + c: applied code of sink c ≠ 0. -/
def EMIT_STATUS_ON : Fld := ⟨key 17 (0x0) 4, 4, 0⟩
/-- 0x0004 bits [3:0] of EMIT_FLAGS (R453): R448. -/
def EMIT_FLAGS_THERM_SD : Fld := ⟨key 17 (0x4) 0, 4, 0⟩
/-- 0x0008 bits [3:0] of EMIT_IRQ_EN (R453): IRQ_N on the matching THERM_SD bit. -/
def EMIT_IRQ_EN_THERM_SD : Fld := ⟨key 17 (0x8) 0, 4, 0⟩
/-- 0x000C bits [31] of EMIT_CTRL (R453): Clear EMIT counters. -/
def EMIT_CTRL_CLR_CNT : Fld := ⟨key 17 (0xC) 31, 1, 0⟩
/-- C+0x0 bits [11:0] of EMIT_CHc_SET (R453): Set code (R445). -/
def EMIT_CHc_SET_CODE (c : Nat) : Fld := ⟨key 17 (0x100 + 0x10 * c) 0, 12, 0⟩
/-- C+0x0 bits [23:16] of EMIT_CHc_SET (R453): Codes per ms; 0 = immediate (R446). -/
def EMIT_CHc_SET_RAMP (c : Nat) : Fld := ⟨key 17 (0x100 + 0x10 * c) 16, 8, 0⟩
/-- C+0x0 bits [24] of EMIT_CHc_SET (R453): LFSR dither (R445). -/
def EMIT_CHc_SET_SPREAD (c : Nat) : Fld := ⟨key 17 (0x100 + 0x10 * c) 24, 1, 1⟩
/-- C+0x4 bits [11:0] of EMIT_CHc_ACT (R453): Applied code. -/
def EMIT_CHc_ACT_CODE (c : Nat) : Fld := ⟨key 17 (0x104 + 0x10 * c) 0, 12, 0⟩
/-- C+0x8 bits [15:0] of EMIT_CHc_TEMP (R453): Sink sensor, signed, 0.1 °C. -/
def EMIT_CHc_TEMP_TEMP (c : Nat) : Fld := ⟨key 17 (0x108 + 0x10 * c) 0, 16, 0⟩
/-- C+0xC bits [31:0] of EMIT_CHc_SDCNT (R453): R448. -/
def EMIT_CHc_SDCNT_COUNT (c : Nat) : Fld := ⟨key 17 (0x10C + 0x10 * c) 0, 32, 0⟩
/-- 0x0200 bits [0] of DCH_CTRL (R453): Chain enabled; acquires pins (R450). -/
def DCH_CTRL_EN : Fld := ⟨key 17 (0x200) 0, 1, 0⟩
/-- 0x0200 bits [1] of DCH_CTRL (R453): Start transfer (R452). -/
def DCH_CTRL_GO : Fld := ⟨key 17 (0x200) 1, 1, 0⟩
/-- 0x0204 bits [7:0] of DCH_CFG (R453): H = DIV + 1; 0x63 gives 1 MHz; ≥ 3. -/
def DCH_CFG_DIV : Fld := ⟨key 17 (0x204) 0, 8, 0x63⟩
/-- 0x0204 bits [24:16] of DCH_CFG (R453): Bits, 1–256. -/
def DCH_CFG_LEN : Fld := ⟨key 17 (0x204) 16, 9, 0x100⟩
/-- 0x0208 bits [0] of DCH_STATUS (R453): Transfer running. -/
def DCH_STATUS_BUSY : Fld := ⟨key 17 (0x208) 0, 1, 0⟩
/-- 0x0208 bits [1] of DCH_STATUS (R453): Transfer complete. -/
def DCH_STATUS_DONE : Fld := ⟨key 17 (0x208) 1, 1, 0⟩
/-- 0x0210 + 4w bits [31:0] of DCH_DATAw (R453): w = 0–7. -/
def DCH_DATAw_BITS (w : Nat) : Fld := ⟨key 17 (0x210 + 0x4 * w) 0, 32, 0⟩
/-- 0x0004 bits [0] of SYS_STATUS (R474): R5, R20. -/
def SYS_STATUS_ACC_ERR : Fld := ⟨key 0 (0x4) 0, 1, 0⟩
/-- 0x0004 bits [1] of SYS_STATUS (R474): R22. -/
def SYS_STATUS_ADDR_ERR : Fld := ⟨key 0 (0x4) 1, 1, 0⟩
/-- 0x0004 bits [2] of SYS_STATUS (R474): R22. -/
def SYS_STATUS_ADDR_ERR_MULTI : Fld := ⟨key 0 (0x4) 2, 1, 0⟩
/-- 0x0004 bits [3] of SYS_STATUS (R474): R28; cleared only by reset. -/
def SYS_STATUS_REFCLK_SMP_BAD : Fld := ⟨key 0 (0x4) 3, 1, 0⟩
/-- 0x0004 bits [4] of SYS_STATUS (R474): R348. -/
def SYS_STATUS_CFG_DEFAULTED : Fld := ⟨key 0 (0x4) 4, 1, 0⟩
/-- 0x0004 bits [5] of SYS_STATUS (R474): R457. -/
def SYS_STATUS_CORE_WAIT : Fld := ⟨key 0 (0x4) 5, 1, 0⟩
/-- 0x0008 bits [0] of SYS_IRQ_EN (R474): IRQ_N on ACC_ERR. -/
def SYS_IRQ_EN_ACC_ERR : Fld := ⟨key 0 (0x8) 0, 1, 0⟩
/-- 0x0008 bits [1] of SYS_IRQ_EN (R474): IRQ_N on ADDR_ERR. -/
def SYS_IRQ_EN_ADDR_ERR : Fld := ⟨key 0 (0x8) 1, 1, 0⟩
/-- 0x0008 bits [3] of SYS_IRQ_EN (R474): IRQ_N on REFCLK_SMP_BAD. -/
def SYS_IRQ_EN_REFCLK : Fld := ⟨key 0 (0x8) 3, 1, 0⟩
/-- 0x000C bits [31:0] of SYS_ERR_ADDR_LO (R474): R22, bits [31:0]. -/
def SYS_ERR_ADDR_LO_ADDR : Fld := ⟨key 0 (0xC) 0, 32, 0⟩
/-- 0x0010 bits [7:0] of SYS_ERR_ADDR_HI (R474): Bits [39:32]. -/
def SYS_ERR_ADDR_HI_ADDR : Fld := ⟨key 0 (0x10) 0, 8, 0⟩
/-- 0x0010 bits [23:16] of SYS_ERR_ADDR_HI (R474): Master ID. -/
def SYS_ERR_ADDR_HI_MASTER : Fld := ⟨key 0 (0x10) 16, 8, 0⟩
/-- 0x0014 bits [2:0] of SYS_RST_CAUSE (R474): R471, R472. -/
def SYS_RST_CAUSE_CAUSE : Fld := ⟨key 0 (0x14) 0, 3, 1⟩
/-- 0x0014 bits [12:8] of SYS_RST_CAUSE (R474): R472. -/
def SYS_RST_CAUSE_HIST : Fld := ⟨key 0 (0x14) 8, 5, 1⟩
/-- 0x0018 bits [0] of SYS_CLK_STATUS (R474): Crystal running. -/
def SYS_CLK_STATUS_XTAL_OK : Fld := ⟨key 0 (0x18) 0, 1, 1⟩
/-- 0x0018 bits [1] of SYS_CLK_STATUS (R474): R456. -/
def SYS_CLK_STATUS_MGMT_LOCK : Fld := ⟨key 0 (0x18) 1, 1, 0⟩
/-- 0x0018 bits [2] of SYS_CLK_STATUS (R474): R456. -/
def SYS_CLK_STATUS_SMP_LOCK : Fld := ⟨key 0 (0x18) 2, 1, 0⟩
/-- 0x0018 bits [3] of SYS_CLK_STATUS (R474): R456. -/
def SYS_CLK_STATUS_ENG_LOCK : Fld := ⟨key 0 (0x18) 3, 1, 0⟩
/-- 0x0018 bits [4] of SYS_CLK_STATUS (R474): R456. -/
def SYS_CLK_STATUS_DDR_LOCK_DA : Fld := ⟨key 0 (0x18) 4, 1, 0⟩
/-- 0x0018 bits [5] of SYS_CLK_STATUS (R474): R456. -/
def SYS_CLK_STATUS_DDR_LOCK_DB : Fld := ⟨key 0 (0x18) 5, 1, 0⟩
/-- 0x0018 bits [6] of SYS_CLK_STATUS (R474): clk_fab runs (R457). -/
def SYS_CLK_STATUS_FAB_RUN : Fld := ⟨key 0 (0x18) 6, 1, 0⟩
/-- 0x0018 bits [7] of SYS_CLK_STATUS (R474): REFCLK_SMP passes the comparison of R28 at present. -/
def SYS_CLK_STATUS_REFCLK_SMP_OK : Fld := ⟨key 0 (0x18) 7, 1, 0⟩
/-- 0x001C bits [31:0] of SYS_UPTIME_LO (R474): µs since power-on, bits [31:0] (R354). -/
def SYS_UPTIME_LO_US : Fld := ⟨key 0 (0x1C) 0, 32, 0⟩
/-- 0x0020 bits [31:0] of SYS_UPTIME_HI (R474): Bits [63:32]; latched on read of LO. -/
def SYS_UPTIME_HI_US : Fld := ⟨key 0 (0x20) 0, 32, 0⟩
/-- 0x0000 bits [1:0] of PWR_REQ (R475): 0 ACTIVE, 1 REDUCED, 2 STANDBY, 3 SLEEP. -/
def PWR_REQ_STATE : Fld := ⟨key 18 (0x0) 0, 2, 0⟩
/-- 0x0000 bits [5:4] of PWR_REQ (R475): OP0–OP3. -/
def PWR_REQ_OP : Fld := ⟨key 18 (0x0) 4, 2, 0⟩
/-- 0x0000 bits [8] of PWR_REQ (R475): Request STATE. -/
def PWR_REQ_GO_STATE : Fld := ⟨key 18 (0x0) 8, 1, 0⟩
/-- 0x0000 bits [9] of PWR_REQ (R475): Request OP. -/
def PWR_REQ_GO_OP : Fld := ⟨key 18 (0x0) 9, 1, 0⟩
/-- 0x0000 bits [31] of PWR_REQ (R475): Clear PWR counters. -/
def PWR_REQ_CLR_CNT : Fld := ⟨key 18 (0x0) 31, 1, 0⟩
/-- 0x0004 bits [1:0] of PWR_STATUS (R475): State in force. -/
def PWR_STATUS_STATE : Fld := ⟨key 18 (0x4) 0, 2, 0⟩
/-- 0x0004 bits [3:2] of PWR_STATUS (R475): Operating point in force. -/
def PWR_STATUS_OP : Fld := ⟨key 18 (0x4) 2, 2, 0⟩
/-- 0x0004 bits [4] of PWR_STATUS (R475): Change in progress. -/
def PWR_STATUS_BUSY : Fld := ⟨key 18 (0x4) 4, 1, 0⟩
/-- 0x0004 bits [5] of PWR_STATUS (R475): Request held (R467). -/
def PWR_STATUS_HELD : Fld := ⟨key 18 (0x4) 5, 1, 0⟩
/-- 0x0004 bits [7:6] of PWR_STATUS (R475): Last entry: 0 none, 1 DONE, 2 ABORTED. -/
def PWR_STATUS_LAST : Fld := ⟨key 18 (0x4) 6, 2, 0⟩
/-- 0x0004 bits [10:8] of PWR_STATUS (R475): R468. -/
def PWR_STATUS_WAKE_SRC : Fld := ⟨key 18 (0x4) 8, 3, 0⟩
/-- 0x0004 bits [21:16] of PWR_STATUS (R475): AON, MGMT, CORE, RX, LANE, DDR. -/
def PWR_STATUS_DOMAIN_ON : Fld := ⟨key 18 (0x4) 16, 6, 0x3f⟩
/-- 0x0008 bits [4:0] of PWR_WAKE_EN (R475): R468. -/
def PWR_WAKE_EN_EN : Fld := ⟨key 18 (0x8) 0, 5, 0⟩
/-- 0x000C bits [4:0] of PWR_WAKE_PEND (R475): Sources fired since the last acceptance. -/
def PWR_WAKE_PEND_PEND : Fld := ⟨key 18 (0xC) 0, 5, 0⟩
/-- 0x0010 bits [31:0] of PWR_TIMER (R475): TIMER source, ms, ≥ 1. -/
def PWR_TIMER_MS : Fld := ⟨key 18 (0x10) 0, 32, 0⟩
/-- 0x0014 bits [15:0] of PWR_VSETTLE (R475): R461, 10–10,000. -/
def PWR_VSETTLE_US : Fld := ⟨key 18 (0x14) 0, 16, 0xc8⟩
/-- 0x0018 bits [0] of PWR_FLAGS (R475): R466. -/
def PWR_FLAGS_ABORTED : Fld := ⟨key 18 (0x18) 0, 1, 0⟩
/-- 0x0018 bits [1] of PWR_FLAGS (R475): R461. -/
def PWR_FLAGS_VFAIL : Fld := ⟨key 18 (0x18) 1, 1, 0⟩
/-- 0x0018 bits [2] of PWR_FLAGS (R475): R467. -/
def PWR_FLAGS_REPLACED : Fld := ⟨key 18 (0x18) 2, 1, 0⟩
/-- 0x0018 bits [3] of PWR_FLAGS (R475): R469. -/
def PWR_FLAGS_WAKE : Fld := ⟨key 18 (0x18) 3, 1, 0⟩
/-- 0x0018 bits [4] of PWR_FLAGS (R475): GO refused. -/
def PWR_FLAGS_REFUSED : Fld := ⟨key 18 (0x18) 4, 1, 0⟩
/-- 0x001C bits [4:0] of PWR_IRQ_EN (R475): IRQ_N on the matching PWR_FLAGS bit. -/
def PWR_IRQ_EN_FLAGS : Fld := ⟨key 18 (0x1C) 0, 5, 0⟩
/-- 0x0020 bits [31:0] of PWR_ENTRIES (R475): Entries completed. -/
def PWR_ENTRIES_COUNT : Fld := ⟨key 18 (0x20) 0, 32, 0⟩
/-- 0x0024 bits [31:0] of PWR_ABORTS (R475): R466. -/
def PWR_ABORTS_COUNT : Fld := ⟨key 18 (0x24) 0, 32, 0⟩
/-- 0x0000 bits [0] of PMON_CTRL (R485): R478. -/
def PMON_CTRL_RUN : Fld := ⟨key 19 (0x0) 0, 1, 0⟩
/-- 0x0000 bits [1] of PMON_CTRL (R485): R480. -/
def PMON_CTRL_CLR : Fld := ⟨key 19 (0x0) 1, 1, 0⟩
/-- 0x0004 bits [0] of PMON_STATUS (R485): R481. -/
def PMON_STATUS_SNAP_AVAIL : Fld := ⟨key 19 (0x4) 0, 1, 0⟩
/-- 0x0004 bits [1] of PMON_STATUS (R485): R482. -/
def PMON_STATUS_SNAP_DONE : Fld := ⟨key 19 (0x4) 1, 1, 0⟩
/-- 0x0004 bits [2] of PMON_STATUS (R485): Window running. -/
def PMON_STATUS_BW_BUSY : Fld := ⟨key 19 (0x4) 2, 1, 0⟩
/-- 0x0004 bits [3] of PMON_STATUS (R485): R484. -/
def PMON_STATUS_BW_DONE : Fld := ⟨key 19 (0x4) 3, 1, 0⟩
/-- 0x0008 bits [31:0] of PMON_CYC_LO (R485): R477, bits [31:0]. -/
def PMON_CYC_LO_CYC : Fld := ⟨key 19 (0x8) 0, 32, 0⟩
/-- 0x000C bits [31:0] of PMON_CYC_HI (R485): Bits [63:32]. -/
def PMON_CYC_HI_CYC : Fld := ⟨key 19 (0xC) 0, 32, 0⟩
/-- 0x0010 bits [0] of PMON_SNAP (R485): R482. -/
def PMON_SNAP_GO : Fld := ⟨key 19 (0x10) 0, 1, 0⟩
/-- 0x0014 bits [7:0] of PMON_WRAP (R485): Bit k: counter k wrapped (R479). -/
def PMON_WRAP_WRAP : Fld := ⟨key 19 (0x14) 0, 8, 0⟩
/-- 0x0018 bits [7:0] of PMON_IRQ_EN (R485): IRQ_N on the matching WRAP bit. -/
def PMON_IRQ_EN_WRAP : Fld := ⟨key 19 (0x18) 0, 8, 0⟩
/-- 0x0020 bits [19:0] of PMON_BW_CTRL (R485): µs, 1–1,000,000. -/
def PMON_BW_CTRL_WIN : Fld := ⟨key 19 (0x20) 0, 20, 0x3e8⟩
/-- 0x0020 bits [24] of PMON_BW_CTRL (R485): R484. -/
def PMON_BW_CTRL_CONT : Fld := ⟨key 19 (0x20) 24, 1, 0⟩
/-- 0x0020 bits [31] of PMON_BW_CTRL (R485): Open a window. -/
def PMON_BW_CTRL_GO : Fld := ⟨key 19 (0x20) 31, 1, 0⟩
/-- 0x0024 bits [31:0] of PMON_BW_SEQ (R485): Windows closed. -/
def PMON_BW_SEQ_COUNT : Fld := ⟨key 19 (0x24) 0, 32, 0⟩
/-- K+0x0 bits [7:0] of PMON_CNTk_CTRL (R485): R478. -/
def PMON_CNTk_CTRL_EVENT (k : Nat) : Fld := ⟨key 19 (0x100 + 0x10 * k) 0, 8, 0⟩
/-- K+0x0 bits [15:8] of PMON_CNTk_CTRL (R485): Master ID. -/
def PMON_CNTk_CTRL_MASTER (k : Nat) : Fld := ⟨key 19 (0x100 + 0x10 * k) 8, 8, 0⟩
/-- K+0x0 bits [16] of PMON_CNTk_CTRL (R485): Master filter. -/
def PMON_CNTk_CTRL_MFILT (k : Nat) : Fld := ⟨key 19 (0x100 + 0x10 * k) 16, 1, 0⟩
/-- K+0x0 bits [17] of PMON_CNTk_CTRL (R485): Counter enabled. -/
def PMON_CNTk_CTRL_EN (k : Nat) : Fld := ⟨key 19 (0x100 + 0x10 * k) 17, 1, 0⟩
/-- K+0x4 bits [31:0] of PMON_CNTk_LO (R485): Bits [31:0] (R483). -/
def PMON_CNTk_LO_COUNT (k : Nat) : Fld := ⟨key 19 (0x104 + 0x10 * k) 0, 32, 0⟩
/-- K+0x8 bits [15:0] of PMON_CNTk_HI (R485): Bits [47:32]. -/
def PMON_CNTk_HI_COUNT (k : Nat) : Fld := ⟨key 19 (0x108 + 0x10 * k) 0, 16, 0⟩
/-- 0x0200 bits [31:0] of PMON_SCYC_LO (R485): Snapshot of PMON_CYC [31:0]. -/
def PMON_SCYC_LO_CYC : Fld := ⟨key 19 (0x200) 0, 32, 0⟩
/-- 0x0204 bits [31:0] of PMON_SCYC_HI (R485): [63:32]. -/
def PMON_SCYC_HI_CYC : Fld := ⟨key 19 (0x204) 0, 32, 0⟩
/-- 0x0208 + 8k bits [31:0] of PMON_SCNTk_LO (R485): Snapshot, counter k [31:0]. -/
def PMON_SCNTk_LO_COUNT (k : Nat) : Fld := ⟨key 19 (0x208 + 0x8 * k) 0, 32, 0⟩
/-- 0x020C + 8k bits [15:0] of PMON_SCNTk_HI (R485): [47:32]. -/
def PMON_SCNTk_HI_COUNT (k : Nat) : Fld := ⟨key 19 (0x20C + 0x8 * k) 0, 16, 0⟩
/-- 0x020C + 8k bits [16] of PMON_SCNTk_HI (R485): WRAP bit k at the snapshot. -/
def PMON_SCNTk_HI_WRAP (k : Nat) : Fld := ⟨key 19 (0x20C + 0x8 * k) 16, 1, 0⟩
/-- B+0x0 bits [31:0] of PMON_BWc_p_LO (R485): R484, bits [31:0]. -/
def PMON_BWc_p_LO_BYTES (c p : Nat) : Fld := ⟨key 19 (0x300 + 0x38 * c + 0x8 * p) 0, 32, 0⟩
/-- B+0x4 bits [7:0] of PMON_BWc_p_HI (R485): Bits [39:32]; latched on read of LO. -/
def PMON_BWc_p_HI_BYTES (c p : Nat) : Fld := ⟨key 19 (0x304 + 0x38 * c + 0x8 * p) 0, 8, 0⟩
/-- 0x4000 bits [15:0] of SEQ_FT_OFFSET (R83): Launch offset, 1/65,536 of the flight period. -/
def SEQ_FT_OFFSET (f p e : Nat) : Fld := ⟨key 1 (0x4000 + 0x2000 * f + 0x100 * p + 0x4 * e) 0, 16, 0⟩
/-- 0x4000 bits [18:16] of SEQ_FT_SLOT (R83): Frequency slot. -/
def SEQ_FT_SLOT (f p e : Nat) : Fld := ⟨key 1 (0x4000 + 0x2000 * f + 0x100 * p + 0x4 * e) 16, 3, 0⟩
/-- 0x4000 bits [23:20] of SEQ_FT_CODE (R83): Probe code descriptor. -/
def SEQ_FT_CODE (f p e : Nat) : Fld := ⟨key 1 (0x4000 + 0x2000 * f + 0x100 * p + 0x4 * e) 20, 4, 0⟩
/-- 0x4000 bits [31:31] of SEQ_FT_EN (R83): Entry enabled. -/
def SEQ_FT_EN (f p e : Nat) : Fld := ⟨key 1 (0x4000 + 0x2000 * f + 0x100 * p + 0x4 * e) 31, 1, 0⟩
/-- 0x4000 bits [17:0] of PFIL_COEF (R150): Coefficient h(k) of bank b. -/
def PFIL_COEF (f b k : Nat) : Fld := ⟨key 4 (0x4000 + 0x1000 * f + 0x800 * b + 0x4 * k) 0, 18, 0⟩
/-- 0x8000 bits [31:0] of TDC_TABLE (R412): Interpolator calibration table word. -/
def TDC_TABLE (i w : Nat) : Fld := ⟨key 14 (0x8000 + 0x800 * i + 0x4 * w) 0, 32, 0⟩
/-- 0x8 bits [31:0] of LANE_STATE_SUM_STATE (R282): STATE of lanes 0-7, four bits each (computed). -/
def LANE_STATE_SUM_STATE : Fld := ⟨key 9 (0x8) 0, 32, 0⟩

/-- Rows of the register tables, part 0. -/
def rows0 : List Row := [
  ⟨1, 0x0, [], 0, 1, 0, .rw, fun _ => true⟩,
  ⟨1, 0x0, [], 1, 1, 0, .rw, fun _ => true⟩,
  ⟨1, 0x0, [], 2, 1, 0, .rw, fun _ => true⟩,
  ⟨1, 0x0, [], 3, 1, 0, .rw, fun _ => true⟩,
  ⟨1, 0x0, [], 8, 8, 0, .rw, fun _ => true⟩,
  ⟨1, 0x4, [], 0, 16, 0, .rw, fun _ => true⟩,
  ⟨1, 0x8, [], 0, 32, 0x9c40, .rw, fun v => 4000 ≤ v⟩,
  ⟨1, 0xC, [], 0, 4, 6, .rw, fun v => 2 ≤ v && v ≤ 12⟩,
  ⟨1, 0xC, [], 16, 16, 0x3e8, .rw, fun _ => true⟩,
  ⟨1, 0x10, [], 0, 32, 0x3e8, .rw, fun _ => true⟩,
  ⟨1, 0x14, [], 0, 1, 0, .ro, fun _ => true⟩,
  ⟨1, 0x14, [], 1, 1, 0, .ro, fun _ => true⟩,
  ⟨1, 0x14, [], 2, 1, 0, .ro, fun _ => true⟩,
  ⟨1, 0x14, [], 3, 1, 0, .ro, fun _ => true⟩,
  ⟨1, 0x14, [], 4, 1, 0, .ro, fun _ => true⟩,
  ⟨1, 0x18, [], 0, 1, 0, .w1c, fun _ => true⟩,
  ⟨1, 0x18, [], 1, 1, 0, .w1c, fun _ => true⟩,
  ⟨1, 0x18, [], 2, 1, 0, .w1c, fun _ => true⟩,
  ⟨1, 0x18, [], 3, 1, 0, .w1c, fun _ => true⟩,
  ⟨1, 0x1C, [], 0, 32, 0, .ro, fun _ => true⟩,
  ⟨1, 0x20, [], 0, 24, 0, .ro, fun _ => true⟩,
  ⟨1, 0x24, [], 0, 32, 0, .ro, fun _ => true⟩,
  ⟨1, 0x28, [], 0, 32, 0, .ro, fun _ => true⟩,
  ⟨1, 0x2C, [], 0, 32, 0, .ro, fun _ => true⟩,
  ⟨1, 0x30, [], 0, 16, 1, .rw, fun v => 1 ≤ v⟩,
  ⟨1, 0x34, [], 0, 32, 0, .ro, fun _ => true⟩,
  ⟨1, 0x1000, [(0x1000, 2)], 0, 2, 2, .rw, fun v => v ≤ 2⟩,
  ⟨1, 0x1000, [(0x1000, 2)], 2, 1, 0, .rw, fun _ => true⟩,
  ⟨1, 0x1000, [(0x1000, 2)], 3, 3, 0, .rw, fun v => v ≤ 5⟩,
  ⟨1, 0x1000, [(0x1000, 2)], 6, 1, 0, .rw, fun _ => true⟩,
  ⟨1, 0x1000, [(0x1000, 2)], 7, 1, 0, .rw, fun _ => true⟩,
  ⟨1, 0x1000, [(0x1000, 2)], 31, 1, 0, .w1s, fun _ => true⟩,
  ⟨1, 0x1004, [(0x1000, 2)], 0, 3, 0, .ro, fun _ => true⟩,
  ⟨1, 0x1004, [(0x1000, 2)], 3, 1, 0, .ro, fun _ => true⟩,
  ⟨1, 0x1004, [(0x1000, 2)], 4, 1, 0, .ro, fun _ => true⟩,
  ⟨1, 0x1004, [(0x1000, 2)], 5, 1, 0, .ro, fun _ => true⟩,
  ⟨1, 0x1008, [(0x1000, 2)], 0, 16, 0xc350, .rw, fun v => 1 ≤ v && v ≤ 50000⟩,
  ⟨1, 0x100C, [(0x1000, 2)], 0, 16, 0x395a, .rw, fun v => 14000 ≤ v && v ≤ 15500⟩,
  ⟨1, 0x1010, [(0x1000, 2)], 0, 12, 0x4e, .rw, fun _ => true⟩,
  ⟨1, 0x1014, [(0x1000, 2)], 0, 17, 0, .rw, fun v => v ≤ 128000⟩]

/-- Rows of the register tables, part 1. -/
def rows1 : List Row := [
  ⟨1, 0x1018, [(0x1000, 2)], 0, 16, 1, .rw, fun v => 1 ≤ v⟩,
  ⟨1, 0x1018, [(0x1000, 2)], 16, 10, 0, .rw, fun _ => true⟩,
  ⟨1, 0x101C, [(0x1000, 2)], 0, 16, 1, .rw, fun v => 1 ≤ v⟩,
  ⟨1, 0x101C, [(0x1000, 2)], 16, 10, 0, .rw, fun _ => true⟩,
  ⟨1, 0x1020, [(0x1000, 2)], 0, 32, 1, .rw, fun v => 1 ≤ v⟩,
  ⟨1, 0x1024, [(0x1000, 2)], 0, 32, 0, .rw, fun _ => true⟩,
  ⟨1, 0x1028, [(0x1000, 2)], 0, 32, 0, .rw, fun _ => true⟩,
  ⟨1, 0x102C, [(0x1000, 2)], 0, 32, 0, .rw, fun _ => true⟩,
  ⟨1, 0x1030, [(0x1000, 2)], 0, 32, 0, .ro, fun _ => true⟩,
  ⟨1, 0x1034, [(0x1000, 2)], 0, 32, 0, .ro, fun _ => true⟩,
  ⟨1, 0x1038, [(0x1000, 2)], 0, 32, 0, .rw, fun _ => true⟩,
  ⟨1, 0x103C, [(0x1000, 2)], 0, 10, 0x14, .rw, fun v => 1 ≤ v && v ≤ 1000⟩,
  ⟨1, 0x1040, [(0x1000, 2)], 0, 32, 0, .ro, fun _ => true⟩,
  ⟨1, 0x1044, [(0x1000, 2)], 0, 32, 0, .ro, fun _ => true⟩,
  ⟨1, 0x1048, [(0x1000, 2)], 0, 32, 0, .ro, fun _ => true⟩,
  ⟨1, 0x104C, [(0x1000, 2)], 0, 32, 0, .ro, fun _ => true⟩,
  ⟨1, 0x1050, [(0x1000, 2)], 0, 32, 0, .ro, fun _ => true⟩,
  ⟨1, 0x1054, [(0x1000, 2)], 0, 32, 0, .ro, fun _ => true⟩,
  ⟨1, 0x1058, [(0x1000, 2)], 0, 1, 0, .w1c, fun _ => true⟩,
  ⟨1, 0x1058, [(0x1000, 2)], 1, 1, 0, .w1c, fun _ => true⟩,
  ⟨1, 0x1058, [(0x1000, 2)], 2, 1, 0, .w1c, fun _ => true⟩,
  ⟨1, 0x1058, [(0x1000, 2)], 3, 1, 0, .w1c, fun _ => true⟩,
  ⟨1, 0x1058, [(0x1000, 2)], 4, 1, 0, .w1c, fun _ => true⟩,
  ⟨1, 0x105C, [(0x1000, 2)], 0, 1, 0, .w1s, fun _ => true⟩,
  ⟨2, 0x0, [], 0, 1, 0, .ro, fun _ => true⟩,
  ⟨2, 0x0, [], 1, 1, 0, .ro, fun _ => true⟩,
  ⟨2, 0x0, [], 2, 1, 0, .ro, fun _ => true⟩,
  ⟨2, 0x0, [], 3, 1, 0, .ro, fun _ => true⟩,
  ⟨2, 0x0, [], 4, 1, 0, .ro, fun _ => true⟩,
  ⟨2, 0x0, [], 5, 1, 0, .ro, fun _ => true⟩,
  ⟨2, 0x1000, [(0x1000, 2)], 0, 1, 1, .rw, fun _ => true⟩,
  ⟨2, 0x1000, [(0x1000, 2)], 1, 1, 1, .rw, fun _ => true⟩,
  ⟨2, 0x1000, [(0x1000, 2)], 2, 1, 0, .rw, fun _ => true⟩,
  ⟨2, 0x1000, [(0x1000, 2)], 3, 1, 0, .rw, fun _ => true⟩,
  ⟨2, 0x1000, [(0x1000, 2)], 4, 1, 0, .rw, fun _ => true⟩,
  ⟨2, 0x1000, [(0x1000, 2)], 31, 1, 0, .w1s, fun _ => true⟩,
  ⟨2, 0x1004, [(0x1000, 2)], 0, 8, 0x14, .rw, fun _ => true⟩,
  ⟨2, 0x1004, [(0x1000, 2)], 8, 8, 0x14, .rw, fun _ => true⟩,
  ⟨2, 0x1008, [(0x1000, 2)], 0, 6, 0, .w1c, fun _ => true⟩,
  ⟨2, 0x100C, [(0x1000, 2)], 0, 32, 0, .ro, fun _ => true⟩]

/-- Rows of the register tables, part 2. -/
def rows2 : List Row := [
  ⟨2, 0x1010, [(0x1000, 2), (0x4, 6)], 0, 32, 0, .ro, fun _ => true⟩,
  ⟨2, 0x1028, [(0x1000, 2)], 0, 1, 0, .rw, fun _ => true⟩,
  ⟨2, 0x1028, [(0x1000, 2)], 4, 3, 0, .rw, fun _ => true⟩,
  ⟨2, 0x1028, [(0x1000, 2)], 8, 4, 0, .rw, fun _ => true⟩,
  ⟨2, 0x1028, [(0x1000, 2)], 16, 16, 0x64, .rw, fun _ => true⟩,
  ⟨2, 0x1100, [(0x1000, 2), (0x10, 16)], 0, 2, 0, .rw, fun v => v ≤ 2⟩,
  ⟨2, 0x1100, [(0x1000, 2), (0x10, 16)], 2, 1, 0, .rw, fun _ => true⟩,
  ⟨2, 0x1100, [(0x1000, 2), (0x10, 16)], 8, 8, 0, .rw, fun v => v ≤ 64⟩,
  ⟨2, 0x1100, [(0x1000, 2), (0x10, 16)], 16, 14, 0, .rw, fun v => v ≤ 8191⟩,
  ⟨2, 0x1104, [(0x1000, 2), (0x10, 16)], 0, 15, 0, .rw, fun v => 200 ≤ v && v ≤ 20000⟩,
  ⟨2, 0x1108, [(0x1000, 2), (0x10, 16)], 0, 17, 0, .rw, fun v => 1000 ≤ v && v ≤ 100000⟩,
  ⟨2, 0x110C, [(0x1000, 2), (0x10, 16)], 0, 13, 0, .rw, fun _ => true⟩,
  ⟨2, 0x110C, [(0x1000, 2), (0x10, 16)], 16, 15, 0, .rw, fun v => 25 ≤ v⟩,
  ⟨2, 0x1400, [(0x1000, 2), (0x4, 16)], 0, 19, 0, .rw, fun _ => true⟩,
  ⟨2, 0x1400, [(0x1000, 2), (0x4, 16)], 20, 4, 0, .rw, fun _ => true⟩,
  ⟨2, 0x1400, [(0x1000, 2), (0x4, 16)], 24, 4, 0, .rw, fun _ => true⟩,
  ⟨2, 0x1400, [(0x1000, 2), (0x4, 16)], 31, 1, 0, .rw, fun _ => true⟩,
  ⟨2, 0x1800, [(0x1000, 2), (0x4, 256)], 0, 32, 0, .rw, fun _ => true⟩,
  ⟨3, 0x0, [], 0, 1, 0, .ro, fun _ => true⟩,
  ⟨3, 0x0, [], 1, 1, 0, .ro, fun _ => true⟩,
  ⟨3, 0x0, [], 2, 1, 0, .ro, fun _ => true⟩,
  ⟨3, 0x0, [], 3, 1, 0, .ro, fun _ => true⟩,
  ⟨3, 0x1000, [(0x1000, 2)], 0, 2, 0, .rw, fun v => v ≤ 2⟩,
  ⟨3, 0x1000, [(0x1000, 2)], 2, 1, 0, .rw, fun _ => true⟩,
  ⟨3, 0x1000, [(0x1000, 2)], 31, 1, 0, .w1s, fun _ => true⟩,
  ⟨3, 0x1004, [(0x1000, 2)], 0, 5, 0xc, .rw, fun _ => true⟩,
  ⟨3, 0x1004, [(0x1000, 2)], 8, 4, 0xb, .rw, fun _ => true⟩,
  ⟨3, 0x1004, [(0x1000, 2)], 16, 4, 0xa, .rw, fun _ => true⟩,
  ⟨3, 0x1008, [(0x1000, 2)], 0, 4, 8, .rw, fun _ => true⟩,
  ⟨3, 0x1008, [(0x1000, 2)], 4, 1, 0, .rw, fun _ => true⟩,
  ⟨3, 0x1008, [(0x1000, 2)], 5, 1, 1, .rw, fun _ => true⟩,
  ⟨3, 0x1008, [(0x1000, 2)], 8, 8, 0x1a, .rw, fun _ => true⟩,
  ⟨3, 0x1008, [(0x1000, 2)], 16, 1, 0, .w1s, fun _ => true⟩,
  ⟨3, 0x1008, [(0x1000, 2)], 17, 1, 0, .w1s, fun _ => true⟩,
  ⟨3, 0x100C, [(0x1000, 2)], 0, 16, 0, .rw, fun _ => true⟩,
  ⟨3, 0x1010, [(0x1000, 2)], 0, 12, 0x40, .rw, fun _ => true⟩,
  ⟨3, 0x1014, [(0x1000, 2)], 0, 1, 0, .rw, fun _ => true⟩,
  ⟨3, 0x1014, [(0x1000, 2)], 1, 3, 0, .rw, fun _ => true⟩,
  ⟨3, 0x1014, [(0x1000, 2)], 4, 9, 0xfa, .rw, fun v => 100 ≤ v && v ≤ 400⟩,
  ⟨3, 0x1014, [(0x1000, 2)], 16, 8, 0, .rw, fun _ => true⟩]

/-- Rows of the register tables, part 3. -/
def rows3 : List Row := [
  ⟨3, 0x1014, [(0x1000, 2)], 24, 5, 0x10, .rw, fun _ => true⟩,
  ⟨3, 0x1018, [(0x1000, 2)], 0, 32, 0, .ro, fun _ => true⟩,
  ⟨3, 0x101C, [(0x1000, 2)], 0, 32, 0, .ro, fun _ => true⟩,
  ⟨3, 0x1020, [(0x1000, 2)], 0, 32, 0, .ro, fun _ => true⟩,
  ⟨3, 0x1024, [(0x1000, 2)], 0, 32, 0, .ro, fun _ => true⟩,
  ⟨3, 0x1028, [(0x1000, 2)], 0, 32, 0, .ro, fun _ => true⟩,
  ⟨3, 0x102C, [(0x1000, 2)], 0, 32, 0, .ro, fun _ => true⟩,
  ⟨3, 0x1030, [(0x1000, 2)], 0, 32, 0, .ro, fun _ => true⟩,
  ⟨3, 0x1034, [(0x1000, 2)], 0, 1, 0, .w1c, fun _ => true⟩,
  ⟨3, 0x1034, [(0x1000, 2)], 1, 1, 0, .w1c, fun _ => true⟩,
  ⟨3, 0x1034, [(0x1000, 2)], 2, 1, 0, .w1c, fun _ => true⟩,
  ⟨3, 0x1034, [(0x1000, 2)], 3, 1, 0, .w1c, fun _ => true⟩,
  ⟨3, 0x3000, [(0x10, 16)], 0, 1, 0, .ro, fun _ => true⟩,
  ⟨3, 0x3000, [(0x10, 16)], 1, 1, 0, .ro, fun _ => true⟩,
  ⟨3, 0x3000, [(0x10, 16)], 2, 1, 0, .ro, fun _ => true⟩,
  ⟨3, 0x3000, [(0x10, 16)], 16, 16, 0, .ro, fun _ => true⟩,
  ⟨3, 0x3004, [(0x10, 16)], 0, 32, 0, .ro, fun _ => true⟩,
  ⟨4, 0x1000, [(0x1000, 2)], 0, 1, 0, .rw, fun _ => true⟩,
  ⟨4, 0x1000, [(0x1000, 2)], 1, 1, 0, .rw, fun _ => true⟩,
  ⟨4, 0x1000, [(0x1000, 2)], 2, 1, 0, .rw, fun _ => true⟩,
  ⟨4, 0x1000, [(0x1000, 2)], 4, 3, 0, .rw, fun v => v ≤ 5⟩,
  ⟨4, 0x1000, [(0x1000, 2)], 8, 2, 0, .rw, fun _ => true⟩,
  ⟨4, 0x1000, [(0x1000, 2)], 31, 1, 0, .w1s, fun _ => true⟩,
  ⟨4, 0x1004, [(0x1000, 2)], 0, 9, 0x40, .rw, fun v => 1 ≤ v && v ≤ 384⟩,
  ⟨4, 0x1008, [(0x1000, 2)], 0, 24, 0x2710, .rw, fun _ => true⟩,
  ⟨4, 0x100C, [(0x1000, 2)], 0, 16, 1, .rw, fun v => 1 ≤ v⟩,
  ⟨4, 0x100C, [(0x1000, 2)], 16, 16, 1, .rw, fun v => 1 ≤ v⟩,
  ⟨4, 0x1010, [(0x1000, 2)], 0, 32, 0, .rw, fun _ => true⟩,
  ⟨4, 0x1014, [(0x1000, 2)], 0, 1, 0, .ro, fun _ => true⟩,
  ⟨4, 0x1014, [(0x1000, 2)], 1, 1, 0, .ro, fun _ => true⟩,
  ⟨4, 0x1014, [(0x1000, 2)], 2, 1, 0, .ro, fun _ => true⟩,
  ⟨4, 0x1014, [(0x1000, 2)], 3, 1, 0, .ro, fun _ => true⟩,
  ⟨4, 0x1014, [(0x1000, 2)], 4, 1, 0, .ro, fun _ => true⟩,
  ⟨4, 0x1014, [(0x1000, 2)], 5, 1, 0, .ro, fun _ => true⟩,
  ⟨4, 0x1018, [(0x1000, 2)], 0, 13, 0, .ro, fun _ => true⟩,
  ⟨4, 0x1018, [(0x1000, 2)], 16, 13, 0, .ro, fun _ => true⟩,
  ⟨4, 0x101C, [(0x1000, 2)], 0, 32, 0, .ro, fun _ => true⟩,
  ⟨4, 0x1020, [(0x1000, 2)], 0, 32, 0, .ro, fun _ => true⟩,
  ⟨4, 0x1024, [(0x1000, 2)], 0, 16, 0, .ro, fun _ => true⟩,
  ⟨4, 0x1028, [(0x1000, 2)], 0, 4, 0, .ro, fun _ => true⟩]

/-- Rows of the register tables, part 4. -/
def rows4 : List Row := [
  ⟨4, 0x102C, [(0x1000, 2)], 0, 32, 0, .ro, fun _ => true⟩,
  ⟨4, 0x1030, [(0x1000, 2)], 12, 20, 0, .rw, fun _ => true⟩,
  ⟨4, 0x1034, [(0x1000, 2)], 0, 8, 0, .rw, fun _ => true⟩,
  ⟨4, 0x1038, [(0x1000, 2)], 12, 20, 0, .rw, fun _ => true⟩,
  ⟨4, 0x103C, [(0x1000, 2)], 0, 8, 0, .rw, fun _ => true⟩,
  ⟨4, 0x1040, [(0x1000, 2)], 0, 32, 0, .ro, fun _ => true⟩,
  ⟨4, 0x1044, [(0x1000, 2)], 0, 32, 0, .ro, fun _ => true⟩,
  ⟨4, 0x1048, [(0x1000, 2)], 0, 1, 0, .w1c, fun _ => true⟩,
  ⟨4, 0x1048, [(0x1000, 2)], 1, 1, 0, .w1c, fun _ => true⟩,
  ⟨4, 0x104C, [(0x1000, 2)], 0, 32, 0, .ro, fun _ => true⟩,
  ⟨4, 0x1050, [(0x1000, 2)], 0, 32, 0, .ro, fun _ => true⟩,
  ⟨4, 0x1054, [(0x1000, 2)], 0, 32, 0, .ro, fun _ => true⟩,
  ⟨4, 0x1058, [(0x1000, 2)], 0, 1, 0, .w1s, fun _ => true⟩,
  ⟨4, 0x1100, [(0x1000, 2), (0x20, 16)], 0, 1, 0, .rw, fun _ => true⟩,
  ⟨4, 0x1100, [(0x1000, 2), (0x20, 16)], 1, 3, 0, .rw, fun v => v ≤ 5⟩,
  ⟨4, 0x1104, [(0x1000, 2), (0x20, 16)], 0, 17, 0, .rw, fun _ => true⟩,
  ⟨4, 0x1108, [(0x1000, 2), (0x20, 16)], 0, 15, 0x10, .rw, fun v => 16 ≤ v && v ≤ 16384⟩,
  ⟨4, 0x110C, [(0x1000, 2), (0x20, 16)], 0, 24, 0x2710, .rw, fun _ => true⟩,
  ⟨4, 0x1110, [(0x1000, 2), (0x20, 16)], 0, 16, 1, .rw, fun v => 1 ≤ v⟩,
  ⟨4, 0x1110, [(0x1000, 2), (0x20, 16)], 16, 16, 1, .rw, fun v => 1 ≤ v⟩,
  ⟨4, 0x1114, [(0x1000, 2), (0x20, 16)], 0, 1, 0, .ro, fun _ => true⟩,
  ⟨4, 0x1114, [(0x1000, 2), (0x20, 16)], 16, 16, 0, .ro, fun _ => true⟩,
  ⟨5, 0x0, [], 0, 1, 1, .rw, fun _ => true⟩,
  ⟨5, 0x0, [], 31, 1, 0, .w1s, fun _ => true⟩,
  ⟨5, 0x4, [], 0, 2, 1, .rw, fun v => v ≤ 2⟩,
  ⟨5, 0x4, [], 4, 2, 1, .rw, fun v => v ≤ 2⟩,
  ⟨5, 0x4, [], 8, 2, 1, .rw, fun v => v ≤ 2⟩,
  ⟨5, 0x4, [], 12, 2, 1, .rw, fun v => v ≤ 2⟩,
  ⟨5, 0x4, [], 16, 2, 1, .rw, fun v => v ≤ 2⟩,
  ⟨5, 0x4, [], 20, 2, 1, .rw, fun v => v ≤ 2⟩,
  ⟨5, 0x4, [], 24, 2, 2, .rw, fun v => v ≤ 2⟩,
  ⟨5, 0x4, [], 28, 2, 2, .rw, fun v => v ≤ 2⟩,
  ⟨5, 0x8, [], 0, 2, 2, .rw, fun v => v ≤ 2⟩,
  ⟨5, 0x8, [], 4, 2, 2, .rw, fun v => v ≤ 2⟩,
  ⟨5, 0x8, [], 8, 2, 2, .rw, fun v => v ≤ 2⟩,
  ⟨5, 0x8, [], 12, 2, 2, .rw, fun v => v ≤ 2⟩,
  ⟨5, 0x8, [], 16, 2, 0, .rw, fun v => v ≤ 2⟩,
  ⟨5, 0x8, [], 20, 2, 0, .rw, fun v => v ≤ 2⟩,
  ⟨5, 0x8, [], 24, 2, 0, .rw, fun v => v ≤ 2⟩,
  ⟨5, 0x8, [], 28, 2, 0, .rw, fun v => v ≤ 2⟩]

/-- Rows of the register tables, part 5. -/
def rows5 : List Row := [
  ⟨5, 0xC, [], 0, 8, 0x14, .rw, fun v => 2 ≤ v && v ≤ 200⟩,
  ⟨5, 0xC, [], 16, 8, 0x14, .rw, fun v => 2 ≤ v && v ≤ 200⟩,
  ⟨5, 0x10, [], 0, 16, 0, .ro, fun _ => true⟩,
  ⟨5, 0x10, [], 16, 16, 0, .ro, fun _ => true⟩,
  ⟨5, 0x14, [], 0, 16, 0, .w1c, fun _ => true⟩,
  ⟨5, 0x14, [], 16, 16, 0, .w1c, fun _ => true⟩,
  ⟨5, 0x18, [], 0, 16, 0, .rw, fun _ => true⟩,
  ⟨5, 0x18, [], 16, 16, 0, .rw, fun _ => true⟩,
  ⟨5, 0x1000, [(0x100, 16)], 0, 1, 0, .w1s, fun _ => true⟩,
  ⟨5, 0x1000, [(0x100, 16)], 1, 1, 0, .w1s, fun _ => true⟩,
  ⟨5, 0x1004, [(0x100, 16)], 0, 2, 0, .ro, fun _ => true⟩,
  ⟨5, 0x1004, [(0x100, 16)], 2, 1, 0, .ro, fun _ => true⟩,
  ⟨5, 0x1004, [(0x100, 16)], 3, 1, 0, .ro, fun _ => true⟩,
  ⟨5, 0x1004, [(0x100, 16)], 4, 2, 0, .ro, fun _ => true⟩,
  ⟨5, 0x1004, [(0x100, 16)], 16, 13, 0, .ro, fun _ => true⟩,
  ⟨5, 0x1008, [(0x100, 16)], 0, 4, 0, .ro, fun _ => true⟩,
  ⟨5, 0x1008, [(0x100, 16)], 16, 13, 0, .ro, fun _ => true⟩,
  ⟨5, 0x100C, [(0x100, 16)], 0, 16, 0, .ro, fun _ => true⟩,
  ⟨5, 0x100C, [(0x100, 16)], 16, 2, 0, .ro, fun _ => true⟩,
  ⟨5, 0x1010, [(0x100, 16)], 0, 17, 0, .rw, fun _ => true⟩,
  ⟨5, 0x1014, [(0x100, 16)], 0, 17, 0, .rw, fun _ => true⟩,
  ⟨5, 0x1018, [(0x100, 16)], 0, 1, 0, .ro, fun _ => true⟩,
  ⟨5, 0x1018, [(0x100, 16)], 1, 1, 0, .ro, fun _ => true⟩,
  ⟨5, 0x1018, [(0x100, 16)], 2, 1, 0, .ro, fun _ => true⟩,
  ⟨5, 0x1018, [(0x100, 16)], 4, 3, 0, .ro, fun _ => true⟩,
  ⟨5, 0x101C, [(0x100, 16)], 0, 1, 0, .ro, fun _ => true⟩,
  ⟨5, 0x101C, [(0x100, 16)], 1, 1, 0, .ro, fun _ => true⟩,
  ⟨5, 0x101C, [(0x100, 16)], 2, 1, 0, .ro, fun _ => true⟩,
  ⟨5, 0x101C, [(0x100, 16)], 4, 3, 0, .ro, fun _ => true⟩,
  ⟨5, 0x1020, [(0x100, 16)], 0, 32, 0, .ro, fun _ => true⟩,
  ⟨5, 0x1024, [(0x100, 16)], 0, 32, 0, .ro, fun _ => true⟩,
  ⟨5, 0x1028, [(0x100, 16)], 0, 32, 0, .ro, fun _ => true⟩,
  ⟨6, 0x0, [], 0, 1, 0, .ro, fun _ => true⟩,
  ⟨6, 0x0, [], 1, 1, 0, .w1c, fun _ => true⟩,
  ⟨6, 0x0, [], 2, 1, 0, .ro, fun _ => true⟩,
  ⟨6, 0x1000, [(0x1000, 2)], 0, 1, 0, .rw, fun _ => true⟩,
  ⟨6, 0x1000, [(0x1000, 2)], 1, 1, 0, .rw, fun _ => true⟩,
  ⟨6, 0x1000, [(0x1000, 2)], 2, 2, 0, .rw, fun v => v ≤ 2⟩,
  ⟨6, 0x1000, [(0x1000, 2)], 31, 1, 0, .w1s, fun _ => true⟩,
  ⟨6, 0x1004, [(0x1000, 2)], 0, 32, 0x2710, .rw, fun v => v ≤ 2147483648⟩]

/-- Rows of the register tables, part 6. -/
def rows6 : List Row := [
  ⟨6, 0x1008, [(0x1000, 2)], 0, 32, 0, .rw, fun _ => true⟩,
  ⟨6, 0x100C, [(0x1000, 2)], 12, 20, 0, .rw, fun _ => true⟩,
  ⟨6, 0x1010, [(0x1000, 2)], 0, 8, 0, .rw, fun _ => true⟩,
  ⟨6, 0x1014, [(0x1000, 2)], 12, 20, 0, .rw, fun _ => true⟩,
  ⟨6, 0x1018, [(0x1000, 2)], 0, 8, 0, .rw, fun _ => true⟩,
  ⟨6, 0x101C, [(0x1000, 2)], 0, 32, 0, .ro, fun _ => true⟩,
  ⟨6, 0x1020, [(0x1000, 2)], 0, 32, 0, .ro, fun _ => true⟩,
  ⟨6, 0x1024, [(0x1000, 2)], 0, 7, 0x3c, .rw, fun v => 1 ≤ v && v ≤ 90⟩,
  ⟨6, 0x1028, [(0x1000, 2)], 0, 32, 0, .ro, fun _ => true⟩,
  ⟨6, 0x102C, [], 0, 4, 0xc, .rw, fun _ => true⟩,
  ⟨6, 0x202C, [], 0, 4, 0xd, .rw, fun _ => true⟩,
  ⟨6, 0x1030, [(0x1000, 2), (0x4, 2)], 0, 15, 0, .rw, fun _ => true⟩,
  ⟨6, 0x1030, [(0x1000, 2), (0x4, 2)], 16, 15, 0, .rw, fun _ => true⟩,
  ⟨6, 0x1038, [(0x1000, 2), (0x4, 2)], 0, 24, 0, .rw, fun _ => true⟩,
  ⟨6, 0x1038, [(0x1000, 2), (0x4, 2)], 31, 1, 0, .rw, fun _ => true⟩,
  ⟨6, 0x1040, [(0x1000, 2)], 0, 1, 0, .ro, fun _ => true⟩,
  ⟨6, 0x1040, [(0x1000, 2)], 1, 1, 0, .ro, fun _ => true⟩,
  ⟨6, 0x1040, [(0x1000, 2)], 2, 1, 0, .ro, fun _ => true⟩,
  ⟨6, 0x1044, [(0x1000, 2)], 0, 1, 0, .w1c, fun _ => true⟩,
  ⟨6, 0x1044, [(0x1000, 2)], 1, 1, 0, .w1c, fun _ => true⟩,
  ⟨6, 0x1044, [(0x1000, 2)], 2, 1, 0, .w1c, fun _ => true⟩,
  ⟨6, 0x1044, [(0x1000, 2)], 3, 1, 0, .w1c, fun _ => true⟩,
  ⟨6, 0x1048, [(0x1000, 2)], 0, 32, 0, .ro, fun _ => true⟩,
  ⟨6, 0x104C, [(0x1000, 2)], 0, 32, 0, .ro, fun _ => true⟩,
  ⟨6, 0x1050, [(0x1000, 2)], 0, 32, 0, .ro, fun _ => true⟩,
  ⟨6, 0x1054, [(0x1000, 2)], 0, 32, 0, .ro, fun _ => true⟩,
  ⟨7, 0x0, [], 0, 2, 0, .ro, fun _ => true⟩,
  ⟨7, 0x0, [], 2, 1, 0, .w1c, fun _ => true⟩,
  ⟨7, 0x0, [], 3, 1, 0, .ro, fun _ => true⟩,
  ⟨7, 0x4, [], 0, 1, 0, .w1c, fun _ => true⟩,
  ⟨7, 0x4, [], 1, 1, 0, .w1c, fun _ => true⟩,
  ⟨7, 0x4, [], 2, 1, 0, .rw, fun _ => true⟩,
  ⟨7, 0x4, [], 3, 1, 0, .rw, fun _ => true⟩,
  ⟨7, 0x4, [], 8, 24, 0x2710, .rw, fun v => 1 ≤ v⟩,
  ⟨7, 0x8, [], 0, 1, 0, .rw, fun _ => true⟩,
  ⟨7, 0x8, [], 1, 1, 0, .rw, fun _ => true⟩,
  ⟨7, 0x8, [], 2, 1, 0, .rw, fun _ => true⟩,
  ⟨7, 0x8, [], 3, 1, 0, .rw, fun _ => true⟩,
  ⟨7, 0x8, [], 4, 1, 0, .rw, fun _ => true⟩,
  ⟨7, 0x10, [], 0, 1, 0, .rw, fun _ => true⟩]

/-- Rows of the register tables, part 7. -/
def rows7 : List Row := [
  ⟨7, 0x10, [], 1, 1, 0, .rw, fun _ => true⟩,
  ⟨7, 0x10, [], 2, 1, 0, .rw, fun _ => true⟩,
  ⟨7, 0x10, [], 3, 1, 0, .rw, fun _ => true⟩,
  ⟨7, 0x10, [], 4, 3, 0, .rw, fun _ => true⟩,
  ⟨7, 0x10, [], 8, 4, 0, .rw, fun v => v ≤ 8⟩,
  ⟨7, 0x14, [], 0, 18, 0, .rw, fun _ => true⟩,
  ⟨7, 0x18, [], 0, 18, 0x400, .rw, fun v => 1 ≤ v⟩,
  ⟨7, 0x1C, [], 0, 8, 1, .rw, fun v => 1 ≤ v⟩,
  ⟨7, 0x1C, [], 8, 8, 0, .rw, fun _ => true⟩,
  ⟨7, 0x20, [], 0, 8, 0, .ro, fun _ => true⟩,
  ⟨7, 0x20, [], 8, 8, 0, .ro, fun _ => true⟩,
  ⟨7, 0x1000, [(0x1000, 2)], 0, 1, 0, .rw, fun _ => true⟩,
  ⟨7, 0x1000, [(0x1000, 2)], 31, 1, 0, .w1s, fun _ => true⟩,
  ⟨7, 0x1004, [(0x1000, 2)], 0, 1, 0, .rw, fun _ => true⟩,
  ⟨7, 0x1004, [(0x1000, 2)], 8, 24, 0, .rw, fun _ => true⟩,
  ⟨7, 0x1008, [(0x1000, 2)], 0, 1, 0, .rw, fun _ => true⟩,
  ⟨7, 0x1008, [(0x1000, 2)], 1, 1, 0, .rw, fun _ => true⟩,
  ⟨7, 0x1008, [(0x1000, 2)], 2, 1, 0, .rw, fun _ => true⟩,
  ⟨7, 0x1008, [(0x1000, 2)], 3, 1, 0, .rw, fun _ => true⟩,
  ⟨7, 0x1008, [(0x1000, 2)], 4, 1, 0, .rw, fun _ => true⟩,
  ⟨7, 0x1008, [(0x1000, 2)], 8, 3, 0, .rw, fun v => v ≤ 4⟩,
  ⟨7, 0x1008, [(0x1000, 2)], 12, 4, 0, .rw, fun v => v ≤ 8⟩,
  ⟨7, 0x1008, [(0x1000, 2)], 16, 15, 0x4000, .rw, fun v => 1 ≤ v && v ≤ 16384⟩,
  ⟨7, 0x100C, [(0x1000, 2)], 0, 16, 0x100, .rw, fun v => 1 ≤ v⟩,
  ⟨7, 0x100C, [(0x1000, 2)], 16, 8, 0x20, .rw, fun _ => true⟩,
  ⟨7, 0x1010, [(0x1000, 2)], 0, 1, 0, .ro, fun _ => true⟩,
  ⟨7, 0x1010, [(0x1000, 2)], 1, 1, 0, .ro, fun _ => true⟩,
  ⟨7, 0x1010, [(0x1000, 2)], 2, 1, 0, .ro, fun _ => true⟩,
  ⟨7, 0x1010, [(0x1000, 2)], 3, 1, 0, .ro, fun _ => true⟩,
  ⟨7, 0x1014, [(0x1000, 2)], 0, 32, 0, .ro, fun _ => true⟩,
  ⟨7, 0x1018, [(0x1000, 2)], 0, 32, 0, .ro, fun _ => true⟩,
  ⟨7, 0x101C, [(0x1000, 2)], 0, 32, 0, .ro, fun _ => true⟩,
  ⟨7, 0x1020, [(0x1000, 2)], 0, 32, 0, .ro, fun _ => true⟩,
  ⟨7, 0x1024, [(0x1000, 2)], 0, 32, 0, .ro, fun _ => true⟩,
  ⟨7, 0x1028, [(0x1000, 2)], 0, 1, 0, .w1c, fun _ => true⟩,
  ⟨7, 0x1028, [(0x1000, 2)], 1, 1, 0, .w1c, fun _ => true⟩,
  ⟨7, 0x1028, [(0x1000, 2)], 2, 1, 0, .w1c, fun _ => true⟩,
  ⟨7, 0x102C, [(0x1000, 2)], 0, 32, 0, .ro, fun _ => true⟩,
  ⟨7, 0x1030, [(0x1000, 2)], 0, 32, 0, .ro, fun _ => true⟩,
  ⟨7, 0x1034, [(0x1000, 2)], 0, 1, 0, .ro, fun _ => true⟩]

/-- Rows of the register tables, part 8. -/
def rows8 : List Row := [
  ⟨7, 0x1034, [(0x1000, 2)], 8, 6, 0, .ro, fun _ => true⟩,
  ⟨7, 0x1038, [(0x1000, 2)], 0, 18, 0, .ro, fun _ => true⟩,
  ⟨7, 0x103C, [(0x1000, 2)], 0, 24, 0, .ro, fun _ => true⟩,
  ⟨7, 0x1040, [(0x1000, 2)], 0, 32, 0, .ro, fun _ => true⟩,
  ⟨7, 0x1044, [(0x1000, 2)], 0, 32, 0, .ro, fun _ => true⟩,
  ⟨7, 0x1100, [(0x1000, 2), (0x10, 32)], 0, 1, 0, .rw, fun _ => true⟩,
  ⟨7, 0x1100, [(0x1000, 2), (0x10, 32)], 1, 1, 0, .rw, fun _ => true⟩,
  ⟨7, 0x1100, [(0x1000, 2), (0x10, 32)], 2, 1, 0, .rw, fun _ => true⟩,
  ⟨7, 0x1100, [(0x1000, 2), (0x10, 32)], 3, 1, 0, .rw, fun _ => true⟩,
  ⟨7, 0x1100, [(0x1000, 2), (0x10, 32)], 4, 1, 0, .rw, fun _ => true⟩,
  ⟨7, 0x1100, [(0x1000, 2), (0x10, 32)], 8, 4, 0, .rw, fun _ => true⟩,
  ⟨7, 0x1104, [(0x1000, 2), (0x10, 32)], 0, 18, 0, .rw, fun _ => true⟩,
  ⟨7, 0x1108, [(0x1000, 2), (0x10, 32)], 0, 24, 0, .rw, fun _ => true⟩,
  ⟨7, 0x110C, [(0x1000, 2), (0x10, 32)], 0, 24, 0, .rw, fun _ => true⟩,
  ⟨8, 0x0, [], 0, 1, 0, .rw, fun _ => true⟩,
  ⟨8, 0x0, [], 1, 1, 0, .rw, fun _ => true⟩,
  ⟨8, 0x0, [], 31, 1, 0, .w1s, fun _ => true⟩,
  ⟨8, 0x4, [], 0, 1, 0, .ro, fun _ => true⟩,
  ⟨8, 0x4, [], 1, 1, 0, .ro, fun _ => true⟩,
  ⟨8, 0x4, [], 2, 1, 0, .ro, fun _ => true⟩,
  ⟨8, 0x4, [], 3, 1, 0, .ro, fun _ => true⟩,
  ⟨8, 0x4, [], 4, 1, 0, .ro, fun _ => true⟩,
  ⟨8, 0x4, [], 5, 1, 0, .ro, fun _ => true⟩,
  ⟨8, 0x8, [], 0, 18, 0, .rw, fun _ => true⟩,
  ⟨8, 0xC, [], 0, 18, 0, .rw, fun _ => true⟩,
  ⟨8, 0x10, [], 0, 2, 0, .rw, fun _ => true⟩,
  ⟨8, 0x10, [], 2, 2, 0, .rw, fun _ => true⟩,
  ⟨8, 0x10, [], 4, 2, 0, .rw, fun _ => true⟩,
  ⟨8, 0x10, [], 16, 16, 0, .rw, fun _ => true⟩,
  ⟨8, 0x14, [], 0, 2, 0, .rw, fun _ => true⟩,
  ⟨8, 0x14, [], 2, 2, 0, .rw, fun _ => true⟩,
  ⟨8, 0x14, [], 4, 2, 0, .rw, fun _ => true⟩,
  ⟨8, 0x14, [], 16, 16, 0, .rw, fun _ => true⟩,
  ⟨8, 0x18, [], 12, 20, 0, .rw, fun _ => true⟩,
  ⟨8, 0x1C, [], 0, 8, 0, .rw, fun _ => true⟩,
  ⟨8, 0x20, [], 0, 32, 0xd00, .ro, fun _ => true⟩,
  ⟨8, 0x24, [], 0, 32, 0, .ro, fun _ => true⟩,
  ⟨8, 0x28, [], 0, 32, 0, .ro, fun _ => true⟩,
  ⟨8, 0x2C, [], 0, 32, 0, .ro, fun _ => true⟩,
  ⟨8, 0x30, [], 0, 32, 0, .ro, fun _ => true⟩]

/-- Rows of the register tables, part 9. -/
def rows9 : List Row := [
  ⟨8, 0x34, [], 0, 32, 0, .ro, fun _ => true⟩,
  ⟨8, 0x38, [], 0, 1, 0, .w1c, fun _ => true⟩,
  ⟨8, 0x38, [], 1, 1, 0, .w1c, fun _ => true⟩,
  ⟨8, 0x38, [], 2, 1, 0, .w1c, fun _ => true⟩,
  ⟨8, 0x38, [], 3, 1, 0, .w1c, fun _ => true⟩,
  ⟨8, 0x3C, [], 0, 1, 0, .rw, fun _ => true⟩,
  ⟨8, 0x3C, [], 1, 1, 0, .rw, fun _ => true⟩,
  ⟨8, 0x3C, [], 2, 1, 0, .rw, fun _ => true⟩,
  ⟨8, 0x40, [], 0, 4, 0, .ro, fun _ => true⟩,
  ⟨8, 0x44, [], 0, 19, 0x40000, .ro, fun _ => true⟩,
  ⟨8, 0x48, [], 0, 32, 0, .ro, fun _ => true⟩,
  ⟨9, 0x0, [], 0, 1, 0, .rw, fun _ => true⟩,
  ⟨9, 0x0, [], 1, 1, 0, .rw, fun _ => true⟩,
  ⟨9, 0x4, [], 0, 1, 0, .ro, fun _ => true⟩,
  ⟨9, 0x4, [], 1, 1, 0, .ro, fun _ => true⟩,
  ⟨9, 0x4, [], 2, 1, 0, .ro, fun _ => true⟩,
  ⟨9, 0xC, [], 0, 8, 0, .w1c, fun _ => true⟩,
  ⟨9, 0xC, [], 8, 8, 0, .w1c, fun _ => true⟩,
  ⟨9, 0xC, [], 16, 1, 0, .w1c, fun _ => true⟩,
  ⟨9, 0x10, [], 0, 8, 0, .rw, fun _ => true⟩,
  ⟨9, 0x10, [], 8, 8, 0, .rw, fun _ => true⟩,
  ⟨9, 0x10, [], 16, 1, 0, .rw, fun _ => true⟩,
  ⟨9, 0x1000, [(0x100, 8)], 0, 1, 0, .rw, fun _ => true⟩,
  ⟨9, 0x1000, [(0x100, 8)], 1, 1, 0, .rw, fun _ => true⟩,
  ⟨9, 0x1000, [(0x100, 8)], 2, 1, 0, .rw, fun _ => true⟩,
  ⟨9, 0x1000, [(0x100, 8)], 3, 1, 0, .rw, fun _ => true⟩,
  ⟨9, 0x1000, [(0x100, 8)], 4, 1, 1, .rw, fun _ => true⟩,
  ⟨9, 0x1000, [(0x100, 8)], 5, 1, 0, .w1s, fun _ => true⟩,
  ⟨9, 0x1000, [(0x100, 8)], 31, 1, 0, .w1s, fun _ => true⟩,
  ⟨9, 0x1004, [(0x100, 8)], 0, 4, 0, .ro, fun _ => true⟩,
  ⟨9, 0x1004, [(0x100, 8)], 4, 1, 0, .ro, fun _ => true⟩,
  ⟨9, 0x1004, [(0x100, 8)], 5, 1, 0, .ro, fun _ => true⟩,
  ⟨9, 0x1004, [(0x100, 8)], 6, 1, 0, .ro, fun _ => true⟩,
  ⟨9, 0x1004, [(0x100, 8)], 7, 1, 0, .ro, fun _ => true⟩,
  ⟨9, 0x1004, [(0x100, 8)], 8, 1, 0, .ro, fun _ => true⟩,
  ⟨9, 0x1004, [(0x100, 8)], 9, 1, 0, .ro, fun _ => true⟩,
  ⟨9, 0x1004, [(0x100, 8)], 16, 4, 0, .ro, fun _ => true⟩,
  ⟨9, 0x1004, [(0x100, 8)], 24, 4, 0, .ro, fun _ => true⟩,
  ⟨9, 0x1008, [(0x100, 8)], 0, 4, 0xc, .rw, fun _ => true⟩,
  ⟨9, 0x1008, [(0x100, 8)], 4, 3, 0, .rw, fun _ => true⟩]

/-- Rows of the register tables, part 10. -/
def rows10 : List Row := [
  ⟨9, 0x1008, [(0x100, 8)], 8, 4, 4, .rw, fun _ => true⟩,
  ⟨9, 0x100C, [(0x100, 8)], 0, 4, 6, .rw, fun _ => true⟩,
  ⟨9, 0x100C, [(0x100, 8)], 8, 4, 0, .rw, fun _ => true⟩,
  ⟨9, 0x100C, [(0x100, 8)], 12, 4, 0xf, .rw, fun _ => true⟩,
  ⟨9, 0x1010, [(0x100, 8)], 0, 8, 0xa, .rw, fun v => 1 ≤ v⟩,
  ⟨9, 0x1010, [(0x100, 8)], 8, 8, 0xa, .rw, fun v => 1 ≤ v⟩,
  ⟨9, 0x1010, [(0x100, 8)], 16, 6, 0x10, .rw, fun v => 16 ≤ v⟩,
  ⟨9, 0x1014, [(0x100, 8)], 0, 2, 0, .rw, fun _ => true⟩,
  ⟨9, 0x1014, [(0x100, 8)], 2, 2, 0, .rw, fun _ => true⟩,
  ⟨9, 0x1014, [(0x100, 8)], 4, 3, 0, .rw, fun v => v ≤ 3⟩,
  ⟨9, 0x1014, [(0x100, 8)], 7, 1, 0, .w1s, fun _ => true⟩,
  ⟨9, 0x1014, [(0x100, 8)], 8, 5, 0, .rw, fun _ => true⟩,
  ⟨9, 0x1018, [(0x100, 8)], 0, 1, 0, .ro, fun _ => true⟩,
  ⟨9, 0x101C, [(0x100, 8)], 0, 32, 0, .ro, fun _ => true⟩,
  ⟨9, 0x1020, [(0x100, 8)], 0, 32, 0, .ro, fun _ => true⟩,
  ⟨9, 0x1024, [(0x100, 8)], 0, 1, 0, .w1s, fun _ => true⟩,
  ⟨9, 0x1024, [(0x100, 8)], 1, 6, 0x14, .rw, fun _ => true⟩,
  ⟨9, 0x1024, [(0x100, 8)], 8, 7, 0, .rw, fun _ => true⟩,
  ⟨9, 0x1024, [(0x100, 8)], 16, 7, 0, .rw, fun _ => true⟩,
  ⟨9, 0x1024, [(0x100, 8)], 31, 1, 0, .w1s, fun _ => true⟩,
  ⟨9, 0x1028, [(0x100, 8)], 0, 1, 0, .ro, fun _ => true⟩,
  ⟨9, 0x1028, [(0x100, 8)], 1, 1, 0, .w1c, fun _ => true⟩,
  ⟨9, 0x1028, [(0x100, 8)], 2, 1, 0, .w1c, fun _ => true⟩,
  ⟨9, 0x102C, [(0x100, 8)], 0, 32, 0, .ro, fun _ => true⟩,
  ⟨9, 0x1030, [(0x100, 8)], 0, 32, 0, .ro, fun _ => true⟩,
  ⟨9, 0x1034, [(0x100, 8)], 0, 32, 0, .ro, fun _ => true⟩,
  ⟨9, 0x1038, [(0x100, 8)], 0, 32, 0, .ro, fun _ => true⟩,
  ⟨9, 0x103C, [(0x100, 8)], 0, 32, 0, .ro, fun _ => true⟩,
  ⟨9, 0x1040, [(0x100, 8)], 0, 32, 0, .ro, fun _ => true⟩,
  ⟨10, 0x0, [], 31, 1, 0, .w1s, fun _ => true⟩,
  ⟨10, 0x4, [], 0, 2, 0, .rw, fun v => v ≤ 2⟩,
  ⟨10, 0x4, [], 4, 4, 0, .rw, fun _ => true⟩,
  ⟨10, 0x8, [], 0, 3, 0, .ro, fun _ => true⟩,
  ⟨10, 0xC, [], 0, 16, 0x64, .rw, fun v => 10 ≤ v && v ≤ 10000⟩,
  ⟨10, 0xC, [], 16, 16, 0x3e8, .rw, fun v => 100 ≤ v && v ≤ 60000⟩,
  ⟨10, 0x10, [], 0, 8, 0x14, .rw, fun v => 2 ≤ v⟩,
  ⟨10, 0x14, [], 0, 32, 0, .rw, fun _ => true⟩,
  ⟨10, 0x18, [], 0, 16, 0xc8, .rw, fun _ => true⟩,
  ⟨10, 0x1C, [], 0, 32, 0, .ro, fun _ => true⟩,
  ⟨10, 0x20, [], 0, 32, 0, .ro, fun _ => true⟩]

/-- Rows of the register tables, part 11. -/
def rows11 : List Row := [
  ⟨10, 0x24, [], 0, 1, 0, .w1c, fun _ => true⟩,
  ⟨10, 0x24, [], 1, 1, 0, .w1c, fun _ => true⟩,
  ⟨10, 0x24, [], 2, 1, 0, .w1c, fun _ => true⟩,
  ⟨10, 0x24, [], 3, 1, 0, .w1c, fun _ => true⟩,
  ⟨10, 0x24, [], 4, 1, 0, .w1c, fun _ => true⟩,
  ⟨10, 0x28, [], 0, 5, 0, .rw, fun _ => true⟩,
  ⟨10, 0x2C, [], 0, 32, 0, .ro, fun _ => true⟩,
  ⟨10, 0x30, [], 0, 32, 0, .ro, fun _ => true⟩,
  ⟨10, 0x34, [], 0, 32, 0, .ro, fun _ => true⟩,
  ⟨10, 0x38, [], 0, 32, 0, .ro, fun _ => true⟩,
  ⟨10, 0x3C, [], 0, 32, 0, .ro, fun _ => true⟩,
  ⟨10, 0x40, [], 0, 32, 0, .ro, fun _ => true⟩,
  ⟨10, 0x1000, [(0x100, 8)], 0, 1, 0, .rw, fun _ => true⟩,
  ⟨10, 0x1000, [(0x100, 8)], 1, 2, 0, .rw, fun v => v ≤ 2⟩,
  ⟨10, 0x1000, [(0x100, 8)], 4, 2, 0, .rw, fun v => v ≤ 2⟩,
  ⟨10, 0x1000, [(0x100, 8)], 6, 1, 0, .rw, fun _ => true⟩,
  ⟨10, 0x1004, [(0x100, 8)], 0, 2, 0, .ro, fun _ => true⟩,
  ⟨10, 0x1004, [(0x100, 8)], 4, 4, 0, .ro, fun _ => true⟩,
  ⟨10, 0x1004, [(0x100, 8)], 8, 4, 0, .ro, fun _ => true⟩,
  ⟨10, 0x1004, [(0x100, 8)], 12, 3, 0, .ro, fun _ => true⟩,
  ⟨10, 0x1004, [(0x100, 8)], 16, 4, 0, .ro, fun _ => true⟩,
  ⟨10, 0x1008, [(0x100, 8)], 0, 16, 0, .ro, fun _ => true⟩,
  ⟨10, 0x100C, [(0x100, 8)], 0, 32, 0, .ro, fun _ => true⟩,
  ⟨10, 0x1010, [(0x100, 8)], 0, 32, 0, .ro, fun _ => true⟩,
  ⟨10, 0x1014, [(0x100, 8)], 0, 32, 0, .ro, fun _ => true⟩,
  ⟨10, 0x1018, [(0x100, 8)], 0, 32, 0, .ro, fun _ => true⟩,
  ⟨10, 0x101C, [(0x100, 8)], 0, 32, 0, .ro, fun _ => true⟩,
  ⟨10, 0x1020, [(0x100, 8)], 0, 32, 0, .ro, fun _ => true⟩,
  ⟨10, 0x1024, [(0x100, 8)], 0, 32, 0, .ro, fun _ => true⟩,
  ⟨10, 0x1028, [(0x100, 8)], 0, 32, 0, .ro, fun _ => true⟩,
  ⟨11, 0x0, [], 31, 1, 0, .w1s, fun _ => true⟩,
  ⟨11, 0x4, [], 0, 5, 0, .ro, fun _ => true⟩,
  ⟨11, 0x4, [], 5, 1, 0, .ro, fun _ => true⟩,
  ⟨11, 0x4, [], 8, 5, 0, .ro, fun _ => true⟩,
  ⟨11, 0x8, [], 0, 16, 0x64, .rw, fun v => 1 ≤ v && v ≤ 60000⟩,
  ⟨11, 0xC, [], 0, 1, 0, .w1c, fun _ => true⟩,
  ⟨11, 0xC, [], 1, 1, 0, .w1c, fun _ => true⟩,
  ⟨11, 0xC, [], 2, 1, 0, .w1c, fun _ => true⟩,
  ⟨11, 0xC, [], 3, 1, 0, .w1c, fun _ => true⟩,
  ⟨11, 0xC, [], 4, 1, 0, .w1c, fun _ => true⟩]

/-- Rows of the register tables, part 12. -/
def rows12 : List Row := [
  ⟨11, 0x10, [], 0, 5, 0, .rw, fun _ => true⟩,
  ⟨11, 0x14, [], 0, 32, 0, .ro, fun _ => true⟩,
  ⟨11, 0x18, [], 0, 32, 0, .ro, fun _ => true⟩,
  ⟨11, 0x1C, [], 0, 32, 0, .ro, fun _ => true⟩,
  ⟨11, 0x20, [], 0, 32, 0, .ro, fun _ => true⟩,
  ⟨11, 0x24, [], 0, 32, 0, .ro, fun _ => true⟩,
  ⟨11, 0x28, [], 0, 32, 0, .ro, fun _ => true⟩,
  ⟨11, 0x2C, [], 0, 8, 0, .ro, fun _ => true⟩,
  ⟨11, 0x2C, [], 8, 8, 0, .ro, fun _ => true⟩,
  ⟨11, 0x2C, [], 16, 16, 0, .ro, fun _ => true⟩,
  ⟨20, 0x0, [], 0, 3, 0, .ro, fun _ => true⟩,
  ⟨20, 0x0, [], 3, 1, 0, .ro, fun _ => true⟩,
  ⟨20, 0x0, [], 4, 1, 0, .ro, fun _ => true⟩,
  ⟨20, 0x0, [], 5, 1, 0, .ro, fun _ => true⟩,
  ⟨20, 0x0, [], 6, 1, 0, .ro, fun _ => true⟩,
  ⟨20, 0x0, [], 7, 1, 0, .ro, fun _ => true⟩,
  ⟨20, 0x0, [], 8, 1, 0, .ro, fun _ => true⟩,
  ⟨20, 0x0, [], 9, 1, 0, .ro, fun _ => true⟩,
  ⟨20, 0x0, [], 10, 1, 0, .ro, fun _ => true⟩,
  ⟨20, 0x0, [], 11, 1, 0, .ro, fun _ => true⟩,
  ⟨20, 0x0, [], 12, 3, 0, .ro, fun _ => true⟩,
  ⟨20, 0x4, [], 0, 1, 0, .w1c, fun _ => true⟩,
  ⟨20, 0x4, [], 1, 1, 0, .w1c, fun _ => true⟩,
  ⟨20, 0x4, [], 2, 1, 0, .w1c, fun _ => true⟩,
  ⟨20, 0x4, [], 3, 1, 0, .w1c, fun _ => true⟩,
  ⟨20, 0x4, [], 4, 1, 0, .w1c, fun _ => true⟩,
  ⟨20, 0x4, [], 5, 1, 0, .w1c, fun _ => true⟩,
  ⟨20, 0x4, [], 6, 1, 0, .w1c, fun _ => true⟩,
  ⟨20, 0x4, [], 7, 1, 0, .w1c, fun _ => true⟩,
  ⟨20, 0x8, [], 0, 8, 0, .rw, fun _ => true⟩,
  ⟨20, 0xC, [], 0, 32, 0, .ro, fun _ => true⟩,
  ⟨20, 0x10, [], 0, 16, 0x3e8, .rw, fun _ => true⟩,
  ⟨20, 0x14, [], 0, 24, 0, .ro, fun _ => true⟩,
  ⟨20, 0x18, [], 0, 32, 0, .ro, fun _ => true⟩,
  ⟨20, 0x1C, [], 0, 16, 0x4b0, .rw, fun _ => true⟩,
  ⟨20, 0x20, [(0x4, 8)], 0, 16, 0, .ro, fun _ => true⟩,
  ⟨20, 0x40, [(0x4, 10)], 0, 16, 0, .ro, fun _ => true⟩,
  ⟨20, 0x68, [], 0, 16, 0x8000, .ro, fun _ => true⟩,
  ⟨20, 0x68, [], 16, 16, 0x8000, .ro, fun _ => true⟩,
  ⟨20, 0x6C, [], 0, 32, 0, .ro, fun _ => true⟩]

/-- Rows of the register tables, part 13. -/
def rows13 : List Row := [
  ⟨20, 0x70, [], 0, 1, 0, .rw, fun _ => true⟩,
  ⟨20, 0x70, [], 4, 3, 3, .rw, fun v => v ≤ 4⟩,
  ⟨20, 0x70, [], 8, 3, 0, .rw, fun v => v ≤ 4⟩,
  ⟨20, 0x74, [], 0, 32, 0, .ro, fun _ => true⟩,
  ⟨12, 0x0, [], 0, 1, 0, .ro, fun _ => true⟩,
  ⟨12, 0x0, [], 1, 1, 0, .ro, fun _ => true⟩,
  ⟨12, 0x0, [], 2, 1, 0, .ro, fun _ => true⟩,
  ⟨12, 0x0, [], 3, 1, 0, .ro, fun _ => true⟩,
  ⟨12, 0x4, [], 0, 1, 0, .w1c, fun _ => true⟩,
  ⟨12, 0x4, [], 1, 1, 0, .w1c, fun _ => true⟩,
  ⟨12, 0x4, [], 2, 1, 0, .w1c, fun _ => true⟩,
  ⟨12, 0x4, [], 3, 1, 0, .w1c, fun _ => true⟩,
  ⟨12, 0x4, [], 4, 1, 0, .w1c, fun _ => true⟩,
  ⟨12, 0x4, [], 5, 1, 0, .w1c, fun _ => true⟩,
  ⟨12, 0x4, [], 6, 1, 0, .w1c, fun _ => true⟩,
  ⟨12, 0x4, [], 7, 1, 0, .w1c, fun _ => true⟩,
  ⟨12, 0x4, [], 8, 1, 0, .w1c, fun _ => true⟩,
  ⟨12, 0x4, [], 9, 1, 0, .w1c, fun _ => true⟩,
  ⟨12, 0x8, [], 0, 10, 0, .rw, fun _ => true⟩,
  ⟨12, 0xC, [], 0, 7, 0x4b, .rw, fun v => 1 ≤ v && v ≤ 80⟩,
  ⟨12, 0x1000, [(0x1000, 2)], 0, 1, 0, .rw, fun _ => true⟩,
  ⟨12, 0x1000, [(0x1000, 2)], 1, 1, 0, .rw, fun _ => true⟩,
  ⟨12, 0x1000, [(0x1000, 2)], 2, 1, 0, .rw, fun _ => true⟩,
  ⟨12, 0x1000, [(0x1000, 2)], 3, 1, 0, .rw, fun _ => true⟩,
  ⟨12, 0x1000, [(0x1000, 2)], 4, 1, 0, .rw, fun _ => true⟩,
  ⟨12, 0x1000, [(0x1000, 2)], 5, 3, 6, .rw, fun v => v ≤ 6⟩,
  ⟨12, 0x1000, [(0x1000, 2)], 16, 5, 0, .ro, fun _ => true⟩,
  ⟨12, 0x1000, [(0x1000, 2)], 31, 1, 0, .w1s, fun _ => true⟩,
  ⟨12, 0x1004, [(0x1000, 2)], 0, 1, 0, .ro, fun _ => true⟩,
  ⟨12, 0x1004, [(0x1000, 2)], 1, 1, 0, .ro, fun _ => true⟩,
  ⟨12, 0x1004, [(0x1000, 2)], 2, 1, 0, .ro, fun _ => true⟩,
  ⟨12, 0x1004, [(0x1000, 2)], 3, 1, 0, .ro, fun _ => true⟩,
  ⟨12, 0x1004, [(0x1000, 2)], 4, 4, 0, .ro, fun _ => true⟩,
  ⟨12, 0x1004, [(0x1000, 2)], 8, 4, 0, .ro, fun _ => true⟩,
  ⟨12, 0x1004, [(0x1000, 2)], 12, 4, 0, .ro, fun _ => true⟩,
  ⟨12, 0x1008, [(0x1000, 2)], 0, 6, 0x16, .rw, fun _ => true⟩,
  ⟨12, 0x1008, [(0x1000, 2)], 8, 6, 0x10, .rw, fun _ => true⟩,
  ⟨12, 0x1008, [(0x1000, 2)], 16, 6, 0x16, .rw, fun _ => true⟩,
  ⟨12, 0x1008, [(0x1000, 2)], 24, 6, 0x16, .rw, fun _ => true⟩,
  ⟨12, 0x100C, [(0x1000, 2)], 0, 7, 0x34, .rw, fun _ => true⟩]

/-- Rows of the register tables, part 14. -/
def rows14 : List Row := [
  ⟨12, 0x100C, [(0x1000, 2)], 8, 4, 4, .rw, fun _ => true⟩,
  ⟨12, 0x100C, [(0x1000, 2)], 12, 4, 8, .rw, fun _ => true⟩,
  ⟨12, 0x100C, [(0x1000, 2)], 16, 7, 0x22, .rw, fun _ => true⟩,
  ⟨12, 0x100C, [(0x1000, 2)], 24, 5, 0xc, .rw, fun _ => true⟩,
  ⟨12, 0x1010, [(0x1000, 2)], 0, 6, 0x18, .rw, fun _ => true⟩,
  ⟨12, 0x1010, [(0x1000, 2)], 8, 4, 4, .rw, fun _ => true⟩,
  ⟨12, 0x1010, [(0x1000, 2)], 12, 4, 0xc, .rw, fun _ => true⟩,
  ⟨12, 0x1010, [(0x1000, 2)], 16, 12, 0x370, .rw, fun _ => true⟩,
  ⟨12, 0x1014, [(0x1000, 2)], 0, 16, 0x30c0, .rw, fun _ => true⟩,
  ⟨12, 0x1014, [(0x1000, 2)], 16, 4, 8, .rw, fun v => v ≤ 8⟩,
  ⟨12, 0x1018, [(0x1000, 2)], 0, 16, 0x8000, .rw, fun _ => true⟩,
  ⟨12, 0x101C, [(0x1000, 2)], 0, 12, 0x40, .rw, fun _ => true⟩,
  ⟨12, 0x1020, [(0x1000, 2)], 0, 12, 0x40, .rw, fun _ => true⟩,
  ⟨12, 0x1024, [(0x1000, 2), (0x4, 4)], 0, 6, 0x30, .rw, fun _ => true⟩,
  ⟨12, 0x1024, [(0x1000, 2), (0x4, 4)], 8, 6, 0x20, .rw, fun _ => true⟩,
  ⟨12, 0x1024, [(0x1000, 2), (0x4, 4)], 16, 1, 0, .ro, fun _ => true⟩,
  ⟨12, 0x1034, [(0x1000, 2)], 0, 18, 0, .rw, fun _ => true⟩,
  ⟨12, 0x1034, [(0x1000, 2)], 18, 3, 0, .rw, fun v => v ≤ 6⟩,
  ⟨12, 0x1034, [(0x1000, 2)], 24, 1, 0, .rw, fun _ => true⟩,
  ⟨12, 0x1034, [(0x1000, 2)], 31, 1, 0, .w1s, fun _ => true⟩,
  ⟨12, 0x1038, [(0x1000, 2)], 0, 3, 0, .rw, fun v => v ≤ 4⟩,
  ⟨12, 0x1038, [(0x1000, 2)], 31, 1, 0, .w1s, fun _ => true⟩,
  ⟨12, 0x103C, [(0x1000, 2)], 0, 9, 0, .ro, fun _ => true⟩,
  ⟨12, 0x103C, [(0x1000, 2)], 16, 1, 0, .ro, fun _ => true⟩,
  ⟨12, 0x1040, [(0x1000, 2)], 0, 7, 0x32, .rw, fun _ => true⟩,
  ⟨12, 0x1044, [(0x1000, 2)], 0, 16, 0x80, .rw, fun v => 1 ≤ v⟩,
  ⟨12, 0x1048, [(0x1000, 2)], 6, 26, 0, .rw, fun _ => true⟩,
  ⟨12, 0x104C, [(0x1000, 2)], 0, 8, 0, .rw, fun _ => true⟩,
  ⟨12, 0x1050, [(0x1000, 2)], 0, 32, 0, .rw, fun _ => true⟩,
  ⟨12, 0x1054, [(0x1000, 2)], 0, 1, 0, .w1s, fun _ => true⟩,
  ⟨12, 0x1054, [(0x1000, 2)], 1, 1, 0, .ro, fun _ => true⟩,
  ⟨12, 0x1058, [(0x1000, 2)], 0, 32, 0, .ro, fun _ => true⟩,
  ⟨12, 0x105C, [(0x1000, 2)], 0, 32, 0, .ro, fun _ => true⟩,
  ⟨12, 0x1060, [(0x1000, 2)], 0, 32, 0, .ro, fun _ => true⟩,
  ⟨12, 0x1064, [(0x1000, 2)], 3, 29, 0, .ro, fun _ => true⟩,
  ⟨12, 0x1068, [(0x1000, 2)], 0, 8, 0, .ro, fun _ => true⟩,
  ⟨12, 0x106C, [(0x1000, 2)], 3, 29, 0, .ro, fun _ => true⟩,
  ⟨12, 0x1070, [(0x1000, 2)], 0, 8, 0, .ro, fun _ => true⟩,
  ⟨12, 0x1074, [(0x1000, 2), (0x4, 4)], 0, 32, 0, .ro, fun _ => true⟩,
  ⟨12, 0x1084, [(0x1000, 2)], 0, 32, 0, .ro, fun _ => true⟩]

/-- Rows of the register tables, part 15. -/
def rows15 : List Row := [
  ⟨12, 0x1100, [(0x1000, 2), (0x8, 9)], 0, 10, 0, .rw, fun _ => true⟩,
  ⟨12, 0x1100, [(0x1000, 2), (0x8, 9)], 16, 7, 0, .rw, fun _ => true⟩,
  ⟨12, 0x1104, [(0x1000, 2), (0x8, 9)], 0, 10, 0, .rw, fun _ => true⟩,
  ⟨12, 0x1104, [(0x1000, 2), (0x8, 9)], 16, 7, 0, .rw, fun _ => true⟩,
  ⟨13, 0x0, [], 0, 1, 0, .w1s, fun _ => true⟩,
  ⟨13, 0x0, [], 1, 1, 0, .w1s, fun _ => true⟩,
  ⟨13, 0x0, [], 31, 1, 0, .w1s, fun _ => true⟩,
  ⟨13, 0x4, [], 0, 1, 0, .ro, fun _ => true⟩,
  ⟨13, 0x4, [], 1, 1, 0, .w1c, fun _ => true⟩,
  ⟨13, 0x4, [], 2, 1, 0, .w1c, fun _ => true⟩,
  ⟨13, 0x4, [], 3, 1, 0, .ro, fun _ => true⟩,
  ⟨13, 0x8, [], 3, 29, 0, .rw, fun _ => true⟩,
  ⟨13, 0xC, [], 0, 8, 0, .rw, fun _ => true⟩,
  ⟨13, 0x10, [], 0, 23, 1, .rw, fun v => 1 ≤ v && v ≤ 4194304⟩,
  ⟨13, 0x14, [], 0, 8, 4, .rw, fun v => 1 ≤ v⟩,
  ⟨13, 0x18, [], 0, 32, 0, .ro, fun _ => true⟩,
  ⟨13, 0x1C, [], 0, 32, 0, .ro, fun _ => true⟩,
  ⟨13, 0x20, [], 0, 32, 0, .ro, fun _ => true⟩,
  ⟨13, 0x24, [], 3, 29, 0, .ro, fun _ => true⟩,
  ⟨13, 0x28, [], 0, 8, 0, .ro, fun _ => true⟩,
  ⟨13, 0x2C, [], 3, 29, 0, .ro, fun _ => true⟩,
  ⟨13, 0x30, [], 0, 8, 0, .ro, fun _ => true⟩,
  ⟨13, 0x34, [], 0, 32, 0, .ro, fun _ => true⟩,
  ⟨13, 0x38, [], 0, 32, 0, .ro, fun _ => true⟩,
  ⟨13, 0x3C, [], 0, 32, 0, .ro, fun _ => true⟩,
  ⟨13, 0x40, [], 3, 29, 0, .ro, fun _ => true⟩,
  ⟨13, 0x44, [], 0, 8, 0, .ro, fun _ => true⟩,
  ⟨13, 0x44, [], 16, 8, 0, .ro, fun _ => true⟩,
  ⟨13, 0x48, [], 3, 29, 0, .ro, fun _ => true⟩,
  ⟨13, 0x4C, [], 0, 8, 0, .ro, fun _ => true⟩,
  ⟨13, 0x4C, [], 16, 8, 0, .ro, fun _ => true⟩,
  ⟨13, 0x50, [], 0, 1, 0, .w1c, fun _ => true⟩,
  ⟨13, 0x50, [], 1, 1, 0, .w1c, fun _ => true⟩,
  ⟨13, 0x50, [], 2, 1, 0, .w1c, fun _ => true⟩,
  ⟨13, 0x50, [], 3, 1, 0, .w1c, fun _ => true⟩,
  ⟨13, 0x54, [], 0, 4, 0, .rw, fun _ => true⟩,
  ⟨13, 0x58, [], 0, 32, 0, .ro, fun _ => true⟩,
  ⟨13, 0x5C, [], 0, 2, 0, .rw, fun v => v ≤ 2⟩,
  ⟨13, 0x100, [(0x8, 16)], 3, 29, 0, .ro, fun _ => true⟩,
  ⟨13, 0x104, [(0x8, 16)], 0, 8, 0, .ro, fun _ => true⟩]

/-- Rows of the register tables, part 16. -/
def rows16 : List Row := [
  ⟨13, 0x104, [(0x8, 16)], 16, 8, 0, .ro, fun _ => true⟩,
  ⟨13, 0x104, [(0x8, 16)], 30, 1, 0, .ro, fun _ => true⟩,
  ⟨13, 0x104, [(0x8, 16)], 31, 1, 0, .ro, fun _ => true⟩,
  ⟨14, 0x0, [], 0, 9, 0, .ro, fun _ => true⟩,
  ⟨14, 0x0, [], 16, 9, 0, .ro, fun _ => true⟩,
  ⟨14, 0x4, [], 0, 9, 0, .w1c, fun _ => true⟩,
  ⟨14, 0x4, [], 16, 4, 0, .w1c, fun _ => true⟩,
  ⟨14, 0x4, [], 24, 4, 0, .w1c, fun _ => true⟩,
  ⟨14, 0x8, [], 0, 28, 0, .rw, fun _ => true⟩,
  ⟨14, 0xC, [], 0, 32, 0, .ro, fun _ => true⟩,
  ⟨14, 0x10, [], 0, 32, 0, .ro, fun _ => true⟩,
  ⟨14, 0x20, [(0x4, 9)], 0, 16, 0, .ro, fun _ => true⟩,
  ⟨14, 0x1000, [(0x100, 8)], 0, 2, 0, .rw, fun v => v ≤ 2⟩,
  ⟨14, 0x1000, [(0x100, 8)], 2, 2, 0, .rw, fun v => v ≤ 2⟩,
  ⟨14, 0x1000, [(0x100, 8)], 4, 1, 0, .rw, fun _ => true⟩,
  ⟨14, 0x1000, [(0x100, 8)], 8, 8, 0, .rw, fun _ => true⟩,
  ⟨14, 0x1000, [(0x100, 8)], 16, 4, 0xf, .rw, fun v => v ≤ 9 || v == 15⟩,
  ⟨14, 0x1000, [(0x100, 8)], 31, 1, 0, .w1s, fun _ => true⟩,
  ⟨14, 0x1004, [(0x100, 8)], 0, 24, 0, .rw, fun _ => true⟩,
  ⟨14, 0x1008, [(0x100, 8)], 0, 24, 0xffffff, .rw, fun _ => true⟩,
  ⟨14, 0x100C, [(0x100, 8)], 0, 24, 0x3e8, .rw, fun v => 10 ≤ v && v ≤ 10000000⟩,
  ⟨14, 0x1010, [(0x100, 8)], 0, 7, 0, .ro, fun _ => true⟩,
  ⟨14, 0x1010, [(0x100, 8)], 8, 1, 0, .ro, fun _ => true⟩,
  ⟨14, 0x1010, [(0x100, 8)], 9, 1, 0, .ro, fun _ => true⟩,
  ⟨14, 0x1010, [(0x100, 8)], 10, 1, 0, .ro, fun _ => true⟩,
  ⟨14, 0x1010, [(0x100, 8)], 11, 1, 0, .ro, fun _ => true⟩,
  ⟨14, 0x1010, [(0x100, 8)], 16, 16, 0, .ro, fun _ => true⟩,
  ⟨14, 0x1014, [(0x100, 8), (0x4, 6)], 0, 32, 0, .ro, fun _ => true⟩,
  ⟨14, 0x102C, [(0x100, 8)], 0, 32, 0, .ro, fun _ => true⟩,
  ⟨14, 0x1030, [(0x100, 8)], 0, 24, 0, .ro, fun _ => true⟩,
  ⟨14, 0x1034, [(0x100, 8)], 0, 32, 0, .ro, fun _ => true⟩,
  ⟨14, 0x1038, [(0x100, 8)], 0, 32, 0, .ro, fun _ => true⟩,
  ⟨14, 0x103C, [(0x100, 8)], 0, 32, 0, .ro, fun _ => true⟩,
  ⟨14, 0x1040, [(0x100, 8)], 0, 32, 0, .ro, fun _ => true⟩,
  ⟨14, 0x1044, [(0x100, 8)], 0, 32, 0, .ro, fun _ => true⟩,
  ⟨14, 0x1048, [(0x100, 8)], 0, 32, 0, .ro, fun _ => true⟩,
  ⟨15, 0x0, [], 0, 2, 0, .rw, fun _ => true⟩,
  ⟨15, 0x0, [], 2, 1, 0, .rw, fun _ => true⟩,
  ⟨15, 0x0, [], 3, 1, 0, .w1s, fun _ => true⟩,
  ⟨15, 0x0, [], 4, 1, 0, .rw, fun _ => true⟩]

/-- Rows of the register tables, part 17. -/
def rows17 : List Row := [
  ⟨15, 0x0, [], 5, 1, 0, .rw, fun _ => true⟩,
  ⟨15, 0x0, [], 31, 1, 0, .w1s, fun _ => true⟩,
  ⟨15, 0x4, [], 0, 1, 0, .ro, fun _ => true⟩,
  ⟨15, 0x4, [], 1, 1, 0, .ro, fun _ => true⟩,
  ⟨15, 0x4, [], 2, 1, 0, .ro, fun _ => true⟩,
  ⟨15, 0x4, [], 3, 5, 0, .ro, fun _ => true⟩,
  ⟨15, 0x4, [], 8, 2, 0, .ro, fun _ => true⟩,
  ⟨15, 0x8, [], 0, 6, 1, .rw, fun v => 1 ≤ v && v ≤ 32⟩,
  ⟨15, 0x8, [], 8, 3, 1, .rw, fun v => 1 ≤ v && v ≤ 4⟩,
  ⟨15, 0xC, [], 0, 32, 0x3e8, .rw, fun v => 1 ≤ v⟩,
  ⟨15, 0x10, [], 0, 16, 0x10, .rw, fun _ => true⟩,
  ⟨15, 0x14, [], 0, 16, 0x2ee, .rw, fun _ => true⟩,
  ⟨15, 0x14, [], 16, 16, 0x41a, .rw, fun _ => true⟩,
  ⟨15, 0x18, [], 0, 4, 0, .rw, fun _ => true⟩,
  ⟨15, 0x18, [], 8, 4, 0, .w1s, fun _ => true⟩,
  ⟨15, 0x1C, [], 0, 4, 0, .ro, fun _ => true⟩,
  ⟨15, 0x1C, [], 4, 4, 0, .ro, fun _ => true⟩,
  ⟨15, 0x1C, [], 8, 4, 0, .ro, fun _ => true⟩,
  ⟨15, 0x1C, [], 12, 4, 0, .ro, fun _ => true⟩,
  ⟨15, 0x20, [], 0, 1, 0, .w1c, fun _ => true⟩,
  ⟨15, 0x20, [], 1, 1, 0, .w1c, fun _ => true⟩,
  ⟨15, 0x20, [], 2, 1, 0, .w1c, fun _ => true⟩,
  ⟨15, 0x20, [], 3, 1, 0, .w1c, fun _ => true⟩,
  ⟨15, 0x20, [], 4, 4, 0, .w1c, fun _ => true⟩,
  ⟨15, 0x24, [], 0, 8, 0, .rw, fun _ => true⟩,
  ⟨15, 0x24, [], 8, 1, 0, .rw, fun _ => true⟩,
  ⟨15, 0x28, [], 0, 32, 0, .ro, fun _ => true⟩,
  ⟨15, 0x2C, [], 0, 32, 0, .ro, fun _ => true⟩,
  ⟨15, 0x30, [], 0, 32, 0, .ro, fun _ => true⟩,
  ⟨15, 0x34, [], 0, 32, 0, .ro, fun _ => true⟩,
  ⟨15, 0x38, [], 0, 32, 0, .ro, fun _ => true⟩,
  ⟨15, 0x3C, [], 0, 32, 0, .ro, fun _ => true⟩,
  ⟨15, 0x40, [(0x4, 4)], 0, 20, 0xf4240, .ro, fun _ => true⟩,
  ⟨15, 0x60, [(0x4, 3)], 0, 32, 0, .w1c, fun _ => true⟩,
  ⟨15, 0x80, [(0x8, 4)], 0, 7, 0, .rw, fun _ => true⟩,
  ⟨15, 0x80, [(0x8, 4)], 8, 7, 0x7f, .rw, fun _ => true⟩,
  ⟨15, 0x80, [(0x8, 4)], 15, 1, 0, .rw, fun _ => true⟩,
  ⟨15, 0x80, [(0x8, 4)], 16, 1, 0, .rw, fun _ => true⟩,
  ⟨15, 0x84, [(0x8, 4)], 0, 24, 0x186a0, .rw, fun _ => true⟩,
  ⟨15, 0x100, [(0x8, 32)], 0, 32, 0x10000, .rw, fun _ => true⟩]

/-- Rows of the register tables, part 18. -/
def rows18 : List Row := [
  ⟨15, 0x200, [(0x8, 4)], 0, 32, 0x10000, .rw, fun _ => true⟩,
  ⟨15, 0x104, [(0x8, 32)], 0, 32, 0, .rw, fun _ => true⟩,
  ⟨15, 0x204, [(0x8, 4)], 0, 32, 0, .rw, fun _ => true⟩,
  ⟨15, 0x1000, [(0x20, 72)], 0, 32, 0, .ro, fun _ => true⟩,
  ⟨15, 0x1004, [(0x20, 72)], 0, 32, 0, .ro, fun _ => true⟩,
  ⟨15, 0x1008, [(0x20, 72)], 0, 32, 0, .ro, fun _ => true⟩,
  ⟨15, 0x100C, [(0x20, 72)], 0, 32, 0x7fffffff, .ro, fun _ => true⟩,
  ⟨15, 0x1010, [(0x20, 72)], 0, 32, 0x80000000, .ro, fun _ => true⟩,
  ⟨15, 0x1014, [(0x20, 72)], 0, 32, 0x80000000, .rw, fun _ => true⟩,
  ⟨15, 0x1018, [(0x20, 72)], 0, 32, 0x7fffffff, .rw, fun _ => true⟩,
  ⟨15, 0x101C, [(0x20, 72)], 0, 1, 0, .w1s, fun _ => true⟩,
  ⟨15, 0x101C, [(0x20, 72)], 1, 1, 0, .rw, fun _ => true⟩,
  ⟨15, 0x101C, [(0x20, 72)], 2, 1, 0, .ro, fun _ => true⟩,
  ⟨15, 0x101C, [(0x20, 72)], 3, 1, 0, .ro, fun _ => true⟩,
  ⟨16, 0x0, [], 0, 1, 0, .ro, fun _ => true⟩,
  ⟨16, 0x0, [], 1, 1, 0, .ro, fun _ => true⟩,
  ⟨16, 0x0, [], 2, 1, 0, .ro, fun _ => true⟩,
  ⟨16, 0x0, [], 3, 1, 0, .ro, fun _ => true⟩,
  ⟨16, 0x1000, [(0x1000, 2)], 0, 1, 1, .rw, fun _ => true⟩,
  ⟨16, 0x1000, [(0x1000, 2)], 1, 1, 1, .rw, fun _ => true⟩,
  ⟨16, 0x1000, [(0x1000, 2)], 2, 1, 1, .rw, fun _ => true⟩,
  ⟨16, 0x1000, [(0x1000, 2)], 3, 1, 0, .w1s, fun _ => true⟩,
  ⟨16, 0x1000, [(0x1000, 2)], 4, 1, 0, .w1s, fun _ => true⟩,
  ⟨16, 0x1000, [(0x1000, 2)], 31, 1, 0, .w1s, fun _ => true⟩,
  ⟨16, 0x1004, [(0x1000, 2)], 0, 5, 0x1a, .rw, fun v => 20 ≤ v && v ≤ 30⟩,
  ⟨16, 0x1004, [(0x1000, 2)], 8, 3, 2, .rw, fun _ => true⟩,
  ⟨16, 0x1004, [(0x1000, 2)], 16, 8, 0x28, .rw, fun v => 1 ≤ v⟩,
  ⟨16, 0x1004, [(0x1000, 2)], 24, 8, 0xa, .rw, fun v => 1 ≤ v⟩,
  ⟨16, 0x1008, [(0x1000, 2)], 0, 8, 4, .rw, fun _ => true⟩,
  ⟨16, 0x1008, [(0x1000, 2)], 8, 8, 8, .rw, fun _ => true⟩,
  ⟨16, 0x1008, [(0x1000, 2)], 16, 8, 8, .rw, fun _ => true⟩,
  ⟨16, 0x1008, [(0x1000, 2)], 24, 8, 4, .rw, fun _ => true⟩,
  ⟨16, 0x100C, [(0x1000, 2)], 0, 3, 0, .ro, fun _ => true⟩,
  ⟨16, 0x100C, [(0x1000, 2)], 3, 1, 0, .ro, fun _ => true⟩,
  ⟨16, 0x100C, [(0x1000, 2)], 4, 1, 0, .ro, fun _ => true⟩,
  ⟨16, 0x100C, [(0x1000, 2)], 5, 1, 0, .ro, fun _ => true⟩,
  ⟨16, 0x1010, [(0x1000, 2)], 0, 1, 0, .w1c, fun _ => true⟩,
  ⟨16, 0x1010, [(0x1000, 2)], 1, 1, 0, .w1c, fun _ => true⟩,
  ⟨16, 0x1010, [(0x1000, 2)], 2, 1, 0, .w1c, fun _ => true⟩,
  ⟨16, 0x1010, [(0x1000, 2)], 3, 1, 0, .w1c, fun _ => true⟩]

/-- Rows of the register tables, part 19. -/
def rows19 : List Row := [
  ⟨16, 0x1014, [(0x1000, 2)], 0, 4, 0, .rw, fun _ => true⟩,
  ⟨16, 0x1018, [(0x1000, 2)], 0, 16, 0, .ro, fun _ => true⟩,
  ⟨16, 0x101C, [(0x1000, 2)], 0, 32, 0, .ro, fun _ => true⟩,
  ⟨16, 0x1020, [(0x1000, 2)], 0, 32, 0, .ro, fun _ => true⟩,
  ⟨16, 0x1024, [(0x1000, 2)], 0, 32, 0, .ro, fun _ => true⟩,
  ⟨16, 0x1028, [(0x1000, 2)], 0, 32, 0, .ro, fun _ => true⟩,
  ⟨16, 0x1030, [(0x1000, 2), (0x4, 6)], 0, 12, 0, .rw, fun _ => true⟩,
  ⟨16, 0x1048, [(0x1000, 2), (0x4, 3)], 0, 16, 0x4000, .rw, fun _ => true⟩,
  ⟨16, 0x1054, [(0x1000, 2), (0x4, 3)], 0, 16, 0, .rw, fun _ => true⟩,
  ⟨16, 0x1060, [(0x1000, 2), (0x4, 3)], 0, 9, 0, .rw, fun _ => true⟩,
  ⟨17, 0x0, [], 0, 4, 0, .ro, fun _ => true⟩,
  ⟨17, 0x0, [], 4, 4, 0, .ro, fun _ => true⟩,
  ⟨17, 0x4, [], 0, 4, 0, .w1c, fun _ => true⟩,
  ⟨17, 0x8, [], 0, 4, 0, .rw, fun _ => true⟩,
  ⟨17, 0xC, [], 31, 1, 0, .w1s, fun _ => true⟩,
  ⟨17, 0x100, [(0x10, 4)], 0, 12, 0, .rw, fun _ => true⟩,
  ⟨17, 0x100, [(0x10, 4)], 16, 8, 0, .rw, fun _ => true⟩,
  ⟨17, 0x100, [(0x10, 4)], 24, 1, 1, .rw, fun _ => true⟩,
  ⟨17, 0x104, [(0x10, 4)], 0, 12, 0, .ro, fun _ => true⟩,
  ⟨17, 0x108, [(0x10, 4)], 0, 16, 0, .ro, fun _ => true⟩,
  ⟨17, 0x10C, [(0x10, 4)], 0, 32, 0, .ro, fun _ => true⟩,
  ⟨17, 0x200, [], 0, 1, 0, .rw, fun _ => true⟩,
  ⟨17, 0x200, [], 1, 1, 0, .w1s, fun _ => true⟩,
  ⟨17, 0x204, [], 0, 8, 0x63, .rw, fun v => 3 ≤ v⟩,
  ⟨17, 0x204, [], 16, 9, 0x100, .rw, fun v => 1 ≤ v && v ≤ 256⟩,
  ⟨17, 0x208, [], 0, 1, 0, .ro, fun _ => true⟩,
  ⟨17, 0x208, [], 1, 1, 0, .w1c, fun _ => true⟩,
  ⟨17, 0x210, [(0x4, 8)], 0, 32, 0, .rw, fun _ => true⟩,
  ⟨0, 0x4, [], 0, 1, 0, .w1c, fun _ => true⟩,
  ⟨0, 0x4, [], 1, 1, 0, .w1c, fun _ => true⟩,
  ⟨0, 0x4, [], 2, 1, 0, .w1c, fun _ => true⟩,
  ⟨0, 0x4, [], 3, 1, 0, .ro, fun _ => true⟩,
  ⟨0, 0x4, [], 4, 1, 0, .ro, fun _ => true⟩,
  ⟨0, 0x4, [], 5, 1, 0, .ro, fun _ => true⟩,
  ⟨0, 0x8, [], 0, 1, 0, .rw, fun _ => true⟩,
  ⟨0, 0x8, [], 1, 1, 0, .rw, fun _ => true⟩,
  ⟨0, 0x8, [], 3, 1, 0, .rw, fun _ => true⟩,
  ⟨0, 0xC, [], 0, 32, 0, .ro, fun _ => true⟩,
  ⟨0, 0x10, [], 0, 8, 0, .ro, fun _ => true⟩,
  ⟨0, 0x10, [], 16, 8, 0, .ro, fun _ => true⟩]

/-- Rows of the register tables, part 20. -/
def rows20 : List Row := [
  ⟨0, 0x14, [], 0, 3, 1, .rws, fun _ => true⟩,
  ⟨0, 0x14, [], 8, 5, 1, .rws, fun _ => true⟩,
  ⟨0, 0x18, [], 0, 1, 1, .ro, fun _ => true⟩,
  ⟨0, 0x18, [], 1, 1, 0, .ro, fun _ => true⟩,
  ⟨0, 0x18, [], 2, 1, 0, .ro, fun _ => true⟩,
  ⟨0, 0x18, [], 3, 1, 0, .ro, fun _ => true⟩,
  ⟨0, 0x18, [], 4, 1, 0, .ro, fun _ => true⟩,
  ⟨0, 0x18, [], 5, 1, 0, .ro, fun _ => true⟩,
  ⟨0, 0x18, [], 6, 1, 0, .ro, fun _ => true⟩,
  ⟨0, 0x18, [], 7, 1, 0, .ro, fun _ => true⟩,
  ⟨0, 0x1C, [], 0, 32, 0, .ro, fun _ => true⟩,
  ⟨0, 0x20, [], 0, 32, 0, .ro, fun _ => true⟩,
  ⟨18, 0x0, [], 0, 2, 0, .rw, fun _ => true⟩,
  ⟨18, 0x0, [], 4, 2, 0, .rw, fun _ => true⟩,
  ⟨18, 0x0, [], 8, 1, 0, .w1s, fun _ => true⟩,
  ⟨18, 0x0, [], 9, 1, 0, .w1s, fun _ => true⟩,
  ⟨18, 0x0, [], 31, 1, 0, .w1s, fun _ => true⟩,
  ⟨18, 0x4, [], 0, 2, 0, .ro, fun _ => true⟩,
  ⟨18, 0x4, [], 2, 2, 0, .ro, fun _ => true⟩,
  ⟨18, 0x4, [], 4, 1, 0, .ro, fun _ => true⟩,
  ⟨18, 0x4, [], 5, 1, 0, .ro, fun _ => true⟩,
  ⟨18, 0x4, [], 6, 2, 0, .ro, fun _ => true⟩,
  ⟨18, 0x4, [], 8, 3, 0, .rws, fun _ => true⟩,
  ⟨18, 0x4, [], 16, 6, 0x3f, .ro, fun _ => true⟩,
  ⟨18, 0x8, [], 0, 5, 0, .rw, fun _ => true⟩,
  ⟨18, 0xC, [], 0, 5, 0, .ro, fun _ => true⟩,
  ⟨18, 0x10, [], 0, 32, 0, .rw, fun v => 1 ≤ v⟩,
  ⟨18, 0x14, [], 0, 16, 0xc8, .rw, fun v => 10 ≤ v && v ≤ 10000⟩,
  ⟨18, 0x18, [], 0, 1, 0, .w1c, fun _ => true⟩,
  ⟨18, 0x18, [], 1, 1, 0, .w1c, fun _ => true⟩,
  ⟨18, 0x18, [], 2, 1, 0, .w1c, fun _ => true⟩,
  ⟨18, 0x18, [], 3, 1, 0, .w1c, fun _ => true⟩,
  ⟨18, 0x18, [], 4, 1, 0, .w1c, fun _ => true⟩,
  ⟨18, 0x1C, [], 0, 5, 0, .rw, fun _ => true⟩,
  ⟨18, 0x20, [], 0, 32, 0, .ro, fun _ => true⟩,
  ⟨18, 0x24, [], 0, 32, 0, .ro, fun _ => true⟩,
  ⟨19, 0x0, [], 0, 1, 0, .rw, fun _ => true⟩,
  ⟨19, 0x0, [], 1, 1, 0, .w1s, fun _ => true⟩,
  ⟨19, 0x4, [], 0, 1, 0, .ro, fun _ => true⟩,
  ⟨19, 0x4, [], 1, 1, 0, .w1c, fun _ => true⟩]

/-- Rows of the register tables, part 21. -/
def rows21 : List Row := [
  ⟨19, 0x4, [], 2, 1, 0, .ro, fun _ => true⟩,
  ⟨19, 0x4, [], 3, 1, 0, .w1c, fun _ => true⟩,
  ⟨19, 0x8, [], 0, 32, 0, .ro, fun _ => true⟩,
  ⟨19, 0xC, [], 0, 32, 0, .ro, fun _ => true⟩,
  ⟨19, 0x10, [], 0, 1, 0, .w1s, fun _ => true⟩,
  ⟨19, 0x14, [], 0, 8, 0, .w1c, fun _ => true⟩,
  ⟨19, 0x18, [], 0, 8, 0, .rw, fun _ => true⟩,
  ⟨19, 0x20, [], 0, 20, 0x3e8, .rw, fun v => 1 ≤ v && v ≤ 1000000⟩,
  ⟨19, 0x20, [], 24, 1, 0, .rw, fun _ => true⟩,
  ⟨19, 0x20, [], 31, 1, 0, .w1s, fun _ => true⟩,
  ⟨19, 0x24, [], 0, 32, 0, .ro, fun _ => true⟩,
  ⟨19, 0x100, [(0x10, 8)], 0, 8, 0, .rw, fun _ => true⟩,
  ⟨19, 0x100, [(0x10, 8)], 8, 8, 0, .rw, fun _ => true⟩,
  ⟨19, 0x100, [(0x10, 8)], 16, 1, 0, .rw, fun _ => true⟩,
  ⟨19, 0x100, [(0x10, 8)], 17, 1, 0, .rw, fun _ => true⟩,
  ⟨19, 0x104, [(0x10, 8)], 0, 32, 0, .ro, fun _ => true⟩,
  ⟨19, 0x108, [(0x10, 8)], 0, 16, 0, .ro, fun _ => true⟩,
  ⟨19, 0x200, [], 0, 32, 0, .ro, fun _ => true⟩,
  ⟨19, 0x204, [], 0, 32, 0, .ro, fun _ => true⟩,
  ⟨19, 0x208, [(0x8, 8)], 0, 32, 0, .ro, fun _ => true⟩,
  ⟨19, 0x20C, [(0x8, 8)], 0, 16, 0, .ro, fun _ => true⟩,
  ⟨19, 0x20C, [(0x8, 8)], 16, 1, 0, .ro, fun _ => true⟩,
  ⟨19, 0x300, [(0x38, 2), (0x8, 7)], 0, 32, 0, .ro, fun _ => true⟩,
  ⟨19, 0x304, [(0x38, 2), (0x8, 7)], 0, 8, 0, .ro, fun _ => true⟩,
  ⟨1, 0x4000, [(0x2000, 2), (0x100, 2), (0x4, 64)], 0, 16, 0, .rw, fun _ => true⟩,
  ⟨1, 0x4000, [(0x2000, 2), (0x100, 2), (0x4, 64)], 16, 3, 0, .rw, fun _ => true⟩,
  ⟨1, 0x4000, [(0x2000, 2), (0x100, 2), (0x4, 64)], 20, 4, 0, .rw, fun _ => true⟩,
  ⟨1, 0x4000, [(0x2000, 2), (0x100, 2), (0x4, 64)], 31, 1, 0, .rw, fun _ => true⟩,
  ⟨4, 0x4000, [(0x1000, 2), (0x800, 2), (0x4, 384)], 0, 18, 0, .rw, fun _ => true⟩,
  ⟨14, 0x8000, [(0x800, 9), (0x4, 512)], 0, 32, 0, .rw, fun _ => true⟩,
  ⟨9, 0x8, [], 0, 32, 0, .ro, fun _ => true⟩]

/-- Every field of every register table, in the spec's order. -/
def rows : List Row :=
  rows0 ++ rows1 ++ rows2 ++ rows3 ++ rows4 ++ rows5 ++ rows6 ++ rows7 ++ rows8 ++ rows9 ++ rows10 ++ rows11 ++ rows12 ++ rows13 ++ rows14 ++ rows15 ++ rows16 ++ rows17 ++ rows18 ++ rows19 ++ rows20 ++ rows21

end Sys2Proof.Machine.Reg
end

