-- ==== Sys2Proof/Machine/State.lean ====
section
/-! DEFINITION. The state of the EK5200, plain data: the register store (every register field of the spec), the byte
memories, what each block holds behind its registers, and the queue of waiting commands; and the state after reset. -/

namespace Sys2Proof.Machine

/-- Reasons a step could fault. No meaning of the model raises one: the block has no behaviour to which the spec gives
no effect, so the type has no constructor (safe: nothing stops early). -/
inductive Fault where
  deriving DecidableEq, Repr

/-- Reasons a step could be refused. -/
inductive Refusal where
  /-- Raised by an arm of exec whose command has no meaning yet, naming its mnemonic. Safe: the machine stops. -/
  | notModelled (mnemonic : String)
  deriving DecidableEq, Repr

/-! ### Tracker and sequencers (03) -/

/-- A linear model of the reference: cycle boundary `k` lies at `t0 + (k - k0) * T`, in ns of device time (R56). -/
structure RefModel where
  k0 : Int
  t0 : Rat
  T : Rat
  deriving DecidableEq, Repr

/-- A command packet that has passed the length and CRC checks (R315, R323). -/
structure CmdPkt where
  src : CmdSrc
  op : Byte
  tag : BitVec 16
  ps : List Word
  deriving DecidableEq, Repr

/-- The reference tracker behind its registers (R56–R64). -/
structure Tracker where
  /-- the stamps of the last W reference cycles, newest first: cycle boundary number and instant in ns -/
  stamps : List (Rat × Rat)
  /-- number of the next boundary the cycle divider closes -/
  nextK : Int
  /-- the model in force -/
  model : Option RefModel
  /-- the external reference's model, kept while ON_INTERNAL (R60) -/
  extModel : Option RefModel
  /-- the cycle number that phase coordinate 0 names -/
  epoch : Int
  /-- an epoch is requested at the next cycle boundary (false) or the next marker edge (true) (R62) -/
  epochReq : Option Bool
  /-- the SEQ_EPOCH command that awaits the epoch's stamp -/
  epochTo : Option CmdPkt
  /-- the automatic epoch of R62 is armed -/
  autoEpoch : Bool
  /-- the epoch in force was set on the internal reference during a fallback (R508) -/
  epochOnInt : Bool
  /-- the marker edge at which an epoch is to be set has been seen (R64) -/
  markerSeen : Bool
  /-- the next expected marker boundary that is not yet judged; none while no marker is expected (R64) -/
  markNext : Option Int
  /-- stamps taken since the reference returned in holdover, newest first (R61) -/
  back : List (Rat × Rat)
  /-- PHASE_JUMP holds holdover until a new epoch (R61) -/
  jumped : Bool
  /-- device time (cyc) at which holdover began, and whether its limit has stopped the sequencers (R59) -/
  holdSince : Nat
  holdStopped : Bool
  /-- cyc at which the reference in use was selected (R58) -/
  selectedAt : Nat
  deriving DecidableEq, Repr

/-- One launch handed to the probe synthesizer (R71): its phase in reference cycles since the epoch, rounded under R47,
its instant in ns on the 1/64 ns grid and its code length in ns. -/
structure Launch where
  slot : Nat
  code : Nat
  phase : Rat
  time : Rat
  len : Rat
  shot : Nat
  deriving DecidableEq, Repr

/-- What is kept of a shot since the sequencer left IDLE: its slot, the launch phase of R50, and whether that is scheduled,
in holdover, or of a shot not launched (R69). -/
structure ShotInfo where
  shot : Nat
  slot : Nat
  phase : Rat
  sched : Bool
  holdover : Bool
  skipped : Bool
  deriving DecidableEq, Repr

/-- An open LMON window: its shot, its centre in ns, and whether an edge has been taken (R72). -/
structure LmonWin where
  shot : Nat
  centre : Rat
  taken : Bool
  deriving DecidableEq, Repr

/-- What a sequencer holds beside its registers (R65–R80). -/
structure SeqRun where
  /-- exact start phase of the flight whose launches are being handed over, its index in the run, and the table index
  from which its next entry is taken -/
  base : Rat
  flight : Nat
  entry : Nat
  /-- flights of the run, none in CONTINUOUS -/
  limit : Option Nat
  /-- end phase of each flight handed over whole and not yet ended, with the number of the shot after it -/
  ends : List (Rat × Nat)
  /-- flights of the run that have ended -/
  ended : Nat
  /-- the run has begun, or waits for its start phase -/
  begun : Bool
  start : Option Rat
  /-- number of the run's first shot -/
  runShot : Nat
  /-- flight index from which a pending page is executed (R80) -/
  pendFlight : Nat
  /-- launches handed over and not yet made, oldest first -/
  handed : List Launch
  /-- the last launch of each slot and of the fibre: instant and code length in ns (R67, R69) -/
  slotLast : List (Nat × Rat × Rat)
  lastLaunch : Option (Rat × Rat)
  /-- the shot boundary of a pending abort (R76), and of a stop (R79) -/
  abortAt : Option Rat
  stopAt : Option Rat
  /-- the TIME trigger set by SEQ_ARM (R74) -/
  timeTrig : Option Rat
  /-- number of the next shot since the sequencer left IDLE (R124) -/
  shotNo : Nat
  wins : List LmonWin
  info : List ShotInfo
  /-- the last sixteen launch instants of R50 in ns, newest first (R402) -/
  launches : List Rat
  /-- the model that launches keep until the next flight boundary (R61) -/
  frozen : Option RefModel
  /-- the reference a sequencer was armed on, with its epoch, once a fallback start of the other one has replaced it (R60) -/
  kept : Option (RefModel × Int)
  /-- the instant in ns at which the run was decided: launches less than 64 clk_fab cycles after it are handed over late
  (R71, R75, R76) -/
  planAt : Rat
  /-- live 64-bit value of SEQ_NEXT (R79) -/
  next : Nat
  deriving DecidableEq, Repr

/-! ### Receiver front end (04) -/

/-- A probe code descriptor as a shot uses it (R86), with the bits of its chips read from code memory. -/
structure Code where
  typ : Nat
  dir : Bool
  taper : Nat
  amp : Nat
  len : Nat
  bw : Nat
  chip : Nat
  chips : List Bool
  deriving DecidableEq, Repr

/-- A code on its way out of the PSx pins: slot, instant of its first sample in ns, descriptor (R85–R89). -/
structure Emission where
  slot : Nat
  time : Rat
  code : Code
  deriving DecidableEq, Repr

/-- PRISM_GAL_CTRL [15:0] as it is in force for a shot (R129). -/
structure GalSet where
  alpha : Nat
  freeze : Bool
  fadeAuto : Bool
  ratio : Nat
  deriving DecidableEq, Repr

/-- A launched shot: its number, what it emitted, and the gallery settings it took (R88, R129). -/
structure Shot where
  shot : Nat
  em : Emission
  gal : GalSet
  deriving DecidableEq, Repr

/-- A change of the gain codes: the first sample instant (ns) at the new codes, the codes before it, and the groups that
step there (R97). -/
structure GainChange where
  at_ : Int
  rg : Nat
  bg : Nat
  ray : Bool
  bri : Bool
  deriving DecidableEq, Repr

/-- A sample instant behind the correction stage (R94): the six values (R433, R434), the STEP flag of each group, and the
converters that clipped, one bit each. -/
structure Sample where
  y : Vector Int 6
  stepRay : Bool
  stepBri : Bool
  clip : Nat
  deriving DecidableEq, Repr

/-- What the receiver front end of a fibre holds beside its registers. -/
structure RxfRun where
  /-- gain codes in force, Rayleigh and Brillouin (R95), and the changes that still concern a sample to come, newest first -/
  rg : Nat
  bg : Nat
  steps : List GainChange
  /-- sample 0 of the last launch, and the sample instant up to which its stair has been run, none before entry 0 (R95) -/
  stair0 : Int
  stairAt : Option Int
  /-- the code on the PSx pins (R88, R89) -/
  probe : Option Emission
  /-- shots launched since the sequencer left IDLE, newest first -/
  shots : List Shot
  /-- samples of past 5 ns intervals, newest first, each with the number of its interval -/
  wave : List (Int × Vector Sample 5)
  /-- cyc at which each group was enabled (R93) -/
  rayAt : Nat
  briAt : Nat
  /-- cyc at which the next emission of the probe test is due (R89) -/
  ptestDue : Nat
  deriving DecidableEq, Repr

/-! ### Commands (14) -/

/-- The CMD block behind its registers (R324–R336). -/
structure CmdRun where
  queue : List CmdPkt
  exec : Option CmdPkt
  /-- cyc at which the command in execution left the queue (R325) -/
  execAt : Nat
  /-- CMD_TMO in force for the command in execution -/
  execTmo : Nat
  /-- the SPI reply buffer, oldest first -/
  replies : List (List Byte)
  /-- hardware replies of the port that wait for room (R336) -/
  waiting : List (List Byte)
  /-- packets received on the port while such a reply waits (R336) -/
  heldIn : List (List Byte)
  /-- bytes the last SPI transaction clocked out on TSPI_SDO -/
  spiOut : List Byte
  /-- RESET has left the queue (R326) -/
  resetting : Bool
  /-- cyc at which the reset that a RESET command asked for begins (R326) -/
  resetAt : Nat
  deriving DecidableEq, Repr

/-! ### Management (15) -/

/-- An update in progress (R352). -/
structure Update where
  image : Nat
  len : Nat
  written : Nat
  lastOff : Nat
  lastData : List Word
  erasing : Bool
  verifying : Bool
  deriving DecidableEq, Repr

/-- The management subsystem behind its registers (R340–R363). -/
structure MgmtRun where
  /-- the loaded record's words, and its slot (none: factory defaults) -/
  record : List Word
  recSlot : Option Nat
  /-- slot being programmed by CFG_COMMIT -/
  commit : Option Nat
  upd : Option Update
  /-- records that wait for the persistent log -/
  persistQ : List (List Word)
  /-- lifetime words 0–62 as counted to now, cyc of the next append, and each sink's charge below 1 mA·h in mA·s / 512 (R357, R358) -/
  life : List Nat
  lifeDue : Nat
  charge : Vector Nat 4
  /-- the die sensor that was reported above the limit and has not yet fallen 5 K below it (R359) -/
  tjHot : Option Nat
  /-- watchdog deadline in cyc -/
  wdtDue : Option Nat
  baud : Nat
  /-- the last reply of the monitor: status code and data words -/
  monOut : Option (Nat × List Word)
  wrongTokens : Nat
  monInputAt : Nat
  /-- cyc from which the reply line is sent (R362), and the boot ROM's lines: the phases entered, a fault as its reason, 5 for
  no accepted flash and 6 for no valid image (R360) -/
  monDue : Nat
  bootLines : List Nat
  /-- event records made before INIT, held by the boot ROM (R343) -/
  early : List (List Word)
  /-- deferred INIT work waits for clk_fab (R457) -/
  deferred : Bool
  /-- the same after a wake from STANDBY (R459) -/
  deferWake : Bool
  /-- the flash has been accepted by the boot ROM, which uses 4-byte addresses and the 1-1-4 read where the table
  advertises them (R341) -/
  flashOk : Bool
  flash4 : Bool
  flashQuad : Bool
  /-- address of the last data abort of the management processor (R22) -/
  abort : Option Nat
  deriving DecidableEq, Repr

/-! ### On-chip memory integrity (17) -/

/-- A lower half held in a master's combining entry: address, word and the cycle of its time-out (R390). -/
structure Held32 where
  addr : Nat
  val : Nat
  due : Nat
  deriving DecidableEq, Repr

/-- A scrub pass in progress (R392): next word, words left, and the summary so far. -/
structure Pass where
  next : Nat
  left : Nat
  read : Nat
  ce : Nat
  ue : Nat
  firstCe : Option Nat
  firstUe : Option Nat
  deriving DecidableEq, Repr

structure ScrubRun where
  combMgmt : Option Held32
  combCmd : Option Held32
  pass : Option Pass
  /-- a correction or an uncorrectable read has been recorded since CLR_CNT (R386) -/
  ceSeen : Bool
  ueSeen : Bool
  /-- the cycle in which a master other than the scrubber last used each on-chip memory, and the cycles the scrubber has
  waited for one (R392) -/
  uses : KMap Nat
  wait : Nat
  deriving DecidableEq, Repr

/-! ### Power (22) -/

/-- A request for a power state (true) or an operating point (false), with its code (R467). -/
structure PwrReq where
  isState : Bool
  code : Nat
  /-- made by a GO bit, not by an opcode (R475) -/
  go : Bool
  deriving DecidableEq, Repr

/-- The change in progress (R461, R466, R469). -/
inductive PwrChange where
  | raise (op : Nat)
  | lower (op : Nat)
  | entry (target : Nat)
  | wake
  /-- a raise was not confirmed: VSEL has returned, and its settling is waited for (R461) -/
  | back
  deriving DecidableEq, Repr

structure PwrRun where
  change : Option PwrChange
  held : Option PwrReq
  /-- the power state that the change of operating point in progress ends in (R464) -/
  stateTo : Option Nat
  /-- VSEL1, VSEL0 as driven, and the operating point of the divider -/
  vsel : Nat
  /-- cyc at which the change in progress was registered -/
  changeAt : Nat
  /-- recorded on entry to REDUCED: RAY_EN of A and B and the operating point (R464) -/
  savedRay : Bool × Bool
  savedOp : Nat
  /-- operating point to return to at a wake from STANDBY (R469) -/
  wakeOp : Nat
  /-- cyc at which the last entry completed (R468 TIMER) -/
  enteredAt : Nat
  /-- the retention store: DRAMC delay and mode values of each channel (R458, R470) -/
  retained : List (List Nat)
  /-- cyc at which clk_fab began to run -/
  fabAt : Nat
  /-- the sampling PLL has been started since the last reset (R28), and since its domain came up (R456, R469) -/
  pllStarted : Bool
  pllOn : Bool
  /-- whether banks IO_A and IO_B are in 3.3 V mode, selected at the release of power-on reset (R490) -/
  io : Option (Bool × Bool)
  /-- the clk_aon cycle of the last wake with the sources that were allowed and enabled: a lower one of them still shows in
  WAKE_SRC in that cycle (R468) -/
  wakeAt : Option (Nat × Nat)
  deriving DecidableEq, Repr

/-! ### Prism and landings (05) -/

/-- A captured Brillouin shot in one of the two capture buffers (R119). -/
structure Capture where
  shot : Nat
  buffer : Nat
  /-- launch phase of the shot (R50), reference cycles, and its marks -/
  phase : Rat
  sched : Bool
  holdover : Bool
  /-- next temperature position to deliver -/
  nextT : Nat
  /-- running number of the capture -/
  no : Nat
  /-- what the shot emitted, the number of stored samples (R120), and the grid positions of CLIP samples (R121) -/
  em : Emission
  stored : Nat
  clips : List Nat
  deriving DecidableEq, Repr

/-- A gallery operation in progress: QCLR (entries cleared so far) or GAL_INIT (R117, R118). -/
inductive GalOp where
  | qclr (done : Nat)
  | init
  deriving DecidableEq, Repr

/-- One word of a landing record: the response of a position and polarisation of a shot (R125). -/
structure RespWord where
  shot : Nat
  pos : Nat
  pol : Nat
  word : Nat
  deriving DecidableEq, Repr

structure PrismRun where
  galOp : Option GalOp
  galAt : Nat
  caps : List Capture
  /-- captures so far, and the cyc before which no further spectrum is complete (R122) -/
  capNo : Nat
  specAt : Nat
  /-- launched shots of each slot passed over since the last capture, none before the first (R119) -/
  passed : Option (Vector Nat 8)
  /-- responses of recent shots, for the landings (R124) -/
  resp : List RespWord
  deriving DecidableEq, Repr

/-- A landing half with the engine: which half, its records, and the LOST count of its header (R126). -/
structure Half where
  no : Nat
  recs : Nat
  lost : Nat
  deriving DecidableEq, Repr

/-- The landing of one engine (R123–R127, R163). -/
structure Landing where
  /-- the half being written, bytes and runs in it, and the cycle of its first run -/
  half : Nat
  bytes : Nat
  runs : Nat
  firstAt : Option Nat
  /-- records dropped since the last half -/
  lost : Nat
  /-- halves handed over and not yet taken, oldest first -/
  avail : List Half
  /-- halves taken, current first -/
  taken : List Half
  /-- shots whose runs are being written, each with the first position not yet written (R124) -/
  progress : List (Nat × Nat)
  deriving DecidableEq, Repr

/-! ### Position filter (06) -/

/-- Definition of an enabled loupe region: start, length, K_L, FREE rate, QN and QD (R41, R146). -/
structure LoupeDef where
  start : Nat
  len : Nat
  k : Nat
  rate : Nat
  qn : Nat
  qd : Nat
  deriving DecidableEq, Repr

/-- One stream of the position filter: main (index 0) or a loupe region (1–16). -/
structure PStream where
  /-- outputs still SETTLING (R142) -/
  settle : Nat
  /-- fractional input frame index of the next output (R137), none before the first frame -/
  v : Option Rat
  /-- STEP as held, and before its rounding (R137) -/
  step : Rat
  exact : Rat
  /-- frame number of the next frame (R44) -/
  frameNo : Nat
  /-- the loupe region's definition in force, and the frame since SYNC at which its history begins (R146) -/
  loupe : Option LoupeDef
  since : Nat
  /-- FIR samples of the stream's positions, newest first, in units of 1/16 (R135) -/
  fir : List (List Int)
  deriving DecidableEq, Repr

/-- Launch phase of R50 of a frame, its scheduled and holdover marks (R139), and, in the first frame of a run, the tracked
period in ns at which the run began (R137). -/
structure Mark where
  phase : Rat
  sched : Bool
  holdover : Bool
  began : Option Rat
  deriving DecidableEq, Repr

/-- One input frame of the filter: its samples and its mark (R131, R139). -/
structure InFrame where
  samples : List (BitVec 16)
  mark : Mark
  deriving DecidableEq, Repr

/-- A tile set whose frames have closed: its buffer, the marks of its frames, whether it begins a run that does not
continue the previous one (R141), and the brick rows discarded and not yet written as 0x8000 (R133). -/
structure TileSet where
  buf : Nat
  marks : List Mark
  first : Bool
  owed : List Nat
  deriving DecidableEq, Repr

structure PfilRun where
  /-- SHOT at which each run since IDLE began, newest first; a run that continues the previous one is part of it -/
  runs : List Nat
  /-- SHOT and tracked period in ns of the beginning of every run since IDLE, and the period of the run being filtered (R137) -/
  starts : List (Nat × Rat)
  runT : Rat
  /-- SHOT of frame 0 of the run now gathered -/
  run : Option Nat
  /-- first frame of the brick row in staging, frames closed, next brick of the row to write -/
  rowBase : Nat
  closed : Nat
  brick : Nat
  /-- marks of the frames of the present tile set, its discarded rows, and whether it begins a run -/
  marks : List Mark
  owed : List Nat
  first : Bool
  /-- tile sets written and not yet processed; the buffer being read, with the frames still to filter -/
  ready : List TileSet
  reading : Option (Nat × List InFrame)
  /-- filter input history, newest first, and the number of frames since SYNC -/
  hist : List InFrame
  count : Nat
  streams : Vector PStream 17
  /-- a swap held behind a fade: L (R144) -/
  heldSwap : Option Nat
  /-- a SYNC is requested, by PFIL_SYNC or a page switch, and by a run (R141) -/
  syncReq : Bool
  syncRun : Bool
  deriving DecidableEq, Repr

/-! ### Engines (07, 08) -/

/-- One hardware loop: first address, end address and remaining count (R193). -/
structure LoopLvl where
  start : Nat
  stop : Nat
  count : Nat
  deriving DecidableEq, Repr

/-- What an engine's next instruction waits for (R191). -/
inductive Stall where
  | landing
  | dmaWait (ch : Fin 2)
  | dmaStart (ch : Fin 2)
  | dmaSpecial (ch : Fin 2)
  | frameOut
  | qrep
  | alarm
  deriving DecidableEq, Repr

/-- A DMA channel's descriptor registers (R166). -/
structure DmaChan where
  laddr : Nat
  raddr : Nat
  count : Nat
  rows : Nat
  rstride : Nat
  dir : Bool
  htrap : Bool
  deriving DecidableEq, Repr

/-- A quality report in an engine's queue (R170): kind, fibre and position. -/
structure QReport where
  kind : Nat
  fib : Fib
  pos : Nat
  deriving DecidableEq, Repr

/-- A shot that the default strain-rate kernel gathers: its number and slot, its launch phase words, the format of its
records, whether its last run has come, and the X and Y words of each position (R124, R125). -/
structure KShot where
  shot : Nat
  slot : Nat
  lfrac : Nat
  lcyc : Nat
  fmt : Nat
  last : Bool
  recs : KMap (Nat × Nat)
  deriving DecidableEq, Repr

/-- What a default kernel keeps while it runs: the parameters in force (R176, R205), the phase windows that are armed (R177),
the shots it gathers, oldest first, each position's past responses (slot and phase in turns, newest first) and the phase its
sequence has reached, and the EDGE bounds it has reported (R39). -/
structure Kern where
  params : List Nat
  armed : Vector Bool 4
  shots : List KShot
  past : KMap (List (Nat × Rat))
  theta : KMap Rat
  edges : Option (Nat × Nat)
  deriving DecidableEq, Repr

/-- The programming model of one engine (R160). -/
structure Engine where
  g : Vector Word 16
  v : Vector (Vector (BitVec 16) 8) 16
  a : Vector (BitVec 16) 8
  b : Vector (BitVec 16) 8
  l : Vector (BitVec 16) 8
  acc : Vector (Vector (BitVec 40) 8) 4
  ov : Vector (Vector Bool 8) 4
  ovs : Vector (Vector Bool 8) 4
  pc : BitVec 13
  lp : BitVec 15
  loops : List LoopLvl
  dma : Vector DmaChan 2
  stall : Option Stall
  qreps : List QReport
  /-- the latest shot this engine has closed (R168) -/
  closedShot : Option Nat
  /-- cyc at which a running ENG_MEMINIT began (R159) -/
  memInit : Option Nat
  /-- the engine's next cycle goes to an external access (R158) -/
  skip : Bool
  /-- the default kernel is in the instruction memory, with what it keeps (R174–R177) -/
  kern : Option Kern
  /-- alarm posts that wait for the alarm queue, oldest first: landing source and words (R171) -/
  posts : List (Nat × List Nat)
  deriving DecidableEq, Repr

/-! ### Output unit (11) -/

/-- A class S frame between its producer and its FRAME_TAIL (R232, R235). -/
structure Frame where
  sid : StreamId
  frameNo : Nat
  /-- timestamp, fraction in the low word (R47) -/
  ts : Nat
  settling : Bool
  sched : Bool
  holdover : Bool
  lateFit : Bool
  refStale : Bool
  short : Bool
  format : Bool
  spacing : Nat
  first : Nat
  samples : List (BitVec 16)
  captures : Nat
  deriving DecidableEq, Repr

/-- A held frame: its holding slot (samples lie in DRAM there, R249) and the rest of it. -/
structure HeldFrame where
  frame : Frame
  slot : Nat
  npos : Nat
  /-- cyc of its hand-over -/
  at_ : Nat
  deriving DecidableEq, Repr

/-- The frame the encoder has begun, with its samples as read from the holding area (R250). -/
structure Enc where
  frame : Frame
  /-- FRAME_HEAD has been written -/
  head : Bool
  cmp : Nat
  histReset : Bool
  /-- next block, and the blocks of the FRAME_DATA packet being built -/
  block : Nat
  data : List Byte
  /-- reconstruction so far, in sample order -/
  recon : List (BitVec 16)
  deriving DecidableEq, Repr

/-- What the encoder knows of a stream's history frame (R245, R247). -/
structure HistInfo where
  frameNo : Nat
  npos : Nat
  first : Nat
  spacing : Nat
  cmp : Nat
  crc : Nat
  /-- a frame has been coded since reset -/
  coded : Bool
  deriving DecidableEq, Repr

/-- An alarm in the alarm queue: its ten words (R238), the cycle it was entered in, and its place in the order of that cycle
(1 loss watch A, 2 loss watch B, then 3 and up the engines, R239). -/
structure Alarm where
  words : List Nat
  at_ : Nat
  key : Nat
  deriving DecidableEq, Repr

/-- A bulk transfer (R252): subtype, TAG, the data left to send, the offset of the next packet, the group a command reply leaves
on (R320; none: the host group), and where in bulk staging its data begin (R254). -/
structure Bulk where
  sub : Nat
  tag : Nat
  data : List Byte
  off : Nat
  group : Option Nat
  stage : Option Nat
  deriving DecidableEq, Repr

/-- A class S payload handed to the link: its bytes, and its offset in the transmit buffer (none: a DROP marker, R251). -/
structure Payload where
  bytes : List Byte
  at_ : Option Nat
  deriving DecidableEq, Repr

structure OutRun where
  /-- frames producers offer, oldest first -/
  offered : List Frame
  held : List HeldFrame
  enc : Option Enc
  hist : List (Nat × HistInfo)
  /-- streams (as fibre × 32 + index) whose history was restored while disabled (R247) -/
  restored : List Nat
  /-- streams enabled since their last coded frame -/
  fresh : List Nat
  /-- class S payloads in the transmit buffer, oldest first, and the offset at which the next one is written (R248) -/
  tx : List Payload
  txAt : Nat
  /-- DROP markers: stream, first dropped frame, count (R251) -/
  drops : List (Nat × Nat × Nat)
  alarms : List Alarm
  bulk : List Bulk
  /-- SEND_SEQ last served, DE14 and DE15, and the cycle of the next poll (R254) -/
  served : Vector Nat 2
  pollAt : Vector Nat 2
  deriving DecidableEq, Repr

/-! ### Lanes (12) -/

/-- A lane behind its registers (R261–R281). -/
structure LaneRun where
  /-- the last 58 scrambled payload bits received, and sent (R261) -/
  descr : BitVec 58
  scr : BitVec 58
  /-- valid sync headers in a row while hunting, and the candidate boundary in bits, modulo 66 (R263) -/
  goodSh : Nat
  slip : Nat
  /-- blocks and bad sync headers of the present window (R264) -/
  winBlocks : Nat
  winBad : Nat
  /-- consecutive training blocks received with RDY = 1, and blocks with RDY = 0 in CAPX or later (R270, R271) -/
  rdyRun : Nat
  rdyZero : Nat
  /-- training blocks received with IDLE_REQ = 1 (R273) -/
  idleRx : Nat
  /-- training blocks with RDY = 1 sent since BLKLOCK, and those sent after the handshake (R270) -/
  sentRdy : Nat
  sentAfter : Nat
  /-- index of the next block of the training pattern (R265) or of the CAP sequence (R291) -/
  slotNo : Nat
  /-- positive detect attempts in a row (R268) -/
  detects : Nat
  /-- cyc by which CAPX must be reached (R269), none once it has been -/
  trainDue : Option Nat
  /-- cyc of the next detect attempt (R268) -/
  detDue : Nat
  /-- blocks of a fast-exit burst left to send (R274) -/
  burstLeft : Nat
  /-- in RX_IDLE: blocks since the signal returned, and blocks since the last training block (R274) -/
  exitBlocks : Nat
  sinceTrain : Nat
  /-- cycles of 2.5 ns at which the eye scan has compared its bits (R277) -/
  esDue : Rat
  /-- CAP blocks received: payload and identical copies, INDEX 0 and 1 (R292) -/
  cap0 : Option (Nat × Nat)
  cap1 : Option (Nat × Nat)
  accepted : Bool
  farAck : Bool
  capAcks : Nat
  /-- the last block sent: sync header and unscrambled payload -/
  sent : Option (Nat × Nat)
  /-- PRBS checker: shift register, correct bits in a row, bits and wrong bits of the window, bits not yet counted (R278) -/
  prbs : Nat
  prbsBits : Nat
  prbsGood : Nat
  prbsWin : List Bool
  prbsRem : Nat
  /-- PRBS generator's shift register and the bit last sent (R278) -/
  gen : Nat
  txBit : Bool
  /-- a single injection waits for the next transmitted bit; bits inverted so far (R279) -/
  inj : Bool
  inverted : Nat
  /-- cycles of 2.5 ns from which the bits of the next rate-driven injection count (R279) -/
  rateAt : Rat
  deriving DecidableEq, Repr

/-! ### Link (13) -/

/-- A packet held for replay or waiting to be sent (R288, R298). -/
structure LinkPkt where
  cls : Nat
  dir : Bool
  src : Nat
  dst : Nat
  seq : Nat
  bytes : List Byte
  deriving DecidableEq, Repr

/-- A lane group behind its registers (R293–R306). -/
structure GroupRun where
  /-- next SEQ to send and next SEQ expected, S and B together and A (R297) -/
  txSB : Nat
  txA : Nat
  rxSB : Nat
  rxA : Nat
  /-- credit left for S, B and A, and the cumulative counts last received (R296) -/
  crS : Nat
  crB : Nat
  crA : Nat
  gotS : Nat
  gotB : Nat
  gotA : Nat
  /-- cumulative credit this end has freed (R296) -/
  freeS : Nat
  freeB : Nat
  freeA : Nat
  /-- sent and unacknowledged, oldest first (R298) -/
  replay : List LinkPkt
  /-- packets to forward or send back, oldest first (R303), each with the group it arrived on (8: made here) -/
  fwd : List (Nat × LinkPkt)
  /-- class A, S or B packets sent since the last class B one while S and B waited (R18), and the sources of S and of B served
  last (R303) -/
  sinceB : Nat
  /-- blocks (sync header and payload) still to send of the class S or B packet and of the class A packet in transmission (R17,
  R288), and blocks of the group stream since the last AM (R293) -/
  blks : List (Nat × Nat)
  blksA : List (Nat × Nat)
  stripe : Nat
  lastS : Nat
  lastB : Nat
  /-- resends since ACK last advanced (R300), and cyc of the last advance (R298) -/
  resends : Nat
  ackAt : Nat
  /-- an ACK with NAK bits is to be sent: NAK_SB, NAK_A -/
  nakSB : Bool
  nakA : Bool
  amSeq : Nat
  /-- lanes waiting to be added at the next regular AM (R295) -/
  joining : List Nat
  /-- a DOWN group waits for its turn to start (R286) -/
  waiting : Bool
  startedAt : Nat
  /-- timing sets sent: SETSEQ, departure phase of the last INDEX 0 block (R304) -/
  setSeq : Nat
  departed : Nat
  /-- an ECHO reply to send: EID and TURN; and the request outstanding: EID and t1 in ps (R306) -/
  echoReply : Option (Nat × Nat)
  echoOut : Option (Nat × Nat)
  eid : Nat
  /-- the last packet put on the group -/
  lastTx : Option LinkPkt
  /-- the group has been configured: its registers exist (R313) -/
  conf : Bool
  /-- packets of a resend still to send, oldest first (R299) -/
  resendQ : List LinkPkt
  /-- an ACK block and a CREDIT block are due (R296, R297) -/
  ackDue : Bool
  creditDue : Bool
  /-- cycles of 2.5 ns at which the next regular AM is due (R293) -/
  amDue : Rat
  /-- MASK and AM_SEQ of the last regular AM received (R295) -/
  amRx : Nat
  amRxSeq : Nat
  /-- the far end's initial credits S, B, A and its identity, kept from its CAP blocks (R291) -/
  farCr : Nat × Nat × Nat
  /-- cyc at which the next timing set is due, and the last one sent (R304) -/
  setDue : Nat
  setTx : Option TimingSet
  deriving DecidableEq, Repr

/-- What the LINK block holds for the device (R301–R309). -/
structure LinkRun where
  /-- last RTTs in ps, newest first, and outliers in a row (R306) -/
  rtts : List Rat
  outliers : List Rat
  /-- the one-way delay d in ps (R306) -/
  delay : Rat
  /-- round trips measured since the timing lane changed (R305) -/
  sinceLane : Nat
  /-- the last timing set: SETSEQ and arrival stamp (R307) -/
  lastSet : Option (Nat × Nat)
  setAt : Nat
  epochGen : Nat
  runGen : Nat
  /-- manager: run start phase announced, while it has not passed (R309) -/
  runStart : Option Nat
  /-- a registered link trigger waits: phase and RUN_GEN -/
  linkTrig : Option Nat
  /-- a ROUTE block is due (R301) -/
  routeDue : Bool
  /-- cycles of 2.5 ns at which the periodic ROUTE block is due, and the mask last sent (R301) -/
  routeAt : Rat
  routeSent : Nat
  /-- the DOWN group started last (R286) -/
  lastDown : Option Nat
  /-- cyc at which the next ECHO request is due (R306) -/
  echoDue : Nat
  /-- the last timing set received -/
  lastRx : Option TimingSet
  deriving DecidableEq, Repr

/-! ### Temperature path (09) -/

/-- A closed interval on its way to a temperature frame (R201, R209). -/
structure BrilClosed where
  bank : Nat
  frameNo : Nat
  ts : Nat
  sched : Bool
  holdover : Bool
  late : Bool
  short : Bool
  captures : Nat
  /-- words 8–13 of the descriptor: T_POS, coil temperatures and positions, MODE -/
  words : List Nat
  deriving DecidableEq, Repr

/-- The temperature path of a fibre behind its registers (R194–R211). -/
structure BrilRun where
  /-- launch phase at which EN was registered -/
  since : Option Rat
  /-- the interval open, and its count words (cnt, SAT) -/
  open_ : Option Int
  counts : KMap Nat
  /-- first and last launch phase of the captures accumulated, their number and marks, and whether any was discarded -/
  first : Rat
  last : Rat
  captures : Nat
  sched : Bool
  holdover : Bool
  late : Bool
  /-- running number of the capture last counted as one accumulated, and as a discarded one -/
  lastCap : Option Nat
  discCap : Option Nat
  /-- the interval closed last since EN was registered (R199) -/
  lastIv : Option Int
  /-- banks closed or posted and not yet released -/
  held : List Nat
  /-- the interval closed and not yet posted, the one posted, and whether its results are complete -/
  closed : Option BrilClosed
  posted : Option BrilClosed
  done : Bool
  readySeq : Nat
  frameNo : Nat
  /-- cyc of the next poll of DONE_SEQ -/
  pollAt : Nat
  /-- a pending spectrum dump: FIRST and n (R211) -/
  dump : Option (Nat × Nat)
  deriving DecidableEq, Repr


/-! ### Loss watch and trace capture (10) -/

/-- A launched shot as loss watch counts it (R214): its launch phase of R50 and its envelope launch instant in ns. -/
structure EnvShot where
  shot : Nat
  slot : Nat
  phase : Rat
  sched : Bool
  holdover : Bool
  at_ : Rat
  deriving DecidableEq, Repr

/-- An edge trigger with the settings of the current shot and its window so far: the sum and the number of intervals
that are not excluded (R216, R217). -/
structure LwTrig where
  n : Nat
  rise : Bool
  alm : Bool
  pkt : Bool
  frz : Bool
  width : Nat
  pos : Nat
  level : Nat
  hyst : Nat
  sum : Nat
  k : Nat
  deriving DecidableEq, Repr

/-- A trigger event in the event FIFO: words 1–7 of ALARM_LW and the marks of word 9 (R224, R238). -/
structure LwEvt where
  words : List Nat
  marks : Nat
  deriving DecidableEq, Repr

/-- A mask learn: shots left to observe, margin, whether the current shot is observed, and the smallest and largest value
of each entry (R221). -/
structure MaskLearn where
  left : Nat
  margin : Nat
  began : Bool
  mn : KMap Nat
  mx : KMap Nat
  deriving DecidableEq, Repr

/-- The loss watch of a fibre behind its registers. -/
structure LwRun where
  /-- the shot whose positions run, whether its position 0 has come, and the shots to come -/
  cur : Option EnvShot
  begun : Bool
  coming : List EnvShot
  /-- the last 5 ns interval whose word was taken -/
  lastIv : Option Int
  trigs : List LwTrig
  /-- cyc at which a TIME hold-off expires, and intervals an EVENTS hold-off still covers (R223) -/
  holdDue : Option Nat
  holdLeft : Nat
  fifo : List LwEvt
  /-- events lost since the last ALARM_LW (R238) -/
  lost : Nat
  /-- cyc at which a PULSE latch clears (R225) -/
  pulseDue : Nat
  /-- LW_MASK_FILL in progress: its command, its end and the entry (R218) -/
  fill : Option (CmdPkt × Nat × Nat)
  learn : Option MaskLearn
  deriving DecidableEq, Repr

/-- A capture point so far: smallest and largest ENV, STEP and CLIP seen (R228). -/
structure CapPt where
  mn : Nat
  mx : Nat
  step : Bool
  clip : Bool
  deriving DecidableEq, Repr

/-- A capture record that is being gathered. -/
structure CapRec where
  idx : Nat
  sh : EnvShot
  trig : Bool
  evt : Nat
  pts : KMap CapPt
  deriving DecidableEq, Repr

/-- The trace capture (R227–R229). -/
structure CapRun where
  /-- cyc of the enable -/
  since : Nat
  cur : Option CapRec
  /-- records of ended shots, not yet written -/
  ready : List CapRec
  /-- records begun, and records still to begin after a freeze -/
  taken : Nat
  post : Option Nat
  deriving DecidableEq, Repr

/-! ### Housekeeping (19) -/

/-- The slot in progress (R417, R418). -/
structure HkAct where
  inj : Bool
  slot : Nat
  /-- the settling delay runs; otherwise a conversion does; and the cyc of its end -/
  settling : Bool
  due : Nat
  /-- the next conversion is discarded -/
  discard : Bool
  /-- conversions or pairs done, and pairs since the slot (re)started -/
  done : Nat
  parity : Nat
  /-- the pair's second conversion is next, and what the first gave each half -/
  second : Bool
  first0 : Option Int
  first1 : Option Int
  /-- RTD conversions of a half are skipped for the rest of the slot (R428) -/
  skip0 : Bool
  skip1 : Bool
  /-- check failures: excitation, compliance limit, at the end of the conversion -/
  faults : List (Nat × Bool × Bool)
  deriving DecidableEq, Repr

/-- An accumulator's live set (R422); its count is the register's. -/
structure HkAcc where
  sum : Int
  mn : Int
  mx : Int
  /-- the set before the last result, with that result's clk_mgmt cycle: a clear in the cycle comes before the result (R423) -/
  was : Option (Nat × Int × Int × Int)
  deriving DecidableEq, Repr

structure HkRun where
  act : Option HkAct
  /-- the regular slot that an injected run interrupted or holds up -/
  resume : Option HkAct
  /-- an injected run starts at the end of the conversion in progress (R420) -/
  injWait : Bool
  /-- cyc of the next PERIODIC boundary -/
  grid : Nat
  accs : Vector HkAcc 72
  deriving DecidableEq, Repr

/-! ### DRAM controller (16) -/

/-- A request in a bank queue, or waiting for one (R371): its port, direction, rank, bank group, bank (group and bank
together), row, and the cyc of its arrival. -/
structure DramQ where
  port : Nat
  write : Bool
  rank : Nat
  group : Nat
  bank : Nat
  row : Nat
  at_ : Nat
  deriving DecidableEq, Repr

/-- One DRAM channel behind its registers (R370–R382). Times are in nCK. -/
structure DramRun where
  /-- open rows, and the last activate, precharge, read and write of each bank (rank × 16 + bank) -/
  rows : KMap Nat
  actAt : KMap Nat
  preAt : KMap Nat
  rdAt : KMap Nat
  wrAt : KMap Nat
  /-- activates of each rank, newest first: instant and bank group -/
  acts : Vector (List (Nat × Nat)) 2
  /-- the last write burst of each rank: instant and bank group, newest first -/
  wrs : Vector (List (Nat × Nat)) 2
  /-- the last data burst command, and the last REF of each rank -/
  burstAt : Option Nat
  refAt : Vector (Option Nat) 2
  /-- requests in the bank queues and those that wait for one, in order of arrival -/
  queue : List DramQ
  waiting : List DramQ
  /-- bank group served last, and the next command slot -/
  lastAct : Nat
  slot : Nat
  /-- cycles of 2.5 ns at which each rank's refresh timer expires next -/
  timer : Vector Rat 2
  /-- cyc of the last write of DRAMC_TEMP (R376), and of the next ZQCS; ZQCS commands so far -/
  tempAt : Nat
  zqDue : Nat
  zqs : Nat
  /-- a training pass runs -/
  pass : Bool
  /-- a fill in progress: first address and bursts -/
  fill : Option (Nat × Nat)
  /-- mode registers of each rank (R382) -/
  mr : Vector (Vector Nat 7) 2
  deriving DecidableEq, Repr

/-! ### Time measurement (18) -/

/-- A measurement channel behind its registers (R401–R409). -/
structure TdcChan where
  /-- edges of the selected polarity since the channel was enabled, modulo the prescaler -/
  edges : Nat
  /-- records, oldest first, of six words each -/
  fifo : List (List Nat)
  /-- the gate: first and last coarse count in it; and its stamps, newest first -/
  gate : Option (Nat × Nat)
  stamps : List Nat
  /-- the period last measured, 2^-24 ns -/
  per : Nat
  /-- accepted stamps, newest first (R402) -/
  accepted : List Nat
  /-- stamps of STAMP mode that are not decided yet, oldest first: stamp, falling edge, and the cycle in which it was formed
  (R402) -/
  wait : List (Nat × Bool × Nat)
  deriving DecidableEq, Repr

structure TdcRun where
  /-- the last stamp of each interpolator (R401) -/
  last : Vector (Option Nat) 9
  ch : Vector TdcChan 8
  deriving DecidableEq, Repr

/-! ### Self-calibration (20) -/

/-- The estimates of an accumulation (R436). -/
structure CalEst where
  ofs : Vector Int 6
  gain : Vector Int 3
  ph : Vector Int 3
  step : Vector Int 3
  deriving DecidableEq, Repr

/-- One pair's accumulation (R436): eligible instants gathered, the sums, and the values of the last instant where it was
eligible. -/
structure CalAcc where
  n : Nat
  ofsI : Int
  ofsQ : Int
  ii : Nat
  qq : Nat
  iq : Int
  sym : Int
  prev : Option (Int × Int)
  deriving DecidableEq, Repr

structure CalRun where
  /-- the sums of the accumulations A and B of each pair (R436), and the sample instant (ns) at which A began -/
  accA : Vector CalAcc 3
  accB : Vector CalAcc 3
  from_ : Int
  /-- the sample instant at which B began: the first of the cycle after A was full (R439) -/
  fromB : Option Int
  a : Option CalEst
  /-- the set a run has found (with skews, not steps): it takes effect at the next shot (R439) -/
  found : Option CalEst
  /-- every calibrated pair of that run has a zero skew step -/
  settled : Bool
  /-- a held CAL_WRITE (R442) -/
  held : Option (List Nat)
  /-- cyc at which the accumulation started (R440), and at which the suppression of temperature requests ends (R438) -/
  startAt : Nat
  retryDue : Nat
  deriving DecidableEq, Repr

/-! ### Emitter drive (21) -/

/-- A current sink (R445, R446). -/
structure Sink where
  acc : Int
  r : Nat
  on : Bool
  /-- cyc of the next ramp step -/
  rampDue : Nat
  deriving DecidableEq, Repr

structure EmitRun where
  sinks : Vector Sink 4
  /-- cyc at which the transfer in progress completes (R452) -/
  dchDue : Nat
  /-- the DCH_WRITE that awaits its end -/
  dchTo : Option CmdPkt
  /-- a disable waits for its end (R452) -/
  dchOff : Bool
  deriving DecidableEq, Repr

/-! ### Performance counters (23) -/

structure PmonRun where
  cnt : Vector Nat 8
  /-- cyc at which PMON_CYC was 0 (R477) -/
  cycAt : Nat
  /-- bytes of the window that runs, by channel and port, its closing cyc, and the bytes of the last closed window -/
  bw : Vector Nat 14
  bwEnd : Option Nat
  res : Vector Nat 14
  /-- bytes moved after a window's last cycle and before its close is taken: they belong to the next window (R484) -/
  bw2 : Vector Nat 14
  /-- occurrences that each counter has taken in a cycle, and the cycle (R480) -/
  now : Vector Nat 8
  nowAt : Nat
  /-- the cycle of the last snapshot, whose registers take every occurrence of that cycle (R482) -/
  snapAt : Option Nat
  /-- a PMON_READ that samples counter k 6 × (k + 1) cycles after its start: the command, the start and the words sampled
  (R483) -/
  read : Option (CmdPkt × Nat × List Nat)
  deriving DecidableEq, Repr


/-- `Tracker` as reset leaves it. -/
def Tracker.init : Tracker where
  stamps := []
  nextK := 0
  model := none
  extModel := none
  epoch := 0
  epochReq := none
  epochTo := none
  autoEpoch := true
  epochOnInt := false
  markerSeen := false
  markNext := none
  back := []
  jumped := false
  holdSince := 0
  holdStopped := false
  selectedAt := 0

/-- `SeqRun` as reset leaves it. -/
def SeqRun.init : SeqRun where
  base := 0
  flight := 0
  entry := 0
  limit := none
  ends := []
  ended := 0
  begun := false
  start := none
  runShot := 0
  pendFlight := 0
  handed := []
  slotLast := []
  lastLaunch := none
  abortAt := none
  stopAt := none
  timeTrig := none
  shotNo := 0
  wins := []
  info := []
  launches := []
  frozen := none
  kept := none
  planAt := 0
  next := 0

/-- `RxfRun` as reset leaves it. -/
def RxfRun.init : RxfRun where
  rg := 0
  bg := 0
  steps := []
  stair0 := 0
  stairAt := none
  probe := none
  shots := []
  wave := []
  rayAt := 0
  briAt := 0
  ptestDue := 0

/-- `PrismRun` as reset leaves it. -/
def PrismRun.init : PrismRun where
  galOp := none
  galAt := 0
  caps := []
  capNo := 0
  specAt := 0
  passed := none
  resp := []

/-- `Landing` as reset leaves it. -/
def Landing.init : Landing where
  half := 0
  bytes := 0
  runs := 0
  firstAt := none
  lost := 0
  avail := []
  taken := []
  progress := []

/-- `PStream` as reset leaves it. -/
def PStream.init : PStream where
  settle := 0
  v := none
  step := 0
  exact := 0
  frameNo := 0
  loupe := none
  since := 0
  fir := []

/-- `PfilRun` as reset leaves it. -/
def PfilRun.init : PfilRun where
  runs := []
  starts := []
  runT := 0
  run := none
  rowBase := 0
  closed := 0
  brick := 0
  marks := []
  owed := []
  first := false
  ready := []
  reading := none
  hist := []
  count := 0
  streams := .replicate 17 PStream.init
  heldSwap := none
  syncReq := false
  syncRun := false

/-- `DmaChan` as reset leaves it. -/
def DmaChan.init : DmaChan where
  laddr := 0
  raddr := 0
  count := 0
  rows := 0
  rstride := 0
  dir := false
  htrap := false

/-- A default kernel as its start finds it: no parameters read, all windows armed (R177). -/
def Kern.init : Kern where
  params := []
  armed := .replicate 4 true
  shots := []
  past := []
  theta := []
  edges := none

/-- `Engine` as reset leaves it. -/
def Engine.init : Engine where
  g := .replicate 16 0
  v := .replicate 16 (.replicate 8 0)
  a := .replicate 8 0
  b := .replicate 8 0
  l := .replicate 8 0
  acc := .replicate 4 (.replicate 8 0)
  ov := .replicate 4 (.replicate 8 false)
  ovs := .replicate 4 (.replicate 8 false)
  pc := 0
  lp := 0
  loops := []
  dma := .replicate 2 DmaChan.init
  stall := none
  qreps := []
  closedShot := none
  memInit := none
  skip := false
  kern := none
  posts := []

/-- `OutRun` as reset leaves it. -/
def OutRun.init : OutRun where
  offered := []
  held := []
  enc := none
  hist := []
  restored := []
  fresh := []
  tx := []
  txAt := 0
  drops := []
  alarms := []
  bulk := []
  served := .replicate 2 0
  pollAt := .replicate 2 0

/-- `LaneRun` as reset leaves it. -/
def LaneRun.init : LaneRun where
  descr := 0
  scr := 0
  goodSh := 0
  slip := 0
  winBlocks := 0
  winBad := 0
  rdyRun := 0
  rdyZero := 0
  idleRx := 0
  sentRdy := 0
  sentAfter := 0
  slotNo := 0
  detects := 0
  trainDue := none
  detDue := 0
  burstLeft := 0
  exitBlocks := 0
  sinceTrain := 0
  esDue := 0
  cap0 := none
  cap1 := none
  accepted := false
  farAck := false
  capAcks := 0
  sent := none
  prbs := 0
  prbsBits := 0
  prbsGood := 0
  prbsWin := []
  prbsRem := 0
  gen := 0
  txBit := false
  inj := false
  inverted := 0
  rateAt := 0

/-- `GroupRun` as reset leaves it. -/
def GroupRun.init : GroupRun where
  txSB := 0
  txA := 0
  rxSB := 0
  rxA := 0
  crS := 0
  crB := 0
  crA := 0
  gotS := 0
  gotB := 0
  gotA := 0
  freeS := 0
  freeB := 0
  freeA := 0
  replay := []
  fwd := []
  sinceB := 0
  blks := []
  blksA := []
  stripe := 0
  lastS := 0
  lastB := 0
  resends := 0
  ackAt := 0
  nakSB := false
  nakA := false
  amSeq := 0
  joining := []
  waiting := false
  startedAt := 0
  setSeq := 0
  departed := 0
  echoReply := none
  echoOut := none
  eid := 0
  lastTx := none
  conf := false
  resendQ := []
  ackDue := false
  creditDue := false
  amDue := 0
  amRx := 0
  amRxSeq := 0
  farCr := (0, 0, 0)
  setDue := 0
  setTx := none

/-- `LinkRun` as reset leaves it. -/
def LinkRun.init : LinkRun where
  rtts := []
  outliers := []
  delay := 0
  sinceLane := 16
  lastSet := none
  setAt := 0
  epochGen := 0
  runGen := 0
  runStart := none
  linkTrig := none
  routeDue := false
  routeAt := 0
  routeSent := 0
  lastDown := none
  echoDue := 0
  lastRx := none

/-- `CmdRun` as reset leaves it. -/
def CmdRun.init : CmdRun where
  queue := []
  exec := none
  execAt := 0
  execTmo := 0
  replies := []
  waiting := []
  heldIn := []
  spiOut := []
  resetting := false
  resetAt := 0

/-- `MgmtRun` as reset leaves it. -/
def MgmtRun.init : MgmtRun where
  record := []
  recSlot := none
  commit := none
  upd := none
  persistQ := []
  life := List.replicate 63 0
  lifeDue := 0
  charge := .replicate 4 0
  tjHot := none
  wdtDue := none
  baud := 0
  monOut := none
  wrongTokens := 0
  monInputAt := 0
  monDue := 0
  bootLines := []
  early := []
  deferred := false
  deferWake := false
  flashOk := false
  flash4 := false
  flashQuad := false
  abort := none

/-- `ScrubRun` as reset leaves it. -/
def ScrubRun.init : ScrubRun where
  combMgmt := none
  combCmd := none
  pass := none
  ceSeen := false
  ueSeen := false
  uses := []
  wait := 0

/-- `PwrRun` as reset leaves it. -/
def PwrRun.init : PwrRun where
  change := none
  held := none
  stateTo := none
  vsel := 0
  changeAt := 0
  savedRay := (false, false)
  savedOp := 0
  wakeOp := 0
  enteredAt := 0
  retained := []
  fabAt := 0
  pllStarted := false
  pllOn := false
  io := none
  wakeAt := none

/-- `BrilRun` as reset leaves it. -/
def BrilRun.init : BrilRun where
  since := none
  open_ := none
  counts := []
  first := 0
  last := 0
  captures := 0
  sched := false
  holdover := false
  late := false
  lastCap := none
  discCap := none
  lastIv := none
  held := []
  closed := none
  posted := none
  done := false
  readySeq := 0
  frameNo := 0
  pollAt := 0
  dump := none

/-- `LwRun` as reset leaves it. -/
def LwRun.init : LwRun where
  cur := none
  begun := false
  coming := []
  lastIv := none
  trigs := []
  holdDue := none
  holdLeft := 0
  fifo := []
  lost := 0
  pulseDue := 0
  fill := none
  learn := none

/-- `CapRun` as reset leaves it. -/
def CapRun.init : CapRun where
  since := 0
  cur := none
  ready := []
  taken := 0
  post := none

/-- `HkAcc` as reset leaves it. -/
def HkAcc.init : HkAcc where
  sum := 0
  mn := 0x7FFFFFFF
  mx := -0x80000000
  was := none

/-- `HkRun` as reset leaves it. -/
def HkRun.init : HkRun where
  act := none
  resume := none
  injWait := false
  grid := 0
  accs := .replicate 72 HkAcc.init

/-- `DramRun` as reset leaves it. -/
def DramRun.init : DramRun where
  rows := []
  actAt := []
  preAt := []
  rdAt := []
  wrAt := []
  acts := .replicate 2 []
  wrs := .replicate 2 []
  burstAt := none
  refAt := .replicate 2 none
  queue := []
  waiting := []
  lastAct := 0
  slot := 0
  timer := .replicate 2 0
  tempAt := 0
  zqDue := 0
  zqs := 0
  pass := false
  fill := none
  mr := .replicate 2 (.replicate 7 0)

/-- `TdcChan` as reset leaves it. -/
def TdcChan.init : TdcChan where
  edges := 0
  fifo := []
  gate := none
  stamps := []
  per := 0
  accepted := []
  wait := []

/-- `TdcRun` as reset leaves it. -/
def TdcRun.init : TdcRun where
  last := .replicate 9 none
  ch := .replicate 8 TdcChan.init

/-- `CalAcc` with nothing gathered. -/
def CalAcc.init : CalAcc where
  n := 0
  ofsI := 0
  ofsQ := 0
  ii := 0
  qq := 0
  iq := 0
  sym := 0
  prev := none

/-- `CalRun` as reset leaves it. -/
def CalRun.init : CalRun where
  accA := .replicate 3 CalAcc.init
  accB := .replicate 3 CalAcc.init
  from_ := 0
  fromB := none
  a := none
  found := none
  settled := false
  held := none
  startAt := 0
  retryDue := 0

/-- `Sink` as reset leaves it. -/
def Sink.init : Sink where
  acc := 0
  r := 0
  on := false
  rampDue := 0

/-- `EmitRun` as reset leaves it. -/
def EmitRun.init : EmitRun where
  sinks := .replicate 4 Sink.init
  dchDue := 0
  dchTo := none
  dchOff := false

/-- `PmonRun` as reset leaves it. -/
def PmonRun.init : PmonRun where
  cnt := .replicate 8 0
  cycAt := 0
  bw := .replicate 14 0
  bwEnd := none
  res := .replicate 14 0
  bw2 := .replicate 14 0
  now := .replicate 8 0
  nowAt := 0
  snapAt := none
  read := none

/-- The state of the device. -/
structure State where
  /-- time since power-on in clk_fab cycles of 2.5 ns; SYS_UPTIME counts it in µs (R354) -/
  cyc : Nat
  /-- free values drawn so far; the model's own, log entry 2 -/
  freeCtr : Nat
  /-- bits of W1C fields that events of the present cycle have set: cycle, field and bits (R10) -/
  raised : List (Nat × Nat × Nat)
  /-- the commands that wait, first in first out -/
  pending : List Instr
  /-- every register field that has been given a value; the others hold their reset values -/
  regs : KMap Nat
  /-- on-chip SRAM and DRAM bytes that have been written (01, Address map) -/
  mem : KMap Byte
  /-- 64-bit words with a single-bit error (false) or an uncorrectable one (true) (R386, R378) -/
  ecc : KMap Bool
  /-- boot flash bytes that are not erased (R342) -/
  flash : KMap Byte
  /-- the reference tracker (R56) -/
  trk : Tracker
  /-- the two shot sequencers (R74) -/
  seq : Vector SeqRun 2
  /-- the two receiver front ends (R95) -/
  rxf : Vector RxfRun 2
  /-- the two Prisms (R119) -/
  prism : Vector PrismRun 2
  /-- the sixteen landings (R123) -/
  land : Vector Landing 16
  /-- the two position filters (R131) -/
  pfil : Vector PfilRun 2
  /-- the sixteen engines (R160) -/
  eng : Vector Engine 16
  /-- the output unit (R250) -/
  out : OutRun
  /-- the eight lanes (R267) -/
  lane : Vector LaneRun 8
  /-- the lane groups, by first lane (R285) -/
  grp : Vector GroupRun 8
  /-- the LINK block (R304) -/
  link : LinkRun
  /-- the command interface (R324) -/
  cmd : CmdRun
  /-- the management subsystem (R343) -/
  mgmt : MgmtRun
  /-- combining entries and the scrub pass (R390, R392) -/
  scrub : ScrubRun
  /-- power states and operating points (R461) -/
  pwr : PwrRun
  /-- the temperature paths (R194) -/
  bril : Vector BrilRun 2
  /-- the two loss watches (R214) -/
  lw : Vector LwRun 2
  /-- the trace capture (R227) -/
  cap : CapRun
  /-- the housekeeping sequencer (R419) -/
  hk : HkRun
  /-- the two DRAM channels (R370) -/
  dram : Vector DramRun 2
  /-- time measurement (R397) -/
  tdc : TdcRun
  /-- self-calibration of the two fibres (R437) -/
  cal : Vector CalRun 2
  /-- emitter drive and drive chain (R445) -/
  emit : EmitRun
  /-- performance counters (R477) -/
  pmon : PmonRun
  deriving DecidableEq, Repr

/-- The machine right after a power-on reset: every register at its reset value, nothing written, everything idle. -/
def State.reset : State where
  cyc := 0
  freeCtr := 0
  raised := []
  pending := []
  regs := []
  mem := []
  ecc := []
  flash := []
  trk := Tracker.init
  seq := .replicate 2 SeqRun.init
  rxf := .replicate 2 RxfRun.init
  prism := .replicate 2 PrismRun.init
  land := .replicate 16 Landing.init
  pfil := .replicate 2 PfilRun.init
  eng := .replicate 16 Engine.init
  out := OutRun.init
  lane := .replicate 8 LaneRun.init
  grp := .replicate 8 GroupRun.init
  link := LinkRun.init
  cmd := CmdRun.init
  mgmt := MgmtRun.init
  scrub := ScrubRun.init
  pwr := PwrRun.init
  bril := .replicate 2 BrilRun.init
  lw := .replicate 2 LwRun.init
  cap := CapRun.init
  hk := HkRun.init
  dram := .replicate 2 DramRun.init
  tdc := TdcRun.init
  cal := .replicate 2 CalRun.init
  emit := EmitRun.init
  pmon := PmonRun.init

end Sys2Proof.Machine
end

