-- ==== Sys2Proof/Machine/Ops.lean ====
section
/-! DEFINITION. The named operations every meaning is written over: register fields, free values, bytes and SECDED words
of memory, the address map and its access rights, time and phase coordinates, the event log, bulk transfers and IRQ_N. -/

namespace Sys2Proof

/-- Master IDs (01, Masters and access rights). -/
def Master.id : Master → Nat
  | .engine k => k.val
  | .mgmt => 0x10
  | .cmd => 0x11
  | .scrub => 0x12
  | .linkDma => 0x13
  | .dma k ch => 0x20 + 2 * k.val + ch.val
  | .rt p => 0x40 + p.val
  | .stream => 0x48
  | .fill => 0x49
  | .fixed b => Config.fixedId b.val

end Sys2Proof

namespace Sys2Proof.Machine
open Reg

/-! ### Register fields -/

/-- The value a register field holds. -/
def State.get (s : State) (f : Fld) : Nat := (kget f.key s.regs).getD f.rst
/-- Give a register field a value; bits beyond its width fall away. -/
def State.set (s : State) (f : Fld) (v : Nat) : State := { s with regs := kput f.key (v % 2 ^ f.w) s.regs }
/-- Whether a field is nonzero. -/
def State.on (s : State) (f : Fld) : Bool := s.get f != 0
/-- Set a one-bit field. -/
def State.setB (s : State) (f : Fld) (b : Bool) : State := s.set f b.toNat
/-- Set flag bits of a field. -/
def State.orBits (s : State) (f : Fld) (m : Nat) : State := s.set f (s.get f ||| m)
/-- Count up, saturating at the field's largest value. -/
def State.incBy (s : State) (f : Fld) (n : Nat) : State := s.set f (min (s.get f + n) (2 ^ f.w - 1))
/-- Count up by one, saturating. -/
def State.inc (s : State) (f : Fld) : State := s.incBy f 1
/-- A two's-complement field's value. -/
def signedOf (w v : Nat) : Int := if 2 ^ (w - 1) ≤ v then (v : Int) - 2 ^ w else v
def State.getI (s : State) (f : Fld) : Int := signedOf f.w (s.get f)
/-- A signed value as the bits of a `w`-bit field. -/
def bitsOf (w : Nat) (v : Int) : Nat := (v % (2 ^ w : Int)).toNat
/-- Return every field of the window offsets `[lo, hi)` of a block to its reset value. -/
def State.clearRegs (s : State) (blk lo hi : Nat) : State := { s with regs := kclear (key blk lo 0) (key blk hi 0) s.regs }
/-- Return a block's whole window to its reset values. -/
def State.clearBlock (s : State) (blk : Nat) : State := s.clearRegs blk 0 0x10000
/-- A hardware event sets bits of a W1C field, and is known for the rest of its cycle (R8, R10). -/
def State.raise (s : State) (f : Fld) (bits : Nat) : State :=
  { s.orBits f bits with raised := (s.cyc, f.key, bits) :: s.raised.filter fun e => e.1 == s.cyc }
/-- Software clears bits of a W1C field: those an event sets in the same cycle stay set (R8, R10). -/
def State.clearBits (s : State) (f : Fld) (bits : Nat) : State :=
  let kept := (s.raised.filter fun e => e.1 == s.cyc && e.2.1 == f.key).foldl (fun m e => m ||| e.2.2) 0
  let c := bits &&& s.get f
  s.set f (s.get f - (c - (c &&& kept)))
/-- The cycle in which a timer expires is over: what the timer awaits would have been on time in it (R13). -/
def State.past (s : State) (due : Nat) : Bool := decide (due < s.cyc)
/-- Zero a list of counters. -/
def State.zero (s : State) (fs : List Fld) : State := fs.foldl (fun t f => t.set f 0) s
/-- A 32-bit register as stored: its fields at their places. -/
def State.rawReg (s : State) (blk off : Nat) : Nat :=
  (rows.filter fun r => r.at blk off).foldl
    (fun v r => v + (s.get ⟨key blk off r.lo, r.w, r.rst⟩) * 2 ^ r.lo) 0

/-! ### Free values (log entry 2) -/

/-- Draw a free value. -/
def State.draw (s : State) : Nat × State := (Config.freeNat s.freeCtr, { s with freeCtr := s.freeCtr + 1 })
/-- Draw a free value between `lo` and `hi` inclusive. -/
def State.pick (s : State) (lo hi : Nat) : Nat × State := (lo + Config.freeNat s.freeCtr % (hi - lo + 1), s.draw.2)

/-! ### Bytes -/

/-- The `n` low bytes of a value, least significant first. -/
def bytesLE : Nat → Nat → List Byte
  | 0, _ => []
  | n + 1, v => BitVec.ofNat 8 v :: bytesLE n (v / 256)
/-- A list of bytes as a value, least significant first. -/
def ofBytesLE : List Byte → Nat
  | [] => 0
  | b :: t => b.toNat + 256 * ofBytesLE t
/-- 32-bit words as bytes. -/
def wordsLE (ws : List Nat) : List Byte := ws.flatMap (bytesLE 4)
/-- Bytes as 32-bit words; a rest of fewer than four bytes is dropped. -/
def toWords : List Byte → List Nat
  | a :: b :: c :: d :: t => ofBytesLE [a, b, c, d] :: toWords t
  | _ => []
/-- Bytes with their addresses, from `a` on. -/
def cellsFrom : Nat → List Byte → KMap Byte
  | _, [] => []
  | a, b :: t => (a, b) :: cellsFrom (a + 1) t
/-- Put consecutive bytes from an address on. -/
def putBytes (a : Nat) (bs : List Byte) (m : KMap Byte) : KMap Byte :=
  (m.filter fun e => e.1 < a) ++ cellsFrom a bs ++ (m.filter fun e => a + bs.length ≤ e.1)
/-- The `n` bytes from an address on; none where a byte has not been written. -/
def getBytes (m : KMap Byte) : Nat → Nat → Option (List Byte)
  | _, 0 => some []
  | a, n + 1 => match kget a m, getBytes m (a + 1) n with
    | some b, some t => some (b :: t)
    | _, _ => none
/-- The `n` bytes from an address on, with unwritten ones free: draw `d` names them. -/
def freeBytes (m : KMap Byte) (d : Nat) : Nat → Nat → List Byte
  | _, 0 => []
  | a, n + 1 => (kget a m).getD (Config.unwrittenByte d a) :: freeBytes m d (a + 1) n

/-! ### CRC-32C and CRC-32 (R246, R347) -/

/-- One bit of a reflected CRC with reversed polynomial `p`. -/
def crcBit (p c : Nat) : Nat := if c % 2 = 1 then (c / 2) ^^^ p else c / 2
/-- A reflected CRC, initial value and final exclusive-or all ones. -/
def crcRefl (p : Nat) (bs : List Byte) : Nat :=
  (bs.foldl (fun c b => Nat.repeat (crcBit p) 8 (c ^^^ b.toNat)) 0xFFFFFFFF) ^^^ 0xFFFFFFFF
/-- CRC-32C: polynomial 0x1EDC_6F41, reflected (R246). -/
def crc32c (bs : List Byte) : Nat := crcRefl 0x82F63B78 bs
/-- CRC-32 of IEEE 802.3: polynomial 0x04C1_1DB7, reflected (R347). -/
def crc32 (bs : List Byte) : Nat := crcRefl 0xEDB88320 bs

/-! ### Time and phase coordinates -/

/-- Present time of the device-wide time base in ns: it starts at 0 when clk_fab first runs after a reset (R399). -/
def State.nowNs (s : State) : Rat := ((s.cyc - s.pwr.fabAt : Nat) : Rat) * 5 / 2
/-- Microseconds since power-on (R354). -/
def State.uptime (s : State) : Nat := s.cyc / 400
/-- Cycles of 2.5 ns in n µs, ms and s. -/
def usCyc (n : Nat) : Nat := n * 400
def msCyc (n : Nat) : Nat := n * 400000
/-- Present time in units u = 1.25 ns / 65,536, modulo 2^64 (R399). -/
def State.nowStamp (s : State) : Nat := (s.cyc - s.pwr.fabAt) * 131072 % 2 ^ 64
/-- A time in units u as ns (R399). -/
def stampNs (t : Int) : Rat := (t : Rat) * 5 / (4 * 65536)
/-- The instant of a stamp near the present: stamps wrap modulo 2^64 and are compared as R48 compares phases (R399). -/
def State.instOf (s : State) (t : Nat) : Rat :=
  s.nowNs + stampNs (signedOf 64 (((t : Int) - s.nowStamp) % (2 ^ 64 : Int)).toNat)
/-- An instant in ns as a stamp, to the nearest unit. -/
def stampOf (t : Rat) : Nat := ((t * (4 * 65536) / 5 + 1 / 2).floor % (2 ^ 64 : Int)).toNat
/-- An instant lies in the present clk_fab cycle or before. -/
def State.due (s : State) (t : Rat) : Bool := decide (t < s.nowNs + 5 / 2)
/-- The exact phase, in cycles since the epoch, of an instant under a model (R56, R47). -/
def RefModel.phaseAt (m : RefModel) (epoch : Int) (t : Rat) : Rat := ((m.k0 - epoch : Int) : Rat) + (t - m.t0) / m.T
/-- The instant of an exact phase under a model (R56). -/
def RefModel.timeOf (m : RefModel) (epoch : Int) (p : Rat) : Rat := m.t0 + (p - ((m.k0 - epoch : Int) : Rat)) * m.T
/-- A phase as a 64-bit coordinate, the fraction rounded to the nearest 2^-32 cycle with halves up (R47). -/
def phase64 (p : Rat) : Nat := ((p * 2 ^ 32 + 1 / 2).floor % (2 ^ 64 : Int)).toNat
/-- The fraction word and the cycle word of a coordinate. -/
def lo32 (v : Nat) : Nat := v % 2 ^ 32
def hi32 (v : Nat) : Nat := v / 2 ^ 32 % 2 ^ 32
/-- The 64-bit difference of two coordinates as a signed value (R48). -/
def phaseDiff (a b : Nat) : Int := signedOf 64 (((a : Int) - b) % (2 ^ 64 : Int)).toNat
/-- This device is a worker (R284). -/
def State.isWorker (s : State) : Bool := s.get LINK_ID_MODE == 2
/-- The reference selected is an external one: PHREF, or the manager's timing sets on a worker (R58, R307). -/
def State.external (s : State) : Bool := s.isWorker || s.on SEQ_REF_CTRL_SRC
/-- One cycle of the internal reference in ns (R58). -/
def State.internalT (s : State) : Rat := (s.get SEQ_INT_DIV_INT_DIV : Rat) * 5 / 2
/-- The model in force: the one the tracker holds, or the exact one of the internal reference since it was selected (R56,
R58). -/
def State.refModel (s : State) : Option RefModel :=
  match s.trk.model with
  | some m => some m
  | none =>
    if s.external || s.get SYS_CLK_STATUS_FAB_RUN == 0 then none
    else some ⟨0, ((s.trk.selectedAt - s.pwr.fabAt : Nat) : Rat) * 5 / 2, s.internalT⟩
/-- The present phase coordinate, 0 without an epoch (R81). -/
def State.phaseNow (s : State) : Nat :=
  match s.refModel with
  | some m => if s.on SEQ_REF_STATUS_EPOCH_VALID then phase64 (m.phaseAt s.trk.epoch s.nowNs) else 0
  | none => 0
/-- Round half up. -/
def roundHalfUp (q : Rat) : Int := (q + 1 / 2).floor
/-- Round to nearest, halves to even ("convergent"). -/
def roundEven (q : Rat) : Int :=
  let f := q.floor
  let r := q - f
  if r < 1 / 2 then f else if r > 1 / 2 then f + 1 else if f % 2 = 0 then f else f + 1
/-- Ceiling division. -/
def cdiv (a b : Nat) : Nat := (a + b - 1) / b

/-! ### Masters, domains and the address map (01) -/

/-- The bits of PWR_STATUS.DOMAIN_ON: AON 0, MGMT 1, CORE 2, RX 3, LANE 4, DDR 5 (R475). -/
def State.domainOn (s : State) (d : Nat) : Bool := (s.get PWR_STATUS_DOMAIN_ON).testBit d
/-- The power domain of block n (01, Block inventory). -/
def domainOf (blk : Nat) : Nat :=
  if blk = 0 || blk = 18 then 0
  else if blk = 11 || blk = 15 || blk = 17 || blk = 20 then 1
  else if blk = 2 || blk = 16 then 3
  else if blk = 9 || blk = 10 then 4
  else if blk = 12 then 5 else 2
/-- clk_fab runs (R457). -/
def State.fabRuns (s : State) : Bool := s.on SYS_CLK_STATUS_FAB_RUN
/-- A block's window and opcodes can be reached: its domain is on, and clk_fab runs if it lies outside PD_AON and
PD_MGMT (R20, R457). -/
def State.reach (s : State) (blk : Nat) : Bool :=
  s.domainOn (domainOf blk) && (domainOf blk ≤ 1 || s.fabRuns)

/-- An access to a register of a block has effect `t`; where the block cannot be reached it sets ACC_ERR alone (R20, R457). -/
def State.onReg (s : State) (blk : Nat) (t : State) : State := if s.reach blk then t else s.raise SYS_STATUS_ACC_ERR 1

/-- The regions of the address map. -/
inductive Region where
  | rom
  | mgmtSram
  | gallery (f : Nat) (off : Nat)
  | engine (k : Nat) (off : Nat)
  | stream (off : Nat)
  | staging
  | window (blk off : Nat)
  | dram (ch off : Nat)
  | unassigned
  deriving DecidableEq, Repr

/-- The region an address lies in (01, Address map); the reserved part of a gallery counts as unassigned (R113). -/
def regionOf (a : Nat) : Region :=
  if a < 0x100000 then .rom
  else if a < 0x200000 then .mgmtSram
  else if a < 0x1000000 then .unassigned
  else if a < 0x2000000 then
    if (a - 0x1000000) % 0x800000 < 0x600000 then .gallery ((a - 0x1000000) / 0x800000) ((a - 0x1000000) % 0x800000) else .unassigned
  else if a < 0x2500000 then .engine ((a - 0x2000000) / 0x50000) ((a - 0x2000000) % 0x50000)
  else if a < 0x2800000 then .unassigned
  else if a < 0x2C00000 then .stream (a - 0x2800000)
  else if a < 0x3200000 then .staging
  else if a < 0x40000000 then .unassigned
  else if a < 0x40150000 then .window ((a - 0x40000000) / 0x10000) (a % 0x10000)
  else if a < 0x8000000000 then .unassigned
  else if a < 0x8800000000 then .dram ((a - 0x8000000000) / 0x400000000) (a % 0x400000000)
  else .unassigned

/-- Installed bytes of a DRAM channel (R21, R368). -/
def State.installed (s : State) (ch : Nat) : Nat := s.get (DRAMC_CONFIG_CAP_GIB ch) * 0x40000000

/-- Whether a master may access an address (R21, R22, R25). -/
def State.mayAccess (s : State) (m : Master) (write : Bool) (a : Nat) : Bool :=
  match regionOf a with
  | .unassigned => false
  | .rom => !write && (m == .mgmt || m == .cmd || m == .scrub)
  | .mgmtSram => m == .mgmt || m == .cmd || (m == .scrub && !write)
  | .gallery _ _ => (match m with | .mgmt => true | .cmd => true | .dma _ _ => !write | .scrub => !write | _ => false)
  | .engine k _ => (match m with | .mgmt => true | .cmd => true | .dma j _ => j.val == k | .scrub => !write | _ => false)
  | .stream off => (match m with
      | .mgmt => true | .cmd => !write | .scrub => !write
      | .dma k _ => write && ((k.val == 14 && 0x1F0000 ≤ off && off < 0x1F8000) || (k.val == 15 && 0x1F8000 ≤ off && off < 0x200000))
      | _ => false)
  | .staging => !write && (m == .mgmt || m == .cmd || m == .scrub)
  | .window _ _ => m == .mgmt || m == .cmd
  | .dram ch off => decide (off < s.installed ch) && (match m with | .mgmt => true | .cmd => true | .dma _ _ => true | .fill => true | _ => false)

/-! ### Bulk transfers, lifetime counts and the event log -/

/-- Queue a bulk transfer (R252). -/
def State.postBulk (s : State) (b : Bulk) : State := { s with out := { s.out with bulk := s.out.bulk ++ [b] } }
/-- Count in lifetime word `w`, saturating (R357). -/
def State.lifeAdd (s : State) (w n : Nat) : State :=
  { s with mgmt := { s.mgmt with life := s.mgmt.life.set w (min (s.mgmt.life.getD w 0 + n) 0xFFFFFFFF) } }

/-- Where record LSEQ lies in the event log ring (R340, R355; slot by LSEQ is log entry 5). -/
def logSlot (n : Nat) : Nat := 0x1C0000 + 32 * (n % 4096)

/-- The eight words of an event record of now (R354). -/
def State.logWords (s : State) (lseq code sev p0 p1 : Nat) : List Nat :=
  let ph := s.on SEQ_REF_STATUS_EPOCH_VALID
  [lseq % 2 ^ 32, code + sev * 2 ^ 16 + (if ph then 2 ^ 28 else 0), lo32 s.uptime, hi32 s.uptime,
   lo32 s.phaseNow, hi32 s.phaseNow, p0 % 2 ^ 32, p1 % 2 ^ 16 + (s.mgmt.life.getD 2 0) % 2 ^ 16 * 2 ^ 16]

/-- The repeat table's entries: address and count, PERS, VALID (R391). -/
def State.rptAddr (s : State) (i : Nat) : Nat := s.get (SCRUB_RPTi_LO_ADDR i) * 8 + s.get (SCRUB_RPTi_INFO_ADDR_HI i) * 2 ^ 32
/-- The lowest entry that satisfies a condition. -/
def firstIdx (n : Nat) (p : Nat → Bool) : Option Nat := (List.range n).find? p
/-- A write to a word frees the entry that the table holds for it (R391). -/
def State.rptFree (s : State) (a : Nat) : State :=
  match firstIdx 16 (fun i => s.on (SCRUB_RPTi_INFO_VALID i) && s.rptAddr i == a) with
  | some i => ((s.set (SCRUB_RPTi_INFO_VALID i) 0).set (SCRUB_RPTi_INFO_COUNT i) 0).set (SCRUB_RPTi_INFO_PERS i) 0
  | none => s

/-- Whole-word writes of a range of on-chip SRAM: fresh check bits, and no repeat-table entry stays for it. -/
def State.writeRange (s : State) (a : Nat) (bs : List Byte) : State :=
  let s1 := { s with mem := putBytes a bs s.mem, ecc := kclear a (a + bs.length) s.ecc }
  (List.range 16).foldl (fun t i =>
    if s.on (SCRUB_RPTi_INFO_VALID i) && decide (a / 8 * 8 ≤ s.rptAddr i) && decide (s.rptAddr i < a + bs.length) then t.rptFree (s.rptAddr i) else t) s1

/-- Enter a record whose words are made into the ring, the persistent queue and the stream (R355). -/
def State.logEnter (s : State) (ws : List Nat) (sev : Nat) : State :=
  let n := s.get MGMT_LOG_SEQ_NEXT
  let s1 := (if 4096 ≤ n then s.raise MGMT_FLAGS_LOG_OVERRUN 1 else s).set MGMT_LOG_SEQ_NEXT (n + 1)
  let s2 := s1.writeRange (logSlot n) (wordsLE ws)
  let s3 := if s2.get MGMT_LOG_CTRL_PERSIST ≤ sev then
      { s2 with mgmt := { s2.mgmt with persistQ := s2.mgmt.persistQ ++ [ws.map (BitVec.ofNat 32)] } } else s2
  if s3.on MGMT_LOG_CTRL_STREAM_EN && decide (s3.get MGMT_LOG_CTRL_STREAM_MIN ≤ sev) && s3.on OUT_STATUS_HOST_ACTIVE then
    s3.postBulk ⟨3, n % 2 ^ 16, wordsLE ws, 0, none, none⟩ else s3

/-- Log an event: outside the phases INIT and READY the boot ROM holds it (R343), afterwards it enters the ring (R355, R356). -/
def State.logEvent (s : State) (code sev p0 p1 : Nat) : State :=
  if s.get MGMT_STATUS_PHASE < 3 ∨ s.get MGMT_STATUS_PHASE = 5 then
    { s with mgmt := { s.mgmt with early := s.mgmt.early ++ [(s.logWords 0 code sev p0 p1).map (BitVec.ofNat 32)] } }
  else s.logEnter (s.logWords (s.get MGMT_LOG_SEQ_NEXT) code sev p0 p1) sev

/-- The management processor takes a data abort at an address (R22, R388); what its firmware does then is open (log entry 65). -/
def State.dataAbort (s : State) (m : Master) (a : Nat) : State :=
  if m = .mgmt then { s with mgmt := { s.mgmt with abort := some a } } else s
/-- Record an access to an unassigned address or outside the rights of R25: the first address and master stay, a further
one sets ADDR_ERR_MULTI, and each is logged; the management processor takes a data abort (R22, R356). -/
def State.addrErr (s : State) (m : Master) (a : Nat) : State :=
  ((if s.on SYS_STATUS_ADDR_ERR then s.raise SYS_STATUS_ADDR_ERR_MULTI 1
    else (((s.set SYS_ERR_ADDR_LO_ADDR (lo32 a)).set SYS_ERR_ADDR_HI_ADDR (a / 2 ^ 32)).set SYS_ERR_ADDR_HI_MASTER m.id).raise SYS_STATUS_ADDR_ERR 1
    ).logEvent 0x0003 3 (lo32 a) m.id).dataAbort m a

/-- An integrity report of kind 2 or 3 (R394), sent only while a host lane group is active. -/
def State.integrity (s : State) (kind mid a count : Nat) : State :=
  if s.on OUT_STATUS_HOST_ACTIVE then
    s.postBulk ⟨6, 0, wordsLE [kind + mid * 2 ^ 8, lo32 a, a / 2 ^ 32, count, 0, 0, 0, 0, 0, 0], 0, none, none⟩ else s

/-! ### Performance counters (R478–R480) -/

/-- Counter `k` counts event `ev` of master `mid`. -/
def State.pmonCounts (s : State) (ev mid k : Nat) : Bool :=
  s.on (PMON_CNTk_CTRL_EN k) && s.get (PMON_CNTk_CTRL_EVENT k) == ev
  && (!s.on (PMON_CNTk_CTRL_MFILT k) || s.get (PMON_CNTk_CTRL_MASTER k) == mid)
/-- Copy one counter into its snapshot registers (R482). -/
def State.pmonCopy (s : State) (k : Fin 8) : State :=
  ((s.set (PMON_SCNTk_LO_COUNT k) (s.pmon.cnt[k])).set (PMON_SCNTk_HI_COUNT k) (s.pmon.cnt[k] / 2 ^ 32)).setB
    (PMON_SCNTk_HI_WRAP k) ((s.get PMON_WRAP_WRAP).testBit k)
/-- Add occurrences to one counter: 48 bits, with WRAP on a carry (R479). Those of the present cycle are kept apart for a
clear, and enter a snapshot taken in it (R480, R482). -/
def State.pmonBump (s : State) (k : Fin 8) (n : Nat) : State :=
  let v := s.pmon.cnt[k] + n
  let old := if s.pmon.nowAt = s.cyc then s.pmon.now else .replicate 8 0
  let t := { (if 2 ^ 48 ≤ v then s.raise PMON_WRAP_WRAP (2 ^ k.val) else s) with
    pmon := { s.pmon with cnt := s.pmon.cnt.set k (v % 2 ^ 48), now := old.set k (old[k] + n), nowAt := s.cyc } }
  if s.pmon.snapAt = some s.cyc then t.pmonCopy k else t
/-- `n` occurrences of an event, made by master `mid` (R478). -/
def State.pmonAdd (s : State) (ev n mid : Nat) : State :=
  if s.on PMON_CTRL_RUN && s.fabRuns then
    ([0, 1, 2, 3, 4, 5, 6, 7] : List (Fin 8)).foldl (fun t k => if s.pmonCounts ev mid k.val then t.pmonBump k n else t) s
  else s
/-- A request on the interconnect and its bytes. An engine's own memories and what a block reads of its own do not pass it
(R24, R478). -/
def State.pmonIo (s : State) (m : Master) (write : Bool) (bytes : Nat) : State :=
  match m with
  | .engine _ => s
  | .fixed _ => s
  | _ => if bytes = 0 then s else
    (s.pmonAdd (if write then 0x11 else 0x10) (cdiv bytes 8) m.id).pmonAdd (if write then 0x13 else 0x12) bytes m.id

/-! ### SECDED words of on-chip memory (17) -/

/-- A word's state of integrity. -/
inductive Ecc where
  | ok | ce | ue
  deriving DecidableEq, Repr

/-- The bytes of the 64-bit word at an aligned address, none where it has not been written. Boot ROM needs no write; the RXF
memories lie in the register store (R102). -/
def State.wordBytes (s : State) (a : Nat) : Option (List Byte) :=
  match regionOf a with
  | .rom => some ((List.range 8).map fun i => Config.romByte (a + i))
  | .window blk off =>
    if (kget (key blk off 0) s.regs).isSome && (kget (key blk (off + 4) 0) s.regs).isSome then
      some (bytesLE 4 (s.rawReg blk off) ++ bytesLE 4 (s.rawReg blk (off + 4))) else none
  | _ => getBytes s.mem a 8
/-- The 64-bit word at an aligned address and its integrity: both are free where it has not been written (R389). -/
def State.peekWord (s : State) (a : Nat) : (Nat × Ecc) × State :=
  let e := match kget a s.ecc with | some ue => some (if ue then Ecc.ue else .ce) | none => none
  match s.wordBytes a with
  | some bs => ((ofBytesLE bs, e.getD .ok), s)
  | none =>
    ((ofBytesLE (freeBytes s.mem s.freeCtr a 8),
      e.getD (match Config.freeNat s.freeCtr % 3 with | 0 => .ok | 1 => .ce | _ => .ue)),
     { s with freeCtr := s.freeCtr + 1 })

/-- The on-chip memory that an address lies in, as a number. -/
def memoryOf (a : Nat) : Nat :=
  match regionOf a with
  | .rom => 0
  | .mgmtSram => 1
  | .gallery f _ => 2 + f
  | .engine k off => 8 + 3 * k + (if off < 0x10000 then 0 else if off < 0x30000 then 1 else 2)
  | .stream _ => 4
  | .staging => 5
  | .window _ off => 6 + off / 0x8000 % 2
  | _ => 99
/-- A master uses an on-chip memory in this cycle, so that the scrubber waits (R392). -/
def State.useMem (s : State) (m : Master) (a : Nat) : State :=
  { s with scrub := { s.scrub with uses := if m = .scrub then s.scrub.uses else kput (memoryOf a) s.cyc s.scrub.uses } }

/-- The entry of lowest count, lowest-numbered on a tie. -/
def State.rptLowest (s : State) : Nat :=
  (List.range 16).foldl (fun j i => if s.get (SCRUB_RPTi_INFO_COUNT i) < s.get (SCRUB_RPTi_INFO_COUNT j) then i else j) 0
/-- Fill a table entry. -/
def State.rptSet (s : State) (i a : Nat) : State :=
  ((((s.set (SCRUB_RPTi_LO_ADDR i) (a / 8)).set (SCRUB_RPTi_INFO_ADDR_HI i) (a / 2 ^ 32)).set (SCRUB_RPTi_INFO_COUNT i) 1).set
    (SCRUB_RPTi_INFO_PERS i) 0).set (SCRUB_RPTi_INFO_VALID i) 1

/-- Apply a correction of a read to the repeat table (R391). -/
def State.rptApply (s : State) (m : Master) (a : Nat) : State :=
  let (i, s1) := match firstIdx 16 (fun i => s.on (SCRUB_RPTi_INFO_VALID i) && s.rptAddr i == a) with
    | some i => (i, s.inc (SCRUB_RPTi_INFO_COUNT i))
    | none => match firstIdx 16 (fun i => !s.on (SCRUB_RPTi_INFO_VALID i)) with
      | some i => (i, s.rptSet i a)
      | none => (s.rptLowest, ((s.inc SCRUB_RPT_OVF_COUNT).raise SCRUB_FLAGS_RPT_OVF 1).rptSet s.rptLowest a)
  let c := s1.get (SCRUB_RPTi_INFO_COUNT i)
  if decide (s1.get SCRUB_REPEAT_LIM_LIM ≤ c) && !s1.on (SCRUB_RPTi_INFO_PERS i) then
    ((((s1.set (SCRUB_RPTi_INFO_PERS i) 1).raise SCRUB_FLAGS_PERSISTENT 1).logEvent 0x0D01 2 (lo32 a) c).lifeAdd 45 1).integrity 2 m.id a c
  else s1

/-- Count a corrected word and keep the first address (R386). While PD_CORE is off nothing is counted (R391). -/
def State.correction (s : State) (m : Master) (a : Nat) (table : Bool) : State :=
  if !s.domainOn 2 then s else
  let s1 := (((s.inc SCRUB_CE_CNT_COUNT).raise SCRUB_FLAGS_CE 1).lifeAdd 41 1).pmonAdd 0x30 1 m.id
  let s2 := if s1.scrub.ceSeen then s1 else
    { (((s1.set SCRUB_CE_ADDR_LO_ADDR (a / 8)).set SCRUB_CE_ADDR_HI_ADDR (a / 2 ^ 32)).set SCRUB_CE_ADDR_HI_MASTER m.id) with
      scrub := { s1.scrub with ceSeen := true } }
  if table then s2.rptApply m a else s2

/-- Count, log and keep an uncorrectable word (R386). -/
def State.uncorrectable (s : State) (m : Master) (a : Nat) : State :=
  let s1 := if !s.domainOn 2 then s else (s.inc SCRUB_UE_CNT_COUNT).raise SCRUB_FLAGS_UE 1
  let s2 := if s1.scrub.ueSeen || !s.domainOn 2 then s1 else
    { (((s1.set SCRUB_UE_ADDR_LO_ADDR (a / 8)).set SCRUB_UE_ADDR_HI_ADDR (a / 2 ^ 32)).set SCRUB_UE_ADDR_HI_MASTER m.id) with
      scrub := { s1.scrub with ueSeen := true } }
  (s2.lifeAdd 42 1).logEvent 0x0D02 3 (lo32 a) m.id

/-- Store a 32-bit register of the register store, field by field. -/
def putRow (blk off v : Nat) (m : KMap Nat) : KMap Nat :=
  (rows.filter fun (r : Row) => r.at blk off).foldl (fun (m : KMap Nat) (r : Row) => kput (key blk off r.lo) (v / 2 ^ r.lo % 2 ^ r.w) m) m
/-- Store a whole 64-bit word; `bad` marks check bits stored inverted: correctable (false) or uncorrectable (true). -/
def State.storeWord (s : State) (a v : Nat) (bad : Option Bool) : State :=
  let s1 := match regionOf a with
    | .window blk off => { s with regs := putRow blk (off + 4) (hi32 v) (putRow blk off (lo32 v) s.regs) }
    | .rom => s
    | _ => { s with mem := putBytes a (bytesLE 8 v) s.mem }
  { s1 with ecc := match bad with | none => kdel a s1.ecc | some u => kput a u s1.ecc }.rptFree a

/-- A whole-word write stores fresh check bits (R387). -/
def State.writeWord (s : State) (a v : Nat) : State := s.storeWord a v none

/-- Replace bytes `off .. off + n - 1` of a word. -/
def mergeWord (w off n v : Nat) : Nat :=
  w - (w / 2 ^ (8 * off) % 2 ^ (8 * n)) * 2 ^ (8 * off) + (v % 2 ^ (8 * n)) * 2 ^ (8 * off)

/-- A narrower write reads the word, merges and writes it back (R387). -/
def State.mergeNarrow (s : State) (m : Master) (a n v : Nat) : State :=
  let w := a / 8 * 8
  let ((old, e), s1) := s.peekWord w
  let new := mergeWord old (a % 8) n v
  match e with
  | .ok => s1.storeWord w new none
  | .ce => (s1.correction m w false).storeWord w new none
  | .ue => ((s1.uncorrectable m w).dataAbort m w).storeWord w new (some true)

/-- The combining entry of a master (R390). -/
def State.comb (s : State) (m : Master) : Option Held32 :=
  match m with | .mgmt => s.scrub.combMgmt | .cmd => s.scrub.combCmd | _ => none
def State.setComb (s : State) (m : Master) (h : Option Held32) : State :=
  match m with
  | .mgmt => { s with scrub := { s.scrub with combMgmt := h } }
  | .cmd => { s with scrub := { s.scrub with combCmd := h } }
  | _ => s
/-- Write a held half alone, as a narrow write (R390). -/
def State.release (s : State) (m : Master) : State :=
  match s.comb m with
  | some h => (s.setComb m none).mergeNarrow m h.addr 4 h.val
  | none => s
/-- Before a word is read, a half held for it is written (R390). -/
def State.releaseFor (s : State) (w : Nat) : State :=
  let go := fun (t : State) (m : Master) => match t.comb m with
    | some h => if h.addr == w then t.release m else t
    | none => t
  go (go s .mgmt) .cmd

/-- A narrow write is a read of its word: a half that the other master holds for it is written first (R387, R390). -/
def State.writeNarrow (s : State) (m : Master) (a n v : Nat) : State := (s.releaseFor (a / 8 * 8)).mergeNarrow m a n v

/-- A 32-bit write of the management processor or the command interface to on-chip SRAM, with combining (R390) and the
armed injection of R395. -/
def State.write32 (s0 : State) (m : Master) (a v : Nat) : State :=
  let s := (s0.pmonIo m true 4).useMem m a
  if a % 8 = 0 then (s.release m).setComb m (some ⟨a, v, s.cyc + 16⟩)
  else match s.comb m with
    | some h =>
      if h.addr + 4 = a then
        let s1 := s.setComb m none
        let w := h.val % 2 ^ 32 + (v % 2 ^ 32) * 2 ^ 32
        let inj := s1.get SCRUB_INJ_MODE
        if m == .cmd && inj != 0 then
          (s1.set SCRUB_INJ_MODE 0).storeWord h.addr w (some (inj == 2))
        else s1.writeWord h.addr w
      else (s.release m).writeNarrow m a 4 v
    | none => s.writeNarrow m a 4 v

/-- Read a word as a master: corrected data, whether it is uncorrectable, and the records of R386. -/
def State.readWord (s : State) (m : Master) (a : Nat) : (Nat × Bool) × State :=
  let ((v, e), s1) := (((s.pmonIo m false 8).useMem m a).releaseFor a).peekWord a
  match e with
  | .ok => ((v, false), s1)
  | .ce => ((v, false), s1.correction m a true)
  | .ue => ((v, true), (s1.uncorrectable m a).dataAbort m a)

/-- Fill `n` 64-bit words with one value. -/
def State.fillWords (s : State) (a n v : Nat) : State := s.writeRange a ((List.replicate n (bytesLE 8 v)).flatten)

/-! ### DRAM words (R378–R380) -/

def dramCeF (ch : Nat) : Fld := if ch = 0 then DRAMC_FLAGS_CE_DA else DRAMC_FLAGS_CE_DB
def dramUeF (ch : Nat) : Fld := if ch = 0 then DRAMC_FLAGS_UE_DA else DRAMC_FLAGS_UE_DB
/-- The channel of a DRAM address. -/
def dramChan (a : Nat) : Nat := if a < 0x8400000000 then 0 else 1
/-- Count a corrected word of DRAM; the first address stays until CLR_CNT (R378). -/
def State.dramCe (s : State) (a : Nat) : State :=
  let c := dramChan a
  let s1 := if s.get (DRAMC_CE_CNT_COUNT c) = 0 then (s.set (DRAMC_CE_ADDR_LO_ADDR c) (a / 8)).set (DRAMC_CE_ADDR_HI_ADDR c) (a / 2 ^ 32) else s
  ((s1.inc (DRAMC_CE_CNT_COUNT c)).raise (dramCeF c) 1).lifeAdd 43 1
/-- Count, keep and log an uncorrectable word or a poisoning of DRAM (R380). -/
def State.dramUe (s : State) (m : Master) (a : Nat) : State :=
  let c := dramChan a
  let s1 := if s.get (DRAMC_UE_CNT_COUNT c) = 0 then (s.set (DRAMC_UE_ADDR_LO_ADDR c) (a / 8)).set (DRAMC_UE_ADDR_HI_ADDR c) (a / 2 ^ 32) else s
  (((s1.inc (DRAMC_UE_CNT_COUNT c)).raise (dramUeF c) 1).lifeAdd 44 1).logEvent 0x0C01 3 (lo32 a) m.id
/-- Read a 64-bit word of DRAM as a master (R378, R380). -/
def State.readDram (s : State) (m : Master) (a : Nat) : (Nat × Bool) × State :=
  let ((v, e), s1) := (s.pmonIo m false 8).peekWord a
  match e with
  | .ok => ((v, false), s1)
  | .ce => ((v, false), s1.dramCe a)
  | .ue => ((v, true), (s1.dramUe m a).dataAbort m a)
/-- A word that a partial write of its burst does not wholly cover is written back as read, after correction, and
poisoned if it was uncorrectable (R379). -/
def State.rewriteDram (s : State) (m : Master) (a : Nat) : State :=
  let ((v, e), s0) := s.peekWord a
  let s1 := { s0 with mem := putBytes a (bytesLE 8 v) s0.mem }
  match e with
  | .ok => { s1 with ecc := kdel a s1.ecc }
  | .ce => let s2 := s1.dramCe a; { s2 with ecc := kdel a s2.ecc }
  | .ue => let s2 := s1.dramUe m a; { s2 with ecc := kput a true s2.ecc }
/-- Write bytes to DRAM: whole bursts without a read, the rest by read-modify-write of the burst (R379). -/
def State.writeDram (s : State) (m : Master) (a : Nat) (bs : List Byte) : State :=
  let n := bs.length
  let lo := a / 64 * 64
  let part := ((List.range (cdiv (a + n - lo) 64 * 8)).map fun i => lo + 8 * i).filter fun w =>
    !(decide (a ≤ w) && decide (w + 8 ≤ a + n))
  let s0 := s.pmonIo m true n
  let s1 := if n = 0 then s0 else part.foldl (fun t w => t.rewriteDram m w) s0
  { s1 with mem := putBytes a bs s1.mem, ecc := kclear (cdiv a 8 * 8) ((a + n) / 8 * 8) s1.ecc }
/-- Read a 64-bit word of any memory as a master. -/
def State.readMem (s : State) (m : Master) (a : Nat) : (Nat × Bool) × State :=
  match regionOf a with | .dram _ _ => s.readDram m a | _ => s.readWord m a
/-- Write whole 64-bit words of any memory as a master. -/
def State.writeMem (s : State) (m : Master) (a : Nat) (bs : List Byte) : State :=
  match regionOf a with | .dram _ _ => s.writeDram m a bs | _ => ((s.pmonIo m true bs.length).useMem m a).writeRange a bs

/-! ### The alarm queue (R238, R239) -/

/-- An alarm payload: type, fibre (1 A, 2 B, 0 none), engine, words 1–7, ASEQ and word 9. -/
def alarmWords (typ fib eng : Nat) (ws : List Nat) (aseq w9 : Nat) : List Nat :=
  [typ + fib * 2 ^ 8 + eng * 2 ^ 12] ++ ws ++ [aseq, w9]
/-- An entry of place `key` finds room in the alarm queue beside the loss-watch events that go before it, or is discarded
(R239). -/
def State.alarmRoom (s : State) (key : Nat) : Bool :=
  let ahead := (List.finRange 2).filter fun f => decide (f.val + 1 < key) && !(s.lw[f]).fifo.isEmpty
  decide (s.out.alarms.length + ahead.length < 8) || !s.on OUT_STATUS_HOST_ACTIVE
def Alarm.aseq (a : Alarm) : Nat := a.words.getD 8 0
def Alarm.number (a : Alarm) (n : Nat) : Alarm := { a with words := a.words.set 8 n }
/-- Enter an alarm: among those of one cycle the order is A, B, engines (R239), and ASEQ follows it. -/
def insertAlarm (a : Alarm) : List Alarm → List Alarm
  | [] => [a]
  | x :: t => if x.at_ = a.at_ ∧ a.key < x.key then a.number x.aseq :: insertAlarm (x.number a.aseq) t else x :: insertAlarm a t
/-- An entry to the alarm queue takes an ASEQ; without an active host lane group it is discarded (R239). -/
def State.enterAlarm (s : State) (typ fib eng : Nat) (ws : List Nat) (w9 : Nat) : State :=
  let n := s.get OUT_ASEQ_NEXT
  let s1 := s.set OUT_ASEQ_NEXT (n + 1)
  if s.on OUT_STATUS_HOST_ACTIVE then
    let a : Alarm := ⟨alarmWords typ fib eng ws n w9, s.cyc, if typ = 0x10 then fib else 3 + eng⟩
    let s2 := { s1 with out := { s1.out with alarms := insertAlarm a s1.out.alarms } }
    if 8 ≤ s2.out.alarms.length then s2.raise OUT_FLAGS_ALARM_FULL 1 else s2
  else (s1.inc OUT_ALARM_DISC_COUNT).raise OUT_FLAGS_ALARM_DISC 1
/-- Without an active host lane group the queue discards what it holds (R239). -/
def State.discardAlarms (s : State) : State :=
  if s.on OUT_STATUS_HOST_ACTIVE || s.out.alarms.isEmpty then s else
  { ((s.incBy OUT_ALARM_DISC_COUNT s.out.alarms.length).raise OUT_FLAGS_ALARM_DISC 1) with out := { s.out with alarms := [] } }

/-! ### IRQ_N -/

/-- IRQ_N is asserted while a flag is set whose enable is set. Each pair is an enable word and the flags it meets. -/
def State.irq (s : State) : Bool :=
  let f := fun (e : Fld) (b : Bool) => s.on e && b
  let w := fun (e : Fld) (blk off : Nat) => (s.get e &&& s.rawReg blk off) != 0
  f SYS_IRQ_EN_ACC_ERR (s.on SYS_STATUS_ACC_ERR) || f SYS_IRQ_EN_ADDR_ERR (s.on SYS_STATUS_ADDR_ERR)
  || f SYS_IRQ_EN_REFCLK (s.on SYS_STATUS_REFCLK_SMP_BAD)
  || (s.get ENG_IRQ_EN_TRAP &&& s.get ENG_FLAGS_TRAP) != 0 || (s.get ENG_IRQ_EN_DMA_HALT &&& s.get ENG_FLAGS_DMA_HALT) != 0
  || f LW_IRQ_EN_EVT_A (s.on (LW_FLAGS_EVT 0)) || f LW_IRQ_EN_EVT_B (s.on (LW_FLAGS_EVT 1))
  || f LW_IRQ_EN_LOST (s.on (LW_FLAGS_LOST 0) || s.on (LW_FLAGS_LOST 1))
  || f LW_IRQ_EN_MASK_STOP (s.on (LW_FSTAT_MASK_STOPPED 0) || s.on (LW_FSTAT_MASK_STOPPED 1))
  || f LW_IRQ_EN_CAP_DONE (s.on LW_STATUS_CAP_DONE)
  || f OUT_IRQ_EN_DROP (s.on OUT_FLAGS_DROP) || f OUT_IRQ_EN_ALARM_DISC (s.on OUT_FLAGS_ALARM_DISC)
  || f OUT_IRQ_EN_USER_ERR (s.on OUT_FLAGS_USER_ERR)
  || (s.get LANE_IRQ_EN_LOL &&& s.get LANE_FLAGS_LOL) != 0 || (s.get LANE_IRQ_EN_TRAIN_FAIL &&& s.get LANE_FLAGS_TRAIN_FAIL) != 0
  || f LANE_IRQ_EN_REFCLK_BAD (s.on LANE_FLAGS_REFCLK_BAD)
  || w LINK_IRQ_EN_FLAGS 10 0x24 || w CMD_IRQ_EN_FLAGS 11 0x0C || w MGMT_IRQ_EN_FLAGS 20 0x04
  || w DRAMC_IRQ_EN_FLAGS 12 0x04 || w SCRUB_IRQ_EN_FLAGS 13 0x50 || w PWR_IRQ_EN_FLAGS 18 0x18
  || w TDC_IRQ_EN_FLAGS 14 0x04
  || w HK_IRQ_EN_FLAGS 15 0x20 || f HK_IRQ_EN_WIN ([0, 1, 2].any fun i => s.on (HK_WINFLAGw_OUT i))
  || w (CAL_IRQ_EN_FLAGS 0) 16 0x1010 || w (CAL_IRQ_EN_FLAGS 1) 16 0x2010
  || (s.get EMIT_IRQ_EN_THERM_SD &&& s.get EMIT_FLAGS_THERM_SD) != 0 || (s.get PMON_IRQ_EN_WRAP &&& s.get PMON_WRAP_WRAP) != 0

end Sys2Proof.Machine
end

