-- ==== Sys2Proof/Machine/Operands.lean ====
section
/-! DEFINITION. The operand forms of the command opcodes (R315–R323): status codes, parameter checks, reply packets and
the one way every opcode is executed; ownership of shared resources (R327). -/

namespace Sys2Proof.Machine
open Reg

/-! ### Status and owner codes (R321, R327) -/

def stOk : Nat := 0x00
def stNotReady : Nat := 0x01
def stBadOpcode : Nat := 0x02
def stBadParam : Nat := 0x03
def stBadCrc : Nat := 0x04
def stBusy : Nat := 0x05
def stResourceBusy : Nat := 0x06
def stTimeout : Nat := 0x07
def stDenied : Nat := 0x08
def stFault : Nat := 0x09
def stBudget : Nat := 0x0A
def stPending : Nat := 0x0B
def stAlready : Nat := 0x0C

/-- OWNER holds the function code in bits [15:8] and the instance in bits [7:0] (R327). -/
def ownerOf (code inst : Nat) : Nat := code * 256 + inst

/-- What an opcode answers: a refusal, which changes nothing (R322), with the owner it names; or a status with reply
data and the state it leaves. -/
inductive CmdRes where
  | refuse (status owner : Nat)
  | done (status : Nat) (data : List Nat) (s : State)

/-- Refuse with BAD_PARAM, DENIED, NOT_READY or BUDGET. -/
def CmdRes.bad : CmdRes := .refuse stBadParam 0
def CmdRes.denied : CmdRes := .refuse stDenied 0
def CmdRes.notReady : CmdRes := .refuse stNotReady 0
def CmdRes.budget : CmdRes := .refuse stBudget 0
def CmdRes.busyWith (owner : Nat) : CmdRes := .refuse stResourceBusy owner
/-- OK without reply data. -/
def CmdRes.ok (s : State) : CmdRes := .done stOk [] s
/-- OK with reply data; the state is unchanged. -/
def CmdRes.data (s : State) (d : List Nat) : CmdRes := .done stOk d s
/-- ALREADY: nothing changes (R321). -/
def CmdRes.already (s : State) : CmdRes := .done stAlready [] s
/-- The state an answer leaves, where a refusal leaves `s`. -/
def CmdRes.state (r : CmdRes) (s : State) : State := match r with | .refuse _ _ => s | .done _ _ t => t
/-- The status, data and owner of an answer. -/
def CmdRes.status (r : CmdRes) : Nat := match r with | .refuse st _ => st | .done st _ _ => st
def CmdRes.reply (r : CmdRes) : List Nat := match r with | .refuse _ _ => [] | .done _ d _ => d
def CmdRes.owner (r : CmdRes) : Nat := match r with | .refuse _ o => o | .done _ _ _ => 0

/-! ### Parameters (R317) -/

/-- Parameter `i`, 0 where the packet has fewer. -/
def par (ps : List Nat) (i : Nat) : Nat := ps.getD i 0
/-- Bits `[lo + w - 1 : lo]` of a parameter. -/
def fld (v lo w : Nat) : Nat := v / 2 ^ lo % 2 ^ w
/-- One bit of a parameter. -/
def bit (v i : Nat) : Bool := v.testBit i
/-- The fibre that P0[0] names. -/
def fibOf (ps : List Nat) : Nat := par ps 0 % 2
/-- Every bit of a parameter. -/
def full : Nat := 0xFFFFFFFF
/-- NPARAM equals the number the opcode needs, and every bit that the opcode does not assign is 0: `masks` gives the
assigned bits of each parameter (R317). -/
def paramsOk (masks ps : List Nat) : Bool :=
  ps.length == masks.length && (ps.zip masks).all fun q => q.1 &&& q.2 == q.1

/-! ### Replies (R316, R320, R336) -/

/-- A reply packet (R316). -/
def replyBytes (op st tag owner : Nat) (data : List Nat) : List Byte :=
  let b := wordsLE ([op + st * 2 ^ 8 + tag * 2 ^ 16, data.length + owner * 2 ^ 16] ++ data)
  b ++ bytesLE 4 (crc32c b)

/-- The SPI reply buffer has room for `n` more bytes: 16 replies and 16 KiB (R336). -/
def State.spiRoom (s : State) (n : Nat) : Bool :=
  s.cmd.replies.length < 16 && (s.cmd.replies.map List.length).sum + n ≤ 16384

/-- Hand a reply to its source: the SPI reply buffer, or a BULK transfer of subtype 1 on the group of arrival (R336,
R320). A reply without room waits. -/
def State.deliver (s : State) (src : CmdSrc) (tag : Nat) (b : List Byte) : State :=
  match src with
  | .spi =>
    if s.cmd.waiting.isEmpty && s.spiRoom b.length then { s with cmd := { s.cmd with replies := s.cmd.replies ++ [b] } }
    else { s with cmd := { s.cmd with waiting := s.cmd.waiting ++ [b] } }
  | .inband g _ => s.postBulk ⟨1, tag, b, 0, some g.val, none⟩

/-- Send a reply and record it in CMD_LAST (R339). -/
def State.answer (s : State) (src : CmdSrc) (op st tag owner : Nat) (data : List Nat) : State :=
  (((s.set CMD_LAST_OPCODE op).set CMD_LAST_STATUS st).set CMD_LAST_TAG tag).deliver src tag (replyBytes op st tag owner data)

/-- The command in execution is the one answered: its queue entry is free (R324). -/
def State.retire (s : State) (src : CmdSrc) (op tag : Nat) : State :=
  match s.cmd.exec with
  | some p => if p.src == src && p.op.toNat == op && p.tag.toNat == tag then { s with cmd := { s.cmd with exec := none } } else s
  | none => s

/-! ### Executing an opcode -/

/-- An entry to STANDBY or SLEEP has been accepted and has not ended (R466). -/
def State.entering (s : State) : Bool :=
  match s.pwr.change with | some (.entry _) => true | _ => false

/-- The checks every opcode passes before its own: the device phase (check 4 of R323), a power-state entry in progress
(R466), a block that can be reached (R20, R457), and the form of the parameters (R317). -/
def State.refusal (s : State) (op blk : Nat) (masks ps : List Nat) : Option Nat :=
  if s.get MGMT_STATUS_PHASE != 4 && op != 1 && op != 2 then some stNotReady
  else if s.entering && !(0xD0 ≤ op && op ≤ 0xD3) then some stNotReady
  else if !s.reach blk then some stNotReady
  else if !paramsOk masks ps then some stBadParam
  else none

/-- What an opcode answers: a refusal by the common checks, or what its own meaning gives. -/
def State.judge (s : State) (op blk : Nat) (masks : List Nat → List Nat) (body : State → List Nat → CmdRes) (c : CmdIn) : CmdRes :=
  let ps := c.ps.map (·.toNat)
  match s.refusal op blk (masks ps) ps with
  | some st => .refuse st 0
  | none => body s ps

/-- Execute an opcode of block `blk` and send its one reply (R324). -/
def runCmd (op blk : Nat) (masks : List Nat → List Nat) (body : State → List Nat → CmdRes) (c : CmdIn) (s : State) : State :=
  let r := s.judge op blk masks body c
  ((r.state s).answer c.src op r.status c.tag.toNat r.owner r.reply).retire c.src op c.tag.toNat

/-! ### Calibration runs end early (R440) -/

def calBusyF (f : Nat) : Fld := if f = 0 then CAL_STATUS_BUSY_A else CAL_STATUS_BUSY_B
/-- Enter a state of a calibration run (R443). -/
def State.setCalState (s : State) (f v : Nat) : State := (s.set (CAL_STAT_STATE f) v).setB (calBusyF f) (v != 0)
/-- A run ends without a change: temperature requests are suppressed for RETRY seconds (R438). -/
def State.calRetry (s : State) (f : Fib) : State :=
  { (s.setCalState f 0).set (CAL_STAT_RETRY_WAIT f) 1 with
    cal := s.cal.set f { s.cal[f] with a := none, found := none, retryDue := s.cyc + msCyc (1000 * s.get (CAL_CFG_RETRY f)) } }
/-- A run in progress or waiting is aborted (R440). -/
def State.calAbort (s : State) (f : Fib) : State :=
  if s.get (CAL_STAT_STATE f) = 0 then s else ((s.raise (CAL_FLAGS_ABORT f) 1).inc (CAL_ABORT_CNT_COUNT f)).calRetry f

/-! ### Shared time-measurement channels (R327, R398) -/

/-- The owner of a channel, 0 if free. -/
def State.tdcOwner (s : State) (n : Nat) : Nat := s.get (TDC_CHn_STAT_OWNER n)
/-- A function may acquire the channel: it is free or already its own. -/
def State.tdcFree (s : State) (n owner : Nat) : Bool := s.tdcOwner n == 0 || s.tdcOwner n == owner
def State.tdcAcquire (s : State) (n owner : Nat) : State :=
  let c : Fin 8 := Fin.ofNat 8 n
  { s.set (TDC_CHn_STAT_OWNER n) owner with tdc := { s.tdc with ch := s.tdc.ch.set c { s.tdc.ch[c] with edges := 0 } } }
def State.tdcRelease (s : State) (n owner : Nat) : State := if s.tdcOwner n == owner then s.set (TDC_CHn_STAT_OWNER n) 0 else s
/-- The sequencer's trigger channel for a TRIG_SRC value: TSTOP0 or TSTOP1 (R79). -/
def trigChan (src : Nat) : Option Nat := if src = 2 then some 0 else if src = 3 then some 1 else none

end Sys2Proof.Machine
end

