-- ==== Sys2Proof/Machine/Plan.lean ====
section
/-! DEFINITION. What a schedule is checked against before it runs: positions (R33–R42), flight pages (R65–R68), probe
codes (R87), gain stairs (R96), engine spans (R31, R173), the position filter (R137–R145), the temperature path (R198,
R200) and the real-time load of a DRAM channel (R373). -/

namespace Sys2Proof.Machine
open Reg

/-! ### Status bits with one field for each fibre -/

def galValidF (f : Nat) : Fld := if f = 0 then PRISM_STATUS_GAL_VALID_A else PRISM_STATUS_GAL_VALID_B
def galBusyF (f : Nat) : Fld := if f = 0 then PRISM_STATUS_GAL_BUSY_A else PRISM_STATUS_GAL_BUSY_B
def rayRdyF (f : Nat) : Fld := if f = 0 then RXF_STATUS_RAY_RDY_A else RXF_STATUS_RAY_RDY_B
def briRdyF (f : Nat) : Fld := if f = 0 then RXF_STATUS_BRI_RDY_A else RXF_STATUS_BRI_RDY_B
def ptestF (f : Nat) : Fld := if f = 0 then RXF_STATUS_PTEST_A else RXF_STATUS_PTEST_B

/-! ### Positions (02) -/

/-- The far-end position of a fibre of `len` metres at group index `ng` / 10,000 (R35). -/
def pEndOf (len ng : Nat) : Nat := len * ng * 40000 / 299792458
def State.pEnd (s : State) (f : Nat) : Nat := pEndOf (s.get (SEQ_LEN_LEN f)) (s.get (SEQ_NG_NG f))
/-- N of the readout range, before the bounds of R36. -/
def State.readN (s : State) (f : Nat) : Nat := s.pEnd f + 1 - s.get (SEQ_GUARD_GUARD f)
/-- Temperature positions of a fibre (R37). -/
def State.tPos (s : State) (f : Nat) : Nat := s.readN f / 4
/-- Readout spacing s (R40). -/
def State.spacing (s : State) (f : Nat) : Nat := 2 ^ s.get (PFIL_CTRL_SPACING f)
/-- Gauge length g, and its halves h_lo and h_hi (R38). -/
def State.gauge (s : State) (f : Nat) : Nat := if f = 0 then s.get ENG_GAUGE_GAUGE_A else s.get ENG_GAUGE_GAUGE_B
def State.gaugeLo (s : State) (f : Nat) : Nat := s.gauge f / 2
def State.gaugeHi (s : State) (f : Nat) : Nat := s.gauge f - s.gauge f / 2
/-- The bounds of R36 hold. -/
def State.rangeOk (s : State) (f : Nat) : Bool :=
  decide (256 ≤ s.readN f) && decide (s.readN f ≤ 131072) && decide (s.get (SEQ_LEN_LEN f) ≤ 50000)

/-! ### Probe codes (04) -/

/-- A descriptor is valid (R87), as its fields. -/
def codeValid (typ taper amp len bw start chip : Nat) : Bool :=
  (typ == 1 || typ == 2) && decide (200 ≤ len) && decide (len ≤ 20000) && decide (taper ≤ 64) && decide (amp ≤ 8191)
  && (if typ = 1 then decide (1000 ≤ bw) && decide (bw ≤ 100000)
      else decide (25 ≤ chip) && len % chip == 0 && decide (start + len / chip ≤ 8192))
def State.codeOk (s : State) (f d : Nat) : Bool :=
  codeValid (s.get (RXF_PCODE_CTRL_TYPE f d)) (s.get (RXF_PCODE_CTRL_TAPER f d)) (s.get (RXF_PCODE_CTRL_AMP f d))
    (s.get (RXF_PCODE_LEN_LEN f d)) (s.get (RXF_PCODE_BW_BW f d)) (s.get (RXF_PCODE_BPSK_START f d)) (s.get (RXF_PCODE_BPSK_CHIP f d))
/-- Code length in ns. -/
def State.codeNs (s : State) (f d : Nat) : Rat := (s.get (RXF_PCODE_LEN_LEN f d) : Rat) / 2

/-- The stair table of a fibre is valid (R96). -/
def State.stairsOk (s : State) (f : Nat) : Bool :=
  let offs := ((List.range 15).map (· + 1)).filterMap fun e =>
    if s.on (RXF_STAIRe_EN f e) then some (s.get (RXF_STAIRe_OFFSET f e)) else none
  let rec ok : Nat → List Nat → Bool
    | _, [] => true
    | p, o :: t => decide (p + 8 ≤ o) && ok o t
  ok 0 offs

/-! ### Flight pages (03) -/

/-- An enabled flight table entry. -/
structure Entry where
  idx : Nat
  off : Nat
  slot : Nat
  code : Nat
  deriving DecidableEq, Repr

/-- The enabled entries of a page in table order (R66). -/
def State.entries (s : State) (f p : Nat) : List Entry :=
  (List.range 64).filterMap fun e =>
    if s.on (SEQ_FT_EN f p e) then some ⟨e, s.get (SEQ_FT_OFFSET f p e), s.get (SEQ_FT_SLOT f p e), s.get (SEQ_FT_CODE f p e)⟩ else none
/-- NUM and DEN of a page. -/
def State.pageNum (s : State) (f p : Nat) : Nat := if p = 0 then s.get (SEQ_PERIOD0_NUM f) else s.get (SEQ_PERIOD1_NUM f)
def State.pageDen (s : State) (f p : Nat) : Nat := (if p = 0 then s.get (SEQ_PERIOD0_DEN_M1 f) else s.get (SEQ_PERIOD1_DEN_M1 f)) + 1
/-- Flight period in reference cycles. -/
def State.flightCyc (s : State) (f p : Nat) : Rat := (s.pageNum f p : Rat) / s.pageDen f p

/-- The active page of a fibre. -/
def State.page (s : State) (f : Nat) : Nat := s.get (SEQ_STATUS_PAGE f)

/-- Pairs of consecutive entries, taken cyclically across the flight boundary, with the distance in 1/65,536 flights. -/
def cyclicGaps (es : List Entry) : List (Entry × Nat) :=
  match es with
  | [] => []
  | e :: t => (es.zip (t ++ [e])).map fun q =>
      (q.1, if q.1.off < q.2.off then q.2.off - q.1.off else q.2.off + 65536 - q.1.off)

/-- Offsets increase strictly. -/
def increasing : List Nat → Bool
  | a :: b :: t => decide (a < b) && increasing (b :: t)
  | _ => true

/-- The tracked period T in ns; on the internal reference, also of a start that falls back to it, it is exact (R58, R60). -/
def State.trackedT (s : State) (fallback : Bool) : Rat :=
  if !s.external || s.on SEQ_REF_STATUS_ON_INTERNAL || fallback then s.internalT
  else match s.refModel with | some m => m.T | none => 0

/-- The effective shot rate E × DEN / (NUM × T) in Hz, 0 where a quantity is 0 (R68). -/
def State.fEff (s : State) (f p : Nat) (t : Rat) : Rat :=
  if t = 0 || s.pageNum f p = 0 then 0 else ((s.entries f p).length : Rat) * s.pageDen f p * 1000000000 / (s.pageNum f p * t)

/-- The page passes R67 against the tracked period `t` (ns), and every enabled entry names a valid descriptor (R87). -/
def State.pageOk (s : State) (f p : Nat) (t : Rat) (uneven : Bool) : Bool :=
  let es := s.entries f p
  let ns := fun (d : Nat) => (d : Rat) / 65536 * s.flightCyc f p * t
  let reuse : Rat := ((s.pEnd f + 1 : Nat) : Rat) * 5
  !es.isEmpty && increasing (es.map (·.off)) && decide (0 < s.pageNum f p) && decide (0 < t)
  && (cyclicGaps es).all (fun q => decide (s.codeNs f q.1.code + 40 ≤ ns q.2))
  && (List.range 8).all (fun sl => (cyclicGaps (es.filter (·.slot == sl))).all fun q => decide (reuse + s.codeNs f q.1.code ≤ ns q.2))
  && decide (s.fEff f p t ≤ 100000)
  && (uneven || (cyclicGaps es).all fun q =>
        decide (65536 ≤ (q.2 + 1) * es.length) && decide (q.2 * es.length ≤ 65536 + es.length))
  && es.all (fun e => s.codeOk f e.code)

/-! ### Engine spans (R31, R173) -/

/-- The engines fed by a fibre, ascending. -/
def State.fedBy (s : State) (f : Nat) : List Nat := (List.range 16).filter fun k => s.get (ENG_ASSIGN_SRC k) == f + 1
/-- The span that AUTO_SPAN gives engine number `j` of `n`. -/
def autoSpan (n total j : Nat) : Nat × Nat := (j * total / n, (j + 1) * total / n - 1)
/-- The spans in force for a start: those AUTO_SPAN would write, or the registers. -/
def State.spansOf (s : State) (f : Nat) : List (Nat × Nat) :=
  let ks := s.fedBy f
  if s.on ENG_CTRL_AUTO_SPAN then (List.range ks.length).map (autoSpan ks.length (s.readN f))
  else ks.map fun k => (s.get (ENG_DEk_SPAN_LO_FIRST k), s.get (ENG_DEk_SPAN_HI_LAST k))
/-- Sort spans by their first position. -/
def insertSpan (a : Nat × Nat) : List (Nat × Nat) → List (Nat × Nat)
  | [] => [a]
  | b :: t => if a.1 ≤ b.1 then a :: b :: t else b :: insertSpan a t
/-- Sorted spans cover positions `p` to `n − 1` without overlap. -/
def covers (n : Nat) : Nat → List (Nat × Nat) → Bool
  | p, [] => decide (n ≤ p)
  | p, (a, b) :: t => if n ≤ p then true else a == p && covers n (b + 1) t
/-- Spans overlap below `n`, each cut at `n − 1`. -/
def spansClash (n : Nat) : List (Nat × Nat) → Bool
  | (a, b) :: (c, d) :: t => (decide (c ≤ b) && decide (c < n) && decide (a < n)) || spansClash n ((c, d) :: t)
  | _ => false
/-- No span is empty, none overlap and every position of the readout range lies in one (R31, R173). -/
def State.spansOk (s : State) (f : Nat) : Bool :=
  let sp := s.spansOf f
  let srt := sp.foldr insertSpan []
  !sp.isEmpty && sp.all (fun q => decide (q.1 ≤ q.2)) && !spansClash (s.readN f) srt && covers (s.readN f) 0 srt
/-- SEQ_ARM writes the spans under AUTO_SPAN (R173). -/
def State.applyAutoSpan (s : State) (f : Nat) : State :=
  if s.on ENG_CTRL_AUTO_SPAN then
    ((s.fedBy f).zip (s.spansOf f)).foldl (fun t q => (t.set (ENG_DEk_SPAN_LO_FIRST q.1) q.2.1).set (ENG_DEk_SPAN_HI_LAST q.1) q.2.2) s
  else s

/-! ### Position filter (06) -/

/-- Outputs per reference cycle of the filter's input, E × DEN / NUM (R137). -/
def State.perCycle (s : State) (f p : Nat) : Rat :=
  if s.pageNum f p = 0 then 0 else ((s.entries f p).length : Rat) * s.pageDen f p / s.pageNum f p

/-- A stream's filter settings: stair stages, FREE rate, QN, QD. -/
structure RateSet where
  k : Nat
  rate : Nat
  qn : Nat
  qd : Nat
  deriving DecidableEq, Repr

def State.mainRates (s : State) (f : Nat) : RateSet :=
  ⟨s.get (PFIL_CTRL_K f), s.get (PFIL_RATE_RATE f), s.get (PFIL_LOCK_QN f), s.get (PFIL_LOCK_QD f)⟩
def State.loupeRates (s : State) (f l : Nat) : RateSet :=
  ⟨s.get (PFIL_LPL_CTRL_K f l), s.get (PFIL_LPL_RATE_RATE f l), s.get (PFIL_LPL_LOCK_QN f l), s.get (PFIL_LPL_LOCK_QD f l)⟩
def State.loupesOn (s : State) (f : Nat) : List Nat := (List.range 16).filter fun l => s.on (PFIL_LPL_CTRL_EN f l)

/-- Output rate r_o in Hz; LOCKED at the tracked period (R137, R138). -/
def State.outRate (s : State) (f : Nat) (r : RateSet) (t : Rat) : Rat :=
  if s.on (PFIL_CTRL_MODE f) then (if r.qd = 0 || t = 0 then 0 else (r.qn : Rat) / r.qd * 1000000000 / t)
  else (r.rate : Rat) / 100
/-- STEP = r_f / r_o, exact; 0 where it is not defined (R137). -/
def State.stepOf (s : State) (f p : Nat) (r : RateSet) (t : Rat) : Rat :=
  if s.on (PFIL_CTRL_MODE f) then (if r.qn = 0 then 0 else s.perCycle f p * r.qd / ((2 ^ r.k : Nat) * (r.qn : Rat)))
  else if r.rate = 0 then 0 else s.fEff f p t / ((2 ^ r.k : Nat) * ((r.rate : Rat) / 100))
/-- 2D, W and N_s of R140. -/
def gd2 (k taps : Nat) : Nat := 22 * (2 ^ k - 1) + 2 ^ k * (taps - 1)
def filterW (k taps : Nat) : Nat := 22 * (2 ^ k - 1) + 2 ^ k * (taps + 14) + 1
def settleN (k taps : Nat) (step : Rat) : Nat :=
  if step = 0 then 0 else (((filterW k taps - 1 : Nat) : Rat) / ((2 ^ k : Nat) * step)).ceil.toNat
/-- One stream's rates satisfy R137 and R138. -/
def State.streamOk (s : State) (f p : Nat) (r : RateSet) (t hi : Rat) : Bool :=
  let ro := s.outRate f r t
  let st := s.stepOf f p r t
  decide (r.k ≤ 5) && decide (100 ≤ ro) && decide (ro ≤ hi) && decide (1 ≤ st) && decide (st ≤ 8)
/-- An enabled loupe region lies as R41 says. -/
def State.loupeSpanOk (s : State) (f l : Nat) : Bool :=
  decide (16 ≤ s.get (PFIL_LPL_LEN_LEN f l)) && decide (s.get (PFIL_LPL_LEN_LEN f l) ≤ 16384)
  && decide (s.get (PFIL_LPL_START_START f l) + s.get (PFIL_LPL_LEN_LEN f l) ≤ s.readN f)
/-- Every stream of the filter passes R41 and R138 on a page. -/
def State.filterOk (s : State) (f p : Nat) (t : Rat) : Bool :=
  decide (1 ≤ s.get (PFIL_FIR_TAPS f)) && decide (s.get (PFIL_FIR_TAPS f) ≤ 384)
  && s.streamOk f p (s.mainRates f) t 20000
  && (s.loupesOn f).all fun l => s.loupeSpanOk f l && s.streamOk f p (s.loupeRates f l) t (s.fEff f p t)
/-- Capacity in tap-operations per second (R145). -/
def filterCap : Nat := 128000000000
/-- Input samples per second the FIR takes, per tap: load = TAPS × this (R145). -/
def State.filterUnit (s : State) (f : Nat) (fe : Rat) : Rat :=
  (cdiv (s.readN f) (s.spacing f) : Rat) * fe / (2 ^ s.get (PFIL_CTRL_K f) : Nat)
  + ((s.loupesOn f).map fun l => (s.get (PFIL_LPL_LEN_LEN f l) : Rat) * fe / (2 ^ s.get (PFIL_LPL_CTRL_K f l) : Nat)).sum
def State.filterLoad (s : State) (f : Nat) (fe : Rat) : Rat := (s.get (PFIL_FIR_TAPS f) : Rat) * s.filterUnit f fe
/-- Record an accepting check in PFIL_LOAD (R145). -/
def State.setLoad (s : State) (f : Nat) (load : Rat) : State := s.set (PFIL_LOAD_LOAD f) (load / 1000000).floor.toNat
/-- PFIL_CT_REQ and PFIL_ST_REQ (R131, R148). -/
def State.ctKib (s : State) (f : Nat) : Nat := 64 * cdiv (s.readN f) 256
def State.stKib (s : State) (f : Nat) : Nat :=
  (Config.stateKib ([s.readN f, s.spacing f, s.get (PFIL_FIR_TAPS f), s.get (PFIL_CTRL_K f)]
    ++ (s.loupesOn f).flatMap fun l => [s.get (PFIL_LPL_CTRL_K f l), s.get (PFIL_LPL_LEN_LEN f l)])).val

/-! ### Temperature path and DRAM channels -/

/-- MT/s of a channel: 1,600 to 3,200 in the order of R366. -/
def dataRate (code : Nat) : Nat := [1600, 1866, 2133, 2400, 2666, 2933, 3200].getD code 3200
/-- Peak data rate of a channel in B/s. -/
def State.peak (s : State) (ch : Nat) : Nat := 8 * dataRate (s.get (DRAMC_CONFIG_RATE ch)) * 1000000
/-- ACC × T ≥ 1 s and ACC ≤ 2^31 (R198). -/
def State.accOk (s : State) (f : Nat) (t : Rat) : Bool :=
  decide (1000000000 ≤ (s.get (BRIL_ACC_CYCLES f) : Rat) * t) && decide (s.get (BRIL_ACC_CYCLES f) ≤ 2 ^ 31)
/-- load_B in B/s (R200). -/
def State.brilLoad (s : State) (f p : Nat) (t : Rat) : Rat :=
  let tp := s.tPos f
  let ns := ((s.entries f p).filter fun e => e.slot == s.get (PRISM_BRIL_CTRL_SLOT f)).length
  if tp = 0 || t = 0 || s.pageNum f p = 0 then 0 else
    2048 * (tp : Rat) * min ((ns : Rat) * s.pageDen f p * 1000000000 / (s.pageNum f p * t * ((s.get (PRISM_BRIL_CTRL_DIV f) + 1 : Nat) : Rat)))
      (6250000 / tp)
/-- Addresses of the DRAM areas. -/
def State.base40 (s : State) (lo hi : Fld) : Nat := s.get lo * 4096 + s.get hi * 2 ^ 32
def State.ctBase (s : State) (f : Nat) : Nat := s.base40 (PFIL_CT_BASE_LO_ADDR f) (PFIL_CT_BASE_HI_ADDR f)
def State.stBase (s : State) (f : Nat) : Nat := s.base40 (PFIL_ST_BASE_LO_ADDR f) (PFIL_ST_BASE_HI_ADDR f)
def State.accBase (s : State) (f : Nat) : Nat := s.base40 (BRIL_ACC_BASE_LO_ADDR f) (BRIL_ACC_BASE_HI_ADDR f)
def State.resBase (s : State) (f : Nat) : Nat := s.base40 (BRIL_RES_BASE_LO_ADDR f) (BRIL_RES_BASE_HI_ADDR f)
/-- The channel an address lies in, none outside DRAM. -/
def chanOf (a : Nat) : Option Nat := match regionOf a with | .dram ch _ => some ch | _ => none
/-- A real-time port's FIFO on one side holds its 64 requests at the channel an area lies in, and the requester waits (R370). -/
def State.rtFull (s : State) (a p : Nat) (write : Bool) : Bool :=
  match chanOf a with
  | some ch =>
    let d := s.dram[Fin.ofNat 2 ch]
    decide (64 ≤ ((d.queue ++ d.waiting).filter fun q => q.port == p && q.write == write).length)
  | none => false
/-- `n` bytes from an address lie in installed memory of one channel. -/
def State.inChannel (s : State) (a n : Nat) : Bool :=
  match regionOf a with | .dram ch off => decide (off + n ≤ s.installed ch) | _ => false

/-- The page, sequencer mode and tracked period a fibre's load is computed for. -/
structure LoadCase where
  page : Nat
  uneven : Bool
  bril : Bool
  deriving DecidableEq, Repr

/-- The real-time load one fibre puts on a channel, in B/s (R373). -/
def State.rtLoadOf (s : State) (f : Nat) (c : LoadCase) (t : Rat) (ch : Nat) : Rat :=
  let fe := s.fEff f c.page t
  (if c.uneven || chanOf (s.ctBase f) != some ch then 0 else 4 * (s.readN f : Rat) * fe)
  + (if c.uneven || chanOf (s.stBase f) != some ch then 0 else 2048 * (s.stKib f : Rat) * fe / 64)
  + (if !c.bril || chanOf (s.accBase f) != some ch then 0 else s.brilLoad f c.page t)
/-- The case a fibre runs in now. -/
def State.caseOf (s : State) (f : Nat) : LoadCase := ⟨s.page f, s.on (SEQ_CTRL_UNEVEN f), s.on (BRIL_CTRL_EN f)⟩
/-- The real-time load of a channel with fibre `f` in case `c` and the other fibre as it is. -/
def State.rtLoad (s : State) (f : Nat) (c : LoadCase) (t : Rat) (ch : Nat) : Rat :=
  s.rtLoadOf f c t ch + s.rtLoadOf (1 - f) (s.caseOf (1 - f)) t ch
/-- The real-time load of every channel stays within DRAMC_RT_LIM (R373). -/
def State.rtOk (s : State) (f : Nat) (c : LoadCase) (t : Rat) : Bool :=
  [0, 1].all fun ch => decide (s.rtLoad f c t ch ≤ (s.peak ch : Rat) * s.get DRAMC_RT_LIM_PCT / 100)
/-- Report the accepted real-time load in MB/s, rounded down. -/
def State.setRtLoad (s : State) (f : Nat) (c : LoadCase) (t : Rat) : State :=
  [0, 1].foldl (fun u ch => u.set (DRAMC_RT_LOAD_MBS ch) (s.rtLoad f c t ch / 1000000).floor.toNat) s
/-- The RT3 load stays within BRIL_RT3_LIM of the channel that holds the banks (R200). -/
def State.rt3Ok (s : State) (f p : Nat) (t : Rat) : Bool :=
  match chanOf (s.accBase f) with
  | some ch => decide (s.brilLoad f p t ≤ (s.peak ch : Rat) * s.get (BRIL_RT3_LIM_PCT f) / 100)
  | none => true
def State.setBrilLoad (s : State) (f p : Nat) (t : Rat) : State := s.set (BRIL_LOAD_MBS f) (s.brilLoad f p t / 1000000).floor.toNat

end Sys2Proof.Machine
end

