-- ==== Sys2Proof/Machine/Seq.lean ====
section
/-! DEFINITION. The reference tracker and the shot sequencers: what the events and the opcodes of chapter 03 do
(R56–R84, R508, R509). -/

namespace Sys2Proof.Machine
open Reg

/-! ### Small accessors -/

def State.sq (s : State) (f : Fib) : SeqRun := s.seq[f]
/-- Update what a sequencer holds. -/
def State.setSq (s : State) (f : Fib) (g : SeqRun → SeqRun) : State := { s with seq := s.seq.set f (g (s.seq[f])) }
/-- Update what a loss watch holds. -/
def State.setLw (s : State) (f : Fib) (g : LwRun → LwRun) : State := { s with lw := s.lw.set f (g (s.lw[f])) }
/-- Update what the tracker holds. -/
def State.setTrk (s : State) (g : Tracker → Tracker) : State := { s with trk := g s.trk }
def State.seqState (s : State) (f : Nat) : Nat := s.get (SEQ_STATUS_STATE f)
def stIdle : Nat := 0
def stArmed : Nat := 1
def stRunning : Nat := 2
def stDraining : Nat := 3
def stStopping : Nat := 4
/-- A run of the fibre is in progress: RUNNING or DRAINING. -/
def State.seqRuns (s : State) (f : Nat) : Bool := s.seqState f == 2 || s.seqState f == 3
/-- Both sequencers are IDLE. -/
def State.allIdle (s : State) : Bool := s.seqState 0 == 0 && s.seqState 1 == 0
/-- No sequencer is RUNNING, DRAINING or STOPPING (R62). -/
def State.noneRuns (s : State) : Bool := decide (s.seqState 0 ≤ 1) && decide (s.seqState 1 ≤ 1)
/-- Frames and records are marked as in holdover (R59, R60). -/
def State.inHoldover (s : State) : Bool := s.on SEQ_REF_STATUS_HOLDOVER || s.on SEQ_REF_STATUS_ON_INTERNAL

/-- A step of a block that needs clk_fab does nothing while clk_fab does not run (R28, R457). -/
def State.onFab (s t : State) : State := if s.fabRuns then t else s

/-! ### The reference tracker -/

/-- Integer square root, from the highest of 40 bits down. -/
def isqrt (n : Nat) : Nat :=
  (List.range 40).foldr (fun b r => if (r + 2 ^ b) * (r + 2 ^ b) ≤ n then r + 2 ^ b else r) 0
/-- Square root rounded to the nearest integer. -/
def isqrtNear (q : Rat) : Nat := (isqrt (4 * q).floor.toNat + 1) / 2

/-- Least-squares line through points (k, t): the instant of boundary 0 and the period; none for fewer than two distinct
points (R56). -/
def lineFit (ps : List (Rat × Rat)) : Option (Rat × Rat) :=
  let n : Rat := ps.length
  let sk := (ps.map (·.1)).sum
  let st := (ps.map (·.2)).sum
  let skk := (ps.map fun p => p.1 * p.1).sum
  let skt := (ps.map fun p => p.1 * p.2).sum
  let d := n * skk - sk * sk
  if d = 0 then none else
    let b := (n * skt - sk * st) / d
    some ((st - b * sk) / n, b)
/-- Mean square of the residuals, ns². -/
def meanSquare (ps : List (Rat × Rat)) (l : Rat × Rat) : Rat :=
  if ps.isEmpty then 0 else (ps.map fun p => (p.2 - l.1 - p.1 * l.2) * (p.2 - l.1 - p.1 * l.2)).sum / (ps.length : Rat)
/-- rms residual in ps. -/
def residPs (ps : List (Rat × Rat)) : Nat :=
  match lineFit ps with | some l => min (isqrtNear (meanSquare ps l * 1000000)) 0xFFFFFFFF | none => 0
/-- The model a set of stamps fits. -/
def fitModel (ps : List (Rat × Rat)) : Option RefModel := (lineFit ps).map fun l => ⟨0, l.1, l.2⟩

/-- The window W = 2^WIN_LOG2 (R56). -/
def State.trackW (s : State) : Nat := 2 ^ s.get SEQ_TRACK_WIN_LOG2

/-- Update SEQ_REF_RESID, LOCKED and RESID_HIGH from the collected stamps (R57). -/
def State.judgeLock (s : State) : State :=
  let r := residPs s.trk.stamps
  let s1 := s.set SEQ_REF_RESID_RESID r
  if r ≤ s1.get SEQ_RESID_LIM_LIM then
    if s1.trackW ≤ s1.trk.stamps.length then s1.set SEQ_REF_STATUS_LOCKED 1 else s1
  else (s1.set SEQ_REF_STATUS_LOCKED 0).raise SEQ_REF_FLAGS_RESID_HIGH 1

/-- The tracker starts afresh on the reference selected, without stamps, and on the internal reference with an exact period
(R58, R508); HOLDOVER, PRESENT and SEQ_REF_RESID restart with it (log entry 60). -/
def State.selectRef (s : State) : State :=
  let s1 := (((s.set SEQ_REF_STATUS_LOCKED 0).set SEQ_REF_STATUS_HOLDOVER 0).set SEQ_REF_STATUS_PRESENT 0).set SEQ_REF_RESID_RESID 0
  s1.setTrk fun t => { t with
    stamps := [], nextK := 0, back := [], jumped := false, holdStopped := false, extModel := none, selectedAt := s.cyc,
    model := none }

/-- The model of the external reference: behind the internal one during a fallback (R60). -/
def State.extModel (s : State) : Option RefModel := if s.on SEQ_REF_STATUS_ON_INTERNAL then s.trk.extModel else s.trk.model
def State.setExtModel (s : State) (m : Option RefModel) : State :=
  s.setTrk fun t => if s.on SEQ_REF_STATUS_ON_INTERNAL then { t with extModel := m } else { t with model := m }

/-- Void the epoch and arm the automatic epoch again (R508). -/
def State.voidEpoch (s : State) : State :=
  ((s.set SEQ_REF_STATUS_EPOCH_VALID 0).selectRef).setTrk fun t => { t with
    autoEpoch := true, epochReq := none, epochOnInt := false, markNext := none, markerSeen := false }

/-- Fields whose change voids the epoch (R508). -/
def State.refFields (s : State) : List Nat :=
  [s.get SEQ_REF_CTRL_SRC, s.get SEQ_REF_CTRL_MARK_EN, s.get SEQ_REF_CTRL_MARK_POL, s.get SEQ_REF_CTRL_PRESC,
   s.get SEQ_REF_DIV_DIV, s.get SEQ_INT_DIV_INT_DIV]
/-- After a write to the reference registers: an accepted change of those fields voids the epoch, but not on a worker. -/
def State.refChanged (s old : State) : State :=
  if s.refFields != old.refFields && !s.isWorker then s.voidEpoch else s

/-- The model a fibre's launches use: the holdover model until the next flight boundary after tracking resumed (R61), the
reference the sequencer was armed on while the other one falls back (R60), or the one in force. -/
def State.modelFor (s : State) (f : Fib) : RefModel :=
  match (s.sq f).frozen, (s.sq f).kept with
  | some m, _ => m
  | none, some k => k.1
  | none, none => s.refModel.getD ⟨0, 0, s.internalT⟩
/-- The epoch that goes with it. -/
def State.epochFor (s : State) (f : Fib) : Int := match (s.sq f).kept with | some k => k.2 | none => s.trk.epoch
/-- Instant of a phase, and phase of an instant, on a fibre's model. -/
def State.timeOf (s : State) (f : Fib) (p : Rat) : Rat := (s.modelFor f).timeOf (s.epochFor f) p
def State.phaseOf (s : State) (f : Fib) (t : Rat) : Rat := (s.modelFor f).phaseAt (s.epochFor f) t

/-- A start falls back to the internal reference: the three conditions of R60. -/
def State.fallsBack (s : State) : Bool :=
  !s.isWorker && s.on SEQ_REF_CTRL_SRC && s.on SEQ_REF_CTRL_FALLBACK && !s.on SEQ_REF_STATUS_ON_INTERNAL
  && (!s.on SEQ_REF_STATUS_PRESENT || s.on SEQ_REF_STATUS_HOLDOVER || !s.on SEQ_REF_STATUS_LOCKED)
/-- A sequencer that is not IDLE keeps the reference it was armed on (R60). -/
def State.keepRef (s : State) (f : Fib) : State :=
  if s.seqState f = 0 ∨ (s.sq f).kept.isSome then s else s.setSq f fun q => { q with kept := some (s.modelFor f, s.trk.epoch) }
/-- The internal reference takes over for a fallback start; its epoch is set at its first cycle boundary (R58, R60). -/
def State.startFallback (s : State) : State :=
  ((((s.keepRef 0).keepRef 1).set SEQ_REF_STATUS_ON_INTERNAL 1).set SEQ_REF_STATUS_EPOCH_VALID 0).setTrk fun t => { t with
    extModel := t.model, model := some ⟨0, s.nowNs, s.internalT⟩, epochReq := some false, markNext := none }
/-- ON_INTERNAL clears in the cycle in which both sequencers are IDLE (R60); an epoch set during the fallback is voided
(R508). -/
def State.endFallback (s : State) : State :=
  if s.on SEQ_REF_STATUS_ON_INTERNAL && s.allIdle then
    let s1 := s.set SEQ_REF_STATUS_ON_INTERNAL 0
    if s.on SEQ_REF_STATUS_EPOCH_VALID && s.trk.epochOnInt then s1.voidEpoch
    else s1.setTrk fun t => { t with model := t.extModel, extModel := none, epochReq := none, autoEpoch := true }
  else s

/-- Count an error of a marker (R64). -/
def State.markErr (s : State) (n : Nat) : State :=
  if n = 0 then s else (s.incBy SEQ_MARK_ERR_COUNT n).raise SEQ_REF_FLAGS_MARK_SLIP 1
/-- Markers are expected and checked (R58, R64). -/
def State.marksOn (s : State) : Bool :=
  !s.isWorker && s.on SEQ_REF_CTRL_SRC && s.on SEQ_REF_CTRL_MARK_EN && !s.on SEQ_REF_STATUS_ON_INTERNAL
def State.mper (s : State) : Nat := s.get SEQ_MARK_PERIOD_MPER
/-- Expected boundaries whose nearest markers can no longer come, once boundary `k` has passed, count as errors (R64). -/
def State.marksPassed (s : State) (k : Int) : State :=
  match s.trk.markNext with
  | some b =>
    if s.marksOn then
      let n := ((2 * (k - b) + s.mper - 1) / (2 * s.mper : Int)).toNat
      (s.markErr n).setTrk fun t => { t with markNext := some (b + n * s.mper) }
    else s
  | none => s

/-- SEQ_MARK_PERIOD has changed: the next expected boundary is the first to come whose count is a multiple of it (R64). -/
def State.remark (s : State) : State :=
  match s.trk.markNext, s.refModel with
  | some _, some m =>
    let n : Int := (m.phaseAt s.trk.epoch s.nowNs).floor
    s.setTrk fun t => { t with markNext := some (t.epoch + (n / (s.mper : Int) + 1) * s.mper) }
  | _, _ => s

/-- Store SEQ_MARK_PERIOD. -/
def State.putMper (s : State) (v : Nat) : State :=
  if s.mper = v then s else (s.set SEQ_MARK_PERIOD_MPER v).remark

/-- A stamp of the edge that closes a reference cycle, at instant `t` in ns (R56, R57, R61). The tracker follows PHREF during
a fallback too (log entry 60). -/
def State.takeStamp (s : State) (t : Rat) : State :=
  let w := s.trackW
  if s.on SEQ_REF_STATUS_HOLDOVER then
    let k : Int := if s.trk.back.isEmpty then
        (match s.extModel with | some m => roundHalfUp (m.phaseAt 0 t) | none => s.trk.nextK) else s.trk.nextK
    ((s.set SEQ_REF_STATUS_PRESENT 1).setTrk fun r => { r with back := (((k : Rat), t) :: r.back).take w, nextK := k + 1 }).marksPassed k
  else
    let k := s.trk.nextK
    let st := (((k : Rat), t) :: s.trk.stamps).take w
    (((((s.set SEQ_REF_STATUS_PRESENT 1).setTrk fun r => { r with stamps := st, nextK := k + 1 }).setExtModel
      ((fitModel st).orElse fun _ => s.extModel)).judgeLock).marksPassed k)

/-- TRACKER_REFIT (R56): on PHREF, the stamp of the edge that closes a reference cycle. -/
def execTrackerRefit (stamp : BitVec 64) (s : State) : Host.Outcome State Fault Refusal :=
  .next (if s.on SEQ_REF_CTRL_SRC && !s.isWorker && s.fabRuns then s.takeStamp (s.instOf stamp.toNat) else s)

/-- INTERNAL_REFERENCE_LOCK (R58): LOCKED is set 1 µs after the internal reference is selected. -/
def execInternalReferenceLock (s : State) : Host.Outcome State Fault Refusal :=
  .next (if !s.external && s.fabRuns && decide (s.trk.selectedAt + usCyc 1 ≤ s.cyc) then
    (s.set SEQ_REF_STATUS_LOCKED 1).set SEQ_REF_RESID_RESID 0 else s)

/-- Which epoch is due: requested by SEQ_EPOCH or a fallback start, or automatic once LOCKED; none while a sequencer is
RUNNING, DRAINING or STOPPING (R62). -/
def State.epochDue (s : State) : Option Bool :=
  if !s.noneRuns then none else
  match s.trk.epochReq with
  | some b => some b
  | none => if s.trk.autoEpoch && s.on SEQ_REF_STATUS_LOCKED then some (s.marksOn) else none

/-- The divider restarts at instant `t`: the boundary there is the next one, and the stamps before it keep their distance
in prescaled edges (R64). -/
def State.realign (s : State) (t : Rat) : State :=
  match s.trk.stamps, s.trk.model with
  | (k0, t0) :: _, some m =>
    let d1 : Rat := ((s.get SEQ_REF_DIV_DIV + 1 : Nat) : Rat)
    let gone : Rat := (roundHalfUp ((t - t0) / m.T * d1) : Rat) / d1
    let dk : Rat := (s.trk.nextK : Rat) - k0 - gone
    s.setTrk fun r => { r with
      stamps := r.stamps.map fun p => (p.1 + dk, p.2), model := some { m with t0 := m.t0 - dk * m.T } }
  | _, _ => s

/-- Reply to the SEQ_EPOCH command that waits for the epoch's stamp. -/
def State.epochReply (s : State) (stamp : Nat) : State :=
  match s.trk.epochTo with
  | some p => ((s.setTrk fun t => { t with epochTo := none }).answer p.src 0x18 stOk p.tag.toNat 0 [lo32 stamp, hi32 stamp]).retire p.src 0x18 p.tag.toNat
  | none => s

/-- Take boundary `k` as the flight epoch; a phase jump's new fit comes into force with it (R61, R62). -/
def State.setEpoch (s : State) (k : Int) (marker : Bool) : State :=
  let s1 := if s.trk.jumped then
      (s.set SEQ_REF_STATUS_HOLDOVER 0).setTrk fun t => { t with
        stamps := t.back, model := fitModel t.back, back := [], jumped := false, holdStopped := false }
    else s
  ({ s1.set SEQ_REF_STATUS_EPOCH_VALID 1 with link := { s1.link with epochGen := (s1.link.epochGen + 1) % 16 } }).setTrk fun t => { t with
    epoch := k, autoEpoch := false, epochReq := none, markerSeen := false,
    epochOnInt := s.on SEQ_REF_STATUS_ON_INTERNAL,
    markNext := if marker then some (k + s.mper) else none }

/-- FLIGHT_EPOCH_SET (R62): at the first qualifying cycle boundary, or at the first prescaled edge at or after the
qualifying marker, whose stamp is `at_`. The cycle that begins at a marker takes the number that the next stamp will have: its TRACKER_REFIT
comes after this event (log entry 60). -/
def execFlightEpochSet (at_ : BitVec 64) (s : State) : Host.Outcome State Fault Refusal :=
  .next (if s.isWorker || !s.fabRuns then s else
    match s.epochDue with
    | some false =>
      (match s.refModel with
       | some m => (s.setEpoch (roundHalfUp (m.phaseAt 0 (s.instOf at_.toNat))) false).epochReply at_.toNat
       | none => s)
    | some true =>
      if s.trk.markerSeen then
        let s1 := s.realign (s.instOf at_.toNat)
        (s1.setEpoch s1.trk.nextK true).epochReply at_.toNat
      else s
    | none => s)

/-- The instant of the last edge of the external reference: the latest prescaled edge that channel 4 or the tracker has
stamped. -/
def State.lastEdge (s : State) : Rat :=
  let a := ((s.trk.back ++ s.trk.stamps).map (·.2)).head?.getD 0
  match s.tdc.last[4] with | some st => max a (s.instOf st) | none => a
/-- No edge has come for 4 × T / (DIV + 1) (R59), or on a worker no set for 4 × TB_INT (R307). -/
def State.refSilent (s : State) : Bool :=
  if s.isWorker then s.past (s.link.setAt + usCyc (4 * s.get LINK_TIMING_TB_INT))
  else match s.extModel with
    | some m => decide (s.lastEdge + 4 * m.T / ((s.get SEQ_REF_DIV_DIV + 1 : Nat) : Rat) < s.nowNs)
    | none => false
/-- REFERENCE_LOST (R59, R307): the tracker enters holdover. -/
def execReferenceLost (s : State) : Host.Outcome State Fault Refusal :=
  .next (s.onFab <| if s.external && s.on SEQ_REF_STATUS_PRESENT && s.extModel.isSome && s.refSilent then
    let s1 := (s.raise SEQ_REF_FLAGS_REF_LOST 1).set SEQ_REF_STATUS_PRESENT 0
    if s.on SEQ_REF_STATUS_HOLDOVER then s1.setTrk fun t => { t with back := [] }
    else (s1.set SEQ_REF_STATUS_HOLDOVER 1).setTrk fun t => { t with back := [], jumped := false, holdSince := s.cyc, holdStopped := false }
  else s)

/-- HOLDOVER_PHASE_CHECK (R61): once W stamps have been taken after the return, tracking resumes if the new fit lies
within 1/256 cycle of the holdover model, and PHASE_JUMP is set otherwise. -/
def execHoldoverPhaseCheck (s : State) : Host.Outcome State Fault Refusal :=
  .next (s.onFab <| match s.extModel, fitModel s.trk.back, s.trk.back with
    | some old, some new, (k, _) :: _ =>
      if s.on SEQ_REF_STATUS_HOLDOVER && decide (s.trackW ≤ s.trk.back.length) && !s.trk.jumped then
        let e : Rat := ((new.t0 + k * new.T) - (old.t0 + (k - (old.k0 : Rat)) * old.T)) / old.T
        if e ≤ 1 / 256 ∧ -(1 / 256) ≤ e then
          let keep := fun (t : State) (f : Fib) =>
            if s.seqRuns f && !s.on SEQ_REF_STATUS_ON_INTERNAL then t.setSq f fun q => { q with frozen := some old } else t
          let s1 := keep (keep s 0) 1
          ((((s1.set SEQ_REF_STATUS_HOLDOVER 0).setTrk fun t => { t with stamps := t.back, back := [], holdStopped := false }).setExtModel
            (some new)).judgeLock)
        else (s.raise SEQ_REF_FLAGS_PHASE_JUMP 1).setTrk fun t => { t with jumped := true }
      else s
    | _, _, _ => s)

/-! ### Runs: what is launched next (R65, R66, R74, R80) -/

/-- The page the next launch is taken from: a pending page from flight `pendFlight` on (R80). -/
def State.pageFor (s : State) (f : Fib) : Nat :=
  if s.on (SEQ_STATUS_PAGE_PEND f) && decide ((s.sq f).pendFlight ≤ (s.sq f).flight) then 1 - s.page f else s.page f
/-- A flight of index `n` belongs to the run, or to the run a held trigger will start (R75). -/
def State.flightAllowed (s : State) (f : Fib) (n : Nat) : Bool :=
  match (s.sq f).limit with
  | none => true
  | some l => decide (n < l) || (s.on (SEQ_STATUS_TRIG_HELD f) && decide (n < (s.sq f).ended + 1 + l))
/-- The next entry to launch and its exact launch phase (R65). -/
def State.nextEntry (s : State) (f : Fib) : Option (Entry × Rat) :=
  let q := s.sq f
  if s.flightAllowed f q.flight then
    ((s.entries f (s.pageFor f)).find? fun e => decide (q.entry ≤ e.idx)).map fun e =>
      (e, q.base + (e.off : Rat) / 65536 * s.flightCyc f (s.pageFor f))
  else none
/-- A phase rounded once under R47. -/
def round47 (p : Rat) : Rat := ((p * 2 ^ 32 + 1 / 2).floor : Rat) / 2 ^ 32
/-- The next shot boundary: the launch instant of the first launch not yet handed over, or the end of the last flight
(R77). -/
def State.nextBoundary (s : State) (f : Fib) : Rat :=
  match s.nextEntry f with
  | some (_, p) => p
  | none => match (s.sq f).ends.getLast? with | some e => e.1 | none => (s.sq f).base
/-- Show the start of a run that has not begun, or else the next launch, in SEQ_NEXT (R79). -/
def State.showNext (s : State) (f : Fib) : State :=
  s.setSq f fun q => { q with next := phase64 (q.start.getD (s.nextBoundary f)) }

/-- Flights of a run: 1 in SINGLE, SEQ_NFLIGHT in REPEAT, without end in CONTINUOUS. -/
def State.runLimit (s : State) (f : Nat) : Option Nat :=
  match s.get (SEQ_CTRL_MODE f) with | 0 => some 1 | 1 => some (s.get (SEQ_NFLIGHT_N f)) | _ => none
/-- First phase of the form k + SEQ_START_PHASE at or after `p` (R74). -/
def State.gridPhase (s : State) (f : Nat) (p : Rat) : Rat :=
  let sp : Rat := (s.get (SEQ_START_PHASE_FRAC f) : Rat) / 2 ^ 32
  ((p - sp).ceil : Rat) + sp
/-- Plan a run from start phase `p`: it takes a pending page (R80) and the fit current now. -/
def State.planRun (s : State) (f : Fib) (p : Rat) : State :=
  (s.setSq f fun q => { q with
    base := p, flight := 0, entry := 0, limit := s.runLimit f, ends := [], ended := 0, begun := false, start := some p,
    runShot := q.shotNo, pendFlight := 0, frozen := none, planAt := s.nowNs }).showNext f

def State.setPfil (s : State) (f : Fib) (g : PfilRun → PfilRun) : State := { s with pfil := s.pfil.set f (g (s.pfil[f])) }
def State.setEng (s : State) (k : Fin 16) (g : Engine → Engine) : State := { s with eng := s.eng.set k (g (s.eng[k])) }
/-- Request a SYNC at the next tile set (R141). -/
def State.requestSync (s : State) (f : Fib) : State :=
  (s.set (PFIL_STATUS_SYNC_PEND f) 1).setPfil f fun p => { p with syncReq := true }

/-- A pending page switch takes effect (R80); a change of E × DEN / NUM requests SYNC (R141). -/
def State.applyPage (s : State) (f : Fib) : State :=
  if s.on (SEQ_STATUS_PAGE_PEND f) then
    let s1 := (s.set (SEQ_STATUS_PAGE f) (1 - s.page f)).set (SEQ_STATUS_PAGE_PEND f) 0
    if s1.perCycle f (1 - s.page f) != s.perCycle f (s.page f) then s1.requestSync f else s1
  else s

/-- Switch the active page at once, while IDLE or ARMED (R80). -/
def State.switchNow (s : State) (f : Fib) (p : Nat) : State :=
  let s1 := (s.set (SEQ_STATUS_PAGE f) p).set (SEQ_STATUS_PAGE_PEND f) 0
  if s1.perCycle f p != s.perCycle f (s.page f) then s1.requestSync f else s1

/-- A run begins: SEQ_RUN counts it, a pending page takes effect, and SYNC is requested unless the run continues the
previous one exactly (R74, R80, R141). With UNEVEN = 1 or the Rayleigh group disabled no frames are fed to the position
filter (R68, R93). -/
def State.beginRun (s : State) (f : Fib) (contiguous : Bool) : State :=
  let s1 := (((s.set (SEQ_STATUS_STATE f) stRunning).inc (SEQ_RUN_RUN f)).setSq f fun q => { q with begun := true, start := none }).showNext f
  let s2 := if (s1.sq f).pendFlight = 0 then s1.applyPage f else s1
  let fed := !s2.on (SEQ_CTRL_UNEVEN f) && s2.on (RXF_CTRL_RAY_EN f)
  let s3 := if contiguous || !fed then s2 else (s2.set (PFIL_STATUS_SYNC_PEND f) 1).setPfil f fun p => { p with
    syncRun := true, runs := (s2.sq f).runShot :: p.runs }
  (s3.setPfil f fun p => { p with starts := if fed then ((s2.sq f).runShot, s.trackedT false) :: p.starts else p.starts }).setB
    (PFIL_STATUS_RUN f) fed

/-! ### Triggers (R74–R79, R509) -/

def trigStart : Nat := 0
def trigHeld : Nat := 1
def trigAbort : Nat := 2
def trigLost : Nat := 3
def trigIgnored : Nat := 4

/-- Register and classify a trigger; a TIME trigger names its start phase (R74–R78). -/
def State.trigger (s : State) (f : Fib) (time : Option Rat) : Nat × State :=
  let lost := (trigLost, (s.inc (SEQ_TRIG_LOST_COUNT f)).raise (SEQ_FLAGS_TRIG_LOST f) 1)
  match s.seqState f with
  | 1 =>
    let p := match time with | some p => p | none => s.gridPhase f (s.phaseOf f (s.nowNs + 160))
    (trigStart, (s.set (SEQ_STATUS_STATE f) stRunning).planRun f p)
  | 2 =>
    if (s.sq f).abortAt.isSome then lost
    else if s.get (SEQ_CTRL_TRIG_POLICY f) = 0 then
      if s.on (SEQ_STATUS_TRIG_HELD f) then lost else (trigHeld, (s.set (SEQ_STATUS_TRIG_HELD f) 1).setSq f fun q => { q with planAt := s.nowNs })
    else (trigAbort, s.setSq f fun q => { q with abortAt := some (s.nextBoundary f), next := phase64 (s.nextBoundary f) })
  | 3 => lost
  | _ => (trigIgnored, s.inc (SEQ_TRIG_IGNORED_COUNT f))

/-- A software trigger registers only while TRIG_SRC = 0 (R509). -/
def State.softTrigger (s : State) (f : Fib) : Nat × State :=
  if s.get (SEQ_CTRL_TRIG_SRC f) = 0 then s.trigger f none else (trigIgnored, s.inc (SEQ_TRIG_IGNORED_COUNT f))

/-- The TRIG_SRC value of a hardware trigger. -/
def trigSrcCode : TrigSrc → Nat
  | .phmark => 1 | .tstop0 => 2 | .tstop1 => 3 | .link => 5

/-- HARDWARE_TRIGGER (R79): a trigger of the source that TRIG_SRC names. -/
def execHardwareTrigger (f : Fib) (src : TrigSrc) (s : State) : Host.Outcome State Fault Refusal :=
  .next (if s.get (SEQ_CTRL_TRIG_SRC f) = trigSrcCode src ∧ s.fabRuns then (s.trigger f none).2 else s)
/-- TIME_TRIGGER (R74): registered 64 clk_fab cycles before SEQ_TRIG_AT; the run starts exactly there. -/
def execTimeTrigger (f : Fib) (s : State) : Host.Outcome State Fault Refusal :=
  .next (s.onFab <| match (s.sq f).timeTrig with
    | some p => if s.due (s.timeOf f p - 160) then ((s.setSq f fun q => { q with timeTrig := none }).trigger f (some p)).2 else s
    | none => s)
/-- SEQ_TRIG_GO (R509). -/
def execSeqTrigGo (f : Fib) (s : State) : Host.Outcome State Fault Refusal :=
  .next (s.onReg 1 (s.softTrigger f).2)

/-! ### Launches (R69, R71) -/

/-- A launch at instant `t` would break slot reuse or the launch gap (R69). -/
def State.mustSkip (s : State) (f : Fib) (slot : Nat) (t : Rat) : Bool :=
  let reuse : Rat := ((s.pEnd f + 1 : Nat) : Rat) * 5
  (match (s.sq f).slotLast.find? (·.1 == slot) with | some (_, t0, len) => decide (t - t0 < reuse + len) | none => false)
  || (match (s.sq f).lastLaunch with | some (t0, len) => decide (t - t0 < len + 40) | none => false)

/-- Step past an entry whose launch has been handed over or skipped; past the last entry the next flight is taken. -/
def State.stepEntry (s : State) (f : Fib) (e : Entry) : State :=
  let q := s.sq f
  let p := s.pageFor f
  if (s.entries f p).any fun x => decide (e.idx < x.idx) then s.setSq f fun q => { q with entry := e.idx + 1 }
  else
    let end_ := q.base + s.flightCyc f p
    s.setSq f fun q => { q with base := end_, flight := q.flight + 1, entry := 0, ends := q.ends ++ [(end_, q.shotNo)] }

/-- The launch instant on the 1/64 ns grid, nearest (R71). -/
def launchGrid (t : Rat) : Rat := (roundHalfUp (t * 64) : Rat) / 64
/-- SEQ_LMON_OFS in ns (R72). -/
def State.lmonOfs (s : State) (f : Nat) : Rat := (s.getI (SEQ_LMON_OFS_OFS f) : Rat) / 64

/-- LAUNCH_HANDOVER (R71, R69): between 128 and 64 clk_fab cycles before a launch its phase is turned into an instant and
handed over, or the shot is skipped. A launch that lies less than 64 cycles after the run was decided is handed over in what
time is left (log entry 61). -/
def execLaunchHandover (f : Fib) (s : State) : Host.Outcome State Fault Refusal :=
  .next (match s.nextEntry f with
    | some (e, p) =>
      let ph := round47 p
      let t := launchGrid (s.timeOf f ph)
      if s.seqRuns f && s.fabRuns && (s.sq f).abortAt.isNone && (decide (s.nowNs + 160 ≤ t) || (decide (s.nowNs ≤ t) && decide (t < (s.sq f).planAt + 160))) && decide (t ≤ s.nowNs + 320)
         && (s.seqState f == 2 || (s.sq f).start.isSome) then
        let q := s.sq f
        let len := s.codeNs f e.code
        let skip := s.mustSkip f e.slot t
        let at_ := t + s.lmonOfs f
        let info : ShotInfo := ⟨q.shotNo, e.slot, s.phaseOf f at_, true, s.inHoldover, skip⟩
        let s1 := s.setSq f fun q => { q with shotNo := q.shotNo + 1, info := info :: q.info }
        let s2 := if skip then (s1.inc (SEQ_SHOT_SKIPPED_COUNT f)).raise (SEQ_FLAGS_SHOT_SKIP f) 1
          else (s1.setLw f fun w => { w with coming := w.coming ++ [⟨q.shotNo, e.slot, info.phase, true, s.inHoldover, at_⟩] }).setSq f fun q => { q with
            handed := q.handed ++ [⟨e.slot, e.code, ph, t, len, q.shotNo - 1⟩]
            slotLast := (e.slot, t, len) :: q.slotLast.filter (·.1 != e.slot)
            lastLaunch := some (t, len)
            wins := if s.on (SEQ_CTRL_LMON_EN f) then q.wins ++ [⟨q.shotNo - 1, at_, false⟩] else q.wins }
        (s2.stepEntry f e).showNext f
      else s
    | none => s)

/-- Change what loss watch and the trace capture hold of a shot: the shot to come or the current one, and a record that is
being gathered or waits to be written (R214, R228). -/
def State.upShot (s : State) (f : Fib) (shot : Nat) (g : EnvShot → EnvShot) : State :=
  let up := fun (x : EnvShot) => if x.shot = shot then g x else x
  let s1 := s.setLw f fun w => if w.coming.any (·.shot == shot) then { w with coming := w.coming.map up } else { w with cur := w.cur.map up }
  if s.get LW_CAP_CTRL_FIBRE = f.val then
    { s1 with cap := { s1.cap with
        cur := s1.cap.cur.map fun r => { r with sh := up r.sh }, ready := s1.cap.ready.map fun r => { r with sh := up r.sh } } }
  else s1
/-- Give a shot the launch instant of R50. -/
def State.settleShot (s : State) (f : Fib) (shot : Nat) (t : Rat) (sched : Bool) : State :=
  ({ (s.setSq f fun q => { q with
      launches := (t :: q.launches).take 16
      info := q.info.map fun (i : ShotInfo) => if i.shot = shot then { i with phase := s.phaseOf f t, sched := sched } else i }) with
    prism := s.prism.set f { s.prism[f] with
      caps := (s.prism[f]).caps.map fun (c : Capture) => if c.shot = shot then { c with phase := s.phaseOf f t, sched := sched } else c } }).upShot f shot
    fun x => { x with phase := s.phaseOf f t, sched := sched }

/-- One LMON edge in one open window (R72): the first is the launch instant of its shot, a further one counts as extra. -/
def State.lmonIn (s : State) (f : Fib) (t : Rat) (w : LmonWin) : State :=
  if w.taken then (s.inc (SEQ_LMON_EXTRA_COUNT f)).raise (SEQ_FLAGS_LMON_EXTRA f) 1
  else (s.setSq f fun q => { q with wins := q.wins.map fun v => if v.shot = w.shot then { v with taken := true } else v }).settleShot f w.shot t false
/-- LMON_EDGE (R72): the edge is taken in every open window that it lies in (log entry 60). -/
def execLmonEdge (f : Fib) (stamp : BitVec 64) (s : State) : Host.Outcome State Fault Refusal :=
  let t := s.instOf stamp.toNat
  let win : Rat := (s.get (SEQ_LMON_WIN_WIN f) : Rat)
  .next (s.onFab <| ((s.sq f).wins.filter fun w => decide (w.centre - win ≤ t) && decide (t ≤ w.centre + win)).foldl (fun u w => u.lmonIn f t w) s)

/-- LMON_WINDOW_CLOSE (R72): the oldest window ends; without an edge the scheduled instant stands, plus SEQ_LMON_OFS as without LMON (R50, R72; log entry 60), and the miss counts. -/
def execLmonWindowClose (f : Fib) (s : State) : Host.Outcome State Fault Refusal :=
  .next (s.onFab <| match (s.sq f).wins with
    | w :: ws =>
      if w.centre + (s.get (SEQ_LMON_WIN_WIN f) : Rat) < s.nowNs then
        let s1 := s.setSq f fun q => { q with wins := ws }
        if w.taken then s1
        else ((s1.inc (SEQ_LMON_MISS_COUNT f)).raise (SEQ_FLAGS_LMON_MISS f) 1).settleShot f w.shot w.centre true
      else s
    | [] => s)

/-! ### Stops and boundaries (R75–R80) -/

/-- The first sample instant (ns) from now on. -/
def State.nextInstant (s : State) : Int := s.nowNs.ceil
/-- The codes of stair entry `e` take effect at sample instant `n`: a gain step where a code changes (R95, R97). -/
def State.gainTo (s : State) (f : Fib) (e : Nat) (n : Int) : State :=
  let rg := s.get (RXF_STAIRe_RG f e)
  let bg := s.get (RXF_STAIRe_BG f e)
  let r := s.rxf[f]
  if r.rg = rg ∧ r.bg = bg then s else
    { (s.inc (RXF_STEP_COUNT_COUNT f)) with
      rxf := s.rxf.set f { r with
        rg := rg, bg := bg
        steps := ⟨n, r.rg, r.bg, r.rg != rg, r.bg != bg⟩ :: r.steps.filter fun g => decide (n < g.at_ + 32) } }
/-- While STAIR_EN = 0 or the sequencer is IDLE the codes of entry 0 apply (R95). -/
def State.syncStair (s : State) (f : Fib) : State :=
  if s.on (RXF_CTRL_STAIR_EN f) && s.seqState f != 0 then s else s.gainTo f 0 s.nextInstant

/-- A mask learn in progress ends with the mask as it was (R221). -/
def State.abortLearn (s : State) (f : Fib) : State := (s.set (LW_FSTAT_LEARNING f) 0).setLw f fun w => { w with learn := none }
/-- The sequencer becomes IDLE: a pending page switch takes effect (R80), the trigger channel is released (R509), the
codes of stair entry 0 apply (R95), a mask learn and a calibration run are aborted (R221, R440), and a fallback may end
(R60). -/
def State.toIdle (s : State) (f : Fib) : State :=
  let s1 := (s.applyPage f).setSq f fun q => { q with
    begun := false, start := none, abortAt := none, stopAt := none, timeTrig := none, ends := [], frozen := none, kept := none }
  let s2 := ((s1.set (SEQ_STATUS_STATE f) stIdle).set (SEQ_STATUS_TRIG_HELD f) 0).set (PFIL_STATUS_RUN f) 0
  let s3 := (s2.tdcRelease 0 (ownerOf 1 f.val)).tdcRelease 1 (ownerOf 1 f.val)
  ((((s3.syncStair f).abortLearn f).calAbort f)).endFallback

/-- A launch of the run planned has been handed over. -/
def SeqRun.committed (q : SeqRun) : Bool := q.flight != 0 || q.entry != 0

/-- Discards a stop makes: a held trigger and a pending run, each counted in SEQ_TRIG_IGNORED (R79). -/
def State.stopDiscards (s : State) (f : Fib) : State :=
  let q := s.sq f
  let n := (s.on (SEQ_STATUS_TRIG_HELD f)).toNat + (q.abortAt.isSome || (!q.begun && !q.committed)).toNat
  (s.incBy (SEQ_TRIG_IGNORED_COUNT f) n).set (SEQ_STATUS_TRIG_HELD f) 0

/-- Stop a sequencer (R79): at once from ARMED and from DRAINING before a hand-over, otherwise at the next shot boundary. -/
def State.stopSeq (s : State) (f : Fib) : State :=
  match s.seqState f with
  | 1 => s.toIdle f
  | 2 => ((((s.stopDiscards f).set (SEQ_STATUS_STATE f) stStopping).calAbort f).abortLearn f).setSq f fun q => { q with
      stopAt := some (q.abortAt.getD (s.nextBoundary f)), abortAt := none }
  | 3 =>
    if (s.sq f).committed then
      ((((s.stopDiscards f).set (SEQ_STATUS_STATE f) stStopping).calAbort f).abortLearn f).setSq f fun q => { q with
        stopAt := some (s.nextBoundary f), abortAt := none }
    else (s.stopDiscards f).toIdle f
  | _ => s

/-- STOP_AT_BOUNDARY (R79): the shot boundary of a stop makes the sequencer IDLE. -/
def execStopAtBoundary (f : Fib) (s : State) : Host.Outcome State Fault Refusal :=
  .next (s.onFab <| match (s.sq f).stopAt with
    | some p => if s.seqState f = 4 ∧ s.due (s.timeOf f p) then s.toIdle f else s
    | none => s)

/-- HOLDOVER_LIMIT_STOP (R59): holdover has lasted longer than HOLD_MAX ms, and every sequencer that is ARMED, RUNNING or
DRAINING stops. -/
def execHoldoverLimitStop (s : State) : Host.Outcome State Fault Refusal :=
  let stop := fun (t : State) (f : Fib) =>
    if decide (1 ≤ t.seqState f) && decide (t.seqState f ≤ 3) then (t.raise (SEQ_FLAGS_STOP_REF f) 1).stopSeq f else t
  .next (s.onFab <| if s.on SEQ_REF_STATUS_HOLDOVER && s.on SEQ_TRACK_HOLD_MAX && !s.trk.holdStopped
      && decide (s.trk.holdSince + msCyc (s.get SEQ_TRACK_HOLD_MAX) < s.cyc) then
    (stop (stop s 0) 1).setTrk fun t => { t with holdStopped := true } else s)

/-- RUN_START (R74): at the start phase of a run triggered from ARMED, the run begins. -/
def execRunStart (f : Fib) (s : State) : Host.Outcome State Fault Refusal :=
  .next (s.onFab <| match (s.sq f).start with
    | some p => if s.seqState f = 2 ∧ s.due (s.timeOf f p) then s.beginRun f false else s
    | none => s)

/-- RUN_ABORT (R76): at the abort boundary the sequencer enters DRAINING, and the new run is planned at the first phase of
the form k + SEQ_START_PHASE at least T_d after the last launched shot. -/
def execRunAbort (f : Fib) (s : State) : Host.Outcome State Fault Refusal :=
  .next (s.onFab <| match (s.sq f).abortAt with
    | some p =>
      if s.seqState f = 2 ∧ s.due (s.timeOf f p) then
        let longest := ((s.entries f (s.pageFor f)).map fun e => s.codeNs f e.code).foldl max 0
        let td : Rat := ((s.pEnd f + 1 : Nat) : Rat) * 5 + longest
        let t := match (s.sq f).lastLaunch with | some (t0, _) => max s.nowNs (t0 + td) | none => s.nowNs
        ((s.set (SEQ_STATUS_STATE f) stDraining).setSq f fun q => { q with abortAt := none }).planRun f (s.gridPhase f (s.phaseOf f t))
      else s
    | none => s)

/-- DRAIN_COMPLETE (R76): the pending run starts, and the sequencer becomes RUNNING. -/
def execDrainComplete (f : Fib) (s : State) : Host.Outcome State Fault Refusal :=
  .next (s.onFab <| match (s.sq f).start with
    | some p => if s.seqState f = 3 ∧ s.due (s.timeOf f p) then s.beginRun f false else s
    | none => s)

/-- FLIGHT_END (R75, R80): a flight ends; a held trigger starts a new run exactly there, the run goes on, or it ends and the
sequencer returns to ARMED. A pending abort or stop decides at its own boundary. -/
def execFlightEnd (f : Fib) (s : State) : Host.Outcome State Fault Refusal :=
  .next (s.onFab <| match (s.sq f).ends with
    | (p, shot) :: rest =>
      if s.due (s.timeOf f p) then
        let s1 := s.setSq f fun q => { q with ends := rest, ended := q.ended + 1, frozen := none }
        if s.seqState f != 2 || (s.sq f).abortAt.isSome then s1
        else
          let n := (s1.sq f).ended
          let s2 := if decide ((s1.sq f).pendFlight ≤ n) then s1.applyPage f else s1
          if s2.on (SEQ_STATUS_TRIG_HELD f) then
            ((s2.set (SEQ_STATUS_TRIG_HELD f) 0).setSq f fun q => { q with
              flight := q.flight - n, ended := 0, limit := s2.runLimit f, runShot := shot, pendFlight := q.pendFlight - n }).beginRun f true
          else if s2.flightAllowed f n then s2
          else ((s2.set (SEQ_STATUS_STATE f) stArmed).set (PFIL_STATUS_RUN f) 0).setSq f fun q => { q with begun := false }
      else s
    | [] => s)

/-- PAGE_SWITCH_APPLY (R80): a pending switch takes effect while the sequencer is IDLE or ARMED, or at a flight boundary no
launch beyond which was handed over when it was requested. -/
def execPageSwitchApply (f : Fib) (s : State) : Host.Outcome State Fault Refusal :=
  .next (s.onFab <| if decide (s.seqState f ≤ 1) || ((s.sq f).begun && decide ((s.sq f).pendFlight ≤ (s.sq f).ended)) then s.applyPage f else s)

/-! ### Markers (R64) -/

/-- MARKER_EDGE (R62, R64): a PHMARK edge makes a requested or automatic epoch due, and is otherwise assigned to the
expected boundary nearest to it. -/
def execMarkerEdge (stamp : BitVec 64) (s : State) : Host.Outcome State Fault Refusal :=
  .next (if !s.marksOn || !s.fabRuns then s
    else if s.epochDue = some true then s.setTrk fun t => { t with markerSeen := true }
    else match s.trk.markNext, s.trk.model with
      | some b, some m =>
        let ph := m.phaseAt 0 (s.instOf stamp.toNat)
        let per : Rat := (s.mper : Rat)
        let c : Int := s.trk.epoch + roundHalfUp ((ph - (s.trk.epoch : Rat)) / per) * s.mper
        let dev := ph - (c : Rat)
        let half : Rat := 1 / (2 * ((s.get SEQ_REF_DIV_DIV + 1 : Nat) : Rat))
        let missed := if b < c then ((c - b) / (s.mper : Int)).toNat else 0
        let wrong := if c < b then 1 else if half < dev ∨ dev < -half then 1 else 0
        (s.markErr (missed + wrong)).setTrk fun t => { t with markNext := some (max b (c + s.mper)) }
      | _, _ => s)

/-! ### Opcodes (R84) -/

/-- The fibre that P0[0] names. -/
def fibP (ps : List Nat) : Fib := if bit (par ps 0) 0 then 1 else 0
/-- The page that P0[1] names. -/
def pageP (ps : List Nat) : Nat := fld (par ps 0) 1 1
/-- A page is active or pending while RUNNING or DRAINING (R80). -/
def State.pageInUse (s : State) (f p : Nat) : Bool :=
  s.seqRuns f && (p == s.page f || s.on (SEQ_STATUS_PAGE_PEND f))

def seqConfig (s : State) (ps : List Nat) : CmdRes :=
  let f := fibP ps
  if s.seqState f ≠ 0 then .denied
  else if 1 ≤ par ps 1 ∧ par ps 1 ≤ 50000 ∧ 14000 ≤ par ps 2 ∧ par ps 2 ≤ 15500 ∧ par ps 3 ≤ 4095 ∧ par ps 4 ≤ 128000 then
    .ok ((((s.set (SEQ_LEN_LEN f) (par ps 1)).set (SEQ_NG_NG f) (par ps 2)).set (SEQ_GUARD_GUARD f) (par ps 3)).set (SEQ_CONN_DLY_DLY f) (par ps 4))
  else .bad
/-- SEQ_CONFIG (R84). -/
def execSeqConfig (c : CmdIn) (s : State) : Host.Outcome State Fault Refusal :=
  .next (runCmd 0x10 1 (fun _ => [1, full, full, full, full]) seqConfig c s)

/-- Store SEQ_REF_CTRL from a word whose conditions hold, with channel 3 acquired or released for PHMARK (R63). -/
def State.writeRefCtrl (s : State) (v : Nat) : State :=
  let s1 := ((((s.set SEQ_REF_CTRL_SRC (fld v 0 1)).set SEQ_REF_CTRL_FALLBACK (fld v 1 1)).set SEQ_REF_CTRL_MARK_EN (fld v 2 1)).set
    SEQ_REF_CTRL_MARK_POL (fld v 3 1)).set SEQ_REF_CTRL_PRESC (fld v 8 8)
  if bit v 2 then s1.tdcAcquire 3 (ownerOf 9 3) else s1.tdcRelease 3 (ownerOf 9 3)

def seqRef (s : State) (ps : List Nat) : CmdRes :=
  let v := par ps 0
  if !s.allIdle then .denied
  else if bit v 2 && !s.tdcFree 3 (ownerOf 9 3) then .busyWith (s.tdcOwner 3)
  else if bit v 2 && !bit v 0 then .bad
  else if par ps 1 ≤ 0xFFFF ∧ 4000 ≤ par ps 2 ∧ 2 ≤ fld (par ps 3) 0 4 ∧ fld (par ps 3) 0 4 ≤ 12 ∧ 1 ≤ par ps 5 ∧ par ps 5 ≤ 0xFFFF then
    .ok ((((((((s.writeRefCtrl v).set SEQ_REF_DIV_DIV (par ps 1)).set SEQ_INT_DIV_INT_DIV (par ps 2)).set SEQ_TRACK_WIN_LOG2 (fld (par ps 3) 0 4)).set
      SEQ_TRACK_HOLD_MAX (fld (par ps 3) 16 16)).set SEQ_RESID_LIM_LIM (par ps 4)).putMper (par ps 5)).refChanged s)
  else .bad
/-- SEQ_REF (R84). -/
def execSeqRef (c : CmdIn) (s : State) : Host.Outcome State Fault Refusal :=
  .next (runCmd 0x11 1 (fun _ => [0xFF0F, full, full, 0xFFFF000F, full, full]) seqRef c s)

/-- Store a flight table entry (R83). -/
def State.writeEntry (s : State) (f p e v : Nat) : State :=
  (((s.set (SEQ_FT_OFFSET f p e) (fld v 0 16)).set (SEQ_FT_SLOT f p e) (fld v 16 3)).set (SEQ_FT_CODE f p e) (fld v 20 4)).set (SEQ_FT_EN f p e) (fld v 31 1)

def seqFlightWrite (s : State) (ps : List Nat) : CmdRes :=
  let f := fibP ps
  let p := pageP ps
  if s.pageInUse f p then .denied
  else if par ps 1 ≤ 63 ∧ par ps 1 + par ps 2 ≤ 64 then
    .ok ((List.range (par ps 2)).foldl (fun t i => t.writeEntry f p (par ps 1 + i) (par ps (3 + i))) s)
  else .bad
/-- SEQ_FLIGHT_WRITE (R84). -/
def execSeqFlightWrite (c : CmdIn) (s : State) : Host.Outcome State Fault Refusal :=
  .next (runCmd 0x12 1 (fun ps => [3, full, full] ++ List.replicate (min (par ps 2) 500) 0x80F7FFFF) seqFlightWrite c s)

def seqPeriod (s : State) (ps : List Nat) : CmdRes :=
  let f := fibP ps
  if s.pageInUse f (pageP ps) then .denied
  else if 1 ≤ par ps 1 ∧ par ps 1 ≤ 65535 ∧ 1 ≤ par ps 2 ∧ par ps 2 ≤ 1024 then
    .ok (if pageP ps = 0 then (s.set (SEQ_PERIOD0_NUM f) (par ps 1)).set (SEQ_PERIOD0_DEN_M1 f) (par ps 2 - 1)
      else (s.set (SEQ_PERIOD1_NUM f) (par ps 1)).set (SEQ_PERIOD1_DEN_M1 f) (par ps 2 - 1))
  else .bad
/-- SEQ_PERIOD (R84). -/
def execSeqPeriod (c : CmdIn) (s : State) : Host.Outcome State Fault Refusal :=
  .next (runCmd 0x13 1 (fun _ => [3, full, full]) seqPeriod c s)

/-- The checks that a schedule on page `p` shares between SEQ_ARM and SEQ_PAGE_SWITCH: R138 (BAD_PARAM), R145, R200 and
R373 (BUDGET); none where all pass. -/
def State.scheduleRefusal (s : State) (f p : Nat) (uneven : Bool) (t : Rat) : Option Nat :=
  if !uneven && !s.filterOk f p t then some stBadParam
  else if !uneven && decide ((filterCap : Rat) < s.filterLoad f (s.fEff f p t)) then some stBudget
  else if s.on (BRIL_CTRL_EN f) && !s.rt3Ok f p t then some stBudget
  else if !s.rtOk f ⟨p, uneven, s.on (BRIL_CTRL_EN f)⟩ t then some stBudget
  else none
/-- Record the loads that an accepting check computed (R145, R200, R373). -/
def State.recordLoads (s : State) (f p : Nat) (uneven : Bool) (t : Rat) : State :=
  let s1 := s.setLoad f (if uneven then 0 else s.filterLoad f (s.fEff f p t))
  let s2 := if s1.on (BRIL_CTRL_EN f) then s1.setBrilLoad f p t else s1
  s2.setRtLoad f ⟨p, uneven, s.on (BRIL_CTRL_EN f)⟩ t

/-- Hold a page switch until the first flight boundary beyond which no launch has been handed over (R80). -/
def State.holdSwitch (s : State) (f : Fib) : State :=
  (s.set (SEQ_STATUS_PAGE_PEND f) 1).setSq f fun q => { q with
    pendFlight := if q.entry = 0 ∧ (q.ended < q.flight ∨ !q.begun) then q.flight else q.flight + 1 }

def seqPageSwitch (s : State) (ps : List Nat) : CmdRes :=
  let f := fibP ps
  let p := pageP ps
  let t := s.trackedT false
  let un := s.on (SEQ_CTRL_UNEVEN f)
  let pend := s.on (SEQ_STATUS_PAGE_PEND f)
  if p = s.page f then
    if pend then .ok (s.set (SEQ_STATUS_PAGE_PEND f) 0) else .already s
  else if pend then .already s
  else if !s.pageOk f p t un then .bad
  else match s.scheduleRefusal f p un t with
    | some st => .refuse st 0
    | none =>
      let s1 := s.recordLoads f p un t
      if s.seqState f ≤ 1 then .ok (s1.switchNow f p)
      else .done stPending [] (s1.holdSwitch f)
/-- SEQ_PAGE_SWITCH (R80, R84); STOPPING answers as RUNNING does (log entry 60). -/
def execSeqPageSwitch (c : CmdIn) (s : State) : Host.Outcome State Fault Refusal :=
  .next (runCmd 0x14 1 (fun _ => [3]) seqPageSwitch c s)

/-- An enabled converter group is not ready (R93). -/
def State.groupsWait (s : State) (f : Nat) : Bool :=
  (s.on (RXF_CTRL_RAY_EN f) && !s.on (rayRdyF f)) || (s.on (RXF_CTRL_BRI_EN f) && !s.on (briRdyF f))

/-- Why SEQ_ARM is refused, in the order of its table and of the chapters: status and owner (R84 and the rules it names). -/
def State.armRefusal (s : State) (f : Fib) (ps : List Nat) (fall : Bool) : Option (Nat × Nat) :=
  let ctrl := par ps 1
  let src := fld ctrl 3 3
  let un := bit ctrl 7
  let t := s.trackedT fall
  let at_ := par ps 4 + par ps 5 * 2 ^ 32
  if s.external && !s.on SEQ_REF_STATUS_LOCKED && !fall && !s.on SEQ_REF_STATUS_ON_INTERNAL then some (stNotReady, 0)
  else if src == 4 && !s.on SEQ_REF_STATUS_EPOCH_VALID then some (stNotReady, 0)
  else if s.groupsWait f || !s.on (galValidF f) then some (stNotReady, 0)
  else if !s.rangeOk f || !s.spansOk f then some (stBadParam, 0)
  else if !s.pageOk f (s.page f) t un then some (stBadParam, 0)
  else if src == 4 && decide (phaseDiff at_ (phase64 (s.phaseOf f (s.nowNs + 160))) < 0) then some (stBadParam, 0)
  else if fld ctrl 0 2 == 3 || decide (6 ≤ src) || par ps 2 == 0 then some (stBadParam, 0)
  else if !s.on (RXF_CTRL_RAY_EN f) && !s.on (RXF_CTRL_BRI_EN f) then some (stBadParam, 0)
  else if s.on (RXF_CTRL_STAIR_EN f) && !s.stairsOk f then some (stBadParam, 0)
  else if !s.accOk f t then some (stBadParam, 0)
  else match s.scheduleRefusal f (s.page f) un t with
    | some st => some (st, 0)
    | none =>
      if s.on (RXF_PTEST_EN f) then some (stResourceBusy, ownerOf 2 f.val)
      else match trigChan src with
        | some n => if s.tdcFree n (ownerOf 1 f.val) then none else some (stResourceBusy, s.tdcOwner n)
        | none => none

/-- The exact phase nearest the present that a 64-bit coordinate names (R48). -/
def State.phaseNear (s : State) (f : Fib) (v : Nat) : Rat :=
  let now := s.phaseOf f s.nowNs
  let d := phaseDiff v (phase64 now)
  ((now * 2 ^ 32 + 1 / 2).floor + d : Int) / 2 ^ 32

/-- Arm a sequencer whose checks have passed: shot numbers begin anew (R124), so nothing of earlier shots stays that a number
would name. -/
def State.armSeq (s : State) (f : Fib) (ps : List Nat) (fall : Bool) : State :=
  let ctrl := par ps 1
  let src := fld ctrl 3 3
  let s1 := (((((s.set (SEQ_CTRL_MODE f) (fld ctrl 0 2)).set (SEQ_CTRL_TRIG_POLICY f) (fld ctrl 2 1)).set (SEQ_CTRL_TRIG_SRC f) src).set
    (SEQ_CTRL_LMON_EN f) (fld ctrl 6 1)).set (SEQ_CTRL_UNEVEN f) (fld ctrl 7 1)).set (SEQ_NFLIGHT_N f) (par ps 2)
  let s2 := ((s1.set (SEQ_START_PHASE_FRAC f) (par ps 3)).set (SEQ_TRIG_AT_LO_FRAC f) (par ps 4)).set (SEQ_TRIG_AT_HI_CYCLES f) (par ps 5)
  let s3 := match trigChan src with | some n => s2.tdcAcquire n (ownerOf 1 f.val) | none => s2
  let s4 := if fall then s3.startFallback else s3
  let s5 := (((s4.applyAutoSpan f).recordLoads f (s.page f) (bit ctrl 7) (s.trackedT fall)).set (SEQ_STATUS_STATE f) stArmed).setSq f fun q => { q with
    shotNo := 0, info := [], handed := [], wins := [], kept := none
    timeTrig := if src = 4 then some (s.phaseNear f (par ps 4 + par ps 5 * 2 ^ 32)) else none }
  let s6 := { s5 with
    rxf := s5.rxf.set f { s5.rxf[f] with shots := [] }
    prism := s5.prism.set f { s5.prism[f] with resp := [] } }
  (s.fedBy f).foldl (fun t k =>
      let u := t.setEng (Fin.ofNat 16 k) fun e => { e with closedShot := none, kern := e.kern.map fun x => { x with shots := [] } }
      { u with land := u.land.set (Fin.ofNat 16 k) { u.land[Fin.ofNat 16 k] with progress := [] } })
    (s6.setPfil f fun p => { p with runs := [], starts := [], run := none, rowBase := 0, closed := 0, brick := 0, marks := [], owed := [] })

def seqArm (s : State) (ps : List Nat) : CmdRes :=
  let f := fibP ps
  let fall := s.fallsBack
  match s.armRefusal f ps fall with
  | some (st, o) => .refuse st o
  | none =>
    if s.seqState f ≠ 0 then .done stAlready [s.get (SEQ_START_PHASE_FRAC f)] s
    else .done stOk [par ps 3] (s.armSeq f ps fall)
/-- SEQ_ARM (R84): ALREADY, the last refusal of its table, answers in every state but IDLE, STOPPING among them (log entry
60). -/
def execSeqArm (c : CmdIn) (s : State) : Host.Outcome State Fault Refusal :=
  .next (runCmd 0x15 1 (fun _ => [1, 0xFF, full, full, full, full]) seqArm c s)

def seqTrigger (s : State) (ps : List Nat) : CmdRes :=
  let r := s.softTrigger (fibP ps)
  .done stOk [Config.trigClass r.1] r.2
/-- SEQ_TRIGGER (R84, R509). -/
def execSeqTrigger (c : CmdIn) (s : State) : Host.Outcome State Fault Refusal :=
  .next (runCmd 0x16 1 (fun _ => [1]) seqTrigger c s)

def seqStop (s : State) (ps : List Nat) : CmdRes :=
  if s.seqState (fibP ps) = 0 then .already s else .ok (s.stopSeq (fibP ps))
/-- SEQ_STOP (R79, R84). -/
def execSeqStop (c : CmdIn) (s : State) : Host.Outcome State Fault Refusal :=
  .next (runCmd 0x17 1 (fun _ => [1]) seqStop c s)

/-- SEQ_EPOCH's refusal: DENIED while a sequencer runs and on a worker, BAD_PARAM for a marker without MARK_EN (R62, R84). -/
def seqEpochRefusal (s : State) (ps : List Nat) : Option Nat :=
  if !s.noneRuns || s.isWorker then some stDenied
  else if bit (par ps 0) 0 && !s.on SEQ_REF_CTRL_MARK_EN then some stBadParam
  else none
def seqEpoch (s : State) (ps : List Nat) : CmdRes :=
  match seqEpochRefusal s ps with
  | some st => .refuse st 0
  | none => .ok s
/-- SEQ_EPOCH (R62, R84): the command stays in execution until the epoch is set, whose stamp it replies. -/
def execSeqEpoch (c : CmdIn) (s : State) : Host.Outcome State Fault Refusal :=
  let ps := c.ps.map (·.toNat)
  .next (if (s.judge 0x18 1 (fun _ => [1]) seqEpoch c).status = stOk then
    let p : CmdPkt := ⟨c.src, 0x18, c.tag, c.ps⟩
    { (s.setTrk fun t => { t with epochReq := some (bit (par ps 0) 0), epochTo := some p, markerSeen := false }) with
      cmd := { s.cmd with exec := some p } }
  else runCmd 0x18 1 (fun _ => [1]) seqEpoch c s)

/-- The 56-bit tracked period in units of 2^-24 ns (R81). -/
def State.periodBits (s : State) : Nat :=
  match s.refModel with | some m => (roundHalfUp (m.T * 2 ^ 24)).toNat % 2 ^ 56 | none => 0
def seqGetStatus (s : State) (ps : List Nat) : CmdRes :=
  let f := fibP ps
  .data s [s.rawReg 1 (0x1004 + 0x1000 * f.val), s.rawReg 1 0x14, lo32 s.periodBits, hi32 s.periodBits, lo32 (s.sq f).next, hi32 (s.sq f).next,
    s.get (SEQ_TRIG_LOST_COUNT f), s.get (SEQ_TRIG_IGNORED_COUNT f), s.get (SEQ_SHOT_SKIPPED_COUNT f), s.get (SEQ_LMON_MISS_COUNT f), s.get (SEQ_LMON_EXTRA_COUNT f)]
/-- SEQ_GET_STATUS (R84). -/
def execSeqGetStatus (c : CmdIn) (s : State) : Host.Outcome State Fault Refusal :=
  .next (runCmd 0x19 1 (fun _ => [1]) seqGetStatus c s)

def seqLmon (s : State) (ps : List Nat) : CmdRes :=
  let f := fibP ps
  if 1 < s.seqState f then .denied
  else if 1 ≤ par ps 3 ∧ par ps 3 ≤ 1000 then
    .ok (((s.set (SEQ_CTRL_LMON_EN f) (par ps 1)).set (SEQ_LMON_OFS_OFS f) (par ps 2)).set (SEQ_LMON_WIN_WIN f) (par ps 3))
  else .bad
/-- SEQ_LMON (R84). -/
def execSeqLmon (c : CmdIn) (s : State) : Host.Outcome State Fault Refusal :=
  .next (runCmd 0x1A 1 (fun _ => [1, 1, full, full]) seqLmon c s)

end Sys2Proof.Machine
end

