-- ==== Sys2Proof/Machine/Signal.lean ====
section
/-! DEFINITION. From the probe code to a response: the waveform of the synthesizer (R85, R86), the correction of a sample
(R98, R433, R434), the gain codes of a sample instant (R95, R97), the channeliser and the matched filter (R105–R111), and
phase and magnitude (R112). Angles are in turns. -/

namespace Sys2Proof.Machine
open Reg

def State.setRxf (s : State) (f : Fib) (g : RxfRun → RxfRun) : State := { s with rxf := s.rxf.set f (g (s.rxf[f])) }

/-! ### Cosine and sine of an angle in turns (log entry 58) -/

/-- A quarter turn in radians, in units of 2^-120. -/
def quarterTurn : Nat := 2087946453251888179413438228831778873
/-- Terms `k`, `k + 2`, … of the series of cos or sin, from the term `t`; `x2` is the squared angle, all in 2^-120. -/
def trigSeries (x2 : Int) : Nat → Nat → Int → Int
  | 0, _, _ => 0
  | n + 1, k, t => t + trigSeries x2 n (k + 2) (-(t * x2 / (2 ^ 120 : Nat)) / (((k + 1) * (k + 2) : Nat) : Int))
/-- Cosine and sine of an angle, in 2^-120. -/
def cosSin (q : Rat) : Int × Int :=
  let r := (q - q.floor) * 4
  let x : Int := ((r - r.floor) * quarterTurn).floor
  let x2 := x * x / (2 ^ 120 : Nat)
  let c := trigSeries x2 24 0 (2 ^ 120 : Nat)
  let s := trigSeries x2 24 1 x
  match r.floor.toNat with
  | 0 => (c, s)
  | 1 => (-s, c)
  | 2 => (-c, -s)
  | _ => (s, -c)
def cosTurn (q : Rat) : Rat := ((cosSin q).1 : Rat) / (2 ^ 120 : Nat)
def sinTurn (q : Rat) : Rat := ((cosSin q).2 : Rat) / (2 ^ 120 : Nat)

/-! ### Complex numbers as pairs -/

def cadd (a b : Rat × Rat) : Rat × Rat := (a.1 + b.1, a.2 + b.2)
def cmul (a b : Rat × Rat) : Rat × Rat := (a.1 * b.1 - a.2 * b.2, a.1 * b.2 + a.2 * b.1)
def cscale (k : Rat) (a : Rat × Rat) : Rat × Rat := (k * a.1, k * a.2)
def conj (a : Rat × Rat) : Rat × Rat := (a.1, -a.2)
/-- The unit phasor of an angle in turns. -/
def phasor (q : Rat) : Rat × Rat := (cosTurn q, sinTurn q)
/-- The sum of `g 0 … g (n - 1)`. -/
def csum (n : Nat) (g : Nat → Rat × Rat) : Rat × Rat := (List.range n).foldl (fun a i => cadd a (g i)) (0, 0)

/-! ### The probe waveform (R85, R86) -/

/-- Centre frequency of a slot in units of 62.5 MHz: slot s lies at (s − 3.5) × 125 MHz (R85). -/
def slotCentre (slot : Nat) : Int := 2 * (slot : Int) - 7
/-- The 32-bit phase accumulator of the slot shift at code sample `n`: 0 at the first sample, 2.0 GS/s (R85). -/
def ncoPhase (slot n : Nat) : Nat := ((n : Int) * slotCentre slot * 2 ^ 27 % (2 ^ 32 : Int)).toNat
/-- Ramps of the code as a fraction u of its length (R86). -/
def taperAt (taper : Nat) (u : Rat) : Rat :=
  let a : Rat := (taper : Rat) / 256
  if u < a then (1 - cosTurn (u / (2 * a))) / 2
  else if 1 - u < a then (1 - cosTurn ((1 - u) / (2 * a))) / 2 else 1
/-- Chirp phase at sample `n` (R86): BW × T × (u² − u) / 2 turns, T = LEN × 0.5 ns and BW in kHz. -/
def chirpTurns (c : Code) (n : Rat) : Rat :=
  let u := n / c.len
  (if c.dir then -1 else 1) * ((c.bw : Rat) * c.len / 2000000) * (u * u - u) / 2
/-- The shaped chip value at sample `n`: the chips within ±4 of the present one, each times its pulse (R86). -/
def chipValue (c : Code) (n : Rat) : Rat :=
  let k0 := (n / c.chip).floor
  ((List.range 9).map fun i =>
    let k : Int := k0 - 4 + i
    if k < 0 ∨ (c.chips.length : Int) ≤ k then 0
    else (if c.chips.getD k.toNat false then -1 else 1) * Config.chipPulse c.chip (n - k * c.chip)).sum
/-- The baseband code at a sample position that need not be whole (R86, R88); 0 outside the code. -/
def baseband (c : Code) (n : Rat) : Rat × Rat :=
  if n < 0 ∨ (c.len : Rat) ≤ n then (0, 0)
  else
    let w := taperAt c.taper (n / c.len)
    if c.typ = 1 then cscale w (phasor (chirpTurns c n)) else (w * chipValue c n, 0)
/-- out_i and out_q of code sample `n` in a slot (R86). -/
def probeSample (slot : Nat) (c : Code) (n : Nat) : Int × Int :=
  let z := cscale c.amp (cmul (baseband c n) (phasor ((ncoPhase slot n : Rat) / 2 ^ 32)))
  (roundHalfUp z.1, roundHalfUp z.2)

/-- The descriptor `d` of a fibre with its chips (R86). -/
def State.codeOf (s : State) (f d : Nat) : Code :=
  let n := if s.get (RXF_PCODE_CTRL_TYPE f d) = 2 then s.get (RXF_PCODE_LEN_LEN f d) / s.get (RXF_PCODE_BPSK_CHIP f d) else 0
  { typ := s.get (RXF_PCODE_CTRL_TYPE f d), dir := s.on (RXF_PCODE_CTRL_DIR f d), taper := s.get (RXF_PCODE_CTRL_TAPER f d)
    amp := s.get (RXF_PCODE_CTRL_AMP f d), len := s.get (RXF_PCODE_LEN_LEN f d), bw := s.get (RXF_PCODE_BW_BW f d)
    chip := s.get (RXF_PCODE_BPSK_CHIP f d)
    chips := (List.range n).map fun i =>
      let b := s.get (RXF_PCODE_BPSK_START f d) + i
      (s.get (RXF_CODEw_BITS f (b / 32))).testBit (b % 32) }
/-- The codes on the PSx pins of a fibre now: the code sample whose 0.5 ns the present instant lies in, 0 outside the code
and while clk_smp is stopped (R28, R86, R88). -/
def State.probePins (s : State) (f : Fib) : Int × Int :=
  match (s.rxf[f]).probe with
  | some e =>
    let n := ((s.nowNs - e.time) * 2).floor
    if s.fabRuns && decide (0 ≤ n) && decide (n < (e.code.len : Int)) then probeSample e.slot e.code n.toNat else (0, 0)
  | none => (0, 0)

/-! ### Samples (R92–R98, R433, R434) -/

/-- The number of the 5 ns interval that holds an instant (R26). -/
def interval (t : Rat) : Int := (t / 5).floor

/-- K_c (R98). -/
def gainK (c : Nat) : Nat :=
  [32382, 25722, 20431, 16229, 12891, 10240, 8134, 6461, 5132, 4077, 3238, 2572, 2043, 1623, 1289, 1024].getD c 0
/-- A raw code clips (R92). -/
def clips (x : BitVec 12) : Bool := x == 0x800 || x == 0x7FF
/-- Limit a value to ±m. -/
def limitTo (m v : Int) : Int := max (-m) (min m v)
/-- A sample after offset correction and gain-stair compensation (R433), within the bound of R98 (log entry 59). -/
def compensate (x : BitVec 12) (ofs : Int) (c : Nat) : Int := limitTo 64764 (((16 * x.toInt - ofs) * gainK c + 8192) / 16384)
/-- The correction stage: Q of a pair (R434). -/
def correctQ (yI yQ : Int) (gain : Nat) (ph : Int) : Int := limitTo 131071 ((yQ * gain - yI * ph + 8192) / 16384)

/-- Gain codes of the two groups at a sample instant: those before the oldest later change, or those in force (R95). -/
def RxfRun.codesAt (r : RxfRun) (n : Int) : Nat × Nat :=
  r.steps.foldl (fun c g => if n < g.at_ then (g.rg, g.bg) else c) (r.rg, r.bg)
/-- A group is within the 6 samples of a step (R97). -/
def RxfRun.stepRayAt (r : RxfRun) (n : Int) : Bool := r.steps.any fun g => g.ray && decide (g.at_ ≤ n) && decide (n < g.at_ + 6)
def RxfRun.stepBriAt (r : RxfRun) (n : Int) : Bool := r.steps.any fun g => g.bri && decide (g.at_ ≤ n) && decide (n < g.at_ + 6)

/-- The six compensated values of one sample instant `n` (ns), before the correction stage (R433). -/
def State.compensated (s : State) (f : Fib) (n : Int) (raw : Vector (BitVec 12) 6) : Vector Int 6 :=
  let k := (s.rxf[f]).codesAt n
  Vector.ofFn fun c => compensate raw[c] (s.getI (CAL_OFSc_OFS f c)) (if c.val < 4 then k.1 else k.2)
/-- The correction stage on the three pairs (R434). -/
def State.corrected (s : State) (f : Fib) (y : Vector Int 6) : Vector Int 6 :=
  let q := fun (p : Nat) (i q : Int) => correctQ i q (s.get (CAL_GAINp_GAIN f p)) (s.getI (CAL_PHp_PH f p))
  #v[y[0], q 0 y[0] y[1], y[2], q 1 y[2] y[3], y[4], q 2 y[4] y[5]]
/-- One sample instant behind the digital chain of R94, with its flags. -/
def State.sampleOf (s : State) (f : Fib) (n : Int) (raw : Vector (BitVec 12) 6) : Sample :=
  { y := s.corrected f (s.compensated f n raw)
    stepRay := (s.rxf[f]).stepRayAt n, stepBri := (s.rxf[f]).stepBriAt n
    clip := ((List.finRange 6).map fun c => if clips raw[c] then 2 ^ c.val else 0).sum }
/-- A converter of the sample clipped. -/
def Sample.clipped (x : Sample) (cs : List Nat) : Bool := cs.any fun c => x.clip.testBit c

/-- The sample of an instant in ns; none where none has come. -/
def RxfRun.sampleAt (r : RxfRun) (n : Int) : Option Sample :=
  (r.wave.find? fun w => w.1 == n / 5).map fun w => w.2[Fin.ofNat 5 (n % 5).toNat]
/-- The last sample instant that has come. -/
def RxfRun.heard (r : RxfRun) : Option Int := r.wave.head?.map fun w => 5 * w.1 + 4
/-- The X (0), Y (1) or Brillouin (2) value of an instant: 0 where either sample of the pair is flagged STEP or CLIP, or
where none has come (R105). -/
def RxfRun.pairAt (r : RxfRun) (p : Fin 3) (n : Int) : Rat × Rat :=
  match r.sampleAt n with
  | none => (0, 0)
  | some x =>
    if (if p = 2 then x.stepBri else x.stepRay) || x.clipped [2 * p.val, 2 * p.val + 1] then (0, 0)
    else ((x.y[Fin.ofNat 6 (2 * p.val)] : Rat), (x.y[Fin.ofNat 6 (2 * p.val + 1)] : Rat))

/-! ### Channeliser (R106, R107) -/

/-- Coefficient `j` of the fixed 256-tap linear-phase low-pass filter (R106): the two halves are alike. -/
def lowPassTap (h : Nat → Rat) (j : Nat) : Rat := h (min j (255 - j))
/-- One output of a mixer and low-pass filter at 5 ns step `g`, the group delay of 127.5 ns removed: `mix` is the mixer's
angle at a sample instant (R106, R120). -/
def filterAt (h : Nat → Rat) (x : Int → Rat × Rat) (mix : Int → Rat) (g : Int) : Rat × Rat :=
  csum 256 fun j =>
    let n := 5 * g - 128 + j
    cscale (lowPassTap h j) (cmul (x n) (phasor (mix n)))
/-- The channeliser of a slot and polarisation: the mixer turns by −(s − 3.5) × 125 MHz from 0 at the launch (R106). -/
def channelAt (x : Int → Rat × Rat) (slot : Nat) (launch : Rat) (g : Int) : Rat × Rat :=
  filterAt Config.lowPass x (fun n => -(slotCentre slot : Rat) / 16 * ((n : Rat) - launch)) g

/-! ### Matched filter (R109–R111) -/

/-- Full tap count, taps used and the start a in ns of a code of `len` samples (R109). -/
def mfTaps (len : Nat) : Nat × Nat × Nat := (cdiv len 10, min (cdiv len 10) 1024, 5 * ((cdiv len 10 - min (cdiv len 10) 1024) / 2))
/-- Weight of tap `m` of `n` under MF_WIN (R109). -/
def mfWindow (win n m : Nat) : Rat := if win = 0 then 1 else Config.window win n m
/-- The reference before scaling: the code at 200 MS/s from a on, delayed by `d` ns, weighted (R109). -/
def mfRaw (c : Code) (win : Nat) (d : Rat) (m : Nat) : Rat × Rat :=
  let t := mfTaps c.len
  cscale (mfWindow win t.2.1 m) (baseband c (2 * ((t.2.2 : Rat) + 5 * m - d)))
/-- The largest component magnitude of a list of complex numbers. -/
def peakOf (zs : List (Rat × Rat)) : Rat := zs.foldl (fun a z => max a (max |z.1| |z.2|)) 0
/-- The taps, scaled to a peak component magnitude of 32,767 and rounded; conjugated and time-reversed, so that tap `m`
meets the channeliser output `m` steps after the position (R109). -/
def mfReference (c : Code) (win : Nat) (d : Rat) : List (Int × Int) :=
  let zs := (List.range (mfTaps c.len).2.1).map (mfRaw c win d)
  let k := 32767 / peakOf zs
  zs.map fun z => (roundHalfUp (k * z.1), -roundHalfUp (k * z.2))
/-- The instant at which position `p` of a shot begins on the position grid: the launch plus SEQ_CONN_DLY plus 5p ns (R73,
R109). -/
def State.gridAt (s : State) (f : Nat) (launch : Rat) (p : Nat) : Rat := launch + (s.get (SEQ_CONN_DLY_DLY f) : Rat) / 64 + 5 * p
/-- The direct convolution at a position whose reference segment begins at `t` ns (R110). -/
def mfDirect (x : Int → Rat × Rat) (e : Emission) (win : Nat) (t : Rat) : Rat × Rat :=
  let g := (t / 5).floor
  let ref := mfReference e.code win (t - 5 * g)
  csum ref.length fun m =>
    let r := ref.getD m (0, 0)
    cmul ((r.1 : Rat), (r.2 : Rat)) (channelAt x e.slot e.time (g + m))
/-- The matched-filter window of a position: first and last sample instant in ns (R111). -/
def State.mfWindowOf (s : State) (f : Nat) (e : Emission) (p : Nat) : Int × Int :=
  let t := mfTaps e.code.len
  let b := e.time.floor + (s.get (SEQ_CONN_DLY_DLY f) / 64 + 5 * p + t.2.2 : Nat)
  (b - 128, b + (5 * t.2.1 + 131 : Nat))
/-- Whether a sample of the instants `lo … hi` satisfies a condition. -/
def RxfRun.touches (r : RxfRun) (lo hi : Int) (q : Sample → Bool) : Bool :=
  r.wave.any fun w => decide (lo ≤ 5 * w.1 + 4) && decide (5 * w.1 ≤ hi) &&
    (List.finRange 5).any fun i => decide (lo ≤ 5 * w.1 + i.val) && decide (5 * w.1 + i.val ≤ hi) && q w.2[i]

/-- Saturate to a signed `w`-bit value. -/
def satS (w : Nat) (v : Int) : Int := max (-(2 ^ (w - 1))) (min (2 ^ (w - 1) - 1) v)
/-- z before saturation: the sum times 2^-MF_SHIFT, rounded convergently (R110). -/
def mfScale (sh : Nat) (v : Int) : Int := roundEven ((v : Rat) / (2 ^ sh : Nat))
/-- A free integer within `r` of a rational. -/
def State.pickNear (s : State) (v : Rat) (r : Nat) : Int × State :=
  let lo := (v - r).ceil
  let x := s.pick 0 ((v + r).floor - lo).toNat
  (lo + x.1, x.2)

/-! ### Phase and magnitude (R112) -/

/-- The largest `m < 2^n` more than `lo` whose lower boundary (m − ½) / 65,536 turn the first-quadrant vector has reached, or `lo`. -/
def reached (x y : Int) : Nat → Nat → Nat
  | 0, lo => lo
  | n + 1, lo =>
    let m := lo + 2 ^ n
    let b := cosSin ((2 * m - 1 : Nat) / 131072)
    reached x y n (if 0 ≤ y * b.1 - x * b.2 then m else lo)
/-- round(atan2(Q, I) × 65,536 / 2π) modulo 65,536 of a vector that is not zero (R112). -/
def turn16 (i q : Int) : Nat :=
  (if 0 < i ∧ 0 ≤ q then reached i q 15 0
   else if i ≤ 0 ∧ 0 < q then 16384 + reached q (-i) 15 0
   else if i < 0 ∧ q ≤ 0 then 32768 + reached (-i) (-q) 15 0
   else 49152 + reached (-q) i 15 0) % 65536
/-- The smallest integer whose square is at least `n`. -/
def isqrtUp (n : Nat) : Nat := if isqrt n * isqrt n = n then isqrt n else isqrt n + 1
/-- Bounds of MAG24: the integers within ±1 LSB ± 2^-14 |z| of |z| (R112). -/
def magBounds (i q : Int) : Nat × Nat :=
  let n := (i * i + q * q).toNat
  (cdiv (isqrtUp (n * 16383 ^ 2)) 16384 - 1, isqrt (n * 16385 ^ 2) / 16384 + 1)
/-- MAG13 (R112). -/
def mag13 (sh m : Nat) : Nat := if sh = 0 then min 8191 m else min 8191 ((m + 2 ^ (sh - 1)) / 2 ^ sh)
/-- A 14-bit component of the IQ format: shifted with rounding half up and saturated to ±8,191 (R112). -/
def iq14 (sh : Nat) (v : Int) : Nat := bitsOf 14 (max (-8191) (min 8191 (roundHalfUp ((v : Rat) / (2 ^ sh : Nat)))))
/-- The phase of a response: within ±1 of the rounded angle, 0 for a zero response (R112). -/
def State.cordic (s : State) (i q : Int) : Nat × State :=
  if i = 0 ∧ q = 0 then (0, s)
  else
    let d := s.pick 0 2
    ((turn16 i q + 65535 + d.1) % 65536, d.2)

end Sys2Proof.Machine
end

