-- ==== Sys2Proof/Machine/Rxf.lean ====
section
/-! DEFINITION. The receiver front end: probe synthesizers, gate, converter groups and gain stairs (R85–R103, R510), and
the launch of a shot with its Brillouin capture decision (R88, R119). -/

namespace Sys2Proof.Machine
open Reg

def State.setPrism (s : State) (f : Fib) (g : PrismRun → PrismRun) : State := { s with prism := s.prism.set f (g (s.prism[f])) }

/-- The window address of a word of the RXF code memory and of a stair entry. -/
def codeAddr (f w : Nat) : Nat := 0x40021800 + 0x1000 * f + 4 * w
def stairAddr (f e : Nat) : Nat := 0x40021400 + 0x1000 * f + 4 * e

/-- Firmware writes consecutive 32-bit words of an SRAM or an RXF memory; a half still held at the end is written alone
(R390). -/
def State.firmwareWrite (s : State) (a : Nat) (ws : List Nat) : State :=
  ((ws.foldl (fun (p : State × Nat) w => (p.1.write32 .mgmt p.2 w, p.2 + 4)) (s, a)).1).release .mgmt

/-- PGATE of a fibre is active: within LEAD before the first and LAG after the last code sample of a launch handed over or
made, while the sequencer is not IDLE, no probe test runs and clk_smp runs (R90). A shot that is not launched has no code
sample. -/
def State.pgate (s : State) (f : Fib) : Bool :=
  let now := s.nowNs
  let lead : Rat := (s.get (RXF_GATE_LEAD f) : Rat)
  let lag : Rat := (s.get (RXF_GATE_LAG f) : Rat)
  s.seqState f != 0 && !s.on (RXF_PTEST_EN f) && s.fabRuns
  && (((s.sq f).handed.map fun l => (l.time, l.len)) ++ ((s.rxf[f]).shots.map fun x => (x.em.time, (x.em.code.len : Rat) / 2))).any fun q =>
      decide (q.1 - lead ≤ now) && decide (now < q.1 + q.2 - 1 + lag)
/-- The level of the PGATE pin (R90). -/
def State.pgatePin (s : State) (f : Fib) : Bool := s.pgate f != s.on (RXF_CTRL_PGATE_POL f)

/-- The words of code memory that a BPSK descriptor's chips lie in. -/
def State.codeWords (s : State) (f d : Nat) : List Nat :=
  if s.get (RXF_PCODE_CTRL_TYPE f d) = 2 ∧ s.get (RXF_PCODE_BPSK_CHIP f d) ≠ 0 then
    let st := s.get (RXF_PCODE_BPSK_START f d)
    let n := s.get (RXF_PCODE_LEN_LEN f d) / s.get (RXF_PCODE_BPSK_CHIP f d)
    if n = 0 then [] else (List.range ((st + n - 1) / 32 - st / 32 + 1)).map (· + st / 32)
  else []
/-- Descriptors that enabled entries of the active or pending page name. -/
def State.codesInUse (s : State) (f : Nat) : List Nat :=
  ((s.entries f (s.page f)) ++ (if s.on (SEQ_STATUS_PAGE_PEND f) then s.entries f (1 - s.page f) else [])).map (·.code)

/-- Read the RXF memories a shot uses: whether a word is uncorrectable (R388). -/
def State.readShotWords (s : State) (f : Fib) (d : Nat) : Bool × State :=
  let stairs := if s.on (RXF_CTRL_STAIR_EN f) then (List.range 8).map fun i => stairAddr f (2 * i) else []
  let as := stairs ++ ((s.codeWords f d).map fun w => codeAddr f (w / 2 * 2)).dedup
  as.foldl (fun (p : Bool × State) a => let r := p.2.readWord (.fixed 2) a; (p.1 || r.1.2, r.2)) (false, s)

/-- A launched shot that is not captured is passed over in its slot (R119). -/
def State.passShot (s : State) (f : Fib) (slot : Nat) : State :=
  s.setPrism f fun p => { p with passed := p.passed.map fun v => v.set (slot % 8) (v[slot % 8]'(Nat.mod_lt _ (by decide)) + 1) }
/-- BRIL_DIV shots of the slot have been passed over since the last capture (R119). -/
def State.brilTurn (s : State) (f : Fib) (slot : Nat) : Bool :=
  match (s.prism[f]).passed with
  | some v => decide (s.get (PRISM_BRIL_CTRL_DIV f) ≤ v[slot % 8]'(Nat.mod_lt _ (by decide)))
  | none => true
/-- The Brillouin section captures a launched shot, passes it over, or counts a skip where no buffer is free (R119). -/
def State.brilCapture (s : State) (f : Fib) (shot : Nat) (em : Emission) : State :=
  if s.on (PRISM_BRIL_CTRL_EN f) && s.on (briRdyF f) && s.get (PRISM_BRIL_CTRL_SLOT f) == em.slot && s.brilTurn f em.slot then
    match [0, 1].find? fun b => !((s.prism[f]).caps.any fun c => c.buffer == b) with
    | some b =>
      let i := (s.sq f).info.find? (·.shot == shot)
      (s.inc (PRISM_BRIL_CAPT_COUNT f)).setPrism f fun p => { p with
        passed := some (.replicate 8 0), capNo := p.capNo + 1, specAt := if p.caps.isEmpty then s.cyc + 64 else p.specAt
        caps := p.caps ++ [{ shot := shot, buffer := b, phase := (i.map (·.phase)).getD 0, sched := (i.map (·.sched)).getD true
                             holdover := s.inHoldover, nextT := 0, no := p.capNo, em := em, stored := 0, clips := [] }] }
    | none => ((s.inc (PRISM_BRIL_SKIP_COUNT f)).raise (PRISM_FLAGS_BRIL_SKIP f) 1).passShot f em.slot
  else s.passShot f em.slot

/-- PRISM_GAL_CTRL [15:0] as the next shot takes it (R129). -/
def State.galSet (s : State) (f : Nat) : GalSet :=
  ⟨s.get (PRISM_GAL_CTRL_ALPHA f), s.on (PRISM_GAL_CTRL_FREEZE f), s.on (PRISM_GAL_CTRL_FADE_AUTO f), s.get (PRISM_GAL_CTRL_FADE_RATIO f)⟩
/-- A shot whose code or stair words are uncorrectable is not launched and counts under R69 (R388). -/
def State.dropShot (s : State) (f : Fib) (shot : Nat) : State :=
  (((s.inc (SEQ_SHOT_SKIPPED_COUNT f)).raise (SEQ_FLAGS_SHOT_SKIP f) 1).setLw f fun w => { w with
      coming := w.coming.filter (·.shot != shot) }).setSq f fun q => { q with
    info := q.info.map fun i => if i.shot = shot then { i with skipped := true } else i
    wins := q.wins.filter (·.shot != shot) }
/-- The shot's mark of holdover is that of its launch (R59). -/
def State.markLaunch (s : State) (f : Fib) (shot : Nat) : State :=
  (s.setSq f fun q => { q with info := q.info.map fun i => if i.shot = shot then { i with holdover := s.inHoldover } else i }).upShot f shot
    fun x => { x with holdover := s.inHoldover }
/-- The first code sample of a shot leaves the pins: its descriptor and gallery settings are taken, and its stair restarts
(R88, R95, R129). -/
def State.emitShot (s : State) (f : Fib) (shot : Nat) (em : Emission) : State :=
  (s.markLaunch f shot).setRxf f fun x => { x with
    probe := some em, shots := ⟨shot, em, s.galSet f⟩ :: x.shots.take 511, stair0 := em.time.floor, stairAt := none }
/-- SHOT_LAUNCH (R88, R119, R388): the oldest launch handed over leaves the PSx pins at its instant; a code of more than 1,024
taps is truncated (R109). -/
def execShotLaunch (f : Fib) (s : State) : Host.Outcome State Fault Refusal :=
  .next (s.onFab <| match (s.sq f).handed with
    | l :: rest =>
      if s.due l.time then
        let r := s.readShotWords f l.code
        let s1 := r.2.setSq f fun q => { q with handed := rest }
        if r.1 then s1.dropShot f l.shot
        else
          let em : Emission := ⟨l.slot, l.time, s1.codeOf f l.code⟩
          let s2 := s1.emitShot f l.shot em
          let s3 := if 1024 < (mfTaps em.code.len).1 then s2.raise (PRISM_FLAGS_MF_TRUNC f) 1 else s2
          let s4 := if s3.on (SEQ_CTRL_LMON_EN f) then s3 else s3.settleShot f l.shot (l.time + s.lmonOfs f) true
          s4.brilCapture f l.shot em
      else s
    | [] => s)

/-- PROBE_TEST_EMIT (R89): every PERIOD µs the enabled probe test emits its descriptor in its slot. -/
def execProbeTestEmit (f : Fib) (s : State) : Host.Outcome State Fault Refusal :=
  .next (s.onFab <| if s.on (RXF_PTEST_EN f) && decide (s.rxf[f].ptestDue ≤ s.cyc) then
    s.setRxf f fun x => { x with
      probe := some ⟨s.get (RXF_PTEST_SLOT f), s.nowNs, s.codeOf f (s.get (RXF_PTEST_CODE f))⟩
      ptestDue := x.ptestDue + usCyc (s.get (RXF_PTEST_PERIOD f)) }
  else s)

/-- CONVERTER_GROUP_READY (R93): 20 µs after a group is enabled it is ready. -/
def execConverterGroupReady (f : Fib) (bril : Bool) (s : State) : Host.Outcome State Fault Refusal :=
  .next (s.onFab <|
    if bril then
      if s.on (RXF_CTRL_BRI_EN f) && decide (s.rxf[f].briAt + usCyc 20 ≤ s.cyc) then s.set (briRdyF f) 1 else s
    else
      if s.on (RXF_CTRL_RAY_EN f) && decide (s.rxf[f].rayAt + usCyc 20 ≤ s.cyc) then s.set (rayRdyF f) 1 else s)

/-- The stair's next step: entry 0 at sample 0 of the last launch, then the enabled entry of least OFFSET not yet applied,
with its sample instant (R95). -/
def State.nextStair (s : State) (f : Fib) : Option (Nat × Int) :=
  let r := s.rxf[f]
  match r.stairAt with
  | none => if r.shots.isEmpty then none else some (0, r.stair0)
  | some n =>
    ((List.range 15).map (· + 1)).foldl (fun b e =>
      let t := r.stair0 + s.get (RXF_STAIRe_OFFSET f e)
      if s.on (RXF_STAIRe_EN f e) && decide (n < t) && (match b with | some c => decide (t < c.2) | none => true) then some (e, t) else b) none
/-- GAIN_STEP (R95, R97) of a stair entry at sample `ofs` of its 5 ns interval: the stair's next step, within the present
interval, is made; one at or beyond sample 0 of the next shot is not. -/
def execGainStep (f : Fib) (entry : Fin 16) (ofs : Fin 5) (s : State) : Host.Outcome State Fault Refusal :=
  .next (s.onFab <| if s.on (RXF_CTRL_STAIR_EN f) && s.seqState f != 0 then
    match s.nextStair f with
    | some (e, t) =>
      if e == entry.val && t % 5 == (ofs.val : Int) && decide (t ≤ 5 * interval s.nowNs + 4) && (e == 0 || (s.sq f).handed.all fun l => decide (t < l.time.floor)) then
        (s.gainTo f e t).setRxf f fun x => { x with stairAt := some t }
      else s
    | none => s
  else s)

/-- Power the converter groups: a group newly enabled becomes ready 20 µs later, a disabled one is not ready (R93) and
aborts a calibration run that needs it (R440). -/
def State.setGroups (s : State) (f : Fib) (ray bri : Bool) : State :=
  let s1 := if ray then (if s.on (RXF_CTRL_RAY_EN f) then s else s.setRxf f fun x => { x with rayAt := s.cyc }) else s.set (rayRdyF f) 0
  let s2 := if bri then (if s.on (RXF_CTRL_BRI_EN f) then s1 else s1.setRxf f fun x => { x with briAt := s.cyc }) else s1.set (briRdyF f) 0
  let s3 := (s2.setB (RXF_CTRL_RAY_EN f) ray).setB (RXF_CTRL_BRI_EN f) bri
  if (s.on (RXF_CTRL_RAY_EN f) && !ray && s.on (CAL_CTRL_RAY f)) || (s.on (RXF_CTRL_BRI_EN f) && !bri && s.on (CAL_CTRL_BRI f)) then s3.calAbort f
  else s3

/-- While the device is in REDUCED, nothing sets RAY_EN (R464). -/
def State.rayBarred (s : State) (ray : Bool) : Bool := ray && s.get PWR_STATUS_STATE == 1

/-! ### Opcodes (R103) -/

def rxfProbeWrite (s : State) (ps : List Nat) : CmdRes :=
  let f := fibP ps
  let d := par ps 1
  let c := par ps 2
  if 15 < d then .bad
  else if fld c 0 2 ≠ 0 ∧ !codeValid (fld c 0 2) (fld c 8 8) (fld c 16 14) (par ps 3) (par ps 4) (fld (par ps 5) 0 13) (fld (par ps 5) 16 15) then .bad
  else if s.seqRuns f && (s.codesInUse f).contains d then .denied
  else .ok ((((((((s.set (RXF_PCODE_CTRL_TYPE f d) (fld c 0 2)).set (RXF_PCODE_CTRL_DIR f d) (fld c 2 1)).set (RXF_PCODE_CTRL_TAPER f d) (fld c 8 8)).set
    (RXF_PCODE_CTRL_AMP f d) (fld c 16 14)).set (RXF_PCODE_LEN_LEN f d) (par ps 3)).set (RXF_PCODE_BW_BW f d) (par ps 4)).set
    (RXF_PCODE_BPSK_START f d) (fld (par ps 5) 0 13)).set (RXF_PCODE_BPSK_CHIP f d) (fld (par ps 5) 16 15))
/-- RXF_PROBE_WRITE (R103, R510). With TYPE = 0 the other fields are stored as they come: R103 refuses only a descriptor of
another TYPE that is not valid, although R506 would refuse AMP, TAPER and the like outside their ranges (log entry 62). -/
def execRxfProbeWrite (c : CmdIn) (s : State) : Host.Outcome State Fault Refusal :=
  .next (runCmd 0x20 2 (fun _ => [1, full, 0x3FFFFF07, 0x7FFF, 0x1FFFF, 0x7FFF1FFF]) rxfProbeWrite c s)

def rxfCodeWrite (s : State) (ps : List Nat) : CmdRes :=
  let f := fibP ps
  let a := par ps 1
  let n := par ps 2
  if 255 < a ∨ 256 < a + n then .bad
  else if s.seqRuns f && (s.codesInUse f).any fun d => (s.codeWords f d).any fun w => decide (a ≤ w) && decide (w < a + n) then .denied
  else .ok (s.firmwareWrite (codeAddr f a) (ps.drop 3))
/-- RXF_CODE_WRITE (R103, R510). -/
def execRxfCodeWrite (c : CmdIn) (s : State) : Host.Outcome State Fault Refusal :=
  .next (runCmd 0x21 2 (fun ps => [1, full, full] ++ List.replicate (min (par ps 2) 500) full) rxfCodeWrite c s)

def rxfStairWrite (s : State) (ps : List Nat) : CmdRes :=
  let f := fibP ps
  if s.seqState f ≠ 0 then .denied
  else if 15 < par ps 1 ∨ 16 < par ps 1 + par ps 2 then .bad
  else .ok ((s.firmwareWrite (stairAddr f (par ps 1)) (ps.drop 3)).syncStair f)
/-- RXF_STAIR_WRITE (R103). -/
def execRxfStairWrite (c : CmdIn) (s : State) : Host.Outcome State Fault Refusal :=
  .next (runCmd 0x22 2 (fun ps => [1, full, full] ++ List.replicate (min (par ps 2) 500) 0x8FF7FFFF) rxfStairWrite c s)

def rxfGate (s : State) (ps : List Nat) : CmdRes :=
  let f := fibP ps
  if s.seqState f ≠ 0 then .denied
  else if 255 < par ps 1 ∨ 255 < par ps 2 then .bad
  else .ok ((((s.set (RXF_GATE_LEAD f) (par ps 1)).set (RXF_GATE_LAG f) (par ps 2)).set (RXF_CTRL_PGATE_POL f) (fld (par ps 3) 0 1)).set
    (RXF_CTRL_LMON_POL f) (fld (par ps 3) 1 1))
/-- RXF_GATE (R103). -/
def execRxfGate (c : CmdIn) (s : State) : Host.Outcome State Fault Refusal :=
  .next (runCmd 0x23 2 (fun _ => [1, full, full, 3]) rxfGate c s)

def rxfPower (s : State) (ps : List Nat) : CmdRes :=
  let f := fibP ps
  if s.seqState f ≠ 0 || s.rayBarred (bit (par ps 1) 0) then .denied
  else
    let t := (s.setGroups f (bit (par ps 1) 0) (bit (par ps 1) 1)).set (RXF_CTRL_STAIR_EN f) (fld (par ps 1) 2 1)
    .done stOk [t.rawReg 2 0] t
/-- RXF_POWER (R93, R103, R464). -/
def execRxfPower (c : CmdIn) (s : State) : Host.Outcome State Fault Refusal :=
  .next (runCmd 0x24 2 (fun _ => [1, 7]) rxfPower c s)

/-- PERIOD is at least the code length + 1 µs (R101). -/
def State.ptestPeriodOk (s : State) (f d per : Nat) : Bool :=
  decide (per ≤ 65535) && decide (s.get (RXF_PCODE_LEN_LEN f d) + 2000 ≤ per * 2000)
/-- Start or end the probe test; RXF_STATUS follows it. -/
def State.setPtest (s : State) (f : Fib) (on : Bool) : State :=
  ((s.setB (RXF_PTEST_EN f) on).setB (ptestF f) on).setRxf f fun x => { x with ptestDue := s.cyc, probe := if on then x.probe else none }

def rxfProbeTest (s : State) (ps : List Nat) : CmdRes :=
  let f := fibP ps
  let en := bit (par ps 1) 0
  if en && s.seqState f != 0 then .busyWith (ownerOf 1 f.val)
  else if 7 < par ps 2 ∨ 15 < par ps 3 ∨ !s.ptestPeriodOk f (par ps 3) (par ps 4) ∨ (en ∧ !s.codeOk f (par ps 3)) then .bad
  else if en = s.on (RXF_PTEST_EN f) then .already s
  else .ok ((((s.set (RXF_PTEST_SLOT f) (par ps 2)).set (RXF_PTEST_CODE f) (par ps 3)).set (RXF_PTEST_PERIOD f) (par ps 4)).setPtest f en)
/-- RXF_PROBE_TEST (R89, R103). -/
def execRxfProbeTest (c : CmdIn) (s : State) : Host.Outcome State Fault Refusal :=
  .next (runCmd 0x25 2 (fun _ => [1, 1, full, full, full]) rxfProbeTest c s)

def rxfGetStatus (s : State) (ps : List Nat) : CmdRes :=
  let f := fibP ps
  let o := 0x1000 + 0x1000 * f.val
  .data s ([s.rawReg 2 0, s.rawReg 2 o, s.rawReg 2 (o + 8), s.get (RXF_STEP_COUNT_COUNT f)] ++ (List.range 6).map fun c => s.get (RXF_CLIP_CNTc_COUNT f c))
/-- RXF_GET_STATUS (R103). -/
def execRxfGetStatus (c : CmdIn) (s : State) : Host.Outcome State Fault Refusal :=
  .next (runCmd 0x26 2 (fun _ => [1]) rxfGetStatus c s)

end Sys2Proof.Machine
end

