-- ==== Sys2Proof/Machine/Prism.lean ====
section
/-! DEFINITION. The Prism front pipeline: responses and galleries (R109–R118) and landings (R123–R127), and its opcodes
(R130). -/

namespace Sys2Proof.Machine
open Reg

def State.setLand (s : State) (k : Fin 16) (g : Landing → Landing) : State := { s with land := s.land.set k (g (s.land[k])) }

/-! ### Galleries (R113–R118) -/

def galBase (f : Nat) : Nat := 0x1000000 + 0x800000 * f
/-- Address of REF(p, s, pol). -/
def refAddr (f p sl pol : Nat) : Nat := galBase f + ((p * 8 + sl) * 2 + pol) * 2
/-- Address of the quality entry of a position: counts at +0, threshold and EDGE at +8. -/
def qualAddr (f p : Nat) : Nat := galBase f + 0x400000 + 16 * p
def align8 (a : Nat) : Nat := a / 8 * 8

/-- Read a gallery word as the Prism: an uncorrectable word is taken as its GAL_INIT value (R388). -/
def State.galWord (s : State) (a init : Nat) : Nat × State :=
  let r := s.readWord (.fixed 3) a
  (if r.1.2 then init else r.1.1, r.2)
/-- Read and rewrite `n` bytes of a gallery word as one atomic update (R116). -/
def State.galUpdate (s : State) (a n init : Nat) (g : Nat → Nat) : State :=
  let r := s.galWord (align8 a) init
  r.2.writeWord (align8 a) (mergeWord r.1 (a % 8) n (g (r.1 / 2 ^ (8 * (a % 8)) % 2 ^ (8 * n))))
/-- Four copies of the initial REF value. -/
def State.refInit (s : State) (f : Nat) : Nat := s.get (PRISM_REF_INIT_VALUE f) * 0x0001000100010001
def State.readRef (s : State) (f p sl pol : Nat) : Nat × State :=
  let r := s.galWord (align8 (refAddr f p sl pol)) (s.refInit f)
  (r.1 / 2 ^ (8 * (refAddr f p sl pol % 8)) % 65536, r.2)
/-- Count in one of the four count fields of a quality entry: STEP 0, CLIP 1, FADE 2, NORESP 3 (R114). -/
def State.qualCount (s : State) (f p i : Nat) : State := s.galUpdate (qualAddr f p + 2 * i) 2 0 fun v => min (v + 1) 0xFFFF
def State.fadeThr (s : State) (f p : Nat) : Nat × State :=
  let r := s.galWord (qualAddr f p + 8) 0
  (r.1 % 65536, r.2)

/-! ### Responses (R105–R115) -/

/-- A record word in the PHASE or IQ format (R125). -/
def respWord (iq : Bool) (ph mag i q : Nat) (step fade clip : Bool) : Nat :=
  if iq then (if clip then 0 else i) + clip.toNat * 2 ^ 15 + (if clip then 0 else q) * 2 ^ 16 + step.toNat * 2 ^ 30 + fade.toNat * 2 ^ 31
  else ph + mag * 2 ^ 16 + step.toNat * 2 ^ 29 + fade.toNat * 2 ^ 30 + clip.toNat * 2 ^ 31

/-- Count a flag of a response in the gallery and in the Prism's counter. -/
def State.respFlag (s : State) (f p i : Nat) (cnt : Fld) (b : Bool) : State := if b then (s.inc cnt).qualCount f p i else s
/-- Saturated components count (R110). -/
def State.mfSat (s : State) (f n : Nat) : State :=
  if n = 0 then s else (s.incBy (PRISM_MF_SAT_COUNT f) n).raise (PRISM_FLAGS_MF_SAT f) 1
/-- REF ← REF + ((MAG13 × 8 − REF) >> ALPHA) (R115). -/
def refStep (alpha ref mag : Nat) : Nat := ((ref : Int) + ((mag * 8 : Nat) - (ref : Int)) / (2 ^ alpha : Nat)).toNat % 65536

/-- The matched-filter output of a position and polarisation of a shot: each sum within ±2 of the direct convolution, scaled
and saturated, with the number of saturated components (R105–R110). -/
def State.mfOutput (s : State) (f : Fib) (e : Emission) (pos : Nat) (pol : Fin 2) : (Int × Int × Nat) × State :=
  let x := (s.rxf[f]).pairAt (if pol = 0 then 0 else 1)
  let d := mfDirect x e (s.get (PRISM_CTRL_MF_WIN f)) (s.gridAt f e.time pos + (mfTaps e.code.len).2.2)
  let a := s.pickNear d.1 2
  let b := a.2.pickNear d.2 2
  let sh := s.get (PRISM_SCALE_MF_SHIFT f)
  let i0 := mfScale sh a.1
  let q0 := mfScale sh b.1
  ((satS 24 i0, satS 24 q0, (satS 24 i0 != i0).toNat + (satS 24 q0 != q0).toNat), b.2)
/-- What the Prism makes of a response `i + jq` with its flags: gallery, counters and the record word (R112–R115, R125). -/
def State.keepResponse (s : State) (f : Fib) (x : Shot) (r : Response) (i q : Int) (step clip : Bool) : State :=
  let b := magBounds i q
  let m := s.pick b.1 b.2
  let mag := mag13 (s.get (PRISM_SCALE_MAG_SHIFT f)) m.1
  let ph := m.2.cordic i q
  let thr := ph.2.fadeThr f r.pos
  let fade := decide (mag * 8 < thr.1)
  let s2 := ((thr.2.respFlag f r.pos 0 (PRISM_CNT_STEP_COUNT f) step).respFlag f r.pos 1 (PRISM_CNT_CLIP_COUNT f) clip).respFlag
    f r.pos 2 (PRISM_CNT_FADE_COUNT f) fade
  let s3 := if x.gal.freeze || clip then s2
    else s2.galUpdate (refAddr f r.pos x.em.slot r.pol) 2 (s2.refInit f) fun v => refStep x.gal.alpha v mag
  let both := s3.prism[f].resp.any fun w => w.shot == r.shot && w.pos == r.pos && w.pol != r.pol.val
  let s4 := if both && x.gal.fadeAuto then
      let a := s3.readRef f r.pos x.em.slot 0
      let c := a.2.readRef f r.pos x.em.slot 1
      c.2.galUpdate (qualAddr f r.pos + 8) 2 0 fun _ => x.gal.ratio * (a.1 + c.1) / 512
    else s3
  let iqs := s.get (PRISM_SCALE_IQ_SHIFT f)
  let w := respWord (s.on (PRISM_CTRL_FMT f)) ph.1 mag (iq14 iqs i) (iq14 iqs q) step fade clip
  s4.setPrism f fun p => { p with
    resp := ⟨r.shot, r.pos, r.pol, w⟩ :: p.resp.filter fun o => decide (r.shot ≤ o.shot + 16) }
/-- The shot has launched, the position lies on the fibre, the response has not been formed, and every sample of its window
has come (R106, R111, R128). -/
def State.respDue (s : State) (f : Fib) (x : Shot) (r : Response) : Bool :=
  decide (r.pos ≤ s.pEnd f) && decide (r.pos < 131072)
  && !((s.prism[f]).resp.any fun w => w.shot == r.shot && w.pos == r.pos && w.pol == r.pol.val)
  && (match (s.rxf[f]).heard with | some n => decide ((s.mfWindowOf f x.em r.pos).2 ≤ n) | none => false)
/-- PRISM_RESPONSE (R105–R115): a response of a position and polarisation of a launched shot is formed from the samples of its
window, takes its flags, updates the gallery entry and waits for its landings. -/
def execPrismResponse (f : Fib) (r : Response) (s : State) : Host.Outcome State Fault Refusal :=
  .next (s.onFab <| match (s.rxf[f]).shots.find? fun x => x.shot == r.shot with
    | some x =>
      if s.respDue f x r then
        let w := s.mfWindowOf f x.em r.pos
        let z := s.mfOutput f x.em r.pos r.pol
        (z.2.mfSat f z.1.2.2).keepResponse f x r z.1.1 z.1.2.1 ((s.rxf[f]).touches w.1 w.2 fun y => y.stepRay)
          ((s.rxf[f]).touches w.1 w.2 fun y => y.clipped [0, 1, 2, 3])
      else s
    | none => s)

/-! ### Captured Brillouin shots (R120) -/

/-- Address of a capture buffer. -/
def brilBase (f b : Nat) : Nat := 0x2D00000 + 0x100000 * f + 0x80000 * b
/-- The 5 ns step that holds position grid 0 of a captured shot. -/
def State.brilGrid0 (s : State) (f : Nat) (em : Emission) : Int := interval (s.gridAt f em.time 0)
/-- Stored sample `i` of a captured shot: the Brillouin pair mixed by −BAND_CTR MHz from 0 at the launch, filtered, decimated
by 5, rounded and saturated to 16 bits (R120). -/
def State.brilSample (s : State) (f : Fib) (em : Emission) (i : Nat) : Int × Int :=
  let z := filterAt Config.brilPass ((s.rxf[f]).pairAt 2) (fun n => -(s.get (PRISM_BRIL_CTRL_BAND_CTR f) : Rat) / 1000 * ((n : Rat) - em.time))
    (s.brilGrid0 f em + i)
  (satS 16 (roundHalfUp z.1), satS 16 (roundHalfUp z.2))
/-- How many samples of a captured shot can be formed: the filter of each has heard its last input. -/
def State.brilReady (s : State) (f : Fib) (em : Emission) : Nat :=
  match (s.rxf[f]).heard with
  | some n => min 131072 ((n - 127) / 5 - s.brilGrid0 f em + 1).toNat
  | none => 0
/-- Store the samples of a capture that can be formed by now. -/
def State.storeCapture (s : State) (f : Fib) (c : Capture) : State :=
  (List.range (s.brilReady f c.em - c.stored)).foldl (fun t j =>
    let z := s.brilSample f c.em (c.stored + j)
    t.writeRange (brilBase f c.buffer + 4 * (c.stored + j)) (bytesLE 2 (bitsOf 16 z.1) ++ bytesLE 2 (bitsOf 16 z.2))) s
/-- The Brillouin section takes the samples of a 5 ns interval: those it can form are stored, and a CLIP sample is kept with
its grid position (R120, R121). -/
def State.brilTake (s : State) (f : Fib) (iv : Int) (clip : Bool) : State :=
  ((s.prism[f]).caps.foldl (fun t c => t.storeCapture f c) s).setPrism f fun p => { p with
    caps := p.caps.map fun (c : Capture) =>
      let i := iv - s.brilGrid0 f c.em
      { c with stored := max c.stored (s.brilReady f c.em), clips := if clip && decide (0 ≤ i) then i.toNat :: c.clips else c.clips } }

/-! ### Landings (R123–R127) -/

def landBase (k : Nat) : Nat := 0x2C00000 + 0x10000 * k
def landHalf (k h : Nat) : Nat := landBase k + 0x8000 * h
/-- The engine holds half `h`: handed over and not released. -/
def Landing.holds (l : Landing) (h : Nat) : Bool := (l.avail ++ l.taken).any (·.no == h)
def heldF (k h : Nat) : Fld := if h = 0 then PRISM_LANDk_STAT_H0_HELD k else PRISM_LANDk_STAT_H1_HELD k

/-- Halves leave the engine without being read: their records count as lost, and the LOST field of the next half that the
engine takes carries them and the counts of halves it never took (R154). -/
def State.loseHalves (s : State) (k : Fin 16) (hs : List Half) : State :=
  let n := (hs.map (·.recs)).sum
  let untaken := (((s.land[k]).avail.filter fun h => hs.contains h).map (·.lost)).sum
  (hs.foldl (fun t h => t.set (heldF k h.no) 0) (s.incBy (PRISM_LANDk_LOST_COUNT k) n)).setLand k fun l => { l with
    lost := l.lost + n + untaken
    avail := l.avail.filter fun h => !hs.contains h
    taken := l.taken.filter fun h => !hs.contains h }

/-- LANDING_HALF_HANDOVER (R126, R127, R154): the open half's header is written and the half is the engine's; an engine that
is not RUNNING releases it at once. -/
def State.handHalf (s : State) (f : Fib) (k : Fin 16) (flushed : Bool) : State :=
  let l := s.land[k]
  let a := landHalf k l.half
  let seq := s.get (PRISM_LANDk_STAT_SEQ k)
  let h : Half := ⟨l.half, (l.bytes - 16 * l.runs) / 8, l.lost⟩
  let s1 := s.writeRange a (wordsLE [seq + l.bytes * 2 ^ 16, l.runs + flushed.toNat * 2 ^ 16, l.lost, 0, 0, 0, 0, 0])
  let s2 := ((s1.set (PRISM_LANDk_STAT_SEQ k) (seq + 1)).set (heldF k l.half) 1).set (PRISM_LANDk_STAT_OPEN k) (1 - l.half)
  let s3 := (s2.pmonAdd (0x31 + f.val) 1 0).setLand k fun l => { l with
    half := 1 - l.half, bytes := 0, runs := 0, firstAt := none, lost := 0, avail := l.avail ++ [h] }
  if s3.get (ENG_DEk_STAT_STATE k) = 1 then s3 else s3.loseHalves k [h]

/-- Drop a run while both halves are held (R127). -/
def State.dropRun (s : State) (f : Fib) (k : Fin 16) (n : Nat) : State :=
  (((s.incBy (PRISM_LANDk_LOST_COUNT k) n).raise (PRISM_FLAGS_LAND_LOSS f) 1).pmonAdd 0x33 n 0).setLand k fun l => { l with lost := l.lost + n }

/-- The positions a landing receives: the engine's span with its gauge margin, within the fibre (R30, R124). -/
def State.landSpan (s : State) (f : Fib) (k : Fin 16) : Nat × Nat :=
  (s.get (ENG_DEk_SPAN_LO_FIRST k) - s.gaugeLo f, min (s.get (ENG_DEk_SPAN_HI_LAST k) + s.gaugeHi f) (s.pEnd f))
/-- The next run of a shot for a landing: first position, count, and whether it is the last; it ends at the 64-position boundary
or at the span's end (R124). -/
def State.nextRun (s : State) (f : Fib) (k : Fin 16) (shot : Nat) : Option (Nat × Nat × Bool) :=
  let sp := s.landSpan f k
  let a := ((s.land[k].progress.find? (·.1 == shot)).map (·.2)).getD sp.1
  let z := min sp.2 (a / 64 * 64 + 63)
  if sp.2 < a then none else some (a, z + 1 - a, z == sp.2)

/-- The run's header and records (R124, R125); none while a response of it is missing. -/
def State.runWords (s : State) (f : Fib) (shot first count : Nat) (last : Bool) : Option (List Nat) :=
  match (s.sq f).info.find? fun i => i.shot == shot && !i.skipped with
  | none => none
  | some i =>
    let word := fun (p pol : Nat) => (s.prism[f].resp.find? fun w => w.shot == shot && w.pos == p && w.pol == pol).map (·.word)
    let recs := (List.range count).map fun j => (word (first + j) 0, word (first + j) 1)
    if recs.all fun q => q.1.isSome && q.2.isSome then
      let ph := phase64 i.phase
      some ([shot % 2 ^ 32,
        i.slot + (s.get (PRISM_CTRL_FMT f)) * 2 ^ 3 + i.sched.toNat * 2 ^ 4 + i.holdover.toNat * 2 ^ 5 + last.toNat * 2 ^ 6
          + first * 2 ^ 8 + (count - 1) * 2 ^ 25, lo32 ph, hi32 ph]
        ++ recs.flatMap fun q => [q.1.getD 0, q.2.getD 0])
    else none

/-- Write a run's words into the open half. -/
def State.putRun (s : State) (k : Fin 16) (ws : List Nat) : State :=
  let l := s.land[k]
  (s.writeRange (landHalf k l.half + 32 + l.bytes) (wordsLE ws)).setLand k fun l => { l with
    bytes := l.bytes + 4 * ws.length, runs := l.runs + 1, firstAt := l.firstAt.orElse fun _ => some s.cyc }

/-- The run goes into the open half; a full half is handed over first, and while both halves are held the run is dropped
(R127). -/
def State.landRun (s : State) (f : Fib) (k : Fin 16) (n : Nat) (ws : List Nat) : State :=
  let l := s.land[k]
  if l.holds l.half then s.dropRun f k n
  else if l.bytes + 4 * ws.length ≤ 32736 then s.putRun k ws
  else
    let s1 := s.handHalf f k false
    if s1.land[k].holds s1.land[k].half then s1.dropRun f k n else s1.putRun k ws
/-- LANDING_RUN_WRITE (R124, R127): the next run of a shot, written once its responses are there. -/
def execLandingRunWrite (k : Fin 16) (shot : Nat) (s : State) : Host.Outcome State Fault Refusal :=
  let src := s.get (ENG_ASSIGN_SRC k)
  let f : Fib := if src = 1 then 0 else 1
  .next (s.onFab <| if src = 0 then s else
    match s.nextRun f k shot with
    | none => s
    | some (a, n, last) =>
      match s.runWords f shot a n last with
      | none => s
      | some ws => (s.landRun f k n ws).setLand k fun l => { l with
          progress := (shot, a + n) :: l.progress.filter fun q => q.1 != shot && decide (shot ≤ q.1 + 512) })

/-- LANDING_FLUSH_TIMEOUT (R127): PRISM_LAND_FLUSH cycles after its first run the open half is handed over, if the other
half is free. -/
def execLandingFlushTimeout (k : Fin 16) (s : State) : Host.Outcome State Fault Refusal :=
  let l := s.land[k]
  let f : Fib := if s.get (ENG_ASSIGN_SRC k) = 2 then 1 else 0
  .next (s.onFab <| match l.firstAt with
    | some t => if decide (t + s.get (PRISM_LAND_FLUSH_CYCLES f) ≤ s.cyc) && !l.holds (1 - l.half) then s.handHalf f k true else s
    | none => s)

/-! ### Gallery operations (R117, R118) -/

/-- Who keeps the galleries of a fibre busy: GAL_INIT or QCLR (R118, R327). -/
def State.galOwner (s : State) (f : Fib) : Option Nat :=
  match s.prism[f].galOp with
  | some .init => some (ownerOf 4 f.val)
  | some (.qclr _) => some (ownerOf 5 f.val)
  | none => none
def State.startGal (s : State) (f : Fib) (op : GalOp) : State :=
  (s.set (galBusyF f) 1).setPrism f fun p => { p with galOp := some op, galAt := s.cyc }
/-- GAL_INIT (R117): accepted while the sequencer is IDLE and no gallery operation runs. -/
def execGalInit (f : Fib) (s : State) : Host.Outcome State Fault Refusal :=
  .next (s.onReg 3 <| if s.seqState f = 0 ∧ (s.galOwner f).isNone then s.startGal f .init else s)
/-- The galleries at their initial values, valid and idle: every word takes its value at the end of the initialisation, with
the PRISM_REF_INIT of that cycle (log entry 62). -/
def State.finishGalInit (s : State) (f : Fib) : State :=
  ((((s.fillWords (galBase f) 524288 (s.refInit f)).fillWords (galBase f + 0x400000) 262144 0).set (galValidF f) 1).set (galBusyF f) 0).setPrism f
    fun p => { p with galOp := none }
/-- GAL_INIT_COMPLETE (R117). -/
def execGalInitComplete (f : Fib) (s : State) : Host.Outcome State Fault Refusal :=
  .next (s.onFab <| if s.prism[f].galOp = some .init ∧ s.prism[f].galAt + 98304 ≤ s.cyc then s.finishGalInit f else s)
/-- QCLR (R118): accepted in any sequencer state while no gallery operation runs. -/
def execQclr (f : Fib) (s : State) : Host.Outcome State Fault Refusal :=
  .next (s.onReg 3 <| if (s.galOwner f).isNone then s.startGal f (.qclr 0) else s)
/-- One cycle of a quality clear zeroes the counts of the next four entries (R118). -/
def State.tickQclr (s : State) (f : Fib) : State :=
  match s.prism[f].galOp with
  | some (.qclr n) =>
    if n < 131072 then
      ((List.range 4).foldl (fun t i => t.writeWord (qualAddr f (n + i)) 0) s).setPrism f fun p => { p with galOp := some (.qclr (n + 4)) }
    else s
  | _ => s
/-- QCLR_COMPLETE (R118). -/
def execQclrComplete (f : Fib) (s : State) : Host.Outcome State Fault Refusal :=
  .next (s.onFab <| match s.prism[f].galOp with
    | some (.qclr n) =>
      if 131072 ≤ n then (s.set (galBusyF f) 0).setPrism f fun p => { p with galOp := none } else s
    | _ => s)

/-! ### Opcodes (R130) -/

def prismConfig (s : State) (ps : List Nat) : CmdRes :=
  let f := fibP ps
  if s.seqState f ≠ 0 then .denied
  else if fld (par ps 1) 0 2 = 3 ∨ 4095 < par ps 3 then .bad
  else .ok ((((((s.set (PRISM_CTRL_MF_WIN f) (fld (par ps 1) 0 2)).set (PRISM_CTRL_FMT f) (fld (par ps 1) 2 1)).set (PRISM_SCALE_MF_SHIFT f) (fld (par ps 2) 0 5)).set
    (PRISM_SCALE_MAG_SHIFT f) (fld (par ps 2) 8 4)).set (PRISM_SCALE_IQ_SHIFT f) (fld (par ps 2) 16 4)).set (PRISM_LAND_FLUSH_CYCLES f) (par ps 3))
/-- PRISM_CONFIG (R130). -/
def execPrismConfig (c : CmdIn) (s : State) : Host.Outcome State Fault Refusal :=
  .next (runCmd 0x30 3 (fun _ => [1, 7, 0x000F0F1F, full]) prismConfig c s)

def prismGallery (s : State) (ps : List Nat) : CmdRes :=
  let f := fibP ps
  if 15 < par ps 1 ∨ 255 < par ps 3 then .bad
  else .ok ((((s.set (PRISM_GAL_CTRL_ALPHA f) (par ps 1)).set (PRISM_GAL_CTRL_FREEZE f) (fld (par ps 2) 0 1)).set
    (PRISM_GAL_CTRL_FADE_AUTO f) (fld (par ps 2) 1 1)).set (PRISM_GAL_CTRL_FADE_RATIO f) (par ps 3))
/-- PRISM_GALLERY (R130). -/
def execPrismGallery (c : CmdIn) (s : State) : Host.Outcome State Fault Refusal :=
  .next (runCmd 0x31 3 (fun _ => [1, full, 3, full]) prismGallery c s)

def prismGalInit (s : State) (ps : List Nat) : CmdRes :=
  let f := fibP ps
  if s.seqState f ≠ 0 then .denied
  else match s.galOwner f with
    | some o => .busyWith o
    | none => .ok ((s.set (PRISM_REF_INIT_VALUE f) (par ps 1)).startGal f .init)
/-- PRISM_GAL_INIT (R117, R130). -/
def execPrismGalInit (c : CmdIn) (s : State) : Host.Outcome State Fault Refusal :=
  .next (runCmd 0x32 3 (fun _ => [1, 0xFFFF]) prismGalInit c s)

def prismQclear (s : State) (ps : List Nat) : CmdRes :=
  match s.galOwner (fibP ps) with
  | some o => .busyWith o
  | none => .ok (s.startGal (fibP ps) (.qclr 0))
/-- PRISM_QCLEAR (R118, R130). -/
def execPrismQclear (c : CmdIn) (s : State) : Host.Outcome State Fault Refusal :=
  .next (runCmd 0x33 3 (fun _ => [1]) prismQclear c s)

def prismBril (s : State) (ps : List Nat) : CmdRes :=
  let f := fibP ps
  let v := par ps 1
  if s.seqState f ≠ 0 then .denied
  else if fld v 4 9 < 100 ∨ 400 < fld v 4 9 then .bad
  else .ok (((((s.set (PRISM_BRIL_CTRL_EN f) (fld v 0 1)).set (PRISM_BRIL_CTRL_SLOT f) (fld v 1 3)).set (PRISM_BRIL_CTRL_BAND_CTR f) (fld v 4 9)).set
    (PRISM_BRIL_CTRL_DIV f) (fld v 16 8)).set (PRISM_BRIL_CTRL_BSHIFT f) (fld v 24 5))
/-- PRISM_BRIL (R130). -/
def execPrismBril (c : CmdIn) (s : State) : Host.Outcome State Fault Refusal :=
  .next (runCmd 0x34 3 (fun _ => [1, 0x1FFF1FFF]) prismBril c s)

/-- Loss of compression gain in 0.01 dB, 1,000 × log10(M_f / 1,024) to the nearest, 0 without truncation (R109). -/
def mfLoss (mf : Nat) : Nat :=
  ((List.range 400).filter fun n => decide (1 ≤ n) && decide (10 ^ (2 * n - 1) * 1024 ^ 2000 ≤ mf ^ 2000)).length
def prismMfInfo (s : State) (ps : List Nat) : CmdRes :=
  let f := fibP ps
  if 15 < par ps 1 ∨ !s.codeOk f (par ps 1) then .bad
  else
    let t := mfTaps (s.get (RXF_PCODE_LEN_LEN f (par ps 1)))
    .data s [t.2.1, t.2.2, mfLoss t.1]
/-- PRISM_MF_INFO (R109, R130). -/
def execPrismMfInfo (c : CmdIn) (s : State) : Host.Outcome State Fault Refusal :=
  .next (runCmd 0x35 3 (fun _ => [1, full]) prismMfInfo c s)

def prismGetStatus (s : State) (ps : List Nat) : CmdRes :=
  let f := fibP ps
  let o := 0x1000 + 0x1000 * f.val
  .data s ([s.rawReg 3 0, s.rawReg 3 (o + 0x34)] ++ ((List.range 7).map fun i => s.rawReg 3 (o + 0x18 + 4 * i))
    ++ (s.fedBy f).flatMap fun k => [s.rawReg 3 (0x3000 + 0x10 * k), s.rawReg 3 (0x3004 + 0x10 * k)])
/-- PRISM_GET_STATUS (R130). -/
def execPrismGetStatus (c : CmdIn) (s : State) : Host.Outcome State Fault Refusal :=
  .next (runCmd 0x36 3 (fun _ => [1]) prismGetStatus c s)

end Sys2Proof.Machine
end

