-- ==== Sys2Proof/Machine/Pfil.lean ====
section
/-! DEFINITION. The corner turn and the position filter: frames of the engines, brick rows and tile sets (R131–R133), the
filter's streams, settling and fades (R137–R146), and its opcodes (R151, R511). -/

namespace Sys2Proof.Machine
open Reg

/-! ### Corner-turn staging (R131, R132, R168, R169) -/

def stagingBase (f : Nat) : Nat := 0x3000000 + 0x100000 * f
/-- Where sample (position `q`, frame `i`) lies in staging: like the brick it goes to (log entry 13). -/
def stagingAddr (f q i : Nat) : Nat := stagingBase f + 8 * q + 2 * (i % 4)
/-- Bricks of a row: those that hold a position below N (R132). -/
def State.nBricks (s : State) (f : Nat) : Nat := cdiv (s.readN f) 8
/-- A brick row opens with every sample absent (R168, R132). -/
def State.openRow (s : State) (f : Nat) : State :=
  s.writeRange (stagingBase f) ((List.replicate (32 * s.nBricks f) (bytesLE 2 0x8000)).flatten)

/-- The first start of a run after the one being gathered. -/
def nextStart (runs : List Nat) (cur : Option Nat) : Option Nat :=
  runs.reverse.find? fun r => match cur with | none => true | some c => decide (c < r)
/-- Number of the first shot that a RUNNING engine of the fibre has not closed; without one, of the first not launched
(R168). -/
def State.closedTo (s : State) (f : Fib) : Nat :=
  match ((s.fedBy f).filter fun k => s.get (ENG_DEk_STAT_STATE k) == 1).map fun k =>
      match (s.eng[Fin.ofNat 16 k]).closedShot with | some n => n + 1 | none => 0 with
  | [] => (s.sq f).shotNo - (s.sq f).handed.length
  | n :: l => l.foldl min n
/-- RT0 turns to the next run once every frame of the present one has closed and its whole brick rows are written. -/
def State.enterRun (s : State) (f : Fib) : State :=
  let p := s.pfil[f]
  let go := fun (r : Nat) => (s.openRow f).setPfil f fun p => { p with
    run := some r, rowBase := 0, closed := 0, brick := 0, marks := [], owed := [], first := true }
  match p.run, nextStart p.runs p.run with
  | none, some r => go r
  | some c, some r => if c + p.closed = r ∧ p.closed < p.rowBase + 4 then go r else s
  | _, none => s
/-- The mark of a shot's frame (R139). -/
def State.markOf (s : State) (f : Fib) (shot : Nat) : Mark :=
  let t := (s.pfil[f].starts.find? (·.1 == shot)).map (·.2)
  match (s.sq f).info.find? (·.shot == shot) with | some i => ⟨i.phase, i.sched, i.holdover, t⟩ | none => ⟨0, true, false, t⟩
/-- FRAME_CLOSE (R168): every frame that can close closes; staging holds the four frames of one row. -/
def State.closeFrames (s : State) (f : Fib) : State :=
  if s.on (SEQ_CTRL_UNEVEN f) then s else
    let s1 := s.enterRun f
    let p := s1.pfil[f]
    match p.run with
    | none => s1
    | some r =>
      let top := match nextStart p.runs p.run with | some n => min (s1.closedTo f) n | none => s1.closedTo f
      let n := min (top - r) (p.rowBase + 4)
      (s1.setPfil f fun p => { p with
        closed := max p.closed n, marks := p.marks ++ (List.range (n - p.closed)).map fun j => s1.markOf f (r + p.closed + j) }).enterRun f
/-- What staging does with samples of a shot: none where it has no room; otherwise the frame they go to, none where they
are too late. -/
def State.frameSlot (s : State) (f : Fib) (shot : Nat) : Option (Option Nat) :=
  let p := s.pfil[f]
  match p.run with
  | none => some none
  | some r =>
    if shot < r + p.closed then some none
    else match nextStart p.runs p.run with
      | some n => if n ≤ shot ∨ r + p.rowBase + 4 ≤ shot then none else some (some (shot - r))
      | none => if r + p.rowBase + 4 ≤ shot then none else some (some (shot - r))
/-- Store eight samples from position `q` on in frame `i`; positions at or beyond N are not kept. -/
def State.stageSamples (s : State) (f : Nat) (q i : Nat) (v : List Nat) : State :=
  { s with mem := (List.range 8).foldl (fun m j => if q + j < s.readN f then putBytes (stagingAddr f (q + j) i) (bytesLE 2 (v.getD j 0)) m else m) s.mem }

/-! ### Bricks and tile sets (R131–R133) -/

def State.setBytes (s : State) (f : Nat) : Nat := cdiv (s.readN f) 256 * 32768
def State.brickAddr (s : State) (f buf row b : Nat) : Nat := s.ctBase f + buf * s.setBytes f + b / 32 * 32768 + (row * 32 + b % 32) * 64
/-- The bytes of a brick as RT0 reads them from staging: an uncorrectable word becomes four absent samples (R388). -/
def State.stagedBrick (s : State) (f b : Nat) : List Byte × State :=
  (List.range 8).foldl (fun (p : List Byte × State) j =>
    let r := p.2.readWord (.rt 0) (stagingBase f + 64 * b + 8 * j)
    (p.1 ++ bytesLE 8 (if r.1.2 then 0x8000800080008000 else r.1.1), r.2)) ([], s)
/-- Write brick rows whose frames were discarded: every sample absent (R133). -/
def State.writeOwed (s : State) (f buf : Nat) (rows : List Nat) : State :=
  rows.foldl (fun t r => (List.range (s.nBricks f)).foldl (fun u b =>
    u.writeDram (.rt 0) (s.brickAddr f buf r b) (List.replicate 32 (bytesLE 2 0x8000)).flatten) t) s
/-- The filter still reads a buffer, or has a set there to read. -/
def PfilRun.busy (p : PfilRun) (buf : Nat) : Bool :=
  (match p.reading with | some (b, _) => b == buf | none => false) || p.ready.any (·.buf == buf)
/-- A brick row is done; with the last row of a tile set the set is the filter's. -/
def State.endRow (s : State) (f : Fib) : State :=
  let s1 := (s.openRow f).setPfil f fun p => { p with rowBase := p.rowBase + 4, brick := 0 }
  let p := s1.pfil[f]
  if p.rowBase % 64 = 0 then
    s1.setPfil f fun p => { p with
      ready := p.ready ++ [⟨(p.rowBase / 64 + 1) % 2, p.marks, p.first, p.owed⟩], marks := [], owed := [], first := false }
  else s1
/-- BRICK_WRITE (R132, R133): once the four frames of a row have closed its bricks go to DRAM, or the frames are discarded
while the filter still has the buffer. A full RT0 FIFO leaves the frames in the staging area (R370). -/
def execBrickWrite (f : Fib) (s : State) : Host.Outcome State Fault Refusal :=
  .next (s.onFab <|
    let s1 := s.closeFrames f
    let p := s1.pfil[f]
    if p.run.isNone || decide (p.closed < p.rowBase + 4) then s1
    else
      let buf := p.rowBase / 64 % 2
      let row := p.rowBase % 64 / 4
      if s1.rtFull (s1.ctBase f) 0 true then s1
      else if p.brick = 0 && p.busy buf then
        ((((s1.incBy (PFIL_CT_OVERRUN_COUNT f) 4).raise (PFIL_FLAGS_OVERRUN f) 1).setPfil f fun p => { p with owed := p.owed ++ [row] }).endRow f).closeFrames f
      else
        let r := s1.stagedBrick f p.brick
        let s2 := r.2.writeDram (.rt 0) (s.brickAddr f buf row p.brick) r.1
        if p.brick + 1 < s.nBricks f then s2.setPfil f fun p => { p with brick := p.brick + 1 }
        else (s2.endRow f).closeFrames f)

/-! ### Streams (R137–R142) -/

/-- A stream's rate settings, stair stages and positions, while it is in force. -/
structure StreamCfg where
  rates : RateSet
  positions : List Nat
  spacing : Nat
  first : Nat

def State.streamCfg (s : State) (f : Fib) (i : Fin 17) : Option StreamCfg :=
  if i.val = 0 then
    some ⟨s.mainRates f, (List.range (cdiv (s.readN f) (s.spacing f))).map (· * s.spacing f), s.get (PFIL_CTRL_SPACING f), 0⟩
  else (s.pfil[f].streams[i]).loupe.map fun d =>
    ⟨⟨d.k, d.rate, d.qn, d.qd⟩, (List.range d.len).map (d.start + ·), 0, d.start⟩
/-- A stream's frames are produced. -/
def State.streamOn (s : State) (f : Fib) (i : Fin 17) : Bool :=
  if i.val = 0 then s.on (PFIL_CTRL_EN f) else s.on (PFIL_LPL_CTRL_EN f (i.val - 1)) && (s.pfil[f].streams[i]).loupe.isSome
def settleF (f : Nat) (i : Nat) : Fld := if i = 0 then PFIL_STATUS_SETTLING f else PFIL_LPL_STATUS_SETTLING f (i - 1)
def State.setStream (s : State) (f : Fib) (i : Fin 17) (g : PStream → PStream) : State :=
  let s1 := s.setPfil f fun p => { p with streams := p.streams.set i (g (p.streams[i])) }
  s1.setB (settleF f i) ((s1.pfil[f].streams[i]).settle != 0)
/-- Give a stream the STEP of its settings at the period of the run: exact, and as held, in FREE mode rounded to 2^-32 (R137). -/
def State.setStep (s : State) (f : Fib) (i : Fin 17) : State :=
  match s.streamCfg f i with
  | some c =>
    let st := s.stepOf f (s.page f) c.rates (s.pfil[f]).runT
    s.setStream f i fun t => { t with
      exact := st, step := if s.on (PFIL_CTRL_MODE f) then st else (roundHalfUp (st * 2 ^ 32) : Rat) / 2 ^ 32 }
  | none => s
/-- Restart the settling of a stream (R140, R142). -/
def State.resettle (s : State) (f : Fib) (i : Fin 17) : State :=
  match s.streamCfg f i with
  | some c => s.setStream f i fun t => { t with settle := settleN c.rates.k (s.get (PFIL_FIR_TAPS f)) t.exact }
  | none => s
def allStreams : List (Fin 17) := List.finRange 17
def State.resettleAll (s : State) (f : Fib) : State := allStreams.foldl (fun t i => t.resettle f i) s
/-- Start a stream's resampling and settling afresh, its history from frame `since` on. -/
def State.restartStream (s : State) (f : Fib) (i : Fin 17) (since : Nat) : State :=
  ((s.setStream f i fun t => { t with v := none, since := since, fir := [] }).setStep f i).resettle f i
/-- A run begins in the filter: the STEP of every stream is computed at its tracked period and held (R137). -/
def State.runStep (s : State) (f : Fib) (t : Rat) : State :=
  allStreams.foldl (fun u i => u.setStep f i) (s.setPfil f fun p => { p with runT := t })

/-! ### Fades (R143, R144) -/

/-- Start a fade to the other bank, or change bank at once for L = 0. -/
def State.startFade (s : State) (f : Fib) (l : Nat) : State :=
  let s1 := s.set (PFIL_STATUS_BANK f) (1 - s.get (PFIL_STATUS_BANK f))
  if l = 0 then s1.resettleAll f
  else ((s1.set (PFIL_STATUS_FADING f) 1).set (PFIL_FADE_POS f) 0).set (PFIL_FADE_LEN f) l
/-- A swap held behind a fade starts (R144). -/
def State.startHeld (s : State) (f : Fib) : State :=
  match s.pfil[f].heldSwap with
  | some l => ((s.set (PFIL_STATUS_SWAP_HELD f) 0).setPfil f fun p => { p with heldSwap := none }).startFade f l
  | none => s
/-- A fade completes; a held swap that fades follows it, one that changes bank at once waits for the next FIR sample (R143,
R144). -/
def State.endFade (s : State) (f : Fib) : State :=
  let s1 := ((s.set (PFIL_STATUS_FADING f) 0).set (PFIL_FADE_POS f) 0).set (PFIL_FADE_LEN f) 0
  if s.pfil[f].heldSwap = some 0 then s1 else s1.startHeld f
/-- A main-stream FIR sample advances a running fade; with none running, a held swap starts. -/
def State.fadeStep (s : State) (f : Fib) : State :=
  if s.on (PFIL_STATUS_FADING f) then
    let j := s.get (PFIL_FADE_POS f) + 1
    if s.get (PFIL_FADE_LEN f) ≤ j then s.endFade f else s.set (PFIL_FADE_POS f) j
  else s.startHeld f

/-- SYNC_APPLY (R141): histories are zeroed, the resampler restarts, a fade completes at once. -/
def State.applySync (s : State) (f : Fib) (first : Bool) : State :=
  let s1 := if s.on (PFIL_STATUS_FADING f) then s.endFade f else s
  let s2 := (s1.inc (PFIL_SYNC_CNT_COUNT f)).setPfil f fun p => { p with
    hist := [], count := 0, syncReq := false, syncRun := p.syncRun && !first }
  allStreams.foldl (fun t i => t.restartStream f i 0) (s2.setB (PFIL_STATUS_SYNC_PEND f) (s2.pfil[f].syncRun))

/-! ### Processing a tile set (R139, R147) -/

/-- The definition that a loupe region's registers give. -/
def State.loupeDef (s : State) (f l : Nat) : Option LoupeDef :=
  if s.on (PFIL_LPL_CTRL_EN f l) then
    some ⟨s.get (PFIL_LPL_START_START f l), s.get (PFIL_LPL_LEN_LEN f l), s.get (PFIL_LPL_CTRL_K f l), s.get (PFIL_LPL_RATE_RATE f l),
      s.get (PFIL_LPL_LOCK_QN f l), s.get (PFIL_LPL_LOCK_QD f l)⟩
  else none
/-- An enable or redefinition of a region takes effect at a tile set (R146). -/
def State.applyLoupes (s : State) (f : Fib) : State :=
  allStreams.foldl (fun t i =>
    if i.val = 0 then t else
      let d := t.loupeDef f (i.val - 1)
      if (t.pfil[f].streams[i]).loupe = d then t
      else (t.setStream f i fun x => { x with loupe := d }).restartStream f i (t.pfil[f].count)) s
/-- RT1 reads a tile set: the frames of one brick row, a DRAM word for each position (R131, R380). -/
def State.readRow (s : State) (f : Fib) (buf row : Nat) : List (List (BitVec 16)) × State :=
  let r := (List.range (s.readN f)).foldl (fun (p : List Nat × State) q =>
    let x := p.2.readDram (.rt 1) (s.brickAddr f buf row (q / 8) + 8 * (q % 8))
    ((if x.1.2 then 0x8000800080008000 else x.1.1) :: p.1, x.2)) ([], s)
  ((List.range 4).map fun j => r.1.reverse.map fun w => BitVec.ofNat 16 (w / 2 ^ (16 * j)), r.2)
def State.readTiles (s : State) (f : Fib) (t : TileSet) : List InFrame × State :=
  let r := (List.range 16).foldl (fun (p : List (List (BitVec 16)) × State) row =>
    let x := p.2.readRow f t.buf row
    (p.1 ++ x.1, x.2)) ([], s)
  ((r.1.zip t.marks).map fun q => ⟨q.1, q.2⟩, r.2)

/-- RT1 reads the filter state and rewrites it: a corrected word counts, and an uncorrectable one leaves the outputs of an
affected position, a free choice, absent for one filter window (R52, R380; log entry 8). -/
def State.readHistory (s : State) (f : Fib) : State :=
  let lo := s.stBase f
  let hi := s.stBase f + 1024 * s.stKib f
  let s1 := (s.ecc.filter fun e => decide (lo ≤ e.1) && decide (e.1 < hi)).foldl (fun t e =>
    if e.2 then
      let p := (t.dramUe (.rt 1) e.1).pick 0 (s.readN f - 1)
      p.2.setPfil f fun x => { x with hist := match x.hist with
        | h :: r => { h with samples := h.samples.set p.1 0x8000 } :: r
        | [] => [] }
    else t.dramCe e.1) s
  { s1 with mem := kclear lo hi s1.mem, ecc := kclear lo hi s1.ecc }

/-- TILE_SET_PROCESS (R141, R146, R147): the filter starts on the oldest tile set, applying a SYNC and loupe changes; a run
that does not continue the previous one brings its tracked period (R137). -/
def execTileSetProcess (f : Fib) (s : State) : Host.Outcome State Fault Refusal :=
  .next (s.onFab <| match s.pfil[f].reading, s.pfil[f].ready with
    | none, t :: rest =>
      if t.owed.isEmpty then
        let s0 := (s.readHistory f).setPfil f fun p => { p with
          runT := if t.first then ((t.marks.head?).bind (·.began)).getD p.runT else p.runT }
        let s1 := if t.first || s.pfil[f].syncReq then s0.applySync f t.first else s0
        let r := (s1.applyLoupes f).readTiles f t
        r.2.setPfil f fun p => { p with ready := rest, reading := some (t.buf, r.1) }
      else s
    | _, _ => s)

/-- The frame of index `i` since SYNC in the history. -/
def PfilRun.frameAt (p : PfilRun) (i : Nat) : Option InFrame := if i < p.count then p.hist[p.count - 1 - i]? else none
/-- The fractional index of a stream's first output (R137): in FREE mode where u is whole, in LOCKED mode at the first grid
phase. -/
def State.firstOut (s : State) (f : Fib) (c : StreamCfg) (since : Nat) : Rat :=
  let d : Rat := (gd2 c.rates.k (s.get (PFIL_FIR_TAPS f)) : Rat) / 2
  let m : Rat := (2 ^ c.rates.k : Nat)
  if s.on (PFIL_CTRL_MODE f) then
    let ph := match s.pfil[f].frameAt since with | some x => x.mark.phase | none => 0
    let ofs : Rat := (s.get (PFIL_LOCK_OFS_OFS f) : Rat) / 2 ^ 32
    let g : Rat := (c.rates.qd : Rat) / c.rates.qn
    (since : Rat) + ((((ph - ofs) / g).ceil : Rat) * g + ofs - ph) * s.perCycle f (s.page f)
  else m * ((((since : Rat) + d) / m).ceil : Rat) - d
/-- Tap `j` of the halfband filter of a stair stage: 23 taps, linear phase, unity gain at DC (R134). -/
def halfbandTap (j : Nat) : Rat :=
  let d := if j ≤ 11 then 11 - j else j - 11
  if d = 0 then 1 / 2
  else if d % 2 = 0 then 0
  else if d = 11 then 1 / 4 - ((List.range 5).map Config.halfband).sum
  else Config.halfband (d / 2)
/-- Sample `n` behind `k` stair stages, each halving the rate, in units of 1/16 and within 20 bits (R134; the rounding is log
entry 12). -/
def stairSample (x : Int → Int) : Nat → Int → Int
  | 0, n => 16 * x n
  | k + 1, n => satS 20 (roundEven (((List.range 23).map fun j => halfbandTap j * (stairSample x k (2 * n - j) : Rat)).sum))
/-- The coefficients in force: those of the active bank, or the blend of a fade rounded to 18 bits (R135, R143); coefficients
from TAPS on are left out. -/
def State.firCoefs (s : State) (f : Nat) : List Int :=
  let b := s.get (PFIL_STATUS_BANK f)
  let l := s.get (PFIL_FADE_LEN f)
  let j := s.get (PFIL_FADE_POS f)
  (List.range (s.get (PFIL_FIR_TAPS f))).map fun i =>
    let hb := s.getI (PFIL_COEF f b i)
    if s.on (PFIL_STATUS_FADING f) then
      roundEven (((l : Rat) - j) / l * (s.getI (PFIL_COEF f (1 - b) i) : Rat) + (j : Rat) / l * (hb : Rat))
    else hb
/-- FIR sample `n`: the exact sum, rounded convergently to 1/16 and saturated to 20 bits (R135). -/
def firSample (h : List Int) (x : Int → Int) (k : Nat) (n : Int) : Int :=
  satS 20 (roundEven ((((h.zipIdx.map fun q => q.1 * stairSample x k (n - q.2)).sum : Int) : Rat) / 2 ^ 17))
/-- A coefficient of the resampler's table; branch 64 is branch 0 of the next sample (R136). -/
def branchTap (b j : Nat) : Rat := if b < 64 then Config.polyphase b j else if j = 0 then 0 else Config.polyphase 0 (j - 1)
/-- The FIR output sequence `y` at fractional index `u`: branch by bits [31:26] of the fraction, interpolated by bits [25:16],
rounded convergently to 16 bits and saturated to ±32,767 (R136, R45). -/
def resample (y : Int → Int) (u : Rat) : Int :=
  let n := u.floor
  let fr := ((u - (n : Rat)) * 2 ^ 32).floor.toNat
  let b := fr / 2 ^ 26
  let w : Rat := ((fr / 2 ^ 16 % 1024 : Nat) : Rat) / 1024
  limitTo 32767 (roundEven (((List.range 16).map fun j =>
    ((1 - w) * branchTap b j + w * branchTap (b + 1) j) * (y (n - 7 + j) : Rat)).sum / 16))
/-- The input of a position at frame `n` since SYNC; an absent sample and history from before `since` count as 0 (R54, R141). -/
def PfilRun.inputAt (p : PfilRun) (since q : Nat) (n : Int) : Int :=
  if n < since then 0
  else match p.frameAt n.toNat with
    | some x => if x.samples.getD q 0x8000 = 0x8000 then 0 else (x.samples.getD q 0x8000).toInt
    | none => 0
/-- Index of the newest FIR sample of a stream of `k` stages. -/
def PfilRun.newestFir (p : PfilRun) (k : Nat) : Int := ((p.count - 1) / 2 ^ k : Nat)
/-- The stream computes its FIR sample at an input frame that completes one (R135). -/
def State.firStep (s : State) (f : Fib) (i : Fin 17) : State :=
  match s.streamCfg f i with
  | some c =>
    let p := s.pfil[f]
    if (p.count - 1) % 2 ^ c.rates.k = 0 then
      let h := s.firCoefs f
      s.setStream f i fun t => { t with
        fir := (c.positions.map fun q => firSample h (p.inputAt t.since q) c.rates.k (p.newestFir c.rates.k)) :: t.fir.take 31 }
    else s
  | none => s
/-- FIR sample `n` of the stream's position number `j`; 0 before its history begins. -/
def PfilRun.firAt (p : PfilRun) (i : Fin 17) (k j : Nat) (n : Int) : Int :=
  let d := p.newestFir k - n
  if d < 0 then 0 else (((p.streams[i]).fir.getD d.toNat []).getD j 0)
/-- One output sample: absent where its window holds an absent one (R54). -/
def outSample (win : List InFrame) (p : Nat) (v : Int) : BitVec 16 :=
  if win.any fun x => x.samples.getD p 0x8000 == 0x8000 then 0x8000 else BitVec.ofInt 16 v
/-- Insert a frame among those of its fibre in the order of the instants they represent (R147). -/
def insertFrame (x : Frame) : List Frame → List Frame
  | [] => [x]
  | y :: t => if y.sid.fib = x.sid.fib ∧ y.sid.idx.val < 17 ∧ 0 < phaseDiff y.ts x.ts then x :: y :: t else y :: insertFrame x t
/-- The output of stream `i` at fractional index `v` (R139, R142). -/
def State.makeFrame (s : State) (f : Fib) (i : Fin 17) (c : StreamCfg) (v : Rat) : Frame :=
  let p := s.pfil[f]
  let st := p.streams[i]
  let taps := s.get (PFIL_FIR_TAPS f)
  let m := 2 ^ c.rates.k
  let u := (v + (gd2 c.rates.k taps : Rat) / 2) / (m : Nat)
  let newest := m * (u.floor.toNat + 8)
  let lo := max st.since (newest + 1 - filterW c.rates.k taps)
  let win := (List.range (newest + 1 - lo)).filterMap fun j => p.frameAt (lo + j)
  let a := v.floor.toNat
  let x := (p.frameAt a).getD ⟨[], ⟨0, true, false, none⟩⟩
  let y := (p.frameAt (a + 1)).getD x
  let settling := st.settle != 0
  { sid := ⟨f, ⟨i.val, by omega⟩⟩, frameNo := st.frameNo
    ts := phase64 (x.mark.phase + (v - (a : Rat)) * (y.mark.phase - x.mark.phase))
    settling := settling, sched := x.mark.sched || y.mark.sched, holdover := x.mark.holdover || y.mark.holdover
    lateFit := false, refStale := false, short := false, format := false
    spacing := c.spacing, first := c.first
    samples := if settling && s.on (PFIL_CTRL_SUPPRESS_SETTLING f) then c.positions.map fun _ => 0x8000
      else c.positions.zipIdx.map fun q => outSample win q.1 (resample (p.firAt i c.rates.k q.2) u)
    captures := 0 }
/-- One stream at one input frame: its output, if the window of the next one is complete. -/
def State.streamStep (s : State) (f : Fib) (i : Fin 17) : State :=
  match s.streamCfg f i with
  | none => s
  | some c =>
    let p := s.pfil[f]
    let st := p.streams[i]
    let v := st.v.getD (s.firstOut f c st.since)
    let u := (v + (gd2 c.rates.k (s.get (PFIL_FIR_TAPS f)) : Rat) / 2) / ((2 ^ c.rates.k : Nat) : Rat)
    if p.count ≤ st.since ∨ p.count ≤ 2 ^ c.rates.k * (u.floor.toNat + 8) then s
    else
      let s1 := if s.streamOn f i then
          let s2 := { s with out := { s.out with offered := insertFrame (s.makeFrame f i c v) s.out.offered } }
          (if i.val = 0 then s2.inc (PFIL_FRAMES_COUNT f) else s2).setStream f i fun t => { t with frameNo := (t.frameNo + 1) % 2 ^ 32 }
        else s
      s1.setStream f i fun t => { t with v := some (v + ((2 ^ c.rates.k : Nat) : Rat) * t.step), settle := t.settle - 1 }
/-- One input frame through the filter: a run that continues the previous one takes its STEP at its first frame (R137). -/
def State.filterFrame (s : State) (f : Fib) (x : InFrame) : State :=
  let n := s.pfil[f].count
  let s1 := s.setPfil f fun p => { p with hist := (x :: p.hist).take 14000, count := n + 1 }
  let s2 := match x.mark.began with | some t => if n = 0 then s1 else s1.runStep f t | none => s1
  let s3 := if n % 2 ^ s.get (PFIL_CTRL_K f) = 0 then s2.fadeStep f else s2
  allStreams.foldl (fun t i => (t.firStep f i).streamStep f i) s3
/-- Filter frames of the set being read until `stop` holds after one, or to its end. -/
def State.filterUntil (s : State) (f : Fib) (stop : State → Bool) : List InFrame → List InFrame × State
  | [] => ([], s)
  | x :: t => let s1 := s.filterFrame f x; if stop s1 then (t, s1) else s1.filterUntil f stop t

/-- FADE_COMPLETE (R143): the filter reaches the FIR sample at which the running fade completes. -/
def execFadeComplete (f : Fib) (s : State) : Host.Outcome State Fault Refusal :=
  .next (s.onFab <| match s.pfil[f].reading with
    | some (buf, frames) =>
      if s.on (PFIL_STATUS_FADING f) && decide (s.get (PFIL_FADE_LEN f) - s.get (PFIL_FADE_POS f) ≤ frames.length) then
        let r := s.filterUntil f (fun t => t.get (PFIL_FADE_POS f) = 0) frames
        r.2.setPfil f fun p => { p with reading := some (buf, r.1) }
      else s
    | none => s)

/-- TILE_SET_RELEASE (R147, R133): the rest of the tile set goes through the filter, its buffer is RT0's again, and bricks
of discarded frames that waited for it are written. -/
def execTileSetRelease (f : Fib) (s : State) : Host.Outcome State Fault Refusal :=
  .next (s.onFab <| match s.pfil[f].reading with
    | some (buf, frames) =>
      let s1 := (s.filterUntil f (fun _ => false) frames).2.setPfil f fun p => { p with reading := none }
      let p := s1.pfil[f]
      match p.ready.find? fun t => t.buf == buf && !t.owed.isEmpty with
      | some t => (s1.writeOwed f buf t.owed).setPfil f fun p => { p with ready := p.ready.map fun x => if x = t then { x with owed := [] } else x }
      | none => if p.rowBase / 64 % 2 = buf then (s1.writeOwed f buf p.owed).setPfil f fun p => { p with owed := [] } else s1
    | none => s)

/-- PFIL_SYNC_GO (R141): a write of PFIL_SYNC.GO requests a SYNC; while IDLE it has no effect. -/
def execPfilSyncGo (f : Fib) (s : State) : Host.Outcome State Fault Refusal :=
  .next (s.onReg 4 <| if s.seqState f = 0 then s else s.requestSync f)

/-! ### Opcodes (R151, R511) -/

/-- N_s of a stream for its settings. -/
def State.settleOf (s : State) (f : Nat) (r : RateSet) : Nat :=
  min (settleN r.k (s.get (PFIL_FIR_TAPS f)) (s.stepOf f (s.page f) r (s.trackedT false))) 0xFFFF
/-- 2D of the main stream. -/
def State.gdOf (s : State) (f : Nat) : Nat := gd2 (s.get (PFIL_CTRL_K f)) (s.get (PFIL_FIR_TAPS f))
/-- What is checked of one stream while IDLE (R138). -/
def State.idleRates (s : State) (f : Nat) (r : RateSet) (hi : Nat) : Bool :=
  decide (r.k ≤ 5) && decide (1 ≤ r.qn) && decide (1 ≤ r.qd)
  && (s.on (PFIL_CTRL_MODE f) || (decide (10000 ≤ r.rate) && decide (r.rate ≤ hi)))
/-- The checks of a filter configuration command on the state it would leave: what needs no reference while IDLE; otherwise
R138 of the stream `r` it configures, of a rate up to `hi`, and R145 where the command changes what the load depends on; the
status it is refused with. -/
def State.filterRefusal (t : State) (f : Fib) (stream : Option (RateSet × Rat)) (changed : Bool) : Option Nat :=
  let tt := t.trackedT false
  if !t.idleRates f (t.mainRates f) 2000000 || !(t.loupesOn f).all fun l => t.idleRates f (t.loupeRates f l) (2 ^ 24) then some stBadParam
  else if t.seqState f = 0 then none
  else if (match stream with | some (r, hi) => !t.streamOk f (t.page f) r tt hi | none => false) then some stBadParam
  else if changed && !t.on (SEQ_CTRL_UNEVEN f) && decide ((filterCap : Rat) < t.filterLoad f (t.fEff f (t.page f) tt)) then some stBudget
  else none
/-- PFIL_LOAD after an accepting check of R145; none is made while IDLE, or where nothing the load depends on changes. -/
def State.keepLoad (t : State) (f : Fib) (changed : Bool) : State :=
  if t.seqState f = 0 || !changed then t
  else t.setLoad f (if t.on (SEQ_CTRL_UNEVEN f) then 0 else t.filterLoad f (t.fEff f (t.page f) (t.trackedT false)))
/-- EN of the main stream; from 0 to 1 its frame numbers start at 0 (R44). -/
def State.setMainEn (s : State) (f : Fib) (en : Nat) : State :=
  (if !s.on (PFIL_CTRL_EN f) && en == 1 then s.setStream f 0 fun t => { t with frameNo := 0 } else s).set (PFIL_CTRL_EN f) en
/-- EN of a loupe region; from 0 to 1 its frame numbers start at 0, and at 0 the region is out of force at once (R44, R146). -/
def State.setLoupeEn (s : State) (f : Fib) (l en : Nat) : State :=
  let i : Fin 17 := Fin.ofNat 17 (l + 1)
  let s1 := if en = 0 then s.setStream f i fun t => { t with loupe := none, settle := 0 }
    else if s.on (PFIL_LPL_CTRL_EN f l) then s else s.setStream f i fun t => { t with frameNo := 0 }
  s1.set (PFIL_LPL_CTRL_EN f l) en

def pfilConfig (s : State) (ps : List Nat) : CmdRes :=
  let f := fibP ps
  let c := par ps 1
  let t := (((((((((s.setMainEn f (fld c 0 1)).set (PFIL_CTRL_SUPPRESS_SETTLING f) (fld c 1 1)).set (PFIL_CTRL_MODE f) (fld c 2 1)).set (PFIL_CTRL_K f) (fld c 4 3)).set
    (PFIL_CTRL_SPACING f) (fld c 8 2)).set (PFIL_FIR_TAPS f) (par ps 2)).set (PFIL_RATE_RATE f) (par ps 3)).set (PFIL_LOCK_QN f) (fld (par ps 4) 0 16)).set
    (PFIL_LOCK_QD f) (fld (par ps 4) 16 16)).set (PFIL_LOCK_OFS_OFS f) (par ps 5)
  let same := fun (x : Fld) => s.get x == t.get x
  if s.seqState f ≠ 0 ∧ !([PFIL_CTRL_SUPPRESS_SETTLING f, PFIL_CTRL_MODE f, PFIL_CTRL_K f, PFIL_FIR_TAPS f, PFIL_RATE_RATE f, PFIL_LOCK_QN f,
      PFIL_LOCK_QD f, PFIL_LOCK_OFS_OFS f].all same && decide (par ps 2 < 512) && decide (par ps 3 < 2 ^ 24)) then .denied
  else if par ps 2 < 1 ∨ 384 < par ps 2 ∨ 2 ^ 24 ≤ par ps 3 then .bad
  else
    let changed := !same (PFIL_CTRL_SPACING f)
    match t.filterRefusal f (some (t.mainRates f, 20000)) changed with
    | some st => .refuse st 0
    | none => .done stOk [t.gdOf f, t.settleOf f (t.mainRates f)] (t.keepLoad f changed)
/-- PFIL_CONFIG (R151, R138, R145). -/
def execPfilConfig (c : CmdIn) (s : State) : Host.Outcome State Fault Refusal :=
  .next (runCmd 0x40 4 (fun _ => [1, 0x377, full, full, full, full]) pfilConfig c s)

/-- A 40-bit base from its low and high words. -/
def baseOf (lo hi : Nat) : Nat := lo + hi * 2 ^ 32
/-- Two areas overlap. -/
def overlap (a n b m : Nat) : Bool := decide (a < b + m) && decide (b < a + n)
/-- A base is 4 KiB aligned and its area lies in installed memory of one channel. -/
def State.areaOk (s : State) (lo hi n : Nat) : Bool := lo % 4096 == 0 && decide (hi < 256) && s.inChannel (baseOf lo hi) n

def pfilMemSetup (s : State) (ps : List Nat) : CmdRes :=
  let f := fibP ps
  let nc := 1024 * s.ctKib f
  let ns := 1024 * s.stKib f
  if s.seqState f ≠ 0 then .denied
  else if s.areaOk (par ps 1) (par ps 2) nc && s.areaOk (par ps 3) (par ps 4) ns
      && !overlap (baseOf (par ps 1) (par ps 2)) nc (baseOf (par ps 3) (par ps 4)) ns then
    .done stOk [s.ctKib f, s.stKib f % 2 ^ 32] ((((s.set (PFIL_CT_BASE_LO_ADDR f) (par ps 1 / 4096)).set (PFIL_CT_BASE_HI_ADDR f) (par ps 2)).set
      (PFIL_ST_BASE_LO_ADDR f) (par ps 3 / 4096)).set (PFIL_ST_BASE_HI_ADDR f) (par ps 4))
  else .bad
/-- PFIL_MEM_SETUP (R131, R151). -/
def execPfilMemSetup (c : CmdIn) (s : State) : Host.Outcome State Fault Refusal :=
  .next (runCmd 0x41 4 (fun _ => [1, full, full, full, full]) pfilMemSetup c s)

/-- A coefficient word lies between −131,072 and +131,071 as a 32-bit value. -/
def coefOk (v : Nat) : Bool := v / 2 ^ 17 == 0 || v / 2 ^ 17 == 0x7FFF
def pfilCoefWrite (s : State) (ps : List Nat) : CmdRes :=
  let f := fibP ps
  let b := pageP ps
  if s.on (PFIL_STATUS_FADING f) || s.on (PFIL_STATUS_SWAP_HELD f) then .busyWith (ownerOf 3 f.val)
  else if 383 < par ps 1 ∨ 384 < par ps 1 + par ps 2 ∨ !(ps.drop 3).all coefOk then .bad
  else
    let t := (List.range (par ps 2)).foldl (fun t i => t.set (PFIL_COEF f b (par ps 1 + i)) (par ps (3 + i))) s
    .ok (if b = s.get (PFIL_STATUS_BANK f) then t.resettleAll f else t)
/-- PFIL_COEF_WRITE (R144, R150, R151). -/
def execPfilCoefWrite (c : CmdIn) (s : State) : Host.Outcome State Fault Refusal :=
  .next (runCmd 0x42 4 (fun ps => [3, full, full] ++ List.replicate (min (par ps 2) 500) full) pfilCoefWrite c s)

/-- While IDLE or ARMED the active bank is set at once: no fade runs and no swap is held any more (R144). -/
def State.swapNow (s : State) (f : Fib) (b : Nat) : State :=
  (((((s.set (PFIL_STATUS_BANK f) b).set (PFIL_STATUS_FADING f) 0).set (PFIL_FADE_POS f) 0).set (PFIL_FADE_LEN f) 0).set
    (PFIL_STATUS_SWAP_HELD f) 0).setPfil f fun p => { p with heldSwap := none }
def pfilSwap (s : State) (ps : List Nat) : CmdRes :=
  let f := fibP ps
  let b := pageP ps
  let l := par ps 1
  let cur := s.get (PFIL_STATUS_BANK f)
  if l ≠ 0 ∧ (l < 16 ∨ 4096 < l) then .bad
  else if b = cur then .already s
  else if s.seqState f ≤ 1 then .ok (s.swapNow f b)
  else if s.on (PFIL_STATUS_FADING f) || s.on (PFIL_STATUS_SWAP_HELD f) then
    let t := (s.set (PFIL_STATUS_SWAP_HELD f) 1).setPfil f fun p => { p with heldSwap := some l }
    .done stPending [] (if s.on (PFIL_STATUS_SWAP_HELD f) then t.raise (PFIL_FLAGS_SWAP_REPLACED f) 1 else t)
  else .ok (s.startFade f l)
/-- PFIL_SWAP (R144, R151). -/
def execPfilSwap (c : CmdIn) (s : State) : Host.Outcome State Fault Refusal :=
  .next (runCmd 0x43 4 (fun _ => [3, full]) pfilSwap c s)

def pfilSync (s : State) (ps : List Nat) : CmdRes :=
  let f := fibP ps
  if s.on (PFIL_STATUS_SYNC_PEND f) then .already s
  else if s.seqState f = 0 then .ok s
  else .ok (s.requestSync f)
/-- PFIL_SYNC (R141, R151). -/
def execPfilSync (c : CmdIn) (s : State) : Host.Outcome State Fault Refusal :=
  .next (runCmd 0x44 4 (fun _ => [1]) pfilSync c s)

def pfilLoupe (s : State) (ps : List Nat) : CmdRes :=
  let f := fibP ps
  let l := par ps 1
  if 15 < l then .bad else
    let t := ((((((s.setLoupeEn f l (fld (par ps 2) 0 1)).set (PFIL_LPL_CTRL_K f l) (fld (par ps 2) 1 3)).set (PFIL_LPL_START_START f l) (par ps 3)).set
      (PFIL_LPL_LEN_LEN f l) (par ps 4)).set (PFIL_LPL_RATE_RATE f l) (par ps 5)).set (PFIL_LPL_LOCK_QN f l) (fld (par ps 6) 0 16)).set
      (PFIL_LPL_LOCK_QD f l) (fld (par ps 6) 16 16)
    if 2 ^ 17 ≤ par ps 3 ∨ par ps 4 < 16 ∨ 16384 < par ps 4 ∨ 2 ^ 24 ≤ par ps 5 ∨ 5 < fld (par ps 2) 1 3 ∨ (bit (par ps 2) 0 ∧ !t.loupeSpanOk f l)
      ∨ !t.idleRates f (t.loupeRates f l) (2 ^ 24) then .bad
    else
      let changed := s.on (PFIL_LPL_CTRL_EN f l) != t.on (PFIL_LPL_CTRL_EN f l) || s.loupeDef f l != t.loupeDef f l
      let r := t.loupeRates f l
      match t.filterRefusal f (if bit (par ps 2) 0 then some (r, t.fEff f (t.page f) (t.trackedT false)) else none) changed with
      | some st => .refuse st 0
      | none => .done stOk [t.settleOf f r] (t.keepLoad f changed)
/-- PFIL_LOUPE (R41, R42, R146, R151). -/
def execPfilLoupe (c : CmdIn) (s : State) : Host.Outcome State Fault Refusal :=
  .next (runCmd 0x45 4 (fun _ => [1, full, 0xF, full, full, full, full]) pfilLoupe c s)

/-- Load and capacity in units of 10^6, the largest TAPS accepted and the slack in 0.01 % (R511). -/
def State.budget (s : State) (f : Fib) : List Nat :=
  let fe := s.fEff f (s.page f) (s.trackedT false)
  let unit := s.filterUnit f fe
  let load := s.filterLoad f fe
  [min (load / 1000000).floor.toNat 0xFFFFFFFF, filterCap / 1000000,
   ((List.range 385).filter fun (t : Nat) => decide (((t : Nat) : Rat) * unit ≤ (filterCap : Rat))).getLast?.getD 0,
   bitsOf 32 (10000 * (1 - load / (filterCap : Rat))).floor]
def pfilBudget (s : State) (ps : List Nat) : CmdRes :=
  let f := fibP ps
  if s.seqState f = 0 && !s.pageOk f (s.page f) (s.trackedT false) (s.on (SEQ_CTRL_UNEVEN f)) then .notReady
  else .data s (s.budget f)
/-- PFIL_BUDGET (R511, R151). -/
def execPfilBudget (c : CmdIn) (s : State) : Host.Outcome State Fault Refusal :=
  .next (runCmd 0x46 4 (fun _ => [1]) pfilBudget c s)

def pfilGetStatus (s : State) (ps : List Nat) : CmdRes :=
  let f := fibP ps
  let o := 0x1000 + 0x1000 * f.val
  .data s [s.rawReg 4 (o + 0x14), s.rawReg 4 (o + 0x18), s.rawReg 4 (o + 0x48), s.rawReg 4 (o + 0x1C), s.rawReg 4 (o + 0x4C), s.rawReg 4 (o + 0x50),
    s.rawReg 4 (o + 0x54)]
/-- PFIL_GET_STATUS (R151). -/
def execPfilGetStatus (c : CmdIn) (s : State) : Host.Outcome State Fault Refusal :=
  .next (runCmd 0x47 4 (fun _ => [1]) pfilGetStatus c s)

end Sys2Proof.Machine
end

