-- ==== Sys2Proof/Machine/Eng.lean ====
section
/-! DEFINITION. The demodulation engines but for their instructions: states, traps, DMA channels, quality reports, memory
initialisation and the engine opcodes (R152–R180). -/

namespace Sys2Proof.Machine
open Reg

/-! ### Accessors -/

def State.eg (s : State) (k : Fin 16) : Engine := s.eng[k]
def State.engState (s : State) (k : Nat) : Nat := s.get (ENG_DEk_STAT_STATE k)
def engStopped : Nat := 0
def engRunning : Nat := 1
def engHalted : Nat := 2
/-- Areas of an engine: X, Y and instruction memory (R23). -/
def engBase (k : Nat) : Nat := 0x2000000 + 0x50000 * k
def engMem (k mem : Nat) : Nat := engBase k + 0x20000 * mem
/-- 32-bit words of memory 0 X, 1 Y, 2 instruction. -/
def engMemWords (mem : Nat) : Nat := if mem = 2 then 16384 else 32768
def State.landSrc (s : State) (k : Nat) : Nat := s.get (ENG_ASSIGN_SRC k)
/-- The fibre that feeds an engine with a landing source. -/
def State.srcFib (s : State) (k : Nat) : Fib := if s.landSrc k = 2 then 1 else 0
def dmaBusyF (k ch : Nat) : Fld := if ch = 0 then ENG_DEk_DMA0_BUSY k else ENG_DEk_DMA1_BUSY k
def dmaDoneF (k ch : Nat) : Fld := if ch = 0 then ENG_DEk_DMA0_DONE k else ENG_DEk_DMA1_DONE k
def dmaHaltF (k ch : Nat) : Fld := if ch = 0 then ENG_DEk_DMA0_HALT k else ENG_DEk_DMA1_HALT k
def dmaCauseF (k ch : Nat) : Fld := if ch = 0 then ENG_DEk_DMA0_HCAUSE k else ENG_DEk_DMA1_HCAUSE k
/-- A channel's status in the layout of ENG_DEk_DMA0. -/
def State.dmaStat (s : State) (k ch : Nat) : Nat :=
  s.get (dmaBusyF k ch) + s.get (dmaDoneF k ch) * 2 + s.get (dmaHaltF k ch) * 4 + s.get (dmaCauseF k ch) * 16
/-- ENG_DEk_STAT (R179). -/
def State.engStat (s : State) (k : Fin 16) : Nat :=
  s.engState k + (if (s.eg k).stall = some .landing then 4 else 0)
  + (match (s.eg k).stall with | some (.dmaWait _) => 8 | _ => 0)
  + (s.land[k]).taken.length * 16 + (s.eg k).pc.toNat * 2 ^ 16
/-- ENG_STATUS: a bit for each engine in a state (R179). -/
def State.engBits (s : State) (st : Nat) : Nat := ((List.range 16).map fun k => if s.engState k = st then 2 ^ k else 0).sum

/-! ### DMA channels (R166, R167) -/

/-- Local address of word `j` of a transfer: contiguous, modulo 2^16 halfwords in the selected memory. -/
def dmaLocal (k : Nat) (d : DmaChan) (j : Nat) : Nat :=
  engMem k (d.laddr / 65536 % 2) + 2 * ((d.laddr % 65536 + 4 * j) % 65536)
/-- Remote address of word `j` of row `r`. -/
def dmaRemote (d : DmaChan) (r j : Nat) : Nat := (((d.raddr + 8 * j : Nat) : Int) + r * signedOf 32 d.rstride) % (2 ^ 40 : Int) |>.toNat
/-- The descriptor keeps R166. -/
def DmaChan.ok (d : DmaChan) : Bool :=
  d.laddr % 4 == 0 && d.raddr % 8 == 0 && d.count % 8 == 0 && decide (8 ≤ d.count) && decide (d.count ≤ 32768) && d.rstride % 8 == 0
def hcAddr : Nat := 1
def hcUe : Nat := 2
def hcDesc : Nat := 3
def hcStop : Nat := 4
/-- The engine whose instruction memory holds an address (R23). -/
def imemOf (a : Nat) : Option (Fin 16) :=
  match regionOf a with | .engine k off => if 0x40000 ≤ off then some (Fin.ofNat 16 k) else none | _ => none
/-- Write the words of a row from a remote address on; words in the instruction memory of the engine, which runs, have no
effect (R158). -/
def State.dmaPut (s : State) (m : Master) (a : Nat) (bs : List Byte) : State :=
  match regionOf a with
  | .engine _ _ => (List.range (bs.length / 8)).foldl (fun t j =>
      if (imemOf (a + 8 * j)).isSome then t else t.writeMem m (a + 8 * j) ((bs.drop (8 * j)).take 8)) s
  | _ => s.writeMem m a bs
/-- Move `n` words of row `r`, of which `w0` words came before: the halt cause, none where all have moved. -/
def State.dmaRow (s : State) (k : Fin 16) (ch : Fin 2) (d : DmaChan) (r w0 n : Nat) : Option Nat × State :=
  let m : Master := .dma k ch
  let rd := (List.range n).foldl (fun (p : Option Nat × List Byte × State) j =>
    match p with
    | (some c, bs, t) => (some c, bs, t)
    | (none, bs, t) =>
      let ra := dmaRemote d r j
      if !t.mayAccess m d.dir ra then (some hcAddr, bs, t.addrErr m ra)
      else
        let x := t.readMem m (if d.dir then dmaLocal k d (w0 + j) else ra)
        if x.1.2 then (some hcUe, bs, x.2) else (none, bs ++ bytesLE 8 x.1.1, x.2)) (none, [], s)
  let t := rd.2.2
  (rd.1, if d.dir then (if rd.2.1.isEmpty then t else t.dmaPut m (dmaRemote d r 0) rd.2.1)
    else (List.range (rd.2.1.length / 8)).foldl (fun u j => u.writeWord (dmaLocal k d (w0 + j)) (ofBytesLE ((rd.2.1.drop (8 * j)).take 8))) t)
/-- Words of a whole transfer. -/
def DmaChan.words (d : DmaChan) : Nat := (d.rows + 1) * (d.count / 8)
/-- Move the first `n` words of a transfer. -/
def State.dmaMove (s : State) (k : Fin 16) (ch : Fin 2) (n : Nat) : Option Nat × State :=
  let d := (s.eg k).dma[ch]
  let per := d.count / 8
  (List.range (d.rows + 1)).foldl (fun (p : Option Nat × State) r =>
    match p with
    | (some c, t) => (some c, t)
    | (none, t) => t.dmaRow k ch d r (r * per) (min per (n - r * per))) (none, s)
/-- A channel halts with a cause (R167). -/
def State.dmaHalt (s : State) (k : Fin 16) (ch : Fin 2) (cause : Nat) : State :=
  ((((s.set (dmaBusyF k ch) 0).set (dmaHaltF k ch) 1).set (dmaCauseF k ch) cause).raise ENG_FLAGS_DMA_HALT (2 ^ k.val))
/-- The engine has stopped: a BUSY channel halts at an 8-byte boundary not stated, with cause STOP (R153, R167). -/
def State.dmaStop (s : State) (k : Fin 16) (ch : Fin 2) : State :=
  if s.on (dmaBusyF k ch) then
    let n := s.pick 0 ((s.eg k).dma[ch]).words
    (n.2.dmaMove k ch n.1).2.dmaHalt k ch hcStop
  else s

/-! ### Stops and traps (R152–R154, R172) -/

/-- The engine leaves RUNNING; a post that waits for the alarm queue waits on (R171): its halves are released, its DMA channels stop and its fibre no longer awaits it. -/
def State.quitEngine (s : State) (k : Fin 16) (st : Nat) : State :=
  let l := s.land[k]
  let s1 := (((s.set (ENG_DEk_STAT_STATE k) st).loseHalves k (l.avail ++ l.taken)).dmaStop k 0).dmaStop k 1
  let s2 := s1.setEng k fun e => { e with stall := none }
  if s2.landSrc k = 0 then s2 else s2.closeFrames (s2.srcFib k)

def trIllegal : Nat := 1
def trMisalign : Nat := 2
def trIfetchUe : Nat := 3
def trDataUe : Nat := 4
def trLanding : Nat := 5
def trSpan : Nat := 6
def trLoop : Nat := 7
def trBreak : Nat := 8
def trDma : Nat := 9
/-- ENGINE_TRAP (R172): the cause, the instruction's address and the data address, if the cause involves one, as halfword
address and memory. -/
def State.engTrap (s : State) (k : Fin 16) (cause : Nat) (at_ : Option (Nat × Nat)) : State :=
  let s1 := (s.set (ENG_DEk_TRAP_CAUSE k) cause).set (ENG_DEk_TRAP_PC k) (s.eg k).pc.toNat
  let s2 := match at_ with | some (a, m) => (s1.set (ENG_DEk_TRAP_ADDR_ADDR k) a).set (ENG_DEk_TRAP_ADDR_MEM k) m | none => s1
  ((s2.raise ENG_FLAGS_TRAP (2 ^ k.val)).logEvent 0x0501 3 (s2.rawReg 5 (0x1008 + 0x100 * k.val)) k.val).quitEngine k engHalted

/-- Where the parameters of a default kernel lie, and their word 20, the kernel's version (R176, R205). -/
def paramAddr (k : Nat) : Nat := engMem k 1 + 0x1FF00
/-- ENG_START (R153): every register of the programming model clears and execution begins at address 0. A default kernel writes
its version; the strain-rate kernel of an engine with a landing source then waits for a half (R176). -/
def State.startEngine (s : State) (k : Fin 16) : State :=
  let l := s.land[k]
  let s1 := (((((s.loseHalves k (l.avail ++ l.taken)).set (ENG_DEk_TRAP_CAUSE k) 0).set (ENG_DEk_TRAP_PC k) 0).set
    (ENG_DEk_TRAP_ADDR_ADDR k) 0).set (ENG_DEk_TRAP_ADDR_MEM k) 0).set (ENG_DEk_STAT_STATE k) engRunning
  let s2 := if (s.eg k).kern.isSome then s1.writeNarrow (.engine k) (paramAddr k + 80) 4 (Config.kernelVersion k) else s1
  s2.setEng k fun e => { Engine.init with
    qreps := e.qreps, closedShot := e.closedShot, memInit := e.memInit, posts := e.posts, kern := e.kern.map fun _ => Kern.init
    stall := if e.kern.isSome && decide (k.val < 12) && s.landSrc k != 0 then some .landing else none }

/-- DEK_CTRL_START (R153): a write of START alone; on a RUNNING engine it has no effect. -/
def execDekCtrlStart (k : Fin 16) (s : State) : Host.Outcome State Fault Refusal :=
  .next (s.onReg 5 <| if s.engState k = engRunning then s else s.startEngine k)
/-- DEK_CTRL_STOP (R152, R153). -/
def execDekCtrlStop (k : Fin 16) (s : State) : Host.Outcome State Fault Refusal :=
  .next (s.onReg 5 <| if s.engState k = engStopped then s else s.quitEngine k engStopped)

/-- DMA_COMPLETE (R167): the transfer of a BUSY channel ends with DONE or with HALT; with HTRAP a halt traps the engine. -/
def execDmaComplete (k : Fin 16) (ch : Fin 2) (s : State) : Host.Outcome State Fault Refusal :=
  .next (s.onFab <| if s.on (dmaBusyF k ch) then
    let d := (s.eg k).dma[ch]
    match s.dmaMove k ch d.words with
    | (none, t) => (t.set (dmaBusyF k ch) 0).set (dmaDoneF k ch) 1
    | (some c, t) =>
      let u := t.dmaHalt k ch c
      if d.htrap then u.engTrap k trDma none else u
  else s)

/-- EXTERNAL_ACCESS_WAIT_EXPIRY (R158): the access takes the next cycle, in which a RUNNING engine issues nothing. -/
def execExternalAccessWaitExpiry (k : Fin 16) (s : State) : Host.Outcome State Fault Refusal :=
  .next (s.onFab <| if s.engState k = engRunning then s.setEng k fun e => { e with skip := true } else s)

/-- Zero the three memories of an engine (R159). -/
def State.zeroEngine (s : State) (k : Nat) : State := s.fillWords (engBase k) 40960 0
/-- MEMINIT_COMPLETE (R159): after 5,120 clk_fab cycles the memories are zero and the engine is STOPPED. -/
def execMeminitComplete (k : Fin 16) (s : State) : Host.Outcome State Fault Refusal :=
  .next (s.onFab <| match (s.eg k).memInit with
    | some t =>
      if t + 5120 ≤ s.cyc then
        let s1 := (s.zeroEngine k).setEng k fun e => { e with memInit := none, kern := none }
        if s.engState k = engHalted then s1.set (ENG_DEk_STAT_STATE k) engStopped else s1
      else s
    | none => s)

/-! ### Opcodes (R180) -/

/-- Kernel replacement is allowed (R174): the engine is STOPPED or HALTED, and the sequencer of its landing source is
IDLE (R32). -/
def State.kernelFree (s : State) (k : Nat) : Bool :=
  s.engState k != engRunning && (s.landSrc k == 0 || s.seqState (s.srcFib k) == 0)
/-- A word may be written where it lies: instruction memory under the condition of R174 alone (R32, R158). -/
def State.imemOpen (s : State) (a : Nat) : Bool := match imemOf a with | some k => s.kernelFree k | none => true
/-- A write to instruction memory replaces the default kernel (R174). -/
def State.replaceKernel (s : State) (a : Nat) : State :=
  match imemOf a with | some k => s.setEng k fun e => { e with kern := none } | none => s
/-- Landing source `b` may replace the present one of engine `k` (R32). -/
def State.assignOk (s : State) (k b : Nat) : Bool :=
  let idle := fun (x : Nat) => x == 0 || s.seqState (x - 1) == 0
  s.landSrc k == b || (idle (s.landSrc k) && idle b)
/-- The source that ENG_ASSIGN0 and ENG_ASSIGN1 words give engine `k`. -/
def assignOf (a0 a1 k : Nat) : Nat := if k < 8 then fld a0 (4 * k) 2 else fld a1 (4 * (k - 8)) 2

def engAssign (s : State) (ps : List Nat) : CmdRes :=
  let src := assignOf (par ps 1) (par ps 2)
  if !(List.range 16).all fun k => s.assignOk k (src k) then .denied
  else if (List.range 16).any fun k => src k == 3 then .bad
  else .ok ((List.range 16).foldl (fun t k => t.set (ENG_ASSIGN_SRC k) (src k)) s)
/-- ENG_ASSIGN (R180, R32). -/
def execEngAssign (c : CmdIn) (s : State) : Host.Outcome State Fault Refusal :=
  .next (runCmd 0x50 5 (fun _ => [0, 0x33333333, 0x33333333]) engAssign c s)

def engSpan (s : State) (ps : List Nat) : CmdRes :=
  let k := par ps 1
  if 15 < k then .bad
  else if s.landSrc k ≠ 0 ∧ s.seqState (s.srcFib k) ≠ 0 then .denied
  else if par ps 3 < par ps 2 ∨ 131071 < par ps 3 then .bad
  else .ok ((s.set (ENG_DEk_SPAN_LO_FIRST k) (par ps 2)).set (ENG_DEk_SPAN_HI_LAST k) (par ps 3))
/-- ENG_SPAN (R180). -/
def execEngSpan (c : CmdIn) (s : State) : Host.Outcome State Fault Refusal :=
  .next (runCmd 0x51 5 (fun _ => [0, full, full, full]) engSpan c s)

def engGauge (s : State) (ps : List Nat) : CmdRes :=
  let f := fibP ps
  if s.seqState f ≠ 0 then .denied
  else if par ps 1 < 2 ∨ 200 < par ps 1 then .bad
  else .ok (s.set (if f = 0 then ENG_GAUGE_GAUGE_A else ENG_GAUGE_GAUGE_B) (par ps 1))
/-- ENG_GAUGE (R180, R38). -/
def execEngGauge (c : CmdIn) (s : State) : Host.Outcome State Fault Refusal :=
  .next (runCmd 0x52 5 (fun _ => [1, full]) engGauge c s)

/-- A word range of an engine memory. -/
def engRangeOk (mem first n : Nat) : Bool := decide (mem ≤ 2) && decide (1 ≤ n) && decide (first + n ≤ engMemWords mem)
def engLoad (s : State) (ps : List Nat) : CmdRes :=
  let k := par ps 1
  if 15 < k then .bad
  else if par ps 2 = 2 ∧ !s.kernelFree k then .denied
  else if !engRangeOk (par ps 2) (par ps 3) (par ps 4) then .bad
  else
    let a := engMem k (par ps 2) + 4 * par ps 3
    .ok ((s.firmwareWrite a (ps.drop 5)).replaceKernel a)
/-- ENG_LOAD (R180, R174). -/
def execEngLoad (c : CmdIn) (s : State) : Host.Outcome State Fault Refusal :=
  .next (runCmd 0x53 5 (fun ps => [0, full, full, full, full] ++ List.replicate (min (par ps 4) 500) full) engLoad c s)

/-- Read `n` 32-bit words from a 4-byte aligned address: the words, and the first uncorrectable word's address. -/
def State.readWords (s : State) (m : Master) (a n : Nat) : (List Nat × Option Nat) × State :=
  (List.range n).foldl (fun (p : (List Nat × Option Nat) × State) i =>
    let b := a + 4 * i
    let r := p.2.readMem m (b / 8 * 8)
    ((p.1.1 ++ [r.1.1 / 2 ^ (8 * (b % 8)) % 2 ^ 32], if r.1.2 then p.1.2.orElse (fun _ => some b) else p.1.2), r.2)) (([], none), s)
def engRead (s : State) (ps : List Nat) : CmdRes :=
  let k := par ps 1
  if 15 < k ∨ !engRangeOk (par ps 2) (par ps 3) (par ps 4) ∨ 1024 < par ps 4 then .bad
  else
    let r := s.readWords .cmd (engMem k (par ps 2) + 4 * par ps 3) (par ps 4)
    match r.1.2 with
    | some _ => .done stFault [] r.2
    | none => .done stOk r.1.1 r.2
/-- ENG_READ (R180); an uncorrectable word ends it with FAULT (R321). -/
def execEngRead (c : CmdIn) (s : State) : Host.Outcome State Fault Refusal :=
  .next (runCmd 0x54 5 (fun _ => [0, full, full, full, full]) engRead c s)

def engStart (s : State) (ps : List Nat) : CmdRes :=
  if 15 < par ps 1 then .bad
  else if s.engState (par ps 1) = engRunning then .already s
  else .ok (s.startEngine (Fin.ofNat 16 (par ps 1)))
/-- ENG_START (R153, R180). -/
def execEngStart (c : CmdIn) (s : State) : Host.Outcome State Fault Refusal :=
  .next (runCmd 0x55 5 (fun _ => [0, full]) engStart c s)

def engStop (s : State) (ps : List Nat) : CmdRes :=
  if 15 < par ps 1 then .bad
  else if s.engState (par ps 1) = engStopped then .already s
  else .ok (s.quitEngine (Fin.ofNat 16 (par ps 1)) engStopped)
/-- ENG_STOP (R153, R180). -/
def execEngStop (c : CmdIn) (s : State) : Host.Outcome State Fault Refusal :=
  .next (runCmd 0x56 5 (fun _ => [0, full]) engStop c s)

def engMeminit (s : State) (ps : List Nat) : CmdRes :=
  if 15 < par ps 1 then .bad
  else if !s.kernelFree (par ps 1) then .denied
  else .ok (s.setEng (Fin.ofNat 16 (par ps 1)) fun e => { e with memInit := some s.cyc })
/-- ENG_MEMINIT (R159, R174, R180). -/
def execEngMeminit (c : CmdIn) (s : State) : Host.Outcome State Fault Refusal :=
  .next (runCmd 0x57 5 (fun _ => [0, full]) engMeminit c s)

/-- The parameter block as ENG_DEFAULT resets it: of the strain-rate kernel (R176), and of the fit kernel in DE12 and DE13
(R205); word 20 is the kernel's version. -/
def paramBlock (k : Nat) : List Nat :=
  if k < 12 then [0, 1550120, 1000] ++ List.replicate 17 0 ++ [Config.kernelVersion k] ++ List.replicate 43 0
  else [0, 10000, 250000, 20000, 0xE61A, 24, 64, 30, 0x1F4003E8] ++ List.replicate 11 0 ++ [Config.kernelVersion k] ++ List.replicate 43 0
/-- The default kernel with zeroed memories and its parameter block; the engine is STOPPED (R180). -/
def State.loadDefault (s : State) (k : Fin 16) : State :=
  let s1 := (s.zeroEngine k).writeRange (engMem k 2) ((List.range 8192).flatMap fun i => bytesLE 8 (Config.kernelWord k i))
  ((s1.writeRange (paramAddr k) (wordsLE (paramBlock k))).set (ENG_DEk_STAT_STATE k) engStopped).setEng k fun e => { e with
    kern := some Kern.init }
def engDefault (s : State) (ps : List Nat) : CmdRes :=
  if 13 < par ps 1 then .bad
  else if !s.kernelFree (par ps 1) then .denied
  else .done stOk [Config.kernelVersion (par ps 1) % 2 ^ 32] (s.loadDefault (Fin.ofNat 16 (par ps 1)))
/-- ENG_DEFAULT (R174, R176, R180). -/
def execEngDefault (c : CmdIn) (s : State) : Host.Outcome State Fault Refusal :=
  .next (runCmd 0x58 5 (fun _ => [0, full]) engDefault c s)

def engGetStatus (s : State) (ps : List Nat) : CmdRes :=
  let k := par ps 1
  if 15 < k then .bad
  else .data s [s.engStat (Fin.ofNat 16 k), s.rawReg 5 (0x1008 + 0x100 * k), s.rawReg 5 (0x100C + 0x100 * k), s.dmaStat k 0, s.dmaStat k 1,
    s.get (ENG_DEk_ALARMS_COUNT k), s.get (ENG_DEk_ASTALL_COUNT k), s.get (ENG_DEk_QREPS_COUNT k)]
/-- ENG_GET_STATUS (R180). -/
def execEngGetStatus (c : CmdIn) (s : State) : Host.Outcome State Fault Refusal :=
  .next (runCmd 0x59 5 (fun _ => [0, full]) engGetStatus c s)

end Sys2Proof.Machine
end

