-- ==== Sys2Proof/Machine/Kernel.lean ====
section
/-! DEFINITION. The default strain-rate kernel of DE0–DE11 as a whole (R38, R39, R52, R53, R174–R177): the words of its program
are not given, so while it is in the instruction memory the engine takes a landing half at a time through it (log entry 14). -/

namespace Sys2Proof.Machine
open Reg

/-- Take the oldest half handed over (R163). -/
def State.takeHalf (s : State) (k : Fin 16) : State :=
  match (s.land[k]).avail with
  | h :: t => (s.setLand k fun l => { l with avail := t, taken := l.taken ++ [h] }).setEng k fun e => { e with lp := 0 }
  | [] => s
/-- Release the current half (R164). -/
def State.dropHalf (s : State) (k : Fin 16) : State :=
  match (s.land[k]).taken with
  | h :: t => (s.set (heldF k h.no) 0).setLand k fun l => { l with taken := t }
  | [] => s
/-- Post an alarm: it enters the alarm queue, or waits behind earlier posts until the queue accepts it (R171). -/
def State.postAlarm (s : State) (k : Fin 16) (ws : List Nat) : State :=
  if s.alarmRoom (3 + k.val) && (s.eg k).posts.isEmpty then (s.inc (ENG_DEk_ALARMS_COUNT k)).enterAlarm 0x11 (s.landSrc k) k (ws ++ [0, 0, 0]) 0
  else s.setEng k fun e => { e with posts := e.posts ++ [(s.landSrc k, ws)] }
/-- Apply a quality report to the gallery (R116, R170). -/
def State.applyReport (s : State) (r : QReport) : State :=
  if r.kind = 0 then s.qualCount r.fib r.pos 3
  else s.galUpdate (qualAddr r.fib r.pos + 8) 4 0 fun v => if r.kind = 1 then v ||| 0x10000 else v &&& 0xFFFEFFFF
/-- The kernel posts a report, which the gallery takes at once. -/
def State.postReport (s : State) (k : Fin 16) (kind pos : Nat) : State :=
  (s.inc (ENG_DEk_QREPS_COUNT k)).applyReport ⟨kind, s.srcFib k, pos⟩

def State.kernOf (s : State) (k : Fin 16) : Kern := (s.eg k).kern.getD Kern.init
def State.setKern (s : State) (k : Fin 16) (g : Kern → Kern) : State := s.setEng k fun e => { e with kern := e.kern.map g }

/-! ### Runs -/

/-- A record word is excluded: Q_CLIP or Q_FADE (R53, R125). -/
def wordOut (fmt w : Nat) : Bool := bit w 31 || bit w (if fmt = 1 then 15 else 30)
/-- The runs of a half: header and records (R124). -/
def runsOf : Nat → List Nat → List (List Nat × List (Nat × Nat))
  | 0, _ => []
  | n + 1, ws =>
    if ws.length < 4 then []
    else
      let h := ws.take 4
      let c := fld (h.getD 1 0) 25 6 + 1
      let r := (ws.drop 4).take (2 * c)
      (h, (List.range c).map fun j => (r.getD (2 * j) 0, r.getD (2 * j + 1) 0)) :: runsOf n (ws.drop (4 + 2 * c))
/-- Put a run with its shot, in the order of shot numbers. -/
def gatherRun (h : List Nat) (rs : List (Nat × Nat)) : List KShot → List KShot
  | l =>
    let w1 := h.getD 1 0
    let shot := h.getD 0 0
    let old := (l.find? (·.shot == shot)).getD ⟨shot, fld w1 0 3, h.getD 2 0, h.getD 3 0, fld w1 3 1, false, []⟩
    let new := { old with
      last := old.last || bit w1 6
      recs := rs.zipIdx.foldl (fun m q => kput (fld w1 8 17 + q.2) q.1 m) old.recs }
    (l.filter fun x => decide (x.shot < shot)) ++ [new] ++ l.filter fun x => decide (shot < x.shot)

/-! ### Phases and samples -/

/-- A phase change in turns into (−½, ½] (step 3 of the list after R174). -/
def wrapTurn (x : Rat) : Rat := x - ((x - 1 / 2).ceil : Rat)
/-- The phase of a position's responses in a shot, none where all are excluded; the kernel reads REF of each that is not. -/
def State.combined (s : State) (k : Fin 16) (x : KShot) (q : Nat) (r : Nat × Nat) : Option Rat × State :=
  let f := (s.srcFib k).val
  let p := [(r.1, 0), (r.2, 1)].foldl (fun (p : List (Nat × Nat) × State) (w : Nat × Nat) =>
    if wordOut x.fmt w.1 then p
    else
      let a := refAddr f q x.slot w.2
      let v := p.2.readMem (.dma k 0) (align8 a)
      (p.1 ++ [(w.1, v.1.1 / 2 ^ (8 * (a % 8)) % 65536)], v.2)) ([], s)
  (if p.1.isEmpty then none else some (Config.combine x.fmt p.1), p.2)
/-- The phase change of one end of a gauge since the last shot of its sequence; none for a first shot. -/
inductive EndPhase where
  | excluded
  | first
  | step (d : Rat)
  deriving DecidableEq, Repr
/-- The phase changes of a shot's positions; the kernel's sequences go on (steps 1–3 of the list after R174). -/
def State.shotPhases (s : State) (k : Fin 16) (x : KShot) : KMap EndPhase × State :=
  x.recs.foldl (fun (p : KMap EndPhase × State) (e : Nat × (Nat × Nat)) =>
    let c := p.2.combined k x e.1 e.2
    match c.1 with
    | none => (kput e.1 .excluded p.1, c.2)
    | some v =>
      let past := (kget e.1 (c.2.kernOf k).past).getD []
      let th := v - Config.slotPhase past x.slot
      let d := match kget e.1 (c.2.kernOf k).theta with | some o => EndPhase.step (wrapTurn (th - o)) | none => .first
      (kput e.1 d p.1, c.2.setKern k fun y => { y with past := kput e.1 ((x.slot, v) :: past) y.past, theta := kput e.1 th y.theta })) ([], s)
/-- The strain rate of a phase difference in turns, in units of SR_LSB, rounded and saturated: ε̇ = Δφ × f_eff × λ /
(4π × ξ × n_g × L_g), ξ = 0.78, n_g × L_g = g × c × 2.5 ns (R38, R45); none where SR_LSB is 0. -/
def State.strain (s : State) (f : Fib) (lambda lsb : Nat) (d : Rat) : Option Int :=
  if lsb = 0 ∨ s.gauge f = 0 then none
  else some (limitTo 32767 (roundHalfUp (d * s.fEff f (s.page f) (s.trackedT false) * lambda /
    (2 * (78 / 100) * s.gauge f * (299792458 * (25 / 10000000000)) * lsb))))
/-- A sample: its value, and whether no response of an end was left (R53). -/
structure KSample where
  pos : Nat
  val : Nat
  noResp : Bool
  deriving DecidableEq, Repr
/-- The position has no room for its gauge (R39). -/
def State.isEdge (s : State) (f : Fib) (p : Nat) : Bool := decide (p < s.gaugeLo f) || decide (s.pEnd f < p + s.gaugeHi f)
/-- A sample in range that the spec does not state. -/
def State.freeSample (s : State) : Nat × State :=
  let d := s.pick 0 65534
  (bitsOf 16 ((d.1 : Int) - 32767), d.2)
/-- The vibration sample of a position in a shot: from the phases at p − h_lo and p + h_hi (R38); 0x8000 at an edge (R39) and
where every response of an end is excluded or missing (R53, R127). -/
def State.kernelSample (s : State) (f : Fib) (ps : List Nat) (ph : KMap EndPhase) (p : Nat) : KSample × State :=
  if s.isEdge f p then (⟨p, 0x8000, false⟩, s)
  else match kget (p - s.gaugeLo f) ph, kget (p + s.gaugeHi f) ph with
    | some (.step a), some (.step b) =>
      match s.strain f (ps.getD 1 0) (ps.getD 2 0) (b - a) with
      | some v => (⟨p, bitsOf 16 v, false⟩, s)
      | none => let d := s.freeSample; (⟨p, d.1, false⟩, d.2)
    | some .excluded, _ => (⟨p, 0x8000, true⟩, s)
    | _, some .excluded => (⟨p, 0x8000, true⟩, s)
    | none, _ => (⟨p, 0x8000, true⟩, s)
    | _, none => (⟨p, 0x8000, true⟩, s)
    | _, _ => let d := s.freeSample; (⟨p, d.1, false⟩, d.2)
/-- Output positions of an engine. -/
def State.outPositions (s : State) (k : Fin 16) : List Nat :=
  let lo := s.get (ENG_DEk_SPAN_LO_FIRST k)
  (List.range (min (s.get (ENG_DEk_SPAN_HI_LAST k) + 1) (s.readN (s.srcFib k)) - lo)).map (lo + ·)

/-! ### Phase windows (R177) -/

/-- Take a new set of parameters when PGEN has changed; windows newly enabled are armed (R176, R177). -/
def Kern.take (x : Kern) (ps : List Nat) : Kern :=
  if x.params.head? = ps.head? then x
  else { x with
    params := ps
    armed := Vector.ofFn fun w => x.armed[w] || (bit (ps.getD 3 0) w.val && !bit (x.params.getD 3 0) w.val) }
/-- The valid samples of window `w`, in order of position. -/
def windowOf (ps : List Nat) (w : Nat) (xs : List KSample) : List (Nat × Int) :=
  xs.filterMap fun x =>
    if decide (ps.getD (4 + 4 * w) 0 ≤ x.pos) && decide (x.pos ≤ ps.getD (5 + 4 * w) 0) && x.val != 0x8000 then some (x.pos, signedOf 16 x.val) else none
/-- What a shot does to an enabled window: whether it is armed after it, and the position of its alarm (R177). -/
def windowStep (ps : List Nat) (w : Nat) (armed : Bool) (xs : List KSample) : Bool × Option Nat :=
  let lo := signedOf 16 (fld (ps.getD (6 + 4 * w) 0) 0 16)
  let hi := signedOf 16 (fld (ps.getD (6 + 4 * w) 0) 16 16)
  let h : Int := ps.getD (7 + 4 * w) 0
  let vs := windowOf ps w xs
  if armed then
    match vs.find? fun v => decide (v.2 < lo) || decide (hi < v.2) with
    | some v => (false, some v.1)
    | none => (true, none)
  else (vs.all fun v => decide (lo + h ≤ v.2) && decide (v.2 ≤ hi - h), none)
/-- The windows after a shot, and the alarms it raises. -/
def State.runWindows (s : State) (k : Fin 16) (x : KShot) (xs : List KSample) : State :=
  let ps := (s.kernOf k).params
  (List.finRange 4).foldl (fun (t : State) (w : Fin 4) =>
    if bit (ps.getD 3 0) w.val then
      let r := windowStep ps w.val (t.kernOf k).armed[w] xs
      let u := t.setKern k fun y => { y with armed := y.armed.set w r.1 }
      match r.2 with
      | some p => u.postAlarm k [x.shot, p + (0x10 + w.val) * 2 ^ 24, x.lfrac, x.lcyc]
      | none => u
    else t) s

/-! ### A shot, and a half -/

/-- EDGE reports where the edges have moved since the last ones (R39, R116). -/
def State.reportEdges (s : State) (k : Fin 16) : State :=
  let f := s.srcFib k
  let now := (s.gaugeLo f, s.pEnd f - s.gaugeHi f)
  let old := (s.kernOf k).edges
  if old = some now then s
  else
    let was := fun (p : Nat) => match old with | some e => decide (p < e.1) || decide (e.2 < p) | none => false
    ((s.outPositions k).foldl (fun t p =>
      if s.isEdge f p then (if was p then t else t.postReport k 1 p)
      else if was p then t.postReport k 2 p else t) s).setKern k fun y => { y with edges := some now }
/-- Store a sample in frame `i` of staging. -/
def State.stageOne (s : State) (f i : Nat) (x : KSample) : State :=
  { s with mem := putBytes (stagingAddr f x.pos i) (bytesLE 2 x.val) s.mem }
/-- The kernel outputs a shot: parameters, samples, reports, frame, windows and frame close; `slot` is its frame, none where it
comes too late or is discarded (R53, R168, R169, R176, R177). -/
def State.kernelOut (s : State) (k : Fin 16) (x : KShot) (ps : List Nat) (slot : Option Nat) : State :=
  let f := s.srcFib k
  let s1 := (s.setKern k fun y => (y.take ps)).reportEdges k
  let ph := s1.shotPhases k x
  let r := (s1.outPositions k).foldl (fun (q : List KSample × State) p =>
    let v := q.2.kernelSample f (s1.kernOf k).params ph.1 p
    (q.1 ++ [v.1], v.2)) ([], ph.2)
  let s2 := match slot with | some i => r.1.foldl (fun (t : State) v => t.stageOne f i v) r.2 | none => r.2
  let s3 := r.1.foldl (fun (t : State) v => if v.noResp then t.postReport k 0 v.pos else t) s2
  ((s3.runWindows k x r.1).setEng k fun e => { e with closedShot := some (max (e.closedShot.getD 0) x.shot) }).closeFrames f
/-- The parameters as the kernel reads them: the words, and the halfword address of an uncorrectable one (R176). -/
def State.readParams (s : State) (k : Fin 16) : (List Nat × Option Nat) × State :=
  let r := s.readWords (.engine k) (paramAddr k) 20
  ((r.1.1, r.1.2.map fun a => (a - engMem k 1) / 2), r.2)
/-- Output every shot up to the last whole one, while staging has room; then wait for the alarm queue or for a half. -/
def State.kernelRun (s : State) (k : Fin 16) : Nat → State
  | 0 => s
  | n + 1 =>
    let xs := (s.kernOf k).shots
    match xs with
    | x :: rest =>
      if xs.any (·.last) then
        let f := s.srcFib k
        let s1 := if s.on (SEQ_CTRL_UNEVEN f) then s else s.enterRun f
        match (if s.on (SEQ_CTRL_UNEVEN f) then some none else s1.frameSlot f x.shot) with
        | none => s1.setEng k fun e => { e with stall := some .frameOut }
        | some slot =>
          let p := s1.readParams k
          match p.1.2 with
          | some a => p.2.engTrap k trDataUe (some (a, 1))
          | none => ((p.2.kernelOut k x p.1.1 slot).setKern k fun y => { y with shots := rest }).kernelRun k n
      else s.setEng k fun e => { e with stall := some (if e.posts.isEmpty then .landing else .alarm) }
    | [] => s.setEng k fun e => { e with stall := some (if e.posts.isEmpty then .landing else .alarm) }
/-- Go on with the shots gathered. -/
def State.kernelGo (s : State) (k : Fin 16) : State :=
  (s.setEng k fun e => { e with stall := none }).kernelRun k ((s.kernOf k).shots.length + 1)
/-- The kernel takes a half, gathers its runs, releases it and outputs what is whole (R127, R174). -/
def State.kernelHalf (s : State) (k : Fin 16) : State :=
  let s1 := s.takeHalf k
  match (s1.land[k]).taken with
  | [] => s
  | h :: _ =>
    let a := landHalf k h.no
    let w := s1.readWords (.engine k) a 8
    let n := w.1.1.getD 0 0 / 2 ^ 16 / 4
    let r := w.2.readWords (.engine k) (a + 32) n
    match w.1.2.orElse fun _ => r.1.2 with
    | some b => r.2.engTrap k trDataUe (some (b - a, 3))
    | none =>
      let live := (runsOf n r.1.1).filter fun q => match (s.eg k).closedShot with | some c => decide (c < q.1.getD 0 0) | none => true
      ((r.2.dropHalf k).setKern k fun y => { y with shots := live.foldl (fun l q => gatherRun q.1 q.2 l) y.shots }).kernelGo k

end Sys2Proof.Machine
end

