-- ==== Sys2Proof/Machine/EngIsa.lean ====
section
/-! DEFINITION. The instructions of the demodulation engines (R181–R193): fetch, the four formats, parallel moves, hardware
loops, what each instruction does, and the events that let a stalled instruction go on. -/

namespace Sys2Proof.Machine
open Reg

/-! ### Fields of an instruction word (R181) -/

def opOf (w : Nat) : Nat := w / 2 ^ 56 % 256
def gdOf (w : Nat) : Fin 16 := Fin.ofNat 16 (fld w 52 4)
def gsOf (w : Nat) : Fin 16 := Fin.ofNat 16 (fld w 48 4)
def gtOf (w : Nat) : Fin 16 := Fin.ofNat 16 (fld w 44 4)
def immOf (w : Nat) : Nat := w % 2 ^ 32
def qOf (w : Nat) : Nat := fld w 39 5
/-- Target of a format C instruction. -/
def tgtOf (w : Nat) : Nat := fld w 32 13
/-- Reserved fields of the formats are 0 (R182). -/
def okS (w : Nat) : Bool := fld w 32 11 == 0
def okC (w : Nat) : Bool := fld w 46 2 == 0 && ((opOf w == 0x1F && bit w 45) || immOf w == 0)
def okL (w : Nat) : Bool := fld w 0 27 == 0 && fld w 49 2 != 3 && fld w 43 2 != 3

/-- What an instruction does when it issues: it traps with a cause and a data address, it stalls, it completes with the
next address of R193 or with a target, or it stops the engine. -/
inductive Issue where
  | trap (cause : Nat) (at_ : Option (Nat × Nat)) (s : State)
  | stall (why : Stall) (s : State)
  | next (s : State)
  | jump (target : Nat) (s : State)
  | stop (s : State)

/-- An undefined or illegal instruction (R182). -/
def Issue.illegal (s : State) : Issue := .trap trIllegal none s
/-- An instruction whose encoding is legal. -/
def Issue.legal (ok : Bool) (s : State) (i : Issue) : Issue := if ok then i else .illegal s

/-! ### Sequencing (R193) -/

/-- The next address after `y`, and the loop stack, innermost level first (R193). -/
def loopNext (y : Nat) : List LoopLvl → Nat × List LoopLvl
  | [] => ((y + 1) % 8192, [])
  | l :: t =>
    if y = l.stop then
      if 1 < l.count then (l.start, { l with count := l.count - 1 } :: t) else loopNext y t
    else ((y + 1) % 8192, l :: t)
/-- Go on after an instruction that issued without trapping. -/
def State.advance (s : State) (k : Fin 16) (target : Option Nat) : State :=
  s.setEng k fun e =>
    let r := loopNext e.pc.toNat e.loops
    { e with pc := BitVec.ofNat 13 (target.getD r.1), loops := r.2 }
/-- What an issue leaves. -/
def Issue.state (k : Fin 16) : Issue → State
  | .trap c a s => s.engTrap k c a
  | .stall w s => s.setEng k fun e => { e with stall := some w }
  | .next s => s.advance k none
  | .jump t s => s.advance k (some t)
  | .stop s => (s.advance k none).quitEngine k engStopped

/-- Fetch the word at the program counter (R23, R172). -/
def State.fetch (s : State) (k : Fin 16) : (Nat × Bool) × State := s.readMem (.engine k) (engMem k 2 + 8 * (s.eg k).pc.toNat)
/-- A RUNNING, unstalled engine issues the instruction at its program counter if its opcode is `op`; a cycle that an
external access has taken passes without an issue (R158, R181). A default kernel runs as a whole (log entry 14). -/
def State.issue (s : State) (k : Fin 16) (op : Nat) (body : Fin 16 → State → Nat → Issue) : State :=
  if !s.fabRuns || s.engState k != engRunning || (s.eg k).stall.isSome || (s.eg k).kern.isSome then s
  else if (s.eg k).skip then s.setEng k fun e => { e with skip := false }
  else
    let r := s.fetch k
    if r.1.2 then r.2.engTrap k trIfetchUe (some (4 * (s.eg k).pc.toNat, 2))
    else if opOf r.1.1 = op then (body k r.2 r.1.1).state k
    else s

/-! ### Scalar and control instructions (R186) -/

def State.gv (s : State) (k i : Fin 16) : Word := (s.eg k).g[i]
def State.setG (s : State) (k i : Fin 16) (v : Word) : State := s.setEng k fun e => { e with g := e.g.set i v }
/-- The second operand: imm32 or gt (R186). -/
def State.op2 (s : State) (k : Fin 16) (w : Nat) : Word := if bit w 43 then BitVec.ofNat 32 (immOf w) else s.gv k (gtOf w)
/-- A scalar operation of gs and op2 into gd. -/
def scalar (f : Word → Word → Word) (k : Fin 16) (s : State) (w : Nat) : Issue :=
  .legal (okS w) s (.next (s.setG k (gdOf w) (f (s.gv k (gsOf w)) (s.op2 k w))))
def bodyAdd := scalar (· + ·)
def bodySub := scalar (· - ·)
def bodyAnd := scalar (· &&& ·)
def bodyOr := scalar (· ||| ·)
def bodyXor := scalar (· ^^^ ·)
def bodyShl := scalar fun a b => a <<< (b.toNat % 32)
def bodyShr := scalar fun a b => a >>> (b.toNat % 32)
def bodySra := scalar fun a b => a.sshiftRight (b.toNat % 32)
def bodyMul := scalar (· * ·)
def bodySlt := scalar fun a b => if a.slt b then 1 else 0
def bodySltu := scalar fun a b => if a.ult b then 1 else 0
def bodyLi (k : Fin 16) (s : State) (w : Nat) : Issue :=
  .legal (okS w && bit w 43) s (.next (s.setG k (gdOf w) (BitVec.ofNat 32 (immOf w))))

/-- Read a special register (R185). -/
def State.spRead (s : State) (k : Fin 16) (n : Nat) : Option Nat :=
  let e := s.eg k
  if n < 8 then some (e.a[Fin.ofNat 8 n]).toNat
  else if n < 16 then some (e.b[Fin.ofNat 8 n]).toNat
  else if n < 24 then some (e.l[Fin.ofNat 8 n]).toNat
  else if n = 24 then some e.lp.toNat
  else if n = 48 then some (k.val + s.landSrc k * 16)
  else if 32 ≤ n ∧ n < 48 then
    let d := e.dma[Fin.ofNat 2 ((n - 32) / 8)]
    some (match n % 8 with
      | 0 => d.laddr | 1 => d.raddr % 2 ^ 32 | 2 => d.raddr / 2 ^ 32 | 3 => d.count | 4 => d.rows | 5 => d.rstride
      | 6 => d.dir.toNat + 2 * d.htrap.toNat | _ => s.dmaStat k ((n - 32) / 8))
  else none
/-- Write a descriptor register of a channel (R166, R185). -/
def DmaChan.put (d : DmaChan) (i v : Nat) : DmaChan :=
  match i with
  | 0 => { d with laddr := v % 2 ^ 17 }
  | 1 => { d with raddr := d.raddr / 2 ^ 32 * 2 ^ 32 + v % 2 ^ 32 }
  | 2 => { d with raddr := v % 2 ^ 8 * 2 ^ 32 + d.raddr % 2 ^ 32 }
  | 3 => { d with count := v % 2 ^ 16 }
  | 4 => { d with rows := v % 2 ^ 12 }
  | 5 => { d with rstride := v % 2 ^ 32 }
  | _ => { d with dir := v.testBit 0, htrap := v.testBit 1 }
/-- Write a special register; none where it cannot be written (R185). -/
def Engine.spWrite (e : Engine) (n v : Nat) : Option Engine :=
  if n < 8 then some { e with a := e.a.set (Fin.ofNat 8 n) (BitVec.ofNat 16 v) }
  else if n < 16 then some { e with b := e.b.set (Fin.ofNat 8 n) (BitVec.ofNat 16 v) }
  else if n < 24 then some { e with l := e.l.set (Fin.ofNat 8 n) (BitVec.ofNat 16 v) }
  else if n = 24 then some { e with lp := BitVec.ofNat 15 v }
  else if 32 ≤ n ∧ n < 48 ∧ n % 8 ≠ 7 then
    let c := Fin.ofNat 2 ((n - 32) / 8)
    some { e with dma := e.dma.set c ((e.dma[c]).put (n % 8) v) }
  else none
def bodyMts (k : Fin 16) (s : State) (w : Nat) : Issue :=
  let n := immOf w % 256
  match okS w, (s.eg k).spWrite n (s.gv k (gsOf w)).toNat with
  | true, some e =>
    if decide (32 ≤ n) && s.on (dmaBusyF k ((n - 32) / 8)) then .stall (.dmaSpecial (Fin.ofNat 2 ((n - 32) / 8))) s
    else .next (s.setEng k fun _ => e)
  | _, _ => .illegal s
def bodyMfs (k : Fin 16) (s : State) (w : Nat) : Issue :=
  match okS w, s.spRead k (immOf w % 256) with
  | true, some v => .next (s.setG k (gdOf w) (BitVec.ofNat 32 v))
  | _, _ => .illegal s
/-- Flags of eight lanes as bits. -/
def laneBits (v : Vector Bool 8) : Nat := ((List.finRange 8).map fun i => if v[i] then 2 ^ i.val else 0).sum
def bodyOvr (k : Fin 16) (s : State) (w : Nat) : Issue :=
  let a : Fin 4 := Fin.ofNat 4 (immOf w)
  .legal (okS w) s (.next (s.setG k (gdOf w) (BitVec.ofNat 32 (laneBits ((s.eg k).ov[a]) + 256 * laneBits ((s.eg k).ovs[a])))))

/-- A conditional branch on gs (R186, R192). -/
def branch (c : Word → Bool) (k : Fin 16) (s : State) (w : Nat) : Issue :=
  .legal (okC w) s (if c (s.gv k (gsOf w)) then .jump (tgtOf w) s else .next s)
def bodyBr := branch fun _ => true
def bodyBz := branch fun v => v == 0
def bodyBnz := branch fun v => v != 0
def bodyBltz := branch fun v => v.msb
def bodyBgez := branch fun v => !v.msb
def bodyJal (k : Fin 16) (s : State) (w : Nat) : Issue :=
  .legal (okC w) s (.jump (tgtOf w) (s.setG k (gdOf w) (BitVec.ofNat 32 (((s.eg k).pc.toNat + 1) % 8192))))
def bodyJr (k : Fin 16) (s : State) (w : Nat) : Issue := .legal (okC w) s (.jump ((s.gv k (gsOf w)).toNat % 8192) s)
def bodyLpop (k : Fin 16) (s : State) (w : Nat) : Issue :=
  .legal (okC w && !(s.eg k).loops.isEmpty) s (.next (s.setEng k fun e => { e with loops := e.loops.tail }))
/-- The word at a loop end may not be format C, BREAK or HALT (R193). -/
def badLoopEnd (op : Nat) : Bool := (decide (0x17 ≤ op) && decide (op ≤ 0x1F)) || op == 0xFE || op == 0xFF
def bodyLoop (k : Fin 16) (s : State) (w : Nat) : Issue :=
  let x := (s.eg k).pc.toNat
  let t := tgtOf w
  let n := if bit w 45 then immOf w % 65536 else (s.gv k (gsOf w)).toNat % 65536
  let r := s.readMem (.engine k) (engMem k 2 + 8 * t)
  if !okC w || decide (t ≤ x) || (!r.1.2 && badLoopEnd (opOf r.1.1)) then .illegal s
  else if r.1.2 then .trap trIfetchUe (some (4 * t, 2)) r.2
  else if n = 0 then .jump ((t + 1) % 8192) r.2
  else if 4 ≤ (s.eg k).loops.length then .trap trLoop none r.2
  else .jump (x + 1) (r.2.setEng k fun e => { e with loops := ⟨x + 1, t, n⟩ :: e.loops })
def bodyNop (_ : Fin 16) (s : State) (w : Nat) : Issue := .legal (okS w) s (.next s)
def bodyBreak (_ : Fin 16) (s : State) (w : Nat) : Issue := .legal (okS w) s (.trap trBreak none s)
def bodyHalt (_ : Fin 16) (s : State) (w : Nat) : Issue := .legal (okS w) s (.stop s)

/-! ### Data addresses and accesses (R155–R157) -/

/-- next(a, m) on integers, modulo 2^16 (R157). -/
def addrNext (a b l : Nat) (m : Int) : Nat :=
  let t : Int := a + m
  (if l = 0 then t else if (b : Int) + l ≤ t then t - l else if t < b then t + l else t) % 65536 |>.toNat
/-- The address of an access in a mode (0 IND, 1 POST, 2 DISP), and the address register after it. -/
def Engine.dataAddr (e : Engine) (r : Fin 8) (mode : Nat) (m : Int) : Nat × Nat :=
  let a := (e.a[r]).toNat
  let n := addrNext a (e.b[r]).toNat (e.l[r]).toNat m
  match mode with | 0 => (a, a) | 1 => (a, n) | _ => (n, a)
/-- Read `n` halfwords at a halfword address that their size aligns. -/
def State.readData (s : State) (k : Fin 16) (mem a n : Nat) : (Nat × Bool) × State :=
  let b := engMem k mem + 2 * a
  if n = 8 then
    let x := s.readMem (.engine k) b
    let y := x.2.readMem (.engine k) (b + 8)
    ((x.1.1 + y.1.1 * 2 ^ 64, x.1.2 || y.1.2), y.2)
  else
    let x := s.readMem (.engine k) (b / 8 * 8)
    ((x.1.1 / 2 ^ (8 * (b % 8)) % 2 ^ (16 * n), x.1.2), x.2)
/-- Write `n` halfwords. -/
def State.writeData (s : State) (k : Fin 16) (mem a n v : Nat) : State :=
  let b := engMem k mem + 2 * a
  if n = 8 then s.writeRange b (bytesLE 16 v) else s.writeNarrow (.engine k) b (2 * n) v
abbrev Lanes := Vector (BitVec 16) 8
/-- The lanes of a 128-bit value, and back. -/
def lanesOf (v : Nat) : Lanes := Vector.ofFn fun i => BitVec.ofNat 16 (v / 2 ^ (16 * i.val))
def ofLanes (v : Lanes) : Nat := ((List.finRange 8).map fun i => (v[i]).toNat * 2 ^ (16 * i.val)).sum

/-! ### Parallel moves (R183, R184) -/

/-- A parallel move: store, address register, mode, displacement in halfwords, v register. -/
structure PMove where
  store : Bool
  areg : Fin 8
  mode : Nat
  m : Int
  v : Fin 16
  deriving DecidableEq, Repr

/-- Decode the move on X (`y` false) or Y; an error where the field is illegal. -/
def decodeMove (w : Nat) (y : Bool) : Except Unit (Option PMove) :=
  let x := if y then fld w 0 19 else fld w 19 19
  if !bit x 18 then (if x = 0 then .ok none else .error ())
  else if fld x 13 2 = 3 ∨ bit x 0 then .error ()
  else .ok (some ⟨bit x 17, Fin.ofNat 8 (fld x 15 2 + (if y then 4 else 0)), fld x 13 2, 8 * signedOf 8 (fld x 5 8), Fin.ofNat 16 (fld x 1 4)⟩)
/-- A move's address, if it is aligned. -/
def PMove.addr (p : PMove) (e : Engine) : Nat := (e.dataAddr p.areg p.mode p.m).1
/-- Do a move's load: the lanes read, whether they are uncorrectable. -/
def State.moveLoad (s : State) (k : Fin 16) (e : Engine) (mem : Nat) : Option PMove → Option (Lanes × Bool) × State
  | some p => if p.store then (none, s) else let r := s.readData k mem (p.addr e) 8; (some (lanesOf r.1.1, r.1.2), r.2)
  | none => (none, s)
/-- A move's store of the v register as it was before the instruction. -/
def State.moveStore (s : State) (k : Fin 16) (e : Engine) (mem : Nat) : Option PMove → State
  | some p => if p.store then s.writeData k mem (p.addr e) 8 (ofLanes (e.v[p.v])) else s
  | none => s
/-- A move's effects on the registers: loaded lanes and the POST update, computed from the engine before it. -/
def Engine.moveRegs (e old : Engine) (p : Option PMove) (ld : Option (Lanes × Bool)) : Engine :=
  match p with
  | none => e
  | some p =>
    let e1 := match ld with | some (x, _) => { e with v := e.v.set p.v x } | none => e
    { e1 with a := e1.a.set p.areg (BitVec.ofNat 16 (old.dataAddr p.areg p.mode p.m).2) }
def moveMis (e : Engine) : Option PMove → Bool
  | some p => p.addr e % 8 != 0
  | none => false
def moveUe : Option (Lanes × Bool) → Bool
  | some (_, u) => u
  | none => false
def moveAddr (e : Engine) : Option PMove → Nat
  | some p => p.addr e
  | none => 0
/-- A format V instruction with its parallel moves: the operation and the stores see the registers before any load; of two
loads of one register the Y load stands (R184). -/
def vector (ok : Nat → Bool) (f : Nat → Engine → Engine) (k : Fin 16) (s : State) (w : Nat) : Issue :=
  match decodeMove w false, decodeMove w true with
  | .ok mx, .ok my =>
    let e := s.eg k
    if !ok w || bit w 38 then .illegal s
    else if moveMis e mx then .trap trMisalign (some (moveAddr e mx, 0)) s
    else if moveMis e my then .trap trMisalign (some (moveAddr e my, 1)) s
    else
      let x := s.moveLoad k e 0 mx
      let y := x.2.moveLoad k e 1 my
      if moveUe x.1 then .trap trDataUe (some (moveAddr e mx, 0)) y.2
      else if moveUe y.1 then .trap trDataUe (some (moveAddr e my, 1)) y.2
      else .next (((y.2.moveStore k e 0 mx).moveStore k e 1 my).setEng k fun _ => ((f w e).moveRegs e mx x.1).moveRegs e my y.1)
  | _, _ => .illegal s

/-! ### Vector instructions (R187) -/

def anyV (_ : Nat) : Bool := true
def qMax (n : Nat) (w : Nat) : Bool := decide (qOf w ≤ n)
/-- Accumulator instructions: bits [55:54] are 0. -/
def accV (w : Nat) : Bool := fld w 54 2 == 0
def Engine.setV (e : Engine) (i : Fin 16) (x : Lanes) : Engine := { e with v := e.v.set i x }
/-- A lane operation of vs and vt into vd. -/
def lanewise (f : BitVec 16 → BitVec 16 → BitVec 16) (w : Nat) (e : Engine) : Engine :=
  e.setV (gdOf w) (Vector.ofFn fun i => f ((e.v[gsOf w])[i]) ((e.v[gtOf w])[i]))
/-- Saturation to ±32,767. -/
def sat15 (x : Int) : BitVec 16 := BitVec.ofInt 16 (max (-32767) (min 32767 x))
def bodyVadd := vector anyV (lanewise (· + ·))
def bodyVsub := vector anyV (lanewise (· - ·))
def bodyVadds := vector anyV (lanewise fun a b => sat15 (a.toInt + b.toInt))
def bodyVsubs := vector anyV (lanewise fun a b => sat15 (a.toInt - b.toInt))
def bodyVand := vector anyV (lanewise (· &&& ·))
def bodyVor := vector anyV (lanewise (· ||| ·))
def bodyVxor := vector anyV (lanewise (· ^^^ ·))
def bodyVsra := vector (qMax 15) fun w => lanewise (fun a _ => a.sshiftRight (qOf w)) w
def bodyVcmplt := vector anyV (lanewise fun a b => if a.slt b then 0xFFFF else 0)
/-- Lane `j` of the 16 lanes formed by vs and vt. -/
def pairLane (e : Engine) (w j : Nat) : BitVec 16 :=
  if j < 8 then (e.v[gsOf w])[Fin.ofNat 8 j] else (e.v[gtOf w])[Fin.ofNat 8 j]
def bodyValign := vector (qMax 7) fun w e => e.setV (gdOf w) (Vector.ofFn fun i => pairLane e w (i.val + qOf w))
def bodyVeven := vector anyV fun w e => e.setV (gdOf w) (Vector.ofFn fun i => pairLane e w (2 * i.val))
def bodyVodd := vector anyV fun w e => e.setV (gdOf w) (Vector.ofFn fun i => pairLane e w (2 * i.val + 1))
def bodyVsplat := vector anyV fun w e => e.setV (gdOf w) (Vector.replicate 8 ((e.g[gsOf w]).setWidth 16))
def bodyVext := vector (qMax 7) fun w e => { e with g := e.g.set (gdOf w) (((e.v[gsOf w])[Fin.ofNat 8 (qOf w)]).signExtend 32) }
def bodyVins := vector (qMax 7) fun w e => e.setV (gdOf w) ((e.v[gdOf w]).set (Fin.ofNat 8 (qOf w)) ((e.g[gsOf w]).setWidth 16))
def bodyVmove := vector anyV fun _ e => e

/-! ### Accumulators (R161, R162) -/

/-- Add an exact value to an accumulator lane: content, OV and OVS (R161). -/
def accAdd (x : BitVec 40) (ov ovs : Bool) (p : Int) : BitVec 40 × Bool × Bool :=
  let exact := x.toInt + p
  if 2 ^ 39 ≤ exact ∨ exact < -(2 ^ 39) then (BitVec.ofInt 40 exact, true, decide (exact < 0)) else (BitVec.ofInt 40 exact, ov, ovs)
/-- Add `sign × scale × vs × vt` to each lane of an accumulator. -/
def macLanes (c : Int) (w : Nat) (e : Engine) : Engine :=
  let a : Fin 4 := Fin.ofNat 4 (fld w 52 2)
  let r := fun (i : Fin 8) => accAdd ((e.acc[a])[i]) ((e.ov[a])[i]) ((e.ovs[a])[i]) (c * ((e.v[gsOf w])[i]).toInt * ((e.v[gtOf w])[i]).toInt)
  { e with
    acc := e.acc.set a (Vector.ofFn fun i => (r i).1)
    ov := e.ov.set a (Vector.ofFn fun i => (r i).2.1)
    ovs := e.ovs.set a (Vector.ofFn fun i => (r i).2.2) }
/-- Write an accumulator and clear its OV and OVS. -/
def Engine.loadAcc (e : Engine) (w : Nat) (g : Fin 8 → Int) : Engine :=
  let a : Fin 4 := Fin.ofNat 4 (fld w 52 2)
  { e with acc := e.acc.set a (Vector.ofFn fun i => BitVec.ofInt 40 (g i)), ov := e.ov.set a (Vector.replicate 8 false), ovs := e.ovs.set a (Vector.replicate 8 false) }
def bodyMac := vector accV (macLanes 1)
def bodyMsu := vector accV (macLanes (-1))
def bodyMacf := vector accV (macLanes 2)
def bodyMsuf := vector accV (macLanes (-2))
def bodyMpy := vector accV fun w e => e.loadAcc w fun i => ((e.v[gsOf w])[i]).toInt * ((e.v[gtOf w])[i]).toInt
def bodyMpyf := vector accV fun w e => e.loadAcc w fun i => 2 * ((e.v[gsOf w])[i]).toInt * ((e.v[gtOf w])[i]).toInt
def bodyClra := vector accV fun w e => e.loadAcc w fun _ => 0
def bodyLda := vector (fun w => accV w && qMax 23 w) fun w e => e.loadAcc w fun i => ((e.v[gsOf w])[i]).toInt * 2 ^ qOf w
/-- The saturating store value of an accumulator lane with shift `q` and bound `m` (R162). -/
def satStore (x : BitVec 40) (ov ovs : Bool) (q : Nat) (m : Int) : Int :=
  if ov then (if ovs then -m else m) else max (-m) (min m (roundEven ((x.toInt : Rat) / (2 ^ q : Nat))))
def Engine.satLane (e : Engine) (a : Fin 4) (i : Fin 8) (q : Nat) (m : Int) : Int :=
  satStore ((e.acc[a])[i]) ((e.ov[a])[i]) ((e.ovs[a])[i]) q m
def bodySatv := vector anyV fun w e =>
  e.setV (gdOf w) (Vector.ofFn fun i => BitVec.ofInt 16 (e.satLane (Fin.ofNat 4 (fld w 48 2)) i (qOf w) 32767))

/-! ### Loads and stores (R188) -/

/-- Size of an access in halfwords. -/
def szOf (w : Nat) : Nat := [1, 2, 8].getD (fld w 49 2) 1
/-- The address of a format L access and the address register after it. -/
def Engine.lAddr (e : Engine) (w : Nat) : Nat × Nat :=
  e.dataAddr (Fin.ofNat 8 (fld w 45 3)) (fld w 43 2) (signedOf 8 (fld w 35 8) * szOf w)
def Engine.lPost (e : Engine) (w : Nat) : Engine := { e with a := e.a.set (Fin.ofNat 8 (fld w 45 3)) (BitVec.ofNat 16 (e.lAddr w).2) }
/-- The low `n` lanes of a v register replaced. -/
def putLanes (old : Lanes) (n v : Nat) : Lanes := Vector.ofFn fun i => if i.val < n then BitVec.ofNat 16 (v / 2 ^ (16 * i.val)) else old[i]
def bodyLd (k : Fin 16) (s : State) (w : Nat) : Issue :=
  let e := s.eg k
  let a := (e.lAddr w).1
  let mem := fld w 48 1
  let n := szOf w
  if !okL w || (!bit w 51 && n == 8) then .illegal s
  else if a % n ≠ 0 then .trap trMisalign (some (a, mem)) s
  else
    let r := s.readData k mem a n
    if r.1.2 then .trap trDataUe (some (a, mem)) r.2
    else .next (r.2.setEng k fun _ =>
      let e1 := e.lPost w
      if bit w 51 then { e1 with v := e1.v.set (gdOf w) (putLanes (e.v[gdOf w]) n r.1.1) }
      else { e1 with g := e1.g.set (gdOf w) (if n = 1 then (BitVec.ofNat 16 r.1.1).signExtend 32 else BitVec.ofNat 32 r.1.1) })
/-- Store a value of the access size. -/
def storeL (k : Fin 16) (s : State) (w : Nat) (ok : Bool) (v : Nat) : Issue :=
  let e := s.eg k
  let a := (e.lAddr w).1
  if !okL w || !ok then .illegal s
  else if a % szOf w ≠ 0 then .trap trMisalign (some (a, fld w 48 1)) s
  else .next ((s.writeData k (fld w 48 1) a (szOf w) v).setEng k fun e => e.lPost w)
def bodySt (k : Fin 16) (s : State) (w : Nat) : Issue :=
  storeL k s w (bit w 51 || szOf w != 8) (if bit w 51 then ofLanes ((s.eg k).v[gdOf w]) else (s.gv k (gdOf w)).toNat)
def bodySst (k : Fin 16) (s : State) (w : Nat) : Issue :=
  let e := s.eg k
  let a : Fin 4 := Fin.ofNat 4 (fld w 52 2)
  let q := fld w 27 5
  let lane : Fin 8 := Fin.ofNat 8 (fld w 32 3)
  storeL k s w (!bit w 51)
    (match szOf w with
     | 8 => ofLanes (Vector.ofFn fun i => BitVec.ofInt 16 (e.satLane a i q 32767))
     | 2 => bitsOf 32 (e.satLane a lane q (2 ^ 31 - 1))
     | _ => bitsOf 16 (e.satLane a lane q 32767))

/-! ### Ports (R163–R171, R188, R189) -/

/-- A port instruction that an engine without a landing source may not issue. -/
def fed (s : State) (k : Fin 16) (w : Nat) (i : Issue) : Issue := .legal (okS w && s.landSrc k != 0) s i
def bodyLwait (k : Fin 16) (s : State) (w : Nat) : Issue :=
  fed s k w (if 2 ≤ (s.land[k]).taken.length then .next s
    else if (s.land[k]).avail.isEmpty then .stall .landing s else .next (s.takeHalf k))
def bodyLtest (k : Fin 16) (s : State) (w : Nat) : Issue :=
  fed s k w (.next (s.setG k (gdOf w) (if (s.land[k]).avail.isEmpty then 0 else 1)))
def bodyLrd (k : Fin 16) (s : State) (w : Nat) : Issue :=
  let v := bit w 0
  let lp := (s.eg k).lp.toNat
  let n := if v then 16 else 8
  if !v && fld w 52 1 != 0 then .illegal s
  else fed s k w (match (s.land[k]).taken with
    | [] => .trap trLanding (some (lp, 3)) s
    | h :: _ =>
      if lp % 8 ≠ 0 ∨ 32768 < lp + n then .trap trLanding (some (lp, 3)) s
      else
        let a := landHalf k h.no + lp
        let x := s.readMem (.engine k) a
        let y := if v then x.2.readMem (.engine k) (a + 8) else ((0, false), x.2)
        if x.1.2 || y.1.2 then .trap trDataUe (some (lp, 3)) y.2
        else .next (y.2.setEng k fun e =>
          let e1 := { e with lp := BitVec.ofNat 15 (lp + n) }
          if v then e1.setV (gdOf w) (lanesOf (x.1.1 + y.1.1 * 2 ^ 64))
          else { e1 with g := (e1.g.set (gdOf w) (BitVec.ofNat 32 x.1.1)).set (Fin.ofNat 16 (gdOf w + 1)) (BitVec.ofNat 32 (x.1.1 / 2 ^ 32)) }))
def bodyLrel (k : Fin 16) (s : State) (w : Nat) : Issue :=
  fed s k w (match (s.land[k]).taken with
    | [] => .trap trLanding (some ((s.eg k).lp.toNat, 3)) s
    | h :: t =>
      let s1 := (s.set (heldF k h.no) 0).setLand k fun l => { l with taken := t }
      .next (if t.isEmpty then s1 else s1.setEng k fun e => { e with lp := 0 }))
def bodyDstart (k : Fin 16) (s : State) (w : Nat) : Issue :=
  let c : Fin 2 := Fin.ofNat 2 (immOf w)
  if !okS w then .illegal s
  else if s.on (dmaBusyF k c) then .stall (.dmaStart c) s
  else
    let d := (s.eg k).dma[c]
    let s1 := (((s.set (dmaDoneF k c) 0).set (dmaHaltF k c) 0).set (dmaCauseF k c) 0)
    if d.ok then .next (s1.set (dmaBusyF k c) 1)
    else if d.htrap then .trap trDma none (s1.dmaHalt k c hcDesc) else .next (s1.dmaHalt k c hcDesc)
def bodyDwait (k : Fin 16) (s : State) (w : Nat) : Issue :=
  let c : Fin 2 := Fin.ofNat 2 (immOf w)
  if !okS w then .illegal s
  else if s.on (dmaBusyF k c) then .stall (.dmaWait c) s
  else .next (s.setG k (gdOf w) (BitVec.ofNat 32 (s.dmaStat k c)))
/-- Position `p` and every one of the eight from it that lies below N is in the engine's span (R168). -/
def State.foutOk (s : State) (k : Fin 16) (p : Nat) : Bool :=
  let inSpan := fun (q : Nat) => decide (s.get (ENG_DEk_SPAN_LO_FIRST k) ≤ q) && decide (q ≤ s.get (ENG_DEk_SPAN_HI_LAST k))
  inSpan p && (List.range 8).all fun j => inSpan (p + j) || decide (s.readN (s.srcFib k) ≤ p + j)
def bodyFout (k : Fin 16) (s : State) (w : Nat) : Issue :=
  let f := s.srcFib k
  let p := (s.gv k (gsOf w)).toNat
  let shot := (s.gv k (gtOf w)).toNat
  fed s k w (if !s.foutOk k p then .trap trSpan none s
    else if s.on (SEQ_CTRL_UNEVEN f) then .next s
    else
      let s1 := s.enterRun f
      match s1.frameSlot f shot with
      | none => .stall .frameOut s1
      | some none => .next s1
      | some (some i) => .next (s1.stageSamples f p i (((s.eg k).v[gdOf w]).toList.map (·.toNat))))
def bodyFclose (k : Fin 16) (s : State) (w : Nat) : Issue :=
  fed s k w (.next ((s.setEng k fun e => { e with
    closedShot := some (max (e.closedShot.getD 0) (s.gv k (gsOf w)).toNat) }).closeFrames (s.srcFib k)))
def bodyQrep (k : Fin 16) (s : State) (w : Nat) : Issue :=
  if immOf w % 4 = 3 then .illegal s
  else fed s k w (if 16 ≤ (s.eg k).qreps.length then .stall .qrep s
    else .next ((s.inc (ENG_DEk_QREPS_COUNT k)).setEng k fun e => { e with
      qreps := e.qreps ++ [⟨immOf w % 4, s.srcFib k, (s.gv k (gsOf w)).toNat % 131072⟩] }))
def bodyAlarm (k : Fin 16) (s : State) (w : Nat) : Issue :=
  let g := fun (j : Nat) => (s.gv k (Fin.ofNat 16 (gsOf w + j))).toNat
  let t := s.postAlarm k [g 0, g 1 &&& 0xFF01FFFF, g 2, g 3]
  if !okS w || decide (12 < (gsOf w).val) then .illegal s
  else if s.alarmRoom (3 + k.val) && (s.eg k).posts.isEmpty then .next t
  else .stall .alarm t

/-! ### The instructions -/

/-- ADD (R186). -/
def execAddOp (k : Fin 16) (s : State) : Host.Outcome State Fault Refusal := .next (s.issue k 0x01 bodyAdd)
/-- SUB (R186). -/
def execSubOp (k : Fin 16) (s : State) : Host.Outcome State Fault Refusal := .next (s.issue k 0x02 bodySub)
/-- AND (R186). -/
def execAndOp (k : Fin 16) (s : State) : Host.Outcome State Fault Refusal := .next (s.issue k 0x03 bodyAnd)
/-- OR (R186). -/
def execOrOp (k : Fin 16) (s : State) : Host.Outcome State Fault Refusal := .next (s.issue k 0x04 bodyOr)
/-- XOR (R186). -/
def execXorOp (k : Fin 16) (s : State) : Host.Outcome State Fault Refusal := .next (s.issue k 0x05 bodyXor)
/-- SHL (R186). -/
def execShlOp (k : Fin 16) (s : State) : Host.Outcome State Fault Refusal := .next (s.issue k 0x06 bodyShl)
/-- SHR (R186). -/
def execShr (k : Fin 16) (s : State) : Host.Outcome State Fault Refusal := .next (s.issue k 0x07 bodyShr)
/-- SRA (R186). -/
def execSra (k : Fin 16) (s : State) : Host.Outcome State Fault Refusal := .next (s.issue k 0x08 bodySra)
/-- MUL (R186). -/
def execMulOp (k : Fin 16) (s : State) : Host.Outcome State Fault Refusal := .next (s.issue k 0x09 bodyMul)
/-- SLT (R186). -/
def execSlt (k : Fin 16) (s : State) : Host.Outcome State Fault Refusal := .next (s.issue k 0x0A bodySlt)
/-- SLTU (R186). -/
def execSltu (k : Fin 16) (s : State) : Host.Outcome State Fault Refusal := .next (s.issue k 0x0B bodySltu)
/-- LI (R186). -/
def execLi (k : Fin 16) (s : State) : Host.Outcome State Fault Refusal := .next (s.issue k 0x0C bodyLi)
/-- MTS (R185). -/
def execMts (k : Fin 16) (s : State) : Host.Outcome State Fault Refusal := .next (s.issue k 0x10 bodyMts)
/-- MFS (R185). -/
def execMfs (k : Fin 16) (s : State) : Host.Outcome State Fault Refusal := .next (s.issue k 0x11 bodyMfs)
/-- OVR (R186). -/
def execOvr (k : Fin 16) (s : State) : Host.Outcome State Fault Refusal := .next (s.issue k 0x12 bodyOvr)
/-- LPOP (R193). -/
def execLpop (k : Fin 16) (s : State) : Host.Outcome State Fault Refusal := .next (s.issue k 0x17 bodyLpop)
/-- BR (R192). -/
def execBr (k : Fin 16) (s : State) : Host.Outcome State Fault Refusal := .next (s.issue k 0x18 bodyBr)
/-- BZ (R192). -/
def execBz (k : Fin 16) (s : State) : Host.Outcome State Fault Refusal := .next (s.issue k 0x19 bodyBz)
/-- BNZ (R192). -/
def execBnz (k : Fin 16) (s : State) : Host.Outcome State Fault Refusal := .next (s.issue k 0x1A bodyBnz)
/-- BLTZ (R192). -/
def execBltz (k : Fin 16) (s : State) : Host.Outcome State Fault Refusal := .next (s.issue k 0x1B bodyBltz)
/-- BGEZ (R192). -/
def execBgez (k : Fin 16) (s : State) : Host.Outcome State Fault Refusal := .next (s.issue k 0x1C bodyBgez)
/-- JAL (R192). -/
def execJal (k : Fin 16) (s : State) : Host.Outcome State Fault Refusal := .next (s.issue k 0x1D bodyJal)
/-- JR (R192). -/
def execJr (k : Fin 16) (s : State) : Host.Outcome State Fault Refusal := .next (s.issue k 0x1E bodyJr)
/-- LOOP (R193). -/
def execLoopOp (k : Fin 16) (s : State) : Host.Outcome State Fault Refusal := .next (s.issue k 0x1F bodyLoop)
/-- NOP (R186). -/
def execNopOp (k : Fin 16) (s : State) : Host.Outcome State Fault Refusal := .next (s.issue k 0xFD bodyNop)
/-- BREAK (R186). -/
def execBreakOp (k : Fin 16) (s : State) : Host.Outcome State Fault Refusal := .next (s.issue k 0xFE bodyBreak)
/-- HALT (R186). -/
def execHaltOp (k : Fin 16) (s : State) : Host.Outcome State Fault Refusal := .next (s.issue k 0xFF bodyHalt)
/-- VADD (R187). -/
def execVadd (k : Fin 16) (s : State) : Host.Outcome State Fault Refusal := .next (s.issue k 0x20 bodyVadd)
/-- VSUB (R187). -/
def execVsub (k : Fin 16) (s : State) : Host.Outcome State Fault Refusal := .next (s.issue k 0x21 bodyVsub)
/-- VADDS (R187). -/
def execVadds (k : Fin 16) (s : State) : Host.Outcome State Fault Refusal := .next (s.issue k 0x22 bodyVadds)
/-- VSUBS (R187). -/
def execVsubs (k : Fin 16) (s : State) : Host.Outcome State Fault Refusal := .next (s.issue k 0x23 bodyVsubs)
/-- VAND (R187). -/
def execVand (k : Fin 16) (s : State) : Host.Outcome State Fault Refusal := .next (s.issue k 0x24 bodyVand)
/-- VOR (R187). -/
def execVor (k : Fin 16) (s : State) : Host.Outcome State Fault Refusal := .next (s.issue k 0x25 bodyVor)
/-- VXOR (R187). -/
def execVxor (k : Fin 16) (s : State) : Host.Outcome State Fault Refusal := .next (s.issue k 0x26 bodyVxor)
/-- VSRA (R187). -/
def execVsra (k : Fin 16) (s : State) : Host.Outcome State Fault Refusal := .next (s.issue k 0x27 bodyVsra)
/-- VCMPLT (R187). -/
def execVcmplt (k : Fin 16) (s : State) : Host.Outcome State Fault Refusal := .next (s.issue k 0x28 bodyVcmplt)
/-- VALIGN (R187). -/
def execValign (k : Fin 16) (s : State) : Host.Outcome State Fault Refusal := .next (s.issue k 0x29 bodyValign)
/-- VEVEN (R187). -/
def execVeven (k : Fin 16) (s : State) : Host.Outcome State Fault Refusal := .next (s.issue k 0x2A bodyVeven)
/-- VODD (R187). -/
def execVodd (k : Fin 16) (s : State) : Host.Outcome State Fault Refusal := .next (s.issue k 0x2B bodyVodd)
/-- VSPLAT (R187). -/
def execVsplat (k : Fin 16) (s : State) : Host.Outcome State Fault Refusal := .next (s.issue k 0x2C bodyVsplat)
/-- VEXT (R187). -/
def execVext (k : Fin 16) (s : State) : Host.Outcome State Fault Refusal := .next (s.issue k 0x2D bodyVext)
/-- VINS (R187). -/
def execVins (k : Fin 16) (s : State) : Host.Outcome State Fault Refusal := .next (s.issue k 0x2E bodyVins)
/-- VMOVE (R183). -/
def execVmove (k : Fin 16) (s : State) : Host.Outcome State Fault Refusal := .next (s.issue k 0x2F bodyVmove)
/-- MAC (R161). -/
def execMacOp (k : Fin 16) (s : State) : Host.Outcome State Fault Refusal := .next (s.issue k 0x30 bodyMac)
/-- MSU (R161). -/
def execMsu (k : Fin 16) (s : State) : Host.Outcome State Fault Refusal := .next (s.issue k 0x31 bodyMsu)
/-- MACF (R161). -/
def execMacf (k : Fin 16) (s : State) : Host.Outcome State Fault Refusal := .next (s.issue k 0x32 bodyMacf)
/-- MSUF (R161). -/
def execMsuf (k : Fin 16) (s : State) : Host.Outcome State Fault Refusal := .next (s.issue k 0x33 bodyMsuf)
/-- MPY (R187). -/
def execMpy (k : Fin 16) (s : State) : Host.Outcome State Fault Refusal := .next (s.issue k 0x34 bodyMpy)
/-- MPYF (R187). -/
def execMpyf (k : Fin 16) (s : State) : Host.Outcome State Fault Refusal := .next (s.issue k 0x35 bodyMpyf)
/-- CLRA (R187). -/
def execClra (k : Fin 16) (s : State) : Host.Outcome State Fault Refusal := .next (s.issue k 0x36 bodyClra)
/-- LDA (R187). -/
def execLda (k : Fin 16) (s : State) : Host.Outcome State Fault Refusal := .next (s.issue k 0x37 bodyLda)
/-- SATV (R162). -/
def execSatv (k : Fin 16) (s : State) : Host.Outcome State Fault Refusal := .next (s.issue k 0x38 bodySatv)
/-- LD (R188). -/
def execLd (k : Fin 16) (s : State) : Host.Outcome State Fault Refusal := .next (s.issue k 0x40 bodyLd)
/-- ST (R188). -/
def execStOp (k : Fin 16) (s : State) : Host.Outcome State Fault Refusal := .next (s.issue k 0x41 bodySt)
/-- SST (R162). -/
def execSst (k : Fin 16) (s : State) : Host.Outcome State Fault Refusal := .next (s.issue k 0x42 bodySst)
/-- LWAIT (R163). -/
def execLwait (k : Fin 16) (s : State) : Host.Outcome State Fault Refusal := .next (s.issue k 0x50 bodyLwait)
/-- LTEST (R188). -/
def execLtest (k : Fin 16) (s : State) : Host.Outcome State Fault Refusal := .next (s.issue k 0x51 bodyLtest)
/-- LRD (R164). -/
def execLrd (k : Fin 16) (s : State) : Host.Outcome State Fault Refusal := .next (s.issue k 0x52 bodyLrd)
/-- LREL (R164). -/
def execLrel (k : Fin 16) (s : State) : Host.Outcome State Fault Refusal := .next (s.issue k 0x53 bodyLrel)
/-- DSTART (R167). -/
def execDstart (k : Fin 16) (s : State) : Host.Outcome State Fault Refusal := .next (s.issue k 0x54 bodyDstart)
/-- DWAIT (R188). -/
def execDwait (k : Fin 16) (s : State) : Host.Outcome State Fault Refusal := .next (s.issue k 0x55 bodyDwait)
/-- FOUT (R168). -/
def execFout (k : Fin 16) (s : State) : Host.Outcome State Fault Refusal := .next (s.issue k 0x56 bodyFout)
/-- FCLOSE (R168). -/
def execFclose (k : Fin 16) (s : State) : Host.Outcome State Fault Refusal := .next (s.issue k 0x57 bodyFclose)
/-- QREP (R170). -/
def execQrep (k : Fin 16) (s : State) : Host.Outcome State Fault Refusal := .next (s.issue k 0x58 bodyQrep)
/-- ALARM (R171). -/
def execAlarmOp (k : Fin 16) (s : State) : Host.Outcome State Fault Refusal := .next (s.issue k 0x59 bodyAlarm)

/-- Every defined opcode with what it does (R186–R188). -/
def engOps : List (Nat × (Fin 16 → State → Nat → Issue)) := [
  (0x01, bodyAdd),
  (0x02, bodySub),
  (0x03, bodyAnd),
  (0x04, bodyOr),
  (0x05, bodyXor),
  (0x06, bodyShl),
  (0x07, bodyShr),
  (0x08, bodySra),
  (0x09, bodyMul),
  (0x0A, bodySlt),
  (0x0B, bodySltu),
  (0x0C, bodyLi),
  (0x10, bodyMts),
  (0x11, bodyMfs),
  (0x12, bodyOvr),
  (0x17, bodyLpop),
  (0x18, bodyBr),
  (0x19, bodyBz),
  (0x1A, bodyBnz),
  (0x1B, bodyBltz),
  (0x1C, bodyBgez),
  (0x1D, bodyJal),
  (0x1E, bodyJr),
  (0x1F, bodyLoop),
  (0xFD, bodyNop),
  (0xFE, bodyBreak),
  (0xFF, bodyHalt),
  (0x20, bodyVadd),
  (0x21, bodyVsub),
  (0x22, bodyVadds),
  (0x23, bodyVsubs),
  (0x24, bodyVand),
  (0x25, bodyVor),
  (0x26, bodyVxor),
  (0x27, bodyVsra),
  (0x28, bodyVcmplt),
  (0x29, bodyValign),
  (0x2A, bodyVeven),
  (0x2B, bodyVodd),
  (0x2C, bodyVsplat),
  (0x2D, bodyVext),
  (0x2E, bodyVins),
  (0x2F, bodyVmove),
  (0x30, bodyMac),
  (0x31, bodyMsu),
  (0x32, bodyMacf),
  (0x33, bodyMsuf),
  (0x34, bodyMpy),
  (0x35, bodyMpyf),
  (0x36, bodyClra),
  (0x37, bodyLda),
  (0x38, bodySatv),
  (0x40, bodyLd),
  (0x41, bodySt),
  (0x42, bodySst),
  (0x50, bodyLwait),
  (0x51, bodyLtest),
  (0x52, bodyLrd),
  (0x53, bodyLrel),
  (0x54, bodyDstart),
  (0x55, bodyDwait),
  (0x56, bodyFout),
  (0x57, bodyFclose),
  (0x58, bodyQrep),
  (0x59, bodyAlarm)]

/-- ILLEGAL (R182): the word at the program counter has an undefined opcode, a nonzero reserved field or an illegal operand
combination, and the engine traps. The default strain-rate kernel without a landing source traps at its first landing
instruction (R163). -/
def execIllegal (k : Fin 16) (s : State) : Host.Outcome State Fault Refusal :=
  .next (if !s.fabRuns || s.engState k != engRunning || (s.eg k).stall.isSome || (s.eg k).skip then s
    else if (s.eg k).kern.isSome then (if k.val < 12 then s.engTrap k trIllegal none else s)
    else
      let r := s.fetch k
      if r.1.2 then s
      else match engOps.find? fun p => p.1 == opOf r.1.1 with
        | none => r.2.engTrap k trIllegal none
        | some p => match p.2 k r.2 r.1.1 with
          | .trap 1 a t => t.engTrap k trIllegal a
          | _ => s)

/-! ### Stalled instructions go on (R165, R167, R169–R171, R191) -/

/-- Issue the stalled instruction again. -/
def State.retry (s : State) (k : Fin 16) (op : Nat) (body : Fin 16 → State → Nat → Issue) : State :=
  (s.setEng k fun e => { e with stall := none }).issue k op body
/-- LANDING_WAIT_RESUME (R165): an engine blocked in LWAIT takes the half handed over; a default kernel goes through it. -/
def execLandingWaitResume (k : Fin 16) (s : State) : Host.Outcome State Fault Refusal :=
  .next (s.onFab <| if (s.eg k).stall = some .landing ∧ (s.land[k]).avail ≠ [] then (if (s.eg k).kern.isSome then s.kernelHalf k else s.retry k 0x50 bodyLwait) else s)
/-- DMA_WAIT_RESUME (R167, R191): the channel an instruction waits for is no longer BUSY. -/
def execDmaWaitResume (k : Fin 16) (s : State) : Host.Outcome State Fault Refusal :=
  .next (s.onFab <| match (s.eg k).stall with
    | some (.dmaWait c) => if s.on (dmaBusyF k c) then s else s.retry k 0x55 bodyDwait
    | some (.dmaStart c) => if s.on (dmaBusyF k c) then s else s.retry k 0x54 bodyDstart
    | some (.dmaSpecial c) => if s.on (dmaBusyF k c) then s else s.retry k 0x10 bodyMts
    | _ => s)
/-- FRAME_OUTPUT_RESUME (R169): staging has room for the samples an engine holds. -/
def execFrameOutputResume (k : Fin 16) (s : State) : Host.Outcome State Fault Refusal :=
  .next (s.onFab <| if (s.eg k).stall = some .frameOut then (if (s.eg k).kern.isSome then s.kernelGo k else s.retry k 0x56 bodyFout) else s)
/-- QUALITY_REPORT_APPLY (R116, R170): the oldest report of an engine is applied, and a post stalled on the full queue goes
on. -/
def execQualityReportApply (k : Fin 16) (s : State) : Host.Outcome State Fault Refusal :=
  .next (s.onFab <| match (s.eg k).qreps with
    | r :: t =>
      let s1 := (s.applyReport r).setEng k fun e => { e with qreps := t }
      if (s1.eg k).stall = some .qrep then s1.retry k 0x58 bodyQrep else s1
    | [] => s)
/-- A post that waits enters the alarm queue, with the landing source it was made under. -/
def State.acceptPost (s : State) (k : Fin 16) (p : Nat × List Nat) : State :=
  ((s.inc (ENG_DEk_ALARMS_COUNT k)).enterAlarm 0x11 p.1 k (p.2 ++ [0, 0, 0]) 0).setEng k fun e => { e with posts := e.posts.tail }
/-- ALARM_POST_ACCEPT (R171, R239): the oldest waiting post of an engine enters the alarm queue once it has room; after the last
one an engine stalled on it goes on. A post waits on after its engine has stopped. -/
def execAlarmPostAccept (k : Fin 16) (s : State) : Host.Outcome State Fault Refusal :=
  .next (s.onFab <| match (s.eg k).posts with
    | p :: rest =>
      if s.alarmRoom (3 + k.val) then
        let s1 := s.acceptPost k p
        if (s1.eg k).stall = some .alarm ∧ rest = [] then
          (if (s1.eg k).kern.isSome then s1.setEng k fun e => { e with stall := some .landing }
           else (s1.setEng k fun e => { e with stall := none }).advance k none)
        else s1
      else s
    | [] => s)

end Sys2Proof.Machine
end

