-- ==== Sys2Proof/Machine/Bril.lean ====
section
/-! DEFINITION. The Brillouin temperature path: delivery and accumulation of spectra, interval close, bank descriptors,
results and dumps (R119–R122, R194–R213). -/

namespace Sys2Proof.Machine
open Reg

def State.setBril (s : State) (f : Fib) (g : BrilRun → BrilRun) : State := { s with bril := s.bril.set f (g (s.bril[f])) }

/-! ### Layout (R194, R202) -/

/-- Bytes of a bank, and the KiB of both banks and of the result area. -/
def State.bankBytes (s : State) (f : Nat) : Nat := s.tPos f * 1024 + cdiv (s.tPos f * 4) 4096 * 4096
def State.accKib (s : State) (f : Nat) : Nat := 2 * s.bankBytes f / 1024
def State.resKib (s : State) (f : Nat) : Nat := cdiv (8 * s.tPos f) 1024
def State.bankAddr (s : State) (f b : Nat) : Nat := s.accBase f + b * s.bankBytes f
def State.cntAddr (s : State) (f b : Nat) : Nat := s.bankAddr f b + s.tPos f * 1024
/-- The snapshot buffer (R248): the rest of the stream and compressor region, 2 MiB. -/
def snapBase : Nat := 0x2A00000
/-- Y address of word `w` of the fit engine's descriptor, and of its parameter block. -/
def State.descAddr (s : State) (f w : Nat) : Nat := engMem (s.get (BRIL_FIT_ENG_ENG f)) 1 + 0x1FE00 + 4 * w
def State.fitParam (s : State) (f w : Nat) : Nat := engMem (s.get (BRIL_FIT_ENG_ENG f)) 1 + 0x1FF00 + 4 * w
/-- A 32-bit word of a memory as a block reads it. -/
def State.read32 (s : State) (m : Master) (a : Nat) : (Nat × Bool) × State :=
  let r := s.readMem m (a / 8 * 8)
  ((r.1.1 / 2 ^ (8 * (a % 8)) % 2 ^ 32, r.1.2), r.2)

/-! ### Intervals (R197–R199) -/

/-- Number of the interval that holds a launch phase, and the end phase of interval `j`. -/
def State.intervalOf (s : State) (f : Nat) (p : Rat) : Int := ((p - (s.get (BRIL_ACC_OFS_CYCLES f) : Rat)) / (s.get (BRIL_ACC_CYCLES f) : Rat)).floor
def State.intervalEnd (s : State) (f : Nat) (j : Int) : Rat :=
  ((j + 1 : Int) : Rat) * (s.get (BRIL_ACC_CYCLES f) : Rat) + (s.get (BRIL_ACC_OFS_CYCLES f) : Rat)
/-- The first interval after EN was registered (R197). -/
def State.firstInterval (s : State) (f : Fib) : Option Int :=
  (s.bril[f].since).map fun p => ((p - (s.get (BRIL_ACC_OFS_CYCLES f) : Rat)) / (s.get (BRIL_ACC_CYCLES f) : Rat)).ceil
/-- BRIL_STAT follows what is open and held. -/
def State.showBril (s : State) (f : Fib) : State :=
  (s.setB (BRIL_STAT_OPEN f) (s.bril[f].open_).isSome).setB (BRIL_STAT_HELD f) ((s.bril[f].held).contains (1 - s.get (BRIL_STAT_BANK f)))
/-- An interval opens on the bank that BANK names, which every interval that closed in between without a spectrum changed
(R199). -/
def State.openInterval (s : State) (f : Fib) (j : Int) : State :=
  let t := match s.bril[f].lastIv with
    | some i => if (j - i - 1) % 2 = 1 then s.set (BRIL_STAT_BANK f) (1 - s.get (BRIL_STAT_BANK f)) else s
    | none => s
  (t.setBril f fun b => { b with
    open_ := some j, counts := [], first := 0, last := 0, captures := 0, sched := false, holdover := false, late := false }).showBril f

/-- Copy `n` records of a closed bank to the snapshot buffer (R211). -/
def State.copyDump (s : State) (f : Fib) (bank first n : Nat) : State :=
  (List.range n).foldl (fun t i =>
    let c := t.read32 (.rt 3) (s.cntAddr f bank + 4 * (first + i))
    let w := (List.range 128).foldl (fun (p : List Byte × State) j =>
      let r := p.2.readMem (.rt 3) (s.bankAddr f bank + 1024 * (first + i) + 8 * j)
      (p.1 ++ bytesLE 8 r.1.1, r.2)) ([], c.2)
    w.2.writeRange (snapBase + 1028 * i) (bytesLE 4 c.1.1 ++ w.1)) s
/-- A pending dump is made from the closed bank. -/
def State.makeDump (s : State) (f : Fib) (bank : Nat) : State :=
  match s.bril[f].dump with
  | some (first, n) =>
    (((s.copyDump f bank first n).set BRIL_STATUS_DUMP_PEND 0).raise BRIL_STATUS_DUMP_DONE 1).setBril f fun b => { b with dump := none }
  | none => s

/-- INTERVAL_CLOSE (R199, R204): the count array and a pending dump are written, and the bank is the fit engine's; an interval
whose bank is still held is lost, one without a capture gives no frame. The next interval takes the other bank. -/
def State.closeInterval (s : State) (f : Fib) : State :=
  let b := s.bril[f]
  let bank := s.get (BRIL_STAT_BANK f)
  let shut := fun (t : State) =>
    ((t.set (BRIL_STAT_BANK f) (1 - bank)).setBril f fun b => { b with open_ := none, lastIv := b.open_.orElse fun _ => b.lastIv }).showBril f
  if b.late && b.held.contains bank then
    shut (((s.raise (BRIL_FLAGS_LATE_FIT f) 1).inc (BRIL_LOST_COUNT f)).setBril f fun b => { b with frameNo := (b.frameNo + 1) % 2 ^ 32 })
  else if b.captures = 0 then shut s
  else
    let short := decide ((s.get (BRIL_ACC_CYCLES f) : Rat) * s.trackedT false < 1000000000)
    let s1 := s.writeDram (.rt 3) (s.cntAddr f bank) ((List.range (s.tPos f)).flatMap fun t => bytesLE 4 ((kget t b.counts).getD 0))
    let s2 := (s1.makeDump f bank).set (BRIL_CAPT_LAST_COUNT f) b.captures
    let s3 := if short then s2.raise (BRIL_FLAGS_SHORT f) 1 else s2
    let c : BrilClosed := {
      bank := bank, frameNo := b.frameNo, ts := phase64 ((b.first + b.last) / 2), sched := b.sched, holdover := b.holdover, late := b.late
      short := short, captures := b.captures
      words := [s.tPos f, s.rawReg 6 (0x1038 + 0x1000 * f.val), s.rawReg 6 (0x103C + 0x1000 * f.val), s.rawReg 6 (0x1030 + 0x1000 * f.val),
        s.rawReg 6 (0x1034 + 0x1000 * f.val), s.get (BRIL_CTRL_FORMAT f) + 2 * s.get (BRIL_CTRL_COILS f)] }
    shut (s3.setBril f fun b => { b with
      held := b.held ++ [bank], closed := some c, frameNo := (b.frameNo + 1) % 2 ^ 32 })
/-- The open interval closes once its end has passed and no capture of it waits (R199). -/
def State.tryClose (s : State) (f : Fib) : State :=
  match s.bril[f].open_ with
  | some j =>
    if decide (s.intervalEnd f j ≤ s.phaseOf f s.nowNs) && (s.prism[f].caps).all fun c => s.intervalOf f c.phase != j then s.closeInterval f else s
  | none => s

/-! ### Spectra (R121, R195, R204) -/

/-- Add a spectrum to the bins of a temperature position, and whether a bin saturated or the sum read was uncorrectable. -/
def State.addSpectrum (s : State) (a : Nat) (fresh : Bool) (p : List Nat) : Bool × State :=
  if fresh then (false, s.writeDram (.rt 3) a (wordsLE p))
  else
    let r := (List.range 128).foldl (fun (x : List Nat × Bool × State) j =>
      let w := x.2.2.readDram (.rt 3) (a + 8 * j)
      let u := w.1.1 % 2 ^ 32 + p.getD (2 * j) 0
      let v := w.1.1 / 2 ^ 32 + p.getD (2 * j + 1) 0
      (x.1 ++ [min u 0xFFFFFFFF, min v 0xFFFFFFFF], x.2.1 || w.1.2 || decide (0xFFFFFFFF < u) || decide (0xFFFFFFFF < v), w.2)) ([], false, s)
    (r.2.1, r.2.2.writeDram (.rt 3) a (wordsLE r.1))
/-- SPECTRUM_ACCUMULATE (R195, R197, R204): a delivered spectrum goes to the open bank of its interval or is discarded. -/
def State.accumulate (s : State) (f : Fib) (c : Capture) (p : List Nat) : State :=
  let j := s.intervalOf f c.phase
  match s.firstInterval f with
  | none => s
  | some j0 =>
    if j < j0 then s
    else
      let s1 : State := match s.bril[f].open_ with
        | none => s.openInterval f j
        | some i => if i < j then (s.closeInterval f).openInterval f j else s
      let b : BrilRun := s1.bril[f]
      let bank := s1.get (BRIL_STAT_BANK f)
      if b.open_ ≠ some j then s1
      else if b.held.contains bank then
        let s2 := s1.raise (BRIL_FLAGS_LATE_FIT f) 1
        (if b.discCap == some c.no then s2 else s2.inc (BRIL_CAPT_DISC_COUNT f)).setBril f fun b => { b with late := true, discCap := some c.no }
      else
        let w := (kget c.nextT b.counts).getD 0
        let n := w % 2 ^ 24
        let r := s1.addSpectrum (s1.bankAddr f bank + 1024 * c.nextT) (n = 0) p
        let sat := r.1 || (w.testBit 30 && n != 0)
        let new : Bool := b.lastCap != some c.no
        (if r.1 then r.2.raise (BRIL_FLAGS_SAT f) 1 else r.2).setBril f fun b => { b with
          counts := kput c.nextT (min (n + 1) 0xFFFFFF + sat.toNat * 2 ^ 30) b.counts
          first := if b.captures = 0 then c.phase else b.first
          last := c.phase
          captures := if new then b.captures + 1 else b.captures
          sched := b.sched || c.sched, holdover := b.holdover || c.holdover, lastCap := some c.no }

/-- The samples of a capture buffer from grid position `4t` on that the segments of temperature position `t` use, and whether
a word of them is uncorrectable (R120, R388). -/
def State.captureSamples (s : State) (f : Fib) (c : Capture) (t : Nat) : (List (Rat × Rat) × Bool) × State :=
  (List.range 130).foldl (fun (p : (List (Rat × Rat) × Bool) × State) j =>
    if 65536 ≤ 2 * t + j then ((p.1.1 ++ [(0, 0), (0, 0)], p.1.2), p.2)
    else
      let r := p.2.readWord (.fixed 3) (brilBase f c.buffer + 8 * (2 * t + j))
      let h := fun (i : Nat) => (signedOf 16 (fld r.1.1 (16 * i) 16) : Rat)
      ((p.1.1 ++ [(h 0, h 1), (h 2, h 3)], p.1.2 || r.1.2), r.2)) (([], false), s)
/-- |X_p(m)|² of the segment that begins at sample `off`: the samples times the conjugate of the code at 200 MS/s, weighted,
transformed (R120). -/
def segmentPower (xs : List (Rat × Rat)) (c : Code) (off m : Nat) : Rat :=
  let z := csum 256 fun n =>
    cscale (Config.window 1 256 n) (cmul (cmul (xs.getD (off + n) (0, 0)) (conj (baseband c (10 * n)))) (phasor (-(((m : Int) - 128) * n : Int) / 256)))
  Config.spectrumScale * (z.1 * z.1 + z.2 * z.2)
/-- P(t, m) of the 256 bins: the sum over the four segments, computed to at least 24 bits, shifted and limited (R120, R121). -/
def State.spectrumOf (s : State) (f : Fib) (c : Capture) (xs : List (Rat × Rat)) : List Nat × State :=
  (List.range 256).foldl (fun (p : List Nat × State) m =>
    let v := ((List.range 4).map fun off => segmentPower xs c.em.code off m).sum
    let d := p.2.pickNear v (v / 2 ^ 22).ceil.toNat
    (p.1 ++ [min 65535 (d.1.toNat / 2 ^ s.get (PRISM_BRIL_CTRL_BSHIFT f))], d.2)) ([], s)
/-- RT3's write FIFO is full and holds the Brillouin section (R196, R370). -/
def State.rt3Full (s : State) (f : Fib) : Bool :=
  s.on (BRIL_CTRL_EN f) && s.rtFull (s.accBase f) 3 true
/-- The next spectrum of a capture can be delivered: its samples are stored, its 160 ns have passed, and nothing holds the
section (R120, R122, R196). -/
def State.spectrumDue (s : State) (f : Fib) (c : Capture) : Bool :=
  decide (min 131072 (4 * c.nextT + 259) ≤ c.stored) && decide ((s.prism[f]).specAt ≤ s.cyc) && !s.rt3Full f
/-- SPECTRUM_DELIVERY (R120–R122, R195, R196, R199) of a temperature position, the next of the oldest captured shot: it is
delivered, or excluded for a CLIP sample or an uncorrectable word; the capture buffer is free after the last. -/
def execSpectrumDelivery (f : Fib) (pos : Nat) (s : State) : Host.Outcome State Fault Refusal :=
  .next (s.onFab <| match s.prism[f].caps with
    | c :: rest =>
      if c.nextT == pos && s.spectrumDue f c then
        let x := s.captureSamples f c c.nextT
        let s1 := if c.clips.any fun g => decide (4 * c.nextT ≤ g) && decide (g ≤ 4 * c.nextT + 258) then x.2.inc (PRISM_BRIL_CLIPEX_COUNT f)
          else if x.1.2 then x.2
          else
            let p := x.2.spectrumOf f c x.1.1
            if s.on (BRIL_CTRL_EN f) then p.2.accumulate f c p.1 else p.2
        let s2 := s1.setPrism f fun r => { r with
          specAt := s.cyc + 64
          caps := if s.tPos f ≤ c.nextT + 1 then rest else { c with nextT := c.nextT + 1 } :: rest }
        s2.tryClose f
      else s
    | [] => s)

/-! ### Descriptor and results (R201, R203, R209) -/

/-- Write a 32-bit word of the fit engine's Y memory by the path of R158. -/
def State.fitWrite (s : State) (f w v : Nat) : State := s.writeNarrow (.fixed 6) (s.descAddr f w) 4 v
/-- DESCRIPTOR_POST (R201, R210): words 1–14 and then READY_SEQ of a closed interval. -/
def execDescriptorPost (f : Fib) (s : State) : Host.Outcome State Fault Refusal :=
  .next (s.onFab <|
    let s1 := s.tryClose f
    match s1.bril[f].closed with
    | some c =>
      let a := s1.bankAddr f c.bank
      let n := s1.cntAddr f c.bank
      let r := s1.resBase f
      let ws := [c.frameNo, lo32 a, a / 2 ^ 32, lo32 n, n / 2 ^ 32, lo32 r, r / 2 ^ 32] ++ c.words ++ [0]
      let seq := (s1.bril[f].readySeq + 1) % 2 ^ 32
      let s2 := (ws.foldl (fun (p : State × Nat) v => (p.1.fitWrite f p.2 v, p.2 + 1)) (s1, 1)).1
      (s2.fitWrite f 0 seq).setBril f fun b => { b with closed := none, posted := some c, readySeq := seq }
    | none => s1)
/-! ### The default fit kernel (R205–R208) -/

/-- What the kernel finds at a temperature position: its cause, its frequency in MHz where the cause is 0, and word 1 of its
result; none where the spec states no result (R206). -/
structure Fitted where
  cause : Nat
  nu : Rat
  word1 : Nat
  deriving DecidableEq, Repr
/-- Insert a value in ascending order. -/
def insertRat (x : Rat) : List Rat → List Rat
  | [] => [x]
  | y :: t => if x ≤ y then x :: y :: t else y :: insertRat x t
/-- The median; of an even number of values, the mean of the two in the middle (log entry 14). -/
def median (xs : List Rat) : Rat :=
  let l := xs.foldr insertRat []
  (l.getD ((l.length - 1) / 2) 0 + l.getD (l.length / 2) 0) / 2
/-- The index of the largest value, the lowest of equals. -/
def peakIdx (xs : List Rat) : Nat :=
  (xs.zipIdx.foldl (fun (b : Nat × Option Rat) x => match b.2 with
    | some v => if v < x.1 then (x.2, some x.1) else b
    | none => (x.2, some x.1)) (0, none)).1
/-- The fitted width in 0.01 MHz and the peak-to-background ratio in 0.01 as word 1 (R202). -/
def fitWord1 (w b sm : Rat) : Nat :=
  (roundHalfUp (w * 100)).toNat % 65536 + (if b = 0 then 0xFFFF else min 0xFFFF (roundHalfUp ((sm - b) / b * 100)).toNat) * 2 ^ 16
/-- The rule of R206 for a position of `n` spectra with bins `acc`, under the kernel's parameters; `bc` is BAND_CTR. -/
def fitBins (ps : List Nat) (bc n : Nat) (sat : Bool) (acc : List Nat) : Option Fitted :=
  let lo := fld (ps.getD 4 0) 0 8
  let hi := fld (ps.getD 4 0) 8 8
  let half := ps.getD 5 0
  if n < ps.getD 6 0 then some ⟨1, 0, 0⟩
  else if sat then some ⟨2, 0, 0⟩
  else if n = 0 ∨ hi < lo then none
  else
    let v := fun (m : Nat) => (acc.getD m 0 : Rat) / n
    let xs := (List.range (hi + 1 - lo)).map fun j => v (lo + j)
    let b := median xs
    let m0 := lo + peakIdx xs
    if m0 - lo < half ∨ hi - m0 < half then some ⟨4, 0, 0⟩
    else if 0 < b ∧ (v m0 - b) * 100 < (ps.getD 7 0 : Rat) * b then some ⟨3, 0, 0⟩
    else
      let r := Config.lorentzFit b ((List.range (2 * half + 1)).map fun j => v (m0 - half + j))
      let nu := (bc : Rat) + ((m0 : Rat) - half + r.1 - 128) * (25 / 32)
      let w := r.2 * (25 / 32)
      some ⟨if w * 100 < fld (ps.getD 8 0) 0 16 ∨ (fld (ps.getD 8 0) 16 16 : Rat) < w * 100 then 5 else 0,
        (roundHalfUp (nu * 1000) : Rat) / 1000, fitWord1 w b (v m0)⟩
/-- The kernel reads a position's count word and bins by DMA and fits them; an uncorrectable word leaves the result open (R167,
R206). -/
def State.fitPosition (s : State) (k : Fin 16) (f : Fib) (ps : List Nat) (acc cnt t : Nat) : Option Fitted × State :=
  let c := s.read32 (.dma k 0) (cnt + 4 * t)
  let w := c.2.readWords (.dma k 0) (acc + 1024 * t) 256
  (if c.1.2 || w.1.2.isSome then none
   else fitBins ps (s.get (PRISM_BRIL_CTRL_BAND_CTR f)) (c.1.1 % 2 ^ 24) (bit c.1.1 30) w.1.1, w.2)
/-- Signed 32-bit parameter in units of 1 / `d`. -/
def paramRat (v d : Nat) : Rat := (signedOf 32 (v % 2 ^ 32) : Rat) / d
/-- The frequency of a coil, none without a valid position in its range, and whether the coil is usable (R207). -/
def coilOf (fs : List (Option Fitted)) (pos temp : Nat) : Option Rat × Bool :=
  let first := fld pos 0 15
  let n := fld pos 16 15 + 1 - first
  let vs := (List.range n).filterMap fun j => match fs.getD (first + j) none with
    | some x => if x.cause = 0 then some x.nu else none
    | none => none
  (if vs.isEmpty then none else some (vs.sum / vs.length), decide (n ≤ 2 * vs.length) && !vs.isEmpty && bit temp 31)
/-- The reference a set of results is converted by: temperature and frequency at it, coefficient, and REF_SRC (R207). -/
structure FitRef where
  t0 : Rat
  nu0 : Rat
  ct : Rat
  src : Nat
  deriving DecidableEq, Repr
/-- The row of R207 that applies; `d` holds the words of the descriptor from 8 on. -/
def fitRef (ps d : List Nat) (fs : List (Option Fitted)) : FitRef :=
  let coils := fld (d.getD 5 0) 1 2
  let c0 := coilOf fs (d.getD 3 0) (d.getD 1 0)
  let c1 := coilOf fs (d.getD 4 0) (d.getD 2 0)
  let tc := fun (i : Nat) => (signedOf 24 (d.getD (1 + i) 0 % 2 ^ 24) : Rat) / 1000
  let ct := paramRat (ps.getD 1 0) 10000
  let ct2 := (c1.1.getD 0 - c0.1.getD 0) / (tc 1 - tc 0)
  if coils ≠ 0 ∧ c0.2 then
    if coils = 2 ∧ c1.2 ∧ 5 ≤ |tc 1 - tc 0| ∧ |ct2 - ct| ≤ |ct| / 5 then ⟨tc 0, c0.1.getD 0, ct2, 2⟩ else ⟨tc 0, c0.1.getD 0, ct, 1⟩
  else ⟨paramRat (ps.getD 3 0) 1000, paramRat (ps.getD 2 0) 1000, ct, 0⟩
/-- An output sample of a position (R208), free where the spec states none: with a coefficient of 0, or no result. -/
def State.fitSample (s : State) (ps d : List Nat) (r : FitRef) (x : Fitted) : Nat × State :=
  if x.cause ≠ 0 then (0x8000, s)
  else if bit (d.getD 5 0) 0 then (bitsOf 16 (limitTo 32767 (roundEven ((x.nu - paramRat (ps.getD 2 0) 1000) * 100))), s)
  else if r.ct = 0 then s.freeSample
  else (bitsOf 16 (limitTo 32767 (roundEven ((r.t0 + (x.nu - r.nu0) / r.ct) * 100))), s)
/-- The eight bytes of a position's result (R202); the second word is open where no fit was made, and both are where the spec
states no result (log entry 14). -/
def State.fitResult (s : State) (ps d : List Nat) (r : FitRef) : Option Fitted → List Byte × State
  | none =>
    let a := s.pick 0 0xFFFFF
    let b := a.2.draw
    (wordsLE [a.1, b.1 % 2 ^ 32], b.2)
  | some x =>
    let v := s.fitSample ps d r x
    if x.cause = 0 ∨ x.cause = 5 then (wordsLE [v.1 + x.cause * 2 ^ 16, x.word1], v.2)
    else let b := v.2.draw; (wordsLE [v.1 + x.cause * 2 ^ 16, b.1 % 2 ^ 32], b.2)
/-- Write a word of the kernel's parameter block. -/
def State.putParam (s : State) (k : Fin 16) (w v : Nat) : State := s.writeNarrow (.engine k) (paramAddr k + 4 * w) 4 v
/-- The fit kernel goes through a posted interval: parameters if PGEN has changed, every result, words 20–24 and DONE_SEQ last
(R202, R205–R208). -/
def State.fitKernel (s : State) (k : Fin 16) (f : Fib) (seq : Nat) : State :=
  let p := s.readParams k
  let d := p.2.readWords (.engine k) (engMem k 1 + 0x1FE00) 16
  match p.1.2, d.1.2 with
  | none, none =>
    let s1 := d.2.setKern k fun y => y.take p.1.1
    let ps := (s1.kernOf k).params
    let w := d.1.1
    let adr := fun (i : Nat) => w.getD i 0 + fld (w.getD (i + 1) 0) 0 8 * 2 ^ 32
    let r := (List.range (w.getD 8 0)).foldl (fun (q : List (Option Fitted) × State) t =>
      let x := q.2.fitPosition k f ps (adr 2) (adr 4) t
      (q.1 ++ [x.1], x.2)) ([], s1)
    let ref := fitRef ps (w.drop 8) r.1
    let b := r.1.foldl (fun (q : List Byte × State) x => let y := q.2.fitResult ps (w.drop 8) ref x; (q.1 ++ y.1, y.2)) ([], r.2)
    let nu := fun (c : Option Rat × Bool) => ((c.1.map fun v => bitsOf 32 (roundHalfUp (v * 1000))).getD 0)
    let vals := [Config.kernelVersion k, nu (coilOf r.1 (w.getD 11 0) (w.getD 9 0)), nu (coilOf r.1 (w.getD 12 0) (w.getD 10 0)),
      bitsOf 32 (roundHalfUp (ref.ct * 10000)), ref.src]
    ((vals.zipIdx.foldl (fun (t : State) v => t.putParam k (20 + v.2) v.1) (b.2.writeDram (.dma k 0) (adr 6) b.1))).writeNarrow
      (.engine k) (engMem k 1 + 0x1FE00 + 60) 4 seq
  | some a, _ => p.2.engTrap k trDataUe (some (a, 1))
  | none, some a => d.2.engTrap k trDataUe (some ((a - engMem k 1) / 2, 1))
/-- A RUNNING fit engine with its default kernel goes through an interval that it has not done (R201, R203). -/
def State.runFit (s : State) (f : Fib) : State :=
  let k : Fin 16 := Fin.ofNat 16 (s.get (BRIL_FIT_ENG_ENG f))
  if (s.bril[f].posted).isSome && !s.bril[f].done && (s.eg k).kern.isSome && decide (12 ≤ k.val) && s.engState k == engRunning then
    s.fitKernel k f s.bril[f].readySeq
  else s

/-- DONE_SEQ_POLL (R203): every 4,096 clk_fab cycles; DONE_SEQ equal to READY_SEQ releases the closed bank. The default fit
kernel is taken to have gone through the posted interval by then (log entry 14). -/
def execDoneSeqPoll (f : Fib) (s : State) : Host.Outcome State Fault Refusal :=
  .next (s.onFab <| if s.bril[f].pollAt ≤ s.cyc then
    let s0 := s.runFit f
    let r := s0.read32 (.fixed 6) (s0.descAddr f 15)
    let s1 := r.2.setBril f fun b => { b with pollAt := s.cyc + 4096 }
    if (s0.bril[f].posted).isSome && !s0.bril[f].done && !r.1.2 && r.1.1 == s0.bril[f].readySeq then
      (s1.setBril f fun b => { b with held := (b.closed.toList).map (·.bank), done := true }).showBril f
    else s1
  else s)
/-- RESULT_AREA_READ (R202, R203, R208–R210): the results become a temperature frame; one with a CAUSE is 0x8000. -/
def execResultAreaRead (f : Fib) (s : State) : Host.Outcome State Fault Refusal :=
  .next (s.onFab <| match s.bril[f].done, s.bril[f].posted with
    | true, some c =>
      let r := (List.range (s.tPos f)).foldl (fun (p : List (BitVec 16) × State) t =>
        let x := p.2.readDram (.rt 3) (s.resBase f + 8 * t)
        (p.1 ++ [if x.1.2 || fld x.1.1 16 4 != 0 then 0x8000 else BitVec.ofNat 16 x.1.1], x.2)) ([], s)
      let src := r.2.read32 (.fixed 6) (s.fitParam f 24)
      let stale := decide (src.1.1 < c.words.getD 5 0 / 2)
      let fr : Frame := {
        sid := ⟨f, 17⟩, frameNo := c.frameNo, ts := c.ts, settling := false, sched := c.sched, holdover := c.holdover, lateFit := c.late
        refStale := stale, short := c.short, format := bit (c.words.getD 5 0) 0, spacing := 0, first := 0, samples := r.1, captures := c.captures }
      let s1 := ((if stale then src.2.raise (BRIL_FLAGS_REF_STALE f) 1 else src.2).inc (BRIL_FRAMES_COUNT f)).setBril f fun b => { b with
        posted := none, done := false }
      { s1 with out := { s1.out with offered := s1.out.offered ++ [fr] } }
    | _, _ => s)

/-! ### Opcodes (R213) -/

/-- Enable or disable accumulation (R44, R197). An interval that was closed or posted before EN goes from 0 to 1 keeps its
frame number and still gives its frame (log entry 24). -/
def State.setBrilEn (s : State) (f : Fib) (en : Bool) : State :=
  ((s.setB (BRIL_CTRL_EN f) en).setBril f fun b =>
    if en then { b with since := some (s.phaseOf f s.nowNs), open_ := none, lastIv := none, frameNo := 0 }
    else { b with since := none, open_ := none }).showBril f
/-- The engine may fit the fibre's spectra (R201). -/
def State.fitOk (s : State) (f : Fib) (k : Nat) : Bool := decide (k < 16) && s.landSrc k == 0 && s.get (BRIL_FIT_ENG_ENG (1 - f)) != k

def brilConfig (s : State) (ps : List Nat) : CmdRes :=
  let f := fibP ps
  let t := ((((s.set (BRIL_CTRL_FORMAT f) (fld (par ps 1) 1 1)).set (BRIL_CTRL_COILS f) (fld (par ps 1) 2 2)).set (BRIL_ACC_CYCLES f) (par ps 2)).set
    (BRIL_ACC_OFS_CYCLES f) (par ps 3)).set (BRIL_RT3_LIM_PCT f) (par ps 4)
  if s.on (BRIL_CTRL_EN f) then .denied
  else if fld (par ps 1) 2 2 = 3 ∨ par ps 4 < 1 ∨ 90 < par ps 4 ∨ !s.fitOk f (par ps 5) ∨ !t.accOk f (t.trackedT false) then .bad
  else .done stOk [s.accKib f, s.resKib f] (t.set (BRIL_FIT_ENG_ENG f) (par ps 5))
/-- BRIL_CONFIG (R198, R201, R213). -/
def execBrilConfig (c : CmdIn) (s : State) : Host.Outcome State Fault Refusal :=
  .next (runCmd 0x60 6 (fun _ => [1, 0xE, full, full, full, full]) brilConfig c s)

def brilMemSetup (s : State) (ps : List Nat) : CmdRes :=
  let f := fibP ps
  let a := baseOf (par ps 1) (par ps 2)
  let r := baseOf (par ps 3) (par ps 4)
  let na := 2 * s.bankBytes f
  let nr := 1024 * s.resKib f
  let pf := fun (x : Nat) (n : Nat) => [0, 1].any fun g => overlap x n (s.ctBase g) (1024 * s.ctKib g) || overlap x n (s.stBase g) (1024 * s.stKib g)
  if s.on (BRIL_CTRL_EN f) then .denied
  else if s.areaOk (par ps 1) (par ps 2) na && s.areaOk (par ps 3) (par ps 4) nr && chanOf a == chanOf r && !overlap a na r nr && !pf a na then
    .done stOk [s.accKib f, s.resKib f] ((((s.set (BRIL_ACC_BASE_LO_ADDR f) (par ps 1 / 4096)).set (BRIL_ACC_BASE_HI_ADDR f) (par ps 2)).set
      (BRIL_RES_BASE_LO_ADDR f) (par ps 3 / 4096)).set (BRIL_RES_BASE_HI_ADDR f) (par ps 4))
  else .bad
/-- BRIL_MEM_SETUP (R194, R202, R213). -/
def execBrilMemSetup (c : CmdIn) (s : State) : Host.Outcome State Fault Refusal :=
  .next (runCmd 0x61 6 (fun _ => [1, full, full, full, full]) brilMemSetup c s)

def brilEnable (s : State) (ps : List Nat) : CmdRes :=
  let f := fibP ps
  let en := bit (par ps 1) 0
  let t := s.trackedT false
  if en = s.on (BRIL_CTRL_EN f) then .done stAlready [s.get (BRIL_LOAD_MBS f)] s
  else if !en then .done stOk [s.get (BRIL_LOAD_MBS f)] (s.setBrilEn f false)
  else if !s.accOk f t then .bad
  else
    let c : LoadCase := { s.caseOf f with bril := true }
    if !s.rt3Ok f (s.page f) t || !s.rtOk f c t then .budget else
    let u := ((s.setBrilLoad f (s.page f) t).setRtLoad f c t).setBrilEn f true
    .done stOk [u.get (BRIL_LOAD_MBS f)] u
/-- BRIL_ENABLE (R198, R200, R213, R373). -/
def execBrilEnable (c : CmdIn) (s : State) : Host.Outcome State Fault Refusal :=
  .next (runCmd 0x62 6 (fun _ => [1, 1]) brilEnable c s)

def brilCoil (s : State) (ps : List Nat) : CmdRes :=
  let f := fibP ps
  let k := par ps 1
  let first := fld (par ps 2) 0 15
  let last := fld (par ps 2) 16 15
  if 1 < k ∨ last < first ∨ s.tPos f ≤ last then .bad
  else .ok ((((s.set (BRIL_COILk_POS_FIRST f k) first).set (BRIL_COILk_POS_LAST f k) last).set (BRIL_COILk_T_TEMP f k) (fld (par ps 3) 0 24)).set
    (BRIL_COILk_T_VALID f k) (fld (par ps 3) 31 1))
/-- BRIL_COIL (R213). -/
def execBrilCoil (c : CmdIn) (s : State) : Host.Outcome State Fault Refusal :=
  .next (runCmd 0x63 6 (fun _ => [1, full, 0x7FFF7FFF, 0x80FFFFFF]) brilCoil c s)

/-- Who else owns the snapshot buffer: a trace capture, or a snapshot read in progress (R211, R253, R327). -/
def State.snapOther (s : State) (bril : Bool) : Option Nat :=
  if s.on OUT_STATUS_SNAP_RD then some (ownerOf 8 0)
  else if bril then (if s.on LW_STATUS_SNAP_OWN then some (ownerOf 6 (s.get LW_CAP_CTRL_FIBRE)) else none)
  else if s.on BRIL_STATUS_SNAP_OWN then some (ownerOf 7 (if (s.bril[1]).dump.isSome then 1 else 0)) else none
def brilDump (s : State) (ps : List Nat) : CmdRes :=
  let f := fibP ps
  let none2 := fun (t : State) => (t.setBril 0 fun b => { b with dump := none }).setBril 1 fun b => { b with dump := none }
  if !bit (par ps 1) 0 then
    (if s.on BRIL_STATUS_SNAP_OWN then .ok ((none2 s).set BRIL_STATUS_DUMP_PEND 0 |>.set BRIL_STATUS_SNAP_OWN 0) else .already s)
  else if par ps 3 < 1 ∨ 2040 < par ps 3 ∨ s.tPos f < par ps 2 + par ps 3 then .bad
  else match s.snapOther true with
    | some o => .busyWith o
    | none => .done stPending [] ((((none2 s).set BRIL_STATUS_SNAP_OWN 1).set BRIL_STATUS_DUMP_PEND 1).setBril f fun b => { b with
        dump := some (par ps 2, par ps 3) })
/-- BRIL_DUMP (R211, R213). -/
def execBrilDump (c : CmdIn) (s : State) : Host.Outcome State Fault Refusal :=
  .next (runCmd 0x64 6 (fun _ => [1, 1, full, full]) brilDump c s)

def brilGetStatus (s : State) (ps : List Nat) : CmdRes :=
  let f := fibP ps
  .data s [s.rawReg 6 0, s.rawReg 6 (0x1040 + 0x1000 * f.val), s.rawReg 6 (0x1044 + 0x1000 * f.val), s.get (BRIL_LOAD_MBS f),
    s.get (BRIL_FRAMES_COUNT f), s.get (BRIL_LOST_COUNT f), s.get (BRIL_CAPT_DISC_COUNT f), s.get (BRIL_CAPT_LAST_COUNT f)]
/-- BRIL_GET_STATUS (R213). -/
def execBrilGetStatus (c : CmdIn) (s : State) : Host.Outcome State Fault Refusal :=
  .next (runCmd 0x65 6 (fun _ => [1]) brilGetStatus c s)

end Sys2Proof.Machine
end

