-- ==== Sys2Proof/Machine/Power.lean ====
section
/-! DEFINITION. Power domains, full resets and wakes as operations that other blocks call (R459, R468–R472, R363). -/

namespace Sys2Proof.Machine
open Reg

def State.setPwr (s : State) (g : PwrRun → PwrRun) : State := { s with pwr := g s.pwr }

/-- A step of a block in power domain `d` does nothing while that domain is off. -/
def State.onDom (s : State) (d : Nat) (t : State) : State := if s.domainOn d then t else s

/-- On-chip SRAM of PD_CORE: all but the boot ROM, management SRAM and the RXF memories (R458). -/
def coreSram (a : Nat) : Bool := decide (0x200000 ≤ a) && decide (a < 0x40000000)
def dramAddr (a : Nat) : Bool := decide (0x8000000000 ≤ a)

/-- A domain that has been off returns with every register at its Reset value and every SRAM word unwritten (R459). -/
def State.domainReset (s : State) (d : Nat) : State :=
  let s1 := ((List.range 21).filter fun b => domainOf b == d).foldl (fun t b => t.clearBlock b) s
  let r := State.reset
  match d with
  | 1 => { s1 with
      cmd := r.cmd, mgmt := r.mgmt, hk := r.hk, emit := r.emit
      mem := s1.mem.filter fun e => !(decide (0x100000 ≤ e.1) && decide (e.1 < 0x200000))
      ecc := s1.ecc.filter fun e => !(decide (0x100000 ≤ e.1) && decide (e.1 < 0x200000)) }
  | 2 => { s1 with
      trk := r.trk, seq := r.seq, prism := r.prism, land := r.land, pfil := r.pfil, eng := r.eng, out := r.out, bril := r.bril
      lw := r.lw, cap := r.cap, scrub := r.scrub, tdc := r.tdc, pmon := r.pmon
      mem := s1.mem.filter fun e => !coreSram e.1
      ecc := s1.ecc.filter fun e => !coreSram e.1 }
  | 3 => { s1 with
      rxf := r.rxf, cal := r.cal
      ecc := s1.ecc.filter fun e => !(decide (0x40000000 ≤ e.1) && decide (e.1 < 0x40150000)) }
  | 4 => { s1 with lane := r.lane, grp := r.grp, link := r.link }
  | 5 => { s1 with dram := r.dram }
  | _ => s1

/-- Switch a domain off: what it held is lost. PD_RX holds the sampling and engine PLLs, PD_DDR the DDR PLLs (R458). -/
def State.domainOff (s : State) (d : Nat) : State :=
  let s1 := (s.domainReset d).set PWR_STATUS_DOMAIN_ON (s.get PWR_STATUS_DOMAIN_ON - if s.domainOn d then 2 ^ d else 0)
  if d = 3 then (((s1.set SYS_CLK_STATUS_SMP_LOCK 0).set SYS_CLK_STATUS_ENG_LOCK 0).set SYS_CLK_STATUS_FAB_RUN 0).setPwr fun p => { p with
    pllOn := false }
  else if d = 5 then (s1.set SYS_CLK_STATUS_DDR_LOCK_DA 0).set SYS_CLK_STATUS_DDR_LOCK_DB 0
  else s1
/-- Switch a domain on: it comes up from reset. The age of a DRAM module's temperature counts from then (R376; log entry 34). -/
def State.domainUp (s : State) (d : Nat) : State :=
  let s1 := s.set PWR_STATUS_DOMAIN_ON (s.get PWR_STATUS_DOMAIN_ON ||| 2 ^ d)
  if d = 5 then { s1 with dram := s1.dram.map fun (c : DramRun) => { c with tempAt := s.cyc } } else s1

/-- A reset of a cause (R471, R472, R363): everything at its Reset value but the reset cause, WAKE_SRC, the retention
store, the banks' modes, the time since power-on and the flash; a power-on reset keeps the flash alone. DRAM keeps its
contents only after a wake from SLEEP. -/
def State.fullReset (s : State) (cause : Nat) : State :=
  let por := cause == 1
  let hist := if por then 1 else s.get SYS_RST_CAUSE_HIST ||| 2 ^ (cause - 1)
  let r := { State.reset with
    cyc := if por then 0 else s.cyc
    freeCtr := s.freeCtr, pending := s.pending, flash := s.flash
    mem := if cause = 5 then s.mem.filter fun e => dramAddr e.1 else []
    ecc := if cause = 5 then s.ecc.filter fun e => dramAddr e.1 else []
    dram := State.reset.dram.map fun (c : DramRun) => { c with tempAt := if por then 0 else s.cyc }
    pwr := { PwrRun.init with retained := if por then [] else s.pwr.retained, io := if por then none else s.pwr.io } }
  ((r.set SYS_RST_CAUSE_CAUSE cause).set SYS_RST_CAUSE_HIST hist).set PWR_STATUS_WAKE_SRC (if por then 0 else s.get PWR_STATUS_WAKE_SRC)

/-- The wake sources a state allows (R468): bits WAKE_N, SPI, TIMER, LINK, HK. -/
def wakeAllowed (st : Nat) : Nat := if st = 2 then 0b11101 else if st = 3 then 0b00111 else 0
/-- Enabled sources of a state that have fired since acceptance. -/
def State.wakePending (s : State) (st : Nat) : Nat := s.get PWR_WAKE_PEND_PEND &&& s.get PWR_WAKE_EN_EN &&& wakeAllowed st

/-- The wake itself: from SLEEP a full reset of cause WAKE (R470), from STANDBY the domains come up and the change to ACTIVE
is in progress (R469). -/
def State.wakeUp (s : State) (src : Nat) : State :=
  let s1 := s.set PWR_STATUS_WAKE_SRC src
  let at_ := some (s.cyc / 16, s.get PWR_WAKE_EN_EN &&& wakeAllowed (s.get PWR_STATUS_STATE))
  if s.get PWR_STATUS_STATE = 3 then (s1.fullReset 5).setPwr fun p => { p with wakeAt := at_ }
  else ((((((s1.raise PWR_FLAGS_WAKE 1).set PWR_STATUS_BUSY 1).domainUp 2).domainUp 3).domainUp 5)).setPwr fun p => { p with
    change := some .wake, changeAt := s.cyc, wakeAt := at_ }

/-- Wake source bit `n` fires (R468): it is shown, and in STANDBY or SLEEP it wakes the device if allowed and enabled. Of
sources that fire in the clk_aon cycle of a wake the lowest stands in WAKE_SRC. -/
def State.wakeFire (s : State) (n : Nat) : State :=
  let s1 := s.orBits PWR_WAKE_PEND_PEND (2 ^ n)
  if s.pwr.wakeAt.any fun w => w.1 == s.cyc / 16 && w.2.testBit n then
    (if n + 1 < s.get PWR_STATUS_WAKE_SRC then s1.set PWR_STATUS_WAKE_SRC (n + 1) else s1)
  else if s.pwr.change.isNone && (s1.wakePending (s.get PWR_STATUS_STATE)).testBit n then s1.wakeUp (n + 1) else s1

end Sys2Proof.Machine
end

