-- ==== Sys2Proof/Machine/Hk.lean ====
section
/-! DEFINITION. Housekeeping converters, sequences, accumulators, windows and RTD excitation (R414–R432). -/

namespace Sys2Proof.Machine
open Reg

def State.setHk (s : State) (g : HkRun → HkRun) : State := { s with hk := g s.hk }

/-! ### Slots (R414, R416) -/

def State.hkCfg (s : State) (inj : Bool) (i : Nat) : Nat := if inj then s.get (HK_INJi_CFG_CFG i) else s.get (HK_SLOTs_CFG_CFG i)
def State.hkIn (s : State) (inj : Bool) (i : Nat) : Nat := if inj then s.get (HK_INJi_IN_IN i) else s.get (HK_SLOTs_IN_IN i)
/-- One half of a slot. -/
structure HkInput where
  typ : Nat
  sel : Nat
  exc : Nat
  gain : Nat
  deriving DecidableEq, Repr
/-- Half `h` of an IN word. -/
def hkInput (inw h : Nat) : HkInput :=
  let v := inw / 2 ^ (16 * h)
  ⟨fld v 0 3, fld v 3 5, fld v 8 2, fld v 10 3⟩
/-- Half `h` of a slot; with MIRROR half 1 converts what half 0 does (R425). -/
def State.hkHalf (s : State) (inj : Bool) (i h : Nat) : HkInput := hkInput (s.hkIn inj i) (if bit (s.hkCfg inj i) 31 then 0 else h)
def State.hkRtd (s : State) (inj : Bool) (i : Nat) : Bool := (s.hkHalf inj i 0).typ == 3 || (s.hkHalf inj i 1).typ == 3
/-- SEL's upper bound for a TYPE, exclusive (R414). -/
def hkSelEnd (typ : Nat) : Nat := match typ with | 0 => 32 | 1 => 24 | 2 => 12 | 3 => 12 | 4 => 2 | _ => 0
/-- A slot's two words are accepted (R416). -/
def hkSlotOk (cfg inw : Nat) : Bool :=
  let a := hkInput inw 0
  let b := hkInput inw 1
  let ok := fun (x : HkInput) => decide (x.sel < hkSelEnd x.typ) && decide (x.gain ≤ 4)
  ok a && ok b && fld cfg 16 10 != 0 && (!bit cfg 31 || a.typ == 1 || a.typ == 2) && !(a.typ == 0 && b.typ == 0)
/-- Excitation k may be driven (R426). -/
def State.excAllowed (s : State) (k : Nat) : Bool := (s.get HK_RTD_CTRL_EN).testBit k && !(s.get HK_RTD_STAT_FAULT).testBit k
/-- A conversion's and a settling delay's length in cycles of 2.5 ns (R415, R416). -/
def State.hkConv (s : State) : Nat := if s.on HK_CTRL_LP then 6400 else 400
def State.hkSettle (s : State) (inj : Bool) (i : Nat) : Nat := fld (s.hkCfg inj i) 0 16 * 40
/-- The half converts: it is not OFF, and an RTD half's excitation is driven and not skipped (R416, R426–R428). -/
def State.hkConverts (s : State) (a : HkAct) (h : Nat) : Bool :=
  let x := s.hkHalf a.inj a.slot h
  x.typ != 0 && (x.typ != 3 || ((s.get HK_RTD_STAT_ON).testBit x.exc && !(if h = 0 then a.skip0 else a.skip1)))

/-! ### What runs (R417–R421) -/

/-- A slot from its start, with what an interrupted one has already done. -/
def hkFresh (inj : Bool) (i done : Nat) : HkAct :=
  ⟨inj, i, true, 0, true, done, 0, false, none, none, false, false, []⟩
/-- An excitation for which a slot has recorded a failed check is not driven again before that slot's end (R428). -/
def State.excFailed (s : State) (a : HkAct) (k : Nat) : Bool :=
  a.faults.any (·.1 == k) || (s.hk.resume.any fun r => r.faults.any (·.1 == k))
/-- Excitations that a slot drives (R426, R428). -/
def State.hkDriven (s : State) (a : HkAct) : Nat :=
  [0, 1].foldl (fun m h =>
    let x := s.hkHalf a.inj a.slot h
    if x.typ = 3 ∧ s.excAllowed x.exc ∧ !s.excFailed a x.exc ∧ !(if h = 0 then a.skip0 else a.skip1) then m ||| 2 ^ x.exc else m) 0
/-- Begin or resume a slot with its settling delay (R417, R421). -/
def State.hkBegin (s : State) (a : HkAct) : State :=
  let b := { a with settling := true, due := s.cyc + s.hkSettle a.inj a.slot }
  let s1 := if a.inj then s.set HK_STATUS_INJ_SLOT a.slot else s.set HK_STATUS_SLOT a.slot
  (s1.set HK_RTD_STAT_ON (s.hkDriven b)).setHk fun h => { h with act := some b }
/-- No slot runs. -/
def State.hkIdle (s : State) : State := (s.set HK_RTD_STAT_ON 0).setHk fun h => { h with act := none }
/-- What runs next: a waiting injected run, or the regular slot given (R420, R421). -/
def State.hkNext (s : State) (r : Option HkAct) : State :=
  if s.hk.injWait then (s.setHk fun h => { h with injWait := false, resume := r }).hkBegin (hkFresh true 0 0)
  else match r with
    | some a => (s.setHk fun h => { h with resume := none }).hkBegin a
    | none => (s.setHk fun h => { h with resume := none }).hkIdle
/-- A regular slot that an injected run holds up: it resumes with a new delay, a discarded conversion and pair parity 0; a
pair left incomplete is lost and its conversion counts as discarded (R421). -/
def State.hkInterrupt (s : State) (a : HkAct) : State :=
  let n := (a.second && a.first0.isSome).toNat + (a.second && a.first1.isSome).toNat
  (s.incBy HK_DISC_COUNT n).hkNext (some { hkFresh a.inj a.slot a.done with skip0 := a.skip0, skip1 := a.skip1, faults := a.faults })

/-- Start a pass: slot 0 runs, or waits for the injected run in progress (R419). -/
def State.hkStartPass (s : State) : State :=
  let s1 := s.set HK_STATUS_REG_BUSY 1
  if s.on HK_STATUS_INJ_BUSY && s.hk.act.isSome then s1.setHk fun h => { h with resume := some (hkFresh false 0 0) }
  else s1.hkNext (some (hkFresh false 0 0))

/-- Register an injection trigger (R420): started, held, or lost. -/
def State.injTrigger (s : State) : State :=
  if s.on HK_STATUS_INJ_HELD then (s.inc HK_INJ_LOST_COUNT).raise HK_FLAGS_INJ_LOST 1
  else if s.on HK_STATUS_INJ_BUSY then s.set HK_STATUS_INJ_HELD 1
  else
    let s1 := (s.set HK_STATUS_INJ_BUSY 1).setHk fun h => { h with injWait := true }
    match s.hk.act with
    | some a => if a.settling then s1.hkInterrupt a else s1
    | none => s1.hkNext none

/-! ### Accumulators and windows (R422–R424) -/

/-- An accumulator without a result that has arrived in this clk_mgmt cycle, and that result (R423). -/
def State.accBefore (s : State) (a : Fin 72) : Option Int × State :=
  match (s.hk.accs[a]).was with
  | some (c, v, lo, hi) =>
    if c = s.cyc / 2 then
      (some ((s.hk.accs[a]).sum - v), ((s.set (HK_ACCa_CNT_CNT a) (s.get (HK_ACCa_CNT_CNT a) - 1)).set (HK_ACCa_CTRL_FULL a) 0).setHk fun h => { h with
        accs := h.accs.set a ⟨v, lo, hi, none⟩ })
    else (none, s)
  | none => (none, s)
/-- Clear an accumulator; a result of the same clk_mgmt cycle is applied after the clear (R423). -/
def State.accClear (s : State) (a : Fin 72) : State :=
  match (s.accBefore a).1 with
  | some x => ((s.set (HK_ACCa_CNT_CNT a) 1).set (HK_ACCa_CTRL_FULL a) 0).setHk fun h => { h with
      accs := h.accs.set a ⟨x, min HkAcc.init.mn x, max HkAcc.init.mx x, none⟩ }
  | none => ((s.set (HK_ACCa_CNT_CNT a) 0).set (HK_ACCa_CTRL_FULL a) 0).setHk fun h => { h with accs := h.accs.set a HkAcc.init }
/-- The fault flag and window exits of accumulator `a` leave their band: flag, injection and wake source (R424, R420, R468). -/
def State.windowExit (s : State) (a : Nat) : State :=
  let s1 := (s.set (HK_ACCa_CTRL_OUT a) 1).raise (HK_WINFLAGw_OUT (a / 32)) (2 ^ (a % 32))
  (if s1.on HK_CTRL_INJ_WIN then s1.injTrigger else s1).wakeFire 4
/-- A kept result goes to its accumulator and is compared with its window (R422, R424). -/
def State.keep (s : State) (a : Fin 72) (x : Int) : State :=
  let c := s.get (HK_ACCa_CNT_CNT a)
  let s1 := if c < 0xFFFFFFFF then
      let s2 := (s.set (HK_ACCa_CNT_CNT a) (c + 1)).setHk fun h => { h with
        accs := h.accs.set a ⟨(h.accs[a]).sum + x, min (h.accs[a]).mn x, max (h.accs[a]).mx x,
          some (s.cyc / 2, (h.accs[a]).sum, (h.accs[a]).mn, (h.accs[a]).mx)⟩ }
      if c + 1 = 0xFFFFFFFF then (s2.set (HK_ACCa_CTRL_FULL a) 1).raise HK_FLAGS_FULL 1 else s2
    else s
  if s.on (HK_ACCa_CTRL_WEN a) then
    let inside := decide (s.getI (HK_ACCa_WLO_WLO a) ≤ x) && decide (x ≤ s.getI (HK_ACCa_WHI_WHI a))
    if s.on (HK_ACCa_CTRL_OUT a) then (if inside then s1.set (HK_ACCa_CTRL_OUT a) 0 else s1)
    else if inside then s1 else s1.windowExit a
  else s1
/-- The accumulator of a half of a slot (R422). -/
def hkAccOf (inj : Bool) (i h : Nat) : Fin 72 := Fin.ofNat 72 ((if inj then 64 else 0) + 2 * i + h)

/-! ### Conversions (R415, R417, R418, R425, R427, R428) -/

/-- The check that an RTD half fails: compliance limit, and at the end rather than the start (R427). -/
def State.hkFails (s : State) (x : HkHalf) : Option (Bool × Bool) :=
  let out := fun (v : Nat) => decide (v < s.get HK_CM_WIN_LO) || decide (s.get HK_CM_WIN_HI < v)
  if x.limStart then some (true, false) else if out x.cmStart then some (false, false)
  else if x.limEnd then some (true, true) else if out x.cmEnd then some (false, true) else none
/-- Coil temperatures whose channel names excitation k lose VALID (R428). -/
def State.hkVoidCoils (s : State) (k : Nat) : State :=
  (List.range 4).foldl (fun t c =>
    let a := t.get (HK_COILc_MAP_RTD_ACC c)
    let inj := decide (64 ≤ a)
    let x := t.hkHalf inj (if inj then (a - 64) / 2 else a / 2) (a % 2)
    if t.on (HK_COILc_MAP_EN c) && x.typ == 3 && x.exc == k && t.reach 6 then t.set (BRIL_COILk_T_VALID (c / 2) (c % 2)) 0 else t) s
/-- RTD_FAULT (R428): what the end of a slot records of a failed check. -/
def State.rtdFault (s : State) (f : Nat × Bool × Bool) : State :=
  let b := 2 ^ f.1
  let put := fun (t : State) (g : Fld) (on : Bool) => t.set g (t.get g - (t.get g &&& b) + if on then b else 0)
  let s1 := put (put ((s.orBits HK_RTD_STAT_FAULT b).raise HK_FLAGS_RTD_FAULT b) HK_RTD_STAT_COMPL f.2.1) HK_RTD_STAT_AT_END f.2.2
  (s1.logEvent 0x0F01 3 f.1 0).hkVoidCoils f.1

/-- A pass ends (R419): counted if its last slot has run; in CONTINUOUS the next one starts. -/
def State.hkPassEnd (s : State) (whole : Bool) : State :=
  let s1 := (if whole then s.inc HK_PASSES_COUNT else s).set HK_STATUS_REG_BUSY 0
  if s1.get HK_CTRL_MODE = 1 then (s1.set HK_STATUS_REG_BUSY 1).hkNext (some (hkFresh false 0 0)) else s1.hkNext none
/-- The end of a slot (R419, R420, R428). -/
def State.hkSlotEnd (s : State) (a : HkAct) : State :=
  let s1 := (a.faults.foldl (fun t f => t.rtdFault f) s).hkIdle
  if a.inj then
    if a.slot + 1 < s1.get HK_NSLOT_NINJ then s1.hkBegin (hkFresh true (a.slot + 1) 0)
    else if s1.on HK_STATUS_INJ_HELD then (s1.set HK_STATUS_INJ_HELD 0).hkBegin (hkFresh true 0 0)
    else (s1.set HK_STATUS_INJ_BUSY 0).hkNext s1.hk.resume
  else if a.slot + 1 < s1.get HK_NSLOT_NREG then
    if s1.get HK_CTRL_MODE = 0 then s1.hkPassEnd false else s1.hkNext (some (hkFresh false (a.slot + 1) 0))
  else s1.hkPassEnd true

/-- One half's share of a kept conversion: the result to accumulate, and the first code of its pair to remember. -/
def hkResult (rtd lost : Bool) (second even : Bool) (first : Option Int) (c : Int) : Option Int × Option Int :=
  if !rtd then (some c, none)
  else if lost then (none, none)
  else if second then (first.map fun p => if even then p - c else c - p, none)
  else (none, some c)

/-- HK_CONVERSION_COMPLETE (R415): a conversion's codes are discarded, accumulated, or lost to a failed RTD check; the slot
goes on, is interrupted, or ends. -/
def State.hkConversion (s : State) (a : HkAct) (x : HkSample) : State :=
  let i0 := s.hkHalf a.inj a.slot 0
  let i1 := s.hkHalf a.inj a.slot 1
  let c0 := s.hkConverts a 0
  let c1 := s.hkConverts a 1
  let f0 := if c0 ∧ i0.typ = 3 then s.hkFails x.h0 else none
  let f1 := if c1 ∧ i1.typ = 3 then s.hkFails x.h1 else none
  let same := i0.typ == 3 && i1.typ == 3 && i0.exc == i1.exc
  let l0 := c0 && i0.typ == 3 && (f0.isSome || (same && f1.isSome))
  let l1 := c1 && i1.typ == 3 && (f1.isSome || (same && f0.isSome))
  let bad := (f0.toList.map fun f => (i0.exc, f.1, f.2)) ++ (if same && f0.isSome then [] else f1.toList.map fun f => (i1.exc, f.1, f.2))
  let off := bad.foldl (fun m f => m ||| 2 ^ f.1) 0
  let s1 := (s.incBy HK_FAULT_DISC_COUNT (l0.toNat + l1.toNat)).set HK_RTD_STAT_ON (s.get HK_RTD_STAT_ON - (s.get HK_RTD_STAT_ON &&& off))
  let a1 := { a with skip0 := a.skip0 || l0, skip1 := a.skip1 || l1, faults := a.faults ++ bad }
  let go := fun (t : State) (b : HkAct) =>
    if t.hk.injWait && !b.inj then t.hkInterrupt b else t.setHk fun h => { h with act := some { b with due := t.cyc + t.hkConv } }
  if a.discard then
    go (s1.incBy HK_DISC_COUNT ((c0 && !l0).toNat + (c1 && !l1).toNat)) { a1 with discard := false }
  else
    let v0 := x.h0.code.toInt
    let v1 := x.h1.code.toInt
    let s2 := if bit (s.hkCfg a.inj a.slot) 31 && decide (s.get HK_MIR_TOL_LSB < (v0 - v1).natAbs) then
      (s1.inc HK_MIRROR_ERR_COUNT).raise HK_FLAGS_MIRROR 1 else s1
    let even := a.parity % 2 == 0
    let r0 := if c0 then hkResult (i0.typ == 3) l0 a.second even a.first0 v0 else (none, none)
    let r1 := if c1 then hkResult (i1.typ == 3) l1 a.second even a.first1 v1 else (none, none)
    let s3 := match r0.1 with | some v => s2.keep (hkAccOf a.inj a.slot 0) v | none => s2
    let s4 := match r1.1 with | some v => s3.keep (hkAccOf a.inj a.slot 1) v | none => s3
    if s.hkRtd a.inj a.slot && !a.second then
      let b := { a1 with second := true, first0 := r0.2, first1 := r1.2, discard := true, settling := true }
      if s4.hk.injWait && !b.inj then s4.hkInterrupt b
      else s4.setHk fun h => { h with act := some { b with due := s4.cyc + s4.hkSettle b.inj b.slot } }
    else
      let b := { a1 with second := false, first0 := none, first1 := none, done := a.done + 1, parity := a.parity + 1 }
      if fld (s.hkCfg a.inj a.slot) 16 10 ≤ b.done then s4.hkSlotEnd b else go s4 b

/-- HK_CONVERSION_COMPLETE (R415): 200 or 3,200 clk_mgmt cycles after its sampling instant. -/
def execHkConversionComplete (x : HkSample) (s : State) : Host.Outcome State Fault Refusal :=
  .next (s.onDom 1 <| match s.hk.act with
    | some a => if !a.settling && decide (a.due ≤ s.cyc) then s.hkConversion a x else s
    | none => s)
/-- HK_SETTLE_EXPIRY (R417): the settling delay expires and the next conversion starts. -/
def execHkSettleExpiry (s : State) : Host.Outcome State Fault Refusal :=
  .next (s.onDom 1 <| match s.hk.act with
    | some a => if a.settling && decide (a.due ≤ s.cyc) then s.setHk fun h => { h with act := some { a with settling := false, due := s.cyc + s.hkConv } } else s
    | none => s)
/-- PERIOD_BOUNDARY (R419): in PERIODIC a boundary starts a pass, or counts as an overrun while one runs; a pass that ends in
the boundary's own cycle has ended in time (R13). -/
def execPeriodBoundary (s : State) : Host.Outcome State Fault Refusal :=
  .next (s.onDom 1 <| if s.get HK_CTRL_MODE = 2 ∧ s.hk.grid ≤ s.cyc then
    let s1 := s.setHk fun h => { h with grid := h.grid + usCyc (s.get HK_PERIOD_US) }
    if !s.on HK_STATUS_REG_BUSY then s1.hkStartPass
    else if s.past s.hk.grid then (s1.inc HK_OVERRUN_COUNT).raise HK_FLAGS_OVERRUN 1 else s
  else s)
/-- A START in SINGLE starts one pass (R419). -/
def State.hkGo (s : State) : State := if s.get HK_CTRL_MODE = 3 ∧ !s.on HK_STATUS_REG_BUSY then s.hkStartPass else s
/-- HK_START (R419). -/
def execHkStart (s : State) : Host.Outcome State Fault Refusal := .next (s.onReg 15 s.hkGo)
/-- Write MODE (R419): CONTINUOUS starts a pass at once, and PERIODIC's grid begins here. -/
def State.setHkMode (s : State) (m : Nat) : State :=
  let s1 := s.set HK_CTRL_MODE m
  if m = 1 ∧ !s.on HK_STATUS_REG_BUSY then s1.hkStartPass
  else if m = 2 then s1.setHk fun h => { h with grid := s.cyc } else s1
/-- ACC_CLR (R423). -/
def execAccClr (a : Fin 72) (s : State) : Host.Outcome State Fault Refusal := .next (s.onReg 15 (s.accClear a))
/-- A read of the count latches SUM, MIN and MAX of the same instant (R423). -/
def State.accLatch (s : State) (a : Fin 72) : State :=
  let v := s.hk.accs[a]
  (((s.set (HK_ACCa_SUM_LO_SUM a) (bitsOf 64 v.sum)).set (HK_ACCa_SUM_HI_SUM a) (bitsOf 64 v.sum / 2 ^ 32)).set
    (HK_ACCa_MIN_MIN a) (bitsOf 32 v.mn)).set (HK_ACCa_MAX_MAX a) (bitsOf 32 v.mx)
/-- ACC_CNT_READ (R423). -/
def execAccCntRead (a : Fin 72) (s : State) : Host.Outcome State Fault Refusal := .next (s.onReg 15 (s.accLatch a))
/-- Clear FAULT of an excitation (R428). -/
def State.rearm (s : State) (k : Nat) : State := s.set HK_RTD_STAT_FAULT (s.get HK_RTD_STAT_FAULT - (s.get HK_RTD_STAT_FAULT &&& 2 ^ k))
/-- RTD_REARM (R428). -/
def execRtdRearm (k : Fin 4) (s : State) : Host.Outcome State Fault Refusal := .next (s.onReg 15 (s.rearm k))
/-- Write HK_RTD_CTRL.EN: an excitation no longer allowed is not driven (R426). -/
def State.setRtdEn (s : State) (en : Nat) : State := (s.set HK_RTD_CTRL_EN en).set HK_RTD_STAT_ON (s.get HK_RTD_STAT_ON &&& en)
/-- The regular sequence is stopped; the injected sequence is idle with no trigger held (R415, R431). -/
def State.hkRegStopped (s : State) : Bool := s.get HK_CTRL_MODE == 0 && !s.on HK_STATUS_REG_BUSY
def State.hkInjIdle (s : State) : Bool := !s.on HK_STATUS_INJ_BUSY && !s.on HK_STATUS_INJ_HELD

/-! ### Opcodes (R432) -/

/-- Store the slots of an HK_SEQ_CONFIG; n slots set NREG or NINJ (log entry 15). -/
def State.hkSlots (s : State) (inj : Bool) (n : Nat) (ps : List Nat) : State :=
  let s1 := (List.range n).foldl (fun t i =>
    if inj then (t.set (HK_INJi_CFG_CFG i) (par ps (4 + 2 * i))).set (HK_INJi_IN_IN i) (par ps (5 + 2 * i))
    else (t.set (HK_SLOTs_CFG_CFG i) (par ps (4 + 2 * i))).set (HK_SLOTs_IN_IN i) (par ps (5 + 2 * i))) s
  if n = 0 then s1 else if inj then s1.set HK_NSLOT_NINJ n else s1.set HK_NSLOT_NREG n
def hkSeqConfig (s : State) (ps : List Nat) : CmdRes :=
  let inj := bit (par ps 0) 0
  let v := par ps 1
  let n := par ps 3
  if !inj && bit v 2 != s.on HK_CTRL_LP && !(s.hkRegStopped && s.hkInjIdle) then .denied
  else if n ≠ 0 ∧ !(if inj then s.hkInjIdle else s.hkRegStopped) then .denied
  else if (if inj then 4 else 32) < n ∨ !((List.range n).all fun i => hkSlotOk (par ps (4 + 2 * i)) (par ps (5 + 2 * i))) then .bad
  else if !inj ∧ par ps 2 = 0 ∧ fld v 0 2 = 2 then .bad
  else
    let s1 := s.hkSlots inj n ps
    let s2 := (s1.set HK_CTRL_INJ_LW (fld v 4 1)).set HK_CTRL_INJ_WIN (fld v 5 1)
    let s3 := if inj then s2 else
      let s4 := ((if par ps 2 = 0 then s2 else s2.set HK_PERIOD_US (par ps 2)).set HK_CTRL_LP (fld v 2 1)).setHkMode (fld v 0 2)
      if bit v 3 then s4.hkGo else s4
    .done stOk [s3.rawReg 15 4] s3
/-- HK_SEQ_CONFIG (R415, R416, R431, R432). -/
def execHkSeqConfig (c : CmdIn) (s : State) : Host.Outcome State Fault Refusal :=
  .next (runCmd 0xC0 15 (fun ps => (if bit (par ps 0) 0 then [1, 0x30, 0, full] else [1, 0x3F, full, full])
    ++ (List.replicate (min (par ps 3) 248) [0x83FFFFFF, 0x1FFF1FFF]).flatten) hkSeqConfig c s)

def hkInject (s : State) (_ : List Nat) : CmdRes :=
  if s.on HK_STATUS_INJ_HELD then .already s
  else if s.on HK_STATUS_INJ_BUSY then .done stPending [] s.injTrigger
  else .ok s.injTrigger
/-- HK_INJECT (R420, R432). -/
def execHkInject (c : CmdIn) (s : State) : Host.Outcome State Fault Refusal := .next (runCmd 0xC1 15 (fun _ => []) hkInject c s)

def hkWindow (s : State) (ps : List Nat) : CmdRes :=
  let a := par ps 0
  if 71 < a ∨ signedOf 32 (par ps 2) < signedOf 32 (par ps 1) then .bad
  else .ok ((((s.set (HK_ACCa_WLO_WLO a) (par ps 1)).set (HK_ACCa_WHI_WHI a) (par ps 2)).set (HK_ACCa_CTRL_WEN a) (par ps 3)).set (HK_ACCa_CTRL_OUT a) 0)
/-- HK_WINDOW (R424, R432). -/
def execHkWindow (c : CmdIn) (s : State) : Host.Outcome State Fault Refusal :=
  .next (runCmd 0xC2 15 (fun _ => [full, full, full, 1]) hkWindow c s)

def hkRtdOp (s : State) (ps : List Nat) : CmdRes :=
  let k := par ps 0
  let en := bit (par ps 1) 0
  let re := bit (par ps 1) 1
  if 3 < k then .bad
  else if re && !(s.get HK_RTD_STAT_FAULT).testBit k && en == (s.get HK_RTD_CTRL_EN).testBit k then .done stAlready [s.rawReg 15 0x1C] s
  else
    let m := s.get HK_RTD_CTRL_EN - (s.get HK_RTD_CTRL_EN &&& 2 ^ k) + (if en then 2 ^ k else 0)
    let s1 := (if re then s.rearm k else s).setRtdEn m
    .done stOk [s1.rawReg 15 0x1C] s1
/-- HK_RTD (R428, R432). -/
def execHkRtd (c : CmdIn) (s : State) : Host.Outcome State Fault Refusal := .next (runCmd 0xC3 15 (fun _ => [full, 3]) hkRtdOp c s)

/-- The six words of an accumulator that HK_READ_ACC replies. -/
def State.accWords (s : State) (a : Fin 72) : List Nat :=
  let v := s.hk.accs[a]
  [lo32 (bitsOf 64 v.sum), hi32 (bitsOf 64 v.sum), s.get (HK_ACCa_CNT_CNT a), bitsOf 32 v.mn, bitsOf 32 v.mx, s.rawReg 15 (0x101C + 0x20 * a)]
def hkReadAcc (s : State) (ps : List Nat) : CmdRes :=
  let a := par ps 0
  let n := par ps 1
  if n < 1 ∨ 72 < n ∨ 72 < a + n then .bad
  else
    let as := (List.range n).map fun i => Fin.ofNat 72 (a + i)
    .done stOk (as.flatMap fun i => if bit (par ps 2) 0 then (s.accBefore i).2.accWords i else s.accWords i) (if bit (par ps 2) 0 then as.foldl (fun t i => t.accClear i) s else s)
/-- HK_READ_ACC (R423, R432). -/
def execHkReadAcc (c : CmdIn) (s : State) : Host.Outcome State Fault Refusal :=
  .next (runCmd 0xC4 15 (fun _ => [full, full, 1]) hkReadAcc c s)

def hkGetStatus (s : State) (_ : List Nat) : CmdRes :=
  .data s ([s.rawReg 15 4, s.rawReg 15 0x20, s.rawReg 15 0x1C, s.get (HK_WINFLAGw_OUT 0), s.get (HK_WINFLAGw_OUT 1), s.get (HK_WINFLAGw_OUT 2)]
    ++ [s.get HK_DISC_COUNT, s.get HK_FAULT_DISC_COUNT, s.get HK_OVERRUN_COUNT, s.get HK_INJ_LOST_COUNT, s.get HK_MIRROR_ERR_COUNT, s.get HK_PASSES_COUNT])
/-- HK_GET_STATUS (R432). -/
def execHkGetStatus (c : CmdIn) (s : State) : Host.Outcome State Fault Refusal := .next (runCmd 0xC5 15 (fun _ => []) hkGetStatus c s)

end Sys2Proof.Machine
end

