-- ==== Sys2Proof/Machine/Lw.lean ====
section
/-! DEFINITION. The envelope word of the Prism, loss watch, the alarm path and trace capture (R104, R214–R231). -/

namespace Sys2Proof.Machine
open Reg

def State.setCap (s : State) (g : CapRun → CapRun) : State := { s with cap := g s.cap }

/-- ALARM_N is driven low (R225). -/
def State.alarmN (s : State) : Bool :=
  s.domainOn 2 && (s.on LW_ALARM_LATCH_A || s.on LW_ALARM_LATCH_B || (s.on LW_ALARM_REFFAIL_EN && s.on SYS_STATUS_REFCLK_SMP_BAD))

/-! ### The envelope word (R92, R97, R98, R104, R433) -/

/-- An envelope word (R104). -/
structure EnvWord where
  env : Nat
  step : Bool
  clip : Bool
  deriving DecidableEq, Repr

/-- The instant in ns of the i-th sample of interval `iv`. -/
def instant (iv : Int) (i : Nat) : Int := 5 * iv + i
/-- The envelope word of interval `iv`: the four Rayleigh values after compensation and before the correction stage (R104). -/
def State.envelope (s : State) (f : Fib) (iv : Int) (raw : EnvRaw) : EnvWord :=
  let sq := (List.finRange 5).flatMap fun (i : Fin 5) =>
    let y := s.compensated f (instant iv i) raw[i]
    ([0, 1, 2, 3] : List (Fin 6)).map fun c => (y[c] * y[c]).toNat
  ⟨sq.sum / 8192, (List.range 5).any fun i => (s.rxf[f]).stepRayAt (instant iv i),
   (List.finRange 5).any fun i => ([0, 1, 2, 3] : List (Fin 6)).any fun c => clips (raw[i])[c]⟩
/-- A sample of converters whose group does not deliver carries nothing. -/
def Sample.keep (ray bri : Bool) (x : Sample) : Sample :=
  { y := Vector.ofFn fun c => if (if c.val < 4 then ray else bri) then x.y[c] else 0
    stepRay := ray && x.stepRay, stepBri := bri && x.stepBri
    clip := (if ray then x.clip % 16 else 0) + if bri then x.clip / 16 * 16 else 0 }
/-- The five samples of interval `iv` are kept for the Prism (R94, R105): the last 140,000 intervals, more than a fibre's
longest response. -/
def State.hear (s : State) (f : Fib) (iv : Int) (raw : EnvRaw) : State :=
  let xs := Vector.ofFn fun (i : Fin 5) => (s.sampleOf f (instant iv i) raw[i]).keep (s.on (rayRdyF f)) (s.on (briRdyF f))
  s.setRxf f fun r => { r with wave := (iv, xs) :: r.wave.take 140000 }
/-- CLIP samples count per converter of a group that is ready (R92). -/
def State.countClips (s : State) (f : Fib) (raw : EnvRaw) : State :=
  (List.range 6).foldl (fun t c =>
    let n := ((List.range 5).filter fun i => clips ((raw[Fin.ofNat 5 i])[Fin.ofNat 6 c])).length
    if n ≠ 0 && s.on (if c < 4 then rayRdyF f else briRdyF f) then
      (t.incBy (RXF_CLIP_CNTc_COUNT f c) n).raise (RXF_CLIP_FLAGS_CLIP f) (2 ^ c) else t) s

/-! ### Statistics of a calibration run (R436) -/

def State.setCal (s : State) (f : Fib) (g : CalRun → CalRun) : State := { s with cal := s.cal.set f (g (s.cal[f])) }
def State.calState (s : State) (f : Nat) : Nat := s.get (CAL_STAT_STATE f)
/-- Pairs a run calibrates (R437). -/
def State.calPairs (s : State) (f : Nat) : List (Fin 3) :=
  (if s.on (CAL_CTRL_RAY f) then [0, 1] else []) ++ if s.on (CAL_CTRL_BRI f) then [2] else []
/-- Sample instants of one accumulation. -/
def State.calLength (s : State) (f : Nat) : Nat := 2 ^ s.get (CAL_CFG_NSAMP_LOG2 f)
/-- One eligible instant of a pair: offset-corrected codes and compensated values of I and Q. -/
def CalAcc.add (a : CalAcc) (oI oQ yI yQ : Int) : CalAcc :=
  { n := a.n + 1, ofsI := a.ofsI + oI, ofsQ := a.ofsQ + oQ, ii := a.ii + (yI * yI).toNat, qq := a.qq + (yQ * yQ).toNat, iq := a.iq + yI * yQ
    sym := a.sym + match a.prev with | some (pI, pQ) => pI * yQ + pQ * yI | none => 0
    prev := some (yI, yQ) }
/-- One sample instant `n` of a pair: it is taken if it is eligible and the accumulation still lacks instants. -/
def State.calInstant (s : State) (f : Fib) (n : Int) (raw : Vector (BitVec 12) 6) (p : Fin 3) (a : CalAcc) : CalAcc :=
  let cI : Fin 6 := Fin.ofNat 6 (2 * p.val)
  let cQ : Fin 6 := Fin.ofNat 6 (2 * p.val + 1)
  let step := if p = 2 then (s.rxf[f]).stepBriAt n else (s.rxf[f]).stepRayAt n
  if a.n = s.calLength f then a
  else if !s.on (if p = 2 then briRdyF f else rayRdyF f) || !s.seqRuns f || step || clips raw[cI] || clips raw[cQ] then { a with prev := none }
  else
    let y := s.compensated f n raw
    let o := fun (c : Fin 6) => 16 * (raw[c]).toInt - s.getI (CAL_OFSc_OFS f c)
    a.add (o cI) (o cQ) y[cI] y[cQ]
/-- All selected pairs have their instants. -/
def State.calFull (s : State) (f : Nat) (x : Vector CalAcc 3) : Bool := (s.calPairs f).all fun p => (x[p]).n == s.calLength f
/-- A sample instant of a run: A gathers until it is full, and B from the next clk_fab cycle on (R439). -/
def State.calSample (s : State) (f : Fib) (n : Int) (raw : Vector (BitVec 12) 6) : State :=
  let c := s.cal[f]
  let more := fun (x : Vector CalAcc 3) => Vector.ofFn fun p => if (s.calPairs f).contains p then s.calInstant f n raw p x[p] else x[p]
  match c.fromB with
  | none =>
    if n < c.from_ then s
    else
      let a := more c.accA
      let next := (((n : Rat) * 2 / 5).floor + 1 : Int)
      s.setCal f fun c => { c with accA := a, fromB := if s.calFull f a then some ((next : Rat) * 5 / 2).ceil else none }
  | some b => if n < b then s else s.setCal f fun c => { c with accB := more c.accB }
/-- The five instants of an interval, while a run accumulates. -/
def State.calGather (s : State) (f : Fib) (iv : Int) (raw : EnvRaw) : State :=
  if s.calState f = 2 ∨ s.calState f = 3 then (List.finRange 5).foldl (fun t (i : Fin 5) => t.calSample f (instant iv i) raw[i]) s else s

/-! ### Envelope positions (R214) -/

/-- The interval of position 0 of a shot. -/
def State.envZero (s : State) (f : Nat) (x : EnvShot) : Int := interval (x.at_ + (s.get (SEQ_CONN_DLY_DLY f) : Rat) / 64)

/-- The triggers as a shot uses them: those enabled at its position 0 (R217). -/
def State.shotTrigs (s : State) (f : Nat) : List LwTrig :=
  if s.on (LW_CTRL_EN f) then
    (List.range 32).filterMap fun n =>
      if s.on (LW_TRGn_CTRL_EN f n) then
        some ⟨n, s.on (LW_TRGn_CTRL_DIR f n), s.on (LW_TRGn_CTRL_ALM f n), s.on (LW_TRGn_CTRL_PKT f n), s.on (LW_TRGn_CTRL_FRZ f n),
          s.get (LW_TRGn_CTRL_WIDTH_M1 f n), s.get (LW_TRGn_POS_POS f n), s.get (LW_TRGn_LEVEL_LEVEL f n), s.get (LW_TRGn_HYST_HYST f n), 0, 0⟩
      else none
  else []
/-- A capture takes the shot (R229). -/
def State.captures (s : State) (f : Nat) (x : EnvShot) : Bool :=
  s.on LW_CAP_CTRL_EN && decide (s.get LW_STATUS_CAP_STATE = 1 ∨ s.get LW_STATUS_CAP_STATE = 2) && s.get LW_CAP_CTRL_FIBRE == f
  && (!s.on LW_CAP_CTRL_SLOT_SEL || s.get LW_CAP_CTRL_SLOT == x.slot)
  && decide (((s.cap.since - s.pwr.fabAt : Nat) : Rat) * 5 / 2 + 160 ≤ x.at_)
  && (match s.cap.post with
      | some n => decide (0 < n)
      | none => s.on LW_CAP_CTRL_MODE || decide (s.cap.taken < s.get LW_CAP_SHOTS_NSHOT))
/-- Position 0 of the current shot: its triggers, its learn and its capture record begin. -/
def State.beginShot (s : State) (f : Fib) (x : EnvShot) : State :=
  let learns := s.on (LW_FSTAT_LEARNING f) && s.seqState f == 2 && s.on (LW_CTRL_EN f)
  let s1 := s.setLw f fun w => { w with
    begun := true, trigs := s.shotTrigs f
    learn := w.learn.map fun l => { l with began := learns && l.left != 0 } }
  if s.captures f x then
    s1.setCap fun c => { c with
      cur := some ⟨c.taken % s.get LW_CAP_SHOTS_NSHOT, x, false, 0, []⟩, taken := c.taken + 1, post := c.post.map (· - 1) }
  else s1
/-- The shot's positions end: triggers that did not complete count as skipped (R216), a learn has observed one shot more
(R221), and a capture record is whole (R228). -/
def State.endShot (s : State) (f : Fib) (last : Int) : State :=
  match (s.lw[f]).cur with
  | none => s
  | some x =>
    let s1 := if (s.lw[f]).begun then s else s.beginShot f x
    let skipped := if s1.on (LW_CTRL_EN f) then ((s1.lw[f]).trigs.filter fun t => decide (last < t.pos + t.width)).length else 0
    let s2 := (s1.incBy (LW_SKIP_COUNT f) skipped).setLw f fun w => { w with
      cur := none, begun := false, trigs := []
      learn := w.learn.map fun l => if l.began then { l with began := false, left := if s1.seqState f = 2 then l.left - 1 else l.left } else l }
    match s2.cap.cur with
    | some r => if s2.get LW_CAP_CTRL_FIBRE = f.val then s2.setCap fun c => { c with cur := none, ready := c.ready ++ [r] } else s2
    | none => s2
/-- Bring the current shot up to interval `iv`: launches that have come end the shot before them, and P_end ends a shot. -/
def State.placeShots (s : State) (f : Fib) (iv : Int) : State :=
  let due := (s.lw[f]).coming.filter fun x => decide (interval x.at_ ≤ iv)
  let s1 := due.foldl (fun t x =>
    let base := match (t.lw[f]).cur with | some y => t.envZero f y | none => 0
    (t.endShot f (interval x.at_ - 1 - base)).setLw f fun w => { w with cur := some x, begun := false, coming := w.coming.drop 1 }) s
  match (s1.lw[f]).cur with
  | some x =>
    let e := iv - s1.envZero f x
    let s2 := if decide (0 ≤ e) && !(s1.lw[f]).begun then s1.beginShot f x else s1
    if (s1.pEnd f : Int) < e then s2.endShot f (s1.pEnd f) else s2
  | none => s1

/-! ### Tests (R215–R219) -/

/-- ENV as tests and learns see it (R215). -/
def testValue (w : EnvWord) : Nat := if w.clip then 0xFFFFFF else w.env
/-- The new state of a trigger, and whether it is met (R217). -/
def trigTest (t : LwTrig) (tripped : Bool) (v : Nat) : Bool × Bool :=
  if t.rise then
    if !tripped then (if t.level < v then (true, true) else (false, false))
    else (if v ≤ t.level - t.hyst then (false, false) else (true, false))
  else
    if !tripped then (if v < t.level then (true, true) else (false, false))
    else (if min 0xFFFFFF (t.level + t.hyst) ≤ v then (false, false) else (true, false))

/-- A met condition: its number, its value, and its ALM, PKT and FRZ. -/
structure Met where
  n : Nat
  v : Nat
  alm : Bool
  pkt : Bool
  frz : Bool
  deriving DecidableEq, Repr

/-- One trigger in one interval at position `e` (R216, R217). -/
def State.stepTrig (s : State) (f : Fib) (e : Nat) (w : EnvWord) (t : LwTrig) : LwTrig × Option Met × State :=
  let t1 := if t.pos ≤ e ∧ e ≤ t.pos + t.width ∧ !w.step then { t with sum := t.sum + testValue w, k := t.k + 1 } else t
  if e = t.pos + t.width then
    if t1.k = 0 then (t1, none, s.inc (LW_SKIP_COUNT f))
    else
      let st := s.get (LW_TRG_STATE_TRIPPED f)
      let v := t1.sum / t1.k
      let r := trigTest t1 (st.testBit t.n) v
      let st1 := st - (st &&& 2 ^ t.n) + (if r.1 then 2 ^ t.n else 0)
      (t1, if r.2 then some ⟨t.n, v, t.alm, t.pkt, t.frz⟩ else none, s.set (LW_TRG_STATE_TRIPPED f) st1)
  else (t1, none, s)
/-- All triggers of a shot in one interval. -/
def State.stepTrigs (s : State) (f : Fib) (e : Nat) (w : EnvWord) : List Met × State :=
  let r := (s.lw[f]).trigs.foldl (fun (p : List LwTrig × List Met × State) t =>
    let q := p.2.2.stepTrig f e w t
    (p.1 ++ [q.1], p.2.1 ++ q.2.1.toList, q.2.2)) ([], [], s)
  (r.2.1, r.2.2.setLw f fun x => { x with trigs := r.1 })

def maskBase (f : Nat) : Nat := 0x2F00000 + f * 0x10000
/-- LO and HI of a mask entry as the test reads them; an uncorrectable word acts as 0 and 0xFFFF (R388). -/
def State.maskEntry (s : State) (f j : Nat) : (Nat × Nat) × State :=
  let r := s.readWord (.fixed 7) (maskBase f + 8 * (j / 2))
  if r.1.2 then ((0, 0xFFFF), r.2)
  else
    let v := r.1.1 / 2 ^ (32 * (j % 2)) % 2 ^ 32
    ((v % 0x10000, v / 0x10000), r.2)
/-- v of R219. -/
def State.maskValue (s : State) (f : Nat) (w : EnvWord) : Nat := min 0xFFFF (testValue w / 2 ^ s.get (LW_MASK_CTRL_MSHIFT f))
/-- Position `e` lies in the used part of the mask. -/
def State.inMask (s : State) (f e : Nat) : Bool := decide (e < s.get (LW_MASK_CTRL_MLEN f) * 2 ^ s.get (LW_MASK_CTRL_MS f))
/-- The mask test of one interval (R219). -/
def State.stepMask (s : State) (f : Fib) (e : Nat) (w : EnvWord) : List Met × State :=
  if s.on (LW_CTRL_EN f) && s.on (LW_MASK_CTRL_EN f) && !s.on (LW_FSTAT_MASK_STOPPED f) && !w.step && s.inMask f e then
    let r := s.maskEntry f (e / 2 ^ s.get (LW_MASK_CTRL_MS f))
    let v := s.maskValue f w
    if v < r.1.1 ∨ r.1.2 < v then
      let s1 := r.2.inc (LW_MASK_VIOL_COUNT f)
      let s2 := if s1.on (LW_MASK_CTRL_STOP f) then (s1.set (LW_FSTAT_MASK_STOPPED f) 1).raise (LW_FLAGS_MASK_STOP f) 1 else s1
      ([⟨32, v, s.on (LW_MASK_CTRL_ALM f), s.on (LW_MASK_CTRL_PKT f), s.on (LW_MASK_CTRL_FRZ f)⟩], s2)
    else ([], r.2)
  else ([], s)
/-- A learn observes one interval (R221). -/
def State.stepLearn (s : State) (f : Fib) (e : Nat) (w : EnvWord) : State :=
  if s.on (LW_FSTAT_LEARNING f) && s.seqState f == 2 && s.on (LW_CTRL_EN f) && !w.step && s.inMask f e then
    let j := e / 2 ^ s.get (LW_MASK_CTRL_MS f)
    let v := s.maskValue f w
    s.setLw f fun x => { x with learn := x.learn.map fun l =>
      if l.began then { l with
        mn := kput j (match kget j l.mn with | some o => min o v | none => v) l.mn
        mx := kput j (match kget j l.mx with | some o => max o v | none => v) l.mx } else l }
  else s
/-- A capture record gathers raw ENV of one interval (R228). -/
def State.stepCap (s : State) (f : Fib) (e : Nat) (w : EnvWord) : State :=
  match s.cap.cur with
  | some r =>
    let st := s.get LW_CAP_START_START
    let i := (e - st) / 2 ^ s.get LW_CAP_CTRL_RED
    if s.get LW_CAP_CTRL_FIBRE = f.val ∧ st ≤ e ∧ i < s.get LW_CAP_NPTS_NPTS then
      let p := match kget i r.pts with
        | some q => ⟨min q.mn w.env, max q.mx w.env, q.step || w.step, q.clip || w.clip⟩
        | none => ⟨w.env, w.env, w.step, w.clip⟩
      s.setCap fun c => { c with cur := some { r with pts := kput i p r.pts } }
    else s
  | none => s

/-! ### Events and hold-off (R222–R225, R229) -/

/-- A hold-off runs; one of mode TIME has ended in the cycle in which it expires (R223, R13). -/
def State.holding (s : State) (f : Fib) : Bool :=
  s.on (LW_FSTAT_HOLDOFF f) && (match (s.lw[f]).holdDue with | some d => decide (s.cyc < d) | none => decide (0 < (s.lw[f]).holdLeft))
/-- An interval with met conditions falls within a hold-off. -/
def State.suppress (s : State) (f : Fib) : State :=
  let s1 := s.inc (LW_HOLD_SUPP_COUNT f)
  if (s.lw[f]).holdDue.isSome then s1
  else
    let n := (s.lw[f]).holdLeft - 1
    (s1.setLw f fun w => { w with holdLeft := n }).setB (LW_FSTAT_HOLDOFF f) (n != 0)
/-- The hold-off that starts with an event. -/
def State.startHold (s : State) (f : Fib) : State :=
  let n := s.get (LW_HOLD_COUNT f)
  let time := !s.on (LW_HOLD_MODE f)
  (s.setB (LW_FSTAT_HOLDOFF f) (n != 0)).setLw f fun w => { w with
    holdDue := if time ∧ n ≠ 0 then some (s.cyc + 40 * n) else none, holdLeft := if time then 0 else n }
/-- Set the alarm latch of a fibre (R225). -/
def State.latchAlarm (s : State) (f : Fib) : State :=
  (s.raise (if f = 0 then LW_ALARM_LATCH_A else LW_ALARM_LATCH_B) 1).setLw f fun w => { w with
    pulseDue := s.cyc + 40 * s.get LW_ALARM_PULSE_W }
/-- A capture ends (R229). -/
def State.capDone (s : State) : State := (s.set LW_STATUS_CAP_STATE 3).raise LW_STATUS_CAP_DONE 1
/-- CAPTURE_FREEZE (R229): the first event with FRZ freezes a RING capture; records of its shot are marked. -/
def State.freeze (s : State) (f : Fib) (evt : Nat) : State :=
  if s.get LW_CAP_CTRL_FIBRE ≠ f.val ∨ !s.on LW_CAP_CTRL_EN then s
  else
    let first := s.on LW_CAP_CTRL_MODE && s.get LW_STATUS_CAP_STATE == 1
    let s1 := s.setCap fun c => { c with
      cur := c.cur.map fun r => { r with trig := true, evt := if first then evt else r.evt }
      post := if first then some (s.get LW_CAP_SHOTS_POST) else c.post }
    if first then
      let n := s.get LW_CAP_SHOTS_NSHOT
      let idx := match s.cap.cur with | some r => r.idx | none => (s.cap.taken + n - 1) % n
      let s2 := (s1.set LW_STATUS_CAP_STATE 2).set LW_CAP_STAT_TRIG_REC idx
      if s2.get LW_CAP_SHOTS_POST = 0 ∧ s2.cap.cur.isNone ∧ s2.cap.ready.isEmpty then s2.capDone else s2
    else s1
/-- TRIGGER_EVENT (R222, R224): the conditions met in one interval raise one event. -/
def State.raiseEvent (s : State) (f : Fib) (e : Nat) (x : EnvShot) (ms : List Met) : State :=
  let s1 := (s.inc (LW_EVT_COUNT_COUNT f)).raise (LW_FLAGS_EVT f) 1
  let num := s1.get (LW_EVT_COUNT_COUNT f)
  let cause := (ms.filter fun m => decide (m.n < 32)).foldl (fun c m => c ||| 2 ^ m.n) 0
  let mask := (ms.any fun m => m.n == 32).toNat
  let prim := match ms.head? with | some m => m | none => ⟨0, 0, false, false, false⟩
  let ph := phase64 x.phase
  let s2 := ((((((s1.set (LW_LAST_CAUSE_CAUSE f) cause).set (LW_LAST_INFO_MASK f) mask).set (LW_LAST_INFO_PRIMARY f) prim.n).set
    (LW_LAST_POS_E f) e).set (LW_LAST_VALUE_V f) prim.v).set (LW_LAST_LFRAC_FRAC f) (lo32 ph)).set (LW_LAST_LCYC_CYCLES f) (hi32 ph)
  let s3 := if ms.any (·.alm) then s2.latchAlarm f else s2
  let s4 := if ms.any (·.frz) then s3.freeze f num else s3
  let s5 := if ms.any (·.pkt) then
      if (s4.lw[f]).fifo.length < 4 then
        s4.setLw f fun w => { w with
          fifo := w.fifo ++ [⟨[num, cause, mask + prim.n * 2 ^ 8, e, prim.v, lo32 ph, hi32 ph], x.sched.toNat + 2 * x.holdover.toNat⟩] }
      else ((s4.inc (LW_EVT_LOST_COUNT f)).raise (LW_FLAGS_LOST f) 1).setLw f fun w => { w with lost := min (w.lost + 1) 0xFFFF }
    else s4
  let s6 := s5.startHold f
  if s6.on HK_CTRL_INJ_LW && s6.domainOn 1 then s6.injTrigger else s6

/-- One interval of a shot at position `e`. -/
def State.stepPosition (s : State) (f : Fib) (x : EnvShot) (e : Nat) (w : EnvWord) : State :=
  let t := if s.on (LW_CTRL_EN f) then s.stepTrigs f e w else ([], s)
  let m := t.2.stepMask f e w
  let s1 := (m.2.stepLearn f e w).stepCap f e w
  let ms := t.1 ++ m.1
  if ms.isEmpty then s1
  else if s1.holding f then s1.suppress f
  else s1.raiseEvent f e x ms

/-- Loss watch and the trace capture take the envelope word of an interval. -/
def State.watch (s : State) (f : Fib) (iv : Int) (w : EnvWord) : State :=
  let t := s.placeShots f iv
  match (t.lw[f]).cur, (t.lw[f]).begun with
  | some x, true => t.stepPosition f x (iv - t.envZero f x).toNat w
  | _, _ => t
/-- The digital chain behind the converters takes the samples of interval `iv` (R92, R94, R104, R120, R436). -/
def State.takeSamples (s : State) (f : Fib) (iv : Int) (raw : EnvRaw) : State :=
  let clip := s.on (briRdyF f) && (List.finRange 5).any fun i => clips (raw[i])[4] || clips (raw[i])[5]
  ((((s.countClips f raw).calGather f iv raw).hear f iv raw).brilTake f iv clip).setLw f fun x => { x with lastIv := some iv }
/-- ENVELOPE_WORD (R94, R104, R214–R229): the samples of the present 5 ns interval enter the digital chain; with the Rayleigh
group ready they form an envelope word, which loss watch and the trace capture take. A further word in the same interval is
no event of the device. -/
def execEnvelopeWord (f : Fib) (raw : EnvRaw) (s : State) : Host.Outcome State Fault Refusal :=
  .next (s.onFab <|
    let iv : Int := interval s.nowNs
    if (match (s.lw[f]).lastIv with | some n => decide (n < iv) | none => true) then
      let s1 := s.syncStair f
      let w := s1.envelope f iv raw
      let s2 := s1.takeSamples f iv raw
      if s.on (rayRdyF f) then s2.watch f iv w else s2
    else s)

/-- HOLDOFF_EXPIRY (R223). -/
def execHoldoffExpiry (f : Fib) (s : State) : Host.Outcome State Fault Refusal :=
  .next (s.onFab <| match (s.lw[f]).holdDue with
    | some d => if d ≤ s.cyc then (s.set (LW_FSTAT_HOLDOFF f) 0).setLw f fun w => { w with holdDue := none } else s
    | none => s)
/-- EVENT_FIFO_TRANSFER (R224, R239): the oldest event enters the alarm queue once it has room; fibre A goes first. -/
def execEventFifoTransfer (f : Fib) (s : State) : Host.Outcome State Fault Refusal :=
  .next (s.onFab <| match (s.lw[f]).fifo with
    | e :: rest =>
      if s.alarmRoom (f.val + 1) then
        (s.enterAlarm 0x10 (f.val + 1) 0 e.words (e.marks + (s.lw[f]).lost * 2 ^ 16)).setLw f fun w => { w with fifo := rest, lost := 0 }
      else s
    | [] => s)
/-- ALARM_PULSE_EXPIRY (R225). -/
def execAlarmPulseExpiry (f : Fib) (s : State) : Host.Outcome State Fault Refusal :=
  let l := if f = 0 then LW_ALARM_LATCH_A else LW_ALARM_LATCH_B
  .next (s.onFab <| if s.on LW_ALARM_MODE && s.on l && s.past (s.lw[f]).pulseDue then s.set l 0 else s)

/-! ### Mask memory (R218, R220, R221) -/

/-- The entry a written word carries for a partner it does not write (R218). -/
def State.maskPartner (s : State) (f j : Nat) : Nat × State :=
  let r := s.readWord .cmd (maskBase f + 8 * (j / 2))
  (if r.1.2 then 0xFFFF0000 else r.1.1 / 2 ^ (32 * (j % 2)) % 2 ^ 32, r.2)
/-- Write consecutive mask entries, in whole words (R218). -/
def State.maskPut (s : State) (f first : Nat) (ws : List Nat) : State :=
  let n := ws.length
  if n = 0 then s else
    (List.range ((first + n - 1) / 2 - first / 2 + 1)).foldl (fun t i =>
      let w := first / 2 + i
      let e := fun (u : State) (j : Nat) => if first ≤ j ∧ j < first + n then (ws.getD (j - first) 0, u) else u.maskPartner f j
      let a := e t (2 * w)
      let b := e a.2 (2 * w + 1)
      b.2.writeWord (maskBase f + 8 * w) (a.1 % 2 ^ 32 + b.1 % 2 ^ 32 * 2 ^ 32)) s
/-- MASK_FILL_COMPLETE (R218, R220): 8,192 cycles after the start every entry is written, and the command is answered. -/
def execMaskFillComplete (f : Fib) (s : State) : Host.Outcome State Fault Refusal :=
  .next (s.onFab <| match (s.lw[f]).fill with
    | some (p, due, v) =>
      if due ≤ s.cyc then
        ((((s.fillWords (maskBase f) 8192 (v + v * 2 ^ 32)).set (LW_FSTAT_MASK_VALID f) 1).setLw f fun w => { w with fill := none }).answer
          p.src 0x75 stOk p.tag.toNat 0 []).retire p.src 0x75 p.tag.toNat
      else s
    | none => s)
/-- LO and HI that a learn gives entry `j` (R221). -/
def learnt (l : MaskLearn) (j : Nat) : Nat :=
  match kget j l.mn, kget j l.mx with
  | some a, some b => a * (256 - l.margin) / 256 + min 0xFFFF (cdiv (b * (256 + l.margin)) 256) * 2 ^ 16
  | _, _ => 0xFFFF0000
/-- MASK_LEARN_COMPLETE (R221, R220). -/
def execMaskLearnComplete (f : Fib) (s : State) : Host.Outcome State Fault Refusal :=
  .next (s.onFab <| match (s.lw[f]).learn with
    | some l =>
      if s.on (LW_FSTAT_LEARNING f) && l.left == 0 then
        (((s.maskPut f 0 ((List.range (s.get (LW_MASK_CTRL_MLEN f))).map (learnt l))).set (LW_FSTAT_MASK_VALID f) 1).set
          (LW_FSTAT_LEARNING f) 0).setLw f fun w => { w with learn := none }
      else s
    | none => s)

/-! ### Trace capture (R227–R229) -/

/-- The bytes of a capture record (R228). -/
def State.capBytes (s : State) (r : CapRec) : List Byte :=
  let n := s.get LW_CAP_NPTS_NPTS
  let ph := phase64 r.sh.phase
  wordsLE ([r.sh.shot % 2 ^ 32, r.sh.slot + r.sh.sched.toNat * 16 + r.sh.holdover.toNat * 32 + r.trig.toNat * 64, lo32 ph, hi32 ph,
    s.get LW_CAP_START_START, n, r.evt, 0] ++ (List.range n).flatMap fun i => match kget i r.pts with
      | some p => [p.mn + p.step.toNat * 2 ^ 24 + p.clip.toNat * 2 ^ 25, p.mx]
      | none => [2 ^ 31, 0])
/-- Bytes of one record. -/
def State.capSize (s : State) : Nat := 32 + 8 * s.get LW_CAP_NPTS_NPTS
/-- CAPTURE_RECORD (R228, R229): the record of an ended shot is written to the snapshot buffer; the capture completes with its
last one. -/
def execCaptureRecord (s : State) : Host.Outcome State Fault Refusal :=
  .next (s.onFab <| match s.cap.ready with
    | r :: rest =>
      let s1 := ((s.writeRange (snapBase + r.idx * s.capSize) (s.capBytes r)).inc LW_CAP_STAT_RECS).setCap fun c => { c with ready := rest }
      let ended := s1.cap.cur.isNone && rest.isEmpty && (match s1.cap.post with
        | some n => n == 0
        | none => !s1.on LW_CAP_CTRL_MODE && decide (s1.get LW_CAP_SHOTS_NSHOT ≤ s1.cap.taken))
      if ended then s1.capDone else s1
    | [] => s)
/-- Start a capture with the settings stored (R227). -/
def State.startCapture (s : State) : State :=
  (((((s.set LW_CAP_CTRL_EN 1).set LW_STATUS_SNAP_OWN 1).set LW_STATUS_CAP_STATE 1).set LW_CAP_STAT_RECS 0).set LW_CAP_STAT_TRIG_REC 0).setCap fun _ =>
    { CapRun.init with since := s.cyc }
/-- End a capture: the snapshot buffer is released (R227). -/
def State.stopCapture (s : State) : State :=
  (((s.set LW_CAP_CTRL_EN 0).set LW_STATUS_SNAP_OWN 0).set LW_STATUS_CAP_STATE 0).setCap fun _ => CapRun.init

/-! ### Opcodes (R231) -/

/-- Change LW_CTRL.EN: the triggers are ARMED, and a clear aborts a learn (R217, R221). -/
def State.setLwEn (s : State) (f : Fib) (en : Bool) : State :=
  if en = s.on (LW_CTRL_EN f) then s else
    let s1 := (s.setB (LW_CTRL_EN f) en).set (LW_TRG_STATE_TRIPPED f) 0
    (if en then s1 else s1.abortLearn f).setLw f fun w => { w with trigs := [] }
def lwEnable (s : State) (ps : List Nat) : CmdRes :=
  let f := fibP ps
  let en := bit (par ps 1) 0
  if en = s.on (LW_CTRL_EN f) then .already s else .ok (s.setLwEn f en)
/-- LW_ENABLE (R231). -/
def execLwEnable (c : CmdIn) (s : State) : Host.Outcome State Fault Refusal := .next (runCmd 0x70 7 (fun _ => [1, 1]) lwEnable c s)

/-- A write to a trigger's registers sets it ARMED (R217). -/
def State.armTrig (s : State) (f n : Nat) : State :=
  s.set (LW_TRG_STATE_TRIPPED f) (s.get (LW_TRG_STATE_TRIPPED f) - (s.get (LW_TRG_STATE_TRIPPED f) &&& 2 ^ n))
/-- Store a trigger's CTRL word. -/
def State.setTrigCtrl (s : State) (f n v : Nat) : State :=
  (((((s.set (LW_TRGn_CTRL_EN f n) (fld v 0 1)).set (LW_TRGn_CTRL_DIR f n) (fld v 1 1)).set (LW_TRGn_CTRL_ALM f n) (fld v 2 1)).set
    (LW_TRGn_CTRL_PKT f n) (fld v 3 1)).set (LW_TRGn_CTRL_FRZ f n) (fld v 4 1)).set (LW_TRGn_CTRL_WIDTH_M1 f n) (fld v 8 4)
def lwTrigger (s : State) (ps : List Nat) : CmdRes :=
  let f := fibP ps
  let n := par ps 1
  if 31 < n ∨ 0x3FFFF < par ps 3 ∨ 0xFFFFFF < par ps 4 ∨ 0xFFFFFF < par ps 5 then .bad
  else .ok (((((s.setTrigCtrl f n (par ps 2)).set (LW_TRGn_POS_POS f n) (par ps 3)).set (LW_TRGn_LEVEL_LEVEL f n) (par ps 4)).set
    (LW_TRGn_HYST_HYST f n) (par ps 5)).armTrig f n)
/-- LW_TRIGGER (R217, R231). -/
def execLwTrigger (c : CmdIn) (s : State) : Host.Outcome State Fault Refusal :=
  .next (runCmd 0x71 7 (fun _ => [1, full, 0xF1F, full, full, full]) lwTrigger c s)

def lwHoldoff (s : State) (ps : List Nat) : CmdRes :=
  let f := fibP ps
  .ok ((s.set (LW_HOLD_MODE f) (fld (par ps 1) 0 1)).set (LW_HOLD_COUNT f) (fld (par ps 1) 8 24))
/-- LW_HOLDOFF (R223, R231). -/
def execLwHoldoff (c : CmdIn) (s : State) : Host.Outcome State Fault Refusal :=
  .next (runCmd 0x72 7 (fun _ => [1, 0xFFFFFF01]) lwHoldoff c s)

/-- MS, MSHIFT and MLEN of a mask word lie in their ranges (R230). -/
def maskOk (v : Nat) : Bool := decide (fld v 8 3 ≤ 4) && decide (fld v 12 4 ≤ 8) && decide (1 ≤ fld v 16 15) && decide (fld v 16 15 ≤ 16384)
/-- A mask word changes MS or MLEN, or also MSHIFT. -/
def State.maskMoves (s : State) (f v : Nat) : Bool := fld v 8 3 != s.get (LW_MASK_CTRL_MS f) || fld v 16 15 != s.get (LW_MASK_CTRL_MLEN f)
/-- Store an accepted LW_MASK_CTRL word: a change of MS or MLEN clears MASK_VALID, without which EN stays 0 (R220); a write
of EN = 1 restarts the test (R219). -/
def State.setMaskCtrl (s : State) (f v : Nat) : State :=
  let s1 := if s.maskMoves f v then s.set (LW_FSTAT_MASK_VALID f) 0 else s
  let en := bit v 0 && (s1.on (LW_FSTAT_MASK_VALID f) || s1.on (LW_MASK_CTRL_EN f))
  let s2 := ((((((s1.set (LW_MASK_CTRL_STOP f) (fld v 1 1)).set (LW_MASK_CTRL_ALM f) (fld v 2 1)).set (LW_MASK_CTRL_PKT f) (fld v 3 1)).set
    (LW_MASK_CTRL_FRZ f) (fld v 4 1)).set (LW_MASK_CTRL_MS f) (fld v 8 3)).set (LW_MASK_CTRL_MSHIFT f) (fld v 12 4)).set (LW_MASK_CTRL_MLEN f) (fld v 16 15)
  let s3 := s2.setB (LW_MASK_CTRL_EN f) en
  if en then s3.set (LW_FSTAT_MASK_STOPPED f) 0 else s3
def lwMaskConfig (s : State) (ps : List Nat) : CmdRes :=
  let f := fibP ps
  let v := par ps 1
  let moves := s.maskMoves f v
  if bit v 0 && !s.on (LW_MASK_CTRL_EN f) && (!s.on (LW_FSTAT_MASK_VALID f) || moves) then .notReady
  else if (moves || fld v 12 4 != s.get (LW_MASK_CTRL_MSHIFT f)) && (s.on (LW_MASK_CTRL_EN f) || s.on (LW_FSTAT_LEARNING f)) then .denied
  else if !maskOk v then .bad
  else .ok (s.setMaskCtrl f v)
/-- LW_MASK_CONFIG (R219, R220, R231). -/
def execLwMaskConfig (c : CmdIn) (s : State) : Host.Outcome State Fault Refusal :=
  .next (runCmd 0x73 7 (fun _ => [1, 0x7FFFF71F]) lwMaskConfig c s)

/-- The mask memory is in use by a test or a learn. -/
def State.maskBusy (s : State) (f : Nat) : Bool := s.on (LW_MASK_CTRL_EN f) || s.on (LW_FSTAT_LEARNING f)
def lwMaskWrite (s : State) (ps : List Nat) : CmdRes :=
  let f := fibP ps
  if s.maskBusy f then .denied
  else if s.get (LW_MASK_CTRL_MLEN f) < par ps 1 + par ps 2 then .bad
  else .ok (s.maskPut f (par ps 1) (ps.drop 3))
/-- LW_MASK_WRITE (R218, R231). -/
def execLwMaskWrite (c : CmdIn) (s : State) : Host.Outcome State Fault Refusal :=
  .next (runCmd 0x74 7 (fun ps => [1, full, full] ++ List.replicate (min (par ps 2) 500) full) lwMaskWrite c s)

def lwMaskFill (s : State) (ps : List Nat) : CmdRes := if s.maskBusy (fibP ps) then .denied else .ok s
/-- LW_MASK_FILL (R218, R231): the command stays in execution until every entry is written. -/
def execLwMaskFill (c : CmdIn) (s : State) : Host.Outcome State Fault Refusal :=
  let ps := c.ps.map (·.toNat)
  .next (if (s.judge 0x75 7 (fun _ => [1, full]) lwMaskFill c).status = stOk then
    let p : CmdPkt := ⟨c.src, 0x75, c.tag, c.ps⟩
    { (s.setLw (fibP ps) fun w => { w with fill := some (p, s.cyc + 8192, par ps 1) }) with cmd := { s.cmd with exec := some p } }
  else runCmd 0x75 7 (fun _ => [1, full]) lwMaskFill c s)

def lwMaskLearn (s : State) (ps : List Nat) : CmdRes :=
  let f := fibP ps
  if s.seqState f ≠ 2 ∨ !s.on (LW_CTRL_EN f) then .notReady
  else if s.on (LW_MASK_CTRL_EN f) then .denied
  else if par ps 1 < 1 ∨ 0xFFFF < par ps 1 ∨ 0xFF < par ps 2 then .bad
  else .ok ((((s.set (LW_MASK_LEARN_NL f) (par ps 1)).set (LW_MASK_LEARN_MARGIN f) (par ps 2)).set (LW_FSTAT_LEARNING f) 1).setLw f fun w => { w with
    learn := some ⟨par ps 1, par ps 2, false, [], []⟩ })
/-- LW_MASK_LEARN (R221, R231). -/
def execLwMaskLearn (c : CmdIn) (s : State) : Host.Outcome State Fault Refusal :=
  .next (runCmd 0x76 7 (fun _ => [1, full, full]) lwMaskLearn c s)

def lwAlarm (s : State) (ps : List Nat) : CmdRes :=
  let v := par ps 1
  if fld v 8 24 = 0 then .bad
  else
    let s1 := ((s.set LW_ALARM_MODE (fld v 2 1)).set LW_ALARM_REFFAIL_EN (fld v 3 1)).set LW_ALARM_PULSE_W (fld v 8 24)
    let s2 := if bit (par ps 2) 0 then s1.clearBits LW_ALARM_LATCH_A 1 else s1
    let s3 := if bit (par ps 2) 1 then s2.clearBits LW_ALARM_LATCH_B 1 else s2
    .done stOk [s3.rawReg 7 4] s3
/-- LW_ALARM (R225, R231). -/
def execLwAlarm (c : CmdIn) (s : State) : Host.Outcome State Fault Refusal :=
  .next (runCmd 0x77 7 (fun _ => [0, 0xFFFFFF0C, 3]) lwAlarm c s)

/-- A capture's settings fit (R228, R230, R231). -/
def capOk (ctrl start npts shots : Nat) : Bool :=
  let n := fld shots 0 8
  decide (fld ctrl 8 4 ≤ 8) && decide (start ≤ 0x3FFFF) && decide (1 ≤ npts) && decide (npts ≤ 0x3FFFF) && decide (1 ≤ n) && decide (fld shots 8 8 < n)
  && decide (n * (32 + 8 * npts) ≤ 0x200000)
def lwCapture (s : State) (ps : List Nat) : CmdRes :=
  let f := fibP ps
  let v := par ps 2
  if !bit (par ps 1) 0 then (if s.on LW_STATUS_SNAP_OWN then .ok s.stopCapture else .already s)
  else match s.snapOther false with
    | some o => .busyWith o
    | none =>
      if s.on LW_STATUS_SNAP_OWN then (if s.get LW_CAP_CTRL_FIBRE = f.val then .already s else .busyWith (ownerOf 6 (1 - f.val)))
      else if bit v 1 != (f == 1) || !capOk v (par ps 3) (par ps 4) (par ps 5) then .bad
      else .ok (((((((((s.set LW_CAP_CTRL_FIBRE f.val).set LW_CAP_CTRL_MODE (fld v 2 1)).set LW_CAP_CTRL_SLOT_SEL (fld v 3 1)).set LW_CAP_CTRL_SLOT (fld v 4 3)).set
        LW_CAP_CTRL_RED (fld v 8 4)).set LW_CAP_START_START (par ps 3)).set LW_CAP_NPTS_NPTS (par ps 4)).set LW_CAP_SHOTS_NSHOT (fld (par ps 5) 0 8)).set
        LW_CAP_SHOTS_POST (fld (par ps 5) 8 8)).startCapture
/-- LW_CAPTURE (R227, R228, R231). -/
def execLwCapture (c : CmdIn) (s : State) : Host.Outcome State Fault Refusal :=
  .next (runCmd 0x78 7 (fun _ => [1, 1, 0xF7E, full, full, 0xFFFF]) lwCapture c s)

/-- The LW_LAST registers. -/
def State.lwLast (s : State) (f : Nat) : List Nat :=
  [s.get (LW_LAST_CAUSE_CAUSE f), s.rawReg 7 (0x1034 + 0x1000 * f), s.get (LW_LAST_POS_E f), s.get (LW_LAST_VALUE_V f),
   s.get (LW_LAST_LFRAC_FRAC f), s.get (LW_LAST_LCYC_CYCLES f)]
def lwLastEvent (s : State) (ps : List Nat) : CmdRes := .data s (s.get (LW_EVT_COUNT_COUNT (fibP ps)) :: s.lwLast (fibP ps))
/-- LW_LAST_EVENT (R231). -/
def execLwLastEvent (c : CmdIn) (s : State) : Host.Outcome State Fault Refusal := .next (runCmd 0x79 7 (fun _ => [1]) lwLastEvent c s)
def lwGetStatus (s : State) (ps : List Nat) : CmdRes :=
  let f := fibP ps
  .data s [s.rawReg 7 0, s.rawReg 7 0x20, s.rawReg 7 (0x1010 + 0x1000 * f.val), s.rawReg 7 (0x1028 + 0x1000 * f.val), s.get (LW_TRG_STATE_TRIPPED f),
    s.get (LW_EVT_COUNT_COUNT f), s.get (LW_HOLD_SUPP_COUNT f), s.get (LW_EVT_LOST_COUNT f), s.get (LW_MASK_VIOL_COUNT f), s.get (LW_SKIP_COUNT f)]
/-- LW_GET_STATUS (R231). -/
def execLwGetStatus (c : CmdIn) (s : State) : Host.Outcome State Fault Refusal := .next (runCmd 0x7A 7 (fun _ => [1]) lwGetStatus c s)

end Sys2Proof.Machine
end

