-- ==== Sys2Proof/Machine/Out.lean ====
section
/-! DEFINITION. Output streams: holding slots, the compressor, drop markers, user records and the OUT opcodes (R232–R256,
R512). -/

namespace Sys2Proof

def StreamId.code (x : StreamId) : Nat := x.fib.val * 32 + x.idx.val

end Sys2Proof

namespace Sys2Proof.Machine
open Reg

def State.setOut (s : State) (g : OutRun → OutRun) : State := { s with out := g s.out }

/-! ### Streams and their memory (R232, R233, R248, R249) -/

/-- The stream of a used stream ID. -/
def streamOf (c : Nat) : Option StreamId :=
  if c < 64 ∧ c % 32 < 18 then some ⟨Fin.ofNat 2 (c / 32), Fin.ofNat 18 (c % 32)⟩ else none
def streamEn (f : Nat) : Fld := if f = 0 then OUT_STREAM_EN_A_EN else OUT_STREAM_EN_B_EN
/-- A stream is enabled (R233). -/
def State.strOn (s : State) (c : Nat) : Bool := (s.get (streamEn (c / 32))).testBit (c % 32)
/-- Start and size of a stream's history (R248). -/
def histBase (c : Nat) : Nat :=
  let f := c / 32
  let i := c % 32
  if i = 0 then 0x2800000 + f * 0x40000 else if i ≤ 16 then 0x2880000 + f * 0x80000 + (i - 1) * 0x8000 else 0x2980000 + f * 0x10000
def histSize (c : Nat) : Nat := if c % 32 = 0 then 0x40000 else if c % 32 ≤ 16 then 0x8000 else 0x10000
def State.holdBase (s : State) : Nat := s.base40 OUT_HOLD_BASE_LO_ADDR OUT_HOLD_BASE_HI_ADDR
/-- A holding slot (R249). -/
def State.slotAddr (s : State) (c j : Nat) : Nat := s.holdBase + 2 * (histBase c - 0x2800000) + j * histSize c
/-- CMP of a stream, and REFRESH of its fibre (R255). -/
def State.cmpOf (s : State) (c : Nat) : Nat :=
  let i := c % 32
  if c < 32 then s.get (if i = 0 then OUT_CMP_CFG_A_MAIN else if i ≤ 16 then OUT_CMP_CFG_A_LOUPE else OUT_CMP_CFG_A_TEMP)
  else s.get (if i = 0 then OUT_CMP_CFG_B_MAIN else if i ≤ 16 then OUT_CMP_CFG_B_LOUPE else OUT_CMP_CFG_B_TEMP)
def State.refreshOf (s : State) (c : Nat) : Nat := s.get (if c < 32 then OUT_CMP_CFG_A_REFRESH else OUT_CMP_CFG_B_REFRESH)
def State.histOf (s : State) (c : Nat) : Option HistInfo := (s.out.hist.find? fun e => e.1 == c).map (·.2)
def State.setHist (s : State) (c : Nat) (h : HistInfo) : State :=
  s.setOut fun o => { o with hist := (c, h) :: o.hist.filter fun e => e.1 != c }

/-- 16-bit samples as bytes, and bytes as samples. -/
def sampleBytes (xs : List (BitVec 16)) : List Byte := xs.flatMap fun x => bytesLE 2 x.toNat
def samplesOf : List Byte → List (BitVec 16)
  | a :: b :: t => BitVec.ofNat 16 (ofBytesLE [a, b]) :: samplesOf t
  | _ => []
/-- Bytes up to a whole number of 64-bit words. -/
def padWords (bs : List Byte) : List Byte := bs ++ List.replicate (cdiv bs.length 8 * 8 - bs.length) 0
/-- Read `n` 64-bit words of a memory as a master; what an uncorrectable word gives is `bad`. -/
def State.readMany (s : State) (m : Master) (a n : Nat) (bad : Nat → List Byte) : (List Byte × Bool) × State :=
  (List.range n).foldl (fun p i =>
    let r := p.2.readMem m (a + 8 * i)
    ((p.1.1 ++ (if r.1.2 then bad i else bytesLE 8 r.1.1), p.1.2 || r.1.2), r.2)) (([], false), s)

/-! ### Payload formats (R234–R237, R251) -/

/-- Word 0 of a class S payload. -/
def sWord (typ c frameNo : Nat) : Nat := typ + c * 2 ^ 8 + frameNo % 2 ^ 16 * 2 ^ 16
def Payload.typ (p : Payload) : Nat := (p.bytes.getD 0 0).toNat
def Payload.sid (p : Payload) : Nat := (p.bytes.getD 1 0).toNat % 64
/-- FRAME_HEAD (R235). -/
def headBytes (e : Enc) : List Byte :=
  let f := e.frame
  let c := f.sid.code
  let b := fun (x : Bool) (i : Nat) => x.toNat * 2 ^ i
  wordsLE [sWord 1 c f.frameNo, f.frameNo, lo32 f.ts, hi32 f.ts,
    b f.settling 0 + b f.sched 1 + b f.holdover 2 + b f.lateFit 3 + b f.refStale 4 + b f.short 5 + b f.format 6 + b e.histReset 7
      + e.cmp * 2 ^ 8 + f.spacing * 2 ^ 10 + f.first * 2 ^ 12,
    f.samples.length, (f.samples.filter fun x => x == 0x8000).length, if c % 32 = 17 then f.captures else 0]
/-- The DROP payload of a marker (R251). -/
def dropBytes (d : Nat × Nat × Nat) : List Byte := wordsLE [sWord 4 d.1 0, d.2.1, d.2.2]

/-! ### The compressor (R242–R246) -/

/-- Code width of a CMP value (R242). -/
def cmpBits (cmp : Nat) : Nat := match cmp with | 1 => 7 | 2 => 5 | _ => 3
/-- The prediction of a sample (R243). -/
def predOf (zero : Bool) (h : Option (BitVec 16)) : Int :=
  if zero then 0 else match h with | some v => if v = 0x8000 then 0 else v.toInt | none => 0
/-- Quantise a residual (R244). -/
def quant (d : Int) (sh : Nat) : Int := if sh = 0 then d else (d + 2 ^ (sh - 1)) / 2 ^ sh
/-- The smallest shift for which every residual's code is valid. -/
def shiftFor (b : Nat) (ds : List Int) : Nat :=
  ((List.range 16).find? fun sh => ds.all fun d => decide ((quant d sh).natAbs < 2 ^ (b - 1))).getD 15
/-- Residuals of the valid samples of a group. -/
def residuals (zero : Bool) (xs : List (BitVec 16)) (hs : List (Option (BitVec 16))) : List Int :=
  ((xs.zip hs).filter fun p => p.1 != 0x8000).map fun p => p.1.toInt - predOf zero p.2
/-- A coded group: shift, PRED, codes and reconstruction. -/
structure Group where
  shift : Nat
  pred : Bool
  codes : List Int
  recon : List (BitVec 16)
  deriving DecidableEq, Repr
/-- Code a group of 8 samples; `noHist` forbids the history (HIST_RESET), `forced` selects PRED = 1 (R388). -/
def codeGroup (b : Nat) (noHist forced : Bool) (xs : List (BitVec 16)) (hs : List (Option (BitVec 16))) : Group :=
  let s0 := shiftFor b (residuals noHist xs hs)
  let s1 := shiftFor b (residuals true xs hs)
  let pred := forced || decide (s1 < s0)
  let sh := if pred then s1 else s0
  let zero := pred || noHist
  let q := (xs.zip hs).map fun p => if p.1 = 0x8000 then -(2 ^ (b - 1) : Int) else quant (p.1.toInt - predOf zero p.2) sh
  let r := ((xs.zip hs).zip q).map fun p =>
    if p.1.1 = 0x8000 then (0x8000 : BitVec 16)
    else BitVec.ofInt 16 (min 32767 (max (-32767) (predOf zero p.1.2 + p.2 * 2 ^ sh)))
  ⟨sh, pred, q, r⟩
/-- Code a block of 64 samples: its bytes and reconstruction (R242–R244). `bad g` marks groups with an uncorrectable history. -/
def codeBlock (cmp : Nat) (noHist : Bool) (bad : Nat → Bool) (xs : List (BitVec 16)) (hs : List (Option (BitVec 16))) : List Byte × List (BitVec 16) :=
  if cmp = 0 then (sampleBytes xs, xs)
  else
    let b := cmpBits cmp
    let gs := (List.range 8).map fun g => codeGroup b noHist (bad g) ((xs.drop (8 * g)).take 8) ((hs.drop (8 * g)).take 8)
    let v := (gs.flatMap (·.codes)).foldr (fun q acc => bitsOf b q + acc * 2 ^ b) 0
    (gs.map (fun g => BitVec.ofNat 8 (g.shift + g.pred.toNat * 16)) ++ bytesLE (8 * b) v, gs.flatMap (·.recon))

/-! ### Hand-over, encoding, drops (R250, R251) -/

/-- Frames of a stream held. -/
def State.heldOf (s : State) (c : Nat) : List HeldFrame := s.out.held.filter fun h => h.frame.sid.code == c
/-- Add a dropped frame to its stream's marker (R251). -/
def addDrop (c n : Nat) (ds : List (Nat × Nat × Nat)) : List (Nat × Nat × Nat) :=
  if ds.any fun d => d.1 == c then ds.map fun d => if d.1 == c then (c, d.2.1, d.2.2 + 1) else d else ds ++ [(c, n, 1)]
/-- Hold frames in order of hand-over; in one cycle fibre A before fibre B, then ascending stream index (R250). -/
def insertHeld (h : HeldFrame) : List HeldFrame → List HeldFrame
  | [] => [h]
  | x :: t => if x.at_ = h.at_ ∧ h.frame.sid.code < x.frame.sid.code then h :: x :: t else x :: insertHeld h t
/-- FRAME_HANDOVER (R250, R233, R251): the frame a producer offers is discarded, held, or dropped. -/
def execFrameHandover (s : State) : Host.Outcome State Fault Refusal :=
  .next (s.onFab <| match s.out.offered with
    | f :: rest =>
      let s1 := s.setOut fun o => { o with offered := rest }
      let c := f.sid.code
      if !s.strOn c then s1
      else match [0, 1].find? fun j => !((s.heldOf c).any fun h => h.slot == j) with
        | some j =>
          (s1.writeDram .stream (s.slotAddr c j) (padWords (sampleBytes f.samples))).setOut fun o => { o with
            held := insertHeld ⟨{ f with samples := [] }, j, f.samples.length, s.cyc⟩ o.held }
        | none => ((s1.inc OUT_DROP_COUNT_COUNT).raise OUT_FLAGS_DROP 1).setOut fun o => { o with drops := addDrop c f.frameNo o.drops }
    | [] => s)

def State.bufFree (s : State) : Nat := s.get OUT_BUF_FREE_BYTES
/-- Reserve transmit buffer bytes. -/
def State.reserve (s : State) (n : Nat) : State := s.set OUT_BUF_FREE_BYTES (s.bufFree - n)
/-- An offset of the transmit buffer, which is used in order and round and round (R248; log entry 64). -/
def txAddr (o : Nat) : Nat := 0x29A0000 + o % 0x40000
/-- Put a class S payload into the transmit buffer. -/
def State.pushS (s : State) (bs : List Byte) : State :=
  let o := s.out.txAt
  let n := 0x40000 - o
  ((s.writeRange (txAddr o) (bs.take n)).writeRange (txAddr 0) (bs.drop n)).setOut fun r => { r with
    tx := r.tx ++ [⟨bs, some o⟩], txAt := (o + bs.length) % 0x40000 }
/-- HIST_RESET of a frame (R245, R247). -/
def State.histReset (s : State) (f : Frame) (npos : Nat) : Bool :=
  let c := f.sid.code
  s.out.fresh.contains c || (s.refreshOf c != 0 && f.frameNo % s.refreshOf c == 0)
  || (match s.histOf c with
      | some h => h.cmp != s.cmpOf c || h.npos != npos || h.first != f.first || h.spacing != f.spacing
      | none => true)
/-- Samples of a held frame; the four of an uncorrectable word read as 0x8000 (R52, R380). -/
def State.readHeld (s : State) (h : HeldFrame) : List (BitVec 16) × State :=
  let r := s.readMany .stream (s.slotAddr h.frame.sid.code h.slot) (cdiv h.npos 4) fun _ => [0, 0x80, 0, 0x80, 0, 0x80, 0, 0x80]
  ((samplesOf r.1.1).take h.npos, r.2)
/-- Bytes of a coded block, and the blocks of a frame (R236, R242). -/
def blockBytes (cmp : Nat) : Nat := if cmp = 0 then 128 else 8 + 8 * cmpBits cmp
def Enc.nblk (e : Enc) : Nat := cdiv e.frame.samples.length 64
/-- Transmit buffer bytes the encoder's next step needs (R250). -/
def Enc.need (e : Enc) : Nat :=
  if !e.head then 32 else if e.block < e.nblk then blockBytes e.cmp + (if e.block % 16 = 0 then 8 else 0) else 16
/-- The encoder waits for the transmit buffer. -/
def State.encWaits (s : State) : Bool := match s.out.enc with | some e => decide (s.bufFree < e.need) | none => false
/-- OUT_STATUS, whose STALL follows the encoder (R255). -/
def State.outStatus (s : State) : Nat := s.rawReg 8 4 + (s.encWaits).toNat * 4
/-- FRAME_HEAD of the frame begun, once the transmit buffer has room for it. -/
def State.writeHead (s : State) (e : Enc) : State :=
  if s.bufFree < 32 then s else ((s.reserve 32).pushS (headBytes e)).setOut fun o => { o with enc := some { e with head := true } }
/-- FRAME_ENCODE (R250): the held frame of the earliest hand-over is taken and its slot is freed; FRAME_HEAD follows once there
is room. -/
def execFrameEncode (s : State) : Host.Outcome State Fault Refusal :=
  .next (s.onFab <| match s.out.enc, s.out.held with
    | none, h :: rest =>
      let r := s.readHeld h
      let e : Enc := ⟨{ h.frame with samples := r.1 }, false, s.cmpOf h.frame.sid.code, s.histReset h.frame h.npos, 0, [], []⟩
      (r.2.setOut fun o => { o with held := rest, enc := some e, fresh := o.fresh.filter (· != h.frame.sid.code) }).writeHead e
    | some e, _ => if e.head then s else s.writeHead e
    | none, [] => s)
/-- History of samples `64n` to `64n + 63`, none above the history frame, with the groups that are uncorrectable. -/
def State.readHist (s : State) (c n npos : Nat) : (List (Option (BitVec 16)) × List Nat) × State :=
  (List.range 16).foldl (fun p i =>
    if 64 * n + 4 * i < npos then
      let r := p.2.readWord (.fixed 8) (histBase c + 128 * n + 8 * i)
      ((p.1.1 ++ (samplesOf (bytesLE 8 r.1.1)).map some, if r.1.2 then p.1.2 ++ [i / 2] else p.1.2), r.2)
    else ((p.1.1 ++ List.replicate 4 none, p.1.2), p.2)) (([], []), s)
/-- BLOCK_ENCODE (R243, R244, R250): one block is coded once the transmit buffer has room, and the history follows it. -/
def execBlockEncode (s : State) : Host.Outcome State Fault Refusal :=
  .next (s.onFab <| match s.out.enc with
    | some e =>
      if !e.head ∨ e.nblk ≤ e.block ∨ s.bufFree < e.need then s
      else
        let c := e.frame.sid.code
        let npos := e.frame.samples.length
        let xs := (e.frame.samples.drop (64 * e.block)).take 64
        let ys := xs ++ List.replicate (64 - xs.length) 0x8000
        let h := if e.histReset || e.cmp == 0 then ((List.replicate 64 none, []), s) else s.readHist c e.block npos
        let r := codeBlock e.cmp e.histReset (fun g => h.1.2.contains g) ys h.1.1
        let rec_ := r.2.take xs.length
        let data := e.data ++ r.1
        let last := e.block % 16 == 15 || e.block + 1 == e.nblk
        let n := e.block % 16 + 1
        let s1 := (h.2.reserve e.need).writeRange (histBase c + 128 * e.block) (padWords (sampleBytes rec_))
        let s2 := if last then s1.pushS (wordsLE [sWord 2 c e.frame.frameNo, e.block / 16 * 16 + n * 2 ^ 16] ++ data) else s1
        s2.setOut fun o => { o with enc := some { e with block := e.block + 1, data := if last then [] else data, recon := e.recon ++ rec_ } }
    | none => s)
/-- FRAME_TAIL (R246, R250): the frame is complete, and its reconstruction is the stream's history. -/
def execFrameTail (s : State) : Host.Outcome State Fault Refusal :=
  .next (s.onFab <| match s.out.enc with
    | some e =>
      if !e.head ∨ e.block < e.nblk ∨ s.bufFree < 16 then s
      else
        let c := e.frame.sid.code
        let crc := crc32c (sampleBytes e.recon)
        (((s.reserve 16).pushS (wordsLE [sWord 3 c e.frame.frameNo, e.nblk, crc, 0])).setHist c
          ⟨e.frame.frameNo, e.frame.samples.length, e.frame.first, e.frame.spacing, e.cmp, crc, true⟩).setOut fun o => { o with enc := none }
    | none => s)

/-- A frame of the stream is in progress on the link: its FRAME_HEAD has left and its FRAME_TAIL has not (R251). -/
def State.midFrame (s : State) (c : Nat) : Bool :=
  match s.out.tx.find? fun p => p.sid == c && p.typ != 4 with
  | some p => p.typ != 1
  | none => (match s.out.enc with | some e => e.head && e.frame.sid.code == c | none => false)
/-- Send a stream's pending marker at the next packet boundary: it goes first of what waits. -/
def State.sendMarker (s : State) (c : Nat) : State :=
  match s.out.drops.find? fun d => d.1 == c with
  | some d => s.setOut fun o => { o with drops := o.drops.filter (fun x => x.1 != c), tx := ⟨dropBytes d, none⟩ :: o.tx }
  | none => s
/-- DROP_MARKER_SEND (R251): after the FRAME_TAIL of the stream's frame in progress, or at the next packet boundary. -/
def execDropMarkerSend (sid : StreamId) (s : State) : Host.Outcome State Fault Refusal :=
  .next (s.onFab <| if s.on OUT_STATUS_HOST_ACTIVE && !s.midFrame sid.code then s.sendMarker sid.code else s)

/-! ### User records (R254, R512) -/

def userEn (i : Fin 2) : Fld := if i = 0 then OUT_CTRL_USER_EN14 else OUT_CTRL_USER_EN15
def userHalt (i : Fin 2) : Fld := if i = 0 then OUT_STATUS_USER_HALT14 else OUT_STATUS_USER_HALT15
def userBase (i : Fin 2) : Nat := 0x29F0000 + i.val * 0x8000
/-- Write USER_EN of an engine: from 0 to 1 the value served is 0 and the polls are counted from here (R254). -/
def State.setUserEn (s : State) (i : Fin 2) (en : Bool) : State :=
  let s1 := s.setB (userEn i) en
  if en && !s.on (userEn i) then
    (s1.set (userHalt i) 0).setOut fun o => { o with served := o.served.set i 0, pollAt := o.pollAt.set i (s.cyc + 1024) }
  else s1
/-- Take SEND_SEQ as served and write it to the engine's Y memory. -/
def State.serveUser (s : State) (i : Fin 2) (seq : Nat) : State :=
  (s.setOut fun o => { o with served := o.served.set i seq }).writeNarrow (.fixed 8) (engMem (14 + i.val) 1 + 0x1FC00) 4 seq
/-- Read words that leave as bulk data or frame bytes: uncorrectable ones are sent as zeros and reported (R388). -/
def State.readReported (s : State) (m : Master) (a n : Nat) : List Byte × State :=
  (List.range n).foldl (fun p i =>
    let r := p.2.readWord m (a + 8 * i)
    if r.1.2 then (p.1 ++ List.replicate 8 0, r.2.integrity 3 m.id (a + 8 * i) 0)
    else (p.1 ++ bytesLE 8 r.1.1, r.2)) ([], s)
/-- A class S payload as it leaves the transmit buffer (R388). -/
def State.readTx (s : State) (p : Payload) : List Byte × State :=
  match p.at_ with
  | some o =>
    let n := min p.bytes.length (0x40000 - o)
    let a := s.readReported (.fixed 10) (txAddr o) (n / 8)
    let b := a.2.readReported (.fixed 10) (txAddr 0) ((p.bytes.length - n) / 8)
    (a.1 ++ b.1, b.2)
  | none => (p.bytes, s)
/-- Bulk staging of an engine's user record: half of the region each (R248; log entry 64). -/
def stageBase (i : Fin 2) : Nat := 0x29E0000 + i.val * 0x8000
/-- USER_AREA_POLL (R254, R512). -/
def execUserAreaPoll (de15 : Bool) (s : State) : Host.Outcome State Fault Refusal :=
  let i : Fin 2 := if de15 then 1 else 0
  .next (s.onFab <| if s.on (userEn i) && !s.on (userHalt i) && decide (s.out.pollAt[i] ≤ s.cyc) then
    let s0 := s.setOut fun o => { o with pollAt := o.pollAt.set i (s.out.pollAt[i] + ((s.cyc - s.out.pollAt[i]) / 1024 + 1) * 1024) }
    let r := s0.readWord (.fixed 8) (userBase i)
    let seq := lo32 r.1.1
    if r.1.2 then
      (((r.2.set (userHalt i) 1).raise OUT_FLAGS_USER_ERR 1).integrity 3 (Master.fixed 8).id (userBase i) 0)
    else if seq = s.out.served[i] then r.2
    else
      let q := r.2.readWord (.fixed 8) (userBase i)
      let len := hi32 q.1.1
      if q.1.2 then ((q.2.raise OUT_FLAGS_USER_ERR 1).serveUser i seq).integrity 3 (Master.fixed 8).id (userBase i) 0
      else if len < 8 ∨ 32736 < len ∨ len % 8 ≠ 0 then (q.2.raise OUT_FLAGS_USER_ERR 1).serveUser i seq
      else
        let d := q.2.readReported (.fixed 8) (userBase i + 32) (len / 8)
        ((d.2.writeRange (stageBase i) d.1).serveUser i seq).postBulk ⟨4 + i.val, seq % 2 ^ 16, d.1, 0, none, some (stageBase i)⟩
  else s)

/-! ### Opcodes (R256) -/

/-- Enable or disable a stream; the first frame after an enable has no history unless one was restored (R245, R247). -/
def State.setStreamEn (s : State) (c : Nat) (en : Bool) : State :=
  let m := s.get (streamEn (c / 32))
  let b := 2 ^ (c % 32)
  let s1 := s.set (streamEn (c / 32)) (m - (m &&& b) + if en then b else 0)
  if en && !s.strOn c then s1.setOut fun o => { o with
    fresh := if o.restored.contains c then o.fresh.filter (· != c) else c :: o.fresh.filter (· != c), restored := o.restored.filter (· != c) }
  else s1
def outStream (s : State) (ps : List Nat) : CmdRes :=
  let c := par ps 1
  let en := bit (par ps 2) 0
  if !s.on OUT_STATUS_HOLD_VALID then .notReady
  else if (streamOf c).isNone then .bad
  else if en = s.strOn c then .already s
  else .ok (s.setStreamEn c en)
/-- OUT_STREAM (R233, R249, R256). -/
def execOutStream (c : CmdIn) (s : State) : Host.Outcome State Fault Refusal :=
  .next (runCmd 0x80 8 (fun _ => [0, full, 1]) outStream c s)

/-- Store a fibre's OUT_CMP_CFG word. -/
def State.setCmpCfg (s : State) (f v : Nat) : State :=
  if f = 0 then
    (((s.set OUT_CMP_CFG_A_MAIN (fld v 0 2)).set OUT_CMP_CFG_A_LOUPE (fld v 2 2)).set OUT_CMP_CFG_A_TEMP (fld v 4 2)).set OUT_CMP_CFG_A_REFRESH (fld v 16 16)
  else
    (((s.set OUT_CMP_CFG_B_MAIN (fld v 0 2)).set OUT_CMP_CFG_B_LOUPE (fld v 2 2)).set OUT_CMP_CFG_B_TEMP (fld v 4 2)).set OUT_CMP_CFG_B_REFRESH (fld v 16 16)
def outCmp (s : State) (ps : List Nat) : CmdRes := .ok (s.setCmpCfg (par ps 0) (par ps 1))
/-- OUT_CMP (R256). -/
def execOutCmp (c : CmdIn) (s : State) : Host.Outcome State Fault Refusal :=
  .next (runCmd 0x81 8 (fun _ => [1, 0xFFFF003F]) outCmp c s)

/-- Every stream is disabled. -/
def State.streamsOff (s : State) : Bool := s.get OUT_STREAM_EN_A_EN == 0 && s.get OUT_STREAM_EN_B_EN == 0
/-- The holding area's bytes (R249). -/
def holdBytes : Nat := 3328 * 1024
/-- The holding area may lie at a base (R249). -/
def State.holdOk (s : State) (lo hi : Nat) : Bool :=
  let a := baseOf lo hi
  s.areaOk lo hi holdBytes && [0, 1].all fun f =>
    !overlap a holdBytes (s.ctBase f) (1024 * s.ctKib f) && !overlap a holdBytes (s.stBase f) (1024 * s.stKib f)
    && !overlap a holdBytes (s.accBase f) (1024 * s.accKib f) && !overlap a holdBytes (s.resBase f) (1024 * s.resKib f)
/-- Place the holding area. -/
def State.setHoldBase (s : State) (lo hi : Nat) : State :=
  ((s.set OUT_HOLD_BASE_LO_ADDR (lo / 4096)).set OUT_HOLD_BASE_HI_ADDR hi).setB OUT_STATUS_HOLD_VALID (s.holdOk lo hi)
def outMemSetup (s : State) (ps : List Nat) : CmdRes :=
  if !s.streamsOff then .denied
  else if !s.holdOk (par ps 1) (par ps 2) then .bad
  else .done stOk [s.get OUT_HOLD_REQ_KIB] (s.setHoldBase (par ps 1) (par ps 2))
/-- OUT_MEM_SETUP (R249, R256). -/
def execOutMemSetup (c : CmdIn) (s : State) : Host.Outcome State Fault Refusal :=
  .next (runCmd 0x82 8 (fun _ => [0, full, full]) outMemSetup c s)

/-- `n` bytes from an address lie in installed memory of one channel, or of both where the first is full. -/
def State.inMemory (s : State) (a n : Nat) : Bool :=
  s.inChannel a n || match regionOf a with
    | .dram 0 off => s.installed 0 == 0x400000000 && decide (off < 0x400000000) && s.inChannel 0x8400000000 (off + n - 0x400000000)
    | _ => false
/-- An image of `n` bytes may lie at an address: 8-byte aligned, in installed memory (R247). -/
def State.imageOk (s : State) (lo hi n : Nat) : Bool := lo % 8 == 0 && decide (hi < 256) && s.inMemory (baseOf lo hi) n
def outCmpSave (s : State) (ps : List Nat) : CmdRes :=
  let c := par ps 1
  if (streamOf c).isNone then .bad
  else if s.strOn c then .denied
  else match s.histOf c with
    | some h =>
      if !h.coded then .notReady
      else if !s.imageOk (par ps 2) (par ps 3) (32 + 2 * h.npos) then .bad
      else
        let r := s.readMany (.fixed 8) (histBase c) (cdiv h.npos 4) fun _ => List.replicate 8 0
        if r.1.2 then .done stFault [] r.2
        else
          let a := baseOf (par ps 2) (par ps 3)
          let img := wordsLE [c, h.frameNo, h.npos, h.first + h.spacing * 2 ^ 17, h.crc, 0, 0, 0] ++ r.1.1.take (2 * h.npos)
          .done stOk [h.frameNo, h.crc] (r.2.writeDram .stream a img)
    | none => .notReady
/-- OUT_CMP_SAVE (R247, R256). -/
def execOutCmpSave (c : CmdIn) (s : State) : Host.Outcome State Fault Refusal :=
  .next (runCmd 0x83 8 (fun _ => [0, full, full, full]) outCmpSave c s)

/-- A restored image: its header words, or why it is refused, with the reads made. -/
def outCmpRestore (s : State) (ps : List Nat) : CmdRes :=
  let c := par ps 1
  let a := baseOf (par ps 2) (par ps 3)
  if (streamOf c).isNone then .bad
  else if s.strOn c then .denied
  else if !s.imageOk (par ps 2) (par ps 3) 32 then .bad
  else
    let r := s.readMany .stream a 4 fun _ => List.replicate 8 0
    let w := toWords r.1.1
    let npos := w.getD 2 0
    if r.1.2 then .done stFault [] r.2
    else if w.getD 0 0 ≠ c ∨ histSize c < 2 * npos ∨ !s.imageOk (par ps 2) (par ps 3) (32 + 2 * npos) then .done stBadParam [] r.2
    else
      let d := r.2.readMany .stream (a + 32) (cdiv npos 4) fun _ => List.replicate 8 0
      let xs := (samplesOf d.1.1).take npos
      let crc := crc32c (sampleBytes xs)
      if d.1.2 then .done stFault [] d.2
      else if w.getD 4 0 ≠ crc then .done stBadParam [] d.2
      else
        let v := w.getD 3 0
        let h := s.histOf c
        .done stOk [w.getD 1 0] (((d.2.writeRange (histBase c) (padWords (sampleBytes xs))).setHist c
          ⟨w.getD 1 0, npos, fld v 0 17, fld v 17 2, (h.map (·.cmp)).getD (s.cmpOf c), crc, (h.map (·.coded)).getD false⟩).setOut fun o => { o with
            restored := c :: o.restored.filter (· != c) })
/-- OUT_CMP_RESTORE (R247, R256). -/
def execOutCmpRestore (c : CmdIn) (s : State) : Host.Outcome State Fault Refusal :=
  .next (runCmd 0x84 8 (fun _ => [0, full, full, full]) outCmpRestore c s)

def outSnapRead (tag : Nat) (s : State) (ps : List Nat) : CmdRes :=
  let o := par ps 1
  let n := par ps 2
  if s.get LW_STATUS_CAP_STATE = 1 ∨ s.get LW_STATUS_CAP_STATE = 2 ∨ s.on BRIL_STATUS_DUMP_PEND then .denied
  else if o % 8 ≠ 0 ∨ n % 8 ≠ 0 ∨ n < 8 ∨ 0x200000 < o + n then .bad
  else if s.on OUT_STATUS_SNAP_RD then .busyWith (ownerOf 8 0)
  else
    let r := s.readReported .linkDma (snapBase + o) (n / 8)
    .done stOk [tag] ((r.2.set OUT_STATUS_SNAP_RD 1).postBulk ⟨2, tag, r.1, 0, none, none⟩)
/-- OUT_SNAP_READ (R253, R256). -/
def execOutSnapRead (c : CmdIn) (s : State) : Host.Outcome State Fault Refusal :=
  .next (runCmd 0x85 8 (fun _ => [0, full, full]) (outSnapRead c.tag.toNat) c s)

def outUser (s : State) (ps : List Nat) : CmdRes :=
  .ok ((s.setUserEn 0 (bit (par ps 1) 0)).setUserEn 1 (bit (par ps 1) 1))
/-- OUT_USER (R254, R256). -/
def execOutUser (c : CmdIn) (s : State) : Host.Outcome State Fault Refusal := .next (runCmd 0x86 8 (fun _ => [0, 3]) outUser c s)

def outGetStatus (s : State) (_ : List Nat) : CmdRes :=
  .data s [s.outStatus, s.rawReg 8 0x38, s.out.alarms.length, s.bufFree, s.get OUT_ASEQ_NEXT,
    s.get OUT_DROP_COUNT_COUNT, s.get OUT_STALL_CYC_COUNT, s.get OUT_ALARM_SENT_COUNT, s.get OUT_ALARM_DISC_COUNT, s.get OUT_FRAMES_COUNT]
/-- OUT_GET_STATUS (R256). -/
def execOutGetStatus (c : CmdIn) (s : State) : Host.Outcome State Fault Refusal := .next (runCmd 0x87 8 (fun _ => []) outGetStatus c s)

end Sys2Proof.Machine
end

