-- ==== Sys2Proof/Machine/Intake.lean ====
section
/-! DEFINITION. How command packets reach the queue, leave it and are answered: the hardware checks, the queue, the SPI
target port and the general opcodes that touch no other block (R315–R326, R329, R332–R339). -/

namespace Sys2Proof.Machine
open Reg

def State.setCmd (s : State) (g : CmdRun → CmdRun) : State := { s with cmd := g s.cmd }

/-! ### Intake (R315, R323, R324, R326) -/

/-- Occupied queue entries: those that wait and the one in execution, whose entry is free once it is answered (R324). -/
def State.queueLevel (s : State) : Nat := s.cmd.queue.length + s.cmd.exec.isSome.toNat
/-- The opcodes of R328. -/
def knownOp (op : Nat) : Bool :=
  op ≤ 0x05 || (0x10 ≤ op && op ≤ 0x1A) || (0x20 ≤ op && op ≤ 0x26) || (0x30 ≤ op && op ≤ 0x36) || (0x40 ≤ op && op ≤ 0x47)
  || (0x50 ≤ op && op ≤ 0x59) || (0x60 ≤ op && op ≤ 0x65) || (0x70 ≤ op && op ≤ 0x7A) || (0x80 ≤ op && op ≤ 0x87)
  || (0x90 ≤ op && op ≤ 0x97) || (0xA0 ≤ op && op ≤ 0xAA) || (0xB0 ≤ op && op ≤ 0xB4) || (0xC0 ≤ op && op ≤ 0xCE)
  || (0xD0 ≤ op && op ≤ 0xD3) || (0xE0 ≤ op && op ≤ 0xE4) || (0xF0 ≤ op && op ≤ 0xFF)
/-- OPCODE, TAG and NPARAM of a packet as received. -/
def pktOp (b : List Byte) : Nat := (b.getD 0 0).toNat
def pktTag (b : List Byte) : Nat := ofBytesLE ((b.drop 2).take 2)
def pktN (b : List Byte) : Nat := ofBytesLE ((b.drop 4).take 4) % 512
/-- Check 1: the length (R323). -/
def pktLenOk (b : List Byte) : Bool := 12 ≤ b.length && pktN b ≤ 500 && b.length == 12 + 4 * pktN b
/-- Check 2: the CRC (R323, R315). -/
def pktCrcOk (b : List Byte) : Bool := crc32c (b.take (8 + 4 * pktN b)) == ofBytesLE (b.drop (8 + 4 * pktN b))
/-- A packet's content. -/
def pktOf (src : CmdSrc) (b : List Byte) : CmdPkt :=
  ⟨src, BitVec.ofNat 8 (pktOp b), BitVec.ofNat 16 (pktTag b), (toWords ((b.drop 8).take (4 * pktN b))).map (BitVec.ofNat 32)⟩
/-- A reply of the CMD hardware. -/
def State.hwReply (s : State) (src : CmdSrc) (b : List Byte) (st : Nat) : State := s.answer src (pktOp b) st (pktTag b) 0 []
/-- A packet completes: checks 1 to 3, and its entry into the queue (R323, R324, R326). -/
def State.takePacket (s : State) (src : CmdSrc) (b : List Byte) : State :=
  if !pktLenOk b then s.hwReply src b stBadParam
  else if !pktCrcOk b then ((s.inc CMD_CRC_ERR_COUNT).raise CMD_FLAGS_BAD_CRC 1).hwReply src b stBadCrc
  else if s.cmd.resetting then s.hwReply src b stNotReady
  else if 16 ≤ s.queueLevel then ((s.inc CMD_BUSY_CNT_COUNT).raise CMD_FLAGS_BUSY 1).hwReply src b stBusy
  else
    ((match src with | .spi => s.inc CMD_RX_SPI_COUNT | .inband _ _ => s.inc CMD_RX_INBAND_COUNT)).setCmd fun c => { c with
      queue := c.queue ++ [pktOf src b] }
/-- While a reply of the port waits for room, the port enters no new packet (R336). -/
def State.intake (s : State) (src : CmdSrc) (b : List Byte) : State :=
  match src with
  | .spi => if s.cmd.waiting.isEmpty then s.takePacket .spi b else s.setCmd fun c => { c with heldIn := c.heldIn ++ [b] }
  | .inband g d => s.takePacket (.inband g d) b
/-- The port answers: boot ROM has begun and PD_MGMT is on (R338). -/
def State.portUp (s : State) : Bool := s.domainOn 1 && decide (1 ≤ s.get MGMT_STATUS_PHASE)
/-- COMMAND_PACKET_RECEIVE (R323, R324): a packet completes at a source. -/
def execCommandPacketReceive (src : CmdSrc) (bytes : List (BitVec 8)) (s : State) : Host.Outcome State Fault Refusal :=
  .next (if s.portUp && decide (4 ≤ bytes.length) then s.intake src bytes else s)

/-! ### The queue (R323–R326) -/

/-- Answer a queued packet that no opcode executes. -/
def State.answerPkt (s : State) (p : CmdPkt) (st : Nat) : State := s.answer p.src p.op.toNat st p.tag.toNat 0 []
/-- Room for the next firmware reply of the port, judged by the shortest (R336). -/
def State.replyRoom (s : State) (src : CmdSrc) : Bool :=
  match src with | .spi => s.cmd.waiting.isEmpty && s.spiRoom 12 | .inband _ _ => true
/-- The reset that RESET asked for begins within 1 ms of the last reply; the instant is free (R326, log entry 2). -/
def State.armReset (s : State) : State :=
  (s.pick 0 400000).2.setCmd fun c => { c with resetAt := s.cyc + (s.pick 0 400000).1 }
/-- COMMAND_DEQUEUE (R323, R324, R325, R326, R336): the oldest entry is taken for execution, or answered at once. -/
def execCommandDequeue (s : State) : Host.Outcome State Fault Refusal :=
  .next (if !s.domainOn 1 then s else match s.cmd.exec, s.cmd.queue with
    | none, p :: rest =>
      if !s.replyRoom p.src then s
      else
        let s1 := s.setCmd fun c => { c with queue := rest }
        let op := p.op.toNat
        if s.cmd.resetting then (s1.answerPkt p stNotReady).armReset
        else if s.get MGMT_STATUS_PHASE != 4 && op != 1 && op != 2 then s1.answerPkt p stNotReady
        else if !knownOp op then s1.answerPkt p stBadOpcode
        else s1.setCmd fun c => { c with exec := some p, execAt := s.cyc, execTmo := s.get CMD_TMO_MS }
    | _, _ => s)

/-! ### The SPI target port (R332–R338) -/

/-- The port status word (R333). -/
def State.portStatus (s : State) : Nat :=
  (16 - s.queueLevel) + (!s.cmd.replies.isEmpty).toNat * 2 ^ 5 + (s.get MGMT_STATUS_PHASE == 4).toNat * 2 ^ 6
  + s.irq.toNat * 2 ^ 7 + s.cmd.replies.length * 2 ^ 8 + 0x5200 * 2 ^ 16
/-- What the port clocks out: the status word and what follows it. -/
def State.portOut (s : State) (b : List Byte) : State := s.setCmd fun c => { c with spiOut := bytesLE 4 s.portStatus ++ b }
/-- POLL (R334). -/
def execSpiPoll (s : State) : Host.Outcome State Fault Refusal := .next (if s.portUp then s.portOut [] else s)
/-- CMD_WRITE (R334, R335). -/
def execCmdWrite (bytes : List (BitVec 8)) (s : State) : Host.Outcome State Fault Refusal :=
  .next (if s.portUp then
    let s1 := s.portOut (List.replicate bytes.length 0)
    if bytes.length < 4 then (s1.inc CMD_FRAME_ERR_COUNT).raise CMD_FLAGS_FRAME_ERR 1 else s1.intake .spi bytes
  else s)
/-- Waiting hardware replies move into the buffer while it has room; then the packets held behind them are taken (R336). -/
def State.placeReplies : Nat → State → State
  | 0, s => s
  | n + 1, s =>
    match s.cmd.waiting, s.cmd.heldIn with
    | b :: rest, _ =>
      if s.spiRoom b.length then (s.setCmd fun c => { c with replies := c.replies ++ [b], waiting := rest }).placeReplies n else s
    | [], b :: rest => ((s.setCmd fun c => { c with heldIn := rest }).takePacket .spi b).placeReplies n
    | [], [] => s
/-- RPLY_READ (R334, R336): `bytes` bytes are clocked after the prefix. -/
def execRplyRead (bytes : Nat) (s : State) : Host.Outcome State Fault Refusal :=
  .next (if s.portUp then
    match s.cmd.replies with
    | r :: rest =>
      let s1 := s.portOut ((r ++ List.replicate (bytes - r.length) 0).take bytes)
      if r.length ≤ bytes then
        (s1.setCmd fun c => { c with replies := rest }).placeReplies (2 * (s.cmd.waiting.length + s.cmd.heldIn.length) + 1)
      else s1
    | [] => s.portOut (List.replicate bytes 0)
  else s)
/-- SPI_BAD_OP (R334): an op code that is none of the three. -/
def execSpiBadOp (op : BitVec 8) (s : State) : Host.Outcome State Fault Refusal :=
  .next (if s.portUp && decide (3 ≤ op.toNat) then (s.portOut []).raise CMD_FLAGS_SPI_BAD_OP 1 else s)

/-! ### General opcodes without an access (R329, R326) -/

/-- CMD_STATUS (R339). -/
def State.cmdStatus (s : State) : Nat :=
  s.queueLevel + s.cmd.exec.isSome.toNat * 2 ^ 5 + s.cmd.replies.length * 2 ^ 8
def nopCmd (s : State) (_ : List Nat) : CmdRes := .ok s
/-- NOP (R329). -/
def execNopCommand (c : CmdIn) (s : State) : Host.Outcome State Fault Refusal := .next (runCmd 0x00 11 (fun _ => []) nopCmd c s)
/-- IDENT's data (R329). -/
def State.identData (s : State) : List Nat :=
  [0x5200106D, s.get MGMT_FW_VERSION_VERSION, s.get MGMT_STATUS_IMAGE, if s.reach 10 then s.rawReg 10 4 else 0]
def identBody (s : State) (_ : List Nat) : CmdRes := .data s s.identData
/-- IDENT (R329). -/
def execIdentCmd (c : CmdIn) (s : State) : Host.Outcome State Fault Refusal := .next (runCmd 0x01 11 (fun _ => []) identBody c s)
/-- STATUS's data (R329). -/
def State.statusData (s : State) : List Nat := [s.rawReg 0 4, s.get MGMT_STATUS_PHASE, s.rawReg 0 0x14, s.cmdStatus]
def statusBody (s : State) (_ : List Nat) : CmdRes := .data s s.statusData
/-- STATUS (R329). -/
def execStatusCmd (c : CmdIn) (s : State) : Host.Outcome State Fault Refusal := .next (runCmd 0x02 11 (fun _ => []) statusBody c s)
def resetBody (s : State) (ps : List Nat) : CmdRes :=
  if par ps 0 ≠ 0x52000001 then .bad else .ok ((s.setCmd fun c => { c with resetting := true }).armReset)
/-- RESET (R326, R329). -/
def execResetCmd (c : CmdIn) (s : State) : Host.Outcome State Fault Refusal := .next (runCmd 0x05 11 (fun _ => [full]) resetBody c s)
/-- The reset that RESET asked for is due: every entry has been answered and its instant has come (R326). -/
def State.resetDue (s : State) : Bool :=
  s.cmd.resetting && s.cmd.queue.isEmpty && s.cmd.exec.isNone && decide (s.cmd.resetAt ≤ s.cyc)
def factoryBody (_ : State) (_ : List Nat) : CmdRes := .denied
/-- FACTORY_TEST (R323, R328): opcodes 0xF0 to 0xFF. -/
def execFactoryTest (op : Fin 16) (c : CmdIn) (s : State) : Host.Outcome State Fault Refusal :=
  .next (runCmd (0xF0 + op.val) 11 (fun ps => ps.map fun _ => full) factoryBody c s)

end Sys2Proof.Machine
end

