-- ==== Sys2Proof/Machine/Lane.lean ====
section
/-! DEFINITION. High-speed lanes and the part of the link that lives on their blocks: scrambling, block lock, training,
bring-up, capability exchange, striping, electrical idle and the lane tests (R257–R283, R290–R297, R301, R305, R306, R513). -/

namespace Sys2Proof.Machine
open Reg

def State.setLane (s : State) (n : Fin 8) (g : LaneRun → LaneRun) : State := { s with lane := s.lane.set n (g (s.lane[n])) }
def State.setGrp (s : State) (n : Fin 8) (g : GroupRun → GroupRun) : State := { s with grp := s.grp.set n (g (s.grp[n])) }
def State.setLink (s : State) (g : LinkRun → LinkRun) : State := { s with link := g s.link }
def allLanes : List (Fin 8) := [0, 1, 2, 3, 4, 5, 6, 7]

/-! ### Lane states, rates and clocks (R257, R267, R513) -/

def lnOff : Nat := 0
def lnDetect : Nat := 1
def lnTrain : Nat := 2
def lnBitlock : Nat := 3
def lnBlklock : Nat := 4
def lnCapx : Nat := 5
def lnActive : Nat := 6
def lnEidle : Nat := 7
def lnTest : Nat := 8
def State.laneState (s : State) (n : Fin 8) : Nat := s.get (LANE_STATUS_STATE n)
/-- Enter a state; a change ends an eye scan in progress (R277). -/
def State.setLaneState (s : State) (n : Fin 8) (v : Nat) : State :=
  let s1 := if s.laneState n != v && s.on (LANE_ES_STAT_BUSY n) then (s.set (LANE_ES_STAT_BUSY n) 0).raise (LANE_ES_STAT_ABORTED n) 1 else s
  s1.set (LANE_STATUS_STATE n) v
def quadRate (q : Nat) : Fld := if q = 0 then LANE_QUAD_CTRL_RATE_Q0 else LANE_QUAD_CTRL_RATE_Q1
def quadPll (q : Nat) : Fld := if q = 0 then LANE_QUAD_STATUS_PLL_LOCK_Q0 else LANE_QUAD_STATUS_PLL_LOCK_Q1
/-- The lane PLL of the lane's quad is locked. -/
def State.pllOf (s : State) (n : Fin 8) : Bool := s.on (quadPll (n.val / 4))
/-- A block's duration in cycles of 2.5 ns: 6.4 ns or 2.56 ns (R257). -/
def State.blkCyc (s : State) (n : Fin 8) : Rat := if s.on (quadRate (n.val / 4)) then 128 / 125 else 64 / 25
/-- A cycle count has been reached within the present cycle. -/
def State.dueCyc (s : State) (t : Rat) : Bool := decide (t < (s.cyc : Rat) + 1)

/-! ### Scrambling (R261) -/

/-- Scrambled payload of `d` after the last 58 scrambled bits `h`, oldest in bit 0: 1 + x^39 + x^58. -/
def scr64 (h d : Nat) : Nat :=
  let c1 := (d ^^^ h ^^^ (h >>> 19)) % 2 ^ 39
  let x := h + c1 * 2 ^ 58
  let c2 := ((d >>> 39) ^^^ (x >>> 39) ^^^ (x >>> 58)) % 2 ^ 25
  c1 + c2 * 2 ^ 39
/-- Descrambled payload of `d` after the last 58 scrambled bits. -/
def descr64 (h d : Nat) : Nat :=
  let x := h + d * 2 ^ 58
  (d ^^^ x ^^^ (x >>> 19)) % 2 ^ 64
/-- The last 58 scrambled bits after payload `d`. -/
def scrNext (d : Nat) : Nat := d / 2 ^ 6
/-- Put a block on the lane: its sync header and unscrambled payload. -/
def State.sendBlk (s : State) (n : Fin 8) (sh d : Nat) : State :=
  s.setLane n fun l => { l with sent := some (sh, d), scr := BitVec.ofNat 58 (scrNext (scr64 l.scr.toNat d)) }

/-! ### Blocks (R265, R266, R290, R291) -/

def shData : Nat := 1
def shCtrl : Nat := 2
def idleBlk : Nat := 0x1E
/-- A training block (R266). -/
def trainBlk (rdy idleReq exit_ : Bool) (lane : Nat) : Nat :=
  0x4B + 0xA5 * 2 ^ 8 + rdy.toNat * 2 ^ 16 + idleReq.toNat * 2 ^ 17 + exit_.toNat * 2 ^ 18 + lane * 2 ^ 20 + 0x3C * 2 ^ 24 + 0xA * 2 ^ 32
/-- A received block counts as a training block (R266). -/
def isTrain (sh p : Nat) : Bool := sh == 2 && fld p 0 8 == 0x4B && fld p 32 4 == 0xA && fld p 8 8 == 0xA5 && fld p 24 8 == 0x3C
/-- The block types a lane passes to the link layer (R262). -/
def passedType (t : Nat) : Bool := [0x1E, 0x4B, 0x78, 0x87, 0x99, 0xAA, 0xB4, 0xCC, 0xD2, 0xE1, 0xFF].contains t
/-- The next block of the training pattern (R265). -/
def State.sendPattern (s : State) (n : Fin 8) (rdy exit_ : Bool) : State :=
  let i := (s.lane[n]).slotNo
  (s.sendBlk n shCtrl (if i % 16 = 0 then trainBlk rdy false exit_ n.val else idleBlk)).setLane n fun l => { l with slotNo := i + 1 }

/-! ### Groups (R285, R287, R293, R305) -/

def State.grpWidth (s : State) (g : Fin 8) : Nat := 2 ^ s.get (LINK_GRPn_CTRL_WIDTH g)
def State.grpOn (s : State) (g : Fin 8) : Bool := (s.grp[g]).conf && s.on (LINK_GRPn_CTRL_EN g)
def State.grpState (s : State) (g : Fin 8) : Nat := s.get (LINK_GRPn_STATUS_STATE g)
/-- The group is ACTIVE or DEGRADED. -/
def State.grpUp (s : State) (g : Fin 8) : Bool := s.grpOn g && decide (2 ≤ s.grpState g)
def State.grpMask (s : State) (g : Fin 8) : Nat := s.get (LINK_GRPn_STATUS_MASK g)
/-- Lanes of a group. -/
def State.lanesOf (s : State) (g : Fin 8) : List (Fin 8) := allLanes.filter fun k => decide (g.val ≤ k.val) && decide (k.val < g.val + s.grpWidth g)
/-- The configured group a lane belongs to. -/
def State.grpOf (s : State) (k : Fin 8) : Option (Fin 8) := allLanes.find? fun g => (s.grp[g]).conf && (s.lanesOf g).contains k
/-- A lane of the active set. -/
def State.inSet (s : State) (g k : Fin 8) : Bool := (s.grpMask g).testBit (k.val - g.val)
/-- The group faces the host, or the manager on a worker (R287). -/
def State.hostRole (s : State) (g : Fin 8) : Bool := s.get (LINK_GRPn_CTRL_ROLE g) == (if s.isWorker then 2 else 0)
def State.downRole (s : State) (g : Fin 8) : Bool := s.get (LINK_GRPn_CTRL_ROLE g) == 1
/-- The group toward the host. -/
def State.hostGrp (s : State) : Option (Fin 8) := allLanes.find? fun g => s.grpOn g && s.hostRole g
/-- A host lane group is active (R287). -/
def State.hostIsUp (s : State) : Bool := allLanes.any fun g => s.grpUp g && s.hostRole g
/-- OUT_STATUS.HOST_ACTIVE follows the groups; without one the alarm queue discards (R239). -/
def State.syncHost (s : State) : State := (s.setB OUT_STATUS_HOST_ACTIVE s.hostIsUp).discardAlarms
/-- The timing lane: the lowest-numbered active lane (R305). -/
def timingLane (g : Fin 8) (mask : Nat) : Nat := if mask = 0 then 0 else g.val + ((List.range 4).find? fun i => mask.testBit i).getD 0
def State.tlane (s : State) (g : Fin 8) : Fin 8 := Fin.ofNat 8 (timingLane g (s.grpMask g))
/-- STATE of a group with an active set (R287). -/
def State.grpStateFor (s : State) (g : Fin 8) (mask : Nat) : Nat :=
  if !s.grpOn g then 0 else if mask = 0 then 1 else if mask = 2 ^ s.grpWidth g - 1 then 2 else 3
/-- A worker's ROUTE block is due (R301). -/
def State.routeChanged (s : State) : State := if s.isWorker then s.setLink fun l => { l with routeDue := true } else s
/-- Give a group an active set: STATE, TLANE, the host's state; a route ends with ACTIVE and DEGRADED (R301), and a change of
the timing lane restarts the round trips (R305). -/
def State.setMask (s : State) (g : Fin 8) (mask : Nat) : State :=
  let st := s.grpStateFor g mask
  let moved := s.isWorker && s.hostRole g && s.grpMask g != 0 && mask != 0 && timingLane g (s.grpMask g) != timingLane g mask
  let s1 := ((s.set (LINK_GRPn_STATUS_MASK g) mask).set (LINK_GRPn_STATUS_STATE g) st).set (LINK_GRPn_STATUS_TLANE g) (timingLane g mask)
  let s2 := if moved then s1.setLink fun l => { l with rtts := [], outliers := [], sinceLane := 0 } else s1
  let s3 := if st < 2 && s2.on (LINK_GRPn_ROUTE_MASK g) then (s2.set (LINK_GRPn_ROUTE_MASK g) 0).routeChanged else s2
  s3.syncHost
/-- The lane of the active set that carries the next block of the group stream (R293). -/
def State.stripeLane (s : State) (g : Fin 8) : Fin 8 :=
  let ls := (s.lanesOf g).filter fun k => s.inSet g k
  ls.getD ((s.grp[g]).stripe % ls.length) g
/-- Send a block of the group stream on the lane whose turn it is (R293). -/
def State.stripeBlk (s : State) (g : Fin 8) (sh d : Nat) : State :=
  (s.sendBlk (s.stripeLane g) sh d).setGrp g fun r => { r with stripe := r.stripe + 1 }
/-- Send an AM on every lane of the active set, from which the group stream is striped anew (R290, R293). -/
def State.sendAm (s : State) (g : Fin 8) (restripe : Bool) : State :=
  let q := (s.grp[g]).amSeq
  let b := 0x4B + q % 256 * 2 ^ 8 + s.grpMask g * 2 ^ 16 + restripe.toNat * 2 ^ 20 + 0x1 * 2 ^ 32
  let s1 := ((s.lanesOf g).filter fun k => s.inSet g k).foldl (fun t k => t.sendBlk k shCtrl b) s
  let s2 := s1.setGrp g fun r => { r with amSeq := (q + 1) % 256, stripe := 0 }
  if restripe then s2.inc (LINK_GRPn_RESTRIPE_COUNT g) else s2

/-- A group's stream starts with one lane; sequence numbers and credits start afresh (R292). -/
def State.startStream (s : State) (g k : Fin 8) : State :=
  ((s.setMask g (2 ^ (k.val - g.val))).setGrp g fun r => { r with
    txSB := 0, txA := 0, rxSB := 0, rxA := 0, crS := r.farCr.1, crB := r.farCr.2.1, crA := r.farCr.2.2
    gotS := 0, gotB := 0, gotA := 0, freeS := 0, freeB := 0, freeA := 0, replay := [], resendQ := [], sinceB := 0
    resends := 0, ackAt := s.cyc, nakSB := false, nakA := false, ackDue := false, creditDue := false, blks := [], blksA := []
    joining := r.joining.filter (· != k.val), amDue := (s.cyc : Rat) + 4096 * s.blkCyc g, setDue := s.cyc + usCyc (s.get LINK_TIMING_TB_INT)
    amRx := 0, echoReply := none, echoOut := none }).sendAm g true

/-- Forwarded frames whose FRAME_HEAD a list of packets holds (R310). -/
def headsIn (ps : List LinkPkt) : Nat := (ps.filter fun p => p.cls == 1 && (p.bytes.getD 0 0).toNat == 1).length
/-- Blocks of a packet of `len` payload bytes (R288), and the credit units they cost (R296). -/
def pktBlocks (len : Nat) : Nat := 2 + (len + 4) / 8
def pktUnits (len : Nat) : Nat := cdiv (8 * pktBlocks len) 64
/-- A packet of a class has left the receive buffer of its group: its credit is returned (R296). -/
def State.freeCredit (s : State) (g cls len : Nat) : State :=
  if g < 8 then s.setGrp (Fin.ofNat 8 g) fun r => { r with
    creditDue := true
    freeA := if cls = 0 then r.freeA + 1 else r.freeA
    freeS := if cls = 1 then r.freeS + pktUnits len else r.freeS
    freeB := if cls = 2 then r.freeB + pktUnits len else r.freeB }
  else s
/-- A group's active set is empty: its replay buffer is emptied and counted, and so are frames it would have forwarded
(R295, R310). -/
def State.emptyGroup (s : State) (g : Fin 8) : State :=
  let r := s.grp[g]
  let s1 := (((s.setMask g 0).incBy (LINK_GRPn_PKT_LOST_COUNT g) r.replay.length).incBy LINK_FWD_DROP_COUNT (headsIn (r.fwd.map (·.2)))).setGrp g fun r => { r with
    replay := [], resendQ := [], fwd := [], echoOut := none, echoReply := none, blks := [], blksA := [] }
  r.fwd.foldl (fun t e => t.freeCredit e.1 e.2.cls e.2.bytes.length) s1
/-- The group returns to BRINGUP (R295, R356). -/
def State.groupDown (s : State) (g : Fin 8) : State :=
  ((s.emptyGroup g).raise LINK_FLAGS_GROUP_DOWN 1).logEvent 0x0A01 3 g.val (s.grp[g]).replay.length

/-! ### Entering lane states -/

/-- Enter TRAIN: the training pattern starts, and CAPX must be reached in TRAIN_TMO (R269). -/
def State.toTrain (s : State) (n : Fin 8) : State :=
  (((((s.setLaneState n lnTrain).set (LANE_STATUS_BIT_LOCK n) 0).set (LANE_STATUS_BLK_LOCK n) 0).set (LANE_STATUS_TX_IDLE n) 0).set
    (LANE_STATUS_RX_IDLE n) 0).setLane n fun l => { l with
      slotNo := 0, goodSh := 0, rdyRun := 0, rdyZero := 0, idleRx := 0, sentRdy := 0, sentAfter := 0, burstLeft := 0
      trainDue := some (s.cyc + msCyc (s.get (LANE_TIMING_TRAIN_TMO n))) }
/-- Return to BITLOCK with the CDR still locked (R264). -/
def State.toBitlock (s : State) (n : Fin 8) : State :=
  ((((s.setLaneState n lnBitlock).set (LANE_STATUS_BLK_LOCK n) 0).set (LANE_STATUS_TX_IDLE n) 0).set (LANE_STATUS_RX_IDLE n) 0).setLane n fun l => { l with
      slotNo := 0, goodSh := 0, rdyRun := 0, rdyZero := 0, idleRx := 0, sentRdy := 0, sentAfter := 0, burstLeft := 0 }
/-- Enter DETECT: transmitter at electrical idle, first attempt at once (R268). -/
def State.toDetect (s : State) (n : Fin 8) : State :=
  (((((s.setLaneState n lnDetect).set (LANE_STATUS_BIT_LOCK n) 0).set (LANE_STATUS_BLK_LOCK n) 0).set (LANE_STATUS_TX_IDLE n) 0).set
    (LANE_STATUS_RX_IDLE n) 0).setLane n fun l => { l with detects := 0, detDue := s.cyc, burstLeft := 0, trainDue := none }

/-- R300: after 8 resends without an advance every lane of the group retrains and the group is in BRINGUP. -/
def State.groupFail (s : State) (g : Fin 8) : State :=
  let ls := (s.lanesOf g).filter fun k => decide (lnBlklock ≤ s.laneState k) && decide (s.laneState k ≤ lnEidle)
  (ls.foldl (fun t k => t.toTrain k) (s.groupDown g)).setGrp g fun r => { r with joining := [], resends := 0 }
/-- A resend: every unacknowledged class A packet, then every unacknowledged class S or B packet, in SEQ order (R299, R300). -/
def State.resend (s : State) (g : Fin 8) : State :=
  let r := s.grp[g]
  if r.replay.isEmpty then s
  else
    let s1 := (s.inc (LINK_GRPn_REPLAYS_COUNT g)).setGrp g fun r => { r with
      resendQ := (r.replay.filter fun p => p.cls == 0) ++ (r.replay.filter fun p => p.cls != 0), resends := r.resends + 1, ackAt := s.cyc }
    if 8 ≤ r.resends + 1 then s1.groupFail g else s1
/-- The lanes common to both ends stay in the active set (R294); with none left the group returns to BRINGUP, where a lane
that waited to be added starts the stream anew (R292, R295). -/
def State.keepLanes (s : State) (g : Fin 8) (mask : Nat) : State :=
  if mask = s.grpMask g then s
  else if mask = 0 then
    let s1 := s.groupDown g
    match (s1.grp[g]).joining with
    | k :: _ => s1.startStream g (Fin.ofNat 8 k)
    | [] => s1
  else ((s.setMask g mask).sendAm g true).resend g
/-- A lane leaves its group: the maps, a RESTRIPE AM on the rest and a resend (R294). -/
def State.leaveGroup (s : State) (n : Fin 8) : State :=
  match s.grpOf n with
  | some g =>
    let s1 := s.setGrp g fun r => { r with joining := r.joining.filter (· != n.val) }
    if s1.inSet g n then s1.keepLanes g (s1.grpMask g - 2 ^ (n.val - g.val)) else s1
  | none => s
/-- Count a loss of block lock (R264, R356, R357). -/
def State.countLol (s : State) (n : Fin 8) : State :=
  (((s.inc (LANE_LOL_CNT_COUNT n)).raise LANE_FLAGS_LOL (2 ^ n.val)).lifeAdd (32 + n.val) 1).logEvent 0x0901 2 n.val 0
/-- Loss of block lock (R264). In TEST the lane keeps its state and hunts again. -/
def State.loseLock (s : State) (n : Fin 8) (cdr : Bool) : State :=
  let s1 := s.countLol n
  if s.laneState n = lnTest then (s1.set (LANE_STATUS_BLK_LOCK n) 0).setLane n fun l => { l with goodSh := 0 }
  else ((if cdr then s1.toBitlock n else s1.toTrain n)).leaveGroup n

/-! ### Enabling lanes (R260, R267, R281) -/

/-- A change of LANE_CTRL.EN (R267): from OFF to DETECT, or to TEST while MODE = TEST; 0 takes the lane to OFF. -/
def State.setLaneEn (s : State) (n : Fin 8) (en : Bool) : State :=
  if s.on (LANE_CTRL_EN n) == en then s
  else
    let s1 := s.setB (LANE_CTRL_EN n) en
    if en then (if s.on (LANE_CTRL_MODE n) then s1.setLaneState n lnTest else s1.toDetect n)
    else ((((((s1.setLaneState n lnOff).set (LANE_STATUS_BIT_LOCK n) 0).set (LANE_STATUS_BLK_LOCK n) 0).set (LANE_STATUS_TX_IDLE n) 0).set
      (LANE_STATUS_RX_IDLE n) 0).setLane n fun l => { l with trainDue := none, burstLeft := 0 }).leaveGroup n
/-- A change of LANE_CTRL.MODE (R281): TEST takes the lane to TEST from any state, and its group loses it; LINK clears
LANE_TEST and takes it to DETECT, or to OFF while EN = 0. -/
def State.setLaneMode (s : State) (n : Fin 8) (test : Bool) : State :=
  if s.on (LANE_CTRL_MODE n) == test then s
  else
    let s1 := (s.setB (LANE_CTRL_MODE n) test).setLane n fun l => { l with prbs := 0, prbsBits := 0, prbsGood := 0, prbsWin := [], prbsRem := 0, inj := false }
    if test then
      (((((s1.setLaneState n lnTest).set (LANE_STATUS_BLK_LOCK n) 0).set (LANE_STATUS_TX_IDLE n) 0).set (LANE_STATUS_RX_IDLE n) 0).setLane n fun l =>
        { l with trainDue := none, burstLeft := 0, goodSh := 0 }).leaveGroup n
    else
      let s2 := (s1.zero [LANE_TEST_PRBS_TX n, LANE_TEST_PRBS_RX n, LANE_TEST_LOOP n, LANE_TEST_INJ_RATE n]).set (LANE_PRBS_STAT_PRBS_LOCK n) 0
      if s.on (LANE_CTRL_EN n) then s2.toDetect n else s2.setLaneState n lnOff
/-- LANE_STATUS.CTLE_ACT follows LANE_RXEQ.CTLE while EQ_AUTO = 0 (R275). -/
def State.applyCtle (s : State) (n : Fin 8) : State :=
  if s.on (LANE_CTRL_EQ_AUTO n) then s else s.set (LANE_STATUS_CTLE_ACT n) (s.get (LANE_RXEQ_CTLE n))
/-- Amplitude without equalisation in mV, and the weights of the three taps in units of 2.5 % as applied (R276). -/
def State.txSwing (s : State) (n : Fin 8) : Nat := 400 + 50 * s.get (LANE_TX_SWING n)
def State.txPost (s : State) (n : Fin 8) : Nat := min (s.get (LANE_TX_POST n)) (20 - s.get (LANE_TX_PRE n))
def State.txMain (s : State) (n : Fin 8) : Nat := 40 - (s.get (LANE_TX_PRE n) + s.txPost n)
/-- RATE of a quad: written only while every lane of the quad has EN = 0; a change restarts the PLL (R257, R513). -/
def State.setRate (s : State) (q : Nat) (fast : Bool) : State :=
  if (allLanes.any fun n => n.val / 4 == q && s.on (LANE_CTRL_EN n)) || s.on (quadRate q) == fast then s
  else (s.setB (quadRate q) fast).set (quadPll q) 0

/-! ### Reference and PLL (R258, R513) -/

/-- A step of PD_LANE. -/
def State.onLane (s t : State) : State := s.onDom 4 t
/-- REFCLK_LANE_BAD (R258). -/
def execRefclkLaneBad (s : State) : Host.Outcome State Fault Refusal :=
  .next (s.onLane <|
    let s1 := (((s.raise LANE_FLAGS_REFCLK_BAD 1).set LANE_QUAD_STATUS_REFCLK_OK 0).set LANE_QUAD_STATUS_PLL_LOCK_Q0 0).set LANE_QUAD_STATUS_PLL_LOCK_Q1 0
    (allLanes.filter fun (n : Fin 8) => s.on (LANE_CTRL_EN n)).foldl (fun t n => (t.toDetect n).leaveGroup n) s1)
/-- REFCLK_LANE_OK (R513). -/
def execRefclkLaneOk (s : State) : Host.Outcome State Fault Refusal := .next (s.onLane (s.set LANE_QUAD_STATUS_REFCLK_OK 1))
/-- LANE_PLL_LOCK (R513): the PLL of a quad locks; detection begins. -/
def execLanePllLock (q : Fin 2) (s : State) : Host.Outcome State Fault Refusal :=
  .next (s.onLane <| if s.on LANE_QUAD_STATUS_REFCLK_OK && !s.on (quadPll q) then
    (allLanes.filter fun n => n.val / 4 == q.val).foldl (fun t n => t.setLane n fun l => { l with detects := 0, detDue := s.cyc }) (s.set (quadPll q) 1)
  else s)

/-! ### Bring-up (R268, R269) -/

/-- DETECT_ATTEMPT (R268): attempts DET_INT apart; the second positive one in a row takes the lane to TRAIN, whose scrambler
starts from a free nonzero state (R261, log entry 2). -/
def execDetectAttempt (n : Fin 8) (found : Bool) (s : State) : Host.Outcome State Fault Refusal :=
  .next (s.onLane <| if s.laneState n = lnDetect ∧ s.pllOf n ∧ (s.lane[n]).detDue ≤ s.cyc then
    let d := if found then (s.lane[n]).detects + 1 else 0
    let s1 := (s.setB (LANE_STATUS_TERM_DET n) found).setLane n fun l => { l with
      detects := d, detDue := s.cyc + 40000 * max 1 (s.get (LANE_TIMING_DET_INT n)) }
    if 2 ≤ d then
      (s1.pick 1 (2 ^ 58 - 1)).2.toTrain n |>.setLane n fun l => { l with scr := BitVec.ofNat 58 (s1.pick 1 (2 ^ 58 - 1)).1 }
    else s1
  else s)
/-- BIT_LOCK (R269, R275): the CDR is locked; with EQ_AUTO the adapted CTLE setting is free within its limits. -/
def execBitLock (n : Fin 8) (s : State) : Host.Outcome State Fault Refusal :=
  .next (s.onLane <|
    if s.laneState n = lnTrain then
      let p := s.pick (s.get (LANE_RXEQ_CTLE_MIN n)) (s.get (LANE_RXEQ_CTLE_MAX n))
      let s1 := if s.on (LANE_CTRL_EQ_AUTO n) then p.2.set (LANE_STATUS_CTLE_ACT n) p.1 else s.applyCtle n
      ((s1.setLaneState n lnBitlock).set (LANE_STATUS_BIT_LOCK n) 1).setLane n fun l => { l with goodSh := 0 }
    else if s.laneState n = lnTest then s.set (LANE_STATUS_BIT_LOCK n) 1 else s)
/-- CDR_LOCK_LOST (R267, R264): from BITLOCK the lane returns to TRAIN; from a later state it also loses block lock. -/
def execCdrLockLost (n : Fin 8) (s : State) : Host.Outcome State Fault Refusal :=
  .next (s.onLane <|
    let st := s.laneState n
    if st = lnBitlock then s.toTrain n
    else if (st = lnBlklock ∨ st = lnCapx ∨ st = lnActive ∨ st = lnEidle) ∧ !s.on (LANE_STATUS_RX_IDLE n) then s.loseLock n false
    else if st = lnTest then
      (if s.on (LANE_STATUS_BLK_LOCK n) then s.loseLock n false else s).set (LANE_STATUS_BIT_LOCK n) 0
    else s)
/-- TRAIN_TIMEOUT (R269, R357). -/
def execTrainTimeout (n : Fin 8) (s : State) : Host.Outcome State Fault Refusal :=
  .next (s.onLane <| match (s.lane[n]).trainDue with
    | some d =>
      if s.past d ∧ lnTrain ≤ s.laneState n ∧ s.laneState n ≤ lnBlklock then
        (((s.inc (LANE_TRAIN_FAIL_COUNT n)).raise LANE_FLAGS_TRAIN_FAIL (2 ^ n.val)).lifeAdd 40 1).toDetect n
      else s
    | none => s)
/-- RETRAIN (R267): counted as a loss of block lock. -/
def State.retrainLane (s : State) (n : Fin 8) : State :=
  if lnBitlock ≤ s.laneState n ∧ s.laneState n ≤ lnEidle then ((s.countLol n).toTrain n).leaveGroup n else s
def execRetrain (n : Fin 8) (s : State) : Host.Outcome State Fault Refusal := .next (s.onReg 9 (s.retrainLane n))
/-- TEST_MODE_ENTRY (R281). -/
def execTestModeEntry (n : Fin 8) (test : Bool) (s : State) : Host.Outcome State Fault Refusal := .next (s.onReg 9 (s.setLaneMode n test))

/-- The handshake of R270 is complete: the lane enters CAPX. -/
def State.tryCapx (s : State) (n : Fin 8) : State :=
  let l := s.lane[n]
  if s.laneState n = lnBlklock ∧ 8 ≤ l.rdyRun ∧ 8 ≤ l.sentRdy then
    (s.setLaneState n lnCapx).setLane n fun l => { l with
      sentAfter := 0, rdyZero := 0, idleRx := 0, cap0 := none, cap1 := none, accepted := false, farAck := false, capAcks := 0, trainDue := none }
  else s

/-! ### Capability exchange (R291, R292) -/

/-- The hop count this device sends on a DOWN group (R291). -/
def State.hopsSent (s : State) : Nat := (if s.isWorker then s.get LINK_HOPS_HOPS else 0) + 1
/-- This end's CAP block (R291, R296). -/
def State.capBlk (s : State) (g n : Fin 8) (idx : Nat) (ack : Bool) : Nat :=
  0x4B + idx * 2 ^ 8 + ack.toNat * 2 ^ 10 + 0x2 * 2 ^ 32 +
  (if idx = 0 then
    0x1 * 2 ^ 11 + s.get LINK_ID_DEV_ID * 2 ^ 15 + s.get (LINK_GRPn_CTRL_ROLE g) * 2 ^ 19 + s.get (LINK_GRPn_CTRL_WIDTH g) * 2 ^ 21
    + (n.val - g.val) * 2 ^ 36 + (if s.downRole g then s.hopsSent else 0) * 2 ^ 40
  else 256 * 2 ^ 12 + 128 * 2 ^ 36 + 8 * 2 ^ 48)
/-- A device ID appears in the route of a group other than `g`. -/
def State.routedElsewhere (s : State) (g : Fin 8) (id : Nat) : Bool :=
  allLanes.any fun h => h != g && (s.grp[h]).conf && (s.get (LINK_GRPn_ROUTE_MASK h)).testBit id
/-- The conditions of R292 on a far end's INDEX 0 block. -/
def State.capOk (s : State) (g n : Fin 8) (p : Nat) : Bool :=
  let role := s.get (LINK_GRPn_CTRL_ROLE g)
  let id := fld p 15 4
  fld p 11 4 == 1 && fld p 19 2 == (match role with | 0 => 3 | 1 => 2 | _ => 1)
  && fld p 21 2 == s.get (LINK_GRPn_CTRL_WIDTH g) && fld p 36 4 == n.val - g.val
  && (role != 1 || (id != 0 && id != s.get LINK_ID_DEV_ID && !s.routedElsewhere g id))
  && (role != 2 || (decide (1 ≤ fld p 40 4) && decide (fld p 40 4 ≤ 4)))
/-- On a worker, DOWN groups wait in CAPX for the UP group to be ACTIVE (R286). -/
def State.capHeld (s : State) (g : Fin 8) : Bool :=
  s.isWorker && s.downRole g && !(allLanes.any fun h => s.grpOn h && s.hostRole h && s.grpState h == 2)
/-- A lane becomes ACTIVE once it has accepted, has been acknowledged and has acknowledged four times (R292). -/
def State.tryActive (s : State) (n : Fin 8) : State :=
  let l := s.lane[n]
  match s.grpOf n, l.cap0, l.cap1 with
  | some g, some c0, some c1 =>
    if s.laneState n = lnCapx ∧ s.grpOn g ∧ l.accepted ∧ l.farAck ∧ 4 ≤ l.capAcks then
      let s1 := (((s.setLaneState n lnActive).set (LINK_GRPn_STATUS_FAR_ID g) (fld c0.1 15 4)).set (LINK_GRPn_STATUS_FAR_HOPS g) (fld c0.1 40 3)).setGrp g fun r => { r with
        farCr := (fld c1.1 12 12, fld c1.1 36 12, fld c1.1 48 4) }
      let s2 := if s.get (LINK_GRPn_CTRL_ROLE g) = 2 then s1.set LINK_HOPS_HOPS (fld c0.1 40 4) else s1
      if s2.grpMask g = 0 then s2.startStream g n else s2.setGrp g fun r => { r with joining := r.joining ++ [n.val] }
    else s
  | _, _, _ => s
/-- One more copy of a CAP block, compared without its ACK bit. -/
def capCopy (old : Option (Nat × Nat)) (p : Nat) : Option (Nat × Nat) :=
  let q := p - fld p 10 1 * 2 ^ 10
  match old with | some (o, k) => if o = q then some (q, k + 1) else some (q, 1) | none => some (q, 1)
/-- A CAP block received in CAPX (R292). -/
def State.capRx (s : State) (g n : Fin 8) (p : Nat) : State :=
  let idx := fld p 8 2
  if 2 ≤ idx then s
  else if idx = 0 ∧ !s.capOk g n p then
    (((s.raise LINK_FLAGS_CAP_MISMATCH 1).set (LINK_GRPn_FARCAP0_BLK_LO g) (lo32 p)).set (LINK_GRPn_FARCAP1_BLK_HI g) (hi32 p)).setLane n fun l => { l with
      cap0 := none, accepted := false }
  else
    let s1 := s.setLane n fun l =>
      let c0 := if idx = 0 then capCopy l.cap0 p else l.cap0
      let c1 := if idx = 1 then capCopy l.cap1 p else l.cap1
      { l with cap0 := c0, cap1 := c1, farAck := l.farAck || fld p 10 1 == 1
               accepted := l.accepted || ((c0.map (·.2)).getD 0 ≥ 2 && (c1.map (·.2)).getD 0 ≥ 2) }
    s1.tryActive n

/-! ### Link control blocks received (R290, R294–R299, R301, R306) -/

/-- A packet's distance ahead of the last accepted SEQ: it is acknowledged (R297). -/
def acked (ack seq : Nat) : Bool := decide ((ack + 4096 - seq) % 4096 < 2048)
/-- ACK (R297, R299): acknowledged packets leave the replay buffer, then a NAK resends. -/
def State.ackRx (s : State) (g : Fin 8) (p : Nat) : State :=
  let gone := fun (x : LinkPkt) => if x.cls = 0 then acked (fld p 36 12) x.seq else acked (fld p 8 12) x.seq
  let any_ := (s.grp[g]).replay.any gone
  let s1 := s.setGrp g fun r => { r with
    replay := r.replay.filter (fun x => !gone x), resendQ := r.resendQ.filter (fun x => !gone x)
    resends := if any_ then 0 else r.resends, ackAt := if any_ then s.cyc else r.ackAt }
  if fld p 20 2 ≠ 0 then s1.resend g else s1
/-- CREDIT (R296): cumulative counts modulo 2^12 and 2^4. -/
def State.creditRx (s : State) (g : Fin 8) (p : Nat) : State :=
  s.setGrp g fun r => { r with
    crS := r.crS + (fld p 8 12 + 4096 - r.gotS) % 4096, crB := r.crB + (fld p 20 12 + 4096 - r.gotB) % 4096, crA := r.crA + (fld p 36 4 + 16 - r.gotA) % 16
    gotS := fld p 8 12, gotB := fld p 20 12, gotA := fld p 36 4 }
/-- A lane named in the last regular AM on which that AM did not arrive counts as lost (R295). -/
def State.unjoined (s : State) (g : Fin 8) (seq : Nat) : List (Fin 8) :=
  let r := s.grp[g]
  if r.amRxSeq = seq then [] else (s.lanesOf g).filter fun k => r.joining.contains k.val && r.amRx.testBit (k.val - g.val)
/-- AM (R293–R295): a RESTRIPE AM takes lanes away at once; a regular one adds a lane it arrives on. -/
def State.amRx (s : State) (g n : Fin 8) (p : Nat) : State :=
  let mask := fld p 16 4
  let seq := fld p 8 8
  if fld p 20 1 = 1 then
    if s.grpMask g &&& mask = s.grpMask g then s
    else (s.inc (LINK_GRPn_RESTRIPE_COUNT g)).keepLanes g (s.grpMask g &&& mask)
  else
    let s1 := (s.unjoined g seq).foldl (fun t k => t.loseLock k true) s
    let s2 := s1.setGrp g fun r => { r with amRx := mask, amRxSeq := seq }
    if (s2.grp[g]).joining.contains n.val && mask.testBit (n.val - g.val) && s2.grpMask g != 0 then
      (s2.setMask g (s2.grpMask g ||| 2 ^ (n.val - g.val))).setGrp g fun r => { r with joining := r.joining.filter (· != n.val) }
    else s2
/-- A stamp difference in ps (R399). -/
def stampPs (a b : Nat) : Rat := (signedOf 64 (((a : Int) - b) % (2 ^ 64 : Int)).toNat : Rat) * 1250 / 65536
/-- Mean of round trips, ps. -/
def meanRtt (xs : List Rat) : Rat := if xs.isEmpty then 0 else xs.sum / (xs.length : Rat)
/-- Take a round trip (R305, R306). -/
def State.takeRtt (s : State) (rtt : Rat) : State :=
  let l := s.link
  let off := rtt - meanRtt l.rtts
  let far := !l.rtts.isEmpty && decide ((s.get LINK_RTT_JUMP_PS : Rat) < max off (-off))
  let replace := far && decide (3 ≤ l.outliers.length)
  let s1 := if far then s.inc LINK_ECHO_OUTLIER_COUNT else s
  let s2 := if replace then s1.raise LINK_FLAGS_RTT_JUMP 1 else s1
  let s3 := s2.setLink fun l =>
    if replace then { l with rtts := rtt :: l.outliers, outliers := [], sinceLane := min 16 (l.sinceLane + 1) }
    else if far then { l with outliers := rtt :: l.outliers }
    else { l with rtts := (rtt :: l.rtts).take 16, outliers := [], sinceLane := min 16 (l.sinceLane + 1) }
  if far && !replace then s3
  else
    let m := meanRtt s3.link.rtts
    let d := (m + (s.getI LINK_ASYM_PS : Rat)) / 2
    let s4 := s3.set LINK_RTT_PS (bitsOf 32 (roundHalfUp m))
    if s3.link.sinceLane < 16 then s4 else (s4.setLink fun l => { l with delay := d }).set LINK_DELAY_PS (bitsOf 32 (roundHalfUp d))
/-- ECHO (R306): a request is answered by the DOWN end, a reply closes the worker's round trip. -/
def State.echoRx (s : State) (g : Fin 8) (p stamp : Nat) : State :=
  let eid := fld p 9 7
  if fld p 8 1 = 0 then
    if s.downRole g then s.setGrp g fun r => { r with echoReply := some (eid, stamp) } else s
  else match (s.grp[g]).echoOut with
    | some (e, t1) =>
      if e = eid ∧ s.isWorker ∧ s.hostRole g then
        (s.setGrp g fun r => { r with echoOut := none }).takeRtt (stampPs stamp t1 - ((fld p 16 16 + fld p 36 12 * 2 ^ 16 : Nat) : Rat))
      else s
    | none => s
/-- ROUTE on a DOWN group (R301). -/
def State.routeRx (s : State) (g : Fin 8) (p : Nat) : State :=
  if s.downRole g && s.get (LINK_GRPn_ROUTE_MASK g) != fld p 8 16 then (s.set (LINK_GRPn_ROUTE_MASK g) (fld p 8 16)).routeChanged else s
/-- A control block the lane passes to the link layer. Start and terminate blocks frame packets, whose arrival is
PACKET_RECEIVE, and TIMING blocks a set, whose arrival is TIMING_SET_RECEIVE. -/
def State.ctrlRx (s : State) (n : Fin 8) (p stamp : Nat) : State :=
  if fld p 0 8 ≠ 0x4B ∨ fld p 32 4 = 0xA then s
  else
    let o := fld p 32 4
    if o = 0 ∨ 8 ≤ o then s.inc LINK_UNK_CB_COUNT
    else match s.grpOf n with
      | some g =>
        if !s.grpOn g then s
        else if s.laneState n = lnCapx then (if o = 2 then s.capRx g n p else s)
        else match o with
          | 1 => s.amRx g n p
          | 3 => s.creditRx g p
          | 4 => s.ackRx g p
          | 6 => s.echoRx g p stamp
          | 7 => s.routeRx g p
          | _ => s
      | none => s

/-! ### Receiving blocks (R262–R264, R270–R274) -/

/-- A training block (R266, R270, R271, R273). -/
def State.trainRx (s : State) (n : Fin 8) (p : Nat) : State :=
  let rdy := fld p 16 1 = 1
  let s1 := (s.setB (LANE_STATUS_FAR_RDY n) (fld p 16 1 == 1)).set (LANE_STATUS_FAR_LANE n) (fld p 20 4)
  let st := s.laneState n
  if st = lnBlklock then (s1.setLane n fun l => { l with rdyRun := if rdy then l.rdyRun + 1 else 0 }).tryCapx n
  else if st = lnCapx ∨ st = lnActive ∨ st = lnEidle then
    if !rdy then
      let s2 := s1.setLane n fun l => { l with rdyZero := l.rdyZero + 1 }
      if 4 ≤ (s2.lane[n]).rdyZero then s2.loseLock n true else s2
    else if fld p 17 1 = 1 ∧ st ≠ lnCapx ∧ !s.on (LANE_STATUS_RX_IDLE n) then
      let s2 := s1.setLane n fun l => { l with idleRx := l.idleRx + 1 }
      if 2 ≤ (s2.lane[n]).idleRx then
        let s3 := ((s2.set (LANE_STATUS_RX_IDLE n) 1).set (LANE_STATUS_BLK_LOCK n) 0).setLane n fun l => { l with
          idleRx := 0, goodSh := 0, exitBlocks := 0, sinceTrain := 16 }
        if s3.on (LANE_STATUS_TX_IDLE n) then s3.setLaneState n lnEidle else s3
      else s2
    else s1
  else s1
/-- A sync header at the candidate boundary while the receiver hunts: an invalid one slips the boundary by a bit (R263). -/
def State.hunt (s : State) (n : Fin 8) (sh : Nat) : State :=
  s.setLane n fun l => if sh = 1 ∨ sh = 2 then { l with goodSh := l.goodSh + 1 } else { l with goodSh := 0, slip := (l.slip + 1) % 66 }
/-- Block lock is declared (R263, R267). -/
def State.gainLock (s : State) (n : Fin 8) : State :=
  let s1 := (s.set (LANE_STATUS_BLK_LOCK n) 1).setLane n fun l => { l with winBlocks := 0, winBad := 0 }
  if s.laneState n = lnBitlock then (s1.setLaneState n lnBlklock).setLane n fun l => { l with rdyRun := 0, sentRdy := 0 } else s1
/-- In RX_IDLE: block lock is regained from the burst, and the first block that is not of the training pattern ends the idle
or fails the exit (R274). -/
def State.idleBlock (s : State) (n : Fin 8) (sh p : Nat) (elastic : Bool) : State :=
  let s1 := s.setLane n fun l => { l with exitBlocks := l.exitBlocks + 1, sinceTrain := if isTrain sh p then 0 else l.sinceTrain + 1 }
  let l := s1.lane[n]
  if s.on (LANE_STATUS_BLK_LOCK n) then
    if elastic then s1.loseLock n true
    else if isTrain sh p then s1.trainRx n p
    else if sh = 2 ∧ p = idleBlk ∧ l.sinceTrain < 16 then s1
    else
      let s2 := s1.set (LANE_STATUS_RX_IDLE n) 0
      if s2.laneState n = lnEidle then s2.setLaneState n lnActive else s2
  else
    let s2 := s1.hunt n sh
    if 64 ≤ (s2.lane[n]).goodSh then s2.gainLock n
    else if 256 ≤ l.exitBlocks then (s2.inc (LANE_EXIT_FAIL_COUNT n)).loseLock n true
    else s2
/-- One block at the receiver's candidate boundary, descrambled. -/
def State.rxPlain (s : State) (n : Fin 8) (sh p : Nat) (elastic : Bool) (stamp : Nat) : State :=
  let st := s.laneState n
  if s.on (LANE_STATUS_RX_IDLE n) then s.idleBlock n sh p elastic
  else if !s.on (LANE_STATUS_BLK_LOCK n) then
    if s.on (LANE_STATUS_BIT_LOCK n) then
      let s1 := s.hunt n sh
      if 64 ≤ (s1.lane[n]).goodSh then s1.gainLock n else s1
    else s
  else
    let bad := sh = 0 ∨ sh = 3
    let l := s.lane[n]
    let wb := l.winBad + if bad then 1 else 0
    let s1 := s.setLane n fun l => { l with winBlocks := (l.winBlocks + 1) % 64, winBad := if l.winBlocks = 63 then 0 else wb }
    let s2 := if bad then s1.inc (LANE_BAD_SH_COUNT n) else if sh = 2 ∧ !passedType (fld p 0 8) then s1.inc (LANE_ERR_BLK_COUNT n) else s1
    if 32 ≤ wb ∨ elastic then s2.loseLock n true
    else if isTrain sh p then s2.trainRx n p
    else if sh = 2 ∧ (st = lnCapx ∨ st = lnActive ∨ st = lnEidle) then s2.ctrlRx n p stamp
    else s2
/-- A received block, descrambled with what came before it (R261). -/
def State.rxBlock (s : State) (n : Fin 8) (sh payload : Nat) (elastic : Bool) (stamp : Nat) : State :=
  let p := descr64 (s.lane[n]).descr.toNat payload
  (s.setLane n fun l => { l with descr := BitVec.ofNat 58 (scrNext payload) }).rxPlain n sh p elastic stamp
/-- The receiver of a lane presents its termination; without it nothing is received (R260). -/
def State.rxTerminated (s : State) (n : Fin 8) : Bool := s.domainOn 4 && s.on (LANE_CTRL_EN n)
/-- The transmitter of a lane is high impedance (R260, R267). -/
def State.txHighZ (s : State) (n : Fin 8) : Bool := !s.domainOn 4 || !s.on (LANE_CTRL_EN n)
/-- BLOCK_RECEIVE (R260, R262): ignored under near-end loopback, sent on again under far-end loopback (R280). -/
def execBlockReceive (n : Fin 8) (b : RxBlock) (s : State) : Host.Outcome State Fault Refusal :=
  .next (s.onLane <|
    let st := s.laneState n
    let loop_ := s.get (LANE_TEST_LOOP n)
    if st < lnBitlock ∨ !s.rxTerminated n then s
    else if st = lnTest ∧ (loop_ = 1 ∨ loop_ = 2) then s
    else
      let s1 := s.rxBlock n b.sh.toNat b.payload.toNat b.elastic b.stamp.toNat
      if st = lnTest ∧ loop_ = 3 ∧ s.on (LANE_STATUS_BLK_LOCK n) then
        s1.sendBlk n b.sh.toNat (descr64 (s.lane[n]).descr.toNat b.payload.toNat)
      else s1)

/-! ### Sending blocks (R265, R270, R273, R274, R291, R296, R297, R306) -/

/-- The next block of the group stream: of a class A packet in transmission, which nothing interrupts; an ACK or a CREDIT
block that is due; of a class S or B packet in transmission; an idle block (R17, R289, R290, R296, R297). -/
def State.sendStream (s : State) (g : Fin 8) : State :=
  let r := s.grp[g]
  match r.blksA with
  | b :: t => (s.stripeBlk g b.1 b.2).setGrp g fun r => { r with blksA := t }
  | [] =>
    if r.ackDue || r.nakSB || r.nakA then
      (s.stripeBlk g shCtrl (0x4B + (r.rxSB + 4095) % 4096 * 2 ^ 8 + r.nakSB.toNat * 2 ^ 20 + r.nakA.toNat * 2 ^ 21 + 0x4 * 2 ^ 32
        + (r.rxA + 4095) % 4096 * 2 ^ 36)).setGrp g fun r => { r with ackDue := false, nakSB := false, nakA := false }
    else if r.creditDue then
      (s.stripeBlk g shCtrl (0x4B + r.freeS % 4096 * 2 ^ 8 + r.freeB % 4096 * 2 ^ 20 + 0x3 * 2 ^ 32 + r.freeA % 16 * 2 ^ 36)).setGrp g fun r => { r with
        creditDue := false }
    else match r.blks with
      | b :: t => (s.stripeBlk g b.1 b.2).setGrp g fun r => { r with blks := t }
      | [] => s.stripeBlk g shCtrl idleBlk
/-- The slot of an ACTIVE lane: on the timing lane an ECHO reply that waits, outside a class A packet; else the group stream's
block, in the lane's turn (R293, R306). A lane outside the active set sends idle blocks. -/
def State.sendFree (s : State) (n : Fin 8) : State :=
  match s.grpOf n with
  | some g =>
    let r := s.grp[g]
    if !s.inSet g n then s.sendBlk n shCtrl idleBlk
    else match r.echoReply with
      | some (eid, t2) =>
        if s.tlane g = n ∧ r.blksA = [] then
          let d := s.pick s.nowStamp (s.nowStamp + 131071)
          let turn := (roundHalfUp (stampPs d.1 t2)).toNat % 2 ^ 28
          (d.2.sendBlk n shCtrl (0x4B + 2 ^ 8 + eid * 2 ^ 9 + turn % 2 ^ 16 * 2 ^ 16 + 0x6 * 2 ^ 32 + turn / 2 ^ 16 * 2 ^ 36)).setGrp g fun r => { r with echoReply := none }
        else if s.stripeLane g = n then s.sendStream g else s
      | none => if s.stripeLane g = n then s.sendStream g else s
  | none => s.sendBlk n shCtrl idleBlk
/-- A block of the fast-exit burst (R274); after the last the lane resumes link-layer blocks. -/
def State.sendBurst (s : State) (n : Fin 8) : State :=
  let left := (s.lane[n]).burstLeft
  let s1 := (s.sendPattern n true true).setLane n fun l => { l with burstLeft := left - 1 }
  if left ≤ 1 then
    let s2 := s1.set (LANE_STATUS_TX_IDLE n) 0
    if s2.laneState n = lnEidle then s2.setLaneState n lnActive else s2
  else s1
/-- A slot in CAPX: eight more training blocks, then CAP blocks each followed by 7 idle blocks (R270, R291). -/
def State.sendCapx (s : State) (n : Fin 8) : State :=
  let l := s.lane[n]
  if l.sentAfter < 8 then
    let k := l.sentAfter + if l.slotNo % 16 = 0 then 1 else 0
    (s.sendPattern n true false).setLane n fun l => { l with sentAfter := k, slotNo := if k = 8 then 0 else l.slotNo }
  else match s.grpOf n with
    | some g =>
      if !s.grpOn g || s.capHeld g then s.sendBlk n shCtrl idleBlk
      else if l.slotNo % 8 = 0 then
        ((s.sendBlk n shCtrl (s.capBlk g n (l.slotNo / 8 % 2) l.accepted)).setLane n fun l => { l with
          slotNo := l.slotNo + 1, capAcks := l.capAcks + l.accepted.toNat }).tryActive n
      else (s.sendBlk n shCtrl idleBlk).setLane n fun l => { l with slotNo := l.slotNo + 1 }
    | none => s.sendBlk n shCtrl idleBlk
/-- BLOCK_SLOT_TRANSMIT (R270, R17, R293): the next block of the lane's transmitter. -/
def execBlockSlotTransmit (n : Fin 8) (s : State) : Host.Outcome State Fault Refusal :=
  .next (s.onLane <|
    let st := s.laneState n
    if st = lnTrain ∨ st = lnBitlock then s.sendPattern n false false
    else if st = lnBlklock then
      ((s.sendPattern n true false).setLane n fun l => { l with sentRdy := l.sentRdy + if (s.lane[n]).slotNo % 16 = 0 then 1 else 0 }).tryCapx n
    else if st = lnCapx then s.sendCapx n
    else if st = lnActive ∨ st = lnEidle then
      if (s.lane[n]).burstLeft ≠ 0 then s.sendBurst n
      else if s.on (LANE_STATUS_TX_IDLE n) then s else s.sendFree n
    else if st = lnTest ∧ s.get (LANE_TEST_PRBS_TX n) = 0 ∧ s.get (LANE_TEST_LOOP n) ≠ 3 ∧ s.on (LANE_CTRL_EN n) then
      let s1 := s.sendBlk n shCtrl idleBlk
      if s.get (LANE_TEST_LOOP n) = 1 ∨ s.get (LANE_TEST_LOOP n) = 2 then
        s1.rxBlock n shCtrl (scr64 (s.lane[n]).scr.toNat idleBlk) false s.nowStamp
      else s1
    else s)

/-- The transmitter sends the four idle-entry blocks and goes to electrical idle (R273). -/
def State.idleLane (s : State) (n : Fin 8) : State :=
  if (s.laneState n = lnActive ∨ s.laneState n = lnEidle) ∧ !s.on (LANE_STATUS_TX_IDLE n) then
    let b := trainBlk true true false n.val
    let s1 := ((((s.sendBlk n shCtrl b).sendBlk n shCtrl b).sendBlk n shCtrl b).sendBlk n shCtrl b).set (LANE_STATUS_TX_IDLE n) 1
    if s1.on (LANE_STATUS_RX_IDLE n) then s1.setLaneState n lnEidle else s1
  else s
/-- IDLE_ENTRY (R273). -/
def execIdleEntry (n : Fin 8) (s : State) : Host.Outcome State Fault Refusal := .next (s.onLane (s.idleLane n))
/-- The transmitter leaves electrical idle and begins its burst of 16 × BURST16 blocks (R274). -/
def State.exitLane (s : State) (n : Fin 8) : State :=
  if s.on (LANE_STATUS_TX_IDLE n) ∧ (s.lane[n]).burstLeft = 0 then
    s.setLane n fun l => { l with burstLeft := 16 * s.get (LANE_TIMING_BURST16 n), slotNo := 0 }
  else s
/-- FAST_EXIT (R274). -/
def execFastExit (n : Fin 8) (s : State) : Host.Outcome State Fault Refusal := .next (s.onLane (s.exitLane n))

/-! ### Eye scan (R277) -/

/-- Bits a scan compares, with DWELL limited to 10–40, and their duration in cycles. -/
def State.esBits (s : State) (n : Fin 8) : Nat := 2 ^ min 40 (max 10 (s.get (LANE_ES_CTRL_DWELL n)))
/-- Where the offset sampler stands: UI/64 later than the data sampler and steps of 4.7 mV above it, to the nearest limit. -/
def State.esHofs (s : State) (n : Fin 8) : Int := limitTo 32 (s.getI (LANE_ES_CTRL_HOFS n))
def State.esVofs (s : State) (n : Fin 8) : Int := limitTo 63 (s.getI (LANE_ES_CTRL_VOFS n))
/-- A write of START. -/
def State.esBegin (s : State) (n : Fin 8) : State :=
  let st := s.laneState n
  if st = lnBlklock ∨ st = lnCapx ∨ st = lnActive ∨ (st = lnTest ∧ s.on (LANE_STATUS_BIT_LOCK n)) then
    ((s.set (LANE_ES_STAT_BUSY n) 1).set (LANE_ES_ERR_COUNT n) 0).setLane n fun l => { l with
      esDue := (s.cyc : Rat) + (s.esBits n : Rat) * s.blkCyc n / 66 }
  else s.raise (LANE_ES_STAT_ABORTED n) 1
/-- A write of ABORT. -/
def State.esEnd (s : State) (n : Fin 8) : State :=
  if s.on (LANE_ES_STAT_BUSY n) then (s.set (LANE_ES_STAT_BUSY n) 0).raise (LANE_ES_STAT_ABORTED n) 1 else s
/-- ES_START (R277). -/
def execEsStart (n : Fin 8) (s : State) : Host.Outcome State Fault Refusal := .next (s.onReg 9 (s.esBegin n))
/-- ES_ABORT (R277). -/
def execEsAbort (n : Fin 8) (s : State) : Host.Outcome State Fault Refusal := .next (s.onReg 9 (s.esEnd n))
/-- ES_SCAN_DONE (R277): all bits are compared, with `errors` disagreements. -/
def execEsScanDone (n : Fin 8) (errors : Nat) (s : State) : Host.Outcome State Fault Refusal :=
  .next (s.onLane <| if s.on (LANE_ES_STAT_BUSY n) && s.dueCyc (s.lane[n]).esDue then
    ((s.incBy (LANE_ES_ERR_COUNT n) (min errors (s.esBits n))).set (LANE_ES_STAT_BUSY n) 0).raise (LANE_ES_STAT_DONE n) 1
  else s)

/-! ### PRBS (R278, R279) -/

/-- Length and taps of a PRBS selection: the bits `a` and `b` back are added. -/
def prbsTaps (sel : Nat) : Nat × Nat := match sel with | 1 => (6, 7) | 2 => (14, 15) | _ => (28, 31)
/-- The bit that follows a shift register whose newest bit is bit 0. -/
def prbsNext (sel sr : Nat) : Bool := (sr.testBit ((prbsTaps sel).1 - 1)) != (sr.testBit ((prbsTaps sel).2 - 1))
def prbsShift (sr : Nat) (b : Bool) : Nat := (2 * sr + b.toNat) % 2 ^ 31
/-- INJ (R279): one transmitted bit will be inverted; two injections on the same bit invert it once. -/
def State.injectBit (s : State) (n : Fin 8) : State :=
  if s.laneState n = lnTest ∧ s.get (LANE_TEST_PRBS_TX n) ≠ 0 ∧ !(s.lane[n]).inj then
    s.setLane n fun l => { l with inj := true, inverted := l.inverted + 1 }
  else s
def execInjBit (n : Fin 8) (s : State) : Host.Outcome State Fault Refusal := .next (s.onReg 9 (s.injectBit n))
/-- Cycles in which 2^n bits are sent, for INJ_RATE = n; 1–7 act as 8 (R279). -/
def State.ratePeriod (s : State) (n : Fin 8) : Rat := (2 ^ max 8 (s.get (LANE_TEST_INJ_RATE n)) : Nat) * s.blkCyc n / 66
/-- INJ_RATE_INJECTION (R279). -/
def execInjRateInjection (n : Fin 8) (s : State) : Host.Outcome State Fault Refusal :=
  let t := (s.lane[n]).rateAt + s.ratePeriod n
  .next (s.onLane <| if s.get (LANE_TEST_INJ_RATE n) ≠ 0 && s.dueCyc t then (s.injectBit n).setLane n fun l => { l with rateAt := t } else s)
/-- The checker with one more received bit (R278). -/
def prbsStep (sel : Nat) (lock : Bool) (l : LaneRun) (b : Bool) : Bool × Bool × LaneRun :=
  let want := prbsNext sel l.prbs
  if lock then
    let wrong := b != want
    let win := (wrong :: l.prbsWin).take 256
    let drop_ := decide (64 ≤ (win.filter id).length)
    (!drop_, wrong, { l with
      prbs := if drop_ then 0 else prbsShift l.prbs want, prbsBits := 0, prbsGood := 0, prbsWin := if drop_ then [] else win, prbsRem := l.prbsRem + 1 })
  else if l.prbsBits < (prbsTaps sel).2 then (false, false, { l with prbs := prbsShift l.prbs b, prbsBits := l.prbsBits + 1, prbsGood := 0 })
  else if b = want then
    (decide (256 ≤ l.prbsGood + 1), false, { l with prbs := prbsShift l.prbs b, prbsGood := l.prbsGood + 1, prbsWin := [] })
  else (false, false, { l with prbs := prbsShift 0 b, prbsBits := 1, prbsGood := 0 })
/-- The generator sends its next bit: an injection inverts it, then POL_TX (R278, R279). -/
def State.prbsSend (s : State) (n : Fin 8) : State :=
  let tx := s.get (LANE_TEST_PRBS_TX n)
  s.setLane n fun l =>
    let sr := if l.gen = 0 then 1 else l.gen
    let b := prbsNext tx sr
    if tx = 0 then { l with txBit := false } else { l with gen := prbsShift sr b, inj := false, txBit := (b != l.inj) != s.on (LANE_CTRL_POL_TX n) }
/-- PRBS_BIT_RECEIVE (R278, R280): in one bit time the generator sends and the checker receives, under near-end serial
loopback the bit that is sent; near-end parallel loopback leaves LRX ignored. -/
def execPrbsBitReceive (n : Fin 8) (bit : Bool) (s : State) : Host.Outcome State Fault Refusal :=
  .next (s.onLane <|
    let sel := s.get (LANE_TEST_PRBS_RX n)
    let loop_ := s.get (LANE_TEST_LOOP n)
    if s.laneState n ≠ lnTest then s
    else
      let s0 := s.prbsSend n
      if sel = 0 ∨ loop_ = 2 ∨ (loop_ ≠ 1 ∧ !s.rxTerminated n) then s0
      else
        let raw := if loop_ = 1 then (s0.lane[n]).txBit else bit
        let r := prbsStep sel (s.on (LANE_PRBS_STAT_PRBS_LOCK n)) (s0.lane[n]) (raw != s.on (LANE_CTRL_POL_RX n))
        let carry := decide (65536 ≤ r.2.2.prbsRem)
        let s1 := ((s0.setLane n fun _ => { r.2.2 with prbsRem := r.2.2.prbsRem % 65536 }).setB (LANE_PRBS_STAT_PRBS_LOCK n) r.1)
        let s2 := if r.2.1 then s1.inc (LANE_PRBS_ERR_COUNT n) else s1
        if carry then s2.inc (LANE_PRBS_BITS_COUNT n) else s2)
/-- A new PRBS_RX selection seeds the checker afresh. -/
def State.prbsRestart (s : State) (n : Fin 8) : State :=
  (s.set (LANE_PRBS_STAT_PRBS_LOCK n) 0).setLane n fun l => { l with prbs := 0, prbsBits := 0, prbsGood := 0, prbsWin := [], prbsRem := 0 }

end Sys2Proof.Machine
end

