-- ==== Sys2Proof/Machine/Link.lean ====
section
/-! DEFINITION. The link above its blocks: the transmit arbiter, packets received, forwarding, timing distribution, run
starts and the link opcodes (R17–R19, R284–R314). -/

namespace Sys2Proof.Machine
open Reg

/-- A step of the link, which needs PD_LANE and clk_fab (R457). -/
def State.onLink (s t : State) : State := s.onLane (s.onFab t)

/-! ### The transmit arbiter (R17–R19, R288, R296, R298, R299, R303) -/

/-- A packet the arbiter may send: its class, source and payload, and where it comes from: a resend, this device, or
forwarding (with the place in the forwarding queue). -/
inductive TxFrom where
  | again
  | own
  | fwd (i : Nat)
  deriving DecidableEq, Repr

/-- The header of a BULK payload and its data: at most 1,024 bytes of the transfer (R252). -/
def bulkBytes (b : Bulk) : List Byte :=
  let n := min 1024 b.data.length
  wordsLE [0x20 + b.sub * 2 ^ 8 + b.tag % 2 ^ 16 * 2 ^ 16, b.off, n + (if b.data.length ≤ 1024 then 2 ^ 16 else 0), 0] ++ b.data.take 1024
/-- The group a bulk transfer leaves on (R320). -/
def State.bulkOn (s : State) (g : Fin 8) (b : Bulk) : Bool :=
  match b.group with | some h => h == g.val | none => s.hostGrp == some g
/-- The payload of class `c` that this device would send next on group `g`; none while the group loops back (R311). -/
def State.ownNext (s : State) (g : Fin 8) (c : Nat) : Option (List Byte) :=
  if s.on (LINK_GRPn_CTRL_LOOP g) then none
  else match c with
    | 0 => if s.hostGrp = some g then (s.out.alarms.head?).map fun a => wordsLE a.words else none
    | 1 => if s.hostGrp = some g then (s.out.tx.head?).map (·.bytes) else none
    | _ => (s.out.bulk.find? fun b => s.bulkOn g b).map bulkBytes
/-- The forwarded packet of class `c` and source `src` that has waited longest. -/
def State.fwdFrom (s : State) (g : Fin 8) (c src : Nat) : Option Nat :=
  (s.grp[g]).fwd.findIdx? fun e => e.2.cls == c && e.2.src == src
/-- Where source `src` stands for class `c`: forwarded packets carry their own SRC, so this device's come first (R19). -/
def State.srcNext (s : State) (g : Fin 8) (c src : Nat) : Option (TxFrom × Nat) :=
  let own := if src = s.get LINK_ID_DEV_ID then (s.ownNext g c).map fun b => (TxFrom.own, b.length) else none
  own.orElse fun _ => (s.fwdFrom g c src).map fun i => (.fwd i, (((s.grp[g]).fwd.getD i (8, ⟨0, false, 0, 0, 0, []⟩)).2.bytes).length)
/-- Sources in the order of their turn: for class A this device and then ascending device ID (R19), otherwise in rotation
after the source served last (R303). -/
def State.turns (s : State) (g : Fin 8) (c : Nat) : List Nat :=
  if c = 0 then s.get LINK_ID_DEV_ID :: (List.range 16).filter (· != s.get LINK_ID_DEV_ID)
  else
    let l := if c = 1 then (s.grp[g]).lastS else (s.grp[g]).lastB
    (List.range 16).map fun i => (l + 1 + i) % 16
/-- Replay bytes held for class A, and for the others (R298). -/
def replayBytes (a : Bool) (ps : List LinkPkt) : Nat :=
  ((ps.filter fun p => (p.cls == 0) == a).map fun p => 8 * pktBlocks p.bytes.length).sum
/-- The replay buffer has room for a new packet: 8 KiB per lane of the width, 512 bytes of it reserved for class A (R298). -/
def State.replayRoom (s : State) (g : Fin 8) (c len : Nat) : Bool :=
  let ps := (s.grp[g]).replay
  let n := 8 * pktBlocks len
  if c = 0 then decide (replayBytes true ps + replayBytes false ps + n ≤ 8192 * s.grpWidth g)
  else decide (max 512 (replayBytes true ps) + replayBytes false ps + n ≤ 8192 * s.grpWidth g)
/-- Credit covers the packet (R296). -/
def State.creditFor (s : State) (g : Fin 8) (c len : Nat) : Bool :=
  let r := s.grp[g]
  match c with | 0 => decide (1 ≤ r.crA) | 1 => decide (pktUnits len ≤ r.crS) | _ => decide (pktUnits len ≤ r.crB)
/-- What class `c` offers: the resend's packet where it is due, else the next new one; and whether it may go now. -/
def State.offer (s : State) (g : Fin 8) (c : Nat) : Option (TxFrom × Nat × Bool) :=
  match (s.grp[g]).resendQ with
  | p :: _ =>
    if p.cls = c then some (.again, p.bytes.length, s.creditFor g c p.bytes.length)
    else if c = 0 then
      ((s.turns g 0).findSome? fun x => s.srcNext g 0 x).map fun t => (t.1, t.2, s.creditFor g 0 t.2 && s.replayRoom g 0 t.2)
    else none
  | [] => ((s.turns g c).findSome? fun x => s.srcNext g c x).map fun t => (t.1, t.2, s.creditFor g c t.2 && s.replayRoom g c t.2)
def mayGo (o : Option (TxFrom × Nat × Bool)) : Bool := match o with | some (_, _, b) => b | none => false
/-- A new packet of class `c` waits, whether or not it may go now. -/
def State.waits (s : State) (g : Fin 8) (c : Nat) : Bool := ((s.turns g c).findSome? fun x => s.srcNext g c x).isSome
/-- Class S holds back: it and class B wait, and 15 packets have left since the last of class B (R18). -/
def State.yields (s : State) (g : Fin 8) : Bool :=
  (s.grp[g]).resendQ.isEmpty && s.waits g 1 && s.waits g 2 && decide (15 ≤ (s.grp[g]).sinceB)
/-- A class S or B packet of the group is in transmission (R17). -/
def State.inPacket (s : State) (g : Fin 8) : Bool := !(s.grp[g]).blks.isEmpty
/-- The class served: A before S before B, with a B packet at the latest after 15 others while S and B wait; inside a packet
in transmission only class A (R17, R18). -/
def State.classServed (s : State) (g : Fin 8) : Option Nat :=
  if mayGo (s.offer g 0) then some 0
  else if s.inPacket g then none
  else if mayGo (s.offer g 1) && !s.yields g then some 1
  else if mayGo (s.offer g 2) then some 2 else none
/-- A lane of the active set can carry blocks. -/
def State.groupSends (s : State) (g : Fin 8) : Bool :=
  s.grpUp g && (s.lanesOf g).any fun k => s.inSet g k && s.laneState k == lnActive && !s.on (LANE_STATUS_TX_IDLE k)

/-- What this device's next payload of a class is as it leaves: class S from the transmit buffer, staged bulk data from bulk
staging (R388). -/
def State.ownBytes (s : State) (g : Fin 8) (c : Nat) : List Byte × State :=
  let b := (s.ownNext g c).getD []
  if c = 1 then (match s.out.tx with | p :: _ => s.readTx p | [] => (b, s))
  else if c = 2 then (match s.out.bulk.find? fun b => s.bulkOn g b with
    | some ⟨_, _, _, off, _, some a⟩ =>
      let r := s.readReported (.fixed 10) (a + off) ((b.length - 16) / 8)
      (b.take 16 ++ r.1, r.2)
    | _ => (b, s))
  else (b, s)
/-- The packet a source gives. -/
def State.pktFrom (s : State) (g : Fin 8) (c : Nat) (t : TxFrom) : LinkPkt × State :=
  match t with
  | .again => ((s.grp[g]).resendQ.headD ⟨c, false, 0, 0, 0, []⟩, s)
  | .own =>
    let r := s.ownBytes g c
    (⟨c, false, s.get LINK_ID_DEV_ID, 0, 0, r.1⟩, r.2)
  | .fwd i => (((s.grp[g]).fwd.getD i (8, ⟨c, false, 0, 0, 0, []⟩)).2, s)
/-- A class S payload of this device has left: its transmit buffer bytes are free, and a FRAME_TAIL ends a frame (R250). -/
def State.sentS (s : State) (b : List Byte) : State :=
  let typ := (b.getD 0 0).toNat
  let s1 := s.setOut fun o => { o with tx := o.tx.drop 1 }
  let s2 := if typ = 4 then s1 else s1.set OUT_BUF_FREE_BYTES (s1.bufFree + b.length)
  if typ = 3 then (s2.inc OUT_FRAMES_COUNT).pmonAdd 0x41 1 0 else s2
/-- The first bulk transfer of a group moves on by one packet; a snapshot read that ends frees the snapshot (R252, R253). -/
def State.sentB (s : State) (g : Fin 8) : State :=
  match s.out.bulk.findIdx? fun b => s.bulkOn g b with
  | some i =>
    match s.out.bulk[i]? with
    | some b =>
      if b.data.length ≤ 1024 then
        let s1 := s.setOut fun o => { o with bulk := o.bulk.eraseIdx i }
        if b.sub = 2 then s1.set OUT_STATUS_SNAP_RD 0 else s1
      else s.setOut fun o => { o with bulk := o.bulk.set i { b with data := b.data.drop 1024, off := b.off + 1024 } }
    | none => s
  | none => s
/-- What sending takes from where the packet waited. -/
def State.takeSent (s : State) (g : Fin 8) (c : Nat) (t : TxFrom) (p : LinkPkt) : State :=
  match t with
  | .again => s.setGrp g fun r => { r with resendQ := r.resendQ.drop 1 }
  | .own =>
    match c with
    | 0 => (s.setOut fun o => { o with alarms := o.alarms.drop 1 }).inc OUT_ALARM_SENT_COUNT
    | 1 => s.sentS p.bytes
    | _ => s.sentB g
  | .fwd i =>
    let from_ := ((s.grp[g]).fwd.getD i (8, p)).1
    (s.setGrp g fun r => { r with fwd := r.fwd.eraseIdx i }).freeCredit from_ p.cls p.bytes.length
/-- The link header of a packet: bytes 1 to 7 of its start block (R288). -/
def linkHeader (cls : Nat) (dir : Bool) (src dst seq len : Nat) : Nat :=
  cls + dir.toNat * 2 ^ 2 + src * 2 ^ 8 + dst * 2 ^ 12 + seq * 2 ^ 16 + len * 2 ^ 28
/-- Types of the terminate block, by the bytes it carries (R288). -/
def termTypes : List Nat := [0x87, 0x99, 0xAA, 0xB4, 0xCC, 0xD2, 0xE1, 0xFF]
/-- The blocks of a packet: start, data and terminate (R288). -/
def packetBlks (p : LinkPkt) : List (Nat × Nat) :=
  let h := linkHeader p.cls p.dir p.src p.dst p.seq p.bytes.length
  let bs := p.bytes ++ bytesLE 4 (crc32c (bytesLE 7 h ++ p.bytes))
  let n := bs.length / 8
  [(shCtrl, 0x78 + 256 * h)] ++ ((List.range n).map fun i => (shData, ofBytesLE ((bs.drop (8 * i)).take 8)))
  ++ [(shCtrl, termTypes.getD (bs.length % 8) 0x87 + 256 * ofBytesLE (bs.drop (8 * n)))]
/-- Send a packet: SEQ, credit, replay buffer, counts, and its blocks for the slots to come (R288, R296–R298). -/
def State.sendPkt (s : State) (g : Fin 8) (c : Nat) (t : TxFrom) : State :=
  let r := s.grp[g]
  let new := t != .again
  let q := s.pktFrom g c t
  let p0 := q.1
  let p := if new then { p0 with cls := c, seq := if c = 0 then r.txA else r.txSB } else p0
  let u := pktUnits p.bytes.length
  let s1 := (q.2.takeSent g c t p0).setGrp g fun r => { r with
    txA := if new && c == 0 then (r.txA + 1) % 4096 else r.txA
    txSB := if new && c != 0 then (r.txSB + 1) % 4096 else r.txSB
    crA := if c = 0 then r.crA - 1 else r.crA
    crS := if c = 1 then r.crS - u else r.crS
    crB := if c = 2 then r.crB - u else r.crB
    ackAt := if r.replay.isEmpty then s.cyc else r.ackAt
    replay := if new then r.replay ++ [p] else r.replay
    lastS := if c = 1 then p.src else r.lastS
    lastB := if c = 2 then p.src else r.lastB
    sinceB := if c = 2 || !(s.waits g 1 && s.waits g 2) then 0 else r.sinceB + 1
    blks := if c = 0 then r.blks else packetBlks p
    blksA := if c = 0 then packetBlks p else r.blksA
    lastTx := some p }
  let s2 := if new then s1.inc (LINK_GRPn_PKTS_TX_COUNT g) else s1
  if c = 0 then s2.pmonAdd 0x40 1 0 else if c = 2 then s2.pmonAdd 0x42 1 0 else s2
/-- A drop marker goes before its stream's next FRAME_HEAD (R251). -/
def State.markerFirst (s : State) : State :=
  match s.out.tx with
  | p :: _ => if p.typ = 1 then s.sendMarker p.sid else s
  | [] => s
/-- TRANSMIT_ARBITER_SERVE (R17–R19, R303): the next packet of a group starts, a class A packet also inside a class S or B
packet in transmission, which then goes on; nothing interrupts a class A packet. -/
def execTransmitArbiterServe (g : Fin 8) (s : State) : Host.Outcome State Fault Refusal :=
  .next (s.onLink <| if s.groupSends g && (s.grp[g]).blksA.isEmpty then
    let s0 := if s.hostGrp = some g then s.markerFirst else s
    match s0.classServed g with
    | some c => (match s0.offer g c with | some (t, _, _) => s0.sendPkt g c t | none => s)
    | none => s
  else s)

/-! ### Packets received (R288, R289, R297, R302, R303, R310, R311, R319) -/

/-- Header bytes 1 to 7 of a packet's start block (R288). -/
def headerBytes (p : RxPacket) : List Byte := bytesLE 7 (linkHeader p.cls.val p.dir p.src.val p.dst.val p.seq.val p.payload.length)
/-- The packet is whole: a defined class, a legal length, no error block and a CRC that fits (R288). -/
def pktWhole (p : RxPacket) : Bool :=
  decide (p.cls.val < 3) && decide (4 ≤ p.payload.length) && decide (p.payload.length ≤ 2056) && p.payload.length % 4 == 0 && !p.errBlock
  && crc32c (headerBytes p ++ p.payload) == p.crc.toNat
/-- Put a packet into a group's forwarding queue; `from_` is the group whose buffer it leaves when it is sent. -/
def State.forward (s : State) (g : Fin 8) (from_ : Nat) (p : LinkPkt) : State :=
  s.setGrp g fun r => { r with fwd := r.fwd ++ [(from_, p)] }
/-- A packet without a way onward is discarded; a frame counts in LINK_FWD_DROP (R310). -/
def State.dropFwd (s : State) (from_ : Nat) (p : LinkPkt) : State :=
  (s.incBy LINK_FWD_DROP_COUNT (headsIn [p])).freeCredit from_ p.cls p.bytes.length
/-- The DOWN group whose route holds a device (R302). -/
def State.routeTo (s : State) (dst : Nat) : Option (Fin 8) :=
  allLanes.find? fun g => s.grpUp g && s.downRole g && (s.get (LINK_GRPn_ROUTE_MASK g)).testBit dst
/-- An in-band command (R319). -/
def isCommand (p : LinkPkt) : Bool := p.cls == 2 && ofBytesLE (p.bytes.take 4) == 0x30
/-- The reply on behalf of a worker that cannot be reached: NOT_READY with SRC = DST (R302). -/
def unreachReply (p : LinkPkt) : LinkPkt :=
  let c := p.bytes.drop 4
  ⟨2, false, p.dst, 0, 0, bulkBytes ⟨1, pktTag c, replyBytes (pktOp c) stNotReady (pktTag c) 0 [], 0, none, none⟩⟩
/-- A packet with DIR = 1 (R302, R319). -/
def State.routeOut (s : State) (g : Fin 8) (p : LinkPkt) : State :=
  if p.dst = s.get LINK_ID_DEV_ID then
    let s1 := s.freeCredit g.val p.cls p.bytes.length
    if isCommand p then s1.intake (.inband g (Fin.ofNat 16 p.src)) (p.bytes.drop 4) else s1
  else match s.routeTo p.dst with
    | some h => s.forward h g.val p
    | none =>
      let s1 := (s.inc LINK_UNREACH_COUNT).freeCredit g.val p.cls p.bytes.length
      if isCommand p then s1.forward g 8 (unreachReply p) else s1
/-- An accepted packet is sent back, consumed, forwarded or discarded. -/
def State.dispatchPkt (s : State) (g : Fin 8) (p : LinkPkt) : State :=
  if s.on (LINK_GRPn_CTRL_LOOP g) then s.forward g g.val { p with src := p.dst, dst := p.src, dir := !p.dir }
  else if p.dir then s.routeOut g p
  else if s.downRole g then
    match s.hostGrp with
    | some h => if s.grpUp h then s.forward h g.val p else s.dropFwd g.val p
    | none => s.dropFwd g.val p
  else s.freeCredit g.val p.cls p.bytes.length
/-- The packets, by class and LEN, that a framing error discards: each counts and gives its credit back (R289, R296). -/
def State.cutPackets (s : State) (n : Fin 8) (ps : List (Fin 4 × Nat)) : State :=
  ps.foldl (fun (t : State) p => (t.inc (LINK_GRPn_CRC_ERR_COUNT n)).freeCredit n.val p.1.val p.2) s
/-- PACKET_RECEIVE (R288, R289, R297, R302). -/
def execPacketReceive (n : Fin 8) (p : RxPacket) (s : State) : Host.Outcome State Fault Refusal :=
  .next (s.onLink <| if !s.grpUp n then s
  else if !p.cut.isEmpty then s.cutPackets n p.cut
  else if !pktWhole p then
    ((s.inc (LINK_GRPn_CRC_ERR_COUNT n)).freeCredit n.val p.cls.val p.payload.length).setGrp n fun r => { r with
      ackDue := true, nakA := r.nakA || p.cls == 0, nakSB := r.nakSB || p.cls != 0 }
  else
    let r := s.grp[n]
    let want := if p.cls = 0 then r.rxA else r.rxSB
    if p.seq.val = want then
      let s1 := (s.inc (LINK_GRPn_PKTS_RX_COUNT n)).setGrp n fun r => { r with
        ackDue := true
        rxA := if p.cls = 0 then (r.rxA + 1) % 4096 else r.rxA
        rxSB := if p.cls = 0 then r.rxSB else (r.rxSB + 1) % 4096 }
      s1.dispatchPkt n ⟨p.cls.val, p.dir, p.src.val, p.dst.val, p.seq.val, p.payload⟩
    else
      let s1 := s.freeCredit n.val p.cls.val p.payload.length
      if acked ((want + 4095) % 4096) p.seq.val then s1
      else s1.setGrp n fun r => { r with ackDue := true, nakA := r.nakA || p.cls == 0, nakSB := r.nakSB || p.cls != 0 })

/-! ### Groups (R285, R286, R293, R298) -/

/-- A DOWN group begins bring-up: its lanes are enabled (R286). -/
def State.startGroup (s : State) (g : Fin 8) : State :=
  let s1 := (s.lanesOf g).foldl (fun t k => t.setLaneEn k true) s
  s1.setGrp g fun r => { r with waiting := false, startedAt := s.cyc }
/-- The turn of the waiting DOWN group of lowest first lane has come (R286). -/
def State.turnOf (s : State) (g : Fin 8) : Bool :=
  (s.grp[g]).waiting && (allLanes.find? fun h => (s.grp[h]).waiting) == some g
  && (match s.link.lastDown with
      | some k =>
        let h : Fin 8 := Fin.ofNat 8 k
        !s.grpOn h || s.grpState h == 2 || decide ((s.grp[h]).startedAt + msCyc 20 ≤ s.cyc)
      | none => true)
/-- Start a DOWN group whose turn has come. -/
def State.startDown (s : State) (g : Fin 8) : State :=
  if s.turnOf g then (s.startGroup g).setLink fun l => { l with lastDown := some g.val } else s
/-- DOWN_GROUP_START (R286). -/
def execDownGroupStart (n : Fin 8) (s : State) : Host.Outcome State Fault Refusal :=
  .next (s.onLink <| if s.grpOn n && s.downRole n then s.startDown n else s)
/-- Enable a configured group (R286). -/
def State.enableGroup (s : State) (g : Fin 8) : State :=
  let s1 := ((s.set (LINK_GRPn_CTRL_EN g) 1).setGrp g fun _ => { GroupRun.init with conf := true, waiting := s.downRole g }).setMask g 0
  if s.downRole g then s1.startDown g else s1.startGroup g
/-- Disable a group: its lanes go to OFF (R286, R287). -/
def State.disableGroup (s : State) (g : Fin 8) : State :=
  let s1 := ((s.set (LINK_GRPn_CTRL_EN g) 0).emptyGroup g).setGrp g fun r => { r with waiting := false, joining := [] }
  (s.lanesOf g).foldl (fun t k => t.setLaneEn k false) s1
/-- Set EN of a configured group. -/
def State.setGroupEn (s : State) (g : Fin 8) (en : Bool) : State :=
  if s.on (LINK_GRPn_CTRL_EN g) == en then s else if en then s.enableGroup g else s.disableGroup g
/-- Lanes a group of a width would have (R285). -/
def lanesFrom (n w : Nat) : List Nat := (List.range (2 ^ w)).map (n + ·)
/-- A group obeys R285 and the modes of R284. -/
def State.groupOk (s : State) (n w role : Nat) : Bool :=
  let others := allLanes.filter fun h => (s.grp[h]).conf && h.val != n
  let mode := s.get LINK_ID_MODE
  decide (n < 8) && decide (w ≤ 2) && n % 2 ^ w == 0 && decide (n + 2 ^ w ≤ 8)
  && !(others.any fun h => (s.lanesOf h).any fun k => (lanesFrom n w).contains k.val)
  && (match role with
      | 0 => mode != 2 && !(others.any fun h => s.get (LINK_GRPn_CTRL_ROLE h) == 0)
      | 1 => mode != 0
      | 2 => mode == 2 && !(others.any fun h => s.get (LINK_GRPn_CTRL_ROLE h) == 2)
      | _ => false)
/-- The configuration differs from what the group has. -/
def State.groupNew (s : State) (n : Fin 8) (w role : Nat) : Bool :=
  !(s.grp[n]).conf || s.get (LINK_GRPn_CTRL_WIDTH n) != w || s.get (LINK_GRPn_CTRL_ROLE n) != role
/-- A lane of the group has EN = 1, so its configuration cannot be written (R285). -/
def State.lanesOn (s : State) (n w : Nat) : Bool := allLanes.any fun k => (lanesFrom n w).contains k.val && s.on (LANE_CTRL_EN k)
/-- Configure a group (R285). -/
def State.configure (s : State) (n : Fin 8) (w role : Nat) : State :=
  ((s.set (LINK_GRPn_CTRL_WIDTH n) w).set (LINK_GRPn_CTRL_ROLE n) role).setGrp n fun r => { r with conf := true }
/-- Configure a group and set its EN. -/
def State.putGroup (s : State) (n : Fin 8) (w role : Nat) (en : Bool) : State :=
  (if s.groupNew n w role then s.configure n w role else s).setGroupEn n en

/-- REGULAR_AM (R293, R295): it adds the lanes that have become ACTIVE. -/
def execRegularAm (n : Fin 8) (s : State) : Host.Outcome State Fault Refusal :=
  .next (s.onLink <| if s.grpUp n && s.dueCyc (s.grp[n]).amDue then
    let add := ((s.lanesOf n).filter fun k => (s.grp[n]).joining.contains k.val && s.laneState k == lnActive).foldl (fun m k => m ||| 2 ^ (k.val - n.val)) 0
    ((s.setMask n (s.grpMask n ||| add)).sendAm n false).setGrp n fun r => { r with
      joining := r.joining.filter fun k => !add.testBit (k - n.val), amDue := r.amDue + 4096 * s.blkCyc n }
  else s)
/-- REPLAY_TIMEOUT (R298). -/
def execReplayTimeout (n : Fin 8) (s : State) : Host.Outcome State Fault Refusal :=
  .next (s.onLink <| if s.grpUp n && !(s.grp[n]).replay.isEmpty && s.past ((s.grp[n]).ackAt + usCyc (s.get LINK_REPLAY_REPLAY_TMO)) then s.resend n else s)

/-! ### Timing distribution (R304–R309) -/

/-- The phase coordinate of an instant, 0 without an epoch. -/
def State.phaseOfNs (s : State) (t : Rat) : Nat :=
  match s.refModel with
  | some m => if s.on SEQ_REF_STATUS_EPOCH_VALID then phase64 (m.phaseAt s.trk.epoch t) else 0
  | none => 0
/-- The instant of a phase coordinate near the present (R47, R48, R56). -/
def State.instantOf (s : State) (p : Nat) : Option Rat :=
  if s.on SEQ_REF_STATUS_EPOCH_VALID then s.refModel.map fun m => s.nowNs + (phaseDiff p (s.phaseOfNs s.nowNs) : Rat) / 2 ^ 32 * m.T else none
/-- The data of a set's block `i` (R304). -/
def setData (t : TimingSet) (i : Nat) : Nat :=
  match i with
  | 0 => lo32 t.departPrev.toNat
  | 1 => hi32 t.departPrev.toNat
  | 2 => t.period.toNat % 2 ^ 44
  | 3 => t.period.toNat / 2 ^ 44 + t.epochValid.toNat * 2 ^ 12 + t.holdover.toNat * 2 ^ 13 + t.onInternal.toNat * 2 ^ 14
      + t.locked.toNat * 2 ^ 15 + t.epochGen.val * 2 ^ 16
  | 4 => lo32 t.start.toNat
  | _ => hi32 t.start.toNat + t.startValid.toNat * 2 ^ 32 + t.runGen.val * 2 ^ 33
/-- A TIMING block (R290). -/
def timingBlk (t : TimingSet) (i : Nat) : Nat :=
  0x4B + i * 2 ^ 8 + t.setSeq.val * 2 ^ 11 + setData t i % 2 ^ 16 * 2 ^ 16 + 0x5 * 2 ^ 32 + setData t i / 2 ^ 16 * 2 ^ 36
/-- The run start announced has not passed (R309). -/
def State.startAhead (s : State) : Bool :=
  match s.link.runStart with
  | some p => (match s.instantOf p with | some t => decide (s.nowNs < t) | none => false)
  | none => false
/-- The timing set sent next on a group (R304). -/
def State.timingSet (s : State) (g : Fin 8) : TimingSet where
  setSeq := Fin.ofNat 32 (s.grp[g]).setSeq
  departPrev := BitVec.ofNat 64 (s.phaseOfNs (s.instOf (s.grp[g]).departed))
  period := BitVec.ofNat 56 s.periodBits
  epochValid := s.on SEQ_REF_STATUS_EPOCH_VALID
  holdover := s.on SEQ_REF_STATUS_HOLDOVER
  onInternal := s.on SEQ_REF_STATUS_ON_INTERNAL
  locked := s.on SEQ_REF_STATUS_LOCKED
  epochGen := Fin.ofNat 16 s.link.epochGen
  start := BitVec.ofNat 64 (s.link.runStart.getD 0)
  startValid := s.startAhead
  runGen := Fin.ofNat 16 s.link.runGen
/-- TIMING_SET_SEND (R304): a set leaves on the timing lane, outside a class A packet (R289); `departure` is the stamp of its
INDEX 0 block. -/
def execTimingSetSend (n : Fin 8) (departure : BitVec 64) (s : State) : Host.Outcome State Fault Refusal :=
  .next (s.onLink <| if s.grpUp n && s.downRole n && decide ((s.grp[n]).setDue ≤ s.cyc) && (s.grp[n]).blksA.isEmpty && (!s.isWorker || s.on SEQ_REF_STATUS_LOCKED) then
    let t := s.timingSet n
    ((List.range 6).foldl (fun u i => u.sendBlk (s.tlane n) shCtrl (timingBlk t i)) s).setGrp n fun r => { r with
      setTx := some t, setSeq := (r.setSeq + 1) % 32, departed := departure.toNat, setDue := s.cyc + usCyc (s.get LINK_TIMING_TB_INT) }
  else s)

/-- A phase coordinate as a number of cycles near another (R47, R48). -/
def nearPhase (p : Nat) (q : Rat) : Rat := q + (phaseDiff p (phase64 q) : Rat) / 2 ^ 32
/-- Stamps are shifted to a new origin of phase by a whole number of cycles. -/
def shiftPts (d : Rat) (ps : List (Rat × Rat)) : List (Rat × Rat) := ps.map fun p => (p.1 + d, p.2)
/-- The manager's phase of a stamped instant: the coordinate it sends, nearest to what the worker's tracker expects. -/
def State.setPoint (s : State) (p : Nat) (t : Rat) : Rat :=
  match s.trk.model with
  | some m => nearPhase p (m.phaseAt 0 t)
  | none => (signedOf 64 p : Rat) / 2 ^ 32
/-- A worker takes the manager's epoch: its stamps move to the new coordinates; a phase jump's new fit comes into force
(R61, R307). -/
def State.takeEpoch (s : State) (gen p : Nat) (t : Rat) (period : Nat) : State :=
  let d : Rat := match s.trk.model with
    | some m => (roundHalfUp ((signedOf 64 p : Rat) / 2 ^ 32 - m.phaseAt 0 t) : Rat)
    | none => 0
  let T : Rat := (period : Rat) / 2 ^ 24
  let base := if s.trk.jumped then s.trk.back else s.trk.stamps
  let s1 := if s.trk.jumped then s.set SEQ_REF_STATUS_HOLDOVER 0 else s
  let pts := shiftPts d base
  ((s1.set SEQ_REF_STATUS_EPOCH_VALID 1).setTrk fun r => { r with
    epoch := 0, autoEpoch := false, epochOnInt := false
    stamps := pts, back := if s.trk.jumped then [] else shiftPts d r.back, jumped := false
    model := (fitModel pts).orElse fun _ => some ⟨0, t - (signedOf 64 p : Rat) / 2 ^ 32 * T, T⟩ }).setLink fun l => { l with epochGen := gen }
/-- A fit point of the worker's tracker (R56, R57, R61, R307). -/
def State.workerStamp (s : State) (k t : Rat) : State :=
  if s.on SEQ_REF_STATUS_HOLDOVER then s.setTrk fun r => { r with back := ((k, t) :: r.back).take s.trackW }
  else
    let st := ((k, t) :: s.trk.stamps).take s.trackW
    (s.setTrk fun r => { r with stamps := st, model := (fitModel st).orElse fun _ => r.model }).judgeLock
/-- The manager's epoch differs from the worker's own (R307). -/
def State.newEpoch (s : State) (ts : TimingSet) : Bool :=
  ts.epochValid && (!s.on SEQ_REF_STATUS_EPOCH_VALID || ts.epochGen.val != s.link.epochGen)
/-- A sequencer of the worker that is not IDLE stops before the new epoch is taken (R307). -/
def State.stopForEpoch (s : State) : State :=
  ([0, 1] : List Fib).foldl (fun (t : State) (f : Fib) => if t.seqState f != 0 then (t.raise (SEQ_FLAGS_STOP_REF f) 1).stopSeq f else t) (s.raise LINK_FLAGS_EPOCH_CHANGE 1)
/-- The fit, or the new epoch, of a set whose predecessor arrived at `t` less the delay, having left at phase `p`. -/
def State.timingFit (s : State) (ts : TimingSet) (p : Nat) (t : Rat) : State :=
  if s.newEpoch ts then
    let s1 := if s.allIdle then s else s.stopForEpoch
    if s1.allIdle then (s1.takeEpoch ts.epochGen.val p t ts.period.toNat).workerStamp ((signedOf 64 p : Rat) / 2 ^ 32) t else s1
  else s.workerStamp (s.setPoint p t) t
/-- A run start of a new RUN_GEN (R309): registered, or late when fewer than 64 clk_fab cycles are left. -/
def State.runRx (s : State) (ts : TimingSet) : State :=
  if ts.startValid && ts.runGen.val != s.link.runGen then
    let s1 := s.setLink fun l => { l with runGen := ts.runGen.val, runStart := some ts.start.toNat }
    match s1.instantOf ts.start.toNat with
    | some t =>
      if t < s1.nowNs + 160 then (s1.inc LINK_START_LATE_COUNT).raise LINK_FLAGS_START_LATE 1
      else s1.setLink fun l => { l with linkTrig := some ts.start.toNat }
    | none => s1
  else s
/-- TIMING_SET_RECEIVE (R304, R307, R309): a complete set on a worker's UP group; `arrival` is the stamp of its INDEX 0
block. -/
def execTimingSetReceive (n : Fin 8) (ts : TimingSet) (arrival : BitVec 64) (s : State) : Host.Outcome State Fault Refusal :=
  .next (s.onLink <| if s.isWorker && s.hostRole n && s.grpUp n then
    let s1 := match s.link.lastSet with
      | some (q, a) =>
        if (q + 1) % 32 = ts.setSeq.val then
          s.timingFit ts ts.departPrev.toNat (s.instOf a - s.link.delay / 1000)
        else s
      | none => s
    ((s1.set SEQ_REF_STATUS_PRESENT 1).setLink fun l => { l with
      lastSet := some (ts.setSeq.val, arrival.toNat), setAt := s.cyc, lastRx := some ts }).runRx ts
  else s)

/-- ECHO_REQUEST (R306). -/
def execEchoRequest (departure : BitVec 64) (s : State) : Host.Outcome State Fault Refusal :=
  .next (s.onLink <| match s.hostGrp with
    | some g =>
      if s.isWorker && s.grpUp g && decide (s.link.echoDue ≤ s.cyc) && (s.grp[g]).blksA.isEmpty then
        let r := s.grp[g]
        let s1 := if r.echoOut.isSome then s.inc LINK_ECHO_LOST_COUNT else s
        let eid := (r.eid + 1) % 128
        ((s1.sendBlk (s.tlane g) shCtrl (0x4B + eid * 2 ^ 9 + 0x6 * 2 ^ 32)).setGrp g fun r => { r with
          eid := eid, echoOut := some (eid, departure.toNat) }).setLink fun l => { l with echoDue := s.cyc + usCyc (s.get LINK_TIMING_ECHO_INT) }
      else s
    | none => s)
/-- The IDs a worker reaches: its own and those in the routes of its DOWN groups (R301). -/
def State.routeMask (s : State) : Nat :=
  (allLanes.filter fun g => (s.grp[g]).conf && s.downRole g).foldl (fun m g => m ||| s.get (LINK_GRPn_ROUTE_MASK g)) (2 ^ s.get LINK_ID_DEV_ID)
/-- ROUTE_SEND (R301). -/
def execRouteSend (s : State) : Host.Outcome State Fault Refusal :=
  .next (s.onLink <| match s.hostGrp with
    | some g =>
      if s.isWorker && s.grpUp g && (s.link.routeDue || s.dueCyc s.link.routeAt) && (s.grp[g]).blksA.isEmpty then
        (s.stripeBlk g shCtrl (0x4B + s.routeMask * 2 ^ 8 + 0x7 * 2 ^ 32)).setLink fun l => { l with
          routeDue := false, routeSent := s.routeMask, routeAt := (s.cyc : Rat) + 4096 * s.blkCyc g }
      else s
    | none => s)
/-- LINK_RUN_TRIGGER (R309): the run start phase has come. -/
def execLinkRunTrigger (s : State) : Host.Outcome State Fault Refusal :=
  .next (s.onLink <| match s.link.linkTrig with
    | some p =>
      (match s.instantOf p with
       | some t =>
         if s.due t then
           ([0, 1] : List Fib).foldl (fun (u : State) (f : Fib) => if u.get (SEQ_CTRL_TRIG_SRC f) = 5 then (u.trigger f none).2 else u)
             (s.setLink fun l => { l with linkTrig := none, runStart := none })
         else s
       | none => s)
    | none => s)

/-! ### Opcodes (R314) -/

/-- Every group is OFF. -/
def State.groupsOff (s : State) : Bool := allLanes.all fun g => !s.grpOn g
/-- MODE and DEV_ID fit together (R284). -/
def idOk (mode id : Nat) : Bool := if mode = 2 then decide (1 ≤ id) && decide (id ≤ 15) else decide (mode < 2) && id == 0
/-- Take a mode and a device ID; the reference in use changes with the step to or from a worker (R307). -/
def State.setId (s : State) (mode id : Nat) : State :=
  let s1 := (s.set LINK_ID_MODE mode).set LINK_ID_DEV_ID id
  let s2 := if mode = 2 then s1 else s1.set LINK_HOPS_HOPS 0
  if s1.isWorker == s.isWorker then s2 else s2.voidEpoch.setLink fun l => { l with
    lastSet := none, lastRx := none, rtts := [], outliers := [], runStart := none, linkTrig := none }
def linkSetId (s : State) (ps : List Nat) : CmdRes :=
  if !s.groupsOff then .denied
  else if !idOk (par ps 1) (par ps 2) then .bad
  else .ok (s.setId (par ps 1) (par ps 2))
/-- LINK_SET_ID (R314). -/
def execLinkSetId (c : CmdIn) (s : State) : Host.Outcome State Fault Refusal :=
  .next (runCmd 0x90 10 (fun _ => [0, full, full]) linkSetId c s)
def linkGroup (s : State) (ps : List Nat) : CmdRes :=
  let w := par ps 2
  let role := par ps 3
  let en := bit (par ps 4) 0
  if !s.groupOk (par ps 1) w role then .bad
  else
    let n : Fin 8 := Fin.ofNat 8 (par ps 1)
    if s.groupNew n w role && s.grpOn n then .denied
    else if s.groupNew n w role && s.lanesOn n.val w then .bad
    else if !s.groupNew n w role && en == s.on (LINK_GRPn_CTRL_EN n) then .done stAlready [s.rawReg 10 (0x1004 + 0x100 * n.val)] s
    else
      let s1 := s.putGroup n w role en
      .done stOk [s1.rawReg 10 (0x1004 + 0x100 * n.val)] s1
/-- LINK_GROUP (R285, R286, R314). -/
def execLinkGroup (c : CmdIn) (s : State) : Host.Outcome State Fault Refusal :=
  .next (runCmd 0x91 10 (fun _ => [0, full, full, full, 1]) linkGroup c s)
/-- TB_INT and ECHO_INT within their ranges (R312). -/
def timingOk (v : Nat) : Bool :=
  decide (10 ≤ fld v 0 16) && decide (fld v 0 16 ≤ 10000) && decide (100 ≤ fld v 16 16) && decide (fld v 16 16 ≤ 60000)
def linkTimingCfg (s : State) (ps : List Nat) : CmdRes :=
  if !timingOk (par ps 1) ∨ par ps 2 < 2 ∨ 255 < par ps 2 ∨ 65535 < par ps 4 then .bad
  else .ok (((((s.set LINK_TIMING_TB_INT (fld (par ps 1) 0 16)).set LINK_TIMING_ECHO_INT (fld (par ps 1) 16 16)).set
    LINK_REPLAY_REPLAY_TMO (par ps 2)).set LINK_ASYM_PS (par ps 3)).set LINK_RTT_JUMP_PS (par ps 4))
/-- LINK_TIMING_CFG (R314). -/
def execLinkTimingCfg (c : CmdIn) (s : State) : Host.Outcome State Fault Refusal :=
  .next (runCmd 0x92 10 (fun _ => [0, full, full, full, full]) linkTimingCfg c s)
/-- A run start phase lies far enough ahead (R309). -/
def State.startOk (s : State) (p : Nat) : Bool :=
  match s.instantOf p with
  | some t => decide (s.nowNs + ((4 * s.get LINK_TIMING_TB_INT + 100 : Nat) : Rat) * 1000 ≤ t)
  | none => false
def linkRunStart (s : State) (ps : List Nat) : CmdRes :=
  let p := par ps 1 + par ps 2 * 2 ^ 32
  if s.get LINK_ID_MODE ≠ 1 then .denied
  else if !s.on SEQ_REF_STATUS_EPOCH_VALID then .notReady
  else if !s.startOk p then .bad
  else
    let g := (s.link.runGen + 1) % 16
    .done stOk [g] (s.setLink fun l => { l with runGen := g, runStart := some p, linkTrig := some p })
/-- LINK_RUN_START (R309, R314). -/
def execLinkRunStart (c : CmdIn) (s : State) : Host.Outcome State Fault Refusal :=
  .next (runCmd 0x93 10 (fun _ => [0, full, full]) linkRunStart c s)
/-- P1 names a configured group. -/
def State.groupOf (s : State) (v : Nat) : Option (Fin 8) := allLanes.find? fun g => g.val == v && (s.grp[g]).conf
def linkLoop (s : State) (ps : List Nat) : CmdRes :=
  match s.groupOf (par ps 1) with
  | some g => if s.grpOn g then .denied else .ok (s.set (LINK_GRPn_CTRL_LOOP g) (par ps 2))
  | none => .bad
/-- LINK_LOOP (R311, R314). -/
def execLinkLoop (c : CmdIn) (s : State) : Host.Outcome State Fault Refusal :=
  .next (runCmd 0x94 10 (fun _ => [0, full, 1]) linkLoop c s)
def linkTopology (s : State) (_ : List Nat) : CmdRes :=
  .data s ([s.rawReg 10 4, s.rawReg 10 8] ++ (allLanes.filter fun g => (s.grp[g]).conf).flatMap fun g =>
    [s.rawReg 10 (0x1004 + 0x100 * g.val), s.rawReg 10 (0x1008 + 0x100 * g.val)])
/-- LINK_TOPOLOGY (R314). -/
def execLinkTopology (c : CmdIn) (s : State) : Host.Outcome State Fault Refusal := .next (runCmd 0x95 10 (fun _ => []) linkTopology c s)
def linkRttStatus (s : State) (_ : List Nat) : CmdRes :=
  if !s.isWorker then .denied
  else .data s [s.get LINK_RTT_PS, s.get LINK_DELAY_PS, s.get SEQ_REF_RESID_RESID, s.get LINK_ECHO_LOST_COUNT, s.get LINK_ECHO_OUTLIER_COUNT]
/-- LINK_RTT_STATUS (R314). -/
def execLinkRttStatus (c : CmdIn) (s : State) : Host.Outcome State Fault Refusal := .next (runCmd 0x96 10 (fun _ => []) linkRttStatus c s)
def linkGetStatus (s : State) (ps : List Nat) : CmdRes :=
  match s.groupOf (par ps 1) with
  | some g =>
    .data s ([s.rawReg 10 0x24] ++ ((List.range 11).map fun i => s.rawReg 10 (0x1000 + 0x100 * g.val + 4 * i))
      ++ (List.range 6).map fun i => s.rawReg 10 (0x2C + 4 * i))
  | none => .bad
/-- LINK_GET_STATUS (R314). -/
def execLinkGetStatus (c : CmdIn) (s : State) : Host.Outcome State Fault Refusal :=
  .next (runCmd 0x97 10 (fun _ => [0, full]) linkGetStatus c s)

end Sys2Proof.Machine
end

