-- ==== Sys2Proof/Machine/Dram.lean ====
section
/-! DEFINITION. The DRAM controller: bank queues and scheduling, refresh, module temperature, training, bring-up and the fill
engine (R366–R385). -/

namespace Sys2Proof.Machine
open Reg

def State.setDram (s : State) (ch : Chan) (g : DramRun → DramRun) : State := { s with dram := s.dram.set ch (g (s.dram[ch])) }
/-- A step of PD_DDR that needs clk_fab (R457). -/
def State.onDdr (s t : State) : State := s.onDom 5 (s.onFab t)

/-! ### Clock, geometry and timing (R366, R367, R374) -/

/-- Data rate of a channel in MT/s (R366, R385). -/
def State.dramRate (s : State) (ch : Nat) : Nat :=
  ([1600, 1866, 2133, 2400, 2666, 2933, 3200] : List Nat).getD (s.get (DRAMC_CONFIG_RATE ch)) 3200
/-- Whole nCK that have passed at the start of a cycle of 2.5 ns; one nCK is 2,000 / rate ns. -/
def State.nck (s : State) (ch cyc : Nat) : Nat := cyc * s.dramRate ch / 800
/-- A number of nCK in cycles of 2.5 ns. -/
def State.nckCyc (s : State) (ch n : Nat) : Rat := (n : Rat) * 800 / (s.dramRate ch : Rat)
def State.ranks (s : State) (ch : Nat) : Nat := s.get (DRAMC_CONFIG_RANKS ch) + 1
/-- Capacity of the devices a channel is configured for, in GiB (R366). -/
def State.capGib (s : State) (ch : Nat) : Nat :=
  (if s.on (DRAMC_CONFIG_WIDTH ch) then 4 else 8) * (if s.on (DRAMC_CONFIG_DENS ch) then 2 else 1) * s.ranks ch
/-- Rank, bank group, bank (group and bank together) and row of a byte offset (R367). -/
def State.dramPlace (s : State) (ch off : Nat) : Nat × Nat × Nat × Nat :=
  let two := s.on (DRAMC_CONFIG_RANKS ch)
  let up := fun (b : Nat) => if two then (fld off b 1, off / 2 ^ (b + 1)) else (0, off / 2 ^ b)
  if s.on (DRAMC_CONFIG_WIDTH ch) then
    let r := up 16
    (r.1, fld off 7 1, fld off 7 1 * 4 + fld off 8 2, r.2)
  else
    let r := up 17
    (r.1, fld off 7 2, fld off 7 2 * 4 + fld off 9 2, r.2)

def owedF (ch r : Nat) : Fld := if r = 0 then DRAMC_CHSTAT_OWED0 ch else DRAMC_CHSTAT_OWED1 ch
/-- The allowance A of R374; with tRFC = 0, for which the rule's quotient has no value, the bound of 8 stands (log entry 34). -/
def State.allowance (s : State) (ch : Nat) : Nat :=
  if s.on (DRAMC_CHSTAT_HOT ch) then 0
  else
    let rfc := s.get (DRAMC_TIM2_TRFC ch)
    let amax := if rfc = 0 then 8 else (s.get (DRAMC_REF_TREFI ch) / 2 - s.get (DRAMC_TIM0_TRP ch)) / rfc - 1
    min (min (s.get (DRAMC_REF_POSTPONE ch)) amax) 8
/-- Interval of the refresh timers in cycles (R374). -/
def State.refInterval (s : State) (ch : Nat) : Rat :=
  let t := s.nckCyc ch (s.get (DRAMC_REF_TREFI ch))
  if s.on (DRAMC_CHSTAT_HOT ch) then t / 2 else t
/-- The channel runs: installed and not in self-refresh. -/
def State.dramRuns (s : State) (ch : Nat) : Bool := s.on (DRAMC_CHSTAT_READY ch) && !s.on (DRAMC_CHSTAT_SELF_REF ch)

/-! ### Requests and panic (R369–R371) -/

/-- Requests of a real-time port's FIFO on one side: its urgency (R370). -/
def DramRun.urgency (d : DramRun) (p : Nat) (write : Bool) : Nat :=
  ((d.queue ++ d.waiting).filter fun q => q.port == p && q.write == write).length
/-- Raise or drop panic of a real-time port (R370). -/
def State.panicNow (s : State) (ch : Chan) (p : Nat) : State :=
  let d := s.dram[ch]
  let u := max (d.urgency p false) (d.urgency p true)
  if s.get (DRAMC_PANICp_ON ch p) ≤ u then s.set (DRAMC_PANICp_ACTIVE ch p) 1
  else if u ≤ s.get (DRAMC_PANICp_OFF ch p) then s.set (DRAMC_PANICp_ACTIVE ch p) 0 else s
/-- The queue of a bank has an entry open to a request: 8 entries, 2 of them for real-time ports (R371). -/
def bankOpen (qs : List DramQ) (q : DramQ) : Bool :=
  let mine := qs.filter fun x => x.rank == q.rank && x.bank == q.bank
  decide (mine.length < 8) && (decide (q.port < 4) || decide ((mine.filter fun x => decide (4 ≤ x.port)).length < 6))
/-- Older first; in port order at equal age (R371). -/
def older (a b : DramQ) : Bool := decide (a.at_ < b.at_) || (a.at_ == b.at_ && decide (a.port < b.port))
/-- The oldest of a list. -/
def oldest : List DramQ → Option DramQ
  | [] => none
  | q :: t => match oldest t with | some x => some (if older x q then x else q) | none => some q
/-- Waiting requests enter the bank queues, oldest first. -/
def admitAll : List DramQ → List DramQ → List DramQ × List DramQ
  | qs, [] => (qs, [])
  | qs, q :: t =>
    if bankOpen qs q then admitAll (qs ++ [q]) t
    else
      let r := admitAll qs t
      (r.1, q :: r.2)
def State.admitDram (s : State) (ch : Chan) : State :=
  s.setDram ch fun d => { d with queue := (admitAll d.queue d.waiting).1, waiting := (admitAll d.queue d.waiting).2 }
/-- A port may make a request of a direction (R369). -/
def portDir (p : Nat) (write : Bool) : Bool := match p with | 0 => write | 1 => !write | 2 => write | _ => true
/-- A real-time port reaches only a channel that holds an area of its block (R369); the other ports reach both. -/
def State.portReach (s : State) (ch : Chan) (p : Nat) : Bool :=
  let holds := fun (base : Nat → Nat) => [0, 1].any fun f => chanOf (base f) == some ch.val
  match p with
  | 0 => holds s.ctBase
  | 1 => holds s.ctBase || holds s.stBase
  | 2 => holds s.stBase
  | 3 => holds s.accBase || holds s.resBase
  | _ => true
/-- DRAM_REQUEST (R369–R371): a request enters its bank queue, or waits for it; a real-time FIFO holds 64. -/
def execDramRequest (ch : Chan) (rq : DramReq) (s : State) : Host.Outcome State Fault Refusal :=
  .next (s.onDdr <|
    let p := rq.port.val
    let d := s.dram[ch]
    if s.dramRuns ch && decide (rq.off.toNat < s.installed ch) && portDir p rq.write && s.portReach ch p && (decide (4 ≤ p) || decide (d.urgency p rq.write < 64)) then
      let a := s.dramPlace ch rq.off.toNat
      let s1 := (s.setDram ch fun d => { d with waiting := d.waiting ++ [⟨p, rq.write, a.1, a.2.1, a.2.2.1, a.2.2.2, s.cyc⟩] }).admitDram ch
      if p < 4 then s1.panicNow ch p else s1
    else s)

/-! ### One command slot (R371, R372, R374, R375) -/

def bankKey (r b : Nat) : Nat := r * 16 + b
/-- Instants of a bank that a condition bounds from below; a bank that has none meets it. -/
def gapMet (m : KMap Nat) (k gap t : Nat) : Bool := match kget k m with | some x => decide (x + gap ≤ t) | none => true
/-- A bank may be precharged: tRAS, tRTP and tWR are met. -/
def State.preOk (s : State) (ch : Chan) (k t : Nat) : Bool :=
  let d := s.dram[ch]
  gapMet d.actAt k (s.get (DRAMC_TIM1_TRAS ch)) t && gapMet d.rdAt k (s.get (DRAMC_TIM2_TRTP ch)) t
  && gapMet d.wrAt k (s.get (DRAMC_TIM0_CWL ch) + 4 + s.get (DRAMC_TIM2_TWR ch)) t
/-- A rank has ended its last REF. -/
def State.refDone (s : State) (ch : Chan) (r t : Nat) : Bool :=
  match (s.dram[ch]).refAt[Fin.ofNat 2 r] with | some x => decide (x + s.get (DRAMC_TIM2_TRFC ch) ≤ t) | none => true
/-- A bank may be activated: tRP, tRFC, tRRD and tFAW are met. -/
def State.actOk (s : State) (ch : Chan) (q : DramQ) (t : Nat) : Bool :=
  let d := s.dram[ch]
  let as := d.acts[Fin.ofNat 2 q.rank]
  gapMet d.preAt (bankKey q.rank q.bank) (s.get (DRAMC_TIM0_TRP ch)) t && s.refDone ch q.rank t
  && (as.all fun a => decide (a.1 + (if a.2 = q.group then s.get (DRAMC_TIM1_TRRD_L ch) else s.get (DRAMC_TIM1_TRRD_S ch)) ≤ t))
  && (match as[3]? with | some a => decide (a.1 + s.get (DRAMC_TIM1_TFAW ch) ≤ t) | none => true)
/-- A read or write may be issued: tRCD, the data bus and, for a read, tWTR are met. -/
def State.rwOk (s : State) (ch : Chan) (q : DramQ) (t : Nat) : Bool :=
  let d := s.dram[ch]
  gapMet d.actAt (bankKey q.rank q.bank) (s.get (DRAMC_TIM0_TRCD ch)) t
  && (match d.burstAt with | some x => decide (x + 4 ≤ t) | none => true)
  && (q.write || (d.wrs[Fin.ofNat 2 q.rank]).all fun w =>
      decide (w.1 + s.get (DRAMC_TIM0_CWL ch) + 4 + (if w.2 = q.group then s.get (DRAMC_TIM1_TWTR_L ch) else s.get (DRAMC_TIM2_TWTR_S ch)) ≤ t))
/-- The row open in a request's bank. -/
def DramRun.rowOf (d : DramRun) (q : DramQ) : Option Nat := kget (bankKey q.rank q.bank) d.rows
def DramRun.hits (d : DramRun) (q : DramQ) : Bool := d.rowOf q == some q.row
/-- Every constraint of a request's next command is met. -/
def State.readyReq (s : State) (ch : Chan) (t : Nat) (q : DramQ) : Bool :=
  let d := s.dram[ch]
  match d.rowOf q with
  | some r => if r = q.row then s.rwOk ch q t else s.preOk ch (bankKey q.rank q.bank) t
  | none => s.actOk ch q t
/-- A request counts as real-time: of a real-time port, or older than AGE_MAX × 64 nCK (R371). -/
def State.realTime (s : State) (ch : Chan) (t : Nat) (q : DramQ) : Bool :=
  decide (q.port < 4) || decide (s.get (DRAMC_AGE_AGE_MAX ch) * 64 < t - s.nck ch q.at_)
/-- The oldest of some requests, real-time before best-effort. -/
def State.pickReq (s : State) (ch : Chan) (t : Nat) (qs : List DramQ) : Option DramQ :=
  (oldest (qs.filter fun q => s.realTime ch t q)).orElse fun _ => oldest qs
/-- Precharge a bank. -/
def DramRun.closeBank (d : DramRun) (k t : Nat) : DramRun := { d with rows := kdel k d.rows, preAt := kput k t d.preAt }
/-- Bytes moved by a port of a channel enter the bandwidth window of their cycle: the one that runs, up to its closing cycle, or
the one that follows it (R484). -/
def State.bwCount (s : State) (n bytes : Nat) : State :=
  let i : Fin 14 := Fin.ofNat 14 n
  match s.pmon.bwEnd with
  | some e =>
    if s.cyc + usCyc (s.get PMON_BW_CTRL_WIN) < e then s
    else if s.cyc ≤ e then { s with pmon := { s.pmon with bw := s.pmon.bw.set i (s.pmon.bw[i] + bytes) } }
    else { s with pmon := { s.pmon with bw2 := s.pmon.bw2.set i (s.pmon.bw2[i] + bytes) } }
  | none => s
/-- Serve a request: issue its next command. A read or write of a burst moves 64 bytes and leaves the queue; with
IDLE_TMO = 0 it closes its bank (R372). -/
def State.serveReq (s : State) (ch : Chan) (t : Nat) (q : DramQ) (asHit : Bool) : State :=
  let k := bankKey q.rank q.bank
  let d := s.dram[ch]
  match d.rowOf q with
  | none =>
    (s.setDram ch fun d => { d with
      rows := kput k q.row d.rows, actAt := kput k t d.actAt
      acts := d.acts.set (Fin.ofNat 2 q.rank) (((t, q.group) :: d.acts[Fin.ofNat 2 q.rank]).take 4) }).pmonAdd (0x20 + ch.val) 1 0
  | some r =>
    if r ≠ q.row then s.setDram ch fun d => d.closeBank k t
    else
      let s1 := s.setDram ch fun d =>
        let d1 := { d with
          queue := d.queue.erase q, burstAt := some t
          rdAt := if q.write then d.rdAt else kput k t d.rdAt
          wrAt := if q.write then kput k t d.wrAt else d.wrAt
          wrs := if q.write then d.wrs.set (Fin.ofNat 2 q.rank) (((t, q.group) :: d.wrs[Fin.ofNat 2 q.rank]).take 16) else d.wrs }
        if s.get (DRAMC_IDLE_IDLE_TMO ch) = 0 then
          d1.closeBank k (max ((kget k d.actAt).getD 0 + s.get (DRAMC_TIM1_TRAS ch))
            (t + if q.write then s.get (DRAMC_TIM0_CWL ch) + 4 + s.get (DRAMC_TIM2_TWR ch) else s.get (DRAMC_TIM2_TRTP ch)))
        else d1
      let s2 := if asHit then s1.pmonAdd (0x22 + ch.val) 1 0 else s1
      let s3 := s2.bwCount (7 * ch.val + q.port) 64
      let s4 := s3.admitDram ch
      if q.port < 4 then s4.panicNow ch q.port else s4
/-- Open banks of a rank. -/
def DramRun.openOf (d : DramRun) (r : Nat) : List Nat := (d.rows.map (·.1)).filter fun k => k / 16 == r
/-- A step toward a refresh of a rank is possible: its open banks can be closed, or REF can be issued. -/
def State.refStepOk (s : State) (ch : Chan) (r t : Nat) : Bool :=
  let d := s.dram[ch]
  if d.openOf r = [] then s.refDone ch r t && (List.range 16).all fun b => gapMet d.preAt (bankKey r b) (s.get (DRAMC_TIM0_TRP ch)) t
  else (d.openOf r).all fun k => s.preOk ch k t
/-- Close a rank's open banks, or issue its REF. -/
def State.refStep (s : State) (ch : Chan) (r t : Nat) (forced : Bool) : State :=
  if !s.refStepOk ch r t then s
  else if (s.dram[ch]).openOf r = [] then
    let s1 := ((s.set (owedF ch r) (s.get (owedF ch r) - 1)).setDram ch fun d => { d with refAt := d.refAt.set (Fin.ofNat 2 r) (some t) }).pmonAdd (0x24 + ch.val) 1 0
    if forced then s1.inc (DRAMC_REF_FORCED_COUNT ch) else s1
  else s.setDram ch fun d => (d.openOf r).foldl (fun e k => e.closeBank k t) d
/-- The command of a slot (R371). -/
def State.slotCommand (s : State) (ch : Chan) (t : Nat) : State :=
  let d := s.dram[ch]
  let rs := List.range (s.ranks ch)
  let forced := rs.filter fun r => decide (s.allowance ch < s.get (owedF ch r))
  let ready := d.queue.filter fun q => s.readyReq ch t q
  let panic := ready.filter fun q => decide (q.port < 4) && s.on (DRAMC_PANICp_ACTIVE ch q.port)
  let hit := ready.filter fun q => d.hits q
  let calm := rs.find? fun r => s.on (owedF ch r) && !(d.queue.any fun q => q.rank == r)
  match forced with
  | r0 :: _ => s.refStep ch ((forced.find? fun r => s.refStepOk ch r t).getD r0) t true
  | [] =>
    match oldest panic with
    | some q => s.serveReq ch t q false
    | none =>
      match s.pickReq ch t hit with
      | some q => s.serveReq ch t q true
      | none =>
        match calm with
        | some r => s.refStep ch r t false
        | none =>
          match ((List.range 4).map fun i => (d.lastAct + 1 + i) % 4).find? fun g => ready.any fun q => q.group == g with
          | some g =>
            (match s.pickReq ch t (ready.filter fun q => q.group == g) with
             | some q => (s.serveReq ch t q false).setDram ch fun d => { d with lastAct := g }
             | none => s)
          | none => s
/-- DRAM_COMMAND_SLOT (R371): the next slot of nCK that lies in this cycle. -/
def execDramCommandSlot (ch : Chan) (s : State) : Host.Outcome State Fault Refusal :=
  .next (s.onDdr <|
    let t := max (s.dram[ch]).slot (s.nck ch s.cyc)
    if s.dramRuns ch && decide (t < s.nck ch (s.cyc + 1)) then (s.slotCommand ch t).setDram ch fun d => { d with slot := t + 1 } else s)
/-- BANK_IDLE_TIMEOUT (R372): IDLE_TMO nCK have passed without a queued request to an open bank; a request in the slot of the
expiry is in time (R13). -/
def execBankIdleTimeout (ch : Chan) (rank : Fin 2) (bank : Fin 16) (s : State) : Host.Outcome State Fault Refusal :=
  .next (s.onDdr <|
    let k := bankKey rank.val bank.val
    let t := s.nck ch s.cyc
    let n := s.get (DRAMC_IDLE_IDLE_TMO ch)
    let d := s.dram[ch]
    if s.dramRuns ch && (kget k d.rows).isSome && n != 0 && !(d.queue.any fun q => q.rank == rank.val && q.bank == bank.val)
       && gapMet d.rdAt k (n + 1) t && gapMet d.wrAt k (n + 1) t && gapMet d.actAt k (n + 1) t && s.preOk ch k t then s.setDram ch fun d => d.closeBank k t
    else s)

/-! ### Refresh and temperature (R374–R376) -/

/-- A rank's timer expires: owed rises and the timer runs on at the present interval. -/
def State.refExpiry (s : State) (ch : Chan) (r : Fin 2) : State :=
  (s.inc (owedF ch r.val)).setDram ch fun d => { d with timer := d.timer.set r (d.timer[r] + s.refInterval ch) }
/-- REFRESH_TIMER_EXPIRY (R374). -/
def execRefreshTimerExpiry (ch : Chan) (rank : Fin 2) (s : State) : Host.Outcome State Fault Refusal :=
  .next (s.onDdr <| if s.dramRuns ch && decide (rank.val < s.ranks ch) && s.dueCyc (s.dram[ch]).timer[rank] then s.refExpiry ch rank else s)
def hotF (ch : Nat) : Fld := if ch = 0 then DRAMC_STATUS_HOT_DA else DRAMC_STATUS_HOT_DB
def staleF (ch : Nat) : Fld := if ch = 0 then DRAMC_FLAGS_TEMP_STALE_DA else DRAMC_FLAGS_TEMP_STALE_DB
def overF (ch : Nat) : Fld := if ch = 0 then DRAMC_FLAGS_OVERTEMP_DA else DRAMC_FLAGS_OVERTEMP_DB
def trainFailF (ch : Nat) : Fld := if ch = 0 then DRAMC_FLAGS_TRAIN_FAIL_DA else DRAMC_FLAGS_TRAIN_FAIL_DB
def readyF (ch : Nat) : Fld := if ch = 0 then DRAMC_STATUS_READY_DA else DRAMC_STATUS_READY_DB
/-- A crossing (R375, R376): expiries of this cycle count first; then HOT, and every timer restarts at half the interval. -/
def State.crossing (s : State) (ch : Chan) : State :=
  if s.on (DRAMC_CHSTAT_HOT ch) then s
  else
    let s1 := ([0, 1] : List (Fin 2)).foldl (fun t r =>
      if t.dramRuns ch && decide (r.val < t.ranks ch) && t.dueCyc (t.dram[ch]).timer[r] then t.refExpiry ch r else t) s
    let s2 := (s1.set (DRAMC_CHSTAT_HOT ch) 1).set (hotF ch) 1
    s2.setDram ch fun d => { d with timer := .replicate 2 ((s.cyc : Rat) + s2.refInterval ch) }
/-- A reading of the module sensor is registered (R375, R376). -/
def State.dramTemp (s : State) (ch : Chan) (v : Nat) : State :=
  let s1 := (s.set (DRAMC_TEMP_TEMP ch) v).setDram ch fun d => { d with tempAt := s.cyc }
  if v = 0x8000 then (s1.raise (staleF ch) 1).crossing ch
  else
    let t := signedOf 16 v
    let s2 := if 950 ≤ t then s1.raise (overF ch) 1 else s1
    if 800 ≤ t then s2.crossing ch
    else if t ≤ 770 then (s2.set (DRAMC_CHSTAT_HOT ch) 0).set (hotF ch) 0 else s2
/-- DRAMC_TEMP_WRITE (R375). -/
def execDramcTempWrite (ch : Chan) (temp : BitVec 16) (s : State) : Host.Outcome State Fault Refusal :=
  .next (s.onReg 12 (s.dramTemp ch temp.toNat))
/-- TEMP_STALE_TIMEOUT (R376). -/
def execTempStaleTimeout (ch : Chan) (s : State) : Host.Outcome State Fault Refusal :=
  .next (s.onDdr <| if s.past ((s.dram[ch]).tempAt + msCyc 128) then (s.raise (staleF ch) 1).crossing ch else s)
/-- ZQCS_INTERVAL (R382, R385): ZQCS to every rank. -/
def execZqcsInterval (ch : Chan) (s : State) : Host.Outcome State Fault Refusal :=
  .next (s.onDdr <| if s.dramRuns ch && decide ((s.dram[ch]).zqDue ≤ s.cyc) then
    s.setDram ch fun d => { d with zqs := d.zqs + 1, zqDue := s.cyc + msCyc (max 1 (s.get (DRAMC_ZQ_ZQ_INT ch))) } else s)

/-! ### Mode registers, training and bring-up (R382, R383) -/

/-- A write of DRAMC_MRS.GO: the mode register of an installed rank takes the value. -/
def State.mrsGo (s : State) (ch : Chan) : State :=
  let r := s.get (DRAMC_MRS_RANK ch)
  let m := s.get (DRAMC_MRS_MR ch)
  if r < s.ranks ch ∧ m < 7 then s.setDram ch fun d => { d with
    mr := d.mr.set (Fin.ofNat 2 r) ((d.mr[Fin.ofNat 2 r]).set (Fin.ofNat 7 m) (s.get (DRAMC_MRS_VALUE ch))) }
  else s
/-- DRAMC_MRS_GO (R382). -/
def execDramcMrsGo (ch : Chan) (s : State) : Host.Outcome State Fault Refusal := .next (s.onReg 12 (s.mrsGo ch))
/-- A write of DRAMC_TRN_CTRL.START: one pass of the selected mode. -/
def State.trnStart (s : State) (ch : Chan) : State :=
  if s.on (DRAMC_TRN_CTRL_MODE ch) && !(s.dram[ch]).pass then (s.set (DRAMC_TRN_RESULT_DONE ch) 0).setDram ch fun d => { d with pass := true } else s
/-- TRN_START (R382). -/
def execTrnStart (ch : Chan) (s : State) : Host.Outcome State Fault Refusal := .next (s.onReg 12 (s.trnStart ch))
/-- TRAINING_PASS_COMPLETE (R385). -/
def execTrainingPassComplete (ch : Chan) (pass : BitVec 9) (s : State) : Host.Outcome State Fault Refusal :=
  .next (s.onDdr <| if (s.dram[ch]).pass then
    ((s.set (DRAMC_TRN_RESULT_PASS ch) pass.toNat).set (DRAMC_TRN_RESULT_DONE ch) 1).setDram ch fun d => { d with pass := false } else s)

/-- Where an area of the default layout lies: fibre B falls back to DA (R383). -/
def State.areaDefault (s : State) (f off : Nat) : Nat :=
  if f = 0 then 0x8000000000 + off else if s.on (DRAMC_CHSTAT_READY 1) then 0x8400000000 + off else 0x8020000000 + off
/-- Give an area base that is still 0 its default. -/
def State.baseDefault (s : State) (lo hi : Fld) (a : Nat) : State :=
  if s.get lo = 0 ∧ s.get hi = 0 then (s.set lo (a % 2 ^ 32 / 4096)).set hi (a / 2 ^ 32) else s
/-- The default layout (R383). -/
def State.layout (s : State) : State :=
  let fibre := fun (t : State) (f : Nat) =>
    (((t.baseDefault (PFIL_CT_BASE_LO_ADDR f) (PFIL_CT_BASE_HI_ADDR f) (t.areaDefault f 0)).baseDefault
      (PFIL_ST_BASE_LO_ADDR f) (PFIL_ST_BASE_HI_ADDR f) (t.areaDefault f 0x4000000)).baseDefault
      (BRIL_ACC_BASE_LO_ADDR f) (BRIL_ACC_BASE_HI_ADDR f) (t.areaDefault f 0x8000000)).baseDefault
      (BRIL_RES_BASE_LO_ADDR f) (BRIL_RES_BASE_HI_ADDR f) (t.areaDefault f 0x10000000)
  let s1 := fibre (fibre s 0) 1
  let hold := if s.on (DRAMC_CHSTAT_READY 0) then some 0x8010100000 else if s.on (DRAMC_CHSTAT_READY 1) then some 0x8410100000 else none
  match hold with
  | some a => if s1.holdBase = 0 then s1.setHoldBase (lo32 a) (hi32 a) else s1
  | none => s1
/-- The channel serves from now on: nothing is owed and the timers run (R368, R377, R382). -/
def State.channelUp (s : State) (ch : Chan) : State :=
  let s1 := ((((s.set (DRAMC_CHSTAT_READY ch) 1).set (readyF ch) 1).set (DRAMC_CONFIG_CAP_GIB ch) (s.capGib ch)).set (owedF ch 0) 0).set (owedF ch 1) 0
  s1.setDram ch fun d => { d with
    rows := [], actAt := [], preAt := [], rdAt := [], wrAt := [], acts := .replicate 2 [], wrs := .replicate 2 [], burstAt := none
    refAt := .replicate 2 none, queue := [], waiting := [], slot := s.nck ch (s.cyc + 1)
    timer := .replicate 2 ((s.cyc : Rat) + s1.refInterval ch), zqDue := s.cyc + msCyc (max 1 (s.get (DRAMC_ZQ_ZQ_INT ch))) }
/-- Write the delays of every byte lane and Vref. -/
def State.putDelays (s : State) (ch : Chan) (b : BringIn) : State :=
  ((List.finRange 9).foldl (fun t i =>
    let d := b.delays[i]
    (((t.set (DRAMC_DLYb_W_WR_DQS ch i) d.1.toNat).set (DRAMC_DLYb_W_WR_DQ ch i) d.2.1.toNat).set
      (DRAMC_DLYb_R_RD_GATE ch i) d.2.2.1.toNat).set (DRAMC_DLYb_R_RD_DQS ch i) d.2.2.2.toNat) s).set (DRAMC_VREF_VREF ch) b.vref.toNat
/-- Restore delays, Vref and mode registers of a channel (R470). -/
def State.restoreDelays (s : State) (ch : Chan) (r : List Nat) : State :=
  let g := fun i => r.getD i 0
  let s1 := (List.range 9).foldl (fun (t : State) b =>
    (((t.set (DRAMC_DLYb_W_WR_DQS ch b) (fld (g (8 + 2 * b)) 0 10)).set (DRAMC_DLYb_W_WR_DQ ch b) (fld (g (8 + 2 * b)) 16 7)).set
      (DRAMC_DLYb_R_RD_GATE ch b) (fld (g (9 + 2 * b)) 0 10)).set (DRAMC_DLYb_R_RD_DQS ch b) (fld (g (9 + 2 * b)) 16 7)) s
  (s1.set (DRAMC_VREF_VREF ch) (g 26)).setDram ch fun d => { d with mr := .replicate 2 (Vector.ofFn fun i => g (1 + i.val)) }
/-- Both channels have ended bring-up: step 5 writes the area bases. -/
def State.bringEnd (s : State) : State :=
  if s.on (DRAMC_CHSTAT_TRAINING 0) || s.on (DRAMC_CHSTAT_TRAINING 1) then s else s.layout
/-- DRAM_BRINGUP (R382, R383, R470): the channel that firmware brings up in INIT ends its steps. After a wake from SLEEP a
channel kept in self-refresh takes its delays and modes from the retention store, without training. -/
def execDramBringup (ch : Chan) (b : BringIn) (s : State) : Host.Outcome State Fault Refusal :=
  .next (s.onDdr <| if s.on (DRAMC_CHSTAT_TRAINING ch) && s.on (DRAMC_CONFIG_EN ch) && !s.on (DRAMC_CHSTAT_READY ch) then
    let kept := s.pwr.retained.getD ch.val []
    let s0 := s.set (DRAMC_CHSTAT_TRAINING ch) 0
    let s1 := s0.setDram ch fun d => { d with
      mr := .replicate 2 (b.modes.map (·.toNat)), pass := false }
    let s2 := if s.on (DRAMC_CONFIG_SKIP_TRAIN ch) then s1 else s1.putDelays ch b
    let s3 := if b.trained ∧ s.capGib ch ≤ 16 then s2.channelUp ch else s2.raise (trainFailF ch) 1
    (if s.get SYS_RST_CAUSE_CAUSE = 5 ∧ !kept.isEmpty then ((s0.restoreDelays ch kept).channelUp ch) else s3).bringEnd
  else s)

/-! ### The fill engine (R381) -/

def State.fillAddr (s : State) (ch : Nat) : Nat := s.get (DRAMC_FILL_ADDR_LO_ADDR ch) * 64 + s.get (DRAMC_FILL_ADDR_HI_ADDR ch) * 2 ^ 32
/-- The first address of a range that lies outside a channel's installed memory. -/
def State.fillBad (s : State) (ch : Chan) (a n : Nat) : Option Nat :=
  let lo := 0x8000000000 + ch.val * 0x400000000
  let hi := lo + s.installed ch
  if a < lo ∨ hi ≤ a then some a else if hi < a + 64 * n then some hi else none
/-- A write of DRAMC_FILL_CTRL.GO. -/
def State.fillGo (s : State) (ch : Chan) : State :=
  let a := s.fillAddr ch
  let n := s.get (DRAMC_FILL_LEN_BURSTS ch)
  if s.on (DRAMC_FILL_CTRL_BUSY ch) || n == 0 then s
  else match s.fillBad ch a n with
    | some x => s.addrErr .fill x
    | none => (s.set (DRAMC_FILL_CTRL_BUSY ch) 1).setDram ch fun d => { d with fill := some (a, n) }
/-- FILL_GO (R381). -/
def execFillGo (ch : Chan) (s : State) : Host.Outcome State Fault Refusal := .next (s.onReg 12 (s.fillGo ch))
/-- FILL_COMPLETE (R381): every burst is written with zeros and valid check bits. -/
def execFillComplete (ch : Chan) (s : State) : Host.Outcome State Fault Refusal :=
  .next (s.onDdr <| match (s.dram[ch]).fill with
    | some (a, n) =>
      ((s.writeDram .fill a (List.replicate (64 * n) 0)).set (DRAMC_FILL_CTRL_BUSY ch) 0).setDram ch fun d => { d with fill := none }
    | none => s)

end Sys2Proof.Machine
end

