-- ==== Sys2Proof/Machine/Scrub.lean ====
section
/-! DEFINITION. The scrubber, the time-out of combined writes, and error injection (R390, R392–R395). -/

namespace Sys2Proof.Machine
open Reg

def State.setScrub (s : State) (g : ScrubRun → ScrubRun) : State := { s with scrub := g s.scrub }
/-- A step of a block of PD_CORE that needs clk_fab (R457). -/
def State.onCore (s t : State) : State := s.onDom 2 (s.onFab t)

/-- COMBINING_TIMEOUT (R390): 16 cycles after the hold, the held half is written alone. -/
def execCombiningTimeout (m : Master) (s : State) : Host.Outcome State Fault Refusal :=
  .next (match s.comb m with | some h => if s.past h.due then s.onFab (s.release m) else s | none => s)

def State.scrubStart (s : State) : Nat := s.get SCRUB_START_LO_ADDR * 8 + s.get SCRUB_START_HI_ADDR * 2 ^ 32
/-- Every word of a range lies in a region the scrubber may read (R25, R392). -/
def State.scrubOk (s : State) (a n : Nat) : Bool := (List.range n).all fun i => s.mayAccess .scrub false (a + 8 * i)
/-- A write of SCRUB_CTRL.GO (R392). -/
def State.scrubGo (s : State) : State :=
  let a := s.scrubStart
  let n := s.get SCRUB_WORDS_WORDS
  if s.on SCRUB_STATUS_BUSY then s
  else if !s.scrubOk a n then s.raise SCRUB_STATUS_RANGE_ERR 1
  else ((s.set SCRUB_STATUS_BUSY 1).inc SCRUB_PASS_COUNT).setScrub fun r => { r with pass := some ⟨a, n, 0, 0, 0, none, none⟩ }
/-- SCRUB_GO (R392). -/
def execScrubGo (s : State) : Host.Outcome State Fault Refusal := .next (s.onReg 13 s.scrubGo)
/-- The scrubber reads its next word as master 0x12 (R392, R393). -/
def State.scrubRead (s : State) : State :=
  match s.scrub.pass with
  | some p =>
    if p.left = 0 then s
    else
      let r := ((s.pmonIo .scrub false 8).releaseFor p.next).peekWord p.next
      let s1 := match r.1.2 with | .ok => r.2 | .ce => r.2.correction .scrub p.next true | .ue => r.2.uncorrectable .scrub p.next
      let ce := r.1.2 == .ce
      let ue := r.1.2 == .ue
      s1.setScrub fun x => { x with pass := some { p with
        next := p.next + 8, left := p.left - 1, read := p.read + 1, ce := p.ce + ce.toNat, ue := p.ue + ue.toNat
        firstCe := if ce then p.firstCe.orElse fun _ => some p.next else p.firstCe
        firstUe := if ue then p.firstUe.orElse fun _ => some p.next else p.firstUe } }
  | none => s
/-- The summary report (R394). -/
def State.scrubReport (s : State) (p : Pass) (aborted : Bool) : State :=
  if s.on OUT_STATUS_HOST_ACTIVE then
    s.postBulk ⟨6, s.get SCRUB_PASS_COUNT % 2 ^ 16, wordsLE [1 + Master.scrub.id * 2 ^ 8 + aborted.toNat * 2 ^ 16, lo32 s.scrubStart, hi32 s.scrubStart,
      p.read, p.ce, p.ue, lo32 (p.firstCe.getD 0), hi32 (p.firstCe.getD 0), lo32 (p.firstUe.getD 0), hi32 (p.firstUe.getD 0)], 0, none, none⟩
  else s
/-- The pass ends: the summary registers, DONE and the report (R393). -/
def State.scrubEnd (s : State) (p : Pass) (aborted : Bool) : State :=
  let s1 := ((s.set SCRUB_SUM_READ_COUNT p.read).set SCRUB_SUM_CE_COUNT p.ce).set SCRUB_SUM_UE_COUNT p.ue
  let s2 := (s1.set SCRUB_SUM_CE_LO_ADDR (lo32 (p.firstCe.getD 0) / 8)).set SCRUB_SUM_CE_HI_ADDR (hi32 (p.firstCe.getD 0))
  let s3 := (s2.set SCRUB_SUM_UE_LO_ADDR (lo32 (p.firstUe.getD 0) / 8)).set SCRUB_SUM_UE_HI_ADDR (hi32 (p.firstUe.getD 0))
  ((((s3.set SCRUB_STATUS_BUSY 0).raise SCRUB_STATUS_DONE 1).setB SCRUB_STATUS_ABORTED aborted).setScrub fun r => { r with pass := none }).scrubReport p aborted
/-- A write of SCRUB_CTRL.ABORT (R392). -/
def State.scrubAbort (s : State) : State :=
  match s.scrub.pass with | some p => if p.left = 0 then s else s.scrubEnd p true | none => s
/-- SCRUB_ABORT (R392, R393). -/
def execScrubAbort (s : State) : Host.Outcome State Fault Refusal := .next (s.onReg 13 s.scrubAbort)
/-- SCRUB_PASS_COMPLETE (R393): every word has been read. -/
def execScrubPassComplete (s : State) : Host.Outcome State Fault Refusal :=
  .next (s.onCore <| match s.scrub.pass with | some p => if p.left = 0 then s.scrubEnd p false else s | none => s)
/-- The scrubber's clk_fab cycle (R392): it reads its next word unless another master has used the memory in the cycle, and
then waits. -/
def State.tickScrub (s : State) : State :=
  match s.scrub.pass with
  | some p =>
    if p.left = 0 then s
    else if (kget (memoryOf p.next) s.scrub.uses).any fun c => c + 1 == s.cyc then s.setScrub fun x => { x with wait := x.wait + 1 }
    else s.scrubRead.setScrub fun x => { x with wait := 0 }
  | none => s
/-- SCRUB_WAIT_EXPIRY (R392): after 16 cycles of waiting the scrubber takes the next cycle of the memory; an engine whose
memory it is waits that cycle. -/
def execScrubWaitExpiry (s : State) : Host.Outcome State Fault Refusal :=
  .next (s.onCore <| match s.scrub.pass with
    | some p =>
      if p.left = 0 ∨ s.scrub.wait < 16 then s
      else
        let s1 := s.scrubRead.setScrub fun x => { x with wait := 0 }
        match regionOf p.next with
        | .engine k _ => if s1.engState k = engRunning then s1.setEng (Fin.ofNat 16 k) fun e => { e with skip := true } else s1
        | _ => s1
    | none => s)
/-- SCRUB_INJ (R395); MODE 3 is reserved. -/
def execScrubInj (mode : BitVec 2) (s : State) : Host.Outcome State Fault Refusal :=
  .next (s.onReg 13 (if mode.toNat = 3 then s else s.set SCRUB_INJ_MODE mode.toNat))

end Sys2Proof.Machine
end

