-- ==== Sys2Proof/Machine/Tdc.lean ====
section
/-! DEFINITION. Time-interval and frequency measurement (R397–R413). What another block does with a stamp delivered to it is
that block's own command. -/

namespace Sys2Proof.Machine
open Reg

def State.setTdc (s : State) (n : Fin 8) (g : TdcChan → TdcChan) : State :=
  { s with tdc := { s.tdc with ch := s.tdc.ch.set n (g (s.tdc.ch[n])) } }
/-- The channel of an interpolator: 7 and 8 belong to channel 7 (R397). -/
def ipChan (ip : Fin 9) : Fin 8 := Fin.ofNat 8 (min ip.val 7)
def State.tdcMode (s : State) (n : Nat) : Nat := s.get (TDC_CHn_CTRL_MODE n)
/-- The coarse count now (R399). -/
def State.coarseNow (s : State) : Nat := (s.cyc - s.pwr.fabAt) * 2

/-! ### Stamps (R400, R405, R406, R412) -/

/-- Bin width `k` of an interpolator: 64 without a calibration. -/
def State.binWidth (s : State) (ip k : Nat) : Nat :=
  if (s.get TDC_STATUS_CAL_VALID).testBit ip then fld (s.get (TDC_TABLE ip (k / 2))) (16 * (k % 2)) 16 else 64
/-- φ(k) of R400. -/
def State.phiOf (s : State) (ip k : Nat) : Nat := ((List.range k).map (s.binWidth ip)).sum + s.binWidth ip k / 2
/-- The stamp of an edge whose charge ends at coarse boundary B with code k (R400). -/
def State.stampFor (s : State) (ip b k : Nat) : Nat := (((b : Int) * 65536 - s.phiOf ip k) % (2 ^ 64 : Int)).toNat

/-! ### Edges (R397, R401–R403, R408) -/

/-- Polarity and prescaler of a channel's input (R397): 0 rising, 1 falling, 2 both. -/
def State.edgeSel (s : State) (n : Nat) : Nat × Nat :=
  if n = 3 ∧ s.tdcOwner 3 = ownerOf 9 3 then (s.get SEQ_REF_CTRL_MARK_POL, 1)
  else if n < 4 then (s.get (TDC_CHn_CTRL_POL n), s.get (TDC_CHn_CTRL_PRESC n) + 1)
  else if n = 4 then (0, s.get SEQ_REF_CTRL_PRESC + 1)
  else if n < 7 then (s.get (RXF_CTRL_LMON_POL (n - 5)), 1) else (2, 1)
/-- A channel has a user (R397). -/
def State.tdcUsed (s : State) (n : Nat) : Bool := decide (4 ≤ n) || s.tdcOwner n != 0
/-- Edges closer than 3 ns follow each other within the dead time (R401). -/
def deadUnits : Nat := 157287
/-- The latest of some stamps at or before a stamp (R402). -/
def latestAt (s : Nat) (rs : List Nat) : Option Nat :=
  (rs.filter fun r => decide (0 ≤ phaseDiff s r)).foldl (fun best r =>
    match best with | some b => if phaseDiff s r < phaseDiff s b then some r else best | none => some r) none
/-- Keep a stamp as accepted. -/
def State.keepStamp (s : State) (n : Fin 8) (st : Nat) : State := s.setTdc n fun c => { c with accepted := (st :: c.accepted).take 16 }
/-- The record of an accepted stamp (R403). -/
def State.stampRecord (s : State) (st dt : Nat) (fall : Bool) : List Nat :=
  let ev := s.on SEQ_REF_STATUS_EPOCH_VALID
  let p := s.phaseOfNs (s.instOf st)
  [lo32 st, hi32 st, lo32 dt, fld dt 32 16 + (!ev).toNat * 2 ^ 16 + (s.on SEQ_REF_STATUS_HOLDOVER).toNat * 2 ^ 17 + fall.toNat * 2 ^ 18,
   if ev then lo32 p else 0, if ev then hi32 p else 0]
/-- A record enters the FIFO of 64, or is lost (R403). -/
def State.pushRecord (s : State) (n : Fin 8) (r : List Nat) : State :=
  if 64 ≤ (s.tdc.ch[n]).fifo.length then (s.inc (TDC_CHn_LOST_COUNT n)).raise TDC_FLAGS_LOST (2 ^ n.val)
  else (s.setTdc n fun c => { c with fifo := c.fifo ++ [r] }).set (TDC_CHn_STAT_LEVEL n) ((s.tdc.ch[n]).fifo.length + 1)
/-- A channel's window holds an interval, bounds included (R402, R13). -/
def State.inWindow (s : State) (n dt : Nat) : Bool :=
  decide (s.get (TDC_CHn_WIN_OPEN_OPEN n) * 65536 ≤ dt) && decide (dt ≤ s.get (TDC_CHn_WIN_CLOSE_CLOSE n) * 65536)
/-- The reference of a stamp of a channel (R402): the stamp itself, the latest launch, or the latest accepted stamp of a
channel at or before it, also of those still to be decided. A channel that names itself measures from its preceding stamp
(log entry 65). `fuel` bounds the channels that wait for one another. -/
def State.tdcRef (s : State) : Nat → Fin 8 → Nat → Option Nat
  | 0, _, _ => none
  | fuel + 1, n, st =>
    let ref := s.get (TDC_CHn_CTRL_REF n)
    if ref = 15 then some st
    else if ref = n.val then latestAt st (s.tdc.ch[n]).accepted
    else if ref < 8 then
      let m : Fin 8 := Fin.ofNat 8 ref
      let c := s.tdc.ch[m]
      latestAt st (c.accepted ++ (c.wait.map (·.1)).filter fun x => match s.tdcRef fuel m x with
        | some r => s.get (TDC_CHn_CTRL_REF m) == 15 || s.inWindow m (phaseDiff x r).toNat
        | none => false)
    else if ref < 10 then latestAt st ((s.sq (Fin.ofNat 2 (ref - 8))).launches.map stampOf) else none
/-- A stamp of a channel in STAMP mode is accepted with a record, or rejected (R402, R403). -/
def State.stampMode (s : State) (n : Fin 8) (st : Nat) (fall : Bool) : State :=
  let ref := s.get (TDC_CHn_CTRL_REF n)
  match s.tdcRef 5 n st with
  | some r =>
    let dt := (phaseDiff st r).toNat
    if ref = 15 ∨ s.inWindow n dt then (s.keepStamp n st).pushRecord n (s.stampRecord st dt fall)
    else (if ref = n.val then s.keepStamp n st else s).inc (TDC_CHn_REJ_COUNT n)
  | none => (if ref = n.val then s.keepStamp n st else s).inc (TDC_CHn_REJ_COUNT n)
/-- The stamps of a channel in STAMP mode whose references have all been formed are decided: those formed 8 clk_fab cycles
before a cycle that is over (R402). -/
def State.tickStamps (s : State) (n : Fin 8) : State :=
  let w := (s.tdc.ch[n]).wait
  let ripe := w.filter fun e => decide (e.2.2 + 8 < s.cyc)
  if ripe.isEmpty then s
  else (ripe.foldl (fun (t : State) (e : Nat × Bool × Nat) => t.stampMode n e.1 e.2.1) s).setTdc n fun c => { c with wait := w.filter fun e => !decide (e.2.2 + 8 < s.cyc) }
/-- A stamp of a channel in FREQ mode belongs to its gate, or to one that follows at once, if it does not lie before it (R408). -/
def State.freqMode (s : State) (n : Fin 8) (st : Nat) : State :=
  match (s.tdc.ch[n]).gate with
  | some (a, _) => if 0 ≤ phaseDiff st (a % 2 ^ 64) then s.setTdc n fun c => { c with stamps := st :: c.stamps } else s
  | none => s
/-- What a channel does with a stamp. -/
def State.takeEdge (s : State) (n : Fin 8) (st : Nat) (fall : Bool) : State :=
  if n.val < 4 ∧ s.tdcMode n = 1 then s.setTdc n fun c => { c with wait := c.wait ++ [(st, fall, s.cyc)] }
  else if n.val < 4 ∧ s.tdcMode n = 2 then s.freqMode n st
  else s.keepStamp n st
/-- An edge within the dead time of the last stamped one of its interpolator is not stamped (R400). -/
def State.tooSoon (s : State) (ip : Fin 9) (st : Nat) : Bool :=
  match s.tdc.last[ip] with | some l => decide (phaseDiff st l < (deadUnits : Int)) | none => false
/-- EDGE_STAMP (R397, R400–R403): an edge at an interpolator passes its prescaler and, outside the dead time, is stamped. -/
def execEdgeStamp (ip : Fin 9) (e : EdgeIn) (s : State) : Host.Outcome State Fault Refusal :=
  .next (s.onCore <|
    let n := ipChan ip
    let sel := s.edgeSel n
    if (s.get TDC_STATUS_CAL_BUSY).testBit ip.val || !s.tdcUsed n || !(sel.1 == 2 || sel.1 == e.falling.toNat) then s
    else
      let k := (s.tdc.ch[n]).edges + 1
      let s1 := s.setTdc n fun c => { c with edges := k % sel.2 }
      if k % sel.2 ≠ 0 then s1
      else
        let st := s.stampFor ip.val e.coarse.toNat e.code.toNat
        if s.tooSoon ip st then s1.inc (TDC_CHn_DEAD_COUNT n)
        else
          let s2 := ({ s1 with tdc := { s1.tdc with last := s1.tdc.last.set ip (some st) } }).inc (TDC_CHn_STAMPS_COUNT n)
          s2.takeEdge n st e.falling)

/-! ### Gates (R408, R409) -/

/-- Open a gate at a stamp (in u, unwrapped); `after` leaves out an edge exactly there, which belongs to the gate before,
and `held` are stamps already taken that lie in it. -/
def State.openGate (s : State) (n : Fin 8) (t : Nat) (after : Bool) (held : List Nat) : State :=
  (s.set (TDC_CHn_STAT_GATE_BUSY n) 1).setTdc n fun c => { c with
    gate := some (t + after.toNat, t + s.get (TDC_CHn_GATE_US n) * 800 * 65536), stamps := held }
/-- A gate opens at the first coarse boundary after now. -/
def State.startGate (s : State) (n : Fin 8) : State := s.openGate n ((s.coarseNow + 1) * 65536) false []
/-- Stamps of a gate, oldest first, as points of the fit (R408). -/
def gatePts (st : List Nat) : List (Rat × Rat) :=
  let o := st.reverse
  (List.range o.length).map fun (j : Nat) => ((j : Rat), stampNs (phaseDiff (o.getD j 0) (o.getD 0 0)))
/-- The stamps of a gate that closes at `b`, and those after it. -/
def gateStamps (b : Nat) (st : List Nat) : List Nat × List Nat := st.partition fun x => decide (0 ≤ phaseDiff (b % 2 ^ 64) x)
/-- The result of a gate with its stamps (R408): below 2 stamps the residual is free (log entry 2). -/
def State.gateResult (s : State) (n : Fin 8) (st : List Nat) : State :=
  let ps := gatePts st
  let per := if st.length < 3 then 0 else match lineFit ps with | some l => (roundHalfUp (l.2 * 2 ^ 24)).toNat % 2 ^ 56 | none => 0
  let r := if st.length < 2 then s.pick 0 (2 ^ 32 - 1) else (residPs ps, s)
  ((((((r.2.set (TDC_CHn_RESID_PS n) r.1).set (TDC_CHn_NEDGE_COUNT n) st.length).setB (TDC_CHn_STAT_NO_EDGES n) (st.length < 3)).set
    (TDC_CHn_STAT_RESULT_VALID n) 1).raise TDC_FLAGS_RESULT (2 ^ n.val)).set (TDC_CHn_STAT_GATE_BUSY n) 0).setTdc n fun c => { c with
      per := per, gate := none, stamps := [] }
/-- GATE_CLOSE (R408, R409). -/
def execGateClose (n : Fin 4) (s : State) : Host.Outcome State Fault Refusal :=
  let c : Fin 8 := Fin.ofNat 8 n.val
  .next (s.onCore <| match (s.tdc.ch[c]).gate with
    | some (_, b) =>
      if b < (s.coarseNow + 2) * 65536 then
        let st := gateStamps b (s.tdc.ch[c]).stamps
        let s1 := s.gateResult c st.1
        if s.on (TDC_CHn_CTRL_CONT c) then s1.openGate c b true st.2
        else if s.on (TDC_CHn_STAT_GATE_HELD c) then (s1.set (TDC_CHn_STAT_GATE_HELD c) 0).openGate c b true st.2
        else s1
      else s
    | none => s)

/-! ### Modes and ownership (R398, R403, R409) -/

/-- The TSTOP pin of a channel is owned by the drive chain (R398, R450). -/
def State.pinOwned (s : State) (n : Nat) : Bool := (n == 2 || n == 3) && s.on DCH_CTRL_EN
/-- Who else owns a user channel or its pin, 0 if nobody (R398). -/
def State.tdcTaken (s : State) (n : Nat) : Nat :=
  if s.tdcOwner n != 0 && s.tdcOwner n != ownerOf 0x0A n then s.tdcOwner n
  else if s.pinOwned n then ownerOf 0x0B 0 else 0
/-- Give a user channel a MODE: enabling acquires it and empties its FIFO, 0 releases it, and leaving FREQ abandons the
gate (R398, R401, R403, R409). -/
def State.setTdcMode (s : State) (n : Fin 8) (mode : Nat) : State :=
  let old := s.tdcMode n
  if old = mode then s
  else
    let s1 := s.set (TDC_CHn_CTRL_MODE n) mode
    let s2 := if old = 2 then
        ((s1.set (TDC_CHn_STAT_GATE_BUSY n) 0).set (TDC_CHn_STAT_GATE_HELD n) 0).setTdc n fun c => { c with gate := none, stamps := [] }
      else s1.setTdc n fun c => { c with wait := [] }
    let s3 := if mode = 0 then s2.tdcRelease n (ownerOf 0x0A n)
      else if old = 0 then
        ((s2.tdcAcquire n (ownerOf 0x0A n)).setTdc n fun c => { c with edges := 0, fifo := [], accepted := [], wait := [] }).set (TDC_CHn_STAT_LEVEL n) 0
      else s2
    if mode = 2 ∧ s3.on (TDC_CHn_CTRL_CONT n) then s3.startGate n else s3

/-! ### Calibration (R405, R406) -/

/-- An interpolator is in use, so that it cannot be calibrated (R406). -/
def State.ipInUse (s : State) (ip : Nat) : Bool :=
  if ip < 4 then s.tdcMode ip != 0 || s.tdcOwner ip != 0
  else if ip = 4 then s.on SEQ_REF_CTRL_SRC && !s.allIdle
  else if ip < 7 then s.on (SEQ_CTRL_LMON_EN (ip - 5)) && s.seqState (ip - 5) != 0
  else !s.groupsOff
/-- Bin widths from a histogram of 2^20 codes (R405). -/
def widthsOf : Nat → List Nat → List Nat
  | _, [] => []
  | acc, h :: t => (65536 * (acc + h) / 2 ^ 20 - 65536 * acc / 2 ^ 20) :: widthsOf (acc + h) t
/-- A calibration fails (R406). -/
def calFails (w : List Nat) : Bool := decide ((w.filter (· != 0)).length < 900) || w.any fun x => decide (512 < x)
/-- TDC_CALIBRATION_COMPLETE (R405, R406). -/
def execTdcCalibrationComplete (ip : Fin 9) (hist : List Nat) (s : State) : Host.Outcome State Fault Refusal :=
  .next (s.onCore <| if (s.get TDC_STATUS_CAL_BUSY).testBit ip.val && hist.length == 1024 && hist.sum == 2 ^ 20 then
    let w := widthsOf 0 hist
    let s1 := (s.set TDC_STATUS_CAL_BUSY (s.get TDC_STATUS_CAL_BUSY - 2 ^ ip.val)).set (TDC_CALTEMPi_TEMP ip) (s.get (MGMT_TEMPi_TEMP 5))
    if calFails w then s1.raise TDC_FLAGS_CAL_FAIL (2 ^ ip.val)
    else
      ((List.range 512).foldl (fun t j => t.set (TDC_TABLE ip j) (w.getD (2 * j) 0 + w.getD (2 * j + 1) 0 * 2 ^ 16)) s1).orBits TDC_STATUS_CAL_VALID (2 ^ ip.val)
  else s)
/-- FIFO0_READ (R411): the oldest record leaves the FIFO, and its words are latched. -/
def State.fifoRead (s : State) (n : Fin 8) : State :=
  let c := s.tdc.ch[n]
  let ws := c.fifo.headD []
  (((List.range 6).foldl (fun t w => t.set (TDC_CHn_FIFOw_WORD n w) (ws.getD w 0)) s).setTdc n fun c => { c with fifo := c.fifo.drop 1 }).set
    (TDC_CHn_STAT_LEVEL n) (c.fifo.length - 1)
def execFifo0Read (n : Fin 4) (s : State) : Host.Outcome State Fault Refusal := .next (s.onReg 14 (s.fifoRead (Fin.ofNat 8 n.val)))

/-! ### Opcodes (R413) -/

/-- CTRL bits [19:0], window and gate within what the registers accept (R411, R413). -/
def tdcCfgOk (ctrl o c g : Nat) : Bool :=
  fld ctrl 0 2 != 3 && fld ctrl 2 2 != 3 && (decide (fld ctrl 16 4 < 10) || fld ctrl 16 4 == 15) && decide (o ≤ c) && decide (10 ≤ g) && decide (g ≤ 10000000)
def tdcConfig (s : State) (ps : List Nat) : CmdRes :=
  let v := par ps 2
  if 3 < par ps 1 then .bad
  else
    let n : Fin 8 := Fin.ofNat 8 (par ps 1)
    let mode := fld v 0 2
    if mode ≠ 0 ∧ s.tdcTaken n ≠ 0 then .busyWith (s.tdcTaken n)
    else if mode ≠ 0 ∧ s.tdcMode n ≠ 0 then .denied
    else if !tdcCfgOk v (par ps 3) (par ps 4) (par ps 5) then .bad
    else
      let s1 := (((s.set (TDC_CHn_CTRL_POL n) (fld v 2 2)).set (TDC_CHn_CTRL_CONT n) (fld v 4 1)).set (TDC_CHn_CTRL_PRESC n) (fld v 8 8)).set (TDC_CHn_CTRL_REF n) (fld v 16 4)
      .ok ((((s1.set (TDC_CHn_WIN_OPEN_OPEN n) (par ps 3)).set (TDC_CHn_WIN_CLOSE_CLOSE n) (par ps 4)).set (TDC_CHn_GATE_US n) (par ps 5)).setTdcMode n mode)
/-- TDC_CONFIG (R398, R413). -/
def execTdcConfig (c : CmdIn) (s : State) : Host.Outcome State Fault Refusal :=
  .next (runCmd 0xC6 14 (fun _ => [0, full, 0xFFF1F, 0xFFFFFF, 0xFFFFFF, 0xFFFFFF]) tdcConfig c s)
/-- Start the calibration of interpolators (R405). -/
def State.tdcCalibrate (s : State) (mask : Nat) : State := s.orBits TDC_STATUS_CAL_BUSY mask
def tdcCalibrateBody (s : State) (ps : List Nat) : CmdRes :=
  let m := par ps 1
  if (List.range 9).any fun i => m.testBit i && s.ipInUse i then .denied
  else if m = 0 ∨ 512 ≤ m then .bad
  else .ok (s.tdcCalibrate m)
/-- TDC_CALIBRATE (R406, R413). -/
def execTdcCalibrate (c : CmdIn) (s : State) : Host.Outcome State Fault Refusal :=
  .next (runCmd 0xC7 14 (fun _ => [0, full]) tdcCalibrateBody c s)
def tdcRead (s : State) (ps : List Nat) : CmdRes :=
  let k := par ps 2
  if 3 < par ps 1 then .bad
  else
    let n : Fin 8 := Fin.ofNat 8 (par ps 1)
    if s.tdcMode n ≠ 1 then .denied
    else if k = 0 ∨ 170 < k then .bad
    else
      let rs := (s.tdc.ch[n]).fifo.take k
      .done stOk (rs.length :: rs.flatten)
        ((s.setTdc n fun c => { c with fifo := c.fifo.drop k }).set (TDC_CHn_STAT_LEVEL n) ((s.tdc.ch[n]).fifo.length - rs.length))
/-- TDC_READ (R403, R413). -/
def execTdcRead (c : CmdIn) (s : State) : Host.Outcome State Fault Refusal := .next (runCmd 0xC8 14 (fun _ => [0, full, full]) tdcRead c s)
/-- PER, RESID, NEDGE and the input frequency (PRESC + 1) / T in µHz, to the nearest; with PER = 0 the frequency is free. -/
def State.freqData (s : State) (n : Fin 8) : List Nat × State :=
  let per := (s.tdc.ch[n]).per
  let r := if per = 0 then s.pick 0 (2 ^ 64 - 1)
    else ((roundHalfUp (((s.get (TDC_CHn_CTRL_PRESC n) + 1) * 2 ^ 24 * 10 ^ 15 : Nat) / (per : Rat))).toNat, s)
  ([lo32 per, hi32 per, s.get (TDC_CHn_RESID_PS n), s.get (TDC_CHn_NEDGE_COUNT n), lo32 r.1, hi32 r.1], r.2)
def tdcFreq (s : State) (ps : List Nat) : CmdRes :=
  if 3 < par ps 1 then .bad
  else
    let n : Fin 8 := Fin.ofNat 8 (par ps 1)
    let d := s.freqData n
    if s.tdcMode n ≠ 2 then .denied
    else if bit (par ps 2) 0 then
      if s.on (TDC_CHn_CTRL_CONT n) then .done stAlready d.1 d.2
      else if !s.on (TDC_CHn_STAT_GATE_BUSY n) then .done stOk d.1 (d.2.startGate n)
      else if s.on (TDC_CHn_STAT_GATE_HELD n) then .done stAlready d.1 d.2
      else .done stPending d.1 (d.2.set (TDC_CHn_STAT_GATE_HELD n) 1)
    else if !s.on (TDC_CHn_STAT_RESULT_VALID n) then .notReady
    else .done stOk d.1 d.2
/-- TDC_FREQ (R408, R409, R413). -/
def execTdcFreq (c : CmdIn) (s : State) : Host.Outcome State Fault Refusal := .next (runCmd 0xC9 14 (fun _ => [0, full, 1]) tdcFreq c s)
def tdcGetStatus (s : State) (_ : List Nat) : CmdRes :=
  .data s ([s.rawReg 14 0, s.rawReg 14 4] ++ (List.range 8).flatMap fun n =>
    [s.rawReg 14 (0x1010 + 0x100 * n), s.get (TDC_CHn_STAMPS_COUNT n), s.get (TDC_CHn_REJ_COUNT n), s.get (TDC_CHn_DEAD_COUNT n), s.get (TDC_CHn_LOST_COUNT n)])
/-- TDC_GET_STATUS (R413). -/
def execTdcGetStatus (c : CmdIn) (s : State) : Host.Outcome State Fault Refusal := .next (runCmd 0xCA 14 (fun _ => []) tdcGetStatus c s)

end Sys2Proof.Machine
end

