-- ==== Sys2Proof/Machine/Cal.lean ====
section
/-! DEFINITION. Self-calibration: requests, accumulations, estimates and the change of the set in force (R433–R444). The
registers hold the set in force. -/

namespace Sys2Proof.Machine
open Reg

/-- A step of a block of PD_RX that needs clk_fab (R457). -/
def State.onRx (s t : State) : State := s.onDom 3 (s.onFab t)
def wpendF (f : Nat) : Fld := if f = 0 then CAL_STATUS_WPEND_A else CAL_STATUS_WPEND_B

/-! ### Estimates (R436) -/

/-- Round half away from zero. -/
def roundAway (q : Rat) : Int := if 0 ≤ q then roundHalfUp q else -roundHalfUp (-q)
/-- N / √D to the nearest, halves up. -/
def overRoot (n d : Nat) : Nat := (isqrt (4 * n * n / d) + 1) / 2
def signed (neg : Bool) (n : Nat) : Int := if neg then -(n : Int) else n
/-- A free integer (log entry 2). -/
def State.drawInt (s : State) : Int × State := (if s.draw.1 % 2 = 0 then (s.draw.1 / 2 : Nat) else -((s.draw.1 / 2 : Nat) : Int) - 1, s.draw.2)
/-- Gain, quadrature and skew step of a pair; none where a variance is 0 or the two samples are fully correlated, for which
R436 gives no value. -/
def pairEst (ii qq : Nat) (iq sym : Int) : Option (Int × Int × Int) :=
  let d := ii * qq - (iq * iq).toNat
  if ii = 0 ∨ qq = 0 ∨ d = 0 then none
  else
    let rho := signed (decide (sym < 0)) (overRoot (16384 * sym.natAbs) (ii * qq))
    some (overRoot (16384 * ii) d, signed (decide (iq < 0)) (overRoot (16384 * iq.natAbs) d), max (-16) (min 16 (-(roundAway ((rho : Rat) / 64)))))
/-- The estimates of an accumulation. -/
def State.estimate (s : State) (f : Nat) (x : Vector CalAcc 3) : CalEst × State :=
  let ofs : Vector Int 6 := Vector.ofFn fun c =>
    let a := x[Fin.ofNat 3 (c.val / 2)]
    s.getI (CAL_OFSc_OFS f c) + roundAway (((if c.val % 2 = 0 then a.ofsI else a.ofsQ : Int) : Rat) / s.calLength f)
  ([0, 1, 2] : List (Fin 3)).foldl (fun (p : CalEst × State) (i : Fin 3) =>
    let put := fun (g : Int × Int × Int) (t : State) => ({ p.1 with gain := p.1.gain.set i g.1, ph := p.1.ph.set i g.2.1, step := p.1.step.set i g.2.2 }, t)
    match pairEst (x[i]).ii (x[i]).qq (x[i]).iq (x[i]).sym with
    | some g => put g p.2
    | none =>
      let a := p.2.drawInt
      let b := a.2.drawInt
      let c := b.2.pick 0 32
      put (a.1, b.1, (c.1 : Int) - 16) c.2) (⟨ofs, .replicate 3 0, .replicate 3 0, .replicate 3 0⟩, s)

/-! ### The set in force (R441, R442) -/

/-- The shot whose sample 0 has come last (R124). -/
def State.shotAt (s : State) (f : Fib) : Option Nat :=
  let w := s.lw[f]
  ((w.cur.toList ++ w.coming).filter fun x => decide (s.envZero f x ≤ interval s.nowNs)).getLast?.map (·.shot)
/-- SHOT of the first shot that a change made now will be used by: the shot that begins, or, before a run, the first one. -/
def State.firstShot (s : State) (f : Fib) : Nat := if s.seqRuns f then (s.shotAt f).getD ((s.sq f).shotNo - 1) else if s.seqState f = 1 then (s.sq f).shotNo else 0
/-- Write the quantities of the selected pairs (offsets of the two converters of each pair). -/
def State.putSet (s : State) (f : Nat) (pairs : List (Fin 3)) (e : CalEst) : State :=
  pairs.foldl (fun (t : State) (i : Fin 3) =>
    let o := fun (t : State) (c : Nat) => t.set (CAL_OFSc_OFS f c) (bitsOf 12 (e.ofs[Fin.ofNat 6 c]))
    ((((o (o t (2 * i.val)) (2 * i.val + 1)).set (CAL_GAINp_GAIN f i) (bitsOf 16 e.gain[i])).set (CAL_PHp_PH f i) (bitsOf 16 e.ph[i])).set
      (CAL_SKEWp_SKEW f i) (bitsOf 9 e.step[i]))) s
/-- A record of R442. -/
def State.calRecord (s : State) (f : Nat) : List Nat :=
  [s.get (CAL_TEMP_TEMP f) + 2 ^ 16] ++ ((List.range 6).map fun c => s.get (CAL_OFSc_OFS f c)) ++ ((List.range 3).map fun p => s.get (CAL_GAINp_GAIN f p))
  ++ ((List.range 3).map fun p => s.get (CAL_PHp_PH f p)) ++ (List.range 3).map fun p => s.get (CAL_SKEWp_SKEW f p)
/-- A record may be written (R444). -/
def recordOk (ws : List Nat) : Bool :=
  ws.length == 16 && ws.getD 0 0 / 2 ^ 16 == 1 && (List.range 6).all (fun c => decide (ws.getD (1 + c) 0 < 2 ^ 12))
  && (List.range 6).all (fun p => decide (ws.getD (7 + p) 0 < 2 ^ 16)) && (List.range 3).all fun p => decide (ws.getD (13 + p) 0 < 2 ^ 9)
/-- Put a record in force (R442). -/
def State.putRecord (s : State) (f : Fib) (ws : List Nat) : State :=
  let s1 := (List.range 6).foldl (fun t c => t.set (CAL_OFSc_OFS f c) (ws.getD (1 + c) 0)) s
  let s2 := (List.range 3).foldl (fun t p => ((t.set (CAL_GAINp_GAIN f p) (ws.getD (7 + p) 0)).set (CAL_PHp_PH f p) (ws.getD (10 + p) 0)).set
    (CAL_SKEWp_SKEW f p) (ws.getD (13 + p) 0)) s1
  ((s2.set (CAL_TEMP_TEMP f) (ws.getD 0 0 % 2 ^ 16)).set (CAL_APPLIED_SHOT f) (s.firstShot f)).set (CAL_STAT_VALID f) 1

/-! ### Requests (R438) -/

/-- A run is requested. -/
def State.calRequest (s : State) (f : Fib) : State := if s.calState f = 0 then (s.setCalState f 1).inc (CAL_RUNS_COUNT f) else s
/-- The die temperature asks for a run (R438). -/
def State.calTemp (s : State) (f : Fib) : State :=
  let t := signedOf 16 (s.get (MGMT_TEMPi_TEMP (s.get (CAL_CFG_TSENS f))))
  if s.domainOn 3 && s.on (CAL_CTRL_AUTO f) && !s.on (CAL_STAT_RETRY_WAIT f) && decide (s.get (CAL_CFG_DT f) < (t - s.getI (CAL_TEMP_TEMP f)).natAbs) then s.calRequest f else s
/-- CAL_CTRL_RUN (R438). -/
def execCalCtrlRun (f : Fib) (s : State) : Host.Outcome State Fault Refusal := .next (s.onReg 16 (s.calRequest f))
/-- CAL_CTRL_ABORT (R440). -/
def execCalCtrlAbort (f : Fib) (s : State) : Host.Outcome State Fault Refusal := .next (s.onReg 16 (s.calAbort f))
/-- RETRY_WAIT_EXPIRY (R438). -/
def execRetryWaitExpiry (f : Fib) (s : State) : Host.Outcome State Fault Refusal :=
  .next (s.onRx <| if s.on (CAL_STAT_RETRY_WAIT f) && decide ((s.cal[f]).retryDue ≤ s.cyc) then (s.set (CAL_STAT_RETRY_WAIT f) 0).calTemp f else s)

/-! ### Accumulations (R436, R437, R439, R440) -/

/-- ACCUMULATION_START (R439): at sample 0 of the next shot a waiting run begins accumulation A. -/
def execAccumulationStart (f : Fib) (s : State) : Host.Outcome State Fault Refusal :=
  .next (s.onRx <| if s.calState f = 1 ∧ s.seqState f = 2 ∧ (s.cal[f]).held.isNone then
    (s.setCalState f 2).setCal f fun c => { c with
      a := none, found := none, startAt := s.cyc, accA := .replicate 3 CalAcc.init, accB := .replicate 3 CalAcc.init
      from_ := (s.rxf[f]).stair0, fromB := none } else s)
/-- The mean of two estimates (R437). -/
def meanEst (a b : Int) : Int := (a + b + 1) / 2
def near_ (a b : Int) (tol : Nat) : Bool := decide ((a - b).natAbs ≤ tol)
def fits (w : Nat) (v : Int) : Bool := decide (-(2 ^ (w - 1) : Int) ≤ v) && decide (v < 2 ^ (w - 1))
/-- The mean of two accumulations, with skews in place of steps. -/
def State.meanSet (s : State) (f : Nat) (a b : CalEst) : CalEst :=
  ⟨Vector.ofFn fun c => meanEst a.ofs[c] b.ofs[c], Vector.ofFn fun p => meanEst a.gain[p] b.gain[p], Vector.ofFn fun p => meanEst a.ph[p] b.ph[p],
   Vector.ofFn fun p => s.getI (CAL_SKEWp_SKEW f p) + meanEst a.step[p] b.step[p]⟩
/-- The two accumulations agree on a pair. -/
def State.agree (s : State) (f : Nat) (a b : CalEst) (p : Fin 3) : Bool :=
  let c0 : Fin 6 := Fin.ofNat 6 (2 * p.val)
  let c1 : Fin 6 := Fin.ofNat 6 (2 * p.val + 1)
  near_ a.ofs[c0] b.ofs[c0] (s.get (CAL_TOL_OFS_TOL f)) && near_ a.ofs[c1] b.ofs[c1] (s.get (CAL_TOL_OFS_TOL f))
  && near_ a.gain[p] b.gain[p] (s.get (CAL_TOL_GAIN_TOL f)) && near_ a.ph[p] b.ph[p] (s.get (CAL_TOL_PH_TOL f))
  && near_ a.step[p] b.step[p] (s.get (CAL_TOL_SKEW_TOL f))
/-- The means of a pair lie within their fields. -/
def inRange (m : CalEst) (p : Fin 3) : Bool :=
  fits 12 m.ofs[Fin.ofNat 6 (2 * p.val)] && fits 12 m.ofs[Fin.ofNat 6 (2 * p.val + 1)] && decide (0 ≤ m.gain[p]) && decide (m.gain[p] < 65536)
  && fits 16 m.ph[p] && fits 9 m.step[p]
/-- The estimates of both accumulations are compared (R437). -/
def State.calJudge (s : State) (f : Fib) (a b : CalEst) : State :=
  let ps := s.calPairs f
  let m := s.meanSet f a b
  let dis := ps.any fun p => !s.agree f a b p
  let rng := ps.any fun p => !inRange m p
  if dis || rng then
    let s1 := if dis then s.raise (CAL_FLAGS_DISAGREE f) 1 else s
    ((if rng then s1.raise (CAL_FLAGS_RANGE f) 1 else s1).inc (CAL_DISAGREE_CNT_COUNT f)).calRetry f
  else (s.setCalState f 4).setCal f fun c => { c with
    a := none, found := some m, settled := ps.all fun p => meanEst a.step[p] b.step[p] == 0 }
/-- ACCUMULATION_COMPLETE (R436, R437, R439) of accumulation B or A: the last selected pair has its 2^NSAMP_LOG2 eligible instants. -/
def execAccumulationComplete (f : Fib) (b : Bool) (s : State) : Host.Outcome State Fault Refusal :=
  .next (s.onRx <|
    if b = false ∧ s.calState f = 2 ∧ s.calFull f (s.cal[f]).accA then
      let e := s.estimate f (s.cal[f]).accA
      (e.2.setCalState f 3).setCal f fun c => { c with a := some e.1, startAt := s.cyc }
    else if b = true ∧ s.calState f = 3 ∧ s.calFull f (s.cal[f]).accB then
      match (s.cal[f]).a with
      | some a =>
        let e := s.estimate f (s.cal[f]).accB
        e.2.calJudge f a e.1
      | none => s
    else s)
/-- ACCUMULATION_TIMEOUT (R440). -/
def execAccumulationTimeout (f : Fib) (s : State) : Host.Outcome State Fault Refusal :=
  .next (s.onRx <| if (s.calState f = 2 ∨ s.calState f = 3) ∧ s.past ((s.cal[f]).startAt + msCyc 10000) then s.calAbort f else s)
/-- CAL_APPLY (R439, R441, R442): at sample 0 of a shot the new set, or a held record, is in force on all six converters. -/
def execCalApply (f : Fib) (s : State) : Host.Outcome State Fault Refusal :=
  .next (s.onRx <| if !s.seqRuns f then s
  else match (s.cal[f]).held, (s.cal[f]).found with
    | some ws, _ => ((s.putRecord f ws).set (wpendF f) 0).setCal f fun c => { c with held := none }
    | none, some m =>
      if s.calState f = 4 then
        ((((((((s.putSet f (s.calPairs f) m).set (CAL_APPLIED_SHOT f) (s.firstShot f)).set (CAL_TEMP_TEMP f) (s.get (MGMT_TEMPi_TEMP (s.get (CAL_CFG_TSENS f))))).set
          (CAL_STAT_VALID f) 1).setB (CAL_STAT_SKEW_SETTLED f) (s.cal[f]).settled).raise (CAL_FLAGS_DONE f) 1).setCalState f 0).setCal f fun c => { c with found := none })
      else s
    | none, none => s)

/-! ### Opcodes (R444) -/

/-- A selected converter group is enabled. -/
def State.calGroups (s : State) (f : Nat) : Bool := (s.on (CAL_CTRL_RAY f) && s.on (RXF_CTRL_RAY_EN f)) || (s.on (CAL_CTRL_BRI f) && s.on (RXF_CTRL_BRI_EN f))
def calRun (s : State) (ps : List Nat) : CmdRes :=
  let f : Fib := Fin.ofNat 2 (fibOf ps)
  if s.calState f ≠ 0 then .already s else if !s.calGroups f then .notReady else .ok (s.calRequest f)
/-- CAL_RUN (R438, R444). -/
def execCalRun (c : CmdIn) (s : State) : Host.Outcome State Fault Refusal := .next (runCmd 0xB0 16 (fun _ => [1]) calRun c s)
/-- Store CAL_CFG and CAL_TOL. -/
def State.putCalCfg (s : State) (f cfg tol : Nat) : State :=
  let s1 := (((s.set (CAL_CFG_NSAMP_LOG2 f) (fld cfg 0 5)).set (CAL_CFG_TSENS f) (fld cfg 8 3)).set (CAL_CFG_DT f) (fld cfg 16 8)).set (CAL_CFG_RETRY f) (fld cfg 24 8)
  (((s1.set (CAL_TOL_OFS_TOL f) (fld tol 0 8)).set (CAL_TOL_GAIN_TOL f) (fld tol 8 8)).set (CAL_TOL_PH_TOL f) (fld tol 16 8)).set (CAL_TOL_SKEW_TOL f) (fld tol 24 8)
def calCfgOk (cfg : Nat) : Bool := decide (20 ≤ fld cfg 0 5) && decide (fld cfg 0 5 ≤ 30) && fld cfg 16 8 != 0 && fld cfg 24 8 != 0
def calConfig (s : State) (ps : List Nat) : CmdRes :=
  let f : Fib := Fin.ofNat 2 (fibOf ps)
  let v := par ps 1
  if s.calState f ≠ 0 then .denied
  else if !calCfgOk (par ps 2) then .bad
  else .ok (((((s.set (CAL_CTRL_AUTO f) (fld v 0 1)).set (CAL_CTRL_RAY f) (fld v 1 1)).set (CAL_CTRL_BRI f) (fld v 2 1)).putCalCfg f (par ps 2) (par ps 3)).calTemp f)
/-- CAL_CONFIG (R443, R444). -/
def execCalConfig (c : CmdIn) (s : State) : Host.Outcome State Fault Refusal :=
  .next (runCmd 0xB1 16 (fun _ => [1, 7, 0xFFFF071F, full]) calConfig c s)
def calRead (s : State) (ps : List Nat) : CmdRes := .data s (s.calRecord (fibOf ps))
/-- CAL_READ (R442, R444). -/
def execCalRead (c : CmdIn) (s : State) : Host.Outcome State Fault Refusal := .next (runCmd 0xB2 16 (fun _ => [1]) calRead c s)
def calWrite (s : State) (ps : List Nat) : CmdRes :=
  let f : Fib := Fin.ofNat 2 (fibOf ps)
  let ws := ps.drop 1
  if s.calState f ≠ 0 then .denied
  else if !recordOk ws then .bad
  else if s.seqState f ≤ 1 then .ok (s.putRecord f ws)
  else .done stPending [] ((s.set (wpendF f) 1).setCal f fun c => { c with held := some ws })
/-- CAL_WRITE (R442, R444). -/
def execCalWrite (c : CmdIn) (s : State) : Host.Outcome State Fault Refusal :=
  .next (runCmd 0xB3 16 (fun _ => 1 :: List.replicate 16 full) calWrite c s)
def calGetStatus (s : State) (ps : List Nat) : CmdRes :=
  let f := fibOf ps
  .data s [s.rawReg 16 0, s.rawReg 16 (0x100C + 0x1000 * f), s.rawReg 16 (0x1010 + 0x1000 * f), s.get (CAL_TEMP_TEMP f), s.get (CAL_APPLIED_SHOT f),
    s.get (CAL_RUNS_COUNT f), s.get (CAL_DISAGREE_CNT_COUNT f), s.get (CAL_ABORT_CNT_COUNT f)]
/-- CAL_GET_STATUS (R444). -/
def execCalGetStatus (c : CmdIn) (s : State) : Host.Outcome State Fault Refusal := .next (runCmd 0xB4 16 (fun _ => [1]) calGetStatus c s)

end Sys2Proof.Machine
end

