-- ==== Sys2Proof/Machine/Emit.lean ====
section
/-! DEFINITION. Emitter drive and drive chain (R445–R454). -/

namespace Sys2Proof.Machine
open Reg

def State.setEmit (s : State) (g : EmitRun → EmitRun) : State := { s with emit := g s.emit }
def State.setSink (s : State) (c : Fin 4) (g : Sink → Sink) : State := s.setEmit fun e => { e with sinks := e.sinks.set c (g (e.sinks[c])) }
/-- A step of a block of PD_MGMT. -/
def State.onMgmt (s t : State) : State := s.onDom 1 t

/-! ### Current sinks (R445–R449) -/

/-- The applied code of a sink, with EMIT_STATUS.ON. -/
def State.setApplied (s : State) (c : Fin 4) (v : Nat) : State :=
  let on := s.get EMIT_STATUS_ON
  (s.set (EMIT_CHc_ACT_CODE c) v).set EMIT_STATUS_ON (on - (on &&& 2 ^ c.val) + if v % 4096 = 0 then 0 else 2 ^ c.val)
def State.sinkDown (s : State) (c : Fin 4) : Bool := (s.get EMIT_STATUS_SD).testBit c
/-- One step of the applied code toward a set code (R446). -/
def rampTo (act code ramp : Nat) : Nat := if act ≤ code then min code (act + ramp) else max code (act - ramp)
/-- The set code or ramp of a sink has been written: the ramp runs on from the present applied code, and with RAMP = 0 the code
applies at the next modulator step (R446); while SD is set nothing is applied (R448). -/
def State.sinkSet (s : State) (c : Fin 4) : State :=
  if s.sinkDown c then s
  else if s.on (EMIT_CHc_SET_RAMP c) && decide ((s.emit.sinks[c]).rampDue ≤ s.cyc) then s.setSink c fun k => { k with rampDue := s.cyc + msCyc 1 } else s
/-- RAMP_STEP (R446): once a millisecond. -/
def execRampStep (c : Fin 4) (s : State) : Host.Outcome State Fault Refusal :=
  .next (s.onMgmt <|
    let code := s.get (EMIT_CHc_SET_CODE c)
    let act := s.get (EMIT_CHc_ACT_CODE c)
    if !s.sinkDown c && s.on (EMIT_CHc_SET_RAMP c) && act != code && decide ((s.emit.sinks[c]).rampDue ≤ s.cyc) then
      (s.setApplied c (rampTo act code (s.get (EMIT_CHc_SET_RAMP c)))).setSink c fun k => { k with rampDue := s.cyc + msCyc 1 }
    else s)
/-- One modulator step of a sink (R445): with RAMP = 0 a new set code applies here (R446). The dither is the channel's LFSR,
whose output is free (log entry 2); without SPREAD there is none. -/
def State.modulate (s0 : State) (c : Fin 4) : State :=
  let code := s0.get (EMIT_CHc_SET_CODE c)
  let s := if !s0.sinkDown c && !s0.on (EMIT_CHc_SET_RAMP c) && code != s0.get (EMIT_CHc_ACT_CODE c) then s0.setApplied c code else s0
  let spread := s.on (EMIT_CHc_SET_SPREAD c)
  let p := if spread then s.pick 0 15 else (0, s)
  p.2.setSink c fun k =>
    let v := k.acc + s.get (EMIT_CHc_ACT_CODE c) + (if spread then (p.1 : Int) - k.r else 0)
    let on := decide (4096 ≤ v) && s.on (EMIT_CHc_ACT_CODE c)
    { k with acc := if on then v - 4096 else v, r := p.1, on := on }
/-- SINK_TEMPERATURE_READ (R448): 150.0 °C or more shuts the sink down. -/
def execSinkTemperatureRead (c : Fin 4) (temp : BitVec 16) (s : State) : Host.Outcome State Fault Refusal :=
  .next (s.onMgmt <|
    let s1 := s.set (EMIT_CHc_TEMP_TEMP c) temp.toNat
    if 1500 ≤ temp.toInt then
      let s2 := (((s1.setApplied c 0).setSink c fun k => { k with on := false }).orBits EMIT_STATUS_SD (2 ^ c.val))
      if s.sinkDown c then s2
      else (((s2.raise EMIT_FLAGS_THERM_SD (2 ^ c.val)).inc (EMIT_CHc_SDCNT_COUNT c)).lifeAdd 48 1).logEvent 0x1101 3 c.val temp.toNat
    else s1)

/-! ### Drive chain (R450–R452) -/

/-- Who owns a pin the chain needs, 0 if nobody (R450). -/
def State.chainTaken (s : State) : Nat :=
  if s.tdcOwner 2 = ownerOf 0x0A 2 then s.tdcOwner 2 else if s.tdcOwner 3 = ownerOf 0x0A 3 then s.tdcOwner 3 else 0
/-- A write of DCH_CTRL.EN: an enable that R450 refuses has no effect, a disable during a transfer waits for its end. -/
def State.setChain (s : State) (en : Bool) : State :=
  if en then (if s.chainTaken = 0 then (s.set DCH_CTRL_EN 1).setEmit fun e => { e with dchOff := false } else s)
  else if s.on DCH_STATUS_BUSY then s.setEmit fun e => { e with dchOff := true } else s.set DCH_CTRL_EN 0
/-- Duration of a transfer in cycles of 2.5 ns: 2 + 2·LEN·H + 3H of clk_mgmt (R452). -/
def State.chainCyc (s : State) : Nat := 2 * (2 + (2 * s.get DCH_CFG_LEN + 3) * (s.get DCH_CFG_DIV + 1))
/-- A write of DCH_CTRL.GO (R452). -/
def State.chainGo (s : State) : State :=
  if s.on DCH_CTRL_EN && !s.on DCH_STATUS_BUSY then (s.set DCH_STATUS_BUSY 1).setEmit fun e => { e with dchDue := s.cyc + s.chainCyc } else s
/-- DCH_GO (R452). -/
def execDchGo (s : State) : Host.Outcome State Fault Refusal := .next (s.onReg 17 s.chainGo)
/-- Answer the DCH_WRITE that waits for DONE (R454). -/
def State.chainReply (s : State) : State :=
  match s.emit.dchTo with
  | some p => ((s.setEmit fun e => { e with dchTo := none }).answer p.src 0xCD stOk p.tag.toNat 0 []).retire p.src 0xCD p.tag.toNat
  | none => s
/-- DCH_TRANSFER_COMPLETE (R452). -/
def execDchTransferComplete (s : State) : Host.Outcome State Fault Refusal :=
  .next (s.onMgmt <| if s.on DCH_STATUS_BUSY && decide (s.emit.dchDue ≤ s.cyc) then
    let s1 := (s.set DCH_STATUS_BUSY 0).raise DCH_STATUS_DONE 1
    (if s.emit.dchOff then (s1.set DCH_CTRL_EN 0).setEmit fun e => { e with dchOff := false } else s1).chainReply
  else s)

/-! ### Opcodes (R454) -/

/-- Store EMIT_CHc_SET. -/
def State.putSink (s : State) (c : Fin 4) (v : Nat) : State :=
  (((s.set (EMIT_CHc_SET_CODE c) (fld v 0 12)).set (EMIT_CHc_SET_RAMP c) (fld v 16 8)).set (EMIT_CHc_SET_SPREAD c) (fld v 24 1)).sinkSet c
def emitSet (s : State) (ps : List Nat) : CmdRes :=
  if 3 < par ps 0 then .bad
  else
    let c : Fin 4 := Fin.ofNat 4 (par ps 0)
    let s1 := s.putSink c (par ps 1)
    .done stOk [s1.get (EMIT_CHc_ACT_CODE c)] s1
/-- EMIT_SET (R446, R448, R454). -/
def execEmitSet (c : CmdIn) (s : State) : Host.Outcome State Fault Refusal := .next (runCmd 0xCB 17 (fun _ => [full, 0x01FF0FFF]) emitSet c s)
def emitRestart (s : State) (ps : List Nat) : CmdRes :=
  if 3 < par ps 0 then .bad
  else
    let c : Fin 4 := Fin.ofNat 4 (par ps 0)
    if 1250 < s.getI (EMIT_CHc_TEMP_TEMP c) then .denied
    else if !s.sinkDown c then .already s
    else .ok (((s.set EMIT_STATUS_SD (s.get EMIT_STATUS_SD - 2 ^ c.val)).setSink c fun k => { k with rampDue := s.cyc }).sinkSet c)
/-- EMIT_RESTART (R449, R454). -/
def execEmitRestart (c : CmdIn) (s : State) : Host.Outcome State Fault Refusal := .next (runCmd 0xCC 17 (fun _ => [full]) emitRestart c s)
/-- Parameters of DCH_WRITE: for action 2 the divider, the length and the words (R454). -/
def dchMasks (ps : List Nat) : List Nat :=
  if par ps 0 = 2 then [full, full, full] ++ List.replicate (min 8 (cdiv (par ps 2) 32)) full else [full]
def dchWrite (s : State) (ps : List Nat) : CmdRes :=
  let taken := s.chainTaken
  match par ps 0 with
  | 0 => if s.on DCH_CTRL_EN then .ok (s.setChain false) else .already s
  | 1 => if s.on DCH_CTRL_EN then .already s else if taken ≠ 0 then .busyWith taken else .ok (s.setChain true)
  | 2 =>
    if !s.on DCH_CTRL_EN then .denied
    else if par ps 1 < 3 ∨ 255 < par ps 1 ∨ par ps 2 = 0 ∨ 256 < par ps 2 then .bad
    else
      let s1 := (s.set DCH_CFG_DIV (par ps 1)).set DCH_CFG_LEN (par ps 2)
      .ok ((List.range (cdiv (par ps 2) 32)).foldl (fun t w => t.set (DCH_DATAw_BITS w) (par ps (3 + w))) s1).chainGo
  | _ => .bad
/-- DCH_WRITE (R450, R452, R454): a write that is accepted is answered after DONE, and waits while a transfer runs. -/
def execDchWrite (c : CmdIn) (s : State) : Host.Outcome State Fault Refusal :=
  let ps := c.ps.map (·.toNat)
  let r := s.judge 0xCD 17 dchMasks dchWrite c
  .next (if par ps 0 = 2 ∧ r.status = stOk then
    if s.on DCH_STATUS_BUSY then s
    else (r.state s).setEmit fun e => { e with dchTo := some ⟨c.src, 0xCD, c.tag, c.ps⟩ }
  else runCmd 0xCD 17 dchMasks dchWrite c s)
def emitGetStatus (s : State) (_ : List Nat) : CmdRes :=
  .data s ([s.rawReg 17 0, s.rawReg 17 4] ++ ((List.range 4).flatMap fun c =>
    [s.get (EMIT_CHc_ACT_CODE c), s.get (EMIT_CHc_TEMP_TEMP c), s.get (EMIT_CHc_SDCNT_COUNT c)]) ++ [s.rawReg 17 0x208])
/-- EMIT_GET_STATUS (R454). -/
def execEmitGetStatus (c : CmdIn) (s : State) : Host.Outcome State Fault Refusal := .next (runCmd 0xCE 17 (fun _ => []) emitGetStatus c s)

end Sys2Proof.Machine
end

