-- ==== Sys2Proof/Machine/Flash.lean ====
section
/-! DEFINITION. The boot flash: erase, program and read; the boot selection record, firmware images, lifetime records and
the persistent event log (R341, R342, R344, R346, R347, R355, R357, R358). -/

namespace Sys2Proof.Machine
open Reg

def State.setMgmt (s : State) (g : MgmtRun → MgmtRun) : State := { s with mgmt := g s.mgmt }

/-! ### Bytes of the flash -/

/-- The `n` flash bytes from an offset on; an erased byte reads 0xFF (log entry 6). -/
def State.flashGet (s : State) (a n : Nat) : List Byte := (List.range n).map fun i => (kget (a + i) s.flash).getD 0xFF
def State.flashWords (s : State) (a n : Nat) : List Nat := toWords (s.flashGet a (4 * n))
/-- Program bytes from an offset on; erased bytes are not listed. -/
def State.flashPut (s : State) (a : Nat) (bs : List Byte) : State :=
  { s with flash := (putBytes a bs s.flash).filter fun e => e.2 != 0xFF }
def State.flashErase (s : State) (a n : Nat) : State := { s with flash := kclear a (a + n) s.flash }
/-- Nothing is programmed in a range. -/
def State.erased (s : State) (a n : Nat) : Bool := s.flash.all fun e => decide (e.1 < a) || decide (a + n ≤ e.1)
/-- The next free of `n` records of `w` bytes in a region that is written round and keeps a free record. -/
def State.nextFree (s : State) (base w n : Nat) : Nat :=
  if s.erased base (w * n) then 0
  else ((List.range n).find? fun i => s.erased (base + w * i) w && !s.erased (base + w * ((i + n - 1) % n)) w).getD 0
/-- Append a record; when that fills the region, the oldest 4 KiB sector is erased. -/
def State.flashAppend (s : State) (base w n : Nat) (bs : List Byte) : State :=
  let i := s.nextFree base w n
  let s1 := s.flashPut (base + w * i) bs
  let k := (i + 1) % n
  if (w * (i + 1)) % 0x1000 = 0 ∧ !s1.erased (base + w * k) w then s1.flashErase (base + w * k) 0x1000 else s1

/-! ### SHA-256 (R346) -/

def rotr (v n : Nat) : Nat := v / 2 ^ n + v % 2 ^ n * 2 ^ (32 - n)
/-- The round constants. -/
def shaK : List Nat :=
  [0x428a2f98, 0x71374491, 0xb5c0fbcf, 0xe9b5dba5, 0x3956c25b, 0x59f111f1, 0x923f82a4, 0xab1c5ed5,
   0xd807aa98, 0x12835b01, 0x243185be, 0x550c7dc3, 0x72be5d74, 0x80deb1fe, 0x9bdc06a7, 0xc19bf174,
   0xe49b69c1, 0xefbe4786, 0x0fc19dc6, 0x240ca1cc, 0x2de92c6f, 0x4a7484aa, 0x5cb0a9dc, 0x76f988da] ++
  [0x983e5152, 0xa831c66d, 0xb00327c8, 0xbf597fc7, 0xc6e00bf3, 0xd5a79147, 0x06ca6351, 0x14292967,
   0x27b70a85, 0x2e1b2138, 0x4d2c6dfc, 0x53380d13, 0x650a7354, 0x766a0abb, 0x81c2c92e, 0x92722c85,
   0xa2bfe8a1, 0xa81a664b, 0xc24b8b70, 0xc76c51a3, 0xd192e819, 0xd6990624, 0xf40e3585, 0x106aa070] ++
  [0x19a4c116, 0x1e376c08, 0x2748774c, 0x34b0bcb5, 0x391c0cb3, 0x4ed8aa4a, 0x5b9cca4f, 0x682e6ff3,
   0x748f82ee, 0x78a5636f, 0x84c87814, 0x8cc70208, 0x90befffa, 0xa4506ceb, 0xbef9a3f7, 0xc67178f2]
def shaInit : List Nat :=
  [0x6a09e667, 0xbb67ae85, 0x3c6ef372, 0xa54ff53a, 0x510e527f, 0x9b05688c, 0x1f83d9ab, 0x5be0cd19]
/-- One more word of the message schedule, newest first. -/
def shaExpand (w : List Nat) : List Nat :=
  let at_ := fun i => w.getD i 0
  let a := at_ 14
  let b := at_ 1
  let s0 := rotr a 7 ^^^ rotr a 18 ^^^ (a / 8)
  let s1 := rotr b 17 ^^^ rotr b 19 ^^^ (b / 1024)
  (at_ 15 + s0 + at_ 6 + s1) % 2 ^ 32 :: w
/-- One round. -/
def shaRound (h : List Nat) (kw : Nat × Nat) : List Nat :=
  let x := fun i => h.getD i 0
  let e := x 4
  let a := x 0
  let t1 := x 7 + (rotr e 6 ^^^ rotr e 11 ^^^ rotr e 25) + ((e &&& x 5) ^^^ ((2 ^ 32 - 1 - e) &&& x 6)) + kw.1 + kw.2
  let t2 := (rotr a 2 ^^^ rotr a 13 ^^^ rotr a 22) + ((a &&& x 1) ^^^ (a &&& x 2) ^^^ (x 1 &&& x 2))
  [(t1 + t2) % 2 ^ 32, a, x 1, x 2, (x 3 + t1) % 2 ^ 32, e, x 5, x 6]
/-- A list of big-endian words. -/
def wordsBE : List Byte → List Nat
  | a :: b :: c :: d :: t => ofBytesLE [d, c, b, a] :: wordsBE t
  | _ => []
/-- One block of 16 words. -/
def shaBlock (h block : List Nat) : List Nat :=
  let w := (Nat.repeat shaExpand 48 block.reverse).reverse
  ((shaK.zip w).foldl shaRound h).zipWith (fun a b => (a + b) % 2 ^ 32) h
/-- The blocks of a word list; `n` bounds their number. -/
def shaBlocks : Nat → List Nat → List Nat → List Nat
  | 0, h, _ => h
  | n + 1, h, ws => if ws.isEmpty then h else shaBlocks n (shaBlock h (ws.take 16)) (ws.drop 16)
/-- The digest of a byte string, as eight words. -/
def sha256 (bs : List Byte) : List Nat :=
  let n := bs.length
  let pad := (0x80 : Byte) :: List.replicate ((119 - n % 64) % 64) 0
  let ws := wordsBE (bs ++ pad) ++ [8 * n / 2 ^ 32 % 2 ^ 32, 8 * n % 2 ^ 32]
  shaBlocks ws.length shaInit ws

/-! ### Firmware images (R346) -/

/-- Image A or B. -/
def imageBase (i : Nat) : Nat := 0x100000 + 0x100000 * i
/-- Word `w` of an image's header. -/
def State.imageWord (s : State) (i w : Nat) : Nat := ofBytesLE (s.flashGet (imageBase i + 4 * w) 4)
/-- Why an image is not valid: 1 header or digest, 2 signature; 0 where it is valid. -/
def State.imageFault (s : State) (i : Nat) : Nat :=
  let len := s.imageWord i 2
  if s.imageWord i 0 ≠ 0x4B455746 ∨ len % 4 ≠ 0 ∨ 0xC0000 < 256 + len ∨ len ≤ s.imageWord i 5 then 1
  else if sha256 (s.flashGet (imageBase i + 256) len) ≠ wordsBE (s.flashGet (imageBase i + 32) 32) then 1
  else if !Config.signatureOk (s.flashGet (imageBase i) 128) then 2 else 0

/-! ### The boot selection record (R344) -/

/-- SEQ and flags of a sector, if its record is valid. -/
def State.selSector (s : State) (k : Nat) : Option (Nat × Nat) :=
  match s.flashWords (0x1000 * k) 3 with
  | [q, f, c] => if crc32 (wordsLE [q, f]) = c then some (q, f) else none
  | _ => none
/-- The record in use: its sector, SEQ and flags. -/
def State.selRecord (s : State) : Option (Nat × Nat × Nat) :=
  match s.selSector 0, s.selSector 1 with
  | some a, some b => if 0 < signedOf 32 ((b.1 + 2 ^ 32 - a.1) % 2 ^ 32) then some (1, b) else some (0, a)
  | some a, none => some (0, a)
  | none, some b => some (1, b)
  | none, none => none
/-- PREF, TRIAL and TRIES of the record in use. -/
def State.selFlags (s : State) : Nat × Nat × Nat :=
  match s.selRecord with | some (_, _, f) => (fld f 0 1, fld f 1 1, fld f 2 3) | none => (0, 0, 0)
def selBits (r : Nat × Nat × Nat) : Nat := r.1 + 2 * r.2.1 + 4 * r.2.2
/-- Rewrite the record in the sector that is not in use, with SEQ + 1; without a valid record, SEQ 0 in S0 (log entry 17). -/
def State.selWrite (s : State) (r : Nat × Nat × Nat) : State :=
  let (k, q) := match s.selRecord with | some (k, q, _) => (1 - k, (q + 1) % 2 ^ 32) | none => (0, 0)
  let b := wordsLE [q, selBits r]
  ((s.flashErase (0x1000 * k) 0x1000).flashPut (0x1000 * k) (b ++ bytesLE 4 (crc32 b)))

/-! ### Lifetime records (R357, R358) -/

def lifeBase : Nat := 0x040000
/-- The words of the record at index `i`, if its check word is correct. -/
def State.lifeRecord (s : State) (i : Nat) : Option (List Nat) :=
  let b := s.flashGet (lifeBase + 256 * i) 256
  if crc32 (b.take 252) = ofBytesLE (b.drop 252) then some ((toWords b).take 63) else none
/-- The valid record with the highest LREC_SEQ. -/
def State.lifeLatest (s : State) : Option (List Nat) :=
  if s.erased lifeBase 0x40000 then none
  else (List.range 1024).foldl (fun (m : Option (List Nat)) i =>
    if s.erased (lifeBase + 256 * i) 256 then m else match s.lifeRecord i, m with
      | some r, some b => if b.getD 0 0 < r.getD 0 0 then some r else m
      | some r, none => some r
      | none, _ => m) none
/-- The 64 words of the record as counted to now. -/
def lifeWords (l : List Nat) : List Nat := l ++ [crc32 (wordsLE l)]
/-- Append a record with LREC_SEQ + 1. With a failed readback (`ok` false) the flash holds other bytes there, and the record
is written once more at the next free location. -/
def State.lifeAppend (s : State) (ok : Bool) : State :=
  let s1 := s.setMgmt fun m => { m with life := m.life.set 0 ((m.life.getD 0 0 + 1) % 2 ^ 32), lifeDue := s.cyc + msCyc 600000 }
  let b := wordsLE (lifeWords s1.mgmt.life)
  let s2 := if ok then s1.flashAppend lifeBase 256 1024 b
    else
      let at_ := lifeBase + 256 * s1.nextFree lifeBase 256 1024
      let bad := (List.range 256).map fun i => Config.unwrittenByte s1.freeCtr i
      let s3 := { s1.flashAppend lifeBase 256 1024 bad with freeCtr := s1.freeCtr + 1 }
      ((s3.flashAppend lifeBase 256 1024 b).raise MGMT_FLAGS_LIFE_WRITE_FAIL 1).logEvent 0x1408 3 at_ 0
  s2.set MGMT_STATUS_LIFE_VALID 1

/-! ### The persistent event log (R355) -/

def persistBase : Nat := 0x080000
/-- Append the oldest record that waits. -/
def State.persistAppend (s : State) : State :=
  match s.mgmt.persistQ with
  | [] => s
  | r :: t => (s.setMgmt fun m => { m with persistQ := t }).flashAppend persistBase 32 16384 (wordsLE (r.map (·.toNat)))

end Sys2Proof.Machine
end

