-- ==== Sys2Proof/Machine/Pmon.lean ====
section
/-! DEFINITION. Performance counters, snapshots and bandwidth windows (R477–R486). -/

namespace Sys2Proof.Machine
open Reg

def State.setPmon (s : State) (g : PmonRun → PmonRun) : State := { s with pmon := g s.pmon }
/-- PMON_CYC (R477). -/
def State.pmonCyc (s : State) : Nat := if s.fabRuns then (s.cyc - s.pmon.cycAt) % 2 ^ 64 else 0
/-- SNAP_AVAIL (R481). -/
def State.snapAvail (s : State) : Bool :=
  s.get MGMT_STATUS_PHASE == 4 && !s.on SYS_STATUS_CORE_WAIT && !s.on PWR_STATUS_BUSY
  && (List.range 8).all fun n => !s.on (LANE_CTRL_MODE n) && !s.on (LINK_GRPn_CTRL_LOOP n)
/-- PMON_STATUS as read. -/
def State.pmonStatus (s : State) : Nat := s.rawReg 19 4 / 2 * 2 + s.snapAvail.toNat

/-- Clear every programmable counter and PMON_WRAP; the occurrences of this cycle are kept (R480). -/
def State.pmonClear (s : State) : State :=
  (s.set PMON_WRAP_WRAP 0).setPmon fun p => { p with cnt := if p.nowAt = s.cyc then p.now else .replicate 8 0 }
/-- PMON_CLR (R480). -/
def execPmonClr (s : State) : Host.Outcome State Fault Refusal := .next (s.onReg 19 s.pmonClear)
/-- Copy counters into the snapshot registers (R482). -/
def State.pmonSnap (s : State) : State :=
  let c := s.pmonCyc
  let s1 := (List.finRange 8).foldl (fun (t : State) (k : Fin 8) => t.pmonCopy k) s
  (((s1.set PMON_SCYC_LO_CYC c).set PMON_SCYC_HI_CYC (c / 2 ^ 32)).raise PMON_STATUS_SNAP_DONE 1).setPmon fun p => { p with snapAt := some s.cyc }
/-- A write of PMON_SNAP.GO. -/
def State.snapGo (s : State) : State := if s.snapAvail then s.pmonSnap else s
/-- PMON_SNAP_GO (R482). -/
def execPmonSnapGo (s : State) : Host.Outcome State Fault Refusal := .next (s.onReg 19 s.snapGo)

/-! ### Bandwidth windows (R484) -/

/-- Open a window of `WIN` µs: it opens in the next cycle. -/
def State.bwGo (s : State) : State :=
  if s.on PMON_STATUS_BW_BUSY then s
  else (s.set PMON_STATUS_BW_BUSY 1).setPmon fun p => { p with
    bw := .replicate 14 0, bw2 := .replicate 14 0, bwEnd := some (s.cyc + 1 + usCyc (s.get PMON_BW_CTRL_WIN)) }
/-- PMON_BW_GO (R484). -/
def execPmonBwGo (s : State) : Host.Outcome State Fault Refusal := .next (s.onReg 19 s.bwGo)
/-- BANDWIDTH_WINDOW_CLOSE (R484): the closing cycle, whose transfers belong to the window, is over (R13). -/
def execBandwidthWindowClose (s : State) : Host.Outcome State Fault Refusal :=
  .next (s.onCore <| match s.pmon.bwEnd with
    | some e =>
      if s.past e then
        let s1 := (s.set PMON_BW_SEQ_COUNT (s.get PMON_BW_SEQ_COUNT + 1)).raise PMON_STATUS_BW_DONE 1
        let on := s.on PMON_BW_CTRL_CONT
        (s1.setB PMON_STATUS_BW_BUSY on).setPmon fun p => { p with
          res := p.bw, bw := p.bw2, bw2 := .replicate 14 0, bwEnd := if on then some (e + 1 + usCyc (s.get PMON_BW_CTRL_WIN)) else none }
      else s
    | none => s)
/-- PMON_CNT_LO_READ (R483): the live low bits are returned and the high ones latched. -/
def State.cntLoRead (s : State) (k : Fin 8) : Nat × State :=
  (s.pmon.cnt[k] % 2 ^ 32, s.set (PMON_CNTk_HI_COUNT k) (s.pmon.cnt[k] / 2 ^ 32))
def execPmonCntLoRead (k : Fin 8) (s : State) : Host.Outcome State Fault Refusal := .next (s.onReg 19 (s.cntLoRead k).2)

/-! ### Opcodes (R486) -/

/-- The events that can be counted, and those that take a master filter (R478). -/
def pmonEvents : List Nat :=
  [0, 1, 0x10, 0x11, 0x12, 0x13, 0x20, 0x21, 0x22, 0x23, 0x24, 0x25, 0x26, 0x27, 0x30, 0x31, 0x32, 0x33, 0x40, 0x41, 0x42, 0x43]
def pmonFiltered : List Nat := [0x10, 0x11, 0x12, 0x13, 0x30]
/-- A value of PMON_CNTk_CTRL is admitted. -/
def pmonCtlOk (v : Nat) : Bool := pmonEvents.contains (fld v 0 8) && (!bit v 16 || pmonFiltered.contains (fld v 0 8))
/-- Store PMON_CNTk_CTRL. -/
def State.pmonPut (s : State) (k v : Nat) : State :=
  (((s.set (PMON_CNTk_CTRL_EVENT k) (fld v 0 8)).set (PMON_CNTk_CTRL_MASTER k) (fld v 8 8)).set (PMON_CNTk_CTRL_MFILT k) (fld v 16 1)).set
    (PMON_CNTk_CTRL_EN k) (fld v 17 1)
def pmonConfig (s : State) (ps : List Nat) : CmdRes :=
  let k := par ps 0
  let v := par ps 1
  if 7 < k ∨ !pmonCtlOk v then .bad
  else if s.on (PMON_CNTk_CTRL_EN k) ∧ v % 2 ^ 17 ≠ s.rawReg 19 (0x100 + 0x10 * k) % 2 ^ 17 then .denied
  else .ok (s.pmonPut k v)
/-- PMON_CONFIG (R478, R486). -/
def execPmonConfig (c : CmdIn) (s : State) : Host.Outcome State Fault Refusal :=
  .next (runCmd 0xE0 19 (fun _ => [full, 0x3FFFF]) pmonConfig c s)
def pmonSnapshot (s : State) (ps : List Nat) : CmdRes :=
  if !s.snapAvail then .notReady
  else
    let s1 := if bit (par ps 0) 1 then s.pmonClear else s
    let s2 := (if bit (par ps 0) 0 then s1.set PMON_CTRL_RUN 1 else s1).pmonSnap
    .done stOk ((List.range 18).map fun i => s2.rawReg 19 (0x200 + 4 * i)) s2
/-- PMON_SNAPSHOT (R482, R486). -/
def execPmonSnapshot (c : CmdIn) (s : State) : Host.Outcome State Fault Refusal :=
  .next (runCmd 0xE1 19 (fun _ => [3]) pmonSnapshot c s)
def pmonRead (s : State) (_ : List Nat) : CmdRes := .data s []
/-- PMON_READ (R483, R486): PMON_CYC is sampled now, and the counters in the cycles that follow. -/
def execPmonRead (c : CmdIn) (s : State) : Host.Outcome State Fault Refusal :=
  let r := s.judge 0xE2 19 (fun _ => [0]) pmonRead c
  .next (if r.status = stOk then
    if s.pmon.read.isSome then s
    else s.setPmon fun p => { p with read := some (⟨c.src, 0xE2, c.tag, c.ps⟩, s.cyc, [lo32 s.pmonCyc, hi32 s.pmonCyc]) }
  else runCmd 0xE2 19 (fun _ => [0]) pmonRead c s)
/-- A clk_fab cycle of a PMON_READ: counter k is sampled 6 × (k + 1) cycles after its start, and the last one ends the reply
(R483). -/
def State.tickPmon (s : State) : State :=
  match s.pmon.read with
  | some (p, t, ws) =>
    let k : Fin 8 := Fin.ofNat 8 ((ws.length - 2) / 2)
    if s.cyc < t + 6 * (k.val + 1) then s
    else
      let vs := ws ++ [s.pmon.cnt[k] % 2 ^ 32, s.pmon.cnt[k] / 2 ^ 32]
      if k.val < 7 then s.setPmon fun r => { r with read := some (p, t, vs) }
      else
        ((s.setPmon fun r => { r with read := none }).answer p.src 0xE2 stOk p.tag.toNat 0 (vs ++ [s.get PMON_WRAP_WRAP])).retire p.src 0xE2 p.tag.toNat
  | none => s
def bwWinOk (w : Nat) : Bool := 1 ≤ w && w ≤ 1000000
def pmonBw (s : State) (ps : List Nat) : CmdRes :=
  let w := fld (par ps 0) 0 20
  if !bwWinOk w then .bad
  else if bit (par ps 1) 0 then
    if s.on PMON_STATUS_BW_BUSY then .already s
    else .ok ((s.set PMON_BW_CTRL_WIN w).set PMON_BW_CTRL_CONT (fld (par ps 0) 24 1)).bwGo
  else if s.get PMON_BW_SEQ_COUNT = 0 then .notReady
  else .data s (s.get PMON_BW_SEQ_COUNT :: s.pmon.res.toList.flatMap fun v => [v % 2 ^ 32, v / 2 ^ 32 % 256])
/-- PMON_BW (R484, R486). -/
def execPmonBw (c : CmdIn) (s : State) : Host.Outcome State Fault Refusal :=
  .next (runCmd 0xE3 19 (fun _ => [0x010FFFFF, 1]) pmonBw c s)
def pmonGetStatus (s : State) (_ : List Nat) : CmdRes :=
  .data s ([s.pmonStatus, s.get PMON_CTRL_RUN, s.get PMON_WRAP_WRAP] ++ (List.range 8).map fun k => s.rawReg 19 (0x100 + 0x10 * k))
/-- PMON_GET_STATUS (R486). -/
def execPmonGetStatus (c : CmdIn) (s : State) : Host.Outcome State Fault Refusal :=
  .next (runCmd 0xE4 19 (fun _ => []) pmonGetStatus c s)

end Sys2Proof.Machine
end

