-- ==== Sys2Proof/Machine/Pwr.lean ====
section
/-! DEFINITION. Power states, operating points, clocks and wake sources (R28, R456–R476). -/

namespace Sys2Proof.Machine
open Reg

/-! ### Clocks (R28, R456, R457) -/

/-- SAMPLING_PLL_START (R28, R456): REFCLK_SMP has passed the monitor for 1 ms; a stop under R28 bars the start. -/
def execSamplingPllStart (s : State) : Host.Outcome State Fault Refusal :=
  let s1 := s.set SYS_CLK_STATUS_REFCLK_SMP_OK 1
  .next (if s.domainOn 3 && !s.on SYS_CLK_STATUS_SMP_LOCK && !s.on SYS_STATUS_REFCLK_SMP_BAD then s1.setPwr fun p => { p with pllStarted := true, pllOn := true }
    else s1)
/-- SAMPLING_PLL_LOCK (R456, R457, R477, R399): clk_fab runs. -/
def execSamplingPllLock (s : State) : Host.Outcome State Fault Refusal :=
  .next (if s.pwr.pllOn && s.domainOn 3 && !s.on SYS_CLK_STATUS_SMP_LOCK && !s.on SYS_STATUS_REFCLK_SMP_BAD then
    ((((s.set SYS_CLK_STATUS_SMP_LOCK 1).set SYS_CLK_STATUS_ENG_LOCK 1).set SYS_CLK_STATUS_FAB_RUN 1).setPwr fun p => { p with
      fabAt := s.cyc }).setPmon fun p => { p with cycAt := s.cyc }
  else s)
/-- REFCLK_SMP_BAD (R28, R440): once the sampling PLL has been started, the clocks stop until a full reset
and the probe outputs are at zero. -/
def execRefclkSmpBad (s : State) : Host.Outcome State Fault Refusal :=
  let s1 := s.set SYS_CLK_STATUS_REFCLK_SMP_OK 0
  .next (if s.pwr.pllStarted && !s.on SYS_STATUS_REFCLK_SMP_BAD then
    let s2 := (((s1.raise SYS_STATUS_REFCLK_SMP_BAD 1).logEvent 0x0002 4 0 0).calAbort 0).calAbort 1
    let s3 := (s2.setRxf 0 fun x => { x with probe := none }).setRxf 1 fun x => { x with probe := none }
    (((s3.set SYS_CLK_STATUS_SMP_LOCK 0).set SYS_CLK_STATUS_ENG_LOCK 0).set SYS_CLK_STATUS_FAB_RUN 0).setPwr fun p => { p with pllOn := false }
  else s1)

/-! ### DRAM in self-refresh and the retention store (R377, R458, R466, R470) -/

/-- What the retention store keeps of a channel: configuration bits, mode registers, delays and Vref. -/
def State.retain (s : State) (ch : Chan) : List Nat :=
  if s.on (DRAMC_CHSTAT_READY ch) then
    [s.rawReg 12 (0x1000 + 0x1000 * ch.val) % 256] ++ ((s.dram[ch]).mr[0]).toList ++ ((List.range 18).map fun i => s.rawReg 12 (0x1100 + 0x1000 * ch.val + 4 * i))
      ++ [s.get (DRAMC_VREF_VREF ch)]
  else []
/-- Place every rank in self-refresh and copy what the retention store keeps (R377, R466). -/
def State.selfRefresh (s : State) : State :=
  if s.domainOn 5 then
    let s1 := s.setPwr fun p => { p with retained := [s.retain 0, s.retain 1] }
    ([0, 1] : List Chan).foldl (fun (t : State) (ch : Chan) => if t.on (DRAMC_CHSTAT_READY ch) then
      (t.set (DRAMC_CHSTAT_SELF_REF ch) 1).setDram ch fun d => { d with rows := [] } else t) s1
  else s
/-- Leave self-refresh: nothing is owed and each timer restarts at its interval (R377). -/
def State.leaveSelfRefresh (s : State) : State :=
  ([0, 1] : List Chan).foldl (fun (t : State) (ch : Chan) => if t.on (DRAMC_CHSTAT_SELF_REF ch) then (t.set (DRAMC_CHSTAT_SELF_REF ch) 0).channelUp ch else t) s

/-! ### Operating points (R460–R462) -/

/-- Target voltage of an operating point, mV. -/
def opMv (op : Nat) : Nat := match op with | 0 => 850 | 1 => 800 | 2 => 720 | _ => 650
/-- Register a change of operating point that ends in power state `dst` if given: a lower frequency applies at once, a higher one
once VDD_CORE is confirmed; VSEL takes the new code (R461). -/
def State.opGo (s : State) (op : Nat) (dst : Option Nat) : State :=
  let up := decide (op < s.get PWR_STATUS_OP)
  ((if up then s else s.set PWR_STATUS_OP op).set PWR_STATUS_BUSY 1).setPwr fun p => { p with
    change := some (if up then .raise op else .lower op), changeAt := s.cyc, vsel := op, stateTo := dst }

/-! ### Requests (R464–R467) -/

inductive PwrAns where
  | ok (s : State)
  | pending (s : State)
  | already
  | denied
  | bad

/-- Hold a request behind the change in progress (R467). -/
def State.hold (s : State) (r : PwrReq) : State :=
  (if s.pwr.held.isSome then s.raise PWR_FLAGS_REPLACED 1 else s).set PWR_STATUS_HELD 1 |>.setPwr fun p => { p with held := some r }
/-- The engines fed by a fibre stop (R464). -/
def State.stopFed (s : State) : State :=
  (List.finRange 16).foldl (fun (t : State) (k : Fin 16) =>
    if t.engState k = engRunning && t.landSrc k ≠ 0 then t.quitEngine k engStopped else t) s
/-- Enter REDUCED (R464). -/
def State.enterReduced (s : State) : State :=
  let rays := (s.on (RXF_CTRL_RAY_EN 0), s.on (RXF_CTRL_RAY_EN 1))
  let s1 := s.setPwr fun p => { p with savedRay := rays, savedOp := s.get PWR_STATUS_OP }
  let s2 := ((s1.setGroups 0 false (s1.on (RXF_CTRL_BRI_EN 0))).setGroups 1 false (s1.on (RXF_CTRL_BRI_EN 1))).stopFed
  if s.get PWR_STATUS_OP = 3 then s2.set PWR_STATUS_STATE 1 else s2.opGo 3 (some 1)
/-- Return from REDUCED to ACTIVE (R464). -/
def State.leaveReduced (s : State) : State :=
  let s1 := (s.setGroups 0 s.pwr.savedRay.1 (s.on (RXF_CTRL_BRI_EN 0))).setGroups 1 s.pwr.savedRay.2 (s.on (RXF_CTRL_BRI_EN 1))
  if s.get PWR_STATUS_OP = s.pwr.savedOp then s1.set PWR_STATUS_STATE 0 else s1.opGo s.pwr.savedOp (some 0)
/-- Accept an entry to STANDBY or SLEEP (R466). -/
def State.acceptEntry (s : State) (t : Nat) : State :=
  ((s.set PWR_WAKE_PEND_PEND 0).set PWR_STATUS_BUSY 1).setPwr fun p => { p with change := some (.entry t), changeAt := s.cyc }
/-- Whether a value is the target of the change in progress. -/
def State.pwrTarget (s : State) (isState : Bool) (v : Nat) : Bool :=
  if isState then s.pwr.stateTo == some v || s.pwr.change == some (.entry v) || (s.pwr.change == some .wake && v == 0)
  else s.pwr.change == some (.raise v) || s.pwr.change == some (.lower v)
/-- A request for a power state that may start now (R465). -/
def State.stateReq (s : State) (v : Nat) : PwrAns :=
  let st := s.get PWR_STATUS_STATE
  if v ≠ 0 ∧ (s.seqState 0 ≠ 0 ∨ s.seqState 1 ≠ 0) then .denied
  else if v = 3 ∧ (s.on MGMT_STATUS_CFG_BUSY ∨ s.on MGMT_STATUS_UPD_BUSY) then .denied
  else if st = 2 ∧ v = 1 then .denied
  else if 2 ≤ v ∧ s.get PWR_WAKE_EN_EN &&& wakeAllowed v = 0 then .bad
  else if v = 0 then (if st = 2 then .ok (s.wakeUp 6) else .ok s.leaveReduced)
  else if v = 1 then .ok s.enterReduced
  else .ok (s.acceptEntry v)
/-- A request (R464, R467, R476). -/
def State.pwrRequest (s : State) (r : PwrReq) : PwrAns :=
  let st := s.get PWR_STATUS_STATE
  if !r.isState && (st = 1 || st = 2) then .denied
  else if r.code = (if r.isState then st else s.get PWR_STATUS_OP) then .already
  else if s.pwrTarget r.isState r.code then .already
  else if s.pwr.change.isSome then .pending (s.hold r)
  else if r.isState then s.stateReq r.code
  else .ok (s.opGo r.code none)
/-- The change in progress has completed, failed or been aborted: a held request starts (R467). -/
def State.pwrDone (s : State) : State :=
  let s1 := (s.set PWR_STATUS_BUSY 0).setPwr fun p => { p with change := none, stateTo := none }
  match s1.pwr.held with
  | none => s1
  | some r =>
    let s2 := (s1.set PWR_STATUS_HELD 0).setPwr fun p => { p with held := none }
    match s2.pwrRequest r with
    | .ok t => t
    | .pending t => t
    | .already => s2
    | _ => if r.go then s2.raise PWR_FLAGS_REFUSED 1 else s2
/-- A change of operating point ends, and with it a change of state that it was part of. -/
def State.opDone (s : State) : State :=
  (match s.pwr.stateTo with | some t => s.set PWR_STATUS_STATE t | none => s).pwrDone
/-- A write of a GO bit of PWR_REQ (R475). -/
def State.pwrGo (s : State) (isState : Bool) : State :=
  match s.pwrRequest ⟨isState, if isState then s.get PWR_REQ_STATE else s.get PWR_REQ_OP, true⟩ with
  | .ok t => t
  | .pending t => t
  | .already => s
  | _ => s.raise PWR_FLAGS_REFUSED 1
/-- GO_STATE (R464–R467). -/
def execGoState (s : State) : Host.Outcome State Fault Refusal := .next (s.pwrGo true)
/-- GO_OP (R461, R467). -/
def execGoOp (s : State) : Host.Outcome State Fault Refusal := .next (s.pwrGo false)

/-- VOLTAGE_CONFIRM (R461): VDD_CORE stands at `mv`. A raise switches the divider; at the limit a reading counts. A lowering
is complete once the regulator has settled. -/
def execVoltageConfirm (mv : Nat) (s : State) : Host.Outcome State Fault Refusal :=
  .next (match s.pwr.change with
    | some (.raise op) =>
      if opMv op ≤ mv + 25 ∧ s.cyc ≤ s.pwr.changeAt + usCyc (s.get PWR_VSETTLE_US) + msCyc 1 then (s.set PWR_STATUS_OP op).opDone else s
    | some (.lower _) => s.opDone
    | _ => s)
/-- VSETTLE_TIMEOUT (R461): a raise was not confirmed in time, and VSEL returns to the code of the operating point. -/
def execVsettleTimeout (s : State) : Host.Outcome State Fault Refusal :=
  .next (match s.pwr.change with
    | some (.raise _) =>
      if s.past (s.pwr.changeAt + usCyc (s.get PWR_VSETTLE_US) + msCyc 1) then
        s.setPwr fun p => { p with vsel := s.get PWR_STATUS_OP, change := some .back, changeAt := s.cyc }
      else s
    | _ => s)
/-- In any cycle: a lowering is complete by VSETTLE + 1 µs, and a raise that failed once VSETTLE has passed after the return of
VSEL (R461). -/
def State.opTick (s : State) : State :=
  match s.pwr.change with
  | some (.lower _) => if s.pwr.changeAt + usCyc (s.get PWR_VSETTLE_US + 1) ≤ s.cyc then s.opDone else s
  | some .back => if s.pwr.changeAt + usCyc (s.get PWR_VSETTLE_US) ≤ s.cyc then (s.raise PWR_FLAGS_VFAIL 1).opDone else s
  | _ => s

/-! ### Entry and wake (R459, R466–R470) -/

/-- Every lane of an active group goes to electrical idle (R273, R466). -/
def State.idleGroups (s : State) : State :=
  if s.domainOn 4 then allLanes.foldl (fun (t : State) (n : Fin 8) => t.idleLane n) s else s
def State.exitGroups (s : State) : State :=
  if s.domainOn 4 then allLanes.foldl (fun (t : State) (n : Fin 8) => t.exitLane n) s else s
/-- The lowest bit set, counted from 1. -/
def lowest (v : Nat) : Nat := ((List.range 5).find? fun i => v.testBit i).elim 0 (· + 1)
/-- STATE_ENTRY_COMPLETE (R466): the wake check, then either the switches open or the entry is aborted. -/
def execStateEntryComplete (s : State) : Host.Outcome State Fault Refusal :=
  .next (match s.pwr.change with
    | some (.entry t) =>
      let s1 := s.idleGroups.selfRefresh
      let s2 := if t = 3 then s1.lifeAppend true else s1
      let pend := s2.wakePending t
      if pend ≠ 0 then
        let s3 := s2.leaveSelfRefresh.exitGroups
        ((((s3.set PWR_STATUS_LAST 2).raise PWR_FLAGS_ABORTED 1).inc PWR_ABORTS_COUNT).set PWR_STATUS_WAKE_SRC (lowest pend)).pwrDone
      else
        let s3 := (s2.set PWR_STATUS_LAST 1).inc PWR_ENTRIES_COUNT
        let s4 := ((s3.domainOff 2).domainOff 3).domainOff 5
        let s5 := if t = 3 then (s4.domainOff 4).domainOff 1 else s4
        ((s5.set PWR_STATUS_STATE t).setPwr fun p => { p with enteredAt := s.cyc, wakeOp := s.get PWR_STATUS_OP }).pwrDone
    | _ => s)
/-- WAKE_N_LOW (R468). -/
def execWakeNLow (s : State) : Host.Outcome State Fault Refusal := .next (s.wakeFire 0)
/-- SPI_WAKE (R468): in SLEEP; elsewhere the falling edge is that of a transaction. -/
def execSpiWake (s : State) : Host.Outcome State Fault Refusal :=
  .next (if s.get PWR_STATUS_STATE = 3 ∨ s.pwr.change = some (.entry 3) then s.wakeFire 1 else s)
/-- WAKE_TIMER_EXPIRY (R468): PWR_TIMER ms since entry completed. -/
def execWakeTimerExpiry (s : State) : Host.Outcome State Fault Refusal :=
  .next (if 2 ≤ s.get PWR_STATUS_STATE ∧ s.pwr.enteredAt + msCyc (s.get PWR_TIMER_MS) ≤ s.cyc then s.wakeFire 2 else s)
/-- LINK_WAKE (R468): only the HOST or UP group has the source. -/
def execLinkWake (s : State) : Host.Outcome State Fault Refusal :=
  .next (s.onLane <| if allLanes.any fun g => s.grpOn g && s.get (LINK_GRPn_CTRL_ROLE g) != 1 then s.wakeFire 3 else s)

/-! ### Resets by pins and supplies (R471–R473, R489) -/

/-- PORST_N_ASSERT (R472). -/
def execPorstNAssert (s : State) : Host.Outcome State Fault Refusal := .next (s.fullReset 2)
/-- SUPPLY_BROWNOUT (R471, R489): a power-on reset. -/
def execSupplyBrownout (s : State) : Host.Outcome State Fault Refusal := .next (s.fullReset 1)

/-! ### Opcodes (R476) -/

/-- Answer a request with PWR_STATUS. -/
def pwrAnswer (s : State) (r : PwrAns) : CmdRes :=
  match r with
  | .ok t => .done stOk [t.rawReg 18 4] t
  | .pending t => .done stPending [t.rawReg 18 4] t
  | .already => .done stAlready [s.rawReg 18 4] s
  | .denied => .denied
  | .bad => .bad
def pwrState (s : State) (ps : List Nat) : CmdRes := if 3 < par ps 0 then .bad else pwrAnswer s (s.pwrRequest ⟨true, par ps 0, false⟩)
/-- PWR_STATE (R464–R467, R476). -/
def execPwrState (c : CmdIn) (s : State) : Host.Outcome State Fault Refusal := .next (runCmd 0xD0 18 (fun _ => [full]) pwrState c s)
def pwrOp (s : State) (ps : List Nat) : CmdRes := if 3 < par ps 0 then .bad else pwrAnswer s (s.pwrRequest ⟨false, par ps 0, false⟩)
/-- PWR_OP (R461, R467, R476). -/
def execPwrOp (c : CmdIn) (s : State) : Host.Outcome State Fault Refusal := .next (runCmd 0xD1 18 (fun _ => [full]) pwrOp c s)
def pwrWake (s : State) (ps : List Nat) : CmdRes :=
  if 31 < par ps 0 ∨ (bit (par ps 0) 2 ∧ par ps 1 = 0) then .bad
  else .ok ((s.set PWR_WAKE_EN_EN (par ps 0)).set PWR_TIMER_MS (par ps 1))
/-- PWR_WAKE (R468, R476). -/
def execPwrWake (c : CmdIn) (s : State) : Host.Outcome State Fault Refusal := .next (runCmd 0xD2 18 (fun _ => [full, full]) pwrWake c s)
def pwrGetStatus (s : State) (_ : List Nat) : CmdRes :=
  .data s [s.rawReg 18 4, s.get PWR_WAKE_PEND_PEND, s.rawReg 18 0x18, s.rawReg 0 0x14, s.rawReg 0 0x18, s.get PWR_ENTRIES_COUNT, s.get PWR_ABORTS_COUNT]
/-- PWR_GET_STATUS (R476). -/
def execPwrGetStatus (c : CmdIn) (s : State) : Host.Outcome State Fault Refusal := .next (runCmd 0xD3 18 (fun _ => []) pwrGetStatus c s)

end Sys2Proof.Machine
end

