-- ==== Sys2Proof/Machine/RegView.lean ====
section
/-! DEFINITION. Registers as software reads them: the values that follow the block's state, and what a read does besides (R6,
R7, R8, R507). -/

namespace Sys2Proof.Machine
open Reg

/-- Fibre and offset of a per-fibre register at F = 0x1000 or 0x2000. -/
def fibAt (off : Nat) : Fib := if off < 0x2000 then 0 else 1
/-- Some field of the window offsets `[lo, hi)` of a block has been written since its reset. -/
def State.touched (s : State) (blk lo hi : Nat) : Bool := s.regs.any fun e => decide (key blk lo 0 ≤ e.1) && decide (e.1 < key blk hi 0)
/-- The fibre geometry or the filter has been configured since reset: before, PFIL and BRIL report their Reset values. -/
def State.planned (s : State) (blk f : Nat) : Bool :=
  s.touched 1 (0x1008 + 0x1000 * f) (0x1014 + 0x1000 * f) || s.touched blk (0x1000 + 0x1000 * f) (0x1014 + 0x1000 * f)
/-- A loupe region has been configured since reset. -/
def State.louped (s : State) (f : Nat) : Bool := s.planned 4 f || s.touched 4 (0x1100 + 0x1000 * f) (0x1300 + 0x1000 * f)
/-- STEP in units of 2^-32: held in FREE while the sequencer runs, else of the present settings (R137). -/
def State.stepShown (s : State) (f : Fib) : Nat :=
  if s.on (PFIL_CTRL_MODE f) then (s.stepOf f (s.page f) (s.mainRates f) (s.trackedT false) * 2 ^ 32).floor.toNat
  else if 2 ≤ s.seqState f then ((s.pfil[f].streams[(0 : Fin 17)]).step * 2 ^ 32).floor.toNat
  else (roundHalfUp (s.stepOf f (s.page f) (s.mainRates f) (s.trackedT false) * 2 ^ 32)).toNat

/-- SEQ: the tracked period, the present phase and the next launch (R81, R82). -/
def State.viewSeq (s : State) (off : Nat) : Nat :=
  if off = 0x1C then lo32 s.periodBits
  else if off = 0x2C ∧ !s.on SEQ_REF_STATUS_EPOCH_VALID then 0
  else if off = 0x28 then lo32 s.phaseNow
  else if off = 0x1030 ∨ off = 0x2030 then lo32 (s.sq (fibAt off)).next
  else s.rawReg 1 off
/-- PFIL: figures of the present settings; a loupe region's are shown once one is configured (R140, R148, R149). -/
def State.viewPfil (s : State) (off : Nat) : Nat :=
  let f := fibAt off
  let o := off % 0x1000
  if 0x4000 ≤ off ∨ off < 0x1000 ∨ 0x3000 ≤ off then s.rawReg 4 off
  else if 0x100 ≤ o ∧ o < 0x300 ∧ o % 0x20 = 0x14 ∧ s.louped f then
    s.rawReg 4 off % 2 ^ 16 + s.settleOf f (s.loupeRates f ((o - 0x100) / 0x20)) * 2 ^ 16
  else if !s.planned 4 f then s.rawReg 4 off
  else if o = 0x20 then s.gdOf f
  else if o = 0x24 then s.settleOf f (s.mainRates f)
  else if o = 0x28 then s.stepShown f / 2 ^ 32 % 16
  else if o = 0x2C then lo32 (s.stepShown f)
  else if o = 0x40 then s.ctKib f
  else if o = 0x44 then s.stKib f % 2 ^ 32
  else s.rawReg 4 off
/-- ENG: the states of the engines (R179). -/
def State.viewEng (s : State) (off : Nat) : Nat :=
  if off = 0x10 then s.engBits engRunning + s.engBits engHalted * 2 ^ 16
  else if 0x1000 ≤ off ∧ off < 0x2000 ∧ off % 0x100 = 4 then s.engStat (Fin.ofNat 16 ((off - 0x1000) / 0x100))
  else s.rawReg 5 off
/-- BRIL: the sizes of its areas (R194, R202). -/
def State.viewBril (s : State) (off : Nat) : Nat :=
  let f := fibAt off
  if off < 0x1000 ∨ 0x3000 ≤ off ∨ !s.planned 6 f then s.rawReg 6 off
  else if off % 0x1000 = 0x1C then s.accKib f
  else if off % 0x1000 = 0x20 then s.resKib f
  else s.rawReg 6 off
/-- DRAMC_CHSTAT with the allowance in effect on a channel in service (R374). -/
def State.viewDramc (s : State) (off : Nat) : Nat :=
  let ch := (fibAt off).val
  if off = 0x1004 ∨ off = 0x2004 then s.rawReg 12 off % 2 ^ 12 + (if s.dramRuns ch then s.allowance ch else 0) * 2 ^ 12 else s.rawReg 12 off
/-- TDC: the present time and the period last measured (R399, R408). -/
def State.viewTdc (s : State) (off : Nat) : Nat :=
  if off = 0xC then lo32 s.nowStamp
  else if 0x1000 ≤ off ∧ off < 0x1400 ∧ off % 0x100 = 0x2C then lo32 (s.tdc.ch[Fin.ofNat 8 ((off - 0x1000) / 0x100)]).per
  else if 0x1000 ≤ off ∧ off < 0x1400 ∧ off % 0x100 = 0x14 then
    ((s.tdc.ch[Fin.ofNat 8 ((off - 0x1000) / 0x100)]).fifo.headD []).getD 0 0
  else s.rawReg 14 off
/-- Channel and port of a bandwidth result (R485). -/
def bwIndex (off : Nat) : Fin 14 := Fin.ofNat 14 ((off - 0x300) / 8)
/-- PMON: the counts as they stand, and the results of the last window (R477, R483, R484). -/
def State.viewPmon (s : State) (off : Nat) : Nat :=
  if off = 4 then s.pmonStatus
  else if off = 8 then lo32 s.pmonCyc
  else if 0x100 ≤ off ∧ off < 0x180 ∧ off % 0x10 = 4 then lo32 (s.pmon.cnt[Fin.ofNat 8 ((off - 0x100) / 0x10)])
  else if 0x300 ≤ off ∧ off < 0x370 ∧ off % 8 = 0 then lo32 (s.pmon.res[bwIndex off])
  else s.rawReg 19 off
/-- A group's registers exist for the first lane of a configured group (R313). -/
def State.noGroup (s : State) (off : Nat) : Bool :=
  decide (0x1000 ≤ off) && decide (off < 0x1800) && !(s.grp[Fin.ofNat 8 ((off - 0x1000) / 0x100)]).conf
/-- The 32-bit value that a register of a reachable block reads as. -/
def State.viewReg (s : State) (blk off : Nat) : Nat :=
  match blk with
  | 0 => if off = 0 then 0x5200106D else if off = 0x1C then lo32 s.uptime else s.rawReg 0 off
  | 1 => s.viewSeq off
  | 4 => s.viewPfil off
  | 5 => s.viewEng off
  | 6 => s.viewBril off
  | 8 => if off = 4 then s.outStatus else if off = 0x40 then s.out.alarms.length else s.rawReg 8 off
  | 9 => if off = 8 then (allLanes.map fun n => s.laneState n * 2 ^ (4 * n.val)).sum else s.rawReg 9 off
  | 10 => if s.noGroup off then 0 else s.rawReg 10 off
  | 11 => if off = 4 then s.cmdStatus else s.rawReg 11 off
  | 12 => s.viewDramc off
  | 14 => s.viewTdc off
  | 19 => s.viewPmon off
  | b => s.rawReg b off

/-! ### High registers latched on a read of the low one (R507) -/

/-- The value a pair of registers reports. -/
def State.wide (s : State) (r : LowReg) : Nat :=
  match r with
  | .refPeriod => s.periodBits
  | .phase => s.phaseNow
  | .next f => (s.sq f).next
  | .tdcNow => s.nowStamp
  | .tdcPer n => (s.tdc.ch[Fin.ofNat 8 n.val]).per
  | .uptime => s.uptime
  | .bw c p => s.pmon.res[Fin.ofNat 14 (7 * c.val + p.val)]
  | .pmonCyc => s.pmonCyc
/-- The field that takes the high bits. -/
def highF (r : LowReg) : Fld :=
  match r with
  | .refPeriod => SEQ_REF_PERIOD_HI_PER_HI
  | .phase => SEQ_PHASE_HI_CYCLES
  | .next f => SEQ_NEXT_HI_CYCLES f
  | .tdcNow => TDC_NOW_HI_NOW
  | .tdcPer n => TDC_CHn_PER_HI_PER n
  | .uptime => SYS_UPTIME_HI_US
  | .bw c p => PMON_BWc_p_HI_BYTES c p
  | .pmonCyc => PMON_CYC_HI_CYC
/-- The block of a pair. -/
def lowBlk (r : LowReg) : Nat :=
  match r with
  | .refPeriod => 1 | .phase => 1 | .next _ => 1 | .tdcNow => 14 | .tdcPer _ => 14 | .uptime => 0 | .bw _ _ => 19 | .pmonCyc => 19
/-- A read of the low register copies the high bits of the same instant. -/
def State.latchHigh (s : State) (r : LowReg) : State := s.set (highF r) (s.wide r / 2 ^ 32)
/-- The pair whose low register lies at an offset. -/
def lowAt (blk off : Nat) : Option LowReg :=
  let c := (off - 0x1000) / 0x100
  if blk = 0 then (if off = 0x1C then some .uptime else none)
  else if blk = 1 then
    (if off = 0x1C then some .refPeriod else if off = 0x28 then some .phase else if off = 0x1030 then some (.next 0)
     else if off = 0x2030 then some (.next 1) else none)
  else if blk = 14 then
    (if off = 0xC then some .tdcNow else if 0x1000 ≤ off ∧ off < 0x1400 ∧ off % 0x100 = 0x2C then some (.tdcPer (Fin.ofNat 4 c)) else none)
  else if blk = 19 then
    (if off = 8 then some .pmonCyc
     else if 0x300 ≤ off ∧ off < 0x370 ∧ off % 8 = 0 then some (.bw (Fin.ofNat 2 ((bwIndex off).val / 7)) (Fin.ofNat 7 ((bwIndex off).val % 7))) else none)
  else none
/-- LATCHED_LOW_READ (R507, R20). -/
def execLatchedLowRead (r : LowReg) (s : State) : Host.Outcome State Fault Refusal := .next (s.onReg (lowBlk r) (s.latchHigh r))

/-- What a read of a register does besides answering: latches, the record FIFOs, the accumulators and the counters. -/
def State.readEffect (s : State) (blk off : Nat) : State :=
  match lowAt blk off with
  | some r => s.latchHigh r
  | none =>
    if blk = 14 ∧ 0x1000 ≤ off ∧ off < 0x1400 ∧ off % 0x100 = 0x14 then s.fifoRead (Fin.ofNat 8 ((off - 0x1000) / 0x100))
    else if blk = 15 ∧ 0x1000 ≤ off ∧ off < 0x1900 ∧ off % 0x20 = 0 then s.accLatch (Fin.ofNat 72 ((off - 0x1000) / 0x20))
    else if blk = 19 ∧ 0x100 ≤ off ∧ off < 0x180 ∧ off % 0x10 = 4 then (s.cntLoRead (Fin.ofNat 8 ((off - 0x100) / 0x10))).2
    else s
/-- Read a register of a reachable block. -/
def State.readReg (s : State) (blk off : Nat) : Nat × State := (s.viewReg blk off, s.readEffect blk off)

end Sys2Proof.Machine
end

