-- ==== Sys2Proof/Machine/RegWrite.lean ====
section
/-! DEFINITION. Writes through the register windows: what each register takes and does (R5–R8, R20, R506, and the write
conditions of each block's register rule). -/

namespace Sys2Proof.Machine
open Reg

/-! ### Fields by their Type (R8, R506) -/

/-- Store one field of a register write. RWS fields are written by hardware alone, but for SYS_RST_CAUSE.HIST, whose bits
clear where a 0 is written (R9). W1S fields are acted on by their block, not stored. -/
def State.storeField (s : State) (r : Row) (off v : Nat) : State :=
  let f : Fld := ⟨key r.blk off r.lo, r.w, r.rst⟩
  let x := fld v r.lo r.w
  match r.typ with
  | .rw => if r.allow x then s.set f x else s
  | .w1c => s.clearBits f x
  | .rws => if r.blk = 0 ∧ r.lo = 8 then s.set f (s.get f &&& x) else s
  | _ => s
/-- Store the fields of a register whose lowest bits are set in `mask`. -/
def State.storeM (s : State) (blk off v mask : Nat) : State :=
  (rows.filter fun r => r.at blk off && mask.testBit r.lo).foldl (fun t r => t.storeField r off v) s
/-- Store every field of a register. -/
def State.store (s : State) (blk off v : Nat) : State := s.storeM blk off v full
/-- Store where a condition holds. -/
def State.storeIf (s : State) (c : Bool) (blk off v : Nat) : State := if c then s.store blk off v else s

/-! ### CLR_CNT -/

/-- The counters and first addresses that a block's CLR_CNT clears. -/
def State.clrFields (s : State) (b : CntBlk) : List Fld :=
  match b with
  | .seq f => [SEQ_TRIG_LOST_COUNT f, SEQ_TRIG_IGNORED_COUNT f, SEQ_SHOT_SKIPPED_COUNT f, SEQ_LMON_MISS_COUNT f, SEQ_LMON_EXTRA_COUNT f]
  | .rxf f => RXF_STEP_COUNT_COUNT f :: (List.range 6).map fun c => RXF_CLIP_CNTc_COUNT f c
  | .prism f => [PRISM_CNT_STEP_COUNT f, PRISM_CNT_CLIP_COUNT f, PRISM_CNT_FADE_COUNT f, PRISM_MF_SAT_COUNT f, PRISM_BRIL_CAPT_COUNT f,
      PRISM_BRIL_SKIP_COUNT f, PRISM_BRIL_CLIPEX_COUNT f] ++ (s.fedBy f).map fun k => PRISM_LANDk_LOST_COUNT k
  | .pfil f => [PFIL_CT_OVERRUN_COUNT f, PFIL_SYNC_CNT_COUNT f, PFIL_FRAMES_COUNT f]
  | .eng => (List.range 16).flatMap fun k => [ENG_DEk_ALARMS_COUNT k, ENG_DEk_ASTALL_COUNT k, ENG_DEk_QREPS_COUNT k]
  | .bril f => [BRIL_FRAMES_COUNT f, BRIL_LOST_COUNT f, BRIL_CAPT_DISC_COUNT f, BRIL_CAPT_LAST_COUNT f]
  | .lw f => [LW_EVT_COUNT_COUNT f, LW_HOLD_SUPP_COUNT f, LW_EVT_LOST_COUNT f, LW_MASK_VIOL_COUNT f, LW_SKIP_COUNT f]
  | .out => [OUT_DROP_COUNT_COUNT, OUT_STALL_CYC_COUNT, OUT_ALARM_SENT_COUNT, OUT_ALARM_DISC_COUNT, OUT_FRAMES_COUNT]
  | .lane n => [LANE_PRBS_ERR_COUNT n, LANE_PRBS_BITS_COUNT n, LANE_ES_ERR_COUNT n, LANE_BAD_SH_COUNT n, LANE_ERR_BLK_COUNT n,
      LANE_LOL_CNT_COUNT n, LANE_TRAIN_FAIL_COUNT n, LANE_EXIT_FAIL_COUNT n]
  | .link => [LINK_UNREACH_COUNT, LINK_ECHO_LOST_COUNT, LINK_ECHO_OUTLIER_COUNT, LINK_START_LATE_COUNT, LINK_FWD_DROP_COUNT, LINK_UNK_CB_COUNT]
      ++ (List.range 8).flatMap fun n => [LINK_GRPn_REPLAYS_COUNT n, LINK_GRPn_CRC_ERR_COUNT n, LINK_GRPn_RESTRIPE_COUNT n,
        LINK_GRPn_PKT_LOST_COUNT n, LINK_GRPn_PKTS_TX_COUNT n, LINK_GRPn_PKTS_RX_COUNT n]
  | .cmd => [CMD_RX_SPI_COUNT, CMD_RX_INBAND_COUNT, CMD_BUSY_CNT_COUNT, CMD_CRC_ERR_COUNT, CMD_TMO_CNT_COUNT, CMD_FRAME_ERR_COUNT]
  | .dramc c => [DRAMC_CE_CNT_COUNT c, DRAMC_UE_CNT_COUNT c, DRAMC_CE_ADDR_LO_ADDR c, DRAMC_CE_ADDR_HI_ADDR c, DRAMC_UE_ADDR_LO_ADDR c,
      DRAMC_UE_ADDR_HI_ADDR c, DRAMC_REF_FORCED_COUNT c] ++ (List.range 4).map fun p => DRAMC_PANIC_CYCp_COUNT c p
  | .scrub => [SCRUB_PASS_COUNT, SCRUB_CE_CNT_COUNT, SCRUB_UE_CNT_COUNT, SCRUB_CE_ADDR_LO_ADDR, SCRUB_CE_ADDR_HI_ADDR, SCRUB_CE_ADDR_HI_MASTER,
      SCRUB_UE_ADDR_LO_ADDR, SCRUB_UE_ADDR_HI_ADDR, SCRUB_UE_ADDR_HI_MASTER, SCRUB_RPT_OVF_COUNT]
  | .tdc n => [TDC_CHn_STAMPS_COUNT n, TDC_CHn_REJ_COUNT n, TDC_CHn_DEAD_COUNT n, TDC_CHn_LOST_COUNT n]
  | .hk => [HK_DISC_COUNT, HK_FAULT_DISC_COUNT, HK_OVERRUN_COUNT, HK_INJ_LOST_COUNT, HK_MIRROR_ERR_COUNT, HK_PASSES_COUNT]
  | .cal f => [CAL_RUNS_COUNT f, CAL_DISAGREE_CNT_COUNT f, CAL_ABORT_CNT_COUNT f]
  | .emit => (List.range 4).map EMIT_CHc_SDCNT_COUNT
  | .pwr => [PWR_ENTRIES_COUNT, PWR_ABORTS_COUNT]
/-- The window of a block of counters. -/
def cntBlk (b : CntBlk) : Nat :=
  match b with
  | .seq _ => 1 | .rxf _ => 2 | .prism _ => 3 | .pfil _ => 4 | .eng => 5 | .bril _ => 6 | .lw _ => 7 | .out => 8 | .lane _ => 9 | .link => 10
  | .cmd => 11 | .dramc _ => 12 | .scrub => 13 | .tdc _ => 14 | .hk => 15 | .cal _ => 16 | .emit => 17 | .pwr => 18
/-- Clear a block's counters; the first address after a clear is kept again (R377, R386). -/
def State.clrCounters (s : State) (b : CntBlk) : State :=
  let s1 := s.zero (s.clrFields b)
  if b = .scrub then { s1 with scrub := { s1.scrub with ceSeen := false, ueSeen := false } } else s1
/-- CLR_CNT (R82, R101, R129 and the register rule of each other block). -/
def execClrCnt (b : CntBlk) (s : State) : Host.Outcome State Fault Refusal :=
  .next (s.onReg (cntBlk b) (s.clrCounters b))
/-- The CLR_CNT bit of a register word. -/
def State.clrBit (s : State) (v : Nat) (b : CntBlk) : State := if bit v 31 then s.clrCounters b else s

/-! ### Shot sequencer (R63, R81–R83, R509) -/

/-- SEQ_CTRL of a fibre: bits [9:0] in IDLE and ARMED; a change of TRIG_SRC in ARMED changes the channel with it, and cancels
a TIME trigger already set (R509; log entry 60). -/
def State.putSeqCtrl (s : State) (f : Fib) (v : Nat) : State :=
  let off := 0x1000 + 0x1000 * f.val
  let old := s.get (SEQ_CTRL_TRIG_SRC f)
  let new := if fld v 3 3 ≤ 5 then fld v 3 3 else old
  let me := ownerOf 1 f.val
  if 1 < s.seqState f then s
  else if s.seqState f = 0 ∨ new = old then s.store 1 off v
  else
    let free := match trigChan new with | some n => s.tdcFree n me | none => true
    if !free then s.storeM 1 off v 0xC7
    else
      let s1 := match trigChan old with | some n => s.tdcRelease n me | none => s
      let s2 := match trigChan new with | some n => s1.tdcAcquire n me | none => s1
      (s2.store 1 off v).setSq f fun q => { q with timeTrig := none }
/-- Window writes of the SEQ block. -/
def State.putSeqReg (s : State) (off v : Nat) : State :=
  let f := fibAt off
  let o := off % 0x1000
  let idle := s.seqState f == 0
  if off = 0 then
    if !s.allIdle || (bit v 2 && !bit v 0) then s
    else (s.writeRefCtrl (if bit v 2 && !s.tdcFree 3 (ownerOf 9 3) then v - 4 else v)).refChanged s
  else if off < 0x10 then (s.storeIf s.allIdle 1 off v).refChanged s
  else if off = 0x30 then (if fld v 0 16 = 0 then s else s.putMper (fld v 0 16))
  else if off < 0x1000 then s.store 1 off v
  else if 0x4000 ≤ off then
    s.storeIf (!s.pageInUse ((off - 0x4000) / 0x2000) (off % 0x2000 / 0x100)) 1 off v
  else if 0x3000 ≤ off then s
  else if o = 0 then (s.putSeqCtrl f v).clrBit v (.seq f)
  else if o = 8 ∨ o = 0xC ∨ o = 0x10 ∨ o = 0x14 then s.storeIf idle 1 off v
  else if o = 0x18 then s.storeIf (!s.pageInUse f 0) 1 off v
  else if o = 0x1C then s.storeIf (!s.pageInUse f 1) 1 off v
  else if o = 0x5C then (if bit v 0 then (s.softTrigger f).2 else s)
  else s.store 1 off v

/-! ### Receiver front end (R89, R93, R101, R464) -/

/-- RXF_CTRL below CLR_CNT. -/
def State.putRxfCtrl (s : State) (f : Fib) (v : Nat) : State :=
  if s.seqState f ≠ 0 || s.rayBarred (bit v 0) then s
  else (s.setGroups f (bit v 0) (bit v 1)).storeM 2 (0x1000 + 0x1000 * f.val) v 0x1C
/-- RXF_PTEST: PERIOD keeps its value below the code length + 1 µs; EN = 1 needs an IDLE sequencer and a valid code (R89, R506). -/
def State.putPtest (s : State) (f : Fib) (v : Nat) : State :=
  let s1 := s.storeM 2 (0x1028 + 0x1000 * f.val) v (if s.ptestPeriodOk f (fld v 8 4) (fld v 16 16) then 0x10110 else 0x110)
  let d := s1.get (RXF_PTEST_CODE f)
  if !bit v 0 then (if s.on (RXF_PTEST_EN f) then s1.setPtest f false else s1)
  else if s.on (RXF_PTEST_EN f) || s.seqState f != 0 || !s1.ptestPeriodOk f d (s1.get (RXF_PTEST_PERIOD f)) || !s1.codeOk f d then s1
  else s1.setPtest f true
/-- Stair table or code memory word, through the combining entry of its master (R387, R390). -/
def State.putRxfMem (s : State) (m : Master) (off v : Nat) : State :=
  let f := fibAt off
  if s.seqState f ≠ 0 then s
  else
    let s1 := s.write32 m (0x40020000 + off) v
    if off % 0x1000 < 0x800 then s1.syncStair f else s1
def rxfMem (off : Nat) : Bool :=
  (decide (0x1400 ≤ off) && decide (off < 0x1440)) || (decide (0x2400 ≤ off) && decide (off < 0x2440)) || (decide (0x1800 ≤ off) && decide (off < 0x1C00))
  || (decide (0x2800 ≤ off) && decide (off < 0x2C00))
/-- Window writes of the RXF block. -/
def State.putRxfReg (s : State) (m : Master) (off v : Nat) : State :=
  let f := fibAt off
  let o := off % 0x1000
  if off < 0x1000 ∨ 0x3000 ≤ off then s.store 2 off v
  else if rxfMem off then s.putRxfMem m off v
  else if o = 0 then (s.putRxfCtrl f v).clrBit v (.rxf f)
  else if o = 4 ∨ (0x100 ≤ o ∧ o < 0x200) then s.storeIf (s.seqState f == 0) 2 off v
  else if o = 0x28 then s.putPtest f v
  else s.store 2 off v

/-! ### Prism pipeline, position filter, engines and temperature path (R129, R148, R149, R179, R212) -/

def State.putPrismReg (s : State) (off v : Nat) : State :=
  let f := fibAt off
  let o := off % 0x1000
  let idle := s.seqState f == 0
  if off < 0x1000 ∨ 0x3000 ≤ off then s.store 3 off v
  else if o = 0 then (s.storeIf idle 3 off v).clrBit v (.prism f)
  else if o = 8 then
    let s1 := s.storeM 3 off v 0xFFFF
    let s2 := if bit v 16 && idle && (s1.galOwner f).isNone then s1.startGal f .init else s1
    if bit v 17 && (s2.galOwner f).isNone then s2.startGal f (.qclr 0) else s2
  else if o = 4 ∨ o = 0xC ∨ o = 0x10 ∨ o = 0x14 then s.storeIf idle 3 off v
  else s.store 3 off v

/-- A register of loupe region `l`: a write after which an enabled region would break R41 leaves the region unchanged (R42). -/
def State.putLoupe (s : State) (f : Fib) (l off v : Nat) : State :=
  let t := if off % 0x20 = 0 then (s.storeM 4 off v 0x3FE).setLoupeEn f l (fld v 0 1) else s.store 4 off v
  if t.on (PFIL_LPL_CTRL_EN f l) && !t.loupeSpanOk f l then s else t
def State.putPfilReg (s : State) (off v : Nat) : State :=
  let f := fibAt off
  let o := off % 0x1000
  let idle := s.seqState f == 0
  let l := (o - 0x100) / 0x20
  if 0x4000 ≤ off then s.storeIf (s.seqState ((off - 0x4000) / 0x1000) == 0) 4 off v
  else if off < 0x1000 ∨ 0x3000 ≤ off then s.store 4 off v
  else if o = 0 then (if idle then (s.storeM 4 off v 0x3FE).setMainEn f (fld v 0 1) else s).clrBit v (.pfil f)
  else if o = 0x58 then (if bit v 0 && !idle then s.requestSync f else s)
  else if 0x100 ≤ o ∧ o < 0x300 then (if idle then s.putLoupe f l off v else s)
  else if o < 0x20 ∨ (0x30 ≤ o ∧ o < 0x40) then s.storeIf idle 4 off v
  else s.store 4 off v

/-- Source of one engine (R32). -/
def State.putAssign (s : State) (k b : Nat) : State := if b ≤ 2 && s.assignOk k b then s.set (ENG_ASSIGN_SRC k) b else s
def State.putEngReg (s : State) (off v : Nat) : State :=
  let k : Fin 16 := Fin.ofNat 16 ((off - 0x1000) / 0x100)
  if off = 0 then (s.store 5 off v).clrBit v .eng
  else if off = 4 then (List.range 8).foldl (fun t j => t.putAssign j (fld v (4 * j) 2)) s
  else if off = 8 then (List.range 8).foldl (fun t j => t.putAssign (8 + j) (fld v (4 * j) 2)) s
  else if off = 0xC then s.storeM 5 off v ((if s.seqState 0 = 0 then 1 else 0) + if s.seqState 1 = 0 then 0x10000 else 0)
  else if off < 0x1000 ∨ 0x2000 ≤ off then s.store 5 off v
  else if off % 0x100 = 0 then
    if bit v 0 && !bit v 1 then (if s.engState k = engRunning then s else s.startEngine k)
    else if bit v 1 && !bit v 0 then (if s.engState k = engStopped then s else s.quitEngine k engStopped)
    else s
  else if off % 0x100 = 0x10 ∨ off % 0x100 = 0x14 then s.storeIf (s.landSrc k == 0 || s.seqState (s.srcFib k) == 0) 5 off v
  else s.store 5 off v

def State.putBrilReg (s : State) (off v : Nat) : State :=
  let f := fibAt off
  let o := off % 0x1000
  let stopped := !s.on (BRIL_CTRL_EN f)
  if off < 0x1000 ∨ 0x3000 ≤ off then s.store 6 off v
  else if o = 0 then
    let s1 := if stopped then s.storeM 6 off v 0x6 else s
    (if bit v 0 = s.on (BRIL_CTRL_EN f) then s1 else s1.setBrilEn f (bit v 0)).clrBit v (.bril f)
  else if o < 0x1C ∨ o = 0x24 then s.storeIf stopped 6 off v
  else if o = 0x2C then s.storeIf (stopped && s.fitOk f (fld v 0 4)) 6 off v
  else s.store 6 off v

/-! ### Loss watch and output (R217, R218, R227, R230, R249, R255) -/

/-- LW_CAP_CTRL: written while the capture is disabled; EN = 1 starts a capture that LW_CAPTURE would accept. LW_CAPTURE alone
ends one (R227, R230). -/
def State.putCapCtrl (s : State) (v : Nat) : State :=
  if s.on LW_CAP_CTRL_EN then s
  else
    let s1 := s.storeM 7 0x10 v 0xFFE
    if bit v 0 && !s.on LW_STATUS_SNAP_OWN && (s.snapOther false).isNone
        && Sys2Proof.Machine.capOk (s1.rawReg 7 0x10) (s1.get LW_CAP_START_START) (s1.get LW_CAP_NPTS_NPTS) (s1.rawReg 7 0x1C) then s1.startCapture
    else s1
/-- LW_MASK_CTRL: fields out of their range keep their value (R506), as do MS, MSHIFT and MLEN while the test is enabled. -/
def State.putMaskCtrl (s : State) (f : Fib) (v : Nat) : State :=
  let stopped := !s.on (LW_MASK_CTRL_EN f)
  let ms := if stopped && fld v 8 3 ≤ 4 then fld v 8 3 else s.get (LW_MASK_CTRL_MS f)
  let sh := if stopped && fld v 12 4 ≤ 8 then fld v 12 4 else s.get (LW_MASK_CTRL_MSHIFT f)
  let len := if stopped && 1 ≤ fld v 16 15 && fld v 16 15 ≤ 16384 then fld v 16 15 else s.get (LW_MASK_CTRL_MLEN f)
  s.setMaskCtrl f (fld v 0 5 + ms * 2 ^ 8 + sh * 2 ^ 12 + len * 2 ^ 16)
def State.putLwReg (s : State) (off v : Nat) : State :=
  let f := fibAt off
  let o := off % 0x1000
  if off = 0x10 then s.putCapCtrl v
  else if off = 0x14 ∨ off = 0x18 ∨ off = 0x1C then s.storeIf (!s.on LW_CAP_CTRL_EN) 7 off v
  else if off < 0x1000 ∨ 0x3000 ≤ off then s.store 7 off v
  else if o = 0 then (s.setLwEn f (bit v 0)).clrBit v (.lw f)
  else if o = 8 then s.putMaskCtrl f v
  else if 0x100 ≤ o ∧ o < 0x300 then (s.store 7 off v).armTrig f ((o - 0x100) / 0x10)
  else s.store 7 off v

/-- The stream enables of a fibre, each as its own write (R242, R249). -/
def State.putStreams (s : State) (f v : Nat) : State :=
  if s.on OUT_STATUS_HOLD_VALID then
    (List.range 18).foldl (fun t i => if bit v i = t.strOn (32 * f + i) then t else t.setStreamEn (32 * f + i) (bit v i)) s
  else s
def State.putOutReg (s : State) (off v : Nat) : State :=
  if off = 0 then ((s.setUserEn 0 (bit v 0)).setUserEn 1 (bit v 1)).clrBit v .out
  else if off = 8 then s.putStreams 0 v
  else if off = 0xC then s.putStreams 1 v
  else if off = 0x18 then (if s.streamsOff then s.setHoldBase (v / 4096 % 2 ^ 20 * 4096) (s.get OUT_HOLD_BASE_HI_ADDR) else s)
  else if off = 0x1C then (if s.streamsOff then s.setHoldBase (s.get OUT_HOLD_BASE_LO_ADDR * 4096) (v % 256) else s)
  else s.store 8 off v

/-! ### Lanes and link (R257, R275–R281, R284, R285, R312, R313) -/

def State.putLaneReg (s : State) (off v : Nat) : State :=
  let n : Fin 8 := Fin.ofNat 8 ((off - 0x1000) / 0x100)
  let o := off % 0x100
  if off = 0 then (s.setRate 0 (bit v 0)).setRate 1 (bit v 1)
  else if off < 0x1000 ∨ 0x1800 ≤ off then s.store 9 off v
  else if o = 0 then
    let s1 := (((s.storeM 9 off v 0x1C).applyCtle n).setLaneMode n (bit v 1)).setLaneEn n (bit v 0)
    (if bit v 5 then s1.retrainLane n else s1).clrBit v (.lane n)
  else if o = 0xC then (s.store 9 off v).applyCtle n
  else if o = 0x14 then
    if !s.on (LANE_CTRL_MODE n) then s
    else
      let s0 := s.store 9 off v
      let s1 := if s0.get (LANE_TEST_INJ_RATE n) = s.get (LANE_TEST_INJ_RATE n) then s0 else s0.setLane n fun l => { l with rateAt := s.cyc }
      let s2 := if s1.get (LANE_TEST_PRBS_RX n) = s.get (LANE_TEST_PRBS_RX n) then s1 else s1.prbsRestart n
      if bit v 7 then s2.injectBit n else s2
  else if o = 0x24 then
    let s1 := s.store 9 off v
    let s2 := if bit v 0 then s1.esBegin n else s1
    if bit v 31 then s2.esEnd n else s2
  else s.store 9 off v

/-- LINK_GRPn_CTRL (R285, R303, R313): a configuration that LINK_GROUP would refuse has no effect; WIDTH and ROLE keep their
values while a lane of the group has EN = 1; LOOP is set only while the group is OFF. -/
def State.putGroupReg (s : State) (n : Fin 8) (v : Nat) : State :=
  let w0 := s.get (LINK_GRPn_CTRL_WIDTH n)
  let r0 := s.get (LINK_GRPn_CTRL_ROLE n)
  let w1 := if fld v 1 2 ≤ 2 then fld v 1 2 else w0
  let r1 := if fld v 4 2 ≤ 2 then fld v 4 2 else r0
  let held := s.lanesOn n.val w0 || s.lanesOn n.val w1
  let w := if held then w0 else w1
  let r := if held then r0 else r1
  if !(s.grp[n]).conf || !s.groupOk n.val w r then s
  else ((if s.grpState n = 0 then s.set (LINK_GRPn_CTRL_LOOP n) (fld v 6 1) else s).putGroup n w r (bit v 0))
def State.putLinkReg (s : State) (off v : Nat) : State :=
  if off = 0 then s.clrBit v .link
  else if off = 4 then
    let m := if fld v 0 2 = 3 then s.get LINK_ID_MODE else fld v 0 2
    if s.groupsOff && idOk m (fld v 4 4) then s.setId m (fld v 4 4) else s
  else if 0x1000 ≤ off ∧ off < 0x1800 then
    (if off % 0x100 = 0 then s.putGroupReg (Fin.ofNat 8 ((off - 0x1000) / 0x100)) v else s.storeIf (!s.noGroup off) 10 off v)
  else s.store 10 off v

/-! ### DRAM, memory integrity, time measurement (R385, R396, R411) -/

def State.putDramReg (s : State) (off v : Nat) : State :=
  let ch : Chan := fibAt off
  let o := off % 0x1000
  let down := !s.on (DRAMC_CHSTAT_READY ch)
  if off < 0x1000 ∨ 0x3000 ≤ off then s.store 12 off v
  else if o = 0 then (s.storeIf down 12 off v).clrBit v (.dramc ch)
  else if o = 8 ∨ o = 0xC ∨ o = 0x10 ∨ o = 0x40 ∨ 0x100 ≤ o then s.storeIf down 12 off v
  else if o = 0x18 then s.dramTemp ch (v % 2 ^ 16)
  else if 0x24 ≤ o ∧ o < 0x34 then (s.store 12 off v).panicNow ch ((o - 0x24) / 4)
  else if o = 0x34 then (if bit v 31 then (s.store 12 off v).mrsGo ch else s.store 12 off v)
  else if o = 0x38 then (if bit v 31 then (s.store 12 off v).trnStart ch else s.store 12 off v)
  else if o = 0x54 then (if bit v 0 then (s.store 12 off v).fillGo ch else s.store 12 off v)
  else s.store 12 off v

def State.putScrubReg (s : State) (off v : Nat) : State :=
  if off = 0 then
    let s1 := if bit v 0 then s.scrubGo else s
    (if bit v 1 then s1.scrubAbort else s1).clrBit v .scrub
  else if 8 ≤ off ∧ off < 0x18 then s.storeIf (!s.on SCRUB_STATUS_BUSY) 13 off v
  else s.store 13 off v

def State.putTdcReg (s : State) (off v : Nat) : State :=
  let c := (off - 0x1000) / 0x100
  let n : Fin 8 := Fin.ofNat 8 c
  let o := off % 0x100
  if off < 0x1000 then s.store 14 off v
  else if 0x8000 ≤ off then s.storeIf (decide ((off - 0x8000) / 0x800 < 9) && !s.ipInUse ((off - 0x8000) / 0x800)) 14 off v
  else if 4 ≤ c then s
  else if o = 0 then
    let s1 := if s.tdcMode n = 0 then s.storeM 14 off v (full - 3) else s
    let m := fld v 0 2
    (if m = 3 ∨ (m ≠ 0 ∧ s.tdcMode n = 0 ∧ s.tdcTaken n ≠ 0) then s1 else s1.setTdcMode n m).clrBit v (.tdc (Fin.ofNat 4 c))
  else if (o = 4 ∧ s.get (TDC_CHn_WIN_CLOSE_CLOSE n) < fld v 0 24) ∨ (o = 8 ∧ fld v 0 24 < s.get (TDC_CHn_WIN_OPEN_OPEN n)) then s
  else s.storeIf (s.tdcMode n == 0) 14 off v

/-! ### Housekeeping, calibration, emitters (R415, R416, R424, R431, R443, R450, R453) -/

/-- A slot's CFG and IN words as stored, each subfield kept where the value is not allowed (R416, R506). -/
def slotCfg (old v : Nat) : Nat :=
  fld v 0 16 + (if fld v 16 10 = 0 then fld old 16 10 else fld v 16 10) * 2 ^ 16 + fld v 31 1 * 2 ^ 31
def slotHalf (old v : Nat) : Nat :=
  let typ := if fld v 0 3 ≤ 4 then fld v 0 3 else fld old 0 3
  typ + (if fld v 3 5 < hkSelEnd typ then fld v 3 5 else fld old 3 5) * 8 + fld v 8 2 * 2 ^ 8 + (if fld v 10 3 ≤ 4 then fld v 10 3 else fld old 10 3) * 2 ^ 10
def slotIn (old v : Nat) : Nat := slotHalf (fld old 0 16) (fld v 0 16) + slotHalf (fld old 16 16) (fld v 16 16) * 2 ^ 16
def State.putHkReg (s : State) (off v : Nat) : State :=
  let word := fun (old : Nat) => if off % 8 = 0 then slotCfg old v else slotIn old v
  if off = 0 then
    let s1 := s.storeM 15 off v (0x30 + if s.hkRegStopped && s.hkInjIdle then 4 else 0)
    let s2 := s1.setHkMode (fld v 0 2)
    (if bit v 3 then s2.hkGo else s2).clrBit v .hk
  else if off = 8 then s.storeM 15 off v ((if s.hkRegStopped then 1 else 0) + if s.hkInjIdle then 0x100 else 0)
  else if off = 0x18 then
    (List.range 4).foldl (fun t k => if bit v (8 + k) then t.rearm k else t) (s.setRtdEn (fld v 0 4))
  else if 0x100 ≤ off ∧ off < 0x200 then (if s.hkRegStopped then s.store 15 off (word (s.rawReg 15 off)) else s)
  else if 0x200 ≤ off ∧ off < 0x220 then (if s.hkInjIdle then s.store 15 off (word (s.rawReg 15 off)) else s)
  else if 0x1000 ≤ off ∧ off < 0x1900 then
    let a : Fin 72 := Fin.ofNat 72 ((off - 0x1000) / 0x20)
    let s1 := s.store 15 off v
    let s2 := if off % 0x20 = 0x14 ∨ off % 0x20 = 0x18 ∨ off % 0x20 = 0x1C then s1.set (HK_ACCa_CTRL_OUT a) 0 else s1
    if off % 0x20 = 0x1C ∧ bit v 0 then s2.accClear a else s2
  else s.store 15 off v

def State.putCalReg (s : State) (off v : Nat) : State :=
  let f := fibAt off
  let o := off % 0x1000
  let idle := s.calState f == 0
  if off < 0x1000 ∨ 0x3000 ≤ off then s.store 16 off v
  else if o = 0 then
    let s1 := s.store 16 off v
    let s2 := if bit v 3 then s1.calRequest f else s1
    let s3 := if bit v 4 then s2.calAbort f else s2
    (s3.calTemp f).clrBit v (.cal f)
  else if o = 4 ∨ o = 8 then s.storeIf idle 16 off v
  else if 0x30 ≤ o ∧ o < 0x6C then
    (if idle && s.seqState f == 0 then ((s.store 16 off v).set (CAL_APPLIED_SHOT f) 0).set (CAL_STAT_VALID f) 0 else s)
  else s.store 16 off v

def State.putEmitReg (s : State) (off v : Nat) : State :=
  if off = 0xC then s.clrBit v .emit
  else if 0x100 ≤ off ∧ off < 0x140 ∧ off % 0x10 = 0 then s.putSink (Fin.ofNat 4 ((off - 0x100) / 0x10)) v
  else if off = 0x200 then
    let s1 := if bit v 0 = s.on DCH_CTRL_EN then s else s.setChain (bit v 0)
    if bit v 1 then s1.chainGo else s1
  else if off = 0x204 ∨ (0x210 ≤ off ∧ off < 0x230) then s.storeIf (!s.on DCH_STATUS_BUSY) 17 off v
  else s.store 17 off v

/-! ### Performance counters, power, management (R345, R480, R482, R484, R485, R475) -/

/-- PMON_CNTk_CTRL, while its EN = 0: a reserved EVENT keeps the old one, a combination of R478's "No" has no effect. -/
def State.putCounter (s : State) (k v : Nat) : State :=
  let e := if pmonEvents.contains (fld v 0 8) then fld v 0 8 else s.get (PMON_CNTk_CTRL_EVENT k)
  let w := v / 256 * 256 + e
  if s.on (PMON_CNTk_CTRL_EN k) || !pmonCtlOk w then s else s.pmonPut k w
def State.putPmonReg (s : State) (off v : Nat) : State :=
  if off = 0 then ((if bit v 1 then s.pmonClear else s).store 19 off v)
  else if off = 0x10 then (if bit v 0 then s.snapGo else s)
  else if off = 0x20 then
    let s1 := if s.on PMON_STATUS_BW_BUSY then (if bit v 24 then s else s.set PMON_BW_CTRL_CONT 0) else s.store 19 off v
    if bit v 31 then s1.bwGo else s1
  else if 0x100 ≤ off ∧ off < 0x180 ∧ off % 0x10 = 0 then s.putCounter ((off - 0x100) / 0x10) v
  else s.store 19 off v

def State.putPwrReg (s : State) (off v : Nat) : State :=
  if off = 0 then
    let s1 := s.store 18 off v
    let s2 := if bit v 8 then s1.pwrGo true else s1
    (if bit v 9 then s2.pwrGo false else s2).clrBit v .pwr
  else s.store 18 off v

/-- MGMT_WDT is written by the management processor alone, and a write restarts the watchdog (R345). -/
def State.putWdt (s : State) (m : Master) (v : Nat) : State :=
  if m = .mgmt then (s.store 20 0x10 v).setMgmt fun g => { g with wdtDue := some (s.cyc + msCyc (v % 2 ^ 16)) } else s

/-! ### One write -/

/-- Write a register of a reachable block. -/
def State.writeReg (s : State) (m : Master) (blk off v : Nat) : State :=
  match blk with
  | 1 => s.putSeqReg off v
  | 2 => s.putRxfReg m off v
  | 3 => s.putPrismReg off v
  | 4 => s.putPfilReg off v
  | 5 => s.putEngReg off v
  | 6 => s.putBrilReg off v
  | 7 => s.putLwReg off v
  | 8 => s.putOutReg off v
  | 9 => s.putLaneReg off v
  | 10 => s.putLinkReg off v
  | 11 => (s.store 11 off v).clrBit (if off = 0 then v else 0) .cmd
  | 12 => s.putDramReg off v
  | 13 => s.putScrubReg off v
  | 14 => s.putTdcReg off v
  | 15 => s.putHkReg off v
  | 16 => s.putCalReg off v
  | 17 => s.putEmitReg off v
  | 18 => s.putPwrReg off v
  | 19 => s.putPmonReg off v
  | 20 => if off = 0x10 then s.putWdt m v else s.store 20 off v
  | b => s.store b off v

/-- A write of one master to a register window (R5, R20, R22, R390); elsewhere only an address that takes no write counts. -/
def State.windowWrite (s : State) (m : Master) (a bytes v : Nat) : State :=
  match regionOf a with
  | .window blk off =>
    if !s.mayAccess m true a then s.addrErr m a
    else if bytes ≠ 4 ∨ a % 4 ≠ 0 then s.raise SYS_STATUS_ACC_ERR 1
    else if !s.reach blk then s.raise SYS_STATUS_ACC_ERR 1
    else if blk = 2 ∧ rxfMem off then s.writeReg m blk off v
    else ((s.release m).pmonIo m true 4).writeReg m blk off v
  | _ => if s.mayAccess m true a then s else s.addrErr m a
/-- REGISTER_WRITE (R8, R506): a write to memory is no register write. -/
def execRegisterWrite (m : Master) (addr : BitVec 40) (bytes : Nat) (value : BitVec 32) (s : State) : Host.Outcome State Fault Refusal :=
  .next (s.windowWrite m addr.toNat bytes value.toNat)

end Sys2Proof.Machine
end

