-- ==== Sys2Proof/Machine/Cmd.lean ====
section
/-! DEFINITION. READ_REG and WRITE_REG, and the time limit of commands (R325, R322, R330, R331, R20, R457). -/

namespace Sys2Proof.Machine
open Reg

/-! ### Access to a range of words (R20, R330, R457) -/

/-- The start address that P0 and P1 give. -/
def addrP (ps : List Nat) : Nat := par ps 0 + fld (par ps 1) 0 8 * 2 ^ 32
/-- The first word of a range that the command interface may not access in a direction; a misaligned start is itself one. -/
def State.badWord (s : State) (write : Bool) (a n : Nat) : Option Nat :=
  if a % 4 ≠ 0 then some a
  else ((List.range n).map fun i => a + 4 * i).find? fun b => decide (2 ^ 40 ≤ b) || !s.mayAccess .cmd write b
/-- What holds an address is powered, and clocked where it needs clk_fab. -/
def State.memUp (s : State) (a : Nat) : Bool :=
  match regionOf a with
  | .rom => true
  | .mgmtSram => s.domainOn 1
  | .window blk _ => s.reach blk
  | .dram _ _ => s.domainOn 5 && s.fabRuns
  | .unassigned => true
  | _ => s.domainOn 2 && s.fabRuns
def State.rangeUp (s : State) (a n : Nat) : Bool := (List.range n).all fun i => s.memUp (a + 4 * i)

/-- Read one 32-bit word as the command interface or the management processor: its value and whether it is uncorrectable. -/
def State.readAny (s : State) (m : Master) (a : Nat) : (Nat × Bool) × State :=
  match regionOf a with
  | .window blk off =>
    if blk = 2 ∧ rxfMem off then
      let r := s.readMem m (a / 8 * 8)
      ((r.1.1 / 2 ^ (8 * (a % 8)) % 2 ^ 32, r.1.2), r.2)
    else
      let r := (s.pmonIo m false 4).readReg blk off
      ((r.1, false), r.2)
  | _ =>
    let r := s.readMem m (a / 8 * 8)
    ((r.1.1 / 2 ^ (8 * (a % 8)) % 2 ^ 32, r.1.2), r.2)
/-- Read words in ascending order: the words, and the address of the first uncorrectable one. -/
def State.readAnys (s : State) (m : Master) (a n : Nat) : (List Nat × Option Nat) × State :=
  (List.range n).foldl (fun (p : (List Nat × Option Nat) × State) i =>
    let r := p.2.readAny m (a + 4 * i)
    ((p.1.1 ++ [r.1.1], if r.1.2 then p.1.2.orElse (fun _ => some (a + 4 * i)) else p.1.2), r.2)) (([], none), s)
/-- Write one 32-bit word; a write to DRAM or a register releases a held half (R390), and one to an instruction memory has
effect only while its kernel may be replaced (R32, R158, R174). -/
def State.writeAny (s : State) (m : Master) (a v : Nat) : State :=
  match regionOf a with
  | .window _ _ => s.windowWrite m a 4 v
  | .dram _ _ => (s.release m).writeDram m a (bytesLE 4 v)
  | _ => if s.imemOpen a then (s.write32 m a v).replaceKernel a else s
/-- Write words in ascending order. -/
def State.writeAnys (s : State) (m : Master) (a : Nat) (ws : List Nat) : State :=
  (ws.zipIdx.foldl (fun (t : State) w => t.writeAny m (a + 4 * w.2) w.1) s)

/-! ### READ_REG and WRITE_REG (R330, R331) -/

def regRead (s : State) (ps : List Nat) : CmdRes :=
  let a := addrP ps
  let n := par ps 2
  if n = 0 ∨ 1024 < n then .bad
  else match s.badWord false a n with
    | some b => .done stBadParam [] (s.addrErr .cmd b)
    | none =>
      if !s.rangeUp a n then .notReady
      else
        let r := s.readAnys .cmd a n
        match r.1.2 with
        | some b => .done stFault [lo32 b, fld b 32 8] r.2
        | none => .done stOk r.1.1 r.2
/-- READ_REG (R330, R331). -/
def execReadReg (c : CmdIn) (s : State) : Host.Outcome State Fault Refusal :=
  .next (runCmd 0x03 0 (fun _ => [full, 0xFF, full]) regRead c s)

/-- A word of the write enables a stream while no holding area is set up (R249). -/
def State.writesStreams (s : State) (a : Nat) (ws : List Nat) : Bool :=
  !s.on OUT_STATUS_HOLD_VALID && ws.zipIdx.any fun w => a + 4 * w.2 == 0x40080008 || a + 4 * w.2 == 0x4008000C
/-- A word of the write sets RAY_EN in REDUCED (R464). -/
def State.writesRay (s : State) (a : Nat) (ws : List Nat) : Bool :=
  ws.zipIdx.any fun w => (a + 4 * w.2 == 0x40021000 || a + 4 * w.2 == 0x40022000) && s.rayBarred (bit w.1 0)
    && s.seqState (if a + 4 * w.2 == 0x40021000 then 0 else 1) == 0
/-- A word lies in the instruction memory of an engine that does not run, and R32 bars replacing its kernel (log entry 63). -/
def State.kernelBarred (s : State) (a : Nat) : Bool := match imemOf a with | some k => s.engState k != engRunning && !s.kernelFree k | none => false
/-- Why words may not be written: something cannot be reached, or a condition of a register or a memory does not hold. -/
def State.writeBar (s : State) (a : Nat) (ws : List Nat) : Option Nat :=
  if !s.rangeUp a ws.length || s.writesStreams a ws then some stNotReady
  else if s.writesRay a ws || (List.range ws.length).any fun i => s.kernelBarred (a + 4 * i) then some stDenied else none
def regWrite (s : State) (ps : List Nat) : CmdRes :=
  let a := addrP ps
  let n := par ps 2
  let ws := ps.drop 3
  if n = 0 ∨ 497 < n then .bad
  else match s.badWord true a n with
    | some b => .done stBadParam [] (s.addrErr .cmd b)
    | none =>
      match s.writeBar a ws with
      | some st => .done st [] s
      | none => .ok (s.writeAnys .cmd a ws)
/-- WRITE_REG (R330, R249, R464, R32). -/
def execWriteReg (c : CmdIn) (s : State) : Host.Outcome State Fault Refusal :=
  .next (runCmd 0x04 0 (fun ps => [full, 0xFF, full] ++ List.replicate (min (par ps 2) 497) full) regWrite c s)

/-! ### COMMAND_TIMEOUT (R325, R322) -/

/-- Withdraw what the command in execution waits for: its epoch, mask fill, drive chain transfer or counter samples. -/
def State.withdraw (s : State) (p : CmdPkt) : State :=
  let s1 := if s.trk.epochTo = some p then s.setTrk fun t => { t with epochReq := none, epochTo := none } else s
  let s2 := [(0 : Fib), 1].foldl (fun (t : State) f => match t.lw[f].fill with
    | some (q, _, _) => if q = p then t.setLw f fun w => { w with fill := none } else t
    | none => t) s1
  let s3 := if s2.emit.dchTo = some p then s2.setEmit fun e => { e with dchTo := none } else s2
  if s3.pmon.read.any (·.1 == p) then s3.setPmon fun r => { r with read := none } else s3
/-- What a progressive command leaves: the words before the one in progress (R322). -/
def State.progress (s : State) (p : CmdPkt) (written : Nat) : List Nat × State :=
  let ps := p.ps.map (·.toNat)
  if p.op = 0x04 then ([min written (ps.drop 3).length], s.writeAnys .cmd (addrP ps) ((ps.drop 3).take written))
  else if p.op = 0x53 then
    let a := engMem (par ps 1) (par ps 2) + 4 * par ps 3
    ([min written (ps.drop 5).length], if written = 0 then s else (s.firmwareWrite a ((ps.drop 5).take written)).replaceKernel a)
  else ([], s)
/-- COMMAND_TIMEOUT: the limit of the command in execution has expired; of a progressive command, `written` words are
written. -/
def execCommandTimeout (written : Nat) (s : State) : Host.Outcome State Fault Refusal :=
  .next (match s.cmd.exec with
    | some p =>
      if s.domainOn 1 && s.past (s.cmd.execAt + msCyc s.cmd.execTmo) then
        let r := (s.withdraw p).progress p written
        let s1 := (r.2.inc CMD_TMO_CNT_COUNT).raise CMD_FLAGS_TIMEOUT 1
        (s1.answer p.src p.op.toNat stTimeout p.tag.toNat 0 r.1).retire p.src p.op.toNat p.tag.toNat
      else s
    | none => s)

end Sys2Proof.Machine
end

