-- ==== Sys2Proof/Machine/Boot.lean ====
section
/-! DEFINITION. Boot: the boot ROM's phases, INIT, the work deferred until clk_fab runs, and the restoration after a wake
from STANDBY (R341–R349, R457, R459, R469, R473). -/

namespace Sys2Proof.Machine
open Reg

/-- The device enters a phase; before INIT the boot ROM sends one monitor line for it (R343, R360). -/
def State.enterPhase (s : State) (p : Nat) : State := (s.set MGMT_STATUS_PHASE p).setMgmt fun m => { m with bootLines := m.bootLines ++ [p] }
/-- The device enters phase FAULT; the monitor line states the reason: 5, the flash is not accepted, or 6, no image is valid
(R341, R344, R360). -/
def State.enterFault (s : State) (why : Nat) : State := (s.set MGMT_STATUS_PHASE 5).setMgmt fun m => { m with bootLines := m.bootLines ++ [why] }
/-- Whole words of a region written with values the spec does not give (R389; log entry 3). -/
def State.writeOpen (s : State) (a n : Nat) : State :=
  { s.writeRange a ((List.range n).map (Config.unwrittenByte s.freeCtr)) with freeCtr := s.freeCtr + 1 }

/-! ### ROM and CONFIG (R341, R347, R348, R456, R473) -/

/-- The flash is accepted (R341). -/
def flashAccepted (b : BootIn) : Bool := b.sfdp && decide (4096 ≤ b.kib) && b.erase4k && decide (256 ≤ b.page)
/-- The mode of each I/O bank, 3.3 V above 2.6 V, is selected at the release of power-on reset and holds until the next (R490). -/
def State.selectBanks (s : State) (b : BootIn) : State :=
  if s.pwr.io.isSome then s else s.setPwr fun p => { p with io := some (decide (2600 < b.vioA), decide (2600 < b.vioB)) }
/-- BOOT: the management PLL locks, the boot ROM writes management SRAM and reads the flash's SFDP table, and CONFIG or
FAULT is entered. -/
def execBoot (b : BootIn) (s : State) : Host.Outcome State Fault Refusal :=
  .next (if s.on SYS_CLK_STATUS_MGMT_LOCK then s else
    let s1 := (((s.selectBanks b).set SYS_CLK_STATUS_MGMT_LOCK 1).setB SYS_CLK_STATUS_REFCLK_SMP_OK b.refclk).set MGMT_FLASH_ID_JEDEC_ID b.jedec.toNat
    let s2 := (s1.set MGMT_FLASH_SIZE_KIB (if b.sfdp then b.kib else 0)).writeOpen 0x100000 0x100000
    if flashAccepted b then (s2.setMgmt fun m => { m with flashOk := true, flash4 := b.addr4, flashQuad := b.quad }).enterPhase 1
    else s2.enterFault 5)

/-- The words of a configuration slot. -/
def State.slotWords (s : State) (k first n : Nat) : List Nat := s.flashWords (0x10000 * (k + 1) + 4 * first) n
def cfgMagic : Nat := 0x47464352
/-- A record's LEN, where it lies within a slot of 64 KiB and is that of a whole number of entries (R347). -/
def cfgLenOk (len : Nat) : Bool := len % 4 == 0 && decide (100 ≤ len) && decide (len ≤ 65536) && (len / 4 - 25) % 3 == 0
/-- The record that a list of words begins with is well formed: LEN, FORMAT and check word (R347). -/
def cfgOk (ws : List Nat) : Bool :=
  let n := ws.getD 2 0 / 4
  cfgLenOk (ws.getD 2 0) && ws.getD 3 0 == 1 && decide (n ≤ ws.length) && crc32 (wordsLE (ws.take (n - 1))) == ws.getD (n - 1) 0
/-- The factory defaults as a record (R348). -/
def factoryRecord : List Nat :=
  let ws := [cfgMagic, 0, 100, 1, 0, 0] ++ List.replicate 8 0 ++ [100, 0, 0, 0x30, 1200, 1, 0, 0, 0, 0]
  ws ++ [crc32 (wordsLE ws)]
/-- The slot that the boot ROM takes (R348). -/
def State.cfgSlot (s : State) : Option Nat :=
  let m := fun k => (s.slotWords k 0 1).getD 0 0 == cfgMagic
  let gen := fun k => (s.slotWords k 1 1).getD 0 0
  if m 0 && m 1 then (if 0 < signedOf 32 ((gen 1 + 2 ^ 32 - gen 0) % 2 ^ 32) then some 1 else some 0)
  else if m 0 then some 0 else if m 1 then some 1 else none
/-- Load a record. -/
def State.loadRecord (s : State) (ws : List Nat) (slot : Option Nat) : State :=
  s.setMgmt fun m => { m with record := ws.map (BitVec.ofNat 32), recSlot := slot }
/-- Load the factory defaults; the event names the failing slot, or no slot (all ones, GEN 0). -/
def State.loadDefaults (s : State) (k gen : Nat) : State :=
  ((s.loadRecord factoryRecord none).set SYS_STATUS_CFG_DEFAULTED 1).logEvent 0x1401 3 k gen
/-- CONFIG_LOAD (R348). -/
def execConfigLoad (s : State) : Host.Outcome State Fault Refusal :=
  .next (if s.get MGMT_STATUS_PHASE ≠ 1 then s else
    (match s.cfgSlot with
      | some k =>
        let ws := s.slotWords k 0 16384
        if cfgOk ws then s.loadRecord (ws.take (ws.getD 2 0 / 4)) (some k) else s.loadDefaults k (ws.getD 1 0)
      | none => s.loadDefaults 0xFFFFFFFF 0).enterPhase 2)

/-! ### IMAGE (R344, R346) -/

/-- Log ROLLBACK to an image, for reason 1 (trial exhausted) or 2 (not valid). -/
def State.rollback (s : State) (img why : Nat) : State := (s.raise MGMT_FLAGS_ROLLBACK 1).logEvent 0x1403 3 img why
/-- The first half of the choice: a trial counts down, or is exhausted. PREF, TRIAL and TRIES as they stand then. -/
def State.trialBoot (s : State) : (Nat × Nat × Nat) × State :=
  let r := s.selFlags
  if r.2.1 = 0 then (r, s)
  else if r.2.2 = 0 then
    let q := (1 - r.1, 0, 0)
    (q, (s.rollback (1 - r.1) 1).selWrite q)
  else
    let q := (r.1, 1, r.2.2 - 1)
    (q, s.selWrite q)
/-- Load an image, arm the watchdog for 1,000 ms and enter INIT. -/
def State.startImage (s : State) (r : Nat × Nat × Nat) : State :=
  let img := r.1
  let s1 := s.writeRange 0x100000 (s.flashGet (imageBase img) (256 + s.imageWord img 2))
  (((((s1.set MGMT_STATUS_IMAGE img).set MGMT_STATUS_TRIAL r.2.1).set MGMT_STATUS_TRIES r.2.2).set MGMT_FW_VERSION_VERSION (s.imageWord img 3)).setMgmt fun m =>
    { m with wdtDue := some (s.cyc + msCyc 1000) }).enterPhase 3
/-- IMAGE_LOAD. -/
def execImageLoad (s : State) : Host.Outcome State Fault Refusal :=
  .next (if s.get MGMT_STATUS_PHASE ≠ 2 then s else
    let s1 := (s.setB MGMT_STATUS_IMG_VALID_A (s.imageFault 0 == 0)).setB MGMT_STATUS_IMG_VALID_B (s.imageFault 1 == 0)
    let (r, s2) := s1.trialBoot
    if s.imageFault r.1 = 0 then s2.startImage r
    else if s.imageFault (1 - r.1) ≠ 0 then s2.enterFault 6
    else
      let q := (1 - r.1, 0, r.2.2)
      ((s2.rollback (1 - r.1) 2).selWrite q).startImage q)

/-! ### INIT (R102, R349, R357, R382, R389, R406) -/

/-- Word `i` of the loaded record. -/
def State.recWord (s : State) (i : Nat) : Nat := (s.mgmt.record.getD i 0).toNat
/-- Groups of three. -/
def triples : List Nat → List (Nat × Nat × Nat)
  | a :: b :: c :: t => (a, b, c) :: triples t
  | _ => []
/-- The entries of the loaded record: index, address and value. -/
def State.cfgEntries (s : State) : List (Nat × Nat × Nat) :=
  let body := ((s.mgmt.record.map (·.toNat)).drop 24).dropLast
  (triples body).zipIdx.map fun e => (e.2, e.1.1 + fld e.1.2.1 0 8 * 2 ^ 32, e.1.2.2)
/-- What lies at an address needs clk_fab (R457). -/
def needsFab (a : Nat) : Bool :=
  match regionOf a with
  | .window blk _ => decide (1 < domainOf blk)
  | .rom => false
  | .mgmtSram => false
  | .unassigned => false
  | _ => true
/-- The power domain of a window or an SRAM word (R458). -/
def domainAt (a : Nat) : Nat :=
  match regionOf a with
  | .window blk _ => domainOf blk
  | .rom => 1
  | .mgmtSram => 1
  | .dram _ _ => 5
  | .unassigned => 0
  | _ => 2
/-- One entry: a one-word write by master 0x10, or skipped and logged where WRITE_REG would refuse its address (R349). -/
def State.cfgEntry (s : State) (e : Nat × Nat × Nat) : State :=
  if e.2.1 % 4 ≠ 0 ∨ !s.mayAccess .cmd true e.2.1 then (s.raise MGMT_FLAGS_CFG_ENTRY_ERR 1).logEvent 0x1402 2 (lo32 e.2.1) e.1
  else s.writeAny .mgmt e.2.1 e.2.2
/-- The entries that a test picks, in record order. -/
def State.applyEntries (s : State) (p : Nat → Bool) : State :=
  ((s.cfgEntries.filter fun e => p e.2.1).foldl (fun (t : State) e => t.cfgEntry e) s).release .mgmt
/-- Step 1 of R349: the fixed words, those of PD_LANE only with clk_fab. -/
def State.fixedLane (s : State) : State :=
  (s.windowWrite .mgmt 0x400A0004 4 (s.recWord 4)).windowWrite .mgmt 0x40090000 4 (s.recWord 5)
def State.fixedWords (s : State) : State :=
  ((((s.windowWrite .mgmt 0x400B0008 4 (s.recWord 14)).windowWrite .mgmt 0x40140070 4 (s.recWord 17)).windowWrite .mgmt 0x4014001C 4 (s.recWord 18))).setMgmt
    fun m => { m with baud := s.recWord 15 % 8 }
/-- Step 3 of R349: the default kernels of DE0–DE13. -/
def State.engAuto (s : State) : State :=
  if bit (s.recWord 19) 0 then
    (List.range 14).foldl (fun (t : State) k =>
      let u := if t.kernelFree k then t.loadDefault (Fin.ofNat 16 k) else t
      if u.engState k = engRunning then u else u.startEngine (Fin.ofNat 16 k)) s
  else s
/-- DRAM bring-up begins on each enabled channel, both in parallel (R382). -/
def State.dramStart (s : State) : State :=
  let s1 := if s.on (DRAMC_CONFIG_EN 0) then (s.set (DRAMC_CHSTAT_TRAINING 0) 1).set SYS_CLK_STATUS_DDR_LOCK_DA 1 else s
  if s.on (DRAMC_CONFIG_EN 1) then (s1.set (DRAMC_CHSTAT_TRAINING 1) 1).set SYS_CLK_STATUS_DDR_LOCK_DB 1 else s1
/-- Step 4 of R349: the groups of words 6–13 that R285 allows are configured and enabled. -/
def State.cfgGroups (s : State) : State :=
  allLanes.foldl (fun (t : State) (n : Fin 8) =>
    let w := s.recWord (6 + n.val)
    if w ≠ 0 ∧ t.groupOk n.val (fld w 1 2) (fld w 4 2) then
      ((t.set (LINK_GRPn_CTRL_LOOP n) (fld w 6 1)).putGroup n (fld w 1 2) (fld w 4 2) true)
    else t) s
/-- The boot firmware's writes to memories that need clk_fab: stair tables and code memory as zero (R102), the stream,
compressor and snapshot buffers with open values (R389). -/
def State.bootMemory (s : State) : State :=
  (([0, 1] : List Nat).foldl (fun (t : State) f =>
    (t.firmwareWrite (stairAddr f 0) (List.replicate 16 0)).firmwareWrite (codeAddr f 0) (List.replicate 256 0)) s).writeOpen 0x2800000 0x400000
/-- INIT's work that needs clk_fab, in the order of R349 and R457; `pick` names the entries still to apply. The galleries and
the interpolators are prepared as well (R343, R406). -/
def State.coreInit (s : State) (pick : Nat → Bool) : State :=
  let s1 := (((s.bootMemory.fixedLane).applyEntries pick).engAuto).dramStart
  ((((s1.startGal 0 .init).startGal 1 .init).tdcCalibrate 0x1FF).cfgGroups).set SYS_STATUS_CORE_WAIT 0

/-- Lifetime counts at boot: the record found in flash and this boot, with what was counted since the reset (R358). -/
def State.lifeBoot (s : State) : State :=
  let cause := s.get SYS_RST_CAUSE_CAUSE
  let base := s.lifeLatest.getD (List.replicate 63 0)
  let early := s.mgmt.life
  let boot := [(1, (cause == 1).toNat), (2, 1), (46, (cause == 4).toNat), (47, s.get MGMT_FLAGS_ROLLBACK)]
  let sum := (List.range 63).map fun i =>
    if i = 0 ∨ i = 22 ∨ i = 23 then base.getD i 0
    else min (base.getD i 0 + early.getD i 0 + ((boot.filter fun b => b.1 == i).map (·.2)).sum) 0xFFFFFFFF
  (s.setB MGMT_STATUS_LIFE_VALID s.lifeLatest.isSome).setMgmt fun m => { m with life := sum, lifeDue := s.cyc + msCyc 600000 }
/-- Enter the records held since the reset, with their original time; LSEQ and BOOT are given now (R343, R354). -/
def State.enterEarly (s : State) : State :=
  (s.mgmt.early.foldl (fun (t : State) r =>
    let ws := r.map (·.toNat)
    t.logEnter ((ws.set 0 (t.get MGMT_LOG_SEQ_NEXT)).set 7 (ws.getD 7 0 % 2 ^ 16 + t.mgmt.life.getD 2 0 % 2 ^ 16 * 2 ^ 16)) (fld (ws.getD 1 0) 16 3)) s).setMgmt
    fun m => { m with early := [] }
/-- The events of the boot itself (R356). -/
def State.logBoot (s : State) : State :=
  let cause := s.get SYS_RST_CAUSE_CAUSE
  let s1 := s.logEvent 0x0001 1 (cause + s.get MGMT_STATUS_IMAGE * 2 ^ 8) (s.get MGMT_FW_VERSION_VERSION / 2 ^ 16)
  if cause = 4 then s1.logEvent 0x1404 3 0 0 else s1
/-- CONFIG_APPLY: INIT's work, and READY; what needs clk_fab waits for it (R349, R457). -/
def execConfigApply (s : State) : Host.Outcome State Fault Refusal :=
  .next (if s.get MGMT_STATUS_PHASE ≠ 3 then s else
    let s1 := ((s.lifeBoot.enterEarly.logBoot).fixedWords).writeRange 0x1E0000 (wordsLE (s.mgmt.record.map (·.toNat)))
    let s2 := if s.fabRuns then s1.coreInit fun _ => true
      else ((s1.applyEntries fun a => !needsFab a).set SYS_STATUS_CORE_WAIT 1).setMgmt fun m => { m with deferred := true }
    s2.enterPhase 4)

/-! ### Wake from STANDBY, and deferred work (R457, R459, R469) -/

/-- Bring back a channel whose DRAM kept its contents in self-refresh: configuration, delays and modes from the retention
store, without training. -/
def State.restoreChannel (s : State) (ch : Chan) : State :=
  let r := s.pwr.retained.getD ch.val []
  if r.isEmpty then s
  else
    let s1 := (s.storeM 12 (0x1000 + 0x1000 * ch.val) (r.getD 0 0) 0xFF).restoreDelays ch r
    (s1.set (if ch = 0 then SYS_CLK_STATUS_DDR_LOCK_DA else SYS_CLK_STATUS_DDR_LOCK_DB) 1).channelUp ch
/-- What firmware applies again once PD_CORE, PD_RX and PD_DDR are back: DRAM, lanes, their entries and ENG_AUTO. -/
def State.wakeWork (s : State) : State :=
  let s1 := (((s.applyEntries fun a => domainAt a == 5).restoreChannel 0).restoreChannel 1).exitGroups
  ((s1.applyEntries fun a => domainAt a == 2 || domainAt a == 3).engAuto).set SYS_STATUS_CORE_WAIT 0
/-- WAKE_RESTORE_COMPLETE: the wake in progress ends in ACTIVE; without clk_fab firmware's part is deferred. -/
def execWakeRestoreComplete (s : State) : Host.Outcome State Fault Refusal :=
  .next (if s.pwr.change = some .wake then
    let s1 := if s.fabRuns then s.wakeWork else (s.set SYS_STATUS_CORE_WAIT 1).setMgmt fun m => { m with deferWake := true }
    (s1.set PWR_STATUS_STATE 0).pwrDone
  else s)
/-- DEFERRED_INIT_WORK: clk_fab runs, and firmware makes up for what it deferred. -/
def execDeferredInitWork (s : State) : Host.Outcome State Fault Refusal :=
  .next (if !s.fabRuns || !s.domainOn 1 then s
    else if s.mgmt.deferred then (s.coreInit needsFab).setMgmt fun m => { m with deferred := false, deferWake := false }
    else if s.mgmt.deferWake then s.wakeWork.setMgmt fun m => { m with deferWake := false }
    else s)

/-! ### The watchdog (R345) -/

/-- WATCHDOG_EXPIRY. -/
def execWatchdogExpiry (s : State) : Host.Outcome State Fault Refusal :=
  .next (match s.mgmt.wdtDue with
    | some t => if s.domainOn 1 && s.past t then s.fullReset 4 else s
    | none => s)
/-- MGMT_WDT_WRITE: of any master but 0x10 it has no effect. -/
def execMgmtWdtWrite (m : Master) (value : BitVec 32) (s : State) : Host.Outcome State Fault Refusal :=
  .next (s.windowWrite m 0x40140010 4 value.toNat)

end Sys2Proof.Machine
end

