-- ==== Sys2Proof/Machine/Mgmt.lean ====
section
/-! DEFINITION. Management: configuration commits, firmware updates, the event log and lifetime records, sensors, coil
temperatures, and the management opcodes (R350–R359, R365, R429). -/

namespace Sys2Proof.Machine
open Reg

/-- The firmware of master 0x10 runs (R343). -/
def State.firmwareRuns (s : State) : Bool := s.domainOn 1 && (s.get MGMT_STATUS_PHASE == 3 || s.get MGMT_STATUS_PHASE == 4)
/-- Firmware performs a full reset as for the RESET command (R388). -/
def State.selfReset (s : State) : State := (s.setCmd fun c => { c with resetting := true }).armReset
/-- Words that firmware reads from management SRAM; an uncorrectable one makes it reset the device (R388). -/
def State.sramRead (s : State) (a n : Nat) (k : List Nat → State → CmdRes) : CmdRes :=
  let r := s.readWords .mgmt a n
  match r.1.2 with
  | some _ => .done stFault [] r.2.selfReset
  | none => k r.1.1 r.2

/-! ### Configuration (R347, R350, R351, R365) -/

def stagingImage : Nat := 0x1E0000
/-- A word of the factory defaults' region (log entry 18). -/
def factoryWord (i : Nat) : Nat := if i < 25 then factoryRecord.getD i 0 else Config.factoryPad i % 2 ^ 32
/-- A host flash operation runs (R351). -/
def State.flashBusy (s : State) : Bool := s.on MGMT_STATUS_CFG_BUSY || s.on MGMT_STATUS_UPD_BUSY
def cfgReadBody (s : State) (ps : List Nat) : CmdRes :=
  let src := par ps 0
  let first := par ps 1
  let n := par ps 2
  if 3 < src ∨ n = 0 ∨ 1024 < n ∨ 16384 < first + n then .bad
  else if (src = 1 ∨ src = 2) ∧ s.mgmt.commit = some (src - 1) then .denied
  else if src = 0 then
    let r := s.readWords .cmd (stagingImage + 4 * first) n
    match r.1.2 with | some _ => .done stFault [] r.2 | none => .done stOk r.1.1 r.2
  else if src = 3 then .data s ((List.range n).map fun i => factoryWord (first + i))
  else .data s (s.slotWords (src - 1) first n)
/-- CFG_READ (R365, R351). -/
def execCfgRead (c : CmdIn) (s : State) : Host.Outcome State Fault Refusal :=
  .next (runCmd 0xA1 20 (fun _ => [full, full, full]) cfgReadBody c s)

def cfgWriteBody (s : State) (ps : List Nat) : CmdRes :=
  let n := par ps 1
  if n = 0 ∨ 498 < n ∨ 16384 < par ps 0 + n then .bad
  else if s.on MGMT_STATUS_CFG_BUSY then .denied
  else .ok (s.firmwareWrite (stagingImage + 4 * par ps 0) (ps.drop 2))
/-- CFG_WRITE (R350, R365). -/
def execCfgWrite (c : CmdIn) (s : State) : Host.Outcome State Fault Refusal :=
  .next (runCmd 0xA2 20 (fun ps => [full, full] ++ List.replicate (min (par ps 1) 498) full) cfgWriteBody c s)

/-- GEN that a commit must carry (R350). -/
def State.nextGen (s : State) : Nat := match s.mgmt.recSlot with | some _ => (s.recWord 1 + 1) % 2 ^ 32 | none => 1
/-- The slot that a commit programs: the one that does not hold the loaded record; with the factory defaults loaded either
(log entry 19). -/
def State.commitSlot (s : State) : Nat × State := match s.mgmt.recSlot with | some k => (1 - k, s) | none => s.pick 0 1
def cfgCommitBody (s : State) (_ : List Nat) : CmdRes :=
  s.sramRead stagingImage 16384 fun ws t =>
    if ws.getD 0 0 ≠ cfgMagic ∨ ws.getD 1 0 ≠ s.nextGen ∨ !cfgOk ws then .bad
    else if s.flashBusy then .denied
    else
      let (k, t1) := t.commitSlot
      let n := ws.getD 2 0 / 4
      let t2 := (t1.flashErase (0x10000 * (k + 1)) 0x10000).flashPut (0x10000 * (k + 1)) (wordsLE (ws.take (n - 1)))
      .done stOk [ws.getD 1 0] ((t2.set MGMT_STATUS_CFG_BUSY 1).setMgmt fun m => { m with commit := some k })
/-- CFG_COMMIT (R350, R351): the record but its check word is programmed. -/
def execCfgCommit (c : CmdIn) (s : State) : Host.Outcome State Fault Refusal := .next (runCmd 0xA3 20 (fun _ => []) cfgCommitBody c s)
/-- CFG_COMMIT_COMPLETE: the check word is programmed, and the slot reads back right, or holds other bytes. -/
def execCfgCommitComplete (ok : Bool) (s : State) : Host.Outcome State Fault Refusal :=
  .next (match s.mgmt.commit with
    | some k =>
      let n := (s.slotWords k 2 1).getD 0 0 / 4
      let base := 0x10000 * (k + 1)
      let s1 := s.flashPut (base + 4 * (n - 1)) (bytesLE 4 (crc32 (s.flashGet base (4 * (n - 1)))))
      let s2 := if ok then s1 else
        { (s.flashErase base 0x10000).flashPut base ((List.range (4 * n)).map (Config.unwrittenByte s.freeCtr)) with freeCtr := s.freeCtr + 1 }
      ((if ok then s2 else s2.raise MGMT_FLAGS_CFG_COMMIT_FAIL 1).set MGMT_STATUS_CFG_BUSY 0).setMgmt fun m => { m with commit := none }
    | none => s)

/-! ### Firmware update (R351–R353) -/

/-- IMG_VALID of an image. -/
def imgValidF (i : Nat) : Fld := if i = 0 then MGMT_STATUS_IMG_VALID_A else MGMT_STATUS_IMG_VALID_B
def State.runningImage (s : State) : Nat := s.get MGMT_STATUS_IMAGE
def updBeginBody (s : State) (ps : List Nat) : CmdRes :=
  let len := par ps 0
  let t := 1 - s.runningImage
  if len % 4 ≠ 0 ∨ len < 1024 ∨ 0xC0000 < len then .bad
  else if s.flashBusy then .denied
  else
    let r := s.selFlags
    let s1 := if r.1 = t then s.selWrite (s.runningImage, 0, r.2.2) else s
    let s2 := ((s1.set (imgValidF t) 0).set MGMT_STATUS_UPD_BUSY 1).flashErase (imageBase t) 0x100000
    .done stOk [t] (s2.setMgmt fun m => { m with upd := some ⟨t, len, 0, 0, [], true, false⟩ })
/-- UPD_BEGIN (R352). -/
def execUpdBegin (c : CmdIn) (s : State) : Host.Outcome State Fault Refusal := .next (runCmd 0xA4 20 (fun _ => [full]) updBeginBody c s)
/-- UPD_ERASE_COMPLETE (R352). -/
def execUpdEraseComplete (s : State) : Host.Outcome State Fault Refusal :=
  .next (match s.mgmt.upd with
    | some u => if u.erasing then (s.set MGMT_STATUS_UPD_BUSY 0).setMgmt fun m => { m with upd := some { u with erasing := false } } else s
    | none => s)

def updDataBody (s : State) (ps : List Nat) : CmdRes :=
  let off := par ps 0
  let n := par ps 1
  let ws := (ps.drop 2).map (BitVec.ofNat 32)
  if n = 0 ∨ 497 < n then .bad
  else match s.mgmt.upd with
    | none => .denied
    | some u =>
      if !u.lastData.isEmpty && u.lastOff == off && u.lastData == ws then .done stAlready [u.written] s
      else if off ≠ u.written ∨ u.len < u.written + 4 * n then .bad
      else if u.erasing then .notReady
      else .done stOk [u.written + 4 * n] ((s.flashPut (imageBase u.image + off) (wordsLE (ps.drop 2))).setMgmt fun m => { m with
        upd := some { u with written := u.written + 4 * n, lastOff := off, lastData := ws } })
/-- UPD_DATA (R352). -/
def execUpdData (c : CmdIn) (s : State) : Host.Outcome State Fault Refusal :=
  .next (runCmd 0xA5 20 (fun ps => [full, full] ++ List.replicate (min (par ps 1) 497) full) updDataBody c s)

def updCommitBody (s : State) (_ : List Nat) : CmdRes :=
  match s.mgmt.upd with
  | none => .denied
  | some u =>
    if s.flashBusy || u.written != u.len then .denied
    else .ok ((s.set MGMT_STATUS_UPD_BUSY 1).setMgmt fun m => { m with upd := some { u with verifying := true } })
/-- UPD_COMMIT (R352). -/
def execUpdCommit (c : CmdIn) (s : State) : Host.Outcome State Fault Refusal := .next (runCmd 0xA6 20 (fun _ => []) updCommitBody c s)
/-- UPD_VERIFY_COMPLETE (R352): header or digest, signature, then SVN decide. -/
def execUpdVerifyComplete (s : State) : Host.Outcome State Fault Refusal :=
  .next (match s.mgmt.upd with
    | some u =>
      if !u.verifying then s
      else
        let f := s.imageFault u.image
        let why := if f ≠ 0 then f else if s.imageWord u.image 4 < s.imageWord s.runningImage 4 then 3 else 0
        let s1 := (s.set MGMT_STATUS_UPD_BUSY 0).setMgmt fun m => { m with upd := none }
        if why = 0 then s1.set (imgValidF u.image) 1 else (s1.raise MGMT_FLAGS_UPD_FAIL 1).logEvent 0x1405 2 why 0
    | none => s)

/-- Words 0–1 of the selection record in use. -/
def State.selWords (s : State) : List Nat := match s.selRecord with | some (_, q, f) => [q, f] | none => [0, 0]
/-- Give the selection record new flags, or ALREADY where it would not change; the status shows a trial that ends. -/
def State.selAnswer (s : State) (r : Nat × Nat × Nat) : CmdRes :=
  if r = s.selFlags then .done stAlready s.selWords s
  else
    let s1 := (s.selWrite r).set MGMT_STATUS_TRIES r.2.2
    let s2 := if r.2.1 = 0 ∧ r.1 = s.runningImage then s1.set MGMT_STATUS_TRIAL 0 else s1
    .done stOk s2.selWords s2
def updSelectBody (s : State) (ps : List Nat) : CmdRes :=
  let img := par ps 1
  let r := s.selFlags
  if 2 < par ps 0 ∨ 1 < img ∨ (par ps 0 = 0 ∧ (par ps 2 = 0 ∨ 7 < par ps 2)) then .bad
  else match par ps 0 with
    | 0 => if !s.on (imgValidF img) then .denied else s.selAnswer (img, 1, par ps 2)
    | 1 => if !s.on MGMT_STATUS_TRIAL || img != s.runningImage then .denied else s.selAnswer (r.1, 0, r.2.2)
    | _ => if !s.on (imgValidF img) then .denied else s.selAnswer (img, 0, r.2.2)
/-- UPD_SELECT (R353). -/
def execUpdSelect (c : CmdIn) (s : State) : Host.Outcome State Fault Refusal :=
  .next (runCmd 0xA7 20 (fun _ => [full, full, full]) updSelectBody c s)

/-! ### The event log (R354, R355, R365) -/

/-- Records of this boot in the persistent log, by LSEQ (R355, R365). -/
def State.persistRecords (s : State) : List (List Nat) :=
  (((List.range 16384).filterMap fun i =>
    let a := persistBase + 32 * i
    if s.erased a 32 then none
    else
      let ws := s.flashWords a 8
      if ws.getD 7 0 / 2 ^ 16 = s.mgmt.life.getD 2 0 % 2 ^ 16 then some ws else none).mergeSort fun x y => x.getD 0 0 ≤ y.getD 0 0)
def logReadBody (s : State) (ps : List Nat) : CmdRes :=
  let n := par ps 1
  if n = 0 ∨ 127 < n ∨ 1 < par ps 2 then .bad
  else if par ps 2 = 1 then
    let rs := (s.persistRecords.filter fun r => par ps 0 ≤ r.getD 0 0).take n
    .data s ([(rs.headD [par ps 0]).getD 0 0, rs.length] ++ rs.flatten)
  else
    let next := s.get MGMT_LOG_SEQ_NEXT
    let first := max (par ps 0) (next - 4096)
    let k := min n (next - first)
    let r := (List.range k).foldl (fun (p : (List Nat × Bool) × State) i =>
      let q := p.2.readWords .mgmt (logSlot (first + i)) 8
      ((p.1.1 ++ q.1.1, p.1.2 || q.1.2.isSome), q.2)) (([], false), s)
    if r.1.2 then .done stFault [] r.2.selfReset else .done stOk ([first, k] ++ r.1.1) r.2
/-- LOG_READ (R365). -/
def execLogRead (c : CmdIn) (s : State) : Host.Outcome State Fault Refusal :=
  .next (runCmd 0xA8 20 (fun _ => [full, full, full]) logReadBody c s)
/-- PERSISTENT_LOG_APPEND (R355). -/
def execPersistentLogAppend (s : State) : Host.Outcome State Fault Refusal := .next (s.onMgmt s.persistAppend)

/-! ### Lifetime records (R357, R358) -/

/-- A signed value in 32 bits. -/
def signedWord (v : Int) : Nat := bitsOf 32 v
def State.dieTemps (s : State) : List Int := (List.range 8).map fun i => s.getI (MGMT_TEMPi_TEMP i)
/-- The histogram bin of a temperature in 0.1 °C (R357). -/
def tjBin (t : Int) : Nat := if t < -550 then 0 else if 1250 ≤ t then 17 else ((t + 550) / 100).toNat
/-- One second of an emitter's charge and on-time: the current in 25 / 512 mA steps (R445, R357). -/
def State.sinkSecond (s : State) (c : Fin 4) : State :=
  let a := s.get (EMIT_CHc_ACT_CODE c)
  let q := s.mgmt.charge[c] + 25 * a
  let s1 := (s.lifeAdd (24 + c.val) (q / 1843200)).setMgmt fun m => { m with charge := m.charge.set c (q % 1843200) }
  if a = 0 then s1 else s1.lifeAdd (28 + c.val) 1
/-- LIFETIME_SAMPLE (R358): one second of the lifetime counts. -/
def execLifetimeSample (s : State) : Host.Outcome State Fault Refusal :=
  .next (if !s.firmwareRuns then s else
    let ts := s.dieTemps
    let hot := ts.foldl max (ts.headD 0)
    let cold := ts.foldl min (ts.headD 0)
    let first := s.mgmt.life.getD 3 0 == 0
    let old := fun (i : Nat) => signedOf 32 (s.mgmt.life.getD i 0)
    let s1 := ((s.lifeAdd 3 1).lifeAdd (4 + tjBin hot) 1).setMgmt fun m => { m with
      life := (m.life.set 22 (signedWord (if first then hot else max (old 22) hot))).set 23 (signedWord (if first then cold else min (old 23) cold)) }
    ([0, 1, 2, 3] : List (Fin 4)).foldl (fun (t : State) c => t.sinkSecond c) s1)
/-- LIFETIME_APPEND (R358): due every 10 minutes; `ok` tells whether the readback agrees. -/
def execLifetimeAppend (ok : Bool) (s : State) : Host.Outcome State Fault Refusal :=
  .next (if s.firmwareRuns && decide (s.mgmt.lifeDue ≤ s.cyc) then s.lifeAppend ok else s)
def lifeReadBody (s : State) (_ : List Nat) : CmdRes := .data s (lifeWords s.mgmt.life)
/-- LIFE_READ (R365). -/
def execLifeRead (c : CmdIn) (s : State) : Host.Outcome State Fault Refusal := .next (runCmd 0xA9 20 (fun _ => []) lifeReadBody c s)

/-! ### Sensors (R359, R405, R407, R438) -/

/-- The hottest die sensor, the first of equals, and its temperature. -/
def hottest (ts : List Int) : Nat × Int :=
  ts.zipIdx.foldl (fun (m : Nat × Int) t => if m.2 < t.1 then (t.2, t.1) else m) (0, ts.headD 0)
/-- The check against MGMT_TJ_LIMIT. -/
def State.tjCheck (s : State) : State :=
  let ts := s.dieTemps
  let lim := s.getI MGMT_TJ_LIMIT_LIMIT
  let cooled := match s.mgmt.tjHot with | some i => decide (ts.getD i 0 ≤ lim - 50) | none => true
  let s1 := if cooled then s.setMgmt fun m => { m with tjHot := none } else s
  let h := hottest ts
  if cooled && decide (lim < h.2) then
    ((s1.setMgmt fun m => { m with tjHot := some h.1 }).raise MGMT_FLAGS_TJ_LIMIT 1).logEvent 0x1407 2 (bitsOf 32 h.2) h.1
  else s1
/-- Interpolators that die sensor 5 has left by 10 K or more, and that R406 lets firmware calibrate (R407). -/
def State.tdcDrift (s : State) : Nat :=
  let t := s.getI (MGMT_TEMPi_TEMP 5)
  ((List.range 9).map fun i => if 100 ≤ (t - s.getI (TDC_CALTEMPi_TEMP i)).natAbs ∧ !s.ipInUse i ∧ !(s.get TDC_STATUS_CAL_BUSY).testBit i then 2 ^ i else 0).sum
/-- DIE_SENSOR_UPDATE: the readings, and what firmware derives from them. -/
def execDieSensorUpdate (temps : Vector (BitVec 16) 8) (mv : Vector (BitVec 16) 10) (s : State) : Host.Outcome State Fault Refusal :=
  .next (if !s.domainOn 1 then s else
    let s1 := (List.finRange 8).foldl (fun (t : State) (i : Fin 8) => t.set (MGMT_TEMPi_TEMP i) temps[i].toNat) s
    let s2 := (List.finRange 10).foldl (fun (t : State) (i : Fin 10) => t.set (MGMT_VMONj_MV i) mv[i].toNat) s1
    if !s2.firmwareRuns then s2
    else
      let s3 := s2.tjCheck
      let s4 := if s3.reach 16 then (s3.calTemp 0).calTemp 1 else s3
      if s4.reach 14 then s4.tdcCalibrate s4.tdcDrift else s4)
/-- One module's reading: 0x8000 where it does not answer. -/
def State.moduleRead (s : State) (ch : Chan) (r : Option (BitVec 16)) : State :=
  let v := match r with | some t => t.toNat | none => 0x8000
  let s1 := s.set (if ch = 0 then MGMT_DRAM_TEMP_DA else MGMT_DRAM_TEMP_DB) v
  let s2 := if r.isNone then s1.raise MGMT_FLAGS_I2C_FAIL 1 else s1
  if s2.reach 12 then s2.dramTemp ch v else s2
/-- DRAM_SENSOR_READ (R359, R375): the modules of the enabled channels. -/
def execDramSensorRead (da db : Option (BitVec 16)) (s : State) : Host.Outcome State Fault Refusal :=
  .next (if !s.firmwareRuns then s else
    let s1 := if s.on (DRAMC_CONFIG_EN 0) then s.moduleRead 0 da else s
    if s1.on (DRAMC_CONFIG_EN 1) then s1.moduleRead 1 db else s1)
def sensorReadBody (s : State) (_ : List Nat) : CmdRes :=
  .data s (((List.range 8).map fun i => s.get (MGMT_TEMPi_TEMP i)) ++ ((List.range 10).map fun i => s.get (MGMT_VMONj_MV i)) ++ [s.rawReg 20 0x68])
/-- SENSOR_READ (R365). -/
def execSensorRead (c : CmdIn) (s : State) : Host.Outcome State Fault Refusal := .next (runCmd 0xAA 20 (fun _ => []) sensorReadBody c s)

/-- VERSION and SVN of an image, 0 if it is not valid. -/
def State.imageIds (s : State) (i : Nat) : List Nat := if s.on (imgValidF i) then [s.imageWord i 3, s.imageWord i 4] else [0, 0]
def State.mgmtData (s : State) : List Nat := [s.rawReg 20 0, s.rawReg 20 4] ++ s.imageIds 0 ++ s.imageIds 1 ++ [s.recWord 1]
def mgmtStatusBody (s : State) (_ : List Nat) : CmdRes := .data s s.mgmtData
/-- MGMT_STATUS (R365). -/
def execMgmtStatus (c : CmdIn) (s : State) : Host.Outcome State Fault Refusal := .next (runCmd 0xA0 20 (fun _ => []) mgmtStatusBody c s)

/-! ### Coil temperatures (R429) -/

/-- Resistance of a platinum RTD of nominal resistance 1 at a temperature in °C: the Callendar–Van Dusen equation with the
coefficients of IEC 60751 (log entry 20). -/
def platinum (t : Rat) : Rat :=
  1 + 39083 / 10000000 * t - 5775 / 10000000000 * t * t - if t < 0 then 4183 / 1000000000000000 * (t - 100) * t * t * t else 0
/-- The largest temperature in 0.001 °C, of `n` halvings from `[lo, lo + 2^n)`, at which the resistance is not above `r`. -/
def platinumFloor : Nat → Int → Rat → Int
  | 0, lo, _ => lo
  | n + 1, lo, r => if platinum ((lo + 2 ^ n : Int) / 1000) ≤ r then platinumFloor n (lo + 2 ^ n) r else platinumFloor n lo r
/-- The temperature of a relative resistance, to the nearest 0.001 °C, within −200 °C to +850 °C. -/
def platinumTemp (r : Rat) : Option Int :=
  if r < platinum (-200) ∨ platinum 850 < r then none
  else
    let t := platinumFloor 21 (-200000) r
    some (if platinum ((2 * t + 1 : Int) / 2000) ≤ r then t + 1 else t)
/-- What a coil's accumulators give: the resistance relative to its nominal one; none where a count is 0 or a divisor is. -/
def State.coilRatio (s : State) (c : Nat) : Option Rat :=
  let a := s.get (HK_COILc_MAP_RTD_ACC c)
  let b := s.get (HK_COILc_MAP_REF_ACC c)
  let nom : Rat := if s.on (HK_COILc_MAP_NOMSEL c) then 1000000 else 100000
  let set := fun (i : Nat) => (s.accBefore (Fin.ofNat 72 i)).2
  let acc := fun (i : Nat) => ((set i).hk.accs[Fin.ofNat 72 i]).sum
  let cnt := fun (i : Nat) => (set i).get (HK_ACCa_CNT_CNT (Fin.ofNat 72 i))
  if 72 ≤ a ∨ cnt a = 0 then none
  else if b = 0x7F then
    let inj := decide (64 ≤ a)
    let x := s.hkHalf inj (if inj then (a - 64) / 2 else a / 2) (a % 2)
    let i := s.get (HK_EXCk_CAL_NA x.exc)
    if i = 0 then none
    else some ((acc a : Rat) / cnt a * (5 / 2) / (65536 * 2 ^ x.gain : Nat) / 2 / i * 1000000000000 / nom)
  else if 72 ≤ b ∨ cnt b = 0 ∨ acc b = 0 then none
  else some ((s.get (HK_COILc_RREF_MOHM c) : Rat) * acc a * cnt b / (cnt a * acc b) / nom)
/-- Convert one coil, and clear its accumulators. -/
def State.coilUpdate (s : State) (c : Nat) : State :=
  let a := s.get (HK_COILc_MAP_RTD_ACC c)
  let b := s.get (HK_COILc_MAP_REF_ACC c)
  let inj := decide (64 ≤ a)
  let exc := (s.hkHalf inj (if inj then (a - 64) / 2 else a / 2) (a % 2)).exc
  let t := if (s.get HK_RTD_STAT_FAULT).testBit exc then none else (s.coilRatio c).bind platinumTemp
  let drop := fun (x : State) (i : Nat) => if i < 72 then (x.accLatch (Fin.ofNat 72 i)).accClear (Fin.ofNat 72 i) else x
  let s1 := drop (drop s a) b
  match t with
  | some v => (s1.set (BRIL_COILk_T_TEMP (c / 2) (c % 2)) (bitsOf 24 v)).set (BRIL_COILk_T_VALID (c / 2) (c % 2)) 1
  | none => s1.set (BRIL_COILk_T_VALID (c / 2) (c % 2)) 0
/-- COIL_TEMPERATURE_UPDATE: every coil that firmware converts, while the temperature path can be reached. -/
def execCoilTemperatureUpdate (s : State) : Host.Outcome State Fault Refusal :=
  .next (if s.firmwareRuns && s.reach 6 then
    ([0, 1, 2, 3] : List Nat).foldl (fun (t : State) c => if t.on (HK_COILc_MAP_EN c) then t.coilUpdate c else t) s
  else s)

end Sys2Proof.Machine
end

