-- ==== Sys2Proof/Machine/Monitor.lean ====
section
/-! DEFINITION. The Priantul monitor on the UART (R360–R362): what its lines do, with a reply as a status code and words. -/

namespace Sys2Proof.Machine
open Reg

/-- A line is executed while firmware runs and no command is executing (R360). -/
def State.onLine (s t : State) : State := if s.firmwareRuns && s.cmd.exec.isNone then t else s
/-- Reply with a status and data words; the line counts as input. -/
def State.monReply (s : State) (st : Nat) (ws : List Nat) : State :=
  s.setMgmt fun m => { m with monOut := some (st, ws.map (BitVec.ofNat 32)), monDue := s.cyc, monInputAt := s.cyc }
def State.monData (s : State) (ws : List Nat) : State := s.monReply stOk ws
/-- What an opcode's body answers, as a reply. -/
def State.monAnswer (s : State) (r : CmdRes) : State := (r.state s).monReply r.status r.reply
/-- The session is unlocked (R362). -/
def State.unlocked (s : State) : Bool := s.on MGMT_STATUS_MON_UNLOCKED

/-- MON_HELP: the list of commands has no data. -/
def execMonHelp (s : State) : Host.Outcome State Fault Refusal := .next (s.onLine (s.monData []))
/-- MON_IDENT: ident gives IDENT's data, status those of STATUS and MGMT_STATUS. -/
def execMonIdent (status : Bool) (s : State) : Host.Outcome State Fault Refusal :=
  .next (s.onLine (s.monData (if status then s.statusData ++ s.mgmtData else s.identData)))
/-- MON_LOG: the last n records, 16 by default. -/
def execMonLog (n : Option Nat) (s : State) : Host.Outcome State Fault Refusal :=
  .next (s.onLine (
    let k := n.getD 16
    let next := s.get MGMT_LOG_SEQ_NEXT
    if k = 0 ∨ 64 < k then s.monReply stBadParam []
    else
      let r := logReadBody s [next - min k (min next 4096), min k (max 1 next), 0]
      (r.state s).monReply r.status (r.reply.drop 2)))
/-- MON_LIFE: life gives LIFE_READ's data, sensors SENSOR_READ's. -/
def execMonLife (sensors : Bool) (s : State) : Host.Outcome State Fault Refusal :=
  .next (s.onLine (s.monAnswer (if sensors then sensorReadBody s [] else lifeReadBody s [])))
/-- MON_RD: as READ_REG, with 1 to 64 words. -/
def execMonRd (addr : BitVec 40) (n : Nat) (s : State) : Host.Outcome State Fault Refusal :=
  .next (s.onLine (if n = 0 ∨ 64 < n then s.monReply stBadParam []
    else s.monAnswer (regRead s [lo32 addr.toNat, addr.toNat / 2 ^ 32, n])))
/-- MON_BAUD: the new rate holds after the OK line, and an unlocked session ends. -/
def execMonBaud (code : Fin 8) (s : State) : Host.Outcome State Fault Refusal :=
  .next (s.onLine (((s.monData []).set MGMT_STATUS_MON_UNLOCKED 0).setMgmt fun m => { m with baud := code.val }))

/-- A wrong token: counted, the reply 1 s later, and the fifth locks the monitor out. -/
def State.wrongToken (s : State) : State :=
  let s1 := ((s.monReply stDenied []).inc MGMT_MON_FAIL_COUNT).setMgmt fun m => { m with
    wrongTokens := m.wrongTokens + 1, monDue := s.cyc + msCyc 1000 }
  if s1.mgmt.wrongTokens = 5 then (s1.set MGMT_STATUS_MON_LOCKOUT 1).logEvent 0x1406 2 0 0 else s1
/-- MON_UNLOCK (R362): the monitor is read-only until READY, and refuses every token after the lockout. -/
def execMonUnlock (token : BitVec 32) (s : State) : Host.Outcome State Fault Refusal :=
  .next (s.onLine (
    if s.get MGMT_STATUS_PHASE ≠ 4 || s.on MGMT_STATUS_MON_LOCKOUT then s.monReply stDenied []
    else if token.toNat = s.recWord 16 ∧ s.recWord 16 ≠ 0 then (s.monData []).set MGMT_STATUS_MON_UNLOCKED 1
    else s.wrongToken))
/-- MON_LOCK. -/
def execMonLock (s : State) : Host.Outcome State Fault Refusal := .next (s.onLine ((s.monData []).set MGMT_STATUS_MON_UNLOCKED 0))
/-- MON_WR: one word written by master 0x10 in an unlocked session, under the checks of WRITE_REG. -/
def execMonWr (addr : BitVec 40) (value : BitVec 32) (s : State) : Host.Outcome State Fault Refusal :=
  .next (s.onLine (
    let a := addr.toNat
    if !s.unlocked then s.monReply stDenied []
    else match s.badWord true a 1 with
      | some b => (s.addrErr .mgmt b).monReply stBadParam []
      | none =>
        match s.writeBar a [value.toNat] with
        | some st => s.monReply st []
        | none => (s.writeAny .mgmt a value.toNat).monReply stOk []))
/-- MON_RESET: as the RESET command, in an unlocked session. -/
def execMonReset (s : State) : Host.Outcome State Fault Refusal :=
  .next (s.onLine (if s.unlocked then (s.monData []).selfReset else s.monReply stDenied []))
/-- MONITOR_SESSION_TIMEOUT: 600 s without input. -/
def execMonitorSessionTimeout (s : State) : Host.Outcome State Fault Refusal :=
  .next (s.onMgmt <| if s.unlocked && s.past (s.mgmt.monInputAt + msCyc 600000) then s.set MGMT_STATUS_MON_UNLOCKED 0 else s)

end Sys2Proof.Machine
end

