-- ==== Sys2Proof/Machine/Pins.lean ====
section
/-! DEFINITION. The pins that the state drives, the modes of the I/O banks and the JTAG identity, as functions of the state
(R451, R452, R460, R488, R490, R504). -/

namespace Sys2Proof.Machine
open Reg

/-! ### JTAG (R488) -/

/-- The fields of the IDCODE register: version (the B0 stepping), part and manufacturer; bit 0 is set. -/
def tapVersion : Nat := 0x1
def tapPart : Nat := 0x5200
def tapMaker : Nat := 0x06D
/-- The IDCODE register. -/
def tapIdcode : Nat := tapVersion * 2 ^ 28 + tapPart * 2 ^ 12 + tapMaker * 2 + 1

/-! ### Bank modes (R490) -/

/-- A bank of I/O pins is in 3.3 V mode, none before the release of power-on reset. -/
def State.bankA (s : State) : Option Bool := s.pwr.io.map (·.1)
def State.bankB (s : State) : Option Bool := s.pwr.io.map (·.2)

/-! ### Pin states (R504) -/

/-- What the device does at a pin. -/
inductive PinState where
  | low
  | high
  | highZ
  | pullUp
  | pullDown
  /-- a differential transmitter that drives its symbols -/
  | driven
  deriving DecidableEq, Repr
def levelOf (b : Bool) : PinState := if b then .high else .low

/-- A pin whose state follows from the device's. -/
inductive Pin where
  | ltx (n : Fin 8)
  | pgate (f : Fib)
  | dchClk | dchDat | dchLat
  | emit (c : Fin 4)
  | alarmN | irqN
  | vsel (i : Fin 2)
  | dramResetN (ch : Chan)
  | dramCke (ch : Chan)
  | wakeN
  | tck | trstN | tdo
  deriving DecidableEq, Repr

/-- The clk_mgmt cycle of the drive chain's transfer, none without one (R452). -/
def State.chainCycle (s : State) : Option Nat :=
  if s.on DCH_STATUS_BUSY then some ((s.cyc + s.chainCyc - s.emit.dchDue) / 2) else none
/-- DCH_CLK, DCH_DAT and DCH_LAT in cycle `n` of a transfer (R452): bit LEN − 1 comes first, DCH_DAT changes while DCH_CLK is low, and
after the last bit it keeps its level until the transfer ends (log entry 65). -/
def State.chainWave (s : State) (n : Nat) : Bool × Bool × Bool :=
  let h := s.get DCH_CFG_DIV + 1
  let len := s.get DCH_CFG_LEN
  let i := min ((n - 2) / (2 * h)) (len - 1)
  let b := len - 1 - i
  (decide (2 ≤ n) && decide ((n - 2) / h % 2 = 1) && decide ((n - 2) / (2 * h) < len),
   decide (2 ≤ n) && (s.get (DCH_DATAw_BITS (b / 32))).testBit (b % 32),
   decide (2 + 2 * len * h + h ≤ n) && decide (n < 2 + 2 * len * h + 3 * h))
/-- The three pins of the drive chain (R451): with the chain disabled DCH_CLK is low and the other two are inputs; between transfers
all are low. -/
def State.chainPins (s : State) : PinState × PinState × PinState :=
  if !s.on DCH_CTRL_EN then (.low, .highZ, .highZ)
  else match s.chainCycle with
    | some n => let w := s.chainWave n; (levelOf w.1, levelOf w.2.1, levelOf w.2.2)
    | none => (.low, .low, .low)

/-- The DRAM of a channel is held in self-refresh by the retention cells, in STANDBY and SLEEP and through a reset of cause WAKE (R470,
R504). -/
def State.dramHeld (s : State) (ch : Chan) : Bool :=
  !(s.pwr.retained.getD ch.val []).isEmpty && (decide (2 ≤ s.get PWR_STATUS_STATE) || s.get SYS_RST_CAUSE_CAUSE == 5)
/-- The state of a pin. PORST_N and a supply that is off are the board's; a full reset leaves each pin as the table has it "in
reset" until the state says otherwise (R504). -/
def State.pin (s : State) : Pin → PinState
  | .ltx n => if s.txHighZ n then .highZ else .driven
  | .pgate f => if s.on SYS_CLK_STATUS_MGMT_LOCK then levelOf (s.pgatePin f) else .pullDown
  | .dchClk => if s.on SYS_CLK_STATUS_MGMT_LOCK then s.chainPins.1 else .pullDown
  | .dchDat => s.chainPins.2.1
  | .dchLat => s.chainPins.2.2
  | .emit c => if (s.emit.sinks[c]).on then .low else .highZ
  | .alarmN => if s.alarmN then .low else .highZ
  | .irqN => if s.irq then .low else .highZ
  | .vsel i => levelOf (s.pwr.vsel.testBit i.val)
  | .dramResetN ch => levelOf (s.dramHeld ch || s.on (DRAMC_CHSTAT_READY ch) || s.on (DRAMC_CHSTAT_TRAINING ch))
  | .dramCke ch => levelOf (s.dramRuns ch)
  | .wakeN => .pullUp
  | .tck => .pullUp
  | .trstN => .pullDown
  | .tdo => .highZ

end Sys2Proof.Machine
end

