-- ==== Sys2Proof/Machine/Tick.lean ====
section
/-! DEFINITION. What the clock does by itself: one clk_fab cycle of 2.5 ns, which the step takes when no command waits. -/

namespace Sys2Proof.Machine
open Reg

/-- A cycle in which the encoder waits for the transmit buffer (R250). -/
def State.tickOut (s : State) : State := if s.encWaits then (s.inc OUT_STALL_CYC_COUNT).pmonAdd 0x43 1 0 else s
/-- A cycle in which engines wait for the alarm queue (R171). -/
def State.tickEng (s : State) : State :=
  (List.finRange 16).foldl (fun (t : State) (k : Fin 16) => if (t.eng[k]).stall = some .alarm then t.inc (ENG_DEk_ASTALL_COUNT k) else t) s
/-- A cycle with panic raised on a channel's ports (R370, R478). -/
def State.tickPanic (s : State) (ch : Chan) : State :=
  let ps := (List.range 4).filter fun p => s.on (DRAMC_PANICp_ACTIVE ch p)
  let s1 := ps.foldl (fun (t : State) p => t.inc (DRAMC_PANIC_CYCp_COUNT ch p)) s
  if ps.isEmpty then s1 else s1.pmonAdd (0x26 + ch.val) 1 0
/-- The parts of the device that clk_fab clocks. -/
def State.tickFab (s : State) : State :=
  let s1 := ((s.pmonAdd 0x01 1 0).tickOut).tickEng
  let s2 := ((s1.tickPanic 0).tickPanic 1).tickQclr 0
  let s3 := (s2.tickQclr 1).tickScrub
  (([0, 1, 2, 3] : List (Fin 8)).foldl (fun (t : State) (n : Fin 8) => if t.tdcMode n = 1 then t.tickStamps n else t) s3).tickPmon
/-- The emitters' modulators, each 32 cycles of 2.5 ns (R446). -/
def State.tickEmit (s : State) : State :=
  if s.domainOn 1 && s.cyc % 32 == 0 then ([0, 1, 2, 3] : List (Fin 4)).foldl (fun (t : State) c => t.modulate c) s else s
/-- One cycle: time goes on, a change of operating point may complete, and a reset that was asked for begins. -/
def State.tick (s : State) : State :=
  let s1 := ({ s with cyc := s.cyc + 1 }).opTick
  let s2 := (if s1.domainOn 2 && s1.fabRuns then s1.tickFab else s1).tickEmit
  if s2.resetDue then s2.fullReset 3 else s2

end Sys2Proof.Machine
end

