-- ==== Sys2Proof/Machine/Dispatch.lean ====
section
/-! DEFINITION. The meaning of each command: one arm per row of spec/opcode_table.json, one direct call each. -/

namespace Sys2Proof.Machine

def exec (i : Instr) (s : State) : Host.Outcome State Fault Refusal :=
  match i with
  | .registerWrite m addr bytes value => Sys2Proof.Machine.execRegisterWrite m addr bytes value s
  | .latchedLowRead r => Sys2Proof.Machine.execLatchedLowRead r s
  | .clrCnt b => Sys2Proof.Machine.execClrCnt b s
  | .transmitArbiterServe g => Sys2Proof.Machine.execTransmitArbiterServe g s
  | .refclkSmpBad => Sys2Proof.Machine.execRefclkSmpBad s
  | .samplingPllStart => Sys2Proof.Machine.execSamplingPllStart s
  | .samplingPllLock => Sys2Proof.Machine.execSamplingPllLock s
  | .deferredInitWork => Sys2Proof.Machine.execDeferredInitWork s
  | .trackerRefit stamp => Sys2Proof.Machine.execTrackerRefit stamp s
  | .internalReferenceLock => Sys2Proof.Machine.execInternalReferenceLock s
  | .flightEpochSet at_ => Sys2Proof.Machine.execFlightEpochSet at_ s
  | .referenceLost => Sys2Proof.Machine.execReferenceLost s
  | .holdoverLimitStop => Sys2Proof.Machine.execHoldoverLimitStop s
  | .holdoverPhaseCheck => Sys2Proof.Machine.execHoldoverPhaseCheck s
  | .markerEdge stamp => Sys2Proof.Machine.execMarkerEdge stamp s
  | .launchHandover f => Sys2Proof.Machine.execLaunchHandover f s
  | .shotLaunch f => Sys2Proof.Machine.execShotLaunch f s
  | .lmonEdge f stamp => Sys2Proof.Machine.execLmonEdge f stamp s
  | .lmonWindowClose f => Sys2Proof.Machine.execLmonWindowClose f s
  | .hardwareTrigger f src => Sys2Proof.Machine.execHardwareTrigger f src s
  | .timeTrigger f => Sys2Proof.Machine.execTimeTrigger f s
  | .seqTrigGo f => Sys2Proof.Machine.execSeqTrigGo f s
  | .runStart f => Sys2Proof.Machine.execRunStart f s
  | .flightEnd f => Sys2Proof.Machine.execFlightEnd f s
  | .runAbort f => Sys2Proof.Machine.execRunAbort f s
  | .drainComplete f => Sys2Proof.Machine.execDrainComplete f s
  | .stopAtBoundary f => Sys2Proof.Machine.execStopAtBoundary f s
  | .pageSwitchApply f => Sys2Proof.Machine.execPageSwitchApply f s
  | .seqConfig c => Sys2Proof.Machine.execSeqConfig c s
  | .seqRef c => Sys2Proof.Machine.execSeqRef c s
  | .seqFlightWrite c => Sys2Proof.Machine.execSeqFlightWrite c s
  | .seqPeriod c => Sys2Proof.Machine.execSeqPeriod c s
  | .seqPageSwitch c => Sys2Proof.Machine.execSeqPageSwitch c s
  | .seqArm c => Sys2Proof.Machine.execSeqArm c s
  | .seqTrigger c => Sys2Proof.Machine.execSeqTrigger c s
  | .seqStop c => Sys2Proof.Machine.execSeqStop c s
  | .seqEpoch c => Sys2Proof.Machine.execSeqEpoch c s
  | .seqGetStatus c => Sys2Proof.Machine.execSeqGetStatus c s
  | .seqLmon c => Sys2Proof.Machine.execSeqLmon c s
  | .probeTestEmit f => Sys2Proof.Machine.execProbeTestEmit f s
  | .converterGroupReady f bril => Sys2Proof.Machine.execConverterGroupReady f bril s
  | .gainStep f entry ofs => Sys2Proof.Machine.execGainStep f entry ofs s
  | .rxfProbeWrite c => Sys2Proof.Machine.execRxfProbeWrite c s
  | .rxfCodeWrite c => Sys2Proof.Machine.execRxfCodeWrite c s
  | .rxfStairWrite c => Sys2Proof.Machine.execRxfStairWrite c s
  | .rxfGate c => Sys2Proof.Machine.execRxfGate c s
  | .rxfPower c => Sys2Proof.Machine.execRxfPower c s
  | .rxfProbeTest c => Sys2Proof.Machine.execRxfProbeTest c s
  | .rxfGetStatus c => Sys2Proof.Machine.execRxfGetStatus c s
  | .envelopeWord f raw => Sys2Proof.Machine.execEnvelopeWord f raw s
  | .holdoffExpiry f => Sys2Proof.Machine.execHoldoffExpiry f s
  | .eventFifoTransfer f => Sys2Proof.Machine.execEventFifoTransfer f s
  | .alarmPulseExpiry f => Sys2Proof.Machine.execAlarmPulseExpiry f s
  | .prismResponse f r => Sys2Proof.Machine.execPrismResponse f r s
  | .landingRunWrite k shot => Sys2Proof.Machine.execLandingRunWrite k shot s
  | .landingFlushTimeout k => Sys2Proof.Machine.execLandingFlushTimeout k s
  | .galInit f => Sys2Proof.Machine.execGalInit f s
  | .galInitComplete f => Sys2Proof.Machine.execGalInitComplete f s
  | .qclr f => Sys2Proof.Machine.execQclr f s
  | .qclrComplete f => Sys2Proof.Machine.execQclrComplete f s
  | .spectrumDelivery f pos => Sys2Proof.Machine.execSpectrumDelivery f pos s
  | .descriptorPost f => Sys2Proof.Machine.execDescriptorPost f s
  | .doneSeqPoll f => Sys2Proof.Machine.execDoneSeqPoll f s
  | .resultAreaRead f => Sys2Proof.Machine.execResultAreaRead f s
  | .prismConfig c => Sys2Proof.Machine.execPrismConfig c s
  | .prismGallery c => Sys2Proof.Machine.execPrismGallery c s
  | .prismGalInit c => Sys2Proof.Machine.execPrismGalInit c s
  | .prismQclear c => Sys2Proof.Machine.execPrismQclear c s
  | .prismBril c => Sys2Proof.Machine.execPrismBril c s
  | .prismMfInfo c => Sys2Proof.Machine.execPrismMfInfo c s
  | .prismGetStatus c => Sys2Proof.Machine.execPrismGetStatus c s
  | .brickWrite f => Sys2Proof.Machine.execBrickWrite f s
  | .tileSetProcess f => Sys2Proof.Machine.execTileSetProcess f s
  | .tileSetRelease f => Sys2Proof.Machine.execTileSetRelease f s
  | .fadeComplete f => Sys2Proof.Machine.execFadeComplete f s
  | .pfilSyncGo f => Sys2Proof.Machine.execPfilSyncGo f s
  | .pfilConfig c => Sys2Proof.Machine.execPfilConfig c s
  | .pfilMemSetup c => Sys2Proof.Machine.execPfilMemSetup c s
  | .pfilCoefWrite c => Sys2Proof.Machine.execPfilCoefWrite c s
  | .pfilSwap c => Sys2Proof.Machine.execPfilSwap c s
  | .pfilSync c => Sys2Proof.Machine.execPfilSync c s
  | .pfilLoupe c => Sys2Proof.Machine.execPfilLoupe c s
  | .pfilBudget c => Sys2Proof.Machine.execPfilBudget c s
  | .pfilGetStatus c => Sys2Proof.Machine.execPfilGetStatus c s
  | .frameHandover => Sys2Proof.Machine.execFrameHandover s
  | .frameEncode => Sys2Proof.Machine.execFrameEncode s
  | .blockEncode => Sys2Proof.Machine.execBlockEncode s
  | .frameTail => Sys2Proof.Machine.execFrameTail s
  | .dropMarkerSend sid => Sys2Proof.Machine.execDropMarkerSend sid s
  | .userAreaPoll de15 => Sys2Proof.Machine.execUserAreaPoll de15 s
  | .outStream c => Sys2Proof.Machine.execOutStream c s
  | .outCmp c => Sys2Proof.Machine.execOutCmp c s
  | .outMemSetup c => Sys2Proof.Machine.execOutMemSetup c s
  | .outCmpSave c => Sys2Proof.Machine.execOutCmpSave c s
  | .outCmpRestore c => Sys2Proof.Machine.execOutCmpRestore c s
  | .outSnapRead c => Sys2Proof.Machine.execOutSnapRead c s
  | .outUser c => Sys2Proof.Machine.execOutUser c s
  | .outGetStatus c => Sys2Proof.Machine.execOutGetStatus c s
  | .dekCtrlStart k => Sys2Proof.Machine.execDekCtrlStart k s
  | .dekCtrlStop k => Sys2Proof.Machine.execDekCtrlStop k s
  | .dmaComplete k ch => Sys2Proof.Machine.execDmaComplete k ch s
  | .landingWaitResume k => Sys2Proof.Machine.execLandingWaitResume k s
  | .dmaWaitResume k => Sys2Proof.Machine.execDmaWaitResume k s
  | .frameOutputResume k => Sys2Proof.Machine.execFrameOutputResume k s
  | .qualityReportApply k => Sys2Proof.Machine.execQualityReportApply k s
  | .alarmPostAccept k => Sys2Proof.Machine.execAlarmPostAccept k s
  | .externalAccessWaitExpiry k => Sys2Proof.Machine.execExternalAccessWaitExpiry k s
  | .meminitComplete k => Sys2Proof.Machine.execMeminitComplete k s
  | .engAssign c => Sys2Proof.Machine.execEngAssign c s
  | .engSpan c => Sys2Proof.Machine.execEngSpan c s
  | .engGauge c => Sys2Proof.Machine.execEngGauge c s
  | .engLoad c => Sys2Proof.Machine.execEngLoad c s
  | .engRead c => Sys2Proof.Machine.execEngRead c s
  | .engStart c => Sys2Proof.Machine.execEngStart c s
  | .engStop c => Sys2Proof.Machine.execEngStop c s
  | .engMeminit c => Sys2Proof.Machine.execEngMeminit c s
  | .engDefault c => Sys2Proof.Machine.execEngDefault c s
  | .engGetStatus c => Sys2Proof.Machine.execEngGetStatus c s
  | .addOp k => Sys2Proof.Machine.execAddOp k s
  | .subOp k => Sys2Proof.Machine.execSubOp k s
  | .andOp k => Sys2Proof.Machine.execAndOp k s
  | .orOp k => Sys2Proof.Machine.execOrOp k s
  | .xorOp k => Sys2Proof.Machine.execXorOp k s
  | .shlOp k => Sys2Proof.Machine.execShlOp k s
  | .shr k => Sys2Proof.Machine.execShr k s
  | .sra k => Sys2Proof.Machine.execSra k s
  | .mulOp k => Sys2Proof.Machine.execMulOp k s
  | .slt k => Sys2Proof.Machine.execSlt k s
  | .sltu k => Sys2Proof.Machine.execSltu k s
  | .li k => Sys2Proof.Machine.execLi k s
  | .mts k => Sys2Proof.Machine.execMts k s
  | .mfs k => Sys2Proof.Machine.execMfs k s
  | .ovr k => Sys2Proof.Machine.execOvr k s
  | .lpop k => Sys2Proof.Machine.execLpop k s
  | .br k => Sys2Proof.Machine.execBr k s
  | .bz k => Sys2Proof.Machine.execBz k s
  | .bnz k => Sys2Proof.Machine.execBnz k s
  | .bltz k => Sys2Proof.Machine.execBltz k s
  | .bgez k => Sys2Proof.Machine.execBgez k s
  | .jal k => Sys2Proof.Machine.execJal k s
  | .jr k => Sys2Proof.Machine.execJr k s
  | .loopOp k => Sys2Proof.Machine.execLoopOp k s
  | .nopOp k => Sys2Proof.Machine.execNopOp k s
  | .breakOp k => Sys2Proof.Machine.execBreakOp k s
  | .haltOp k => Sys2Proof.Machine.execHaltOp k s
  | .illegal k => Sys2Proof.Machine.execIllegal k s
  | .vadd k => Sys2Proof.Machine.execVadd k s
  | .vsub k => Sys2Proof.Machine.execVsub k s
  | .vadds k => Sys2Proof.Machine.execVadds k s
  | .vsubs k => Sys2Proof.Machine.execVsubs k s
  | .vand k => Sys2Proof.Machine.execVand k s
  | .vor k => Sys2Proof.Machine.execVor k s
  | .vxor k => Sys2Proof.Machine.execVxor k s
  | .vsra k => Sys2Proof.Machine.execVsra k s
  | .vcmplt k => Sys2Proof.Machine.execVcmplt k s
  | .valign k => Sys2Proof.Machine.execValign k s
  | .veven k => Sys2Proof.Machine.execVeven k s
  | .vodd k => Sys2Proof.Machine.execVodd k s
  | .vsplat k => Sys2Proof.Machine.execVsplat k s
  | .vext k => Sys2Proof.Machine.execVext k s
  | .vins k => Sys2Proof.Machine.execVins k s
  | .vmove k => Sys2Proof.Machine.execVmove k s
  | .macOp k => Sys2Proof.Machine.execMacOp k s
  | .msu k => Sys2Proof.Machine.execMsu k s
  | .macf k => Sys2Proof.Machine.execMacf k s
  | .msuf k => Sys2Proof.Machine.execMsuf k s
  | .mpy k => Sys2Proof.Machine.execMpy k s
  | .mpyf k => Sys2Proof.Machine.execMpyf k s
  | .clra k => Sys2Proof.Machine.execClra k s
  | .lda k => Sys2Proof.Machine.execLda k s
  | .satv k => Sys2Proof.Machine.execSatv k s
  | .ld k => Sys2Proof.Machine.execLd k s
  | .stOp k => Sys2Proof.Machine.execStOp k s
  | .sst k => Sys2Proof.Machine.execSst k s
  | .lwait k => Sys2Proof.Machine.execLwait k s
  | .ltest k => Sys2Proof.Machine.execLtest k s
  | .lrd k => Sys2Proof.Machine.execLrd k s
  | .lrel k => Sys2Proof.Machine.execLrel k s
  | .dstart k => Sys2Proof.Machine.execDstart k s
  | .dwait k => Sys2Proof.Machine.execDwait k s
  | .fout k => Sys2Proof.Machine.execFout k s
  | .fclose k => Sys2Proof.Machine.execFclose k s
  | .qrep k => Sys2Proof.Machine.execQrep k s
  | .alarmOp k => Sys2Proof.Machine.execAlarmOp k s
  | .brilConfig c => Sys2Proof.Machine.execBrilConfig c s
  | .brilMemSetup c => Sys2Proof.Machine.execBrilMemSetup c s
  | .brilEnable c => Sys2Proof.Machine.execBrilEnable c s
  | .brilCoil c => Sys2Proof.Machine.execBrilCoil c s
  | .brilDump c => Sys2Proof.Machine.execBrilDump c s
  | .brilGetStatus c => Sys2Proof.Machine.execBrilGetStatus c s
  | .maskFillComplete f => Sys2Proof.Machine.execMaskFillComplete f s
  | .maskLearnComplete f => Sys2Proof.Machine.execMaskLearnComplete f s
  | .captureRecord => Sys2Proof.Machine.execCaptureRecord s
  | .lwEnable c => Sys2Proof.Machine.execLwEnable c s
  | .lwTrigger c => Sys2Proof.Machine.execLwTrigger c s
  | .lwHoldoff c => Sys2Proof.Machine.execLwHoldoff c s
  | .lwMaskConfig c => Sys2Proof.Machine.execLwMaskConfig c s
  | .lwMaskWrite c => Sys2Proof.Machine.execLwMaskWrite c s
  | .lwMaskFill c => Sys2Proof.Machine.execLwMaskFill c s
  | .lwMaskLearn c => Sys2Proof.Machine.execLwMaskLearn c s
  | .lwAlarm c => Sys2Proof.Machine.execLwAlarm c s
  | .lwCapture c => Sys2Proof.Machine.execLwCapture c s
  | .lwLastEvent c => Sys2Proof.Machine.execLwLastEvent c s
  | .lwGetStatus c => Sys2Proof.Machine.execLwGetStatus c s
  | .refclkLaneBad => Sys2Proof.Machine.execRefclkLaneBad s
  | .refclkLaneOk => Sys2Proof.Machine.execRefclkLaneOk s
  | .lanePllLock q => Sys2Proof.Machine.execLanePllLock q s
  | .detectAttempt n found => Sys2Proof.Machine.execDetectAttempt n found s
  | .bitLock n => Sys2Proof.Machine.execBitLock n s
  | .trainTimeout n => Sys2Proof.Machine.execTrainTimeout n s
  | .blockReceive n b => Sys2Proof.Machine.execBlockReceive n b s
  | .idleEntry n => Sys2Proof.Machine.execIdleEntry n s
  | .fastExit n => Sys2Proof.Machine.execFastExit n s
  | .retrain n => Sys2Proof.Machine.execRetrain n s
  | .testModeEntry n test => Sys2Proof.Machine.execTestModeEntry n test s
  | .esStart n => Sys2Proof.Machine.execEsStart n s
  | .esAbort n => Sys2Proof.Machine.execEsAbort n s
  | .esScanDone n errors => Sys2Proof.Machine.execEsScanDone n errors s
  | .injBit n => Sys2Proof.Machine.execInjBit n s
  | .injRateInjection n => Sys2Proof.Machine.execInjRateInjection n s
  | .downGroupStart n => Sys2Proof.Machine.execDownGroupStart n s
  | .packetReceive n p => Sys2Proof.Machine.execPacketReceive n p s
  | .timingSetReceive n ts arrival => Sys2Proof.Machine.execTimingSetReceive n ts arrival s
  | .regularAm n => Sys2Proof.Machine.execRegularAm n s
  | .replayTimeout n => Sys2Proof.Machine.execReplayTimeout n s
  | .timingSetSend n departure => Sys2Proof.Machine.execTimingSetSend n departure s
  | .echoRequest departure => Sys2Proof.Machine.execEchoRequest departure s
  | .routeSend => Sys2Proof.Machine.execRouteSend s
  | .linkRunTrigger => Sys2Proof.Machine.execLinkRunTrigger s
  | .linkSetId c => Sys2Proof.Machine.execLinkSetId c s
  | .linkGroup c => Sys2Proof.Machine.execLinkGroup c s
  | .linkTimingCfg c => Sys2Proof.Machine.execLinkTimingCfg c s
  | .linkRunStart c => Sys2Proof.Machine.execLinkRunStart c s
  | .linkLoop c => Sys2Proof.Machine.execLinkLoop c s
  | .linkTopology c => Sys2Proof.Machine.execLinkTopology c s
  | .linkRttStatus c => Sys2Proof.Machine.execLinkRttStatus c s
  | .linkGetStatus c => Sys2Proof.Machine.execLinkGetStatus c s
  | .commandPacketReceive src bytes => Sys2Proof.Machine.execCommandPacketReceive src bytes s
  | .commandDequeue => Sys2Proof.Machine.execCommandDequeue s
  | .commandTimeout written => Sys2Proof.Machine.execCommandTimeout written s
  | .spiPoll => Sys2Proof.Machine.execSpiPoll s
  | .cmdWrite bytes => Sys2Proof.Machine.execCmdWrite bytes s
  | .rplyRead bytes => Sys2Proof.Machine.execRplyRead bytes s
  | .spiBadOp op => Sys2Proof.Machine.execSpiBadOp op s
  | .nopCommand c => Sys2Proof.Machine.execNopCommand c s
  | .identCmd c => Sys2Proof.Machine.execIdentCmd c s
  | .statusCmd c => Sys2Proof.Machine.execStatusCmd c s
  | .readReg c => Sys2Proof.Machine.execReadReg c s
  | .writeReg c => Sys2Proof.Machine.execWriteReg c s
  | .resetCmd c => Sys2Proof.Machine.execResetCmd c s
  | .factoryTest op c => Sys2Proof.Machine.execFactoryTest op c s
  | .boot b => Sys2Proof.Machine.execBoot b s
  | .configLoad => Sys2Proof.Machine.execConfigLoad s
  | .imageLoad => Sys2Proof.Machine.execImageLoad s
  | .configApply => Sys2Proof.Machine.execConfigApply s
  | .dramBringup ch b => Sys2Proof.Machine.execDramBringup ch b s
  | .watchdogExpiry => Sys2Proof.Machine.execWatchdogExpiry s
  | .mgmtWdtWrite m value => Sys2Proof.Machine.execMgmtWdtWrite m value s
  | .cfgCommitComplete ok => Sys2Proof.Machine.execCfgCommitComplete ok s
  | .updEraseComplete => Sys2Proof.Machine.execUpdEraseComplete s
  | .updVerifyComplete => Sys2Proof.Machine.execUpdVerifyComplete s
  | .persistentLogAppend => Sys2Proof.Machine.execPersistentLogAppend s
  | .lifetimeSample => Sys2Proof.Machine.execLifetimeSample s
  | .lifetimeAppend ok => Sys2Proof.Machine.execLifetimeAppend ok s
  | .dieSensorUpdate temps mv => Sys2Proof.Machine.execDieSensorUpdate temps mv s
  | .dramSensorRead da db => Sys2Proof.Machine.execDramSensorRead da db s
  | .coilTemperatureUpdate => Sys2Proof.Machine.execCoilTemperatureUpdate s
  | .monHelp => Sys2Proof.Machine.execMonHelp s
  | .monIdent status => Sys2Proof.Machine.execMonIdent status s
  | .monLog n => Sys2Proof.Machine.execMonLog n s
  | .monLife sensors => Sys2Proof.Machine.execMonLife sensors s
  | .monRd addr n => Sys2Proof.Machine.execMonRd addr n s
  | .monBaud code => Sys2Proof.Machine.execMonBaud code s
  | .monUnlock token => Sys2Proof.Machine.execMonUnlock token s
  | .monLock => Sys2Proof.Machine.execMonLock s
  | .monWr addr value => Sys2Proof.Machine.execMonWr addr value s
  | .monReset => Sys2Proof.Machine.execMonReset s
  | .monitorSessionTimeout => Sys2Proof.Machine.execMonitorSessionTimeout s
  | .mgmtStatus c => Sys2Proof.Machine.execMgmtStatus c s
  | .cfgRead c => Sys2Proof.Machine.execCfgRead c s
  | .cfgWrite c => Sys2Proof.Machine.execCfgWrite c s
  | .cfgCommit c => Sys2Proof.Machine.execCfgCommit c s
  | .updBegin c => Sys2Proof.Machine.execUpdBegin c s
  | .updData c => Sys2Proof.Machine.execUpdData c s
  | .updCommit c => Sys2Proof.Machine.execUpdCommit c s
  | .updSelect c => Sys2Proof.Machine.execUpdSelect c s
  | .logRead c => Sys2Proof.Machine.execLogRead c s
  | .lifeRead c => Sys2Proof.Machine.execLifeRead c s
  | .sensorRead c => Sys2Proof.Machine.execSensorRead c s
  | .dramRequest ch rq => Sys2Proof.Machine.execDramRequest ch rq s
  | .refreshTimerExpiry ch rank => Sys2Proof.Machine.execRefreshTimerExpiry ch rank s
  | .bankIdleTimeout ch rank bank => Sys2Proof.Machine.execBankIdleTimeout ch rank bank s
  | .dramcTempWrite ch temp => Sys2Proof.Machine.execDramcTempWrite ch temp s
  | .tempStaleTimeout ch => Sys2Proof.Machine.execTempStaleTimeout ch s
  | .zqcsInterval ch => Sys2Proof.Machine.execZqcsInterval ch s
  | .dramcMrsGo ch => Sys2Proof.Machine.execDramcMrsGo ch s
  | .trnStart ch => Sys2Proof.Machine.execTrnStart ch s
  | .trainingPassComplete ch pass => Sys2Proof.Machine.execTrainingPassComplete ch pass s
  | .fillGo ch => Sys2Proof.Machine.execFillGo ch s
  | .fillComplete ch => Sys2Proof.Machine.execFillComplete ch s
  | .combiningTimeout m => Sys2Proof.Machine.execCombiningTimeout m s
  | .scrubGo => Sys2Proof.Machine.execScrubGo s
  | .scrubAbort => Sys2Proof.Machine.execScrubAbort s
  | .scrubPassComplete => Sys2Proof.Machine.execScrubPassComplete s
  | .scrubWaitExpiry => Sys2Proof.Machine.execScrubWaitExpiry s
  | .scrubInj mode => Sys2Proof.Machine.execScrubInj mode s
  | .edgeStamp ip e => Sys2Proof.Machine.execEdgeStamp ip e s
  | .gateClose n => Sys2Proof.Machine.execGateClose n s
  | .tdcCalibrationComplete ip hist => Sys2Proof.Machine.execTdcCalibrationComplete ip hist s
  | .fifo0Read n => Sys2Proof.Machine.execFifo0Read n s
  | .tdcConfig c => Sys2Proof.Machine.execTdcConfig c s
  | .tdcCalibrate c => Sys2Proof.Machine.execTdcCalibrate c s
  | .tdcRead c => Sys2Proof.Machine.execTdcRead c s
  | .tdcFreq c => Sys2Proof.Machine.execTdcFreq c s
  | .tdcGetStatus c => Sys2Proof.Machine.execTdcGetStatus c s
  | .hkConversionComplete x => Sys2Proof.Machine.execHkConversionComplete x s
  | .hkSettleExpiry => Sys2Proof.Machine.execHkSettleExpiry s
  | .periodBoundary => Sys2Proof.Machine.execPeriodBoundary s
  | .hkStart => Sys2Proof.Machine.execHkStart s
  | .accClr a => Sys2Proof.Machine.execAccClr a s
  | .accCntRead a => Sys2Proof.Machine.execAccCntRead a s
  | .rtdRearm k => Sys2Proof.Machine.execRtdRearm k s
  | .hkSeqConfig c => Sys2Proof.Machine.execHkSeqConfig c s
  | .hkInject c => Sys2Proof.Machine.execHkInject c s
  | .hkWindow c => Sys2Proof.Machine.execHkWindow c s
  | .hkRtd c => Sys2Proof.Machine.execHkRtd c s
  | .hkReadAcc c => Sys2Proof.Machine.execHkReadAcc c s
  | .hkGetStatus c => Sys2Proof.Machine.execHkGetStatus c s
  | .calCtrlRun f => Sys2Proof.Machine.execCalCtrlRun f s
  | .calCtrlAbort f => Sys2Proof.Machine.execCalCtrlAbort f s
  | .accumulationStart f => Sys2Proof.Machine.execAccumulationStart f s
  | .accumulationComplete f b => Sys2Proof.Machine.execAccumulationComplete f b s
  | .accumulationTimeout f => Sys2Proof.Machine.execAccumulationTimeout f s
  | .calApply f => Sys2Proof.Machine.execCalApply f s
  | .retryWaitExpiry f => Sys2Proof.Machine.execRetryWaitExpiry f s
  | .calRun c => Sys2Proof.Machine.execCalRun c s
  | .calConfig c => Sys2Proof.Machine.execCalConfig c s
  | .calRead c => Sys2Proof.Machine.execCalRead c s
  | .calWrite c => Sys2Proof.Machine.execCalWrite c s
  | .calGetStatus c => Sys2Proof.Machine.execCalGetStatus c s
  | .rampStep c => Sys2Proof.Machine.execRampStep c s
  | .sinkTemperatureRead c temp => Sys2Proof.Machine.execSinkTemperatureRead c temp s
  | .dchGo => Sys2Proof.Machine.execDchGo s
  | .dchTransferComplete => Sys2Proof.Machine.execDchTransferComplete s
  | .emitSet c => Sys2Proof.Machine.execEmitSet c s
  | .emitRestart c => Sys2Proof.Machine.execEmitRestart c s
  | .dchWrite c => Sys2Proof.Machine.execDchWrite c s
  | .emitGetStatus c => Sys2Proof.Machine.execEmitGetStatus c s
  | .goState => Sys2Proof.Machine.execGoState s
  | .goOp => Sys2Proof.Machine.execGoOp s
  | .voltageConfirm mv => Sys2Proof.Machine.execVoltageConfirm mv s
  | .vsettleTimeout => Sys2Proof.Machine.execVsettleTimeout s
  | .stateEntryComplete => Sys2Proof.Machine.execStateEntryComplete s
  | .wakeNLow => Sys2Proof.Machine.execWakeNLow s
  | .spiWake => Sys2Proof.Machine.execSpiWake s
  | .wakeTimerExpiry => Sys2Proof.Machine.execWakeTimerExpiry s
  | .linkWake => Sys2Proof.Machine.execLinkWake s
  | .wakeRestoreComplete => Sys2Proof.Machine.execWakeRestoreComplete s
  | .porstNAssert => Sys2Proof.Machine.execPorstNAssert s
  | .supplyBrownout => Sys2Proof.Machine.execSupplyBrownout s
  | .pwrState c => Sys2Proof.Machine.execPwrState c s
  | .pwrOp c => Sys2Proof.Machine.execPwrOp c s
  | .pwrWake c => Sys2Proof.Machine.execPwrWake c s
  | .pwrGetStatus c => Sys2Proof.Machine.execPwrGetStatus c s
  | .pmonClr => Sys2Proof.Machine.execPmonClr s
  | .pmonSnapGo => Sys2Proof.Machine.execPmonSnapGo s
  | .pmonBwGo => Sys2Proof.Machine.execPmonBwGo s
  | .bandwidthWindowClose => Sys2Proof.Machine.execBandwidthWindowClose s
  | .pmonCntLoRead k => Sys2Proof.Machine.execPmonCntLoRead k s
  | .pmonConfig c => Sys2Proof.Machine.execPmonConfig c s
  | .pmonSnapshot c => Sys2Proof.Machine.execPmonSnapshot c s
  | .pmonRead c => Sys2Proof.Machine.execPmonRead c s
  | .pmonBw c => Sys2Proof.Machine.execPmonBw c s
  | .pmonGetStatus c => Sys2Proof.Machine.execPmonGetStatus c s
  | .cdrLockLost n => Sys2Proof.Machine.execCdrLockLost n s
  | .prbsBitReceive n bit => Sys2Proof.Machine.execPrbsBitReceive n bit s
  | .blockSlotTransmit n => Sys2Proof.Machine.execBlockSlotTransmit n s
  | .dramCommandSlot ch => Sys2Proof.Machine.execDramCommandSlot ch s

end Sys2Proof.Machine
end

