-- ==== Sys2Proof/Safety.lean ====
section
/-! DEFINITION. The words the claims use: a sound state, a safe step, which registers and which bytes a command leaves alone,
and a command opcode that is accepted and answered. -/

/-- The parameter words of a command as numbers. -/
def Sys2Proof.CmdIn.words (c : Sys2Proof.CmdIn) : List Nat := c.ps.map (·.toNat)

namespace Sys2Proof.Machine
open Reg

/-- Every keyed store is in its one canonical form (registers, memory bytes, error marks, flash). -/
def State.wf (s : State) : Bool := kwf s.regs && Memory.wf s.mem && kwf s.ecc && Memory.flashWf s.flash

/-- An outcome that stops the machine: a fault or a refusal. -/
def stops : Host.Outcome State Fault Refusal → Bool
  | .next _ => false
  | .fault _ => true
  | .refused _ => true

/-- Every register field but those listed reads as before. -/
def SameRegs (fs : List Fld) (s t : State) : Prop := ∀ g : Fld, g.key ∉ fs.map Fld.key → t.get g = s.get g

/-- Every byte of memory outside `[lo, hi)` reads as before. -/
def MemKept (lo hi : Nat) (s t : State) : Prop := ∀ a : Nat, a < lo ∨ hi ≤ a → kget a t.mem = kget a s.mem

/-- The event log ring (01, Address map; R355). -/
def LogKept (s t : State) : Prop := MemKept 0x1C0000 0x1E0000 s t

/-- Every byte of memory outside `[lo, hi)` and outside the event log ring reads as before. -/
def MemKeptLog (lo hi : Nat) (s t : State) : Prop :=
  ∀ a : Nat, (a < lo ∨ hi ≤ a) → (a < 0x1C0000 ∨ 0x1E0000 ≤ a) → kget a t.mem = kget a s.mem

/-- The 64-bit word at `a` has been written and carries no error. -/
abbrev Intact (s : State) (a : Nat) : Prop := (getBytes s.mem a 8).isSome = true ∧ kget a s.ecc = none

/-- No 32-bit half is held for combining (R390). -/
abbrev NoHeld (s : State) : Prop := s.scrub.combMgmt = none ∧ s.scrub.combCmd = none

/-- What every answered opcode writes (R339). -/
def lastF : List Fld := [CMD_LAST_OPCODE, CMD_LAST_STATUS, CMD_LAST_TAG]

/-- The entries of the repeat table: a store to a word frees the entry for it (R391). -/
def rptF : List Fld :=
  (List.range 16).flatMap fun i => [SCRUB_RPTi_INFO_VALID i, SCRUB_RPTi_INFO_COUNT i, SCRUB_RPTi_INFO_PERS i]

/-- What entering an event record may write: the sequence number, the overrun flag and the repeat table (R355, R391). -/
def logF : List Fld := [MGMT_FLAGS_LOG_OVERRUN, MGMT_LOG_SEQ_NEXT] ++ rptF

/-- An opcode of block `blk` is judged by its own conditions alone: the device is READY, no entry to STANDBY or SLEEP is in
progress, and the block can be reached (R323, R466, R20). -/
abbrev Ready (blk : Nat) (s : State) : Prop :=
  s.get MGMT_STATUS_PHASE = 4 ∧ s.entering = false ∧ s.reach blk = true

/-- The one reply to a command went out: CMD_LAST names it, and the packet stands last in the SPI reply buffer, or goes to
the group the command came from (R316, R320, R336, R339). -/
def Replied (op st : Nat) (data : List Nat) (owner : Nat) (c : CmdIn) (s t : State) : Prop :=
  t.get CMD_LAST_OPCODE = op ∧ t.get CMD_LAST_STATUS = st ∧ t.get CMD_LAST_TAG = c.tag.toNat ∧
  match c.src with
  | .spi => t.cmd.replies ++ t.cmd.waiting
      = s.cmd.replies ++ s.cmd.waiting ++ [replyBytes op st c.tag.toNat owner data]
  | .inband g _ => t.out.bulk = s.out.bulk ++ [⟨1, c.tag.toNat, replyBytes op st c.tag.toNat owner data, 0, some g.val, none⟩]

/-- The same answer after a record of the event log, which may itself be streamed to the host. -/
def RepliedLast (op st : Nat) (data : List Nat) (owner : Nat) (c : CmdIn) (s t : State) : Prop :=
  t.get CMD_LAST_OPCODE = op ∧ t.get CMD_LAST_STATUS = st ∧ t.get CMD_LAST_TAG = c.tag.toNat ∧
  match c.src with
  | .spi => t.cmd.replies ++ t.cmd.waiting
      = s.cmd.replies ++ s.cmd.waiting ++ [replyBytes op st c.tag.toNat owner data]
  | .inband g _ => s.out.bulk <+: t.out.bulk
      ∧ t.out.bulk.getLast? = some ⟨1, c.tag.toNat, replyBytes op st c.tag.toNat owner data, 0, some g.val, none⟩

/-- `s` with the registers, the replies on their way and the command in execution of `t`: what an answer may touch. -/
def repliedOnly (s t : State) : State :=
  { s with
    regs := t.regs, raised := t.raised, scrub := { s.scrub with uses := t.scrub.uses }
    cmd := { s.cmd with replies := t.cmd.replies, waiting := t.cmd.waiting, exec := t.cmd.exec }
    out := { s.out with bulk := t.out.bulk } }

/-- An opcode is answered with status `st` and `data`; beside the reply only the register fields `fs` change, and only those
parts of the machine in which `u` differs from `s`. -/
def Done (op st : Nat) (data : List Nat) (fs : List Fld) (c : CmdIn) (s u t : State) : Prop :=
  Replied op st data 0 c s t ∧ SameRegs (lastF ++ fs) s t ∧ t = repliedOnly u t

/-- `t` takes from `u` everything but the registers and the model's notes of the present cycle: the flags that events of the
cycle have raised (R10) and the memories used in it (R392). -/
abbrev butNotes (u t : State) : State := { u with regs := t.regs, raised := t.raised, scrub := { u.scrub with uses := t.scrub.uses } }
/-- An event changes only the register fields `fs` and those parts of the machine in which `u` differs from `s`. -/
def Only (fs : List Fld) (s u t : State) : Prop := SameRegs fs s t ∧ t = butNotes u t

/-! ### What the spec states of filters and fits whose constants it does not give

The model leaves those constants opaque (log entries 11 and 14); a statement that needs one of these properties takes it as a
premise. -/

/-- Gain of the channeliser's filter at an offset of `f` MHz from the slot centre, its group delay of 127.5 ns removed (R106). -/
def channelGain (f : Rat) : Rat :=
  ((List.range 256).map fun (j : Nat) => lowPassTap Config.lowPass j * cosTurn (f * ((j : Rat) - 255 / 2) / 1000)).sum
/-- The channeliser's response (R107): a passband flat within ±0.01 dB, a monotonic transition, and at least 85 dB beyond it. -/
structure ChannelResponse : Prop where
  ripple : ∀ f : Rat, |f| ≤ 50 → channelGain f ^ 2000 ≤ 10 * channelGain 0 ^ 2000 ∧ channelGain 0 ^ 2000 ≤ 10 * channelGain f ^ 2000
  transition : ∀ f g : Rat, 50 ≤ f → f ≤ g → g ≤ 75 → |channelGain g| ≤ |channelGain f|
  stop : ∀ f : Rat, 75 ≤ |f| → |f| ≤ 500 → channelGain f ^ 20 * 10 ^ 85 ≤ channelGain 0 ^ 20

/-- A code that R87 admits. -/
def Code.valid (c : Code) : Bool := codeValid c.typ c.taper c.amp c.len c.bw 0 c.chip
/-- Backscatter of one reflector whose echo of code `c` in slot `a` arrives at `t` ns, the launch at 0 (R108). -/
def echo (c : Code) (a : Nat) (t : Rat) (n : Int) : Rat × Rat :=
  cmul (baseband c (2 * ((n : Rat) - t))) (phasor ((slotCentre a : Rat) / 16 * n))
/-- Squared magnitude of the matched-filter output of slot `b` with reference `d` at `u` ns, from such backscatter. -/
def leak (c d : Code) (a b win : Nat) (t u : Rat) : Rat :=
  let z := mfDirect (echo c a t) ⟨b, 0, d⟩ win u
  z.1 * z.1 + z.2 * z.2
/-- The isolation in dB that R108 states for two slots and a code; 0 where it guarantees none. -/
def isolationDb (c : Code) (apart : Nat) : Nat :=
  if 3 ≤ apart then 100
  else if c.taper < 8 then 0
  else if apart = 2 then 95
  else if 16 ≤ c.taper ∧ (c.typ ≠ 1 ∨ c.bw ≤ 90000) then 80 else 70
/-- Slot-to-slot isolation (R108). -/
def SlotIsolation : Prop :=
  ∀ (c d : Code) (a b win : Nat) (t u : Rat), c.valid = true → d.valid = true → a < 8 → b < 8 → a ≠ b →
    leak c d a b win t u ^ 2 * 10 ^ (isolationDb c (max a b - min a b) / 5) ≤ leak c c a a win t t ^ 2

/-- Squared error of b + a / (1 + ((i − c) / (w / 2))²) against values of bins 0, 1, … (R206). -/
def fitError (b a c w : Rat) (xs : List Rat) : Rat :=
  (xs.zipIdx.map fun (x : Rat × Nat) => (b + a / (1 + (((x.2 : Rat) - c) / (w / 2)) ^ 2) - x.1) ^ 2).sum
/-- The fit finds the least squares, its centre to 0.001 MHz in bins of 0.78125 MHz (R206). -/
def FitOptimal : Prop :=
  ∀ (b : Rat) (xs : List Rat) (e : Rat), 0 < e → ∃ a c w : Rat,
    |c - (Config.lorentzFit b xs).1| ≤ 1 / 2000 * (32 / 25) ∧
    ∀ a' c' w' : Rat, fitError b a c w xs ≤ fitError b a' c' w' xs + e

end Sys2Proof.Machine
end

