-- ==== Sys2Proof/WellFormed.lean ====
section
/-! DEFINITION. What a command must satisfy beyond its types to be one that can reach the block. The meanings are total all
the same: none of them rests on it. -/

namespace Sys2Proof

/-- A packet has at most 500 parameter words (R315). -/
def CmdIn.wf (c : CmdIn) : Bool := decide (c.ps.length ≤ 500)
/-- LEN is 4 to 2,056 and a multiple of 4 (R288); a framing error discards two packets, or three (R289). -/
def RxPacket.wf (p : RxPacket) : Bool :=
  decide (4 ≤ p.payload.length) && decide (p.payload.length ≤ 2056) && decide (p.payload.length % 4 = 0)
  && (p.cut.isEmpty || p.cut.length == 2 || p.cut.length == 3)

/-- The packet that an opcode of the shot sequencer (R84) reads. -/
def Instr.cmdSeq : Instr → Option CmdIn
  | .seqConfig c | .seqRef c | .seqFlightWrite c | .seqPeriod c | .seqPageSwitch c | .seqArm c | .seqTrigger c
  | .seqStop c | .seqEpoch c | .seqGetStatus c | .seqLmon c => some c
  | _ => none
/-- The packet that an opcode of the receiver front end (R103) reads. -/
def Instr.cmdRxf : Instr → Option CmdIn
  | .rxfProbeWrite c | .rxfCodeWrite c | .rxfStairWrite c | .rxfGate c | .rxfPower c | .rxfProbeTest c
  | .rxfGetStatus c => some c
  | _ => none
/-- The packet that an opcode of the prism pipeline (R130) reads. -/
def Instr.cmdPrism : Instr → Option CmdIn
  | .prismConfig c | .prismGallery c | .prismGalInit c | .prismQclear c | .prismBril c | .prismMfInfo c
  | .prismGetStatus c => some c
  | _ => none
/-- The packet that an opcode of the position filter (R151) reads. -/
def Instr.cmdPfil : Instr → Option CmdIn
  | .pfilConfig c | .pfilMemSetup c | .pfilCoefWrite c | .pfilSwap c | .pfilSync c | .pfilLoupe c | .pfilBudget c
  | .pfilGetStatus c => some c
  | _ => none
/-- The packet that an opcode of the output streams (R256) reads. -/
def Instr.cmdOut : Instr → Option CmdIn
  | .outStream c | .outCmp c | .outMemSetup c | .outCmpSave c | .outCmpRestore c | .outSnapRead c | .outUser c
  | .outGetStatus c => some c
  | _ => none
/-- The packet that an opcode of the engines (R180) reads. -/
def Instr.cmdEng : Instr → Option CmdIn
  | .engAssign c | .engSpan c | .engGauge c | .engLoad c | .engRead c | .engStart c | .engStop c | .engMeminit c
  | .engDefault c | .engGetStatus c => some c
  | _ => none
/-- The packet that an opcode of the temperature path (R213) reads. -/
def Instr.cmdBril : Instr → Option CmdIn
  | .brilConfig c | .brilMemSetup c | .brilEnable c | .brilCoil c | .brilDump c | .brilGetStatus c => some c
  | _ => none
/-- The packet that an opcode of loss watch (R231) reads. -/
def Instr.cmdLw : Instr → Option CmdIn
  | .lwEnable c | .lwTrigger c | .lwHoldoff c | .lwMaskConfig c | .lwMaskWrite c | .lwMaskFill c | .lwMaskLearn c
  | .lwAlarm c | .lwCapture c | .lwLastEvent c | .lwGetStatus c => some c
  | _ => none
/-- The packet that an opcode of the link (R314) reads. -/
def Instr.cmdLink : Instr → Option CmdIn
  | .linkSetId c | .linkGroup c | .linkTimingCfg c | .linkRunStart c | .linkLoop c | .linkTopology c | .linkRttStatus c
  | .linkGetStatus c => some c
  | _ => none
/-- The packet that an opcode of the system and register access (R340) reads. -/
def Instr.cmdSys : Instr → Option CmdIn
  | .nopCommand c | .identCmd c | .statusCmd c | .readReg c | .writeReg c | .resetCmd c | .factoryTest _ c => some c
  | _ => none
/-- The packet that an opcode of management (R365) reads. -/
def Instr.cmdMgmt : Instr → Option CmdIn
  | .mgmtStatus c | .cfgRead c | .cfgWrite c | .cfgCommit c | .updBegin c | .updData c | .updCommit c | .updSelect c
  | .logRead c | .lifeRead c | .sensorRead c => some c
  | _ => none
/-- The packet that an opcode of time measurement (R413) reads. -/
def Instr.cmdTdc : Instr → Option CmdIn
  | .tdcConfig c | .tdcCalibrate c | .tdcRead c | .tdcFreq c | .tdcGetStatus c => some c
  | _ => none
/-- The packet that an opcode of housekeeping (R432) reads. -/
def Instr.cmdHk : Instr → Option CmdIn
  | .hkSeqConfig c | .hkInject c | .hkWindow c | .hkRtd c | .hkReadAcc c | .hkGetStatus c => some c
  | _ => none
/-- The packet that an opcode of calibration (R443) reads. -/
def Instr.cmdCal : Instr → Option CmdIn
  | .calRun c | .calConfig c | .calRead c | .calWrite c | .calGetStatus c => some c
  | _ => none
/-- The packet that an opcode of the emitters (R454) reads. -/
def Instr.cmdEmit : Instr → Option CmdIn
  | .emitSet c | .emitRestart c | .dchWrite c | .emitGetStatus c => some c
  | _ => none
/-- The packet that an opcode of power (R476) reads. -/
def Instr.cmdPwr : Instr → Option CmdIn
  | .pwrState c | .pwrOp c | .pwrWake c | .pwrGetStatus c => some c
  | _ => none
/-- The packet that an opcode of performance counters (R486) reads. -/
def Instr.cmdPmon : Instr → Option CmdIn
  | .pmonConfig c | .pmonSnapshot c | .pmonRead c | .pmonBw c | .pmonGetStatus c => some c
  | _ => none
/-- The packet that an opcode reads. -/
def Instr.cmd (i : Instr) : Option CmdIn :=
  [i.cmdSeq, i.cmdRxf, i.cmdPrism, i.cmdPfil, i.cmdOut, i.cmdEng, i.cmdBril, i.cmdLw, i.cmdLink,
   i.cmdSys, i.cmdMgmt, i.cmdTdc, i.cmdHk, i.cmdCal, i.cmdEmit, i.cmdPwr, i.cmdPmon].findSome? id
/-- What an event that carries more than its types allow must satisfy: a register write has a byte, positions have 17 bits
(R30, R113), a scan compares 2^10 to 2^40 bits (R277), an interpolator calibration has 2^20 codes (R405). -/
def Instr.eventWf : Instr → Bool
  | .registerWrite _ _ bytes _ => decide (0 < bytes)
  | .prismResponse _ r => decide (r.pos < 2 ^ 17)
  | .esScanDone _ errors => decide (errors ≤ 2 ^ 40)
  | .packetReceive _ p => p.wf
  | .tdcCalibrationComplete _ hist => decide (hist.length = 1024) && decide (hist.sum = 2 ^ 20)
  | _ => true
/-- A command that can reach the block. -/
def Instr.wf (i : Instr) : Bool := i.eventWf && match i.cmd with | some c => c.wf | none => true

end Sys2Proof
end

