-- ==== Sys2Proof/Certificates/Slice0/Obligations.lean ====
section
/-! DEFINITION. The statements for the provers: one claim for each command, grouped by family, each with the conditions
under which the command completes with its own effect, that effect, and everything it leaves as it was. -/

namespace Sys2Proof.Claim
open Sys2Proof.Machine Sys2Proof.Machine.Reg

/-! ### Engine instructions -/

/-- Engine `k` issues the word `w` of opcode `op`, which stands intact at its program counter (R181). -/
abbrev Issues (op : Nat) (k : Fin 16) (s : State) (w : Nat) : Prop :=
  s.fabRuns = true ∧ s.engState k = 1 ∧ (s.eg k).stall = none ∧ (s.eg k).skip = false ∧ (s.eg k).kern = none ∧ NoHeld s
    ∧ getBytes s.mem (engMem k 2 + 8 * (s.eg k).pc.toNat) 8 = some (bytesLE 8 w)
    ∧ kget (engMem k 2 + 8 * (s.eg k).pc.toNat) s.ecc = none ∧ w < 2 ^ 64 ∧ opOf w = op
/-- `t` is `u`, but for the note of the memories used in the present cycle (R392). -/
def Became (u t : State) : Prop := t = { u with scrub := { u.scrub with uses := t.scrub.uses } }
/-- An engine one instruction further (R193). -/
def went (e : Engine) : Engine :=
  { e with pc := BitVec.ofNat 13 (loopNext e.pc.toNat e.loops).1, loops := (loopNext e.pc.toNat e.loops).2 }
/-- An engine at a branch target (R193). -/
def jumped (t : Nat) (e : Engine) : Engine :=
  { e with pc := BitVec.ofNat 13 t, loops := (loopNext e.pc.toNat e.loops).2 }
/-- The operands of a format S instruction: gs, and gt or imm32 (R186). -/
abbrev Operands (k : Fin 16) (s : State) (w : Nat) (a b : Word) : Prop :=
  (s.eg k).g[gsOf w] = a ∧ (if w.testBit 43 = true then BitVec.ofNat 32 (w % 2 ^ 32) else (s.eg k).g[gtOf w]) = b
/-- The 16 bytes of a parallel move are aligned, and for a load written and without error (R155, R183). -/
def moveOk (k : Fin 16) (s : State) (mem : Nat) : Option PMove → Bool
  | none => true
  | some p => p.addr (s.eg k) % 8 == 0 && (p.store ||
      (decide (Intact s (engMem k mem + 2 * p.addr (s.eg k))) && decide (Intact s (engMem k mem + 2 * p.addr (s.eg k) + 8))))
/-- The lanes that stand at a halfword address. -/
def lanesAt (k : Fin 16) (s : State) (mem a : Nat) : Lanes :=
  Vector.ofFn fun i => BitVec.ofNat 16 (ofBytesLE ((getBytes s.mem (engMem k mem + 2 * (a + i.val)) 2).getD []))
/-- The engine's registers after a parallel move: the loaded lanes and the POST update (R157, R184). -/
def moved (k : Fin 16) (s : State) (mem : Nat) (m : Option PMove) (e : Engine) : Engine :=
  match m with
  | none => e
  | some p =>
    let v := if p.store then e.v else e.v.set p.v (lanesAt k s mem (p.addr (s.eg k)))
    { e with v := v, a := e.a.set p.areg (BitVec.ofNat 16 ((s.eg k).dataAddr p.areg p.mode p.m).2) }
/-- Memory after the store of a parallel move: the lanes of its v register as they stood (R184). -/
def storedBy (k : Fin 16) (s : State) (mem : Nat) (m : Option PMove) (b : KMap Byte) : KMap Byte :=
  match m with
  | none => b
  | some p => if p.store then putBytes (engMem k mem + 2 * p.addr (s.eg k)) (bytesLE 16 (ofLanes ((s.eg k).v[p.v]))) b else b
/-- Memory is unchanged outside two ranges. -/
def MemKept2 (lo hi lo2 hi2 : Nat) (s t : State) : Prop :=
  ∀ a : Nat, (a < lo ∨ hi ≤ a) → (a < lo2 ∨ hi2 ≤ a) → kget a t.mem = kget a s.mem
/-- The front capture of fibre `f` can deliver its next spectrum, its samples read without error (R119–R122). -/
abbrev CaptureReady (s : State) (f : Fib) (c : Capture) (rest : List Capture) : Prop :=
  s.fabRuns = true ∧ (s.prism[f]).caps = c :: rest ∧ s.spectrumDue f c = true ∧ NoHeld s
    ∧ (∀ j < 130, 2 * c.nextT + j < 65536 → Intact s (brilBase f c.buffer + 8 * (2 * c.nextT + j)))
/-- The capture belongs to the open interval `j`, which does not end now and whose bank is free (R197, R199). -/
abbrev InInterval (s : State) (f : Fib) (c : Capture) (j : Int) : Prop :=
  (s.bril[f]).open_ = some j ∧ s.intervalOf f c.phase = j ∧ (∀ i ∈ (s.firstInterval f).toList, i ≤ j)
    ∧ (s.firstInterval f).isSome = true ∧ s.phaseOf f s.nowNs < s.intervalEnd f j ∧ (s.bril[f]).held = []
/-- A format V word with two legal, aligned moves or none (R182, R183). -/
abbrev Vector' (op : Nat) (k : Fin 16) (s : State) (w : Nat) (mx my : Option PMove) : Prop :=
  Issues op k s w ∧ w.testBit 38 = false ∧ (decodeMove w false).toOption = some mx ∧ (decodeMove w true).toOption = some my
    ∧ moveOk k s 0 mx = true ∧ moveOk k s 1 my = true
/-- A state whose format V instruction of engine `k` is done: the operation has left the engine as `e`, the two moves change
registers and memory, and nothing else changes but error marks and repeat-table entries, which are taken from `t`. -/
def afterVector (k : Fin 16) (s : State) (mx my : Option PMove) (e : Engine) (t : State) : State :=
  butNotes { s with
    ecc := t.ecc, mem := storedBy k s 1 my (storedBy k s 0 mx s.mem),
    eng := s.eng.set k (went (moved k s 1 my (moved k s 0 mx e))) } t
/-- Lane `j` of the sixteen that two registers form (R187). -/
def two (x y : Lanes) (j : Nat) : BitVec 16 := (x.toList ++ y.toList).getD j 0
/-- The saturating store value of an accumulator lane: floor, convergent rounding, then the bound `m`, by its overflow sign
where OV is set (R162). -/
def satValue (e : Engine) (a : Fin 4) (i : Fin 8) (q : Nat) (m : Int) : Int :=
  let acc := ((e.acc[a])[i]).toInt
  let t := acc / 2 ^ q
  let rem := acc % 2 ^ q
  let r := if 0 < q ∧ (2 ^ (q - 1) < rem ∨ (rem = 2 ^ (q - 1) ∧ t % 2 = 1)) then t + 1 else t
  if (e.ov[a])[i] = true then (if (e.ovs[a])[i] = true then -m else m) else if m < r then m else if r < -m then -m else r
/-- Each lane of accumulator `a` with an exact value added, and its overflow flags (R161). -/
def accumulated (a : Fin 4) (p : Fin 8 → Int) (e : Engine) : Engine :=
  let x := fun (i : Fin 8) => ((e.acc[a])[i]).toInt + p i
  let ovf := fun (i : Fin 8) => decide (2 ^ 39 - 1 < x i ∨ x i < -(2 ^ 39))
  { e with
    acc := e.acc.set a (Vector.ofFn fun i => BitVec.ofInt 40 (x i))
    ov := e.ov.set a (Vector.ofFn fun i => (e.ov[a])[i] || ovf i)
    ovs := e.ovs.set a (Vector.ofFn fun i => if ovf i then decide (x i < 0) else (e.ovs[a])[i]) }
/-- Accumulator `a` written, with OV and OVS cleared (R161, R187). -/
def accWritten (a : Fin 4) (p : Fin 8 → Int) (e : Engine) : Engine :=
  { e with
    acc := e.acc.set a (Vector.ofFn fun i => BitVec.ofInt 40 (p i))
    ov := e.ov.set a (Vector.replicate 8 false), ovs := e.ovs.set a (Vector.replicate 8 false) }
/-- Every byte of the flash outside `[lo, hi)` reads as before. -/
def FlashKept (lo hi : Nat) (s t : State) : Prop := ∀ a : Nat, a < lo ∨ hi ≤ a → kget a t.flash = kget a s.flash

/-- The opcode that a command carries, the block it belongs to and its packet; none for an event. -/
def opcodeOf : Instr → Option (Nat × Nat × CmdIn)
  | .seqConfig c => some (0x10, 1, c)
  | .seqRef c => some (0x11, 1, c)
  | .seqFlightWrite c => some (0x12, 1, c)
  | .seqPeriod c => some (0x13, 1, c)
  | .seqPageSwitch c => some (0x14, 1, c)
  | .seqArm c => some (0x15, 1, c)
  | .seqTrigger c => some (0x16, 1, c)
  | .seqStop c => some (0x17, 1, c)
  | .seqEpoch c => some (0x18, 1, c)
  | .seqGetStatus c => some (0x19, 1, c)
  | .seqLmon c => some (0x1A, 1, c)
  | .rxfProbeWrite c => some (0x20, 2, c)
  | .rxfCodeWrite c => some (0x21, 2, c)
  | .rxfStairWrite c => some (0x22, 2, c)
  | .rxfGate c => some (0x23, 2, c)
  | .rxfPower c => some (0x24, 2, c)
  | .rxfProbeTest c => some (0x25, 2, c)
  | .rxfGetStatus c => some (0x26, 2, c)
  | .prismConfig c => some (0x30, 3, c)
  | .prismGallery c => some (0x31, 3, c)
  | .prismGalInit c => some (0x32, 3, c)
  | .prismQclear c => some (0x33, 3, c)
  | .prismBril c => some (0x34, 3, c)
  | .prismMfInfo c => some (0x35, 3, c)
  | .prismGetStatus c => some (0x36, 3, c)
  | .pfilConfig c => some (0x40, 4, c)
  | .pfilMemSetup c => some (0x41, 4, c)
  | .pfilCoefWrite c => some (0x42, 4, c)
  | .pfilSwap c => some (0x43, 4, c)
  | .pfilSync c => some (0x44, 4, c)
  | .pfilLoupe c => some (0x45, 4, c)
  | .pfilBudget c => some (0x46, 4, c)
  | .pfilGetStatus c => some (0x47, 4, c)
  | .outStream c => some (0x80, 8, c)
  | .outCmp c => some (0x81, 8, c)
  | .outMemSetup c => some (0x82, 8, c)
  | .outCmpSave c => some (0x83, 8, c)
  | .outCmpRestore c => some (0x84, 8, c)
  | .outSnapRead c => some (0x85, 8, c)
  | .outUser c => some (0x86, 8, c)
  | .outGetStatus c => some (0x87, 8, c)
  | .engAssign c => some (0x50, 5, c)
  | .engSpan c => some (0x51, 5, c)
  | .engGauge c => some (0x52, 5, c)
  | .engLoad c => some (0x53, 5, c)
  | .engRead c => some (0x54, 5, c)
  | .engStart c => some (0x55, 5, c)
  | .engStop c => some (0x56, 5, c)
  | .engMeminit c => some (0x57, 5, c)
  | .engDefault c => some (0x58, 5, c)
  | .engGetStatus c => some (0x59, 5, c)
  | .brilConfig c => some (0x60, 6, c)
  | .brilMemSetup c => some (0x61, 6, c)
  | .brilEnable c => some (0x62, 6, c)
  | .brilCoil c => some (0x63, 6, c)
  | .brilDump c => some (0x64, 6, c)
  | .brilGetStatus c => some (0x65, 6, c)
  | .lwEnable c => some (0x70, 7, c)
  | .lwTrigger c => some (0x71, 7, c)
  | .lwHoldoff c => some (0x72, 7, c)
  | .lwMaskConfig c => some (0x73, 7, c)
  | .lwMaskWrite c => some (0x74, 7, c)
  | .lwMaskFill c => some (0x75, 7, c)
  | .lwMaskLearn c => some (0x76, 7, c)
  | .lwAlarm c => some (0x77, 7, c)
  | .lwCapture c => some (0x78, 7, c)
  | .lwLastEvent c => some (0x79, 7, c)
  | .lwGetStatus c => some (0x7A, 7, c)
  | .linkSetId c => some (0x90, 10, c)
  | .linkGroup c => some (0x91, 10, c)
  | .linkTimingCfg c => some (0x92, 10, c)
  | .linkRunStart c => some (0x93, 10, c)
  | .linkLoop c => some (0x94, 10, c)
  | .linkTopology c => some (0x95, 10, c)
  | .linkRttStatus c => some (0x96, 10, c)
  | .linkGetStatus c => some (0x97, 10, c)
  | .nopCommand c => some (0x00, 11, c)
  | .identCmd c => some (0x01, 11, c)
  | .statusCmd c => some (0x02, 11, c)
  | .readReg c => some (0x03, 0, c)
  | .writeReg c => some (0x04, 0, c)
  | .resetCmd c => some (0x05, 11, c)
  | .factoryTest op c => some (0xF0 + op.val, 11, c)
  | .mgmtStatus c => some (0xA0, 20, c)
  | .cfgRead c => some (0xA1, 20, c)
  | .cfgWrite c => some (0xA2, 20, c)
  | .cfgCommit c => some (0xA3, 20, c)
  | .updBegin c => some (0xA4, 20, c)
  | .updData c => some (0xA5, 20, c)
  | .updCommit c => some (0xA6, 20, c)
  | .updSelect c => some (0xA7, 20, c)
  | .logRead c => some (0xA8, 20, c)
  | .lifeRead c => some (0xA9, 20, c)
  | .sensorRead c => some (0xAA, 20, c)
  | .tdcConfig c => some (0xC6, 14, c)
  | .tdcCalibrate c => some (0xC7, 14, c)
  | .tdcRead c => some (0xC8, 14, c)
  | .tdcFreq c => some (0xC9, 14, c)
  | .tdcGetStatus c => some (0xCA, 14, c)
  | .hkSeqConfig c => some (0xC0, 15, c)
  | .hkInject c => some (0xC1, 15, c)
  | .hkWindow c => some (0xC2, 15, c)
  | .hkRtd c => some (0xC3, 15, c)
  | .hkReadAcc c => some (0xC4, 15, c)
  | .hkGetStatus c => some (0xC5, 15, c)
  | .calRun c => some (0xB0, 16, c)
  | .calConfig c => some (0xB1, 16, c)
  | .calRead c => some (0xB2, 16, c)
  | .calWrite c => some (0xB3, 16, c)
  | .calGetStatus c => some (0xB4, 16, c)
  | .emitSet c => some (0xCB, 17, c)
  | .emitRestart c => some (0xCC, 17, c)
  | .dchWrite c => some (0xCD, 17, c)
  | .emitGetStatus c => some (0xCE, 17, c)
  | .pwrState c => some (0xD0, 18, c)
  | .pwrOp c => some (0xD1, 18, c)
  | .pwrWake c => some (0xD2, 18, c)
  | .pwrGetStatus c => some (0xD3, 18, c)
  | .pmonConfig c => some (0xE0, 19, c)
  | .pmonSnapshot c => some (0xE1, 19, c)
  | .pmonRead c => some (0xE2, 19, c)
  | .pmonBw c => some (0xE3, 19, c)
  | .pmonGetStatus c => some (0xE4, 19, c)
  | _ => none

/-! ### The machine as a whole -/

/-- A step with a command in front of the queue is that command's effect, with the queue's rest. -/
def stepFront : Prop := ∀ (c : Instr) (rest : List Instr) (s : State),
  step { s with pending := c :: rest } = exec c { s with pending := rest }
/-- No word spells a command, the table giving no row any bits: what the host places leaves the state as it is. -/
def placedWord : Prop := ∀ (s : State) (n w : Nat), Sys2Proof.decodeTableWord n w = none ∧ s.withFetchWord n w = s
/-- With no command waiting, clk_fab absent and nothing under way, one cycle of 2.5 ns passes and nothing else happens (log entry 1:
the model's choice). -/
abbrev preIdleCycle (s : State) : Prop :=
  s.pending = [] ∧ s.fabRuns = false ∧ s.domainOn 1 = false ∧ s.pwr.change = none ∧ s.cmd.resetting = false
def idleCycle : Prop := ∀ s : State, preIdleCycle s → step s = .next { s with cyc := s.cyc + 1 }
/-- With no command waiting, a change toward a lower clk_eng that has lasted VSETTLE + 1 µs is complete (R461; log entry 1). -/
abbrev preIdleLowering (s : State) (o : Nat) : Prop :=
  s.pending = [] ∧ s.fabRuns = false ∧ s.domainOn 1 = false ∧ s.cmd.resetting = false ∧ s.pwr.change = some (.lower o) ∧ s.pwr.held = none ∧ s.pwr.stateTo = some 1
    ∧ s.pwr.changeAt + (s.get PWR_VSETTLE_US + 1) * 400 ≤ s.cyc + 1
def idleLowering : Prop := ∀ (s : State) (o : Nat), preIdleLowering s o →
  ∃ t, step s = .next t ∧ t.get PWR_STATUS_STATE = 1 ∧ t.get PWR_STATUS_BUSY = 0 ∧ t.cyc = s.cyc + 1 ∧ t.pwr.change = none
    ∧ Only [PWR_STATUS_STATE, PWR_STATUS_BUSY] s { s with cyc := t.cyc, pwr := t.pwr } t
/-- With no command waiting, the reset that RESET asked for begins once every entry is answered and its instant has come (R326). -/
abbrev preIdleReset (s : State) : Prop :=
  s.pending = [] ∧ s.fabRuns = false ∧ s.domainOn 1 = true ∧ s.cyc % 32 = 0 ∧ s.pwr.change = none ∧ s.cmd.resetting = true ∧ s.cmd.queue = [] ∧ s.cmd.exec = none
    ∧ s.cmd.resetAt ≤ s.cyc ∧ s.get SYS_RST_CAUSE_HIST < 32
def idleReset : Prop := ∀ s : State, preIdleReset s →
  ∃ t, step s = .next t ∧ t.get SYS_RST_CAUSE_CAUSE = 3 ∧ t.get SYS_RST_CAUSE_HIST = s.get SYS_RST_CAUSE_HIST ||| 4
    ∧ SameRegs [SYS_RST_CAUSE_CAUSE, SYS_RST_CAUSE_HIST, PWR_STATUS_WAKE_SRC] State.reset t ∧ t.flash = s.flash ∧ t.mem = []

/-- The registers that 22 gives a value after power-on: cause POR with only its history bit, ACTIVE at OP0 with every domain on, no PLL
locked, no wake, phase ROM. -/
def resetPower : Prop :=
  State.reset.get SYS_RST_CAUSE_CAUSE = 1 ∧ State.reset.get SYS_RST_CAUSE_HIST = 1 ∧ State.reset.rawReg 18 4 = 0x3F0000
    ∧ State.reset.pwr.vsel = 0 ∧ State.reset.get PWR_VSETTLE_US = 200 ∧ State.reset.rawReg 0 0x18 = 1 ∧ State.reset.get MGMT_STATUS_PHASE = 0
/-- Every field reads the value its register map gives for reset; nothing is in memory, in the flash or in the queue. -/
def resetFields : Prop := (∀ f : Fld, State.reset.get f = f.rst) ∧ State.reset.mem = [] ∧ State.reset.flash = [] ∧ State.reset.pending = []
/-- The state after reset is sound. -/
def resetSound : Prop := State.reset.wf = true

/-- Every step, from every sound state, ends in a sound state: registers, memory, error marks and flash each in their one form; and it takes
nothing from the queue but the command in front. -/
def stepKeepsSound : Prop := ∀ s t : State, s.wf = true → step s = .next t → t.wf = true ∧ t.pending = s.pending.tail

/-- No command ends in a fault or a refusal. -/
def completes : Prop := ∀ (c : Instr) (s : State), ∃ t, exec c s = .next t

/-! ### What every opcode has in common -/

/-- R323, check 4: before READY every opcode but IDENT and STATUS is answered NOT_READY and changes nothing. -/
abbrev preBeforeReady (i : Instr) (op blk : Nat) (c : CmdIn) (s : State) : Prop :=
  opcodeOf i = some (op, blk, c) ∧ s.get MGMT_STATUS_PHASE ≠ 4 ∧ op ≠ 1 ∧ op ≠ 2
def beforeReady : Prop := ∀ (i : Instr) (op blk : Nat) (c : CmdIn) (s : State), preBeforeReady i op blk c s → ∃ t, exec i s = .next t ∧ Done op 1 [] [] c s s t
/-- R466: from the acceptance of an entry to STANDBY or SLEEP until its outcome, every opcode but those of PWR is answered NOT_READY and
changes nothing. -/
abbrev preDuringEntry (i : Instr) (op blk : Nat) (c : CmdIn) (s : State) (d : Nat) : Prop :=
  opcodeOf i = some (op, blk, c) ∧ s.pwr.change = some (.entry d) ∧ (op < 0xD0 ∨ 0xD3 < op)
def duringEntry : Prop := ∀ (i : Instr) (op blk : Nat) (c : CmdIn) (s : State) (d : Nat), preDuringEntry i op blk c s d →
  ∃ t, exec i s = .next t ∧ Done op 1 [] [] c s s t
/-- R20, R457: an opcode of a block whose domain is off, or that needs clk_fab while it does not run, is answered NOT_READY and changes nothing. -/
abbrev preUnreachable (i : Instr) (op blk : Nat) (c : CmdIn) (s : State) : Prop :=
  opcodeOf i = some (op, blk, c) ∧ (s.domainOn (domainOf blk) = false ∨ (2 ≤ domainOf blk ∧ s.fabRuns = false))
def unreachable : Prop := ∀ (i : Instr) (op blk : Nat) (c : CmdIn) (s : State), preUnreachable i op blk c s → ∃ t, exec i s = .next t ∧ Done op 1 [] [] c s s t

/-! ### Rules stated on their own -/

/-- R31: a start is refused with BAD_PARAM if a position of the fibre's range lies in no engine's span; nothing makes it NOT_READY here. -/
abbrev preSpanGap (c : CmdIn) (s : State) (f : Fib) (p : Nat) : Prop :=
  Ready 1 s ∧ c.words.head? = some f.val ∧ c.words.length = 6 ∧ c.words.getD 1 0 < 256 ∧ s.seqState f = 0
    ∧ (s.get SEQ_REF_STATUS_LOCKED = 1 ∨ s.fallsBack = true ∨ s.external = false) ∧ s.get SEQ_REF_STATUS_EPOCH_VALID = 1
    ∧ s.groupsWait f = false ∧ s.get (galValidF f) = 1
    ∧ p < s.readN f ∧ ∀ q ∈ s.spansOf f, ¬ (q.1 ≤ p ∧ p ≤ q.2)
def spanGap : Prop := ∀ (c : CmdIn) (s : State) (f : Fib) (p : Nat), preSpanGap c s f p → ∃ t, exec (.seqArm c) s = .next t ∧ Done 0x15 3 [] [] c s s t

/-- R480: CLR sets every counter to 0, but for occurrences of its own cycle, and clears PMON_WRAP. -/
abbrev preClearAll (s : State) : Prop := s.domainOn 2 = true ∧ s.fabRuns = true
def clearAll : Prop := ∀ s : State, preClearAll s →
  ∃ t, exec .pmonClr s = .next t ∧ (∀ k : Fin 8, t.pmon.cnt[k] = if s.pmon.nowAt = s.cyc then s.pmon.now[k] else 0) ∧ t.get PMON_WRAP_WRAP = 0
/-- R480: occurrences of the cycle of a clear are added after it and are kept, whichever comes first. -/
abbrev preClearThenCount (s : State) (k : Fin 8) (ev n m : Nat) : Prop :=
  s.domainOn 2 = true ∧ s.fabRuns = true ∧ s.get PMON_CTRL_RUN = 1 ∧ s.pmonCounts ev m k.val = true ∧ n < 2 ^ 48 ∧ s.pmon.nowAt ≠ s.cyc
def clearThenCount : Prop := ∀ (s : State) (k : Fin 8) (ev n m : Nat), preClearThenCount s k ev n m →
  (∃ t, exec .pmonClr s = .next t ∧ (t.pmonAdd ev n m).pmon.cnt[k] = n) ∧ ∃ t, exec .pmonClr (s.pmonAdd ev n m) = .next t ∧ t.pmon.cnt[k] = n
/-- R480: PMON_CNTk_CTRL is written only while its EN = 0. -/
abbrev preCounterWrite (s : State) (m : Master) : Prop :=
  (m = .mgmt ∨ m = .cmd) ∧ s.reach 19 = true ∧ NoHeld s ∧ s.get PMON_CTRL_RUN = 0
def counterWrite : Prop := ∀ (s : State) (k : Fin 8) (m : Master) (v : BitVec 32), preCounterWrite s m →
  (s.get (PMON_CNTk_CTRL_EN k) = 1 → exec (.registerWrite m (BitVec.ofNat 40 (0x40130100 + 0x10 * k.val)) 4 v) s = .next s)
  ∧ (s.get (PMON_CNTk_CTRL_EN k) = 0 → pmonCtlOk v.toNat = true →
      ∃ t, exec (.registerWrite m (BitVec.ofNat 40 (0x40130100 + 0x10 * k.val)) 4 v) s = .next t
        ∧ t.get (PMON_CNTk_CTRL_EVENT k) = v.toNat % 256 ∧ t.get (PMON_CNTk_CTRL_MASTER k) = v.toNat / 256 % 256
        ∧ t.get (PMON_CNTk_CTRL_MFILT k) = v.toNat / 2 ^ 16 % 2 ∧ t.get (PMON_CNTk_CTRL_EN k) = v.toNat / 2 ^ 17 % 2
        ∧ Only [PMON_CNTk_CTRL_EVENT k, PMON_CNTk_CTRL_MASTER k, PMON_CNTk_CTRL_MFILT k, PMON_CNTk_CTRL_EN k] s s t)
/-- R480: a counter that is disabled keeps its value. -/
def disabledKeeps : Prop := ∀ (s : State) (k : Fin 8) (ev n m : Nat), s.get (PMON_CNTk_CTRL_EN k) = 0 → (s.pmonAdd ev n m).pmon.cnt[k] = s.pmon.cnt[k]

/-- R478, R479: outside the cycle of a snapshot, occurrences of its event are added to an enabled counter, modulo 2^48, and a carry sets its bit of PMON_WRAP; no bit of
PMON_WRAP is cleared and no other register changes. -/
abbrev preCounterWrap (s : State) (k : Fin 8) (ev m : Nat) : Prop :=
  s.fabRuns = true ∧ s.get PMON_CTRL_RUN = 1 ∧ s.pmonCounts ev m k.val = true ∧ s.pmon.snapAt ≠ some s.cyc
def counterWrap : Prop := ∀ (s : State) (k : Fin 8) (ev n m : Nat), preCounterWrap s k ev m →
  (s.pmonAdd ev n m).pmon.cnt[k] = (s.pmon.cnt[k] + n) % 2 ^ 48
    ∧ (2 ^ 48 ≤ s.pmon.cnt[k] + n → ((s.pmonAdd ev n m).get PMON_WRAP_WRAP).testBit k.val = true)
    ∧ (s.pmon.cnt[k] + n < 2 ^ 48 → s.get PMON_WRAP_WRAP < 256 → ((s.pmonAdd ev n m).get PMON_WRAP_WRAP).testBit k.val = (s.get PMON_WRAP_WRAP).testBit k.val)
    ∧ (∀ i : Fin 8, (s.get PMON_WRAP_WRAP).testBit i.val = true → ((s.pmonAdd ev n m).get PMON_WRAP_WRAP).testBit i.val = true)
    ∧ Only [PMON_WRAP_WRAP] s { s with pmon := (s.pmonAdd ev n m).pmon } (s.pmonAdd ev n m)

/-- R215: a word with STEP set, whether or not CLIP is, is excluded from every trigger test, mask test and learn. -/
def stepExcluded : Prop := ∀ (s : State) (f : Fib) (e : Nat) (w : EnvWord) (t : LwTrig), w.step = true →
  ((s.stepTrig f e w t).1.sum = t.sum ∧ (s.stepTrig f e w t).1.k = t.k) ∧ s.stepMask f e w = ([], s) ∧ s.stepLearn f e w = s
/-- R215: a word with CLIP set and STEP clear takes part in tests and learns with 0xFF_FFFF in place of ENV. -/
def clipReplaced : Prop := ∀ (s : State) (f : Fib) (e : Nat) (w : EnvWord) (t : LwTrig), w.step = false → w.clip = true →
  s.stepTrig f e w t = s.stepTrig f e ⟨0xFFFFFF, false, false⟩ t ∧ s.stepMask f e w = s.stepMask f e ⟨0xFFFFFF, false, false⟩
    ∧ s.stepLearn f e w = s.stepLearn f e ⟨0xFFFFFF, false, false⟩

end Sys2Proof.Claim

/-- With a command in front of the queue a step is exec of that command on the state with the queue's rest; no word spells a command, since the table gives no row any bits, and placing one changes nothing. -/
def Obligations.StepRunsFront : Prop :=
  Sys2Proof.Claim.stepFront ∧ Sys2Proof.Claim.placedWord

/-- With no command waiting a step lets one clk_fab cycle of 2.5 ns pass (the model's choice, log entry 1): in a quiet device only the time changes; a lowering of clk_eng that has lasted VSETTLE + 1 us is complete; the reset that RESET asked for begins when it is due. -/
def Obligations.IdleCycle : Prop :=
  Sys2Proof.Claim.idleCycle ∧ Sys2Proof.Claim.idleLowering ∧ Sys2Proof.Claim.idleReset

/-- After power-on CAUSE reads 1 and HIST has only bit 8 set, the device is in ACTIVE at OP0 with VSEL 0b00 and every domain on, only the crystal runs and the phase is ROM; every field reads the Reset value of its register map; memory, flash and queue are empty (the flash's contents are log entry 6's choice, memory unwritten log entry 3's). -/
def Obligations.ResetValues : Prop :=
  Sys2Proof.Claim.resetPower ∧ Sys2Proof.Claim.resetFields

/-- Registers, memory, error marks and flash of the reset state are each in their one canonical form. -/
def Obligations.ResetIsSound : Prop :=
  Sys2Proof.Claim.resetSound

/-- From every sound state, if a step answers a next state, its registers, memory and error marks are strictly rising lists of addresses, its flash lists no erased byte, and its queue is the old one without its first command. -/
def Obligations.StepKeepsSound : Prop :=
  Sys2Proof.Claim.stepKeepsSound

/-- Every command, in every state, answers a next state: there is no fault and no refusal. -/
def Obligations.EveryCommandCompletes : Prop :=
  Sys2Proof.Claim.completes

namespace Sys2Proof.Claim
open Sys2Proof.Machine Sys2Proof.Machine.Reg

abbrev preSamplingPllStart (s : State) : Prop :=
  s.domainOn 3 = true ∧ s.get SYS_CLK_STATUS_SMP_LOCK = 0 ∧ s.get SYS_STATUS_REFCLK_SMP_BAD = 0
/-- SAMPLING_PLL_START (R28, R456): REFCLK_SMP is valid, and the PLL starts. -/
def samplingPllStart : Prop := ∀ s, preSamplingPllStart s →
  ∃ t, exec (.samplingPllStart) s = .next t
    ∧ t.get SYS_CLK_STATUS_REFCLK_SMP_OK = 1 ∧ Only [SYS_CLK_STATUS_REFCLK_SMP_OK] s { s with pwr := { s.pwr with pllStarted := true, pllOn := true } } t

abbrev preSamplingPllBarred (s : State) : Prop :=
  s.get SYS_STATUS_REFCLK_SMP_BAD = 1
/-- SAMPLING_PLL_START (R28) after a stop: REFCLK_SMP_OK shows the clock, and nothing starts. -/
def samplingPllBarred : Prop := ∀ s, preSamplingPllBarred s →
  ∃ t, exec (.samplingPllStart) s = .next t
    ∧ t.get SYS_CLK_STATUS_REFCLK_SMP_OK = 1 ∧ Only [SYS_CLK_STATUS_REFCLK_SMP_OK] s s t

abbrev preSamplingPllLock (s : State) : Prop :=
  s.pwr.pllOn = true ∧ s.domainOn 3 = true ∧ s.get SYS_CLK_STATUS_SMP_LOCK = 0 ∧ s.get SYS_STATUS_REFCLK_SMP_BAD = 0
/-- SAMPLING_PLL_LOCK (R456, R457, R477): the PLLs are locked, clk_fab runs, and PMON_CYC starts at 0. -/
def samplingPllLock : Prop := ∀ s, preSamplingPllLock s →
  ∃ t, exec (.samplingPllLock) s = .next t
    ∧ t.get SYS_CLK_STATUS_SMP_LOCK = 1 ∧ t.get SYS_CLK_STATUS_ENG_LOCK = 1 ∧ t.fabRuns = true ∧ t.pmonCyc = 0
    ∧ Only [SYS_CLK_STATUS_SMP_LOCK, SYS_CLK_STATUS_ENG_LOCK, SYS_CLK_STATUS_FAB_RUN] s { s with pwr := { s.pwr with fabAt := s.cyc }, pmon := { s.pmon with cycAt := s.cyc } } t

abbrev preRefclkSmpBad (s : State) : Prop :=
  s.pwr.pllStarted = true ∧ s.get SYS_STATUS_REFCLK_SMP_BAD = 0 ∧ s.get (CAL_STAT_STATE 0) = 0 ∧ s.get (CAL_STAT_STATE 1) = 0 ∧ s.domainOn 1 = true
/-- REFCLK_SMP_BAD (R28) with no calibration running: the clocks stop, and the stop is flagged and logged. -/
def refclkSmpBad : Prop := ∀ s, preRefclkSmpBad s →
  ∃ t, exec (.refclkSmpBad) s = .next t
    ∧ t.get SYS_STATUS_REFCLK_SMP_BAD = 1 ∧ t.get SYS_CLK_STATUS_REFCLK_SMP_OK = 0 ∧ t.get SYS_CLK_STATUS_SMP_LOCK = 0 ∧ t.get SYS_CLK_STATUS_ENG_LOCK = 0 ∧ t.fabRuns = false ∧ (∀ f : Fib, (t.rxf[f]).probe = none)
    ∧ t.get MGMT_LOG_SEQ_NEXT = (s.get MGMT_LOG_SEQ_NEXT + 1) % 2 ^ 32 ∧ LogKept s t
    ∧ SameRegs ([SYS_STATUS_REFCLK_SMP_BAD, SYS_CLK_STATUS_REFCLK_SMP_OK, SYS_CLK_STATUS_SMP_LOCK, SYS_CLK_STATUS_ENG_LOCK, SYS_CLK_STATUS_FAB_RUN] ++ logF) s t

abbrev preRefclkBadEarly (s : State) : Prop :=
  s.pwr.pllStarted = false
/-- REFCLK_SMP_BAD (R28) before the PLL was started: only REFCLK_SMP_OK changes. -/
def refclkBadEarly : Prop := ∀ s, preRefclkBadEarly s →
  ∃ t, exec (.refclkSmpBad) s = .next t
    ∧ t.get SYS_CLK_STATUS_REFCLK_SMP_OK = 0 ∧ Only [SYS_CLK_STATUS_REFCLK_SMP_OK] s s t

abbrev preGoStateEntry (s : State) (d : Nat) : Prop :=
  s.get PWR_REQ_STATE = d ∧ 2 ≤ d ∧ d ≤ 3 ∧ s.get PWR_STATUS_STATE = 0 ∧ s.pwr.change = none ∧ s.pwr.stateTo = none ∧ s.seqState 0 = 0 ∧ s.seqState 1 = 0 ∧ s.get MGMT_STATUS_CFG_BUSY = 0 ∧ s.get MGMT_STATUS_UPD_BUSY = 0
    ∧ s.get PWR_WAKE_EN_EN &&& (if d = 2 then 0b11101 else 0b00111) ≠ 0
/-- GO_STATE (R465, R466) to STANDBY or SLEEP with an allowed wake source: the entry is accepted. -/
def goStateEntry : Prop := ∀ s d, preGoStateEntry s d →
  ∃ t, exec (.goState) s = .next t
    ∧ t.get PWR_STATUS_BUSY = 1 ∧ t.get PWR_WAKE_PEND_PEND = 0 ∧ t.entering = true
    ∧ Only [PWR_STATUS_BUSY, PWR_WAKE_PEND_PEND] s { s with pwr := { s.pwr with change := some (.entry d), changeAt := s.cyc } } t

abbrev preGoStateRefused (s : State) (d : Nat) : Prop :=
  s.get PWR_REQ_STATE = d ∧ 1 ≤ d ∧ s.get PWR_STATUS_STATE = 0 ∧ s.pwr.change = none ∧ s.pwr.stateTo = none
    ∧ s.seqState 0 ≠ 0 ∨ s.seqState 1 ≠ 0 ∨ (d = 3 ∧ (s.get MGMT_STATUS_CFG_BUSY = 1 ∨ s.get MGMT_STATUS_UPD_BUSY = 1)) ∨ (d = 2 ∧ s.get PWR_WAKE_EN_EN &&& 0b11101 = 0) ∨ (d = 3 ∧ s.get PWR_WAKE_EN_EN &&& 0b00111 = 0)
/-- GO_STATE (R465, R475): a refused GO changes nothing but REFUSED. -/
def goStateRefused : Prop := ∀ s d, preGoStateRefused s d →
  ∃ t, exec (.goState) s = .next t
    ∧ t.get PWR_FLAGS_REFUSED = 1 ∧ Only [PWR_FLAGS_REFUSED] s s t

abbrev preGoOpRaise (s : State) (o : Nat) : Prop :=
  s.get PWR_REQ_OP = o ∧ o < s.get PWR_STATUS_OP ∧ s.get PWR_STATUS_STATE = 0 ∧ s.pwr.change = none
/-- GO_OP (R461) toward a higher clk_eng: VSEL takes the new code, and the divider waits for the voltage. -/
def goOpRaise : Prop := ∀ s o, preGoOpRaise s o →
  ∃ t, exec (.goOp) s = .next t
    ∧ t.get PWR_STATUS_BUSY = 1 ∧ t.get PWR_STATUS_OP = s.get PWR_STATUS_OP
    ∧ Only [PWR_STATUS_BUSY] s { s with pwr := { s.pwr with change := some (.raise o), changeAt := s.cyc, vsel := o, stateTo := none } } t

abbrev preGoOpLower (s : State) (o : Nat) : Prop :=
  s.get PWR_REQ_OP = o ∧ s.get PWR_STATUS_OP < o ∧ o < 4 ∧ s.get PWR_STATUS_STATE = 0 ∧ s.pwr.change = none
/-- GO_OP (R461) toward a lower clk_eng: the divider switches at once, and VSEL takes the new code. -/
def goOpLower : Prop := ∀ s o, preGoOpLower s o →
  ∃ t, exec (.goOp) s = .next t
    ∧ t.get PWR_STATUS_BUSY = 1 ∧ t.get PWR_STATUS_OP = o
    ∧ Only [PWR_STATUS_BUSY, PWR_STATUS_OP] s { s with pwr := { s.pwr with change := some (.lower o), changeAt := s.cyc, vsel := o, stateTo := none } } t

abbrev preGoOpHeld (s : State) (o x : Nat) : Prop :=
  s.get PWR_REQ_OP = o ∧ s.get PWR_STATUS_OP ≠ o ∧ s.get PWR_STATUS_STATE = 0 ∧ s.pwr.change = some (.raise x) ∧ x ≠ o ∧ s.pwr.held.isSome = true
/-- GO_OP (R467) while another change is in progress: the request is held, and a held one is replaced. -/
def goOpHeld : Prop := ∀ s o x, preGoOpHeld s o x →
  ∃ t, exec (.goOp) s = .next t
    ∧ t.get PWR_STATUS_HELD = 1 ∧ t.get PWR_FLAGS_REPLACED = 1
    ∧ Only [PWR_STATUS_HELD, PWR_FLAGS_REPLACED] s { s with pwr := { s.pwr with held := some ⟨false, o, true⟩ } } t

abbrev preGoReduced (s : State) : Prop :=
  s.get PWR_REQ_STATE = 1 ∧ s.get PWR_STATUS_STATE = 0 ∧ s.pwr.change = none ∧ s.pwr.stateTo = none ∧ s.seqState 0 = 0 ∧ s.seqState 1 = 0 ∧ s.get PWR_STATUS_OP < 3 ∧ (∀ k : Fin 16, s.engState k ≠ 1) ∧ s.get (CAL_STAT_STATE 0) = 0 ∧ s.get (CAL_STAT_STATE 1) = 0
/-- GO_STATE (R464) to REDUCED with no engine fed by a fibre running: RAY_EN is recorded and cleared, and OP3 is entered. -/
def goReduced : Prop := ∀ s, preGoReduced s →
  ∃ t, exec (.goState) s = .next t
    ∧ t.get (RXF_CTRL_RAY_EN 0) = 0 ∧ t.get (RXF_CTRL_RAY_EN 1) = 0 ∧ t.get PWR_STATUS_OP = 3 ∧ t.get PWR_STATUS_BUSY = 1 ∧ t.get PWR_STATUS_STATE = 0
    ∧ t.pwr = { s.pwr with savedRay := (s.on (RXF_CTRL_RAY_EN 0), s.on (RXF_CTRL_RAY_EN 1)), savedOp := s.get PWR_STATUS_OP, change := some (.lower 3), changeAt := s.cyc, vsel := 3, stateTo := some 1 }

abbrev preVoltageConfirm (s : State) (o mv : Nat) : Prop :=
  s.pwr.change = some (.raise o) ∧ o < 4 ∧ [850, 800, 720, 650].getD o 0 ≤ mv + 25 ∧ s.cyc ≤ s.pwr.changeAt + s.get PWR_VSETTLE_US * 400 + 400000 ∧ s.pwr.stateTo = none ∧ s.pwr.held = none
/-- VOLTAGE_CONFIRM (R461): at or above target − 25 mV within VSETTLE + 1 ms, the divider switches and the change is complete. -/
def voltageConfirm : Prop := ∀ s o mv, preVoltageConfirm s o mv →
  ∃ t, exec (.voltageConfirm mv) s = .next t
    ∧ t.get PWR_STATUS_OP = o ∧ t.get PWR_STATUS_BUSY = 0 ∧ Only [PWR_STATUS_OP, PWR_STATUS_BUSY] s { s with pwr := { s.pwr with change := none, stateTo := none } } t

abbrev preVoltageLow (s : State) (o mv : Nat) : Prop :=
  s.pwr.change = some (.raise o) ∧ o < 4 ∧ mv + 25 < [850, 800, 720, 650].getD o 0
/-- VOLTAGE_CONFIRM (R461) below the threshold: the change goes on. -/
def voltageLow : Prop := ∀ s o mv, preVoltageLow s o mv →
  ∃ t, exec (.voltageConfirm mv) s = .next t
    ∧ t = s

abbrev preVoltageReturn (s : State) (o mv : Nat) : Prop :=
  s.pwr.change = some (.raise o) ∧ o < 4 ∧ [850, 800, 720, 650].getD o 0 ≤ mv + 25 ∧ s.cyc ≤ s.pwr.changeAt + s.get PWR_VSETTLE_US * 400 + 400000 ∧ s.pwr.stateTo = some 0 ∧ s.pwr.held = none
/-- VOLTAGE_CONFIRM (R461, R464) of the raise of a return to ACTIVE: the state changes with it. -/
def voltageReturn : Prop := ∀ s o mv, preVoltageReturn s o mv →
  ∃ t, exec (.voltageConfirm mv) s = .next t
    ∧ t.get PWR_STATUS_OP = o ∧ t.get PWR_STATUS_STATE = 0 ∧ t.get PWR_STATUS_BUSY = 0 ∧ Only [PWR_STATUS_OP, PWR_STATUS_STATE, PWR_STATUS_BUSY] s { s with pwr := { s.pwr with change := none, stateTo := none } } t

abbrev preVsettleTimeout (s : State) (o : Nat) : Prop :=
  s.pwr.change = some (.raise o) ∧ s.pwr.changeAt + s.get PWR_VSETTLE_US * 400 + 400000 < s.cyc
/-- VSETTLE_TIMEOUT (R461): VSEL returns and the frequency stays; the change is over VSETTLE later. -/
def vsettleTimeout : Prop := ∀ s o, preVsettleTimeout s o →
  ∃ t, exec (.vsettleTimeout) s = .next t
    ∧ t = { s with pwr := { s.pwr with change := some .back, changeAt := s.cyc, vsel := s.get PWR_STATUS_OP } }

abbrev preRaiseGivenUp (s : State) : Prop :=
  s.pwr.change = some .back ∧ s.pwr.changeAt + s.get PWR_VSETTLE_US * 400 ≤ s.cyc ∧ s.pwr.stateTo = none ∧ s.pwr.held = none
/-- A cycle (R461) once VSETTLE has passed after VSEL returned: the change is complete and VFAIL is set. -/
def raiseGivenUp : Prop := ∀ s, preRaiseGivenUp s →
  ∃ t, s.opTick = t
    ∧ t.get PWR_FLAGS_VFAIL = 1 ∧ t.get PWR_STATUS_BUSY = 0 ∧ t.get PWR_STATUS_OP = s.get PWR_STATUS_OP
    ∧ Only [PWR_FLAGS_VFAIL, PWR_STATUS_BUSY] s { s with pwr := { s.pwr with change := none, stateTo := none } } t

abbrev preEntryAborted (s : State) (d : Nat) : Prop :=
  s.pwr.change = some (.entry d) ∧ d = 2 ∧ s.domainOn 4 = false ∧ s.domainOn 5 = false ∧ s.pwr.held = none ∧ s.get PWR_WAKE_PEND_PEND = 1 ∧ s.get PWR_WAKE_EN_EN &&& 1 = 1 ∧ (∀ ch : Chan, s.get (DRAMC_CHSTAT_SELF_REF ch) = 0)
/-- STATE_ENTRY_COMPLETE (R466) with a pending allowed source, lanes off and no channel READY: aborted, in the state as before. -/
def entryAborted : Prop := ∀ s d, preEntryAborted s d →
  ∃ t, exec (.stateEntryComplete) s = .next t
    ∧ t.get PWR_STATUS_LAST = 2 ∧ t.get PWR_FLAGS_ABORTED = 1 ∧ t.get PWR_ABORTS_COUNT = min (s.get PWR_ABORTS_COUNT + 1) (2 ^ 32 - 1) ∧ t.get PWR_STATUS_WAKE_SRC = 1 ∧ t.get PWR_STATUS_BUSY = 0
    ∧ Only [PWR_STATUS_LAST, PWR_FLAGS_ABORTED, PWR_ABORTS_COUNT, PWR_STATUS_WAKE_SRC, PWR_STATUS_BUSY] s { s with pwr := { s.pwr with change := none, stateTo := none } } t

abbrev preEntryStandby (s : State) : Prop :=
  s.pwr.change = some (.entry 2) ∧ s.domainOn 1 = true ∧ s.pwr.held = none ∧ s.get PWR_WAKE_PEND_PEND = 0 ∧ s.get PWR_STATUS_DOMAIN_ON < 64
/-- STATE_ENTRY_COMPLETE (R463, R466) to STANDBY with no source pending: PD_CORE, PD_RX and PD_DDR are off, and clk_fab stands. -/
def entryStandby : Prop := ∀ s, preEntryStandby s →
  ∃ t, exec (.stateEntryComplete) s = .next t
    ∧ t.get PWR_STATUS_STATE = 2 ∧ t.get PWR_STATUS_LAST = 1 ∧ t.get PWR_ENTRIES_COUNT = min (s.get PWR_ENTRIES_COUNT + 1) (2 ^ 32 - 1) ∧ t.get PWR_STATUS_BUSY = 0 ∧ t.pwr.change = none ∧ t.pwr.enteredAt = s.cyc
    ∧ t.domainOn 2 = false ∧ t.domainOn 3 = false ∧ t.domainOn 5 = false ∧ t.domainOn 1 = true ∧ t.fabRuns = false ∧ t.flash = s.flash

abbrev preEntrySleep (s : State) : Prop :=
  s.pwr.change = some (.entry 3) ∧ s.pwr.held = none ∧ s.get PWR_WAKE_PEND_PEND = 0 ∧ s.get PWR_STATUS_DOMAIN_ON < 64
/-- STATE_ENTRY_COMPLETE (R463, R466) to SLEEP with no source pending: only PD_AON stays on. -/
def entrySleep : Prop := ∀ s, preEntrySleep s →
  ∃ t, exec (.stateEntryComplete) s = .next t
    ∧ t.get PWR_STATUS_STATE = 3 ∧ t.get PWR_STATUS_LAST = 1 ∧ t.get PWR_STATUS_BUSY = 0 ∧ t.pwr.change = none ∧ t.pwr.enteredAt = s.cyc
    ∧ t.domainOn 1 = false ∧ t.domainOn 2 = false ∧ t.domainOn 3 = false ∧ t.domainOn 4 = false ∧ t.domainOn 5 = false ∧ t.fabRuns = false

abbrev preWakeNStandby (s : State) : Prop :=
  s.get PWR_STATUS_STATE = 2 ∧ s.pwr.change = none ∧ s.get PWR_WAKE_EN_EN &&& 1 = 1 ∧ s.get PWR_STATUS_DOMAIN_ON = 0x13 ∧ s.pwr.wakeAt.map (·.1) ≠ some (s.cyc / 16)
/-- WAKE_N_LOW (R468, R469) in STANDBY with the source enabled: the wake is registered and the domains come up. -/
def wakeNStandby : Prop := ∀ s, preWakeNStandby s →
  ∃ t, exec (.wakeNLow) s = .next t
    ∧ t.get PWR_STATUS_WAKE_SRC = 1 ∧ t.get PWR_FLAGS_WAKE = 1 ∧ t.get PWR_STATUS_BUSY = 1 ∧ t.get PWR_STATUS_DOMAIN_ON = 0x3F ∧ t.get PWR_WAKE_PEND_PEND = (s.get PWR_WAKE_PEND_PEND ||| 1) % 32
    ∧ Only [PWR_STATUS_WAKE_SRC, PWR_FLAGS_WAKE, PWR_STATUS_BUSY, PWR_STATUS_DOMAIN_ON, PWR_WAKE_PEND_PEND] s { s with dram := s.dram.map fun c => { c with tempAt := s.cyc }, pwr := { s.pwr with change := some .wake, changeAt := s.cyc, wakeAt := some (s.cyc / 16, s.get PWR_WAKE_EN_EN &&& 0b11101) } } t

abbrev preWakeNShown (s : State) : Prop :=
  s.get PWR_STATUS_STATE < 2 ∨ s.pwr.change.isSome = true
/-- WAKE_N_LOW (R468) in ACTIVE or REDUCED, or while an entry is in progress: the source is shown in PWR_WAKE_PEND. -/
def wakeNShown : Prop := ∀ s, preWakeNShown s →
  ∃ t, exec (.wakeNLow) s = .next t
    ∧ t.get PWR_WAKE_PEND_PEND = (s.get PWR_WAKE_PEND_PEND ||| 1) % 32 ∧ Only [PWR_WAKE_PEND_PEND] s s t

abbrev preSpiWakeSleep (s : State) : Prop :=
  s.get PWR_STATUS_STATE = 3 ∧ s.pwr.change = none ∧ s.pwr.wakeAt.map (·.1) ≠ some (s.cyc / 16) ∧ s.get PWR_WAKE_EN_EN &&& 2 = 2 ∧ s.get SYS_RST_CAUSE_HIST < 32
/-- SPI_WAKE (R468, R470) in SLEEP with the source enabled: a full reset of cause WAKE; DRAM and the retention store keep their contents. -/
def spiWakeSleep : Prop := ∀ s, preSpiWakeSleep s →
  ∃ t, exec (.spiWake) s = .next t
    ∧ t.get SYS_RST_CAUSE_CAUSE = 5 ∧ t.get SYS_RST_CAUSE_HIST = s.get SYS_RST_CAUSE_HIST ||| 16 ∧ t.get PWR_STATUS_WAKE_SRC = 2 ∧ SameRegs [SYS_RST_CAUSE_CAUSE, SYS_RST_CAUSE_HIST, PWR_STATUS_WAKE_SRC] State.reset t
    ∧ t.mem = s.mem.filter (fun e => decide (0x8000000000 ≤ e.1)) ∧ t.flash = s.flash ∧ t.pwr.retained = s.pwr.retained ∧ t.cyc = s.cyc

abbrev preSpiEdgeAwake (s : State) : Prop :=
  s.get PWR_STATUS_STATE ≠ 3 ∧ s.pwr.change = none
/-- SPI_WAKE (R468) outside SLEEP: the falling edge is that of a transaction. -/
def spiEdgeAwake : Prop := ∀ s, preSpiEdgeAwake s →
  ∃ t, exec (.spiWake) s = .next t
    ∧ t = s

abbrev preWakeTimer (s : State) : Prop :=
  s.get PWR_STATUS_STATE = 3 ∧ s.pwr.change = none ∧ s.pwr.wakeAt.map (·.1) ≠ some (s.cyc / 16) ∧ s.get PWR_WAKE_EN_EN &&& 4 = 4 ∧ s.pwr.enteredAt + s.get PWR_TIMER_MS * 400000 ≤ s.cyc ∧ s.get SYS_RST_CAUSE_HIST < 32
/-- WAKE_TIMER_EXPIRY (R468) in SLEEP, PWR_TIMER ms after the entry completed. -/
def wakeTimer : Prop := ∀ s, preWakeTimer s →
  ∃ t, exec (.wakeTimerExpiry) s = .next t
    ∧ t.get SYS_RST_CAUSE_CAUSE = 5 ∧ t.get SYS_RST_CAUSE_HIST = s.get SYS_RST_CAUSE_HIST ||| 16 ∧ t.get PWR_STATUS_WAKE_SRC = 3 ∧ SameRegs [SYS_RST_CAUSE_CAUSE, SYS_RST_CAUSE_HIST, PWR_STATUS_WAKE_SRC] State.reset t
    ∧ t.flash = s.flash ∧ t.pwr.retained = s.pwr.retained ∧ t.cyc = s.cyc

abbrev preWakeTimerEarly (s : State) : Prop :=
  s.get PWR_STATUS_STATE < 2 ∨ s.cyc < s.pwr.enteredAt + s.get PWR_TIMER_MS * 400000
/-- WAKE_TIMER_EXPIRY (R468) outside STANDBY and SLEEP, or before the time: nothing. -/
def wakeTimerEarly : Prop := ∀ s, preWakeTimerEarly s →
  ∃ t, exec (.wakeTimerExpiry) s = .next t
    ∧ t = s

abbrev preLinkWake (s : State) (g : Fin 8) : Prop :=
  s.get PWR_STATUS_STATE = 2 ∧ s.pwr.change = none ∧ s.pwr.wakeAt.map (·.1) ≠ some (s.cyc / 16) ∧ s.get PWR_WAKE_EN_EN &&& 8 = 8 ∧ s.get PWR_STATUS_DOMAIN_ON = 0x13 ∧ s.grpOn g = true ∧ s.get (LINK_GRPn_CTRL_ROLE g) ≠ 1
/-- LINK_WAKE (R468, R469) in STANDBY with an enabled HOST or UP group and the source enabled. -/
def linkWake : Prop := ∀ s g, preLinkWake s g →
  ∃ t, exec (.linkWake) s = .next t
    ∧ t.get PWR_STATUS_WAKE_SRC = 4 ∧ t.get PWR_FLAGS_WAKE = 1 ∧ t.get PWR_STATUS_BUSY = 1 ∧ t.get PWR_STATUS_DOMAIN_ON = 0x3F ∧ t.pwr.change = some .wake
    ∧ (s.fabRuns = true → t.pwr.changeAt = s.cyc)

abbrev prePorstN (s : State) : Prop :=
  s.get SYS_RST_CAUSE_HIST < 32
/-- PORST_N_ASSERT (R471, R472): a full reset of cause PIN. -/
def porstN : Prop := ∀ s, prePorstN s →
  ∃ t, exec (.porstNAssert) s = .next t
    ∧ t.get SYS_RST_CAUSE_CAUSE = 2 ∧ t.get SYS_RST_CAUSE_HIST = s.get SYS_RST_CAUSE_HIST ||| 2 ∧ t.get PWR_STATUS_WAKE_SRC = s.get PWR_STATUS_WAKE_SRC % 8
    ∧ SameRegs [SYS_RST_CAUSE_CAUSE, SYS_RST_CAUSE_HIST, PWR_STATUS_WAKE_SRC] State.reset t
    ∧ t = { State.reset with regs := t.regs, flash := s.flash, cyc := s.cyc, freeCtr := s.freeCtr, pending := s.pending, dram := s.dram.map fun _ => { DramRun.init with tempAt := s.cyc }, pwr := { PwrRun.init with retained := s.pwr.retained, io := s.pwr.io } }

/-- SUPPLY_BROWNOUT (R471, R472): a power-on reset; only the flash stays. -/
def brownout : Prop := ∀ (s : State),
  ∃ t, exec (.supplyBrownout) s = .next t
    ∧ t.get SYS_RST_CAUSE_CAUSE = 1 ∧ t.get SYS_RST_CAUSE_HIST = 1 ∧ t.get PWR_STATUS_WAKE_SRC = 0
    ∧ SameRegs [SYS_RST_CAUSE_CAUSE, SYS_RST_CAUSE_HIST, PWR_STATUS_WAKE_SRC] State.reset t
    ∧ t = { State.reset with regs := t.regs, flash := s.flash, freeCtr := s.freeCtr, pending := s.pending }

abbrev prePwrStateEntry (c : CmdIn) (s : State) (d : Nat) : Prop :=
  Ready 18 s ∧ c.words = [d] ∧ 2 ≤ d ∧ d ≤ 3 ∧ s.get PWR_STATUS_STATE = 0 ∧ s.pwr.change = none ∧ s.pwr.stateTo = none ∧ s.seqState 0 = 0 ∧ s.seqState 1 = 0 ∧ s.get MGMT_STATUS_CFG_BUSY = 0 ∧ s.get MGMT_STATUS_UPD_BUSY = 0
    ∧ s.get PWR_WAKE_EN_EN &&& (if d = 2 then 0b11101 else 0b00111) ≠ 0
/-- PWR_STATE (R465, R466, R476) to STANDBY or SLEEP with an allowed wake source: OK at acceptance. -/
def pwrStateEntry : Prop := ∀ c s d, prePwrStateEntry c s d →
  ∃ t, exec (.pwrState c) s = .next t
    ∧ t.get PWR_STATUS_BUSY = 1 ∧ t.get PWR_WAKE_PEND_PEND = 0
    ∧ Done 0xD0 0 [t.rawReg 18 4] [PWR_STATUS_BUSY, PWR_WAKE_PEND_PEND] c s { s with pwr := { s.pwr with change := some (.entry d), changeAt := s.cyc } } t

abbrev prePwrStateDenied (c : CmdIn) (s : State) (d : Nat) : Prop :=
  Ready 18 s ∧ c.words = [d] ∧ 1 ≤ d ∧ d ≤ 3 ∧ s.get PWR_STATUS_STATE = 0 ∧ s.pwr.change = none ∧ s.pwr.stateTo = none
    ∧ s.seqState 0 ≠ 0 ∨ s.seqState 1 ≠ 0 ∨ (d = 3 ∧ (s.get MGMT_STATUS_CFG_BUSY = 1 ∨ s.get MGMT_STATUS_UPD_BUSY = 1))
/-- PWR_STATE (R465, R476) while a sequencer is not IDLE, or to SLEEP while a flash operation runs: DENIED. -/
def pwrStateDenied : Prop := ∀ c s d, prePwrStateDenied c s d →
  ∃ t, exec (.pwrState c) s = .next t
    ∧ Done 0xD0 8 [] [] c s s t

abbrev prePwrStateNoWake (c : CmdIn) (s : State) (d : Nat) : Prop :=
  Ready 18 s ∧ c.words = [d] ∧ (3 < d ∨ (2 ≤ d ∧ s.get PWR_STATUS_STATE = 0 ∧ s.pwr.change = none ∧ s.pwr.stateTo = none ∧ s.seqState 0 = 0 ∧ s.seqState 1 = 0 ∧ s.get MGMT_STATUS_CFG_BUSY = 0 ∧ s.get MGMT_STATUS_UPD_BUSY = 0 ∧ s.get PWR_WAKE_EN_EN &&& (if d = 2 then 0b11101 else 0b00111) = 0))
/-- PWR_STATE (R465, R476) to STANDBY or SLEEP with no allowed wake source enabled: BAD_PARAM, and BAD_PARAM with P0 > 3. -/
def pwrStateNoWake : Prop := ∀ c s d, prePwrStateNoWake c s d →
  ∃ t, exec (.pwrState c) s = .next t
    ∧ Done 0xD0 3 [] [] c s s t

abbrev prePwrStateAlready (c : CmdIn) (s : State) (d : Nat) : Prop :=
  Ready 18 s ∧ c.words = [d] ∧ d ≤ 3 ∧ s.get PWR_STATUS_STATE = d
/-- PWR_STATE (R467, R476) for the state in force: ALREADY, with PWR_STATUS. -/
def pwrStateAlready : Prop := ∀ c s d, prePwrStateAlready c s d →
  ∃ t, exec (.pwrState c) s = .next t
    ∧ Done 0xD0 0xC [s.rawReg 18 4] [] c s s t

abbrev prePwrStateWake (c : CmdIn) (s : State) : Prop :=
  Ready 18 s ∧ c.words = [0] ∧ s.get PWR_STATUS_STATE = 2 ∧ s.pwr.change = none ∧ s.pwr.stateTo = none ∧ s.get PWR_STATUS_DOMAIN_ON = 0x13
/-- PWR_STATE (R468, R469) to ACTIVE in STANDBY: a wake of source COMMAND. -/
def pwrStateWake : Prop := ∀ c s, prePwrStateWake c s →
  ∃ t, exec (.pwrState c) s = .next t
    ∧ t.get PWR_STATUS_WAKE_SRC = 6 ∧ t.get PWR_FLAGS_WAKE = 1 ∧ t.get PWR_STATUS_BUSY = 1 ∧ t.get PWR_STATUS_DOMAIN_ON = 0x3F
    ∧ Done 0xD0 0 [t.rawReg 18 4] [PWR_STATUS_WAKE_SRC, PWR_FLAGS_WAKE, PWR_STATUS_BUSY, PWR_STATUS_DOMAIN_ON] c s { s with dram := s.dram.map fun c => { c with tempAt := s.cyc }, pwr := { s.pwr with change := some .wake, changeAt := s.cyc, wakeAt := some (s.cyc / 16, s.get PWR_WAKE_EN_EN &&& 0b11101) } } t

abbrev prePwrOp (c : CmdIn) (s : State) (o : Nat) : Prop :=
  Ready 18 s ∧ c.words = [o] ∧ o < s.get PWR_STATUS_OP ∧ s.get PWR_STATUS_OP < 4 ∧ s.get PWR_STATUS_STATE = 0 ∧ s.pwr.change = none
/-- PWR_OP (R461, R476) toward a higher clk_eng. -/
def pwrOp : Prop := ∀ c s o, prePwrOp c s o →
  ∃ t, exec (.pwrOp c) s = .next t
    ∧ t.get PWR_STATUS_BUSY = 1
    ∧ Done 0xD1 0 [t.rawReg 18 4] [PWR_STATUS_BUSY] c s { s with pwr := { s.pwr with change := some (.raise o), changeAt := s.cyc, vsel := o, stateTo := none } } t

abbrev prePwrOpLower (c : CmdIn) (s : State) (o : Nat) : Prop :=
  Ready 18 s ∧ c.words = [o] ∧ s.get PWR_STATUS_OP < o ∧ o < 4 ∧ s.get PWR_STATUS_STATE = 0 ∧ s.pwr.change = none
/-- PWR_OP (R461, R476) toward a lower clk_eng. -/
def pwrOpLower : Prop := ∀ c s o, prePwrOpLower c s o →
  ∃ t, exec (.pwrOp c) s = .next t
    ∧ t.get PWR_STATUS_BUSY = 1 ∧ t.get PWR_STATUS_OP = o
    ∧ Done 0xD1 0 [t.rawReg 18 4] [PWR_STATUS_BUSY, PWR_STATUS_OP] c s { s with pwr := { s.pwr with change := some (.lower o), changeAt := s.cyc, vsel := o, stateTo := none } } t

abbrev prePwrOpDenied (c : CmdIn) (s : State) (o : Fin 4) : Prop :=
  Ready 18 s ∧ c.words = [o.val] ∧ (s.get PWR_STATUS_STATE = 1 ∨ s.get PWR_STATUS_STATE = 2)
/-- PWR_OP (R464, R476) in REDUCED or STANDBY: DENIED. -/
def pwrOpDenied : Prop := ∀ c s o, prePwrOpDenied c s o →
  ∃ t, exec (.pwrOp c) s = .next t
    ∧ Done 0xD1 8 [] [] c s s t

abbrev prePwrOpPending (c : CmdIn) (s : State) (o x : Nat) : Prop :=
  Ready 18 s ∧ c.words = [o] ∧ o < 4 ∧ s.get PWR_STATUS_OP ≠ o ∧ s.get PWR_STATUS_STATE = 0 ∧ (s.pwr.change = some (.lower x) ∨ s.pwr.change = some (.raise x)) ∧ x ≠ o ∧ s.pwr.held = none
/-- PWR_OP (R467, R476) while another change of operating point is in progress: PENDING, held one deep. -/
def pwrOpPending : Prop := ∀ c s o x, prePwrOpPending c s o x →
  ∃ t, exec (.pwrOp c) s = .next t
    ∧ t.get PWR_STATUS_HELD = 1
    ∧ Done 0xD1 0xB [t.rawReg 18 4] [PWR_STATUS_HELD] c s { s with pwr := { s.pwr with held := some ⟨false, o, false⟩ } } t

abbrev prePwrOpAlready (c : CmdIn) (s : State) (o : Fin 4) : Prop :=
  Ready 18 s ∧ c.words = [o.val] ∧ s.get PWR_STATUS_STATE = 0 ∧ s.get PWR_STATUS_OP = o.val
/-- PWR_OP (R467, R476) for the operating point in force: ALREADY. -/
def pwrOpAlready : Prop := ∀ c s o, prePwrOpAlready c s o →
  ∃ t, exec (.pwrOp c) s = .next t
    ∧ Done 0xD1 0xC [s.rawReg 18 4] [] c s s t

abbrev prePwrWake (c : CmdIn) (s : State) (e m : Nat) : Prop :=
  Ready 18 s ∧ c.words = [e, m] ∧ e < 32 ∧ m < 2 ^ 32 ∧ (e.testBit 2 = true → m ≠ 0)
/-- PWR_WAKE (R468, R476). -/
def pwrWake : Prop := ∀ c s e m, prePwrWake c s e m →
  ∃ t, exec (.pwrWake c) s = .next t
    ∧ t.get PWR_WAKE_EN_EN = e ∧ t.get PWR_TIMER_MS = m ∧ Done 0xD2 0 [] [PWR_WAKE_EN_EN, PWR_TIMER_MS] c s s t

abbrev prePwrWakeBad (c : CmdIn) (s : State) (e m : Nat) : Prop :=
  Ready 18 s ∧ c.words = [e, m] ∧ (32 ≤ e ∨ (e.testBit 2 = true ∧ m = 0))
/-- PWR_WAKE (R476) with bits [31:5] set, or TIMER enabled with P1 = 0: BAD_PARAM. -/
def pwrWakeBad : Prop := ∀ c s e m, prePwrWakeBad c s e m →
  ∃ t, exec (.pwrWake c) s = .next t
    ∧ Done 0xD2 3 [] [] c s s t

abbrev prePwrGetStatus (c : CmdIn) (s : State) : Prop :=
  Ready 18 s ∧ c.words = []
/-- PWR_GET_STATUS (R476). -/
def pwrGetStatus : Prop := ∀ c s, prePwrGetStatus c s →
  ∃ t, exec (.pwrGetStatus c) s = .next t
    ∧ Done 0xD3 0 [s.rawReg 18 4, s.get PWR_WAKE_PEND_PEND, s.rawReg 18 0x18, s.rawReg 0 0x14, s.rawReg 0 0x18, s.get PWR_ENTRIES_COUNT, s.get PWR_ABORTS_COUNT] [] c s s t

end Sys2Proof.Claim

/-- The sampling and engine PLLs start, lock and stop as R28 and R456 say; a change of operating point ends when the voltage is confirmed or the limit expires; an entry ends in the target state or is aborted by a pending source; a wake source ends STANDBY and SLEEP; pins and supplies reset the device. The requests are accepted, held, refused or answered ALREADY as R464 to R467 say, and PWR_STATUS is the reply; PWR_WAKE writes the enables and the timer; PWR_GET_STATUS reports. -/
def Obligations.Power : Prop :=
  Sys2Proof.Claim.samplingPllStart ∧ Sys2Proof.Claim.samplingPllBarred ∧ Sys2Proof.Claim.samplingPllLock ∧
  Sys2Proof.Claim.refclkSmpBad ∧ Sys2Proof.Claim.refclkBadEarly ∧ Sys2Proof.Claim.goStateEntry ∧
  Sys2Proof.Claim.goStateRefused ∧ Sys2Proof.Claim.goOpRaise ∧ Sys2Proof.Claim.goOpLower ∧
  Sys2Proof.Claim.goOpHeld ∧ Sys2Proof.Claim.goReduced ∧ Sys2Proof.Claim.voltageConfirm ∧
  Sys2Proof.Claim.voltageLow ∧ Sys2Proof.Claim.voltageReturn ∧ Sys2Proof.Claim.vsettleTimeout ∧
  Sys2Proof.Claim.raiseGivenUp ∧ Sys2Proof.Claim.entryAborted ∧ Sys2Proof.Claim.entryStandby ∧
  Sys2Proof.Claim.entrySleep ∧ Sys2Proof.Claim.wakeNStandby ∧ Sys2Proof.Claim.wakeNShown ∧
  Sys2Proof.Claim.spiWakeSleep ∧ Sys2Proof.Claim.spiEdgeAwake ∧ Sys2Proof.Claim.wakeTimer ∧
  Sys2Proof.Claim.wakeTimerEarly ∧ Sys2Proof.Claim.linkWake ∧ Sys2Proof.Claim.porstN ∧
  Sys2Proof.Claim.brownout ∧ Sys2Proof.Claim.pwrStateEntry ∧ Sys2Proof.Claim.pwrStateDenied ∧
  Sys2Proof.Claim.pwrStateNoWake ∧ Sys2Proof.Claim.pwrStateAlready ∧ Sys2Proof.Claim.pwrStateWake ∧
  Sys2Proof.Claim.pwrOp ∧ Sys2Proof.Claim.pwrOpLower ∧ Sys2Proof.Claim.pwrOpDenied ∧
  Sys2Proof.Claim.pwrOpPending ∧ Sys2Proof.Claim.pwrOpAlready ∧ Sys2Proof.Claim.pwrWake ∧
  Sys2Proof.Claim.pwrWakeBad ∧ Sys2Proof.Claim.pwrGetStatus

namespace Sys2Proof.Claim
open Sys2Proof.Machine Sys2Proof.Machine.Reg

abbrev preRegisterWriteRw (s : State) (m : Master) (_v : BitVec 32) : Prop :=
  s.domainOn 1 = true ∧ (m = .mgmt ∨ m = .cmd) ∧ NoHeld s ∧ s.get PMON_CTRL_RUN = 0
/-- REGISTER_WRITE (R7, R8) of an RW register, MGMT_TJ_LIMIT: its field takes the value, reserved bits are ignored. -/
def registerWriteRw : Prop := ∀ s m v, preRegisterWriteRw s m v →
  ∃ t, exec (.registerWrite m 0x4014001C 4 v) s = .next t
    ∧ t.get MGMT_TJ_LIMIT_LIMIT = v.toNat % 65536 ∧ Only [MGMT_TJ_LIMIT_LIMIT] s s t

abbrev preRegisterWriteW1c (s : State) (m : Master) (_v : BitVec 32) : Prop :=
  s.domainOn 1 = true ∧ (m = .mgmt ∨ m = .cmd) ∧ NoHeld s ∧ s.get PMON_CTRL_RUN = 0 ∧ s.get HK_FLAGS_MIRROR ≤ 1
/-- REGISTER_WRITE (R8) of a W1C register, HK_FLAGS: a 1 clears its bit. -/
def registerWriteW1c : Prop := ∀ s m v, preRegisterWriteW1c s m v →
  ∃ t, exec (.registerWrite m 0x400F0020 4 v) s = .next t
    ∧ t.get HK_FLAGS_MIRROR = (if v.toNat.testBit 0 then 0 else s.get HK_FLAGS_MIRROR) ∧ (∀ i : Fin 4, (t.get HK_FLAGS_RTD_FAULT).testBit i.val = ((s.get HK_FLAGS_RTD_FAULT).testBit i.val && !v.toNat.testBit (4 + i.val)))
    ∧ Only [HK_FLAGS_MIRROR, HK_FLAGS_OVERRUN, HK_FLAGS_INJ_LOST, HK_FLAGS_FULL, HK_FLAGS_RTD_FAULT] s s t

abbrev preRegisterWriteRo (s : State) (m : Master) (_v : BitVec 32) : Prop :=
  s.domainOn 1 = true ∧ (m = .mgmt ∨ m = .cmd) ∧ NoHeld s ∧ s.get PMON_CTRL_RUN = 0
/-- REGISTER_WRITE (R8) of an RO register, MGMT_FW_VERSION, has no effect. -/
def registerWriteRo : Prop := ∀ s m v, preRegisterWriteRo s m v →
  ∃ t, exec (.registerWrite m 0x4014000C 4 v) s = .next t
    ∧ t = s

abbrev preRegisterWriteAccErr (_s : State) (m : Master) (a : BitVec 40) (n : Nat) (_v : BitVec 32) : Prop :=
  (m = .mgmt ∨ m = .cmd) ∧ 0x40000000 ≤ a.toNat ∧ a.toNat < 0x40150000 ∧ (n ≠ 4 ∨ a.toNat % 4 ≠ 0)
/-- REGISTER_WRITE (R5): an access of the wrong size or alignment has no effect but ACC_ERR. -/
def registerWriteAccErr : Prop := ∀ s m a n v, preRegisterWriteAccErr s m a n v →
  ∃ t, exec (.registerWrite m a n v) s = .next t
    ∧ t.get SYS_STATUS_ACC_ERR = 1 ∧ Only [SYS_STATUS_ACC_ERR] s s t

abbrev preRegisterWriteOff (s : State) (m : Master) (_v : BitVec 32) : Prop :=
  (m = .mgmt ∨ m = .cmd) ∧ s.domainOn 1 = false
/-- REGISTER_WRITE (R5, R20) to a window whose domain is off has no effect but ACC_ERR. -/
def registerWriteOff : Prop := ∀ s m v, preRegisterWriteOff s m v →
  ∃ t, exec (.registerWrite m 0x4014001C 4 v) s = .next t
    ∧ t.get SYS_STATUS_ACC_ERR = 1 ∧ Only [SYS_STATUS_ACC_ERR] s s t

abbrev preClrCnt (s : State) (b : CntBlk) : Prop :=
  s.reach (cntBlk b) = true
/-- CLR_CNT: every counter and first address of the block is 0. -/
def clrCnt : Prop := ∀ s b, preClrCnt s b →
  ∃ t, exec (.clrCnt b) s = .next t
    ∧ (s.clrFields b).all (fun f => t.get f == 0) = true ∧ Only (s.clrFields b) s { s with scrub := t.scrub } t
    ∧ ((∃ f : Fib, b = .seq f) ∨ b ≠ .scrub → t.scrub = s.scrub)

abbrev preClrCntHk (s : State) : Prop :=
  s.domainOn 1 = true
/-- CLR_CNT of the housekeeping block (R431): its six counters. -/
def clrCntHk : Prop := ∀ s, preClrCntHk s →
  ∃ t, exec (.clrCnt .hk) s = .next t
    ∧ t.get HK_DISC_COUNT = 0 ∧ t.get HK_FAULT_DISC_COUNT = 0 ∧ t.get HK_OVERRUN_COUNT = 0 ∧ t.get HK_INJ_LOST_COUNT = 0 ∧ t.get HK_MIRROR_ERR_COUNT = 0 ∧ t.get HK_PASSES_COUNT = 0
    ∧ Only [HK_DISC_COUNT, HK_FAULT_DISC_COUNT, HK_OVERRUN_COUNT, HK_INJ_LOST_COUNT, HK_MIRROR_ERR_COUNT, HK_PASSES_COUNT] s s t

abbrev preLatchedLowRead (s : State) (r : LowReg) : Prop :=
  s.reach (lowBlk r) = true
/-- LATCHED_LOW_READ (R507): the high register takes the high bits of the value of that instant. -/
def latchedLowRead : Prop := ∀ s r, preLatchedLowRead s r →
  ∃ t, exec (.latchedLowRead r) s = .next t
    ∧ t.get (highF r) = s.wide r / 2 ^ 32 % 2 ^ (highF r).w ∧ Only [highF r] s s t

abbrev preReadRegOne (c : CmdIn) (s : State) : Prop :=
  Ready 0 s ∧ c.words = [0x4014001C, 0, 1] ∧ s.domainOn 1 = true ∧ s.get PMON_CTRL_RUN = 0
/-- READ_REG (R330) of one register word, MGMT_TJ_LIMIT. -/
def readRegOne : Prop := ∀ c s, preReadRegOne c s →
  ∃ t, exec (.readReg c) s = .next t
    ∧ Done 0x03 0 [s.rawReg 20 0x1C] [] c s s t

abbrev preReadRegMem (c : CmdIn) (s : State) (a x y : Nat) : Prop :=
  Ready 0 s ∧ c.words = [a, 0, 2] ∧ 0x100000 ≤ a ∧ a + 8 ≤ 0x200000 ∧ a % 8 = 0 ∧ s.domainOn 1 = true ∧ s.get PMON_CTRL_RUN = 0 ∧ NoHeld s
    ∧ kget a s.ecc = none ∧ getBytes s.mem a 8 = some (wordsLE [x, y]) ∧ x < 2 ^ 32 ∧ y < 2 ^ 32
/-- READ_REG (R330) of two words of management SRAM. -/
def readRegMem : Prop := ∀ c s a x y, preReadRegMem c s a x y →
  ∃ t, exec (.readReg c) s = .next t
    ∧ Done 0x03 0 [x, y] [] c s s t

abbrev preReadRegBad (c : CmdIn) (s : State) (a n : Nat) : Prop :=
  Ready 0 s ∧ c.words = [a, 0, n] ∧ a % 4 ≠ 0 ∧ 1 ≤ n ∧ n ≤ 1024 ∧ a < 2 ^ 32 ∧ s.get SYS_STATUS_ADDR_ERR = 0
/-- READ_REG (R22, R330) of a misaligned address: BAD_PARAM, and the address is recorded. -/
def readRegBad : Prop := ∀ c s a n, preReadRegBad c s a n →
  ∃ t, exec (.readReg c) s = .next t
    ∧ RepliedLast 0x03 3 [] 0 c s t ∧ t.get SYS_STATUS_ADDR_ERR = 1 ∧ t.get SYS_ERR_ADDR_LO_ADDR = a ∧ t.get SYS_ERR_ADDR_HI_ADDR = 0 ∧ t.get SYS_ERR_ADDR_HI_MASTER = 0x11
    ∧ SameRegs (lastF ++ logF ++ [SYS_STATUS_ADDR_ERR, SYS_ERR_ADDR_LO_ADDR, SYS_ERR_ADDR_HI_ADDR, SYS_ERR_ADDR_HI_MASTER]) s t ∧ LogKept s t

abbrev preReadRegUnwritable (c : CmdIn) (s : State) (a n : Nat) : Prop :=
  Ready 0 s ∧ c.words = [0xFFFFC, 0, 2, a, n] ∧ a < 2 ^ 32 ∧ n < 2 ^ 32 ∧ s.get SYS_STATUS_ADDR_ERR = 0
/-- WRITE_REG (R25, R330) of boot ROM: refused as a whole, before any word is written. -/
def readRegUnwritable : Prop := ∀ c s a n, preReadRegUnwritable c s a n →
  ∃ t, exec (.writeReg c) s = .next t
    ∧ RepliedLast 0x04 3 [] 0 c s t ∧ t.get SYS_STATUS_ADDR_ERR = 1 ∧ t.get SYS_ERR_ADDR_LO_ADDR = 0xFFFFC ∧ LogKept s t

abbrev preWriteRegOne (c : CmdIn) (s : State) (v : Nat) : Prop :=
  Ready 0 s ∧ c.words = [0x4014001C, 0, 1, v] ∧ v < 2 ^ 32 ∧ s.domainOn 1 = true ∧ s.get PMON_CTRL_RUN = 0 ∧ NoHeld s
/-- WRITE_REG (R330) of one register word, MGMT_TJ_LIMIT. -/
def writeRegOne : Prop := ∀ c s v, preWriteRegOne c s v →
  ∃ t, exec (.writeReg c) s = .next t
    ∧ t.get MGMT_TJ_LIMIT_LIMIT = v % 65536 ∧ Done 0x04 0 [] [MGMT_TJ_LIMIT_LIMIT] c s s t

abbrev preWriteRegMem (c : CmdIn) (s : State) (a x y : Nat) : Prop :=
  Ready 0 s ∧ c.words = [a, 0, 2, x, y] ∧ 0x100000 ≤ a ∧ a + 8 ≤ 0x200000 ∧ a % 8 = 0 ∧ s.domainOn 1 = true ∧ s.get PMON_CTRL_RUN = 0 ∧ NoHeld s ∧ x < 2 ^ 32 ∧ y < 2 ^ 32 ∧ s.get SCRUB_INJ_MODE = 0
/-- WRITE_REG (R330, R390) of two words of management SRAM, which combine to one. -/
def writeRegMem : Prop := ∀ c s a x y, preWriteRegMem c s a x y →
  ∃ t, exec (.writeReg c) s = .next t
    ∧ getBytes t.mem a 8 = some (wordsLE [x, y]) ∧ MemKept a (a + 8) s t ∧ kget a t.ecc = none
    ∧ Done 0x04 0 [] rptF c s { s with mem := t.mem, ecc := t.ecc } t

abbrev preCommandTimeout (c : CmdIn) (s : State) (_n : Nat) (p : CmdPkt) : Prop :=
  s.domainOn 1 = true ∧ s.cmd.exec = some p ∧ s.cmd.execAt + s.cmd.execTmo * 400000 < s.cyc ∧ p.op ≠ 0x04 ∧ p.op ≠ 0x53 ∧ s.trk.epochTo ≠ some p ∧ s.emit.dchTo ≠ some p ∧ s.pmon.read.map (·.1) ≠ some p ∧ (∀ f : Fib, (s.lw[f]).fill = none)
    ∧ p.src = c.src ∧ p.tag = c.tag
/-- COMMAND_TIMEOUT (R322, R325): a command that is not progressive and waits for nothing is abandoned with TIMEOUT and has made no change. -/
def commandTimeout : Prop := ∀ c s n p, preCommandTimeout c s n p →
  ∃ t, exec (.commandTimeout n) s = .next t
    ∧ t.get CMD_TMO_CNT_COUNT = min (s.get CMD_TMO_CNT_COUNT + 1) (2 ^ 32 - 1) ∧ t.get CMD_FLAGS_TIMEOUT = 1 ∧ t.cmd.exec = none
    ∧ Done p.op.toNat 7 [] [CMD_TMO_CNT_COUNT, CMD_FLAGS_TIMEOUT] c s s t

abbrev preCommandTimeoutProgressive (c : CmdIn) (s : State) (p : CmdPkt) : Prop :=
  s.domainOn 1 = true ∧ s.cmd.exec = some p ∧ s.cmd.execAt + s.cmd.execTmo * 400000 < s.cyc ∧ p.op = 0x04 ∧ s.trk.epochTo ≠ some p ∧ s.emit.dchTo ≠ some p ∧ s.pmon.read.map (·.1) ≠ some p ∧ (∀ f : Fib, (s.lw[f]).fill = none)
    ∧ p.src = c.src ∧ p.tag = c.tag
/-- COMMAND_TIMEOUT (R322) of a WRITE_REG none of whose words is written yet: the reply's one word says so. -/
def commandTimeoutProgressive : Prop := ∀ c s p, preCommandTimeoutProgressive c s p →
  ∃ t, exec (.commandTimeout 0) s = .next t
    ∧ t.get CMD_TMO_CNT_COUNT = min (s.get CMD_TMO_CNT_COUNT + 1) (2 ^ 32 - 1) ∧ Done 0x04 7 [0] [CMD_TMO_CNT_COUNT, CMD_FLAGS_TIMEOUT] c s s t

end Sys2Proof.Claim

/-- A window access of the wrong size, alignment or to a window that cannot be reached has no effect but ACC_ERR; fields take what their Type says; CLR_CNT clears the counters of its block; a read of a low register latches the high one; READ_REG and WRITE_REG read and write words in order; a command past its limit is abandoned with TIMEOUT. -/
def Obligations.RegisterAccess : Prop :=
  Sys2Proof.Claim.registerWriteRw ∧ Sys2Proof.Claim.registerWriteW1c ∧ Sys2Proof.Claim.registerWriteRo ∧
  Sys2Proof.Claim.registerWriteAccErr ∧ Sys2Proof.Claim.registerWriteOff ∧ Sys2Proof.Claim.clrCnt ∧
  Sys2Proof.Claim.clrCntHk ∧ Sys2Proof.Claim.latchedLowRead ∧ Sys2Proof.Claim.readRegOne ∧
  Sys2Proof.Claim.readRegMem ∧ Sys2Proof.Claim.readRegBad ∧ Sys2Proof.Claim.readRegUnwritable ∧
  Sys2Proof.Claim.writeRegOne ∧ Sys2Proof.Claim.writeRegMem ∧ Sys2Proof.Claim.commandTimeout ∧
  Sys2Proof.Claim.commandTimeoutProgressive

namespace Sys2Proof.Claim
open Sys2Proof.Machine Sys2Proof.Machine.Reg

abbrev preBootAccepted (s : State) (b : BootIn) : Prop :=
  s.get SYS_CLK_STATUS_MGMT_LOCK = 0 ∧ b.sfdp = true ∧ 4096 ≤ b.kib ∧ b.kib < 2 ^ 32 ∧ b.erase4k = true ∧ 256 ≤ b.page
/-- BOOT (R341, R343): an accepted flash leads to CONFIG; the boot ROM has written all of management SRAM. -/
def bootAccepted : Prop := ∀ s b, preBootAccepted s b →
  ∃ t, exec (.boot b) s = .next t
    ∧ t.get MGMT_STATUS_PHASE = 1 ∧ t.get SYS_CLK_STATUS_MGMT_LOCK = 1 ∧ t.get MGMT_FLASH_SIZE_KIB = b.kib ∧ t.get MGMT_FLASH_ID_JEDEC_ID = b.jedec.toNat ∧ t.get SYS_CLK_STATUS_REFCLK_SMP_OK = b.refclk.toNat
    ∧ t.pwr.io = (if s.pwr.io.isSome = true then s.pwr.io else some (decide (2600 < b.vioA), decide (2600 < b.vioB)))
    ∧ t.mgmt.flashOk = true ∧ t.mgmt.flash4 = b.addr4 ∧ t.mgmt.flashQuad = b.quad ∧ t.mgmt.bootLines = s.mgmt.bootLines ++ [1] ∧ t.flash = s.flash
    ∧ (∀ a, 0x100000 ≤ a → a < 0x200000 → (kget a t.mem).isSome = true) ∧ MemKept 0x100000 0x200000 s t
    ∧ SameRegs ([MGMT_STATUS_PHASE, SYS_CLK_STATUS_MGMT_LOCK, MGMT_FLASH_SIZE_KIB, MGMT_FLASH_ID_JEDEC_ID, SYS_CLK_STATUS_REFCLK_SMP_OK] ++ rptF) s t

abbrev preBootRejected (s : State) (b : BootIn) : Prop :=
  s.get SYS_CLK_STATUS_MGMT_LOCK = 0 ∧ (b.sfdp = false ∨ b.kib < 4096 ∨ b.erase4k = false ∨ b.page < 256)
/-- BOOT (R341): a flash that is not accepted leads to FAULT. -/
def bootRejected : Prop := ∀ s b, preBootRejected s b →
  ∃ t, exec (.boot b) s = .next t
    ∧ t.get MGMT_STATUS_PHASE = 5 ∧ t.mgmt.flashOk = false ∧ t.flash = s.flash

abbrev preConfigLoadSlot (s : State) (k : Fin 2) (ws : List Nat) : Prop :=
  s.get MGMT_STATUS_PHASE = 1 ∧ s.cfgSlot = some k.val ∧ ws = s.slotWords k 0 ((s.slotWords k 2 1).getD 0 0 / 4) ∧ cfgOk ws = true
/-- CONFIG_LOAD (R348): the record of the slot taken is loaded where LEN, FORMAT and check word hold. -/
def configLoadSlot : Prop := ∀ s k ws, preConfigLoadSlot s k ws →
  ∃ t, exec (.configLoad) s = .next t
    ∧ t.get MGMT_STATUS_PHASE = 2 ∧ t.mgmt.recSlot = some k.val ∧ t.mgmt.record = ws.map (BitVec.ofNat 32)
    ∧ Only [MGMT_STATUS_PHASE] s { s with mgmt := { s.mgmt with recSlot := t.mgmt.recSlot, record := t.mgmt.record, bootLines := s.mgmt.bootLines ++ [2] } } t

abbrev preConfigLoadDefaults (s : State) : Prop :=
  s.get MGMT_STATUS_PHASE = 1 ∧ s.cfgSlot = none
/-- CONFIG_LOAD (R348): with MAGIC in neither slot the factory defaults are loaded, CFG_DEFAULTED is set, and the event is held for INIT. -/
def configLoadDefaults : Prop := ∀ s, preConfigLoadDefaults s →
  ∃ t, exec (.configLoad) s = .next t
    ∧ t.get MGMT_STATUS_PHASE = 2 ∧ t.get SYS_STATUS_CFG_DEFAULTED = 1 ∧ t.mgmt.recSlot = none ∧ t.mgmt.early.length = s.mgmt.early.length + 1
    ∧ t.recWord 4 = 0 ∧ t.recWord 14 = 100 ∧ t.recWord 15 = 0 ∧ t.recWord 16 = 0 ∧ t.recWord 17 = 0x30 ∧ t.recWord 18 = 1200 ∧ t.recWord 19 = 1 ∧ t.cfgEntries = []
    ∧ (∀ n : Fin 8, t.recWord (6 + n.val) = 0) ∧ SameRegs [MGMT_STATUS_PHASE, SYS_STATUS_CFG_DEFAULTED] s t ∧ t.mem = s.mem ∧ t.flash = s.flash

abbrev preConfigLoadDamaged (s : State) (k : Fin 2) : Prop :=
  s.get MGMT_STATUS_PHASE = 1 ∧ s.cfgSlot = some k.val ∧ cfgLenOk ((s.slotWords k 2 1).getD 0 0) = false
/-- CONFIG_LOAD (R348): a slot that is taken but fails a check leads to the factory defaults, not to the other slot. -/
def configLoadDamaged : Prop := ∀ s k, preConfigLoadDamaged s k →
  ∃ t, exec (.configLoad) s = .next t
    ∧ t.get MGMT_STATUS_PHASE = 2 ∧ t.get SYS_STATUS_CFG_DEFAULTED = 1 ∧ t.mgmt.recSlot = none ∧ t.recWord 14 = 100 ∧ t.cfgEntries = []

abbrev preImageLoad (s : State) (p q : Fin 2) (n : Nat) : Prop :=
  s.get MGMT_STATUS_PHASE = 2 ∧ s.selFlags = (p.val, 0, n) ∧ q = 1 - p ∧ Memory.flashWf s.flash = true ∧ n < 8
/-- IMAGE_LOAD (R344, R346) with no trial: the preferred image if it is valid, else the other one with ROLLBACK, else FAULT. -/
def imageLoad : Prop := ∀ s p q n, preImageLoad s p q n →
  ∃ t, exec (.imageLoad) s = .next t
    ∧ t.get MGMT_STATUS_IMG_VALID_A = (if s.imageFault 0 = 0 then 1 else 0) ∧ t.get MGMT_STATUS_IMG_VALID_B = (if s.imageFault 1 = 0 then 1 else 0)
    ∧ (s.imageFault p = 0 → t.get MGMT_STATUS_PHASE = 3 ∧ t.get MGMT_STATUS_IMAGE = p.val ∧ t.get MGMT_STATUS_TRIAL = 0 ∧ t.mgmt.wdtDue = some (s.cyc + 400000000) ∧ t.flash = s.flash)
    ∧ (s.imageFault p ≠ 0 → s.imageFault q = 0 → t.get MGMT_STATUS_PHASE = 3 ∧ t.get MGMT_STATUS_IMAGE = q.val ∧ t.get MGMT_FLAGS_ROLLBACK = 1 ∧ t.selFlags = (q.val, 0, n))
    ∧ (s.imageFault p ≠ 0 → s.imageFault q ≠ 0 → t.get MGMT_STATUS_PHASE = 5 ∧ t.flash = s.flash)

abbrev preImageTrial (s : State) (p : Fin 2) (n : Nat) : Prop :=
  s.get MGMT_STATUS_PHASE = 2 ∧ s.selFlags = (p.val, 1, n) ∧ n < 8 ∧ Memory.flashWf s.flash = true
/-- IMAGE_LOAD (R344) of a trial image that is valid: one of its boots is consumed; with none left the other image is preferred. -/
def imageTrial : Prop := ∀ s p n, preImageTrial s p n →
  ∃ t, exec (.imageLoad) s = .next t
    ∧ (n ≠ 0 → s.imageFault p = 0 → t.get MGMT_STATUS_PHASE = 3 ∧ t.get MGMT_STATUS_IMAGE = p.val ∧ t.get MGMT_STATUS_TRIAL = 1 ∧ t.get MGMT_STATUS_TRIES = n - 1 ∧ t.selFlags = (p.val, 1, n - 1))
    ∧ (n = 0 → s.imageFault (1 - p.val) = 0 → t.get MGMT_STATUS_PHASE = 3 ∧ t.get MGMT_STATUS_IMAGE = 1 - p.val ∧ t.get MGMT_STATUS_TRIAL = 0 ∧ t.get MGMT_FLAGS_ROLLBACK = 1 ∧ t.selFlags = (1 - p.val, 0, 0))

abbrev preConfigApply (s : State) : Prop :=
  s.get MGMT_STATUS_PHASE = 3 ∧ s.domainOn 1 = true ∧ s.fabRuns = false ∧ s.mgmt.record.length = 25 ∧ s.mgmt.early = [] ∧ NoHeld s
    ∧ s.recWord 14 < 65536 ∧ 10 ≤ s.recWord 14 ∧ s.recWord 14 ≤ 10000 ∧ s.recWord 18 < 65536
/-- CONFIG_APPLY (R349, R358, R457) without clk_fab, of a record without entries: the fixed words of the management blocks take effect, the
record is copied into the staging image, READY is entered, and the rest waits for clk_fab. -/
def configApply : Prop := ∀ s, preConfigApply s →
  ∃ t, exec (.configApply) s = .next t
    ∧ t.get MGMT_STATUS_PHASE = 4 ∧ t.get SYS_STATUS_CORE_WAIT = 1 ∧ t.mgmt.deferred = true ∧ t.get CMD_TMO_MS = s.recWord 14 ∧ t.get MGMT_TJ_LIMIT_LIMIT = s.recWord 18 ∧ t.mgmt.baud = s.recWord 15 % 8
    ∧ getBytes t.mem 0x1E0000 100 = some (wordsLE (s.mgmt.record.map (·.toNat))) ∧ t.mgmt.lifeDue = s.cyc + 240000000000 ∧ t.flash = s.flash
    ∧ t.mgmt.life.getD 2 0 = min ((s.lifeLatest.getD (List.replicate 63 0)).getD 2 0 + s.mgmt.life.getD 2 0 + 1) 0xFFFFFFFF

abbrev preWakeRestore (s : State) : Prop :=
  s.pwr.change = some .wake ∧ s.fabRuns = false ∧ s.pwr.held = none
/-- WAKE_RESTORE_COMPLETE (R457, R469): the wake ends in ACTIVE; without clk_fab firmware's part is deferred. -/
def wakeRestore : Prop := ∀ s, preWakeRestore s →
  ∃ t, exec (.wakeRestoreComplete) s = .next t
    ∧ t.get PWR_STATUS_STATE = 0 ∧ t.get PWR_STATUS_BUSY = 0 ∧ t.get SYS_STATUS_CORE_WAIT = 1 ∧ t.mgmt.deferWake = true ∧ t.pwr.change = none
    ∧ Only [PWR_STATUS_STATE, PWR_STATUS_BUSY, SYS_STATUS_CORE_WAIT] s { s with mgmt := { s.mgmt with deferWake := true }, pwr := { s.pwr with change := none, stateTo := none } } t

abbrev preDeferredWake (s : State) : Prop :=
  s.fabRuns = true ∧ s.domainOn 1 = true ∧ s.mgmt.deferred = false ∧ s.mgmt.deferWake = true ∧ s.mgmt.record.length ≤ 25 ∧ (s.recWord 19) % 2 = 0 ∧ NoHeld s
    ∧ s.pwr.retained = [] ∧ (∀ n : Fin 8, s.get (LINK_GRPn_CTRL_EN n) = 0 ∧ s.get (LANE_STATUS_TX_IDLE n) = 0)
/-- DEFERRED_INIT_WORK (R457, R469) after a wake, with no entries, no DRAM channel to restore, no group, no transmitter in electrical idle and no ENG_AUTO. -/
def deferredWake : Prop := ∀ s, preDeferredWake s →
  ∃ t, exec (.deferredInitWork) s = .next t
    ∧ t.get SYS_STATUS_CORE_WAIT = 0 ∧ t.mgmt.deferWake = false
    ∧ Only [SYS_STATUS_CORE_WAIT] s { s with mgmt := { s.mgmt with deferWake := false } } t

abbrev preDeferredInit (s : State) : Prop :=
  s.fabRuns = true ∧ s.domainOn 1 = true ∧ s.mgmt.deferred = true
/-- DEFERRED_INIT_WORK (R349, R406, R457) after a boot: what needs clk_fab is made up for, the galleries are initialised and all nine interpolators calibrated. -/
def deferredInit : Prop := ∀ s, preDeferredInit s →
  ∃ t, exec (.deferredInitWork) s = .next t
    ∧ t.get SYS_STATUS_CORE_WAIT = 0 ∧ t.mgmt.deferred = false ∧ t.mgmt.deferWake = false
    ∧ t.get TDC_STATUS_CAL_BUSY = 0x1FF

abbrev preWatchdogExpiry (s : State) (d : Nat) : Prop :=
  s.mgmt.wdtDue = some d ∧ d < s.cyc ∧ s.domainOn 1 = true ∧ s.get SYS_RST_CAUSE_HIST < 32
/-- WATCHDOG_EXPIRY (R345, R363, R472): a full reset of cause WATCHDOG; the reset cause, WAKE_SRC, the retention store, the time since power-on and the flash stay. -/
def watchdogExpiry : Prop := ∀ s d, preWatchdogExpiry s d →
  ∃ t, exec (.watchdogExpiry) s = .next t
    ∧ t.get SYS_RST_CAUSE_CAUSE = 4 ∧ t.get SYS_RST_CAUSE_HIST = s.get SYS_RST_CAUSE_HIST ||| 8 ∧ t.get PWR_STATUS_WAKE_SRC = s.get PWR_STATUS_WAKE_SRC % 2 ^ PWR_STATUS_WAKE_SRC.w
    ∧ SameRegs [SYS_RST_CAUSE_CAUSE, SYS_RST_CAUSE_HIST, PWR_STATUS_WAKE_SRC] State.reset t
    ∧ t.flash = s.flash ∧ t.cyc = s.cyc ∧ t.pwr.retained = s.pwr.retained ∧ t.mem = [] ∧ t.ecc = []
    ∧ t = { State.reset with regs := t.regs, flash := s.flash, cyc := s.cyc, freeCtr := s.freeCtr, pending := s.pending, dram := s.dram.map fun _ => { DramRun.init with tempAt := s.cyc }, pwr := { PwrRun.init with retained := s.pwr.retained, io := s.pwr.io } }

abbrev preWdtWrite (s : State) (v : BitVec 32) : Prop :=
  s.domainOn 1 = true ∧ NoHeld s ∧ s.get PMON_CTRL_RUN = 0 ∧ v.toNat < 65536
/-- MGMT_WDT_WRITE (R345) of master 0x10: the period is stored and the watchdog restarts. -/
def wdtWrite : Prop := ∀ s v, preWdtWrite s v →
  ∃ t, exec (.mgmtWdtWrite .mgmt v) s = .next t
    ∧ t.mgmt.wdtDue = some (s.cyc + v.toNat * 400000) ∧ t.get MGMT_WDT_MS = v.toNat ∧ Only [MGMT_WDT_MS] s { s with mgmt := { s.mgmt with wdtDue := t.mgmt.wdtDue } } t

abbrev preWdtWriteOther (s : State) (_v : BitVec 32) : Prop :=
  s.domainOn 1 = true ∧ NoHeld s ∧ s.get PMON_CTRL_RUN = 0
/-- MGMT_WDT_WRITE (R345) of the command interface has no effect. -/
def wdtWriteOther : Prop := ∀ s v, preWdtWriteOther s v →
  ∃ t, exec (.mgmtWdtWrite .cmd v) s = .next t
    ∧ t = s

abbrev preMonHelp (s : State) : Prop :=
  s.firmwareRuns = true ∧ s.cmd.exec = none
/-- MON_HELP (R361). -/
def monHelp : Prop := ∀ s, preMonHelp s →
  ∃ t, exec (.monHelp) s = .next t
    ∧ t = { s with mgmt := { s.mgmt with monOut := some (0, []), monDue := s.cyc, monInputAt := s.cyc } }

abbrev preMonIdent (s : State) : Prop :=
  s.firmwareRuns = true ∧ s.cmd.exec = none
/-- MON_IDENT (R361): ident gives IDENT's data. -/
def monIdent : Prop := ∀ s, preMonIdent s →
  ∃ t, exec (.monIdent false) s = .next t
    ∧ t = { s with mgmt := { s.mgmt with monOut := some (0, s.identData.map (BitVec.ofNat 32)), monDue := s.cyc, monInputAt := s.cyc } }

abbrev preMonStatus (s : State) : Prop :=
  s.firmwareRuns = true ∧ s.cmd.exec = none
/-- MON_IDENT (R361): status gives the data of STATUS and MGMT_STATUS. -/
def monStatus : Prop := ∀ s, preMonStatus s →
  ∃ t, exec (.monIdent true) s = .next t
    ∧ t = { s with mgmt := { s.mgmt with monOut := some (0, (s.statusData ++ s.mgmtData).map (BitVec.ofNat 32)), monDue := s.cyc, monInputAt := s.cyc } }

abbrev preMonLog (s : State) (ws : List Nat) : Prop :=
  s.firmwareRuns = true ∧ s.cmd.exec = none ∧ s.get MGMT_LOG_SEQ_NEXT = 1 ∧ NoHeld s ∧ s.get PMON_CTRL_RUN = 0
    ∧ getBytes s.mem 0x1C0000 32 = some (wordsLE ws) ∧ ws.length = 8 ∧ (∀ w ∈ ws, w < 2 ^ 32) ∧ ∀ j : Fin 4, kget (0x1C0000 + 8 * j.val) s.ecc = none
/-- MON_LOG (R361): the last record. -/
def monLog : Prop := ∀ s ws, preMonLog s ws →
  ∃ t, exec (.monLog none) s = .next t
    ∧ Became { s with mgmt := { s.mgmt with monOut := some (0, ws.map (BitVec.ofNat 32)), monDue := s.cyc, monInputAt := s.cyc } } t

abbrev preMonLogBad (s : State) (n : Nat) : Prop :=
  s.firmwareRuns = true ∧ s.cmd.exec = none ∧ (n = 0 ∨ 64 < n)
/-- MON_LOG (R361) of a number outside 1 to 64. -/
def monLogBad : Prop := ∀ s n, preMonLogBad s n →
  ∃ t, exec (.monLog (some n)) s = .next t
    ∧ t = { s with mgmt := { s.mgmt with monOut := some (3, []), monDue := s.cyc, monInputAt := s.cyc } }

abbrev preMonLife (s : State) : Prop :=
  s.firmwareRuns = true ∧ s.cmd.exec = none
/-- MON_LIFE (R361): life gives LIFE_READ's data. -/
def monLife : Prop := ∀ s, preMonLife s →
  ∃ t, exec (.monLife false) s = .next t
    ∧ t = { s with mgmt := { s.mgmt with monOut := some (0, (s.mgmt.life ++ [crc32 (wordsLE s.mgmt.life)]).map (BitVec.ofNat 32)), monDue := s.cyc, monInputAt := s.cyc } }

abbrev preMonSensors (s : State) : Prop :=
  s.firmwareRuns = true ∧ s.cmd.exec = none
/-- MON_LIFE (R361): sensors gives SENSOR_READ's data. -/
def monSensors : Prop := ∀ s, preMonSensors s →
  ∃ t, exec (.monLife true) s = .next t
    ∧ t = { s with mgmt := { s.mgmt with monOut := some (0, ((List.range 8).map (fun i => s.get (MGMT_TEMPi_TEMP i)) ++ (List.range 10).map (fun i => s.get (MGMT_VMONj_MV i)) ++ [s.rawReg 20 0x68]).map (BitVec.ofNat 32)), monDue := s.cyc, monInputAt := s.cyc } }

abbrev preMonRd (s : State) : Prop :=
  s.firmwareRuns = true ∧ s.cmd.exec = none ∧ s.domainOn 1 = true ∧ s.get PMON_CTRL_RUN = 0
/-- MON_RD (R361) of one register word. -/
def monRd : Prop := ∀ s, preMonRd s →
  ∃ t, exec (.monRd 0x4014001C 1) s = .next t
    ∧ t = { s with mgmt := { s.mgmt with monOut := some (0, [BitVec.ofNat 32 (s.rawReg 20 0x1C)]), monDue := s.cyc, monInputAt := s.cyc } }

abbrev preMonBaud (s : State) (_k : Fin 8) : Prop :=
  s.firmwareRuns = true ∧ s.cmd.exec = none
/-- MON_BAUD (R361): the new rate, and an unlocked session ends. -/
def monBaud : Prop := ∀ s k, preMonBaud s k →
  ∃ t, exec (.monBaud k) s = .next t
    ∧ t.mgmt.baud = k.val ∧ t.get MGMT_STATUS_MON_UNLOCKED = 0 ∧ t.mgmt.monOut = some (0, [])
    ∧ Only [MGMT_STATUS_MON_UNLOCKED] s { s with mgmt := { s.mgmt with baud := k.val, monOut := some (0, []), monDue := s.cyc, monInputAt := s.cyc } } t

abbrev preMonUnlock (s : State) (v : BitVec 32) : Prop :=
  s.firmwareRuns = true ∧ s.cmd.exec = none ∧ s.get MGMT_STATUS_PHASE = 4 ∧ s.get MGMT_STATUS_MON_LOCKOUT = 0 ∧ s.recWord 16 = v.toNat ∧ v ≠ 0
/-- MON_UNLOCK (R362): the token of the record opens an unlocked session. -/
def monUnlock : Prop := ∀ s v, preMonUnlock s v →
  ∃ t, exec (.monUnlock v) s = .next t
    ∧ t.get MGMT_STATUS_MON_UNLOCKED = 1 ∧ Only [MGMT_STATUS_MON_UNLOCKED] s { s with mgmt := { s.mgmt with monOut := some (0, []), monDue := s.cyc, monInputAt := s.cyc } } t

abbrev preMonWrongToken (s : State) (v : BitVec 32) : Prop :=
  s.firmwareRuns = true ∧ s.cmd.exec = none ∧ s.get MGMT_STATUS_PHASE = 4 ∧ s.get MGMT_STATUS_MON_LOCKOUT = 0 ∧ (s.recWord 16 ≠ v.toNat ∨ v = 0) ∧ s.mgmt.wrongTokens + 1 < 5
/-- MON_UNLOCK (R362): a wrong token, or any while MON_TOKEN = 0, delays the reply by 1 s and is counted. -/
def monWrongToken : Prop := ∀ s v, preMonWrongToken s v →
  ∃ t, exec (.monUnlock v) s = .next t
    ∧ t.get MGMT_MON_FAIL_COUNT = min (s.get MGMT_MON_FAIL_COUNT + 1) (2 ^ 32 - 1) ∧ t.mgmt.wrongTokens = s.mgmt.wrongTokens + 1 ∧ t.mgmt.monDue = s.cyc + 400000000 ∧ t.mgmt.monOut = some (8, [])
    ∧ Only [MGMT_MON_FAIL_COUNT] s { s with mgmt := { s.mgmt with wrongTokens := t.mgmt.wrongTokens, monOut := some (8, []), monDue := t.mgmt.monDue, monInputAt := s.cyc } } t

abbrev preMonLockout (s : State) (v : BitVec 32) : Prop :=
  s.firmwareRuns = true ∧ s.cmd.exec = none ∧ s.get MGMT_STATUS_PHASE = 4 ∧ s.get MGMT_STATUS_MON_LOCKOUT = 0 ∧ s.recWord 16 ≠ v.toNat ∧ s.mgmt.wrongTokens + 1 = 5
/-- MON_UNLOCK (R362): the fifth wrong token locks the monitor out, and that is logged. -/
def monLockout : Prop := ∀ s v, preMonLockout s v →
  ∃ t, exec (.monUnlock v) s = .next t
    ∧ t.get MGMT_STATUS_MON_LOCKOUT = 1 ∧ t.mgmt.wrongTokens = 5 ∧ t.get MGMT_LOG_SEQ_NEXT = (s.get MGMT_LOG_SEQ_NEXT + 1) % 2 ^ 32 ∧ t.get MGMT_STATUS_MON_UNLOCKED = s.get MGMT_STATUS_MON_UNLOCKED

abbrev preMonLock (s : State) : Prop :=
  s.firmwareRuns = true ∧ s.cmd.exec = none
/-- MON_LOCK (R362). -/
def monLock : Prop := ∀ s, preMonLock s →
  ∃ t, exec (.monLock) s = .next t
    ∧ t.get MGMT_STATUS_MON_UNLOCKED = 0 ∧ Only [MGMT_STATUS_MON_UNLOCKED] s { s with mgmt := { s.mgmt with monOut := some (0, []), monDue := s.cyc, monInputAt := s.cyc } } t

abbrev preMonWr (s : State) (_v : BitVec 32) : Prop :=
  s.firmwareRuns = true ∧ s.cmd.exec = none ∧ s.domainOn 1 = true ∧ s.get MGMT_STATUS_MON_UNLOCKED = 1 ∧ NoHeld s ∧ s.get PMON_CTRL_RUN = 0
/-- MON_WR (R361) of MGMT_TJ_LIMIT in an unlocked session: a one-word write by master 0x10. -/
def monWr : Prop := ∀ s v, preMonWr s v →
  ∃ t, exec (.monWr 0x4014001C v) s = .next t
    ∧ t.get MGMT_TJ_LIMIT_LIMIT = v.toNat % 65536 ∧ Only [MGMT_TJ_LIMIT_LIMIT] s { s with mgmt := { s.mgmt with monOut := some (0, []), monDue := s.cyc, monInputAt := s.cyc } } t

abbrev preMonWrLocked (s : State) (_a : BitVec 40) (_v : BitVec 32) : Prop :=
  s.firmwareRuns = true ∧ s.cmd.exec = none ∧ s.get MGMT_STATUS_MON_UNLOCKED = 0
/-- MON_WR (R361) in a locked session is denied. -/
def monWrLocked : Prop := ∀ s a v, preMonWrLocked s a v →
  ∃ t, exec (.monWr a v) s = .next t
    ∧ t = { s with mgmt := { s.mgmt with monOut := some (8, []), monDue := s.cyc, monInputAt := s.cyc } }

abbrev preMonReset (s : State) : Prop :=
  s.firmwareRuns = true ∧ s.cmd.exec = none ∧ s.get MGMT_STATUS_MON_UNLOCKED = 1
/-- MON_RESET (R361, R326) in an unlocked session: a reset is on its way, within 1 ms. -/
def monReset : Prop := ∀ s, preMonReset s →
  ∃ t, exec (.monReset) s = .next t
    ∧ t.cmd.resetting = true ∧ s.cyc ≤ t.cmd.resetAt ∧ t.cmd.resetAt ≤ s.cyc + 400000 ∧ t.mgmt.monOut = some (0, []) ∧ t.regs = s.regs ∧ t.mem = s.mem

abbrev preMonSessionTimeout (s : State) : Prop :=
  s.domainOn 1 = true ∧ s.get MGMT_STATUS_MON_UNLOCKED = 1 ∧ s.mgmt.monInputAt + 240000000000 < s.cyc
/-- MONITOR_SESSION_TIMEOUT (R362): 600 s without input end the session. -/
def monSessionTimeout : Prop := ∀ s, preMonSessionTimeout s →
  ∃ t, exec (.monitorSessionTimeout) s = .next t
    ∧ t.get MGMT_STATUS_MON_UNLOCKED = 0 ∧ Only [MGMT_STATUS_MON_UNLOCKED] s s t

end Sys2Proof.Claim

/-- The boot ROM accepts a flash or enters FAULT, loads a record or the factory defaults, chooses an image by the selection record, and firmware applies the record and enters READY; a wake and the work deferred without clk_fab end as R457 and R469 say; the watchdog performs a full reset. While firmware runs and no command executes, each line of the monitor does what R361 gives it and is answered; write access needs an unlocked session, which ends as R362 says. -/
def Obligations.BootAndMonitor : Prop :=
  Sys2Proof.Claim.bootAccepted ∧ Sys2Proof.Claim.bootRejected ∧ Sys2Proof.Claim.configLoadSlot ∧
  Sys2Proof.Claim.configLoadDefaults ∧ Sys2Proof.Claim.configLoadDamaged ∧ Sys2Proof.Claim.imageLoad ∧
  Sys2Proof.Claim.imageTrial ∧ Sys2Proof.Claim.configApply ∧ Sys2Proof.Claim.wakeRestore ∧
  Sys2Proof.Claim.deferredWake ∧ Sys2Proof.Claim.deferredInit ∧ Sys2Proof.Claim.watchdogExpiry ∧
  Sys2Proof.Claim.wdtWrite ∧ Sys2Proof.Claim.wdtWriteOther ∧ Sys2Proof.Claim.monHelp ∧
  Sys2Proof.Claim.monIdent ∧ Sys2Proof.Claim.monStatus ∧ Sys2Proof.Claim.monLog ∧
  Sys2Proof.Claim.monLogBad ∧ Sys2Proof.Claim.monLife ∧ Sys2Proof.Claim.monSensors ∧
  Sys2Proof.Claim.monRd ∧ Sys2Proof.Claim.monBaud ∧ Sys2Proof.Claim.monUnlock ∧
  Sys2Proof.Claim.monWrongToken ∧ Sys2Proof.Claim.monLockout ∧ Sys2Proof.Claim.monLock ∧
  Sys2Proof.Claim.monWr ∧ Sys2Proof.Claim.monWrLocked ∧ Sys2Proof.Claim.monReset ∧
  Sys2Proof.Claim.monSessionTimeout

namespace Sys2Proof.Claim
open Sys2Proof.Machine Sys2Proof.Machine.Reg

abbrev preCfgReadSlot (c : CmdIn) (s : State) (k : Fin 2) (first n : Nat) : Prop :=
  Ready 20 s ∧ c.words = [k.val + 1, first, n] ∧ 1 ≤ n ∧ n ≤ 1024 ∧ first + n ≤ 16384 ∧ s.mgmt.commit ≠ some k.val
/-- CFG_READ (R365) of a configuration slot that is not being programmed. -/
def cfgReadSlot : Prop := ∀ c s k first n, preCfgReadSlot c s k first n →
  ∃ t, exec (.cfgRead c) s = .next t
    ∧ Done 0xA1 0 (s.flashWords (0x10000 * (k.val + 1) + 4 * first) n) [] c s s t

abbrev preCfgReadBusy (c : CmdIn) (s : State) (k : Fin 2) (first n : Nat) : Prop :=
  Ready 20 s ∧ c.words = [k.val + 1, first, n] ∧ 1 ≤ n ∧ n ≤ 1024 ∧ first + n ≤ 16384 ∧ s.mgmt.commit = some k.val
/-- CFG_READ (R351) of the slot being programmed is DENIED. -/
def cfgReadBusy : Prop := ∀ c s k first n, preCfgReadBusy c s k first n →
  ∃ t, exec (.cfgRead c) s = .next t
    ∧ Done 0xA1 8 [] [] c s s t

abbrev preCfgReadFactory (c : CmdIn) (s : State) (n : Nat) : Prop :=
  Ready 20 s ∧ c.words = [3, 0, n] ∧ 1 ≤ n ∧ n ≤ 25
/-- CFG_READ (R348, R365) of the factory defaults, from their first word on. -/
def cfgReadFactory : Prop := ∀ c s n, preCfgReadFactory c s n →
  ∃ t, exec (.cfgRead c) s = .next t
    ∧ Done 0xA1 0 (factoryRecord.take n) [] c s s t

abbrev preCfgReadStaging (c : CmdIn) (s : State) (first x y : Nat) : Prop :=
  Ready 20 s ∧ c.words = [0, first, 2] ∧ first + 2 ≤ 16384 ∧ first % 2 = 0 ∧ NoHeld s ∧ x < 2 ^ 32 ∧ y < 2 ^ 32
    ∧ Intact s (0x1E0000 + 4 * first) ∧ getBytes s.mem (0x1E0000 + 4 * first) 8 = some (wordsLE [x, y]) ∧ s.get PMON_CTRL_RUN = 0
/-- CFG_READ (R365) of two words of the staging image. -/
def cfgReadStaging : Prop := ∀ c s first x y, preCfgReadStaging c s first x y →
  ∃ t, exec (.cfgRead c) s = .next t
    ∧ Done 0xA1 0 [x, y] [] c s s t

abbrev preCfgWrite (c : CmdIn) (s : State) (first x y : Nat) : Prop :=
  Ready 20 s ∧ c.words = [first, 2, x, y] ∧ first + 2 ≤ 16384 ∧ first % 2 = 0 ∧ NoHeld s ∧ s.get MGMT_STATUS_CFG_BUSY = 0 ∧ s.get PMON_CTRL_RUN = 0 ∧ x < 2 ^ 32 ∧ y < 2 ^ 32
/-- CFG_WRITE (R350, R365) of two words: the staging image alone changes. -/
def cfgWrite : Prop := ∀ c s first x y, preCfgWrite c s first x y →
  ∃ t, exec (.cfgWrite c) s = .next t
    ∧ getBytes t.mem (0x1E0000 + 4 * first) 8 = some (wordsLE [x, y]) ∧ MemKept (0x1E0000 + 4 * first) (0x1E0000 + 4 * first + 8) s t
    ∧ Done 0xA2 0 [] rptF c s { s with mem := t.mem, ecc := t.ecc } t

abbrev preCfgCommit (c : CmdIn) (s : State) (ws : List Nat) (k : Fin 2) : Prop :=
  Ready 20 s ∧ c.words = [] ∧ s.get MGMT_STATUS_CFG_BUSY = 0 ∧ s.get MGMT_STATUS_UPD_BUSY = 0 ∧ NoHeld s ∧ s.get PMON_CTRL_RUN = 0 ∧ Memory.flashWf s.flash = true
    ∧ getBytes s.mem 0x1E0000 65536 = some (wordsLE ws) ∧ ws.length = 16384 ∧ (∀ w ∈ ws, w < 2 ^ 32) ∧ (∀ e ∈ s.ecc, e.1 < 0x1E0000 ∨ 0x1F0000 ≤ e.1)
    ∧ s.mgmt.recSlot = some k.val ∧ ws.getD 0 0 = 0x47464352 ∧ ws.getD 1 0 = ((s.mgmt.record.getD 1 0).toNat + 1) % 2 ^ 32 ∧ cfgOk ws = true
/-- CFG_COMMIT (R347, R350): a staging image that passes every check is programmed into the slot that does not hold the loaded record; its check
word is still to come. -/
def cfgCommit : Prop := ∀ c s ws k, preCfgCommit c s ws k →
  ∃ t, exec (.cfgCommit c) s = .next t
    ∧ t.slotWords (1 - k.val) 0 (ws.getD 2 0 / 4) = ws.take (ws.getD 2 0 / 4 - 1) ++ [0xFFFFFFFF] ∧ FlashKept (0x10000 * (2 - k.val)) (0x10000 * (2 - k.val) + 0x10000) s t
    ∧ t.get MGMT_STATUS_CFG_BUSY = 1 ∧ t.mgmt.commit = some (1 - k.val)
    ∧ Done 0xA3 0 [ws.getD 1 0] [MGMT_STATUS_CFG_BUSY] c s { s with flash := t.flash, mgmt := { s.mgmt with commit := some (1 - k.val) } } t

abbrev preCfgCommitComplete (s : State) (k : Fin 2) : Prop :=
  s.mgmt.commit = some k.val ∧ Memory.flashWf s.flash = true ∧ cfgLenOk ((s.slotWords k 2 1).getD 0 0) = true
/-- CFG_COMMIT_COMPLETE (R350): the check word is programmed and the slot reads back right. -/
def cfgCommitComplete : Prop := ∀ s k, preCfgCommitComplete s k →
  ∃ t, exec (.cfgCommitComplete true) s = .next t
    ∧ t.slotWords k ((s.slotWords k 2 1).getD 0 0 / 4 - 1) 1 = [crc32 (s.flashGet (0x10000 * (k.val + 1)) (4 * ((s.slotWords k 2 1).getD 0 0 / 4 - 1)))]
    ∧ FlashKept (0x10000 * (k.val + 1) + (s.slotWords k 2 1).getD 0 0 - 4) (0x10000 * (k.val + 1) + (s.slotWords k 2 1).getD 0 0) s t
    ∧ t.get MGMT_STATUS_CFG_BUSY = 0 ∧ Only [MGMT_STATUS_CFG_BUSY] s { s with flash := t.flash, mgmt := { s.mgmt with commit := none } } t

abbrev preCfgCommitFails (s : State) (k : Fin 2) : Prop :=
  s.mgmt.commit = some k.val ∧ Memory.flashWf s.flash = true ∧ cfgLenOk ((s.slotWords k 2 1).getD 0 0) = true
/-- CFG_COMMIT_COMPLETE (R350) with a mismatch on reading back: CFG_COMMIT_FAIL. What the slot holds then is open; the other slot is intact. -/
def cfgCommitFails : Prop := ∀ s k, preCfgCommitFails s k →
  ∃ t, exec (.cfgCommitComplete false) s = .next t
    ∧ t.get MGMT_STATUS_CFG_BUSY = 0 ∧ t.get MGMT_FLAGS_CFG_COMMIT_FAIL = 1 ∧ FlashKept (0x10000 * (k.val + 1)) (0x10000 * (k.val + 1) + 0x10000) s t
    ∧ Only [MGMT_STATUS_CFG_BUSY, MGMT_FLAGS_CFG_COMMIT_FAIL] s { s with flash := t.flash, freeCtr := t.freeCtr, mgmt := { s.mgmt with commit := none } } t

abbrev preUpdBegin (c : CmdIn) (s : State) (i : Fin 2) (len : Nat) : Prop :=
  Ready 20 s ∧ c.words = [len] ∧ len % 4 = 0 ∧ 1024 ≤ len ∧ len ≤ 0xC0000 ∧ s.get MGMT_STATUS_CFG_BUSY = 0 ∧ s.get MGMT_STATUS_UPD_BUSY = 0 ∧ s.get MGMT_STATUS_IMAGE = 1 - i.val ∧ Memory.flashWf s.flash = true
/-- UPD_BEGIN (R351, R352): the image that does not run is erased and no longer valid; a preference for it is given up. -/
def updBegin : Prop := ∀ c s i len, preUpdBegin c s i len →
  ∃ t, exec (.updBegin c) s = .next t
    ∧ t.get (imgValidF i) = 0 ∧ t.get MGMT_STATUS_UPD_BUSY = 1 ∧ t.mgmt.upd = some ⟨i.val, len, 0, 0, [], true, false⟩ ∧ t.erased (imageBase i) 0x100000 = true
    ∧ (s.selFlags.1 = i.val → t.selFlags = (1 - i.val, 0, s.selFlags.2.2)) ∧ (s.selFlags.1 ≠ i.val → t.selRecord = s.selRecord)
    ∧ (∀ a, 0x2000 ≤ a → (a < imageBase i ∨ imageBase i + 0x100000 ≤ a) → kget a t.flash = kget a s.flash)
    ∧ Done 0xA4 0 [i.val] [imgValidF i, MGMT_STATUS_UPD_BUSY] c s { s with flash := t.flash, mgmt := { s.mgmt with upd := t.mgmt.upd } } t

abbrev preUpdEraseComplete (s : State) (u : Update) : Prop :=
  s.mgmt.upd = some u ∧ u.erasing = true
/-- UPD_ERASE_COMPLETE (R352). -/
def updEraseComplete : Prop := ∀ s u, preUpdEraseComplete s u →
  ∃ t, exec (.updEraseComplete) s = .next t
    ∧ t.get MGMT_STATUS_UPD_BUSY = 0 ∧ Only [MGMT_STATUS_UPD_BUSY] s { s with mgmt := { s.mgmt with upd := some { u with erasing := false } } } t

abbrev preUpdData (c : CmdIn) (s : State) (u : Update) (ws : List Nat) : Prop :=
  Ready 20 s ∧ c.words = [u.written, ws.length] ++ ws ∧ s.mgmt.upd = some u ∧ u.erasing = false ∧ 1 ≤ ws.length ∧ ws.length ≤ 497 ∧ u.written + 4 * ws.length ≤ u.len ∧ u.len ≤ 0xC0000
    ∧ (u.lastData = [] ∨ u.lastOff ≠ u.written) ∧ Memory.flashWf s.flash = true
/-- UPD_DATA (R352): words at the byte offset already reached are programmed. -/
def updData : Prop := ∀ c s u ws, preUpdData c s u ws →
  ∃ t, exec (.updData c) s = .next t
    ∧ t.flashWords (imageBase u.image + u.written) ws.length = ws ∧ FlashKept (imageBase u.image + u.written) (imageBase u.image + u.written + 4 * ws.length) s t
    ∧ t.mgmt.upd = some { u with written := u.written + 4 * ws.length, lastOff := u.written, lastData := ws.map (BitVec.ofNat 32) }
    ∧ Done 0xA5 0 [u.written + 4 * ws.length] [] c s { s with flash := t.flash, mgmt := { s.mgmt with upd := t.mgmt.upd } } t

abbrev preUpdDataAgain (c : CmdIn) (s : State) (u : Update) (ws : List Nat) : Prop :=
  Ready 20 s ∧ c.words = [u.lastOff, ws.length] ++ ws ∧ s.mgmt.upd = some u ∧ u.erasing = false ∧ 1 ≤ ws.length ∧ ws.length ≤ 497 ∧ u.lastData = ws.map (BitVec.ofNat 32)
/-- UPD_DATA (R352) that repeats the previous offset with identical data is ALREADY and writes nothing. -/
def updDataAgain : Prop := ∀ c s u ws, preUpdDataAgain c s u ws →
  ∃ t, exec (.updData c) s = .next t
    ∧ Done 0xA5 0xC [u.written] [] c s s t

abbrev preUpdCommit (c : CmdIn) (s : State) (u : Update) : Prop :=
  Ready 20 s ∧ c.words = [] ∧ s.mgmt.upd = some u ∧ u.written = u.len ∧ s.get MGMT_STATUS_CFG_BUSY = 0 ∧ s.get MGMT_STATUS_UPD_BUSY = 0
/-- UPD_COMMIT (R351, R352) with every byte written: verification begins. -/
def updCommit : Prop := ∀ c s u, preUpdCommit c s u →
  ∃ t, exec (.updCommit c) s = .next t
    ∧ t.get MGMT_STATUS_UPD_BUSY = 1 ∧ Done 0xA6 0 [] [MGMT_STATUS_UPD_BUSY] c s { s with mgmt := { s.mgmt with upd := some { u with verifying := true } } } t

abbrev preUpdVerifyComplete (s : State) (u : Update) (i : Fin 2) : Prop :=
  s.mgmt.upd = some u ∧ u.verifying = true ∧ u.image = i.val ∧ s.get MGMT_STATUS_IMAGE = 1 - i.val ∧ s.get MGMT_STATUS_PHASE = 4
/-- UPD_VERIFY_COMPLETE (R346, R352, R356): an image that is valid, with an SVN not below that of the running image, becomes valid; any other sets
UPD_FAIL and is logged. Whether a signature verifies is open (log entry 16). -/
def updVerifyComplete : Prop := ∀ s u i, preUpdVerifyComplete s u i →
  ∃ t, exec (.updVerifyComplete) s = .next t
    ∧ t.get MGMT_STATUS_UPD_BUSY = 0 ∧ t.mgmt.upd = none ∧ t.flash = s.flash
    ∧ (if s.imageFault i = 0 ∧ s.imageWord (1 - i.val) 4 ≤ s.imageWord i 4 then t.get (imgValidF i) = 1 ∧ t.mem = s.mem ∧ t.get MGMT_FLAGS_UPD_FAIL = s.get MGMT_FLAGS_UPD_FAIL
      else t.get MGMT_FLAGS_UPD_FAIL = 1 ∧ t.get (imgValidF i) = s.get (imgValidF i) ∧ t.get MGMT_LOG_SEQ_NEXT = (s.get MGMT_LOG_SEQ_NEXT + 1) % 2 ^ 32)
    ∧ SameRegs ([MGMT_STATUS_UPD_BUSY, imgValidF i, MGMT_FLAGS_UPD_FAIL] ++ logF) s t ∧ LogKept s t ∧ t.eng = s.eng ∧ t.cmd = s.cmd ∧ t.seq = s.seq

abbrev preUpdSelectTrial (c : CmdIn) (s : State) (i : Fin 2) (n : Nat) : Prop :=
  Ready 20 s ∧ c.words = [0, i.val, n] ∧ 1 ≤ n ∧ n ≤ 7 ∧ s.get (imgValidF i) = 1 ∧ s.selFlags ≠ (i.val, 1, n) ∧ Memory.flashWf s.flash = true
/-- UPD_SELECT (R344, R353) TRIAL of a valid image: the record in the sector not in use, with SEQ + 1. -/
def updSelectTrial : Prop := ∀ c s i n, preUpdSelectTrial c s i n →
  ∃ t, exec (.updSelect c) s = .next t
    ∧ t.selFlags = (i.val, 1, n) ∧ FlashKept 0 0x2000 s t ∧ t.get MGMT_STATUS_TRIES = n
    ∧ (∀ r, s.selRecord = some r → t.selRecord = some (1 - r.1, (r.2.1 + 1) % 2 ^ 32, i.val + 2 + 4 * n))
    ∧ Done 0xA7 0 t.selWords [MGMT_STATUS_TRIES] c s { s with flash := t.flash } t

abbrev preUpdSelectConfirm (c : CmdIn) (s : State) (p : Nat) : Prop :=
  Ready 20 s ∧ c.words = [1, s.get MGMT_STATUS_IMAGE, p] ∧ s.get MGMT_STATUS_IMAGE < 2 ∧ s.get MGMT_STATUS_TRIAL = 1 ∧ s.selFlags = (s.get MGMT_STATUS_IMAGE, 1, s.selFlags.2.2) ∧ s.selFlags.2.2 ≤ 7 ∧ Memory.flashWf s.flash = true ∧ p < 2 ^ 32
/-- UPD_SELECT (R353) CONFIRM of the running trial image. -/
def updSelectConfirm : Prop := ∀ c s p, preUpdSelectConfirm c s p →
  ∃ t, exec (.updSelect c) s = .next t
    ∧ t.selFlags = (s.get MGMT_STATUS_IMAGE, 0, s.selFlags.2.2) ∧ FlashKept 0 0x2000 s t ∧ t.get MGMT_STATUS_TRIAL = 0
    ∧ Done 0xA7 0 t.selWords [MGMT_STATUS_TRIES, MGMT_STATUS_TRIAL] c s { s with flash := t.flash } t

abbrev preUpdSelectPrefer (c : CmdIn) (s : State) (i : Fin 2) (p : Nat) : Prop :=
  Ready 20 s ∧ c.words = [2, i.val, p] ∧ p < 2 ^ 32 ∧ s.get (imgValidF i) = 1 ∧ s.get MGMT_STATUS_IMAGE = 1 - i.val ∧ (s.selFlags.1 ≠ i.val ∨ s.selFlags.2.1 ≠ 0) ∧ s.selFlags.2.2 ≤ 7 ∧ Memory.flashWf s.flash = true
/-- UPD_SELECT (R353) PREFER of a valid image that does not run. -/
def updSelectPrefer : Prop := ∀ c s i p, preUpdSelectPrefer c s i p →
  ∃ t, exec (.updSelect c) s = .next t
    ∧ t.selFlags = (i.val, 0, s.selFlags.2.2) ∧ FlashKept 0 0x2000 s t
    ∧ Done 0xA7 0 t.selWords [MGMT_STATUS_TRIES] c s { s with flash := t.flash } t

abbrev preUpdSelectDenied (c : CmdIn) (s : State) (i : Fin 2) (n : Nat) : Prop :=
  Ready 20 s ∧ c.words = [0, i.val, n] ∧ 1 ≤ n ∧ n ≤ 7 ∧ s.get (imgValidF i) = 0
/-- UPD_SELECT (R353) TRIAL of an image that is not valid is DENIED. -/
def updSelectDenied : Prop := ∀ c s i n, preUpdSelectDenied c s i n →
  ∃ t, exec (.updSelect c) s = .next t
    ∧ Done 0xA7 8 [] [] c s s t

abbrev preLogRead (c : CmdIn) (s : State) (first n : Nat) (ws : List Nat) : Prop :=
  Ready 20 s ∧ c.words = [first, 1, 0] ∧ first < s.get MGMT_LOG_SEQ_NEXT ∧ s.get MGMT_LOG_SEQ_NEXT ≤ first + 4096 ∧ n = 1 ∧ NoHeld s ∧ s.get PMON_CTRL_RUN = 0 ∧ first < 2 ^ 32
    ∧ getBytes s.mem (0x1C0000 + 32 * (first % 4096)) 32 = some (wordsLE ws) ∧ ws.length = 8 ∧ (∀ w ∈ ws, w < 2 ^ 32) ∧ ∀ j : Fin 4, kget (0x1C0000 + 32 * (first % 4096) + 8 * j.val) s.ecc = none
/-- LOG_READ (R365) of one record that the ring holds. -/
def logRead : Prop := ∀ c s first n ws, preLogRead c s first n ws →
  ∃ t, exec (.logRead c) s = .next t
    ∧ Done 0xA8 0 ([first, 1] ++ ws) [] c s s t

abbrev preLogReadNone (c : CmdIn) (s : State) (first n : Nat) : Prop :=
  Ready 20 s ∧ c.words = [first, n, 0] ∧ s.get MGMT_LOG_SEQ_NEXT ≤ first ∧ 1 ≤ n ∧ n ≤ 127 ∧ first < 2 ^ 32
/-- LOG_READ (R365) from the next LSEQ on or later: no records. -/
def logReadNone : Prop := ∀ c s first n, preLogReadNone c s first n →
  ∃ t, exec (.logRead c) s = .next t
    ∧ Done 0xA8 0 [first, 0] [] c s s t

abbrev preLogReadPersistent (c : CmdIn) (s : State) (first n : Nat) : Prop :=
  Ready 20 s ∧ c.words = [first, n, 1] ∧ 1 ≤ n ∧ n ≤ 127 ∧ first < 2 ^ 32
/-- LOG_READ (R365) of the persistent log: the records of this boot from an LSEQ on. -/
def logReadPersistent : Prop := ∀ c s first n, preLogReadPersistent c s first n →
  ∃ t, exec (.logRead c) s = .next t
    ∧ Done 0xA8 0 ([((((s.persistRecords.filter fun r => first ≤ r.getD 0 0).take n).headD [first]).getD 0 0), ((s.persistRecords.filter fun r => first ≤ r.getD 0 0).take n).length] ++ ((s.persistRecords.filter fun r => first ≤ r.getD 0 0).take n).flatten) [] c s s t

abbrev prePersistentLogAppend (s : State) (r : List Word) (rest : List (List Word)) : Prop :=
  s.domainOn 1 = true ∧ s.mgmt.persistQ = r :: rest ∧ r.length = 8 ∧ Memory.flashWf s.flash = true
/-- PERSISTENT_LOG_APPEND (R355): the oldest record that waits enters the next free place of its flash region. -/
def persistentLogAppend : Prop := ∀ s r rest, prePersistentLogAppend s r rest →
  ∃ t, exec (.persistentLogAppend) s = .next t
    ∧ t.flashGet (0x80000 + 32 * s.nextFree 0x80000 32 16384) 32 = wordsLE (r.map (·.toNat)) ∧ FlashKept 0x80000 0x100000 s t
    ∧ t = { s with flash := t.flash, mgmt := { s.mgmt with persistQ := rest } }

abbrev preLifetimeSample (s : State) (b hot cold : Nat) : Prop :=
  s.domainOn 1 = true ∧ s.get MGMT_STATUS_PHASE = 4 ∧ s.mgmt.life.length = 63 ∧ b = tjBin (s.dieTemps.foldl max (s.dieTemps.headD 0)) ∧ b < 18 ∧ s.mgmt.life.getD 3 0 ≠ 0
    ∧ (∀ k : Fin 4, s.get (EMIT_CHc_ACT_CODE k) = 0) ∧ (∀ k : Fin 4, s.mgmt.charge[k] < 1843200)
    ∧ hot = signedWord (max (signedOf 32 (s.mgmt.life.getD 22 0)) (s.dieTemps.foldl max (s.dieTemps.headD 0))) ∧ cold = signedWord (min (signedOf 32 (s.mgmt.life.getD 23 0)) (s.dieTemps.foldl min (s.dieTemps.headD 0)))
/-- LIFETIME_SAMPLE (R357, R358): one more second powered, in the bin of the hottest die sensor, and the extremes; with every sink off no charge is counted. -/
def lifetimeSample : Prop := ∀ s b hot cold, preLifetimeSample s b hot cold →
  ∃ t, exec (.lifetimeSample) s = .next t
    ∧ t.mgmt.life.getD 3 0 = min (s.mgmt.life.getD 3 0 + 1) 0xFFFFFFFF ∧ t.mgmt.life.getD (4 + b) 0 = min (s.mgmt.life.getD (4 + b) 0 + 1) 0xFFFFFFFF
    ∧ t.mgmt.life.getD 22 0 = hot ∧ t.mgmt.life.getD 23 0 = cold
    ∧ (∀ i : Fin 24, i.val ≠ 3 → i.val ≠ 4 + b → i.val < 22 → t.mgmt.life.getD i.val 0 = s.mgmt.life.getD i.val 0) ∧ t.mgmt.life.drop 28 = s.mgmt.life.drop 28
    ∧ t.regs = s.regs ∧ t.mem = s.mem ∧ t.flash = s.flash ∧ t.hk = s.hk ∧ t.emit = s.emit ∧ t.cmd = s.cmd

abbrev preLifetimeAppend (s : State) : Prop :=
  s.domainOn 1 = true ∧ s.get MGMT_STATUS_PHASE = 4 ∧ s.mgmt.lifeDue ≤ s.cyc ∧ s.mgmt.life.length = 63 ∧ Memory.flashWf s.flash = true
/-- LIFETIME_APPEND (R357, R358): every 10 minutes the record with LREC_SEQ + 1 enters the next free place of its flash region. -/
def lifetimeAppend : Prop := ∀ s, preLifetimeAppend s →
  ∃ t, exec (.lifetimeAppend true) s = .next t
    ∧ t.mgmt.life = s.mgmt.life.set 0 ((s.mgmt.life.getD 0 0 + 1) % 2 ^ 32) ∧ t.mgmt.lifeDue = s.cyc + 240000000000 ∧ t.get MGMT_STATUS_LIFE_VALID = 1
    ∧ t.flashGet (0x40000 + 256 * s.nextFree 0x40000 256 1024) 256 = wordsLE (t.mgmt.life ++ [crc32 (wordsLE t.mgmt.life)]) ∧ FlashKept 0x40000 0x80000 s t
    ∧ Only [MGMT_STATUS_LIFE_VALID] s { s with flash := t.flash, mgmt := { s.mgmt with life := t.mgmt.life, lifeDue := t.mgmt.lifeDue } } t

abbrev preLifetimeAppendFails (s : State) : Prop :=
  s.domainOn 1 = true ∧ s.get MGMT_STATUS_PHASE = 4 ∧ s.mgmt.lifeDue ≤ s.cyc ∧ s.mgmt.life.length = 63
/-- LIFETIME_APPEND (R358) with a failed readback: flagged and logged, the record written once more. -/
def lifetimeAppendFails : Prop := ∀ s, preLifetimeAppendFails s →
  ∃ t, exec (.lifetimeAppend false) s = .next t
    ∧ t.get MGMT_FLAGS_LIFE_WRITE_FAIL = 1 ∧ t.get MGMT_STATUS_LIFE_VALID = 1 ∧ t.get MGMT_LOG_SEQ_NEXT = (s.get MGMT_LOG_SEQ_NEXT + 1) % 2 ^ 32
    ∧ SameRegs ([MGMT_FLAGS_LIFE_WRITE_FAIL, MGMT_STATUS_LIFE_VALID] ++ logF) s t ∧ LogKept s t ∧ t.eng = s.eng ∧ t.cmd = s.cmd ∧ t.hk = s.hk

abbrev preLifeRead (c : CmdIn) (s : State) : Prop :=
  Ready 20 s ∧ c.words = []
/-- LIFE_READ (R357, R365): the 64 words, with their check word. -/
def lifeRead : Prop := ∀ c s, preLifeRead c s →
  ∃ t, exec (.lifeRead c) s = .next t
    ∧ Done 0xA9 0 (s.mgmt.life ++ [crc32 (wordsLE s.mgmt.life)]) [] c s s t

abbrev preDieSensorUpdate (s : State) (temps : Vector (BitVec 16) 8) (_mv : Vector (BitVec 16) 10) : Prop :=
  s.domainOn 1 = true ∧ s.mgmt.tjHot = none ∧ s.reach 16 = false ∧ s.reach 14 = false ∧ ∀ i : Fin 8, temps[i].toInt ≤ s.getI MGMT_TJ_LIMIT_LIMIT
/-- DIE_SENSOR_UPDATE (R359): the readings, in a device none of whose sensors is above the limit and whose CAL and TDC cannot be reached. -/
def dieSensorUpdate : Prop := ∀ s temps mv, preDieSensorUpdate s temps mv →
  ∃ t, exec (.dieSensorUpdate temps mv) s = .next t
    ∧ (∀ i : Fin 8, t.get (MGMT_TEMPi_TEMP i) = temps[i].toNat) ∧ (∀ j : Fin 10, t.get (MGMT_VMONj_MV j) = mv[j].toNat)
    ∧ Only ((List.range 8).map (fun i => MGMT_TEMPi_TEMP i) ++ (List.range 10).map fun j => MGMT_VMONj_MV j) s s t

abbrev preDieSensorHot (s : State) (temps : Vector (BitVec 16) 8) (_mv : Vector (BitVec 16) 10) (i : Fin 8) : Prop :=
  s.domainOn 1 = true ∧ s.get MGMT_STATUS_PHASE = 4 ∧ s.mgmt.tjHot = none ∧ s.reach 16 = false ∧ s.reach 14 = false ∧ s.getI MGMT_TJ_LIMIT_LIMIT < temps[i].toInt ∧ ∀ j : Fin 8, j ≠ i → temps[j].toInt < temps[i].toInt
/-- DIE_SENSOR_UPDATE (R359, R356): one sensor above the limit sets TJ_LIMIT and is logged. -/
def dieSensorHot : Prop := ∀ s temps mv i, preDieSensorHot s temps mv i →
  ∃ t, exec (.dieSensorUpdate temps mv) s = .next t
    ∧ t.get MGMT_FLAGS_TJ_LIMIT = 1 ∧ t.mgmt.tjHot = some i.val ∧ t.get MGMT_LOG_SEQ_NEXT = (s.get MGMT_LOG_SEQ_NEXT + 1) % 2 ^ 32 ∧ (∀ j : Fin 8, t.get (MGMT_TEMPi_TEMP j) = temps[j].toNat)
    ∧ SameRegs ((List.range 8).map (fun i => MGMT_TEMPi_TEMP i) ++ (List.range 10).map (fun j => MGMT_VMONj_MV j) ++ MGMT_FLAGS_TJ_LIMIT :: logF) s t ∧ LogKept s t ∧ t.flash = s.flash ∧ t.hk = s.hk

abbrev preDieSensorDrift (s : State) (temps : Vector (BitVec 16) 8) (_mv : Vector (BitVec 16) 10) : Prop :=
  s.domainOn 1 = true ∧ s.get MGMT_STATUS_PHASE = 4 ∧ s.mgmt.tjHot = none ∧ s.reach 14 = true ∧ (∀ i : Fin 8, temps[i].toInt ≤ s.getI MGMT_TJ_LIMIT_LIMIT) ∧ s.get (CAL_CTRL_AUTO 0) = 0 ∧ s.get (CAL_CTRL_AUTO 1) = 0
/-- DIE_SENSOR_UPDATE (R407): interpolators that die sensor 5 has left by 10 K or more, and that R406 lets firmware calibrate, are calibrated. -/
def dieSensorDrift : Prop := ∀ s temps mv, preDieSensorDrift s temps mv →
  ∃ t, exec (.dieSensorUpdate temps mv) s = .next t
    ∧ (∀ i : Fin 9, (t.get TDC_STATUS_CAL_BUSY).testBit i.val = ((s.get TDC_STATUS_CAL_BUSY).testBit i.val || (decide (100 ≤ (temps[5].toInt - s.getI (TDC_CALTEMPi_TEMP i)).natAbs) && !s.ipInUse i)))
    ∧ Only ((List.range 8).map (fun i => MGMT_TEMPi_TEMP i) ++ (List.range 10).map (fun j => MGMT_VMONj_MV j) ++ [TDC_STATUS_CAL_BUSY]) s s t

abbrev preDramSensorRead (s : State) (_a _b : Option (BitVec 16)) : Prop :=
  s.domainOn 1 = true ∧ s.get MGMT_STATUS_PHASE = 4 ∧ s.get (DRAMC_CONFIG_EN 0) = 1 ∧ s.get (DRAMC_CONFIG_EN 1) = 1 ∧ s.reach 12 = false
/-- DRAM_SENSOR_READ (R359) where the DRAM controller cannot be reached: what each module of an enabled channel answers, 0x8000 and I2C_FAIL where it does not. -/
def dramSensorRead : Prop := ∀ s a b, preDramSensorRead s a b →
  ∃ t, exec (.dramSensorRead a b) s = .next t
    ∧ t.get MGMT_DRAM_TEMP_DA = (match a with | some v => v.toNat | none => 0x8000) ∧ t.get MGMT_DRAM_TEMP_DB = (match b with | some v => v.toNat | none => 0x8000)
    ∧ ((a = none ∨ b = none) → t.get MGMT_FLAGS_I2C_FAIL = 1) ∧ (a ≠ none → b ≠ none → t.get MGMT_FLAGS_I2C_FAIL = s.get MGMT_FLAGS_I2C_FAIL)
    ∧ Only [MGMT_DRAM_TEMP_DA, MGMT_DRAM_TEMP_DB, MGMT_FLAGS_I2C_FAIL] s s t

abbrev preDramSensorPassed (s : State) (v : BitVec 16) : Prop :=
  s.domainOn 1 = true ∧ s.get MGMT_STATUS_PHASE = 4 ∧ s.get (DRAMC_CONFIG_EN 0) = 0 ∧ s.get (DRAMC_CONFIG_EN 1) = 1 ∧ s.reach 12 = true ∧ v.toInt ≤ 770 ∧ v ≠ 0x8000 ∧ s.get (DRAMC_CHSTAT_HOT 1) = 0
/-- DRAM_SENSOR_READ (R359, R375) of channel DB alone: the reading is passed to the DRAM controller. -/
def dramSensorPassed : Prop := ∀ s v, preDramSensorPassed s v →
  ∃ t, exec (.dramSensorRead none (some v)) s = .next t
    ∧ t.get MGMT_DRAM_TEMP_DB = v.toNat ∧ t.get (DRAMC_TEMP_TEMP 1) = v.toNat ∧ t.get MGMT_DRAM_TEMP_DA = s.get MGMT_DRAM_TEMP_DA ∧ t.get (DRAMC_CHSTAT_HOT 1) = 0

abbrev preSensorRead (c : CmdIn) (s : State) : Prop :=
  Ready 20 s ∧ c.words = []
/-- SENSOR_READ (R365). -/
def sensorRead : Prop := ∀ c s, preSensorRead c s →
  ∃ t, exec (.sensorRead c) s = .next t
    ∧ Done 0xAA 0 ((List.range 8).map (fun i => s.get (MGMT_TEMPi_TEMP i)) ++ (List.range 10).map (fun i => s.get (MGMT_VMONj_MV i)) ++ [s.rawReg 20 0x68]) [] c s s t

abbrev preMgmtStatus (c : CmdIn) (s : State) : Prop :=
  Ready 20 s ∧ c.words = [] ∧ s.get MGMT_STATUS_IMG_VALID_A = 1 ∧ s.get MGMT_STATUS_IMG_VALID_B = 0
/-- MGMT_STATUS (R365): status, flags, VERSION and SVN of the valid images, and GEN of the loaded record. -/
def mgmtStatus : Prop := ∀ c s, preMgmtStatus c s →
  ∃ t, exec (.mgmtStatus c) s = .next t
    ∧ Done 0xA0 0 [s.rawReg 20 0, s.rawReg 20 4, s.imageWord 0 3, s.imageWord 0 4, 0, 0, (s.mgmt.record.getD 1 0).toNat] [] c s s t

abbrev preCoilReference (s : State) (k : Fin 4) (a b : Fin 64) (v : Int) : Prop :=
  s.domainOn 1 = true ∧ s.get MGMT_STATUS_PHASE = 4 ∧ s.reach 6 = true ∧ (∀ j : Fin 4, s.get (HK_COILc_MAP_EN j) = if j = k then 1 else 0)
    ∧ s.get (HK_COILc_MAP_RTD_ACC k) = a.val ∧ s.get (HK_COILc_MAP_REF_ACC k) = b.val ∧ a ≠ b ∧ s.get (HK_ACCa_CNT_CNT a) ≠ 0 ∧ s.get (HK_ACCa_CNT_CNT b) ≠ 0 ∧ (s.hk.accs[Fin.ofNat 72 b.val]).sum ≠ 0 ∧ (∀ i : Fin 72, ((s.hk.accs[i]).was.map (·.1)) ≠ some (s.cyc / 2))
    ∧ (s.get HK_RTD_STAT_FAULT).testBit (s.hkHalf false (a.val / 2) (a.val % 2)).exc = false
    ∧ platinumTemp ((s.get (HK_COILc_RREF_MOHM k) : Rat) * ((s.hk.accs[Fin.ofNat 72 a.val]).sum / s.get (HK_ACCa_CNT_CNT a)) / ((s.hk.accs[Fin.ofNat 72 b.val]).sum / s.get (HK_ACCa_CNT_CNT b)) / (if s.get (HK_COILc_MAP_NOMSEL k) = 0 then 100000 else 1000000)) = some v ∧ s.get (HK_COILc_MAP_NOMSEL k) < 2
/-- COIL_TEMPERATURE_UPDATE (R423, R429) of one coil with a reference resistor: both accumulators are read with clearing, R = R_ref · mean(RTD) / mean(REF),
and the temperature of that resistance is written with VALID = 1. -/
def coilReference : Prop := ∀ s k a b v, preCoilReference s k a b v →
  ∃ t, exec (.coilTemperatureUpdate) s = .next t
    ∧ t.get (BRIL_COILk_T_TEMP (k.val / 2) (k.val % 2)) = (v % 2 ^ 24).toNat ∧ t.get (BRIL_COILk_T_VALID (k.val / 2) (k.val % 2)) = 1
    ∧ t.get (HK_ACCa_CNT_CNT a) = 0 ∧ t.get (HK_ACCa_CNT_CNT b) = 0 ∧ (t.hk.accs[Fin.ofNat 72 a.val]).sum = 0 ∧ (t.hk.accs[Fin.ofNat 72 b.val]).sum = 0
    ∧ t = butNotes { s with hk := { s.hk with accs := t.hk.accs } } t ∧ (∀ i : Fin 72, i.val ≠ a.val → i.val ≠ b.val → t.hk.accs[i] = s.hk.accs[i])

abbrev preCoilEmpty (s : State) (k : Fin 4) (a : Fin 64) : Prop :=
  s.domainOn 1 = true ∧ s.get MGMT_STATUS_PHASE = 4 ∧ s.reach 6 = true ∧ (∀ j : Fin 4, s.get (HK_COILc_MAP_EN j) = if j = k then 1 else 0)
    ∧ s.get (HK_COILc_MAP_RTD_ACC k) = a.val ∧ s.get (HK_COILc_MAP_REF_ACC k) = 127 ∧ s.get (HK_ACCa_CNT_CNT a) = 0
/-- COIL_TEMPERATURE_UPDATE (R429) with a count of 0: VALID = 0. -/
def coilEmpty : Prop := ∀ s k a, preCoilEmpty s k a →
  ∃ t, exec (.coilTemperatureUpdate) s = .next t
    ∧ t.get (BRIL_COILk_T_VALID (k.val / 2) (k.val % 2)) = 0 ∧ t = butNotes { s with hk := { s.hk with accs := t.hk.accs } } t

end Sys2Proof.Claim

/-- CFG_READ, CFG_WRITE and CFG_COMMIT act on the staging image and the slots as R350, R351 and R365 say; an update erases, writes and verifies the image that is not running; UPD_SELECT rewrites the selection record. LOG_READ, LIFE_READ, SENSOR_READ and MGMT_STATUS reply what they name; records are appended to their flash regions; a second of the lifetime counts, the sensor readings and the coil temperatures do what R357 to R359 and R429 say. -/
def Obligations.Management : Prop :=
  Sys2Proof.Claim.cfgReadSlot ∧ Sys2Proof.Claim.cfgReadBusy ∧ Sys2Proof.Claim.cfgReadFactory ∧
  Sys2Proof.Claim.cfgReadStaging ∧ Sys2Proof.Claim.cfgWrite ∧ Sys2Proof.Claim.cfgCommit ∧
  Sys2Proof.Claim.cfgCommitComplete ∧ Sys2Proof.Claim.cfgCommitFails ∧ Sys2Proof.Claim.updBegin ∧
  Sys2Proof.Claim.updEraseComplete ∧ Sys2Proof.Claim.updData ∧ Sys2Proof.Claim.updDataAgain ∧
  Sys2Proof.Claim.updCommit ∧ Sys2Proof.Claim.updVerifyComplete ∧ Sys2Proof.Claim.updSelectTrial ∧
  Sys2Proof.Claim.updSelectConfirm ∧ Sys2Proof.Claim.updSelectPrefer ∧ Sys2Proof.Claim.updSelectDenied ∧
  Sys2Proof.Claim.logRead ∧ Sys2Proof.Claim.logReadNone ∧ Sys2Proof.Claim.logReadPersistent ∧
  Sys2Proof.Claim.persistentLogAppend ∧ Sys2Proof.Claim.lifetimeSample ∧ Sys2Proof.Claim.lifetimeAppend ∧
  Sys2Proof.Claim.lifetimeAppendFails ∧ Sys2Proof.Claim.lifeRead ∧ Sys2Proof.Claim.dieSensorUpdate ∧
  Sys2Proof.Claim.dieSensorHot ∧ Sys2Proof.Claim.dieSensorDrift ∧ Sys2Proof.Claim.dramSensorRead ∧
  Sys2Proof.Claim.dramSensorPassed ∧ Sys2Proof.Claim.sensorRead ∧ Sys2Proof.Claim.mgmtStatus ∧
  Sys2Proof.Claim.coilReference ∧ Sys2Proof.Claim.coilEmpty

namespace Sys2Proof.Claim
open Sys2Proof.Machine Sys2Proof.Machine.Reg

abbrev prePmonClr (s : State) : Prop :=
  s.domainOn 2 = true ∧ s.fabRuns = true ∧ s.pmon.nowAt ≠ s.cyc
/-- PMON_CLR (R480): every programmable counter is 0 and PMON_WRAP is clear. -/
def pmonClr : Prop := ∀ s, prePmonClr s →
  ∃ t, exec (.pmonClr) s = .next t
    ∧ t.get PMON_WRAP_WRAP = 0 ∧ Only [PMON_WRAP_WRAP] s { s with pmon := { s.pmon with cnt := Vector.replicate 8 0 } } t

abbrev prePmonSnapGo (s : State) : Prop :=
  s.domainOn 2 = true ∧ s.fabRuns = true ∧ s.snapAvail = true
/-- PMON_SNAP_GO (R482) while SNAP_AVAIL = 1: PMON_CYC, the counters and PMON_WRAP are copied and SNAP_DONE is set. -/
def pmonSnapGo : Prop := ∀ s, prePmonSnapGo s →
  ∃ t, exec (.pmonSnapGo) s = .next t
    ∧ t.get PMON_SCYC_LO_CYC = s.pmonCyc % 2 ^ 32 ∧ t.get PMON_SCYC_HI_CYC = s.pmonCyc / 2 ^ 32 % 2 ^ 32 ∧ t.get PMON_STATUS_SNAP_DONE = 1
    ∧ (∀ k : Fin 8, t.get (PMON_SCNTk_LO_COUNT k) = s.pmon.cnt[k] % 2 ^ 32 ∧ t.get (PMON_SCNTk_HI_COUNT k) = s.pmon.cnt[k] / 2 ^ 32 % 2 ^ 16 ∧ t.get (PMON_SCNTk_HI_WRAP k) = ((s.get PMON_WRAP_WRAP).testBit k.val).toNat)
    ∧ Only ([PMON_SCYC_LO_CYC, PMON_SCYC_HI_CYC, PMON_STATUS_SNAP_DONE] ++ (List.range 8).flatMap fun k => [PMON_SCNTk_LO_COUNT k, PMON_SCNTk_HI_COUNT k, PMON_SCNTk_HI_WRAP k]) s { s with pmon := { s.pmon with snapAt := some s.cyc } } t

abbrev prePmonSnapNotAvailable (s : State) : Prop :=
  s.domainOn 2 = true ∧ s.fabRuns = true ∧ s.snapAvail = false
/-- PMON_SNAP_GO (R482) while SNAP_AVAIL = 0 has no effect. -/
def pmonSnapNotAvailable : Prop := ∀ s, prePmonSnapNotAvailable s →
  ∃ t, exec (.pmonSnapGo) s = .next t
    ∧ t = s

abbrev prePmonBwGo (s : State) : Prop :=
  s.domainOn 2 = true ∧ s.fabRuns = true ∧ s.get PMON_STATUS_BW_BUSY = 0
/-- PMON_BW_GO (R484): a window of WIN µs opens in the next cycle. -/
def pmonBwGo : Prop := ∀ s, prePmonBwGo s →
  ∃ t, exec (.pmonBwGo) s = .next t
    ∧ t.get PMON_STATUS_BW_BUSY = 1 ∧ t.pmon.bwEnd = some (s.cyc + 1 + s.get PMON_BW_CTRL_WIN * 400)
    ∧ Only [PMON_STATUS_BW_BUSY] s { s with pmon := { s.pmon with bw := Vector.replicate 14 0, bw2 := Vector.replicate 14 0, bwEnd := t.pmon.bwEnd } } t

abbrev prePmonBwGoBusy (s : State) : Prop :=
  s.domainOn 2 = true ∧ s.fabRuns = true ∧ s.get PMON_STATUS_BW_BUSY = 1
/-- PMON_BW_GO (R484) while a window runs has no effect. -/
def pmonBwGoBusy : Prop := ∀ s, prePmonBwGoBusy s →
  ∃ t, exec (.pmonBwGo) s = .next t
    ∧ t = s

abbrev preBandwidthClose (s : State) (e : Nat) : Prop :=
  s.domainOn 2 = true ∧ s.fabRuns = true ∧ s.pmon.bwEnd = some e ∧ e < s.cyc ∧ s.get PMON_BW_CTRL_CONT = 0
/-- BANDWIDTH_WINDOW_CLOSE (R484): the byte counts are latched, BW_SEQ counts and BW_DONE is set; without CONT the block stops. -/
def bandwidthClose : Prop := ∀ s e, preBandwidthClose s e →
  ∃ t, exec (.bandwidthWindowClose) s = .next t
    ∧ t.get PMON_BW_SEQ_COUNT = (s.get PMON_BW_SEQ_COUNT + 1) % 2 ^ 32 ∧ t.get PMON_STATUS_BW_DONE = 1 ∧ t.get PMON_STATUS_BW_BUSY = 0
    ∧ Only [PMON_BW_SEQ_COUNT, PMON_STATUS_BW_DONE, PMON_STATUS_BW_BUSY] s { s with pmon := { s.pmon with res := s.pmon.bw, bw := s.pmon.bw2, bw2 := Vector.replicate 14 0, bwEnd := none } } t

abbrev preBandwidthCloseCont (s : State) (e : Nat) : Prop :=
  s.domainOn 2 = true ∧ s.fabRuns = true ∧ s.pmon.bwEnd = some e ∧ e < s.cyc ∧ s.get PMON_BW_CTRL_CONT = 1
/-- BANDWIDTH_WINDOW_CLOSE (R484) with CONT = 1: the next window opens in the following cycle. -/
def bandwidthCloseCont : Prop := ∀ s e, preBandwidthCloseCont s e →
  ∃ t, exec (.bandwidthWindowClose) s = .next t
    ∧ t.get PMON_BW_SEQ_COUNT = (s.get PMON_BW_SEQ_COUNT + 1) % 2 ^ 32 ∧ t.get PMON_STATUS_BW_DONE = 1 ∧ t.get PMON_STATUS_BW_BUSY = 1
    ∧ Only [PMON_BW_SEQ_COUNT, PMON_STATUS_BW_DONE, PMON_STATUS_BW_BUSY] s { s with pmon := { s.pmon with res := s.pmon.bw, bw := s.pmon.bw2, bw2 := Vector.replicate 14 0, bwEnd := some (e + 1 + s.get PMON_BW_CTRL_WIN * 400) } } t

abbrev prePmonCntLoRead (s : State) (_k : Fin 8) : Prop :=
  s.domainOn 2 = true ∧ s.fabRuns = true
/-- PMON_CNT_LO_READ (R483): bits [47:32] are latched, and nothing else changes. -/
def pmonCntLoRead : Prop := ∀ s k, prePmonCntLoRead s k →
  ∃ t, exec (.pmonCntLoRead k) s = .next t
    ∧ t.get (PMON_CNTk_HI_COUNT k) = s.pmon.cnt[k] / 2 ^ 32 % 2 ^ 16 ∧ Only [PMON_CNTk_HI_COUNT k] s s t

abbrev prePmonConfig (c : CmdIn) (s : State) (k : Fin 8) (v : Nat) : Prop :=
  Ready 19 s ∧ c.words = [k.val, v] ∧ v < 2 ^ 18 ∧ s.get (PMON_CNTk_CTRL_EN k) = 0 ∧ v % 256 ∈ pmonEvents ∧ (v.testBit 16 = true → v % 256 ∈ [0x10, 0x11, 0x12, 0x13, 0x30])
/-- PMON_CONFIG (R478, R486) of a disabled counter with a known event, filtered only where the event can be. -/
def pmonConfig : Prop := ∀ c s k v, prePmonConfig c s k v →
  ∃ t, exec (.pmonConfig c) s = .next t
    ∧ t.get (PMON_CNTk_CTRL_EVENT k) = v % 256 ∧ t.get (PMON_CNTk_CTRL_MASTER k) = v / 256 % 256 ∧ t.get (PMON_CNTk_CTRL_MFILT k) = v / 2 ^ 16 % 2 ∧ t.get (PMON_CNTk_CTRL_EN k) = v / 2 ^ 17 % 2
    ∧ Done 0xE0 0 [] [PMON_CNTk_CTRL_EVENT k, PMON_CNTk_CTRL_MASTER k, PMON_CNTk_CTRL_MFILT k, PMON_CNTk_CTRL_EN k] c s s t

abbrev prePmonConfigBad (c : CmdIn) (s : State) (k v : Nat) : Prop :=
  Ready 19 s ∧ c.words = [k, v] ∧ v < 2 ^ 18 ∧ (7 < k ∨ v % 256 ∉ pmonEvents ∨ (v.testBit 16 = true ∧ v % 256 ∉ [0x10, 0x11, 0x12, 0x13, 0x30]))
/-- PMON_CONFIG (R478, R486) of a reserved event, or of a filter where the event takes none: BAD_PARAM. -/
def pmonConfigBad : Prop := ∀ c s k v, prePmonConfigBad c s k v →
  ∃ t, exec (.pmonConfig c) s = .next t
    ∧ Done 0xE0 3 [] [] c s s t

abbrev prePmonConfigDenied (c : CmdIn) (s : State) (k : Fin 8) (v : Nat) : Prop :=
  Ready 19 s ∧ c.words = [k.val, v] ∧ v < 2 ^ 17 ∧ s.get (PMON_CNTk_CTRL_EN k) = 1 ∧ v ∈ pmonEvents ∧ s.rawReg 19 (0x100 + 0x10 * k.val) % 256 ≠ v
/-- PMON_CONFIG (R486) of an enabled counter with another EVENT: DENIED. -/
def pmonConfigDenied : Prop := ∀ c s k v, prePmonConfigDenied c s k v →
  ∃ t, exec (.pmonConfig c) s = .next t
    ∧ Done 0xE0 8 [] [] c s s t

abbrev prePmonSnapshot (c : CmdIn) (s : State) : Prop :=
  Ready 19 s ∧ c.words = [0] ∧ s.snapAvail = true
/-- PMON_SNAPSHOT (R482, R486) with P0 = 0 while SNAP_AVAIL = 1: the copy is the reply. -/
def pmonSnapshot : Prop := ∀ c s, prePmonSnapshot c s →
  ∃ t, exec (.pmonSnapshot c) s = .next t
    ∧ t.get PMON_SCYC_LO_CYC = s.pmonCyc % 2 ^ 32 ∧ t.get PMON_SCYC_HI_CYC = s.pmonCyc / 2 ^ 32 % 2 ^ 32 ∧ t.get PMON_STATUS_SNAP_DONE = 1
    ∧ (∀ k : Fin 8, t.get (PMON_SCNTk_LO_COUNT k) = s.pmon.cnt[k] % 2 ^ 32 ∧ t.get (PMON_SCNTk_HI_COUNT k) = s.pmon.cnt[k] / 2 ^ 32 % 2 ^ 16)
    ∧ Done 0xE1 0 ([s.pmonCyc % 2 ^ 32, s.pmonCyc / 2 ^ 32 % 2 ^ 32] ++ (List.finRange 8).flatMap fun k => [s.pmon.cnt[k] % 2 ^ 32, s.pmon.cnt[k] / 2 ^ 32 % 2 ^ 16 + 2 ^ 16 * ((s.get PMON_WRAP_WRAP).testBit k.val).toNat]) ([PMON_SCYC_LO_CYC, PMON_SCYC_HI_CYC, PMON_STATUS_SNAP_DONE] ++ (List.range 8).flatMap fun k => [PMON_SCNTk_LO_COUNT k, PMON_SCNTk_HI_COUNT k, PMON_SCNTk_HI_WRAP k]) c s { s with pmon := { s.pmon with snapAt := some s.cyc } } t

abbrev prePmonSnapshotClear (c : CmdIn) (s : State) : Prop :=
  Ready 19 s ∧ c.words = [3] ∧ s.snapAvail = true ∧ s.pmon.nowAt ≠ s.cyc
/-- PMON_SNAPSHOT (R480, R486) with P0 = 3: the counters are cleared first and RUN is set. -/
def pmonSnapshotClear : Prop := ∀ c s, prePmonSnapshotClear c s →
  ∃ t, exec (.pmonSnapshot c) s = .next t
    ∧ t.get PMON_CTRL_RUN = 1 ∧ t.get PMON_WRAP_WRAP = 0 ∧ t.pmon.cnt = Vector.replicate 8 0 ∧ t.get PMON_STATUS_SNAP_DONE = 1
    ∧ Done 0xE1 0 ([s.pmonCyc % 2 ^ 32, s.pmonCyc / 2 ^ 32 % 2 ^ 32] ++ List.replicate 16 0) ([PMON_CTRL_RUN, PMON_WRAP_WRAP, PMON_SCYC_LO_CYC, PMON_SCYC_HI_CYC, PMON_STATUS_SNAP_DONE] ++ (List.range 8).flatMap fun k => [PMON_SCNTk_LO_COUNT k, PMON_SCNTk_HI_COUNT k, PMON_SCNTk_HI_WRAP k]) c s { s with pmon := t.pmon } t

abbrev prePmonSnapshotNotReady (c : CmdIn) (s : State) (p : Fin 4) : Prop :=
  Ready 19 s ∧ c.words = [p.val] ∧ s.snapAvail = false
/-- PMON_SNAPSHOT (R481, R486) while SNAP_AVAIL = 0: NOT_READY. -/
def pmonSnapshotNotReady : Prop := ∀ c s p, prePmonSnapshotNotReady c s p →
  ∃ t, exec (.pmonSnapshot c) s = .next t
    ∧ Done 0xE1 1 [] [] c s s t

abbrev prePmonRead (c : CmdIn) (s : State) : Prop :=
  Ready 19 s ∧ c.words = [0] ∧ s.pmon.read = none
/-- PMON_READ (R483, R486): PMON_CYC is sampled now; the command is answered after the last counter is sampled. -/
def pmonRead : Prop := ∀ c s, prePmonRead c s →
  ∃ t, exec (.pmonRead c) s = .next t
    ∧ t = { s with pmon := { s.pmon with read := some (⟨c.src, 0xE2, c.tag, c.ps⟩, s.cyc, [s.pmonCyc % 2 ^ 32, s.pmonCyc / 2 ^ 32 % 2 ^ 32]) } }

abbrev prePmonSample (s : State) (p : CmdPkt) (c0 : Nat) (k : Fin 7) (ws : List Nat) : Prop :=
  s.pmon.read = some (p, c0, ws) ∧ ws.length = 2 + 2 * k.val
/-- A clk_fab cycle of a PMON_READ (R483): counter k is sampled 6 × (k + 1) cycles after PMON_CYC. -/
def pmonSample : Prop := ∀ s p c0 k ws, prePmonSample s p c0 k ws →
  ∃ t, s.tickPmon = t
    ∧ (c0 + 6 * (k.val + 1) ≤ s.cyc → t = { s with pmon := { s.pmon with read := some (p, c0, ws ++ [s.pmon.cnt[k.val] % 2 ^ 32, s.pmon.cnt[k.val] / 2 ^ 32]) } }) ∧ (s.cyc < c0 + 6 * (k.val + 1) → t = s)

abbrev prePmonReadEnd (c : CmdIn) (s : State) (p : CmdPkt) (c0 : Nat) (ws : List Nat) : Prop :=
  s.pmon.read = some (p, c0, ws) ∧ ws.length = 16 ∧ c0 + 48 ≤ s.cyc ∧ p.src = c.src ∧ p.tag = c.tag
/-- The cycle in which the last counter of a PMON_READ is sampled (R483, R486): the command is answered. -/
def pmonReadEnd : Prop := ∀ c s p c0 ws, prePmonReadEnd c s p c0 ws →
  ∃ t, s.tickPmon = t
    ∧ Done 0xE2 0 (ws ++ [s.pmon.cnt[7] % 2 ^ 32, s.pmon.cnt[7] / 2 ^ 32, s.get PMON_WRAP_WRAP]) [] c s { s with pmon := { s.pmon with read := none } } t

abbrev prePmonBwStart (c : CmdIn) (s : State) (w cont : Nat) : Prop :=
  Ready 19 s ∧ c.words = [w + 2 ^ 24 * cont, 1] ∧ 1 ≤ w ∧ w ≤ 1000000 ∧ cont < 2 ∧ s.get PMON_STATUS_BW_BUSY = 0
/-- PMON_BW (R484, R486) start of a window. -/
def pmonBwStart : Prop := ∀ c s w cont, prePmonBwStart c s w cont →
  ∃ t, exec (.pmonBw c) s = .next t
    ∧ t.get PMON_BW_CTRL_WIN = w ∧ t.get PMON_BW_CTRL_CONT = cont ∧ t.get PMON_STATUS_BW_BUSY = 1
    ∧ Done 0xE3 0 [] [PMON_BW_CTRL_WIN, PMON_BW_CTRL_CONT, PMON_STATUS_BW_BUSY] c s { s with pmon := { s.pmon with bw := Vector.replicate 14 0, bw2 := Vector.replicate 14 0, bwEnd := some (s.cyc + 1 + w * 400) } } t

abbrev prePmonBwAlready (c : CmdIn) (s : State) (w : Nat) : Prop :=
  Ready 19 s ∧ c.words = [w, 1] ∧ 1 ≤ w ∧ w ≤ 1000000 ∧ s.get PMON_STATUS_BW_BUSY = 1
/-- PMON_BW (R486) start while BW_BUSY = 1: ALREADY. -/
def pmonBwAlready : Prop := ∀ c s w, prePmonBwAlready c s w →
  ∃ t, exec (.pmonBw c) s = .next t
    ∧ Done 0xE3 0xC [] [] c s s t

abbrev prePmonBwBad (c : CmdIn) (s : State) (w : Nat) (p : Fin 2) : Prop :=
  Ready 19 s ∧ c.words = [w, p.val] ∧ w < 2 ^ 20 ∧ (w = 0 ∨ 1000000 < w)
/-- PMON_BW (R486) with WIN outside 1 to 1,000,000: BAD_PARAM. -/
def pmonBwBad : Prop := ∀ c s w p, prePmonBwBad c s w p →
  ∃ t, exec (.pmonBw c) s = .next t
    ∧ Done 0xE3 3 [] [] c s s t

abbrev prePmonBwRead (c : CmdIn) (s : State) (w : Nat) : Prop :=
  Ready 19 s ∧ c.words = [w, 0] ∧ 1 ≤ w ∧ w ≤ 1000000 ∧ s.get PMON_BW_SEQ_COUNT ≠ 0
/-- PMON_BW (R484, R486) read: BW_SEQ and the 14 results. -/
def pmonBwRead : Prop := ∀ c s w, prePmonBwRead c s w →
  ∃ t, exec (.pmonBw c) s = .next t
    ∧ Done 0xE3 0 ([s.get PMON_BW_SEQ_COUNT] ++ (List.finRange 14).flatMap fun i => [s.pmon.res[i] % 2 ^ 32, s.pmon.res[i] / 2 ^ 32 % 256]) [] c s s t

abbrev prePmonBwNotReady (c : CmdIn) (s : State) (w : Nat) : Prop :=
  Ready 19 s ∧ c.words = [w, 0] ∧ 1 ≤ w ∧ w ≤ 1000000 ∧ s.get PMON_BW_SEQ_COUNT = 0
/-- PMON_BW (R486) read before the first close: NOT_READY. -/
def pmonBwNotReady : Prop := ∀ c s w, prePmonBwNotReady c s w →
  ∃ t, exec (.pmonBw c) s = .next t
    ∧ Done 0xE3 1 [] [] c s s t

abbrev prePmonGetStatus (c : CmdIn) (s : State) : Prop :=
  Ready 19 s ∧ c.words = []
/-- PMON_GET_STATUS (R486). -/
def pmonGetStatus : Prop := ∀ c s, prePmonGetStatus c s →
  ∃ t, exec (.pmonGetStatus c) s = .next t
    ∧ Done 0xE4 0 ([s.pmonStatus, s.get PMON_CTRL_RUN, s.get PMON_WRAP_WRAP] ++ (List.range 8).map fun k => s.rawReg 19 (0x100 + 0x10 * k)) [] c s s t

end Sys2Proof.Claim

/-- A clear zeroes the counters and PMON_WRAP; a snapshot copies PMON_CYC, the counters and PMON_WRAP while SNAP_AVAIL = 1; a bandwidth window runs WIN µs and latches 14 byte counts at its close; the opcodes of R486 do what it gives them. -/
def Obligations.PerformanceCounters : Prop :=
  Sys2Proof.Claim.pmonClr ∧ Sys2Proof.Claim.pmonSnapGo ∧ Sys2Proof.Claim.pmonSnapNotAvailable ∧
  Sys2Proof.Claim.pmonBwGo ∧ Sys2Proof.Claim.pmonBwGoBusy ∧ Sys2Proof.Claim.bandwidthClose ∧
  Sys2Proof.Claim.bandwidthCloseCont ∧ Sys2Proof.Claim.pmonCntLoRead ∧ Sys2Proof.Claim.pmonConfig ∧
  Sys2Proof.Claim.pmonConfigBad ∧ Sys2Proof.Claim.pmonConfigDenied ∧ Sys2Proof.Claim.pmonSnapshot ∧
  Sys2Proof.Claim.pmonSnapshotClear ∧ Sys2Proof.Claim.pmonSnapshotNotReady ∧ Sys2Proof.Claim.pmonRead ∧
  Sys2Proof.Claim.pmonSample ∧ Sys2Proof.Claim.pmonReadEnd ∧ Sys2Proof.Claim.pmonBwStart ∧
  Sys2Proof.Claim.pmonBwAlready ∧ Sys2Proof.Claim.pmonBwBad ∧ Sys2Proof.Claim.pmonBwRead ∧
  Sys2Proof.Claim.pmonBwNotReady ∧ Sys2Proof.Claim.pmonGetStatus ∧ Sys2Proof.Claim.counterWrap

namespace Sys2Proof.Claim
open Sys2Proof.Machine Sys2Proof.Machine.Reg

abbrev preRampStep (s : State) (k : Fin 4) : Prop :=
  s.domainOn 1 = true ∧ (s.get EMIT_STATUS_SD).testBit k.val = false ∧ s.get (EMIT_CHc_SET_RAMP k) ≠ 0 ∧ s.get (EMIT_CHc_ACT_CODE k) ≠ s.get (EMIT_CHc_SET_CODE k) ∧ (s.emit.sinks[k]).rampDue ≤ s.cyc
    ∧ s.get (EMIT_CHc_SET_CODE k) < 4096 ∧ s.get (EMIT_CHc_ACT_CODE k) < 4096
/-- RAMP_STEP (R446): the applied code moves by RAMP codes toward the set code and stops there. -/
def rampStep : Prop := ∀ s k, preRampStep s k →
  ∃ t, exec (.rampStep k) s = .next t
    ∧ (s.get (EMIT_CHc_ACT_CODE k) < s.get (EMIT_CHc_SET_CODE k) → t.get (EMIT_CHc_ACT_CODE k) = min (s.get (EMIT_CHc_SET_CODE k)) (s.get (EMIT_CHc_ACT_CODE k) + s.get (EMIT_CHc_SET_RAMP k)))
    ∧ (s.get (EMIT_CHc_SET_CODE k) < s.get (EMIT_CHc_ACT_CODE k) → t.get (EMIT_CHc_ACT_CODE k) = max (s.get (EMIT_CHc_SET_CODE k)) (s.get (EMIT_CHc_ACT_CODE k) - s.get (EMIT_CHc_SET_RAMP k)))
    ∧ (∀ i : Fin 4, (t.get EMIT_STATUS_ON).testBit i.val = if i = k then decide (t.get (EMIT_CHc_ACT_CODE k) ≠ 0) else (s.get EMIT_STATUS_ON).testBit i.val)
    ∧ (t.emit.sinks[k]).rampDue = s.cyc + 400000 ∧ Only [EMIT_CHc_ACT_CODE k, EMIT_STATUS_ON] s { s with emit := t.emit } t

abbrev preSinkTemperatureOk (s : State) (_k : Fin 4) (v : BitVec 16) : Prop :=
  s.domainOn 1 = true ∧ v.toInt < 1500
/-- SINK_TEMPERATURE_READ (R448) below 150.0 °C. -/
def sinkTemperatureOk : Prop := ∀ s k v, preSinkTemperatureOk s k v →
  ∃ t, exec (.sinkTemperatureRead k v) s = .next t
    ∧ t.get (EMIT_CHc_TEMP_TEMP k) = v.toNat ∧ Only [EMIT_CHc_TEMP_TEMP k] s s t

abbrev preSinkTrip (s : State) (k : Fin 4) (v : BitVec 16) : Prop :=
  s.domainOn 1 = true ∧ 1500 ≤ v.toInt ∧ (s.get EMIT_STATUS_SD).testBit k.val = false
/-- SINK_TEMPERATURE_READ (R448) at 150.0 °C or more: the sink is off, flagged, counted and logged; CODE and RAMP keep their values. -/
def sinkTrip : Prop := ∀ s k v, preSinkTrip s k v →
  ∃ t, exec (.sinkTemperatureRead k v) s = .next t
    ∧ t.get (EMIT_CHc_TEMP_TEMP k) = v.toNat ∧ t.get (EMIT_CHc_ACT_CODE k) = 0 ∧ (t.get EMIT_STATUS_SD).testBit k.val = true ∧ (t.get EMIT_STATUS_ON).testBit k.val = false ∧ (t.get EMIT_FLAGS_THERM_SD).testBit k.val = true
    ∧ t.get (EMIT_CHc_SDCNT_COUNT k) = min (s.get (EMIT_CHc_SDCNT_COUNT k) + 1) (2 ^ 32 - 1) ∧ (t.emit.sinks[k]).on = false ∧ t.get MGMT_LOG_SEQ_NEXT = (s.get MGMT_LOG_SEQ_NEXT + 1) % 2 ^ 32
    ∧ SameRegs ([EMIT_CHc_TEMP_TEMP k, EMIT_CHc_ACT_CODE k, EMIT_STATUS_SD, EMIT_STATUS_ON, EMIT_FLAGS_THERM_SD, EMIT_CHc_SDCNT_COUNT k] ++ logF) s t ∧ LogKept s t ∧ t.eng = s.eng ∧ t.seq = s.seq ∧ t.flash = s.flash

abbrev preDchGo (s : State) : Prop :=
  s.domainOn 1 = true ∧ s.get DCH_CTRL_EN = 1 ∧ s.get DCH_STATUS_BUSY = 0
/-- DCH_GO (R452): with the chain enabled and no transfer running, one of 2 + 2·LEN·H + 3H clk_mgmt cycles starts. -/
def dchGo : Prop := ∀ s, preDchGo s →
  ∃ t, exec (.dchGo) s = .next t
    ∧ t.get DCH_STATUS_BUSY = 1 ∧ t.emit.dchDue = s.cyc + 2 * (2 + 2 * s.get DCH_CFG_LEN * (s.get DCH_CFG_DIV + 1) + 3 * (s.get DCH_CFG_DIV + 1))
    ∧ Only [DCH_STATUS_BUSY] s { s with emit := { s.emit with dchDue := t.emit.dchDue } } t

abbrev preDchGoIgnored (s : State) : Prop :=
  s.domainOn 1 = true ∧ (s.get DCH_CTRL_EN = 0 ∨ s.get DCH_STATUS_BUSY = 1)
/-- DCH_GO (R452) while BUSY or while the chain is disabled has no effect. -/
def dchGoIgnored : Prop := ∀ s, preDchGoIgnored s →
  ∃ t, exec (.dchGo) s = .next t
    ∧ t = s

abbrev preDchTransferComplete (s : State) : Prop :=
  s.domainOn 1 = true ∧ s.get DCH_STATUS_BUSY = 1 ∧ s.emit.dchDue ≤ s.cyc ∧ s.emit.dchTo = none
/-- DCH_TRANSFER_COMPLETE (R452) of a register-window GO. -/
def dchTransferComplete : Prop := ∀ s, preDchTransferComplete s →
  ∃ t, exec (.dchTransferComplete) s = .next t
    ∧ t.get DCH_STATUS_BUSY = 0 ∧ t.get DCH_STATUS_DONE = 1 ∧ (s.emit.dchOff = true → t.get DCH_CTRL_EN = 0) ∧ (s.emit.dchOff = false → t.get DCH_CTRL_EN = s.get DCH_CTRL_EN) ∧ t.emit.dchOff = false
    ∧ Only [DCH_STATUS_BUSY, DCH_STATUS_DONE, DCH_CTRL_EN] s { s with emit := { s.emit with dchOff := false } } t

abbrev preDchTransferReply (c : CmdIn) (s : State) (p : CmdPkt) : Prop :=
  s.domainOn 1 = true ∧ s.get DCH_STATUS_BUSY = 1 ∧ s.emit.dchDue ≤ s.cyc ∧ s.emit.dchTo = some p ∧ s.emit.dchOff = false ∧ p.src = c.src ∧ p.tag = c.tag
/-- DCH_TRANSFER_COMPLETE (R452, R454) of a DCH_WRITE: it is answered OK. -/
def dchTransferReply : Prop := ∀ c s p, preDchTransferReply c s p →
  ∃ t, exec (.dchTransferComplete) s = .next t
    ∧ t.get DCH_STATUS_BUSY = 0 ∧ t.get DCH_STATUS_DONE = 1 ∧ t.emit.dchTo = none
    ∧ Done 0xCD 0 [] [DCH_STATUS_BUSY, DCH_STATUS_DONE] c s { s with emit := { s.emit with dchTo := none } } t

abbrev preEmitSet (c : CmdIn) (s : State) (k : Fin 4) (v : Nat) : Prop :=
  Ready 17 s ∧ c.words = [k.val, v] ∧ v &&& 0x01FF0FFF = v
/-- EMIT_SET (R446, R454): code, ramp and spread are stored, and the applied code moves only at a later ramp or modulator step. -/
def emitSet : Prop := ∀ c s k v, preEmitSet c s k v →
  ∃ t, exec (.emitSet c) s = .next t
    ∧ t.get (EMIT_CHc_SET_CODE k) = v % 4096 ∧ t.get (EMIT_CHc_SET_RAMP k) = v / 2 ^ 16 % 256 ∧ t.get (EMIT_CHc_SET_SPREAD k) = v / 2 ^ 24 % 2
    ∧ Done 0xCB 0 [s.get (EMIT_CHc_ACT_CODE k)] [EMIT_CHc_SET_CODE k, EMIT_CHc_SET_RAMP k, EMIT_CHc_SET_SPREAD k] c s { s with emit := t.emit } t

abbrev preEmitRestart (c : CmdIn) (s : State) (k : Fin 4) : Prop :=
  Ready 17 s ∧ c.words = [k.val] ∧ s.getI (EMIT_CHc_TEMP_TEMP k) ≤ 1250 ∧ s.get EMIT_STATUS_SD = 2 ^ k.val
/-- EMIT_RESTART (R449, R454) of a sink shut down, at 125.0 °C or below: SD clears. -/
def emitRestart : Prop := ∀ c s k, preEmitRestart c s k →
  ∃ t, exec (.emitRestart c) s = .next t
    ∧ t.get EMIT_STATUS_SD = 0
    ∧ Done 0xCC 0 [] [EMIT_STATUS_SD] c s { s with emit := t.emit } t

abbrev preEmitRestartHot (c : CmdIn) (s : State) (k : Fin 4) : Prop :=
  Ready 17 s ∧ c.words = [k.val] ∧ 1250 < s.getI (EMIT_CHc_TEMP_TEMP k)
/-- EMIT_RESTART (R449) above 125.0 °C is DENIED. -/
def emitRestartHot : Prop := ∀ c s k, preEmitRestartHot c s k →
  ∃ t, exec (.emitRestart c) s = .next t
    ∧ Done 0xCC 8 [] [] c s s t

abbrev preEmitRestartAlready (c : CmdIn) (s : State) (k : Fin 4) : Prop :=
  Ready 17 s ∧ c.words = [k.val] ∧ s.getI (EMIT_CHc_TEMP_TEMP k) ≤ 1250 ∧ (s.get EMIT_STATUS_SD).testBit k.val = false
/-- EMIT_RESTART (R449) while SD is clear is ALREADY. -/
def emitRestartAlready : Prop := ∀ c s k, preEmitRestartAlready c s k →
  ∃ t, exec (.emitRestart c) s = .next t
    ∧ Done 0xCC 0xC [] [] c s s t

abbrev preDchAcquire (c : CmdIn) (s : State) : Prop :=
  Ready 17 s ∧ c.words = [1] ∧ s.get DCH_CTRL_EN = 0 ∧ s.tdcOwner 2 ≠ 0x0A02 ∧ s.tdcOwner 3 ≠ 0x0A03 ∧ s.emit.dchOff = false
/-- DCH_WRITE (R450, R454), acquire with both pins free. -/
def dchAcquire : Prop := ∀ c s, preDchAcquire c s →
  ∃ t, exec (.dchWrite c) s = .next t
    ∧ t.get DCH_CTRL_EN = 1 ∧ Done 0xCD 0 [] [DCH_CTRL_EN] c s s t

abbrev preDchAcquireTaken (c : CmdIn) (s : State) : Prop :=
  Ready 17 s ∧ c.words = [1] ∧ s.get DCH_CTRL_EN = 0 ∧ s.tdcOwner 2 ≠ 0x0A02 ∧ s.tdcOwner 3 = 0x0A03
/-- DCH_WRITE (R450, R454), acquire with a pin owned through a time-measurement channel: RESOURCE_BUSY with its owner. -/
def dchAcquireTaken : Prop := ∀ c s, preDchAcquireTaken c s →
  ∃ t, exec (.dchWrite c) s = .next t
    ∧ Replied 0xCD 6 [] 0x0A03 c s t ∧ SameRegs lastF s t ∧ t = repliedOnly s t

abbrev preDchRelease (c : CmdIn) (s : State) : Prop :=
  Ready 17 s ∧ c.words = [0] ∧ s.get DCH_CTRL_EN = 1 ∧ s.get DCH_STATUS_BUSY = 0
/-- DCH_WRITE (R450, R454), release with no transfer running. -/
def dchRelease : Prop := ∀ c s, preDchRelease c s →
  ∃ t, exec (.dchWrite c) s = .next t
    ∧ t.get DCH_CTRL_EN = 0 ∧ Done 0xCD 0 [] [DCH_CTRL_EN] c s s t

abbrev preDchWrite (c : CmdIn) (s : State) (d l x : Nat) : Prop :=
  Ready 17 s ∧ c.words = [2, d, l, x] ∧ s.get DCH_CTRL_EN = 1 ∧ s.get DCH_STATUS_BUSY = 0 ∧ 3 ≤ d ∧ d ≤ 255 ∧ 1 ≤ l ∧ l ≤ 32 ∧ x < 2 ^ 32
/-- DCH_WRITE (R452, R454), write and latch of up to 32 bits: the transfer starts, and the command is answered after DONE. -/
def dchWrite : Prop := ∀ c s d l x, preDchWrite c s d l x →
  ∃ t, exec (.dchWrite c) s = .next t
    ∧ t.get DCH_CFG_DIV = d ∧ t.get DCH_CFG_LEN = l ∧ t.get (DCH_DATAw_BITS 0) = x ∧ t.get DCH_STATUS_BUSY = 1
    ∧ t.emit.dchDue = s.cyc + 2 * (2 + 2 * l * (d + 1) + 3 * (d + 1)) ∧ t.emit.dchTo = some ⟨c.src, 0xCD, c.tag, c.ps⟩ ∧ t.cmd = s.cmd
    ∧ Only [DCH_CFG_DIV, DCH_CFG_LEN, DCH_DATAw_BITS 0, DCH_STATUS_BUSY] s { s with emit := { s.emit with dchDue := t.emit.dchDue, dchTo := t.emit.dchTo } } t

abbrev preEmitGetStatus (c : CmdIn) (s : State) : Prop :=
  Ready 17 s ∧ c.words = []
/-- EMIT_GET_STATUS (R454). -/
def emitGetStatus : Prop := ∀ c s, preEmitGetStatus c s →
  ∃ t, exec (.emitGetStatus c) s = .next t
    ∧ Done 0xCE 0 ([s.rawReg 17 0, s.rawReg 17 4] ++ ((List.range 4).flatMap fun i => [s.get (EMIT_CHc_ACT_CODE i), s.get (EMIT_CHc_TEMP_TEMP i), s.get (EMIT_CHc_SDCNT_COUNT i)]) ++ [s.rawReg 17 0x208]) [] c s s t

end Sys2Proof.Claim

/-- The applied code ramps toward the set code; a sink at 150.0 °C or more is shut down and counted, and restarts only by command; a transfer of the drive chain lasts as R452 says; the opcodes of R454 do what it gives them. -/
def Obligations.EmitterDrive : Prop :=
  Sys2Proof.Claim.rampStep ∧ Sys2Proof.Claim.sinkTemperatureOk ∧ Sys2Proof.Claim.sinkTrip ∧
  Sys2Proof.Claim.dchGo ∧ Sys2Proof.Claim.dchGoIgnored ∧ Sys2Proof.Claim.dchTransferComplete ∧
  Sys2Proof.Claim.dchTransferReply ∧ Sys2Proof.Claim.emitSet ∧ Sys2Proof.Claim.emitRestart ∧
  Sys2Proof.Claim.emitRestartHot ∧ Sys2Proof.Claim.emitRestartAlready ∧ Sys2Proof.Claim.dchAcquire ∧
  Sys2Proof.Claim.dchAcquireTaken ∧ Sys2Proof.Claim.dchRelease ∧ Sys2Proof.Claim.dchWrite ∧
  Sys2Proof.Claim.emitGetStatus

namespace Sys2Proof.Claim
open Sys2Proof.Machine Sys2Proof.Machine.Reg

abbrev preCalCtrlRun (s : State) (f : Fib) : Prop :=
  s.domainOn 3 = true ∧ s.fabRuns = true ∧ s.calState f = 0
/-- CAL_CTRL_RUN (R438) in IDLE: a run is requested. -/
def calCtrlRun : Prop := ∀ s f, preCalCtrlRun s f →
  ∃ t, exec (.calCtrlRun f) s = .next t
    ∧ t.calState f = 1 ∧ t.get (calBusyF f) = 1 ∧ t.get (CAL_RUNS_COUNT f) = min (s.get (CAL_RUNS_COUNT f) + 1) (2 ^ 32 - 1)
    ∧ Only [CAL_STAT_STATE f, calBusyF f, CAL_RUNS_COUNT f] s s t

abbrev preCalCtrlRunBusy (s : State) (f : Fib) : Prop :=
  s.domainOn 3 = true ∧ s.fabRuns = true ∧ s.calState f ≠ 0
/-- CAL_CTRL_RUN (R438) while a run is in progress or waiting has no effect. -/
def calCtrlRunBusy : Prop := ∀ s f, preCalCtrlRunBusy s f →
  ∃ t, exec (.calCtrlRun f) s = .next t
    ∧ t = s

abbrev preCalCtrlAbort (s : State) (f : Fib) : Prop :=
  s.domainOn 3 = true ∧ s.fabRuns = true ∧ s.calState f ≠ 0
/-- CAL_CTRL_ABORT (R440): the run changes nothing, and temperature requests are suppressed for RETRY seconds. -/
def calCtrlAbort : Prop := ∀ s f, preCalCtrlAbort s f →
  ∃ t, exec (.calCtrlAbort f) s = .next t
    ∧ t.calState f = 0 ∧ t.get (calBusyF f) = 0 ∧ t.get (CAL_FLAGS_ABORT f) = 1 ∧ t.get (CAL_STAT_RETRY_WAIT f) = 1 ∧ t.get (CAL_ABORT_CNT_COUNT f) = min (s.get (CAL_ABORT_CNT_COUNT f) + 1) (2 ^ 32 - 1)
    ∧ (t.cal[f]).a = none ∧ (t.cal[f]).found = none ∧ (t.cal[f]).held = (s.cal[f]).held ∧ (t.cal[f]).retryDue = s.cyc + s.get (CAL_CFG_RETRY f) * 400000000 ∧ t.cal[1 - f] = s.cal[1 - f]
    ∧ Only [CAL_STAT_STATE f, calBusyF f, CAL_FLAGS_ABORT f, CAL_STAT_RETRY_WAIT f, CAL_ABORT_CNT_COUNT f] s { s with cal := t.cal } t

abbrev preRetryWaitExpiry (s : State) (f : Fib) : Prop :=
  s.domainOn 3 = true ∧ s.fabRuns = true ∧ s.get (CAL_STAT_RETRY_WAIT f) ≠ 0 ∧ (s.cal[f]).retryDue ≤ s.cyc ∧ s.get (CAL_CTRL_AUTO f) = 1 ∧ s.calState f = 0
    ∧ s.get (CAL_CFG_DT f) < (s.getI (MGMT_TEMPi_TEMP (s.get (CAL_CFG_TSENS f))) - s.getI (CAL_TEMP_TEMP f)).natAbs
/-- RETRY_WAIT_EXPIRY (R438): the suppression ends, and a temperature more than DT away requests a run. -/
def retryWaitExpiry : Prop := ∀ s f, preRetryWaitExpiry s f →
  ∃ t, exec (.retryWaitExpiry f) s = .next t
    ∧ t.get (CAL_STAT_RETRY_WAIT f) = 0 ∧ t.calState f = 1 ∧ t.get (calBusyF f) = 1
    ∧ Only [CAL_STAT_RETRY_WAIT f, CAL_STAT_STATE f, calBusyF f, CAL_RUNS_COUNT f] s s t

abbrev preRetryWaitExpiryEqual (s : State) (f : Fib) : Prop :=
  s.domainOn 3 = true ∧ s.fabRuns = true ∧ s.get (CAL_STAT_RETRY_WAIT f) ≠ 0 ∧ (s.cal[f]).retryDue ≤ s.cyc
    ∧ (s.getI (MGMT_TEMPi_TEMP (s.get (CAL_CFG_TSENS f))) - s.getI (CAL_TEMP_TEMP f)).natAbs ≤ s.get (CAL_CFG_DT f)
/-- RETRY_WAIT_EXPIRY (R438): a difference of DT or less requests nothing. -/
def retryWaitExpiryEqual : Prop := ∀ s f, preRetryWaitExpiryEqual s f →
  ∃ t, exec (.retryWaitExpiry f) s = .next t
    ∧ t.get (CAL_STAT_RETRY_WAIT f) = 0 ∧ Only [CAL_STAT_RETRY_WAIT f] s s t

abbrev preAccumulationStart (s : State) (f : Fib) : Prop :=
  s.domainOn 3 = true ∧ s.fabRuns = true ∧ s.calState f = 1 ∧ s.seqState f = 2 ∧ (s.cal[f]).held = none
/-- ACCUMULATION_START (R439): a waiting run begins accumulation A at sample 0 of a shot, with the sequencer RUNNING and no record held. -/
def accumulationStart : Prop := ∀ s f, preAccumulationStart s f →
  ∃ t, exec (.accumulationStart f) s = .next t
    ∧ t.calState f = 2 ∧ t.get (calBusyF f) = 1 ∧ (t.cal[f]).startAt = s.cyc ∧ (t.cal[f]).a = none ∧ (t.cal[f]).accA = Vector.replicate 3 ⟨0, 0, 0, 0, 0, 0, 0, none⟩ ∧ (t.cal[f]).accB = Vector.replicate 3 ⟨0, 0, 0, 0, 0, 0, 0, none⟩ ∧ t.cal[1 - f] = s.cal[1 - f]
    ∧ Only [CAL_STAT_STATE f, calBusyF f] s { s with cal := t.cal } t

abbrev preAccumulationA (s : State) (f : Fib) (x : Vector CalAcc 3) : Prop :=
  s.domainOn 3 = true ∧ s.fabRuns = true ∧ s.calState f = 2 ∧ ∀ p : Fin 3, (pairEst (x[p]).ii (x[p]).qq (x[p]).iq (x[p]).sym).isSome = true
    ∧ (s.cal[f]).accA = x ∧ s.calFull f x = true
/-- ACCUMULATION_COMPLETE (R436, R439) of A: its estimates are kept and B starts. The sums determine every estimate. -/
def accumulationA : Prop := ∀ s f x, preAccumulationA s f x →
  ∃ t, exec (.accumulationComplete f false) s = .next t
    ∧ t.calState f = 3 ∧ (t.cal[f]).startAt = s.cyc ∧ (t.cal[f]).a.isSome = true
    ∧ (∀ p : Fin 3, pairEst (x[p]).ii (x[p]).qq (x[p]).iq (x[p]).sym = (t.cal[f]).a.map fun e => (e.gain[p], e.ph[p], e.step[p]))
    ∧ (∀ c : Fin 6, (t.cal[f]).a.map (fun e => e.ofs[c]) = some (s.getI (CAL_OFSc_OFS f c) + roundAway (((if c.val % 2 = 0 then (x[c.val / 2]).ofsI else (x[c.val / 2]).ofsQ : Int) : Rat) / ((2 ^ s.get (CAL_CFG_NSAMP_LOG2 f) : Nat) : Rat))))
    ∧ Only [CAL_STAT_STATE f, calBusyF f] s { s with cal := t.cal } t ∧ t.cal[1 - f] = s.cal[1 - f]

abbrev preAccumulationB (s : State) (f : Fib) (x : Vector CalAcc 3) (a b : CalEst) : Prop :=
  s.domainOn 3 = true ∧ s.fabRuns = true ∧ s.calState f = 3 ∧ (s.cal[f]).a = some a ∧ (s.estimate f x).1 = b ∧ (∀ p : Fin 3, (pairEst (x[p]).ii (x[p]).qq (x[p]).iq (x[p]).sym).isSome = true)
    ∧ (s.calPairs f).all (fun p => s.agree f a b p && inRange (s.meanSet f a b) p) = true
    ∧ (s.cal[f]).accB = x ∧ s.calFull f x = true
/-- ACCUMULATION_COMPLETE (R437) of B: estimates that agree and whose means lie in range wait in APPLY; the means round as floor((a + b + 1) / 2). -/
def accumulationB : Prop := ∀ s f x a b, preAccumulationB s f x a b →
  ∃ t, exec (.accumulationComplete f true) s = .next t
    ∧ t.calState f = 4 ∧ (t.cal[f]).found = some (s.meanSet f a b) ∧ (t.cal[f]).settled = ((s.calPairs f).all fun p => (a.step[p] + b.step[p] + 1) / 2 == 0)
    ∧ Only [CAL_STAT_STATE f, calBusyF f] s { s with cal := t.cal } t ∧ t.cal[1 - f] = s.cal[1 - f]

abbrev preAccumulationDisagree (s : State) (f : Fib) (x : Vector CalAcc 3) (a b : CalEst) : Prop :=
  s.domainOn 3 = true ∧ s.fabRuns = true ∧ s.calState f = 3 ∧ (s.cal[f]).a = some a ∧ (s.estimate f x).1 = b ∧ (∀ p : Fin 3, (pairEst (x[p]).ii (x[p]).qq (x[p]).iq (x[p]).sym).isSome = true)
    ∧ (s.calPairs f).any (fun p => !s.agree f a b p) = true
    ∧ (s.cal[f]).accB = x ∧ s.calFull f x = true
/-- ACCUMULATION_COMPLETE (R437, R438) of B: where an estimate differs by more than its tolerance, nothing changes but flags and counts. -/
def accumulationDisagree : Prop := ∀ s f x a b, preAccumulationDisagree s f x a b →
  ∃ t, exec (.accumulationComplete f true) s = .next t
    ∧ t.calState f = 0 ∧ t.get (CAL_FLAGS_DISAGREE f) = 1 ∧ t.get (CAL_DISAGREE_CNT_COUNT f) = min (s.get (CAL_DISAGREE_CNT_COUNT f) + 1) (2 ^ 32 - 1) ∧ t.get (CAL_STAT_RETRY_WAIT f) = 1
    ∧ ((s.calPairs f).any (fun p => !inRange (s.meanSet f a b) p) = true → t.get (CAL_FLAGS_RANGE f) = 1)
    ∧ Only [CAL_STAT_STATE f, calBusyF f, CAL_FLAGS_DISAGREE f, CAL_FLAGS_RANGE f, CAL_DISAGREE_CNT_COUNT f, CAL_STAT_RETRY_WAIT f] s { s with cal := t.cal } t ∧ t.cal[1 - f] = s.cal[1 - f]

abbrev preAccumulationTimeout (s : State) (f : Fib) : Prop :=
  s.domainOn 3 = true ∧ s.fabRuns = true ∧ (s.calState f = 2 ∨ s.calState f = 3) ∧ (s.cal[f]).startAt + 4000000000 < s.cyc
/-- ACCUMULATION_TIMEOUT (R440): an accumulation 10 s old is aborted. -/
def accumulationTimeout : Prop := ∀ s f, preAccumulationTimeout s f →
  ∃ t, exec (.accumulationTimeout f) s = .next t
    ∧ t.calState f = 0 ∧ t.get (CAL_FLAGS_ABORT f) = 1 ∧ t.get (CAL_STAT_RETRY_WAIT f) = 1 ∧ (t.cal[f]).a = none ∧ t.cal[1 - f] = s.cal[1 - f]
    ∧ Only [CAL_STAT_STATE f, calBusyF f, CAL_FLAGS_ABORT f, CAL_STAT_RETRY_WAIT f, CAL_ABORT_CNT_COUNT f] s { s with cal := t.cal } t

abbrev preCalApply (s : State) (f : Fib) (m : CalEst) : Prop :=
  s.domainOn 3 = true ∧ s.fabRuns = true ∧ s.seqRuns f = true ∧ s.calState f = 4 ∧ (s.cal[f]).held = none ∧ (s.cal[f]).found = some m ∧ s.get (CAL_CTRL_RAY f) = 1 ∧ s.get (CAL_CTRL_BRI f) = 1
/-- CAL_APPLY (R439, R441): the set of a run with all three pairs selected is in force on all six converters at once. -/
def calApply : Prop := ∀ s f m, preCalApply s f m →
  ∃ t, exec (.calApply f) s = .next t
    ∧ (∀ c : Fin 6, t.get (CAL_OFSc_OFS f c) = (m.ofs[c] % 2 ^ 12).toNat) ∧ (∀ p : Fin 3, t.get (CAL_GAINp_GAIN f p) = (m.gain[p] % 2 ^ 16).toNat)
    ∧ (∀ p : Fin 3, t.get (CAL_PHp_PH f p) = (m.ph[p] % 2 ^ 16).toNat) ∧ (∀ p : Fin 3, t.get (CAL_SKEWp_SKEW f p) = (m.step[p] % 2 ^ 9).toNat)
    ∧ t.get (CAL_APPLIED_SHOT f) = s.firstShot f % 2 ^ 32 ∧ t.get (CAL_TEMP_TEMP f) = s.get (MGMT_TEMPi_TEMP (s.get (CAL_CFG_TSENS f))) % 2 ^ 16
    ∧ t.get (CAL_STAT_VALID f) = 1 ∧ t.get (CAL_FLAGS_DONE f) = 1 ∧ t.calState f = 0 ∧ t.get (CAL_STAT_SKEW_SETTLED f) = (s.cal[f]).settled.toNat ∧ (t.cal[f]).found = none
    ∧ Only ([CAL_APPLIED_SHOT f, CAL_TEMP_TEMP f, CAL_STAT_VALID f, CAL_FLAGS_DONE f, CAL_STAT_STATE f, calBusyF f, CAL_STAT_SKEW_SETTLED f] ++ (List.range 6).map (fun c => CAL_OFSc_OFS f c) ++ (List.range 3).flatMap fun p => [CAL_GAINp_GAIN f p, CAL_PHp_PH f p, CAL_SKEWp_SKEW f p]) s { s with cal := t.cal } t

abbrev preCalApplyHeld (s : State) (f : Fib) (ws : List Nat) : Prop :=
  s.domainOn 3 = true ∧ s.fabRuns = true ∧ s.seqRuns f = true ∧ (s.cal[f]).held = some ws ∧ recordOk ws = true
/-- CAL_APPLY (R442): a held record is in force from this shot on. -/
def calApplyHeld : Prop := ∀ s f ws, preCalApplyHeld s f ws →
  ∃ t, exec (.calApply f) s = .next t
    ∧ (∀ c : Fin 6, t.get (CAL_OFSc_OFS f c) = ws.getD (1 + c.val) 0) ∧ (∀ p : Fin 3, t.get (CAL_GAINp_GAIN f p) = ws.getD (7 + p.val) 0)
    ∧ (∀ p : Fin 3, t.get (CAL_PHp_PH f p) = ws.getD (10 + p.val) 0) ∧ (∀ p : Fin 3, t.get (CAL_SKEWp_SKEW f p) = ws.getD (13 + p.val) 0)
    ∧ t.get (CAL_APPLIED_SHOT f) = s.firstShot f % 2 ^ 32 ∧ t.get (CAL_TEMP_TEMP f) = ws.getD 0 0 % 2 ^ 16 ∧ t.get (CAL_STAT_VALID f) = 1 ∧ t.get (wpendF f) = 0 ∧ (t.cal[f]).held = none
    ∧ Only ([CAL_APPLIED_SHOT f, CAL_TEMP_TEMP f, CAL_STAT_VALID f, wpendF f] ++ (List.range 6).map (fun c => CAL_OFSc_OFS f c) ++ (List.range 3).flatMap fun p => [CAL_GAINp_GAIN f p, CAL_PHp_PH f p, CAL_SKEWp_SKEW f p]) s { s with cal := t.cal } t

abbrev preCalRun (c : CmdIn) (s : State) (f : Fib) : Prop :=
  Ready 16 s ∧ c.words = [f.val] ∧ s.calState f = 0 ∧ s.calGroups f = true
/-- CAL_RUN (R438, R444) with a selected converter group enabled. -/
def calRun : Prop := ∀ c s f, preCalRun c s f →
  ∃ t, exec (.calRun c) s = .next t
    ∧ t.calState f = 1 ∧ t.get (calBusyF f) = 1 ∧ t.get (CAL_RUNS_COUNT f) = min (s.get (CAL_RUNS_COUNT f) + 1) (2 ^ 32 - 1)
    ∧ Done 0xB0 0 [] [CAL_STAT_STATE f, calBusyF f, CAL_RUNS_COUNT f] c s s t

abbrev preCalRunAlready (c : CmdIn) (s : State) (f : Fib) : Prop :=
  Ready 16 s ∧ c.words = [f.val] ∧ s.calState f ≠ 0
/-- CAL_RUN (R438, R444) while a run is in progress or waiting. -/
def calRunAlready : Prop := ∀ c s f, preCalRunAlready c s f →
  ∃ t, exec (.calRun c) s = .next t
    ∧ Done 0xB0 0xC [] [] c s s t

abbrev preCalConfig (c : CmdIn) (s : State) (f : Fib) (v cfg tol : Nat) : Prop :=
  Ready 16 s ∧ c.words = [f.val, v, cfg, tol] ∧ v < 8 ∧ v % 2 = 0 ∧ cfg &&& 0xFFFF071F = cfg ∧ tol < 2 ^ 32 ∧ s.calState f = 0
    ∧ 20 ≤ cfg % 32 ∧ cfg % 32 ≤ 30 ∧ cfg / 2 ^ 16 % 256 ≠ 0 ∧ cfg / 2 ^ 24 % 256 ≠ 0
/-- CAL_CONFIG (R443, R444) in IDLE; with AUTO = 0 no temperature requests a run. -/
def calConfig : Prop := ∀ c s f v cfg tol, preCalConfig c s f v cfg tol →
  ∃ t, exec (.calConfig c) s = .next t
    ∧ t.get (CAL_CTRL_AUTO f) = 0 ∧ t.get (CAL_CTRL_RAY f) = v / 2 % 2 ∧ t.get (CAL_CTRL_BRI f) = v / 4 % 2 ∧ t.get (CAL_CFG_NSAMP_LOG2 f) = cfg % 32 ∧ t.get (CAL_CFG_TSENS f) = cfg / 2 ^ 8 % 8
    ∧ t.get (CAL_CFG_DT f) = cfg / 2 ^ 16 % 256 ∧ t.get (CAL_CFG_RETRY f) = cfg / 2 ^ 24 % 256 ∧ t.get (CAL_TOL_OFS_TOL f) = tol % 256 ∧ t.get (CAL_TOL_GAIN_TOL f) = tol / 2 ^ 8 % 256
    ∧ t.get (CAL_TOL_PH_TOL f) = tol / 2 ^ 16 % 256 ∧ t.get (CAL_TOL_SKEW_TOL f) = tol / 2 ^ 24 % 256
    ∧ Done 0xB1 0 [] [CAL_CTRL_AUTO f, CAL_CTRL_RAY f, CAL_CTRL_BRI f, CAL_CFG_NSAMP_LOG2 f, CAL_CFG_TSENS f, CAL_CFG_DT f, CAL_CFG_RETRY f, CAL_TOL_OFS_TOL f, CAL_TOL_GAIN_TOL f, CAL_TOL_PH_TOL f, CAL_TOL_SKEW_TOL f] c s s t

abbrev preCalConfigAuto (c : CmdIn) (s : State) (f : Fib) (v cfg tol : Nat) : Prop :=
  Ready 16 s ∧ s.domainOn 3 = true ∧ c.words = [f.val, v, cfg, tol] ∧ v < 8 ∧ v % 2 = 1 ∧ cfg &&& 0xFFFF071F = cfg ∧ tol < 2 ^ 32 ∧ s.calState f = 0 ∧ s.get (CAL_STAT_RETRY_WAIT f) = 0
    ∧ 20 ≤ cfg % 32 ∧ cfg % 32 ≤ 30 ∧ cfg / 2 ^ 16 % 256 ≠ 0 ∧ cfg / 2 ^ 24 % 256 ≠ 0 ∧ cfg / 2 ^ 16 % 256 < (s.getI (MGMT_TEMPi_TEMP (cfg / 2 ^ 8 % 8)) - s.getI (CAL_TEMP_TEMP f)).natAbs
/-- CAL_CONFIG (R438, R444) with AUTO = 1 and the temperature of sensor TSENS more than DT from CAL_TEMP: a run is requested. -/
def calConfigAuto : Prop := ∀ c s f v cfg tol, preCalConfigAuto c s f v cfg tol →
  ∃ t, exec (.calConfig c) s = .next t
    ∧ t.calState f = 1 ∧ t.get (calBusyF f) = 1 ∧ t.get (CAL_CTRL_AUTO f) = 1
    ∧ Done 0xB1 0 [] [CAL_CTRL_AUTO f, CAL_CTRL_RAY f, CAL_CTRL_BRI f, CAL_CFG_NSAMP_LOG2 f, CAL_CFG_TSENS f, CAL_CFG_DT f, CAL_CFG_RETRY f, CAL_TOL_OFS_TOL f, CAL_TOL_GAIN_TOL f, CAL_TOL_PH_TOL f, CAL_TOL_SKEW_TOL f, CAL_STAT_STATE f, calBusyF f, CAL_RUNS_COUNT f] c s s t

abbrev preCalConfigDenied (c : CmdIn) (s : State) (f : Fib) (v cfg tol : Nat) : Prop :=
  Ready 16 s ∧ c.words = [f.val, v, cfg, tol] ∧ v < 8 ∧ cfg &&& 0xFFFF071F = cfg ∧ tol < 2 ^ 32 ∧ s.calState f ≠ 0
/-- CAL_CONFIG (R444) unless IDLE. -/
def calConfigDenied : Prop := ∀ c s f v cfg tol, preCalConfigDenied c s f v cfg tol →
  ∃ t, exec (.calConfig c) s = .next t
    ∧ Done 0xB1 8 [] [] c s s t

abbrev preCalRead (c : CmdIn) (s : State) (f : Fib) : Prop :=
  Ready 16 s ∧ c.words = [f.val]
/-- CAL_READ (R442, R444): the record of 16 words. -/
def calRead : Prop := ∀ c s f, preCalRead c s f →
  ∃ t, exec (.calRead c) s = .next t
    ∧ Done 0xB2 0 ([s.get (CAL_TEMP_TEMP f) + 2 ^ 16] ++ (List.range 6).map (fun i => s.get (CAL_OFSc_OFS f i)) ++ (List.range 3).map (fun p => s.get (CAL_GAINp_GAIN f p)) ++ (List.range 3).map (fun p => s.get (CAL_PHp_PH f p)) ++ (List.range 3).map fun p => s.get (CAL_SKEWp_SKEW f p)) [] c s s t

abbrev preCalWrite (c : CmdIn) (s : State) (f : Fib) (ws : List Nat) : Prop :=
  Ready 16 s ∧ c.words = f.val :: ws ∧ recordOk ws = true ∧ s.calState f = 0 ∧ s.seqState f ≤ 1
/-- CAL_WRITE (R442, R444) with the sequencer IDLE or ARMED: the record is in force at once. -/
def calWrite : Prop := ∀ c s f ws, preCalWrite c s f ws →
  ∃ t, exec (.calWrite c) s = .next t
    ∧ (∀ i : Fin 6, t.get (CAL_OFSc_OFS f i) = ws.getD (1 + i.val) 0) ∧ (∀ p : Fin 3, t.get (CAL_GAINp_GAIN f p) = ws.getD (7 + p.val) 0)
    ∧ (∀ p : Fin 3, t.get (CAL_PHp_PH f p) = ws.getD (10 + p.val) 0) ∧ (∀ p : Fin 3, t.get (CAL_SKEWp_SKEW f p) = ws.getD (13 + p.val) 0)
    ∧ t.get (CAL_APPLIED_SHOT f) = s.firstShot f % 2 ^ 32 ∧ t.get (CAL_TEMP_TEMP f) = ws.getD 0 0 % 2 ^ 16 ∧ t.get (CAL_STAT_VALID f) = 1
    ∧ Done 0xB3 0 [] ([CAL_APPLIED_SHOT f, CAL_TEMP_TEMP f, CAL_STAT_VALID f] ++ (List.range 6).map (fun i => CAL_OFSc_OFS f i) ++ (List.range 3).flatMap fun p => [CAL_GAINp_GAIN f p, CAL_PHp_PH f p, CAL_SKEWp_SKEW f p]) c s s t

abbrev preCalWriteHeld (c : CmdIn) (s : State) (f : Fib) (ws : List Nat) : Prop :=
  Ready 16 s ∧ c.words = f.val :: ws ∧ recordOk ws = true ∧ s.calState f = 0 ∧ 2 ≤ s.seqState f
/-- CAL_WRITE (R442, R444) otherwise: PENDING, and the record is held. -/
def calWriteHeld : Prop := ∀ c s f ws, preCalWriteHeld c s f ws →
  ∃ t, exec (.calWrite c) s = .next t
    ∧ (t.cal[f]).held = some ws ∧ t.get (wpendF f) = 1 ∧ t.cal[1 - f] = s.cal[1 - f] ∧ Done 0xB3 0xB [] [wpendF f] c s { s with cal := t.cal } t

abbrev preCalGetStatus (c : CmdIn) (s : State) (f : Fib) : Prop :=
  Ready 16 s ∧ c.words = [f.val]
/-- CAL_GET_STATUS (R444). -/
def calGetStatus : Prop := ∀ c s f, preCalGetStatus c s f →
  ∃ t, exec (.calGetStatus c) s = .next t
    ∧ Done 0xB4 0 [s.rawReg 16 0, s.rawReg 16 (0x100C + 0x1000 * f), s.rawReg 16 (0x1010 + 0x1000 * f), s.get (CAL_TEMP_TEMP f), s.get (CAL_APPLIED_SHOT f), s.get (CAL_RUNS_COUNT f), s.get (CAL_DISAGREE_CNT_COUNT f), s.get (CAL_ABORT_CNT_COUNT f)] [] c s s t

end Sys2Proof.Claim

/-- A requested run waits; accumulation A and then B start; estimates that agree and lie in range wait for the next shot and are put in force together there; otherwise nothing changes but flags and counts; a held record is put in force at the next shot; aborts and the retry wait do what chapter 20 gives them. CAL_RUN, CAL_CONFIG, CAL_READ, CAL_WRITE and CAL_GET_STATUS do what R444 gives them where their conditions hold. -/
def Obligations.Calibration : Prop :=
  Sys2Proof.Claim.calCtrlRun ∧ Sys2Proof.Claim.calCtrlRunBusy ∧ Sys2Proof.Claim.calCtrlAbort ∧
  Sys2Proof.Claim.retryWaitExpiry ∧ Sys2Proof.Claim.retryWaitExpiryEqual ∧ Sys2Proof.Claim.accumulationStart ∧
  Sys2Proof.Claim.accumulationA ∧ Sys2Proof.Claim.accumulationB ∧ Sys2Proof.Claim.accumulationDisagree ∧
  Sys2Proof.Claim.accumulationTimeout ∧ Sys2Proof.Claim.calApply ∧ Sys2Proof.Claim.calApplyHeld ∧
  Sys2Proof.Claim.calRun ∧ Sys2Proof.Claim.calRunAlready ∧ Sys2Proof.Claim.calConfig ∧
  Sys2Proof.Claim.calConfigAuto ∧ Sys2Proof.Claim.calConfigDenied ∧ Sys2Proof.Claim.calRead ∧
  Sys2Proof.Claim.calWrite ∧ Sys2Proof.Claim.calWriteHeld ∧ Sys2Proof.Claim.calGetStatus

namespace Sys2Proof.Claim
open Sys2Proof.Machine Sys2Proof.Machine.Reg

abbrev preHkDiscard (s : State) (_x : HkSample) (a : HkAct) : Prop :=
  s.domainOn 1 = true ∧ s.hk.act = some a ∧ a.settling = false ∧ a.due ≤ s.cyc ∧ a.discard = true ∧ s.hk.injWait = false
    ∧ (s.hkHalf a.inj a.slot 0).typ ≠ 3 ∧ (s.hkHalf a.inj a.slot 1).typ ≠ 3 ∧ (s.hkHalf a.inj a.slot 0).typ ≠ 0 ∧ (s.hkHalf a.inj a.slot 1).typ ≠ 0
/-- HK_CONVERSION_COMPLETE (R417): the conversion after a change is discarded, and counted once per converting half. -/
def hkDiscard : Prop := ∀ s x a, preHkDiscard s x a →
  ∃ t, exec (.hkConversionComplete x) s = .next t
    ∧ t.get HK_DISC_COUNT = min (s.get HK_DISC_COUNT + 2) (2 ^ 32 - 1) ∧ t.hk.act = some { a with discard := false, due := s.cyc + (if s.get HK_CTRL_LP = 1 then 6400 else 400) } ∧ t.hk.accs = s.hk.accs
    ∧ Only [HK_RTD_STAT_ON, HK_FAULT_DISC_COUNT, HK_DISC_COUNT] s { s with hk := t.hk } t
    ∧ t.get HK_FAULT_DISC_COUNT = min (s.get HK_FAULT_DISC_COUNT) (2 ^ 32 - 1) ∧ t.get HK_RTD_STAT_ON = s.get HK_RTD_STAT_ON % 2 ^ 4

abbrev preHkKeep (s : State) (_x : HkSample) (a : HkAct) : Prop :=
  s.domainOn 1 = true ∧ s.hk.act = some a ∧ a.inj = false ∧ a.slot < 32 ∧ a.settling = false ∧ a.due ≤ s.cyc ∧ a.discard = false ∧ a.second = false ∧ s.hk.injWait = false
    ∧ (s.hkHalf false a.slot 0).typ ≠ 3 ∧ (s.hkHalf false a.slot 1).typ ≠ 3 ∧ (s.hkHalf false a.slot 0).typ ≠ 0 ∧ (s.hkHalf false a.slot 1).typ ≠ 0
    ∧ (s.hkCfg false a.slot).testBit 31 = false ∧ a.done + 1 < s.hkCfg false a.slot / 2 ^ 16 % 2 ^ 10
    ∧ s.get (HK_ACCa_CTRL_WEN (2 * a.slot)) = 0 ∧ s.get (HK_ACCa_CTRL_WEN (2 * a.slot + 1)) = 0 ∧ s.get (HK_ACCa_CNT_CNT (2 * a.slot)) < 0xFFFFFFFE ∧ s.get (HK_ACCa_CNT_CNT (2 * a.slot + 1)) < 0xFFFFFFFE
/-- HK_CONVERSION_COMPLETE (R417, R422): kept codes enter the two accumulators of the slot, and the slot goes on. -/
def hkKeep : Prop := ∀ s x a, preHkKeep s x a →
  ∃ t, exec (.hkConversionComplete x) s = .next t
    ∧ t.get (HK_ACCa_CNT_CNT (2 * a.slot)) = s.get (HK_ACCa_CNT_CNT (2 * a.slot)) + 1 ∧ t.get (HK_ACCa_CNT_CNT (2 * a.slot + 1)) = s.get (HK_ACCa_CNT_CNT (2 * a.slot + 1)) + 1
    ∧ t.hk.accs[hkAccOf false a.slot 0] = ⟨(s.hk.accs[hkAccOf false a.slot 0]).sum + x.h0.code.toInt, min (s.hk.accs[hkAccOf false a.slot 0]).mn x.h0.code.toInt, max (s.hk.accs[hkAccOf false a.slot 0]).mx x.h0.code.toInt, some (s.cyc / 2, (s.hk.accs[hkAccOf false a.slot 0]).sum, (s.hk.accs[hkAccOf false a.slot 0]).mn, (s.hk.accs[hkAccOf false a.slot 0]).mx)⟩
    ∧ t.hk.accs[hkAccOf false a.slot 1] = ⟨(s.hk.accs[hkAccOf false a.slot 1]).sum + x.h1.code.toInt, min (s.hk.accs[hkAccOf false a.slot 1]).mn x.h1.code.toInt, max (s.hk.accs[hkAccOf false a.slot 1]).mx x.h1.code.toInt, some (s.cyc / 2, (s.hk.accs[hkAccOf false a.slot 1]).sum, (s.hk.accs[hkAccOf false a.slot 1]).mn, (s.hk.accs[hkAccOf false a.slot 1]).mx)⟩
    ∧ t.hk.act.map (·.done) = some (a.done + 1) ∧ Only [HK_RTD_STAT_ON, HK_FAULT_DISC_COUNT, HK_ACCa_CNT_CNT (2 * a.slot), HK_ACCa_CNT_CNT (2 * a.slot + 1)] s { s with hk := t.hk } t
    ∧ t.get HK_FAULT_DISC_COUNT = min (s.get HK_FAULT_DISC_COUNT) (2 ^ 32 - 1) ∧ t.get HK_RTD_STAT_ON = s.get HK_RTD_STAT_ON % 2 ^ 4

abbrev preHkSlotDone (s : State) (_x : HkSample) (a : HkAct) : Prop :=
  s.domainOn 1 = true ∧ s.hk.act = some a ∧ a.inj = false ∧ a.slot < 32 ∧ a.settling = false ∧ a.due ≤ s.cyc ∧ a.discard = false ∧ a.second = false ∧ s.hk.injWait = false ∧ a.faults = []
    ∧ (s.hkHalf false a.slot 0).typ = 0 ∧ (s.hkHalf false a.slot 1).typ ≠ 3 ∧ (s.hkHalf false a.slot 1).typ ≠ 0 ∧ (s.hkCfg false a.slot).testBit 31 = false ∧ a.done + 1 = s.hkCfg false a.slot / 2 ^ 16 % 2 ^ 10
    ∧ s.get (HK_ACCa_CTRL_WEN (2 * a.slot + 1)) = 0 ∧ s.get (HK_ACCa_CNT_CNT (2 * a.slot + 1)) < 0xFFFFFFFE ∧ a.slot + 1 < s.get HK_NSLOT_NREG ∧ s.get HK_NSLOT_NREG ≤ 32 ∧ s.get HK_CTRL_MODE ≠ 0
    ∧ (s.hkHalf false (a.slot + 1) 0).typ ≠ 3 ∧ (s.hkHalf false (a.slot + 1) 1).typ ≠ 3
/-- HK_CONVERSION_COMPLETE (R419): after the last conversion of a slot the next slot of the pass begins with its settling delay. -/
def hkSlotDone : Prop := ∀ s x a, preHkSlotDone s x a →
  ∃ t, exec (.hkConversionComplete x) s = .next t
    ∧ t.get HK_STATUS_SLOT = a.slot + 1 ∧ t.get HK_RTD_STAT_ON = 0 ∧ t.get (HK_ACCa_CNT_CNT (2 * a.slot + 1)) = s.get (HK_ACCa_CNT_CNT (2 * a.slot + 1)) + 1
    ∧ t.hk.act = some ⟨false, a.slot + 1, true, s.cyc + s.get (HK_SLOTs_CFG_CFG (a.slot + 1)) % 2 ^ 16 * 40, true, 0, 0, false, none, none, false, false, []⟩
    ∧ Only [HK_FAULT_DISC_COUNT, HK_STATUS_SLOT, HK_RTD_STAT_ON, HK_ACCa_CNT_CNT (2 * a.slot + 1)] s { s with hk := t.hk } t
    ∧ t.get HK_FAULT_DISC_COUNT = min (s.get HK_FAULT_DISC_COUNT) (2 ^ 32 - 1)

abbrev preHkPassDone (s : State) (_x : HkSample) (a : HkAct) : Prop :=
  s.domainOn 1 = true ∧ s.hk.act = some a ∧ a.inj = false ∧ a.slot < 32 ∧ a.settling = false ∧ a.due ≤ s.cyc ∧ a.discard = false ∧ a.second = false ∧ s.hk.injWait = false ∧ a.faults = []
    ∧ (s.hkHalf false a.slot 0).typ = 0 ∧ (s.hkHalf false a.slot 1).typ ≠ 3 ∧ (s.hkHalf false a.slot 1).typ ≠ 0 ∧ (s.hkCfg false a.slot).testBit 31 = false ∧ a.done + 1 = s.hkCfg false a.slot / 2 ^ 16 % 2 ^ 10
    ∧ s.get (HK_ACCa_CTRL_WEN (2 * a.slot + 1)) = 0 ∧ s.get (HK_ACCa_CNT_CNT (2 * a.slot + 1)) < 0xFFFFFFFE ∧ a.slot + 1 = s.get HK_NSLOT_NREG ∧ 2 ≤ s.get HK_CTRL_MODE
/-- HK_CONVERSION_COMPLETE (R419): after the last slot the pass is counted; in PERIODIC and SINGLE nothing runs then. -/
def hkPassDone : Prop := ∀ s x a, preHkPassDone s x a →
  ∃ t, exec (.hkConversionComplete x) s = .next t
    ∧ t.get HK_PASSES_COUNT = min (s.get HK_PASSES_COUNT + 1) (2 ^ 32 - 1) ∧ t.get HK_STATUS_REG_BUSY = 0 ∧ t.get HK_RTD_STAT_ON = 0 ∧ t.hk.act = none ∧ t.hk.resume = none
    ∧ Only [HK_FAULT_DISC_COUNT, HK_PASSES_COUNT, HK_STATUS_REG_BUSY, HK_RTD_STAT_ON, HK_ACCa_CNT_CNT (2 * a.slot + 1)] s { s with hk := t.hk } t
    ∧ t.get HK_FAULT_DISC_COUNT = min (s.get HK_FAULT_DISC_COUNT) (2 ^ 32 - 1)

abbrev preHkInterrupted (s : State) (_x : HkSample) (a : HkAct) : Prop :=
  s.domainOn 1 = true ∧ s.hk.act = some a ∧ a.inj = false ∧ a.settling = false ∧ a.due ≤ s.cyc ∧ a.discard = true ∧ a.second = false ∧ s.hk.injWait = true
    ∧ (s.hkHalf false a.slot 0).typ ≠ 3 ∧ (s.hkHalf false a.slot 1).typ ≠ 3 ∧ (s.hkHalf false a.slot 0).typ ≠ 0 ∧ (s.hkHalf false a.slot 1).typ ≠ 0
    ∧ (s.hkHalf true 0 0).typ ≠ 3 ∧ (s.hkHalf true 0 1).typ ≠ 3
/-- HK_CONVERSION_COMPLETE (R420, R421): a waiting injected run starts at the end of the conversion in progress, and the regular slot is to resume
with a new settling delay, a discarded conversion and pair parity 0, with what it has done kept. -/
def hkInterrupted : Prop := ∀ s x a, preHkInterrupted s x a →
  ∃ t, exec (.hkConversionComplete x) s = .next t
    ∧ t.hk.act = some ⟨true, 0, true, s.cyc + s.get (HK_INJi_CFG_CFG 0) % 2 ^ 16 * 40, true, 0, 0, false, none, none, false, false, []⟩ ∧ t.hk.injWait = false
    ∧ t.hk.resume = some ⟨false, a.slot, true, 0, true, a.done, 0, false, none, none, a.skip0, a.skip1, a.faults⟩ ∧ t.get HK_STATUS_INJ_SLOT = 0
    ∧ Only [HK_FAULT_DISC_COUNT, HK_DISC_COUNT, HK_STATUS_INJ_SLOT, HK_RTD_STAT_ON] s { s with hk := t.hk } t
    ∧ t.get HK_FAULT_DISC_COUNT = min (s.get HK_FAULT_DISC_COUNT) (2 ^ 32 - 1)

abbrev preHkPairFirst (s : State) (x : HkSample) (a : HkAct) : Prop :=
  s.domainOn 1 = true ∧ s.hk.act = some a ∧ a.inj = false ∧ a.slot < 32 ∧ a.settling = false ∧ a.due ≤ s.cyc ∧ a.discard = false ∧ a.second = false ∧ s.hk.injWait = false ∧ a.skip0 = false
    ∧ (s.hkHalf false a.slot 0).typ = 3 ∧ (s.hkHalf false a.slot 1).typ = 0 ∧ (s.hkCfg false a.slot).testBit 31 = false ∧ s.excAllowed (s.hkHalf false a.slot 0).exc = true ∧ s.hkFails x.h0 = none
/-- HK_CONVERSION_COMPLETE (R418): the first code of a pair is remembered; the polarity swap is a change. -/
def hkPairFirst : Prop := ∀ s x a, preHkPairFirst s x a →
  ∃ t, exec (.hkConversionComplete x) s = .next t
    ∧ t.hk.act = some { a with second := true, first0 := some x.h0.code.toInt, first1 := none, discard := true, settling := true, due := s.cyc + s.get (HK_SLOTs_CFG_CFG a.slot) % 2 ^ 16 * 40 }
    ∧ t.hk.accs = s.hk.accs ∧ Only [HK_FAULT_DISC_COUNT, HK_RTD_STAT_ON] s { s with hk := t.hk } t ∧ t.get HK_RTD_STAT_ON = s.get HK_RTD_STAT_ON % 2 ^ 4
    ∧ t.get HK_FAULT_DISC_COUNT = min (s.get HK_FAULT_DISC_COUNT) (2 ^ 32 - 1)

abbrev preHkPairSecond (s : State) (x : HkSample) (a : HkAct) (c : Int) : Prop :=
  s.domainOn 1 = true ∧ s.hk.act = some a ∧ a.inj = false ∧ a.slot < 32 ∧ a.settling = false ∧ a.due ≤ s.cyc ∧ a.discard = false ∧ a.second = true ∧ a.first0 = some c ∧ s.hk.injWait = false ∧ a.skip0 = false
    ∧ (s.hkHalf false a.slot 0).typ = 3 ∧ (s.hkHalf false a.slot 1).typ = 0 ∧ (s.hkCfg false a.slot).testBit 31 = false ∧ s.excAllowed (s.hkHalf false a.slot 0).exc = true ∧ s.hkFails x.h0 = none
    ∧ a.done + 1 < s.hkCfg false a.slot / 2 ^ 16 % 2 ^ 10 ∧ s.get (HK_ACCa_CTRL_WEN (2 * a.slot)) = 0 ∧ s.get (HK_ACCa_CNT_CNT (2 * a.slot)) < 0xFFFFFFFE
/-- HK_CONVERSION_COMPLETE (R418, R422): the pair result d = c_pos - c_neg is accumulated; positive comes first in even pairs. -/
def hkPairSecond : Prop := ∀ s x a c, preHkPairSecond s x a c →
  ∃ t, exec (.hkConversionComplete x) s = .next t
    ∧ (t.hk.accs[hkAccOf false a.slot 0]).sum = (s.hk.accs[hkAccOf false a.slot 0]).sum + (if a.parity % 2 = 0 then c - x.h0.code.toInt else x.h0.code.toInt - c)
    ∧ t.get (HK_ACCa_CNT_CNT (2 * a.slot)) = s.get (HK_ACCa_CNT_CNT (2 * a.slot)) + 1
    ∧ t.hk.act.map (fun b => (b.second, b.done, b.parity, b.first0, b.settling)) = some (false, a.done + 1, a.parity + 1, none, false)
    ∧ Only [HK_FAULT_DISC_COUNT, HK_RTD_STAT_ON, HK_ACCa_CNT_CNT (2 * a.slot)] s { s with hk := t.hk } t ∧ t.get HK_RTD_STAT_ON = s.get HK_RTD_STAT_ON % 2 ^ 4
    ∧ t.get HK_FAULT_DISC_COUNT = min (s.get HK_FAULT_DISC_COUNT) (2 ^ 32 - 1)

abbrev preHkCheckFails (s : State) (x : HkSample) (a : HkAct) (compl atEnd : Bool) : Prop :=
  s.domainOn 1 = true ∧ s.hk.act = some a ∧ a.inj = false ∧ a.slot < 32 ∧ a.settling = false ∧ a.due ≤ s.cyc ∧ a.discard = false ∧ a.second = false ∧ s.hk.injWait = false ∧ a.skip0 = false
    ∧ (s.hkHalf false a.slot 0).typ = 3 ∧ (s.hkHalf false a.slot 1).typ = 0 ∧ (s.hkCfg false a.slot).testBit 31 = false ∧ s.excAllowed (s.hkHalf false a.slot 0).exc = true ∧ s.hkFails x.h0 = some (compl, atEnd)
/-- HK_CONVERSION_COMPLETE (R427, R428): a failed check voids the half, turns its excitation off at once and is kept for the end of the slot. -/
def hkCheckFails : Prop := ∀ s x a compl atEnd, preHkCheckFails s x a compl atEnd →
  ∃ t, exec (.hkConversionComplete x) s = .next t
    ∧ t.get HK_FAULT_DISC_COUNT = min (s.get HK_FAULT_DISC_COUNT + 1) (2 ^ 32 - 1) ∧ (t.get HK_RTD_STAT_ON).testBit (s.hkHalf false a.slot 0).exc = false
    ∧ t.hk.act.map (fun b => (b.skip0, b.faults, b.first0)) = some (true, a.faults ++ [((s.hkHalf false a.slot 0).exc, compl, atEnd)], none) ∧ t.hk.accs = s.hk.accs
    ∧ Only [HK_RTD_STAT_ON, HK_FAULT_DISC_COUNT] s { s with hk := t.hk } t

abbrev preHkMirror (s : State) (x : HkSample) (a : HkAct) : Prop :=
  s.domainOn 1 = true ∧ s.hk.act = some a ∧ a.inj = false ∧ a.slot < 32 ∧ a.settling = false ∧ a.due ≤ s.cyc ∧ a.discard = false ∧ a.second = false ∧ s.hk.injWait = false
    ∧ (s.hkHalf false a.slot 0).typ ≠ 3 ∧ (s.hkHalf false a.slot 0).typ ≠ 0 ∧ (s.hkCfg false a.slot).testBit 31 = true ∧ s.get HK_MIR_TOL_LSB < (x.h0.code.toInt - x.h1.code.toInt).natAbs
    ∧ a.done + 1 < s.hkCfg false a.slot / 2 ^ 16 % 2 ^ 10 ∧ s.get (HK_ACCa_CTRL_WEN (2 * a.slot)) = 0 ∧ s.get (HK_ACCa_CTRL_WEN (2 * a.slot + 1)) = 0 ∧ s.get (HK_ACCa_CNT_CNT (2 * a.slot)) < 0xFFFFFFFE ∧ s.get (HK_ACCa_CNT_CNT (2 * a.slot + 1)) < 0xFFFFFFFE
/-- HK_CONVERSION_COMPLETE (R425): in a MIRROR slot simultaneous codes further apart than the tolerance are an error; both are accumulated. -/
def hkMirror : Prop := ∀ s x a, preHkMirror s x a →
  ∃ t, exec (.hkConversionComplete x) s = .next t
    ∧ t.get HK_MIRROR_ERR_COUNT = min (s.get HK_MIRROR_ERR_COUNT + 1) (2 ^ 32 - 1) ∧ t.get HK_FLAGS_MIRROR = 1
    ∧ (t.hk.accs[hkAccOf false a.slot 0]).sum = (s.hk.accs[hkAccOf false a.slot 0]).sum + x.h0.code.toInt ∧ (t.hk.accs[hkAccOf false a.slot 1]).sum = (s.hk.accs[hkAccOf false a.slot 1]).sum + x.h1.code.toInt
    ∧ Only [HK_RTD_STAT_ON, HK_FAULT_DISC_COUNT, HK_MIRROR_ERR_COUNT, HK_FLAGS_MIRROR, HK_ACCa_CNT_CNT (2 * a.slot), HK_ACCa_CNT_CNT (2 * a.slot + 1)] s { s with hk := t.hk } t
    ∧ t.get HK_FAULT_DISC_COUNT = min (s.get HK_FAULT_DISC_COUNT) (2 ^ 32 - 1) ∧ t.get HK_RTD_STAT_ON = s.get HK_RTD_STAT_ON % 2 ^ 4

abbrev preHkWindowExit (s : State) (x : HkSample) (a : HkAct) : Prop :=
  s.domainOn 1 = true ∧ s.hk.act = some a ∧ a.inj = false ∧ a.slot < 32 ∧ a.settling = false ∧ a.due ≤ s.cyc ∧ a.discard = false ∧ a.second = false ∧ s.hk.injWait = false
    ∧ (s.hkHalf false a.slot 0).typ ≠ 3 ∧ (s.hkHalf false a.slot 0).typ ≠ 0 ∧ (s.hkHalf false a.slot 1).typ = 0 ∧ (s.hkCfg false a.slot).testBit 31 = false ∧ a.done + 1 < s.hkCfg false a.slot / 2 ^ 16 % 2 ^ 10
    ∧ s.get (HK_ACCa_CTRL_WEN (2 * a.slot)) = 1 ∧ s.get (HK_ACCa_CTRL_OUT (2 * a.slot)) = 0 ∧ s.get (HK_ACCa_CNT_CNT (2 * a.slot)) < 0xFFFFFFFE ∧ s.getI (HK_ACCa_WHI_WHI (2 * a.slot)) < x.h0.code.toInt
    ∧ s.get HK_CTRL_INJ_WIN = 0 ∧ s.get PWR_STATUS_STATE = 0 ∧ s.pwr.change = none
/-- HK_CONVERSION_COMPLETE (R424): a kept result outside its band takes the window OUT and sets its flag. -/
def hkWindowExit : Prop := ∀ s x a, preHkWindowExit s x a →
  ∃ t, exec (.hkConversionComplete x) s = .next t
    ∧ t.get (HK_ACCa_CTRL_OUT (2 * a.slot)) = 1 ∧ (t.get (HK_WINFLAGw_OUT (2 * a.slot / 32))).testBit (2 * a.slot % 32) = true ∧ (t.get PWR_WAKE_PEND_PEND).testBit 4 = true
    ∧ Only [HK_RTD_STAT_ON, HK_FAULT_DISC_COUNT, HK_ACCa_CTRL_OUT (2 * a.slot), HK_WINFLAGw_OUT (2 * a.slot / 32), PWR_WAKE_PEND_PEND, HK_ACCa_CNT_CNT (2 * a.slot)] s { s with hk := t.hk } t
    ∧ t.get HK_FAULT_DISC_COUNT = min (s.get HK_FAULT_DISC_COUNT) (2 ^ 32 - 1) ∧ t.get HK_RTD_STAT_ON = s.get HK_RTD_STAT_ON % 2 ^ 4

abbrev preHkWindowBack (s : State) (x : HkSample) (a : HkAct) : Prop :=
  s.domainOn 1 = true ∧ s.hk.act = some a ∧ a.inj = false ∧ a.slot < 32 ∧ a.settling = false ∧ a.due ≤ s.cyc ∧ a.discard = false ∧ a.second = false ∧ s.hk.injWait = false
    ∧ (s.hkHalf false a.slot 0).typ ≠ 3 ∧ (s.hkHalf false a.slot 0).typ ≠ 0 ∧ (s.hkHalf false a.slot 1).typ = 0 ∧ (s.hkCfg false a.slot).testBit 31 = false ∧ a.done + 1 < s.hkCfg false a.slot / 2 ^ 16 % 2 ^ 10
    ∧ s.get (HK_ACCa_CTRL_WEN (2 * a.slot)) = 1 ∧ s.get (HK_ACCa_CTRL_OUT (2 * a.slot)) = 1 ∧ s.get (HK_ACCa_CNT_CNT (2 * a.slot)) = 0xFFFFFFFF ∧ s.getI (HK_ACCa_WLO_WLO (2 * a.slot)) ≤ x.h0.code.toInt ∧ x.h0.code.toInt ≤ s.getI (HK_ACCa_WHI_WHI (2 * a.slot))
/-- HK_CONVERSION_COMPLETE (R424): the return inside the band is silent; a full accumulator ignores the result, but the window does not (R422). -/
def hkWindowBack : Prop := ∀ s x a, preHkWindowBack s x a →
  ∃ t, exec (.hkConversionComplete x) s = .next t
    ∧ t.get (HK_ACCa_CTRL_OUT (2 * a.slot)) = 0 ∧ t.hk.accs = s.hk.accs ∧ Only [HK_RTD_STAT_ON, HK_FAULT_DISC_COUNT, HK_ACCa_CTRL_OUT (2 * a.slot)] s { s with hk := t.hk } t
    ∧ t.get HK_FAULT_DISC_COUNT = min (s.get HK_FAULT_DISC_COUNT) (2 ^ 32 - 1) ∧ t.get HK_RTD_STAT_ON = s.get HK_RTD_STAT_ON % 2 ^ 4

abbrev preHkFaultEnd (s : State) (_x : HkSample) (a : HkAct) (k : Fin 4) (compl atEnd : Bool) : Prop :=
  s.domainOn 1 = true ∧ s.hk.act = some a ∧ a.inj = false ∧ a.slot < 32 ∧ a.settling = false ∧ a.due ≤ s.cyc ∧ a.discard = false ∧ a.second = true ∧ s.hk.injWait = false ∧ a.faults = [(k.val, compl, atEnd)]
    ∧ (s.hkHalf false a.slot 0).typ = 3 ∧ a.skip0 = true ∧ (s.hkHalf false a.slot 1).typ = 0 ∧ (s.hkCfg false a.slot).testBit 31 = false ∧ a.done + 1 = s.hkCfg false a.slot / 2 ^ 16 % 2 ^ 10
    ∧ a.slot + 1 = s.get HK_NSLOT_NREG ∧ 2 ≤ s.get HK_CTRL_MODE ∧ s.reach 6 = false
/-- HK_CONVERSION_COMPLETE (R428): the end of a slot with a failed check sets FAULT and its causes, and CODE 0x0F01 is logged. -/
def hkFaultEnd : Prop := ∀ s x a k compl atEnd, preHkFaultEnd s x a k compl atEnd →
  ∃ t, exec (.hkConversionComplete x) s = .next t
    ∧ (t.get HK_RTD_STAT_FAULT).testBit k.val = true ∧ (t.get HK_FLAGS_RTD_FAULT).testBit k.val = true ∧ (t.get HK_RTD_STAT_COMPL).testBit k.val = compl ∧ (t.get HK_RTD_STAT_AT_END).testBit k.val = atEnd
    ∧ t.get MGMT_LOG_SEQ_NEXT = (s.get MGMT_LOG_SEQ_NEXT + 1) % 2 ^ 32 ∧ t.get HK_PASSES_COUNT = min (s.get HK_PASSES_COUNT + 1) (2 ^ 32 - 1)
    ∧ SameRegs ([HK_FAULT_DISC_COUNT, HK_RTD_STAT_FAULT, HK_FLAGS_RTD_FAULT, HK_RTD_STAT_COMPL, HK_RTD_STAT_AT_END, HK_RTD_STAT_ON, HK_PASSES_COUNT, HK_STATUS_REG_BUSY] ++ logF) s t ∧ MemKept 0x1C0000 0x1E0000 s t ∧ t.hk.accs = s.hk.accs ∧ t.flash = s.flash
    ∧ t.get HK_FAULT_DISC_COUNT = min (s.get HK_FAULT_DISC_COUNT) (2 ^ 32 - 1)

abbrev preHkSettleExpiry (s : State) (a : HkAct) : Prop :=
  s.domainOn 1 = true ∧ s.hk.act = some a ∧ a.settling = true ∧ a.due ≤ s.cyc
/-- HK_SETTLE_EXPIRY (R417): the next conversion starts. -/
def hkSettleExpiry : Prop := ∀ s a, preHkSettleExpiry s a →
  ∃ t, exec (.hkSettleExpiry) s = .next t
    ∧ t = { s with hk := { s.hk with act := some { a with settling := false, due := s.cyc + (if s.get HK_CTRL_LP = 1 then 6400 else 400) } } }

abbrev prePeriodBoundary (s : State) : Prop :=
  s.domainOn 1 = true ∧ s.get HK_CTRL_MODE = 2 ∧ s.hk.grid ≤ s.cyc ∧ s.get HK_STATUS_REG_BUSY = 0 ∧ s.get HK_STATUS_INJ_BUSY = 0 ∧ s.hk.injWait = false
    ∧ (s.hkHalf false 0 0).typ ≠ 3 ∧ (s.hkHalf false 0 1).typ ≠ 3
/-- PERIOD_BOUNDARY (R419) with no pass running: a pass starts with slot 0. -/
def periodBoundary : Prop := ∀ s, prePeriodBoundary s →
  ∃ t, exec (.periodBoundary) s = .next t
    ∧ t.get HK_STATUS_REG_BUSY = 1 ∧ t.get HK_STATUS_SLOT = 0 ∧ t.hk.grid = s.hk.grid + s.get HK_PERIOD_US * 400
    ∧ t.hk.act = some ⟨false, 0, true, s.cyc + s.get (HK_SLOTs_CFG_CFG 0) % 2 ^ 16 * 40, true, 0, 0, false, none, none, false, false, []⟩
    ∧ Only [HK_STATUS_REG_BUSY, HK_STATUS_SLOT, HK_RTD_STAT_ON] s { s with hk := t.hk } t

abbrev prePeriodOverrun (s : State) : Prop :=
  s.domainOn 1 = true ∧ s.get HK_CTRL_MODE = 2 ∧ s.hk.grid < s.cyc ∧ s.get HK_STATUS_REG_BUSY = 1
/-- PERIOD_BOUNDARY (R419) while a pass runs. -/
def periodOverrun : Prop := ∀ s, prePeriodOverrun s →
  ∃ t, exec (.periodBoundary) s = .next t
    ∧ t.get HK_OVERRUN_COUNT = min (s.get HK_OVERRUN_COUNT + 1) (2 ^ 32 - 1) ∧ t.get HK_FLAGS_OVERRUN = 1
    ∧ Only [HK_OVERRUN_COUNT, HK_FLAGS_OVERRUN] s { s with hk := { s.hk with grid := s.hk.grid + s.get HK_PERIOD_US * 400 } } t

abbrev preHkStart (s : State) : Prop :=
  s.domainOn 1 = true ∧ s.get HK_CTRL_MODE = 3 ∧ s.get HK_STATUS_REG_BUSY = 0 ∧ s.get HK_STATUS_INJ_BUSY = 0 ∧ s.hk.injWait = false
    ∧ (s.hkHalf false 0 0).typ ≠ 3 ∧ (s.hkHalf false 0 1).typ ≠ 3
/-- HK_START (R419): in SINGLE one pass starts. -/
def hkStart : Prop := ∀ s, preHkStart s →
  ∃ t, exec (.hkStart) s = .next t
    ∧ t.get HK_STATUS_REG_BUSY = 1 ∧ t.get HK_STATUS_SLOT = 0 ∧ t.get HK_CTRL_MODE = 3
    ∧ t.hk.act = some ⟨false, 0, true, s.cyc + s.get (HK_SLOTs_CFG_CFG 0) % 2 ^ 16 * 40, true, 0, 0, false, none, none, false, false, []⟩
    ∧ Only [HK_STATUS_REG_BUSY, HK_STATUS_SLOT, HK_RTD_STAT_ON] s { s with hk := t.hk } t

abbrev preAccClr (s : State) (a : Fin 72) : Prop :=
  s.domainOn 1 = true ∧ (s.hk.accs[a]).was = none
/-- ACC_CLR (R422, R423) in a cycle without a result. -/
def accClr : Prop := ∀ s a, preAccClr s a →
  ∃ t, exec (.accClr a) s = .next t
    ∧ t.get (HK_ACCa_CNT_CNT a) = 0 ∧ t.get (HK_ACCa_CTRL_FULL a) = 0 ∧ t.hk.accs[a] = ⟨0, 0x7FFFFFFF, -0x80000000, none⟩
    ∧ Only [HK_ACCa_CNT_CNT a, HK_ACCa_CTRL_FULL a] s { s with hk := { s.hk with accs := s.hk.accs.set a ⟨0, 0x7FFFFFFF, -0x80000000, none⟩ } } t

abbrev preAccCntRead (s : State) (_a : Fin 72) : Prop :=
  s.domainOn 1 = true
/-- ACC_CNT_READ (R423): SUM, MIN and MAX of the same instant are latched. -/
def accCntRead : Prop := ∀ s a, preAccCntRead s a →
  ∃ t, exec (.accCntRead a) s = .next t
    ∧ t.get (HK_ACCa_SUM_LO_SUM a) = ((s.hk.accs[a]).sum % 2 ^ 32).toNat ∧ t.get (HK_ACCa_SUM_HI_SUM a) = ((s.hk.accs[a]).sum / 2 ^ 32 % 2 ^ 32).toNat
    ∧ t.get (HK_ACCa_MIN_MIN a) = ((s.hk.accs[a]).mn % 2 ^ 32).toNat ∧ t.get (HK_ACCa_MAX_MAX a) = ((s.hk.accs[a]).mx % 2 ^ 32).toNat
    ∧ Only [HK_ACCa_SUM_LO_SUM a, HK_ACCa_SUM_HI_SUM a, HK_ACCa_MIN_MIN a, HK_ACCa_MAX_MAX a] s s t

abbrev preRtdRearm (s : State) (_k : Fin 4) : Prop :=
  s.domainOn 1 = true
/-- RTD_REARM (R428). -/
def rtdRearm : Prop := ∀ s k, preRtdRearm s k →
  ∃ t, exec (.rtdRearm k) s = .next t
    ∧ (∀ i : Fin 4, (t.get HK_RTD_STAT_FAULT).testBit i.val = ((s.get HK_RTD_STAT_FAULT).testBit i.val && i != k))
    ∧ Only [HK_RTD_STAT_FAULT] s s t

abbrev preHkSeqConfig (c : CmdIn) (s : State) (v p : Nat) (a b x y : Nat) : Prop :=
  Ready 15 s ∧ c.words = [0, v, p, 2, a, b, x, y] ∧ v < 64 ∧ v % 8 = 3 + 4 * (v / 4 % 2) ∧ 0 < p ∧ p < 2 ^ 32 ∧ s.get HK_CTRL_MODE = 0 ∧ s.get HK_STATUS_REG_BUSY = 0 ∧ s.get HK_STATUS_INJ_BUSY = 0 ∧ s.get HK_STATUS_INJ_HELD = 0 ∧ v / 8 % 2 = 0
    ∧ a &&& 0x83FFFFFF = a ∧ x &&& 0x83FFFFFF = x ∧ b &&& 0x1FFF1FFF = b ∧ y &&& 0x1FFF1FFF = y ∧ hkSlotOk a b = true ∧ hkSlotOk x y = true
/-- HK_SEQ_CONFIG (R416, R431, R432) of two regular slots, the sequences stopped. -/
def hkSeqConfig : Prop := ∀ c s v p a b x y, preHkSeqConfig c s v p a b x y →
  ∃ t, exec (.hkSeqConfig c) s = .next t
    ∧ t.get (HK_SLOTs_CFG_CFG 0) = a ∧ t.get (HK_SLOTs_IN_IN 0) = b ∧ t.get (HK_SLOTs_CFG_CFG 1) = x ∧ t.get (HK_SLOTs_IN_IN 1) = y ∧ t.get HK_PERIOD_US = p
    ∧ t.get HK_CTRL_MODE = 3 ∧ t.get HK_CTRL_LP = v / 4 % 2 ∧ t.get HK_CTRL_INJ_LW = v / 16 % 2 ∧ t.get HK_CTRL_INJ_WIN = v / 32 % 2
    ∧ Done 0xC0 0 [s.rawReg 15 4] [HK_SLOTs_CFG_CFG 0, HK_SLOTs_IN_IN 0, HK_SLOTs_CFG_CFG 1, HK_SLOTs_IN_IN 1, HK_NSLOT_NREG, HK_PERIOD_US, HK_CTRL_MODE, HK_CTRL_LP, HK_CTRL_INJ_LW, HK_CTRL_INJ_WIN] c s s t

abbrev preHkSeqConfigPeriodic (c : CmdIn) (s : State) (p : Nat) : Prop :=
  Ready 15 s ∧ c.words = [0, 2, p, 0] ∧ 0 < p ∧ p < 2 ^ 32 ∧ s.get HK_CTRL_LP = 0
/-- HK_SEQ_CONFIG (R419, R432) with no slots: PERIODIC begins its grid. -/
def hkSeqConfigPeriodic : Prop := ∀ c s p, preHkSeqConfigPeriodic c s p →
  ∃ t, exec (.hkSeqConfig c) s = .next t
    ∧ t.get HK_PERIOD_US = p ∧ t.get HK_CTRL_MODE = 2 ∧ t.get HK_CTRL_INJ_LW = 0 ∧ t.get HK_CTRL_INJ_WIN = 0
    ∧ Done 0xC0 0 [s.rawReg 15 4] [HK_PERIOD_US, HK_CTRL_MODE, HK_CTRL_LP, HK_CTRL_INJ_LW, HK_CTRL_INJ_WIN] c s { s with hk := { s.hk with grid := s.cyc } } t

abbrev preHkSeqConfigInjected (c : CmdIn) (s : State) (v a b : Nat) : Prop :=
  Ready 15 s ∧ c.words = [1, v, 0, 1, a, b] ∧ v &&& 0x30 = v ∧ s.get HK_STATUS_INJ_BUSY = 0 ∧ s.get HK_STATUS_INJ_HELD = 0
    ∧ a &&& 0x83FFFFFF = a ∧ b &&& 0x1FFF1FFF = b ∧ hkSlotOk a b = true
/-- HK_SEQ_CONFIG (R416, R431, R432) of one injected slot. -/
def hkSeqConfigInjected : Prop := ∀ c s v a b, preHkSeqConfigInjected c s v a b →
  ∃ t, exec (.hkSeqConfig c) s = .next t
    ∧ t.get (HK_INJi_CFG_CFG 0) = a ∧ t.get (HK_INJi_IN_IN 0) = b ∧ t.get HK_CTRL_INJ_LW = v / 16 % 2 ∧ t.get HK_CTRL_INJ_WIN = v / 32 % 2
    ∧ Done 0xC0 0 [s.rawReg 15 4] [HK_INJi_CFG_CFG 0, HK_INJi_IN_IN 0, HK_NSLOT_NINJ, HK_CTRL_INJ_LW, HK_CTRL_INJ_WIN] c s s t

abbrev preHkSeqConfigDenied (c : CmdIn) (s : State) (v p a b : Nat) : Prop :=
  Ready 15 s ∧ c.words = [0, v, p, 1, a, b] ∧ v < 64 ∧ p < 2 ^ 32 ∧ a &&& 0x83FFFFFF = a ∧ b &&& 0x1FFF1FFF = b ∧ s.get HK_CTRL_MODE ≠ 0
/-- HK_SEQ_CONFIG (R431, R432): slots of a running regular sequence are DENIED. -/
def hkSeqConfigDenied : Prop := ∀ c s v p a b, preHkSeqConfigDenied c s v p a b →
  ∃ t, exec (.hkSeqConfig c) s = .next t
    ∧ Done 0xC0 8 [] [] c s s t

abbrev preHkInject (c : CmdIn) (s : State) : Prop :=
  Ready 15 s ∧ c.words = [] ∧ s.get HK_STATUS_INJ_HELD = 0 ∧ s.get HK_STATUS_INJ_BUSY = 0 ∧ s.hk.act = none
    ∧ (s.hkHalf true 0 0).typ ≠ 3 ∧ (s.hkHalf true 0 1).typ ≠ 3
/-- HK_INJECT (R420) with nothing running: the injected sequence starts. -/
def hkInject : Prop := ∀ c s, preHkInject c s →
  ∃ t, exec (.hkInject c) s = .next t
    ∧ t.get HK_STATUS_INJ_BUSY = 1 ∧ t.get HK_STATUS_INJ_SLOT = 0 ∧ t.hk.act = some ⟨true, 0, true, s.cyc + s.get (HK_INJi_CFG_CFG 0) % 2 ^ 16 * 40, true, 0, 0, false, none, none, false, false, []⟩
    ∧ Done 0xC1 0 [] [HK_STATUS_INJ_BUSY, HK_STATUS_INJ_SLOT, HK_RTD_STAT_ON] c s { s with hk := t.hk } t

abbrev preHkInjectHeld (c : CmdIn) (s : State) : Prop :=
  Ready 15 s ∧ c.words = [] ∧ s.get HK_STATUS_INJ_HELD = 0 ∧ s.get HK_STATUS_INJ_BUSY = 1
/-- HK_INJECT (R420, R432) while a run is in progress: PENDING, held one deep. -/
def hkInjectHeld : Prop := ∀ c s, preHkInjectHeld c s →
  ∃ t, exec (.hkInject c) s = .next t
    ∧ t.get HK_STATUS_INJ_HELD = 1 ∧ Done 0xC1 0xB [] [HK_STATUS_INJ_HELD] c s s t

abbrev preHkInjectAlready (c : CmdIn) (s : State) : Prop :=
  Ready 15 s ∧ c.words = [] ∧ s.get HK_STATUS_INJ_HELD = 1
/-- HK_INJECT (R420, R432) while a trigger is held: ALREADY, not counted as lost. -/
def hkInjectAlready : Prop := ∀ c s, preHkInjectAlready c s →
  ∃ t, exec (.hkInject c) s = .next t
    ∧ Done 0xC1 0xC [] [] c s s t

abbrev preHkWindow (c : CmdIn) (s : State) (a lo hi en : Nat) : Prop :=
  Ready 15 s ∧ c.words = [a, lo, hi, en] ∧ a < 72 ∧ en < 2 ∧ lo < 2 ^ 32 ∧ hi < 2 ^ 32 ∧ signedOf 32 lo ≤ signedOf 32 hi
/-- HK_WINDOW (R424, R432): the window is set, in state IN. -/
def hkWindow : Prop := ∀ c s a lo hi en, preHkWindow c s a lo hi en →
  ∃ t, exec (.hkWindow c) s = .next t
    ∧ t.get (HK_ACCa_WLO_WLO a) = lo ∧ t.get (HK_ACCa_WHI_WHI a) = hi ∧ t.get (HK_ACCa_CTRL_WEN a) = en ∧ t.get (HK_ACCa_CTRL_OUT a) = 0
    ∧ Done 0xC2 0 [] [HK_ACCa_WLO_WLO a, HK_ACCa_WHI_WHI a, HK_ACCa_CTRL_WEN a, HK_ACCa_CTRL_OUT a] c s s t

abbrev preHkRtd (c : CmdIn) (s : State) (k : Fin 4) (en re : Bool) : Prop :=
  Ready 15 s ∧ c.words = [k.val, en.toNat + 2 * re.toNat] ∧ (re = false ∨ (s.get HK_RTD_STAT_FAULT).testBit k.val = true ∨ (s.get HK_RTD_CTRL_EN).testBit k.val ≠ en)
/-- HK_RTD (R426, R428, R432): the excitation is allowed or not, and rearmed. -/
def hkRtd : Prop := ∀ c s k en re, preHkRtd c s k en re →
  ∃ t, exec (.hkRtd c) s = .next t
    ∧ (∀ i : Fin 4, (t.get HK_RTD_CTRL_EN).testBit i.val = if i = k then en else (s.get HK_RTD_CTRL_EN).testBit i.val)
    ∧ (∀ i : Fin 4, (t.get HK_RTD_STAT_FAULT).testBit i.val = ((s.get HK_RTD_STAT_FAULT).testBit i.val && !(re && i == k)))
    ∧ (∀ i : Fin 4, (t.get HK_RTD_STAT_ON).testBit i.val = ((s.get HK_RTD_STAT_ON).testBit i.val && (t.get HK_RTD_CTRL_EN).testBit i.val))
    ∧ Done 0xC3 0 [t.rawReg 15 0x1C] [HK_RTD_CTRL_EN, HK_RTD_STAT_FAULT, HK_RTD_STAT_ON] c s s t

abbrev preHkReadAcc (c : CmdIn) (s : State) (a : Fin 72) (n : Nat) (cl : Bool) : Prop :=
  Ready 15 s ∧ c.words = [a.val, n, cl.toNat] ∧ 1 ≤ n ∧ a.val + n ≤ 72 ∧ (∀ i : Fin 72, (s.hk.accs[i]).was = none)
/-- HK_READ_ACC (R423, R432): the words of each accumulator, which are cleared if asked. -/
def hkReadAcc : Prop := ∀ c s a n cl, preHkReadAcc c s a n cl →
  ∃ t, exec (.hkReadAcc c) s = .next t
    ∧ (∀ i : Fin 72, t.hk.accs[i] = if cl = true ∧ a ≤ i ∧ i.val < a.val + n then ⟨0, 0x7FFFFFFF, -0x80000000, none⟩ else s.hk.accs[i])
    ∧ (∀ i : Fin 72, t.get (HK_ACCa_CNT_CNT i) = if cl = true ∧ a ≤ i ∧ i.val < a.val + n then 0 else s.get (HK_ACCa_CNT_CNT i))
    ∧ Done 0xC4 0 ((List.range n).flatMap fun i => s.accWords (Fin.ofNat 72 (a.val + i))) ((List.range n).flatMap fun i => [HK_ACCa_CNT_CNT (a.val + i), HK_ACCa_CTRL_FULL (a.val + i)]) c s { s with hk := t.hk } t

abbrev preHkGetStatus (c : CmdIn) (s : State) : Prop :=
  Ready 15 s ∧ c.words = []
/-- HK_GET_STATUS (R432). -/
def hkGetStatus : Prop := ∀ c s, preHkGetStatus c s →
  ∃ t, exec (.hkGetStatus c) s = .next t
    ∧ Done 0xC5 0 [s.rawReg 15 4, s.rawReg 15 0x20, s.rawReg 15 0x1C, s.get (HK_WINFLAGw_OUT 0), s.get (HK_WINFLAGw_OUT 1), s.get (HK_WINFLAGw_OUT 2), s.get HK_DISC_COUNT, s.get HK_FAULT_DISC_COUNT, s.get HK_OVERRUN_COUNT, s.get HK_INJ_LOST_COUNT, s.get HK_MIRROR_ERR_COUNT, s.get HK_PASSES_COUNT] [] c s s t

end Sys2Proof.Claim

/-- The first conversion after a change is discarded and counted; kept results enter their accumulator and are compared with its window; an RTD pair accumulates the difference of its two codes; a failed check turns its excitation off and is recorded at the end of the slot; settling delays, grid boundaries, clears, latches and rearming do what chapter 19 gives them. HK_SEQ_CONFIG, HK_INJECT, HK_WINDOW, HK_RTD, HK_READ_ACC and HK_GET_STATUS do what R432 gives them where their conditions hold. -/
def Obligations.Housekeeping : Prop :=
  Sys2Proof.Claim.hkDiscard ∧ Sys2Proof.Claim.hkKeep ∧ Sys2Proof.Claim.hkSlotDone ∧
  Sys2Proof.Claim.hkPassDone ∧ Sys2Proof.Claim.hkInterrupted ∧ Sys2Proof.Claim.hkPairFirst ∧
  Sys2Proof.Claim.hkPairSecond ∧ Sys2Proof.Claim.hkCheckFails ∧ Sys2Proof.Claim.hkMirror ∧
  Sys2Proof.Claim.hkWindowExit ∧ Sys2Proof.Claim.hkWindowBack ∧ Sys2Proof.Claim.hkFaultEnd ∧
  Sys2Proof.Claim.hkSettleExpiry ∧ Sys2Proof.Claim.periodBoundary ∧ Sys2Proof.Claim.periodOverrun ∧
  Sys2Proof.Claim.hkStart ∧ Sys2Proof.Claim.accClr ∧ Sys2Proof.Claim.accCntRead ∧
  Sys2Proof.Claim.rtdRearm ∧ Sys2Proof.Claim.hkSeqConfig ∧ Sys2Proof.Claim.hkSeqConfigPeriodic ∧
  Sys2Proof.Claim.hkSeqConfigInjected ∧ Sys2Proof.Claim.hkSeqConfigDenied ∧ Sys2Proof.Claim.hkInject ∧
  Sys2Proof.Claim.hkInjectHeld ∧ Sys2Proof.Claim.hkInjectAlready ∧ Sys2Proof.Claim.hkWindow ∧
  Sys2Proof.Claim.hkRtd ∧ Sys2Proof.Claim.hkReadAcc ∧ Sys2Proof.Claim.hkGetStatus

namespace Sys2Proof.Claim
open Sys2Proof.Machine Sys2Proof.Machine.Reg

abbrev preEdgePrescaled (s : State) (ip : Fin 9) (_e : EdgeIn) (n : Fin 8) : Prop :=
  s.domainOn 2 = true ∧ s.fabRuns = true ∧ (s.get TDC_STATUS_CAL_BUSY).testBit ip.val = false ∧ ip.val < 4 ∧ n.val = ip.val ∧ s.tdcOwner n = ownerOf 0x0A n
    ∧ s.get (TDC_CHn_CTRL_POL n) = 2 ∧ (s.tdc.ch[n]).edges + 1 < s.get (TDC_CHn_CTRL_PRESC n) + 1
/-- EDGE_STAMP (R401): an edge that the prescaler does not pass is counted by the prescaler only. -/
def edgePrescaled : Prop := ∀ s ip e n, preEdgePrescaled s ip e n →
  ∃ t, exec (.edgeStamp ip e) s = .next t
    ∧ t = s.setTdc n fun c => { c with edges := (s.tdc.ch[n]).edges + 1 }

abbrev preEdgeDead (s : State) (ip : Fin 9) (e : EdgeIn) (n : Fin 8) (l : Nat) : Prop :=
  s.domainOn 2 = true ∧ s.fabRuns = true ∧ (s.get TDC_STATUS_CAL_BUSY).testBit ip.val = false ∧ ip.val < 4 ∧ n.val = ip.val ∧ s.tdcOwner n = ownerOf 0x0A n
    ∧ s.get (TDC_CHn_CTRL_POL n) = e.falling.toNat ∧ s.get (TDC_CHn_CTRL_PRESC n) = 0 ∧ s.tdc.last[ip] = some l
    ∧ phaseDiff (s.stampFor ip.val e.coarse.toNat e.code.toNat) l < 157287
/-- EDGE_STAMP (R401): an edge less than 3 ns (157,287 u) after the previous stamped edge of its interpolator is counted as dead. -/
def edgeDead : Prop := ∀ s ip e n l, preEdgeDead s ip e n l →
  ∃ t, exec (.edgeStamp ip e) s = .next t
    ∧ t.get (TDC_CHn_DEAD_COUNT n) = min (s.get (TDC_CHn_DEAD_COUNT n) + 1) (2 ^ 32 - 1) ∧ t.tdc.last = s.tdc.last ∧ (t.tdc.ch[n]).fifo = (s.tdc.ch[n]).fifo
    ∧ Only [TDC_CHn_DEAD_COUNT n] s { s with tdc := t.tdc } t

abbrev preEdgeStampMode (s : State) (ip : Fin 9) (e : EdgeIn) (n : Fin 8) (st : Nat) : Prop :=
  s.domainOn 2 = true ∧ s.fabRuns = true ∧ (s.get TDC_STATUS_CAL_BUSY).testBit ip.val = false ∧ ip.val < 4 ∧ n.val = ip.val ∧ s.tdcOwner n = ownerOf 0x0A n
    ∧ s.get (TDC_CHn_CTRL_POL n) = e.falling.toNat ∧ s.get (TDC_CHn_CTRL_PRESC n) = 0 ∧ s.tdc.last[ip] = none ∧ s.get (TDC_CHn_CTRL_MODE n) = 1
    ∧ st = s.stampFor ip.val e.coarse.toNat e.code.toNat
/-- EDGE_STAMP (R400, R401): in STAMP mode an edge is stamped and counted; whether it is accepted is decided once its reference has been formed (R402). -/
def edgeStampMode : Prop := ∀ s ip e n st, preEdgeStampMode s ip e n st →
  ∃ t, exec (.edgeStamp ip e) s = .next t
    ∧ (t.tdc.ch[n]).wait = (s.tdc.ch[n]).wait ++ [(st, e.falling, s.cyc)] ∧ (t.tdc.ch[n]).fifo = (s.tdc.ch[n]).fifo ∧ (t.tdc.ch[n]).accepted = (s.tdc.ch[n]).accepted
    ∧ t.get (TDC_CHn_STAMPS_COUNT n) = min (s.get (TDC_CHn_STAMPS_COUNT n) + 1) (2 ^ 32 - 1) ∧ t.tdc.last[ip] = some st
    ∧ Only [TDC_CHn_STAMPS_COUNT n] s { s with tdc := t.tdc } t

abbrev preStampAccepted (s : State) (n : Fin 8) (r st : Nat) (_fall : Bool) : Prop :=
  s.get (TDC_CHn_CTRL_REF n) = 9 ∧ latestAt st ((s.sq 1).launches.map stampOf) = some r
    ∧ ((s.get (TDC_CHn_WIN_OPEN_OPEN n) * 65536 : Nat) : Int) ≤ phaseDiff st r ∧ phaseDiff st r ≤ (s.get (TDC_CHn_WIN_CLOSE_CLOSE n) * 65536 : Nat) ∧ (s.tdc.ch[n]).fifo.length < 64
/-- The decision on a waiting stamp in a clk_fab cycle (R402, R403): with the launches of fibre B as its reference, one within the window enters the FIFO. -/
def stampAccepted : Prop := ∀ s n r st fall, preStampAccepted s n r st fall →
  ∃ t, s.stampMode n st fall = t
    ∧ (t.tdc.ch[n]).fifo = (s.tdc.ch[n]).fifo ++ [s.stampRecord st (phaseDiff st r).toNat fall] ∧ (t.tdc.ch[n]).accepted = (st :: (s.tdc.ch[n]).accepted).take 16
    ∧ t.get (TDC_CHn_STAT_LEVEL n) = (s.tdc.ch[n]).fifo.length + 1 ∧ Only [TDC_CHn_STAT_LEVEL n] s { s with tdc := t.tdc } t

abbrev preStampEvery (s : State) (n : Fin 8) (_st : Nat) (_fall : Bool) : Prop :=
  s.get (TDC_CHn_CTRL_REF n) = 15 ∧ (s.tdc.ch[n]).fifo.length < 64 ∧ s.get SEQ_REF_STATUS_EPOCH_VALID = 0 ∧ s.get SEQ_REF_STATUS_HOLDOVER = 0
/-- The decision (R402, R403) with REF = 15: every stamp is accepted, with interval 0; without an epoch NOPHASE is set and the phase is 0. -/
def stampEvery : Prop := ∀ s n st fall, preStampEvery s n st fall →
  ∃ t, s.stampMode n st fall = t
    ∧ (t.tdc.ch[n]).fifo = (s.tdc.ch[n]).fifo ++ [[st % 2 ^ 32, st / 2 ^ 32 % 2 ^ 32, 0, 2 ^ 16 + fall.toNat * 2 ^ 18, 0, 0]]
    ∧ t.get (TDC_CHn_STAT_LEVEL n) = (s.tdc.ch[n]).fifo.length + 1 ∧ Only [TDC_CHn_STAT_LEVEL n] s { s with tdc := t.tdc } t

abbrev preStampRejected (s : State) (n : Fin 8) (st : Nat) (_fall : Bool) (k : Fin 2) : Prop :=
  s.get (TDC_CHn_CTRL_REF n) = 8 + k.val ∧ n.val < 4
    ∧ (latestAt st ((s.sq k).launches.map stampOf)).all (fun r => decide (0 ≤ phaseDiff st r ∧ (phaseDiff st r < (s.get (TDC_CHn_WIN_OPEN_OPEN n) * 65536 : Nat) ∨ ((s.get (TDC_CHn_WIN_CLOSE_CLOSE n) * 65536 : Nat) : Int) < phaseDiff st r))) = true
/-- The decision (R402): a stamp with no launch at or before it, or outside the window, is rejected. -/
def stampRejected : Prop := ∀ s n st fall k, preStampRejected s n st fall k →
  ∃ t, s.stampMode n st fall = t
    ∧ t.get (TDC_CHn_REJ_COUNT n) = min (s.get (TDC_CHn_REJ_COUNT n) + 1) (2 ^ 32 - 1) ∧ Only [TDC_CHn_REJ_COUNT n] s s t

abbrev preStampLost (s : State) (n : Fin 8) (_st : Nat) (_fall : Bool) : Prop :=
  s.get (TDC_CHn_CTRL_REF n) = 15 ∧ (s.tdc.ch[n]).fifo.length = 64
/-- The decision (R403) with the FIFO full: the record is lost. -/
def stampLost : Prop := ∀ s n st fall, preStampLost s n st fall →
  ∃ t, s.stampMode n st fall = t
    ∧ t.get (TDC_CHn_LOST_COUNT n) = min (s.get (TDC_CHn_LOST_COUNT n) + 1) (2 ^ 32 - 1) ∧ t.get TDC_FLAGS_LOST = (s.get TDC_FLAGS_LOST ||| 2 ^ n.val) % 2 ^ 4 ∧ (t.tdc.ch[n]).fifo = (s.tdc.ch[n]).fifo
    ∧ Only [TDC_CHn_LOST_COUNT n, TDC_FLAGS_LOST] s { s with tdc := t.tdc } t

abbrev preStampsDecided (s : State) (n : Fin 8) (st c0 : Nat) (fall : Bool) : Prop :=
  (s.tdc.ch[n]).wait = [(st, fall, c0)]
/-- A clk_fab cycle (R402) of a channel in which one stamp waits: it is decided once 8 cycles have passed since it was formed, and waits until then. -/
def stampsDecided : Prop := ∀ s n st c0 fall, preStampsDecided s n st c0 fall →
  ∃ t, s.tickStamps n = t
    ∧ (c0 + 8 < s.cyc → t = (s.stampMode n st fall).setTdc n fun c => { c with wait := [] }) ∧ (s.cyc ≤ c0 + 8 → t = s)

abbrev preEdgeGate (s : State) (ip : Fin 9) (e : EdgeIn) (n : Fin 8) (st a b : Nat) : Prop :=
  s.domainOn 2 = true ∧ s.fabRuns = true ∧ (s.get TDC_STATUS_CAL_BUSY).testBit ip.val = false ∧ ip.val < 4 ∧ n.val = ip.val ∧ s.tdcOwner n = ownerOf 0x0A n
    ∧ s.get (TDC_CHn_CTRL_POL n) = e.falling.toNat ∧ s.get (TDC_CHn_CTRL_PRESC n) = 0 ∧ s.tdc.last[ip] = none ∧ s.get (TDC_CHn_CTRL_MODE n) = 2
    ∧ st = s.stampFor ip.val e.coarse.toNat e.code.toNat ∧ (s.tdc.ch[n]).gate = some (a, b) ∧ b < 2 ^ 63 ∧ a ≤ st ∧ st ≤ b
/-- EDGE_STAMP (R408): in FREQ mode a stamp within the gate, its close included, belongs to it. -/
def edgeGate : Prop := ∀ s ip e n st a b, preEdgeGate s ip e n st a b →
  ∃ t, exec (.edgeStamp ip e) s = .next t
    ∧ (t.tdc.ch[n]).stamps = st :: (s.tdc.ch[n]).stamps ∧ t.tdc.last[ip] = some st ∧ (t.tdc.ch[n]).gate = some (a, b)
    ∧ Only [TDC_CHn_STAMPS_COUNT n] s { s with tdc := t.tdc } t

abbrev preGateCloseOnce (s : State) (n : Fin 4) (a b : Nat) (l : Rat × Rat) : Prop :=
  s.domainOn 2 = true ∧ s.fabRuns = true ∧ (s.tdc.ch[Fin.ofNat 8 n.val]).gate = some (a, b) ∧ b < (s.coarseNow + 2) * 65536 ∧ s.get (TDC_CHn_CTRL_CONT n) = 0 ∧ s.get (TDC_CHn_STAT_GATE_HELD n) = 0
    ∧ 3 ≤ (s.tdc.ch[Fin.ofNat 8 n.val]).stamps.length ∧ (s.tdc.ch[Fin.ofNat 8 n.val]).stamps.length < 2 ^ 32 ∧ gateStamps b (s.tdc.ch[Fin.ofNat 8 n.val]).stamps = ((s.tdc.ch[Fin.ofNat 8 n.val]).stamps, []) ∧ lineFit (gatePts (s.tdc.ch[Fin.ofNat 8 n.val]).stamps) = some l
/-- GATE_CLOSE (R408, R409): a gate of three stamps or more closes with its result, the least-squares period in units of 2^-24 ns. -/
def gateCloseOnce : Prop := ∀ s n a b l, preGateCloseOnce s n a b l →
  ∃ t, exec (.gateClose n) s = .next t
    ∧ (t.tdc.ch[Fin.ofNat 8 n.val]).per = (roundHalfUp (l.2 * 2 ^ 24)).toNat % 2 ^ 56 ∧ (t.tdc.ch[Fin.ofNat 8 n.val]).gate = none
    ∧ t.get (TDC_CHn_NEDGE_COUNT n) = (s.tdc.ch[Fin.ofNat 8 n.val]).stamps.length ∧ t.get (TDC_CHn_STAT_RESULT_VALID n) = 1 ∧ t.get (TDC_CHn_STAT_NO_EDGES n) = 0
    ∧ t.get (TDC_CHn_STAT_GATE_BUSY n) = 0 ∧ t.get TDC_FLAGS_RESULT = (s.get TDC_FLAGS_RESULT ||| 2 ^ n.val) % 2 ^ 4
    ∧ Only [TDC_CHn_NEDGE_COUNT n, TDC_CHn_STAT_RESULT_VALID n, TDC_CHn_STAT_NO_EDGES n, TDC_CHn_STAT_GATE_BUSY n, TDC_FLAGS_RESULT, TDC_CHn_RESID_PS n] s { s with tdc := t.tdc } t

abbrev preGateCloseCont (s : State) (n : Fin 4) (a b : Nat) : Prop :=
  s.domainOn 2 = true ∧ s.fabRuns = true ∧ (s.tdc.ch[Fin.ofNat 8 n.val]).gate = some (a, b) ∧ b < (s.coarseNow + 2) * 65536 ∧ s.get (TDC_CHn_CTRL_CONT n) = 1
    ∧ (s.tdc.ch[Fin.ofNat 8 n.val]).stamps.length < 3 ∧ gateStamps b (s.tdc.ch[Fin.ofNat 8 n.val]).stamps = ((s.tdc.ch[Fin.ofNat 8 n.val]).stamps, [])
/-- GATE_CLOSE (R408, R409): with CONT = 1 the next gate opens at the close; below three stamps NO_EDGES is set and the period is 0. -/
def gateCloseCont : Prop := ∀ s n a b, preGateCloseCont s n a b →
  ∃ t, exec (.gateClose n) s = .next t
    ∧ (t.tdc.ch[Fin.ofNat 8 n.val]).per = 0 ∧ (t.tdc.ch[Fin.ofNat 8 n.val]).gate.map (·.2) = some (b + s.get (TDC_CHn_GATE_US n) * 800 * 65536) ∧ (t.tdc.ch[Fin.ofNat 8 n.val]).stamps = []
    ∧ t.get (TDC_CHn_NEDGE_COUNT n) = (s.tdc.ch[Fin.ofNat 8 n.val]).stamps.length ∧ t.get (TDC_CHn_STAT_RESULT_VALID n) = 1 ∧ t.get (TDC_CHn_STAT_NO_EDGES n) = 1
    ∧ t.get (TDC_CHn_STAT_GATE_BUSY n) = 1 ∧ t.get TDC_FLAGS_RESULT = (s.get TDC_FLAGS_RESULT ||| 2 ^ n.val) % 2 ^ 4
    ∧ Only [TDC_CHn_NEDGE_COUNT n, TDC_CHn_STAT_RESULT_VALID n, TDC_CHn_STAT_NO_EDGES n, TDC_CHn_STAT_GATE_BUSY n, TDC_FLAGS_RESULT, TDC_CHn_RESID_PS n] s { s with tdc := t.tdc, freeCtr := t.freeCtr } t

abbrev preTdcCalibrationGood (s : State) (ip : Fin 9) (hist : List Nat) : Prop :=
  s.domainOn 2 = true ∧ s.fabRuns = true ∧ (s.get TDC_STATUS_CAL_BUSY).testBit ip.val = true ∧ hist.length = 1024 ∧ hist.sum = 2 ^ 20
    ∧ 900 ≤ ((widthsOf 0 hist).filter (· != 0)).length ∧ ∀ x ∈ widthsOf 0 hist, x ≤ 512
/-- TDC_CALIBRATION_COMPLETE (R405, R406): the bin widths of a complete histogram that does not fail. -/
def tdcCalibrationGood : Prop := ∀ s ip hist, preTdcCalibrationGood s ip hist →
  ∃ t, exec (.tdcCalibrationComplete ip hist) s = .next t
    ∧ (∀ j : Fin 512, t.get (TDC_TABLE ip j) = (widthsOf 0 hist).getD (2 * j.val) 0 + (widthsOf 0 hist).getD (2 * j.val + 1) 0 * 2 ^ 16)
    ∧ t.get TDC_STATUS_CAL_VALID = (s.get TDC_STATUS_CAL_VALID ||| 2 ^ ip.val) % 2 ^ 9 ∧ t.get TDC_STATUS_CAL_BUSY = (s.get TDC_STATUS_CAL_BUSY - 2 ^ ip.val) % 2 ^ 9 ∧ t.get (TDC_CALTEMPi_TEMP ip) = s.get (MGMT_TEMPi_TEMP 5) % 2 ^ 16
    ∧ SameRegs ([TDC_STATUS_CAL_VALID, TDC_STATUS_CAL_BUSY, TDC_CALTEMPi_TEMP ip] ++ (List.range 512).map fun j => TDC_TABLE ip j) s t ∧ t = butNotes s t

abbrev preTdcCalibrationBad (s : State) (ip : Fin 9) (hist : List Nat) : Prop :=
  s.domainOn 2 = true ∧ s.fabRuns = true ∧ (s.get TDC_STATUS_CAL_BUSY).testBit ip.val = true ∧ hist.length = 1024 ∧ hist.sum = 2 ^ 20
    ∧ ((widthsOf 0 hist).filter (· != 0)).length < 900
/-- TDC_CALIBRATION_COMPLETE (R406): a failed calibration keeps the table. -/
def tdcCalibrationBad : Prop := ∀ s ip hist, preTdcCalibrationBad s ip hist →
  ∃ t, exec (.tdcCalibrationComplete ip hist) s = .next t
    ∧ t.get TDC_FLAGS_CAL_FAIL = (s.get TDC_FLAGS_CAL_FAIL ||| 2 ^ ip.val) % 2 ^ 9 ∧ t.get TDC_STATUS_CAL_BUSY = (s.get TDC_STATUS_CAL_BUSY - 2 ^ ip.val) % 2 ^ 9 ∧ t.get (TDC_CALTEMPi_TEMP ip) = s.get (MGMT_TEMPi_TEMP 5) % 2 ^ 16
    ∧ SameRegs [TDC_FLAGS_CAL_FAIL, TDC_STATUS_CAL_BUSY, TDC_CALTEMPi_TEMP ip] s t ∧ t = butNotes s t

abbrev preFifo0Read (s : State) (n : Fin 4) : Prop :=
  s.domainOn 2 = true ∧ s.fabRuns = true ∧ (s.tdc.ch[Fin.ofNat 8 n.val]).fifo.length ≤ 64 ∧ ∀ w : Fin 6, ((s.tdc.ch[Fin.ofNat 8 n.val]).fifo.headD []).getD w.val 0 < 2 ^ 32
/-- FIFO0_READ (R411): the oldest record leaves the FIFO and is latched; with the FIFO empty all six words read 0. -/
def fifo0Read : Prop := ∀ s n, preFifo0Read s n →
  ∃ t, exec (.fifo0Read n) s = .next t
    ∧ (∀ w : Fin 6, t.get (TDC_CHn_FIFOw_WORD n w) = ((s.tdc.ch[Fin.ofNat 8 n.val]).fifo.headD []).getD w.val 0)
    ∧ (t.tdc.ch[Fin.ofNat 8 n.val]).fifo = (s.tdc.ch[Fin.ofNat 8 n.val]).fifo.drop 1 ∧ t.get (TDC_CHn_STAT_LEVEL n) = (s.tdc.ch[Fin.ofNat 8 n.val]).fifo.length - 1
    ∧ Only (TDC_CHn_STAT_LEVEL n :: (List.range 6).map fun w => TDC_CHn_FIFOw_WORD n w) s { s with tdc := t.tdc } t

abbrev preTdcConfig (c : CmdIn) (s : State) (n : Fin 4) (v o w g : Nat) : Prop :=
  Ready 14 s ∧ c.words = [0, n.val, v, o, w, g] ∧ v &&& 0xFFF1F = v ∧ v % 4 = 1 ∧ v / 4 % 4 < 3 ∧ (v / 2 ^ 16 < 10 ∨ v / 2 ^ 16 = 15) ∧ o ≤ w ∧ w < 2 ^ 24 ∧ 10 ≤ g ∧ g ≤ 10000000
    ∧ s.tdcOwner n = 0 ∧ s.pinOwned n = false ∧ s.get (TDC_CHn_CTRL_MODE n) = 0
/-- TDC_CONFIG (R398, R413): a free channel off takes STAMP mode: it is acquired and its FIFO is emptied. -/
def tdcConfig : Prop := ∀ c s n v o w g, preTdcConfig c s n v o w g →
  ∃ t, exec (.tdcConfig c) s = .next t
    ∧ t.get (TDC_CHn_CTRL_MODE n) = 1 ∧ t.get (TDC_CHn_CTRL_POL n) = v / 4 % 4 ∧ t.get (TDC_CHn_CTRL_CONT n) = v / 16 % 2 ∧ t.get (TDC_CHn_CTRL_PRESC n) = v / 256 % 256 ∧ t.get (TDC_CHn_CTRL_REF n) = v / 65536 % 16
    ∧ t.get (TDC_CHn_WIN_OPEN_OPEN n) = o ∧ t.get (TDC_CHn_WIN_CLOSE_CLOSE n) = w ∧ t.get (TDC_CHn_GATE_US n) = g ∧ t.tdcOwner n = 0x0A00 + n.val
    ∧ t.get (TDC_CHn_STAT_LEVEL n) = 0 ∧ (t.tdc.ch[Fin.ofNat 8 n.val]).fifo = [] ∧ (t.tdc.ch[Fin.ofNat 8 n.val]).edges = 0
    ∧ Done 0xC6 0 [] [TDC_CHn_CTRL_MODE n, TDC_CHn_CTRL_POL n, TDC_CHn_CTRL_CONT n, TDC_CHn_CTRL_PRESC n, TDC_CHn_CTRL_REF n, TDC_CHn_WIN_OPEN_OPEN n, TDC_CHn_WIN_CLOSE_CLOSE n, TDC_CHn_GATE_US n, TDC_CHn_STAT_OWNER n, TDC_CHn_STAT_LEVEL n] c s { s with tdc := t.tdc } t

abbrev preTdcConfigOff (c : CmdIn) (s : State) (n : Fin 4) (v o w g : Nat) : Prop :=
  Ready 14 s ∧ c.words = [0, n.val, v, o, w, g] ∧ v &&& 0xFFF1F = v ∧ v % 4 = 0 ∧ v / 4 % 4 < 3 ∧ (v / 2 ^ 16 < 10 ∨ v / 2 ^ 16 = 15) ∧ o ≤ w ∧ w < 2 ^ 24 ∧ 10 ≤ g ∧ g ≤ 10000000
    ∧ s.tdcOwner n = 0x0A00 + n.val ∧ s.get (TDC_CHn_CTRL_MODE n) = 2
/-- TDC_CONFIG (R398, R403, R409, R413) with MODE = 0: the channel is released, its FIFO stays readable, and a gate is abandoned. -/
def tdcConfigOff : Prop := ∀ c s n v o w g, preTdcConfigOff c s n v o w g →
  ∃ t, exec (.tdcConfig c) s = .next t
    ∧ t.get (TDC_CHn_CTRL_MODE n) = 0 ∧ t.tdcOwner n = 0 ∧ t.get (TDC_CHn_STAT_GATE_BUSY n) = 0 ∧ t.get (TDC_CHn_STAT_GATE_HELD n) = 0
    ∧ (t.tdc.ch[Fin.ofNat 8 n.val]).gate = none ∧ (t.tdc.ch[Fin.ofNat 8 n.val]).fifo = (s.tdc.ch[Fin.ofNat 8 n.val]).fifo
    ∧ Done 0xC6 0 [] [TDC_CHn_CTRL_MODE n, TDC_CHn_CTRL_POL n, TDC_CHn_CTRL_CONT n, TDC_CHn_CTRL_PRESC n, TDC_CHn_CTRL_REF n, TDC_CHn_WIN_OPEN_OPEN n, TDC_CHn_WIN_CLOSE_CLOSE n, TDC_CHn_GATE_US n, TDC_CHn_STAT_OWNER n, TDC_CHn_STAT_GATE_BUSY n, TDC_CHn_STAT_GATE_HELD n] c s { s with tdc := t.tdc } t

abbrev preTdcConfigBusy (c : CmdIn) (s : State) (n : Fin 4) (v o w g : Nat) : Prop :=
  Ready 14 s ∧ c.words = [0, n.val, v, o, w, g] ∧ v &&& 0xFFF1F = v ∧ v % 4 ≠ 0 ∧ o < 2 ^ 24 ∧ w < 2 ^ 24 ∧ g < 2 ^ 24
    ∧ s.tdcOwner n ≠ 0 ∧ s.tdcOwner n ≠ 0x0A00 + n.val
/-- TDC_CONFIG (R398): a channel that a sequencer owns is RESOURCE_BUSY, with the owner's code. -/
def tdcConfigBusy : Prop := ∀ c s n v o w g, preTdcConfigBusy c s n v o w g →
  ∃ t, exec (.tdcConfig c) s = .next t
    ∧ Replied 0xC6 6 [] (s.tdcOwner n) c s t ∧ SameRegs lastF s t ∧ t = repliedOnly s t

abbrev preTdcCalibrate (c : CmdIn) (s : State) (m : Nat) : Prop :=
  Ready 14 s ∧ c.words = [0, m] ∧ 0 < m ∧ m < 512 ∧ ∀ i : Fin 9, m.testBit i.val = true → s.ipInUse i.val = false
/-- TDC_CALIBRATE (R405, R406): no named interpolator is in use. -/
def tdcCalibrate : Prop := ∀ c s m, preTdcCalibrate c s m →
  ∃ t, exec (.tdcCalibrate c) s = .next t
    ∧ t.get TDC_STATUS_CAL_BUSY = (s.get TDC_STATUS_CAL_BUSY ||| m) % 2 ^ 9 ∧ Done 0xC7 0 [] [TDC_STATUS_CAL_BUSY] c s s t

abbrev preTdcRead (c : CmdIn) (s : State) (n : Fin 4) (k : Nat) : Prop :=
  Ready 14 s ∧ c.words = [0, n.val, k] ∧ s.get (TDC_CHn_CTRL_MODE n) = 1 ∧ 1 ≤ k ∧ k ≤ 170 ∧ (s.tdc.ch[Fin.ofNat 8 n.val]).fifo.length ≤ 64
/-- TDC_READ (R413): up to n records leave the FIFO in the reply. -/
def tdcRead : Prop := ∀ c s n k, preTdcRead c s n k →
  ∃ t, exec (.tdcRead c) s = .next t
    ∧ (t.tdc.ch[Fin.ofNat 8 n.val]).fifo = (s.tdc.ch[Fin.ofNat 8 n.val]).fifo.drop k ∧ t.get (TDC_CHn_STAT_LEVEL n) = (s.tdc.ch[Fin.ofNat 8 n.val]).fifo.length - k
    ∧ Done 0xC8 0 (min k (s.tdc.ch[Fin.ofNat 8 n.val]).fifo.length :: ((s.tdc.ch[Fin.ofNat 8 n.val]).fifo.take k).flatten) [TDC_CHn_STAT_LEVEL n] c s { s with tdc := t.tdc } t

abbrev preTdcFreqStart (c : CmdIn) (s : State) (n : Fin 4) : Prop :=
  Ready 14 s ∧ c.words = [0, n.val, 1] ∧ s.get (TDC_CHn_CTRL_MODE n) = 2 ∧ s.get (TDC_CHn_CTRL_CONT n) = 0 ∧ s.get (TDC_CHn_STAT_GATE_BUSY n) = 0 ∧ (s.tdc.ch[Fin.ofNat 8 n.val]).per ≠ 0
/-- TDC_FREQ (R409) with P2[0] = 1 and no gate running: a gate opens at the first coarse boundary after it. -/
def tdcFreqStart : Prop := ∀ c s n, preTdcFreqStart c s n →
  ∃ t, exec (.tdcFreq c) s = .next t
    ∧ (t.tdc.ch[Fin.ofNat 8 n.val]).gate = some ((s.coarseNow + 1) * 65536, (s.coarseNow + 1) * 65536 + s.get (TDC_CHn_GATE_US n) * 800 * 65536) ∧ (t.tdc.ch[Fin.ofNat 8 n.val]).stamps = [] ∧ t.get (TDC_CHn_STAT_GATE_BUSY n) = 1
    ∧ Done 0xC9 0 (s.freqData (Fin.ofNat 8 n.val)).1 [TDC_CHn_STAT_GATE_BUSY n] c s { s with tdc := t.tdc } t

abbrev preTdcFreqHeld (c : CmdIn) (s : State) (n : Fin 4) : Prop :=
  Ready 14 s ∧ c.words = [0, n.val, 1] ∧ s.get (TDC_CHn_CTRL_MODE n) = 2 ∧ s.get (TDC_CHn_CTRL_CONT n) = 0 ∧ s.get (TDC_CHn_STAT_GATE_BUSY n) = 1 ∧ s.get (TDC_CHn_STAT_GATE_HELD n) = 0 ∧ (s.tdc.ch[Fin.ofNat 8 n.val]).per ≠ 0
/-- TDC_FREQ (R409) with P2[0] = 1 while a gate runs: PENDING, and one start is held. -/
def tdcFreqHeld : Prop := ∀ c s n, preTdcFreqHeld c s n →
  ∃ t, exec (.tdcFreq c) s = .next t
    ∧ t.get (TDC_CHn_STAT_GATE_HELD n) = 1 ∧ Done 0xC9 0xB (s.freqData (Fin.ofNat 8 n.val)).1 [TDC_CHn_STAT_GATE_HELD n] c s s t

abbrev preTdcFreqRead (c : CmdIn) (s : State) (n : Fin 4) (p : Nat) : Prop :=
  Ready 14 s ∧ c.words = [0, n.val, 0] ∧ s.get (TDC_CHn_CTRL_MODE n) = 2 ∧ s.get (TDC_CHn_STAT_RESULT_VALID n) = 1 ∧ (s.tdc.ch[Fin.ofNat 8 n.val]).per = p ∧ p ≠ 0
/-- TDC_FREQ (R408, R413) with P2[0] = 0: period, residual, count, and the frequency (PRESC + 1) / T in µHz. -/
def tdcFreqRead : Prop := ∀ c s n p, preTdcFreqRead c s n p →
  ∃ t, exec (.tdcFreq c) s = .next t
    ∧ (∃ u : Nat, (2 * u * p ≤ 2 * (s.get (TDC_CHn_CTRL_PRESC n) + 1) * 2 ^ 24 * 10 ^ 15 + p ∧ 2 * (s.get (TDC_CHn_CTRL_PRESC n) + 1) * 2 ^ 24 * 10 ^ 15 < 2 * u * p + p) ∧ Done 0xC9 0 [p % 2 ^ 32, p / 2 ^ 32 % 2 ^ 32, s.get (TDC_CHn_RESID_PS n), s.get (TDC_CHn_NEDGE_COUNT n), u % 2 ^ 32, u / 2 ^ 32 % 2 ^ 32] [] c s s t)

abbrev preTdcGetStatus (c : CmdIn) (s : State) : Prop :=
  Ready 14 s ∧ c.words = []
/-- TDC_GET_STATUS (R413). -/
def tdcGetStatus : Prop := ∀ c s, preTdcGetStatus c s →
  ∃ t, exec (.tdcGetStatus c) s = .next t
    ∧ Done 0xCA 0 ([s.rawReg 14 0, s.rawReg 14 4] ++ (List.range 8).flatMap fun n => [s.rawReg 14 (0x1010 + 0x100 * n), s.get (TDC_CHn_STAMPS_COUNT n), s.get (TDC_CHn_REJ_COUNT n), s.get (TDC_CHn_DEAD_COUNT n), s.get (TDC_CHn_LOST_COUNT n)]) [] c s s t

end Sys2Proof.Claim

/-- An edge passes its prescaler and, outside the dead time, is stamped; in STAMP mode a stamp within the window of its reference enters the FIFO as a record of six words and any other is counted as rejected; in FREQ mode the stamps of a gate give period, residual and count at its close; a calibration sets the bin widths of R405 or fails under R406. TDC_CONFIG, TDC_CALIBRATE, TDC_READ, TDC_FREQ and TDC_GET_STATUS do what R413 gives them where their conditions hold. -/
def Obligations.TimeMeasurement : Prop :=
  Sys2Proof.Claim.edgePrescaled ∧ Sys2Proof.Claim.edgeDead ∧ Sys2Proof.Claim.edgeStampMode ∧
  Sys2Proof.Claim.stampAccepted ∧ Sys2Proof.Claim.stampEvery ∧ Sys2Proof.Claim.stampRejected ∧
  Sys2Proof.Claim.stampLost ∧ Sys2Proof.Claim.stampsDecided ∧ Sys2Proof.Claim.edgeGate ∧
  Sys2Proof.Claim.gateCloseOnce ∧ Sys2Proof.Claim.gateCloseCont ∧ Sys2Proof.Claim.tdcCalibrationGood ∧
  Sys2Proof.Claim.tdcCalibrationBad ∧ Sys2Proof.Claim.fifo0Read ∧ Sys2Proof.Claim.tdcConfig ∧
  Sys2Proof.Claim.tdcConfigOff ∧ Sys2Proof.Claim.tdcConfigBusy ∧ Sys2Proof.Claim.tdcCalibrate ∧
  Sys2Proof.Claim.tdcRead ∧ Sys2Proof.Claim.tdcFreqStart ∧ Sys2Proof.Claim.tdcFreqHeld ∧
  Sys2Proof.Claim.tdcFreqRead ∧ Sys2Proof.Claim.tdcGetStatus

namespace Sys2Proof.Claim
open Sys2Proof.Machine Sys2Proof.Machine.Reg

abbrev preDramRequest (s : State) (ch : Chan) (rq : DramReq) (p : Nat × Nat × Nat × Nat) : Prop :=
  s.domainOn 5 = true ∧ s.fabRuns = true ∧ s.on (DRAMC_CHSTAT_READY ch) = true ∧ s.on (DRAMC_CHSTAT_SELF_REF ch) = false ∧ rq.off.toNat < s.installed ch ∧ 4 ≤ rq.port.val ∧ (s.dram[ch]).queue = [] ∧ (s.dram[ch]).waiting = [] ∧ p = s.dramPlace ch rq.off.toNat
/-- DRAM_REQUEST (R369, R371) of a best-effort port to an empty channel: it enters the queue of its bank. -/
def dramRequest : Prop := ∀ s ch rq p, preDramRequest s ch rq p →
  ∃ t, exec (.dramRequest ch rq) s = .next t
    ∧ t = { s with dram := s.dram.set ch { s.dram[ch] with queue := [⟨rq.port, rq.write, p.1, p.2.1, p.2.2.1, p.2.2.2, s.cyc⟩] } }

abbrev preDramRequestPanic (s : State) (ch : Chan) (rq : DramReq) : Prop :=
  s.domainOn 5 = true ∧ s.fabRuns = true ∧ s.on (DRAMC_CHSTAT_READY ch) = true ∧ s.on (DRAMC_CHSTAT_SELF_REF ch) = false ∧ rq.off.toNat < s.installed ch ∧ s.portReach ch rq.port = true ∧ (rq.port = 3 ∨ (rq.port = 0 ∧ rq.write = true)) ∧ (s.dram[ch]).queue = [] ∧ (s.dram[ch]).waiting = [] ∧ s.get (DRAMC_PANICp_ON ch rq.port) = 1
/-- DRAM_REQUEST (R370) of a real-time port whose urgency reaches ON: panic. -/
def dramRequestPanic : Prop := ∀ s ch rq, preDramRequestPanic s ch rq →
  ∃ t, exec (.dramRequest ch rq) s = .next t
    ∧ t.get (DRAMC_PANICp_ACTIVE ch rq.port) = 1 ∧ (t.dram[ch]).queue.length = 1
    ∧ Only [DRAMC_PANICp_ACTIVE ch rq.port] s { s with dram := t.dram } t

abbrev preSlotActivate (s : State) (ch : Chan) (q : DramQ) (x : Nat) : Prop :=
  s.domainOn 5 = true ∧ s.fabRuns = true ∧ s.dramRuns ch = true ∧ x = max (s.dram[ch]).slot (s.nck ch s.cyc) ∧ x < s.nck ch (s.cyc + 1) ∧ (s.dram[ch]).queue = [q] ∧ (s.dram[ch]).rowOf q = none ∧ s.actOk ch q x = true ∧ 4 ≤ q.port ∧ q.group < 4
    ∧ s.get (owedF ch 0) = 0 ∧ s.get (owedF ch 1) = 0
/-- DRAM_COMMAND_SLOT (R371): with one request to a closed bank whose constraints are met, the bank is activated. -/
def slotActivate : Prop := ∀ s ch q x, preSlotActivate s ch q x →
  ∃ t, exec (.dramCommandSlot ch) s = .next t
    ∧ kget (bankKey q.rank q.bank) (t.dram[ch]).rows = some q.row ∧ kget (bankKey q.rank q.bank) (t.dram[ch]).actAt = some x ∧ (t.dram[ch]).queue = [q] ∧ (t.dram[ch]).lastAct = q.group ∧ (t.dram[ch]).slot = x + 1
    ∧ t.regs = s.regs ∧ t.mem = s.mem ∧ t.dram[1 - ch] = s.dram[1 - ch]

abbrev preSlotHit (s : State) (ch : Chan) (q : DramQ) (x : Nat) : Prop :=
  s.domainOn 5 = true ∧ s.fabRuns = true ∧ s.dramRuns ch = true ∧ x = max (s.dram[ch]).slot (s.nck ch s.cyc) ∧ x < s.nck ch (s.cyc + 1) ∧ (s.dram[ch]).queue = [q] ∧ (s.dram[ch]).waiting = [] ∧ (s.dram[ch]).rowOf q = some q.row ∧ s.rwOk ch q x = true ∧ 4 ≤ q.port ∧ s.get (DRAMC_IDLE_IDLE_TMO ch) ≠ 0
    ∧ s.get (owedF ch 0) = 0 ∧ s.get (owedF ch 1) = 0
/-- DRAM_COMMAND_SLOT (R371, R372): a request to the open row whose constraints are met is served and leaves its queue. -/
def slotHit : Prop := ∀ s ch q x, preSlotHit s ch q x →
  ∃ t, exec (.dramCommandSlot ch) s = .next t
    ∧ (t.dram[ch]).queue = [] ∧ (t.dram[ch]).burstAt = some x ∧ (t.dram[ch]).rowOf q = some q.row ∧ (t.dram[ch]).slot = x + 1
    ∧ (if q.write then kget (bankKey q.rank q.bank) (t.dram[ch]).wrAt = some x else kget (bankKey q.rank q.bank) (t.dram[ch]).rdAt = some x)
    ∧ t.regs = s.regs ∧ t.mem = s.mem ∧ t.dram[1 - ch] = s.dram[1 - ch]

abbrev preSlotRefresh (s : State) (ch : Chan) (x : Nat) : Prop :=
  s.domainOn 5 = true ∧ s.fabRuns = true ∧ s.dramRuns ch = true ∧ x = max (s.dram[ch]).slot (s.nck ch s.cyc) ∧ x < s.nck ch (s.cyc + 1) ∧ s.allowance ch < s.get (owedF ch 0) ∧ (s.dram[ch]).rows = [] ∧ (s.dram[ch]).preAt = [] ∧ (s.dram[ch]).refAt[0] = none
/-- DRAM_COMMAND_SLOT (R374): a rank that owes more than the allowance, with no bank open, is refreshed, and that is counted. -/
def slotRefresh : Prop := ∀ s ch x, preSlotRefresh s ch x →
  ∃ t, exec (.dramCommandSlot ch) s = .next t
    ∧ t.get (owedF ch 0) = s.get (owedF ch 0) - 1 ∧ (t.dram[ch]).refAt[0] = some x ∧ t.get (DRAMC_REF_FORCED_COUNT ch) = min (s.get (DRAMC_REF_FORCED_COUNT ch) + 1) (2 ^ 32 - 1) ∧ (t.dram[ch]).queue = (s.dram[ch]).queue
    ∧ SameRegs [owedF ch 0, DRAMC_REF_FORCED_COUNT ch] s t ∧ t.mem = s.mem ∧ t.dram[1 - ch] = s.dram[1 - ch]

abbrev preBankIdleTimeout (s : State) (ch : Chan) (r : Fin 2) (b : Fin 16) (row : Nat) : Prop :=
  s.domainOn 5 = true ∧ s.fabRuns = true ∧ s.dramRuns ch = true ∧ (s.dram[ch]).rows = [(bankKey r b, row)] ∧ s.get (DRAMC_IDLE_IDLE_TMO ch) ≠ 0 ∧ (s.dram[ch]).queue = []
    ∧ (s.dram[ch]).actAt = [(bankKey r b, 0)] ∧ (s.dram[ch]).rdAt = [] ∧ (s.dram[ch]).wrAt = [] ∧ s.get (DRAMC_IDLE_IDLE_TMO ch) < s.nck ch s.cyc ∧ s.get (DRAMC_TIM1_TRAS ch) ≤ s.nck ch s.cyc
/-- BANK_IDLE_TIMEOUT (R372): IDLE_TMO nCK without a request close the bank. -/
def bankIdleTimeout : Prop := ∀ s ch r b row, preBankIdleTimeout s ch r b row →
  ∃ t, exec (.bankIdleTimeout ch r b) s = .next t
    ∧ t = { s with dram := s.dram.set ch { s.dram[ch] with rows := [], preAt := kput (bankKey r b) (s.nck ch s.cyc) (s.dram[ch]).preAt } }

abbrev preRefreshTimerExpiry (s : State) (ch : Chan) (r : Fin 2) : Prop :=
  s.domainOn 5 = true ∧ s.fabRuns = true ∧ s.dramRuns ch = true ∧ r.val < s.ranks ch ∧ (s.dram[ch]).timer[r] < (s.cyc : Rat) + 1
/-- REFRESH_TIMER_EXPIRY (R374): one more refresh is owed to the rank. -/
def refreshTimerExpiry : Prop := ∀ s ch r, preRefreshTimerExpiry s ch r →
  ∃ t, exec (.refreshTimerExpiry ch r) s = .next t
    ∧ t.get (owedF ch r) = min (s.get (owedF ch r) + 1) (2 ^ (owedF ch r).w - 1) ∧ (t.dram[ch]).timer[r] = (s.dram[ch]).timer[r] + s.refInterval ch
    ∧ Only [owedF ch r] s { s with dram := t.dram } t

abbrev preTempHot (s : State) (ch : Chan) (v : BitVec 16) : Prop :=
  s.domainOn 5 = true ∧ s.fabRuns = true ∧ 800 ≤ v.toInt ∧ s.on (DRAMC_CHSTAT_HOT ch) = true
/-- DRAMC_TEMP_WRITE (R375, R376): from 80 °C on the channel is HOT; from 95 °C on OVERTEMP is flagged. -/
def tempHot : Prop := ∀ s ch v, preTempHot s ch v →
  ∃ t, exec (.dramcTempWrite ch v) s = .next t
    ∧ t.get (DRAMC_TEMP_TEMP ch) = v.toNat ∧ t.get (DRAMC_CHSTAT_HOT ch) = 1 ∧ (950 ≤ v.toInt → t.get (overF ch) = 1) ∧ (t.dram[ch]).tempAt = s.cyc
    ∧ Only [DRAMC_TEMP_TEMP ch, overF ch] s { s with dram := t.dram } t

abbrev preTempCrossing (s : State) (ch : Chan) (v : BitVec 16) : Prop :=
  s.domainOn 5 = true ∧ s.fabRuns = true ∧ 800 ≤ v.toInt ∧ v.toInt < 950 ∧ s.on (DRAMC_CHSTAT_HOT ch) = false ∧ s.on (DRAMC_CHSTAT_READY ch) = false
/-- DRAMC_TEMP_WRITE (R375): the crossing makes the channel HOT, and its timers restart at half the interval. -/
def tempCrossing : Prop := ∀ s ch v, preTempCrossing s ch v →
  ∃ t, exec (.dramcTempWrite ch v) s = .next t
    ∧ t.get (DRAMC_TEMP_TEMP ch) = v.toNat ∧ t.get (DRAMC_CHSTAT_HOT ch) = 1 ∧ t.get (hotF ch) = 1 ∧ (t.dram[ch]).timer = Vector.replicate 2 ((s.cyc : Rat) + s.nckCyc ch (s.get (DRAMC_REF_TREFI ch)) / 2)
    ∧ Only [DRAMC_TEMP_TEMP ch, DRAMC_CHSTAT_HOT ch, hotF ch] s { s with dram := t.dram } t

abbrev preTempCool (s : State) (_ch : Chan) (v : BitVec 16) : Prop :=
  s.domainOn 5 = true ∧ s.fabRuns = true ∧ v.toInt ≤ 770 ∧ v ≠ 0x8000
/-- DRAMC_TEMP_WRITE (R375): at 77 °C or below the channel is no longer HOT. -/
def tempCool : Prop := ∀ s ch v, preTempCool s ch v →
  ∃ t, exec (.dramcTempWrite ch v) s = .next t
    ∧ t.get (DRAMC_TEMP_TEMP ch) = v.toNat ∧ t.get (DRAMC_CHSTAT_HOT ch) = 0 ∧ t.get (hotF ch) = 0
    ∧ Only [DRAMC_TEMP_TEMP ch, DRAMC_CHSTAT_HOT ch, hotF ch] s { s with dram := t.dram } t

abbrev preTempStale (s : State) (ch : Chan) : Prop :=
  s.domainOn 5 = true ∧ s.fabRuns = true ∧ (s.dram[ch]).tempAt + 51200000 < s.cyc ∧ s.on (DRAMC_CHSTAT_READY ch) = false
/-- TEMP_STALE_TIMEOUT (R376): 128 ms without a reading count as HOT. -/
def tempStale : Prop := ∀ s ch, preTempStale s ch →
  ∃ t, exec (.tempStaleTimeout ch) s = .next t
    ∧ t.get (staleF ch) = 1 ∧ t.get (DRAMC_CHSTAT_HOT ch) = 1
    ∧ Only [staleF ch, DRAMC_CHSTAT_HOT ch, hotF ch] s { s with dram := t.dram } t ∨ s.on (DRAMC_CHSTAT_HOT ch) = true

abbrev preZqcsInterval (s : State) (ch : Chan) : Prop :=
  s.domainOn 5 = true ∧ s.fabRuns = true ∧ s.dramRuns ch = true ∧ (s.dram[ch]).zqDue ≤ s.cyc
/-- ZQCS_INTERVAL (R382). -/
def zqcsInterval : Prop := ∀ s ch, preZqcsInterval s ch →
  ∃ t, exec (.zqcsInterval ch) s = .next t
    ∧ t = { s with dram := s.dram.set ch { s.dram[ch] with zqs := (s.dram[ch]).zqs + 1, zqDue := s.cyc + 400000 * max 1 (s.get (DRAMC_ZQ_ZQ_INT ch)) } }

abbrev preDramcMrsGo (s : State) (ch : Chan) (r : Fin 2) (m : Fin 7) : Prop :=
  s.domainOn 5 = true ∧ s.fabRuns = true ∧ s.get (DRAMC_MRS_RANK ch) = r ∧ s.get (DRAMC_MRS_MR ch) = m ∧ r.val < s.ranks ch
/-- DRAMC_MRS_GO (R382): the mode register of an installed rank takes VALUE. -/
def dramcMrsGo : Prop := ∀ s ch r m, preDramcMrsGo s ch r m →
  ∃ t, exec (.dramcMrsGo ch) s = .next t
    ∧ ((t.dram[ch]).mr[r])[m] = s.get (DRAMC_MRS_VALUE ch) ∧ t = { s with dram := s.dram.set ch { s.dram[ch] with mr := (s.dram[ch]).mr.set r (((s.dram[ch]).mr[r]).set m (s.get (DRAMC_MRS_VALUE ch))) } }

abbrev preTrnStart (s : State) (ch : Chan) : Prop :=
  s.domainOn 5 = true ∧ s.fabRuns = true ∧ s.on (DRAMC_TRN_CTRL_MODE ch) = true ∧ (s.dram[ch]).pass = false
/-- TRN_START (R382): a pass begins, and DONE is cleared. -/
def trnStart : Prop := ∀ s ch, preTrnStart s ch →
  ∃ t, exec (.trnStart ch) s = .next t
    ∧ t.get (DRAMC_TRN_RESULT_DONE ch) = 0 ∧ Only [DRAMC_TRN_RESULT_DONE ch] s { s with dram := s.dram.set ch { s.dram[ch] with pass := true } } t

abbrev preTrainingPassComplete (s : State) (ch : Chan) (_v : BitVec 9) : Prop :=
  s.domainOn 5 = true ∧ s.fabRuns = true ∧ (s.dram[ch]).pass = true
/-- TRAINING_PASS_COMPLETE (R385). -/
def trainingPassComplete : Prop := ∀ s ch v, preTrainingPassComplete s ch v →
  ∃ t, exec (.trainingPassComplete ch v) s = .next t
    ∧ t.get (DRAMC_TRN_RESULT_PASS ch) = v.toNat ∧ t.get (DRAMC_TRN_RESULT_DONE ch) = 1
    ∧ Only [DRAMC_TRN_RESULT_PASS ch, DRAMC_TRN_RESULT_DONE ch] s { s with dram := s.dram.set ch { s.dram[ch] with pass := false } } t

abbrev preDramBringup (s : State) (ch : Chan) (b : BringIn) : Prop :=
  s.domainOn 5 = true ∧ s.fabRuns = true ∧ s.on (DRAMC_CHSTAT_TRAINING ch) = true ∧ s.on (DRAMC_CHSTAT_TRAINING (1 - ch)) = true ∧ s.on (DRAMC_CONFIG_EN ch) = true ∧ s.on (DRAMC_CHSTAT_READY ch) = false ∧ b.trained = true ∧ s.capGib ch ≤ 16 ∧ s.on (DRAMC_CONFIG_SKIP_TRAIN ch) = false ∧ s.get SYS_RST_CAUSE_CAUSE ≠ 5
/-- DRAM_BRINGUP (R382, R385): a channel whose training passed is READY with its capacity, its modes and delays; the other is still in bring-up. -/
def dramBringup : Prop := ∀ s ch b, preDramBringup s ch b →
  ∃ t, exec (.dramBringup ch b) s = .next t
    ∧ t.get (DRAMC_CHSTAT_READY ch) = 1 ∧ t.get (readyF ch) = 1 ∧ t.get (DRAMC_CHSTAT_TRAINING ch) = 0 ∧ t.get (DRAMC_CONFIG_CAP_GIB ch) = s.capGib ch ∧ t.get (owedF ch 0) = 0 ∧ t.get (owedF ch 1) = 0 ∧ t.get (DRAMC_VREF_VREF ch) = b.vref.toNat
    ∧ (t.dram[ch]).mr = Vector.replicate 2 (b.modes.map (·.toNat)) ∧ (t.dram[ch]).rows = [] ∧ (t.dram[ch]).queue = []
    ∧ (∀ i : Fin 9, t.get (DRAMC_DLYb_W_WR_DQS ch i) = (b.delays[i]).1.toNat ∧ t.get (DRAMC_DLYb_W_WR_DQ ch i) = (b.delays[i]).2.1.toNat ∧ t.get (DRAMC_DLYb_R_RD_GATE ch i) = (b.delays[i]).2.2.1.toNat ∧ t.get (DRAMC_DLYb_R_RD_DQS ch i) = (b.delays[i]).2.2.2.toNat)
    ∧ t = butNotes { s with dram := t.dram } t ∧ t.dram[1 - ch] = s.dram[1 - ch]

abbrev preDramLayout (s : State) (ch : Chan) (b : BringIn) : Prop :=
  s.domainOn 5 = true ∧ s.fabRuns = true ∧ s.on (DRAMC_CHSTAT_TRAINING ch) = true ∧ s.on (DRAMC_CHSTAT_TRAINING (1 - ch)) = false ∧ s.on (DRAMC_CONFIG_EN ch) = true ∧ s.on (DRAMC_CHSTAT_READY ch) = false ∧ b.trained = true ∧ s.capGib ch ≤ 16 ∧ s.get SYS_RST_CAUSE_CAUSE ≠ 5
    ∧ s.ctBase 0 = 0 ∧ s.stBase 0 = 0 ∧ s.accBase 0 = 0 ∧ s.resBase 0 = 0
/-- DRAM_BRINGUP (R383): once neither channel is in bring-up every area base of fibre A that is 0 takes its default. -/
def dramLayout : Prop := ∀ s ch b, preDramLayout s ch b →
  ∃ t, exec (.dramBringup ch b) s = .next t
    ∧ t.ctBase 0 = 0x8000000000 ∧ t.stBase 0 = 0x8004000000 ∧ t.accBase 0 = 0x8008000000 ∧ t.resBase 0 = 0x8010000000
    ∧ t.get (DRAMC_CHSTAT_READY ch) = 1 ∧ t = butNotes { s with dram := t.dram } t ∧ t.dram[1 - ch] = s.dram[1 - ch]

abbrev preDramTrainFail (s : State) (ch : Chan) (b : BringIn) : Prop :=
  s.domainOn 5 = true ∧ s.fabRuns = true ∧ s.on (DRAMC_CHSTAT_TRAINING ch) = true ∧ s.on (DRAMC_CHSTAT_TRAINING (1 - ch)) = true ∧ s.on (DRAMC_CONFIG_EN ch) = true ∧ s.on (DRAMC_CHSTAT_READY ch) = false ∧ b.trained = false ∧ s.get SYS_RST_CAUSE_CAUSE ≠ 5
/-- DRAM_BRINGUP (R385): a channel whose training failed is not READY, and TRAIN_FAIL is flagged; the other is still in bring-up. -/
def dramTrainFail : Prop := ∀ s ch b, preDramTrainFail s ch b →
  ∃ t, exec (.dramBringup ch b) s = .next t
    ∧ t.get (DRAMC_CHSTAT_READY ch) = 0 ∧ t.get (trainFailF ch) = 1 ∧ t.get (DRAMC_CHSTAT_TRAINING ch) = 0
    ∧ t = butNotes { s with dram := t.dram } t

abbrev preFillGo (s : State) (ch : Chan) (a n : Nat) : Prop :=
  s.domainOn 5 = true ∧ s.fabRuns = true ∧ s.get (DRAMC_FILL_CTRL_BUSY ch) = 0 ∧ s.fillAddr ch = a ∧ s.get (DRAMC_FILL_LEN_BURSTS ch) = n ∧ 1 ≤ n ∧ 0x8000000000 + ch.val * 0x400000000 ≤ a ∧ a + 64 * n ≤ 0x8000000000 + ch.val * 0x400000000 + s.installed ch
/-- FILL_GO (R381) of a range inside the channel's installed memory. -/
def fillGo : Prop := ∀ s ch a n, preFillGo s ch a n →
  ∃ t, exec (.fillGo ch) s = .next t
    ∧ t.get (DRAMC_FILL_CTRL_BUSY ch) = 1 ∧ Only [DRAMC_FILL_CTRL_BUSY ch] s { s with dram := s.dram.set ch { s.dram[ch] with fill := some (a, n) } } t

abbrev preFillComplete (s : State) (ch : Chan) (a n : Nat) : Prop :=
  s.domainOn 5 = true ∧ s.fabRuns = true ∧ (s.dram[ch]).fill = some (a, n) ∧ a % 64 = 0
/-- FILL_COMPLETE (R381): every byte of the range is 0, and nothing else changes in memory. -/
def fillComplete : Prop := ∀ s ch a n, preFillComplete s ch a n →
  ∃ t, exec (.fillComplete ch) s = .next t
    ∧ t.get (DRAMC_FILL_CTRL_BUSY ch) = 0 ∧ (t.dram[ch]).fill = none ∧ getBytes t.mem a (64 * n) = some (List.replicate (64 * n) 0) ∧ MemKept a (a + 64 * n) s t
    ∧ t.flash = s.flash ∧ t.eng = s.eng ∧ t.seq = s.seq ∧ t.out = s.out ∧ t.dram[1 - ch] = s.dram[1 - ch]

abbrev preCombiningTimeout (s : State) (h : Held32) : Prop :=
  s.scrub.combCmd = some h ∧ h.due < s.cyc ∧ s.fabRuns = true ∧ h.addr % 8 = 0 ∧ 0x1C0000 ≤ h.addr ∧ h.addr < 0x200000 ∧ Intact s h.addr
/-- COMBINING_TIMEOUT (R390): the held half of the command interface is written alone. -/
def combiningTimeout : Prop := ∀ s h, preCombiningTimeout s h →
  ∃ t, exec (.combiningTimeout .cmd) s = .next t
    ∧ t.scrub.combCmd = none ∧ getBytes t.mem h.addr 4 = some (bytesLE 4 h.val) ∧ MemKept h.addr (h.addr + 4) s t
    ∧ t = butNotes { s with mem := t.mem, ecc := t.ecc, scrub := { s.scrub with combCmd := none } } t ∧ SameRegs rptF s t

abbrev preScrubGo (s : State) : Prop :=
  s.domainOn 2 = true ∧ s.fabRuns = true ∧ s.get SCRUB_STATUS_BUSY = 0 ∧ s.scrubOk s.scrubStart (s.get SCRUB_WORDS_WORDS) = true
/-- SCRUB_GO (R392) of a range the scrubber may read. -/
def scrubGo : Prop := ∀ s, preScrubGo s →
  ∃ t, exec (.scrubGo) s = .next t
    ∧ t.get SCRUB_STATUS_BUSY = 1 ∧ t.get SCRUB_PASS_COUNT = min (s.get SCRUB_PASS_COUNT + 1) (2 ^ SCRUB_PASS_COUNT.w - 1) ∧ t.scrub.pass = some ⟨s.scrubStart, s.get SCRUB_WORDS_WORDS, 0, 0, 0, none, none⟩
    ∧ Only [SCRUB_STATUS_BUSY, SCRUB_PASS_COUNT] s { s with scrub := t.scrub } t

abbrev preScrubRange (s : State) : Prop :=
  s.domainOn 2 = true ∧ s.fabRuns = true ∧ s.get SCRUB_STATUS_BUSY = 0 ∧ s.scrubOk s.scrubStart (s.get SCRUB_WORDS_WORDS) = false
/-- SCRUB_GO (R392) of a range with a word outside: RANGE_ERR, and no pass begins. -/
def scrubRange : Prop := ∀ s, preScrubRange s →
  ∃ t, exec (.scrubGo) s = .next t
    ∧ t.get SCRUB_STATUS_RANGE_ERR = 1 ∧ Only [SCRUB_STATUS_RANGE_ERR] s s t

abbrev preScrubAbort (s : State) (p : Pass) : Prop :=
  s.domainOn 2 = true ∧ s.fabRuns = true ∧ s.scrub.pass = some p ∧ p.left ≠ 0 ∧ s.on OUT_STATUS_HOST_ACTIVE = false
/-- SCRUB_ABORT (R392, R393): the pass ends with what it has read. -/
def scrubAbort : Prop := ∀ s p, preScrubAbort s p →
  ∃ t, exec (.scrubAbort) s = .next t
    ∧ t.get SCRUB_STATUS_BUSY = 0 ∧ t.get SCRUB_STATUS_DONE = 1 ∧ t.get SCRUB_STATUS_ABORTED = 1 ∧ t.get SCRUB_SUM_READ_COUNT = p.read % 2 ^ 32 ∧ t.get SCRUB_SUM_CE_COUNT = p.ce % 2 ^ 32 ∧ t.get SCRUB_SUM_UE_COUNT = p.ue % 2 ^ 32 ∧ t.scrub.pass = none
    ∧ Only [SCRUB_STATUS_BUSY, SCRUB_STATUS_DONE, SCRUB_STATUS_ABORTED, SCRUB_SUM_READ_COUNT, SCRUB_SUM_CE_COUNT, SCRUB_SUM_UE_COUNT, SCRUB_SUM_CE_LO_ADDR, SCRUB_SUM_CE_HI_ADDR, SCRUB_SUM_UE_LO_ADDR, SCRUB_SUM_UE_HI_ADDR] s { s with scrub := t.scrub } t

abbrev preScrubPassComplete (s : State) (p : Pass) : Prop :=
  s.domainOn 2 = true ∧ s.fabRuns = true ∧ s.scrub.pass = some p ∧ p.left = 0 ∧ s.on OUT_STATUS_HOST_ACTIVE = false
/-- SCRUB_PASS_COMPLETE (R393): the summary holds what was read, and the first addresses. -/
def scrubPassComplete : Prop := ∀ s p, preScrubPassComplete s p →
  ∃ t, exec (.scrubPassComplete) s = .next t
    ∧ t.get SCRUB_STATUS_BUSY = 0 ∧ t.get SCRUB_STATUS_DONE = 1 ∧ t.get SCRUB_STATUS_ABORTED = 0 ∧ t.get SCRUB_SUM_READ_COUNT = p.read % 2 ^ 32 ∧ t.get SCRUB_SUM_CE_COUNT = p.ce % 2 ^ 32 ∧ t.get SCRUB_SUM_UE_COUNT = p.ue % 2 ^ 32
    ∧ t.get SCRUB_SUM_CE_LO_ADDR = lo32 (p.firstCe.getD 0) / 8 ∧ t.get SCRUB_SUM_UE_LO_ADDR = lo32 (p.firstUe.getD 0) / 8 ∧ t.scrub.pass = none
    ∧ Only [SCRUB_STATUS_BUSY, SCRUB_STATUS_DONE, SCRUB_STATUS_ABORTED, SCRUB_SUM_READ_COUNT, SCRUB_SUM_CE_COUNT, SCRUB_SUM_UE_COUNT, SCRUB_SUM_CE_LO_ADDR, SCRUB_SUM_CE_HI_ADDR, SCRUB_SUM_UE_LO_ADDR, SCRUB_SUM_UE_HI_ADDR] s { s with scrub := t.scrub } t

abbrev preScrubWaitExpiry (s : State) (p : Pass) : Prop :=
  s.domainOn 2 = true ∧ s.fabRuns = true ∧ s.scrub.pass = some p ∧ p.left ≠ 0 ∧ 16 ≤ s.scrub.wait ∧ NoHeld s ∧ Intact s p.next ∧ s.get PMON_CTRL_RUN = 0
/-- SCRUB_WAIT_EXPIRY (R392): after 16 cycles of waiting the scrubber reads its next word; one without error is counted alone. -/
def scrubWaitExpiry : Prop := ∀ s p, preScrubWaitExpiry s p →
  ∃ t, exec (.scrubWaitExpiry) s = .next t
    ∧ t.scrub.wait = 0 ∧ t.scrub.pass = some { p with next := p.next + 8, left := p.left - 1, read := p.read + 1 }
    ∧ t.regs = s.regs ∧ t.mem = s.mem ∧ t.ecc = s.ecc ∧ t.flash = s.flash ∧ t.out = s.out

abbrev preScrubCe (s : State) (p : Pass) : Prop :=
  s.domainOn 2 = true ∧ s.fabRuns = true ∧ s.scrub.pass = some p ∧ p.left ≠ 0 ∧ 16 ≤ s.scrub.wait ∧ NoHeld s ∧ (getBytes s.mem p.next 8).isSome = true ∧ kget p.next s.ecc = some false ∧ 0x200000 ≤ p.next
/-- SCRUB_WAIT_EXPIRY (R386, R393): a correctable word is counted by the pass and by the block, and its first address kept. -/
def scrubCe : Prop := ∀ s p, preScrubCe s p →
  ∃ t, exec (.scrubWaitExpiry) s = .next t
    ∧ t.scrub.wait = 0 ∧ t.scrub.pass = some { p with next := p.next + 8, left := p.left - 1, read := p.read + 1, ce := p.ce + 1, firstCe := p.firstCe.orElse fun _ => some p.next }
    ∧ t.get SCRUB_CE_CNT_COUNT = min (s.get SCRUB_CE_CNT_COUNT + 1) (2 ^ 32 - 1) ∧ t.get SCRUB_FLAGS_CE = 1 ∧ t.flash = s.flash ∧ t.eng = s.eng

abbrev preScrubInj (s : State) (_m : Fin 3) : Prop :=
  s.domainOn 2 = true ∧ s.fabRuns = true
/-- SCRUB_INJ (R395) of a defined mode. -/
def scrubInj : Prop := ∀ s m, preScrubInj s m →
  ∃ t, exec (.scrubInj (BitVec.ofNat 2 m.val)) s = .next t
    ∧ t.get SCRUB_INJ_MODE = m.val ∧ Only [SCRUB_INJ_MODE] s s t

end Sys2Proof.Claim

/-- A request enters its bank queue; a slot opens a row, serves a hit or refreshes; an idle bank is closed; an expired timer adds to what is owed; a hot or stale module makes the channel HOT; mode registers, training and bring-up end as 16 gives them; a fill writes zeros. A held half is written alone after 16 cycles; a pass begins over a range the scrubber may read, counts every word it reads, and ends with its summary, by itself or aborted; an injection mode is stored. -/
def Obligations.MemorySystem : Prop :=
  Sys2Proof.Claim.dramRequest ∧ Sys2Proof.Claim.dramRequestPanic ∧ Sys2Proof.Claim.slotActivate ∧
  Sys2Proof.Claim.slotHit ∧ Sys2Proof.Claim.slotRefresh ∧ Sys2Proof.Claim.bankIdleTimeout ∧
  Sys2Proof.Claim.refreshTimerExpiry ∧ Sys2Proof.Claim.tempHot ∧ Sys2Proof.Claim.tempCrossing ∧
  Sys2Proof.Claim.tempCool ∧ Sys2Proof.Claim.tempStale ∧ Sys2Proof.Claim.zqcsInterval ∧
  Sys2Proof.Claim.dramcMrsGo ∧ Sys2Proof.Claim.trnStart ∧ Sys2Proof.Claim.trainingPassComplete ∧
  Sys2Proof.Claim.dramBringup ∧ Sys2Proof.Claim.dramLayout ∧ Sys2Proof.Claim.dramTrainFail ∧
  Sys2Proof.Claim.fillGo ∧ Sys2Proof.Claim.fillComplete ∧ Sys2Proof.Claim.combiningTimeout ∧
  Sys2Proof.Claim.scrubGo ∧ Sys2Proof.Claim.scrubRange ∧ Sys2Proof.Claim.scrubAbort ∧
  Sys2Proof.Claim.scrubPassComplete ∧ Sys2Proof.Claim.scrubWaitExpiry ∧ Sys2Proof.Claim.scrubCe ∧
  Sys2Proof.Claim.scrubInj

namespace Sys2Proof.Claim
open Sys2Proof.Machine Sys2Proof.Machine.Reg

abbrev preArbiterAlarm (s : State) (g : Fin 8) (a : Alarm) (rest : List Alarm) : Prop :=
  s.domainOn 4 = true ∧ s.fabRuns = true ∧ s.groupSends g = true ∧ s.hostGrp = some g ∧ s.on (LINK_GRPn_CTRL_LOOP g) = false ∧ s.out.alarms = a :: rest ∧ (s.grp[g]).resendQ = [] ∧ (s.grp[g]).replay = [] ∧ (s.grp[g]).blksA = [] ∧ 1 ≤ (s.grp[g]).crA ∧ (∀ p ∈ s.out.tx, p.typ ≠ 1)
    ∧ s.get LINK_ID_DEV_ID < 16 ∧ a.words.length = 10
/-- TRANSMIT_ARBITER_SERVE (R17, R296, R298): an alarm goes before what waits of class S and B, also inside a packet in transmission. -/
def arbiterAlarm : Prop := ∀ s g a rest, preArbiterAlarm s g a rest →
  ∃ t, exec (.transmitArbiterServe g) s = .next t
    ∧ t.out.alarms = rest ∧ t.get OUT_ALARM_SENT_COUNT = min (s.get OUT_ALARM_SENT_COUNT + 1) (2 ^ 32 - 1)
    ∧ (t.grp[g]).replay = [⟨0, false, s.get LINK_ID_DEV_ID, 0, (s.grp[g]).txA, wordsLE a.words⟩] ∧ (t.grp[g]).txA = ((s.grp[g]).txA + 1) % 4096 ∧ (t.grp[g]).crA = (s.grp[g]).crA - 1 ∧ (t.grp[g]).txSB = (s.grp[g]).txSB
    ∧ (t.grp[g]).blksA = packetBlks ⟨0, false, s.get LINK_ID_DEV_ID, 0, (s.grp[g]).txA, wordsLE a.words⟩ ∧ (t.grp[g]).blks = (s.grp[g]).blks
    ∧ t.out.tx = s.out.tx ∧ t.out.bulk = s.out.bulk ∧ t.mem = s.mem ∧ t.lane = s.lane ∧ t.eng = s.eng

abbrev preArbiterStream (s : State) (g : Fin 8) (p : Payload) (rest : List Payload) (o : Nat) : Prop :=
  s.domainOn 4 = true ∧ s.fabRuns = true ∧ s.groupSends g = true ∧ s.hostGrp = some g ∧ s.on (LINK_GRPn_CTRL_LOOP g) = false ∧ s.out.alarms = [] ∧ s.out.tx = p :: rest ∧ p.typ = 2 ∧ (s.grp[g]).fwd = [] ∧ (s.grp[g]).resendQ = [] ∧ (s.grp[g]).replay = [] ∧ (s.grp[g]).blksA = [] ∧ (s.grp[g]).blks = []
    ∧ s.get LINK_ID_DEV_ID < 16 ∧ p.bytes.length ≤ 2056 ∧ pktUnits p.bytes.length ≤ (s.grp[g]).crS ∧ (s.grp[g]).sinceB < 15 ∧ p.at_ = some o ∧ o + p.bytes.length ≤ 0x40000 ∧ p.bytes.length % 8 = 0
    ∧ getBytes s.mem (txAddr o) p.bytes.length = some p.bytes ∧ s.ecc = [] ∧ NoHeld s
/-- TRANSMIT_ARBITER_SERVE (R17, R18): with no class A packet to send, class S goes before class B until 15 others have gone. -/
def arbiterStream : Prop := ∀ s g p rest o, preArbiterStream s g p rest o →
  ∃ t, exec (.transmitArbiterServe g) s = .next t
    ∧ t.out.tx = rest ∧ t.get OUT_BUF_FREE_BYTES = (s.get OUT_BUF_FREE_BYTES + p.bytes.length) % 2 ^ OUT_BUF_FREE_BYTES.w
    ∧ (t.grp[g]).replay = [⟨1, false, s.get LINK_ID_DEV_ID, 0, (s.grp[g]).txSB, p.bytes⟩] ∧ (t.grp[g]).txSB = ((s.grp[g]).txSB + 1) % 4096 ∧ (t.grp[g]).crS = (s.grp[g]).crS - pktUnits p.bytes.length ∧ (t.grp[g]).blks = packetBlks ⟨1, false, s.get LINK_ID_DEV_ID, 0, (s.grp[g]).txSB, p.bytes⟩
    ∧ t.get (LINK_GRPn_PKTS_TX_COUNT g) = min (s.get (LINK_GRPn_PKTS_TX_COUNT g) + 1) (2 ^ 32 - 1) ∧ t.out.bulk = s.out.bulk ∧ t.out.alarms = [] ∧ t.mem = s.mem ∧ t.lane = s.lane

abbrev prePacketConsumed (s : State) (n : Fin 8) (p : RxPacket) : Prop :=
  s.domainOn 4 = true ∧ s.fabRuns = true ∧ s.grpUp n = true ∧ s.get (LINK_GRPn_CTRL_ROLE n) ≠ 1 ∧ s.on (LINK_GRPn_CTRL_LOOP n) = false ∧ p.cut = [] ∧ pktWhole p = true ∧ p.dir = false ∧ p.cls = 2 ∧ p.seq.val = (s.grp[n]).rxSB
/-- PACKET_RECEIVE (R288, R297) at a host group of a packet of DIR 0 in sequence: it is counted and acknowledged. -/
def packetConsumed : Prop := ∀ s n p, prePacketConsumed s n p →
  ∃ t, exec (.packetReceive n p) s = .next t
    ∧ (t.grp[n]).rxSB = ((s.grp[n]).rxSB + 1) % 4096 ∧ (t.grp[n]).ackDue = true ∧ (t.grp[n]).creditDue = true ∧ (t.grp[n]).freeB = (s.grp[n]).freeB + pktUnits p.payload.length
    ∧ t.get (LINK_GRPn_PKTS_RX_COUNT n) = min (s.get (LINK_GRPn_PKTS_RX_COUNT n) + 1) (2 ^ 32 - 1)
    ∧ Only [LINK_GRPn_PKTS_RX_COUNT n] s { s with grp := t.grp } t ∧ (∀ h : Fin 8, h ≠ n → t.grp[h] = s.grp[h])

abbrev prePacketForwarded (s : State) (n h : Fin 8) (p : RxPacket) : Prop :=
  s.domainOn 4 = true ∧ s.fabRuns = true ∧ s.grpUp n = true ∧ s.downRole n = true ∧ s.on (LINK_GRPn_CTRL_LOOP n) = false ∧ p.cut = [] ∧ pktWhole p = true ∧ p.dir = false ∧ p.cls = 0 ∧ p.seq.val = (s.grp[n]).rxA ∧ s.hostGrp = some h ∧ s.grpUp h = true
/-- PACKET_RECEIVE (R302, R303): a packet of DIR 0 from a DOWN group joins the forwarding queue of the group toward the host. -/
def packetForwarded : Prop := ∀ s n h p, prePacketForwarded s n h p →
  ∃ t, exec (.packetReceive n p) s = .next t
    ∧ (t.grp[n]).rxA = ((s.grp[n]).rxA + 1) % 4096 ∧ (t.grp[n]).ackDue = true ∧ (t.grp[h]).fwd = (s.grp[h]).fwd ++ [(n.val, ⟨0, false, p.src.val, p.dst.val, p.seq.val, p.payload⟩)]
    ∧ Only [LINK_GRPn_PKTS_RX_COUNT n] s { s with grp := t.grp } t

abbrev prePacketCommand (s : State) (n : Fin 8) (p : RxPacket) (b : List Byte) : Prop :=
  s.domainOn 4 = true ∧ s.fabRuns = true ∧ s.grpUp n = true ∧ s.on (LINK_GRPn_CTRL_LOOP n) = false ∧ p.cut = [] ∧ pktWhole p = true ∧ p.dir = true ∧ p.cls = 2 ∧ p.seq.val = (s.grp[n]).rxSB ∧ p.dst.val = s.get LINK_ID_DEV_ID ∧ p.payload = bytesLE 4 0x30 ++ b
    ∧ pktLenOk b = true ∧ pktCrcOk b = true ∧ s.cmd.resetting = false ∧ s.queueLevel < 16
/-- PACKET_RECEIVE (R302, R319): a COMMAND payload for this device's ID enters the command queue. -/
def packetCommand : Prop := ∀ s n p b, prePacketCommand s n p b →
  ∃ t, exec (.packetReceive n p) s = .next t
    ∧ t.cmd.queue = s.cmd.queue ++ [pktOf (.inband n p.src) b] ∧ (t.grp[n]).rxSB = ((s.grp[n]).rxSB + 1) % 4096
    ∧ Only [LINK_GRPn_PKTS_RX_COUNT n, CMD_RX_INBAND_COUNT] s { s with grp := t.grp, cmd := { s.cmd with queue := t.cmd.queue } } t

abbrev prePacketBad (s : State) (n : Fin 8) (p : RxPacket) : Prop :=
  s.domainOn 4 = true ∧ s.fabRuns = true ∧ s.grpUp n = true ∧ p.cut = [] ∧ pktWhole p = false
/-- PACKET_RECEIVE (R288, R297): a packet whose CRC or length is wrong is counted and asked for again. -/
def packetBad : Prop := ∀ s n p, prePacketBad s n p →
  ∃ t, exec (.packetReceive n p) s = .next t
    ∧ t.get (LINK_GRPn_CRC_ERR_COUNT n) = min (s.get (LINK_GRPn_CRC_ERR_COUNT n) + 1) (2 ^ 32 - 1) ∧ (t.grp[n]).ackDue = true
    ∧ (if p.cls = 0 then (t.grp[n]).nakA = true ∧ (t.grp[n]).nakSB = (s.grp[n]).nakSB else (t.grp[n]).nakSB = true ∧ (t.grp[n]).nakA = (s.grp[n]).nakA)
    ∧ (t.grp[n]).rxSB = (s.grp[n]).rxSB ∧ (t.grp[n]).rxA = (s.grp[n]).rxA ∧ Only [LINK_GRPn_CRC_ERR_COUNT n] s { s with grp := t.grp } t

abbrev prePacketGap (s : State) (n : Fin 8) (p : RxPacket) : Prop :=
  s.domainOn 4 = true ∧ s.fabRuns = true ∧ s.grpUp n = true ∧ p.cut = [] ∧ pktWhole p = true ∧ p.cls = 1 ∧ p.seq.val = (s.grp[n]).rxSB + 1
/-- PACKET_RECEIVE (R297): a whole packet ahead of the expected SEQ is not taken and asked for again. -/
def packetGap : Prop := ∀ s n p, prePacketGap s n p →
  ∃ t, exec (.packetReceive n p) s = .next t
    ∧ (t.grp[n]).nakSB = true ∧ (t.grp[n]).ackDue = true ∧ (t.grp[n]).rxSB = (s.grp[n]).rxSB ∧ t = { s with grp := t.grp }

abbrev preDownGroupStart (s : State) (n : Fin 8) : Prop :=
  s.domainOn 4 = true ∧ s.fabRuns = true ∧ s.grpOn n = true ∧ s.downRole n = true ∧ s.turnOf n = true
/-- DOWN_GROUP_START (R286): the first waiting DOWN group begins bring-up once no other is under way. -/
def downGroupStart : Prop := ∀ s n, preDownGroupStart s n →
  ∃ t, exec (.downGroupStart n) s = .next t
    ∧ (t.grp[n]).waiting = false ∧ (t.grp[n]).startedAt = s.cyc ∧ t.link.lastDown = some n.val ∧ (∀ k ∈ s.lanesOf n, t.on (LANE_CTRL_EN k) = true)
    ∧ t = butNotes { s with lane := t.lane, grp := t.grp, link := { s.link with lastDown := some n.val } } t ∨ s.out.alarms ≠ []

abbrev preRegularAm (s : State) (n : Fin 8) : Prop :=
  s.domainOn 4 = true ∧ s.fabRuns = true ∧ s.grpUp n = true ∧ (s.grp[n]).amDue < (s.cyc : Rat) + 1 ∧ (s.grp[n]).joining = [] ∧ s.grpState n = s.grpStateFor n (s.grpMask n) ∧ s.hostIsUp = s.on OUT_STATUS_HOST_ACTIVE ∧ s.on OUT_STATUS_HOST_ACTIVE = true ∧ s.get (LINK_GRPn_STATUS_TLANE n) = timingLane n (s.grpMask n)
/-- REGULAR_AM (R293): with no lane waiting the set stays, AM_SEQ moves on, and the next is 4,096 blocks away. -/
def regularAm : Prop := ∀ s n, preRegularAm s n →
  ∃ t, exec (.regularAm n) s = .next t
    ∧ (t.grp[n]).amSeq = ((s.grp[n]).amSeq + 1) % 256 ∧ (t.grp[n]).amDue = (s.grp[n]).amDue + 4096 * s.blkCyc n ∧ t.grpMask n = s.grpMask n
    ∧ (∀ k ∈ s.lanesOf n, s.inSet n k = true → (t.lane[k]).sent = some (2, 0x4B + (s.grp[n]).amSeq % 256 * 2 ^ 8 + s.grpMask n * 2 ^ 16 + 2 ^ 32))
    ∧ t.out = s.out ∧ t.mem = s.mem ∧ t.flash = s.flash ∧ t.link = s.link

abbrev preRegularAmAdds (s : State) (n k : Fin 8) : Prop :=
  s.domainOn 4 = true ∧ s.fabRuns = true ∧ s.grpUp n = true ∧ (s.grp[n]).amDue < (s.cyc : Rat) + 1 ∧ (s.grp[n]).joining = [k.val] ∧ k ∈ s.lanesOf n ∧ s.laneState k = 6 ∧ s.inSet n k = false ∧ s.grpMask n < 2 ^ s.grpWidth n
/-- REGULAR_AM (R293, R295): an ACTIVE lane that waits joins the set. -/
def regularAmAdds : Prop := ∀ s n k, preRegularAmAdds s n k →
  ∃ t, exec (.regularAm n) s = .next t
    ∧ t.grpMask n = s.grpMask n + 2 ^ (k.val - n.val) ∧ (t.grp[n]).joining = [] ∧ t.mem = s.mem ∧ t.flash = s.flash ∧ t.eng = s.eng

abbrev preReplayTimeout (s : State) (n : Fin 8) : Prop :=
  s.domainOn 4 = true ∧ s.fabRuns = true ∧ s.grpUp n = true ∧ (s.grp[n]).replay ≠ [] ∧ (s.grp[n]).ackAt + 400 * s.get LINK_REPLAY_REPLAY_TMO < s.cyc ∧ (s.grp[n]).resends < 7
/-- REPLAY_TIMEOUT (R298, R299): every packet not acknowledged is sent again, class A first. -/
def replayTimeout : Prop := ∀ s n, preReplayTimeout s n →
  ∃ t, exec (.replayTimeout n) s = .next t
    ∧ (t.grp[n]).resendQ = (s.grp[n]).replay.filter (fun p => p.cls == 0) ++ (s.grp[n]).replay.filter (fun p => p.cls != 0) ∧ (t.grp[n]).resends = (s.grp[n]).resends + 1
    ∧ t.get (LINK_GRPn_REPLAYS_COUNT n) = min (s.get (LINK_GRPn_REPLAYS_COUNT n) + 1) (2 ^ 32 - 1)
    ∧ Only [LINK_GRPn_REPLAYS_COUNT n] s { s with grp := t.grp } t ∧ (∀ h : Fin 8, h ≠ n → t.grp[h] = s.grp[h])

abbrev preTimingSetSend (s : State) (n : Fin 8) (_d : BitVec 64) : Prop :=
  s.domainOn 4 = true ∧ s.fabRuns = true ∧ s.grpUp n = true ∧ s.downRole n = true ∧ (s.grp[n]).setDue ≤ s.cyc ∧ (s.grp[n]).blksA = [] ∧ s.isWorker = false
/-- TIMING_SET_SEND (R304) on a DOWN group. -/
def timingSetSend : Prop := ∀ s n d, preTimingSetSend s n d →
  ∃ t, exec (.timingSetSend n d) s = .next t
    ∧ (t.grp[n]).setTx = some (s.timingSet n) ∧ (t.grp[n]).setSeq = ((s.grp[n]).setSeq + 1) % 32 ∧ (t.grp[n]).departed = d.toNat ∧ (t.grp[n]).setDue = s.cyc + 400 * s.get LINK_TIMING_TB_INT
    ∧ (t.lane[s.tlane n]).sent = some (2, timingBlk (s.timingSet n) 5) ∧ t = { s with grp := t.grp, lane := t.lane } ∧ (∀ h : Fin 8, h ≠ n → t.grp[h] = s.grp[h])

abbrev preTimingSetReceive (s : State) (n : Fin 8) (ts : TimingSet) (_a : BitVec 64) : Prop :=
  s.domainOn 4 = true ∧ s.fabRuns = true ∧ s.isWorker = true ∧ s.hostRole n = true ∧ s.grpUp n = true ∧ s.link.lastSet = none ∧ ts.startValid = false
/-- TIMING_SET_RECEIVE (R304, R307): the first set on a worker's UP group gives the reference its presence; without a predecessor it gives no stamp. -/
def timingSetReceive : Prop := ∀ s n ts a, preTimingSetReceive s n ts a →
  ∃ t, exec (.timingSetReceive n ts a) s = .next t
    ∧ t.get SEQ_REF_STATUS_PRESENT = 1 ∧ t.link.lastSet = some (ts.setSeq.val, a.toNat) ∧ t.link.setAt = s.cyc ∧ t.link.lastRx = some ts
    ∧ Only [SEQ_REF_STATUS_PRESENT] s { s with link := t.link } t

abbrev preEchoRequest (s : State) (g : Fin 8) (_d : BitVec 64) : Prop :=
  s.domainOn 4 = true ∧ s.fabRuns = true ∧ s.hostGrp = some g ∧ s.isWorker = true ∧ s.grpUp g = true ∧ s.link.echoDue ≤ s.cyc ∧ (s.grp[g]).echoOut = none ∧ (s.grp[g]).blksA = []
/-- ECHO_REQUEST (R306) of a worker: the next EID goes out on the timing lane. -/
def echoRequest : Prop := ∀ s g d, preEchoRequest s g d →
  ∃ t, exec (.echoRequest d) s = .next t
    ∧ (t.grp[g]).eid = ((s.grp[g]).eid + 1) % 128 ∧ (t.grp[g]).echoOut = some (((s.grp[g]).eid + 1) % 128, d.toNat) ∧ t.link.echoDue = s.cyc + 400 * s.get LINK_TIMING_ECHO_INT
    ∧ (t.lane[s.tlane g]).sent = some (2, 0x4B + ((s.grp[g]).eid + 1) % 128 * 2 ^ 9 + 0x6 * 2 ^ 32) ∧ t = { s with grp := t.grp, lane := t.lane, link := t.link }

abbrev preRouteSend (s : State) (g : Fin 8) : Prop :=
  s.domainOn 4 = true ∧ s.fabRuns = true ∧ s.hostGrp = some g ∧ s.isWorker = true ∧ s.grpUp g = true ∧ s.link.routeDue = true ∧ (s.grp[g]).blksA = []
/-- ROUTE_SEND (R301): the worker's own ID and those its DOWN groups reach. -/
def routeSend : Prop := ∀ s g, preRouteSend s g →
  ∃ t, exec (.routeSend) s = .next t
    ∧ t.link.routeDue = false ∧ t.link.routeSent = s.routeMask ∧ (t.lane[s.stripeLane g]).sent = some (2, 0x4B + s.routeMask * 2 ^ 8 + 0x7 * 2 ^ 32)
    ∧ t = { s with lane := t.lane, link := t.link, grp := s.grp.set g { s.grp[g] with stripe := (s.grp[g]).stripe + 1 } }

abbrev preLinkRunTrigger (s : State) (p : Nat) (x : Rat) : Prop :=
  s.domainOn 4 = true ∧ s.fabRuns = true ∧ s.link.linkTrig = some p ∧ s.instantOf p = some x ∧ s.due x = true ∧ s.get (SEQ_CTRL_TRIG_SRC 0) = 5 ∧ s.get (SEQ_CTRL_TRIG_SRC 1) ≠ 5 ∧ s.seqState 0 = 1
/-- LINK_RUN_TRIGGER (R309): at the run start phase a sequencer that waits for the link is triggered; here fibre A is, from ARMED. -/
def linkRunTrigger : Prop := ∀ s p x, preLinkRunTrigger s p x →
  ∃ t, exec (.linkRunTrigger) s = .next t
    ∧ t.seqState 0 = 2 ∧ (t.sq 0).start = some (s.gridPhase 0 (s.phaseOf 0 (s.nowNs + 160))) ∧ t.link.linkTrig = none ∧ t.link.runStart = none
    ∧ Only [SEQ_STATUS_STATE 0] s { s with seq := t.seq, link := t.link } t ∧ t.sq 1 = s.sq 1

abbrev preLinkSetId (c : CmdIn) (s : State) (m d : Nat) : Prop :=
  Ready 10 s ∧ c.words = [0, m, d] ∧ s.groupsOff = true ∧ m ≤ 1 ∧ d = 0 ∧ s.get LINK_ID_MODE ≠ 2
/-- LINK_SET_ID (R284) with every group off, without a step to or from a worker. -/
def linkSetId : Prop := ∀ c s m d, preLinkSetId c s m d →
  ∃ t, exec (.linkSetId c) s = .next t
    ∧ t.get LINK_ID_MODE = m ∧ t.get LINK_ID_DEV_ID = d ∧ t.get LINK_HOPS_HOPS = 0
    ∧ Done 0x90 stOk [] [LINK_ID_MODE, LINK_ID_DEV_ID, LINK_HOPS_HOPS] c s s t

abbrev preLinkSetWorker (c : CmdIn) (s : State) (d : Nat) : Prop :=
  Ready 10 s ∧ c.words = [0, 2, d] ∧ s.groupsOff = true ∧ 1 ≤ d ∧ d ≤ 15
/-- LINK_SET_ID to a worker (R284, R307): the epoch is no longer valid. -/
def linkSetWorker : Prop := ∀ c s d, preLinkSetWorker c s d →
  ∃ t, exec (.linkSetId c) s = .next t
    ∧ t.get LINK_ID_MODE = 2 ∧ t.get LINK_ID_DEV_ID = d ∧ Replied 0x90 stOk [] 0 c s t
    ∧ (s.get LINK_ID_MODE ≠ 2 → t.get SEQ_REF_STATUS_EPOCH_VALID = 0 ∧ t.link.lastSet = none)
    ∧ t.mem = s.mem ∧ t.flash = s.flash ∧ t.eng = s.eng ∧ t.lane = s.lane ∧ t.grp = s.grp

abbrev preLinkGroupConfigure (c : CmdIn) (s : State) (n : Fin 8) (w r : Nat) : Prop :=
  Ready 10 s ∧ c.words = [0, n.val, w, r, 0] ∧ s.groupOk n w r = true ∧ (s.grp[n]).conf = false ∧ s.lanesOn n w = false ∧ s.on (LINK_GRPn_CTRL_EN n) = false
/-- LINK_GROUP (R285) with EN 0 of a group not yet configured. -/
def linkGroupConfigure : Prop := ∀ c s n w r, preLinkGroupConfigure c s n w r →
  ∃ t, exec (.linkGroup c) s = .next t
    ∧ t.get (LINK_GRPn_CTRL_WIDTH n) = w ∧ t.get (LINK_GRPn_CTRL_ROLE n) = r ∧ (t.grp[n]).conf = true
    ∧ Done 0x91 stOk [t.rawReg 10 (0x1004 + 0x100 * n.val)] [LINK_GRPn_CTRL_WIDTH n, LINK_GRPn_CTRL_ROLE n] c s { s with grp := s.grp.set n { s.grp[n] with conf := true } } t

abbrev preLinkGroupEnable (c : CmdIn) (s : State) (n : Fin 8) : Prop :=
  Ready 10 s ∧ c.words = [0, n.val, s.get (LINK_GRPn_CTRL_WIDTH n), s.get (LINK_GRPn_CTRL_ROLE n), 1] ∧ s.groupOk n (s.get (LINK_GRPn_CTRL_WIDTH n)) (s.get (LINK_GRPn_CTRL_ROLE n)) = true ∧ (s.grp[n]).conf = true ∧ s.on (LINK_GRPn_CTRL_EN n) = false ∧ s.downRole n = false
/-- LINK_GROUP (R286) with EN 1 of a configured group toward the host: every lane of it is enabled, and the group is in BRINGUP. -/
def linkGroupEnable : Prop := ∀ c s n, preLinkGroupEnable c s n →
  ∃ t, exec (.linkGroup c) s = .next t
    ∧ t.on (LINK_GRPn_CTRL_EN n) = true ∧ t.grpState n = 1 ∧ t.grpMask n = 0 ∧ (∀ k ∈ s.lanesOf n, t.on (LANE_CTRL_EN k) = true)
    ∧ Replied 0x91 stOk [t.rawReg 10 (0x1004 + 0x100 * n.val)] 0 c s t ∧ t.mem = s.mem ∧ t.flash = s.flash ∧ t.eng = s.eng ∧ t.seq = s.seq

abbrev preLinkTimingCfg (c : CmdIn) (s : State) (v r a j : Nat) : Prop :=
  Ready 10 s ∧ c.words = [0, v, r, a, j] ∧ 10 ≤ v % 2 ^ 16 ∧ v % 2 ^ 16 ≤ 10000 ∧ 100 ≤ v / 2 ^ 16 ∧ v / 2 ^ 16 ≤ 60000 ∧ 2 ≤ r ∧ r ≤ 255 ∧ j ≤ 65535
/-- LINK_TIMING_CFG (R312). -/
def linkTimingCfg : Prop := ∀ c s v r a j, preLinkTimingCfg c s v r a j →
  ∃ t, exec (.linkTimingCfg c) s = .next t
    ∧ t.get LINK_TIMING_TB_INT = v % 2 ^ 16 ∧ t.get LINK_TIMING_ECHO_INT = v / 2 ^ 16 ∧ t.get LINK_REPLAY_REPLAY_TMO = r ∧ t.get LINK_ASYM_PS = a ∧ t.get LINK_RTT_JUMP_PS = j
    ∧ Done 0x92 stOk [] [LINK_TIMING_TB_INT, LINK_TIMING_ECHO_INT, LINK_REPLAY_REPLAY_TMO, LINK_ASYM_PS, LINK_RTT_JUMP_PS] c s s t

abbrev preLinkRunStart (c : CmdIn) (s : State) (l h : Nat) : Prop :=
  Ready 10 s ∧ c.words = [0, l, h] ∧ s.get LINK_ID_MODE = 1 ∧ s.on SEQ_REF_STATUS_EPOCH_VALID = true ∧ s.startOk (l + h * 2 ^ 32) = true
/-- LINK_RUN_START (R309) of a manager: the reply is the new RUN_GEN. -/
def linkRunStart : Prop := ∀ c s l h, preLinkRunStart c s l h →
  ∃ t, exec (.linkRunStart c) s = .next t
    ∧ t.link.runGen = (s.link.runGen + 1) % 16 ∧ t.link.runStart = some (l + h * 2 ^ 32) ∧ t.link.linkTrig = some (l + h * 2 ^ 32)
    ∧ Done 0x93 stOk [(s.link.runGen + 1) % 16] [] c s { s with link := t.link } t

abbrev preLinkLoop (c : CmdIn) (s : State) (n : Fin 8) (v : Fin 2) : Prop :=
  Ready 10 s ∧ c.words = [0, n.val, v.val] ∧ (s.grp[n]).conf = true ∧ s.on (LINK_GRPn_CTRL_EN n) = false
/-- LINK_LOOP (R311) of a configured group that is off. -/
def linkLoop : Prop := ∀ c s n v, preLinkLoop c s n v →
  ∃ t, exec (.linkLoop c) s = .next t
    ∧ t.get (LINK_GRPn_CTRL_LOOP n) = v.val ∧ Done 0x94 stOk [] [LINK_GRPn_CTRL_LOOP n] c s s t

abbrev preLinkTopology (c : CmdIn) (s : State) : Prop :=
  Ready 10 s ∧ c.words = []
/-- LINK_TOPOLOGY (R314): LINK_ID, LINK_HOPS and two words for each configured group in order. -/
def linkTopology : Prop := ∀ c s, preLinkTopology c s →
  ∃ t, exec (.linkTopology c) s = .next t
    ∧ Done 0x95 stOk ([s.rawReg 10 4, s.rawReg 10 8] ++ ([0, 1, 2, 3, 4, 5, 6, 7] : List (Fin 8)).flatMap fun g => if (s.grp[g]).conf then [s.rawReg 10 (0x1004 + 0x100 * g.val), s.rawReg 10 (0x1008 + 0x100 * g.val)] else []) [] c s s t

abbrev preLinkRttStatus (c : CmdIn) (s : State) : Prop :=
  Ready 10 s ∧ c.words = [] ∧ s.isWorker = true
/-- LINK_RTT_STATUS (R306, R314) on a worker. -/
def linkRttStatus : Prop := ∀ c s, preLinkRttStatus c s →
  ∃ t, exec (.linkRttStatus c) s = .next t
    ∧ Done 0x96 stOk [s.get LINK_RTT_PS, s.get LINK_DELAY_PS, s.get SEQ_REF_RESID_RESID, s.get LINK_ECHO_LOST_COUNT, s.get LINK_ECHO_OUTLIER_COUNT] [] c s s t

abbrev preLinkGetStatus (c : CmdIn) (s : State) (n : Fin 8) : Prop :=
  Ready 10 s ∧ c.words = [0, n.val] ∧ (s.grp[n]).conf = true
/-- LINK_GET_STATUS (R314). -/
def linkGetStatus : Prop := ∀ c s n, preLinkGetStatus c s n →
  ∃ t, exec (.linkGetStatus c) s = .next t
    ∧ Done 0x97 stOk ([s.rawReg 10 0x24] ++ (List.range 11).map (fun i => s.rawReg 10 (0x1000 + 0x100 * n.val + 4 * i)) ++ (List.range 6).map fun i => s.rawReg 10 (0x2C + 4 * i)) [] c s s t

end Sys2Proof.Claim

/-- The arbiter sends class A before S before B; a whole packet in sequence is consumed, forwarded or turned back, any other asks for a resend; a regular AM adds lanes; a timeout resends what is not acknowledged; timing sets, ECHO requests and ROUTE blocks go out when they are due; a run start phase triggers the sequencers that wait for the link. LINK_SET_ID, LINK_GROUP, LINK_TIMING_CFG, LINK_RUN_START, LINK_LOOP, LINK_TOPOLOGY, LINK_RTT_STATUS and LINK_GET_STATUS do what chapter 13 gives them where their conditions hold, and leave everything else. -/
def Obligations.Link : Prop :=
  Sys2Proof.Claim.arbiterAlarm ∧ Sys2Proof.Claim.arbiterStream ∧ Sys2Proof.Claim.packetConsumed ∧
  Sys2Proof.Claim.packetForwarded ∧ Sys2Proof.Claim.packetCommand ∧ Sys2Proof.Claim.packetBad ∧
  Sys2Proof.Claim.packetGap ∧ Sys2Proof.Claim.downGroupStart ∧ Sys2Proof.Claim.regularAm ∧
  Sys2Proof.Claim.regularAmAdds ∧ Sys2Proof.Claim.replayTimeout ∧ Sys2Proof.Claim.timingSetSend ∧
  Sys2Proof.Claim.timingSetReceive ∧ Sys2Proof.Claim.echoRequest ∧ Sys2Proof.Claim.routeSend ∧
  Sys2Proof.Claim.linkRunTrigger ∧ Sys2Proof.Claim.linkSetId ∧ Sys2Proof.Claim.linkSetWorker ∧
  Sys2Proof.Claim.linkGroupConfigure ∧ Sys2Proof.Claim.linkGroupEnable ∧ Sys2Proof.Claim.linkTimingCfg ∧
  Sys2Proof.Claim.linkRunStart ∧ Sys2Proof.Claim.linkLoop ∧ Sys2Proof.Claim.linkTopology ∧
  Sys2Proof.Claim.linkRttStatus ∧ Sys2Proof.Claim.linkGetStatus

namespace Sys2Proof.Claim
open Sys2Proof.Machine Sys2Proof.Machine.Reg

abbrev preRefclkLaneBad (s : State) : Prop :=
  s.domainOn 4 = true ∧ (∀ g : Fin 8, s.grpMask g = 0)
/-- REFCLK_LANE_BAD (R258) with no active set in any group: every enabled lane is in DETECT, every other stays as it was. -/
def refclkLaneBad : Prop := ∀ s, preRefclkLaneBad s →
  ∃ t, exec (.refclkLaneBad) s = .next t
    ∧ t.get LANE_FLAGS_REFCLK_BAD = 1 ∧ t.get LANE_QUAD_STATUS_REFCLK_OK = 0 ∧ t.get LANE_QUAD_STATUS_PLL_LOCK_Q0 = 0 ∧ t.get LANE_QUAD_STATUS_PLL_LOCK_Q1 = 0
    ∧ (∀ n : Fin 8, t.laneState n = if s.on (LANE_CTRL_EN n) then 1 else s.laneState n)
    ∧ (∀ n : Fin 8, s.on (LANE_CTRL_EN n) = false → t.lane[n] = s.lane[n])
    ∧ t = butNotes { s with lane := t.lane, grp := t.grp } t

abbrev preRefclkLaneOk (s : State) : Prop :=
  s.domainOn 4 = true
/-- REFCLK_LANE_OK (R513). -/
def refclkLaneOk : Prop := ∀ s, preRefclkLaneOk s →
  ∃ t, exec (.refclkLaneOk) s = .next t
    ∧ t.get LANE_QUAD_STATUS_REFCLK_OK = 1 ∧ Only [LANE_QUAD_STATUS_REFCLK_OK] s s t

abbrev preLanePllLock (s : State) (q : Fin 2) : Prop :=
  s.domainOn 4 = true ∧ s.on LANE_QUAD_STATUS_REFCLK_OK = true ∧ s.on (if q = 0 then LANE_QUAD_STATUS_PLL_LOCK_Q0 else LANE_QUAD_STATUS_PLL_LOCK_Q1) = false
/-- LANE_PLL_LOCK (R513): attempts of the quad's lanes are due at once. -/
def lanePllLock : Prop := ∀ s q, preLanePllLock s q →
  ∃ t, exec (.lanePllLock q) s = .next t
    ∧ t.get (if q = 0 then LANE_QUAD_STATUS_PLL_LOCK_Q0 else LANE_QUAD_STATUS_PLL_LOCK_Q1) = 1
    ∧ (∀ n : Fin 8, t.lane[n] = if n.val / 4 = q.val then { s.lane[n] with detects := 0, detDue := s.cyc } else s.lane[n])
    ∧ Only [if q = 0 then LANE_QUAD_STATUS_PLL_LOCK_Q0 else LANE_QUAD_STATUS_PLL_LOCK_Q1] s { s with lane := t.lane } t

abbrev preDetectFirst (s : State) (n : Fin 8) (found : Bool) : Prop :=
  s.domainOn 4 = true ∧ s.laneState n = 1 ∧ s.pllOf n = true ∧ (s.lane[n]).detDue ≤ s.cyc ∧ ((s.lane[n]).detects = 0 ∨ found = false)
/-- DETECT_ATTEMPT (R268): the next attempt is DET_INT away; a first positive one is remembered, a negative one forgets. -/
def detectFirst : Prop := ∀ s n found, preDetectFirst s n found →
  ∃ t, exec (.detectAttempt n found) s = .next t
    ∧ t.get (LANE_STATUS_TERM_DET n) = (if found then 1 else 0) ∧ t.lane = s.lane.set n { s.lane[n] with detects := if found then 1 else 0, detDue := s.cyc + 40000 * max 1 (s.get (LANE_TIMING_DET_INT n)) }
    ∧ Only [LANE_STATUS_TERM_DET n] s { s with lane := t.lane } t

abbrev preDetectSecond (s : State) (n : Fin 8) : Prop :=
  s.domainOn 4 = true ∧ s.laneState n = 1 ∧ s.pllOf n = true ∧ (s.lane[n]).detDue ≤ s.cyc ∧ (s.lane[n]).detects = 1 ∧ s.get (LANE_ES_STAT_BUSY n) = 0
/-- DETECT_ATTEMPT (R268, R269): the second positive attempt in a row takes the lane to TRAIN. -/
def detectSecond : Prop := ∀ s n, preDetectSecond s n →
  ∃ t, exec (.detectAttempt n true) s = .next t
    ∧ t.laneState n = 2 ∧ t.get (LANE_STATUS_TERM_DET n) = 1 ∧ t.get (LANE_STATUS_BIT_LOCK n) = 0 ∧ t.get (LANE_STATUS_BLK_LOCK n) = 0
    ∧ (t.lane[n]).trainDue = some (s.cyc + 400000 * s.get (LANE_TIMING_TRAIN_TMO n)) ∧ (t.lane[n]).slotNo = 0 ∧ (∀ m : Fin 8, m ≠ n → t.lane[m] = s.lane[m])
    ∧ SameRegs [LANE_STATUS_STATE n, LANE_STATUS_TERM_DET n, LANE_STATUS_BIT_LOCK n, LANE_STATUS_BLK_LOCK n, LANE_STATUS_TX_IDLE n, LANE_STATUS_RX_IDLE n] s t ∧ t = butNotes { s with lane := t.lane, freeCtr := t.freeCtr } t

abbrev preBitLock (s : State) (n : Fin 8) : Prop :=
  s.domainOn 4 = true ∧ s.laneState n = 2 ∧ s.get (LANE_CTRL_EQ_AUTO n) = 0 ∧ s.get (LANE_ES_STAT_BUSY n) = 0
/-- BIT_LOCK (R269, R275) with EQ_AUTO 0: the lane is in BITLOCK and CTLE_ACT is the CTLE setting. -/
def bitLock : Prop := ∀ s n, preBitLock s n →
  ∃ t, exec (.bitLock n) s = .next t
    ∧ t.laneState n = 3 ∧ t.get (LANE_STATUS_BIT_LOCK n) = 1 ∧ t.get (LANE_STATUS_CTLE_ACT n) = s.get (LANE_RXEQ_CTLE n) % 2 ^ (LANE_STATUS_CTLE_ACT n).w ∧ (t.lane[n]).goodSh = 0
    ∧ Only [LANE_STATUS_STATE n, LANE_STATUS_BIT_LOCK n, LANE_STATUS_CTLE_ACT n] s { s with lane := t.lane } t

abbrev preBitLockAuto (s : State) (n : Fin 8) : Prop :=
  s.domainOn 4 = true ∧ s.laneState n = 2 ∧ s.get (LANE_CTRL_EQ_AUTO n) = 1 ∧ s.get (LANE_ES_STAT_BUSY n) = 0 ∧ s.get (LANE_RXEQ_CTLE_MIN n) ≤ s.get (LANE_RXEQ_CTLE_MAX n) ∧ s.get (LANE_RXEQ_CTLE_MAX n) < 2 ^ (LANE_STATUS_CTLE_ACT n).w
/-- BIT_LOCK (R275) with EQ_AUTO 1: the adapted setting is free within its limits. -/
def bitLockAuto : Prop := ∀ s n, preBitLockAuto s n →
  ∃ t, exec (.bitLock n) s = .next t
    ∧ t.laneState n = 3 ∧ t.get (LANE_STATUS_BIT_LOCK n) = 1
    ∧ s.get (LANE_RXEQ_CTLE_MIN n) ≤ t.get (LANE_STATUS_CTLE_ACT n) ∧ t.get (LANE_STATUS_CTLE_ACT n) ≤ s.get (LANE_RXEQ_CTLE_MAX n)
    ∧ SameRegs [LANE_STATUS_STATE n, LANE_STATUS_BIT_LOCK n, LANE_STATUS_CTLE_ACT n] s t ∧ t = butNotes { s with lane := t.lane, freeCtr := t.freeCtr } t

abbrev preCdrLockLost (s : State) (n : Fin 8) : Prop :=
  s.domainOn 4 = true ∧ s.laneState n = 3 ∧ s.get (LANE_ES_STAT_BUSY n) = 0
/-- CDR_LOCK_LOST (R267) in BITLOCK: back to TRAIN. -/
def cdrLockLost : Prop := ∀ s n, preCdrLockLost s n →
  ∃ t, exec (.cdrLockLost n) s = .next t
    ∧ t.laneState n = 2 ∧ t.get (LANE_STATUS_BIT_LOCK n) = 0 ∧ t.get (LANE_STATUS_BLK_LOCK n) = 0 ∧ (t.lane[n]).trainDue = some (s.cyc + 400000 * s.get (LANE_TIMING_TRAIN_TMO n))
    ∧ Only [LANE_STATUS_STATE n, LANE_STATUS_BIT_LOCK n, LANE_STATUS_BLK_LOCK n, LANE_STATUS_TX_IDLE n, LANE_STATUS_RX_IDLE n] s { s with lane := t.lane } t

abbrev preTrainTimeout (s : State) (n : Fin 8) (d : Nat) : Prop :=
  s.domainOn 4 = true ∧ (s.lane[n]).trainDue = some d ∧ d < s.cyc ∧ 2 ≤ s.laneState n ∧ s.laneState n ≤ 4 ∧ s.get (LANE_ES_STAT_BUSY n) = 0
/-- TRAIN_TIMEOUT (R269, R357): the failure is counted and the lane is in DETECT. -/
def trainTimeout : Prop := ∀ s n d, preTrainTimeout s n d →
  ∃ t, exec (.trainTimeout n) s = .next t
    ∧ t.laneState n = 1 ∧ t.get (LANE_TRAIN_FAIL_COUNT n) = min (s.get (LANE_TRAIN_FAIL_COUNT n) + 1) (2 ^ (LANE_TRAIN_FAIL_COUNT n).w - 1) ∧ (t.get LANE_FLAGS_TRAIN_FAIL).testBit n.val = true
    ∧ SameRegs [LANE_STATUS_STATE n, LANE_TRAIN_FAIL_COUNT n, LANE_FLAGS_TRAIN_FAIL, LANE_STATUS_BIT_LOCK n, LANE_STATUS_BLK_LOCK n, LANE_STATUS_TX_IDLE n, LANE_STATUS_RX_IDLE n] s t ∧ t = butNotes { s with lane := t.lane, mgmt := { s.mgmt with life := t.mgmt.life } } t

abbrev preRetrain (s : State) (n : Fin 8) : Prop :=
  s.domainOn 4 = true ∧ 3 ≤ s.laneState n ∧ s.laneState n ≤ 7 ∧ s.grpOf n = none
/-- RETRAIN (R264, R267): counted as a loss of block lock; a lane of no group is in TRAIN. -/
def retrain : Prop := ∀ s n, preRetrain s n →
  ∃ t, exec (.retrain n) s = .next t
    ∧ t.laneState n = 2 ∧ t.get (LANE_LOL_CNT_COUNT n) = min (s.get (LANE_LOL_CNT_COUNT n) + 1) (2 ^ (LANE_LOL_CNT_COUNT n).w - 1) ∧ (t.get LANE_FLAGS_LOL).testBit n.val = true
    ∧ LogKept s t ∧ t.flash = s.flash ∧ t.grp = s.grp ∧ t.out = { s.out with bulk := t.out.bulk } ∧ t.eng = s.eng ∧ (∀ m : Fin 8, m ≠ n → t.lane[m] = s.lane[m])
    ∧ SameRegs (logF ++ [LANE_STATUS_STATE n, LANE_LOL_CNT_COUNT n, LANE_FLAGS_LOL, LANE_STATUS_BIT_LOCK n, LANE_STATUS_BLK_LOCK n, LANE_STATUS_TX_IDLE n, LANE_STATUS_RX_IDLE n, LANE_ES_STAT_BUSY n, LANE_ES_STAT_ABORTED n]) s t

abbrev preRetrainInGroup (s : State) (n g : Fin 8) : Prop :=
  s.domainOn 4 = true ∧ 3 ≤ s.laneState n ∧ s.laneState n ≤ 7 ∧ s.grpOf n = some g ∧ s.grpOn g = true ∧ g.val ≤ n.val ∧ s.inSet g n = true ∧ s.grpMask g < 2 ^ s.grpWidth g ∧ s.grpMask g ≠ 2 ^ (n.val - g.val) ∧ (s.grp[g]).replay = []
/-- RETRAIN of a lane of an active set (R294, R295): the set loses the lane, a RESTRIPE AM is sent on the rest, and the group stays up. -/
def retrainInGroup : Prop := ∀ s n g, preRetrainInGroup s n g →
  ∃ t, exec (.retrain n) s = .next t
    ∧ t.laneState n = 2 ∧ t.grpMask g = s.grpMask g - 2 ^ (n.val - g.val) ∧ t.grpState g = 3 ∧ t.get (LINK_GRPn_RESTRIPE_COUNT g) = min (s.get (LINK_GRPn_RESTRIPE_COUNT g) + 1) (2 ^ (LINK_GRPn_RESTRIPE_COUNT g).w - 1)
    ∧ (t.grp[g]).amSeq = ((s.grp[g]).amSeq + 1) % 256 ∧ (∀ h : Fin 8, h ≠ g → t.grp[h] = s.grp[h]) ∧ t.flash = s.flash ∧ LogKept s t

abbrev preTestModeEntry (s : State) (n : Fin 8) : Prop :=
  s.domainOn 4 = true ∧ s.get (LANE_CTRL_MODE n) = 0 ∧ s.grpOf n = none ∧ s.get (LANE_ES_STAT_BUSY n) = 0
/-- TEST_MODE_ENTRY (R281): a lane of no group goes from LINK to TEST. -/
def testModeEntry : Prop := ∀ s n, preTestModeEntry s n →
  ∃ t, exec (.testModeEntry n true) s = .next t
    ∧ t.laneState n = 8 ∧ t.get (LANE_CTRL_MODE n) = 1 ∧ t.get (LANE_STATUS_BLK_LOCK n) = 0 ∧ (t.lane[n]).trainDue = none ∧ (t.lane[n]).prbsBits = 0
    ∧ Only [LANE_CTRL_MODE n, LANE_STATUS_STATE n, LANE_STATUS_BLK_LOCK n, LANE_STATUS_TX_IDLE n, LANE_STATUS_RX_IDLE n] s { s with lane := t.lane } t

abbrev preTestModeExit (s : State) (n : Fin 8) : Prop :=
  s.domainOn 4 = true ∧ s.get (LANE_CTRL_MODE n) = 1 ∧ s.on (LANE_CTRL_EN n) = true ∧ s.get (LANE_ES_STAT_BUSY n) = 0
/-- TEST_MODE_ENTRY with MODE LINK (R281): LANE_TEST is cleared, and an enabled lane is in DETECT. -/
def testModeExit : Prop := ∀ s n, preTestModeExit s n →
  ∃ t, exec (.testModeEntry n false) s = .next t
    ∧ t.laneState n = 1 ∧ t.get (LANE_CTRL_MODE n) = 0 ∧ t.get (LANE_TEST_PRBS_TX n) = 0 ∧ t.get (LANE_TEST_PRBS_RX n) = 0 ∧ t.get (LANE_TEST_LOOP n) = 0 ∧ t.get (LANE_TEST_INJ_RATE n) = 0
    ∧ Only [LANE_CTRL_MODE n, LANE_STATUS_STATE n, LANE_STATUS_BIT_LOCK n, LANE_STATUS_BLK_LOCK n, LANE_STATUS_TX_IDLE n, LANE_STATUS_RX_IDLE n, LANE_TEST_PRBS_TX n, LANE_TEST_PRBS_RX n, LANE_TEST_LOOP n, LANE_TEST_INJ_RATE n, LANE_PRBS_STAT_PRBS_LOCK n] s { s with lane := t.lane } t

abbrev preBlockGainsLock (s : State) (n : Fin 8) (b : RxBlock) : Prop :=
  s.rxTerminated n = true ∧ s.laneState n = 3 ∧ (s.lane[n]).goodSh = 63 ∧ (b.sh = 1 ∨ b.sh = 2) ∧ s.get (LANE_STATUS_RX_IDLE n) = 0 ∧ s.get (LANE_STATUS_BLK_LOCK n) = 0 ∧ s.get (LANE_STATUS_BIT_LOCK n) = 1 ∧ s.get (LANE_ES_STAT_BUSY n) = 0
/-- BLOCK_RECEIVE (R263, R267): the 64th valid header in a row gives block lock in BITLOCK. -/
def blockGainsLock : Prop := ∀ s n b, preBlockGainsLock s n b →
  ∃ t, exec (.blockReceive n b) s = .next t
    ∧ t.laneState n = 4 ∧ t.get (LANE_STATUS_BLK_LOCK n) = 1 ∧ (t.lane[n]).descr = BitVec.ofNat 58 (b.payload.toNat / 2 ^ 6)
    ∧ Only [LANE_STATUS_STATE n, LANE_STATUS_BLK_LOCK n] s { s with lane := t.lane } t

abbrev preBlockHunts (s : State) (n : Fin 8) (b : RxBlock) : Prop :=
  s.rxTerminated n = true ∧ s.laneState n = 3 ∧ (b.sh = 0 ∨ b.sh = 3) ∧ s.get (LANE_STATUS_RX_IDLE n) = 0 ∧ s.get (LANE_STATUS_BLK_LOCK n) = 0 ∧ s.get (LANE_STATUS_BIT_LOCK n) = 1
/-- BLOCK_RECEIVE (R263): while hunting an invalid header slips the boundary by a bit, and the count starts afresh. -/
def blockHunts : Prop := ∀ s n b, preBlockHunts s n b →
  ∃ t, exec (.blockReceive n b) s = .next t
    ∧ t = { s with lane := s.lane.set n { s.lane[n] with goodSh := 0, slip := ((s.lane[n]).slip + 1) % 66, descr := BitVec.ofNat 58 (b.payload.toNat / 2 ^ 6) } }

abbrev preBlockBadHeader (s : State) (n : Fin 8) (b : RxBlock) : Prop :=
  s.rxTerminated n = true ∧ s.laneState n = 6 ∧ (b.sh = 0 ∨ b.sh = 3) ∧ b.elastic = false ∧ s.get (LANE_STATUS_RX_IDLE n) = 0 ∧ s.get (LANE_STATUS_BLK_LOCK n) = 1 ∧ (s.lane[n]).winBad < 31 ∧ (s.lane[n]).winBlocks < 63
/-- BLOCK_RECEIVE (R264): in lock a bad sync header is counted; below 32 in its window the lane stays locked. -/
def blockBadHeader : Prop := ∀ s n b, preBlockBadHeader s n b →
  ∃ t, exec (.blockReceive n b) s = .next t
    ∧ t.get (LANE_BAD_SH_COUNT n) = min (s.get (LANE_BAD_SH_COUNT n) + 1) (2 ^ (LANE_BAD_SH_COUNT n).w - 1) ∧ (t.lane[n]).winBad = (s.lane[n]).winBad + 1 ∧ (t.lane[n]).winBlocks = (s.lane[n]).winBlocks + 1
    ∧ Only [LANE_BAD_SH_COUNT n] s { s with lane := t.lane } t

abbrev preSlotTrain (s : State) (n : Fin 8) : Prop :=
  s.domainOn 4 = true ∧ (s.laneState n = 2 ∨ s.laneState n = 3)
/-- BLOCK_SLOT_TRANSMIT in TRAIN and BITLOCK (R265, R266, R270): one training block with RDY = 0 in each 16, idle blocks between. -/
def slotTrain : Prop := ∀ s n, preSlotTrain s n →
  ∃ t, exec (.blockSlotTransmit n) s = .next t
    ∧ (t.lane[n]).sent = some (2, if (s.lane[n]).slotNo % 16 = 0 then 0x4B + 0xA5 * 2 ^ 8 + n.val * 2 ^ 20 + 0x3C * 2 ^ 24 + 0xA * 2 ^ 32 else 0x1E)
    ∧ (t.lane[n]).slotNo = (s.lane[n]).slotNo + 1 ∧ t = { s with lane := s.lane.set n { s.lane[n] with sent := (t.lane[n]).sent, slotNo := (s.lane[n]).slotNo + 1, scr := BitVec.ofNat 58 (scr64 (s.lane[n]).scr.toNat (if (s.lane[n]).slotNo % 16 = 0 then 0x4B + 0xA5 * 2 ^ 8 + n.val * 2 ^ 20 + 0x3C * 2 ^ 24 + 0xA * 2 ^ 32 else 0x1E) / 2 ^ 6) } }

abbrev preIdleEntry (s : State) (n : Fin 8) : Prop :=
  s.domainOn 4 = true ∧ s.laneState n = 6 ∧ s.get (LANE_STATUS_TX_IDLE n) = 0 ∧ s.get (LANE_ES_STAT_BUSY n) = 0
/-- IDLE_ENTRY (R273) from ACTIVE: the transmitter is at electrical idle; the lane is EIDLE once the receiver is too. -/
def idleEntry : Prop := ∀ s n, preIdleEntry s n →
  ∃ t, exec (.idleEntry n) s = .next t
    ∧ t.get (LANE_STATUS_TX_IDLE n) = 1 ∧ t.laneState n = (if s.on (LANE_STATUS_RX_IDLE n) then 7 else 6)
    ∧ (t.lane[n]).sent = some (2, 0x4B + 0xA5 * 2 ^ 8 + 2 ^ 16 + 2 ^ 17 + n.val * 2 ^ 20 + 0x3C * 2 ^ 24 + 0xA * 2 ^ 32)
    ∧ Only [LANE_STATUS_TX_IDLE n, LANE_STATUS_STATE n] s { s with lane := t.lane } t

abbrev preFastExit (s : State) (n : Fin 8) : Prop :=
  s.domainOn 4 = true ∧ s.on (LANE_STATUS_TX_IDLE n) = true ∧ (s.lane[n]).burstLeft = 0
/-- FAST_EXIT (R274): a burst of 16 × BURST16 blocks begins. -/
def fastExit : Prop := ∀ s n, preFastExit s n →
  ∃ t, exec (.fastExit n) s = .next t
    ∧ t = { s with lane := s.lane.set n { s.lane[n] with burstLeft := 16 * s.get (LANE_TIMING_BURST16 n), slotNo := 0 } }

abbrev preEsStart (s : State) (n : Fin 8) : Prop :=
  s.domainOn 4 = true ∧ (s.laneState n = 4 ∨ s.laneState n = 5 ∨ s.laneState n = 6)
/-- ES_START (R277) in BLKLOCK, CAPX or ACTIVE. -/
def esStart : Prop := ∀ s n, preEsStart s n →
  ∃ t, exec (.esStart n) s = .next t
    ∧ t.get (LANE_ES_STAT_BUSY n) = 1 ∧ t.get (LANE_ES_ERR_COUNT n) = 0
    ∧ Only [LANE_ES_STAT_BUSY n, LANE_ES_ERR_COUNT n] s { s with lane := t.lane } t

abbrev preEsRefused (s : State) (n : Fin 8) : Prop :=
  s.domainOn 4 = true ∧ s.laneState n ≤ 3
/-- ES_START (R277) in a state without blocks: ABORTED. -/
def esRefused : Prop := ∀ s n, preEsRefused s n →
  ∃ t, exec (.esStart n) s = .next t
    ∧ t.get (LANE_ES_STAT_ABORTED n) = 1 ∧ Only [LANE_ES_STAT_ABORTED n] s s t

abbrev preEsAbort (s : State) (n : Fin 8) : Prop :=
  s.domainOn 4 = true ∧ s.on (LANE_ES_STAT_BUSY n) = true
/-- ES_ABORT (R277) of a scan in progress. -/
def esAbort : Prop := ∀ s n, preEsAbort s n →
  ∃ t, exec (.esAbort n) s = .next t
    ∧ t.get (LANE_ES_STAT_BUSY n) = 0 ∧ t.get (LANE_ES_STAT_ABORTED n) = 1 ∧ Only [LANE_ES_STAT_BUSY n, LANE_ES_STAT_ABORTED n] s s t

abbrev preEsScanDone (s : State) (n : Fin 8) (e : Nat) : Prop :=
  s.domainOn 4 = true ∧ s.on (LANE_ES_STAT_BUSY n) = true ∧ s.get (LANE_ES_ERR_COUNT n) = 0 ∧ e ≤ 2 ^ s.get (LANE_ES_CTRL_DWELL n) ∧ 10 ≤ s.get (LANE_ES_CTRL_DWELL n) ∧ s.get (LANE_ES_CTRL_DWELL n) ≤ 40 ∧ (s.lane[n]).esDue < (s.cyc : Rat) + 1
/-- ES_SCAN_DONE (R277) once 2^DWELL bits are compared. -/
def esScanDone : Prop := ∀ s n e, preEsScanDone s n e →
  ∃ t, exec (.esScanDone n e) s = .next t
    ∧ t.get (LANE_ES_STAT_BUSY n) = 0 ∧ t.get (LANE_ES_STAT_DONE n) = 1 ∧ t.get (LANE_ES_ERR_COUNT n) = min e (2 ^ (LANE_ES_ERR_COUNT n).w - 1)
    ∧ Only [LANE_ES_STAT_BUSY n, LANE_ES_STAT_DONE n, LANE_ES_ERR_COUNT n] s s t

abbrev preInjBit (s : State) (n : Fin 8) : Prop :=
  s.domainOn 4 = true ∧ s.laneState n = 8 ∧ s.get (LANE_TEST_PRBS_TX n) ≠ 0 ∧ (s.lane[n]).inj = false
/-- INJ (R279) in TEST with a generator running: one bit more will be inverted. -/
def injBit : Prop := ∀ s n, preInjBit s n →
  ∃ t, exec (.injBit n) s = .next t
    ∧ t = { s with lane := s.lane.set n { s.lane[n] with inj := true, inverted := (s.lane[n]).inverted + 1 } }

abbrev preInjRateInjection (s : State) (n : Fin 8) : Prop :=
  s.domainOn 4 = true ∧ s.laneState n = 8 ∧ s.get (LANE_TEST_PRBS_TX n) ≠ 0 ∧ s.get (LANE_TEST_INJ_RATE n) ≠ 0 ∧ (s.lane[n]).inj = false ∧ (s.lane[n]).rateAt + s.ratePeriod n < (s.cyc : Rat) + 1
/-- INJ_RATE_INJECTION (R279). -/
def injRateInjection : Prop := ∀ s n, preInjRateInjection s n →
  ∃ t, exec (.injRateInjection n) s = .next t
    ∧ t = { s with lane := s.lane.set n { s.lane[n] with inj := true, inverted := (s.lane[n]).inverted + 1, rateAt := (s.lane[n]).rateAt + s.ratePeriod n } }

abbrev prePrbsWrongBit (s : State) (n : Fin 8) (b : Bool) : Prop :=
  s.rxTerminated n = true ∧ s.laneState n = 8 ∧ s.get (LANE_TEST_PRBS_RX n) ≠ 0 ∧ s.get (LANE_TEST_LOOP n) = 0 ∧ s.get (LANE_CTRL_POL_RX n) = 0 ∧ s.get (LANE_PRBS_STAT_PRBS_LOCK n) = 1
    ∧ b ≠ prbsNext (s.get (LANE_TEST_PRBS_RX n)) (s.lane[n]).prbs ∧ ((s.lane[n]).prbsWin.filter id).length < 60 ∧ (s.lane[n]).prbsRem < 65535
/-- PRBS_BIT_RECEIVE (R278): in lock a bit that differs from the expected one is counted, and the checker goes on by its own sequence. -/
def prbsWrongBit : Prop := ∀ s n b, prePrbsWrongBit s n b →
  ∃ t, exec (.prbsBitReceive n b) s = .next t
    ∧ t.get (LANE_PRBS_ERR_COUNT n) = min (s.get (LANE_PRBS_ERR_COUNT n) + 1) (2 ^ (LANE_PRBS_ERR_COUNT n).w - 1) ∧ t.get (LANE_PRBS_STAT_PRBS_LOCK n) = 1
    ∧ (t.lane[n]).prbs = (2 * (s.lane[n]).prbs + (!b).toNat) % 2 ^ 31 ∧ (t.lane[n]).prbsRem = (s.lane[n]).prbsRem + 1
    ∧ Only [LANE_PRBS_ERR_COUNT n, LANE_PRBS_STAT_PRBS_LOCK n] s { s with lane := t.lane } t

abbrev prePrbsRightBit (s : State) (n : Fin 8) (b : Bool) : Prop :=
  s.rxTerminated n = true ∧ s.laneState n = 8 ∧ s.get (LANE_TEST_PRBS_RX n) ≠ 0 ∧ s.get (LANE_TEST_LOOP n) = 0 ∧ s.get (LANE_CTRL_POL_RX n) = 0 ∧ s.get (LANE_PRBS_STAT_PRBS_LOCK n) = 1
    ∧ b = prbsNext (s.get (LANE_TEST_PRBS_RX n)) (s.lane[n]).prbs ∧ ((s.lane[n]).prbsWin.filter id).length < 60 ∧ (s.lane[n]).prbsRem = 65535
/-- PRBS_BIT_RECEIVE (R278): an expected bit in lock counts nothing but itself, and the 65,536th counts one in PRBS_BITS. -/
def prbsRightBit : Prop := ∀ s n b, prePrbsRightBit s n b →
  ∃ t, exec (.prbsBitReceive n b) s = .next t
    ∧ t.get (LANE_PRBS_BITS_COUNT n) = min (s.get (LANE_PRBS_BITS_COUNT n) + 1) (2 ^ (LANE_PRBS_BITS_COUNT n).w - 1) ∧ (t.lane[n]).prbsRem = 0
    ∧ Only [LANE_PRBS_BITS_COUNT n, LANE_PRBS_STAT_PRBS_LOCK n] s { s with lane := t.lane } t

end Sys2Proof.Claim

/-- A lost reference takes every enabled lane to DETECT, a PLL lock begins detection, two positive attempts lead to TRAIN, bit lock to BITLOCK, 64 good sync headers to BLKLOCK; a lost CDR, a training timeout, a retrain and test mode take the lane back. 64 valid sync headers in a row give block lock, a bad one in lock is counted; the transmitter sends the training pattern and idle blocks, goes to electrical idle after four idle-entry blocks and leaves it with a burst. A scan starts only where the lane carries blocks, ends with its error count or with ABORTED; an injection inverts one transmitted bit; the checker counts a wrong bit and 65,536 bits at a time. -/
def Obligations.Lanes : Prop :=
  Sys2Proof.Claim.refclkLaneBad ∧ Sys2Proof.Claim.refclkLaneOk ∧ Sys2Proof.Claim.lanePllLock ∧
  Sys2Proof.Claim.detectFirst ∧ Sys2Proof.Claim.detectSecond ∧ Sys2Proof.Claim.bitLock ∧
  Sys2Proof.Claim.bitLockAuto ∧ Sys2Proof.Claim.cdrLockLost ∧ Sys2Proof.Claim.trainTimeout ∧
  Sys2Proof.Claim.retrain ∧ Sys2Proof.Claim.retrainInGroup ∧ Sys2Proof.Claim.testModeEntry ∧
  Sys2Proof.Claim.testModeExit ∧ Sys2Proof.Claim.blockGainsLock ∧ Sys2Proof.Claim.blockHunts ∧
  Sys2Proof.Claim.blockBadHeader ∧ Sys2Proof.Claim.slotTrain ∧ Sys2Proof.Claim.idleEntry ∧
  Sys2Proof.Claim.fastExit ∧ Sys2Proof.Claim.esStart ∧ Sys2Proof.Claim.esRefused ∧
  Sys2Proof.Claim.esAbort ∧ Sys2Proof.Claim.esScanDone ∧ Sys2Proof.Claim.injBit ∧
  Sys2Proof.Claim.injRateInjection ∧ Sys2Proof.Claim.prbsWrongBit ∧ Sys2Proof.Claim.prbsRightBit

namespace Sys2Proof.Claim
open Sys2Proof.Machine Sys2Proof.Machine.Reg

abbrev prePacketQueued (s : State) (_g : Fin 8) (_d : Fin 16) (b : List Byte) : Prop :=
  s.portUp = true ∧ 12 ≤ b.length ∧ pktN b ≤ 500 ∧ b.length = 12 + 4 * pktN b ∧ crc32c (b.take (8 + 4 * pktN b)) = ofBytesLE (b.drop (8 + 4 * pktN b)) ∧ s.cmd.resetting = false
    ∧ s.cmd.queue.length + (if s.cmd.exec.isSome then 1 else 0) < 16
/-- COMMAND_PACKET_RECEIVE (R323, R324): an in-band packet that passes checks 1 to 3 enters the queue. -/
def packetQueued : Prop := ∀ s g d b, prePacketQueued s g d b →
  ∃ t, exec (.commandPacketReceive (.inband g d) b) s = .next t
    ∧ t.cmd.queue = s.cmd.queue ++ [⟨.inband g d, b.getD 0 0, BitVec.ofNat 16 (ofBytesLE ((b.drop 2).take 2)), (toWords ((b.drop 8).take (4 * pktN b))).map (BitVec.ofNat 32)⟩]
    ∧ t.get CMD_RX_INBAND_COUNT = min (s.get CMD_RX_INBAND_COUNT + 1) (2 ^ 32 - 1)
    ∧ Only [CMD_RX_INBAND_COUNT] s { s with cmd := { s.cmd with queue := t.cmd.queue } } t

abbrev prePacketSpi (s : State) (b : List Byte) : Prop :=
  s.portUp = true ∧ 12 ≤ b.length ∧ pktN b ≤ 500 ∧ b.length = 12 + 4 * pktN b ∧ crc32c (b.take (8 + 4 * pktN b)) = ofBytesLE (b.drop (8 + 4 * pktN b)) ∧ s.cmd.resetting = false ∧ s.cmd.waiting = []
    ∧ s.cmd.queue.length + (if s.cmd.exec.isSome then 1 else 0) < 16
/-- COMMAND_PACKET_RECEIVE (R323, R324) at the SPI port. -/
def packetSpi : Prop := ∀ s b, prePacketSpi s b →
  ∃ t, exec (.commandPacketReceive .spi b) s = .next t
    ∧ t.cmd.queue = s.cmd.queue ++ [⟨.spi, b.getD 0 0, BitVec.ofNat 16 (ofBytesLE ((b.drop 2).take 2)), (toWords ((b.drop 8).take (4 * pktN b))).map (BitVec.ofNat 32)⟩]
    ∧ Only [CMD_RX_SPI_COUNT] s { s with cmd := { s.cmd with queue := t.cmd.queue } } t

abbrev prePacketLength (s : State) (b : List Byte) (c : CmdIn) : Prop :=
  s.portUp = true ∧ 4 ≤ b.length ∧ (b.length < 12 ∨ 500 < pktN b ∨ b.length ≠ 12 + 4 * pktN b) ∧ s.cmd.waiting = [] ∧ c = ⟨.spi, BitVec.ofNat 16 (ofBytesLE ((b.drop 2).take 2)), []⟩
/-- A packet of the wrong length is answered BAD_PARAM and not queued (R323). -/
def packetLength : Prop := ∀ s b c, prePacketLength s b c →
  ∃ t, exec (.commandPacketReceive .spi b) s = .next t
    ∧ Replied (b.getD 0 0).toNat stBadParam [] 0 c s t ∧ t.cmd.queue = s.cmd.queue ∧ SameRegs lastF s t ∧ t = repliedOnly s t

abbrev prePacketCrc (s : State) (b : List Byte) (c : CmdIn) : Prop :=
  s.portUp = true ∧ 12 ≤ b.length ∧ pktN b ≤ 500 ∧ b.length = 12 + 4 * pktN b ∧ crc32c (b.take (8 + 4 * pktN b)) ≠ ofBytesLE (b.drop (8 + 4 * pktN b)) ∧ s.cmd.waiting = [] ∧ c = ⟨.spi, BitVec.ofNat 16 (ofBytesLE ((b.drop 2).take 2)), []⟩
/-- A packet whose CRC is wrong is counted, answered BAD_CRC and not queued (R323). -/
def packetCrc : Prop := ∀ s b c, prePacketCrc s b c →
  ∃ t, exec (.commandPacketReceive .spi b) s = .next t
    ∧ Replied (b.getD 0 0).toNat stBadCrc [] 0 c s t ∧ t.cmd.queue = s.cmd.queue ∧ t.get CMD_FLAGS_BAD_CRC = 1 ∧ t.get CMD_CRC_ERR_COUNT = min (s.get CMD_CRC_ERR_COUNT + 1) (2 ^ 32 - 1)
    ∧ SameRegs (CMD_CRC_ERR_COUNT :: CMD_FLAGS_BAD_CRC :: lastF) s t ∧ t = repliedOnly s t

abbrev prePacketBusy (s : State) (b : List Byte) (c : CmdIn) : Prop :=
  s.portUp = true ∧ 12 ≤ b.length ∧ pktN b ≤ 500 ∧ b.length = 12 + 4 * pktN b ∧ crc32c (b.take (8 + 4 * pktN b)) = ofBytesLE (b.drop (8 + 4 * pktN b)) ∧ s.cmd.resetting = false ∧ s.cmd.waiting = [] ∧ c = ⟨.spi, BitVec.ofNat 16 (ofBytesLE ((b.drop 2).take 2)), []⟩
    ∧ 16 ≤ s.cmd.queue.length + (if s.cmd.exec.isSome then 1 else 0)
/-- With 16 entries occupied the packet is answered BUSY and not queued (R323, R324). -/
def packetBusy : Prop := ∀ s b c, prePacketBusy s b c →
  ∃ t, exec (.commandPacketReceive .spi b) s = .next t
    ∧ Replied (b.getD 0 0).toNat stBusy [] 0 c s t ∧ t.cmd.queue = s.cmd.queue ∧ t.get CMD_FLAGS_BUSY = 1
    ∧ SameRegs (CMD_BUSY_CNT_COUNT :: CMD_FLAGS_BUSY :: lastF) s t ∧ t = repliedOnly s t

abbrev preCommandDequeue (s : State) (p : CmdPkt) (rest : List CmdPkt) : Prop :=
  s.domainOn 1 = true ∧ s.cmd.exec = none ∧ s.cmd.queue = p :: rest ∧ s.cmd.resetting = false ∧ s.get MGMT_STATUS_PHASE = 4 ∧ knownOp p.op.toNat = true ∧ s.replyRoom p.src = true
/-- COMMAND_DEQUEUE (R323, R324, R325): in phase READY the oldest entry of a known opcode goes into execution. -/
def commandDequeue : Prop := ∀ s p rest, preCommandDequeue s p rest →
  ∃ t, exec (.commandDequeue) s = .next t
    ∧ t = { s with cmd := { s.cmd with queue := rest, exec := some p, execAt := s.cyc, execTmo := s.get CMD_TMO_MS } }

abbrev preDequeueUnknown (s : State) (p : CmdPkt) (rest : List CmdPkt) : Prop :=
  s.domainOn 1 = true ∧ s.cmd.exec = none ∧ s.cmd.queue = p :: rest ∧ s.cmd.resetting = false ∧ s.get MGMT_STATUS_PHASE = 4 ∧ knownOp p.op.toNat = false ∧ s.replyRoom p.src = true
/-- COMMAND_DEQUEUE of an unknown opcode answers BAD_OPCODE (R323). -/
def dequeueUnknown : Prop := ∀ s p rest, preDequeueUnknown s p rest →
  ∃ t, exec (.commandDequeue) s = .next t
    ∧ Replied p.op.toNat stBadOpcode [] 0 ⟨p.src, p.tag, p.ps⟩ s t ∧ t.cmd.queue = rest ∧ t.cmd.exec = none
    ∧ SameRegs lastF s t ∧ t = repliedOnly { s with cmd := { s.cmd with queue := rest } } t

abbrev preSpiPoll (s : State) : Prop :=
  s.portUp = true
/-- POLL (R333, R334): the port clocks out its status word. -/
def spiPoll : Prop := ∀ s, preSpiPoll s →
  ∃ t, exec (.spiPoll) s = .next t
    ∧ t.cmd.spiOut = bytesLE 4 s.portStatus ∧ t = { s with cmd := { s.cmd with spiOut := t.cmd.spiOut } }

abbrev preCmdWrite (s : State) (b : List Byte) : Prop :=
  s.portUp = true ∧ 12 ≤ b.length ∧ pktN b ≤ 500 ∧ b.length = 12 + 4 * pktN b ∧ crc32c (b.take (8 + 4 * pktN b)) = ofBytesLE (b.drop (8 + 4 * pktN b)) ∧ s.cmd.resetting = false ∧ s.cmd.waiting = []
    ∧ s.cmd.queue.length + (if s.cmd.exec.isSome then 1 else 0) < 16
/-- CMD_WRITE of a good packet (R334, R335): the packet enters the queue, and the port's status word goes out. -/
def cmdWrite : Prop := ∀ s b, preCmdWrite s b →
  ∃ t, exec (.cmdWrite b) s = .next t
    ∧ t.cmd.spiOut.take 4 = bytesLE 4 s.portStatus ∧ t.cmd.queue.length = s.cmd.queue.length + 1 ∧ t.cmd.queue.take s.cmd.queue.length = s.cmd.queue ∧ t.get CMD_RX_SPI_COUNT = min (s.get CMD_RX_SPI_COUNT + 1) (2 ^ 32 - 1)
    ∧ Only [CMD_RX_SPI_COUNT] s { s with cmd := { s.cmd with queue := t.cmd.queue, spiOut := t.cmd.spiOut } } t

abbrev preCmdWriteShort (s : State) (b : List Byte) : Prop :=
  s.portUp = true ∧ b.length < 4
/-- CMD_WRITE of fewer than 4 bytes is a frame error (R335). -/
def cmdWriteShort : Prop := ∀ s b, preCmdWriteShort s b →
  ∃ t, exec (.cmdWrite b) s = .next t
    ∧ t.get CMD_FLAGS_FRAME_ERR = 1 ∧ t.get CMD_FRAME_ERR_COUNT = min (s.get CMD_FRAME_ERR_COUNT + 1) (2 ^ 32 - 1)
    ∧ Only [CMD_FLAGS_FRAME_ERR, CMD_FRAME_ERR_COUNT] s { s with cmd := { s.cmd with spiOut := t.cmd.spiOut } } t

abbrev preRplyRead (s : State) (_n : Nat) (r : List Byte) (rest : List (List Byte)) : Prop :=
  s.portUp = true ∧ s.cmd.replies = r :: rest ∧ s.cmd.waiting = [] ∧ s.cmd.heldIn = []
/-- RPLY_READ (R334, R336): the oldest reply, then zeros; read whole, it leaves the buffer. -/
def rplyRead : Prop := ∀ s n r rest, preRplyRead s n r rest →
  ∃ t, exec (.rplyRead n) s = .next t
    ∧ t.cmd.spiOut = bytesLE 4 s.portStatus ++ (r ++ List.replicate (n - r.length) 0).take n ∧ t.cmd.replies = (if r.length ≤ n then rest else r :: rest)
    ∧ t = { s with cmd := { s.cmd with spiOut := t.cmd.spiOut, replies := t.cmd.replies } }

abbrev preRplyReadEmpty (s : State) (_n : Nat) : Prop :=
  s.portUp = true ∧ s.cmd.replies = []
/-- RPLY_READ of an empty buffer gives zeros (R334). -/
def rplyReadEmpty : Prop := ∀ s n, preRplyReadEmpty s n →
  ∃ t, exec (.rplyRead n) s = .next t
    ∧ t.cmd.spiOut = bytesLE 4 s.portStatus ++ List.replicate n 0 ∧ t = { s with cmd := { s.cmd with spiOut := t.cmd.spiOut } }

abbrev preSpiBadOp (s : State) (op : BitVec 8) : Prop :=
  s.portUp = true ∧ 3 ≤ op.toNat
/-- SPI_BAD_OP (R334). -/
def spiBadOp : Prop := ∀ s op, preSpiBadOp s op →
  ∃ t, exec (.spiBadOp op) s = .next t
    ∧ t.get CMD_FLAGS_SPI_BAD_OP = 1 ∧ Only [CMD_FLAGS_SPI_BAD_OP] s { s with cmd := { s.cmd with spiOut := t.cmd.spiOut } } t

abbrev preNopCommand (c : CmdIn) (s : State) : Prop :=
  Ready 11 s ∧ c.words = []
/-- NOP (R329). -/
def nopCommand : Prop := ∀ c s, preNopCommand c s →
  ∃ t, exec (.nopCommand c) s = .next t
    ∧ Done 0x00 stOk [] [] c s s t

abbrev preIdentCmd (c : CmdIn) (s : State) : Prop :=
  Ready 11 s ∧ c.words = []
/-- IDENT (R329). -/
def identCmd : Prop := ∀ c s, preIdentCmd c s →
  ∃ t, exec (.identCmd c) s = .next t
    ∧ Done 0x01 stOk [0x5200106D, s.get MGMT_FW_VERSION_VERSION, s.get MGMT_STATUS_IMAGE, if s.reach 10 then s.rawReg 10 4 else 0] [] c s s t

abbrev preStatusCmd (c : CmdIn) (s : State) : Prop :=
  Ready 11 s ∧ c.words = []
/-- STATUS (R329). -/
def statusCmd : Prop := ∀ c s, preStatusCmd c s →
  ∃ t, exec (.statusCmd c) s = .next t
    ∧ Done 0x02 stOk [s.rawReg 0 4, s.get MGMT_STATUS_PHASE, s.rawReg 0 0x14, s.cmdStatus] [] c s s t

abbrev preResetCmd (c : CmdIn) (s : State) : Prop :=
  Ready 11 s ∧ c.words = [0x52000001]
/-- RESET (R326, R329): the device takes no further command and resets after its last reply. -/
def resetCmd : Prop := ∀ c s, preResetCmd c s →
  ∃ t, exec (.resetCmd c) s = .next t
    ∧ t.cmd.resetting = true ∧ s.cyc ≤ t.cmd.resetAt ∧ t.cmd.resetAt ≤ s.cyc + 400000
    ∧ Replied 0x05 stOk [] 0 c s t ∧ SameRegs lastF s t ∧ t.mem = s.mem ∧ t.flash = s.flash ∧ t.seq = s.seq ∧ t.eng = s.eng

abbrev preFactoryTest (c : CmdIn) (s : State) (_o : Fin 16) : Prop :=
  Ready 11 s ∧ c.ps.length ≤ 500
/-- The factory test opcodes 0xF0 to 0xFF are answered DENIED and have no effect (R328). -/
def factoryTest : Prop := ∀ c s o, preFactoryTest c s o →
  ∃ t, exec (.factoryTest o c) s = .next t
    ∧ Done (0xF0 + o.val) stDenied [] [] c s s t

end Sys2Proof.Claim

/-- A packet whose length and CRC hold enters the queue; one that fails is answered at once; the oldest entry is taken into execution while none executes; the port gives its status word and the reply bytes. NOP, IDENT, STATUS, RESET and the factory test opcodes are answered as R328 and R329 give it. -/
def Obligations.CommandIntake : Prop :=
  Sys2Proof.Claim.packetQueued ∧ Sys2Proof.Claim.packetSpi ∧ Sys2Proof.Claim.packetLength ∧
  Sys2Proof.Claim.packetCrc ∧ Sys2Proof.Claim.packetBusy ∧ Sys2Proof.Claim.commandDequeue ∧
  Sys2Proof.Claim.dequeueUnknown ∧ Sys2Proof.Claim.spiPoll ∧ Sys2Proof.Claim.cmdWrite ∧
  Sys2Proof.Claim.cmdWriteShort ∧ Sys2Proof.Claim.rplyRead ∧ Sys2Proof.Claim.rplyReadEmpty ∧
  Sys2Proof.Claim.spiBadOp ∧ Sys2Proof.Claim.nopCommand ∧ Sys2Proof.Claim.identCmd ∧
  Sys2Proof.Claim.statusCmd ∧ Sys2Proof.Claim.resetCmd ∧ Sys2Proof.Claim.factoryTest

namespace Sys2Proof.Claim
open Sys2Proof.Machine Sys2Proof.Machine.Reg

abbrev preHandoverHold (s : State) (f : Frame) (rest : List Frame) : Prop :=
  s.fabRuns = true ∧ s.out.offered = f :: rest ∧ s.strOn f.sid.code = true ∧ s.heldOf f.sid.code = []
/-- FRAME_HANDOVER (R249, R250): a stream with both slots free; the samples go to slot 0, in whole bursts (R379). -/
def handoverHold : Prop := ∀ s f rest, preHandoverHold s f rest →
  ∃ t, exec (.frameHandover) s = .next t
    ∧ t.out.offered = rest ∧ t.out.held.length = s.out.held.length + 1 ∧ (⟨{ f with samples := [] }, 0, f.samples.length, s.cyc⟩ : HeldFrame) ∈ t.out.held ∧ (∀ h ∈ s.out.held, h ∈ t.out.held)
    ∧ getBytes t.mem (s.slotAddr f.sid.code 0) (2 * f.samples.length) = some (sampleBytes f.samples)
    ∧ MemKept (s.slotAddr f.sid.code 0 / 64 * 64) ((s.slotAddr f.sid.code 0 + 2 * f.samples.length + 63) / 64 * 64) s t
    ∧ t.flash = s.flash ∧ t.eng = s.eng ∧ t.seq = s.seq ∧ t.lw = s.lw ∧ t.cmd = s.cmd ∧ t.out.tx = s.out.tx ∧ t.out.drops = s.out.drops

abbrev preHandoverDrop (s : State) (f : Frame) (rest : List Frame) : Prop :=
  s.fabRuns = true ∧ s.out.offered = f :: rest ∧ s.strOn f.sid.code = true ∧ (s.heldOf f.sid.code).map (·.slot) = [0, 1] ∧ (∀ d ∈ s.out.drops, d.1 ≠ f.sid.code)
/-- FRAME_HANDOVER (R250, R251): with both slots of its stream taken the frame is dropped, counted and named by the stream's marker. -/
def handoverDrop : Prop := ∀ s f rest, preHandoverDrop s f rest →
  ∃ t, exec (.frameHandover) s = .next t
    ∧ t.get OUT_DROP_COUNT_COUNT = min (s.get OUT_DROP_COUNT_COUNT + 1) (2 ^ 32 - 1) ∧ t.get OUT_FLAGS_DROP = 1
    ∧ Only [OUT_DROP_COUNT_COUNT, OUT_FLAGS_DROP] s { s with out := { s.out with offered := rest, drops := s.out.drops ++ [(f.sid.code, f.frameNo, 1)] } } t

abbrev preHandoverDiscard (s : State) (f : Frame) (rest : List Frame) : Prop :=
  s.fabRuns = true ∧ s.out.offered = f :: rest ∧ s.strOn f.sid.code = false
/-- FRAME_HANDOVER (R233): a frame of a disabled stream is discarded. -/
def handoverDiscard : Prop := ∀ s f rest, preHandoverDiscard s f rest →
  ∃ t, exec (.frameHandover) s = .next t
    ∧ t = { s with out := { s.out with offered := rest } }

abbrev preFrameEncode (s : State) (h : HeldFrame) (rest : List HeldFrame) (bs : List Byte) : Prop :=
  s.fabRuns = true ∧ s.out.enc = none ∧ s.out.held = h :: rest ∧ 32 ≤ s.get OUT_BUF_FREE_BYTES ∧ s.out.txAt + 32 ≤ 0x40000 ∧ NoHeld s ∧ s.ecc = [] ∧ s.get PMON_CTRL_RUN = 0
    ∧ (s.slotAddr h.frame.sid.code h.slot) % 8 = 0 ∧ getBytes s.mem (s.slotAddr h.frame.sid.code h.slot) ((2 * h.npos + 7) / 8 * 8) = some bs
/-- FRAME_ENCODE (R235, R250): the earliest frame leaves its slot and its FRAME_HEAD enters the transmit buffer. -/
def frameEncode : Prop := ∀ s h rest bs, preFrameEncode s h rest bs →
  ∃ t, exec (.frameEncode) s = .next t
    ∧ t.get OUT_BUF_FREE_BYTES = s.get OUT_BUF_FREE_BYTES - 32 ∧ t.out.held = rest
    ∧ t.out.enc.map (fun e => (e.frame, e.head, e.cmp, e.block)) = some ({ h.frame with samples := (samplesOf bs).take h.npos }, true, s.cmpOf h.frame.sid.code, 0)
    ∧ t.out.tx.map (fun p => (p.bytes.take 16, p.at_)) = s.out.tx.map (fun p => (p.bytes.take 16, p.at_)) ++ [(wordsLE [1 + h.frame.sid.code * 2 ^ 8 + h.frame.frameNo % 2 ^ 16 * 2 ^ 16, h.frame.frameNo, lo32 h.frame.ts, hi32 h.frame.ts], some s.out.txAt)]
    ∧ SameRegs [OUT_BUF_FREE_BYTES] s t ∧ MemKept (txAddr s.out.txAt) (txAddr s.out.txAt + 32) s t ∧ t.flash = s.flash ∧ t.eng = s.eng ∧ t.cmd = s.cmd

abbrev preBlockEncodeRaw (s : State) (e : Enc) : Prop :=
  s.fabRuns = true ∧ s.out.enc = some e ∧ e.head = true ∧ e.cmp = 0 ∧ e.block < e.nblk ∧ e.need ≤ s.get OUT_BUF_FREE_BYTES
/-- BLOCK_ENCODE with CMP 0 (R236, R242): the samples as they are, absent ones at the frame's end 0x8000, and the history follows. -/
def blockEncodeRaw : Prop := ∀ s e, preBlockEncodeRaw s e →
  ∃ t, exec (.blockEncode) s = .next t
    ∧ t.get OUT_BUF_FREE_BYTES = s.get OUT_BUF_FREE_BYTES - e.need ∧ t.out.enc.map (fun x => (x.block, x.recon)) = some (e.block + 1, e.recon ++ (e.frame.samples.drop (64 * e.block)).take 64)
    ∧ (e.block % 16 = 15 ∨ e.block + 1 = e.nblk → (t.out.tx.map (·.bytes)) = s.out.tx.map (·.bytes) ++ [wordsLE [2 + e.frame.sid.code * 2 ^ 8 + e.frame.frameNo % 2 ^ 16 * 2 ^ 16, e.block / 16 * 16 + (e.block % 16 + 1) * 2 ^ 16] ++ e.data ++ sampleBytes ((e.frame.samples.drop (64 * e.block)).take 64 ++ List.replicate (64 - ((e.frame.samples.drop (64 * e.block)).take 64).length) 0x8000)])
    ∧ getBytes t.mem (histBase e.frame.sid.code + 128 * e.block) (2 * ((e.frame.samples.drop (64 * e.block)).take 64).length) = some (sampleBytes ((e.frame.samples.drop (64 * e.block)).take 64))
    ∧ MemKept2 (histBase e.frame.sid.code + 128 * e.block) (histBase e.frame.sid.code + 128 * e.block + 128) (txAddr 0) (txAddr 0 + 0x40000) s t ∧ t.flash = s.flash ∧ t.eng = s.eng ∧ t.cmd = s.cmd ∧ t.out.held = s.out.held

abbrev preBlockEncodeCoded (s : State) (e : Enc) : Prop :=
  s.fabRuns = true ∧ s.out.enc = some e ∧ e.head = true ∧ e.cmp ≠ 0 ∧ e.cmp < 4 ∧ e.histReset = true ∧ e.block + 1 < e.nblk ∧ e.block % 16 ≠ 15 ∧ e.need ≤ s.get OUT_BUF_FREE_BYTES
/-- BLOCK_ENCODE of a frame with HIST_RESET (R243, R244, R245): the block as codeBlock gives it without history; the history is the reconstruction. -/
def blockEncodeCoded : Prop := ∀ s e, preBlockEncodeCoded s e →
  ∃ t, exec (.blockEncode) s = .next t
    ∧ t.get OUT_BUF_FREE_BYTES = s.get OUT_BUF_FREE_BYTES - e.need ∧ t.out.tx = s.out.tx
    ∧ t.out.enc.map (fun x => (x.block, x.data, x.recon)) = some (e.block + 1, e.data ++ (codeBlock e.cmp true (fun _ => false) ((e.frame.samples.drop (64 * e.block)).take 64) (List.replicate 64 none)).1, e.recon ++ (codeBlock e.cmp true (fun _ => false) ((e.frame.samples.drop (64 * e.block)).take 64) (List.replicate 64 none)).2)
    ∧ getBytes t.mem (histBase e.frame.sid.code + 128 * e.block) 128 = some (sampleBytes (codeBlock e.cmp true (fun _ => false) ((e.frame.samples.drop (64 * e.block)).take 64) (List.replicate 64 none)).2)
    ∧ MemKept (histBase e.frame.sid.code + 128 * e.block) (histBase e.frame.sid.code + 128 * e.block + 128) s t ∧ t.flash = s.flash ∧ t.eng = s.eng ∧ t.cmd = s.cmd ∧ t.out.held = s.out.held

abbrev preFrameTail (s : State) (e : Enc) : Prop :=
  s.fabRuns = true ∧ s.out.enc = some e ∧ e.head = true ∧ s.out.txAt + 16 ≤ 0x40000 ∧ e.nblk ≤ e.block ∧ 16 ≤ s.get OUT_BUF_FREE_BYTES
/-- FRAME_TAIL (R246): the number of blocks and the CRC-32C of the reconstruction. -/
def frameTail : Prop := ∀ s e, preFrameTail s e →
  ∃ t, exec (.frameTail) s = .next t
    ∧ t.out.enc = none ∧ t.out.tx = s.out.tx ++ [⟨wordsLE [3 + e.frame.sid.code * 2 ^ 8 + e.frame.frameNo % 2 ^ 16 * 2 ^ 16, e.nblk, crc32c (sampleBytes e.recon), 0], some s.out.txAt⟩] ∧ MemKept (txAddr s.out.txAt) (txAddr s.out.txAt + 16) s t
    ∧ t.get OUT_BUF_FREE_BYTES = s.get OUT_BUF_FREE_BYTES - 16
    ∧ t.histOf e.frame.sid.code = some ⟨e.frame.frameNo, e.frame.samples.length, e.frame.first, e.frame.spacing, e.cmp, crc32c (sampleBytes e.recon), true⟩
    ∧ Only [OUT_BUF_FREE_BYTES] s { s with mem := t.mem, ecc := t.ecc, out := { s.out with enc := none, tx := t.out.tx, txAt := t.out.txAt, hist := t.out.hist } } t

abbrev preDropMarkerSend (s : State) (sid : StreamId) (n k : Nat) (rest : List (Nat × Nat × Nat)) : Prop :=
  s.fabRuns = true ∧ s.on OUT_STATUS_HOST_ACTIVE = true ∧ s.midFrame sid.code = false ∧ s.out.drops = (sid.code, n, k) :: rest ∧ (∀ d ∈ rest, d.1 ≠ sid.code)
/-- DROP_MARKER_SEND (R251): with no frame of the stream in progress the marker is the next packet. -/
def dropMarkerSend : Prop := ∀ s sid n k rest, preDropMarkerSend s sid n k rest →
  ∃ t, exec (.dropMarkerSend sid) s = .next t
    ∧ t = { s with out := { s.out with drops := rest, tx := ⟨wordsLE [4 + sid.code * 2 ^ 8, n, k], none⟩ :: s.out.tx } }

abbrev preUserAreaPoll (s : State) (i : Fin 2) (seq len : Nat) (bs : List Byte) : Prop :=
  s.fabRuns = true ∧ s.on (userEn i) = true ∧ s.on (userHalt i) = false ∧ s.out.pollAt[i] ≤ s.cyc ∧ s.cyc < s.out.pollAt[i] + 1024 ∧ NoHeld s ∧ s.ecc = []
    ∧ seq < 2 ^ 32 ∧ seq ≠ s.out.served[i] ∧ len % 8 = 0 ∧ 8 ≤ len ∧ len ≤ 32736 ∧ getBytes s.mem (userBase i) 8 = some (wordsLE [seq, len]) ∧ getBytes s.mem (userBase i + 32) len = some bs
    ∧ Intact s (engMem (14 + i.val) 1 + 0x1FC00)
/-- USER_AREA_POLL (R254, R512): a new SEND_SEQ with a legal length becomes a bulk transfer, and SEND_SEQ goes back to the engine. -/
def userAreaPoll : Prop := ∀ s i seq len bs, preUserAreaPoll s i seq len bs →
  ∃ t, exec (.userAreaPoll (i == 1)) s = .next t
    ∧ t.out.bulk = s.out.bulk ++ [⟨4 + i.val, seq % 2 ^ 16, bs, 0, none, some (stageBase i)⟩] ∧ getBytes t.mem (stageBase i) len = some bs
    ∧ t.out.served[i] = seq ∧ t.out.pollAt[i] = s.out.pollAt[i] + 1024 ∧ getBytes t.mem (engMem (14 + i.val) 1 + 0x1FC00) 4 = some (bytesLE 4 seq)
    ∧ MemKept2 (engMem (14 + i.val) 1 + 0x1FC00) (engMem (14 + i.val) 1 + 0x1FC04) (stageBase i) (stageBase i + len) s t ∧ t.flash = s.flash ∧ t.eng = s.eng ∧ t.cmd = s.cmd ∧ t.seq = s.seq

abbrev preOutStreamOn (c : CmdIn) (s : State) (f : Fib) (i : Fin 18) : Prop :=
  Ready 8 s ∧ c.words = [0, f.val * 32 + i.val, 1] ∧ s.on OUT_STATUS_HOLD_VALID = true ∧ s.strOn (f.val * 32 + i.val) = false
/-- OUT_STREAM with EN 1 (R233, R245). -/
def outStreamOn : Prop := ∀ c s f i, preOutStreamOn c s f i →
  ∃ t, exec (.outStream c) s = .next t
    ∧ t.strOn (f.val * 32 + i.val) = true ∧ (∀ j : Fin 18, j ≠ i → t.strOn (f.val * 32 + j.val) = s.strOn (f.val * 32 + j.val))
    ∧ Done 0x80 stOk [] [if f = 0 then OUT_STREAM_EN_A_EN else OUT_STREAM_EN_B_EN] c s { s with out := { s.out with fresh := t.out.fresh, restored := t.out.restored } } t

abbrev preOutStreamOff (c : CmdIn) (s : State) (f : Fib) (i : Fin 18) : Prop :=
  Ready 8 s ∧ c.words = [0, f.val * 32 + i.val, 0] ∧ s.on OUT_STATUS_HOLD_VALID = true ∧ s.strOn (f.val * 32 + i.val) = true ∧ s.get (if f = 0 then OUT_STREAM_EN_A_EN else OUT_STREAM_EN_B_EN) < 2 ^ 18
/-- OUT_STREAM with EN 0 (R233). -/
def outStreamOff : Prop := ∀ c s f i, preOutStreamOff c s f i →
  ∃ t, exec (.outStream c) s = .next t
    ∧ t.strOn (f.val * 32 + i.val) = false ∧ (∀ j : Fin 18, j ≠ i → t.strOn (f.val * 32 + j.val) = s.strOn (f.val * 32 + j.val))
    ∧ Done 0x80 stOk [] [if f = 0 then OUT_STREAM_EN_A_EN else OUT_STREAM_EN_B_EN] c s s t

abbrev preOutCmp (c : CmdIn) (s : State) (f : Fib) (v : Nat) : Prop :=
  Ready 8 s ∧ c.words = [f.val, v] ∧ v &&& 0xFFFF003F = v
/-- OUT_CMP (R255, R256). -/
def outCmp : Prop := ∀ c s f v, preOutCmp c s f v →
  ∃ t, exec (.outCmp c) s = .next t
    ∧ t.get (if f = 0 then OUT_CMP_CFG_A_MAIN else OUT_CMP_CFG_B_MAIN) = v % 4 ∧ t.get (if f = 0 then OUT_CMP_CFG_A_LOUPE else OUT_CMP_CFG_B_LOUPE) = v / 4 % 4
    ∧ t.get (if f = 0 then OUT_CMP_CFG_A_TEMP else OUT_CMP_CFG_B_TEMP) = v / 16 % 4 ∧ t.get (if f = 0 then OUT_CMP_CFG_A_REFRESH else OUT_CMP_CFG_B_REFRESH) = v / 2 ^ 16
    ∧ Done 0x81 stOk [] (if f = 0 then [OUT_CMP_CFG_A_MAIN, OUT_CMP_CFG_A_LOUPE, OUT_CMP_CFG_A_TEMP, OUT_CMP_CFG_A_REFRESH] else [OUT_CMP_CFG_B_MAIN, OUT_CMP_CFG_B_LOUPE, OUT_CMP_CFG_B_TEMP, OUT_CMP_CFG_B_REFRESH]) c s s t

abbrev preOutMemSetup (c : CmdIn) (s : State) (l h : Nat) : Prop :=
  Ready 8 s ∧ c.words = [0, l, h] ∧ s.get OUT_STREAM_EN_A_EN = 0 ∧ s.get OUT_STREAM_EN_B_EN = 0 ∧ s.areaOk l h (3328 * 1024) = true
    ∧ (∀ f : Fib, overlap (baseOf l h) (3328 * 1024) (s.ctBase f) (1024 * s.ctKib f) = false ∧ overlap (baseOf l h) (3328 * 1024) (s.stBase f) (1024 * s.stKib f) = false ∧ overlap (baseOf l h) (3328 * 1024) (s.accBase f) (1024 * s.accKib f) = false ∧ overlap (baseOf l h) (3328 * 1024) (s.resBase f) (1024 * s.resKib f) = false)
/-- OUT_MEM_SETUP (R249, R256) with every stream disabled. -/
def outMemSetup : Prop := ∀ c s l h, preOutMemSetup c s l h →
  ∃ t, exec (.outMemSetup c) s = .next t
    ∧ t.holdBase = baseOf l h ∧ t.get OUT_STATUS_HOLD_VALID = 1
    ∧ Done 0x82 stOk [s.get OUT_HOLD_REQ_KIB] [OUT_HOLD_BASE_LO_ADDR, OUT_HOLD_BASE_HI_ADDR, OUT_STATUS_HOLD_VALID] c s s t

abbrev preOutCmpSave (c : CmdIn) (s : State) (f : Fib) (i : Fin 18) (l h : Nat) (x : HistInfo) (bs : List Byte) : Prop :=
  Ready 8 s ∧ c.words = [0, f.val * 32 + i.val, l, h] ∧ s.strOn (f.val * 32 + i.val) = false ∧ s.histOf (f.val * 32 + i.val) = some x ∧ x.coded = true ∧ s.imageOk l h (32 + 2 * x.npos) = true
    ∧ NoHeld s ∧ s.ecc = [] ∧ s.get PMON_CTRL_RUN = 0 ∧ x.npos % 4 = 0 ∧ getBytes s.mem (histBase (f.val * 32 + i.val)) (2 * x.npos) = some bs
/-- OUT_CMP_SAVE (R247): header of eight words and the history of a disabled stream. -/
def outCmpSave : Prop := ∀ c s f i l h x bs, preOutCmpSave c s f i l h x bs →
  ∃ t, exec (.outCmpSave c) s = .next t
    ∧ Replied 0x83 stOk [x.frameNo, x.crc] 0 c s t
    ∧ getBytes t.mem (baseOf l h) (32 + 2 * x.npos) = some (wordsLE [f.val * 32 + i.val, x.frameNo, x.npos, x.first + x.spacing * 2 ^ 17, x.crc, 0, 0, 0] ++ bs)
    ∧ MemKept (baseOf l h / 64 * 64) ((baseOf l h + 32 + 2 * x.npos + 63) / 64 * 64) s t ∧ SameRegs lastF s t ∧ t.flash = s.flash ∧ t.eng = s.eng ∧ t.out.hist = s.out.hist

abbrev preOutCmpRestore (c : CmdIn) (s : State) (f : Fib) (i : Fin 18) (l h fr n v crc : Nat) (bs : List Byte) : Prop :=
  Ready 8 s ∧ c.words = [0, f.val * 32 + i.val, l, h] ∧ s.strOn (f.val * 32 + i.val) = false ∧ s.imageOk l h (32 + 2 * n) = true ∧ s.imageOk l h 32 = true ∧ s.ecc = []
    ∧ 1 ≤ n ∧ n % 4 = 0 ∧ 2 * n ≤ histSize (f.val * 32 + i.val) ∧ fr < 2 ^ 32 ∧ v < 2 ^ 19 ∧ crc = crc32c bs ∧ bs.length = 2 * n
    ∧ getBytes s.mem (baseOf l h) (32 + 2 * n) = some (wordsLE [f.val * 32 + i.val, fr, n, v, crc, 0, 0, 0] ++ bs)
/-- OUT_CMP_RESTORE (R247): an image of the stream whose CRC holds becomes its history. -/
def outCmpRestore : Prop := ∀ c s f i l h fr n v crc bs, preOutCmpRestore c s f i l h fr n v crc bs →
  ∃ t, exec (.outCmpRestore c) s = .next t
    ∧ Replied 0x84 stOk [fr] 0 c s t ∧ getBytes t.mem (histBase (f.val * 32 + i.val)) (2 * n) = some bs
    ∧ (t.histOf (f.val * 32 + i.val)).map (fun x => (x.frameNo, x.npos, x.first, x.spacing, x.crc)) = some (fr, n, v % 2 ^ 17, v / 2 ^ 17, crc) ∧ (f.val * 32 + i.val) ∈ t.out.restored
    ∧ MemKept (histBase (f.val * 32 + i.val)) (histBase (f.val * 32 + i.val) + 2 * n) s t ∧ t.flash = s.flash ∧ t.eng = s.eng ∧ t.seq = s.seq

abbrev preOutSnapRead (c : CmdIn) (s : State) (o n : Nat) (bs : List Byte) : Prop :=
  Ready 8 s ∧ c.words = [0, o, n] ∧ o % 8 = 0 ∧ n % 8 = 0 ∧ 8 ≤ n ∧ o + n ≤ 0x200000 ∧ s.get LW_STATUS_CAP_STATE ≠ 1 ∧ s.get LW_STATUS_CAP_STATE ≠ 2 ∧ s.get BRIL_STATUS_DUMP_PEND = 0 ∧ s.get OUT_STATUS_SNAP_RD = 0
    ∧ NoHeld s ∧ s.ecc = [] ∧ c.src = .spi ∧ s.get PMON_CTRL_RUN = 0 ∧ getBytes s.mem (snapBase + o) n = some bs
/-- OUT_SNAP_READ (R253): the bytes become a bulk transfer of subtype 2 with the command's TAG. -/
def outSnapRead : Prop := ∀ c s o n bs, preOutSnapRead c s o n bs →
  ∃ t, exec (.outSnapRead c) s = .next t
    ∧ Replied 0x85 stOk [c.tag.toNat] 0 c s t ∧ t.get OUT_STATUS_SNAP_RD = 1
    ∧ t.out.bulk.map (fun b => (b.sub, b.tag, b.data)) = s.out.bulk.map (fun b => (b.sub, b.tag, b.data)) ++ [(2, c.tag.toNat, bs)]
    ∧ SameRegs (OUT_STATUS_SNAP_RD :: lastF) s t ∧ t.mem = s.mem ∧ t.flash = s.flash ∧ t.eng = s.eng

abbrev preOutUser (c : CmdIn) (s : State) (v : Nat) : Prop :=
  Ready 8 s ∧ c.words = [0, v] ∧ v ≤ 3
/-- OUT_USER (R254): an engine whose USER_EN rises is served from 0 on, its first poll after 1,024 cycles. -/
def outUser : Prop := ∀ c s v, preOutUser c s v →
  ∃ t, exec (.outUser c) s = .next t
    ∧ t.get OUT_CTRL_USER_EN14 = v % 2 ∧ t.get OUT_CTRL_USER_EN15 = v / 2
    ∧ (v % 2 = 1 ∧ s.on OUT_CTRL_USER_EN14 = false → t.get OUT_STATUS_USER_HALT14 = 0 ∧ t.out.served[0] = 0 ∧ t.out.pollAt[0] = s.cyc + 1024)
    ∧ (v / 2 = 1 ∧ s.on OUT_CTRL_USER_EN15 = false → t.get OUT_STATUS_USER_HALT15 = 0 ∧ t.out.served[1] = 0 ∧ t.out.pollAt[1] = s.cyc + 1024)
    ∧ Done 0x86 stOk [] [OUT_CTRL_USER_EN14, OUT_CTRL_USER_EN15, OUT_STATUS_USER_HALT14, OUT_STATUS_USER_HALT15] c s { s with out := { s.out with served := t.out.served, pollAt := t.out.pollAt } } t

abbrev preOutGetStatus (c : CmdIn) (s : State) : Prop :=
  Ready 8 s ∧ c.words = []
/-- OUT_GET_STATUS (R256). -/
def outGetStatus : Prop := ∀ c s, preOutGetStatus c s →
  ∃ t, exec (.outGetStatus c) s = .next t
    ∧ Done 0x87 stOk [s.rawReg 8 4, s.rawReg 8 0x38, s.out.alarms.length, s.get OUT_BUF_FREE_BYTES, s.get OUT_ASEQ_NEXT, s.get OUT_DROP_COUNT_COUNT, s.get OUT_STALL_CYC_COUNT, s.get OUT_ALARM_SENT_COUNT, s.get OUT_ALARM_DISC_COUNT, s.get OUT_FRAMES_COUNT] [] c s s t

end Sys2Proof.Claim

/-- A frame offered is held in a free slot of its stream, or dropped and marked, or discarded where the stream is off; a held frame is read back and its FRAME_HEAD written; a block is coded and its reconstruction becomes history; FRAME_TAIL carries the CRC of the reconstruction; a marker goes out at the next packet boundary; a served user area becomes a bulk transfer. OUT_STREAM, OUT_CMP, OUT_MEM_SETUP, OUT_CMP_SAVE, OUT_CMP_RESTORE, OUT_SNAP_READ, OUT_USER and OUT_GET_STATUS do what chapter 11 gives them where their conditions hold, and leave everything else. -/
def Obligations.Output : Prop :=
  Sys2Proof.Claim.handoverHold ∧ Sys2Proof.Claim.handoverDrop ∧ Sys2Proof.Claim.handoverDiscard ∧
  Sys2Proof.Claim.frameEncode ∧ Sys2Proof.Claim.blockEncodeRaw ∧ Sys2Proof.Claim.blockEncodeCoded ∧
  Sys2Proof.Claim.frameTail ∧ Sys2Proof.Claim.dropMarkerSend ∧ Sys2Proof.Claim.userAreaPoll ∧
  Sys2Proof.Claim.outStreamOn ∧ Sys2Proof.Claim.outStreamOff ∧ Sys2Proof.Claim.outCmp ∧
  Sys2Proof.Claim.outMemSetup ∧ Sys2Proof.Claim.outCmpSave ∧ Sys2Proof.Claim.outCmpRestore ∧
  Sys2Proof.Claim.outSnapRead ∧ Sys2Proof.Claim.outUser ∧ Sys2Proof.Claim.outGetStatus

namespace Sys2Proof.Claim
open Sys2Proof.Machine Sys2Proof.Machine.Reg

abbrev preSpectrumFirst (s : State) (f : Fib) (c : Capture) (rest : List Capture) (j : Int) : Prop :=
  CaptureReady s f c rest ∧ (∀ g ∈ c.clips, g < 4 * c.nextT ∨ 4 * c.nextT + 258 < g) ∧ s.on (BRIL_CTRL_EN f) = true
    ∧ InInterval s f c j ∧ kget c.nextT (s.bril[f]).counts = none
/-- SPECTRUM_DELIVERY (R120, R121, R195, R204): the first spectrum of a temperature position in an open interval writes its bins and its count 1. -/
def spectrumFirst : Prop := ∀ s f c rest j, preSpectrumFirst s f c rest j →
  ∃ t, exec (.spectrumDelivery f c.nextT) s = .next t
    ∧ kget c.nextT (t.bril[f]).counts = some 1 ∧ (t.bril[f]).open_ = some j
    ∧ (t.bril[f]).captures = (s.bril[f]).captures + (if (s.bril[f]).lastCap = some c.no then 0 else 1)
    ∧ (t.prism[f]).caps = (if s.tPos f ≤ c.nextT + 1 then rest else { c with nextT := c.nextT + 1 } :: rest) ∧ (t.prism[f]).specAt = s.cyc + 64
    ∧ getBytes t.mem (s.bankAddr f (s.get (BRIL_STAT_BANK f)) + 1024 * c.nextT) 1024 = some (wordsLE (s.spectrumOf f c (s.captureSamples f c c.nextT).1.1).1)
    ∧ MemKept (s.bankAddr f (s.get (BRIL_STAT_BANK f)) + 1024 * c.nextT) (s.bankAddr f (s.get (BRIL_STAT_BANK f)) + 1024 * c.nextT + 1024) s t
    ∧ t.flash = s.flash ∧ t.seq = s.seq ∧ t.eng = s.eng ∧ t.out = s.out ∧ t.cmd = s.cmd ∧ t.lw = s.lw

abbrev preSpectrumNext (s : State) (f : Fib) (c : Capture) (rest : List Capture) (j : Int) (xs : List Nat) (n : Nat) : Prop :=
  CaptureReady s f c rest ∧ (∀ g ∈ c.clips, g < 4 * c.nextT ∨ 4 * c.nextT + 258 < g) ∧ s.on (BRIL_CTRL_EN f) = true
    ∧ InInterval s f c j ∧ kget c.nextT (s.bril[f]).counts = some n ∧ 1 ≤ n ∧ n < 0xFFFFFF ∧ xs.length = 256 ∧ (∀ x ∈ xs, x < 2 ^ 32 - 65535)
    ∧ getBytes s.mem (s.bankAddr f (s.get (BRIL_STAT_BANK f)) + 1024 * c.nextT) 1024 = some (wordsLE xs) ∧ s.ecc = [] ∧ s.accBase f % 8 = 0
/-- SPECTRUM_DELIVERY (R195, R204): a further spectrum is added bin by bin, and the count rises, as long as no bin passes 2^32 − 1. -/
def spectrumNext : Prop := ∀ s f c rest j xs n, preSpectrumNext s f c rest j xs n →
  ∃ t, exec (.spectrumDelivery f c.nextT) s = .next t
    ∧ kget c.nextT (t.bril[f]).counts = some (n + 1)
    ∧ getBytes t.mem (s.bankAddr f (s.get (BRIL_STAT_BANK f)) + 1024 * c.nextT) 1024 = some (wordsLE (List.zipWith (· + ·) xs (s.spectrumOf f c (s.captureSamples f c c.nextT).1.1).1))
    ∧ MemKept (s.bankAddr f (s.get (BRIL_STAT_BANK f)) + 1024 * c.nextT) (s.bankAddr f (s.get (BRIL_STAT_BANK f)) + 1024 * c.nextT + 1024) s t
    ∧ t.flash = s.flash ∧ t.seq = s.seq ∧ t.eng = s.eng ∧ t.out = s.out ∧ t.cmd = s.cmd ∧ t.lw = s.lw

abbrev preSpectrumClip (s : State) (f : Fib) (c : Capture) (rest : List Capture) (g : Nat) : Prop :=
  CaptureReady s f c rest ∧ g ∈ c.clips ∧ 4 * c.nextT ≤ g ∧ g ≤ 4 * c.nextT + 258 ∧ (s.bril[f]).open_ = none
/-- SPECTRUM_DELIVERY (R122): a spectrum with a CLIP sample is counted and not accumulated. -/
def spectrumClip : Prop := ∀ s f c rest g, preSpectrumClip s f c rest g →
  ∃ t, exec (.spectrumDelivery f c.nextT) s = .next t
    ∧ t.get (PRISM_BRIL_CLIPEX_COUNT f) = min (s.get (PRISM_BRIL_CLIPEX_COUNT f) + 1) (2 ^ 32 - 1)
    ∧ (t.prism[f]).caps = (if s.tPos f ≤ c.nextT + 1 then rest else { c with nextT := c.nextT + 1 } :: rest) ∧ (t.prism[f]).specAt = s.cyc + 64
    ∧ Only [PRISM_BRIL_CLIPEX_COUNT f] s { s with prism := t.prism } t

abbrev preDescriptorPost (s : State) (f : Fib) (c : BrilClosed) : Prop :=
  s.fabRuns = true ∧ (s.bril[f]).open_ = none ∧ (s.bril[f]).closed = some c ∧ c.words.length = 6 ∧ (∀ i : Fin 8, Intact s (s.descAddr f 0 + 8 * i.val))
/-- DESCRIPTOR_POST (R201): words 1 to 14 and READY_SEQ, one more than before, in the fit engine's Y memory. -/
def descriptorPost : Prop := ∀ s f c, preDescriptorPost s f c →
  ∃ t, exec (.descriptorPost f) s = .next t
    ∧ (t.bril[f]).readySeq = ((s.bril[f]).readySeq + 1) % 2 ^ 32 ∧ (t.bril[f]).closed = none ∧ (t.bril[f]).posted = some c
    ∧ getBytes t.mem (s.descAddr f 0) 60 = some (wordsLE ([((s.bril[f]).readySeq + 1) % 2 ^ 32, c.frameNo, lo32 (s.bankAddr f c.bank), s.bankAddr f c.bank / 2 ^ 32, lo32 (s.cntAddr f c.bank), s.cntAddr f c.bank / 2 ^ 32, lo32 (s.resBase f), s.resBase f / 2 ^ 32] ++ c.words ++ [0]))
    ∧ MemKept (s.descAddr f 0) (s.descAddr f 0 + 60) s t
    ∧ t = { s with bril := t.bril, mem := t.mem, ecc := t.ecc, regs := t.regs } ∧ SameRegs rptF s t

abbrev preDoneSeqPoll (s : State) (f : Fib) (c : BrilClosed) (bs : List Byte) : Prop :=
  s.fabRuns = true ∧ (s.bril[f]).pollAt ≤ s.cyc ∧ (s.bril[f]).posted = some c ∧ (s.bril[f]).done = false ∧ (s.bril[f]).closed = none ∧ NoHeld s
    ∧ getBytes s.mem (s.descAddr f 14) 8 = some bs ∧ kget (s.descAddr f 14) s.ecc = none ∧ ofBytesLE (bs.drop 4) = (s.bril[f]).readySeq
/-- DONE_SEQ_POLL (R203): DONE_SEQ equal to READY_SEQ releases the posted bank. -/
def doneSeqPoll : Prop := ∀ s f c bs, preDoneSeqPoll s f c bs →
  ∃ t, exec (.doneSeqPoll f) s = .next t
    ∧ (t.bril[f]).done = true ∧ (t.bril[f]).held = [] ∧ (t.bril[f]).pollAt = s.cyc + 4096 ∧ t.get (BRIL_STAT_HELD f) = 0
    ∧ Only [BRIL_STAT_OPEN f, BRIL_STAT_HELD f] s { s with bril := t.bril } t

abbrev preResultAreaRead (s : State) (f : Fib) (c : BrilClosed) : Prop :=
  s.fabRuns = true ∧ (s.bril[f]).posted = some c ∧ (s.bril[f]).done = true
/-- RESULT_AREA_READ (R202, R203, R209): one frame of as many samples as temperature positions is offered, and counted. -/
def resultAreaRead : Prop := ∀ s f c, preResultAreaRead s f c →
  ∃ t, exec (.resultAreaRead f) s = .next t
    ∧ t.get (BRIL_FRAMES_COUNT f) = min (s.get (BRIL_FRAMES_COUNT f) + 1) (2 ^ 32 - 1) ∧ (t.bril[f]).posted = none ∧ (t.bril[f]).done = false
    ∧ t.out.offered.length = s.out.offered.length + 1 ∧ t.out.offered.take s.out.offered.length = s.out.offered
    ∧ t.out.offered.getLast?.map (fun r => (r.sid, r.frameNo, r.ts, r.samples.length)) = some (⟨f, 17⟩, c.frameNo, c.ts, s.tPos f) ∧ t.out.offered.getLast?.map (fun r => (r.sched, r.holdover, r.lateFit, r.short)) = some (c.sched, c.holdover, c.late, c.short)
    ∧ t.flash = s.flash ∧ t.seq = s.seq ∧ t.eng = s.eng ∧ t.cmd = s.cmd ∧ t.lw = s.lw ∧ t.mem = s.mem
    ∧ (∀ i, i < s.tPos f → ∀ bs, getBytes s.mem (s.resBase f + 8 * i) 8 = some bs → kget (s.resBase f + 8 * i) s.ecc = none → t.out.offered.getLast?.map (fun r => r.samples.getD i 0) = some (BitVec.ofNat 16 (ofBytesLE (bs.take 2))))

abbrev preBrilConfig (c : CmdIn) (s : State) (f : Fib) (v cyc ofs pct : Nat) (k : Fin 16) : Prop :=
  Ready 6 s ∧ c.words = [f.val, v, cyc, ofs, pct, k.val] ∧ v &&& 0xE = v ∧ v / 4 ≠ 3 ∧ s.on (BRIL_CTRL_EN f) = false ∧ 1 ≤ pct ∧ pct ≤ 90 ∧ s.landSrc k = 0 ∧ s.get (BRIL_FIT_ENG_ENG (1 - f)) ≠ k.val
    ∧ 1000000000 ≤ (cyc : Rat) * s.trackedT false ∧ cyc ≤ 2 ^ 31
/-- BRIL_CONFIG (R198, R201, R213): an interval of at least one second by the tracked cycle. -/
def brilConfig : Prop := ∀ c s f v cyc ofs pct k, preBrilConfig c s f v cyc ofs pct k →
  ∃ t, exec (.brilConfig c) s = .next t
    ∧ t.get (BRIL_CTRL_FORMAT f) = v / 2 % 2 ∧ t.get (BRIL_CTRL_COILS f) = v / 4 ∧ t.get (BRIL_ACC_CYCLES f) = cyc ∧ t.get (BRIL_ACC_OFS_CYCLES f) = ofs ∧ t.get (BRIL_RT3_LIM_PCT f) = pct ∧ t.get (BRIL_FIT_ENG_ENG f) = k
    ∧ Done 0x60 stOk [s.accKib f, s.resKib f] [BRIL_CTRL_FORMAT f, BRIL_CTRL_COILS f, BRIL_ACC_CYCLES f, BRIL_ACC_OFS_CYCLES f, BRIL_RT3_LIM_PCT f, BRIL_FIT_ENG_ENG f] c s s t

abbrev preBrilMemSetup (c : CmdIn) (s : State) (f : Fib) (al ah rl rh : Nat) : Prop :=
  Ready 6 s ∧ c.words = [f.val, al, ah, rl, rh] ∧ s.on (BRIL_CTRL_EN f) = false ∧ s.areaOk al ah (2 * s.bankBytes f) = true ∧ s.areaOk rl rh (1024 * s.resKib f) = true ∧ chanOf (baseOf al ah) = chanOf (baseOf rl rh)
    ∧ overlap (baseOf al ah) (2 * s.bankBytes f) (baseOf rl rh) (1024 * s.resKib f) = false
    ∧ (∀ g : Fib, overlap (baseOf al ah) (2 * s.bankBytes f) (s.ctBase g) (1024 * s.ctKib g) = false ∧ overlap (baseOf al ah) (2 * s.bankBytes f) (s.stBase g) (1024 * s.stKib g) = false)
/-- BRIL_MEM_SETUP (R194, R202, R213). -/
def brilMemSetup : Prop := ∀ c s f al ah rl rh, preBrilMemSetup c s f al ah rl rh →
  ∃ t, exec (.brilMemSetup c) s = .next t
    ∧ t.accBase f = baseOf al ah ∧ t.resBase f = baseOf rl rh
    ∧ Done 0x61 stOk [s.accKib f, s.resKib f] [BRIL_ACC_BASE_LO_ADDR f, BRIL_ACC_BASE_HI_ADDR f, BRIL_RES_BASE_LO_ADDR f, BRIL_RES_BASE_HI_ADDR f] c s s t

abbrev preBrilEnable (c : CmdIn) (s : State) (f : Fib) : Prop :=
  Ready 6 s ∧ c.words = [f.val, 1] ∧ s.on (BRIL_CTRL_EN f) = false ∧ s.accOk f (s.trackedT false) = true ∧ s.rt3Ok f (s.page f) (s.trackedT false) = true ∧ s.rtOk f { s.caseOf f with bril := true } (s.trackedT false) = true
/-- BRIL_ENABLE with EN 1 (R197, R198, R200, R373). -/
def brilEnable : Prop := ∀ c s f, preBrilEnable c s f →
  ∃ t, exec (.brilEnable c) s = .next t
    ∧ t.get (BRIL_CTRL_EN f) = 1 ∧ t.get (BRIL_LOAD_MBS f) = (s.brilLoad f (s.page f) (s.trackedT false) / 1000000).floor.toNat % 2 ^ (BRIL_LOAD_MBS f).w
    ∧ (∀ ch : Chan, t.get (DRAMC_RT_LOAD_MBS ch) = (s.rtLoad f { s.caseOf f with bril := true } (s.trackedT false) ch / 1000000).floor.toNat % 2 ^ (DRAMC_RT_LOAD_MBS ch).w)
    ∧ (t.bril[f]).since = some (s.phaseOf f s.nowNs) ∧ (t.bril[f]).open_ = none ∧ (t.bril[f]).frameNo = 0
    ∧ Done 0x62 stOk [t.get (BRIL_LOAD_MBS f)] [BRIL_CTRL_EN f, BRIL_LOAD_MBS f, DRAMC_RT_LOAD_MBS 0, DRAMC_RT_LOAD_MBS 1, BRIL_STAT_OPEN f, BRIL_STAT_HELD f] c s { s with bril := t.bril } t

abbrev preBrilDisable (c : CmdIn) (s : State) (f : Fib) : Prop :=
  Ready 6 s ∧ c.words = [f.val, 0] ∧ s.on (BRIL_CTRL_EN f) = true
/-- BRIL_ENABLE with EN 0 (R197): the open interval is discarded. -/
def brilDisable : Prop := ∀ c s f, preBrilDisable c s f →
  ∃ t, exec (.brilEnable c) s = .next t
    ∧ t.get (BRIL_CTRL_EN f) = 0 ∧ (t.bril[f]).since = none ∧ (t.bril[f]).open_ = none ∧ t.get (BRIL_STAT_OPEN f) = 0
    ∧ Done 0x62 stOk [s.get (BRIL_LOAD_MBS f)] [BRIL_CTRL_EN f, BRIL_STAT_OPEN f, BRIL_STAT_HELD f] c s { s with bril := t.bril } t

abbrev preBrilCoil (c : CmdIn) (s : State) (f : Fib) (k : Fin 2) (a b v : Nat) : Prop :=
  Ready 6 s ∧ c.words = [f.val, k.val, a + b * 2 ^ 16, v] ∧ a ≤ b ∧ b < s.tPos f ∧ b < 2 ^ 15 ∧ v &&& 0x80FFFFFF = v
/-- BRIL_COIL (R213). -/
def brilCoil : Prop := ∀ c s f k a b v, preBrilCoil c s f k a b v →
  ∃ t, exec (.brilCoil c) s = .next t
    ∧ t.get (BRIL_COILk_POS_FIRST f k) = a ∧ t.get (BRIL_COILk_POS_LAST f k) = b ∧ t.get (BRIL_COILk_T_TEMP f k) = v % 2 ^ 24 ∧ t.get (BRIL_COILk_T_VALID f k) = v / 2 ^ 31
    ∧ Done 0x63 stOk [] [BRIL_COILk_POS_FIRST f k, BRIL_COILk_POS_LAST f k, BRIL_COILk_T_TEMP f k, BRIL_COILk_T_VALID f k] c s s t

abbrev preBrilDump (c : CmdIn) (s : State) (f : Fib) (a n : Nat) : Prop :=
  Ready 6 s ∧ c.words = [f.val, 1, a, n] ∧ 1 ≤ n ∧ n ≤ 2040 ∧ a + n ≤ s.tPos f ∧ s.get OUT_STATUS_SNAP_RD = 0 ∧ s.get LW_STATUS_SNAP_OWN = 0
/-- BRIL_DUMP with ARM 1 (R211): the snapshot buffer becomes the dump's, and the dump waits for the next close. -/
def brilDump : Prop := ∀ c s f a n, preBrilDump c s f a n →
  ∃ t, exec (.brilDump c) s = .next t
    ∧ t.get BRIL_STATUS_SNAP_OWN = 1 ∧ t.get BRIL_STATUS_DUMP_PEND = 1 ∧ (t.bril[f]).dump = some (a, n) ∧ (t.bril[1 - f]).dump = none
    ∧ Done 0x64 stPending [] [BRIL_STATUS_SNAP_OWN, BRIL_STATUS_DUMP_PEND] c s { s with bril := t.bril } t

abbrev preBrilDumpCancel (c : CmdIn) (s : State) (f : Fib) (a n : Nat) : Prop :=
  Ready 6 s ∧ c.words = [f.val, 0, a, n] ∧ s.on BRIL_STATUS_SNAP_OWN = true
/-- BRIL_DUMP with ARM 0 (R211): the buffer is released. -/
def brilDumpCancel : Prop := ∀ c s f a n, preBrilDumpCancel c s f a n →
  ∃ t, exec (.brilDump c) s = .next t
    ∧ t.get BRIL_STATUS_SNAP_OWN = 0 ∧ t.get BRIL_STATUS_DUMP_PEND = 0 ∧ (∀ g : Fib, (t.bril[g]).dump = none)
    ∧ Done 0x64 stOk [] [BRIL_STATUS_SNAP_OWN, BRIL_STATUS_DUMP_PEND] c s { s with bril := t.bril } t

abbrev preBrilGetStatus (c : CmdIn) (s : State) (f : Fib) : Prop :=
  Ready 6 s ∧ c.words = [f.val]
/-- BRIL_GET_STATUS (R213). -/
def brilGetStatus : Prop := ∀ c s f, preBrilGetStatus c s f →
  ∃ t, exec (.brilGetStatus c) s = .next t
    ∧ Done 0x65 stOk [s.rawReg 6 0, s.rawReg 6 (0x1040 + 0x1000 * f.val), s.rawReg 6 (0x1044 + 0x1000 * f.val), s.get (BRIL_LOAD_MBS f), s.get (BRIL_FRAMES_COUNT f), s.get (BRIL_LOST_COUNT f), s.get (BRIL_CAPT_DISC_COUNT f), s.get (BRIL_CAPT_LAST_COUNT f)] [] c s s t

end Sys2Proof.Claim

/-- A delivered spectrum is added to the bins of its temperature position, a CLIP spectrum is excluded, a closed interval is posted to the fit engine with READY_SEQ last, DONE_SEQ equal to READY_SEQ releases the bank, and the results become a temperature frame. BRIL_CONFIG, BRIL_MEM_SETUP, BRIL_ENABLE, BRIL_COIL, BRIL_DUMP and BRIL_GET_STATUS do what chapter 09 gives them where their conditions hold, and leave everything else. -/
def Obligations.Brillouin : Prop :=
  Sys2Proof.Claim.spectrumFirst ∧ Sys2Proof.Claim.spectrumNext ∧ Sys2Proof.Claim.spectrumClip ∧
  Sys2Proof.Claim.descriptorPost ∧ Sys2Proof.Claim.doneSeqPoll ∧ Sys2Proof.Claim.resultAreaRead ∧
  Sys2Proof.Claim.brilConfig ∧ Sys2Proof.Claim.brilMemSetup ∧ Sys2Proof.Claim.brilEnable ∧
  Sys2Proof.Claim.brilDisable ∧ Sys2Proof.Claim.brilCoil ∧ Sys2Proof.Claim.brilDump ∧
  Sys2Proof.Claim.brilDumpCancel ∧ Sys2Proof.Claim.brilGetStatus

namespace Sys2Proof.Claim
open Sys2Proof.Machine Sys2Proof.Machine.Reg

abbrev preILwait (k : Fin 16) (s : State) (w : Nat) (h : Half) (rest : List Half) : Prop :=
  Issues 0x50 k s w ∧ okS w = true ∧ s.landSrc k ≠ 0 ∧ (s.land[k]).avail = h :: rest ∧ (s.land[k]).taken.length < 2
/-- LWAIT (R163, R189): the oldest half handed over is taken, and lp is 0. -/
def iLwait : Prop := ∀ k s w h rest, preILwait k s w h rest →
  ∃ t, exec (.lwait k) s = .next t
    ∧ Became { s with land := s.land.set k { s.land[k] with avail := rest, taken := (s.land[k]).taken ++ [h] }, eng := s.eng.set k { went (s.eg k) with lp := 0 } } t

abbrev preILwaitStall (k : Fin 16) (s : State) (w : Nat) : Prop :=
  Issues 0x50 k s w ∧ okS w = true ∧ s.landSrc k ≠ 0 ∧ (s.land[k]).avail = [] ∧ (s.land[k]).taken.length < 2
/-- LWAIT with no half handed over stalls (R163, R188). -/
def iLwaitStall : Prop := ∀ k s w, preILwaitStall k s w →
  ∃ t, exec (.lwait k) s = .next t
    ∧ Became { s with eng := s.eng.set k { s.eg k with stall := some .landing } } t

abbrev preILwaitTwo (k : Fin 16) (s : State) (w : Nat) : Prop :=
  Issues 0x50 k s w ∧ okS w = true ∧ s.landSrc k ≠ 0 ∧ (s.land[k]).taken.length = 2
/-- LWAIT with two halves held has no effect (R188). -/
def iLwaitTwo : Prop := ∀ k s w, preILwaitTwo k s w →
  ∃ t, exec (.lwait k) s = .next t
    ∧ Became { s with eng := s.eng.set k (went (s.eg k)) } t

abbrev preILtest (k : Fin 16) (s : State) (w : Nat) : Prop :=
  Issues 0x51 k s w ∧ okS w = true ∧ s.landSrc k ≠ 0
/-- LTEST (R163, R188). -/
def iLtest : Prop := ∀ k s w, preILtest k s w →
  ∃ t, exec (.ltest k) s = .next t
    ∧ Became { s with eng := s.eng.set k { went (s.eg k) with g := (s.eg k).g.set (gdOf w) (if (s.land[k]).avail = [] then 0 else 1) } } t

abbrev preILrdG (k : Fin 16) (s : State) (w : Nat) (h : Half) (rest : List Half) (lp : Nat) : Prop :=
  Issues 0x52 k s w ∧ okS w = true ∧ s.landSrc k ≠ 0 ∧ w.testBit 0 = false ∧ (gdOf w).val % 2 = 0 ∧ (s.land[k]).taken = h :: rest ∧ lp = (s.eg k).lp.toNat ∧ lp % 8 = 0 ∧ lp + 8 ≤ 32768 ∧ Intact s (landHalf k h.no + lp)
/-- LRD into a pair of g registers (R164, R188). -/
def iLrdG : Prop := ∀ k s w h rest lp, preILrdG k s w h rest lp →
  ∃ t, exec (.lrd k) s = .next t
    ∧ Became { s with eng := s.eng.set k { went (s.eg k) with lp := BitVec.ofNat 15 (lp + 8), g := ((s.eg k).g.set (gdOf w) (BitVec.ofNat 32 (ofBytesLE ((getBytes s.mem (landHalf k h.no + lp) 4).getD [])))).set (Fin.ofNat 16 (gdOf w + 1)) (BitVec.ofNat 32 (ofBytesLE ((getBytes s.mem (landHalf k h.no + lp + 4) 4).getD []))) } } t

abbrev preILrdV (k : Fin 16) (s : State) (w : Nat) (h : Half) (rest : List Half) (lp : Nat) : Prop :=
  Issues 0x52 k s w ∧ okS w = true ∧ s.landSrc k ≠ 0 ∧ w.testBit 0 = true ∧ (s.land[k]).taken = h :: rest ∧ lp = (s.eg k).lp.toNat ∧ lp % 8 = 0 ∧ lp + 16 ≤ 32768 ∧ Intact s (landHalf k h.no + lp) ∧ Intact s (landHalf k h.no + lp + 8)
/-- LRD into a v register (R164, R188). -/
def iLrdV : Prop := ∀ k s w h rest lp, preILrdV k s w h rest lp →
  ∃ t, exec (.lrd k) s = .next t
    ∧ Became { s with eng := s.eng.set k { went (s.eg k) with lp := BitVec.ofNat 15 (lp + 16), v := (s.eg k).v.set (gdOf w) (Vector.ofFn fun i => BitVec.ofNat 16 (ofBytesLE ((getBytes s.mem (landHalf k h.no + lp + 2 * i.val) 2).getD []))) } } t

abbrev preILrel (k : Fin 16) (s : State) (w : Nat) (h : Half) (rest : List Half) : Prop :=
  Issues 0x53 k s w ∧ okS w = true ∧ s.landSrc k ≠ 0 ∧ (s.land[k]).taken = h :: rest
/-- LREL (R164, R189): the current half goes back; with another held lp is 0. -/
def iLrel : Prop := ∀ k s w h rest, preILrel k s w h rest →
  ∃ t, exec (.lrel k) s = .next t
    ∧ t.get (heldF k h.no) = 0
    ∧ t = butNotes { s with land := s.land.set k { s.land[k] with taken := rest }, eng := s.eng.set k { went (s.eg k) with lp := if rest = [] then (s.eg k).lp else 0 } } t
    ∧ SameRegs [heldF k h.no] s t

abbrev preILrelNone (k : Fin 16) (s : State) (w : Nat) : Prop :=
  Issues 0x53 k s w ∧ okS w = true ∧ s.landSrc k ≠ 0 ∧ (s.land[k]).taken = [] ∧ s.on (dmaBusyF k 0) = false ∧ s.on (dmaBusyF k 1) = false
/-- LREL with no half held traps with cause LANDING (R164, R172). -/
def iLrelNone : Prop := ∀ k s w, preILrelNone k s w →
  ∃ t, exec (.lrel k) s = .next t
    ∧ t.get (ENG_DEk_TRAP_CAUSE k) = 5 ∧ t.get (ENG_DEk_TRAP_PC k) = (s.eg k).pc.toNat ∧ t.engState k = 2 ∧ (t.get ENG_FLAGS_TRAP).testBit k.val = true
    ∧ (t.eg k).pc = (s.eg k).pc ∧ (t.eg k).g = (s.eg k).g ∧ (t.eg k).v = (s.eg k).v ∧ (t.eg k).loops = (s.eg k).loops ∧ (t.land[k]).avail = [] ∧ (t.land[k]).taken = []
    ∧ t.flash = s.flash ∧ t.cmd = s.cmd ∧ t.lw = s.lw ∧ t.trk = s.trk

abbrev preIDstart (k : Fin 16) (s : State) (w : Nat) (c : Fin 2) : Prop :=
  Issues 0x54 k s w ∧ okS w = true ∧ w % 2 = c.val ∧ s.on (dmaBusyF k c) = false
    ∧ ((s.eg k).dma[c]).laddr % 4 = 0 ∧ ((s.eg k).dma[c]).raddr % 8 = 0 ∧ ((s.eg k).dma[c]).count % 8 = 0 ∧ 8 ≤ ((s.eg k).dma[c]).count ∧ ((s.eg k).dma[c]).count ≤ 32768 ∧ ((s.eg k).dma[c]).rstride % 8 = 0
/-- DSTART of a channel that is not BUSY with a descriptor R166 allows (R166, R167). -/
def iDstart : Prop := ∀ k s w c, preIDstart k s w c →
  ∃ t, exec (.dstart k) s = .next t
    ∧ t.get (dmaBusyF k c) = 1 ∧ t.get (dmaDoneF k c) = 0 ∧ t.get (dmaHaltF k c) = 0 ∧ t.get (dmaCauseF k c) = 0
    ∧ Only [dmaBusyF k c, dmaDoneF k c, dmaHaltF k c, dmaCauseF k c] s { s with eng := s.eng.set k (went (s.eg k)) } t

abbrev preIDstartDesc (k : Fin 16) (s : State) (w : Nat) (c : Fin 2) : Prop :=
  Issues 0x54 k s w ∧ okS w = true ∧ w % 2 = c.val ∧ s.on (dmaBusyF k c) = false ∧ ((s.eg k).dma[c]).count % 8 ≠ 0 ∧ ((s.eg k).dma[c]).htrap = false
/-- DSTART of a descriptor that R166 does not allow, with HTRAP 0, halts the channel with cause DESC (R167). -/
def iDstartDesc : Prop := ∀ k s w c, preIDstartDesc k s w c →
  ∃ t, exec (.dstart k) s = .next t
    ∧ t.get (dmaBusyF k c) = 0 ∧ t.get (dmaDoneF k c) = 0 ∧ t.get (dmaHaltF k c) = 1 ∧ t.get (dmaCauseF k c) = 3 ∧ (t.get ENG_FLAGS_DMA_HALT).testBit k.val = true
    ∧ Only (ENG_FLAGS_DMA_HALT :: [dmaBusyF k c, dmaDoneF k c, dmaHaltF k c, dmaCauseF k c]) s { s with eng := s.eng.set k (went (s.eg k)) } t

abbrev preIDstartStall (k : Fin 16) (s : State) (w : Nat) (c : Fin 2) : Prop :=
  Issues 0x54 k s w ∧ okS w = true ∧ w % 2 = c.val ∧ s.on (dmaBusyF k c) = true
/-- DSTART of a BUSY channel stalls (R167). -/
def iDstartStall : Prop := ∀ k s w c, preIDstartStall k s w c →
  ∃ t, exec (.dstart k) s = .next t
    ∧ Became { s with eng := s.eng.set k { s.eg k with stall := some (.dmaStart c) } } t

abbrev preIDwait (k : Fin 16) (s : State) (w : Nat) (c : Fin 2) : Prop :=
  Issues 0x55 k s w ∧ okS w = true ∧ w % 2 = c.val ∧ s.on (dmaBusyF k c) = false
/-- DWAIT on a channel that is not BUSY writes its status (R167, R188). -/
def iDwait : Prop := ∀ k s w c, preIDwait k s w c →
  ∃ t, exec (.dwait k) s = .next t
    ∧ Became { s with eng := s.eng.set k { went (s.eg k) with g := (s.eg k).g.set (gdOf w) (BitVec.ofNat 32 (s.get (dmaBusyF k c) + s.get (dmaDoneF k c) * 2 + s.get (dmaHaltF k c) * 4 + s.get (dmaCauseF k c) * 16)) } } t

abbrev preIFout (k : Fin 16) (s : State) (w : Nat) (f : Fib) (p q i : Nat) : Prop :=
  Issues 0x56 k s w ∧ okS w = true ∧ s.landSrc k ≠ 0 ∧ f = s.srcFib k ∧ p = ((s.eg k).g[gsOf w]).toNat ∧ s.foutOk k p = true ∧ s.on (SEQ_CTRL_UNEVEN f) = false
    ∧ (s.pfil[f]).runs = [] ∧ (s.pfil[f]).run = some q ∧ ((s.eg k).g[gtOf w]).toNat = q + i ∧ (s.pfil[f]).closed ≤ i ∧ i < (s.pfil[f]).rowBase + 4
/-- FOUT (R168, R169): a sample whose position lies below N goes to its place in the frame of its shot. -/
def iFout : Prop := ∀ k s w f p q i, preIFout k s w f p q i →
  ∃ t, exec (.fout k) s = .next t
    ∧ (∀ j : Fin 8, p + j.val < s.readN f → getBytes t.mem (stagingAddr f (p + j.val) i) 2 = some (bytesLE 2 (((s.eg k).v[gdOf w])[j]).toNat))
    ∧ Became { s with mem := t.mem, eng := s.eng.set k (went (s.eg k)) } t
    ∧ (∀ a : Nat, (∀ j : Fin 8, a < stagingAddr f (p + j.val) i ∨ stagingAddr f (p + j.val) i + 2 ≤ a) → kget a t.mem = kget a s.mem)

abbrev preIFoutSpan (k : Fin 16) (s : State) (w : Nat) : Prop :=
  Issues 0x56 k s w ∧ okS w = true ∧ s.landSrc k ≠ 0 ∧ ((s.eg k).g[gsOf w]).toNat < s.get (ENG_DEk_SPAN_LO_FIRST k) ∧ s.on (dmaBusyF k 0) = false ∧ s.on (dmaBusyF k 1) = false
/-- FOUT outside the span traps with cause SPAN and sends nothing (R168, R172). -/
def iFoutSpan : Prop := ∀ k s w, preIFoutSpan k s w →
  ∃ t, exec (.fout k) s = .next t
    ∧ t.get (ENG_DEk_TRAP_CAUSE k) = 6 ∧ t.get (ENG_DEk_TRAP_PC k) = (s.eg k).pc.toNat ∧ t.engState k = 2 ∧ (t.get ENG_FLAGS_TRAP).testBit k.val = true
    ∧ (t.eg k).pc = (s.eg k).pc ∧ (t.eg k).g = (s.eg k).g ∧ (t.eg k).v = (s.eg k).v ∧ (t.eg k).loops = (s.eg k).loops ∧ (t.land[k]).avail = [] ∧ (t.land[k]).taken = []
    ∧ t.flash = s.flash ∧ t.cmd = s.cmd ∧ t.lw = s.lw ∧ t.trk = s.trk

abbrev preIFclose (k : Fin 16) (s : State) (w : Nat) : Prop :=
  Issues 0x57 k s w ∧ okS w = true ∧ s.landSrc k ≠ 0
/-- FCLOSE (R168): the shot and every earlier one count as closed by this engine. -/
def iFclose : Prop := ∀ k s w, preIFclose k s w →
  ∃ t, exec (.fclose k) s = .next t
    ∧ (t.eg k).closedShot = some (max ((s.eg k).closedShot.getD 0) ((s.eg k).g[gsOf w]).toNat)
    ∧ t.eng = s.eng.set k { went (s.eg k) with closedShot := (t.eg k).closedShot }
    ∧ t.flash = s.flash ∧ t.cmd = s.cmd ∧ t.lw = s.lw ∧ t.trk = s.trk ∧ t.land = s.land ∧ t.prism = s.prism ∧ t.seq = s.seq

abbrev preIQrep (k : Fin 16) (s : State) (w : Nat) : Prop :=
  Issues 0x58 k s w ∧ okS w = true ∧ s.landSrc k ≠ 0 ∧ w % 4 ≠ 3 ∧ (s.eg k).qreps.length < 16
/-- QREP with room in the queue (R170, R188). -/
def iQrep : Prop := ∀ k s w, preIQrep k s w →
  ∃ t, exec (.qrep k) s = .next t
    ∧ t.get (ENG_DEk_QREPS_COUNT k) = min (s.get (ENG_DEk_QREPS_COUNT k) + 1) (2 ^ 32 - 1)
    ∧ Only [ENG_DEk_QREPS_COUNT k] s { s with eng := s.eng.set k { went (s.eg k) with qreps := (s.eg k).qreps ++ [⟨w % 4, s.srcFib k, ((s.eg k).g[gsOf w]).toNat % 131072⟩] } } t

abbrev preIQrepStall (k : Fin 16) (s : State) (w : Nat) : Prop :=
  Issues 0x58 k s w ∧ okS w = true ∧ s.landSrc k ≠ 0 ∧ w % 4 ≠ 3 ∧ (s.eg k).qreps.length = 16
/-- QREP with a full queue stalls (R170). -/
def iQrepStall : Prop := ∀ k s w, preIQrepStall k s w →
  ∃ t, exec (.qrep k) s = .next t
    ∧ Became { s with eng := s.eng.set k { s.eg k with stall := some .qrep } } t

abbrev preIAlarm (k : Fin 16) (s : State) (w : Nat) : Prop :=
  Issues 0x59 k s w ∧ okS w = true ∧ (gsOf w).val ≤ 12 ∧ s.on OUT_STATUS_HOST_ACTIVE = true ∧ s.alarmRoom (3 + k.val) = true ∧ (s.eg k).posts = [] ∧ (∀ a ∈ s.out.alarms, a.at_ < s.cyc)
/-- ALARM (R171) with a host group active and room in the queue: the payload takes an ASEQ and enters the queue. -/
def iAlarm : Prop := ∀ k s w, preIAlarm k s w →
  ∃ t, exec (.alarmOp k) s = .next t
    ∧ t.out.alarms = s.out.alarms ++ [⟨alarmWords 0x11 (s.landSrc k) k [((s.eg k).g[Fin.ofNat 16 (gsOf w + 0)]).toNat, ((s.eg k).g[Fin.ofNat 16 (gsOf w + 1)]).toNat &&& 0xFF01FFFF, ((s.eg k).g[Fin.ofNat 16 (gsOf w + 2)]).toNat, ((s.eg k).g[Fin.ofNat 16 (gsOf w + 3)]).toNat, 0, 0, 0] (s.get OUT_ASEQ_NEXT) 0, s.cyc, 3 + k.val⟩]
    ∧ t.get OUT_ASEQ_NEXT = (s.get OUT_ASEQ_NEXT + 1) % 2 ^ OUT_ASEQ_NEXT.w ∧ t.get (ENG_DEk_ALARMS_COUNT k) = min (s.get (ENG_DEk_ALARMS_COUNT k) + 1) (2 ^ 32 - 1)
    ∧ Only [OUT_ASEQ_NEXT, ENG_DEk_ALARMS_COUNT k, OUT_FLAGS_ALARM_FULL] s { s with eng := s.eng.set k (went (s.eg k)), out := { s.out with alarms := t.out.alarms } } t

abbrev preIAlarmStall (k : Fin 16) (s : State) (w : Nat) : Prop :=
  Issues 0x59 k s w ∧ okS w = true ∧ (gsOf w).val ≤ 12 ∧ s.on OUT_STATUS_HOST_ACTIVE = true ∧ 8 ≤ s.out.alarms.length
/-- ALARM with a host group active and the queue full stalls (R171). -/
def iAlarmStall : Prop := ∀ k s w, preIAlarmStall k s w →
  ∃ t, exec (.alarmOp k) s = .next t
    ∧ Became { s with eng := s.eng.set k { s.eg k with stall := some .alarm, posts := (s.eg k).posts ++ [(s.landSrc k, [((s.eg k).g[Fin.ofNat 16 (gsOf w + 0)]).toNat, ((s.eg k).g[Fin.ofNat 16 (gsOf w + 1)]).toNat &&& 0xFF01FFFF, ((s.eg k).g[Fin.ofNat 16 (gsOf w + 2)]).toNat, ((s.eg k).g[Fin.ofNat 16 (gsOf w + 3)]).toNat])] } } t

end Sys2Proof.Claim

/-- LWAIT, LTEST, LRD, LREL, DSTART, DWAIT, FOUT, FCLOSE, QREP and ALARM do what 07 and 08 give them where their conditions hold, and stall where they do not. -/
def Obligations.EnginePorts : Prop :=
  Sys2Proof.Claim.iLwait ∧ Sys2Proof.Claim.iLwaitStall ∧ Sys2Proof.Claim.iLwaitTwo ∧
  Sys2Proof.Claim.iLtest ∧ Sys2Proof.Claim.iLrdG ∧ Sys2Proof.Claim.iLrdV ∧
  Sys2Proof.Claim.iLrel ∧ Sys2Proof.Claim.iLrelNone ∧ Sys2Proof.Claim.iDstart ∧
  Sys2Proof.Claim.iDstartDesc ∧ Sys2Proof.Claim.iDstartStall ∧ Sys2Proof.Claim.iDwait ∧
  Sys2Proof.Claim.iFout ∧ Sys2Proof.Claim.iFoutSpan ∧ Sys2Proof.Claim.iFclose ∧
  Sys2Proof.Claim.iQrep ∧ Sys2Proof.Claim.iQrepStall ∧ Sys2Proof.Claim.iAlarm ∧
  Sys2Proof.Claim.iAlarmStall

namespace Sys2Proof.Claim
open Sys2Proof.Machine Sys2Proof.Machine.Reg

abbrev preILdG (k : Fin 16) (s : State) (w : Nat) (a n : Nat) : Prop :=
  Issues 0x40 k s w ∧ okL w = true ∧ w.testBit 51 = false ∧ n ≠ 8 ∧ a = ((s.eg k).lAddr w).1 ∧ a % n = 0 ∧ n = [1, 2, 8].getD (w / 2 ^ 49 % 4) 1 ∧ w / 2 ^ 49 % 4 ≠ 3
    ∧ Intact s ((engMem k (w / 2 ^ 48 % 2) + 2 * a) / 8 * 8) ∧ Intact s ((engMem k (w / 2 ^ 48 % 2) + 2 * (a + n - 1)) / 8 * 8)
/-- LD into a g register (R157, R188): a halfword is sign-extended, a word is taken whole. -/
def iLdG : Prop := ∀ k s w a n, preILdG k s w a n →
  ∃ t, exec (.ld k) s = .next t
    ∧ Became { s with eng := s.eng.set k { went (s.eg k) with a := (s.eg k).a.set (Fin.ofNat 8 (w / 2 ^ 45 % 8)) (BitVec.ofNat 16 ((s.eg k).lAddr w).2), g := (s.eg k).g.set (gdOf w) (if n = 1 then (lanesAt k s (w / 2 ^ 48 % 2) a)[0].signExtend 32 else (lanesAt k s (w / 2 ^ 48 % 2) a)[1] ++ (lanesAt k s (w / 2 ^ 48 % 2) a)[0]) } } t

abbrev preILdV (k : Fin 16) (s : State) (w : Nat) (a n : Nat) : Prop :=
  Issues 0x40 k s w ∧ okL w = true ∧ w.testBit 51 = true ∧ a = ((s.eg k).lAddr w).1 ∧ a % n = 0 ∧ n = [1, 2, 8].getD (w / 2 ^ 49 % 4) 1 ∧ w / 2 ^ 49 % 4 ≠ 3
    ∧ Intact s ((engMem k (w / 2 ^ 48 % 2) + 2 * a) / 8 * 8) ∧ Intact s ((engMem k (w / 2 ^ 48 % 2) + 2 * (a + n - 1)) / 8 * 8)
/-- LD into a v register (R157, R188): the lanes loaded; the others stay. -/
def iLdV : Prop := ∀ k s w a n, preILdV k s w a n →
  ∃ t, exec (.ld k) s = .next t
    ∧ Became { s with eng := s.eng.set k { went (s.eg k) with a := (s.eg k).a.set (Fin.ofNat 8 (w / 2 ^ 45 % 8)) (BitVec.ofNat 16 ((s.eg k).lAddr w).2), v := (s.eg k).v.set (gdOf w) (Vector.ofFn fun i => if i.val < n then (lanesAt k s (w / 2 ^ 48 % 2) a)[i] else ((s.eg k).v[gdOf w])[i]) } } t

abbrev preIStG (k : Fin 16) (s : State) (w : Nat) (a n : Nat) : Prop :=
  Issues 0x41 k s w ∧ okL w = true ∧ w.testBit 51 = false ∧ n ≠ 8 ∧ a = ((s.eg k).lAddr w).1 ∧ a % n = 0 ∧ n = [1, 2, 8].getD (w / 2 ^ 49 % 4) 1 ∧ w / 2 ^ 49 % 4 ≠ 3
    ∧ Intact s ((engMem k (w / 2 ^ 48 % 2) + 2 * a) / 8 * 8) ∧ Intact s ((engMem k (w / 2 ^ 48 % 2) + 2 * (a + n - 1)) / 8 * 8)
/-- ST of a g register (R157, R188). -/
def iStG : Prop := ∀ k s w a n, preIStG k s w a n →
  ∃ t, exec (.stOp k) s = .next t
    ∧ t = butNotes { s with ecc := t.ecc, mem := t.mem, eng := s.eng.set k { went (s.eg k) with a := (s.eg k).a.set (Fin.ofNat 8 (w / 2 ^ 45 % 8)) (BitVec.ofNat 16 ((s.eg k).lAddr w).2) } } t
    ∧ getBytes t.mem (engMem k (w / 2 ^ 48 % 2) + 2 * a) (2 * n) = some (bytesLE (2 * n) ((s.eg k).g[gdOf w]).toNat)
    ∧ MemKept (engMem k (w / 2 ^ 48 % 2) + 2 * a) (engMem k (w / 2 ^ 48 % 2) + 2 * a + 2 * n) s t
    ∧ SameRegs rptF s t

abbrev preIStV (k : Fin 16) (s : State) (w : Nat) (a n : Nat) : Prop :=
  Issues 0x41 k s w ∧ okL w = true ∧ w.testBit 51 = true ∧ a = ((s.eg k).lAddr w).1 ∧ a % n = 0 ∧ n = [1, 2, 8].getD (w / 2 ^ 49 % 4) 1 ∧ w / 2 ^ 49 % 4 ≠ 3
    ∧ Intact s ((engMem k (w / 2 ^ 48 % 2) + 2 * a) / 8 * 8) ∧ Intact s ((engMem k (w / 2 ^ 48 % 2) + 2 * (a + n - 1)) / 8 * 8)
/-- ST of a v register (R157, R188): its first 1, 2 or 8 lanes. -/
def iStV : Prop := ∀ k s w a n, preIStV k s w a n →
  ∃ t, exec (.stOp k) s = .next t
    ∧ t = butNotes { s with ecc := t.ecc, mem := t.mem, eng := s.eng.set k { went (s.eg k) with a := (s.eg k).a.set (Fin.ofNat 8 (w / 2 ^ 45 % 8)) (BitVec.ofNat 16 ((s.eg k).lAddr w).2) } } t
    ∧ getBytes t.mem (engMem k (w / 2 ^ 48 % 2) + 2 * a) (2 * n) = some ((((s.eg k).v[gdOf w]).toList.take n).flatMap fun x => bytesLE 2 x.toNat)
    ∧ MemKept (engMem k (w / 2 ^ 48 % 2) + 2 * a) (engMem k (w / 2 ^ 48 % 2) + 2 * a + 2 * n) s t
    ∧ SameRegs rptF s t

abbrev preISst (k : Fin 16) (s : State) (w : Nat) (a n : Nat) : Prop :=
  Issues 0x42 k s w ∧ okL w = true ∧ w.testBit 51 = false ∧ w / 2 ^ 54 % 4 = 0 ∧ a = ((s.eg k).lAddr w).1 ∧ a % n = 0 ∧ n = [1, 2, 8].getD (w / 2 ^ 49 % 4) 1 ∧ w / 2 ^ 49 % 4 ≠ 3
    ∧ Intact s ((engMem k (w / 2 ^ 48 % 2) + 2 * a) / 8 * 8) ∧ Intact s ((engMem k (w / 2 ^ 48 % 2) + 2 * (a + n - 1)) / 8 * 8)
/-- SST (R162, R188): the accumulator's eight lanes as 16 bits, or one lane as 16 or as 32 bits. -/
def iSst : Prop := ∀ k s w a n, preISst k s w a n →
  ∃ t, exec (.sst k) s = .next t
    ∧ t = butNotes { s with ecc := t.ecc, mem := t.mem, eng := s.eng.set k { went (s.eg k) with a := (s.eg k).a.set (Fin.ofNat 8 (w / 2 ^ 45 % 8)) (BitVec.ofNat 16 ((s.eg k).lAddr w).2) } } t
    ∧ getBytes t.mem (engMem k (w / 2 ^ 48 % 2) + 2 * a) (2 * n) = some (if n = 8 then (List.finRange 8).flatMap fun i => bytesLE 2 (BitVec.ofInt 16 (satValue (s.eg k) (Fin.ofNat 4 (w / 2 ^ 52 % 4)) i (w / 2 ^ 27 % 32) 32767)).toNat else bytesLE (2 * n) (BitVec.ofInt (16 * n) (satValue (s.eg k) (Fin.ofNat 4 (w / 2 ^ 52 % 4)) (Fin.ofNat 8 (w / 2 ^ 32 % 8)) (w / 2 ^ 27 % 32) (if n = 1 then 32767 else 2 ^ 31 - 1))).toNat)
    ∧ MemKept (engMem k (w / 2 ^ 48 % 2) + 2 * a) (engMem k (w / 2 ^ 48 % 2) + 2 * a + 2 * n) s t
    ∧ SameRegs rptF s t

abbrev preILdMisaligned (k : Fin 16) (s : State) (w : Nat) (a n : Nat) : Prop :=
  Issues 0x40 k s w ∧ okL w = true ∧ w.testBit 51 = false ∧ n = 2 ∧ w / 2 ^ 49 % 4 = 1 ∧ a = ((s.eg k).lAddr w).1 ∧ a % 2 = 1 ∧ s.on (dmaBusyF k 0) = false ∧ s.on (dmaBusyF k 1) = false
/-- A misaligned LD traps with cause MISALIGN and its data address (R155, R172). -/
def iLdMisaligned : Prop := ∀ k s w a n, preILdMisaligned k s w a n →
  ∃ t, exec (.ld k) s = .next t
    ∧ t.get (ENG_DEk_TRAP_CAUSE k) = 2 ∧ t.get (ENG_DEk_TRAP_PC k) = (s.eg k).pc.toNat ∧ t.engState k = 2 ∧ (t.get ENG_FLAGS_TRAP).testBit k.val = true
    ∧ (t.eg k).pc = (s.eg k).pc ∧ (t.eg k).g = (s.eg k).g ∧ (t.eg k).v = (s.eg k).v ∧ (t.eg k).loops = (s.eg k).loops ∧ (t.land[k]).avail = [] ∧ (t.land[k]).taken = []
    ∧ t.flash = s.flash ∧ t.cmd = s.cmd ∧ t.lw = s.lw ∧ t.trk = s.trk
    ∧ t.get (ENG_DEk_TRAP_ADDR_ADDR k) = a % 2 ^ (ENG_DEk_TRAP_ADDR_ADDR k).w ∧ t.get (ENG_DEk_TRAP_ADDR_MEM k) = w / 2 ^ 48 % 2

end Sys2Proof.Claim

/-- LD, ST and SST move 1, 2 or 8 halfwords between the X or Y memory and a register or an accumulator, update the address register in mode POST, and trap on a misaligned address. -/
def Obligations.EngineLoadsStores : Prop :=
  Sys2Proof.Claim.iLdG ∧ Sys2Proof.Claim.iLdV ∧ Sys2Proof.Claim.iStG ∧
  Sys2Proof.Claim.iStV ∧ Sys2Proof.Claim.iSst ∧ Sys2Proof.Claim.iLdMisaligned

namespace Sys2Proof.Claim
open Sys2Proof.Machine Sys2Proof.Machine.Reg

abbrev preIMacop (k : Fin 16) (s : State) (w : Nat) (mx my : Option PMove) : Prop :=
  Vector' 0x30 k s w mx my ∧ w / 2 ^ 54 % 4 = 0
/-- MAC (R161, R187). -/
def iMacop : Prop := ∀ k s w mx my, preIMacop k s w mx my →
  ∃ t, exec (.macOp k) s = .next t
    ∧ t = afterVector k s mx my (accumulated (Fin.ofNat 4 (w / 2 ^ 52 % 4)) (fun i => (((s.eg k).v[gsOf w][i]).toInt * ((s.eg k).v[gtOf w][i]).toInt)) (s.eg k)) t
    ∧ SameRegs rptF s t

abbrev preIMsu (k : Fin 16) (s : State) (w : Nat) (mx my : Option PMove) : Prop :=
  Vector' 0x31 k s w mx my ∧ w / 2 ^ 54 % 4 = 0
/-- MSU (R161, R187). -/
def iMsu : Prop := ∀ k s w mx my, preIMsu k s w mx my →
  ∃ t, exec (.msu k) s = .next t
    ∧ t = afterVector k s mx my (accumulated (Fin.ofNat 4 (w / 2 ^ 52 % 4)) (fun i => - (((s.eg k).v[gsOf w][i]).toInt * ((s.eg k).v[gtOf w][i]).toInt)) (s.eg k)) t
    ∧ SameRegs rptF s t

abbrev preIMacf (k : Fin 16) (s : State) (w : Nat) (mx my : Option PMove) : Prop :=
  Vector' 0x32 k s w mx my ∧ w / 2 ^ 54 % 4 = 0
/-- MACF (R161, R187). -/
def iMacf : Prop := ∀ k s w mx my, preIMacf k s w mx my →
  ∃ t, exec (.macf k) s = .next t
    ∧ t = afterVector k s mx my (accumulated (Fin.ofNat 4 (w / 2 ^ 52 % 4)) (fun i => 2 * (((s.eg k).v[gsOf w][i]).toInt * ((s.eg k).v[gtOf w][i]).toInt)) (s.eg k)) t
    ∧ SameRegs rptF s t

abbrev preIMsuf (k : Fin 16) (s : State) (w : Nat) (mx my : Option PMove) : Prop :=
  Vector' 0x33 k s w mx my ∧ w / 2 ^ 54 % 4 = 0
/-- MSUF (R161, R187). -/
def iMsuf : Prop := ∀ k s w mx my, preIMsuf k s w mx my →
  ∃ t, exec (.msuf k) s = .next t
    ∧ t = afterVector k s mx my (accumulated (Fin.ofNat 4 (w / 2 ^ 52 % 4)) (fun i => -2 * (((s.eg k).v[gsOf w][i]).toInt * ((s.eg k).v[gtOf w][i]).toInt)) (s.eg k)) t
    ∧ SameRegs rptF s t

abbrev preIMpy (k : Fin 16) (s : State) (w : Nat) (mx my : Option PMove) : Prop :=
  Vector' 0x34 k s w mx my ∧ w / 2 ^ 54 % 4 = 0
/-- MPY (R161, R187). -/
def iMpy : Prop := ∀ k s w mx my, preIMpy k s w mx my →
  ∃ t, exec (.mpy k) s = .next t
    ∧ t = afterVector k s mx my (accWritten (Fin.ofNat 4 (w / 2 ^ 52 % 4)) (fun i => ((s.eg k).v[gsOf w][i]).toInt * ((s.eg k).v[gtOf w][i]).toInt) (s.eg k)) t
    ∧ SameRegs rptF s t

abbrev preIMpyf (k : Fin 16) (s : State) (w : Nat) (mx my : Option PMove) : Prop :=
  Vector' 0x35 k s w mx my ∧ w / 2 ^ 54 % 4 = 0
/-- MPYF (R161, R187). -/
def iMpyf : Prop := ∀ k s w mx my, preIMpyf k s w mx my →
  ∃ t, exec (.mpyf k) s = .next t
    ∧ t = afterVector k s mx my (accWritten (Fin.ofNat 4 (w / 2 ^ 52 % 4)) (fun i => 2 * (((s.eg k).v[gsOf w][i]).toInt * ((s.eg k).v[gtOf w][i]).toInt)) (s.eg k)) t
    ∧ SameRegs rptF s t

abbrev preIClra (k : Fin 16) (s : State) (w : Nat) (mx my : Option PMove) : Prop :=
  Vector' 0x36 k s w mx my ∧ w / 2 ^ 54 % 4 = 0
/-- CLRA (R161, R187). -/
def iClra : Prop := ∀ k s w mx my, preIClra k s w mx my →
  ∃ t, exec (.clra k) s = .next t
    ∧ t = afterVector k s mx my (accWritten (Fin.ofNat 4 (w / 2 ^ 52 % 4)) (fun _ => 0) (s.eg k)) t
    ∧ SameRegs rptF s t

abbrev preILda (k : Fin 16) (s : State) (w : Nat) (mx my : Option PMove) : Prop :=
  Vector' 0x37 k s w mx my ∧ w / 2 ^ 54 % 4 = 0 ∧ w / 2 ^ 39 % 32 ≤ 23
/-- LDA (R161, R187). -/
def iLda : Prop := ∀ k s w mx my, preILda k s w mx my →
  ∃ t, exec (.lda k) s = .next t
    ∧ t = afterVector k s mx my (accWritten (Fin.ofNat 4 (w / 2 ^ 52 % 4)) (fun i => ((s.eg k).v[gsOf w][i]).toInt * 2 ^ (w / 2 ^ 39 % 32)) (s.eg k)) t
    ∧ SameRegs rptF s t

end Sys2Proof.Claim

/-- MAC, MSU, MACF and MSUF add to every lane of an accumulator and set OV and OVS where a lane overflows; MPY, MPYF, CLRA and LDA write it and clear OV and OVS; each carries its parallel moves. -/
def Obligations.EngineAccumulators : Prop :=
  Sys2Proof.Claim.iMacop ∧ Sys2Proof.Claim.iMsu ∧ Sys2Proof.Claim.iMacf ∧
  Sys2Proof.Claim.iMsuf ∧ Sys2Proof.Claim.iMpy ∧ Sys2Proof.Claim.iMpyf ∧
  Sys2Proof.Claim.iClra ∧ Sys2Proof.Claim.iLda

namespace Sys2Proof.Claim
open Sys2Proof.Machine Sys2Proof.Machine.Reg

abbrev preIVadd (k : Fin 16) (s : State) (w : Nat) (mx my : Option PMove) : Prop :=
  Vector' 0x20 k s w mx my
/-- VADD (R187) with its parallel moves. -/
def iVadd : Prop := ∀ k s w mx my, preIVadd k s w mx my →
  ∃ t, exec (.vadd k) s = .next t
    ∧ t = afterVector k s mx my { s.eg k with v := (s.eg k).v.set (gdOf w) (Vector.ofFn fun i => ((s.eg k).v[gsOf w][i]) + ((s.eg k).v[gtOf w][i])) } t
    ∧ SameRegs rptF s t

abbrev preIVsub (k : Fin 16) (s : State) (w : Nat) (mx my : Option PMove) : Prop :=
  Vector' 0x21 k s w mx my
/-- VSUB (R187) with its parallel moves. -/
def iVsub : Prop := ∀ k s w mx my, preIVsub k s w mx my →
  ∃ t, exec (.vsub k) s = .next t
    ∧ t = afterVector k s mx my { s.eg k with v := (s.eg k).v.set (gdOf w) (Vector.ofFn fun i => ((s.eg k).v[gsOf w][i]) - ((s.eg k).v[gtOf w][i])) } t
    ∧ SameRegs rptF s t

abbrev preIVadds (k : Fin 16) (s : State) (w : Nat) (mx my : Option PMove) : Prop :=
  Vector' 0x22 k s w mx my
/-- VADDS (R187) with its parallel moves. -/
def iVadds : Prop := ∀ k s w mx my, preIVadds k s w mx my →
  ∃ t, exec (.vadds k) s = .next t
    ∧ t = afterVector k s mx my { s.eg k with v := (s.eg k).v.set (gdOf w) (Vector.ofFn fun i => BitVec.ofInt 16 (max (-32767) (min 32767 (((s.eg k).v[gsOf w][i]).toInt + ((s.eg k).v[gtOf w][i]).toInt)))) } t
    ∧ SameRegs rptF s t

abbrev preIVsubs (k : Fin 16) (s : State) (w : Nat) (mx my : Option PMove) : Prop :=
  Vector' 0x23 k s w mx my
/-- VSUBS (R187) with its parallel moves. -/
def iVsubs : Prop := ∀ k s w mx my, preIVsubs k s w mx my →
  ∃ t, exec (.vsubs k) s = .next t
    ∧ t = afterVector k s mx my { s.eg k with v := (s.eg k).v.set (gdOf w) (Vector.ofFn fun i => BitVec.ofInt 16 (max (-32767) (min 32767 (((s.eg k).v[gsOf w][i]).toInt - ((s.eg k).v[gtOf w][i]).toInt)))) } t
    ∧ SameRegs rptF s t

abbrev preIVand (k : Fin 16) (s : State) (w : Nat) (mx my : Option PMove) : Prop :=
  Vector' 0x24 k s w mx my
/-- VAND (R187) with its parallel moves. -/
def iVand : Prop := ∀ k s w mx my, preIVand k s w mx my →
  ∃ t, exec (.vand k) s = .next t
    ∧ t = afterVector k s mx my { s.eg k with v := (s.eg k).v.set (gdOf w) (Vector.ofFn fun i => ((s.eg k).v[gsOf w][i]) &&& ((s.eg k).v[gtOf w][i])) } t
    ∧ SameRegs rptF s t

abbrev preIVor (k : Fin 16) (s : State) (w : Nat) (mx my : Option PMove) : Prop :=
  Vector' 0x25 k s w mx my
/-- VOR (R187) with its parallel moves. -/
def iVor : Prop := ∀ k s w mx my, preIVor k s w mx my →
  ∃ t, exec (.vor k) s = .next t
    ∧ t = afterVector k s mx my { s.eg k with v := (s.eg k).v.set (gdOf w) (Vector.ofFn fun i => ((s.eg k).v[gsOf w][i]) ||| ((s.eg k).v[gtOf w][i])) } t
    ∧ SameRegs rptF s t

abbrev preIVxor (k : Fin 16) (s : State) (w : Nat) (mx my : Option PMove) : Prop :=
  Vector' 0x26 k s w mx my
/-- VXOR (R187) with its parallel moves. -/
def iVxor : Prop := ∀ k s w mx my, preIVxor k s w mx my →
  ∃ t, exec (.vxor k) s = .next t
    ∧ t = afterVector k s mx my { s.eg k with v := (s.eg k).v.set (gdOf w) (Vector.ofFn fun i => ((s.eg k).v[gsOf w][i]) ^^^ ((s.eg k).v[gtOf w][i])) } t
    ∧ SameRegs rptF s t

abbrev preIVcmplt (k : Fin 16) (s : State) (w : Nat) (mx my : Option PMove) : Prop :=
  Vector' 0x28 k s w mx my
/-- VCMPLT (R187) with its parallel moves. -/
def iVcmplt : Prop := ∀ k s w mx my, preIVcmplt k s w mx my →
  ∃ t, exec (.vcmplt k) s = .next t
    ∧ t = afterVector k s mx my { s.eg k with v := (s.eg k).v.set (gdOf w) (Vector.ofFn fun i => if ((s.eg k).v[gsOf w][i]).toInt < ((s.eg k).v[gtOf w][i]).toInt then 0xFFFF else 0) } t
    ∧ SameRegs rptF s t

abbrev preIVsra (k : Fin 16) (s : State) (w : Nat) (mx my : Option PMove) : Prop :=
  Vector' 0x27 k s w mx my ∧ w / 2 ^ 39 % 32 ≤ 15
/-- VSRA (R187). -/
def iVsra : Prop := ∀ k s w mx my, preIVsra k s w mx my →
  ∃ t, exec (.vsra k) s = .next t
    ∧ t = afterVector k s mx my { s.eg k with v := (s.eg k).v.set (gdOf w) (Vector.ofFn fun i => ((s.eg k).v[gsOf w][i]).sshiftRight (w / 2 ^ 39 % 32)) } t
    ∧ SameRegs rptF s t

abbrev preIValign (k : Fin 16) (s : State) (w : Nat) (mx my : Option PMove) : Prop :=
  Vector' 0x29 k s w mx my ∧ w / 2 ^ 39 % 32 ≤ 7
/-- VALIGN (R187). -/
def iValign : Prop := ∀ k s w mx my, preIValign k s w mx my →
  ∃ t, exec (.valign k) s = .next t
    ∧ t = afterVector k s mx my { s.eg k with v := (s.eg k).v.set (gdOf w) (Vector.ofFn fun i => two ((s.eg k).v[gsOf w]) ((s.eg k).v[gtOf w]) (i.val + w / 2 ^ 39 % 32)) } t
    ∧ SameRegs rptF s t

abbrev preIVeven (k : Fin 16) (s : State) (w : Nat) (mx my : Option PMove) : Prop :=
  Vector' 0x2a k s w mx my
/-- VEVEN (R187). -/
def iVeven : Prop := ∀ k s w mx my, preIVeven k s w mx my →
  ∃ t, exec (.veven k) s = .next t
    ∧ t = afterVector k s mx my { s.eg k with v := (s.eg k).v.set (gdOf w) (Vector.ofFn fun i => two ((s.eg k).v[gsOf w]) ((s.eg k).v[gtOf w]) (2 * i.val)) } t
    ∧ SameRegs rptF s t

abbrev preIVodd (k : Fin 16) (s : State) (w : Nat) (mx my : Option PMove) : Prop :=
  Vector' 0x2b k s w mx my
/-- VODD (R187). -/
def iVodd : Prop := ∀ k s w mx my, preIVodd k s w mx my →
  ∃ t, exec (.vodd k) s = .next t
    ∧ t = afterVector k s mx my { s.eg k with v := (s.eg k).v.set (gdOf w) (Vector.ofFn fun i => two ((s.eg k).v[gsOf w]) ((s.eg k).v[gtOf w]) (2 * i.val + 1)) } t
    ∧ SameRegs rptF s t

abbrev preIVsplat (k : Fin 16) (s : State) (w : Nat) (mx my : Option PMove) : Prop :=
  Vector' 0x2c k s w mx my
/-- VSPLAT (R187). -/
def iVsplat : Prop := ∀ k s w mx my, preIVsplat k s w mx my →
  ∃ t, exec (.vsplat k) s = .next t
    ∧ t = afterVector k s mx my { s.eg k with v := (s.eg k).v.set (gdOf w) (Vector.replicate 8 (((s.eg k).g[gsOf w]).setWidth 16)) } t
    ∧ SameRegs rptF s t

abbrev preIVext (k : Fin 16) (s : State) (w : Nat) (mx my : Option PMove) : Prop :=
  Vector' 0x2d k s w mx my ∧ w / 2 ^ 39 % 32 ≤ 7
/-- VEXT (R187). -/
def iVext : Prop := ∀ k s w mx my, preIVext k s w mx my →
  ∃ t, exec (.vext k) s = .next t
    ∧ t = afterVector k s mx my { s.eg k with g := (s.eg k).g.set (gdOf w) ((((s.eg k).v[gsOf w])[Fin.ofNat 8 (w / 2 ^ 39 % 32)]).signExtend 32) } t
    ∧ SameRegs rptF s t

abbrev preIVins (k : Fin 16) (s : State) (w : Nat) (mx my : Option PMove) : Prop :=
  Vector' 0x2e k s w mx my ∧ w / 2 ^ 39 % 32 ≤ 7
/-- VINS (R187). -/
def iVins : Prop := ∀ k s w mx my, preIVins k s w mx my →
  ∃ t, exec (.vins k) s = .next t
    ∧ t = afterVector k s mx my { s.eg k with v := (s.eg k).v.set (gdOf w) (((s.eg k).v[gdOf w]).set (Fin.ofNat 8 (w / 2 ^ 39 % 32)) (((s.eg k).g[gsOf w]).setWidth 16)) } t
    ∧ SameRegs rptF s t

abbrev preIVmove (k : Fin 16) (s : State) (w : Nat) (mx my : Option PMove) : Prop :=
  Vector' 0x2f k s w mx my
/-- VMOVE (R187). -/
def iVmove : Prop := ∀ k s w mx my, preIVmove k s w mx my →
  ∃ t, exec (.vmove k) s = .next t
    ∧ t = afterVector k s mx my (s.eg k) t
    ∧ SameRegs rptF s t

abbrev preISatv (k : Fin 16) (s : State) (w : Nat) (mx my : Option PMove) : Prop :=
  Vector' 0x38 k s w mx my
/-- SATV (R162, R187). -/
def iSatv : Prop := ∀ k s w mx my, preISatv k s w mx my →
  ∃ t, exec (.satv k) s = .next t
    ∧ t = afterVector k s mx my { s.eg k with v := (s.eg k).v.set (gdOf w) (Vector.ofFn fun i => BitVec.ofInt 16 (satValue (s.eg k) (Fin.ofNat 4 (w / 2 ^ 48 % 4)) i (w / 2 ^ 39 % 32) 32767)) } t
    ∧ SameRegs rptF s t

abbrev preIMoveMisaligned (k : Fin 16) (s : State) (w : Nat) (mx my : Option PMove) : Prop :=
  Issues 0x2F k s w ∧ w.testBit 38 = false ∧ (decodeMove w false).toOption = some mx ∧ (decodeMove w true).toOption = some my ∧ moveMis (s.eg k) mx = true ∧ s.on (dmaBusyF k 0) = false ∧ s.on (dmaBusyF k 1) = false
/-- A parallel move that is not aligned traps with cause MISALIGN, before the other and the operation (R155, R172). -/
def iMoveMisaligned : Prop := ∀ k s w mx my, preIMoveMisaligned k s w mx my →
  ∃ t, exec (.vmove k) s = .next t
    ∧ t.get (ENG_DEk_TRAP_CAUSE k) = 2 ∧ t.get (ENG_DEk_TRAP_PC k) = (s.eg k).pc.toNat ∧ t.engState k = 2 ∧ (t.get ENG_FLAGS_TRAP).testBit k.val = true
    ∧ (t.eg k).pc = (s.eg k).pc ∧ (t.eg k).g = (s.eg k).g ∧ (t.eg k).v = (s.eg k).v ∧ (t.eg k).loops = (s.eg k).loops ∧ (t.land[k]).avail = [] ∧ (t.land[k]).taken = []
    ∧ t.flash = s.flash ∧ t.cmd = s.cmd ∧ t.lw = s.lw ∧ t.trk = s.trk
    ∧ t.get (ENG_DEk_TRAP_ADDR_ADDR k) = moveAddr (s.eg k) mx % 2 ^ (ENG_DEk_TRAP_ADDR_ADDR k).w ∧ t.get (ENG_DEk_TRAP_ADDR_MEM k) = 0

end Sys2Proof.Claim

/-- VADD, VSUB, VADDS, VSUBS, VAND, VOR, VXOR, VSRA, VCMPLT, VALIGN, VEVEN, VODD, VSPLAT, VEXT, VINS, VMOVE and SATV write their destination and carry their parallel moves. -/
def Obligations.EngineVector : Prop :=
  Sys2Proof.Claim.iVadd ∧ Sys2Proof.Claim.iVsub ∧ Sys2Proof.Claim.iVadds ∧
  Sys2Proof.Claim.iVsubs ∧ Sys2Proof.Claim.iVand ∧ Sys2Proof.Claim.iVor ∧
  Sys2Proof.Claim.iVxor ∧ Sys2Proof.Claim.iVcmplt ∧ Sys2Proof.Claim.iVsra ∧
  Sys2Proof.Claim.iValign ∧ Sys2Proof.Claim.iVeven ∧ Sys2Proof.Claim.iVodd ∧
  Sys2Proof.Claim.iVsplat ∧ Sys2Proof.Claim.iVext ∧ Sys2Proof.Claim.iVins ∧
  Sys2Proof.Claim.iVmove ∧ Sys2Proof.Claim.iSatv ∧ Sys2Proof.Claim.iMoveMisaligned

namespace Sys2Proof.Claim
open Sys2Proof.Machine Sys2Proof.Machine.Reg

abbrev preIBr (k : Fin 16) (s : State) (w : Nat) : Prop :=
  Issues 0x18 k s w ∧ okC w = true
/-- BR (R192). -/
def iBr : Prop := ∀ k s w, preIBr k s w →
  ∃ t, exec (.br k) s = .next t
    ∧ Became { s with eng := s.eng.set k (jumped (w / 2 ^ 32 % 2 ^ 13) (s.eg k)) } t

abbrev preIBz (k : Fin 16) (s : State) (w : Nat) : Prop :=
  Issues 0x19 k s w ∧ okC w = true
/-- BZ (R186, R192). -/
def iBz : Prop := ∀ k s w, preIBz k s w →
  ∃ t, exec (.bz k) s = .next t
    ∧ ((s.eg k).g[gsOf w] = 0 → Became { s with eng := s.eng.set k (jumped (w / 2 ^ 32 % 2 ^ 13) (s.eg k)) } t)
    ∧ (¬ ((s.eg k).g[gsOf w] = 0) → Became { s with eng := s.eng.set k (went (s.eg k)) } t)

abbrev preIBnz (k : Fin 16) (s : State) (w : Nat) : Prop :=
  Issues 0x1a k s w ∧ okC w = true
/-- BNZ (R186, R192). -/
def iBnz : Prop := ∀ k s w, preIBnz k s w →
  ∃ t, exec (.bnz k) s = .next t
    ∧ ((s.eg k).g[gsOf w] ≠ 0 → Became { s with eng := s.eng.set k (jumped (w / 2 ^ 32 % 2 ^ 13) (s.eg k)) } t)
    ∧ (¬ ((s.eg k).g[gsOf w] ≠ 0) → Became { s with eng := s.eng.set k (went (s.eg k)) } t)

abbrev preIBltz (k : Fin 16) (s : State) (w : Nat) : Prop :=
  Issues 0x1b k s w ∧ okC w = true
/-- BLTZ (R186, R192). -/
def iBltz : Prop := ∀ k s w, preIBltz k s w →
  ∃ t, exec (.bltz k) s = .next t
    ∧ (((s.eg k).g[gsOf w]).toInt < 0 → Became { s with eng := s.eng.set k (jumped (w / 2 ^ 32 % 2 ^ 13) (s.eg k)) } t)
    ∧ (¬ (((s.eg k).g[gsOf w]).toInt < 0) → Became { s with eng := s.eng.set k (went (s.eg k)) } t)

abbrev preIBgez (k : Fin 16) (s : State) (w : Nat) : Prop :=
  Issues 0x1c k s w ∧ okC w = true
/-- BGEZ (R186, R192). -/
def iBgez : Prop := ∀ k s w, preIBgez k s w →
  ∃ t, exec (.bgez k) s = .next t
    ∧ (0 ≤ ((s.eg k).g[gsOf w]).toInt → Became { s with eng := s.eng.set k (jumped (w / 2 ^ 32 % 2 ^ 13) (s.eg k)) } t)
    ∧ (¬ (0 ≤ ((s.eg k).g[gsOf w]).toInt) → Became { s with eng := s.eng.set k (went (s.eg k)) } t)

abbrev preIJal (k : Fin 16) (s : State) (w : Nat) : Prop :=
  Issues 0x1D k s w ∧ okC w = true
/-- JAL (R186, R192). -/
def iJal : Prop := ∀ k s w, preIJal k s w →
  ∃ t, exec (.jal k) s = .next t
    ∧ Became { s with eng := s.eng.set k { jumped (w / 2 ^ 32 % 2 ^ 13) (s.eg k) with g := (s.eg k).g.set (gdOf w) (BitVec.ofNat 32 (((s.eg k).pc.toNat + 1) % 2 ^ 13)) } } t

abbrev preIJr (k : Fin 16) (s : State) (w : Nat) : Prop :=
  Issues 0x1E k s w ∧ okC w = true
/-- JR (R186, R192). -/
def iJr : Prop := ∀ k s w, preIJr k s w →
  ∃ t, exec (.jr k) s = .next t
    ∧ Became { s with eng := s.eng.set k (jumped (((s.eg k).g[gsOf w]).toNat % 2 ^ 13) (s.eg k)) } t

abbrev preILoop (k : Fin 16) (s : State) (w : Nat) (n z : Nat) : Prop :=
  Issues 0x1F k s w ∧ okC w = true ∧ (s.eg k).pc.toNat < w / 2 ^ 32 % 2 ^ 13 ∧ (s.eg k).loops.length < 4 ∧ (∀ l ∈ (s.eg k).loops, l.stop ≠ (s.eg k).pc.toNat)
    ∧ getBytes s.mem (engMem k 2 + 8 * (w / 2 ^ 32 % 2 ^ 13)) 8 = some (bytesLE 8 z) ∧ kget (engMem k 2 + 8 * (w / 2 ^ 32 % 2 ^ 13)) s.ecc = none ∧ z < 2 ^ 64 ∧ ¬ (0x17 ≤ opOf z ∧ opOf z ≤ 0x1F) ∧ opOf z ≠ 0xFE ∧ opOf z ≠ 0xFF
    ∧ n = (if w.testBit 45 then w % 2 ^ 16 else ((s.eg k).g[gsOf w]).toNat % 2 ^ 16) ∧ 0 < n
/-- LOOP (R193): the loop is entered with its count from gs or imm32. -/
def iLoop : Prop := ∀ k s w n z, preILoop k s w n z →
  ∃ t, exec (.loopOp k) s = .next t
    ∧ Became { s with eng := s.eng.set k { s.eg k with pc := BitVec.ofNat 13 ((s.eg k).pc.toNat + 1), loops := ⟨(s.eg k).pc.toNat + 1, w / 2 ^ 32 % 2 ^ 13, n⟩ :: (s.eg k).loops } } t

abbrev preILoopZero (k : Fin 16) (s : State) (w : Nat) (z : Nat) : Prop :=
  Issues 0x1F k s w ∧ okC w = true ∧ (s.eg k).pc.toNat < w / 2 ^ 32 % 2 ^ 13 ∧ (∀ l ∈ (s.eg k).loops, l.stop ≠ (s.eg k).pc.toNat)
    ∧ getBytes s.mem (engMem k 2 + 8 * (w / 2 ^ 32 % 2 ^ 13)) 8 = some (bytesLE 8 z) ∧ kget (engMem k 2 + 8 * (w / 2 ^ 32 % 2 ^ 13)) s.ecc = none ∧ z < 2 ^ 64 ∧ ¬ (0x17 ≤ opOf z ∧ opOf z ≤ 0x1F) ∧ opOf z ≠ 0xFE ∧ opOf z ≠ 0xFF
    ∧ (if w.testBit 45 then w % 2 ^ 16 else ((s.eg k).g[gsOf w]).toNat % 2 ^ 16) = 0
/-- LOOP with count 0 (R193): the body is skipped and no loop is entered. -/
def iLoopZero : Prop := ∀ k s w z, preILoopZero k s w z →
  ∃ t, exec (.loopOp k) s = .next t
    ∧ Became { s with eng := s.eng.set k { s.eg k with pc := BitVec.ofNat 13 (w / 2 ^ 32 % 2 ^ 13 + 1) } } t

abbrev preILoopFifth (k : Fin 16) (s : State) (w : Nat) (z : Nat) : Prop :=
  Issues 0x1F k s w ∧ okC w = true ∧ (s.eg k).pc.toNat < w / 2 ^ 32 % 2 ^ 13 ∧ (s.eg k).loops.length = 4
    ∧ getBytes s.mem (engMem k 2 + 8 * (w / 2 ^ 32 % 2 ^ 13)) 8 = some (bytesLE 8 z) ∧ kget (engMem k 2 + 8 * (w / 2 ^ 32 % 2 ^ 13)) s.ecc = none ∧ z < 2 ^ 64 ∧ ¬ (0x17 ≤ opOf z ∧ opOf z ≤ 0x1F) ∧ opOf z ≠ 0xFE ∧ opOf z ≠ 0xFF
    ∧ (if w.testBit 45 then w % 2 ^ 16 else ((s.eg k).g[gsOf w]).toNat % 2 ^ 16) ≠ 0 ∧ s.on (dmaBusyF k 0) = false ∧ s.on (dmaBusyF k 1) = false
/-- A fifth nested LOOP traps with cause LOOP (R172, R193). -/
def iLoopFifth : Prop := ∀ k s w z, preILoopFifth k s w z →
  ∃ t, exec (.loopOp k) s = .next t
    ∧ t.get (ENG_DEk_TRAP_CAUSE k) = 7 ∧ t.get (ENG_DEk_TRAP_PC k) = (s.eg k).pc.toNat ∧ t.engState k = 2 ∧ (t.get ENG_FLAGS_TRAP).testBit k.val = true
    ∧ (t.eg k).pc = (s.eg k).pc ∧ (t.eg k).g = (s.eg k).g ∧ (t.eg k).v = (s.eg k).v ∧ (t.eg k).loops = (s.eg k).loops ∧ (t.land[k]).avail = [] ∧ (t.land[k]).taken = []
    ∧ t.flash = s.flash ∧ t.cmd = s.cmd ∧ t.lw = s.lw ∧ t.trk = s.trk

abbrev preILpop (k : Fin 16) (s : State) (w : Nat) (l : LoopLvl) (ls : List LoopLvl) : Prop :=
  Issues 0x17 k s w ∧ okC w = true ∧ (s.eg k).loops = l :: ls
/-- LPOP (R186, R193). -/
def iLpop : Prop := ∀ k s w l ls, preILpop k s w l ls →
  ∃ t, exec (.lpop k) s = .next t
    ∧ Became { s with eng := s.eng.set k (went { s.eg k with loops := ls }) } t

abbrev preINop (k : Fin 16) (s : State) (w : Nat) : Prop :=
  Issues 0xFD k s w ∧ okS w = true
/-- NOP (R186). -/
def iNop : Prop := ∀ k s w, preINop k s w →
  ∃ t, exec (.nopOp k) s = .next t
    ∧ Became { s with eng := s.eng.set k (went (s.eg k)) } t

abbrev preILoopBack (k : Fin 16) (s : State) (w : Nat) (l : LoopLvl) (ls : List LoopLvl) : Prop :=
  Issues 0xFD k s w ∧ okS w = true ∧ (s.eg k).loops = l :: ls ∧ l.stop = (s.eg k).pc.toNat ∧ 1 < l.count
/-- At the end of a loop with repeats left the next address is its start (R193). -/
def iLoopBack : Prop := ∀ k s w l ls, preILoopBack k s w l ls →
  ∃ t, exec (.nopOp k) s = .next t
    ∧ Became { s with eng := s.eng.set k { s.eg k with pc := BitVec.ofNat 13 l.start, loops := { l with count := l.count - 1 } :: ls } } t

abbrev preILoopEnd (k : Fin 16) (s : State) (w : Nat) (l : LoopLvl) : Prop :=
  Issues 0xFD k s w ∧ okS w = true ∧ (s.eg k).loops = [l] ∧ l.stop = (s.eg k).pc.toNat ∧ l.count ≤ 1
/-- At the end of the last pass of the only loop the engine goes on and the loop is gone (R193). -/
def iLoopEnd : Prop := ∀ k s w l, preILoopEnd k s w l →
  ∃ t, exec (.nopOp k) s = .next t
    ∧ Became { s with eng := s.eng.set k { s.eg k with pc := BitVec.ofNat 13 (((s.eg k).pc.toNat + 1) % 2 ^ 13), loops := [] } } t

abbrev preIHalt (k : Fin 16) (s : State) (w : Nat) : Prop :=
  Issues 0xFF k s w ∧ okS w = true ∧ s.on (dmaBusyF k 0) = false ∧ s.on (dmaBusyF k 1) = false
/-- HALT (R152, R186). -/
def iHalt : Prop := ∀ k s w, preIHalt k s w →
  ∃ t, exec (.haltOp k) s = .next t
    ∧ t.engState k = 0 ∧ (t.eg k).stall = none ∧ (t.eg k).pc = (went (s.eg k)).pc ∧ (t.eg k).g = (s.eg k).g ∧ (t.eg k).v = (s.eg k).v ∧ (t.land[k]).avail = [] ∧ (t.land[k]).taken = []
    ∧ t.get (ENG_DEk_TRAP_CAUSE k) = s.get (ENG_DEk_TRAP_CAUSE k) ∧ t.flash = s.flash ∧ t.cmd = s.cmd ∧ t.lw = s.lw ∧ t.trk = s.trk

abbrev preIBreak (k : Fin 16) (s : State) (w : Nat) : Prop :=
  Issues 0xFE k s w ∧ okS w = true ∧ s.on (dmaBusyF k 0) = false ∧ s.on (dmaBusyF k 1) = false
/-- BREAK (R172, R186). -/
def iBreak : Prop := ∀ k s w, preIBreak k s w →
  ∃ t, exec (.breakOp k) s = .next t
    ∧ t.get (ENG_DEk_TRAP_CAUSE k) = 8 ∧ t.get (ENG_DEk_TRAP_PC k) = (s.eg k).pc.toNat ∧ t.engState k = 2 ∧ (t.get ENG_FLAGS_TRAP).testBit k.val = true
    ∧ (t.eg k).pc = (s.eg k).pc ∧ (t.eg k).g = (s.eg k).g ∧ (t.eg k).v = (s.eg k).v ∧ (t.eg k).loops = (s.eg k).loops ∧ (t.land[k]).avail = [] ∧ (t.land[k]).taken = []
    ∧ t.flash = s.flash ∧ t.cmd = s.cmd ∧ t.lw = s.lw ∧ t.trk = s.trk

abbrev preIIllegal (k : Fin 16) (s : State) (w : Nat) (op : Nat) : Prop :=
  Issues op k s w ∧ op ∉ engOps.map Prod.fst ∧ s.on (dmaBusyF k 0) = false ∧ s.on (dmaBusyF k 1) = false
/-- ILLEGAL (R172, R182): an opcode that no table of 08 has. -/
def iIllegal : Prop := ∀ k s w op, preIIllegal k s w op →
  ∃ t, exec (.illegal k) s = .next t
    ∧ t.get (ENG_DEk_TRAP_CAUSE k) = 1 ∧ t.get (ENG_DEk_TRAP_PC k) = (s.eg k).pc.toNat ∧ t.engState k = 2 ∧ (t.get ENG_FLAGS_TRAP).testBit k.val = true
    ∧ (t.eg k).pc = (s.eg k).pc ∧ (t.eg k).g = (s.eg k).g ∧ (t.eg k).v = (s.eg k).v ∧ (t.eg k).loops = (s.eg k).loops ∧ (t.land[k]).avail = [] ∧ (t.land[k]).taken = []
    ∧ t.flash = s.flash ∧ t.cmd = s.cmd ∧ t.lw = s.lw ∧ t.trk = s.trk

abbrev preIReserved (k : Fin 16) (s : State) (w : Nat) : Prop :=
  Issues 0x01 k s w ∧ okS w = false ∧ s.on (dmaBusyF k 0) = false ∧ s.on (dmaBusyF k 1) = false
/-- A nonzero reserved field of a format S instruction is ILLEGAL (R172, R182). -/
def iReserved : Prop := ∀ k s w, preIReserved k s w →
  ∃ t, exec (.addOp k) s = .next t
    ∧ t.get (ENG_DEk_TRAP_CAUSE k) = 1 ∧ t.get (ENG_DEk_TRAP_PC k) = (s.eg k).pc.toNat ∧ t.engState k = 2 ∧ (t.get ENG_FLAGS_TRAP).testBit k.val = true
    ∧ (t.eg k).pc = (s.eg k).pc ∧ (t.eg k).g = (s.eg k).g ∧ (t.eg k).v = (s.eg k).v ∧ (t.eg k).loops = (s.eg k).loops ∧ (t.land[k]).avail = [] ∧ (t.land[k]).taken = []
    ∧ t.flash = s.flash ∧ t.cmd = s.cmd ∧ t.lw = s.lw ∧ t.trk = s.trk

end Sys2Proof.Claim

/-- BR, BZ, BNZ, BLTZ, BGEZ, JAL, JR, LOOP, LPOP, NOP, HALT, BREAK and ILLEGAL choose the next address and the loop stack as 08 gives them, stop the engine, or trap it. -/
def Obligations.EngineControl : Prop :=
  Sys2Proof.Claim.iBr ∧ Sys2Proof.Claim.iBz ∧ Sys2Proof.Claim.iBnz ∧
  Sys2Proof.Claim.iBltz ∧ Sys2Proof.Claim.iBgez ∧ Sys2Proof.Claim.iJal ∧
  Sys2Proof.Claim.iJr ∧ Sys2Proof.Claim.iLoop ∧ Sys2Proof.Claim.iLoopZero ∧
  Sys2Proof.Claim.iLoopFifth ∧ Sys2Proof.Claim.iLpop ∧ Sys2Proof.Claim.iNop ∧
  Sys2Proof.Claim.iLoopBack ∧ Sys2Proof.Claim.iLoopEnd ∧ Sys2Proof.Claim.iHalt ∧
  Sys2Proof.Claim.iBreak ∧ Sys2Proof.Claim.iIllegal ∧ Sys2Proof.Claim.iReserved

namespace Sys2Proof.Claim
open Sys2Proof.Machine Sys2Proof.Machine.Reg

abbrev preIAddOp (k : Fin 16) (s : State) (w : Nat) (a b : Word) : Prop :=
  Issues 0x1 k s w ∧ okS w = true ∧ Operands k s w a b
/-- ADD (R186): both forms of the second operand. -/
def iAddOp : Prop := ∀ k s w a b, preIAddOp k s w a b →
  ∃ t, exec (.addOp k) s = .next t
    ∧ Became { s with eng := s.eng.set k { went (s.eg k) with g := (s.eg k).g.set (gdOf w) (a + b) } } t

abbrev preISubOp (k : Fin 16) (s : State) (w : Nat) (a b : Word) : Prop :=
  Issues 0x2 k s w ∧ okS w = true ∧ Operands k s w a b
/-- SUB (R186): both forms of the second operand. -/
def iSubOp : Prop := ∀ k s w a b, preISubOp k s w a b →
  ∃ t, exec (.subOp k) s = .next t
    ∧ Became { s with eng := s.eng.set k { went (s.eg k) with g := (s.eg k).g.set (gdOf w) (a - b) } } t

abbrev preIAndOp (k : Fin 16) (s : State) (w : Nat) (a b : Word) : Prop :=
  Issues 0x3 k s w ∧ okS w = true ∧ Operands k s w a b
/-- AND (R186): both forms of the second operand. -/
def iAndOp : Prop := ∀ k s w a b, preIAndOp k s w a b →
  ∃ t, exec (.andOp k) s = .next t
    ∧ Became { s with eng := s.eng.set k { went (s.eg k) with g := (s.eg k).g.set (gdOf w) (a &&& b) } } t

abbrev preIOrOp (k : Fin 16) (s : State) (w : Nat) (a b : Word) : Prop :=
  Issues 0x4 k s w ∧ okS w = true ∧ Operands k s w a b
/-- OR (R186): both forms of the second operand. -/
def iOrOp : Prop := ∀ k s w a b, preIOrOp k s w a b →
  ∃ t, exec (.orOp k) s = .next t
    ∧ Became { s with eng := s.eng.set k { went (s.eg k) with g := (s.eg k).g.set (gdOf w) (a ||| b) } } t

abbrev preIXorOp (k : Fin 16) (s : State) (w : Nat) (a b : Word) : Prop :=
  Issues 0x5 k s w ∧ okS w = true ∧ Operands k s w a b
/-- XOR (R186): both forms of the second operand. -/
def iXorOp : Prop := ∀ k s w a b, preIXorOp k s w a b →
  ∃ t, exec (.xorOp k) s = .next t
    ∧ Became { s with eng := s.eng.set k { went (s.eg k) with g := (s.eg k).g.set (gdOf w) (a ^^^ b) } } t

abbrev preIShlOp (k : Fin 16) (s : State) (w : Nat) (a b : Word) : Prop :=
  Issues 0x6 k s w ∧ okS w = true ∧ Operands k s w a b
/-- SHL (R186): both forms of the second operand. -/
def iShlOp : Prop := ∀ k s w a b, preIShlOp k s w a b →
  ∃ t, exec (.shlOp k) s = .next t
    ∧ Became { s with eng := s.eng.set k { went (s.eg k) with g := (s.eg k).g.set (gdOf w) (a <<< (b.toNat % 32)) } } t

abbrev preIShr (k : Fin 16) (s : State) (w : Nat) (a b : Word) : Prop :=
  Issues 0x7 k s w ∧ okS w = true ∧ Operands k s w a b
/-- SHR (R186): both forms of the second operand. -/
def iShr : Prop := ∀ k s w a b, preIShr k s w a b →
  ∃ t, exec (.shr k) s = .next t
    ∧ Became { s with eng := s.eng.set k { went (s.eg k) with g := (s.eg k).g.set (gdOf w) (a >>> (b.toNat % 32)) } } t

abbrev preISra (k : Fin 16) (s : State) (w : Nat) (a b : Word) : Prop :=
  Issues 0x8 k s w ∧ okS w = true ∧ Operands k s w a b
/-- SRA (R186): both forms of the second operand. -/
def iSra : Prop := ∀ k s w a b, preISra k s w a b →
  ∃ t, exec (.sra k) s = .next t
    ∧ Became { s with eng := s.eng.set k { went (s.eg k) with g := (s.eg k).g.set (gdOf w) (a.sshiftRight (b.toNat % 32)) } } t

abbrev preIMulOp (k : Fin 16) (s : State) (w : Nat) (a b : Word) : Prop :=
  Issues 0x9 k s w ∧ okS w = true ∧ Operands k s w a b
/-- MUL (R186): both forms of the second operand. -/
def iMulOp : Prop := ∀ k s w a b, preIMulOp k s w a b →
  ∃ t, exec (.mulOp k) s = .next t
    ∧ Became { s with eng := s.eng.set k { went (s.eg k) with g := (s.eg k).g.set (gdOf w) (a * b) } } t

abbrev preISlt (k : Fin 16) (s : State) (w : Nat) (a b : Word) : Prop :=
  Issues 0xa k s w ∧ okS w = true ∧ Operands k s w a b
/-- SLT (R186): both forms of the second operand. -/
def iSlt : Prop := ∀ k s w a b, preISlt k s w a b →
  ∃ t, exec (.slt k) s = .next t
    ∧ Became { s with eng := s.eng.set k { went (s.eg k) with g := (s.eg k).g.set (gdOf w) (if a.toInt < b.toInt then 1 else 0) } } t

abbrev preISltu (k : Fin 16) (s : State) (w : Nat) (a b : Word) : Prop :=
  Issues 0xb k s w ∧ okS w = true ∧ Operands k s w a b
/-- SLTU (R186): both forms of the second operand. -/
def iSltu : Prop := ∀ k s w a b, preISltu k s w a b →
  ∃ t, exec (.sltu k) s = .next t
    ∧ Became { s with eng := s.eng.set k { went (s.eg k) with g := (s.eg k).g.set (gdOf w) (if a.toNat < b.toNat then 1 else 0) } } t

abbrev preILi (k : Fin 16) (s : State) (w : Nat) : Prop :=
  Issues 0xC k s w ∧ okS w = true ∧ w.testBit 43 = true
/-- LI (R186). -/
def iLi : Prop := ∀ k s w, preILi k s w →
  ∃ t, exec (.li k) s = .next t
    ∧ Became { s with eng := s.eng.set k { went (s.eg k) with g := (s.eg k).g.set (gdOf w) (BitVec.ofNat 32 (w % 2 ^ 32)) } } t

abbrev preIMtsA (k : Fin 16) (s : State) (w : Nat) (n : Nat) (x : Word) : Prop :=
  Issues 0x10 k s w ∧ okS w = true ∧ w % 256 = n ∧ (s.eg k).g[gsOf w] = x ∧ n < 8
/-- MTS to a0–a7 (R185). -/
def iMtsA : Prop := ∀ k s w n x, preIMtsA k s w n x →
  ∃ t, exec (.mts k) s = .next t
    ∧ Became { s with eng := s.eng.set k { went (s.eg k) with a := (s.eg k).a.set (Fin.ofNat 8 n) (x.setWidth 16) } } t

abbrev preIMtsB (k : Fin 16) (s : State) (w : Nat) (n : Nat) (x : Word) : Prop :=
  Issues 0x10 k s w ∧ okS w = true ∧ w % 256 = n ∧ (s.eg k).g[gsOf w] = x ∧ 8 ≤ n ∧ n < 16
/-- MTS to b0–b7 (R185). -/
def iMtsB : Prop := ∀ k s w n x, preIMtsB k s w n x →
  ∃ t, exec (.mts k) s = .next t
    ∧ Became { s with eng := s.eng.set k { went (s.eg k) with b := (s.eg k).b.set (Fin.ofNat 8 (n - 8)) (x.setWidth 16) } } t

abbrev preIMtsL (k : Fin 16) (s : State) (w : Nat) (n : Nat) (x : Word) : Prop :=
  Issues 0x10 k s w ∧ okS w = true ∧ w % 256 = n ∧ (s.eg k).g[gsOf w] = x ∧ 16 ≤ n ∧ n < 24
/-- MTS to l0–l7 (R185). -/
def iMtsL : Prop := ∀ k s w n x, preIMtsL k s w n x →
  ∃ t, exec (.mts k) s = .next t
    ∧ Became { s with eng := s.eng.set k { went (s.eg k) with l := (s.eg k).l.set (Fin.ofNat 8 (n - 16)) (x.setWidth 16) } } t

abbrev preIMtsLp (k : Fin 16) (s : State) (w : Nat) (n : Nat) (x : Word) : Prop :=
  Issues 0x10 k s w ∧ okS w = true ∧ w % 256 = n ∧ (s.eg k).g[gsOf w] = x ∧ n = 24
/-- MTS to lp (R185). -/
def iMtsLp : Prop := ∀ k s w n x, preIMtsLp k s w n x →
  ∃ t, exec (.mts k) s = .next t
    ∧ Became { s with eng := s.eng.set k { went (s.eg k) with lp := x.setWidth 15 } } t

abbrev preIMtsLaddr (k : Fin 16) (s : State) (w : Nat) (c : Fin 2) (d : DmaChan) (x : Word) : Prop :=
  Issues 0x10 k s w ∧ okS w = true ∧ w % 256 = 32 + 8 * c.val ∧ (s.eg k).g[gsOf w] = x ∧ (s.eg k).dma[c] = d ∧ s.on (dmaBusyF k c) = false
/-- MTS to LADDR of a channel that is not BUSY (R166, R185). -/
def iMtsLaddr : Prop := ∀ k s w c d x, preIMtsLaddr k s w c d x →
  ∃ t, exec (.mts k) s = .next t
    ∧ Became { s with eng := s.eng.set k { went (s.eg k) with dma := (s.eg k).dma.set c { d with laddr := x.toNat % 2 ^ 17 } } } t

abbrev preIMtsRaddrLo (k : Fin 16) (s : State) (w : Nat) (c : Fin 2) (d : DmaChan) (x : Word) : Prop :=
  Issues 0x10 k s w ∧ okS w = true ∧ w % 256 = 33 + 8 * c.val ∧ (s.eg k).g[gsOf w] = x ∧ (s.eg k).dma[c] = d ∧ s.on (dmaBusyF k c) = false
/-- MTS to RADDR bits [31:0] of a channel that is not BUSY (R166, R185). -/
def iMtsRaddrLo : Prop := ∀ k s w c d x, preIMtsRaddrLo k s w c d x →
  ∃ t, exec (.mts k) s = .next t
    ∧ Became { s with eng := s.eng.set k { went (s.eg k) with dma := (s.eg k).dma.set c { d with raddr := d.raddr / 2 ^ 32 * 2 ^ 32 + x.toNat } } } t

abbrev preIMtsRaddrHi (k : Fin 16) (s : State) (w : Nat) (c : Fin 2) (d : DmaChan) (x : Word) : Prop :=
  Issues 0x10 k s w ∧ okS w = true ∧ w % 256 = 34 + 8 * c.val ∧ (s.eg k).g[gsOf w] = x ∧ (s.eg k).dma[c] = d ∧ s.on (dmaBusyF k c) = false
/-- MTS to RADDR bits [39:32] of a channel that is not BUSY (R166, R185). -/
def iMtsRaddrHi : Prop := ∀ k s w c d x, preIMtsRaddrHi k s w c d x →
  ∃ t, exec (.mts k) s = .next t
    ∧ Became { s with eng := s.eng.set k { went (s.eg k) with dma := (s.eg k).dma.set c { d with raddr := x.toNat % 2 ^ 8 * 2 ^ 32 + d.raddr % 2 ^ 32 } } } t

abbrev preIMtsCount (k : Fin 16) (s : State) (w : Nat) (c : Fin 2) (d : DmaChan) (x : Word) : Prop :=
  Issues 0x10 k s w ∧ okS w = true ∧ w % 256 = 35 + 8 * c.val ∧ (s.eg k).g[gsOf w] = x ∧ (s.eg k).dma[c] = d ∧ s.on (dmaBusyF k c) = false
/-- MTS to COUNT of a channel that is not BUSY (R166, R185). -/
def iMtsCount : Prop := ∀ k s w c d x, preIMtsCount k s w c d x →
  ∃ t, exec (.mts k) s = .next t
    ∧ Became { s with eng := s.eng.set k { went (s.eg k) with dma := (s.eg k).dma.set c { d with count := x.toNat % 2 ^ 16 } } } t

abbrev preIMtsRows (k : Fin 16) (s : State) (w : Nat) (c : Fin 2) (d : DmaChan) (x : Word) : Prop :=
  Issues 0x10 k s w ∧ okS w = true ∧ w % 256 = 36 + 8 * c.val ∧ (s.eg k).g[gsOf w] = x ∧ (s.eg k).dma[c] = d ∧ s.on (dmaBusyF k c) = false
/-- MTS to ROWS − 1 of a channel that is not BUSY (R166, R185). -/
def iMtsRows : Prop := ∀ k s w c d x, preIMtsRows k s w c d x →
  ∃ t, exec (.mts k) s = .next t
    ∧ Became { s with eng := s.eng.set k { went (s.eg k) with dma := (s.eg k).dma.set c { d with rows := x.toNat % 2 ^ 12 } } } t

abbrev preIMtsRstride (k : Fin 16) (s : State) (w : Nat) (c : Fin 2) (d : DmaChan) (x : Word) : Prop :=
  Issues 0x10 k s w ∧ okS w = true ∧ w % 256 = 37 + 8 * c.val ∧ (s.eg k).g[gsOf w] = x ∧ (s.eg k).dma[c] = d ∧ s.on (dmaBusyF k c) = false
/-- MTS to RSTRIDE of a channel that is not BUSY (R166, R185). -/
def iMtsRstride : Prop := ∀ k s w c d x, preIMtsRstride k s w c d x →
  ∃ t, exec (.mts k) s = .next t
    ∧ Became { s with eng := s.eng.set k { went (s.eg k) with dma := (s.eg k).dma.set c { d with rstride := x.toNat } } } t

abbrev preIMtsDmaCtrl (k : Fin 16) (s : State) (w : Nat) (c : Fin 2) (d : DmaChan) (x : Word) : Prop :=
  Issues 0x10 k s w ∧ okS w = true ∧ w % 256 = 38 + 8 * c.val ∧ (s.eg k).g[gsOf w] = x ∧ (s.eg k).dma[c] = d ∧ s.on (dmaBusyF k c) = false
/-- MTS to the DMA control register of a channel that is not BUSY (R166, R185). -/
def iMtsDmaCtrl : Prop := ∀ k s w c d x, preIMtsDmaCtrl k s w c d x →
  ∃ t, exec (.mts k) s = .next t
    ∧ Became { s with eng := s.eng.set k { went (s.eg k) with dma := (s.eg k).dma.set c { d with dir := x.toNat.testBit 0, htrap := x.toNat.testBit 1 } } } t

abbrev preIMfsA (k : Fin 16) (s : State) (w : Nat) (n : Nat) : Prop :=
  Issues 0x11 k s w ∧ okS w = true ∧ w % 256 = n ∧ n < 8
/-- MFS of a0–a7 (R185). -/
def iMfsA : Prop := ∀ k s w n, preIMfsA k s w n →
  ∃ t, exec (.mfs k) s = .next t
    ∧ Became { s with eng := s.eng.set k { went (s.eg k) with g := (s.eg k).g.set (gdOf w) (((s.eg k).a[Fin.ofNat 8 n]).setWidth 32) } } t

abbrev preIMfsB (k : Fin 16) (s : State) (w : Nat) (n : Nat) : Prop :=
  Issues 0x11 k s w ∧ okS w = true ∧ w % 256 = n ∧ 8 ≤ n ∧ n < 16
/-- MFS of b0–b7 (R185). -/
def iMfsB : Prop := ∀ k s w n, preIMfsB k s w n →
  ∃ t, exec (.mfs k) s = .next t
    ∧ Became { s with eng := s.eng.set k { went (s.eg k) with g := (s.eg k).g.set (gdOf w) (((s.eg k).b[Fin.ofNat 8 (n - 8)]).setWidth 32) } } t

abbrev preIMfsL (k : Fin 16) (s : State) (w : Nat) (n : Nat) : Prop :=
  Issues 0x11 k s w ∧ okS w = true ∧ w % 256 = n ∧ 16 ≤ n ∧ n < 24
/-- MFS of l0–l7 (R185). -/
def iMfsL : Prop := ∀ k s w n, preIMfsL k s w n →
  ∃ t, exec (.mfs k) s = .next t
    ∧ Became { s with eng := s.eng.set k { went (s.eg k) with g := (s.eg k).g.set (gdOf w) (((s.eg k).l[Fin.ofNat 8 (n - 16)]).setWidth 32) } } t

abbrev preIMfsLp (k : Fin 16) (s : State) (w : Nat) (n : Nat) : Prop :=
  Issues 0x11 k s w ∧ okS w = true ∧ w % 256 = n ∧ n = 24
/-- MFS of lp (R185). -/
def iMfsLp : Prop := ∀ k s w n, preIMfsLp k s w n →
  ∃ t, exec (.mfs k) s = .next t
    ∧ Became { s with eng := s.eng.set k { went (s.eg k) with g := (s.eg k).g.set (gdOf w) ((s.eg k).lp.setWidth 32) } } t

abbrev preIMfsId (k : Fin 16) (s : State) (w : Nat) (n : Nat) : Prop :=
  Issues 0x11 k s w ∧ okS w = true ∧ w % 256 = n ∧ n = 48
/-- MFS of the engine identity (R185). -/
def iMfsId : Prop := ∀ k s w n, preIMfsId k s w n →
  ∃ t, exec (.mfs k) s = .next t
    ∧ Became { s with eng := s.eng.set k { went (s.eg k) with g := (s.eg k).g.set (gdOf w) (BitVec.ofNat 32 (k.val + s.get (ENG_ASSIGN_SRC k) * 16)) } } t

abbrev preIMfsLaddr (k : Fin 16) (s : State) (w : Nat) (c : Fin 2) (d : DmaChan) : Prop :=
  Issues 0x11 k s w ∧ okS w = true ∧ w % 256 = 32 + 8 * c.val ∧ (s.eg k).dma[c] = d
/-- MFS of LADDR of a channel (R185). -/
def iMfsLaddr : Prop := ∀ k s w c d, preIMfsLaddr k s w c d →
  ∃ t, exec (.mfs k) s = .next t
    ∧ Became { s with eng := s.eng.set k { went (s.eg k) with g := (s.eg k).g.set (gdOf w) (BitVec.ofNat 32 (d.laddr)) } } t

abbrev preIMfsRaddrLo (k : Fin 16) (s : State) (w : Nat) (c : Fin 2) (d : DmaChan) : Prop :=
  Issues 0x11 k s w ∧ okS w = true ∧ w % 256 = 33 + 8 * c.val ∧ (s.eg k).dma[c] = d
/-- MFS of RADDR bits [31:0] of a channel (R185). -/
def iMfsRaddrLo : Prop := ∀ k s w c d, preIMfsRaddrLo k s w c d →
  ∃ t, exec (.mfs k) s = .next t
    ∧ Became { s with eng := s.eng.set k { went (s.eg k) with g := (s.eg k).g.set (gdOf w) (BitVec.ofNat 32 (d.raddr % 2 ^ 32)) } } t

abbrev preIMfsRaddrHi (k : Fin 16) (s : State) (w : Nat) (c : Fin 2) (d : DmaChan) : Prop :=
  Issues 0x11 k s w ∧ okS w = true ∧ w % 256 = 34 + 8 * c.val ∧ (s.eg k).dma[c] = d
/-- MFS of RADDR bits [39:32] of a channel (R185). -/
def iMfsRaddrHi : Prop := ∀ k s w c d, preIMfsRaddrHi k s w c d →
  ∃ t, exec (.mfs k) s = .next t
    ∧ Became { s with eng := s.eng.set k { went (s.eg k) with g := (s.eg k).g.set (gdOf w) (BitVec.ofNat 32 (d.raddr / 2 ^ 32)) } } t

abbrev preIMfsCount (k : Fin 16) (s : State) (w : Nat) (c : Fin 2) (d : DmaChan) : Prop :=
  Issues 0x11 k s w ∧ okS w = true ∧ w % 256 = 35 + 8 * c.val ∧ (s.eg k).dma[c] = d
/-- MFS of COUNT of a channel (R185). -/
def iMfsCount : Prop := ∀ k s w c d, preIMfsCount k s w c d →
  ∃ t, exec (.mfs k) s = .next t
    ∧ Became { s with eng := s.eng.set k { went (s.eg k) with g := (s.eg k).g.set (gdOf w) (BitVec.ofNat 32 (d.count)) } } t

abbrev preIMfsRows (k : Fin 16) (s : State) (w : Nat) (c : Fin 2) (d : DmaChan) : Prop :=
  Issues 0x11 k s w ∧ okS w = true ∧ w % 256 = 36 + 8 * c.val ∧ (s.eg k).dma[c] = d
/-- MFS of ROWS − 1 of a channel (R185). -/
def iMfsRows : Prop := ∀ k s w c d, preIMfsRows k s w c d →
  ∃ t, exec (.mfs k) s = .next t
    ∧ Became { s with eng := s.eng.set k { went (s.eg k) with g := (s.eg k).g.set (gdOf w) (BitVec.ofNat 32 (d.rows)) } } t

abbrev preIMfsRstride (k : Fin 16) (s : State) (w : Nat) (c : Fin 2) (d : DmaChan) : Prop :=
  Issues 0x11 k s w ∧ okS w = true ∧ w % 256 = 37 + 8 * c.val ∧ (s.eg k).dma[c] = d
/-- MFS of RSTRIDE of a channel (R185). -/
def iMfsRstride : Prop := ∀ k s w c d, preIMfsRstride k s w c d →
  ∃ t, exec (.mfs k) s = .next t
    ∧ Became { s with eng := s.eng.set k { went (s.eg k) with g := (s.eg k).g.set (gdOf w) (BitVec.ofNat 32 (d.rstride)) } } t

abbrev preIMfsDmaCtrl (k : Fin 16) (s : State) (w : Nat) (c : Fin 2) (d : DmaChan) : Prop :=
  Issues 0x11 k s w ∧ okS w = true ∧ w % 256 = 38 + 8 * c.val ∧ (s.eg k).dma[c] = d
/-- MFS of the DMA control register of a channel (R185). -/
def iMfsDmaCtrl : Prop := ∀ k s w c d, preIMfsDmaCtrl k s w c d →
  ∃ t, exec (.mfs k) s = .next t
    ∧ Became { s with eng := s.eng.set k { went (s.eg k) with g := (s.eg k).g.set (gdOf w) (BitVec.ofNat 32 (d.dir.toNat + 2 * d.htrap.toNat)) } } t

abbrev preIMfsDmaStat (k : Fin 16) (s : State) (w : Nat) (c : Fin 2) (d : DmaChan) : Prop :=
  Issues 0x11 k s w ∧ okS w = true ∧ w % 256 = 39 + 8 * c.val ∧ (s.eg k).dma[c] = d
/-- MFS of the DMA status of a channel (R185). -/
def iMfsDmaStat : Prop := ∀ k s w c d, preIMfsDmaStat k s w c d →
  ∃ t, exec (.mfs k) s = .next t
    ∧ Became { s with eng := s.eng.set k { went (s.eg k) with g := (s.eg k).g.set (gdOf w) (BitVec.ofNat 32 (s.get (dmaBusyF k c) + s.get (dmaDoneF k c) * 2 + s.get (dmaHaltF k c) * 4 + s.get (dmaCauseF k c) * 16)) } } t

abbrev preIOvr (k : Fin 16) (s : State) (w : Nat) (a : Fin 4) (v : Word) : Prop :=
  Issues 0x12 k s w ∧ okS w = true ∧ w % 4 = a.val
    ∧ (∀ i : Fin 8, v.getLsbD i.val = (s.eg k).ov[a][i] ∧ v.getLsbD (8 + i.val) = (s.eg k).ovs[a][i]) ∧ v.toNat < 2 ^ 16
/-- OVR (R186): OV of the eight lanes in bits [7:0], OVS in [15:8], zeros above. -/
def iOvr : Prop := ∀ k s w a v, preIOvr k s w a v →
  ∃ t, exec (.ovr k) s = .next t
    ∧ Became { s with eng := s.eng.set k { went (s.eg k) with g := (s.eg k).g.set (gdOf w) v } } t

end Sys2Proof.Claim

/-- ADD, SUB, AND, OR, XOR, SHL, SHR, SRA, MUL, SLT, SLTU, LI, MTS, MFS and OVR write their destination, the engine goes on to the next address, and nothing else changes. -/
def Obligations.EngineScalar : Prop :=
  Sys2Proof.Claim.iAddOp ∧ Sys2Proof.Claim.iSubOp ∧ Sys2Proof.Claim.iAndOp ∧
  Sys2Proof.Claim.iOrOp ∧ Sys2Proof.Claim.iXorOp ∧ Sys2Proof.Claim.iShlOp ∧
  Sys2Proof.Claim.iShr ∧ Sys2Proof.Claim.iSra ∧ Sys2Proof.Claim.iMulOp ∧
  Sys2Proof.Claim.iSlt ∧ Sys2Proof.Claim.iSltu ∧ Sys2Proof.Claim.iLi ∧
  Sys2Proof.Claim.iMtsA ∧ Sys2Proof.Claim.iMtsB ∧ Sys2Proof.Claim.iMtsL ∧
  Sys2Proof.Claim.iMtsLp ∧ Sys2Proof.Claim.iMtsLaddr ∧ Sys2Proof.Claim.iMtsRaddrLo ∧
  Sys2Proof.Claim.iMtsRaddrHi ∧ Sys2Proof.Claim.iMtsCount ∧ Sys2Proof.Claim.iMtsRows ∧
  Sys2Proof.Claim.iMtsRstride ∧ Sys2Proof.Claim.iMtsDmaCtrl ∧ Sys2Proof.Claim.iMfsA ∧
  Sys2Proof.Claim.iMfsB ∧ Sys2Proof.Claim.iMfsL ∧ Sys2Proof.Claim.iMfsLp ∧
  Sys2Proof.Claim.iMfsId ∧ Sys2Proof.Claim.iMfsLaddr ∧ Sys2Proof.Claim.iMfsRaddrLo ∧
  Sys2Proof.Claim.iMfsRaddrHi ∧ Sys2Proof.Claim.iMfsCount ∧ Sys2Proof.Claim.iMfsRows ∧
  Sys2Proof.Claim.iMfsRstride ∧ Sys2Proof.Claim.iMfsDmaCtrl ∧ Sys2Proof.Claim.iMfsDmaStat ∧
  Sys2Proof.Claim.iOvr

namespace Sys2Proof.Claim
open Sys2Proof.Machine Sys2Proof.Machine.Reg

abbrev preEngAssign (c : CmdIn) (s : State) (x y : Nat) : Prop :=
  Ready 5 s ∧ c.words = [0, x, y] ∧ x &&& 0x33333333 = x ∧ y &&& 0x33333333 = y ∧ s.seqState 0 = 0 ∧ s.seqState 1 = 0 ∧ (∀ k : Fin 16, assignOf x y k ≠ 3)
/-- ENG_ASSIGN (R32, R180) with both sequencers IDLE. -/
def engAssign : Prop := ∀ c s x y, preEngAssign c s x y →
  ∃ t, exec (.engAssign c) s = .next t
    ∧ (∀ k : Fin 16, t.get (ENG_ASSIGN_SRC k) = assignOf x y k)
    ∧ Done 0x50 stOk [] ((List.range 16).map ENG_ASSIGN_SRC) c s s t

abbrev preEngSpan (c : CmdIn) (s : State) (k : Fin 16) (a b : Nat) : Prop :=
  Ready 5 s ∧ c.words = [0, k.val, a, b] ∧ a ≤ b ∧ b ≤ 131071 ∧ (s.landSrc k = 0 ∨ s.seqState (s.srcFib k) = 0)
/-- ENG_SPAN (R180). -/
def engSpan : Prop := ∀ c s k a b, preEngSpan c s k a b →
  ∃ t, exec (.engSpan c) s = .next t
    ∧ t.get (ENG_DEk_SPAN_LO_FIRST k) = a ∧ t.get (ENG_DEk_SPAN_HI_LAST k) = b
    ∧ Done 0x51 stOk [] [ENG_DEk_SPAN_LO_FIRST k, ENG_DEk_SPAN_HI_LAST k] c s s t

abbrev preEngGauge (c : CmdIn) (s : State) (f : Fib) (g : Nat) : Prop :=
  Ready 5 s ∧ c.words = [f.val, g] ∧ (2 ≤ g ∧ g ≤ 200) ∧ s.seqState f = 0
/-- ENG_GAUGE (R38, R180). -/
def engGauge : Prop := ∀ c s f g, preEngGauge c s f g →
  ∃ t, exec (.engGauge c) s = .next t
    ∧ t.get (if f = 0 then ENG_GAUGE_GAUGE_A else ENG_GAUGE_GAUGE_B) = g
    ∧ Done 0x52 stOk [] [if f = 0 then ENG_GAUGE_GAUGE_A else ENG_GAUGE_GAUGE_B] c s s t

abbrev preEngLoad (c : CmdIn) (s : State) (k : Fin 16) (mem : Fin 3) (i v z : Nat) : Prop :=
  Ready 5 s ∧ c.words = [0, k.val, mem.val, 2 * i, 2, v, z] ∧ 2 * i + 2 ≤ engMemWords mem ∧ (mem = 2 → s.kernelFree k = true) ∧ s.scrub.combCmd = none ∧ s.get SCRUB_INJ_MODE = 0
/-- ENG_LOAD (R174, R180): one whole 64-bit word of a memory. -/
def engLoad : Prop := ∀ c s k mem i v z, preEngLoad c s k mem i v z →
  ∃ t, exec (.engLoad c) s = .next t
    ∧ getBytes t.mem (engMem k mem + 8 * i) 8 = some (bytesLE 4 v ++ bytesLE 4 z)
    ∧ MemKept (engMem k mem + 8 * i) (engMem k mem + 8 * i + 8) s t ∧ t.flash = s.flash ∧ t.eng = s.eng ∧ t.seq = s.seq
    ∧ Replied 0x53 stOk [] 0 c s t

abbrev preEngRead (c : CmdIn) (s : State) (k : Fin 16) (mem : Fin 3) (i : Nat) (bs : List Byte) : Prop :=
  Ready 5 s ∧ c.words = [0, k.val, mem.val, 2 * i, 2] ∧ 2 * i + 2 ≤ engMemWords mem ∧ NoHeld s ∧ getBytes s.mem (engMem k mem + 8 * i) 8 = some bs ∧ kget (engMem k mem + 8 * i) s.ecc = none
/-- ENG_READ (R180): two words of one 64-bit word, low word first. -/
def engRead : Prop := ∀ c s k mem i bs, preEngRead c s k mem i bs →
  ∃ t, exec (.engRead c) s = .next t
    ∧ Replied 0x54 stOk [ofBytesLE (bs.take 4), ofBytesLE (bs.drop 4)] 0 c s t
    ∧ t.mem = s.mem ∧ t.flash = s.flash ∧ t.eng = s.eng ∧ t.seq = s.seq ∧ t.lw = s.lw

abbrev preEngStart (c : CmdIn) (s : State) (k : Fin 16) : Prop :=
  Ready 5 s ∧ c.words = [0, k.val] ∧ s.engState k ≠ 1 ∧ (s.land[k]).avail = [] ∧ (s.land[k]).taken = []
/-- ENG_START (R153, R180). -/
def engStart : Prop := ∀ c s k, preEngStart c s k →
  ∃ t, exec (.engStart c) s = .next t
    ∧ t.engState k = 1 ∧ t.get (ENG_DEk_TRAP_CAUSE k) = 0 ∧ (t.eg k).pc = 0 ∧ (t.eg k).loops = [] ∧ (t.eg k).stall = none ∧ (t.eg k).g = Vector.replicate 16 0
    ∧ Done 0x55 stOk [] [ENG_DEk_STAT_STATE k, ENG_DEk_TRAP_CAUSE k, ENG_DEk_TRAP_PC k, ENG_DEk_TRAP_ADDR_ADDR k, ENG_DEk_TRAP_ADDR_MEM k, PRISM_LANDk_LOST_COUNT k] c s { s with eng := s.eng.set k (t.eg k) } t

abbrev preEngStop (c : CmdIn) (s : State) (k : Fin 16) : Prop :=
  Ready 5 s ∧ c.words = [0, k.val] ∧ s.engState k ≠ 0 ∧ s.landSrc k = 0 ∧ (s.land[k]).avail = [] ∧ (s.land[k]).taken = [] ∧ s.on (dmaBusyF k 0) = false ∧ s.on (dmaBusyF k 1) = false
/-- ENG_STOP (R153, R180): an engine without a landing source and with no DMA transfer. -/
def engStop : Prop := ∀ c s k, preEngStop c s k →
  ∃ t, exec (.engStop c) s = .next t
    ∧ t.engState k = 0
    ∧ Done 0x56 stOk [] [ENG_DEk_STAT_STATE k, PRISM_LANDk_LOST_COUNT k] c s { s with eng := s.eng.set k { s.eg k with stall := none } } t

abbrev preEngMeminit (c : CmdIn) (s : State) (k : Fin 16) : Prop :=
  Ready 5 s ∧ c.words = [0, k.val] ∧ s.kernelFree k = true
/-- ENG_MEMINIT (R159, R180): the zeroing begins. -/
def engMeminit : Prop := ∀ c s k, preEngMeminit c s k →
  ∃ t, exec (.engMeminit c) s = .next t
    ∧ Done 0x57 stOk [] [] c s { s with eng := s.eng.set k { s.eg k with memInit := some s.cyc } } t

abbrev preEngDefault (c : CmdIn) (s : State) (k : Fin 14) : Prop :=
  Ready 5 s ∧ c.words = [0, k.val] ∧ s.kernelFree k = true
/-- ENG_DEFAULT (R174, R176, R180): the reply is the kernel's version, the engine is STOPPED and only its memories change. -/
def engDefault : Prop := ∀ c s k, preEngDefault c s k →
  ∃ t, exec (.engDefault c) s = .next t
    ∧ t.engState k = 0 ∧ Replied 0x58 stOk [Config.kernelVersion k % 2 ^ 32] 0 c s t
    ∧ MemKept (engBase k) (engBase k + 0x50000) s t ∧ SameRegs (lastF ++ ENG_DEk_STAT_STATE k :: rptF) s t ∧ t = repliedOnly { s with mem := t.mem, ecc := t.ecc } t
    ∧ (∀ i, i < 8192 → getBytes t.mem (engMem k 2 + 8 * i) 8 = some (bytesLE 8 (Config.kernelWord k i)))
    ∧ getBytes t.mem (engMem k 1 + 0x1FF00) 256 = some (wordsLE (paramBlock k)) ∧ getBytes t.mem (engMem k 0) 8 = some (List.replicate 8 0)

abbrev preEngGetStatus (c : CmdIn) (s : State) (k : Fin 16) : Prop :=
  Ready 5 s ∧ c.words = [0, k.val]
/-- ENG_GET_STATUS (R179, R180). -/
def engGetStatus : Prop := ∀ c s k, preEngGetStatus c s k →
  ∃ t, exec (.engGetStatus c) s = .next t
    ∧ Done 0x59 stOk [s.engStat k, s.rawReg 5 (0x1008 + 0x100 * k.val), s.rawReg 5 (0x100C + 0x100 * k.val), s.dmaStat k 0, s.dmaStat k 1, s.get (ENG_DEk_ALARMS_COUNT k), s.get (ENG_DEk_ASTALL_COUNT k), s.get (ENG_DEk_QREPS_COUNT k)] [] c s s t

end Sys2Proof.Claim

/-- ENG_ASSIGN, ENG_SPAN, ENG_GAUGE, ENG_LOAD, ENG_READ, ENG_START, ENG_STOP, ENG_MEMINIT, ENG_DEFAULT and ENG_GET_STATUS do what chapter 07 gives them where their conditions hold, and leave everything else. -/
def Obligations.EngineOpcodes : Prop :=
  Sys2Proof.Claim.engAssign ∧ Sys2Proof.Claim.engSpan ∧ Sys2Proof.Claim.engGauge ∧
  Sys2Proof.Claim.engLoad ∧ Sys2Proof.Claim.engRead ∧ Sys2Proof.Claim.engStart ∧
  Sys2Proof.Claim.engStop ∧ Sys2Proof.Claim.engMeminit ∧ Sys2Proof.Claim.engDefault ∧
  Sys2Proof.Claim.engGetStatus

namespace Sys2Proof.Claim
open Sys2Proof.Machine Sys2Proof.Machine.Reg

abbrev preDekCtrlStart (k : Fin 16) (s : State) : Prop :=
  s.fabRuns = true ∧ s.engState k ≠ 1 ∧ (s.land[k]).avail = [] ∧ (s.land[k]).taken = []
/-- DEK_CTRL_START (R153): every register of the programming model is cleared and the engine runs from address 0. -/
def dekCtrlStart : Prop := ∀ k s, preDekCtrlStart k s →
  ∃ t, exec (.dekCtrlStart k) s = .next t
    ∧ t.engState k = 1 ∧ t.get (ENG_DEk_TRAP_CAUSE k) = 0 ∧ t.get (ENG_DEk_TRAP_PC k) = 0 ∧ t.get (ENG_DEk_TRAP_ADDR_ADDR k) = 0 ∧ t.get (ENG_DEk_TRAP_ADDR_MEM k) = 0
    ∧ (t.eg k).pc = 0 ∧ (t.eg k).loops = [] ∧ (t.eg k).lp = 0 ∧ (t.eg k).stall = none ∧ (t.eg k).g = Vector.replicate 16 0 ∧ (t.eg k).v = Vector.replicate 16 (Vector.replicate 8 0)
    ∧ (t.eg k).acc = Vector.replicate 4 (Vector.replicate 8 0) ∧ (t.eg k).ov = Vector.replicate 4 (Vector.replicate 8 false) ∧ (t.eg k).a = Vector.replicate 8 0 ∧ (t.eg k).b = Vector.replicate 8 0 ∧ (t.eg k).l = Vector.replicate 8 0
    ∧ SameRegs [ENG_DEk_STAT_STATE k, ENG_DEk_TRAP_CAUSE k, ENG_DEk_TRAP_PC k, ENG_DEk_TRAP_ADDR_ADDR k, ENG_DEk_TRAP_ADDR_MEM k, PRISM_LANDk_LOST_COUNT k] s t ∧ t = butNotes { s with eng := s.eng.set k (t.eg k) } t

abbrev preDekCtrlStop (k : Fin 16) (s : State) : Prop :=
  s.fabRuns = true ∧ s.engState k ≠ 0 ∧ s.landSrc k = 0 ∧ (s.land[k]).avail = [] ∧ (s.land[k]).taken = [] ∧ s.on (dmaBusyF k 0) = false ∧ s.on (dmaBusyF k 1) = false
/-- DEK_CTRL_STOP (R152, R153): an engine without a landing source and with no DMA transfer. -/
def dekCtrlStop : Prop := ∀ k s, preDekCtrlStop k s →
  ∃ t, exec (.dekCtrlStop k) s = .next t
    ∧ t.engState k = 0
    ∧ Only [ENG_DEk_STAT_STATE k, PRISM_LANDk_LOST_COUNT k] s { s with eng := s.eng.set k { s.eg k with stall := none } } t

abbrev preDekStopHalves (k : Fin 16) (s : State) : Prop :=
  s.fabRuns = true ∧ s.engState k ≠ 0 ∧ s.on (dmaBusyF k 0) = false ∧ s.on (dmaBusyF k 1) = false
/-- DEK_CTRL_STOP (R153, R154): a fed engine's halves are released, and its records count as lost. -/
def dekStopHalves : Prop := ∀ k s, preDekStopHalves k s →
  ∃ t, exec (.dekCtrlStop k) s = .next t
    ∧ t.engState k = 0 ∧ (t.eg k).stall = none ∧ (t.land[k]).avail = [] ∧ (t.land[k]).taken = []
    ∧ t.get (PRISM_LANDk_LOST_COUNT k) = min (s.get (PRISM_LANDk_LOST_COUNT k) + (((s.land[k]).avail ++ (s.land[k]).taken).map (·.recs)).sum) (2 ^ 32 - 1)
    ∧ t.flash = s.flash ∧ t.cmd = s.cmd ∧ t.lw = s.lw ∧ t.trk = s.trk ∧ t.seq = s.seq ∧ t.mem = s.mem

abbrev preDmaComplete (k : Fin 16) (ch : Fin 2) (s : State) (a : Nat) (bs : List Byte) : Prop :=
  s.fabRuns = true ∧ s.on (dmaBusyF k ch) = true ∧ a % 8 = 0 ∧ a < 0x50000 ∧ (s.eg k).dma[ch] = ⟨0, engBase k + a, 8, 0, 0, false, false⟩ ∧ NoHeld s
    ∧ getBytes s.mem (engBase k + a) 8 = some bs ∧ kget (engBase k + a) s.ecc = none
/-- DMA_COMPLETE (R166, R167): one row of 8 bytes from the engine's own memories into X, with DONE. -/
def dmaComplete : Prop := ∀ k ch s a bs, preDmaComplete k ch s a bs →
  ∃ t, exec (.dmaComplete k ch) s = .next t
    ∧ t.get (dmaBusyF k ch) = 0 ∧ t.get (dmaDoneF k ch) = 1 ∧ t.get (dmaHaltF k ch) = s.get (dmaHaltF k ch)
    ∧ getBytes t.mem (engBase k) 8 = some bs ∧ MemKept (engBase k) (engBase k + 8) s t ∧ t.eng = s.eng ∧ t.land = s.land ∧ t.flash = s.flash ∧ t.out = s.out

abbrev preExternalAccessWaitExpiry (k : Fin 16) (s : State) : Prop :=
  s.fabRuns = true ∧ s.engState k = 1
/-- EXTERNAL_ACCESS_WAIT_EXPIRY (R158): the engine's next cycle goes to the access. -/
def externalAccessWaitExpiry : Prop := ∀ k s, preExternalAccessWaitExpiry k s →
  ∃ t, exec (.externalAccessWaitExpiry k) s = .next t
    ∧ Became { s with eng := s.eng.set k { s.eg k with skip := true } } t

abbrev preMeminitComplete (k : Fin 16) (s : State) (d : Nat) : Prop :=
  s.fabRuns = true ∧ (s.eg k).memInit = some d ∧ d + 5120 ≤ s.cyc ∧ s.engState k ≠ 1
/-- MEMINIT_COMPLETE (R159): a HALTED engine becomes STOPPED. -/
def meminitComplete : Prop := ∀ k s d, preMeminitComplete k s d →
  ∃ t, exec (.meminitComplete k) s = .next t
    ∧ t.engState k = 0 ∨ s.engState k ≠ 2
    ∧ (∀ i, i < 40960 → getBytes t.mem (engBase k + 8 * i) 8 = some (List.replicate 8 0))
    ∧ getBytes t.mem (engBase k + 0x4FFF8) 8 = some (List.replicate 8 0) ∧ MemKept (engBase k) (engBase k + 0x50000) s t
    ∧ SameRegs (ENG_DEk_STAT_STATE k :: rptF) s t ∧ t = butNotes { s with mem := t.mem, ecc := t.ecc, eng := s.eng.set k { s.eg k with memInit := none } } t

abbrev preLandingWaitResume (k : Fin 16) (s : State) (w : Nat) (h : Half) (rest : List Half) : Prop :=
  Issues 0x50 k { s with eng := s.eng.set k { s.eg k with stall := none } } w ∧ okS w = true ∧ s.landSrc k ≠ 0 ∧ (s.eg k).stall = some .landing ∧ (s.land[k]).avail = h :: rest ∧ (s.land[k]).taken.length < 2
/-- LANDING_WAIT_RESUME (R163, R165): a stalled LWAIT takes the half handed over. -/
def landingWaitResume : Prop := ∀ k s w h rest, preLandingWaitResume k s w h rest →
  ∃ t, exec (.landingWaitResume k) s = .next t
    ∧ Became { s with land := s.land.set k { s.land[k] with avail := rest, taken := (s.land[k]).taken ++ [h] }, eng := s.eng.set k { went (s.eg k) with lp := 0, stall := none } } t

abbrev preDmaWaitResume (k : Fin 16) (s : State) (w : Nat) (c : Fin 2) : Prop :=
  Issues 0x55 k { s with eng := s.eng.set k { s.eg k with stall := none } } w ∧ okS w = true ∧ w % 2 = c.val ∧ (s.eg k).stall = some (.dmaWait c) ∧ s.on (dmaBusyF k c) = false
/-- DMA_WAIT_RESUME (R167): a stalled DWAIT writes the channel's status. -/
def dmaWaitResume : Prop := ∀ k s w c, preDmaWaitResume k s w c →
  ∃ t, exec (.dmaWaitResume k) s = .next t
    ∧ Became { s with eng := s.eng.set k { went (s.eg k) with stall := none, g := (s.eg k).g.set (gdOf w) (BitVec.ofNat 32 (s.get (dmaBusyF k c) + s.get (dmaDoneF k c) * 2 + s.get (dmaHaltF k c) * 4 + s.get (dmaCauseF k c) * 16)) } } t

abbrev preFrameOutputResume (k : Fin 16) (s : State) (w : Nat) (f : Fib) (p q i : Nat) : Prop :=
  Issues 0x56 k { s with eng := s.eng.set k { s.eg k with stall := none } } w ∧ okS w = true ∧ s.landSrc k ≠ 0 ∧ (s.eg k).stall = some .frameOut ∧ f = s.srcFib k ∧ p = ((s.eg k).g[gsOf w]).toNat ∧ s.foutOk k p = true ∧ s.on (SEQ_CTRL_UNEVEN f) = false
    ∧ (s.pfil[f]).runs = [] ∧ (s.pfil[f]).run = some q ∧ ((s.eg k).g[gtOf w]).toNat = q + i ∧ (s.pfil[f]).closed ≤ i ∧ i < (s.pfil[f]).rowBase + 4
/-- FRAME_OUTPUT_RESUME (R169): with room in staging the stalled FOUT stores its samples. -/
def frameOutputResume : Prop := ∀ k s w f p q i, preFrameOutputResume k s w f p q i →
  ∃ t, exec (.frameOutputResume k) s = .next t
    ∧ (∀ j : Fin 8, p + j.val < s.readN f → getBytes t.mem (stagingAddr f (p + j.val) i) 2 = some (bytesLE 2 (((s.eg k).v[gdOf w])[j]).toNat))
    ∧ Became { s with mem := t.mem, eng := s.eng.set k { went (s.eg k) with stall := none } } t

abbrev preQualityReportApply (k : Fin 16) (s : State) (r : QReport) (rest : List QReport) : Prop :=
  s.fabRuns = true ∧ (s.eg k).qreps = r :: rest ∧ (s.eg k).stall ≠ some .qrep
/-- QUALITY_REPORT_APPLY (R116, R170): the oldest report leaves the queue and is applied to the gallery. -/
def qualityReportApply : Prop := ∀ k s r rest, preQualityReportApply k s r rest →
  ∃ t, exec (.qualityReportApply k) s = .next t
    ∧ (t.eg k).qreps = rest ∧ t.land = s.land ∧ t.out = s.out ∧ t.flash = s.flash ∧ t.seq = s.seq
    ∧ t.eng = s.eng.set k { s.eg k with qreps := rest }

abbrev preQualityEdgeApply (k : Fin 16) (s : State) (f : Fib) (p : Nat) (rest : List QReport) (a b c d : Byte) : Prop :=
  s.fabRuns = true ∧ (s.eg k).qreps = ⟨1, f, p⟩ :: rest ∧ (s.eg k).stall ≠ some .qrep ∧ p < 2 ^ 17 ∧ Intact s (qualAddr f p) ∧ Intact s (qualAddr f p + 8)
    ∧ getBytes s.mem (qualAddr f p + 8) 4 = some [a, b, c, d]
/-- QUALITY_REPORT_APPLY of an EDGE_SET report (R116): the edge bit of the position's quality entry becomes 1. -/
def qualityEdgeApply : Prop := ∀ k s f p rest a b c d, preQualityEdgeApply k s f p rest a b c d →
  ∃ t, exec (.qualityReportApply k) s = .next t
    ∧ getBytes t.mem (qualAddr f p + 8) 4 = some [a, b, c ||| 1, d] ∧ MemKept (qualAddr f p + 8) (qualAddr f p + 12) s t

abbrev preAlarmPostAccept (k : Fin 16) (s : State) (src : Nat) (ws : List Nat) : Prop :=
  s.fabRuns = true ∧ (s.eg k).posts = [(src, ws)] ∧ (s.eg k).stall = some .alarm ∧ (s.eg k).kern = none
    ∧ s.on OUT_STATUS_HOST_ACTIVE = true ∧ s.alarmRoom (3 + k.val) = true ∧ (∀ a ∈ s.out.alarms, a.at_ < s.cyc)
/-- ALARM_POST_ACCEPT (R171, R239): the waiting post enters the queue, and the engine stalled on it goes on. -/
def alarmPostAccept : Prop := ∀ k s src ws, preAlarmPostAccept k s src ws →
  ∃ t, exec (.alarmPostAccept k) s = .next t
    ∧ t.out.alarms = s.out.alarms ++ [⟨alarmWords 0x11 src k (ws ++ [0, 0, 0]) (s.get OUT_ASEQ_NEXT) 0, s.cyc, 3 + k.val⟩]
    ∧ t.get OUT_ASEQ_NEXT = (s.get OUT_ASEQ_NEXT + 1) % 2 ^ OUT_ASEQ_NEXT.w ∧ t.get (ENG_DEk_ALARMS_COUNT k) = min (s.get (ENG_DEk_ALARMS_COUNT k) + 1) (2 ^ 32 - 1)
    ∧ Only [OUT_ASEQ_NEXT, ENG_DEk_ALARMS_COUNT k, OUT_FLAGS_ALARM_FULL] s { s with eng := s.eng.set k { went (s.eg k) with stall := none, posts := [] }, out := { s.out with alarms := t.out.alarms } } t

end Sys2Proof.Claim

/-- A START or STOP written to an engine starts or stops it, a DMA channel ends with DONE, an access takes a cycle, MEMINIT ends with zeroed memories, and an instruction that was stalled issues once what it waits for is there. -/
def Obligations.EngineEvents : Prop :=
  Sys2Proof.Claim.dekCtrlStart ∧ Sys2Proof.Claim.dekCtrlStop ∧ Sys2Proof.Claim.dekStopHalves ∧
  Sys2Proof.Claim.dmaComplete ∧ Sys2Proof.Claim.externalAccessWaitExpiry ∧ Sys2Proof.Claim.meminitComplete ∧
  Sys2Proof.Claim.landingWaitResume ∧ Sys2Proof.Claim.dmaWaitResume ∧ Sys2Proof.Claim.frameOutputResume ∧
  Sys2Proof.Claim.qualityReportApply ∧ Sys2Proof.Claim.qualityEdgeApply ∧ Sys2Proof.Claim.alarmPostAccept

namespace Sys2Proof.Claim
open Sys2Proof.Machine Sys2Proof.Machine.Reg

abbrev preBrickWrite (s : State) (f : Fib) (r : Nat) : Prop :=
  s.fabRuns = true ∧ s.closeFrames f = s ∧ (s.pfil[f]).run = some r ∧ (s.pfil[f]).rowBase + 4 ≤ (s.pfil[f]).closed
    ∧ (s.pfil[f]).brick + 1 < s.nBricks f ∧ ((s.pfil[f]).brick ≠ 0 ∨ (s.pfil[f]).busy ((s.pfil[f]).rowBase / 64 % 2) = false)
    ∧ NoHeld s ∧ (∀ j < 8, Intact s (stagingBase f + 64 * (s.pfil[f]).brick + 8 * j)) ∧ s.ctBase f % 4096 = 0
/-- BRICK_WRITE (R132): no further frame closes now; the next brick of a closed row is written and the row goes on. -/
def brickWrite : Prop := ∀ s f r, preBrickWrite s f r →
  ∃ t, exec (.brickWrite f) s = .next t
    ∧ (t.pfil[f]).brick = (s.pfil[f]).brick + 1 ∧ (t.pfil[f]).rowBase = (s.pfil[f]).rowBase
    ∧ getBytes t.mem (s.brickAddr f ((s.pfil[f]).rowBase / 64 % 2) ((s.pfil[f]).rowBase % 64 / 4) (s.pfil[f]).brick) 64 = getBytes s.mem (stagingBase f + 64 * (s.pfil[f]).brick) 64
    ∧ MemKept (s.brickAddr f ((s.pfil[f]).rowBase / 64 % 2) ((s.pfil[f]).rowBase % 64 / 4) (s.pfil[f]).brick) (s.brickAddr f ((s.pfil[f]).rowBase / 64 % 2) ((s.pfil[f]).rowBase % 64 / 4) (s.pfil[f]).brick + 64) s t
    ∧ t.flash = s.flash ∧ t.eng = s.eng ∧ t.seq = s.seq ∧ t.out = s.out

abbrev preTileSetProcess (s : State) (f : Fib) (ts : TileSet) (rest : List TileSet) : Prop :=
  s.fabRuns = true ∧ (s.pfil[f]).reading = none ∧ (s.pfil[f]).ready = ts :: rest ∧ ts.owed = [] ∧ ts.first = false ∧ (s.pfil[f]).syncReq = false
/-- TILE_SET_PROCESS (R147): the filter starts on the oldest whole tile set; no SYNC is due. -/
def tileSetProcess : Prop := ∀ s f ts rest, preTileSetProcess s f ts rest →
  ∃ t, exec (.tileSetProcess f) s = .next t
    ∧ ((t.pfil[f]).reading.map fun x => x.1) = some ts.buf ∧ (t.pfil[f]).ready = rest
    ∧ ((t.pfil[f]).reading.map fun x => x.2.length) = some (min 64 ts.marks.length)
    ∧ t.flash = s.flash ∧ t.eng = s.eng ∧ t.seq = s.seq ∧ t.out.offered = s.out.offered

abbrev preFadeComplete (s : State) (f : Fib) (buf : Nat) (fr : List InFrame) : Prop :=
  s.fabRuns = true ∧ (s.pfil[f]).reading = some (buf, fr) ∧ s.on (PFIL_STATUS_FADING f) = true ∧ s.get (PFIL_CTRL_K f) = 0 ∧ (s.pfil[f]).heldSwap = none
    ∧ s.get (PFIL_FADE_POS f) < s.get (PFIL_FADE_LEN f) ∧ s.get (PFIL_FADE_LEN f) ≤ s.get (PFIL_FADE_POS f) + fr.length ∧ s.get (PFIL_FADE_LEN f) ≤ 4096
/-- FADE_COMPLETE (R143): without stair stages every frame is a FIR sample; no swap is held. -/
def fadeComplete : Prop := ∀ s f buf fr, preFadeComplete s f buf fr →
  ∃ t, exec (.fadeComplete f) s = .next t
    ∧ t.get (PFIL_STATUS_FADING f) = 0 ∧ t.get (PFIL_FADE_POS f) = 0 ∧ t.get (PFIL_FADE_LEN f) = 0 ∧ t.get (PFIL_STATUS_BANK f) = s.get (PFIL_STATUS_BANK f)
    ∧ (t.pfil[f]).reading = some (buf, fr.drop (s.get (PFIL_FADE_LEN f) - s.get (PFIL_FADE_POS f)))
    ∧ t.mem = s.mem ∧ t.flash = s.flash ∧ t.eng = s.eng ∧ t.seq = s.seq ∧ t.cmd = s.cmd

abbrev preTileSetRelease (s : State) (f : Fib) (buf : Nat) (fr : List InFrame) : Prop :=
  s.fabRuns = true ∧ (s.pfil[f]).reading = some (buf, fr) ∧ (s.pfil[f]).ready = [] ∧ (s.pfil[f]).owed = []
/-- TILE_SET_RELEASE (R147, R133): no discarded row waits for the buffer. -/
def tileSetRelease : Prop := ∀ s f buf fr, preTileSetRelease s f buf fr →
  ∃ t, exec (.tileSetRelease f) s = .next t
    ∧ (t.pfil[f]).reading = none ∧ (t.pfil[f]).count = (s.pfil[f]).count + fr.length
    ∧ t.mem = s.mem ∧ t.flash = s.flash ∧ t.eng = s.eng ∧ t.seq = s.seq ∧ t.cmd = s.cmd

abbrev prePfilSyncGo (s : State) (f : Fib) : Prop :=
  s.fabRuns = true ∧ s.seqState f ≠ 0
/-- PFIL_SYNC_GO (R141). -/
def pfilSyncGo : Prop := ∀ s f, prePfilSyncGo s f →
  ∃ t, exec (.pfilSyncGo f) s = .next t
    ∧ t.get (PFIL_STATUS_SYNC_PEND f) = 1 ∧ (t.pfil[f]).syncReq = true
    ∧ Only [PFIL_STATUS_SYNC_PEND f] s { s with pfil := t.pfil } t

abbrev prePfilConfig (c : CmdIn) (s : State) (f : Fib) (v taps rate lk ofs : Nat) : Prop :=
  Ready 4 s ∧ c.words = [f.val, v, taps, rate, lk, ofs] ∧ v &&& 0x377 = v ∧ s.seqState f = 0 ∧ s.loupesOn f = []
    ∧ (1 ≤ taps ∧ taps ≤ 384) ∧ rate < 2 ^ 24 ∧ fld v 4 3 ≤ 5 ∧ 1 ≤ fld lk 0 16 ∧ 1 ≤ fld lk 16 16 ∧ (fld v 2 1 = 1 ∨ (10000 ≤ rate ∧ rate ≤ 2000000))
/-- PFIL_CONFIG (R151) while IDLE, with no loupe region enabled: the reply is 2D and N_s of the main stream. -/
def pfilConfig : Prop := ∀ c s f v taps rate lk ofs, prePfilConfig c s f v taps rate lk ofs →
  ∃ t, exec (.pfilConfig c) s = .next t
    ∧ t.get (PFIL_CTRL_EN f) = fld v 0 1 ∧ t.get (PFIL_CTRL_SUPPRESS_SETTLING f) = fld v 1 1 ∧ t.get (PFIL_CTRL_MODE f) = fld v 2 1 ∧ t.get (PFIL_CTRL_K f) = fld v 4 3
    ∧ t.get (PFIL_CTRL_SPACING f) = fld v 8 2 ∧ t.get (PFIL_FIR_TAPS f) = taps ∧ t.get (PFIL_RATE_RATE f) = rate ∧ t.get (PFIL_LOCK_QN f) = fld lk 0 16 ∧ t.get (PFIL_LOCK_QD f) = fld lk 16 16 ∧ t.get (PFIL_LOCK_OFS_OFS f) = ofs
    ∧ Done 0x40 stOk [gd2 (fld v 4 3) taps, t.settleOf f (t.mainRates f)] [PFIL_CTRL_EN f, PFIL_CTRL_SUPPRESS_SETTLING f, PFIL_CTRL_MODE f, PFIL_CTRL_K f, PFIL_CTRL_SPACING f, PFIL_FIR_TAPS f, PFIL_RATE_RATE f, PFIL_LOCK_QN f, PFIL_LOCK_QD f, PFIL_LOCK_OFS_OFS f, PFIL_STATUS_SETTLING f] c s { s with pfil := t.pfil } t

abbrev prePfilMemSetup (c : CmdIn) (s : State) (f : Fib) (cl ch sl sh : Nat) : Prop :=
  Ready 4 s ∧ c.words = [f.val, cl, ch, sl, sh] ∧ s.seqState f = 0 ∧ s.areaOk cl ch (1024 * s.ctKib f) = true ∧ s.areaOk sl sh (1024 * s.stKib f) = true
    ∧ overlap (baseOf cl ch) (1024 * s.ctKib f) (baseOf sl sh) (1024 * s.stKib f) = false
/-- PFIL_MEM_SETUP (R131, R148). -/
def pfilMemSetup : Prop := ∀ c s f cl ch sl sh, prePfilMemSetup c s f cl ch sl sh →
  ∃ t, exec (.pfilMemSetup c) s = .next t
    ∧ t.ctBase f = baseOf cl ch ∧ t.stBase f = baseOf sl sh
    ∧ Done 0x41 stOk [s.ctKib f, s.stKib f % 2 ^ 32] [PFIL_CT_BASE_LO_ADDR f, PFIL_CT_BASE_HI_ADDR f, PFIL_ST_BASE_LO_ADDR f, PFIL_ST_BASE_HI_ADDR f] c s s t

abbrev prePfilCoefWrite (c : CmdIn) (s : State) (f : Fib) (b : Fin 2) (i0 : Nat) (xs : List Nat) : Prop :=
  Ready 4 s ∧ c.words = [f.val + 2 * b.val, i0, xs.length] ++ xs ∧ s.get (PFIL_STATUS_FADING f) = 0 ∧ s.get (PFIL_STATUS_SWAP_HELD f) = 0
    ∧ i0 ≤ 383 ∧ i0 + xs.length ≤ 384 ∧ xs.all coefOk = true ∧ b.val ≠ s.get (PFIL_STATUS_BANK f)
/-- PFIL_COEF_WRITE (R144, R150): into the bank not in use. -/
def pfilCoefWrite : Prop := ∀ c s f b i0 xs, prePfilCoefWrite c s f b i0 xs →
  ∃ t, exec (.pfilCoefWrite c) s = .next t
    ∧ (∀ i, i < xs.length → t.get (PFIL_COEF f b (i0 + i)) = xs.getD i 0 % 2 ^ (PFIL_COEF f b (i0 + i)).w)
    ∧ Done 0x42 stOk [] ((List.range xs.length).map fun i => PFIL_COEF f b (i0 + i)) c s s t

abbrev prePfilSwap (c : CmdIn) (s : State) (f : Fib) (b : Fin 2) (l : Nat) : Prop :=
  Ready 4 s ∧ c.words = [f.val + 2 * b.val, l] ∧ (16 ≤ l ∧ l ≤ 4096) ∧ b.val ≠ s.get (PFIL_STATUS_BANK f) ∧ s.get (PFIL_STATUS_FADING f) = 0 ∧ s.get (PFIL_STATUS_SWAP_HELD f) = 0 ∧ s.get (PFIL_STATUS_BANK f) ≤ 1
/-- PFIL_SWAP (R144): while IDLE or ARMED the bank changes at once; otherwise a fade of L samples begins. -/
def pfilSwap : Prop := ∀ c s f b l, prePfilSwap c s f b l →
  ∃ t, exec (.pfilSwap c) s = .next t
    ∧ t.get (PFIL_STATUS_BANK f) = b.val
    ∧ (2 ≤ s.seqState f → t.get (PFIL_STATUS_FADING f) = 1 ∧ t.get (PFIL_FADE_POS f) = 0 ∧ t.get (PFIL_FADE_LEN f) = l)
    ∧ Done 0x43 stOk [] [PFIL_STATUS_BANK f, PFIL_STATUS_FADING f, PFIL_FADE_POS f, PFIL_FADE_LEN f, PFIL_STATUS_SWAP_HELD f] c s { s with pfil := t.pfil } t

abbrev prePfilSync (c : CmdIn) (s : State) (f : Fib) : Prop :=
  Ready 4 s ∧ c.words = [f.val] ∧ s.get (PFIL_STATUS_SYNC_PEND f) = 0 ∧ s.seqState f ≠ 0
/-- PFIL_SYNC (R141). -/
def pfilSync : Prop := ∀ c s f, prePfilSync c s f →
  ∃ t, exec (.pfilSync c) s = .next t
    ∧ t.get (PFIL_STATUS_SYNC_PEND f) = 1 ∧ (t.pfil[f]).syncReq = true
    ∧ Done 0x44 stOk [] [PFIL_STATUS_SYNC_PEND f] c s { s with pfil := t.pfil } t

abbrev prePfilLoupe (c : CmdIn) (s : State) (f : Fib) (l : Fin 16) (v st ln rate lk : Nat) : Prop :=
  Ready 4 s ∧ c.words = [f.val, l.val, v, st, ln, rate, lk] ∧ v &&& 0xF = v ∧ fld v 0 1 = 0 ∧ s.seqState f = 0 ∧ s.loupesOn f = []
    ∧ st < 2 ^ 17 ∧ (16 ≤ ln ∧ ln ≤ 16384) ∧ rate < 2 ^ 24 ∧ fld v 1 3 ≤ 5 ∧ 1 ≤ fld lk 0 16 ∧ 1 ≤ fld lk 16 16 ∧ (s.on (PFIL_CTRL_MODE f) = true ∨ 10000 ≤ rate)
    ∧ s.idleRates f (s.mainRates f) 2000000 = true
/-- PFIL_LOUPE (R41, R146) while IDLE: the region is stored, disabled; no other region is enabled and the main stream's rates hold. -/
def pfilLoupe : Prop := ∀ c s f l v st ln rate lk, prePfilLoupe c s f l v st ln rate lk →
  ∃ t, exec (.pfilLoupe c) s = .next t
    ∧ t.get (PFIL_LPL_CTRL_EN f l) = 0 ∧ t.get (PFIL_LPL_CTRL_K f l) = fld v 1 3 ∧ t.get (PFIL_LPL_START_START f l) = st ∧ t.get (PFIL_LPL_LEN_LEN f l) = ln
    ∧ t.get (PFIL_LPL_RATE_RATE f l) = rate ∧ t.get (PFIL_LPL_LOCK_QN f l) = fld lk 0 16 ∧ t.get (PFIL_LPL_LOCK_QD f l) = fld lk 16 16
    ∧ Done 0x45 stOk [t.settleOf f (t.loupeRates f l)] [PFIL_LPL_CTRL_EN f l, PFIL_LPL_CTRL_K f l, PFIL_LPL_START_START f l, PFIL_LPL_LEN_LEN f l, PFIL_LPL_RATE_RATE f l, PFIL_LPL_LOCK_QN f l, PFIL_LPL_LOCK_QD f l, PFIL_LPL_STATUS_SETTLING f l] c s { s with pfil := t.pfil } t

abbrev prePfilBudget (c : CmdIn) (s : State) (f : Fib) : Prop :=
  Ready 4 s ∧ c.words = [f.val] ∧ s.seqState f ≠ 0
/-- PFIL_BUDGET (R511): of a running fibre, load and capacity in 10^6, the largest TAPS and the slack. -/
def pfilBudget : Prop := ∀ c s f, prePfilBudget c s f →
  ∃ t, exec (.pfilBudget c) s = .next t
    ∧ Done 0x46 stOk (s.budget f) [] c s s t

abbrev prePfilGetStatus (c : CmdIn) (s : State) (f : Fib) : Prop :=
  Ready 4 s ∧ c.words = [f.val]
/-- PFIL_GET_STATUS (R151). -/
def pfilGetStatus : Prop := ∀ c s f, prePfilGetStatus c s f →
  ∃ t, exec (.pfilGetStatus c) s = .next t
    ∧ Done 0x47 stOk [s.rawReg 4 (0x1014 + 0x1000 * f.val), s.rawReg 4 (0x1018 + 0x1000 * f.val), s.rawReg 4 (0x1048 + 0x1000 * f.val), s.rawReg 4 (0x101C + 0x1000 * f.val), s.rawReg 4 (0x104C + 0x1000 * f.val), s.rawReg 4 (0x1050 + 0x1000 * f.val), s.rawReg 4 (0x1054 + 0x1000 * f.val)] [] c s s t

end Sys2Proof.Claim

/-- A whole brick goes from staging to its place in DRAM; the filter starts on the oldest tile set; a fade that ends within the set leaves FADING, POS and LEN 0 and keeps the bank; a tile set's end releases its buffer with every frame filtered; a write of PFIL_SYNC.GO requests a SYNC. PFIL_CONFIG, PFIL_MEM_SETUP, PFIL_COEF_WRITE, PFIL_SWAP, PFIL_SYNC, PFIL_LOUPE, PFIL_BUDGET and PFIL_GET_STATUS do what chapter 06 gives them where their conditions hold, and leave everything else. -/
def Obligations.PositionFilter : Prop :=
  Sys2Proof.Claim.brickWrite ∧ Sys2Proof.Claim.tileSetProcess ∧ Sys2Proof.Claim.fadeComplete ∧
  Sys2Proof.Claim.tileSetRelease ∧ Sys2Proof.Claim.pfilSyncGo ∧ Sys2Proof.Claim.pfilConfig ∧
  Sys2Proof.Claim.pfilMemSetup ∧ Sys2Proof.Claim.pfilCoefWrite ∧ Sys2Proof.Claim.pfilSwap ∧
  Sys2Proof.Claim.pfilSync ∧ Sys2Proof.Claim.pfilLoupe ∧ Sys2Proof.Claim.pfilBudget ∧
  Sys2Proof.Claim.pfilGetStatus

namespace Sys2Proof.Claim
open Sys2Proof.Machine Sys2Proof.Machine.Reg

abbrev prePrismResponse (s : State) (f : Fib) (x : Shot) (r : Response) (old : Nat) : Prop :=
  s.fabRuns = true ∧ NoHeld s ∧ ((s.rxf[f]).shots.find? fun y => y.shot == r.shot) = some x ∧ s.respDue f x r = true
    ∧ ((s.rxf[f]).touches (s.mfWindowOf f x.em r.pos).1 (s.mfWindowOf f x.em r.pos).2 fun y => y.stepRay || y.clipped [0, 1, 2, 3]) = false
    ∧ x.gal.freeze = false ∧ x.gal.fadeAuto = false
    ∧ Intact s (qualAddr f r.pos + 8) ∧ getBytes s.mem (qualAddr f r.pos + 8) 2 = some [0, 0]
    ∧ Intact s (align8 (refAddr f r.pos x.em.slot r.pol)) ∧ getBytes s.mem (refAddr f r.pos x.em.slot r.pol) 2 = some (bytesLE 2 old) ∧ old < 65536
/-- PRISM_RESPONSE (R111, R115): a response of a launched shot whose window has been heard and holds no STEP or CLIP sample, at a position whose
gallery words are intact; its magnitude lies within R112's bounds (a free value, log entry 2). -/
def prismResponse : Prop := ∀ s f x r old, prePrismResponse s f x r old →
  ∃ t, exec (.prismResponse f r) s = .next t
    ∧ (∃ m, m ≤ 8191 ∧ getBytes t.mem (refAddr f r.pos x.em.slot r.pol) 2 = some (bytesLE 2 (refStep x.gal.alpha old m)))
    ∧ ((t.prism[f]).resp.head?.map fun w => (w.shot, w.pos, w.pol)) = some (r.shot, r.pos, r.pol.val)
    ∧ MemKept (refAddr f r.pos x.em.slot r.pol) (refAddr f r.pos x.em.slot r.pol + 2) s t
    ∧ t.flash = s.flash ∧ t.eng = s.eng ∧ t.land = s.land ∧ t.seq = s.seq ∧ t.out = s.out ∧ t.cmd = s.cmd

abbrev preLandingRunWrite (s : State) (k : Fin 16) (shot a n : Nat) (last : Bool) (f : Fib) (ws : List Nat) : Prop :=
  s.fabRuns = true ∧ s.get (ENG_ASSIGN_SRC k) = f.val + 1 ∧ s.nextRun f k shot = some (a, n, last) ∧ s.runWords f shot a n last = some ws
    ∧ (s.land[k]).holds (s.land[k]).half = false ∧ (s.land[k]).bytes + 4 * ws.length ≤ 32736
/-- LANDING_RUN_WRITE (R124, R127): the next run of a shot enters the open half. -/
def landingRunWrite : Prop := ∀ s k shot a n last f ws, preLandingRunWrite s k shot a n last f ws →
  ∃ t, exec (.landingRunWrite k shot) s = .next t
    ∧ getBytes t.mem (landHalf k (s.land[k]).half + 32 + (s.land[k]).bytes) (4 * ws.length) = some (wordsLE ws)
    ∧ (t.land[k]).progress.head? = some (shot, a + n) ∧ (t.land[k]).bytes = (s.land[k]).bytes + 4 * ws.length ∧ (t.land[k]).runs = (s.land[k]).runs + 1 ∧ (t.land[k]).half = (s.land[k]).half
    ∧ MemKept (landHalf k (s.land[k]).half + 32 + (s.land[k]).bytes) (landHalf k (s.land[k]).half + 32 + (s.land[k]).bytes + 4 * ws.length) s t
    ∧ t.flash = s.flash ∧ t.eng = s.eng ∧ t.prism = s.prism ∧ t.seq = s.seq ∧ t.out = s.out ∧ t.cmd = s.cmd

abbrev preLandingFlushTimeout (s : State) (k : Fin 16) (f : Fib) (t0 : Nat) : Prop :=
  s.fabRuns = true ∧ s.get (ENG_ASSIGN_SRC k) = f.val + 1 ∧ (s.land[k]).firstAt = some t0 ∧ t0 + s.get (PRISM_LAND_FLUSH_CYCLES f) ≤ s.cyc
    ∧ (s.land[k]).half ≤ 1 ∧ (s.land[k]).holds (1 - (s.land[k]).half) = false ∧ s.get (ENG_DEk_STAT_STATE k) = 1
/-- LANDING_FLUSH_TIMEOUT (R126, R127): a RUNNING engine's open half is handed over. -/
def landingFlushTimeout : Prop := ∀ s k f t0, preLandingFlushTimeout s k f t0 →
  ∃ t, exec (.landingFlushTimeout k) s = .next t
    ∧ (t.land[k]).half = 1 - (s.land[k]).half ∧ (t.land[k]).bytes = 0 ∧ (t.land[k]).runs = 0 ∧ (t.land[k]).firstAt = none
    ∧ (t.land[k]).avail = (s.land[k]).avail ++ [⟨(s.land[k]).half, ((s.land[k]).bytes - 16 * (s.land[k]).runs) / 8, (s.land[k]).lost⟩]
    ∧ t.get (PRISM_LANDk_STAT_SEQ k) = (s.get (PRISM_LANDk_STAT_SEQ k) + 1) % 2 ^ (PRISM_LANDk_STAT_SEQ k).w ∧ t.get (heldF k (s.land[k]).half) = 1
    ∧ MemKept (landHalf k (s.land[k]).half) (landHalf k (s.land[k]).half + 32) s t ∧ t.flash = s.flash ∧ t.eng = s.eng ∧ t.prism = s.prism

abbrev preGalInit (s : State) (f : Fib) : Prop :=
  s.fabRuns = true ∧ s.seqState f = 0 ∧ s.galOwner f = none
/-- GAL_INIT (R117). -/
def galInit : Prop := ∀ s f, preGalInit s f →
  ∃ t, exec (.galInit f) s = .next t
    ∧ t.get (galBusyF f) = 1 ∧ (t.prism[f]).galOp = some .init ∧ (t.prism[f]).galAt = s.cyc
    ∧ Only [galBusyF f] s { s with prism := t.prism } t

abbrev preGalInitComplete (s : State) (f : Fib) : Prop :=
  s.fabRuns = true ∧ (s.prism[f]).galOp = some .init ∧ (s.prism[f]).galAt + 98304 ≤ s.cyc ∧ s.get (PRISM_REF_INIT_VALUE f) < 65536
/-- GAL_INIT_COMPLETE (R117): every REF holds REF_INIT, every quality word 0. -/
def galInitComplete : Prop := ∀ s f, preGalInitComplete s f →
  ∃ t, exec (.galInitComplete f) s = .next t
    ∧ t.get (galValidF f) = 1 ∧ t.get (galBusyF f) = 0 ∧ (t.prism[f]).galOp = none
    ∧ (∀ i, i < 524288 → getBytes t.mem (galBase f + 8 * i) 8 = some (bytesLE 8 (s.refInit f)))
    ∧ (∀ i, i < 262144 → getBytes t.mem (galBase f + 0x400000 + 8 * i) 8 = some (bytesLE 8 0))
    ∧ MemKept (galBase f) (galBase f + 0x600000) s t ∧ t.flash = s.flash ∧ t.seq = s.seq ∧ t.out = s.out

abbrev preQclr (s : State) (f : Fib) : Prop :=
  s.fabRuns = true ∧ s.galOwner f = none
/-- QCLR (R118). -/
def qclr : Prop := ∀ s f, preQclr s f →
  ∃ t, exec (.qclr f) s = .next t
    ∧ t.get (galBusyF f) = 1 ∧ (t.prism[f]).galOp = some (.qclr 0)
    ∧ Only [galBusyF f] s { s with prism := t.prism } t

abbrev preQclrComplete (s : State) (f : Fib) (n : Nat) : Prop :=
  s.fabRuns = true ∧ (s.prism[f]).galOp = some (.qclr n) ∧ 131072 ≤ n
/-- QCLR_COMPLETE (R118). -/
def qclrComplete : Prop := ∀ s f n, preQclrComplete s f n →
  ∃ t, exec (.qclrComplete f) s = .next t
    ∧ t.get (galBusyF f) = 0 ∧ (t.prism[f]).galOp = none
    ∧ Only [galBusyF f] s { s with prism := t.prism } t

abbrev prePrismConfig (c : CmdIn) (s : State) (f : Fib) (v w fl : Nat) : Prop :=
  Ready 3 s ∧ c.words = [f.val, v, w, fl] ∧ v ≤ 7 ∧ w &&& 0x000F0F1F = w ∧ s.seqState f = 0 ∧ fld v 0 2 ≠ 3 ∧ fl ≤ 4095
/-- PRISM_CONFIG (R130). -/
def prismConfig : Prop := ∀ c s f v w fl, prePrismConfig c s f v w fl →
  ∃ t, exec (.prismConfig c) s = .next t
    ∧ t.get (PRISM_CTRL_MF_WIN f) = fld v 0 2 ∧ t.get (PRISM_CTRL_FMT f) = fld v 2 1 ∧ t.get (PRISM_SCALE_MF_SHIFT f) = fld w 0 5
    ∧ t.get (PRISM_SCALE_MAG_SHIFT f) = fld w 8 4 ∧ t.get (PRISM_SCALE_IQ_SHIFT f) = fld w 16 4 ∧ t.get (PRISM_LAND_FLUSH_CYCLES f) = fl
    ∧ Done 0x30 stOk [] [PRISM_CTRL_MF_WIN f, PRISM_CTRL_FMT f, PRISM_SCALE_MF_SHIFT f, PRISM_SCALE_MAG_SHIFT f, PRISM_SCALE_IQ_SHIFT f, PRISM_LAND_FLUSH_CYCLES f] c s s t

abbrev prePrismGallery (c : CmdIn) (s : State) (f : Fib) (al m ra : Nat) : Prop :=
  Ready 3 s ∧ c.words = [f.val, al, m, ra] ∧ al ≤ 15 ∧ m ≤ 3 ∧ ra ≤ 255
/-- PRISM_GALLERY (R130). -/
def prismGallery : Prop := ∀ c s f al m ra, prePrismGallery c s f al m ra →
  ∃ t, exec (.prismGallery c) s = .next t
    ∧ t.get (PRISM_GAL_CTRL_ALPHA f) = al ∧ t.get (PRISM_GAL_CTRL_FREEZE f) = fld m 0 1 ∧ t.get (PRISM_GAL_CTRL_FADE_AUTO f) = fld m 1 1 ∧ t.get (PRISM_GAL_CTRL_FADE_RATIO f) = ra
    ∧ Done 0x31 stOk [] [PRISM_GAL_CTRL_ALPHA f, PRISM_GAL_CTRL_FREEZE f, PRISM_GAL_CTRL_FADE_AUTO f, PRISM_GAL_CTRL_FADE_RATIO f] c s s t

abbrev prePrismGalInit (c : CmdIn) (s : State) (f : Fib) (v : Nat) : Prop :=
  Ready 3 s ∧ c.words = [f.val, v] ∧ v ≤ 0xFFFF ∧ s.seqState f = 0 ∧ s.galOwner f = none
/-- PRISM_GAL_INIT (R117, R130). -/
def prismGalInit : Prop := ∀ c s f v, prePrismGalInit c s f v →
  ∃ t, exec (.prismGalInit c) s = .next t
    ∧ t.get (PRISM_REF_INIT_VALUE f) = v ∧ t.get (galBusyF f) = 1 ∧ (t.prism[f]).galOp = some .init ∧ (t.prism[f]).galAt = s.cyc
    ∧ Done 0x32 stOk [] [PRISM_REF_INIT_VALUE f, galBusyF f] c s { s with prism := t.prism } t

abbrev prePrismQclear (c : CmdIn) (s : State) (f : Fib) : Prop :=
  Ready 3 s ∧ c.words = [f.val] ∧ s.galOwner f = none
/-- PRISM_QCLEAR (R118, R130). -/
def prismQclear : Prop := ∀ c s f, prePrismQclear c s f →
  ∃ t, exec (.prismQclear c) s = .next t
    ∧ t.get (galBusyF f) = 1 ∧ (t.prism[f]).galOp = some (.qclr 0)
    ∧ Done 0x33 stOk [] [galBusyF f] c s { s with prism := t.prism } t

abbrev prePrismBril (c : CmdIn) (s : State) (f : Fib) (v : Nat) : Prop :=
  Ready 3 s ∧ c.words = [f.val, v] ∧ v &&& 0x1FFF1FFF = v ∧ s.seqState f = 0 ∧ (100 ≤ fld v 4 9 ∧ fld v 4 9 ≤ 400)
/-- PRISM_BRIL (R130). -/
def prismBril : Prop := ∀ c s f v, prePrismBril c s f v →
  ∃ t, exec (.prismBril c) s = .next t
    ∧ t.get (PRISM_BRIL_CTRL_EN f) = fld v 0 1 ∧ t.get (PRISM_BRIL_CTRL_SLOT f) = fld v 1 3 ∧ t.get (PRISM_BRIL_CTRL_BAND_CTR f) = fld v 4 9
    ∧ t.get (PRISM_BRIL_CTRL_DIV f) = fld v 16 8 ∧ t.get (PRISM_BRIL_CTRL_BSHIFT f) = fld v 24 5
    ∧ Done 0x34 stOk [] [PRISM_BRIL_CTRL_EN f, PRISM_BRIL_CTRL_SLOT f, PRISM_BRIL_CTRL_BAND_CTR f, PRISM_BRIL_CTRL_DIV f, PRISM_BRIL_CTRL_BSHIFT f] c s s t

abbrev prePrismMfInfo (c : CmdIn) (s : State) (f : Fib) (d : Nat) : Prop :=
  Ready 3 s ∧ c.words = [f.val, d] ∧ d ≤ 15 ∧ s.codeOk f d = true
/-- PRISM_MF_INFO (R109): taps used, the start of the truncated window in ns, and the loss of compression gain. -/
def prismMfInfo : Prop := ∀ c s f d, prePrismMfInfo c s f d →
  ∃ t, exec (.prismMfInfo c) s = .next t
    ∧ Done 0x35 stOk [min (cdiv (s.get (RXF_PCODE_LEN_LEN f d)) 10) 1024, 5 * ((cdiv (s.get (RXF_PCODE_LEN_LEN f d)) 10 - min (cdiv (s.get (RXF_PCODE_LEN_LEN f d)) 10) 1024) / 2), mfLoss (cdiv (s.get (RXF_PCODE_LEN_LEN f d)) 10)] [] c s s t

abbrev prePrismGetStatus (c : CmdIn) (s : State) (f : Fib) : Prop :=
  Ready 3 s ∧ c.words = [f.val]
/-- PRISM_GET_STATUS (R130). -/
def prismGetStatus : Prop := ∀ c s f, prePrismGetStatus c s f →
  ∃ t, exec (.prismGetStatus c) s = .next t
    ∧ Done 0x36 stOk ([s.rawReg 3 0, s.rawReg 3 (0x1034 + 0x1000 * f.val)] ++ ((List.range 7).map fun i => s.rawReg 3 (0x1018 + 0x1000 * f.val + 4 * i)) ++ (s.fedBy f).flatMap fun k => [s.rawReg 3 (0x3000 + 0x10 * k), s.rawReg 3 (0x3004 + 0x10 * k)]) [] c s s t

end Sys2Proof.Claim

/-- A response updates its REF entry by R115 and waits for its landings; a run enters the open landing half and is counted there; a half whose flush time has passed is handed over with its header and SEQ; GAL_INIT and QCLR start when nothing holds the galleries and end at their time, GAL_INIT with every gallery word written and GAL_VALID set. PRISM_CONFIG, PRISM_GALLERY, PRISM_GAL_INIT, PRISM_QCLEAR, PRISM_BRIL, PRISM_MF_INFO and PRISM_GET_STATUS do what chapter 05 gives them where their conditions hold, and leave everything else. -/
def Obligations.Prism : Prop :=
  Sys2Proof.Claim.prismResponse ∧ Sys2Proof.Claim.landingRunWrite ∧ Sys2Proof.Claim.landingFlushTimeout ∧
  Sys2Proof.Claim.galInit ∧ Sys2Proof.Claim.galInitComplete ∧ Sys2Proof.Claim.qclr ∧
  Sys2Proof.Claim.qclrComplete ∧ Sys2Proof.Claim.prismConfig ∧ Sys2Proof.Claim.prismGallery ∧
  Sys2Proof.Claim.prismGalInit ∧ Sys2Proof.Claim.prismQclear ∧ Sys2Proof.Claim.prismBril ∧
  Sys2Proof.Claim.prismMfInfo ∧ Sys2Proof.Claim.prismGetStatus

namespace Sys2Proof.Claim
open Sys2Proof.Machine Sys2Proof.Machine.Reg

abbrev preEnvelopeWord (s : State) (f : Fib) (raw : EnvRaw) (x : EnvShot) (tr : LwTrig) (e : Nat) : Prop :=
  s.fabRuns = true ∧ s.on (rayRdyF f) = true ∧ (∀ n ∈ (s.lw[f]).lastIv.toList, n < interval s.nowNs)
    ∧ (s.lw[f]).cur = some x ∧ (s.lw[f]).begun = true ∧ (s.lw[f]).coming = [] ∧ (s.lw[f]).trigs = [tr]
    ∧ s.envZero f x + (e : Int) = interval s.nowNs ∧ e ≤ s.pEnd f
    ∧ tr.pos = e ∧ tr.width = 0 ∧ tr.sum = 0 ∧ tr.k = 0 ∧ tr.rise = true ∧ tr.n < 32 ∧ (s.get (LW_TRG_STATE_TRIPPED f)).testBit tr.n = false
    ∧ s.on (LW_CTRL_EN f) = true ∧ s.get (LW_MASK_CTRL_EN f) = 0 ∧ s.get (LW_FSTAT_LEARNING f) = 0 ∧ s.get (LW_FSTAT_HOLDOFF f) = 0 ∧ s.get HK_CTRL_INJ_LW = 0 ∧ s.cap.cur = none
    ∧ ((s.syncStair f).envelope f (interval s.nowNs) raw).step = false ∧ tr.level < testValue ((s.syncStair f).envelope f (interval s.nowNs) raw)
/-- ENVELOPE_WORD (R217, R222): one armed rising trigger of one position is met in its interval. -/
def envelopeWord : Prop := ∀ s f raw x tr e, preEnvelopeWord s f raw x tr e →
  ∃ t, exec (.envelopeWord f raw) s = .next t
    ∧ t.get (LW_EVT_COUNT_COUNT f) = min (s.get (LW_EVT_COUNT_COUNT f) + 1) (2 ^ 32 - 1) ∧ t.get (LW_FLAGS_EVT f) = 1
    ∧ t.get (LW_LAST_CAUSE_CAUSE f) = 2 ^ tr.n ∧ t.get (LW_LAST_INFO_PRIMARY f) = tr.n ∧ t.get (LW_LAST_INFO_MASK f) = 0
    ∧ t.get (LW_LAST_POS_E f) = e % 2 ^ (LW_LAST_POS_E f).w ∧ t.get (LW_LAST_VALUE_V f) = testValue ((s.syncStair f).envelope f (interval s.nowNs) raw) % 2 ^ (LW_LAST_VALUE_V f).w
    ∧ (t.get (LW_TRG_STATE_TRIPPED f)).testBit tr.n = true ∧ (t.lw[f]).lastIv = some (interval s.nowNs)
    ∧ t.mem = s.mem ∧ t.flash = s.flash ∧ t.seq = s.seq ∧ t.eng = s.eng ∧ t.out = s.out ∧ t.cmd = s.cmd ∧ t.hk = s.hk

abbrev preHoldoffExpiry (s : State) (f : Fib) (d : Nat) : Prop :=
  s.fabRuns = true ∧ (s.lw[f]).holdDue = some d ∧ d ≤ s.cyc
/-- HOLDOFF_EXPIRY (R223). -/
def holdoffExpiry : Prop := ∀ s f d, preHoldoffExpiry s f d →
  ∃ t, exec (.holdoffExpiry f) s = .next t
    ∧ t.get (LW_FSTAT_HOLDOFF f) = 0 ∧ (t.lw[f]).holdDue = none
    ∧ Only [LW_FSTAT_HOLDOFF f] s { s with lw := t.lw } t

abbrev preEventFifoTransfer (s : State) (f : Fib) (e : LwEvt) (rest : List LwEvt) : Prop :=
  s.fabRuns = true ∧ (s.lw[f]).fifo = e :: rest ∧ s.on OUT_STATUS_HOST_ACTIVE = true ∧ s.alarmRoom (f.val + 1) = true ∧ (∀ a ∈ s.out.alarms, a.at_ < s.cyc)
/-- EVENT_FIFO_TRANSFER (R224, R239): with a host group active and room in the queue, the event becomes an ALARM_LW. -/
def eventFifoTransfer : Prop := ∀ s f e rest, preEventFifoTransfer s f e rest →
  ∃ t, exec (.eventFifoTransfer f) s = .next t
    ∧ (t.lw[f]).fifo = rest ∧ (t.lw[f]).lost = 0
    ∧ t.out.alarms = s.out.alarms ++ [⟨alarmWords 0x10 (f.val + 1) 0 e.words (s.get OUT_ASEQ_NEXT) (e.marks + (s.lw[f]).lost * 2 ^ 16), s.cyc, f.val + 1⟩]
    ∧ t.get OUT_ASEQ_NEXT = (s.get OUT_ASEQ_NEXT + 1) % 2 ^ OUT_ASEQ_NEXT.w
    ∧ Only [OUT_ASEQ_NEXT, OUT_FLAGS_ALARM_FULL] s { s with lw := t.lw, out := { s.out with alarms := t.out.alarms } } t

abbrev preAlarmPulseExpiry (s : State) (f : Fib) : Prop :=
  s.fabRuns = true ∧ s.on LW_ALARM_MODE = true ∧ s.on (if f = 0 then LW_ALARM_LATCH_A else LW_ALARM_LATCH_B) = true ∧ (s.lw[f]).pulseDue < s.cyc
/-- ALARM_PULSE_EXPIRY (R225). -/
def alarmPulseExpiry : Prop := ∀ s f, preAlarmPulseExpiry s f →
  ∃ t, exec (.alarmPulseExpiry f) s = .next t
    ∧ t.get (if f = 0 then LW_ALARM_LATCH_A else LW_ALARM_LATCH_B) = 0
    ∧ Only [if f = 0 then LW_ALARM_LATCH_A else LW_ALARM_LATCH_B] s s t

abbrev preMaskFillComplete (s : State) (f : Fib) (p : CmdPkt) (due v : Nat) : Prop :=
  s.fabRuns = true ∧ (s.lw[f]).fill = some (p, due, v) ∧ due ≤ s.cyc ∧ v < 2 ^ 32
/-- MASK_FILL_COMPLETE (R218, R220). -/
def maskFillComplete : Prop := ∀ s f p due v, preMaskFillComplete s f p due v →
  ∃ t, exec (.maskFillComplete f) s = .next t
    ∧ t.get (LW_FSTAT_MASK_VALID f) = 1 ∧ (t.lw[f]).fill = none
    ∧ Replied 0x75 stOk [] 0 ⟨p.src, p.tag, p.ps⟩ s t
    ∧ MemKept (maskBase f) (maskBase f + 0x10000) s t ∧ t.flash = s.flash ∧ t.seq = s.seq ∧ t.eng = s.eng
    ∧ (∀ i, i < 8192 → getBytes t.mem (maskBase f + 8 * i) 8 = some (bytesLE 4 v ++ bytesLE 4 v))
    ∧ getBytes t.mem (maskBase f + 0xFFF8) 8 = some (bytesLE 4 v ++ bytesLE 4 v)

abbrev preMaskLearnComplete (s : State) (f : Fib) (l : MaskLearn) : Prop :=
  s.fabRuns = true ∧ (s.lw[f]).learn = some l ∧ s.on (LW_FSTAT_LEARNING f) = true ∧ l.left = 0
/-- MASK_LEARN_COMPLETE (R221, R220). -/
def maskLearnComplete : Prop := ∀ s f l, preMaskLearnComplete s f l →
  ∃ t, exec (.maskLearnComplete f) s = .next t
    ∧ t.get (LW_FSTAT_MASK_VALID f) = 1 ∧ t.get (LW_FSTAT_LEARNING f) = 0 ∧ (t.lw[f]).learn = none
    ∧ t.flash = s.flash ∧ t.seq = s.seq ∧ t.eng = s.eng ∧ t.cmd = s.cmd

abbrev preCaptureRecord (s : State) (r : CapRec) (rest : List CapRec) : Prop :=
  s.fabRuns = true ∧ s.cap.ready = r :: rest
/-- CAPTURE_RECORD (R228, R229): the record at its place in the snapshot buffer, counted; the capture completes with its last one. -/
def captureRecord : Prop := ∀ s r rest, preCaptureRecord s r rest →
  ∃ t, exec (.captureRecord) s = .next t
    ∧ t.cap.ready = rest ∧ t.get LW_CAP_STAT_RECS = min (s.get LW_CAP_STAT_RECS + 1) (2 ^ LW_CAP_STAT_RECS.w - 1)
    ∧ getBytes t.mem (snapBase + r.idx * s.capSize) s.capSize = some (s.capBytes r)
    ∧ MemKept (snapBase + r.idx * s.capSize) (snapBase + r.idx * s.capSize + s.capSize) s t ∧ t.flash = s.flash ∧ t.lw = s.lw ∧ t.out = s.out

abbrev preLwEnable (c : CmdIn) (s : State) (f : Fib) (en : Fin 2) : Prop :=
  Ready 7 s ∧ c.words = [f.val, en.val] ∧ s.on (LW_CTRL_EN f) ≠ (en.val == 1)
/-- LW_ENABLE (R217, R231): a change of EN arms every trigger. -/
def lwEnable : Prop := ∀ c s f en, preLwEnable c s f en →
  ∃ t, exec (.lwEnable c) s = .next t
    ∧ t.get (LW_CTRL_EN f) = en.val ∧ t.get (LW_TRG_STATE_TRIPPED f) = 0
    ∧ Done 0x70 stOk [] [LW_CTRL_EN f, LW_TRG_STATE_TRIPPED f, LW_FSTAT_LEARNING f] c s { s with lw := t.lw } t

abbrev preLwTrigger (c : CmdIn) (s : State) (f : Fib) (n : Fin 32) (ctl pos lev hys : Nat) : Prop :=
  Ready 7 s ∧ c.words = [f.val, n.val, ctl, pos, lev, hys] ∧ ctl &&& 0xF1F = ctl ∧ pos ≤ 0x3FFFF ∧ lev ≤ 0xFFFFFF ∧ hys ≤ 0xFFFFFF
/-- LW_TRIGGER (R217, R231). -/
def lwTrigger : Prop := ∀ c s f n ctl pos lev hys, preLwTrigger c s f n ctl pos lev hys →
  ∃ t, exec (.lwTrigger c) s = .next t
    ∧ t.get (LW_TRGn_CTRL_EN f n) = fld ctl 0 1 ∧ t.get (LW_TRGn_CTRL_DIR f n) = fld ctl 1 1 ∧ t.get (LW_TRGn_CTRL_ALM f n) = fld ctl 2 1
    ∧ t.get (LW_TRGn_CTRL_PKT f n) = fld ctl 3 1 ∧ t.get (LW_TRGn_CTRL_FRZ f n) = fld ctl 4 1 ∧ t.get (LW_TRGn_CTRL_WIDTH_M1 f n) = fld ctl 8 4
    ∧ t.get (LW_TRGn_POS_POS f n) = pos ∧ t.get (LW_TRGn_LEVEL_LEVEL f n) = lev ∧ t.get (LW_TRGn_HYST_HYST f n) = hys
    ∧ (t.get (LW_TRG_STATE_TRIPPED f)).testBit n.val = false
    ∧ Done 0x71 stOk [] [LW_TRGn_CTRL_EN f n, LW_TRGn_CTRL_DIR f n, LW_TRGn_CTRL_ALM f n, LW_TRGn_CTRL_PKT f n, LW_TRGn_CTRL_FRZ f n, LW_TRGn_CTRL_WIDTH_M1 f n, LW_TRGn_POS_POS f n, LW_TRGn_LEVEL_LEVEL f n, LW_TRGn_HYST_HYST f n, LW_TRG_STATE_TRIPPED f] c s s t

abbrev preLwHoldoff (c : CmdIn) (s : State) (f : Fib) (v : Nat) : Prop :=
  Ready 7 s ∧ c.words = [f.val, v] ∧ v &&& 0xFFFFFF01 = v
/-- LW_HOLDOFF (R223, R231). -/
def lwHoldoff : Prop := ∀ c s f v, preLwHoldoff c s f v →
  ∃ t, exec (.lwHoldoff c) s = .next t
    ∧ t.get (LW_HOLD_MODE f) = fld v 0 1 ∧ t.get (LW_HOLD_COUNT f) = fld v 8 24
    ∧ Done 0x72 stOk [] [LW_HOLD_MODE f, LW_HOLD_COUNT f] c s s t

abbrev preLwMaskConfig (c : CmdIn) (s : State) (f : Fib) (v : Nat) : Prop :=
  Ready 7 s ∧ c.words = [f.val, v] ∧ v &&& 0x7FFFF71F = v ∧ bit v 0 = false ∧ maskOk v = true ∧ s.maskBusy f = false
/-- LW_MASK_CONFIG (R219, R220): the test off, the mask's place changed: MASK_VALID is cleared where MS or MLEN changes. -/
def lwMaskConfig : Prop := ∀ c s f v, preLwMaskConfig c s f v →
  ∃ t, exec (.lwMaskConfig c) s = .next t
    ∧ t.get (LW_MASK_CTRL_EN f) = 0 ∧ t.get (LW_MASK_CTRL_STOP f) = fld v 1 1 ∧ t.get (LW_MASK_CTRL_ALM f) = fld v 2 1 ∧ t.get (LW_MASK_CTRL_PKT f) = fld v 3 1
    ∧ t.get (LW_MASK_CTRL_FRZ f) = fld v 4 1 ∧ t.get (LW_MASK_CTRL_MS f) = fld v 8 3 ∧ t.get (LW_MASK_CTRL_MSHIFT f) = fld v 12 4 ∧ t.get (LW_MASK_CTRL_MLEN f) = fld v 16 15
    ∧ (s.maskMoves f v = true → t.get (LW_FSTAT_MASK_VALID f) = 0)
    ∧ Done 0x73 stOk [] [LW_MASK_CTRL_EN f, LW_MASK_CTRL_STOP f, LW_MASK_CTRL_ALM f, LW_MASK_CTRL_PKT f, LW_MASK_CTRL_FRZ f, LW_MASK_CTRL_MS f, LW_MASK_CTRL_MSHIFT f, LW_MASK_CTRL_MLEN f, LW_FSTAT_MASK_VALID f] c s s t

abbrev preLwMaskWrite (c : CmdIn) (s : State) (f : Fib) (j v w : Nat) : Prop :=
  Ready 7 s ∧ c.words = [f.val, 2 * j, 2, v, w] ∧ s.maskBusy f = false ∧ 2 * j + 2 ≤ s.get (LW_MASK_CTRL_MLEN f) ∧ s.get (LW_MASK_CTRL_MLEN f) ≤ 16384
/-- LW_MASK_WRITE (R218, R231): an even entry and the next make one whole word of the mask memory. -/
def lwMaskWrite : Prop := ∀ c s f j v w, preLwMaskWrite c s f j v w →
  ∃ t, exec (.lwMaskWrite c) s = .next t
    ∧ getBytes t.mem (maskBase f + 8 * j) 8 = some (bytesLE 4 v ++ bytesLE 4 w)
    ∧ MemKept (maskBase f + 8 * j) (maskBase f + 8 * j + 8) s t ∧ t.flash = s.flash ∧ t.lw = s.lw
    ∧ Replied 0x74 stOk [] 0 c s t

abbrev preLwMaskFill (c : CmdIn) (s : State) (f : Fib) (v : Nat) : Prop :=
  Ready 7 s ∧ c.words = [f.val, v] ∧ s.maskBusy f = false
/-- LW_MASK_FILL (R218): the fill begins, and the command stays in execution until its end. -/
def lwMaskFill : Prop := ∀ c s f v, preLwMaskFill c s f v →
  ∃ t, exec (.lwMaskFill c) s = .next t
    ∧ (t.lw[f]).fill = some (⟨c.src, 0x75, c.tag, c.ps⟩, s.cyc + 8192, v) ∧ t.cmd.exec = some ⟨c.src, 0x75, c.tag, c.ps⟩
    ∧ t = { s with lw := t.lw, cmd := { s.cmd with exec := t.cmd.exec } }

abbrev preLwMaskLearn (c : CmdIn) (s : State) (f : Fib) (nl mg : Nat) : Prop :=
  Ready 7 s ∧ c.words = [f.val, nl, mg] ∧ s.seqState f = 2 ∧ s.on (LW_CTRL_EN f) = true ∧ s.get (LW_MASK_CTRL_EN f) = 0 ∧ (1 ≤ nl ∧ nl ≤ 0xFFFF) ∧ mg ≤ 0xFF
/-- LW_MASK_LEARN (R221). -/
def lwMaskLearn : Prop := ∀ c s f nl mg, preLwMaskLearn c s f nl mg →
  ∃ t, exec (.lwMaskLearn c) s = .next t
    ∧ t.get (LW_MASK_LEARN_NL f) = nl ∧ t.get (LW_MASK_LEARN_MARGIN f) = mg ∧ t.get (LW_FSTAT_LEARNING f) = 1 ∧ (t.lw[f]).learn = some ⟨nl, mg, false, [], []⟩
    ∧ Done 0x76 stOk [] [LW_MASK_LEARN_NL f, LW_MASK_LEARN_MARGIN f, LW_FSTAT_LEARNING f] c s { s with lw := t.lw } t

abbrev preLwAlarm (c : CmdIn) (s : State) (v m : Nat) : Prop :=
  Ready 7 s ∧ c.words = [0, v, m] ∧ v &&& 0xFFFFFF0C = v ∧ fld v 8 24 ≠ 0 ∧ m ≤ 3
/-- LW_ALARM (R225, R231): the alarm settings, and the latches that P2 clears. -/
def lwAlarm : Prop := ∀ c s v m, preLwAlarm c s v m →
  ∃ t, exec (.lwAlarm c) s = .next t
    ∧ t.get LW_ALARM_MODE = fld v 2 1 ∧ t.get LW_ALARM_REFFAIL_EN = fld v 3 1 ∧ t.get LW_ALARM_PULSE_W = fld v 8 24
    ∧ t.get LW_ALARM_LATCH_A = (if bit m 0 then 0 else s.get LW_ALARM_LATCH_A) ∧ t.get LW_ALARM_LATCH_B = (if bit m 1 then 0 else s.get LW_ALARM_LATCH_B)
    ∧ Done 0x77 stOk [t.rawReg 7 4] [LW_ALARM_MODE, LW_ALARM_REFFAIL_EN, LW_ALARM_PULSE_W, LW_ALARM_LATCH_A, LW_ALARM_LATCH_B] c s s t

abbrev preLwCapture (c : CmdIn) (s : State) (f : Fib) (v st np sh : Nat) : Prop :=
  Ready 7 s ∧ c.words = [f.val, 1, v, st, np, sh] ∧ v &&& 0xF7E = v ∧ sh ≤ 0xFFFF ∧ s.snapOther false = none ∧ s.get LW_STATUS_SNAP_OWN = 0
    ∧ fld v 1 1 = f.val ∧ capOk v st np sh = true
/-- LW_CAPTURE (R227, R228): a capture begins on a free snapshot buffer. -/
def lwCapture : Prop := ∀ c s f v st np sh, preLwCapture c s f v st np sh →
  ∃ t, exec (.lwCapture c) s = .next t
    ∧ t.get LW_CAP_CTRL_EN = 1 ∧ t.get LW_STATUS_SNAP_OWN = 1 ∧ t.get LW_STATUS_CAP_STATE = 1 ∧ t.get LW_CAP_STAT_RECS = 0
    ∧ t.get LW_CAP_CTRL_FIBRE = f.val ∧ t.get LW_CAP_CTRL_MODE = fld v 2 1 ∧ t.get LW_CAP_CTRL_RED = fld v 8 4 ∧ t.get LW_CAP_START_START = st ∧ t.get LW_CAP_NPTS_NPTS = np
    ∧ t.get LW_CAP_SHOTS_NSHOT = fld sh 0 8 ∧ t.get LW_CAP_SHOTS_POST = fld sh 8 8 ∧ t.cap = { CapRun.init with since := s.cyc }
    ∧ Done 0x78 stOk [] [LW_CAP_CTRL_EN, LW_STATUS_SNAP_OWN, LW_STATUS_CAP_STATE, LW_CAP_STAT_RECS, LW_CAP_STAT_TRIG_REC, LW_CAP_CTRL_FIBRE, LW_CAP_CTRL_MODE, LW_CAP_CTRL_SLOT_SEL, LW_CAP_CTRL_SLOT, LW_CAP_CTRL_RED, LW_CAP_START_START, LW_CAP_NPTS_NPTS, LW_CAP_SHOTS_NSHOT, LW_CAP_SHOTS_POST] c s { s with cap := t.cap } t

abbrev preLwLastEvent (c : CmdIn) (s : State) (f : Fib) : Prop :=
  Ready 7 s ∧ c.words = [f.val]
/-- LW_LAST_EVENT (R231). -/
def lwLastEvent : Prop := ∀ c s f, preLwLastEvent c s f →
  ∃ t, exec (.lwLastEvent c) s = .next t
    ∧ Done 0x79 stOk [s.get (LW_EVT_COUNT_COUNT f), s.get (LW_LAST_CAUSE_CAUSE f), s.rawReg 7 (0x1034 + 0x1000 * f.val), s.get (LW_LAST_POS_E f), s.get (LW_LAST_VALUE_V f), s.get (LW_LAST_LFRAC_FRAC f), s.get (LW_LAST_LCYC_CYCLES f)] [] c s s t

abbrev preLwGetStatus (c : CmdIn) (s : State) (f : Fib) : Prop :=
  Ready 7 s ∧ c.words = [f.val]
/-- LW_GET_STATUS (R231). -/
def lwGetStatus : Prop := ∀ c s f, preLwGetStatus c s f →
  ∃ t, exec (.lwGetStatus c) s = .next t
    ∧ Done 0x7A stOk [s.rawReg 7 0, s.rawReg 7 0x20, s.rawReg 7 (0x1010 + 0x1000 * f.val), s.rawReg 7 (0x1028 + 0x1000 * f.val), s.get (LW_TRG_STATE_TRIPPED f), s.get (LW_EVT_COUNT_COUNT f), s.get (LW_HOLD_SUPP_COUNT f), s.get (LW_EVT_LOST_COUNT f), s.get (LW_MASK_VIOL_COUNT f), s.get (LW_SKIP_COUNT f)] [] c s s t

end Sys2Proof.Claim

/-- An envelope word in which an armed rising trigger's level is exceeded raises one event with its cause, position and value; a hold-off and an alarm pulse end at their time; the oldest event enters the alarm queue; a mask fill writes all 16,384 entries and a learn writes its entries, both setting MASK_VALID; a finished capture record is written to the snapshot buffer. LW_ENABLE, LW_TRIGGER, LW_HOLDOFF, LW_MASK_CONFIG, LW_MASK_WRITE, LW_MASK_FILL, LW_MASK_LEARN, LW_ALARM, LW_CAPTURE, LW_LAST_EVENT and LW_GET_STATUS do what chapter 10 gives them where their conditions hold, and leave everything else. -/
def Obligations.LossWatch : Prop :=
  Sys2Proof.Claim.envelopeWord ∧ Sys2Proof.Claim.holdoffExpiry ∧ Sys2Proof.Claim.eventFifoTransfer ∧
  Sys2Proof.Claim.alarmPulseExpiry ∧ Sys2Proof.Claim.maskFillComplete ∧ Sys2Proof.Claim.maskLearnComplete ∧
  Sys2Proof.Claim.captureRecord ∧ Sys2Proof.Claim.lwEnable ∧ Sys2Proof.Claim.lwTrigger ∧
  Sys2Proof.Claim.lwHoldoff ∧ Sys2Proof.Claim.lwMaskConfig ∧ Sys2Proof.Claim.lwMaskWrite ∧
  Sys2Proof.Claim.lwMaskFill ∧ Sys2Proof.Claim.lwMaskLearn ∧ Sys2Proof.Claim.lwAlarm ∧
  Sys2Proof.Claim.lwCapture ∧ Sys2Proof.Claim.lwLastEvent ∧ Sys2Proof.Claim.lwGetStatus

namespace Sys2Proof.Claim
open Sys2Proof.Machine Sys2Proof.Machine.Reg

abbrev preShotLaunch (s : State) (f : Fib) (l : Launch) (rest : List Launch) : Prop :=
  s.fabRuns = true ∧ (s.sq f).handed = l :: rest ∧ s.due l.time = true
    ∧ s.get (RXF_PCODE_CTRL_TYPE f l.code) = 1 ∧ s.get (RXF_CTRL_STAIR_EN f) = 0
/-- SHOT_LAUNCH (R88, R119): a chirp launched with its stairs off leaves the pins in its slot with its descriptor. -/
def shotLaunch : Prop := ∀ s f l rest, preShotLaunch s f l rest →
  ∃ t, exec (.shotLaunch f) s = .next t
    ∧ (t.sq f).handed = rest ∧ (t.rxf[f]).probe = some ⟨l.slot, l.time, s.codeOf f l.code⟩
    ∧ (t.rxf[f]).shots.head? = some ⟨l.shot, ⟨l.slot, l.time, s.codeOf f l.code⟩, s.galSet f⟩
    ∧ (1024 < cdiv (s.get (RXF_PCODE_LEN_LEN f l.code)) 10 → t.get (PRISM_FLAGS_MF_TRUNC f) = 1)
    ∧ Only [PRISM_FLAGS_MF_TRUNC f, PRISM_BRIL_CAPT_COUNT f, PRISM_BRIL_SKIP_COUNT f, PRISM_FLAGS_BRIL_SKIP f] s { s with seq := t.seq, rxf := t.rxf, lw := t.lw, cap := t.cap, prism := t.prism } t

abbrev preProbeTestEmit (s : State) (f : Fib) : Prop :=
  s.fabRuns = true ∧ s.on (RXF_PTEST_EN f) = true ∧ (s.rxf[f]).ptestDue ≤ s.cyc
/-- PROBE_TEST_EMIT (R89). -/
def probeTestEmit : Prop := ∀ s f, preProbeTestEmit s f →
  ∃ t, exec (.probeTestEmit f) s = .next t
    ∧ (t.rxf[f]).probe = some ⟨s.get (RXF_PTEST_SLOT f), s.nowNs, s.codeOf f (s.get (RXF_PTEST_CODE f))⟩
    ∧ (t.rxf[f]).ptestDue = (s.rxf[f]).ptestDue + usCyc (s.get (RXF_PTEST_PERIOD f))
    ∧ t = { s with rxf := t.rxf }

abbrev preConverterGroupReady (s : State) (f : Fib) (bril : Bool) : Prop :=
  s.fabRuns = true ∧ s.on (if bril then RXF_CTRL_BRI_EN f else RXF_CTRL_RAY_EN f) = true
    ∧ (if bril then (s.rxf[f]).briAt else (s.rxf[f]).rayAt) + usCyc 20 ≤ s.cyc
/-- CONVERTER_GROUP_READY (R93). -/
def converterGroupReady : Prop := ∀ s f bril, preConverterGroupReady s f bril →
  ∃ t, exec (.converterGroupReady f bril) s = .next t
    ∧ t.get (if bril then briRdyF f else rayRdyF f) = 1
    ∧ Only [if bril then briRdyF f else rayRdyF f] s s t

abbrev preGainStep (s : State) (f : Fib) (e : Fin 16) (ofs : Fin 5) (n : Int) : Prop :=
  s.fabRuns = true ∧ s.on (RXF_CTRL_STAIR_EN f) = true ∧ s.seqState f ≠ 0 ∧ s.nextStair f = some (e.val, n)
    ∧ n % 5 = ofs.val ∧ n ≤ 5 * interval s.nowNs + 4 ∧ (s.sq f).handed = []
/-- GAIN_STEP (R95, R97): the stair's next entry gives its codes, and six sample instants from its own are flagged where a code changes. -/
def gainStep : Prop := ∀ s f e ofs n, preGainStep s f e ofs n →
  ∃ t, exec (.gainStep f e ofs) s = .next t
    ∧ (t.rxf[f]).rg = s.get (RXF_STAIRe_RG f e) ∧ (t.rxf[f]).bg = s.get (RXF_STAIRe_BG f e) ∧ (t.rxf[f]).stairAt = some n
    ∧ ((s.rxf[f]).rg ≠ s.get (RXF_STAIRe_RG f e) → (t.rxf[f]).stepRayAt n = true ∧ (t.rxf[f]).stepRayAt (n + 5) = true)
    ∧ Only [RXF_STEP_COUNT_COUNT f] s { s with rxf := t.rxf } t

abbrev preRxfProbeWrite (c : CmdIn) (s : State) (f : Fib) (d ctl len bw bpsk : Nat) : Prop :=
  Ready 2 s ∧ c.words = [f.val, d, ctl, len, bw, bpsk] ∧ d ≤ 15
    ∧ ctl &&& 0x3FFFFF07 = ctl ∧ len ≤ 0x7FFF ∧ bw ≤ 0x1FFFF ∧ bpsk &&& 0x7FFF1FFF = bpsk
    ∧ (fld ctl 0 2 = 0 ∨ codeValid (fld ctl 0 2) (fld ctl 8 8) (fld ctl 16 14) len bw (fld bpsk 0 13) (fld bpsk 16 15) = true)
    ∧ (s.seqRuns f = true → (s.codesInUse f).contains d = false)
/-- RXF_PROBE_WRITE (R103, R510): the descriptor as given; a valid one, or one of TYPE 0. -/
def rxfProbeWrite : Prop := ∀ c s f d ctl len bw bpsk, preRxfProbeWrite c s f d ctl len bw bpsk →
  ∃ t, exec (.rxfProbeWrite c) s = .next t
    ∧ t.get (RXF_PCODE_CTRL_TYPE f d) = fld ctl 0 2 ∧ t.get (RXF_PCODE_CTRL_DIR f d) = fld ctl 2 1 ∧ t.get (RXF_PCODE_CTRL_TAPER f d) = fld ctl 8 8 ∧ t.get (RXF_PCODE_CTRL_AMP f d) = fld ctl 16 14
    ∧ t.get (RXF_PCODE_LEN_LEN f d) = len ∧ t.get (RXF_PCODE_BW_BW f d) = bw ∧ t.get (RXF_PCODE_BPSK_START f d) = fld bpsk 0 13 ∧ t.get (RXF_PCODE_BPSK_CHIP f d) = fld bpsk 16 15
    ∧ Done 0x20 stOk [] [RXF_PCODE_CTRL_TYPE f d, RXF_PCODE_CTRL_DIR f d, RXF_PCODE_CTRL_TAPER f d, RXF_PCODE_CTRL_AMP f d, RXF_PCODE_LEN_LEN f d, RXF_PCODE_BW_BW f d, RXF_PCODE_BPSK_START f d, RXF_PCODE_BPSK_CHIP f d] c s s t

abbrev preRxfCodeWrite (c : CmdIn) (s : State) (f : Fib) (v w : Nat) : Prop :=
  Ready 2 s ∧ c.words = [f.val, 254, 2, v, w] ∧ s.seqRuns f = false ∧ s.scrub.combMgmt = none
/-- RXF_CODE_WRITE (R103, R510): a pair of code words from an even word on, while nothing is held for the firmware. -/
def rxfCodeWrite : Prop := ∀ c s f v w, preRxfCodeWrite c s f v w →
  ∃ t, exec (.rxfCodeWrite c) s = .next t
    ∧ t.rawReg 2 (0x1800 + 0x1000 * f.val + 4 * 254) = v ∧ t.rawReg 2 (0x1800 + 0x1000 * f.val + 4 * 255) = w
    ∧ Replied 0x21 stOk [] 0 c s t ∧ t.mem = s.mem ∧ t.flash = s.flash ∧ t.rxf = s.rxf ∧ t.seq = s.seq

abbrev preRxfStairWrite (c : CmdIn) (s : State) (f : Fib) (v w : Nat) : Prop :=
  Ready 2 s ∧ c.words = [f.val, 14, 2, v, w] ∧ v &&& 0x8FF7FFFF = v ∧ w &&& 0x8FF7FFFF = w ∧ s.seqState f = 0 ∧ s.scrub.combMgmt = none
/-- RXF_STAIR_WRITE (R103, R96): entries 14 and 15 as given, while nothing is held for the firmware. -/
def rxfStairWrite : Prop := ∀ c s f v w, preRxfStairWrite c s f v w →
  ∃ t, exec (.rxfStairWrite c) s = .next t
    ∧ t.rawReg 2 (0x1400 + 0x1000 * f.val + 4 * 14) = v ∧ t.rawReg 2 (0x1400 + 0x1000 * f.val + 4 * 15) = w
    ∧ Replied 0x22 stOk [] 0 c s t ∧ t.mem = s.mem ∧ t.flash = s.flash ∧ t.seq = s.seq

abbrev preRxfGate (c : CmdIn) (s : State) (f : Fib) (lead lag pol : Nat) : Prop :=
  Ready 2 s ∧ c.words = [f.val, lead, lag, pol] ∧ s.seqState f = 0 ∧ lead ≤ 255 ∧ lag ≤ 255 ∧ pol ≤ 3
/-- RXF_GATE (R103). -/
def rxfGate : Prop := ∀ c s f lead lag pol, preRxfGate c s f lead lag pol →
  ∃ t, exec (.rxfGate c) s = .next t
    ∧ t.get (RXF_GATE_LEAD f) = lead ∧ t.get (RXF_GATE_LAG f) = lag ∧ t.get (RXF_CTRL_PGATE_POL f) = fld pol 0 1 ∧ t.get (RXF_CTRL_LMON_POL f) = fld pol 1 1
    ∧ Done 0x23 stOk [] [RXF_GATE_LEAD f, RXF_GATE_LAG f, RXF_CTRL_PGATE_POL f, RXF_CTRL_LMON_POL f] c s s t

abbrev preRxfPower (c : CmdIn) (s : State) (f : Fib) (v : Nat) : Prop :=
  Ready 2 s ∧ c.words = [f.val, v] ∧ v ≤ 7 ∧ s.seqState f = 0 ∧ s.rayBarred (bit v 0) = false ∧ s.get (CAL_STAT_STATE f) = 0
/-- RXF_POWER (R93, R103): the power bits; a group switched off is not ready; RXF_STATUS is the reply. -/
def rxfPower : Prop := ∀ c s f v, preRxfPower c s f v →
  ∃ t, exec (.rxfPower c) s = .next t
    ∧ t.get (RXF_CTRL_RAY_EN f) = fld v 0 1 ∧ t.get (RXF_CTRL_BRI_EN f) = fld v 1 1 ∧ t.get (RXF_CTRL_STAIR_EN f) = fld v 2 1
    ∧ (fld v 0 1 = 0 → t.get (rayRdyF f) = 0) ∧ (fld v 1 1 = 0 → t.get (briRdyF f) = 0)
    ∧ Done 0x24 stOk [t.rawReg 2 0] [RXF_CTRL_RAY_EN f, RXF_CTRL_BRI_EN f, RXF_CTRL_STAIR_EN f, rayRdyF f, briRdyF f] c s { s with rxf := t.rxf } t

abbrev preRxfProbeTest (c : CmdIn) (s : State) (f : Fib) (slot d per : Nat) : Prop :=
  Ready 2 s ∧ c.words = [f.val, 1, slot, d, per] ∧ s.seqState f = 0 ∧ slot ≤ 7 ∧ d ≤ 15 ∧ s.ptestPeriodOk f d per = true ∧ s.codeOk f d = true ∧ s.get (RXF_PTEST_EN f) = 0
/-- RXF_PROBE_TEST (R89, R101): an idle fibre begins its probe test. -/
def rxfProbeTest : Prop := ∀ c s f slot d per, preRxfProbeTest c s f slot d per →
  ∃ t, exec (.rxfProbeTest c) s = .next t
    ∧ t.get (RXF_PTEST_EN f) = 1 ∧ t.get (ptestF f) = 1 ∧ t.get (RXF_PTEST_SLOT f) = slot ∧ t.get (RXF_PTEST_CODE f) = d ∧ t.get (RXF_PTEST_PERIOD f) = per
    ∧ Done 0x25 stOk [] [RXF_PTEST_EN f, ptestF f, RXF_PTEST_SLOT f, RXF_PTEST_CODE f, RXF_PTEST_PERIOD f] c s { s with rxf := t.rxf } t

abbrev preRxfGetStatus (c : CmdIn) (s : State) (f : Fib) : Prop :=
  Ready 2 s ∧ c.words = [f.val]
/-- RXF_GET_STATUS (R103). -/
def rxfGetStatus : Prop := ∀ c s f, preRxfGetStatus c s f →
  ∃ t, exec (.rxfGetStatus c) s = .next t
    ∧ Done 0x26 stOk ([s.rawReg 2 0, s.rawReg 2 (0x1000 + 0x1000 * f.val), s.rawReg 2 (0x1008 + 0x1000 * f.val), s.get (RXF_STEP_COUNT_COUNT f)] ++ (List.range 6).map fun k => s.get (RXF_CLIP_CNTc_COUNT f k)) [] c s s t

end Sys2Proof.Claim

/-- A launch leaves the pins with its descriptor, an enabled probe test emits at its period, a converter group is ready 20 µs after it was enabled, a gain step takes the entry's codes, and the RXF opcodes store descriptors, code words, stair entries, gate times, power bits and the probe test, each leaving everything else. -/
def Obligations.ReceiverFrontEnd : Prop :=
  Sys2Proof.Claim.shotLaunch ∧ Sys2Proof.Claim.probeTestEmit ∧ Sys2Proof.Claim.converterGroupReady ∧
  Sys2Proof.Claim.gainStep ∧ Sys2Proof.Claim.rxfProbeWrite ∧ Sys2Proof.Claim.rxfCodeWrite ∧
  Sys2Proof.Claim.rxfStairWrite ∧ Sys2Proof.Claim.rxfGate ∧ Sys2Proof.Claim.rxfPower ∧
  Sys2Proof.Claim.rxfProbeTest ∧ Sys2Proof.Claim.rxfGetStatus

namespace Sys2Proof.Claim
open Sys2Proof.Machine Sys2Proof.Machine.Reg

abbrev preHardwareTrigger (s : State) (f : Fib) (src : TrigSrc) : Prop :=
  s.get (SEQ_CTRL_TRIG_SRC f) = trigSrcCode src ∧ s.fabRuns = true ∧ s.seqState f = 1
/-- HARDWARE_TRIGGER (R79). -/
def hardwareTrigger : Prop := ∀ s f src, preHardwareTrigger s f src →
  ∃ t, exec (.hardwareTrigger f src) s = .next t
    ∧ t.seqState f = stRunning ∧ (t.sq f).start = some (s.gridPhase f (s.phaseOf f (s.nowNs + 160))) ∧ (t.sq f).begun = false
    ∧ Only [SEQ_STATUS_STATE f] s { s with seq := t.seq } t ∧ (∀ g : Fib, g ≠ f → t.sq g = s.sq g)

abbrev preTimeTrigger (s : State) (f : Fib) (p : Rat) : Prop :=
  s.fabRuns = true ∧ (s.sq f).timeTrig = some p ∧ s.due (s.timeOf f p - 160) = true ∧ s.seqState f = 1
/-- TIME_TRIGGER (R74): the run starts at the phase that SEQ_TRIG_AT names. -/
def timeTrigger : Prop := ∀ s f p, preTimeTrigger s f p →
  ∃ t, exec (.timeTrigger f) s = .next t
    ∧ t.seqState f = stRunning ∧ (t.sq f).start = some p ∧ (t.sq f).timeTrig = none
    ∧ Only [SEQ_STATUS_STATE f] s { s with seq := t.seq } t ∧ (∀ g : Fib, g ≠ f → t.sq g = s.sq g)

abbrev preSeqTrigGo (s : State) (f : Fib) : Prop :=
  s.fabRuns = true ∧ s.get (SEQ_CTRL_TRIG_SRC f) = 0 ∧ s.seqState f = 2 ∧ (s.sq f).abortAt = none ∧ s.get (SEQ_CTRL_TRIG_POLICY f) = 0 ∧ s.get (SEQ_STATUS_TRIG_HELD f) = 0
/-- SEQ_TRIG_GO (R75, R509): while RUNNING under the hold policy the trigger is held. -/
def seqTrigGo : Prop := ∀ s f, preSeqTrigGo s f →
  ∃ t, exec (.seqTrigGo f) s = .next t
    ∧ t.get (SEQ_STATUS_TRIG_HELD f) = 1 ∧ t.sq f = { s.sq f with planAt := s.nowNs } ∧ t.sq (1 - f) = s.sq (1 - f)
    ∧ Only [SEQ_STATUS_TRIG_HELD f] s { s with seq := t.seq } t

abbrev preLaunchHandover (s : State) (f : Fib) (e : Entry) (p : Rat) : Prop :=
  s.nextEntry f = some (e, p) ∧ s.seqState f = 2 ∧ s.fabRuns = true ∧ (s.sq f).abortAt = none
    ∧ s.nowNs + 160 ≤ launchGrid (s.timeOf f (round47 p)) ∧ launchGrid (s.timeOf f (round47 p)) ≤ s.nowNs + 320
/-- LAUNCH_HANDOVER (R71, R69): the launch is queued for the probe synthesizer, or the shot is skipped. -/
def launchHandover : Prop := ∀ s f e p, preLaunchHandover s f e p →
  ∃ t, exec (.launchHandover f) s = .next t
    ∧ (t.sq f).shotNo = (s.sq f).shotNo + 1
    ∧ (if s.mustSkip f e.slot (launchGrid (s.timeOf f (round47 p))) = true then t.get (SEQ_SHOT_SKIPPED_COUNT f) = min (s.get (SEQ_SHOT_SKIPPED_COUNT f) + 1) (2 ^ (SEQ_SHOT_SKIPPED_COUNT f).w - 1) ∧ t.get (SEQ_FLAGS_SHOT_SKIP f) = 1 ∧ (t.sq f).handed = (s.sq f).handed else (t.sq f).handed = (s.sq f).handed ++ [⟨e.slot, e.code, round47 p, launchGrid (s.timeOf f (round47 p)), s.codeNs f e.code, (s.sq f).shotNo⟩])
    ∧ Only [SEQ_SHOT_SKIPPED_COUNT f, SEQ_FLAGS_SHOT_SKIP f] s { s with seq := t.seq, lw := t.lw } t

abbrev preLmonEdge (s : State) (f : Fib) (stamp : BitVec 64) (w : LmonWin) (ws : List LmonWin) : Prop :=
  s.fabRuns = true ∧ (s.sq f).wins = w :: ws ∧ w.taken = false ∧ w.centre - (s.get (SEQ_LMON_WIN_WIN f) : Rat) ≤ s.instOf stamp.toNat ∧ s.instOf stamp.toNat ≤ w.centre + (s.get (SEQ_LMON_WIN_WIN f) : Rat)
/-- LMON_EDGE (R72): the first edge in a window is the launch instant. -/
def lmonEdge : Prop := ∀ s f stamp w ws, preLmonEdge s f stamp w ws →
  ∃ t, exec (.lmonEdge f stamp) s = .next t
    ∧ (t.sq f).launches.head? = some (s.instOf stamp.toNat)
    ∧ t = { s with seq := t.seq, lw := t.lw }

abbrev preLmonWindowClose (s : State) (f : Fib) (w : LmonWin) (ws : List LmonWin) : Prop :=
  s.fabRuns = true ∧ (s.sq f).wins = w :: ws ∧ w.taken = false ∧ s.due (w.centre + (s.get (SEQ_LMON_WIN_WIN f) : Rat)) = true
/-- LMON_WINDOW_CLOSE (R72): a window without an edge leaves the scheduled instant and counts a miss. -/
def lmonWindowClose : Prop := ∀ s f w ws, preLmonWindowClose s f w ws →
  ∃ t, exec (.lmonWindowClose f) s = .next t
    ∧ (t.sq f).wins = ws ∧ (t.sq f).launches.head? = some w.centre ∧ t.get (SEQ_FLAGS_LMON_MISS f) = 1
    ∧ t.get (SEQ_LMON_MISS_COUNT f) = min (s.get (SEQ_LMON_MISS_COUNT f) + 1) (2 ^ (SEQ_LMON_MISS_COUNT f).w - 1)
    ∧ Only [SEQ_LMON_MISS_COUNT f, SEQ_FLAGS_LMON_MISS f] s { s with seq := t.seq, lw := t.lw } t

abbrev preRunStart (s : State) (f : Fib) (p : Rat) : Prop :=
  s.fabRuns = true ∧ (s.sq f).start = some p ∧ s.seqState f = 2 ∧ s.due (s.timeOf f p) = true
/-- RUN_START (R74). -/
def runStart : Prop := ∀ s f p, preRunStart s f p →
  ∃ t, exec (.runStart f) s = .next t
    ∧ t.seqState f = stRunning ∧ (t.sq f).begun = true ∧ (t.sq f).start = none
    ∧ t.get (SEQ_RUN_RUN f) = min (s.get (SEQ_RUN_RUN f) + 1) (2 ^ (SEQ_RUN_RUN f).w - 1)
    ∧ t.get (PFIL_STATUS_SYNC_PEND f) = 1
    ∧ Only [SEQ_STATUS_STATE f, SEQ_RUN_RUN f, SEQ_STATUS_PAGE f, SEQ_STATUS_PAGE_PEND f, PFIL_STATUS_SYNC_PEND f, PFIL_STATUS_RUN f] s { s with seq := t.seq, pfil := t.pfil } t

abbrev preDrainComplete (s : State) (f : Fib) (p : Rat) : Prop :=
  s.fabRuns = true ∧ (s.sq f).start = some p ∧ s.seqState f = 3 ∧ s.due (s.timeOf f p) = true
/-- DRAIN_COMPLETE (R76). -/
def drainComplete : Prop := ∀ s f p, preDrainComplete s f p →
  ∃ t, exec (.drainComplete f) s = .next t
    ∧ t.seqState f = stRunning ∧ (t.sq f).begun = true ∧ (t.sq f).start = none
    ∧ t.get (SEQ_RUN_RUN f) = min (s.get (SEQ_RUN_RUN f) + 1) (2 ^ (SEQ_RUN_RUN f).w - 1)
    ∧ Only [SEQ_STATUS_STATE f, SEQ_RUN_RUN f, SEQ_STATUS_PAGE f, SEQ_STATUS_PAGE_PEND f, PFIL_STATUS_SYNC_PEND f, PFIL_STATUS_RUN f] s { s with seq := t.seq, pfil := t.pfil } t

abbrev preRunAbort (s : State) (f : Fib) (p : Rat) : Prop :=
  s.fabRuns = true ∧ (s.sq f).abortAt = some p ∧ s.seqState f = 2 ∧ s.due (s.timeOf f p) = true
/-- RUN_ABORT (R76): the sequencer drains, and the next run is planned no sooner than T_d after the last launch. -/
def runAbort : Prop := ∀ s f p, preRunAbort s f p →
  ∃ t, exec (.runAbort f) s = .next t
    ∧ t.seqState f = stDraining ∧ (t.sq f).abortAt = none ∧ (t.sq f).begun = false ∧ (t.sq f).start.isSome = true
    ∧ Only [SEQ_STATUS_STATE f] s { s with seq := t.seq } t ∧ (∀ g : Fib, g ≠ f → t.sq g = s.sq g)

abbrev preFlightEnd (s : State) (f : Fib) (p : Rat) (n : Nat) (rest : List (Rat × Nat)) : Prop :=
  s.fabRuns = true ∧ (s.sq f).ends = (p, n) :: rest ∧ s.due (s.timeOf f p) = true ∧ s.seqState f = 2 ∧ (s.sq f).abortAt = none
    ∧ s.get (SEQ_STATUS_TRIG_HELD f) = 0 ∧ (s.sq f).limit = some ((s.sq f).ended + 1)
/-- FLIGHT_END (R75): the flight counts; without a held trigger and with no further flight allowed the sequencer is ARMED. -/
def flightEnd : Prop := ∀ s f p n rest, preFlightEnd s f p n rest →
  ∃ t, exec (.flightEnd f) s = .next t
    ∧ t.seqState f = stArmed ∧ (t.sq f).ended = (s.sq f).ended + 1 ∧ (t.sq f).ends = rest ∧ (t.sq f).begun = false
    ∧ Only [SEQ_STATUS_STATE f, SEQ_STATUS_PAGE f, SEQ_STATUS_PAGE_PEND f, PFIL_STATUS_SYNC_PEND f, PFIL_STATUS_RUN f] s { s with seq := t.seq, pfil := t.pfil } t

abbrev preStopAtBoundary (s : State) (f : Fib) (p : Rat) : Prop :=
  s.fabRuns = true ∧ (s.sq f).stopAt = some p ∧ s.seqState f = 4 ∧ s.due (s.timeOf f p) = true
/-- STOP_AT_BOUNDARY (R79, R80): at its boundary the stop makes the sequencer IDLE. -/
def stopAtBoundary : Prop := ∀ s f p, preStopAtBoundary s f p →
  ∃ t, exec (.stopAtBoundary f) s = .next t
    ∧ t.seqState f = stIdle ∧ t.get (SEQ_STATUS_TRIG_HELD f) = 0 ∧ t.get (PFIL_STATUS_RUN f) = 0 ∧ t.get (LW_FSTAT_LEARNING f) = 0
    ∧ (t.sq f).stopAt = none ∧ (t.sq f).begun = false ∧ (t.sq f).ends = []
    ∧ t.mem = s.mem ∧ t.flash = s.flash ∧ t.eng = s.eng ∧ t.out = s.out ∧ t.cmd = s.cmd ∧ t.lw = s.lw

abbrev prePageSwitchApply (s : State) (f : Fib) : Prop :=
  s.fabRuns = true ∧ s.seqState f ≤ 1 ∧ s.on (SEQ_STATUS_PAGE_PEND f) = true
/-- PAGE_SWITCH_APPLY (R80). -/
def pageSwitchApply : Prop := ∀ s f, prePageSwitchApply s f →
  ∃ t, exec (.pageSwitchApply f) s = .next t
    ∧ t.page f = (1 - s.page f) % 2 ∧ t.get (SEQ_STATUS_PAGE_PEND f) = 0
    ∧ Only [SEQ_STATUS_PAGE f, SEQ_STATUS_PAGE_PEND f, PFIL_STATUS_SYNC_PEND f] s { s with pfil := t.pfil } t

end Sys2Proof.Claim

/-- A trigger of the selected source from ARMED plans a run; a trigger while RUNNING under the hold policy is held; a launch is handed over with its schedule and slot, its monitor window opened, and its edge or the window's end gives the launch instant. At its start phase a run begins and counts in SEQ_RUN; a flight's end counts and, after the last flight, returns to ARMED; an abort drains and plans the next run; a drained run begins; a stop's boundary makes the sequencer IDLE; a pending page becomes active. -/
def Obligations.TriggersAndLaunches : Prop :=
  Sys2Proof.Claim.hardwareTrigger ∧ Sys2Proof.Claim.timeTrigger ∧ Sys2Proof.Claim.seqTrigGo ∧
  Sys2Proof.Claim.launchHandover ∧ Sys2Proof.Claim.lmonEdge ∧ Sys2Proof.Claim.lmonWindowClose ∧
  Sys2Proof.Claim.runStart ∧ Sys2Proof.Claim.drainComplete ∧ Sys2Proof.Claim.runAbort ∧
  Sys2Proof.Claim.flightEnd ∧ Sys2Proof.Claim.stopAtBoundary ∧ Sys2Proof.Claim.pageSwitchApply

namespace Sys2Proof.Claim
open Sys2Proof.Machine Sys2Proof.Machine.Reg

abbrev preTrackerRefit (s : State) (_stamp : BitVec 64) : Prop :=
  s.on SEQ_REF_CTRL_SRC = true ∧ s.isWorker = false ∧ s.fabRuns = true ∧ s.on SEQ_REF_STATUS_ON_INTERNAL = false ∧ s.on SEQ_REF_STATUS_HOLDOVER = false
/-- TRACKER_REFIT (R56): the newest stamp leads the window of W. -/
def trackerRefit : Prop := ∀ s stamp, preTrackerRefit s stamp →
  ∃ t, exec (.trackerRefit stamp) s = .next t
    ∧ t.get SEQ_REF_STATUS_PRESENT = 1 ∧ t.trk.nextK = s.trk.nextK + 1
    ∧ t.trk.stamps = (((s.trk.nextK : Rat), s.instOf stamp.toNat) :: s.trk.stamps).take s.trackW
    ∧ t.get SEQ_REF_RESID_RESID = residPs t.trk.stamps
    ∧ (s.get SEQ_RESID_LIM_LIM < residPs t.trk.stamps → t.get SEQ_REF_STATUS_LOCKED = 0 ∧ t.get SEQ_REF_FLAGS_RESID_HIGH = 1)
    ∧ (residPs t.trk.stamps ≤ s.get SEQ_RESID_LIM_LIM → s.trackW ≤ t.trk.stamps.length → t.get SEQ_REF_STATUS_LOCKED = 1)
    ∧ Only [SEQ_REF_STATUS_PRESENT, SEQ_REF_RESID_RESID, SEQ_REF_STATUS_LOCKED, SEQ_REF_FLAGS_RESID_HIGH, SEQ_MARK_ERR_COUNT, SEQ_REF_FLAGS_MARK_SLIP] s { s with trk := t.trk } t

abbrev preInternalReferenceLock (s : State) : Prop :=
  s.external = false ∧ s.fabRuns = true ∧ s.trk.selectedAt + usCyc 1 ≤ s.cyc
/-- INTERNAL_REFERENCE_LOCK (R58). -/
def internalReferenceLock : Prop := ∀ s, preInternalReferenceLock s →
  ∃ t, exec (.internalReferenceLock) s = .next t
    ∧ t.get SEQ_REF_STATUS_LOCKED = 1 ∧ t.get SEQ_REF_RESID_RESID = 0
    ∧ Only [SEQ_REF_STATUS_LOCKED, SEQ_REF_RESID_RESID] s s t

abbrev preFlightEpochSet (s : State) (_at_ : BitVec 64) (m : RefModel) : Prop :=
  s.isWorker = false ∧ s.fabRuns = true ∧ s.epochDue = some false ∧ s.trk.model = some m ∧ s.trk.jumped = false
/-- FLIGHT_EPOCH_SET (R62): without a marker, at the boundary whose stamp it is; a waiting SEQ_EPOCH is answered with the stamp. -/
def flightEpochSet : Prop := ∀ s at_ m, preFlightEpochSet s at_ m →
  ∃ t, exec (.flightEpochSet at_) s = .next t
    ∧ t.get SEQ_REF_STATUS_EPOCH_VALID = 1 ∧ t.trk.epoch = roundHalfUp (m.phaseAt 0 (s.instOf at_.toNat))
    ∧ t.trk.autoEpoch = false ∧ t.trk.epochReq = none ∧ t.trk.epochTo = none
    ∧ t.link.epochGen = (s.link.epochGen + 1) % 16
    ∧ (∀ p ∈ s.trk.epochTo.toList, Replied 0x18 stOk [lo32 at_.toNat, hi32 at_.toNat] 0 ⟨p.src, p.tag, p.ps⟩ s t) ∧ (s.trk.epochTo = none → t.cmd = s.cmd ∧ t.out = s.out)
    ∧ SameRegs (lastF ++ [SEQ_REF_STATUS_EPOCH_VALID]) s t
    ∧ t = repliedOnly { s with trk := t.trk, link := { s.link with epochGen := t.link.epochGen } } t

abbrev preReferenceLost (s : State) : Prop :=
  s.fabRuns = true ∧ s.external = true ∧ s.on SEQ_REF_STATUS_PRESENT = true ∧ s.extModel.isSome = true ∧ s.refSilent = true ∧ s.on SEQ_REF_STATUS_HOLDOVER = false
/-- REFERENCE_LOST (R59). -/
def referenceLost : Prop := ∀ s, preReferenceLost s →
  ∃ t, exec (.referenceLost) s = .next t
    ∧ t.get SEQ_REF_FLAGS_REF_LOST = 1 ∧ t.get SEQ_REF_STATUS_PRESENT = 0 ∧ t.get SEQ_REF_STATUS_HOLDOVER = 1 ∧ t.trk.holdSince = s.cyc
    ∧ Only [SEQ_REF_FLAGS_REF_LOST, SEQ_REF_STATUS_PRESENT, SEQ_REF_STATUS_HOLDOVER] s { s with trk := t.trk } t

abbrev preHoldoverPhaseCheck (s : State) (old new : RefModel) (k e : Rat) (x : Rat) (rest : List (Rat × Rat)) : Prop :=
  s.fabRuns = true ∧ s.trk.model = some old ∧ fitModel s.trk.back = some new ∧ s.trk.back = (k, x) :: rest
    ∧ s.on SEQ_REF_STATUS_HOLDOVER = true ∧ s.trackW ≤ s.trk.back.length ∧ s.trk.jumped = false
    ∧ e = ((new.t0 + k * new.T) - (old.t0 + (k - (old.k0 : Rat)) * old.T)) / old.T
/-- HOLDOVER_PHASE_CHECK (R61): within 1/256 cycle tracking resumes on the new fit, otherwise PHASE_JUMP is set and holdover stays. -/
def holdoverPhaseCheck : Prop := ∀ s old new k e x rest, preHoldoverPhaseCheck s old new k e x rest →
  ∃ t, exec (.holdoverPhaseCheck) s = .next t
    ∧ (if e ≤ 1 / 256 ∧ -(1 / 256) ≤ e then t.get SEQ_REF_STATUS_HOLDOVER = 0 ∧ t.trk.model = some new ∧ t.trk.stamps = s.trk.back else t.get SEQ_REF_FLAGS_PHASE_JUMP = 1 ∧ t.get SEQ_REF_STATUS_HOLDOVER = s.get SEQ_REF_STATUS_HOLDOVER ∧ t.trk.model = some old ∧ t.trk.jumped = true)
    ∧ Only [SEQ_REF_STATUS_HOLDOVER, SEQ_REF_FLAGS_PHASE_JUMP, SEQ_REF_RESID_RESID, SEQ_REF_STATUS_LOCKED, SEQ_REF_FLAGS_RESID_HIGH] s { s with trk := t.trk, seq := t.seq } t

abbrev preHoldoverLimitStop (s : State) (f : Fib) : Prop :=
  s.fabRuns = true ∧ s.on SEQ_REF_STATUS_HOLDOVER = true ∧ s.get SEQ_TRACK_HOLD_MAX ≠ 0 ∧ s.trk.holdStopped = false
    ∧ s.trk.holdSince + msCyc (s.get SEQ_TRACK_HOLD_MAX) < s.cyc ∧ s.seqState f = 2
/-- HOLDOVER_LIMIT_STOP (R59): every sequencer that is ARMED, RUNNING or DRAINING stops with STOP_REF. -/
def holdoverLimitStop : Prop := ∀ s f, preHoldoverLimitStop s f →
  ∃ t, exec (.holdoverLimitStop) s = .next t
    ∧ t.get (SEQ_FLAGS_STOP_REF f) = 1 ∧ t.seqState f = stStopping ∧ t.trk.holdStopped = true
    ∧ t.mem = s.mem ∧ t.flash = s.flash ∧ t.eng = s.eng ∧ t.out = s.out ∧ t.cmd = s.cmd

abbrev preMarkerEdge (s : State) (_stamp : BitVec 64) : Prop :=
  s.marksOn = true ∧ s.fabRuns = true ∧ s.epochDue = some true
/-- MARKER_EDGE (R62): a marker makes an epoch that waits for one qualify at the next prescaled edge. -/
def markerEdge : Prop := ∀ s stamp, preMarkerEdge s stamp →
  ∃ t, exec (.markerEdge stamp) s = .next t
    ∧ t = { s with trk := { s.trk with markerSeen := true } }

end Sys2Proof.Claim

/-- With clk_fab running and the event's own condition met: a PHREF stamp enters the window and sets PRESENT; the internal reference locks; the flight epoch is set and answers SEQ_EPOCH; a lost reference enters holdover; the phase check resumes tracking or sets PHASE_JUMP; a holdover beyond HOLD_MAX stops the sequencers; a marker makes a due epoch qualify. -/
def Obligations.ReferenceTracker : Prop :=
  Sys2Proof.Claim.trackerRefit ∧ Sys2Proof.Claim.internalReferenceLock ∧ Sys2Proof.Claim.flightEpochSet ∧
  Sys2Proof.Claim.referenceLost ∧ Sys2Proof.Claim.holdoverPhaseCheck ∧ Sys2Proof.Claim.holdoverLimitStop ∧
  Sys2Proof.Claim.markerEdge

namespace Sys2Proof.Claim
open Sys2Proof.Machine Sys2Proof.Machine.Reg

abbrev preSeqConfig (c : CmdIn) (s : State) (f : Fib) (len ng gd dly : Nat) : Prop :=
  Ready 1 s ∧ c.words = [f.val, len, ng, gd, dly] ∧ s.seqState f = 0
    ∧ (1 ≤ len ∧ len ≤ 50000) ∧ (14000 ≤ ng ∧ ng ≤ 15500) ∧ gd ≤ 4095 ∧ dly ≤ 128000
/-- SEQ_CONFIG (R84). -/
def seqConfig : Prop := ∀ c s f len ng gd dly, preSeqConfig c s f len ng gd dly →
  ∃ t, exec (.seqConfig c) s = .next t
    ∧ t.get (SEQ_LEN_LEN f) = len ∧ t.get (SEQ_NG_NG f) = ng ∧ t.get (SEQ_GUARD_GUARD f) = gd ∧ t.get (SEQ_CONN_DLY_DLY f) = dly
    ∧ Done 0x10 stOk [] [SEQ_LEN_LEN f, SEQ_NG_NG f, SEQ_GUARD_GUARD f, SEQ_CONN_DLY_DLY f] c s s t

abbrev preSeqRef (c : CmdIn) (s : State) (v div int trk lim mper : Nat) : Prop :=
  Ready 1 s ∧ c.words = [v, div, int, trk, lim, mper] ∧ s.allIdle = true ∧ v &&& 0xFF0F = v ∧ trk &&& 0xFFFF000F = trk
    ∧ (bit v 2 = true → bit v 0 = true ∧ s.tdcFree 3 (ownerOf 9 3) = true)
    ∧ div ≤ 0xFFFF ∧ 4000 ≤ int ∧ (2 ≤ trk % 16 ∧ trk % 16 ≤ 12) ∧ (1 ≤ mper ∧ mper ≤ 0xFFFF)
/-- SEQ_REF (R84): the reference registers, channel 3 for PHMARK (R63), and the epoch voided where a reference field changes on a
device that is no worker (R508). -/
def seqRef : Prop := ∀ c s v div int trk lim mper, preSeqRef c s v div int trk lim mper →
  ∃ t, exec (.seqRef c) s = .next t
    ∧ t.get SEQ_REF_CTRL_SRC = fld v 0 1 ∧ t.get SEQ_REF_CTRL_FALLBACK = fld v 1 1 ∧ t.get SEQ_REF_CTRL_MARK_EN = fld v 2 1
    ∧ t.get SEQ_REF_CTRL_MARK_POL = fld v 3 1 ∧ t.get SEQ_REF_CTRL_PRESC = fld v 8 8
    ∧ t.get SEQ_REF_DIV_DIV = div ∧ t.get SEQ_INT_DIV_INT_DIV = int ∧ t.get SEQ_TRACK_WIN_LOG2 = trk % 16
    ∧ t.get SEQ_TRACK_HOLD_MAX = fld trk 16 16 ∧ t.get SEQ_RESID_LIM_LIM = lim ∧ t.get SEQ_MARK_PERIOD_MPER = mper
    ∧ (bit v 2 = true → t.tdcOwner 3 = ownerOf 9 3)
    ∧ (t.refFields ≠ s.refFields → s.isWorker = false → t.get SEQ_REF_STATUS_EPOCH_VALID = 0 ∧ t.get SEQ_REF_STATUS_LOCKED = 0 ∧ t.trk.autoEpoch = true)
    ∧ Done 0x11 stOk [] [SEQ_REF_CTRL_SRC, SEQ_REF_CTRL_FALLBACK, SEQ_REF_CTRL_MARK_EN, SEQ_REF_CTRL_MARK_POL, SEQ_REF_CTRL_PRESC, SEQ_REF_DIV_DIV, SEQ_INT_DIV_INT_DIV, SEQ_TRACK_WIN_LOG2, SEQ_TRACK_HOLD_MAX, SEQ_RESID_LIM_LIM, SEQ_MARK_PERIOD_MPER, TDC_CHn_STAT_OWNER 3, SEQ_REF_STATUS_EPOCH_VALID, SEQ_REF_STATUS_LOCKED, SEQ_REF_STATUS_HOLDOVER, SEQ_REF_STATUS_PRESENT, SEQ_REF_RESID_RESID] c s { s with trk := t.trk, tdc := t.tdc } t

abbrev preSeqFlightWrite (c : CmdIn) (s : State) (f : Fib) (p : Fin 2) (e0 : Nat) (es : List Nat) : Prop :=
  Ready 1 s ∧ c.words = [f.val + 2 * p.val, e0, es.length] ++ es ∧ s.pageInUse f p = false
    ∧ (∀ v ∈ es, v &&& 0x80F7FFFF = v) ∧ e0 ≤ 63 ∧ e0 + es.length ≤ 64
/-- SEQ_FLIGHT_WRITE (R84): each entry written holds its four fields, every other entry stays. -/
def seqFlightWrite : Prop := ∀ c s f p e0 es, preSeqFlightWrite c s f p e0 es →
  ∃ t, exec (.seqFlightWrite c) s = .next t
    ∧ (∀ i, i < es.length → t.get (SEQ_FT_OFFSET f p.val (e0 + i)) = fld (es.getD i 0) 0 16 ∧ t.get (SEQ_FT_SLOT f p.val (e0 + i)) = fld (es.getD i 0) 16 3 ∧ t.get (SEQ_FT_CODE f p.val (e0 + i)) = fld (es.getD i 0) 20 4 ∧ t.get (SEQ_FT_EN f p.val (e0 + i)) = fld (es.getD i 0) 31 1)
    ∧ Done 0x12 stOk [] ((List.range es.length).flatMap fun i => [SEQ_FT_OFFSET f p.val (e0 + i), SEQ_FT_SLOT f p.val (e0 + i), SEQ_FT_CODE f p.val (e0 + i), SEQ_FT_EN f p.val (e0 + i)]) c s s t

abbrev preSeqPeriod (c : CmdIn) (s : State) (f : Fib) (p : Fin 2) (num den : Nat) : Prop :=
  Ready 1 s ∧ c.words = [f.val + 2 * p.val, num, den] ∧ s.pageInUse f p = false ∧ (1 ≤ num ∧ num ≤ 65535) ∧ (1 ≤ den ∧ den ≤ 1024)
/-- SEQ_PERIOD (R84). -/
def seqPeriod : Prop := ∀ c s f p num den, preSeqPeriod c s f p num den →
  ∃ t, exec (.seqPeriod c) s = .next t
    ∧ t.pageNum f p = num ∧ t.pageDen f p = den
    ∧ Done 0x13 stOk [] (if p.val = 0 then [SEQ_PERIOD0_NUM f, SEQ_PERIOD0_DEN_M1 f] else [SEQ_PERIOD1_NUM f, SEQ_PERIOD1_DEN_M1 f]) c s s t

abbrev preSeqLmon (c : CmdIn) (s : State) (f : Fib) (en : Fin 2) (ofs win : Nat) : Prop :=
  Ready 1 s ∧ c.words = [f.val, en.val, ofs, win] ∧ s.seqState f ≤ 1 ∧ (1 ≤ win ∧ win ≤ 1000)
/-- SEQ_LMON (R84). -/
def seqLmon : Prop := ∀ c s f en ofs win, preSeqLmon c s f en ofs win →
  ∃ t, exec (.seqLmon c) s = .next t
    ∧ t.get (SEQ_CTRL_LMON_EN f) = en.val ∧ t.get (SEQ_LMON_OFS_OFS f) = ofs ∧ t.get (SEQ_LMON_WIN_WIN f) = win
    ∧ Done 0x1A stOk [] [SEQ_CTRL_LMON_EN f, SEQ_LMON_OFS_OFS f, SEQ_LMON_WIN_WIN f] c s s t

abbrev preSeqEpoch (c : CmdIn) (s : State) (m : Fin 2) : Prop :=
  Ready 1 s ∧ c.words = [m.val] ∧ s.noneRuns = true ∧ s.isWorker = false ∧ (m.val = 1 → s.get SEQ_REF_CTRL_MARK_EN ≠ 0)
/-- SEQ_EPOCH (R62): the epoch is requested and the command stays in execution until it is set, when it is answered with the stamp. -/
def seqEpoch : Prop := ∀ c s m, preSeqEpoch c s m →
  ∃ t, exec (.seqEpoch c) s = .next t
    ∧ t.trk.epochReq = some (m.val == 1) ∧ t.trk.markerSeen = false
    ∧ t.cmd.exec = some ⟨c.src, 0x18, c.tag, c.ps⟩ ∧ t.trk.epochTo = some ⟨c.src, 0x18, c.tag, c.ps⟩
    ∧ t = { s with trk := t.trk, cmd := { s.cmd with exec := t.cmd.exec } }

abbrev preSeqPageSwitch (c : CmdIn) (s : State) (f : Fib) (p : Fin 2) : Prop :=
  Ready 1 s ∧ c.words = [f.val + 2 * p.val] ∧ p.val ≠ s.page f ∧ s.get (SEQ_STATUS_PAGE_PEND f) = 0
    ∧ s.pageOk f p (s.trackedT false) (s.on (SEQ_CTRL_UNEVEN f)) = true
    ∧ s.scheduleRefusal f p (s.on (SEQ_CTRL_UNEVEN f)) (s.trackedT false) = none
/-- SEQ_PAGE_SWITCH (R80): while IDLE or ARMED the page is active at once, otherwise the switch is pending. -/
def seqPageSwitch : Prop := ∀ c s f p, preSeqPageSwitch c s f p →
  ∃ t, exec (.seqPageSwitch c) s = .next t
    ∧ (if s.seqState f ≤ 1 then t.page f = p.val ∧ t.get (SEQ_STATUS_PAGE_PEND f) = 0 else t.page f = s.page f ∧ t.get (SEQ_STATUS_PAGE_PEND f) = 1)
    ∧ Replied 0x14 (if s.seqState f ≤ 1 then stOk else stPending) [] 0 c s t
    ∧ t.mem = s.mem ∧ t.flash = s.flash ∧ t.eng = s.eng ∧ t.trk = s.trk

abbrev preSeqArm (c : CmdIn) (s : State) (f : Fib) (ctrl n sp lo hi : Nat) : Prop :=
  Ready 1 s ∧ c.words = [f.val, ctrl, n, sp, lo, hi] ∧ ctrl < 256 ∧ s.seqState f = 0
    ∧ s.armRefusal f c.words s.fallsBack = none
/-- SEQ_ARM (R84): with every check passed the sequencer is ARMED with its control fields; the reply names the start phase. -/
def seqArm : Prop := ∀ c s f ctrl n sp lo hi, preSeqArm c s f ctrl n sp lo hi →
  ∃ t, exec (.seqArm c) s = .next t
    ∧ t.seqState f = stArmed ∧ t.get (SEQ_CTRL_MODE f) = fld ctrl 0 2 ∧ t.get (SEQ_CTRL_TRIG_POLICY f) = fld ctrl 2 1
    ∧ t.get (SEQ_CTRL_TRIG_SRC f) = fld ctrl 3 3 ∧ t.get (SEQ_CTRL_LMON_EN f) = fld ctrl 6 1 ∧ t.get (SEQ_CTRL_UNEVEN f) = fld ctrl 7 1
    ∧ t.get (SEQ_NFLIGHT_N f) = n ∧ t.get (SEQ_START_PHASE_FRAC f) = sp ∧ t.get (SEQ_TRIG_AT_LO_FRAC f) = lo ∧ t.get (SEQ_TRIG_AT_HI_CYCLES f) = hi
    ∧ (t.sq f).shotNo = 0
    ∧ (∀ k ∈ (trigChan (fld ctrl 3 3)).toList, t.tdcOwner k = ownerOf 1 f.val)
    ∧ Replied 0x15 stOk [sp] 0 c s t
    ∧ t.mem = s.mem ∧ t.flash = s.flash ∧ t.out.alarms = s.out.alarms ∧ t.lw = s.lw ∧ t.rxf = s.rxf

abbrev preSeqTrigger (c : CmdIn) (s : State) (f : Fib) : Prop :=
  Ready 1 s ∧ c.words = [f.val] ∧ s.get (SEQ_CTRL_TRIG_SRC f) = 0 ∧ s.seqState f = 1
/-- SEQ_TRIGGER (R74, R509): from ARMED a software trigger plans a run at the first start phase at least 64 clk_fab cycles away; the
reply classifies it (the word is log entry 9's free value). -/
def seqTrigger : Prop := ∀ c s f, preSeqTrigger c s f →
  ∃ t, exec (.seqTrigger c) s = .next t
    ∧ t.seqState f = stRunning
    ∧ (t.sq f).start = some (s.gridPhase f (s.phaseOf f (s.nowNs + 160))) ∧ (t.sq f).begun = false ∧ (t.sq f).limit = s.runLimit f
    ∧ Done 0x16 stOk [Config.trigClass trigStart] [SEQ_STATUS_STATE f] c s { s with seq := t.seq } t
    ∧ (∀ g : Fib, g ≠ f → t.sq g = s.sq g)

abbrev preSeqStop (c : CmdIn) (s : State) (f : Fib) : Prop :=
  Ready 1 s ∧ c.words = [f.val] ∧ s.seqState f = 2
/-- SEQ_STOP (R79): a RUNNING sequencer is STOPPING until its next shot boundary, or the boundary of a pending abort. -/
def seqStop : Prop := ∀ c s f, preSeqStop c s f →
  ∃ t, exec (.seqStop c) s = .next t
    ∧ t.seqState f = stStopping ∧ t.get (SEQ_STATUS_TRIG_HELD f) = 0
    ∧ (t.sq f).abortAt = none ∧ (t.sq f).stopAt = some ((s.sq f).abortAt.getD (s.nextBoundary f))
    ∧ Replied 0x17 stOk [] 0 c s t ∧ t.mem = s.mem ∧ t.flash = s.flash ∧ t.trk = s.trk ∧ t.eng = s.eng ∧ t.tdc = s.tdc

abbrev preSeqGetStatus (c : CmdIn) (s : State) (f : Fib) : Prop :=
  Ready 1 s ∧ c.words = [f.val]
/-- SEQ_GET_STATUS (R84). -/
def seqGetStatus : Prop := ∀ c s f, preSeqGetStatus c s f →
  ∃ t, exec (.seqGetStatus c) s = .next t
    ∧ Done 0x19 stOk [s.rawReg 1 (0x1004 + 0x1000 * f.val), s.rawReg 1 0x14, lo32 s.periodBits, hi32 s.periodBits, lo32 (s.sq f).next, hi32 (s.sq f).next, s.get (SEQ_TRIG_LOST_COUNT f), s.get (SEQ_TRIG_IGNORED_COUNT f), s.get (SEQ_SHOT_SKIPPED_COUNT f), s.get (SEQ_LMON_MISS_COUNT f), s.get (SEQ_LMON_EXTRA_COUNT f)] [] c s s t

end Sys2Proof.Claim

/-- SEQ_CONFIG, SEQ_REF, SEQ_FLIGHT_WRITE, SEQ_PERIOD, SEQ_LMON and SEQ_EPOCH, accepted by a ready device with parameters in range, leave exactly those values in the sequencer registers, are answered OK (SEQ_EPOCH once the epoch is set), and change nothing else. SEQ_ARM, SEQ_TRIGGER, SEQ_STOP, SEQ_PAGE_SWITCH and SEQ_GET_STATUS, where the checks of their chapters pass, put the sequencer into the state the chapter names, with the reply it gives, and leave memory, flash and the units named as they were. -/
def Obligations.SequencerOpcodes : Prop :=
  Sys2Proof.Claim.seqConfig ∧ Sys2Proof.Claim.seqRef ∧ Sys2Proof.Claim.seqFlightWrite ∧
  Sys2Proof.Claim.seqPeriod ∧ Sys2Proof.Claim.seqLmon ∧ Sys2Proof.Claim.seqEpoch ∧
  Sys2Proof.Claim.seqPageSwitch ∧ Sys2Proof.Claim.seqArm ∧ Sys2Proof.Claim.seqTrigger ∧
  Sys2Proof.Claim.seqStop ∧ Sys2Proof.Claim.seqGetStatus

/-- Before READY every opcode but IDENT and STATUS, during an entry to STANDBY or SLEEP every opcode but those of PWR, and at any time an opcode of a block that cannot be reached, is answered NOT_READY with no other effect. -/
def Obligations.OpcodesNotReady : Prop :=
  Sys2Proof.Claim.beforeReady ∧ Sys2Proof.Claim.duringEntry ∧ Sys2Proof.Claim.unreachable

/-- SEQ_ARM of an idle sequencer that nothing makes NOT_READY answers BAD_PARAM, with no other effect, if any position within the fibre's readout range lies in no engine's span. -/
def Obligations.SpanGapRefusesStart : Prop :=
  Sys2Proof.Claim.spanGap

/-- CLR sets every programmable counter to 0 and clears PMON_WRAP; occurrences of the same cycle are added after the clear; PMON_CNTk_CTRL is written only while its EN = 0; a disabled counter keeps its value. -/
def Obligations.CounterClear : Prop :=
  Sys2Proof.Claim.clearAll ∧ Sys2Proof.Claim.clearThenCount ∧ Sys2Proof.Claim.counterWrite ∧
  Sys2Proof.Claim.disabledKeeps

/-- A word with STEP set is excluded from every trigger test, mask test and learn, whether or not CLIP is set; one with CLIP alone takes part with 0xFF_FFFF in place of ENV. -/
def Obligations.EnvelopeFlags : Prop :=
  Sys2Proof.Claim.stepExcluded ∧ Sys2Proof.Claim.clipReplaced
end

