-- ==== Sys2Proof/Laws/Store.lean ====
section
/-! SUPPORT. The register store and the byte memories: reading after putting and removing, and their canonical form. -/

namespace Sys2Proof.Machine

variable {α : Type}

theorem kget_kput_same (k : Nat) (v : α) (m : KMap α) : kget k (kput k v m) = some v := by
  induction m with
  | nil => simp [kput, kget]
  | cons e t ih =>
    obtain ⟨j, w⟩ := e
    simp only [kput]
    split
    · simp [kget]
    · split
      · simp [kget]
      · simp [kget, *]

theorem kget_kput_ne {k j : Nat} (h : j ≠ k) (v : α) (m : KMap α) : kget j (kput k v m) = kget j m := by
  induction m with
  | nil => simp [kput, kget, h]
  | cons e t ih =>
    obtain ⟨i, w⟩ := e
    simp only [kput]
    split
    · simp [kget, h]
    · split
      · next he => subst he; simp [kget, h]
      · simp only [kget, ih]

theorem kget_kput (k j : Nat) (v : α) (m : KMap α) : kget j (kput k v m) = if j = k then some v else kget j m := by
  split
  · next h => subst h; exact kget_kput_same _ _ _
  · next h => exact kget_kput_ne h _ _

theorem kget_kdel_ne {k j : Nat} (h : j ≠ k) (m : KMap α) : kget j (kdel k m) = kget j m := by
  induction m with
  | nil => rfl
  | cons e t ih =>
    obtain ⟨i, w⟩ := e
    simp only [kdel]
    split
    · next he => subst he; simp [kget, h]
    · simp only [kget, ih]

theorem kget_filter (p : Nat → Bool) (j : Nat) (m : KMap α) :
    kget j (m.filter fun e => p e.1) = if p j then kget j m else none := by
  induction m with
  | nil => simp [kget]
  | cons e t ih =>
    obtain ⟨i, w⟩ := e
    by_cases hp : p i <;> by_cases hj : j = i
    · subst hj; simp [kget, hp]
    · simp [kget, hp, hj, ih]
    · subst hj; simp [hp, ih]
    · simp [kget, hp, hj, ih]

theorem kget_kclear (lo hi j : Nat) (m : KMap α) :
    kget j (kclear lo hi m) = if j < lo ∨ hi ≤ j then kget j m else none := by
  have := kget_filter (fun j => decide (j < lo) || decide (hi ≤ j)) j m
  simpa [kclear] using this

theorem kget_append (j : Nat) (a b : KMap α) : kget j (a ++ b) = (kget j a).or (kget j b) := by
  induction a with
  | nil => simp [kget]
  | cons e t ih =>
    obtain ⟨i, w⟩ := e
    simp only [List.cons_append, kget]
    split <;> simp [ih]

/-- The canonical form says that the keys rise. -/
theorem kwf_iff (m : KMap α) : kwf m = true ↔ (m.map Prod.fst).Pairwise (· < ·) := by
  induction m with
  | nil => simp [kwf]
  | cons e t ih =>
    obtain ⟨j, v⟩ := e
    cases t with
    | nil => simp [kwf]
    | cons f u =>
      obtain ⟨k, w⟩ := f
      simp only [kwf, Bool.and_eq_true, decide_eq_true_eq, ih, List.map_cons, List.pairwise_cons]
      constructor
      · rintro ⟨h, hk, hu⟩
        refine ⟨fun a ha => ?_, hk, hu⟩
        rcases List.mem_cons.1 ha with rfl | ha
        · exact h
        · exact lt_trans h (hk a ha)
      · rintro ⟨h, hk, hu⟩
        exact ⟨h k (List.mem_cons_self ..), hk, hu⟩

theorem mem_keys_kput {k j : Nat} {v : α} {m : KMap α} (h : j ∈ (kput k v m).map Prod.fst) :
    j = k ∨ j ∈ m.map Prod.fst := by
  induction m with
  | nil => simpa [kput] using h
  | cons e t ih =>
    obtain ⟨i, w⟩ := e
    simp only [kput] at h
    split at h
    · simpa using h
    · split at h
      · next he => subst he; exact Or.inr (by simpa using h)
      · simp only [List.map_cons, List.mem_cons] at h ⊢
        rcases h with h | h
        · exact Or.inr (Or.inl h)
        · exact (ih h).imp id Or.inr

theorem kput_wf (k : Nat) (v : α) {m : KMap α} (h : kwf m = true) : kwf (kput k v m) = true := by
  rw [kwf_iff] at *
  induction m with
  | nil => simp [kput]
  | cons e t ih =>
    obtain ⟨i, w⟩ := e
    simp only [List.map_cons, List.pairwise_cons] at h
    simp only [kput]
    split
    · next hlt =>
      simp only [List.map_cons, List.pairwise_cons]
      refine ⟨fun a ha => ?_, h⟩
      rcases List.mem_cons.1 ha with rfl | ha
      · exact hlt
      · exact lt_trans hlt (h.1 a ha)
    · split
      · next he => subst he; simpa using h
      · next h1 h2 =>
        simp only [List.map_cons, List.pairwise_cons]
        refine ⟨fun a ha => ?_, ih h.2⟩
        rcases mem_keys_kput ha with rfl | ha
        · omega
        · exact h.1 a ha

theorem filter_wf (p : Nat × α → Bool) {m : KMap α} (h : kwf m = true) : kwf (m.filter p) = true := by
  rw [kwf_iff] at *
  exact List.Pairwise.sublist (List.Sublist.map _ List.filter_sublist) h

theorem kdel_wf (k : Nat) {m : KMap α} (h : kwf m = true) : kwf (kdel k m) = true := by
  rw [kwf_iff] at *
  refine List.Pairwise.sublist (List.Sublist.map _ ?_) h
  induction m with
  | nil => exact List.Sublist.slnil
  | cons e t ih =>
    obtain ⟨i, w⟩ := e
    simp only [kdel]
    split
    · exact List.sublist_cons_self _ _
    · exact List.Sublist.cons_cons _ (ih (by simpa using (List.pairwise_cons.1 (by simpa using h)).2))

theorem kclear_wf (lo hi : Nat) {m : KMap α} (h : kwf m = true) : kwf (kclear lo hi m) = true := filter_wf _ h

theorem append_wf {a b : KMap α} (ha : kwf a = true) (hb : kwf b = true)
    (h : ∀ x ∈ a, ∀ y ∈ b, x.1 < y.1) : kwf (a ++ b) = true := by
  rw [kwf_iff] at *
  rw [List.map_append, List.pairwise_append]
  refine ⟨ha, hb, fun x hx y hy => ?_⟩
  obtain ⟨e, he, rfl⟩ := List.mem_map.1 hx
  obtain ⟨g, hg, rfl⟩ := List.mem_map.1 hy
  exact h e he g hg

/-- In the canonical form an entry that is listed is the one that is read. -/
theorem kget_of_mem {k : Nat} {v : α} {m : KMap α} (h : kwf m = true) (hm : (k, v) ∈ m) : kget k m = some v := by
  rw [kwf_iff] at h
  induction m with
  | nil => simp at hm
  | cons e t ih =>
    obtain ⟨i, w⟩ := e
    simp only [List.map_cons, List.pairwise_cons] at h
    rcases List.mem_cons.1 hm with he | he
    · cases he; simp [kget]
    · have : i < k := h.1 k (List.mem_map.2 ⟨_, he, rfl⟩)
      simp [kget, Nat.ne_of_gt this, ih h.2 he]

end Sys2Proof.Machine
end

