-- ==== Sys2Proof/Laws/Memory.lean ====
section
/-! SUPPORT. Bytes in memory and in the flash: what a store puts where, what it leaves, and that it keeps the canonical form. -/

namespace Sys2Proof.Machine

/-! ### Consecutive bytes -/

theorem kget_cellsFrom (bs : List Byte) : ∀ (a j : Nat),
    kget j (cellsFrom a bs) = if a ≤ j then bs[j - a]? else none := by
  induction bs with
  | nil => intro a j; simp [cellsFrom, kget]
  | cons b t ih =>
    intro a j
    simp only [cellsFrom, kget]
    by_cases h : j = a
    · subst h; simp
    · rw [if_neg h, ih]
      by_cases hl : a + 1 ≤ j
      · have h1 : a ≤ j := by omega
        have h2 : j - a = (j - (a + 1)) + 1 := by omega
        rw [if_pos hl, if_pos h1, h2, List.getElem?_cons_succ]
      · have h1 : ¬ a ≤ j := by omega
        rw [if_neg hl, if_neg h1]
theorem cellsFrom_keys {bs : List Byte} : ∀ {a : Nat} {e : Nat × Byte}, e ∈ cellsFrom a bs → a ≤ e.1 ∧ e.1 < a + bs.length := by
  induction bs with
  | nil => intro a e h; simp [cellsFrom] at h
  | cons b t ih =>
    intro a e h
    simp only [cellsFrom, List.mem_cons] at h
    rcases h with rfl | h
    · simp
    · have := ih h
      simp only [List.length_cons]
      omega
theorem cellsFrom_wf (bs : List Byte) : ∀ a : Nat, kwf (cellsFrom a bs) = true := by
  induction bs with
  | nil => intro a; rfl
  | cons b t ih =>
    intro a
    cases t with
    | nil => rfl
    | cons c u =>
      have := ih (a + 1)
      simp only [cellsFrom] at this ⊢
      simp [kwf, this]

/-! ### A store of consecutive bytes -/

/-- Every byte after a store: the stored ones inside the range, the old ones outside. -/
theorem kget_putBytes (a j : Nat) (bs : List Byte) (m : KMap Byte) :
    kget j (putBytes a bs m) = if a ≤ j ∧ j < a + bs.length then bs[j - a]? else kget j m := by
  have hl := kget_filter (fun i => decide (i < a)) j m
  have hr := kget_filter (fun i => decide (a + bs.length ≤ i)) j m
  simp only [putBytes, kget_append, kget_cellsFrom]
  rw [hl, hr]
  by_cases h1 : j < a
  · have h2 : ¬ a ≤ j := by omega
    have h3 : ¬ a + bs.length ≤ j := by omega
    simp [h1, h2, h3]
  · by_cases h2 : a + bs.length ≤ j
    · have h3 : a ≤ j := by omega
      have h4 : bs.length ≤ j - a := by omega
      have h5 : ¬ j < a + bs.length := by omega
      simp [h1, h2, h3, h5, List.getElem?_eq_none h4]
    · have h3 : a ≤ j := by omega
      have h4 : j - a < bs.length := by omega
      have h5 : j < a + bs.length := by omega
      simp [h1, h3, h5, List.getElem?_eq_getElem h4]
/-- A store leaves every byte outside its range. -/
theorem kget_putBytes_out {a j : Nat} {bs : List Byte} (h : j < a ∨ a + bs.length ≤ j) (m : KMap Byte) :
    kget j (putBytes a bs m) = kget j m := by
  rw [kget_putBytes, if_neg (by omega)]
/-- A store keeps the canonical form. -/
theorem putBytes_wf (a : Nat) (bs : List Byte) {m : KMap Byte} (h : kwf m = true) : kwf (putBytes a bs m) = true := by
  refine append_wf (append_wf (filter_wf _ h) (cellsFrom_wf bs a) ?_) (filter_wf _ h) ?_
  · intro x hx y hy
    have h1 := (List.mem_filter.1 hx).2
    have h2 := cellsFrom_keys hy
    simp only [decide_eq_true_eq] at h1
    omega
  · intro x hx y hy
    have h2 := (List.mem_filter.1 hy).2
    simp only [decide_eq_true_eq] at h2
    rcases List.mem_append.1 hx with hx | hx
    · have h1 := (List.mem_filter.1 hx).2
      simp only [decide_eq_true_eq] at h1
      omega
    · have := cellsFrom_keys hx
      omega

/-- Bytes of a range, one by one. -/
theorem getBytes_eq {m : KMap Byte} {bs : List Byte} : ∀ {a : Nat},
    (∀ i : Nat, i < bs.length → kget (a + i) m = bs[i]?) → getBytes m a bs.length = some bs := by
  induction bs with
  | nil => intro a _; rfl
  | cons b t ih =>
    intro a h
    have h0 := h 0 (by simp)
    have ht := ih (a := a + 1) (fun i hi => by
      have := h (i + 1) (by simpa using hi)
      rw [List.getElem?_cons_succ] at this
      rw [← this, Nat.add_assoc, Nat.add_comm 1 i])
    simp only [Nat.add_zero, List.getElem?_cons_zero] at h0
    simp [getBytes, h0, ht]
/-- A read after a store to the same range gives the bytes stored. -/
theorem getBytes_putBytes_same (a : Nat) (bs : List Byte) (m : KMap Byte) : getBytes (putBytes a bs m) a bs.length = some bs := by
  refine getBytes_eq fun i hi => ?_
  rw [kget_putBytes, if_pos ⟨Nat.le_add_right a i, Nat.add_lt_add_left hi a⟩, Nat.add_sub_cancel_left]
/-- A read of another range gives what it gave before. -/
theorem getBytes_putBytes_out {a lo n : Nat} {bs : List Byte} (h : lo + n ≤ a ∨ a + bs.length ≤ lo) (m : KMap Byte) :
    getBytes (putBytes a bs m) lo n = getBytes m lo n := by
  induction n generalizing lo with
  | zero => rfl
  | succ n ih =>
    simp only [getBytes]
    rw [kget_putBytes_out (by omega), ih (by omega)]

/-! ### The flash -/

theorem flashWf_iff (m : KMap Byte) : Memory.flashWf m = true ↔ kwf m = true ∧ ∀ e ∈ m, e.2 ≠ 0xFF := by
  simp [Memory.flashWf, List.all_eq_true]
/-- Programming keeps the canonical form of the flash. -/
theorem flashPut_wf (s : State) (a : Nat) (bs : List Byte) (h : Memory.flashWf s.flash = true) :
    Memory.flashWf (s.flashPut a bs).flash = true := by
  rw [flashWf_iff] at *
  refine ⟨filter_wf _ (putBytes_wf _ _ h.1), fun e he => ?_⟩
  have := (List.mem_filter.1 he).2
  simpa using this
/-- Erasing keeps the canonical form of the flash. -/
theorem flashErase_wf (s : State) (a n : Nat) (h : Memory.flashWf s.flash = true) :
    Memory.flashWf (s.flashErase a n).flash = true := by
  rw [flashWf_iff] at *
  exact ⟨kclear_wf _ _ h.1, fun e he => h.2 e (List.mem_filter.1 he).1⟩
/-- Erased bytes read 0xFF, every other byte as before. -/
theorem kget_flashErase (s : State) (a n j : Nat) :
    kget j (s.flashErase a n).flash = if j < a ∨ a + n ≤ j then kget j s.flash else none := kget_kclear _ _ _ _

end Sys2Proof.Machine
end

