-- ==== Sys2Proof/Laws/State.lean ====
section
/-! SUPPORT. What each small update of State changes and leaves: one lemma for each field and update, and reading a register
field after an update. -/

namespace Sys2Proof.Machine

/-! ### Register fields -/

theorem State.get_set (s : State) (f g : Fld) (v : Nat) :
    (s.set f v).get g = if g.key = f.key then v % 2 ^ f.w else s.get g := by
  simp only [State.get, State.set, kget_kput]
  split <;> rfl
@[simp] theorem State.get_set_same (s : State) (f : Fld) (v : Nat) : (s.set f v).get f = v % 2 ^ f.w := by
  simp [State.get_set]
theorem State.get_set_ne (s : State) {f g : Fld} (h : g.key ≠ f.key) (v : Nat) : (s.set f v).get g = s.get g := by
  simp [State.get_set, h]
theorem State.get_setB (s : State) (f g : Fld) (b : Bool) :
    (s.setB f b).get g = if g.key = f.key then b.toNat % 2 ^ f.w else s.get g := State.get_set s f g _
theorem State.get_incBy (s : State) (f g : Fld) (n : Nat) :
    (s.incBy f n).get g = if g.key = f.key then min (s.get f + n) (2 ^ f.w - 1) else s.get g := by
  have : min (s.get f + n) (2 ^ f.w - 1) % 2 ^ f.w = min (s.get f + n) (2 ^ f.w - 1) :=
    Nat.mod_eq_of_lt (by have := Nat.two_pow_pos f.w; omega)
  rw [State.incBy, State.get_set, this]
theorem State.get_inc (s : State) (f g : Fld) :
    (s.inc f).get g = if g.key = f.key then min (s.get f + 1) (2 ^ f.w - 1) else s.get g := State.get_incBy s f g 1
theorem State.get_orBits (s : State) (f g : Fld) (m : Nat) :
    (s.orBits f m).get g = if g.key = f.key then (s.get f ||| m) % 2 ^ f.w else s.get g := State.get_set s f g _
theorem State.get_clearRegs (s : State) (b lo hi : Nat) (g : Fld) :
    (s.clearRegs b lo hi).get g = if g.key < key b lo 0 ∨ key b hi 0 ≤ g.key then s.get g else g.rst := by
  simp only [State.get, State.clearRegs, kget_kclear]
  split <;> rfl

/-! ### Fields an update leaves -/

@[simp] theorem State.set_cyc (s : State) (f : Fld) (v : Nat) : (s.set f v).cyc = s.cyc := rfl
@[simp] theorem State.set_freeCtr (s : State) (f : Fld) (v : Nat) : (s.set f v).freeCtr = s.freeCtr := rfl
@[simp] theorem State.set_raised (s : State) (f : Fld) (v : Nat) : (s.set f v).raised = s.raised := rfl
@[simp] theorem State.set_pending (s : State) (f : Fld) (v : Nat) : (s.set f v).pending = s.pending := rfl
@[simp] theorem State.set_mem (s : State) (f : Fld) (v : Nat) : (s.set f v).mem = s.mem := rfl
@[simp] theorem State.set_ecc (s : State) (f : Fld) (v : Nat) : (s.set f v).ecc = s.ecc := rfl
@[simp] theorem State.set_flash (s : State) (f : Fld) (v : Nat) : (s.set f v).flash = s.flash := rfl
@[simp] theorem State.set_trk (s : State) (f : Fld) (v : Nat) : (s.set f v).trk = s.trk := rfl
@[simp] theorem State.set_seq (s : State) (f : Fld) (v : Nat) : (s.set f v).seq = s.seq := rfl
@[simp] theorem State.set_rxf (s : State) (f : Fld) (v : Nat) : (s.set f v).rxf = s.rxf := rfl
@[simp] theorem State.set_prism (s : State) (f : Fld) (v : Nat) : (s.set f v).prism = s.prism := rfl
@[simp] theorem State.set_land (s : State) (f : Fld) (v : Nat) : (s.set f v).land = s.land := rfl
@[simp] theorem State.set_pfil (s : State) (f : Fld) (v : Nat) : (s.set f v).pfil = s.pfil := rfl
@[simp] theorem State.set_eng (s : State) (f : Fld) (v : Nat) : (s.set f v).eng = s.eng := rfl
@[simp] theorem State.set_out (s : State) (f : Fld) (v : Nat) : (s.set f v).out = s.out := rfl
@[simp] theorem State.set_lane (s : State) (f : Fld) (v : Nat) : (s.set f v).lane = s.lane := rfl
@[simp] theorem State.set_grp (s : State) (f : Fld) (v : Nat) : (s.set f v).grp = s.grp := rfl
@[simp] theorem State.set_link (s : State) (f : Fld) (v : Nat) : (s.set f v).link = s.link := rfl
@[simp] theorem State.set_cmd (s : State) (f : Fld) (v : Nat) : (s.set f v).cmd = s.cmd := rfl
@[simp] theorem State.set_mgmt (s : State) (f : Fld) (v : Nat) : (s.set f v).mgmt = s.mgmt := rfl
@[simp] theorem State.set_scrub (s : State) (f : Fld) (v : Nat) : (s.set f v).scrub = s.scrub := rfl
@[simp] theorem State.set_pwr (s : State) (f : Fld) (v : Nat) : (s.set f v).pwr = s.pwr := rfl
@[simp] theorem State.set_bril (s : State) (f : Fld) (v : Nat) : (s.set f v).bril = s.bril := rfl
@[simp] theorem State.set_lw (s : State) (f : Fld) (v : Nat) : (s.set f v).lw = s.lw := rfl
@[simp] theorem State.set_cap (s : State) (f : Fld) (v : Nat) : (s.set f v).cap = s.cap := rfl
@[simp] theorem State.set_hk (s : State) (f : Fld) (v : Nat) : (s.set f v).hk = s.hk := rfl
@[simp] theorem State.set_dram (s : State) (f : Fld) (v : Nat) : (s.set f v).dram = s.dram := rfl
@[simp] theorem State.set_tdc (s : State) (f : Fld) (v : Nat) : (s.set f v).tdc = s.tdc := rfl
@[simp] theorem State.set_cal (s : State) (f : Fld) (v : Nat) : (s.set f v).cal = s.cal := rfl
@[simp] theorem State.set_emit (s : State) (f : Fld) (v : Nat) : (s.set f v).emit = s.emit := rfl
@[simp] theorem State.set_pmon (s : State) (f : Fld) (v : Nat) : (s.set f v).pmon = s.pmon := rfl
@[simp] theorem State.setB_cyc (s : State) (f : Fld) (b : Bool) : (s.setB f b).cyc = s.cyc := rfl
@[simp] theorem State.setB_freeCtr (s : State) (f : Fld) (b : Bool) : (s.setB f b).freeCtr = s.freeCtr := rfl
@[simp] theorem State.setB_raised (s : State) (f : Fld) (b : Bool) : (s.setB f b).raised = s.raised := rfl
@[simp] theorem State.setB_pending (s : State) (f : Fld) (b : Bool) : (s.setB f b).pending = s.pending := rfl
@[simp] theorem State.setB_mem (s : State) (f : Fld) (b : Bool) : (s.setB f b).mem = s.mem := rfl
@[simp] theorem State.setB_ecc (s : State) (f : Fld) (b : Bool) : (s.setB f b).ecc = s.ecc := rfl
@[simp] theorem State.setB_flash (s : State) (f : Fld) (b : Bool) : (s.setB f b).flash = s.flash := rfl
@[simp] theorem State.setB_trk (s : State) (f : Fld) (b : Bool) : (s.setB f b).trk = s.trk := rfl
@[simp] theorem State.setB_seq (s : State) (f : Fld) (b : Bool) : (s.setB f b).seq = s.seq := rfl
@[simp] theorem State.setB_rxf (s : State) (f : Fld) (b : Bool) : (s.setB f b).rxf = s.rxf := rfl
@[simp] theorem State.setB_prism (s : State) (f : Fld) (b : Bool) : (s.setB f b).prism = s.prism := rfl
@[simp] theorem State.setB_land (s : State) (f : Fld) (b : Bool) : (s.setB f b).land = s.land := rfl
@[simp] theorem State.setB_pfil (s : State) (f : Fld) (b : Bool) : (s.setB f b).pfil = s.pfil := rfl
@[simp] theorem State.setB_eng (s : State) (f : Fld) (b : Bool) : (s.setB f b).eng = s.eng := rfl
@[simp] theorem State.setB_out (s : State) (f : Fld) (b : Bool) : (s.setB f b).out = s.out := rfl
@[simp] theorem State.setB_lane (s : State) (f : Fld) (b : Bool) : (s.setB f b).lane = s.lane := rfl
@[simp] theorem State.setB_grp (s : State) (f : Fld) (b : Bool) : (s.setB f b).grp = s.grp := rfl
@[simp] theorem State.setB_link (s : State) (f : Fld) (b : Bool) : (s.setB f b).link = s.link := rfl
@[simp] theorem State.setB_cmd (s : State) (f : Fld) (b : Bool) : (s.setB f b).cmd = s.cmd := rfl
@[simp] theorem State.setB_mgmt (s : State) (f : Fld) (b : Bool) : (s.setB f b).mgmt = s.mgmt := rfl
@[simp] theorem State.setB_scrub (s : State) (f : Fld) (b : Bool) : (s.setB f b).scrub = s.scrub := rfl
@[simp] theorem State.setB_pwr (s : State) (f : Fld) (b : Bool) : (s.setB f b).pwr = s.pwr := rfl
@[simp] theorem State.setB_bril (s : State) (f : Fld) (b : Bool) : (s.setB f b).bril = s.bril := rfl
@[simp] theorem State.setB_lw (s : State) (f : Fld) (b : Bool) : (s.setB f b).lw = s.lw := rfl
@[simp] theorem State.setB_cap (s : State) (f : Fld) (b : Bool) : (s.setB f b).cap = s.cap := rfl
@[simp] theorem State.setB_hk (s : State) (f : Fld) (b : Bool) : (s.setB f b).hk = s.hk := rfl
@[simp] theorem State.setB_dram (s : State) (f : Fld) (b : Bool) : (s.setB f b).dram = s.dram := rfl
@[simp] theorem State.setB_tdc (s : State) (f : Fld) (b : Bool) : (s.setB f b).tdc = s.tdc := rfl
@[simp] theorem State.setB_cal (s : State) (f : Fld) (b : Bool) : (s.setB f b).cal = s.cal := rfl
@[simp] theorem State.setB_emit (s : State) (f : Fld) (b : Bool) : (s.setB f b).emit = s.emit := rfl
@[simp] theorem State.setB_pmon (s : State) (f : Fld) (b : Bool) : (s.setB f b).pmon = s.pmon := rfl
@[simp] theorem State.orBits_cyc (s : State) (f : Fld) (v : Nat) : (s.orBits f v).cyc = s.cyc := rfl
@[simp] theorem State.orBits_freeCtr (s : State) (f : Fld) (v : Nat) : (s.orBits f v).freeCtr = s.freeCtr := rfl
@[simp] theorem State.orBits_raised (s : State) (f : Fld) (v : Nat) : (s.orBits f v).raised = s.raised := rfl
@[simp] theorem State.orBits_pending (s : State) (f : Fld) (v : Nat) : (s.orBits f v).pending = s.pending := rfl
@[simp] theorem State.orBits_mem (s : State) (f : Fld) (v : Nat) : (s.orBits f v).mem = s.mem := rfl
@[simp] theorem State.orBits_ecc (s : State) (f : Fld) (v : Nat) : (s.orBits f v).ecc = s.ecc := rfl
@[simp] theorem State.orBits_flash (s : State) (f : Fld) (v : Nat) : (s.orBits f v).flash = s.flash := rfl
@[simp] theorem State.orBits_trk (s : State) (f : Fld) (v : Nat) : (s.orBits f v).trk = s.trk := rfl
@[simp] theorem State.orBits_seq (s : State) (f : Fld) (v : Nat) : (s.orBits f v).seq = s.seq := rfl
@[simp] theorem State.orBits_rxf (s : State) (f : Fld) (v : Nat) : (s.orBits f v).rxf = s.rxf := rfl
@[simp] theorem State.orBits_prism (s : State) (f : Fld) (v : Nat) : (s.orBits f v).prism = s.prism := rfl
@[simp] theorem State.orBits_land (s : State) (f : Fld) (v : Nat) : (s.orBits f v).land = s.land := rfl
@[simp] theorem State.orBits_pfil (s : State) (f : Fld) (v : Nat) : (s.orBits f v).pfil = s.pfil := rfl
@[simp] theorem State.orBits_eng (s : State) (f : Fld) (v : Nat) : (s.orBits f v).eng = s.eng := rfl
@[simp] theorem State.orBits_out (s : State) (f : Fld) (v : Nat) : (s.orBits f v).out = s.out := rfl
@[simp] theorem State.orBits_lane (s : State) (f : Fld) (v : Nat) : (s.orBits f v).lane = s.lane := rfl
@[simp] theorem State.orBits_grp (s : State) (f : Fld) (v : Nat) : (s.orBits f v).grp = s.grp := rfl
@[simp] theorem State.orBits_link (s : State) (f : Fld) (v : Nat) : (s.orBits f v).link = s.link := rfl
@[simp] theorem State.orBits_cmd (s : State) (f : Fld) (v : Nat) : (s.orBits f v).cmd = s.cmd := rfl
@[simp] theorem State.orBits_mgmt (s : State) (f : Fld) (v : Nat) : (s.orBits f v).mgmt = s.mgmt := rfl
@[simp] theorem State.orBits_scrub (s : State) (f : Fld) (v : Nat) : (s.orBits f v).scrub = s.scrub := rfl
@[simp] theorem State.orBits_pwr (s : State) (f : Fld) (v : Nat) : (s.orBits f v).pwr = s.pwr := rfl
@[simp] theorem State.orBits_bril (s : State) (f : Fld) (v : Nat) : (s.orBits f v).bril = s.bril := rfl
@[simp] theorem State.orBits_lw (s : State) (f : Fld) (v : Nat) : (s.orBits f v).lw = s.lw := rfl
@[simp] theorem State.orBits_cap (s : State) (f : Fld) (v : Nat) : (s.orBits f v).cap = s.cap := rfl
@[simp] theorem State.orBits_hk (s : State) (f : Fld) (v : Nat) : (s.orBits f v).hk = s.hk := rfl
@[simp] theorem State.orBits_dram (s : State) (f : Fld) (v : Nat) : (s.orBits f v).dram = s.dram := rfl
@[simp] theorem State.orBits_tdc (s : State) (f : Fld) (v : Nat) : (s.orBits f v).tdc = s.tdc := rfl
@[simp] theorem State.orBits_cal (s : State) (f : Fld) (v : Nat) : (s.orBits f v).cal = s.cal := rfl
@[simp] theorem State.orBits_emit (s : State) (f : Fld) (v : Nat) : (s.orBits f v).emit = s.emit := rfl
@[simp] theorem State.orBits_pmon (s : State) (f : Fld) (v : Nat) : (s.orBits f v).pmon = s.pmon := rfl
@[simp] theorem State.incBy_cyc (s : State) (f : Fld) (v : Nat) : (s.incBy f v).cyc = s.cyc := rfl
@[simp] theorem State.incBy_freeCtr (s : State) (f : Fld) (v : Nat) : (s.incBy f v).freeCtr = s.freeCtr := rfl
@[simp] theorem State.incBy_raised (s : State) (f : Fld) (v : Nat) : (s.incBy f v).raised = s.raised := rfl
@[simp] theorem State.incBy_pending (s : State) (f : Fld) (v : Nat) : (s.incBy f v).pending = s.pending := rfl
@[simp] theorem State.incBy_mem (s : State) (f : Fld) (v : Nat) : (s.incBy f v).mem = s.mem := rfl
@[simp] theorem State.incBy_ecc (s : State) (f : Fld) (v : Nat) : (s.incBy f v).ecc = s.ecc := rfl
@[simp] theorem State.incBy_flash (s : State) (f : Fld) (v : Nat) : (s.incBy f v).flash = s.flash := rfl
@[simp] theorem State.incBy_trk (s : State) (f : Fld) (v : Nat) : (s.incBy f v).trk = s.trk := rfl
@[simp] theorem State.incBy_seq (s : State) (f : Fld) (v : Nat) : (s.incBy f v).seq = s.seq := rfl
@[simp] theorem State.incBy_rxf (s : State) (f : Fld) (v : Nat) : (s.incBy f v).rxf = s.rxf := rfl
@[simp] theorem State.incBy_prism (s : State) (f : Fld) (v : Nat) : (s.incBy f v).prism = s.prism := rfl
@[simp] theorem State.incBy_land (s : State) (f : Fld) (v : Nat) : (s.incBy f v).land = s.land := rfl
@[simp] theorem State.incBy_pfil (s : State) (f : Fld) (v : Nat) : (s.incBy f v).pfil = s.pfil := rfl
@[simp] theorem State.incBy_eng (s : State) (f : Fld) (v : Nat) : (s.incBy f v).eng = s.eng := rfl
@[simp] theorem State.incBy_out (s : State) (f : Fld) (v : Nat) : (s.incBy f v).out = s.out := rfl
@[simp] theorem State.incBy_lane (s : State) (f : Fld) (v : Nat) : (s.incBy f v).lane = s.lane := rfl
@[simp] theorem State.incBy_grp (s : State) (f : Fld) (v : Nat) : (s.incBy f v).grp = s.grp := rfl
@[simp] theorem State.incBy_link (s : State) (f : Fld) (v : Nat) : (s.incBy f v).link = s.link := rfl
@[simp] theorem State.incBy_cmd (s : State) (f : Fld) (v : Nat) : (s.incBy f v).cmd = s.cmd := rfl
@[simp] theorem State.incBy_mgmt (s : State) (f : Fld) (v : Nat) : (s.incBy f v).mgmt = s.mgmt := rfl
@[simp] theorem State.incBy_scrub (s : State) (f : Fld) (v : Nat) : (s.incBy f v).scrub = s.scrub := rfl
@[simp] theorem State.incBy_pwr (s : State) (f : Fld) (v : Nat) : (s.incBy f v).pwr = s.pwr := rfl
@[simp] theorem State.incBy_bril (s : State) (f : Fld) (v : Nat) : (s.incBy f v).bril = s.bril := rfl
@[simp] theorem State.incBy_lw (s : State) (f : Fld) (v : Nat) : (s.incBy f v).lw = s.lw := rfl
@[simp] theorem State.incBy_cap (s : State) (f : Fld) (v : Nat) : (s.incBy f v).cap = s.cap := rfl
@[simp] theorem State.incBy_hk (s : State) (f : Fld) (v : Nat) : (s.incBy f v).hk = s.hk := rfl
@[simp] theorem State.incBy_dram (s : State) (f : Fld) (v : Nat) : (s.incBy f v).dram = s.dram := rfl
@[simp] theorem State.incBy_tdc (s : State) (f : Fld) (v : Nat) : (s.incBy f v).tdc = s.tdc := rfl
@[simp] theorem State.incBy_cal (s : State) (f : Fld) (v : Nat) : (s.incBy f v).cal = s.cal := rfl
@[simp] theorem State.incBy_emit (s : State) (f : Fld) (v : Nat) : (s.incBy f v).emit = s.emit := rfl
@[simp] theorem State.incBy_pmon (s : State) (f : Fld) (v : Nat) : (s.incBy f v).pmon = s.pmon := rfl
@[simp] theorem State.inc_cyc (s : State) (f : Fld) : (s.inc f).cyc = s.cyc := rfl
@[simp] theorem State.inc_freeCtr (s : State) (f : Fld) : (s.inc f).freeCtr = s.freeCtr := rfl
@[simp] theorem State.inc_raised (s : State) (f : Fld) : (s.inc f).raised = s.raised := rfl
@[simp] theorem State.inc_pending (s : State) (f : Fld) : (s.inc f).pending = s.pending := rfl
@[simp] theorem State.inc_mem (s : State) (f : Fld) : (s.inc f).mem = s.mem := rfl
@[simp] theorem State.inc_ecc (s : State) (f : Fld) : (s.inc f).ecc = s.ecc := rfl
@[simp] theorem State.inc_flash (s : State) (f : Fld) : (s.inc f).flash = s.flash := rfl
@[simp] theorem State.inc_trk (s : State) (f : Fld) : (s.inc f).trk = s.trk := rfl
@[simp] theorem State.inc_seq (s : State) (f : Fld) : (s.inc f).seq = s.seq := rfl
@[simp] theorem State.inc_rxf (s : State) (f : Fld) : (s.inc f).rxf = s.rxf := rfl
@[simp] theorem State.inc_prism (s : State) (f : Fld) : (s.inc f).prism = s.prism := rfl
@[simp] theorem State.inc_land (s : State) (f : Fld) : (s.inc f).land = s.land := rfl
@[simp] theorem State.inc_pfil (s : State) (f : Fld) : (s.inc f).pfil = s.pfil := rfl
@[simp] theorem State.inc_eng (s : State) (f : Fld) : (s.inc f).eng = s.eng := rfl
@[simp] theorem State.inc_out (s : State) (f : Fld) : (s.inc f).out = s.out := rfl
@[simp] theorem State.inc_lane (s : State) (f : Fld) : (s.inc f).lane = s.lane := rfl
@[simp] theorem State.inc_grp (s : State) (f : Fld) : (s.inc f).grp = s.grp := rfl
@[simp] theorem State.inc_link (s : State) (f : Fld) : (s.inc f).link = s.link := rfl
@[simp] theorem State.inc_cmd (s : State) (f : Fld) : (s.inc f).cmd = s.cmd := rfl
@[simp] theorem State.inc_mgmt (s : State) (f : Fld) : (s.inc f).mgmt = s.mgmt := rfl
@[simp] theorem State.inc_scrub (s : State) (f : Fld) : (s.inc f).scrub = s.scrub := rfl
@[simp] theorem State.inc_pwr (s : State) (f : Fld) : (s.inc f).pwr = s.pwr := rfl
@[simp] theorem State.inc_bril (s : State) (f : Fld) : (s.inc f).bril = s.bril := rfl
@[simp] theorem State.inc_lw (s : State) (f : Fld) : (s.inc f).lw = s.lw := rfl
@[simp] theorem State.inc_cap (s : State) (f : Fld) : (s.inc f).cap = s.cap := rfl
@[simp] theorem State.inc_hk (s : State) (f : Fld) : (s.inc f).hk = s.hk := rfl
@[simp] theorem State.inc_dram (s : State) (f : Fld) : (s.inc f).dram = s.dram := rfl
@[simp] theorem State.inc_tdc (s : State) (f : Fld) : (s.inc f).tdc = s.tdc := rfl
@[simp] theorem State.inc_cal (s : State) (f : Fld) : (s.inc f).cal = s.cal := rfl
@[simp] theorem State.inc_emit (s : State) (f : Fld) : (s.inc f).emit = s.emit := rfl
@[simp] theorem State.inc_pmon (s : State) (f : Fld) : (s.inc f).pmon = s.pmon := rfl
@[simp] theorem State.raise_cyc (s : State) (f : Fld) (v : Nat) : (s.raise f v).cyc = s.cyc := rfl
@[simp] theorem State.raise_freeCtr (s : State) (f : Fld) (v : Nat) : (s.raise f v).freeCtr = s.freeCtr := rfl
@[simp] theorem State.raise_pending (s : State) (f : Fld) (v : Nat) : (s.raise f v).pending = s.pending := rfl
@[simp] theorem State.raise_mem (s : State) (f : Fld) (v : Nat) : (s.raise f v).mem = s.mem := rfl
@[simp] theorem State.raise_ecc (s : State) (f : Fld) (v : Nat) : (s.raise f v).ecc = s.ecc := rfl
@[simp] theorem State.raise_flash (s : State) (f : Fld) (v : Nat) : (s.raise f v).flash = s.flash := rfl
@[simp] theorem State.raise_trk (s : State) (f : Fld) (v : Nat) : (s.raise f v).trk = s.trk := rfl
@[simp] theorem State.raise_seq (s : State) (f : Fld) (v : Nat) : (s.raise f v).seq = s.seq := rfl
@[simp] theorem State.raise_rxf (s : State) (f : Fld) (v : Nat) : (s.raise f v).rxf = s.rxf := rfl
@[simp] theorem State.raise_prism (s : State) (f : Fld) (v : Nat) : (s.raise f v).prism = s.prism := rfl
@[simp] theorem State.raise_land (s : State) (f : Fld) (v : Nat) : (s.raise f v).land = s.land := rfl
@[simp] theorem State.raise_pfil (s : State) (f : Fld) (v : Nat) : (s.raise f v).pfil = s.pfil := rfl
@[simp] theorem State.raise_eng (s : State) (f : Fld) (v : Nat) : (s.raise f v).eng = s.eng := rfl
@[simp] theorem State.raise_out (s : State) (f : Fld) (v : Nat) : (s.raise f v).out = s.out := rfl
@[simp] theorem State.raise_lane (s : State) (f : Fld) (v : Nat) : (s.raise f v).lane = s.lane := rfl
@[simp] theorem State.raise_grp (s : State) (f : Fld) (v : Nat) : (s.raise f v).grp = s.grp := rfl
@[simp] theorem State.raise_link (s : State) (f : Fld) (v : Nat) : (s.raise f v).link = s.link := rfl
@[simp] theorem State.raise_cmd (s : State) (f : Fld) (v : Nat) : (s.raise f v).cmd = s.cmd := rfl
@[simp] theorem State.raise_mgmt (s : State) (f : Fld) (v : Nat) : (s.raise f v).mgmt = s.mgmt := rfl
@[simp] theorem State.raise_scrub (s : State) (f : Fld) (v : Nat) : (s.raise f v).scrub = s.scrub := rfl
@[simp] theorem State.raise_pwr (s : State) (f : Fld) (v : Nat) : (s.raise f v).pwr = s.pwr := rfl
@[simp] theorem State.raise_bril (s : State) (f : Fld) (v : Nat) : (s.raise f v).bril = s.bril := rfl
@[simp] theorem State.raise_lw (s : State) (f : Fld) (v : Nat) : (s.raise f v).lw = s.lw := rfl
@[simp] theorem State.raise_cap (s : State) (f : Fld) (v : Nat) : (s.raise f v).cap = s.cap := rfl
@[simp] theorem State.raise_hk (s : State) (f : Fld) (v : Nat) : (s.raise f v).hk = s.hk := rfl
@[simp] theorem State.raise_dram (s : State) (f : Fld) (v : Nat) : (s.raise f v).dram = s.dram := rfl
@[simp] theorem State.raise_tdc (s : State) (f : Fld) (v : Nat) : (s.raise f v).tdc = s.tdc := rfl
@[simp] theorem State.raise_cal (s : State) (f : Fld) (v : Nat) : (s.raise f v).cal = s.cal := rfl
@[simp] theorem State.raise_emit (s : State) (f : Fld) (v : Nat) : (s.raise f v).emit = s.emit := rfl
@[simp] theorem State.raise_pmon (s : State) (f : Fld) (v : Nat) : (s.raise f v).pmon = s.pmon := rfl
@[simp] theorem State.clearBits_cyc (s : State) (f : Fld) (v : Nat) : (s.clearBits f v).cyc = s.cyc := rfl
@[simp] theorem State.clearBits_freeCtr (s : State) (f : Fld) (v : Nat) : (s.clearBits f v).freeCtr = s.freeCtr := rfl
@[simp] theorem State.clearBits_raised (s : State) (f : Fld) (v : Nat) : (s.clearBits f v).raised = s.raised := rfl
@[simp] theorem State.clearBits_pending (s : State) (f : Fld) (v : Nat) : (s.clearBits f v).pending = s.pending := rfl
@[simp] theorem State.clearBits_mem (s : State) (f : Fld) (v : Nat) : (s.clearBits f v).mem = s.mem := rfl
@[simp] theorem State.clearBits_ecc (s : State) (f : Fld) (v : Nat) : (s.clearBits f v).ecc = s.ecc := rfl
@[simp] theorem State.clearBits_flash (s : State) (f : Fld) (v : Nat) : (s.clearBits f v).flash = s.flash := rfl
@[simp] theorem State.clearBits_trk (s : State) (f : Fld) (v : Nat) : (s.clearBits f v).trk = s.trk := rfl
@[simp] theorem State.clearBits_seq (s : State) (f : Fld) (v : Nat) : (s.clearBits f v).seq = s.seq := rfl
@[simp] theorem State.clearBits_rxf (s : State) (f : Fld) (v : Nat) : (s.clearBits f v).rxf = s.rxf := rfl
@[simp] theorem State.clearBits_prism (s : State) (f : Fld) (v : Nat) : (s.clearBits f v).prism = s.prism := rfl
@[simp] theorem State.clearBits_land (s : State) (f : Fld) (v : Nat) : (s.clearBits f v).land = s.land := rfl
@[simp] theorem State.clearBits_pfil (s : State) (f : Fld) (v : Nat) : (s.clearBits f v).pfil = s.pfil := rfl
@[simp] theorem State.clearBits_eng (s : State) (f : Fld) (v : Nat) : (s.clearBits f v).eng = s.eng := rfl
@[simp] theorem State.clearBits_out (s : State) (f : Fld) (v : Nat) : (s.clearBits f v).out = s.out := rfl
@[simp] theorem State.clearBits_lane (s : State) (f : Fld) (v : Nat) : (s.clearBits f v).lane = s.lane := rfl
@[simp] theorem State.clearBits_grp (s : State) (f : Fld) (v : Nat) : (s.clearBits f v).grp = s.grp := rfl
@[simp] theorem State.clearBits_link (s : State) (f : Fld) (v : Nat) : (s.clearBits f v).link = s.link := rfl
@[simp] theorem State.clearBits_cmd (s : State) (f : Fld) (v : Nat) : (s.clearBits f v).cmd = s.cmd := rfl
@[simp] theorem State.clearBits_mgmt (s : State) (f : Fld) (v : Nat) : (s.clearBits f v).mgmt = s.mgmt := rfl
@[simp] theorem State.clearBits_scrub (s : State) (f : Fld) (v : Nat) : (s.clearBits f v).scrub = s.scrub := rfl
@[simp] theorem State.clearBits_pwr (s : State) (f : Fld) (v : Nat) : (s.clearBits f v).pwr = s.pwr := rfl
@[simp] theorem State.clearBits_bril (s : State) (f : Fld) (v : Nat) : (s.clearBits f v).bril = s.bril := rfl
@[simp] theorem State.clearBits_lw (s : State) (f : Fld) (v : Nat) : (s.clearBits f v).lw = s.lw := rfl
@[simp] theorem State.clearBits_cap (s : State) (f : Fld) (v : Nat) : (s.clearBits f v).cap = s.cap := rfl
@[simp] theorem State.clearBits_hk (s : State) (f : Fld) (v : Nat) : (s.clearBits f v).hk = s.hk := rfl
@[simp] theorem State.clearBits_dram (s : State) (f : Fld) (v : Nat) : (s.clearBits f v).dram = s.dram := rfl
@[simp] theorem State.clearBits_tdc (s : State) (f : Fld) (v : Nat) : (s.clearBits f v).tdc = s.tdc := rfl
@[simp] theorem State.clearBits_cal (s : State) (f : Fld) (v : Nat) : (s.clearBits f v).cal = s.cal := rfl
@[simp] theorem State.clearBits_emit (s : State) (f : Fld) (v : Nat) : (s.clearBits f v).emit = s.emit := rfl
@[simp] theorem State.clearBits_pmon (s : State) (f : Fld) (v : Nat) : (s.clearBits f v).pmon = s.pmon := rfl
@[simp] theorem State.useMem_cyc (s : State) (m : Master) (a : Nat) : (s.useMem m a).cyc = s.cyc := rfl
@[simp] theorem State.useMem_freeCtr (s : State) (m : Master) (a : Nat) : (s.useMem m a).freeCtr = s.freeCtr := rfl
@[simp] theorem State.useMem_raised (s : State) (m : Master) (a : Nat) : (s.useMem m a).raised = s.raised := rfl
@[simp] theorem State.useMem_pending (s : State) (m : Master) (a : Nat) : (s.useMem m a).pending = s.pending := rfl
@[simp] theorem State.useMem_regs (s : State) (m : Master) (a : Nat) : (s.useMem m a).regs = s.regs := rfl
@[simp] theorem State.useMem_mem (s : State) (m : Master) (a : Nat) : (s.useMem m a).mem = s.mem := rfl
@[simp] theorem State.useMem_ecc (s : State) (m : Master) (a : Nat) : (s.useMem m a).ecc = s.ecc := rfl
@[simp] theorem State.useMem_flash (s : State) (m : Master) (a : Nat) : (s.useMem m a).flash = s.flash := rfl
@[simp] theorem State.useMem_trk (s : State) (m : Master) (a : Nat) : (s.useMem m a).trk = s.trk := rfl
@[simp] theorem State.useMem_seq (s : State) (m : Master) (a : Nat) : (s.useMem m a).seq = s.seq := rfl
@[simp] theorem State.useMem_rxf (s : State) (m : Master) (a : Nat) : (s.useMem m a).rxf = s.rxf := rfl
@[simp] theorem State.useMem_prism (s : State) (m : Master) (a : Nat) : (s.useMem m a).prism = s.prism := rfl
@[simp] theorem State.useMem_land (s : State) (m : Master) (a : Nat) : (s.useMem m a).land = s.land := rfl
@[simp] theorem State.useMem_pfil (s : State) (m : Master) (a : Nat) : (s.useMem m a).pfil = s.pfil := rfl
@[simp] theorem State.useMem_eng (s : State) (m : Master) (a : Nat) : (s.useMem m a).eng = s.eng := rfl
@[simp] theorem State.useMem_out (s : State) (m : Master) (a : Nat) : (s.useMem m a).out = s.out := rfl
@[simp] theorem State.useMem_lane (s : State) (m : Master) (a : Nat) : (s.useMem m a).lane = s.lane := rfl
@[simp] theorem State.useMem_grp (s : State) (m : Master) (a : Nat) : (s.useMem m a).grp = s.grp := rfl
@[simp] theorem State.useMem_link (s : State) (m : Master) (a : Nat) : (s.useMem m a).link = s.link := rfl
@[simp] theorem State.useMem_cmd (s : State) (m : Master) (a : Nat) : (s.useMem m a).cmd = s.cmd := rfl
@[simp] theorem State.useMem_mgmt (s : State) (m : Master) (a : Nat) : (s.useMem m a).mgmt = s.mgmt := rfl
@[simp] theorem State.useMem_pwr (s : State) (m : Master) (a : Nat) : (s.useMem m a).pwr = s.pwr := rfl
@[simp] theorem State.useMem_bril (s : State) (m : Master) (a : Nat) : (s.useMem m a).bril = s.bril := rfl
@[simp] theorem State.useMem_lw (s : State) (m : Master) (a : Nat) : (s.useMem m a).lw = s.lw := rfl
@[simp] theorem State.useMem_cap (s : State) (m : Master) (a : Nat) : (s.useMem m a).cap = s.cap := rfl
@[simp] theorem State.useMem_hk (s : State) (m : Master) (a : Nat) : (s.useMem m a).hk = s.hk := rfl
@[simp] theorem State.useMem_dram (s : State) (m : Master) (a : Nat) : (s.useMem m a).dram = s.dram := rfl
@[simp] theorem State.useMem_tdc (s : State) (m : Master) (a : Nat) : (s.useMem m a).tdc = s.tdc := rfl
@[simp] theorem State.useMem_cal (s : State) (m : Master) (a : Nat) : (s.useMem m a).cal = s.cal := rfl
@[simp] theorem State.useMem_emit (s : State) (m : Master) (a : Nat) : (s.useMem m a).emit = s.emit := rfl
@[simp] theorem State.useMem_pmon (s : State) (m : Master) (a : Nat) : (s.useMem m a).pmon = s.pmon := rfl
@[simp] theorem State.useMem_get (s : State) (m : Master) (a : Nat) (x : Fld) : (s.useMem m a).get x = s.get x := rfl
@[simp] theorem State.useMem_on (s : State) (m : Master) (a : Nat) (x : Fld) : (s.useMem m a).on x = s.on x := rfl
@[simp] theorem State.clearRegs_cyc (s : State) (b lo hi : Nat) : (s.clearRegs b lo hi).cyc = s.cyc := rfl
@[simp] theorem State.clearRegs_freeCtr (s : State) (b lo hi : Nat) : (s.clearRegs b lo hi).freeCtr = s.freeCtr := rfl
@[simp] theorem State.clearRegs_raised (s : State) (b lo hi : Nat) : (s.clearRegs b lo hi).raised = s.raised := rfl
@[simp] theorem State.clearRegs_pending (s : State) (b lo hi : Nat) : (s.clearRegs b lo hi).pending = s.pending := rfl
@[simp] theorem State.clearRegs_mem (s : State) (b lo hi : Nat) : (s.clearRegs b lo hi).mem = s.mem := rfl
@[simp] theorem State.clearRegs_ecc (s : State) (b lo hi : Nat) : (s.clearRegs b lo hi).ecc = s.ecc := rfl
@[simp] theorem State.clearRegs_flash (s : State) (b lo hi : Nat) : (s.clearRegs b lo hi).flash = s.flash := rfl
@[simp] theorem State.clearRegs_trk (s : State) (b lo hi : Nat) : (s.clearRegs b lo hi).trk = s.trk := rfl
@[simp] theorem State.clearRegs_seq (s : State) (b lo hi : Nat) : (s.clearRegs b lo hi).seq = s.seq := rfl
@[simp] theorem State.clearRegs_rxf (s : State) (b lo hi : Nat) : (s.clearRegs b lo hi).rxf = s.rxf := rfl
@[simp] theorem State.clearRegs_prism (s : State) (b lo hi : Nat) : (s.clearRegs b lo hi).prism = s.prism := rfl
@[simp] theorem State.clearRegs_land (s : State) (b lo hi : Nat) : (s.clearRegs b lo hi).land = s.land := rfl
@[simp] theorem State.clearRegs_pfil (s : State) (b lo hi : Nat) : (s.clearRegs b lo hi).pfil = s.pfil := rfl
@[simp] theorem State.clearRegs_eng (s : State) (b lo hi : Nat) : (s.clearRegs b lo hi).eng = s.eng := rfl
@[simp] theorem State.clearRegs_out (s : State) (b lo hi : Nat) : (s.clearRegs b lo hi).out = s.out := rfl
@[simp] theorem State.clearRegs_lane (s : State) (b lo hi : Nat) : (s.clearRegs b lo hi).lane = s.lane := rfl
@[simp] theorem State.clearRegs_grp (s : State) (b lo hi : Nat) : (s.clearRegs b lo hi).grp = s.grp := rfl
@[simp] theorem State.clearRegs_link (s : State) (b lo hi : Nat) : (s.clearRegs b lo hi).link = s.link := rfl
@[simp] theorem State.clearRegs_cmd (s : State) (b lo hi : Nat) : (s.clearRegs b lo hi).cmd = s.cmd := rfl
@[simp] theorem State.clearRegs_mgmt (s : State) (b lo hi : Nat) : (s.clearRegs b lo hi).mgmt = s.mgmt := rfl
@[simp] theorem State.clearRegs_scrub (s : State) (b lo hi : Nat) : (s.clearRegs b lo hi).scrub = s.scrub := rfl
@[simp] theorem State.clearRegs_pwr (s : State) (b lo hi : Nat) : (s.clearRegs b lo hi).pwr = s.pwr := rfl
@[simp] theorem State.clearRegs_bril (s : State) (b lo hi : Nat) : (s.clearRegs b lo hi).bril = s.bril := rfl
@[simp] theorem State.clearRegs_lw (s : State) (b lo hi : Nat) : (s.clearRegs b lo hi).lw = s.lw := rfl
@[simp] theorem State.clearRegs_cap (s : State) (b lo hi : Nat) : (s.clearRegs b lo hi).cap = s.cap := rfl
@[simp] theorem State.clearRegs_hk (s : State) (b lo hi : Nat) : (s.clearRegs b lo hi).hk = s.hk := rfl
@[simp] theorem State.clearRegs_dram (s : State) (b lo hi : Nat) : (s.clearRegs b lo hi).dram = s.dram := rfl
@[simp] theorem State.clearRegs_tdc (s : State) (b lo hi : Nat) : (s.clearRegs b lo hi).tdc = s.tdc := rfl
@[simp] theorem State.clearRegs_cal (s : State) (b lo hi : Nat) : (s.clearRegs b lo hi).cal = s.cal := rfl
@[simp] theorem State.clearRegs_emit (s : State) (b lo hi : Nat) : (s.clearRegs b lo hi).emit = s.emit := rfl
@[simp] theorem State.clearRegs_pmon (s : State) (b lo hi : Nat) : (s.clearRegs b lo hi).pmon = s.pmon := rfl
@[simp] theorem State.clearBlock_cyc (s : State) (b : Nat) : (s.clearBlock b).cyc = s.cyc := rfl
@[simp] theorem State.clearBlock_freeCtr (s : State) (b : Nat) : (s.clearBlock b).freeCtr = s.freeCtr := rfl
@[simp] theorem State.clearBlock_raised (s : State) (b : Nat) : (s.clearBlock b).raised = s.raised := rfl
@[simp] theorem State.clearBlock_pending (s : State) (b : Nat) : (s.clearBlock b).pending = s.pending := rfl
@[simp] theorem State.clearBlock_mem (s : State) (b : Nat) : (s.clearBlock b).mem = s.mem := rfl
@[simp] theorem State.clearBlock_ecc (s : State) (b : Nat) : (s.clearBlock b).ecc = s.ecc := rfl
@[simp] theorem State.clearBlock_flash (s : State) (b : Nat) : (s.clearBlock b).flash = s.flash := rfl
@[simp] theorem State.clearBlock_trk (s : State) (b : Nat) : (s.clearBlock b).trk = s.trk := rfl
@[simp] theorem State.clearBlock_seq (s : State) (b : Nat) : (s.clearBlock b).seq = s.seq := rfl
@[simp] theorem State.clearBlock_rxf (s : State) (b : Nat) : (s.clearBlock b).rxf = s.rxf := rfl
@[simp] theorem State.clearBlock_prism (s : State) (b : Nat) : (s.clearBlock b).prism = s.prism := rfl
@[simp] theorem State.clearBlock_land (s : State) (b : Nat) : (s.clearBlock b).land = s.land := rfl
@[simp] theorem State.clearBlock_pfil (s : State) (b : Nat) : (s.clearBlock b).pfil = s.pfil := rfl
@[simp] theorem State.clearBlock_eng (s : State) (b : Nat) : (s.clearBlock b).eng = s.eng := rfl
@[simp] theorem State.clearBlock_out (s : State) (b : Nat) : (s.clearBlock b).out = s.out := rfl
@[simp] theorem State.clearBlock_lane (s : State) (b : Nat) : (s.clearBlock b).lane = s.lane := rfl
@[simp] theorem State.clearBlock_grp (s : State) (b : Nat) : (s.clearBlock b).grp = s.grp := rfl
@[simp] theorem State.clearBlock_link (s : State) (b : Nat) : (s.clearBlock b).link = s.link := rfl
@[simp] theorem State.clearBlock_cmd (s : State) (b : Nat) : (s.clearBlock b).cmd = s.cmd := rfl
@[simp] theorem State.clearBlock_mgmt (s : State) (b : Nat) : (s.clearBlock b).mgmt = s.mgmt := rfl
@[simp] theorem State.clearBlock_scrub (s : State) (b : Nat) : (s.clearBlock b).scrub = s.scrub := rfl
@[simp] theorem State.clearBlock_pwr (s : State) (b : Nat) : (s.clearBlock b).pwr = s.pwr := rfl
@[simp] theorem State.clearBlock_bril (s : State) (b : Nat) : (s.clearBlock b).bril = s.bril := rfl
@[simp] theorem State.clearBlock_lw (s : State) (b : Nat) : (s.clearBlock b).lw = s.lw := rfl
@[simp] theorem State.clearBlock_cap (s : State) (b : Nat) : (s.clearBlock b).cap = s.cap := rfl
@[simp] theorem State.clearBlock_hk (s : State) (b : Nat) : (s.clearBlock b).hk = s.hk := rfl
@[simp] theorem State.clearBlock_dram (s : State) (b : Nat) : (s.clearBlock b).dram = s.dram := rfl
@[simp] theorem State.clearBlock_tdc (s : State) (b : Nat) : (s.clearBlock b).tdc = s.tdc := rfl
@[simp] theorem State.clearBlock_cal (s : State) (b : Nat) : (s.clearBlock b).cal = s.cal := rfl
@[simp] theorem State.clearBlock_emit (s : State) (b : Nat) : (s.clearBlock b).emit = s.emit := rfl
@[simp] theorem State.clearBlock_pmon (s : State) (b : Nat) : (s.clearBlock b).pmon = s.pmon := rfl
@[simp] theorem State.draw_cyc (s : State)  : (s.draw.2).cyc = s.cyc := rfl
@[simp] theorem State.draw_raised (s : State)  : (s.draw.2).raised = s.raised := rfl
@[simp] theorem State.draw_pending (s : State)  : (s.draw.2).pending = s.pending := rfl
@[simp] theorem State.draw_regs (s : State)  : (s.draw.2).regs = s.regs := rfl
@[simp] theorem State.draw_mem (s : State)  : (s.draw.2).mem = s.mem := rfl
@[simp] theorem State.draw_ecc (s : State)  : (s.draw.2).ecc = s.ecc := rfl
@[simp] theorem State.draw_flash (s : State)  : (s.draw.2).flash = s.flash := rfl
@[simp] theorem State.draw_trk (s : State)  : (s.draw.2).trk = s.trk := rfl
@[simp] theorem State.draw_seq (s : State)  : (s.draw.2).seq = s.seq := rfl
@[simp] theorem State.draw_rxf (s : State)  : (s.draw.2).rxf = s.rxf := rfl
@[simp] theorem State.draw_prism (s : State)  : (s.draw.2).prism = s.prism := rfl
@[simp] theorem State.draw_land (s : State)  : (s.draw.2).land = s.land := rfl
@[simp] theorem State.draw_pfil (s : State)  : (s.draw.2).pfil = s.pfil := rfl
@[simp] theorem State.draw_eng (s : State)  : (s.draw.2).eng = s.eng := rfl
@[simp] theorem State.draw_out (s : State)  : (s.draw.2).out = s.out := rfl
@[simp] theorem State.draw_lane (s : State)  : (s.draw.2).lane = s.lane := rfl
@[simp] theorem State.draw_grp (s : State)  : (s.draw.2).grp = s.grp := rfl
@[simp] theorem State.draw_link (s : State)  : (s.draw.2).link = s.link := rfl
@[simp] theorem State.draw_cmd (s : State)  : (s.draw.2).cmd = s.cmd := rfl
@[simp] theorem State.draw_mgmt (s : State)  : (s.draw.2).mgmt = s.mgmt := rfl
@[simp] theorem State.draw_scrub (s : State)  : (s.draw.2).scrub = s.scrub := rfl
@[simp] theorem State.draw_pwr (s : State)  : (s.draw.2).pwr = s.pwr := rfl
@[simp] theorem State.draw_bril (s : State)  : (s.draw.2).bril = s.bril := rfl
@[simp] theorem State.draw_lw (s : State)  : (s.draw.2).lw = s.lw := rfl
@[simp] theorem State.draw_cap (s : State)  : (s.draw.2).cap = s.cap := rfl
@[simp] theorem State.draw_hk (s : State)  : (s.draw.2).hk = s.hk := rfl
@[simp] theorem State.draw_dram (s : State)  : (s.draw.2).dram = s.dram := rfl
@[simp] theorem State.draw_tdc (s : State)  : (s.draw.2).tdc = s.tdc := rfl
@[simp] theorem State.draw_cal (s : State)  : (s.draw.2).cal = s.cal := rfl
@[simp] theorem State.draw_emit (s : State)  : (s.draw.2).emit = s.emit := rfl
@[simp] theorem State.draw_pmon (s : State)  : (s.draw.2).pmon = s.pmon := rfl
@[simp] theorem State.draw_get (s : State)  (x : Fld) : (s.draw.2).get x = s.get x := rfl
@[simp] theorem State.draw_on (s : State)  (x : Fld) : (s.draw.2).on x = s.on x := rfl
@[simp] theorem State.pick_cyc (s : State) (lo hi : Nat) : ((s.pick lo hi).2).cyc = s.cyc := rfl
@[simp] theorem State.pick_raised (s : State) (lo hi : Nat) : ((s.pick lo hi).2).raised = s.raised := rfl
@[simp] theorem State.pick_pending (s : State) (lo hi : Nat) : ((s.pick lo hi).2).pending = s.pending := rfl
@[simp] theorem State.pick_regs (s : State) (lo hi : Nat) : ((s.pick lo hi).2).regs = s.regs := rfl
@[simp] theorem State.pick_mem (s : State) (lo hi : Nat) : ((s.pick lo hi).2).mem = s.mem := rfl
@[simp] theorem State.pick_ecc (s : State) (lo hi : Nat) : ((s.pick lo hi).2).ecc = s.ecc := rfl
@[simp] theorem State.pick_flash (s : State) (lo hi : Nat) : ((s.pick lo hi).2).flash = s.flash := rfl
@[simp] theorem State.pick_trk (s : State) (lo hi : Nat) : ((s.pick lo hi).2).trk = s.trk := rfl
@[simp] theorem State.pick_seq (s : State) (lo hi : Nat) : ((s.pick lo hi).2).seq = s.seq := rfl
@[simp] theorem State.pick_rxf (s : State) (lo hi : Nat) : ((s.pick lo hi).2).rxf = s.rxf := rfl
@[simp] theorem State.pick_prism (s : State) (lo hi : Nat) : ((s.pick lo hi).2).prism = s.prism := rfl
@[simp] theorem State.pick_land (s : State) (lo hi : Nat) : ((s.pick lo hi).2).land = s.land := rfl
@[simp] theorem State.pick_pfil (s : State) (lo hi : Nat) : ((s.pick lo hi).2).pfil = s.pfil := rfl
@[simp] theorem State.pick_eng (s : State) (lo hi : Nat) : ((s.pick lo hi).2).eng = s.eng := rfl
@[simp] theorem State.pick_out (s : State) (lo hi : Nat) : ((s.pick lo hi).2).out = s.out := rfl
@[simp] theorem State.pick_lane (s : State) (lo hi : Nat) : ((s.pick lo hi).2).lane = s.lane := rfl
@[simp] theorem State.pick_grp (s : State) (lo hi : Nat) : ((s.pick lo hi).2).grp = s.grp := rfl
@[simp] theorem State.pick_link (s : State) (lo hi : Nat) : ((s.pick lo hi).2).link = s.link := rfl
@[simp] theorem State.pick_cmd (s : State) (lo hi : Nat) : ((s.pick lo hi).2).cmd = s.cmd := rfl
@[simp] theorem State.pick_mgmt (s : State) (lo hi : Nat) : ((s.pick lo hi).2).mgmt = s.mgmt := rfl
@[simp] theorem State.pick_scrub (s : State) (lo hi : Nat) : ((s.pick lo hi).2).scrub = s.scrub := rfl
@[simp] theorem State.pick_pwr (s : State) (lo hi : Nat) : ((s.pick lo hi).2).pwr = s.pwr := rfl
@[simp] theorem State.pick_bril (s : State) (lo hi : Nat) : ((s.pick lo hi).2).bril = s.bril := rfl
@[simp] theorem State.pick_lw (s : State) (lo hi : Nat) : ((s.pick lo hi).2).lw = s.lw := rfl
@[simp] theorem State.pick_cap (s : State) (lo hi : Nat) : ((s.pick lo hi).2).cap = s.cap := rfl
@[simp] theorem State.pick_hk (s : State) (lo hi : Nat) : ((s.pick lo hi).2).hk = s.hk := rfl
@[simp] theorem State.pick_dram (s : State) (lo hi : Nat) : ((s.pick lo hi).2).dram = s.dram := rfl
@[simp] theorem State.pick_tdc (s : State) (lo hi : Nat) : ((s.pick lo hi).2).tdc = s.tdc := rfl
@[simp] theorem State.pick_cal (s : State) (lo hi : Nat) : ((s.pick lo hi).2).cal = s.cal := rfl
@[simp] theorem State.pick_emit (s : State) (lo hi : Nat) : ((s.pick lo hi).2).emit = s.emit := rfl
@[simp] theorem State.pick_pmon (s : State) (lo hi : Nat) : ((s.pick lo hi).2).pmon = s.pmon := rfl
@[simp] theorem State.pick_get (s : State) (lo hi : Nat) (x : Fld) : ((s.pick lo hi).2).get x = s.get x := rfl
@[simp] theorem State.pick_on (s : State) (lo hi : Nat) (x : Fld) : ((s.pick lo hi).2).on x = s.on x := rfl
@[simp] theorem State.postBulk_cyc (s : State) (b : Bulk) : (s.postBulk b).cyc = s.cyc := rfl
@[simp] theorem State.postBulk_freeCtr (s : State) (b : Bulk) : (s.postBulk b).freeCtr = s.freeCtr := rfl
@[simp] theorem State.postBulk_raised (s : State) (b : Bulk) : (s.postBulk b).raised = s.raised := rfl
@[simp] theorem State.postBulk_pending (s : State) (b : Bulk) : (s.postBulk b).pending = s.pending := rfl
@[simp] theorem State.postBulk_regs (s : State) (b : Bulk) : (s.postBulk b).regs = s.regs := rfl
@[simp] theorem State.postBulk_mem (s : State) (b : Bulk) : (s.postBulk b).mem = s.mem := rfl
@[simp] theorem State.postBulk_ecc (s : State) (b : Bulk) : (s.postBulk b).ecc = s.ecc := rfl
@[simp] theorem State.postBulk_flash (s : State) (b : Bulk) : (s.postBulk b).flash = s.flash := rfl
@[simp] theorem State.postBulk_trk (s : State) (b : Bulk) : (s.postBulk b).trk = s.trk := rfl
@[simp] theorem State.postBulk_seq (s : State) (b : Bulk) : (s.postBulk b).seq = s.seq := rfl
@[simp] theorem State.postBulk_rxf (s : State) (b : Bulk) : (s.postBulk b).rxf = s.rxf := rfl
@[simp] theorem State.postBulk_prism (s : State) (b : Bulk) : (s.postBulk b).prism = s.prism := rfl
@[simp] theorem State.postBulk_land (s : State) (b : Bulk) : (s.postBulk b).land = s.land := rfl
@[simp] theorem State.postBulk_pfil (s : State) (b : Bulk) : (s.postBulk b).pfil = s.pfil := rfl
@[simp] theorem State.postBulk_eng (s : State) (b : Bulk) : (s.postBulk b).eng = s.eng := rfl
@[simp] theorem State.postBulk_lane (s : State) (b : Bulk) : (s.postBulk b).lane = s.lane := rfl
@[simp] theorem State.postBulk_grp (s : State) (b : Bulk) : (s.postBulk b).grp = s.grp := rfl
@[simp] theorem State.postBulk_link (s : State) (b : Bulk) : (s.postBulk b).link = s.link := rfl
@[simp] theorem State.postBulk_cmd (s : State) (b : Bulk) : (s.postBulk b).cmd = s.cmd := rfl
@[simp] theorem State.postBulk_mgmt (s : State) (b : Bulk) : (s.postBulk b).mgmt = s.mgmt := rfl
@[simp] theorem State.postBulk_scrub (s : State) (b : Bulk) : (s.postBulk b).scrub = s.scrub := rfl
@[simp] theorem State.postBulk_pwr (s : State) (b : Bulk) : (s.postBulk b).pwr = s.pwr := rfl
@[simp] theorem State.postBulk_bril (s : State) (b : Bulk) : (s.postBulk b).bril = s.bril := rfl
@[simp] theorem State.postBulk_lw (s : State) (b : Bulk) : (s.postBulk b).lw = s.lw := rfl
@[simp] theorem State.postBulk_cap (s : State) (b : Bulk) : (s.postBulk b).cap = s.cap := rfl
@[simp] theorem State.postBulk_hk (s : State) (b : Bulk) : (s.postBulk b).hk = s.hk := rfl
@[simp] theorem State.postBulk_dram (s : State) (b : Bulk) : (s.postBulk b).dram = s.dram := rfl
@[simp] theorem State.postBulk_tdc (s : State) (b : Bulk) : (s.postBulk b).tdc = s.tdc := rfl
@[simp] theorem State.postBulk_cal (s : State) (b : Bulk) : (s.postBulk b).cal = s.cal := rfl
@[simp] theorem State.postBulk_emit (s : State) (b : Bulk) : (s.postBulk b).emit = s.emit := rfl
@[simp] theorem State.postBulk_pmon (s : State) (b : Bulk) : (s.postBulk b).pmon = s.pmon := rfl
@[simp] theorem State.postBulk_get (s : State) (b : Bulk) (x : Fld) : (s.postBulk b).get x = s.get x := rfl
@[simp] theorem State.postBulk_on (s : State) (b : Bulk) (x : Fld) : (s.postBulk b).on x = s.on x := rfl
@[simp] theorem State.lifeAdd_cyc (s : State) (w n : Nat) : (s.lifeAdd w n).cyc = s.cyc := rfl
@[simp] theorem State.lifeAdd_freeCtr (s : State) (w n : Nat) : (s.lifeAdd w n).freeCtr = s.freeCtr := rfl
@[simp] theorem State.lifeAdd_raised (s : State) (w n : Nat) : (s.lifeAdd w n).raised = s.raised := rfl
@[simp] theorem State.lifeAdd_pending (s : State) (w n : Nat) : (s.lifeAdd w n).pending = s.pending := rfl
@[simp] theorem State.lifeAdd_regs (s : State) (w n : Nat) : (s.lifeAdd w n).regs = s.regs := rfl
@[simp] theorem State.lifeAdd_mem (s : State) (w n : Nat) : (s.lifeAdd w n).mem = s.mem := rfl
@[simp] theorem State.lifeAdd_ecc (s : State) (w n : Nat) : (s.lifeAdd w n).ecc = s.ecc := rfl
@[simp] theorem State.lifeAdd_flash (s : State) (w n : Nat) : (s.lifeAdd w n).flash = s.flash := rfl
@[simp] theorem State.lifeAdd_trk (s : State) (w n : Nat) : (s.lifeAdd w n).trk = s.trk := rfl
@[simp] theorem State.lifeAdd_seq (s : State) (w n : Nat) : (s.lifeAdd w n).seq = s.seq := rfl
@[simp] theorem State.lifeAdd_rxf (s : State) (w n : Nat) : (s.lifeAdd w n).rxf = s.rxf := rfl
@[simp] theorem State.lifeAdd_prism (s : State) (w n : Nat) : (s.lifeAdd w n).prism = s.prism := rfl
@[simp] theorem State.lifeAdd_land (s : State) (w n : Nat) : (s.lifeAdd w n).land = s.land := rfl
@[simp] theorem State.lifeAdd_pfil (s : State) (w n : Nat) : (s.lifeAdd w n).pfil = s.pfil := rfl
@[simp] theorem State.lifeAdd_eng (s : State) (w n : Nat) : (s.lifeAdd w n).eng = s.eng := rfl
@[simp] theorem State.lifeAdd_out (s : State) (w n : Nat) : (s.lifeAdd w n).out = s.out := rfl
@[simp] theorem State.lifeAdd_lane (s : State) (w n : Nat) : (s.lifeAdd w n).lane = s.lane := rfl
@[simp] theorem State.lifeAdd_grp (s : State) (w n : Nat) : (s.lifeAdd w n).grp = s.grp := rfl
@[simp] theorem State.lifeAdd_link (s : State) (w n : Nat) : (s.lifeAdd w n).link = s.link := rfl
@[simp] theorem State.lifeAdd_cmd (s : State) (w n : Nat) : (s.lifeAdd w n).cmd = s.cmd := rfl
@[simp] theorem State.lifeAdd_scrub (s : State) (w n : Nat) : (s.lifeAdd w n).scrub = s.scrub := rfl
@[simp] theorem State.lifeAdd_pwr (s : State) (w n : Nat) : (s.lifeAdd w n).pwr = s.pwr := rfl
@[simp] theorem State.lifeAdd_bril (s : State) (w n : Nat) : (s.lifeAdd w n).bril = s.bril := rfl
@[simp] theorem State.lifeAdd_lw (s : State) (w n : Nat) : (s.lifeAdd w n).lw = s.lw := rfl
@[simp] theorem State.lifeAdd_cap (s : State) (w n : Nat) : (s.lifeAdd w n).cap = s.cap := rfl
@[simp] theorem State.lifeAdd_hk (s : State) (w n : Nat) : (s.lifeAdd w n).hk = s.hk := rfl
@[simp] theorem State.lifeAdd_dram (s : State) (w n : Nat) : (s.lifeAdd w n).dram = s.dram := rfl
@[simp] theorem State.lifeAdd_tdc (s : State) (w n : Nat) : (s.lifeAdd w n).tdc = s.tdc := rfl
@[simp] theorem State.lifeAdd_cal (s : State) (w n : Nat) : (s.lifeAdd w n).cal = s.cal := rfl
@[simp] theorem State.lifeAdd_emit (s : State) (w n : Nat) : (s.lifeAdd w n).emit = s.emit := rfl
@[simp] theorem State.lifeAdd_pmon (s : State) (w n : Nat) : (s.lifeAdd w n).pmon = s.pmon := rfl
@[simp] theorem State.lifeAdd_get (s : State) (w n : Nat) (x : Fld) : (s.lifeAdd w n).get x = s.get x := rfl
@[simp] theorem State.lifeAdd_on (s : State) (w n : Nat) (x : Fld) : (s.lifeAdd w n).on x = s.on x := rfl
@[simp] theorem State.setTrk_cyc (s : State) (g : Tracker → Tracker) : (s.setTrk g).cyc = s.cyc := rfl
@[simp] theorem State.setTrk_freeCtr (s : State) (g : Tracker → Tracker) : (s.setTrk g).freeCtr = s.freeCtr := rfl
@[simp] theorem State.setTrk_raised (s : State) (g : Tracker → Tracker) : (s.setTrk g).raised = s.raised := rfl
@[simp] theorem State.setTrk_pending (s : State) (g : Tracker → Tracker) : (s.setTrk g).pending = s.pending := rfl
@[simp] theorem State.setTrk_regs (s : State) (g : Tracker → Tracker) : (s.setTrk g).regs = s.regs := rfl
@[simp] theorem State.setTrk_mem (s : State) (g : Tracker → Tracker) : (s.setTrk g).mem = s.mem := rfl
@[simp] theorem State.setTrk_ecc (s : State) (g : Tracker → Tracker) : (s.setTrk g).ecc = s.ecc := rfl
@[simp] theorem State.setTrk_flash (s : State) (g : Tracker → Tracker) : (s.setTrk g).flash = s.flash := rfl
@[simp] theorem State.setTrk_seq (s : State) (g : Tracker → Tracker) : (s.setTrk g).seq = s.seq := rfl
@[simp] theorem State.setTrk_rxf (s : State) (g : Tracker → Tracker) : (s.setTrk g).rxf = s.rxf := rfl
@[simp] theorem State.setTrk_prism (s : State) (g : Tracker → Tracker) : (s.setTrk g).prism = s.prism := rfl
@[simp] theorem State.setTrk_land (s : State) (g : Tracker → Tracker) : (s.setTrk g).land = s.land := rfl
@[simp] theorem State.setTrk_pfil (s : State) (g : Tracker → Tracker) : (s.setTrk g).pfil = s.pfil := rfl
@[simp] theorem State.setTrk_eng (s : State) (g : Tracker → Tracker) : (s.setTrk g).eng = s.eng := rfl
@[simp] theorem State.setTrk_out (s : State) (g : Tracker → Tracker) : (s.setTrk g).out = s.out := rfl
@[simp] theorem State.setTrk_lane (s : State) (g : Tracker → Tracker) : (s.setTrk g).lane = s.lane := rfl
@[simp] theorem State.setTrk_grp (s : State) (g : Tracker → Tracker) : (s.setTrk g).grp = s.grp := rfl
@[simp] theorem State.setTrk_link (s : State) (g : Tracker → Tracker) : (s.setTrk g).link = s.link := rfl
@[simp] theorem State.setTrk_cmd (s : State) (g : Tracker → Tracker) : (s.setTrk g).cmd = s.cmd := rfl
@[simp] theorem State.setTrk_mgmt (s : State) (g : Tracker → Tracker) : (s.setTrk g).mgmt = s.mgmt := rfl
@[simp] theorem State.setTrk_scrub (s : State) (g : Tracker → Tracker) : (s.setTrk g).scrub = s.scrub := rfl
@[simp] theorem State.setTrk_pwr (s : State) (g : Tracker → Tracker) : (s.setTrk g).pwr = s.pwr := rfl
@[simp] theorem State.setTrk_bril (s : State) (g : Tracker → Tracker) : (s.setTrk g).bril = s.bril := rfl
@[simp] theorem State.setTrk_lw (s : State) (g : Tracker → Tracker) : (s.setTrk g).lw = s.lw := rfl
@[simp] theorem State.setTrk_cap (s : State) (g : Tracker → Tracker) : (s.setTrk g).cap = s.cap := rfl
@[simp] theorem State.setTrk_hk (s : State) (g : Tracker → Tracker) : (s.setTrk g).hk = s.hk := rfl
@[simp] theorem State.setTrk_dram (s : State) (g : Tracker → Tracker) : (s.setTrk g).dram = s.dram := rfl
@[simp] theorem State.setTrk_tdc (s : State) (g : Tracker → Tracker) : (s.setTrk g).tdc = s.tdc := rfl
@[simp] theorem State.setTrk_cal (s : State) (g : Tracker → Tracker) : (s.setTrk g).cal = s.cal := rfl
@[simp] theorem State.setTrk_emit (s : State) (g : Tracker → Tracker) : (s.setTrk g).emit = s.emit := rfl
@[simp] theorem State.setTrk_pmon (s : State) (g : Tracker → Tracker) : (s.setTrk g).pmon = s.pmon := rfl
@[simp] theorem State.setTrk_get (s : State) (g : Tracker → Tracker) (x : Fld) : (s.setTrk g).get x = s.get x := rfl
@[simp] theorem State.setTrk_on (s : State) (g : Tracker → Tracker) (x : Fld) : (s.setTrk g).on x = s.on x := rfl
@[simp] theorem State.setSq_cyc (s : State) (f : Fib) (g : SeqRun → SeqRun) : (s.setSq f g).cyc = s.cyc := rfl
@[simp] theorem State.setSq_freeCtr (s : State) (f : Fib) (g : SeqRun → SeqRun) : (s.setSq f g).freeCtr = s.freeCtr := rfl
@[simp] theorem State.setSq_raised (s : State) (f : Fib) (g : SeqRun → SeqRun) : (s.setSq f g).raised = s.raised := rfl
@[simp] theorem State.setSq_pending (s : State) (f : Fib) (g : SeqRun → SeqRun) : (s.setSq f g).pending = s.pending := rfl
@[simp] theorem State.setSq_regs (s : State) (f : Fib) (g : SeqRun → SeqRun) : (s.setSq f g).regs = s.regs := rfl
@[simp] theorem State.setSq_mem (s : State) (f : Fib) (g : SeqRun → SeqRun) : (s.setSq f g).mem = s.mem := rfl
@[simp] theorem State.setSq_ecc (s : State) (f : Fib) (g : SeqRun → SeqRun) : (s.setSq f g).ecc = s.ecc := rfl
@[simp] theorem State.setSq_flash (s : State) (f : Fib) (g : SeqRun → SeqRun) : (s.setSq f g).flash = s.flash := rfl
@[simp] theorem State.setSq_trk (s : State) (f : Fib) (g : SeqRun → SeqRun) : (s.setSq f g).trk = s.trk := rfl
@[simp] theorem State.setSq_rxf (s : State) (f : Fib) (g : SeqRun → SeqRun) : (s.setSq f g).rxf = s.rxf := rfl
@[simp] theorem State.setSq_prism (s : State) (f : Fib) (g : SeqRun → SeqRun) : (s.setSq f g).prism = s.prism := rfl
@[simp] theorem State.setSq_land (s : State) (f : Fib) (g : SeqRun → SeqRun) : (s.setSq f g).land = s.land := rfl
@[simp] theorem State.setSq_pfil (s : State) (f : Fib) (g : SeqRun → SeqRun) : (s.setSq f g).pfil = s.pfil := rfl
@[simp] theorem State.setSq_eng (s : State) (f : Fib) (g : SeqRun → SeqRun) : (s.setSq f g).eng = s.eng := rfl
@[simp] theorem State.setSq_out (s : State) (f : Fib) (g : SeqRun → SeqRun) : (s.setSq f g).out = s.out := rfl
@[simp] theorem State.setSq_lane (s : State) (f : Fib) (g : SeqRun → SeqRun) : (s.setSq f g).lane = s.lane := rfl
@[simp] theorem State.setSq_grp (s : State) (f : Fib) (g : SeqRun → SeqRun) : (s.setSq f g).grp = s.grp := rfl
@[simp] theorem State.setSq_link (s : State) (f : Fib) (g : SeqRun → SeqRun) : (s.setSq f g).link = s.link := rfl
@[simp] theorem State.setSq_cmd (s : State) (f : Fib) (g : SeqRun → SeqRun) : (s.setSq f g).cmd = s.cmd := rfl
@[simp] theorem State.setSq_mgmt (s : State) (f : Fib) (g : SeqRun → SeqRun) : (s.setSq f g).mgmt = s.mgmt := rfl
@[simp] theorem State.setSq_scrub (s : State) (f : Fib) (g : SeqRun → SeqRun) : (s.setSq f g).scrub = s.scrub := rfl
@[simp] theorem State.setSq_pwr (s : State) (f : Fib) (g : SeqRun → SeqRun) : (s.setSq f g).pwr = s.pwr := rfl
@[simp] theorem State.setSq_bril (s : State) (f : Fib) (g : SeqRun → SeqRun) : (s.setSq f g).bril = s.bril := rfl
@[simp] theorem State.setSq_lw (s : State) (f : Fib) (g : SeqRun → SeqRun) : (s.setSq f g).lw = s.lw := rfl
@[simp] theorem State.setSq_cap (s : State) (f : Fib) (g : SeqRun → SeqRun) : (s.setSq f g).cap = s.cap := rfl
@[simp] theorem State.setSq_hk (s : State) (f : Fib) (g : SeqRun → SeqRun) : (s.setSq f g).hk = s.hk := rfl
@[simp] theorem State.setSq_dram (s : State) (f : Fib) (g : SeqRun → SeqRun) : (s.setSq f g).dram = s.dram := rfl
@[simp] theorem State.setSq_tdc (s : State) (f : Fib) (g : SeqRun → SeqRun) : (s.setSq f g).tdc = s.tdc := rfl
@[simp] theorem State.setSq_cal (s : State) (f : Fib) (g : SeqRun → SeqRun) : (s.setSq f g).cal = s.cal := rfl
@[simp] theorem State.setSq_emit (s : State) (f : Fib) (g : SeqRun → SeqRun) : (s.setSq f g).emit = s.emit := rfl
@[simp] theorem State.setSq_pmon (s : State) (f : Fib) (g : SeqRun → SeqRun) : (s.setSq f g).pmon = s.pmon := rfl
@[simp] theorem State.setSq_get (s : State) (f : Fib) (g : SeqRun → SeqRun) (x : Fld) : (s.setSq f g).get x = s.get x := rfl
@[simp] theorem State.setSq_on (s : State) (f : Fib) (g : SeqRun → SeqRun) (x : Fld) : (s.setSq f g).on x = s.on x := rfl
@[simp] theorem State.setLw_cyc (s : State) (f : Fib) (g : LwRun → LwRun) : (s.setLw f g).cyc = s.cyc := rfl
@[simp] theorem State.setLw_freeCtr (s : State) (f : Fib) (g : LwRun → LwRun) : (s.setLw f g).freeCtr = s.freeCtr := rfl
@[simp] theorem State.setLw_raised (s : State) (f : Fib) (g : LwRun → LwRun) : (s.setLw f g).raised = s.raised := rfl
@[simp] theorem State.setLw_pending (s : State) (f : Fib) (g : LwRun → LwRun) : (s.setLw f g).pending = s.pending := rfl
@[simp] theorem State.setLw_regs (s : State) (f : Fib) (g : LwRun → LwRun) : (s.setLw f g).regs = s.regs := rfl
@[simp] theorem State.setLw_mem (s : State) (f : Fib) (g : LwRun → LwRun) : (s.setLw f g).mem = s.mem := rfl
@[simp] theorem State.setLw_ecc (s : State) (f : Fib) (g : LwRun → LwRun) : (s.setLw f g).ecc = s.ecc := rfl
@[simp] theorem State.setLw_flash (s : State) (f : Fib) (g : LwRun → LwRun) : (s.setLw f g).flash = s.flash := rfl
@[simp] theorem State.setLw_trk (s : State) (f : Fib) (g : LwRun → LwRun) : (s.setLw f g).trk = s.trk := rfl
@[simp] theorem State.setLw_seq (s : State) (f : Fib) (g : LwRun → LwRun) : (s.setLw f g).seq = s.seq := rfl
@[simp] theorem State.setLw_rxf (s : State) (f : Fib) (g : LwRun → LwRun) : (s.setLw f g).rxf = s.rxf := rfl
@[simp] theorem State.setLw_prism (s : State) (f : Fib) (g : LwRun → LwRun) : (s.setLw f g).prism = s.prism := rfl
@[simp] theorem State.setLw_land (s : State) (f : Fib) (g : LwRun → LwRun) : (s.setLw f g).land = s.land := rfl
@[simp] theorem State.setLw_pfil (s : State) (f : Fib) (g : LwRun → LwRun) : (s.setLw f g).pfil = s.pfil := rfl
@[simp] theorem State.setLw_eng (s : State) (f : Fib) (g : LwRun → LwRun) : (s.setLw f g).eng = s.eng := rfl
@[simp] theorem State.setLw_out (s : State) (f : Fib) (g : LwRun → LwRun) : (s.setLw f g).out = s.out := rfl
@[simp] theorem State.setLw_lane (s : State) (f : Fib) (g : LwRun → LwRun) : (s.setLw f g).lane = s.lane := rfl
@[simp] theorem State.setLw_grp (s : State) (f : Fib) (g : LwRun → LwRun) : (s.setLw f g).grp = s.grp := rfl
@[simp] theorem State.setLw_link (s : State) (f : Fib) (g : LwRun → LwRun) : (s.setLw f g).link = s.link := rfl
@[simp] theorem State.setLw_cmd (s : State) (f : Fib) (g : LwRun → LwRun) : (s.setLw f g).cmd = s.cmd := rfl
@[simp] theorem State.setLw_mgmt (s : State) (f : Fib) (g : LwRun → LwRun) : (s.setLw f g).mgmt = s.mgmt := rfl
@[simp] theorem State.setLw_scrub (s : State) (f : Fib) (g : LwRun → LwRun) : (s.setLw f g).scrub = s.scrub := rfl
@[simp] theorem State.setLw_pwr (s : State) (f : Fib) (g : LwRun → LwRun) : (s.setLw f g).pwr = s.pwr := rfl
@[simp] theorem State.setLw_bril (s : State) (f : Fib) (g : LwRun → LwRun) : (s.setLw f g).bril = s.bril := rfl
@[simp] theorem State.setLw_cap (s : State) (f : Fib) (g : LwRun → LwRun) : (s.setLw f g).cap = s.cap := rfl
@[simp] theorem State.setLw_hk (s : State) (f : Fib) (g : LwRun → LwRun) : (s.setLw f g).hk = s.hk := rfl
@[simp] theorem State.setLw_dram (s : State) (f : Fib) (g : LwRun → LwRun) : (s.setLw f g).dram = s.dram := rfl
@[simp] theorem State.setLw_tdc (s : State) (f : Fib) (g : LwRun → LwRun) : (s.setLw f g).tdc = s.tdc := rfl
@[simp] theorem State.setLw_cal (s : State) (f : Fib) (g : LwRun → LwRun) : (s.setLw f g).cal = s.cal := rfl
@[simp] theorem State.setLw_emit (s : State) (f : Fib) (g : LwRun → LwRun) : (s.setLw f g).emit = s.emit := rfl
@[simp] theorem State.setLw_pmon (s : State) (f : Fib) (g : LwRun → LwRun) : (s.setLw f g).pmon = s.pmon := rfl
@[simp] theorem State.setLw_get (s : State) (f : Fib) (g : LwRun → LwRun) (x : Fld) : (s.setLw f g).get x = s.get x := rfl
@[simp] theorem State.setLw_on (s : State) (f : Fib) (g : LwRun → LwRun) (x : Fld) : (s.setLw f g).on x = s.on x := rfl
@[simp] theorem State.setPfil_cyc (s : State) (f : Fib) (g : PfilRun → PfilRun) : (s.setPfil f g).cyc = s.cyc := rfl
@[simp] theorem State.setPfil_freeCtr (s : State) (f : Fib) (g : PfilRun → PfilRun) : (s.setPfil f g).freeCtr = s.freeCtr := rfl
@[simp] theorem State.setPfil_raised (s : State) (f : Fib) (g : PfilRun → PfilRun) : (s.setPfil f g).raised = s.raised := rfl
@[simp] theorem State.setPfil_pending (s : State) (f : Fib) (g : PfilRun → PfilRun) : (s.setPfil f g).pending = s.pending := rfl
@[simp] theorem State.setPfil_regs (s : State) (f : Fib) (g : PfilRun → PfilRun) : (s.setPfil f g).regs = s.regs := rfl
@[simp] theorem State.setPfil_mem (s : State) (f : Fib) (g : PfilRun → PfilRun) : (s.setPfil f g).mem = s.mem := rfl
@[simp] theorem State.setPfil_ecc (s : State) (f : Fib) (g : PfilRun → PfilRun) : (s.setPfil f g).ecc = s.ecc := rfl
@[simp] theorem State.setPfil_flash (s : State) (f : Fib) (g : PfilRun → PfilRun) : (s.setPfil f g).flash = s.flash := rfl
@[simp] theorem State.setPfil_trk (s : State) (f : Fib) (g : PfilRun → PfilRun) : (s.setPfil f g).trk = s.trk := rfl
@[simp] theorem State.setPfil_seq (s : State) (f : Fib) (g : PfilRun → PfilRun) : (s.setPfil f g).seq = s.seq := rfl
@[simp] theorem State.setPfil_rxf (s : State) (f : Fib) (g : PfilRun → PfilRun) : (s.setPfil f g).rxf = s.rxf := rfl
@[simp] theorem State.setPfil_prism (s : State) (f : Fib) (g : PfilRun → PfilRun) : (s.setPfil f g).prism = s.prism := rfl
@[simp] theorem State.setPfil_land (s : State) (f : Fib) (g : PfilRun → PfilRun) : (s.setPfil f g).land = s.land := rfl
@[simp] theorem State.setPfil_eng (s : State) (f : Fib) (g : PfilRun → PfilRun) : (s.setPfil f g).eng = s.eng := rfl
@[simp] theorem State.setPfil_out (s : State) (f : Fib) (g : PfilRun → PfilRun) : (s.setPfil f g).out = s.out := rfl
@[simp] theorem State.setPfil_lane (s : State) (f : Fib) (g : PfilRun → PfilRun) : (s.setPfil f g).lane = s.lane := rfl
@[simp] theorem State.setPfil_grp (s : State) (f : Fib) (g : PfilRun → PfilRun) : (s.setPfil f g).grp = s.grp := rfl
@[simp] theorem State.setPfil_link (s : State) (f : Fib) (g : PfilRun → PfilRun) : (s.setPfil f g).link = s.link := rfl
@[simp] theorem State.setPfil_cmd (s : State) (f : Fib) (g : PfilRun → PfilRun) : (s.setPfil f g).cmd = s.cmd := rfl
@[simp] theorem State.setPfil_mgmt (s : State) (f : Fib) (g : PfilRun → PfilRun) : (s.setPfil f g).mgmt = s.mgmt := rfl
@[simp] theorem State.setPfil_scrub (s : State) (f : Fib) (g : PfilRun → PfilRun) : (s.setPfil f g).scrub = s.scrub := rfl
@[simp] theorem State.setPfil_pwr (s : State) (f : Fib) (g : PfilRun → PfilRun) : (s.setPfil f g).pwr = s.pwr := rfl
@[simp] theorem State.setPfil_bril (s : State) (f : Fib) (g : PfilRun → PfilRun) : (s.setPfil f g).bril = s.bril := rfl
@[simp] theorem State.setPfil_lw (s : State) (f : Fib) (g : PfilRun → PfilRun) : (s.setPfil f g).lw = s.lw := rfl
@[simp] theorem State.setPfil_cap (s : State) (f : Fib) (g : PfilRun → PfilRun) : (s.setPfil f g).cap = s.cap := rfl
@[simp] theorem State.setPfil_hk (s : State) (f : Fib) (g : PfilRun → PfilRun) : (s.setPfil f g).hk = s.hk := rfl
@[simp] theorem State.setPfil_dram (s : State) (f : Fib) (g : PfilRun → PfilRun) : (s.setPfil f g).dram = s.dram := rfl
@[simp] theorem State.setPfil_tdc (s : State) (f : Fib) (g : PfilRun → PfilRun) : (s.setPfil f g).tdc = s.tdc := rfl
@[simp] theorem State.setPfil_cal (s : State) (f : Fib) (g : PfilRun → PfilRun) : (s.setPfil f g).cal = s.cal := rfl
@[simp] theorem State.setPfil_emit (s : State) (f : Fib) (g : PfilRun → PfilRun) : (s.setPfil f g).emit = s.emit := rfl
@[simp] theorem State.setPfil_pmon (s : State) (f : Fib) (g : PfilRun → PfilRun) : (s.setPfil f g).pmon = s.pmon := rfl
@[simp] theorem State.setPfil_get (s : State) (f : Fib) (g : PfilRun → PfilRun) (x : Fld) : (s.setPfil f g).get x = s.get x := rfl
@[simp] theorem State.setPfil_on (s : State) (f : Fib) (g : PfilRun → PfilRun) (x : Fld) : (s.setPfil f g).on x = s.on x := rfl
@[simp] theorem State.setEng_cyc (s : State) (k : Fin 16) (g : Engine → Engine) : (s.setEng k g).cyc = s.cyc := rfl
@[simp] theorem State.setEng_freeCtr (s : State) (k : Fin 16) (g : Engine → Engine) : (s.setEng k g).freeCtr = s.freeCtr := rfl
@[simp] theorem State.setEng_raised (s : State) (k : Fin 16) (g : Engine → Engine) : (s.setEng k g).raised = s.raised := rfl
@[simp] theorem State.setEng_pending (s : State) (k : Fin 16) (g : Engine → Engine) : (s.setEng k g).pending = s.pending := rfl
@[simp] theorem State.setEng_regs (s : State) (k : Fin 16) (g : Engine → Engine) : (s.setEng k g).regs = s.regs := rfl
@[simp] theorem State.setEng_mem (s : State) (k : Fin 16) (g : Engine → Engine) : (s.setEng k g).mem = s.mem := rfl
@[simp] theorem State.setEng_ecc (s : State) (k : Fin 16) (g : Engine → Engine) : (s.setEng k g).ecc = s.ecc := rfl
@[simp] theorem State.setEng_flash (s : State) (k : Fin 16) (g : Engine → Engine) : (s.setEng k g).flash = s.flash := rfl
@[simp] theorem State.setEng_trk (s : State) (k : Fin 16) (g : Engine → Engine) : (s.setEng k g).trk = s.trk := rfl
@[simp] theorem State.setEng_seq (s : State) (k : Fin 16) (g : Engine → Engine) : (s.setEng k g).seq = s.seq := rfl
@[simp] theorem State.setEng_rxf (s : State) (k : Fin 16) (g : Engine → Engine) : (s.setEng k g).rxf = s.rxf := rfl
@[simp] theorem State.setEng_prism (s : State) (k : Fin 16) (g : Engine → Engine) : (s.setEng k g).prism = s.prism := rfl
@[simp] theorem State.setEng_land (s : State) (k : Fin 16) (g : Engine → Engine) : (s.setEng k g).land = s.land := rfl
@[simp] theorem State.setEng_pfil (s : State) (k : Fin 16) (g : Engine → Engine) : (s.setEng k g).pfil = s.pfil := rfl
@[simp] theorem State.setEng_out (s : State) (k : Fin 16) (g : Engine → Engine) : (s.setEng k g).out = s.out := rfl
@[simp] theorem State.setEng_lane (s : State) (k : Fin 16) (g : Engine → Engine) : (s.setEng k g).lane = s.lane := rfl
@[simp] theorem State.setEng_grp (s : State) (k : Fin 16) (g : Engine → Engine) : (s.setEng k g).grp = s.grp := rfl
@[simp] theorem State.setEng_link (s : State) (k : Fin 16) (g : Engine → Engine) : (s.setEng k g).link = s.link := rfl
@[simp] theorem State.setEng_cmd (s : State) (k : Fin 16) (g : Engine → Engine) : (s.setEng k g).cmd = s.cmd := rfl
@[simp] theorem State.setEng_mgmt (s : State) (k : Fin 16) (g : Engine → Engine) : (s.setEng k g).mgmt = s.mgmt := rfl
@[simp] theorem State.setEng_scrub (s : State) (k : Fin 16) (g : Engine → Engine) : (s.setEng k g).scrub = s.scrub := rfl
@[simp] theorem State.setEng_pwr (s : State) (k : Fin 16) (g : Engine → Engine) : (s.setEng k g).pwr = s.pwr := rfl
@[simp] theorem State.setEng_bril (s : State) (k : Fin 16) (g : Engine → Engine) : (s.setEng k g).bril = s.bril := rfl
@[simp] theorem State.setEng_lw (s : State) (k : Fin 16) (g : Engine → Engine) : (s.setEng k g).lw = s.lw := rfl
@[simp] theorem State.setEng_cap (s : State) (k : Fin 16) (g : Engine → Engine) : (s.setEng k g).cap = s.cap := rfl
@[simp] theorem State.setEng_hk (s : State) (k : Fin 16) (g : Engine → Engine) : (s.setEng k g).hk = s.hk := rfl
@[simp] theorem State.setEng_dram (s : State) (k : Fin 16) (g : Engine → Engine) : (s.setEng k g).dram = s.dram := rfl
@[simp] theorem State.setEng_tdc (s : State) (k : Fin 16) (g : Engine → Engine) : (s.setEng k g).tdc = s.tdc := rfl
@[simp] theorem State.setEng_cal (s : State) (k : Fin 16) (g : Engine → Engine) : (s.setEng k g).cal = s.cal := rfl
@[simp] theorem State.setEng_emit (s : State) (k : Fin 16) (g : Engine → Engine) : (s.setEng k g).emit = s.emit := rfl
@[simp] theorem State.setEng_pmon (s : State) (k : Fin 16) (g : Engine → Engine) : (s.setEng k g).pmon = s.pmon := rfl
@[simp] theorem State.setEng_get (s : State) (k : Fin 16) (g : Engine → Engine) (x : Fld) : (s.setEng k g).get x = s.get x := rfl
@[simp] theorem State.setEng_on (s : State) (k : Fin 16) (g : Engine → Engine) (x : Fld) : (s.setEng k g).on x = s.on x := rfl

end Sys2Proof.Machine
end

