-- ==== Sys2Proof/Laws/Operands.lean ====
section
/-! SUPPORT. What executing an opcode does: judging it when the device is ready, and the one reply. -/

namespace Sys2Proof.Machine
open Reg

theorem SameRegs.refl (fs : List Fld) (s : State) : SameRegs fs s s := fun _ _ => rfl
theorem SameRegs.trans {fs : List Fld} {s t u : State} (h : SameRegs fs s t) (k : SameRegs fs t u) : SameRegs fs s u :=
  fun g hg => (k g hg).trans (h g hg)
theorem SameRegs.mono {fs gs : List Fld} {s t : State} (h : SameRegs fs s t) (hs : fs ⊆ gs) : SameRegs gs s t :=
  fun g hg => h g fun hm => hg (List.map_subset _ hs hm)
theorem SameRegs.set {fs : List Fld} {s t : State} (h : SameRegs fs s t) {f : Fld} (hf : f ∈ fs) (v : Nat) :
    SameRegs fs s (t.set f v) := fun g hg => by
  have hk : g.key ≠ f.key := fun he => hg (he ▸ List.mem_map_of_mem hf)
  rw [State.get_set_ne t hk, h g hg]
theorem SameRegs.of_regs {fs : List Fld} {s t u : State} (h : SameRegs fs s t) (hr : u.regs = t.regs) : SameRegs fs s u :=
  fun g hg => by rw [← h g hg, State.get, State.get, hr]

/-- A parameter word is below 2^32. -/
theorem words_lt (c : CmdIn) {w : Nat} (h : w ∈ c.words) : w < 2 ^ 32 := by
  obtain ⟨v, _, rfl⟩ := List.mem_map.1 h
  exact v.isLt
theorem and_full {w : Nat} (h : w < 2 ^ 32) : w &&& full = w := by
  have : full = 2 ^ 32 - 1 := rfl
  rw [this, Nat.and_two_pow_sub_one_eq_mod, Nat.mod_eq_of_lt h]

/-- An opcode of a ready device whose parameters have the right form is judged by its own body. -/
theorem judge_ready {op blk : Nat} {masks : List Nat → List Nat} {body : State → List Nat → CmdRes} {c : CmdIn} {s : State}
    (hr : Ready blk s) (hm : paramsOk (masks c.words) c.words = true) : s.judge op blk masks body c = body s c.words := by
  obtain ⟨h1, h2, h3⟩ := hr
  have hm' : paramsOk (masks (c.ps.map (·.toNat))) (c.ps.map (·.toNat)) = true := hm
  simp [State.judge, State.refusal, h1, h2, h3, hm']
  rfl

theorem deliver_regs (s : State) (src : CmdSrc) (tag : Nat) (b : List Byte) : (s.deliver src tag b).regs = s.regs := by
  cases src with
  | spi => simp only [State.deliver]; split <;> rfl
  | inband g d => rfl
theorem deliver_spi (s : State) (tag : Nat) (b : List Byte) :
    (s.deliver .spi tag b).cmd.replies ++ (s.deliver .spi tag b).cmd.waiting = s.cmd.replies ++ s.cmd.waiting ++ [b] := by
  simp only [State.deliver]
  by_cases h : (s.cmd.waiting.isEmpty && s.spiRoom b.length) = true
  · have hw : s.cmd.waiting = [] := by
      rw [Bool.and_eq_true] at h
      exact List.isEmpty_iff.1 h.1
    rw [if_pos h]
    simp [hw]
  · rw [if_neg h]
    simp
theorem retire_regs (s : State) (src : CmdSrc) (op tag : Nat) : (s.retire src op tag).regs = s.regs := by
  simp only [State.retire]
  split
  · split <;> rfl
  · rfl
theorem retire_out (s : State) (src : CmdSrc) (op tag : Nat) : (s.retire src op tag).out = s.out := by
  simp only [State.retire]
  split
  · split <;> rfl
  · rfl
theorem retire_replies (s : State) (src : CmdSrc) (op tag : Nat) : (s.retire src op tag).cmd.replies = s.cmd.replies := by
  simp only [State.retire]
  split
  · split <;> rfl
  · rfl
theorem retire_waiting (s : State) (src : CmdSrc) (op tag : Nat) : (s.retire src op tag).cmd.waiting = s.cmd.waiting := by
  simp only [State.retire]
  split
  · split <;> rfl
  · rfl

/-- Everything an answer does: CMD_LAST, one reply to its source, and the queue entry freed. -/
theorem answer_spec (s : State) (c : CmdIn) {op st : Nat} (owner : Nat) (data : List Nat) (hop : op < 256) (hst : st < 256) :
    let t := (s.answer c.src op st c.tag.toNat owner data).retire c.src op c.tag.toNat
    Replied op st data owner c s t ∧ SameRegs lastF s t ∧ t = repliedOnly s t := by
  intro t
  have hr : t.regs = (((s.set CMD_LAST_OPCODE op).set CMD_LAST_STATUS st).set CMD_LAST_TAG c.tag.toNat).regs := by
    simp only [t, retire_regs, State.answer, deliver_regs]
  have hg : ∀ g : Fld, t.get g = (((s.set CMD_LAST_OPCODE op).set CMD_LAST_STATUS st).set CMD_LAST_TAG c.tag.toNat).get g :=
    fun g => by rw [State.get, hr]; rfl
  have htag : c.tag.toNat < 2 ^ 16 := c.tag.isLt
  refine ⟨⟨?_, ?_, ?_, ?_⟩, ?_, ?_⟩
  · rw [hg]; simp [State.get_set, CMD_LAST_OPCODE, CMD_LAST_STATUS, CMD_LAST_TAG, key, Nat.mod_eq_of_lt hop]
  · rw [hg]; simp [State.get_set, CMD_LAST_STATUS, CMD_LAST_TAG, key, Nat.mod_eq_of_lt hst]
  · rw [hg]; simpa [CMD_LAST_TAG] using Nat.mod_eq_of_lt htag
  · simp only [t, retire_replies, retire_waiting, retire_out, State.answer]
    cases c.src with
    | spi => exact deliver_spi _ _ _
    | inband g d => rfl
  · have h0 : SameRegs lastF s (((s.set CMD_LAST_OPCODE op).set CMD_LAST_STATUS st).set CMD_LAST_TAG c.tag.toNat) :=
      (((SameRegs.refl lastF s).set (by simp [lastF]) op).set (by simp [lastF]) st).set (by simp [lastF]) _
    exact h0.of_regs hr
  · simp only [t, State.retire, State.answer, State.deliver, repliedOnly]
    cases c.src with
    | spi => (repeat' split) <;> rfl
    | inband g d => (repeat' split) <;> rfl

/-- Everything an opcode that is not refused does beside its own effect. -/
theorem runCmd_done {op blk st : Nat} {masks : List Nat → List Nat} {body : State → List Nat → CmdRes} {c : CmdIn}
    {s s' : State} {d : List Nat} (h : s.judge op blk masks body c = .done st d s') (hop : op < 256) (hst : st < 256) :
    Replied op st d 0 c s' (runCmd op blk masks body c s) ∧ SameRegs lastF s' (runCmd op blk masks body c s)
      ∧ runCmd op blk masks body c s = repliedOnly s' (runCmd op blk masks body c s) := by
  simp only [runCmd, h]
  exact answer_spec s' c 0 d hop hst

end Sys2Proof.Machine
end

