-- ==== Sys2Proof/Laws/Sound.lean ====
section
/-! SUPPORT. The shared operations keep the canonical forms and the queue: one lemma for each operation over registers,
memory, error marks, the log, the flash, the reply path and the power domains. -/

namespace Sys2Proof.Machine
open Reg

/-- From a sound state a sound state, and the same commands wait. -/
def Keeps (s t : State) : Prop := (s.wf = true → t.wf = true) ∧ t.pending = s.pending

theorem State.wf_iff (s : State) :
    s.wf = true ↔ kwf s.regs = true ∧ kwf s.mem = true ∧ kwf s.ecc = true ∧ Memory.flashWf s.flash = true := by
  simp [State.wf, Memory.wf, and_assoc]
/-- What a step of the machine must keep, store by store. -/
theorem Keeps.of {s t : State} (hr : kwf s.regs = true → kwf t.regs = true) (hm : kwf s.mem = true → kwf t.mem = true)
    (he : kwf s.ecc = true → kwf t.ecc = true) (hf : Memory.flashWf s.flash = true → Memory.flashWf t.flash = true)
    (hp : t.pending = s.pending) : Keeps s t :=
  ⟨fun h => by rw [State.wf_iff] at *; exact ⟨hr h.1, hm h.2.1, he h.2.2.1, hf h.2.2.2⟩, hp⟩
/-- The stores and the queue are the same: whatever else differs, the state is as sound. -/
theorem Keeps.of_eq {s t : State} (hr : t.regs = s.regs) (hm : t.mem = s.mem) (he : t.ecc = s.ecc) (hf : t.flash = s.flash)
    (hp : t.pending = s.pending) : Keeps s t :=
  Keeps.of (fun h => hr ▸ h) (fun h => hm ▸ h) (fun h => he ▸ h) (fun h => hf ▸ h) hp
theorem Keeps.refl (s : State) : Keeps s s := ⟨id, rfl⟩
theorem Keeps.trans {s t u : State} (h : Keeps s t) (k : Keeps t u) : Keeps s u := ⟨fun x => k.1 (h.1 x), k.2.trans h.2⟩
/-- After a kept state, a change of anything but the stores and the queue. -/
theorem Keeps.same {s t u : State} (h : Keeps s t) (hr : u.regs = t.regs) (hm : u.mem = t.mem) (he : u.ecc = t.ecc)
    (hf : u.flash = t.flash) (hp : u.pending = t.pending) : Keeps s u := h.trans (Keeps.of_eq hr hm he hf hp)
theorem Keeps.ite {s a b : State} {p : Prop} [Decidable p] (h : Keeps s a) (k : Keeps s b) : Keeps s (if p then a else b) := by
  split
  · exact h
  · exact k
/-- A fold of kept changes. -/
theorem Keeps.foldl {α : Type} {s t : State} {g : State → α → State} (hg : ∀ u a, Keeps u (g u a)) (l : List α) (h : Keeps s t) :
    Keeps s (l.foldl g t) := by
  induction l generalizing t with
  | nil => exact h
  | cons a l ih => exact ih (h.trans (hg t a))
/-- A fold that carries a state beside something else. -/
theorem Keeps.foldl_snd {α β : Type} {s : State} {g : β × State → α → β × State} (hg : ∀ p a, Keeps p.2 (g p a).2) (l : List α) {p : β × State}
    (h : Keeps s p.2) : Keeps s (l.foldl g p).2 := by
  induction l generalizing p with
  | nil => exact h
  | cons a l ih => exact ih (h.trans (hg p a))

/-! ### Register fields -/

theorem Keeps.set {s t : State} (h : Keeps s t) (f : Fld) (v : Nat) : Keeps s (t.set f v) :=
  h.trans (Keeps.of (fun x => kput_wf _ _ x) id id id rfl)
theorem Keeps.setB {s t : State} (h : Keeps s t) (f : Fld) (b : Bool) : Keeps s (t.setB f b) := h.set f _
theorem Keeps.orBits {s t : State} (h : Keeps s t) (f : Fld) (m : Nat) : Keeps s (t.orBits f m) := h.set f _
theorem Keeps.raise {s t : State} (h : Keeps s t) (f : Fld) (m : Nat) : Keeps s (t.raise f m) :=
  (h.orBits f m).same rfl rfl rfl rfl rfl
theorem Keeps.clearBits {s t : State} (h : Keeps s t) (f : Fld) (m : Nat) : Keeps s (t.clearBits f m) := h.set f _
theorem Keeps.incBy {s t : State} (h : Keeps s t) (f : Fld) (n : Nat) : Keeps s (t.incBy f n) := h.set f _
theorem Keeps.inc {s t : State} (h : Keeps s t) (f : Fld) : Keeps s (t.inc f) := h.set f _
theorem Keeps.zero {s t : State} (h : Keeps s t) (fs : List Fld) : Keeps s (t.zero fs) :=
  h.foldl (fun u f => (Keeps.refl u).set f 0) fs
theorem Keeps.clearRegs {s t : State} (h : Keeps s t) (b lo hi : Nat) : Keeps s (t.clearRegs b lo hi) :=
  h.trans (Keeps.of (fun x => kclear_wf _ _ x) id id id rfl)
theorem Keeps.clearBlock {s t : State} (h : Keeps s t) (b : Nat) : Keeps s (t.clearBlock b) := h.clearRegs b _ _

/-! ### Memory, error marks and the log -/

theorem Keeps.putMem {s t : State} (h : Keeps s t) (a : Nat) (bs : List Byte) : Keeps s { t with mem := putBytes a bs t.mem } :=
  h.trans (Keeps.of id (fun x => putBytes_wf _ _ x) id id rfl)
theorem Keeps.draw {s t : State} (h : Keeps s t) : Keeps s t.draw.2 := h.same rfl rfl rfl rfl rfl
theorem Keeps.postBulk {s t : State} (h : Keeps s t) (b : Bulk) : Keeps s (t.postBulk b) := h.same rfl rfl rfl rfl rfl
theorem Keeps.lifeAdd {s t : State} (h : Keeps s t) (w n : Nat) : Keeps s (t.lifeAdd w n) := h.same rfl rfl rfl rfl rfl
theorem Keeps.rptFree {s t : State} (h : Keeps s t) (a : Nat) : Keeps s (t.rptFree a) := by
  unfold State.rptFree
  split
  · exact ((h.set _ _).set _ _).set _ _
  · exact h
theorem Keeps.writeRange {s t : State} (h : Keeps s t) (a : Nat) (bs : List Byte) : Keeps s (t.writeRange a bs) := by
  unfold State.writeRange
  refine Keeps.foldl (fun u i => ?_) _ (h.trans (Keeps.of id (fun x => putBytes_wf _ _ x) (fun x => kclear_wf _ _ x) id rfl))
  split
  · exact (Keeps.refl u).rptFree _
  · exact Keeps.refl u
theorem Keeps.logEnter {s t : State} (h : Keeps s t) (ws : List Nat) (sev : Nat) : Keeps s (t.logEnter ws sev) := by
  unfold State.logEnter
  extract_lets n s1 s2 src s3
  have h1 : Keeps s s1 := Keeps.set (Keeps.ite (h.raise _ _) h) _ _
  clear_value s1
  have h2 : Keeps s s2 := h1.writeRange _ _
  clear_value s2
  have h3 : Keeps s s3 := Keeps.ite (h2.same rfl rfl rfl rfl rfl) h2
  clear_value s3
  exact Keeps.ite (h3.postBulk _) h3
theorem Keeps.logEvent {s t : State} (h : Keeps s t) (code sev p0 p1 : Nat) : Keeps s (t.logEvent code sev p0 p1) := by
  unfold State.logEvent
  split
  · exact h.same rfl rfl rfl rfl rfl
  · exact h.logEnter _ _
theorem Keeps.dataAbort {s t : State} (h : Keeps s t) (m : Master) (a : Nat) : Keeps s (t.dataAbort m a) :=
  Keeps.ite (h.same rfl rfl rfl rfl rfl) h
theorem Keeps.addrErr {s t : State} (h : Keeps s t) (m : Master) (a : Nat) : Keeps s (t.addrErr m a) := by
  unfold State.addrErr
  refine (Keeps.logEvent ?_ _ _ _ _).dataAbort _ _
  split
  · exact h.raise _ _
  · exact (((h.set _ _).set _ _).set _ _).raise _ _
theorem Keeps.integrity {s t : State} (h : Keeps s t) (kind mid a n : Nat) : Keeps s (t.integrity kind mid a n) := by
  unfold State.integrity
  split
  · exact h.postBulk _
  · exact h
theorem Keeps.pmonCopy {s t : State} (h : Keeps s t) (k : Fin 8) : Keeps s (t.pmonCopy k) := ((h.set _ _).set _ _).setB _ _
theorem Keeps.pmonBump {s t : State} (h : Keeps s t) (k : Fin 8) (n : Nat) : Keeps s (t.pmonBump k n) := by
  unfold State.pmonBump
  extract_lets v old src run u
  have h1 : Keeps s src := Keeps.ite (h.raise _ _) h
  have h2 : Keeps s u := h1.same rfl rfl rfl rfl rfl
  exact Keeps.ite (h2.pmonCopy k) h2
theorem Keeps.pmonAdd {s t : State} (h : Keeps s t) (ev n mid : Nat) : Keeps s (t.pmonAdd ev n mid) := by
  unfold State.pmonAdd
  split
  · refine h.foldl (fun u k => ?_) _
    split
    · exact (Keeps.refl u).pmonBump _ _
    · exact Keeps.refl u
  · exact h
theorem Keeps.pmonIo {s t : State} (h : Keeps s t) (m : Master) (w : Bool) (n : Nat) : Keeps s (t.pmonIo m w n) := by
  unfold State.pmonIo
  split
  · exact h
  · exact h
  · split
    · exact h
    · exact (h.pmonAdd _ _ _).pmonAdd _ _ _

/-! ### Words of on-chip memory and of DRAM -/

theorem Keeps.peekWord {s t : State} (h : Keeps s t) (a : Nat) : Keeps s (t.peekWord a).2 := by
  unfold State.peekWord
  extract_lets e
  split
  · exact h
  · exact h.same rfl rfl rfl rfl rfl
theorem Keeps.rptSet {s t : State} (h : Keeps s t) (i a : Nat) : Keeps s (t.rptSet i a) :=
  ((((h.set _ _).set _ _).set _ _).set _ _).set _ _
theorem Keeps.rptApply {s t : State} (h : Keeps s t) (m : Master) (a : Nat) : Keeps s (t.rptApply m a) := by
  have key : ∀ (i : Nat) (u : State), Keeps s u →
      Keeps s (if (decide (u.get SCRUB_REPEAT_LIM_LIM ≤ u.get (SCRUB_RPTi_INFO_COUNT i)) && !u.on (SCRUB_RPTi_INFO_PERS i)) = true then
        ((((u.set (SCRUB_RPTi_INFO_PERS i) 1).raise SCRUB_FLAGS_PERSISTENT 1).logEvent 0x0D01 2 (lo32 a) (u.get (SCRUB_RPTi_INFO_COUNT i))).lifeAdd 45 1).integrity
          2 m.id a (u.get (SCRUB_RPTi_INFO_COUNT i)) else u) := fun i u hu =>
    Keeps.ite (((((hu.set _ _).raise _ _).logEvent _ _ _ _).lifeAdd _ _).integrity _ _ _ _) hu
  unfold State.rptApply
  cases firstIdx 16 (fun i => t.on (SCRUB_RPTi_INFO_VALID i) && t.rptAddr i == a) with
  | some i => exact key i _ (h.inc _)
  | none =>
    cases firstIdx 16 (fun i => !t.on (SCRUB_RPTi_INFO_VALID i)) with
    | some i => exact key i _ (h.rptSet _ _)
    | none => exact key _ _ (((h.inc _).raise _ _).rptSet _ _)
theorem Keeps.correction {s t : State} (h : Keeps s t) (m : Master) (a : Nat) (tb : Bool) : Keeps s (t.correction m a tb) := by
  unfold State.correction
  refine Keeps.ite h ?_
  extract_lets s1 src src2 s2
  have h1 : Keeps s s1 := (((h.inc _).raise _ _).lifeAdd _ _).pmonAdd _ _ _
  clear_value s1
  have h2 : Keeps s s2 := Keeps.ite h1 ((((h1.set _ _).set _ _).set _ _).same rfl rfl rfl rfl rfl)
  clear_value s2
  exact Keeps.ite (h2.rptApply _ _) h2
theorem Keeps.uncorrectable {s t : State} (h : Keeps s t) (m : Master) (a : Nat) : Keeps s (t.uncorrectable m a) := by
  unfold State.uncorrectable
  extract_lets s1 src src2 s2
  have h1 : Keeps s s1 := Keeps.ite h ((h.inc _).raise _ _)
  clear_value s1
  have h2 : Keeps s s2 := Keeps.ite h1 ((((h1.set _ _).set _ _).set _ _).same rfl rfl rfl rfl rfl)
  clear_value s2
  exact (h2.lifeAdd _ _).logEvent _ _ _ _
theorem putRow_wf (blk off v : Nat) {m : KMap Nat} (h : kwf m = true) : kwf (putRow blk off v m) = true := by
  have : ∀ (l : List Row) (m : KMap Nat), kwf m = true →
      kwf (l.foldl (fun (m : KMap Nat) (r : Row) => kput (key blk off r.lo) (v / 2 ^ r.lo % 2 ^ r.w) m) m) = true := by
    intro l
    induction l with
    | nil => intro m hm; exact hm
    | cons r l ih => intro m hm; exact ih _ (kput_wf _ _ hm)
  exact this _ _ h
theorem Keeps.storeWord {s t : State} (h : Keeps s t) (a v : Nat) (bad : Option Bool) : Keeps s (t.storeWord a v bad) := by
  unfold State.storeWord
  extract_lets s1
  have h1 : Keeps s s1 := by
    refine h.trans ?_
    simp only [s1]
    cases regionOf a <;> first
      | exact Keeps.refl t
      | exact Keeps.of id (fun x => putBytes_wf _ _ x) id id rfl
      | exact Keeps.of (fun x => putRow_wf _ _ _ (putRow_wf _ _ _ x)) id id id rfl
  clear_value s1
  refine Keeps.rptFree (h1.trans ?_) _
  cases bad with
  | none => exact Keeps.of id id (fun x => kdel_wf _ x) id rfl
  | some u => exact Keeps.of id id (fun x => kput_wf _ _ x) id rfl
theorem Keeps.writeWord {s t : State} (h : Keeps s t) (a v : Nat) : Keeps s (t.writeWord a v) := h.storeWord a v none
theorem Keeps.mergeNarrow {s t : State} (h : Keeps s t) (m : Master) (a n v : Nat) : Keeps s (t.mergeNarrow m a n v) := by
  unfold State.mergeNarrow
  extract_lets w
  have h1 := h.peekWord w
  revert h1
  cases t.peekWord w with
  | mk p u =>
    obtain ⟨old, e⟩ := p
    intro h1
    cases e with
    | ok => exact Keeps.storeWord h1 _ _ _
    | ce => exact (Keeps.correction h1 _ _ _).storeWord _ _ _
    | ue => exact ((Keeps.uncorrectable h1 _ _).dataAbort _ _).storeWord _ _ _
theorem Keeps.setComb {s t : State} (h : Keeps s t) (m : Master) (c : Option Held32) : Keeps s (t.setComb m c) := by
  unfold State.setComb
  cases m <;> exact h.same rfl rfl rfl rfl rfl
theorem Keeps.release {s t : State} (h : Keeps s t) (m : Master) : Keeps s (t.release m) := by
  unfold State.release
  split
  · exact (h.setComb _ _).mergeNarrow _ _ _ _
  · exact h
theorem Keeps.releaseFor {s t : State} (h : Keeps s t) (w : Nat) : Keeps s (t.releaseFor w) := by
  have key : ∀ (m : Master) (u : State), Keeps s u →
      Keeps s (match u.comb m with | some c => if (c.addr == w) = true then u.release m else u | none => u) := by
    intro m u hu
    split
    · exact Keeps.ite (hu.release _) hu
    · exact hu
  exact key _ _ (key _ _ h)
theorem Keeps.writeNarrow {s t : State} (h : Keeps s t) (m : Master) (a n v : Nat) : Keeps s (t.writeNarrow m a n v) :=
  (h.releaseFor _).mergeNarrow _ _ _ _
theorem Keeps.useMem {s t : State} (h : Keeps s t) (m : Master) (a : Nat) : Keeps s (t.useMem m a) := h.same rfl rfl rfl rfl rfl
theorem Keeps.write32 {s t : State} (h : Keeps s t) (m : Master) (a v : Nat) : Keeps s (t.write32 m a v) := by
  unfold State.write32
  extract_lets s1
  have h1 : Keeps s s1 := (h.pmonIo _ _ _).useMem _ _
  clear_value s1
  refine Keeps.ite ((h1.release _).setComb _ _) ?_
  split
  · refine Keeps.ite ?_ ((h1.release _).writeNarrow _ _ _ _)
    exact Keeps.ite (((h1.setComb _ _).set _ _).storeWord _ _ _) ((h1.setComb _ _).writeWord _ _)
  · exact h1.writeNarrow _ _ _ _
theorem Keeps.readWord {s t : State} (h : Keeps s t) (m : Master) (a : Nat) : Keeps s (t.readWord m a).2 := by
  have h1 := ((((h.pmonIo m false 8).useMem m a).releaseFor a).peekWord a)
  unfold State.readWord
  revert h1
  cases (((t.pmonIo m false 8).useMem m a).releaseFor a).peekWord a with
  | mk p u =>
    obtain ⟨v, e⟩ := p
    intro h1
    cases e with
    | ok => exact h1
    | ce => exact Keeps.correction h1 _ _ _
    | ue => exact (Keeps.uncorrectable h1 _ _).dataAbort _ _
theorem Keeps.fillWords {s t : State} (h : Keeps s t) (a n v : Nat) : Keeps s (t.fillWords a n v) := h.writeRange _ _
theorem Keeps.dramCe {s t : State} (h : Keeps s t) (a : Nat) : Keeps s (t.dramCe a) := by
  unfold State.dramCe
  extract_lets c s1
  have h1 : Keeps s s1 := Keeps.ite ((h.set _ _).set _ _) h
  clear_value s1
  exact ((h1.inc _).raise _ _).lifeAdd _ _
theorem Keeps.dramUe {s t : State} (h : Keeps s t) (m : Master) (a : Nat) : Keeps s (t.dramUe m a) := by
  unfold State.dramUe
  extract_lets c s1
  have h1 : Keeps s s1 := Keeps.ite ((h.set _ _).set _ _) h
  clear_value s1
  exact (((h1.inc _).raise _ _).lifeAdd _ _).logEvent _ _ _ _
theorem Keeps.readDram {s t : State} (h : Keeps s t) (m : Master) (a : Nat) : Keeps s (t.readDram m a).2 := by
  have h1 := ((h.pmonIo m false 8).peekWord a)
  unfold State.readDram
  revert h1
  cases (t.pmonIo m false 8).peekWord a with
  | mk p u =>
    obtain ⟨v, e⟩ := p
    intro h1
    cases e with
    | ok => exact h1
    | ce => exact Keeps.dramCe h1 _
    | ue => exact (Keeps.dramUe h1 _ _).dataAbort _ _
theorem Keeps.rewriteDram {s t : State} (h : Keeps s t) (m : Master) (a : Nat) : Keeps s (t.rewriteDram m a) := by
  have h1 := h.peekWord a
  unfold State.rewriteDram
  revert h1
  cases t.peekWord a with
  | mk p u =>
    obtain ⟨v, e⟩ := p
    intro h1
    have h2 := Keeps.putMem h1 a (bytesLE 8 v)
    cases e with
    | ok => exact h2.trans (Keeps.of id id (fun x => kdel_wf _ x) id rfl)
    | ce => exact (h2.dramCe a).trans (Keeps.of id id (fun x => kdel_wf _ x) id rfl)
    | ue => exact (h2.dramUe m a).trans (Keeps.of id id (fun x => kput_wf _ _ x) id rfl)
theorem Keeps.writeDram {s t : State} (h : Keeps s t) (m : Master) (a : Nat) (bs : List Byte) : Keeps s (t.writeDram m a bs) := by
  unfold State.writeDram
  extract_lets n lo part s0 s1
  have h0 : Keeps s s0 := h.pmonIo _ _ _
  clear_value s0
  have h1 : Keeps s s1 := Keeps.ite h0 (h0.foldl (fun u w => (Keeps.refl u).rewriteDram m w) _)
  clear_value s1
  exact h1.trans (Keeps.of id (fun x => putBytes_wf _ _ x) (fun x => kclear_wf _ _ x) id rfl)
theorem Keeps.readMem {s t : State} (h : Keeps s t) (m : Master) (a : Nat) : Keeps s (t.readMem m a).2 := by
  unfold State.readMem
  split
  · exact h.readDram _ _
  · exact h.readWord _ _
theorem Keeps.writeMem {s t : State} (h : Keeps s t) (m : Master) (a : Nat) (bs : List Byte) : Keeps s (t.writeMem m a bs) := by
  unfold State.writeMem
  split
  · exact h.writeDram _ _ _
  · exact ((h.pmonIo _ _ _).useMem _ _).writeRange _ _

/-! ### The flash -/

theorem Keeps.flashPut {s t : State} (h : Keeps s t) (a : Nat) (bs : List Byte) : Keeps s (t.flashPut a bs) :=
  h.trans (Keeps.of id id id (fun x => flashPut_wf t a bs x) rfl)
theorem Keeps.flashErase {s t : State} (h : Keeps s t) (a n : Nat) : Keeps s (t.flashErase a n) :=
  h.trans (Keeps.of id id id (fun x => flashErase_wf t a n x) rfl)
theorem Keeps.flashAppend {s t : State} (h : Keeps s t) (base w n : Nat) (bs : List Byte) : Keeps s (t.flashAppend base w n bs) := by
  unfold State.flashAppend
  extract_lets i s1 k
  have h1 : Keeps s s1 := h.flashPut _ _
  clear_value s1
  exact Keeps.ite (h1.flashErase _ _) h1
/-! ### Opcodes and replies -/

theorem Keeps.deliver {s t : State} (h : Keeps s t) (src : CmdSrc) (tag : Nat) (b : List Byte) : Keeps s (t.deliver src tag b) := by
  unfold State.deliver
  (repeat' split) <;> exact h.same rfl rfl rfl rfl rfl
theorem Keeps.answer {s t : State} (h : Keeps s t) (src : CmdSrc) (op st tag owner : Nat) (d : List Nat) :
    Keeps s (t.answer src op st tag owner d) := (((h.set _ _).set _ _).set _ _).deliver _ _ _
theorem Keeps.retire {s t : State} (h : Keeps s t) (src : CmdSrc) (op tag : Nat) : Keeps s (t.retire src op tag) := by
  unfold State.retire
  (repeat' split) <;> exact h.same rfl rfl rfl rfl rfl
/-- What an answer leaves is as sound as `s`. -/
def CmdRes.Keeps (s : State) (r : CmdRes) : Prop := Machine.Keeps s (r.state s)
/-- An opcode keeps what its own meaning keeps. -/
theorem Keeps.runCmd {op blk : Nat} {masks : List Nat → List Nat} {body : State → List Nat → CmdRes} {c : CmdIn} {s : State}
    (hb : (body s c.words).Keeps s) : Keeps s (runCmd op blk masks body c s) := by
  have h1 : Keeps s ((s.judge op blk masks body c).state s) := by
    unfold State.judge
    dsimp only
    split
    · exact Keeps.refl s
    · exact hb
  exact (h1.answer _ _ _ _ _ _).retire _ _ _

/-! ### Power domains and resets -/

theorem Keeps.onDom {s t u : State} (h : Keeps s t) (k : Keeps s u) (d : Nat) : Keeps s (t.onDom d u) := by
  unfold State.onDom
  split
  · exact k
  · exact h
theorem Keeps.onFab {s t u : State} (h : Keeps s t) (k : Keeps s u) : Keeps s (t.onFab u) := by
  unfold State.onFab
  split
  · exact k
  · exact h
theorem Keeps.domainReset {s t : State} (h : Keeps s t) (d : Nat) : Keeps s (t.domainReset d) := by
  unfold State.domainReset
  extract_lets s1 r
  have h1 : Keeps s s1 := h.foldl (fun u b => (Keeps.refl u).clearBlock b) _
  clear_value s1
  split <;> first
    | exact h1
    | exact h1.same rfl rfl rfl rfl rfl
    | exact h1.trans (Keeps.of id (fun x => filter_wf _ x) (fun x => filter_wf _ x) id rfl)
    | exact h1.trans (Keeps.of id id (fun x => filter_wf _ x) id rfl)
theorem Keeps.domainOff {s t : State} (h : Keeps s t) (d : Nat) : Keeps s (t.domainOff d) := by
  unfold State.domainOff
  extract_lets s1
  have h1 : Keeps s s1 := (h.domainReset d).set _ _
  clear_value s1
  exact Keeps.ite ((((h1.set _ _).set _ _).set _ _).same rfl rfl rfl rfl rfl) (Keeps.ite ((h1.set _ _).set _ _) h1)
theorem Keeps.domainUp {s t : State} (h : Keeps s t) (d : Nat) : Keeps s (t.domainUp d) :=
  Keeps.ite ((h.set _ _).same rfl rfl rfl rfl rfl) (h.set _ _)
theorem Keeps.fullReset {s t : State} (h : Keeps s t) (cause : Nat) : Keeps s (t.fullReset cause) := by
  unfold State.fullReset
  extract_lets por hist src src2 r
  have hc : ∀ {α : Type} (m : KMap α), kwf m = true → kwf (if cause = 5 then m.filter fun e => dramAddr e.1 else []) = true := by
    intro α m hm
    split
    · exact filter_wf _ hm
    · rfl
  have h1 : Keeps s r := h.trans (Keeps.of (fun _ => rfl) (fun x => hc _ x) (fun x => hc _ x) id rfl)
  clear_value r
  exact ((h1.set _ _).set _ _).set _ _
theorem Keeps.wakeUp {s t : State} (h : Keeps s t) (src : Nat) : Keeps s (t.wakeUp src) := by
  unfold State.wakeUp
  extract_lets s1 at_
  have h1 : Keeps s s1 := h.set _ _
  clear_value s1
  have h2 := ((((h1.raise PWR_FLAGS_WAKE 1).set PWR_STATUS_BUSY 1).domainUp 2).domainUp 3).domainUp 5
  exact Keeps.ite ((h1.fullReset _).same rfl rfl rfl rfl rfl) (h2.same rfl rfl rfl rfl rfl)
theorem Keeps.wakeFire {s t : State} (h : Keeps s t) (n : Nat) : Keeps s (t.wakeFire n) :=
  Keeps.ite (Keeps.ite ((h.orBits _ _).set _ _) (h.orBits _ _)) (Keeps.ite ((h.orBits _ _).wakeUp _) (h.orBits _ _))
end Sys2Proof.Machine
end

