-- ==== Sys2Proof/Tests/Bench.lean ====
section
/-! SUPPORT. Small states and commands for the tests and the witnesses: a ready device with a few registers set. -/

namespace Sys2Proof.Tests
open Sys2Proof.Machine Sys2Proof.Machine.Reg

/-- The reset state with register fields set. -/
def regs (l : List (Fld × Nat)) : State := l.foldl (fun s p => s.set p.1 p.2) State.reset
/-- A ready device: phase READY, every domain on, clk_fab running, and register fields set. -/
def up (l : List (Fld × Nat)) : State :=
  regs ([(MGMT_STATUS_PHASE, 4), (PWR_STATUS_DOMAIN_ON, 0x3F), (SYS_CLK_STATUS_FAB_RUN, 1)] ++ l)
/-- A command from the SPI port. -/
def op (ps : List Nat) : CmdIn := ⟨.spi, 0x1234, ps.map (BitVec.ofNat 32)⟩
def setTrkS (s : State) (g : Tracker → Tracker) : State := s.setTrk g

/-! ### Sequencer -/

/-- A fibre of 1 km on the internal reference, one descriptor, one entry on each page, an even schedule that no engine or filter needs. -/
def pageSys (st : Nat) : State :=
  (up [(SEQ_STATUS_STATE 0, st), (SEQ_LEN_LEN 0, 1000), (SEQ_NG_NG 0, 14682), (SEQ_GUARD_GUARD 0, 0), (SEQ_INT_DIV_INT_DIV, 40000),
    (RXF_PCODE_CTRL_TYPE 0 0, 1), (RXF_PCODE_CTRL_AMP 0 0, 100), (RXF_PCODE_LEN_LEN 0 0, 2000), (RXF_PCODE_BW_BW 0 0, 1000),
    (SEQ_FT_EN 0 0 0, 1), (SEQ_FT_EN 0 1 0, 1), (SEQ_PERIOD0_NUM 0, 1), (SEQ_PERIOD1_NUM 0, 2), (SEQ_CTRL_UNEVEN 0, 1),
    (RXF_CTRL_RAY_EN 0, 1), (RXF_CTRL_BRI_EN 0, 0), (RXF_STATUS_RAY_RDY_A, 1), (PRISM_STATUS_GAL_VALID_A, 1),
    (ENG_ASSIGN_SRC 0, 1), (ENG_CTRL_AUTO_SPAN, 1)]).setTrk fun r => { r with model := some ⟨0, 0, 100000⟩ }
/-- A device that waits for an epoch on the internal reference, with SEQ_EPOCH in execution. -/
def epochSys : State :=
  let p : CmdPkt := ⟨.spi, 0x18, 7, [0]⟩
  let s := (up [(SEQ_REF_STATUS_LOCKED, 1)]).setTrk fun r => { r with model := some ⟨0, 0, 100000⟩, epochReq := some false, epochTo := some p }
  { s with cmd := { s.cmd with exec := some p } }
/-- Holdover with four stamps since the return, `d` ns off. -/
def holdSys (d : Rat) : State :=
  (up [(SEQ_REF_CTRL_SRC, 1), (SEQ_REF_STATUS_HOLDOVER, 1), (SEQ_TRACK_WIN_LOG2, 2)]).setTrk fun r => { r with
    model := some ⟨0, 0, 100⟩, back := [(3, 300 + d), (2, 200 + d), (1, 100 + d), (0, d)] }
/-- A running sequencer whose first launch lies `t` ns away. -/
def launchSys (t : Rat) : State :=
  ((up [(SEQ_STATUS_STATE 0, 2), (SEQ_FT_EN 0 0 0, 1)]).setTrk fun r => { r with model := some ⟨0, t, 100000⟩ })

/-! ### Loss watch -/

def setCapS (s : State) (g : CapRun → CapRun) : State := s.setCap g
/-- A shot of fibre A whose position 0 is the present interval, with one trigger. -/
def lwSys (tr : LwTrig) : State :=
  (up [(RXF_STATUS_RAY_RDY_A, 1), (LW_CTRL_EN 0, 1), (SEQ_CONN_DLY_DLY 0, 0)]).setLw 0 fun r => { r with
    cur := some ⟨7, 0, 0, true, false, 0⟩, begun := true, trigs := [tr] }

/-! ### Prism -/

/-- Bytes in memory from an address on. -/
def put (a : Nat) (bs : List Byte) (s : State) : State := { s with mem := putBytes a bs s.mem }
/-- Shot 5 in slot 7, launched at 0 with a code of one chip. -/
def shot5 : Shot := ⟨5, ⟨7, 0, ⟨1, false, 0, 8191, 1, 0, 0, []⟩⟩, ⟨4, false, false, 0⟩⟩
/-- The gallery entries of a position written, shot 5 launched and heard to its end. -/
def galSys (f : Fib) (p : Nat) : State :=
  (put (qualAddr f p) (List.replicate 16 0) (put (refAddr f p 0 0) (List.replicate 16 [0x34, 0x12]).flatten (up [(SEQ_LEN_LEN f, 8000)]))).setRxf f fun r => { r with
    shots := [shot5], wave := [(1000000, Vector.replicate 5 ⟨Vector.replicate 6 0, false, false, 0⟩)] }
/-- Engine 15 on fibre B with the two responses of position 64 of shot 5 at hand. -/
def landSys : State :=
  let s := up [(ENG_ASSIGN_SRC 15, 2), (ENG_DEk_SPAN_LO_FIRST 15, 0), (ENG_DEk_SPAN_HI_LAST 15, 54), (ENG_GAUGE_GAUGE_B, 20), (SEQ_LEN_LEN 1, 1000)]
  let s1 := s.setSq 1 fun q => { q with info := [⟨5, 0, 0, false, true, false⟩] }
  (s1.setPrism 1 fun p => { p with resp := [⟨5, 64, 0, 0xAAAA⟩, ⟨5, 64, 1, 0xBBBB⟩] }).setLand 15 fun l => { l with progress := [(5, 64)] }
/-- Engine 3 on fibre A, running, with one run in its open half. -/
def flushSys : State :=
  { (up [(ENG_ASSIGN_SRC 3, 1), (ENG_DEk_STAT_STATE 3, 1), (PRISM_LAND_FLUSH_CYCLES 0, 4095)]).setLand 3 fun l => { l with
      firstAt := some 0, bytes := 24, runs := 1 } with cyc := 4095 }

/-! ### Position filter -/

/-- A short fibre with a closed row in staging; the corner turn starts at the first byte of DA. -/
def brickSys : State :=
  put (stagingBase 1 + 64) (List.replicate 64 0x5A) ((up [(SEQ_CTRL_UNEVEN 1, 1), (DRAMC_CONFIG_CAP_GIB 0, 4),
    (PFIL_CT_BASE_HI_ADDR 1, 0x80)]).setPfil 1 fun p => { p with run := some 0, closed := 4, brick := 1 })
/-- A fade of 3 samples over a set of three frames. -/
def fadeSys : State :=
  (up [(PFIL_STATUS_FADING 1, 1), (PFIL_FADE_LEN 1, 3), (PFIL_CTRL_K 1, 0)]).setPfil 1 fun p => { p with
    reading := some (1, List.replicate 3 ⟨[], ⟨0, true, false, none⟩⟩) }

/-! ### Engines -/

/-- Engine `k` RUNNING with the word `w` at its program counter. -/
def engS (k : Fin 16) (pc w : Nat) (g : Engine → Engine) : State :=
  put (engMem k 2 + 8 * pc) (bytesLE 8 w)
    ((up [(ENG_DEk_STAT_STATE k, 1)]).setEng k fun e => g { e with pc := BitVec.ofNat 13 pc })
/-- Lanes that differ from one another. -/
def someLanes (x : Nat) : Lanes := Vector.ofFn fun i => BitVec.ofNat 16 (x + 0x1111 * i.val)
/-- Engine 9 with operands, an accumulator near its bound, and 16 bytes at the addresses of its moves. -/
def vecS (w : Nat) : State :=
  put (engMem 9 0 + 16) ((List.range 16).map (BitVec.ofNat 8)) <| put (engMem 9 1 + 16) ((List.range 16).map fun i => BitVec.ofNat 8 (128 + i)) <|
    engS 9 5 w fun e => { e with
      v := (((e.v.set 5 (someLanes 0x7FF0)).set 7 (someLanes 0x8001)).set 6 (someLanes 3))
      g := e.g.set 5 0x12348765
      a := (e.a.set 0 8).set 5 16
      acc := ((e.acc.set 2 (Vector.replicate 8 0x7FFFFFFFFF)).set 1 (Vector.ofFn fun i => BitVec.ofInt 40 ((i.val : Int) * 98304 - 300000))) }
/-- Engine 9 with addresses, data in X and Y, and operands to store. -/
def memS (w : Nat) : State :=
  put (engMem 9 0) ((List.range 32).map fun i => BitVec.ofNat 8 (200 + i)) <| put (engMem 9 1) ((List.range 64).map fun i => BitVec.ofNat 8 (100 + 3 * i)) <|
    engS 9 5 w fun e => { e with
      v := e.v.set 15 (someLanes 0x7FF0)
      g := (e.g.set 15 0x89ABCDEF)
      a := ((e.a.set 0 9).set 2 12).set 1 8
      acc := e.acc.set 3 (Vector.ofFn fun i => BitVec.ofInt 40 ((i.val : Int) * 98304 - 300000)) }
/-- Engine 9 on fibre A with halves handed over and taken, and bytes in half 1. -/
def landS (w : Nat) (av tk : List Half) : State :=
  let s := engS 9 5 w fun e => { e with lp := 8 }
  let s1 := put (landHalf 9 1) ((List.range 32).map (BitVec.ofNat 8)) (s.set (ENG_ASSIGN_SRC 9) 1)
  s1.setLand 9 fun l => { l with avail := av, taken := tk }
/-- Engine 9 on fibre A, its span 100 to 107, with a run in the filter and eight samples to send. -/
def foutS (w : Nat) : State :=
  let s := engS 9 5 w fun e => { e with g := (e.g.set 3 100).set 4 9, v := e.v.set 2 (someLanes 7) }
  let s1 := (((s.set (ENG_ASSIGN_SRC 9) 1).set (ENG_DEk_SPAN_LO_FIRST 9) 100).set (ENG_DEk_SPAN_HI_LAST 9) 107).set (SEQ_NG_NG 0) 14682
  (((s1.set (SEQ_LEN_LEN 0) 53).set (SEQ_GUARD_GUARD 0) 0).set (SEQ_CTRL_UNEVEN 0) 0).setPfil 0 fun p => { p with run := some 8, runs := [] }
/-- A full alarm queue. -/
def fullAlarms (s : State) : State := { s with out := { s.out with alarms := List.replicate 8 ⟨[], 0, 0⟩ } }

/-! ### Brillouin path -/

/-- A chirp of 1 µs. -/
def aCode : Code := ⟨1, false, 0, 100, 2000, 1000, 25, []⟩

/-- A captured shot of fibre B whose temperature position 3 is next. -/
def brilCap (phase : Rat) : Capture := ⟨5, 0, phase, true, false, 32767, 0, ⟨0, 0, aCode⟩, 131072, []⟩
/-- The two words of its buffer that position 32,767 uses. -/
def capWords (s : State) : State := put (brilBase 1 0 + 524272) (List.replicate 16 0) s
/-- Fibre B with an interval open from phase 0 and a capture of phase 100 at temperature position 32,767. -/
def brilSys : State :=
  let s := capWords (up [(BRIL_CTRL_EN 1, 1), (PRISM_BRIL_CTRL_BSHIFT 1, 4), (BRIL_ACC_CYCLES 1, 10000), (BRIL_ACC_OFS_CYCLES 1, 0), (BRIL_ACC_BASE_HI_ADDR 1, 0x80), (SEQ_LEN_LEN 1, 2), (SEQ_NG_NG 1, 14682), (SEQ_GUARD_GUARD 1, 0)])
  let s1 := (s.setTrk fun r => { r with model := some ⟨0, 0, 100000⟩ }).setPrism 1 fun r => { r with caps := [brilCap 100] }
  s1.setBril 1 fun b => { b with since := some 0, open_ := some 0 }
/-- A capture with a CLIP sample at grid position `g`. -/
def clipSys (g : Nat) : State :=
  (capWords (up [(SEQ_LEN_LEN 1, 1000), (SEQ_NG_NG 1, 14682)])).setPrism 1 fun r => { r with caps := [{ brilCap 100 with clips := [g] }] }
/-- The same with sums of seven spectra at that position. -/
def brilSys2 (xs : List Nat) : State :=
  let s := brilSys.setBril 1 fun b => { b with counts := [(32767, 7)] }
  put (s.bankAddr 1 0 + 33553408) (wordsLE xs) s

/-! ### Output and the command interface -/

/-- A frame of a stream with samples. -/
def aFrame (c : Nat) (xs : List (BitVec 16)) : Frame :=
  ⟨⟨Fin.ofNat 2 (c / 32), Fin.ofNat 18 (c % 32)⟩, 0x12345, 0x700000005, false, true, false, false, false, false, false, 0, 0, xs, 0⟩
/-- Streams 32 and 33 enabled, the holding area at the start of DA, frames offered and held. -/
def outSys (fs : List Frame) (hs : List HeldFrame) : State :=
  let s := up [(OUT_STREAM_EN_B_EN, 3), (OUT_HOLD_BASE_HI_ADDR, 0x80), (OUT_BUF_FREE_BYTES, 65536), (OUT_STATUS_HOST_ACTIVE, 1)]
  { s with out := { s.out with offered := fs, held := hs } }
/-- An IDENT packet with TAG 0x1234 and its CRC. -/
def pktIdent : List Byte :=
  let b : List Byte := [1, 0, 0x34, 0x12, 0, 0, 0, 0]
  b ++ bytesLE 4 (crc32c b)
/-- A full command queue. -/
def fullQueue (s : State) : State := { s with cmd := { s.cmd with queue := List.replicate 16 ⟨.spi, 0, 0, []⟩ } }

/-! ### Lanes and the link -/

/-- A group of two lanes from lane `g` on, enabled and ACTIVE, both lanes ACTIVE, toward the host. -/
def grpSys (g : Fin 8) : State :=
  let l := g.val
  let s := up [(LINK_GRPn_CTRL_EN g, 1), (LINK_GRPn_CTRL_WIDTH g, 1), (LINK_GRPn_CTRL_ROLE g, 0), (LINK_GRPn_STATUS_MASK g, 3), (LINK_GRPn_STATUS_STATE g, 2),
    (LANE_STATUS_STATE l, 6), (LANE_STATUS_STATE (l + 1), 6), (LANE_CTRL_EN l, 1), (LANE_CTRL_EN (l + 1), 1), (OUT_STATUS_HOST_ACTIVE, 1)]
  s.setGrp g fun r => { r with conf := true, crA := 1, crS := 100, crB := 100 }
/-- A whole packet. -/
def aPacket (cls : Fin 4) (dir : Bool) (seq : Fin 4096) (b : List Byte) : RxPacket :=
  let p : RxPacket := ⟨cls, dir, 2, 0, seq, b, 0, false, []⟩
  { p with crc := BitVec.ofNat 32 (crc32c (headerBytes p ++ b)) }
/-- A second, DOWN, group of lanes 0 and 1. -/
def downOf (s : State) : State :=
  let s1 := [(LINK_ID_MODE, 1), (LINK_GRPn_CTRL_EN 0, 1), (LINK_GRPn_CTRL_WIDTH 0, 1), (LINK_GRPn_CTRL_ROLE 0, 1), (LINK_GRPn_STATUS_MASK 0, 3), (LINK_GRPn_STATUS_STATE 0, 2),
    (LANE_STATUS_STATE 0, 6), (LANE_STATUS_STATE 1, 6)].foldl (fun (t : State) (p : Fld × Nat) => t.set p.1 p.2) s
  s1.setGrp 0 fun r => { r with conf := true }
def downSys : State := downOf (up [])
/-- A manager with a host group from lane 4 on and a DOWN group from lane 0 on. -/
def mgrSys : State := downOf (grpSys 4)
/-- A worker with its UP group from lane 4 on. -/
def wrkSys : State := ((grpSys 4).set (LINK_GRPn_CTRL_ROLE 4) 2).set LINK_ID_MODE 2

/-! ### DRAM -/

/-- Channel 1 READY with two ranks of x8 devices at 3,200 MT/s and requests queued, at cycle 0. -/
def dramSys (qs : List DramQ) : State :=
  (up [(DRAMC_CHSTAT_READY 1, 1), (DRAMC_CONFIG_CAP_GIB 1, 16), (DRAMC_CONFIG_RANKS 1, 1), (DRAMC_CONFIG_RATE 1, 6), (DRAMC_IDLE_IDLE_TMO 1, 100)]).setDram 1 fun d => { d with
    queue := qs, slot := 0 }

/-! ### Housekeeping -/

/-- Regular slot 3 with its two words and N = 8, one conversion due at cycle 0. -/
def hkSys (cfg inw : Nat) (g : HkAct → HkAct) : State :=
  (up [(HK_SLOTs_CFG_CFG 3, cfg), (HK_SLOTs_IN_IN 3, inw), (HK_NSLOT_NREG, 5), (HK_STATUS_REG_BUSY, 1), (HK_STATUS_SLOT, 3), (HK_RTD_CTRL_EN, 15), (HK_CTRL_MODE, 2)]).setHk fun h => { h with
    act := some (g { hkFresh false 3 0 with settling := false, discard := false }) }
/-- The codes of a conversion whose RTD checks pass. -/
def hkCodes (a b : Int) : HkSample := ⟨⟨BitVec.ofInt 16 a, 900, 900, false, false⟩, ⟨BitVec.ofInt 16 b, 900, 900, false, false⟩⟩

end Sys2Proof.Tests
end

