-- ==== Sys2Proof/Tests/Slice0.lean ====
section
/-! SUPPORT. Tests: ill-formed commands that the check refuses, worked examples of the spec, and states that meet the
hypotheses of the statements about the machine as a whole. Expected values are those the cited chapter prints. -/

namespace Sys2Proof.Tests
-- Each proof below waits for the kernel's check of what stands before it, so they run one after the other.
set_option Elab.async false
open Sys2Proof Sys2Proof.Machine Sys2Proof.Machine.Reg Sys2Proof.Claim

/-! ### Well-formedness (R30, R113, R124, R277, R288, R315, R405) -/

/-- 501 parameter words, where 500 is the most (R315). -/
theorem test_wf_command : (op (List.replicate 501 0)).wf = false ∧ (op (List.replicate 500 0)).wf = true ∧
    (Instr.seqArm (op (List.replicate 501 0))).wf = false := by decide +kernel
/-- A packet of `n` bytes. -/
def pktOf (n : Nat) : RxPacket := ⟨0, false, 0, 0, 0, List.replicate n 0, 0, false, []⟩
/-- LEN 0, LEN 2,060, LEN 6; and the two bounds (R288). -/
theorem test_wf_packet : (Instr.packetReceive 0 (pktOf 0)).wf = false ∧ (Instr.packetReceive 0 (pktOf 2060)).wf = false ∧
    (Instr.packetReceive 0 (pktOf 6)).wf = false ∧ (Instr.packetReceive 0 (pktOf 4)).wf = true ∧ (Instr.packetReceive 0 (pktOf 2056)).wf = true := by
  decide +kernel
theorem test_wf_register : (Instr.registerWrite .mgmt 0x40000008 0 0).wf = false ∧ (Instr.registerWrite .mgmt 0x40000008 4 0).wf = true := by
  decide +kernel
/-- Position 2^17 (R30, R113). -/
theorem test_wf_response : (Instr.prismResponse 0 ⟨0, 2 ^ 17, 0⟩).wf = false ∧
    (Instr.prismResponse 0 ⟨0, 2 ^ 17 - 1, 0⟩).wf = true := by decide +kernel
/-- Three cut packets are the most that a framing error discards, and two the least (R289). -/
theorem test_wf_cut : (Instr.packetReceive 0 { pktOf 4 with cut := [(0, 0)] }).wf = false ∧ (Instr.packetReceive 0 { pktOf 4 with cut := [(0, 0), (1, 5)] }).wf = true ∧
    (Instr.packetReceive 0 { pktOf 4 with cut := [(0, 0), (1, 5), (2, 6), (3, 7)] }).wf = false := by decide +kernel
/-- More disagreements than a scan compares bits (R277). -/
theorem test_wf_scan : (Instr.esScanDone 0 (2 ^ 40 + 1)).wf = false ∧ (Instr.esScanDone 0 (2 ^ 40)).wf = true := by decide +kernel
/-- A calibration histogram of 1,023 codes, and one that does not hold 2^20 stamps (R405). -/
theorem test_wf_histogram : (Instr.tdcCalibrationComplete 0 (List.replicate 1023 1024)).wf = false ∧
    (Instr.tdcCalibrationComplete 0 (List.replicate 1024 1)).wf = false ∧ (Instr.tdcCalibrationComplete 0 (List.replicate 1024 1024)).wf = true := by
  decide +kernel

/-! ### Worked examples of the spec -/

/-- 01: data memory Y of DE7 starts at 0x225_0000. -/
theorem test_engine_base : engMem 7 1 = 0x2250000 := by decide +kernel
/-- A fibre of 50 km at 1.4682. -/
def fibre50 : State := up [(SEQ_LEN_LEN 0, 50000), (SEQ_NG_NG 0, 14682), (PFIL_CTRL_K 0, 2), (PFIL_FIR_TAPS 0, 320), (PFIL_CTRL_SPACING 0, 0)]
/-- 02: P_end = 97,947 and N = 97,870. -/
theorem test_far_end : fibre50.pEnd 0 = 97947 ∧ fibre50.readN 0 = 97870 := by decide +kernel
/-- 06: at f_eff = 8 / 491.740 µs, 321 taps is the most; N_s is 173 at 320 taps. -/
theorem test_filter_budget : fibre50.filterUnit 0 (8000000000 / 491740) * 321 ≤ filterCap ∧ ¬ fibre50.filterUnit 0 (8000000000 / 491740) * 322 ≤ filterCap ∧
    settleN 2 320 (8000000000 / 491740 / 4 / 2000) = 173 ∧ gd2 2 320 = 2 * 671 ∧ filterW 2 320 = 1403 := by decide +kernel
/-- 06: STEP = 1.25 with 384 taps and K = 3 gives N_s = 334. -/
theorem test_filter_mains : settleN 3 384 (5 / 4) = 334 ∧ gd2 3 384 = 2 * 1609 ∧ filterW 3 384 = 3339 := by decide +kernel
/-- 09: BRIL_ACC_REQ = 49,126 KiB and BRIL_RES_REQ = 192 KiB for 50 km. -/
theorem test_bank_size : fibre50.accKib 0 = 49126 ∧ fibre50.resKib 0 = 192 := by decide +kernel
/-- 07: the ring of 25 vectors from 0x1000. -/
def ring (a : BitVec 16) : Engine := { (State.reset.eg 0) with
  a := (State.reset.eg 0).a.set 0 a, b := (State.reset.eg 0).b.set 0 0x1000, l := (State.reset.eg 0).l.set 0 200 }
/-- 07: a POST access at 0x10C0 wraps a0 to 0x1000; a displaced one then reads at 0x10B8 and leaves a0. -/
theorem test_ring : (ring 0x10C0).dataAddr 0 1 8 = (0x10C0, 0x1000) ∧ (ring 0x1000).dataAddr 0 2 (-16) = (0x10B8, 0x1000) := by decide +kernel
/-- 07: the exact half of an odd value rounds up to 0x1236; a lane that overflowed upwards stores +32,767. -/
theorem test_rounding : satStore 0x0012358000 false false 16 32767 = 0x1236 ∧ satStore 0x807FFF0000 true false 16 32767 = 0x7FFF := by decide +kernel
/-- 08: vsub v6, v5, v7 with st.y v5, (a5)+8 is 0x2165_7000_0006_A02A. -/
theorem test_encoding : opOf 0x216570000006A02A = 0x21 ∧ (decodeMove 0x216570000006A02A false).toOption = some none ∧
    (decodeMove 0x216570000006A02A true).toOption = some (some ⟨true, 5, 1, 8, 5⟩) := by decide +kernel
/-- 11: the group of the worked example at 4:1. -/
def group41 : Group := codeGroup 3 false false [112, 104, 96, 50, 230, 0x8000, 199, 160]
  [some 100, some 120, some 90, some 0x8000, some 200, some 210, some 205, some 190]
theorem test_group : group41.shift = 4 ∧ group41.pred = false ∧ group41.codes = [1, -1, 0, 3, 2, -4, 0, -2] ∧
    group41.recon = [116, 104, 90, 48, 232, 0x8000, 205, 158] := by decide +kernel
/-- 12: the training block of lane 5 with RDY = 1. -/
theorem test_training_block : trainBlk true false false 5 = 0x0000000A3C51A54B := by decide +kernel
/-- 14: READ_REG of SYS_IDENT with TAG 0x0042 before READY, then after it. -/
theorem test_read_ident : (match execReadReg ⟨.spi, 0x42, [0x40000000, 0, 1]⟩ (regs [(MGMT_STATUS_PHASE, 3)]) with
      | .next t => (t.cmd.replies.map toWords).map (·.take 2) | _ => []) = [[0x00420103, 0]] ∧
    (match execReadReg ⟨.spi, 0x42, [0x40000000, 0, 1]⟩ (up []) with
      | .next t => (t.cmd.replies.map toWords).map (·.take 3) | _ => []) = [[0x00420003, 1, 0x5200106D]] := by decide +kernel
/-- 16: A_max is 6. -/
theorem test_allowance : (up [(DRAMC_TIM2_TRFC 0, 880), (DRAMC_TIM0_TRP 0, 22), (DRAMC_REF_TREFI 0, 12480), (DRAMC_REF_POSTPONE 0, 8)]).allowance 0 = 6 := by
  decide +kernel
/-- 19: 100.000 Ω × 181,734,400 / 167,688,000 of a Pt100 is 21.501 °C. -/
theorem test_coil : platinumTemp (181734400 / 167688000) = some 21501 := by decide +kernel
/-- 20: mean squares 4,000,000 and 4,080,400 with product 40,000. -/
theorem test_pair : pairEst 4000000 4080400 40000 0 = some (16223, 162, 0) ∧ meanEst 16223 16225 = 16224 ∧ meanEst 162 161 = 162 := by decide +kernel
/-- 21: 48 steps of 64 reach 0xC00, and 47 do not. -/
theorem test_ramp : Nat.repeat (fun a => rampTo a 0xC00 0x40) 48 0 = 0xC00 ∧ Nat.repeat (fun a => rampTo a 0xC00 0x40) 47 0 < 0xC00 := by decide +kernel

/-! ### Hypotheses of the statements about the machine as a whole -/

/-- PD_MGMT and clk_fab off, nothing under way. -/
def quiet : State := regs [(PWR_STATUS_DOMAIN_ON, 0)]
theorem witness_IdleCycle : preIdleCycle quiet ∧
    preIdleLowering { quiet with cyc := 80399, pwr := { quiet.pwr with change := some (.lower 2), stateTo := some 1, changeAt := 0 } } 2 ∧
    preIdleReset { State.reset with cyc := 32, cmd := { State.reset.cmd with resetting := true, resetAt := 32 } } := by decide +kernel
theorem witness_StepKeepsSound : ({ up [] with pending := [.haltOp 3] }).wf = true ∧
    ∃ t, step { up [] with pending := [.haltOp 3] } = .next t := ⟨by decide +kernel, _, rfl⟩
theorem witness_OpcodesNotReady : preBeforeReady (.seqArm (op [])) 0x15 1 (op []) State.reset ∧
    preDuringEntry (.cfgCommit (op [])) 0xA3 20 (op []) { up [] with pwr := { (up []).pwr with change := some (.entry 3) } } 3 ∧
    preUnreachable (.pmonBw (op [])) 0xE3 19 (op []) (up [(SYS_CLK_STATUS_FAB_RUN, 0)]) ∧
    preUnreachable (.calRun (op [])) 0xB0 16 (op []) (up [(PWR_STATUS_DOMAIN_ON, 0x37)]) := by decide +kernel
/-- Fibre B on the internal reference, an epoch set, engines 2 and 9 spanning all but position 50. -/
def gapSys : State := up [(ENG_CTRL_AUTO_SPAN, 0), (SEQ_LEN_LEN 1, 1000), (SEQ_NG_NG 1, 14682), (SEQ_REF_STATUS_EPOCH_VALID, 1), (PRISM_STATUS_GAL_VALID_B, 1),
  (RXF_STATUS_RAY_RDY_B, 1), (RXF_STATUS_BRI_RDY_B, 1), (ENG_ASSIGN_SRC 2, 2), (ENG_ASSIGN_SRC 9, 2), (ENG_DEk_SPAN_LO_FIRST 2, 0), (ENG_DEk_SPAN_HI_LAST 2, 49),
  (ENG_DEk_SPAN_LO_FIRST 9, 51), (ENG_DEk_SPAN_HI_LAST 9, 131071)]
theorem witness_SpanGapRefusesStart : preSpanGap (op [1, 0, 0, 0, 0, 0]) gapSys 1 50 := by decide +kernel
/-- Counter 5 counts event 0x13 of any master, at its largest value. -/
def cntSys : State :=
  let s := up [(PMON_CTRL_RUN, 1), (PMON_CNTk_CTRL_EN 5, 1), (PMON_CNTk_CTRL_EVENT 5, 0x13)]
  { s with cyc := 1, pmon := { s.pmon with cnt := s.pmon.cnt.set 5 (2 ^ 48 - 1) } }
theorem witness_CounterClear : preClearAll cntSys ∧ preClearThenCount cntSys 5 0x13 (2 ^ 48 - 1) 0x20 ∧ preCounterWrite (up []) .cmd ∧ preCounterWrite (up []) .mgmt ∧
    (up []).get (PMON_CNTk_CTRL_EN 7) = 0 ∧ cntSys.get (PMON_CNTk_CTRL_EN 5) = 1 ∧ pmonCtlOk 0x20013 = true := by decide +kernel
theorem witness_counterWrap : preCounterWrap cntSys 5 0x13 0x20 ∧ 2 ^ 48 ≤ cntSys.pmon.cnt[5] + 1 ∧ cntSys.get PMON_WRAP_WRAP < 256 := by decide +kernel

/-! ### Areas and the staging image -/

/-- A ready device with 16 GiB on each channel and no area set up. -/
def memSys : State := up [(DRAMC_CONFIG_CAP_GIB 0, 16), (DRAMC_CONFIG_CAP_GIB 1, 16)]
/-- The state area of a filter is below 8 GiB, whatever its size is. -/
theorem stKib_lt (s : State) (f : Nat) : s.stKib f < 8388608 := by
  unfold State.stKib
  generalize Config.stateKib _ = x
  have := x.isLt
  omega
/-- A range lies in installed memory of the channel it begins in. -/
theorem inChannel_of {s : State} {a n ch off : Nat} (h : regionOf a = .dram ch off) (h' : off + n ≤ s.installed ch) :
    s.inChannel a n = true := by
  unfold State.inChannel
  rw [h]
  exact decide_eq_true h'
theorem areaOk_of {s : State} {lo hi n : Nat} (h1 : lo % 4096 = 0) (h2 : hi < 256) (h3 : s.inChannel (baseOf lo hi) n = true) :
    s.areaOk lo hi n = true := by
  unfold State.areaOk
  rw [h3, h1, Bool.and_true, decide_eq_true h2]
  rfl
theorem witness_pfilMemSetup : prePfilMemSetup (op [1, 0, 0x80, 0, 0x84]) memSys 1 0 0x80 0 0x84 := by
  have h := stKib_lt memSys (1 : Fib)
  refine ⟨by decide +kernel, by decide +kernel, by decide +kernel, by decide +kernel,
    areaOk_of (by decide +kernel) (by decide +kernel)
      (inChannel_of (show _ = Region.dram 1 0 by decide +kernel) ?_), ?_⟩
  · have : memSys.installed 1 = 16 * 0x40000000 := by decide +kernel
    omega
  · have : 1024 * memSys.ctKib (1 : Fib) ≤ 0x400000000 := by decide +kernel
    simp only [overlap, baseOf, Bool.and_eq_false_iff]
    right
    exact decide_eq_false (by omega)
/-- A state area that begins at address 0 overlaps no area of DRAM. -/
theorem noOverlap_st (a n : Nat) (f : Fib) (h : memSys.stBase f = 0) (ha : 0x8000000000 ≤ a) :
    overlap a n (memSys.stBase f) (1024 * memSys.stKib f) = false := by
  have := stKib_lt memSys f
  simp only [overlap, Bool.and_eq_false_iff, decide_eq_false_iff_not]
  omega
theorem witness_brilMemSetup : preBrilMemSetup (op [1, 0, 0x80, 0, 0x81]) memSys 1 0 0x80 0 0x81 := by
  refine ⟨by decide +kernel, by decide +kernel, by decide +kernel, by decide +kernel, by decide +kernel, by decide +kernel,
    by decide +kernel, fun g => ⟨?_, noOverlap_st _ _ g ?_ (by decide)⟩⟩
  all_goals revert g; decide +kernel
theorem witness_outMemSetup : preOutMemSetup (op [0, 0x1000, 0x80]) memSys 0x1000 0x80 := by
  refine ⟨by decide +kernel, by decide +kernel, by decide +kernel, by decide +kernel, by decide +kernel,
    fun g => ⟨?_, noOverlap_st _ _ g ?_ (by decide), ?_, ?_⟩⟩
  all_goals revert g; decide +kernel

/-- A record of 25 words with GEN 1 that commits: MAGIC, GEN, LEN, FORMAT, 20 words of zeros and the check word. -/
def commitRecord : List Nat :=
  let ws := [cfgMagic, 1, 100, 1] ++ List.replicate 20 0
  ws ++ [crc32 (wordsLE ws)]
/-- The staging image: the record and zeros to its end. -/
def commitImage : List Nat := commitRecord ++ List.replicate 16359 0
/-- A record stays well formed whatever follows it. -/
theorem cfgOk_append {r : List Nat} (x : List Nat) (h : cfgOk r = true) : cfgOk (r ++ x) = true := by
  have hl : 3 < r.length := by
    rcases Nat.lt_or_ge 3 r.length with h' | h'
    · exact h'
    · exfalso
      simp only [cfgOk, cfgLenOk, Bool.and_eq_true, decide_eq_true_eq, beq_iff_eq] at h
      omega
  have e2 : (r ++ x).getD 2 0 = r.getD 2 0 := List.getD_append _ _ _ _ (by omega)
  have e3 : (r ++ x).getD 3 0 = r.getD 3 0 := List.getD_append _ _ _ _ hl
  simp only [cfgOk, Bool.and_eq_true, decide_eq_true_eq, beq_iff_eq, e2, e3] at h ⊢
  obtain ⟨⟨⟨h1, h2⟩, h3⟩, h4⟩ := h
  have h100 : 25 ≤ r.getD 2 0 / 4 := by
    simp only [cfgLenOk, Bool.and_eq_true, decide_eq_true_eq, beq_iff_eq] at h1
    omega
  refine ⟨⟨⟨h1, h2⟩, by rw [List.length_append]; omega⟩, ?_⟩
  rw [List.take_append_of_le_length (by omega), List.getD_append _ _ _ _ (by omega)]
  exact h4
theorem wordsLE_length (ws : List Nat) : (wordsLE ws).length = 4 * ws.length := by
  induction ws with
  | nil => rfl
  | cons a t ih => simp only [wordsLE, List.flatMap_cons, List.length_append, List.length_cons] at *; rw [ih]; simp [bytesLE]; omega
theorem commitRecord_length : commitRecord.length = 25 := by decide +kernel
theorem commitImage_length : commitImage.length = 16384 := by
  rw [commitImage, List.length_append, List.length_replicate, commitRecord_length]
/-- A ready device whose slot 1 holds the loaded record, of GEN 0, with the image in staging. -/
def commitSys : State :=
  { (up []).setMgmt (fun m => { m with recSlot := some 1 }) with mem := putBytes 0x1E0000 (wordsLE commitImage) [] }
theorem witness_cfgCommit : preCfgCommit (op []) commitSys commitImage 1 := by
  refine ⟨by decide +kernel, by decide +kernel, by decide +kernel, by decide +kernel, by decide +kernel, by decide +kernel,
    by decide +kernel, ?_, commitImage_length, ?_, by decide +kernel, by decide +kernel, by decide +kernel, by decide +kernel,
    cfgOk_append _ (by decide +kernel)⟩
  · have h := getBytes_putBytes_same 0x1E0000 (wordsLE commitImage) []
    rwa [wordsLE_length, commitImage_length] at h
  · intro w hw
    rcases List.mem_append.1 hw with h | h
    · clear hw; revert w; decide +kernel
    · rw [List.eq_of_mem_replicate h]; decide

/-! ### Sums of spectra -/

/-- Sums of seven spectra, each bin of which has room for one more. -/
def sums : List Nat := List.replicate 256 0xFFFF0000
/-- They stand where the bank of fibre B holds position 32,767. -/
theorem sums_bytes (m : KMap Byte) : getBytes (putBytes 0x8001FFFC00 (wordsLE sums) m) 0x8001FFFC00 1024 = some (wordsLE sums) := by
  have h := getBytes_putBytes_same 0x8001FFFC00 (wordsLE sums) m
  rwa [wordsLE_length, sums, List.length_replicate] at h
theorem sums_bank : (brilSys2 sums).bankAddr (1 : Fib) ((brilSys2 sums).get (BRIL_STAT_BANK (1 : Fib))) + 1024 * (brilCap 100).nextT = 0x8001FFFC00 := by decide +kernel
theorem sums_at : (brilSys.setBril 1 fun b => { b with counts := [(32767, 7)] }).bankAddr 1 0 + 33553408 = 0x8001FFFC00 := by decide +kernel
theorem put_mem (a : Nat) (bs : List Byte) (s : State) : (put a bs s).mem = putBytes a bs s.mem := rfl
theorem sums_ready : CaptureReady (brilSys2 sums) 1 (brilCap 100) [] := by decide +kernel
theorem sums_interval : InInterval (brilSys2 sums) 1 (brilCap 100) 0 := by decide +kernel
theorem witness_spectrumNext : preSpectrumNext (brilSys2 sums) 1 (brilCap 100) [] 0 sums 7 := by
  refine And.intro sums_ready (And.intro (by decide +kernel) (And.intro (by decide +kernel) (And.intro sums_interval ?_)))
  iterate 5 refine And.intro (by decide +kernel) ?_
  refine And.intro ?_ (by decide +kernel)
  rw [sums_bank, brilSys2, sums_at, put_mem]
  exact sums_bytes _
end Sys2Proof.Tests
end

