-- ==== Sys2Proof/Tests/Witness.lean ====
section
/-! SUPPORT. States and operands that meet the hypotheses of the claims: one theorem for each obligation, in the order of its
claims. -/

namespace Sys2Proof.Tests
-- Each proof below waits for the kernel's check of what stands before it, so they run one after the other.
set_option Elab.async false
open Sys2Proof Sys2Proof.Machine Sys2Proof.Machine.Reg Sys2Proof.Claim

theorem witness_Power :
    preSamplingPllStart State.reset ∧
    preSamplingPllBarred (regs [(SYS_STATUS_REFCLK_SMP_BAD, 1)]) ∧
    preSamplingPllLock { State.reset with cyc := 5, pwr := { State.reset.pwr with pllStarted := true, pllOn := true } } ∧
    preRefclkSmpBad ((up [(SYS_CLK_STATUS_SMP_LOCK, 1)]).setPwr fun p => { p with pllStarted := true }) ∧
    preRefclkBadEarly (regs [(SYS_CLK_STATUS_REFCLK_SMP_OK, 1)]) ∧
    preGoStateEntry (up [(PWR_REQ_STATE, 3), (PWR_WAKE_EN_EN, 2)]) 3 ∧
    preGoStateEntry (up [(PWR_REQ_STATE, 2), (PWR_WAKE_EN_EN, 16)]) 2 ∧
    preGoStateRefused (up [(PWR_REQ_STATE, 3), (PWR_WAKE_EN_EN, 24)]) 3 ∧
    preGoStateRefused (up [(PWR_REQ_STATE, 1), (SEQ_STATUS_STATE 1, 1)]) 1 ∧
    preGoOpRaise (up [(PWR_STATUS_OP, 3), (PWR_REQ_OP, 2)]) 2 ∧
    preGoOpLower (up [(PWR_STATUS_OP, 1), (PWR_REQ_OP, 3)]) 3 ∧
    preGoOpHeld ((up [(PWR_STATUS_OP, 3), (PWR_REQ_OP, 2)]).setPwr fun p => { p with change := some (.raise 1), held := some ⟨true, 2, false⟩ }) 2 1 ∧
    preGoReduced (up [(PWR_REQ_STATE, 1), (PWR_STATUS_OP, 1), (RXF_CTRL_RAY_EN 1, 1)]) ∧
    preVoltageConfirm { ((up [(PWR_STATUS_OP, 3), (PWR_STATUS_BUSY, 1)]).setPwr fun p => { p with change := some (.raise 0), vsel := 0 }) with cyc := 480000 } 0 825 ∧
    preVoltageLow ((up [(PWR_STATUS_OP, 3), (PWR_STATUS_BUSY, 1)]).setPwr fun p => { p with change := some (.raise 0), vsel := 0 }) 0 824 ∧
    preVoltageReturn ((up [(PWR_STATUS_OP, 3), (PWR_STATUS_BUSY, 1), (PWR_STATUS_STATE, 1)]).setPwr fun p => { p with change := some (.raise 1), vsel := 1, stateTo := some 0 }) 1 775 ∧
    preVsettleTimeout { ((up [(PWR_STATUS_OP, 3), (PWR_STATUS_BUSY, 1)]).setPwr fun p => { p with change := some (.raise 0), vsel := 0 }) with cyc := 480001 } 0 ∧
    preRaiseGivenUp { ((up [(PWR_STATUS_OP, 3), (PWR_STATUS_BUSY, 1)]).setPwr fun p => { p with change := some .back, vsel := 3 }) with cyc := 80000 } ∧
    preEntryAborted ((regs [(PWR_STATUS_DOMAIN_ON, 0x0F), (PWR_WAKE_PEND_PEND, 1), (PWR_WAKE_EN_EN, 1), (PWR_STATUS_BUSY, 1)]).setPwr fun p => { p with change := some (.entry 2) }) 2 ∧
    preEntryStandby ((up [(PWR_STATUS_BUSY, 1)]).setPwr fun p => { p with change := some (.entry 2) }) ∧
    preEntrySleep ((up [(PWR_STATUS_BUSY, 1)]).setPwr fun p => { p with change := some (.entry 3) }) ∧
    preWakeNStandby (regs [(PWR_STATUS_STATE, 2), (PWR_WAKE_EN_EN, 1), (PWR_STATUS_DOMAIN_ON, 0x13)]) ∧
    preWakeNShown ((up [(PWR_WAKE_PEND_PEND, 4)]).setPwr fun p => { p with change := some (.entry 3) }) ∧
    preSpiWakeSleep { regs [(PWR_STATUS_STATE, 3), (PWR_WAKE_EN_EN, 2), (SYS_RST_CAUSE_HIST, 1)] with mem := [(0x8000000000, 7)] } ∧
    preSpiEdgeAwake (up []) ∧
    preWakeTimer { regs [(PWR_STATUS_STATE, 3), (PWR_WAKE_EN_EN, 4), (PWR_TIMER_MS, 1)] with cyc := 400000 } ∧
    preWakeTimerEarly { regs [(PWR_STATUS_STATE, 3), (PWR_WAKE_EN_EN, 4), (PWR_TIMER_MS, 1)] with cyc := 399999 } ∧
    preLinkWake ((regs [(PWR_STATUS_STATE, 2), (PWR_WAKE_EN_EN, 8), (PWR_STATUS_DOMAIN_ON, 0x13), (LINK_GRPn_CTRL_EN 5, 1), (LINK_GRPn_CTRL_ROLE 5, 2)]).setGrp 5 fun g => { g with conf := true }) 5 ∧
    prePorstN (up [(SYS_RST_CAUSE_HIST, 17), (SEQ_LEN_LEN 0, 5)]) ∧
    prePwrStateEntry (op [3]) (up [(PWR_WAKE_EN_EN, 1), (PWR_WAKE_PEND_PEND, 9)]) 3 ∧
    prePwrStateDenied (op [3]) (up [(MGMT_STATUS_UPD_BUSY, 1), (PWR_WAKE_EN_EN, 1)]) 3 ∧
    prePwrStateDenied (op [1]) (up [(SEQ_STATUS_STATE 1, 3)]) 1 ∧
    prePwrStateNoWake (op [3]) (up [(PWR_WAKE_EN_EN, 0b11000)]) 3 ∧
    prePwrStateNoWake (op [4]) (up []) 4 ∧
    prePwrStateAlready (op [0]) (up []) 0 ∧
    prePwrStateWake (op [0]) (up [(PWR_STATUS_STATE, 2), (PWR_STATUS_DOMAIN_ON, 0x13)]) ∧
    prePwrOp (op [2]) (up [(PWR_STATUS_OP, 3)]) 2 ∧
    prePwrOpLower (op [3]) (up [(PWR_STATUS_OP, 1)]) 3 ∧
    prePwrOpDenied (op [3]) (up [(PWR_STATUS_STATE, 1), (PWR_STATUS_OP, 3)]) 3 ∧
    prePwrOpPending (op [3]) ((up [(PWR_STATUS_OP, 2), (PWR_STATUS_BUSY, 1)]).setPwr fun p => { p with change := some (.raise 1) }) 3 1 ∧
    prePwrOpAlready (op [3]) (up [(PWR_STATUS_OP, 3)]) 3 ∧
    prePwrWake (op [0x1F, 0xFFFFFFFF]) (up []) 0x1F 0xFFFFFFFF ∧
    prePwrWakeBad (op [4, 0]) (up []) 4 0 ∧
    prePwrWakeBad (op [32, 1]) (up []) 32 1 ∧
    prePwrGetStatus (op []) (up [(PWR_ENTRIES_COUNT, 5)]) := by
  iterate 44 refine And.intro (by decide +kernel) ?_
  decide +kernel

theorem witness_RegisterAccess :
    preRegisterWriteRw (up []) .cmd 0xFFFF04B0 ∧
    preRegisterWriteW1c (up [(HK_FLAGS_MIRROR, 1), (HK_FLAGS_RTD_FAULT, 15)]) .cmd 0xFFFFFF51 ∧
    preRegisterWriteRo (up []) .cmd 0xFFFFFF51 ∧
    preRegisterWriteAccErr (up []) .cmd 0x4014001C 2 5 ∧
    preRegisterWriteAccErr (up []) .mgmt 0x4014001E 4 5 ∧
    preRegisterWriteOff (regs [(PWR_STATUS_DOMAIN_ON, 1)]) .cmd 5 ∧
    preClrCnt (up [(SCRUB_CE_CNT_COUNT, 5), (SCRUB_CE_ADDR_HI_MASTER, 0x11)]) .scrub ∧
    preClrCnt (up [(LANE_LOL_CNT_COUNT 7, 5)]) (.lane 7) ∧
    preClrCntHk (up [(HK_PASSES_COUNT, 5)]) ∧
    preLatchedLowRead { (up []) with cyc := 400 * 0x7FFFFFFFFF } .uptime ∧
    preLatchedLowRead ((up []).setTdc 3 fun c => { c with per := 0x5500000001 }) (.tdcPer 3) ∧
    preReadRegOne (op [0x4014001C, 0, 1]) (up []) ∧
    preReadRegMem (op [0x1FFFF8, 0, 2]) (put 0x1FFFF8 (wordsLE [5, 0xFFFFFFFF]) (up [])) 0x1FFFF8 5 0xFFFFFFFF ∧
    preReadRegBad (op [0x4014001E, 0, 1]) (up []) 0x4014001E 1 ∧
    preReadRegUnwritable (op [0xFFFFC, 0, 2, 7, 8]) (up []) 7 8 ∧
    preWriteRegOne (op [0x4014001C, 0, 1, 0xFFFF04B0]) (up []) 0xFFFF04B0 ∧
    preWriteRegMem (op [0x1FFFF8, 0, 2, 5, 0xFFFFFFFF]) (up []) 0x1FFFF8 5 0xFFFFFFFF ∧
    preCommandTimeout (op []) { up [] with cyc := 40000001, cmd := { (up []).cmd with execTmo := 100, exec := some ⟨.spi, 0x21, 0x1234, [1, 2, 3]⟩ } } 0 ⟨.spi, 0x21, 0x1234, [1, 2, 3]⟩ ∧
    preCommandTimeoutProgressive (op []) { up [] with cyc := 40000001, cmd := { (up []).cmd with execTmo := 100, exec := some ⟨.spi, 0x04, 0x1234, [1, 2, 3]⟩ } } ⟨.spi, 0x04, 0x1234, [1, 2, 3]⟩ := by
  iterate 18 refine And.intro (by decide +kernel) ?_
  decide +kernel

theorem witness_BootAndMonitor :
    preBootAccepted State.reset ⟨true, 4096, true, 256, true, true, 3300, 1800, 0xEF4018, true⟩ ∧
    preBootRejected State.reset ⟨true, 4096, true, 255, true, true, 3300, 3300, 0xEF4018, true⟩ ∧
    preConfigLoadSlot { regs [(MGMT_STATUS_PHASE, 1)] with flash := putBytes 0x20000 (wordsLE factoryRecord) [] } 1 factoryRecord ∧
    preConfigLoadDefaults (regs [(MGMT_STATUS_PHASE, 1)]) ∧
    preConfigLoadDamaged { regs [(MGMT_STATUS_PHASE, 1)] with flash := putBytes 0x20000 (wordsLE [0x47464352, 1]) [] } 1 ∧
    preImageLoad (regs [(MGMT_STATUS_PHASE, 2)]) 0 1 0 ∧
    preImageLoad { regs [(MGMT_STATUS_PHASE, 2)] with flash := ((up []).selWrite (1, 0, 3)).flash } 1 0 3 ∧
    preImageTrial { regs [(MGMT_STATUS_PHASE, 2)] with flash := ((up []).selWrite (1, 1, 3)).flash } 1 3 ∧
    preImageTrial { regs [(MGMT_STATUS_PHASE, 2)] with flash := ((up []).selWrite (1, 1, 0)).flash } 1 0 ∧
    preConfigApply ((regs [(MGMT_STATUS_PHASE, 3), (PWR_STATUS_DOMAIN_ON, 0x3F)]).loadRecord factoryRecord none) ∧
    preWakeRestore ((regs [(PWR_STATUS_STATE, 2), (PWR_STATUS_BUSY, 1)]).setPwr fun p => { p with change := some .wake }) ∧
    preDeferredWake ((up [(SYS_STATUS_CORE_WAIT, 1)]).setMgmt fun m => { m with deferWake := true }) ∧
    preDeferredInit ((up [(SYS_STATUS_CORE_WAIT, 1)]).setMgmt fun m => { m with deferred := true }) ∧
    preWatchdogExpiry { (up [(SYS_RST_CAUSE_HIST, 17), (SEQ_LEN_LEN 0, 5)]).setMgmt (fun m => { m with wdtDue := some 0 }) with cyc := 1 } 0 ∧
    preWdtWrite (up []) 500 ∧
    preWdtWriteOther (up []) 500 ∧
    preMonHelp (up []) ∧
    preMonIdent (up []) ∧
    preMonStatus (up []) ∧
    preMonLog (put 0x1C0000 (wordsLE [0, 2, 3, 4, 5, 6, 7, 0xFFFFFFFF]) (up [(MGMT_LOG_SEQ_NEXT, 1)])) [0, 2, 3, 4, 5, 6, 7, 0xFFFFFFFF] ∧
    preMonLogBad (up []) 65 ∧
    preMonLife (up []) ∧
    preMonSensors (up []) ∧
    preMonRd (up []) ∧
    preMonBaud (up [(MGMT_STATUS_MON_UNLOCKED, 1)]) 6 ∧
    preMonUnlock ((up []).setMgmt fun m => { m with record := List.replicate 25 7 }) 7 ∧
    preMonWrongToken (up []) 0 ∧
    preMonLockout ((up []).setMgmt fun m => { m with wrongTokens := 4 }) 5 ∧
    preMonLock (up [(MGMT_STATUS_MON_UNLOCKED, 1)]) ∧
    preMonWr (up [(MGMT_STATUS_MON_UNLOCKED, 1)]) 0xFFFF04B0 ∧
    preMonWrLocked (up []) 0x4014001C 5 ∧
    preMonReset (up [(MGMT_STATUS_MON_UNLOCKED, 1)]) ∧
    preMonSessionTimeout { (up [(MGMT_STATUS_MON_UNLOCKED, 1)]) with cyc := 240000000001 } := by
  iterate 32 refine And.intro (by decide +kernel) ?_
  decide +kernel

theorem witness_Management :
    preCfgReadSlot (op [2, 16382, 2]) { up [] with flash := [(0x2FFFF, 7)] } 1 16382 2 ∧
    preCfgReadBusy (op [2, 16382, 2]) ((up []).setMgmt fun m => { m with commit := some 1 }) 1 16382 2 ∧
    preCfgReadFactory (op [3, 0, 25]) (up []) 25 ∧
    preCfgReadStaging (op [0, 16382, 2]) (put 0x1EFFF8 (wordsLE [0xFFFFFFFF, 7]) (up [])) 16382 0xFFFFFFFF 7 ∧
    preCfgWrite (op [16382, 2, 1, 0xFFFFFFFF]) (up []) 16382 1 0xFFFFFFFF ∧
    preCfgCommit (op []) commitSys commitImage 1 ∧
    preCfgCommitComplete { (up [(MGMT_STATUS_CFG_BUSY, 1)]).setMgmt (fun m => { m with commit := some 1 }) with flash := putBytes 0x20000 (wordsLE [0x47464352, 5, 100, 1]) [] } 1 ∧
    preCfgCommitFails { (up [(MGMT_STATUS_CFG_BUSY, 1)]).setMgmt (fun m => { m with commit := some 1 }) with flash := putBytes 0x20000 (wordsLE [0x47464352, 5, 100, 1]) [] } 1 ∧
    preUpdBegin (op [0xC0000]) { up [(MGMT_STATUS_IMAGE, 0), (MGMT_STATUS_IMG_VALID_B, 1)] with flash := ((up []).selWrite (1, 1, 3)).flash } 1 0xC0000 ∧
    preUpdBegin (op [1024]) { up [(MGMT_STATUS_IMAGE, 1), (MGMT_STATUS_IMG_VALID_A, 1)] with flash := ((up []).selWrite (1, 1, 3)).flash } 0 1024 ∧
    preUpdEraseComplete ((up [(MGMT_STATUS_UPD_BUSY, 1)]).setMgmt fun m => { m with upd := some ⟨1, 1024, 0, 0, [], true, false⟩ }) ⟨1, 1024, 0, 0, [], true, false⟩ ∧
    preUpdData (op [8, 2, 0xFFFFFFFF, 0x12345678]) ((up []).setMgmt fun m => { m with upd := some ⟨1, 1024, 8, 0, [1, 2], false, false⟩ }) ⟨1, 1024, 8, 0, [1, 2], false, false⟩ [0xFFFFFFFF, 0x12345678] ∧
    preUpdDataAgain (op [0, 2, 1, 2]) ((up []).setMgmt fun m => { m with upd := some ⟨1, 1024, 8, 0, [1, 2], false, false⟩ }) ⟨1, 1024, 8, 0, [1, 2], false, false⟩ [1, 2] ∧
    preUpdCommit (op []) ((up []).setMgmt fun m => { m with upd := some ⟨1, 1024, 1024, 0, [1, 2], false, false⟩ }) ⟨1, 1024, 1024, 0, [1, 2], false, false⟩ ∧
    preUpdVerifyComplete ((up [(MGMT_STATUS_UPD_BUSY, 1)]).setMgmt fun m => { m with upd := some ⟨1, 1024, 1024, 0, [1, 2], false, true⟩ }) ⟨1, 1024, 1024, 0, [1, 2], false, true⟩ 1 ∧
    preUpdSelectTrial (op [0, 1, 7]) (up [(MGMT_STATUS_IMG_VALID_B, 1)]) 1 7 ∧
    preUpdSelectTrial (op [0, 0, 1]) { up [(MGMT_STATUS_IMG_VALID_A, 1)] with flash := ((up []).selWrite (1, 1, 3)).flash } 0 1 ∧
    preUpdSelectConfirm (op [1, 1, 0]) { up [(MGMT_STATUS_IMAGE, 1), (MGMT_STATUS_TRIAL, 1)] with flash := ((up []).selWrite (1, 1, 3)).flash } 0 ∧
    preUpdSelectPrefer (op [2, 1, 0]) (up [(MGMT_STATUS_IMAGE, 0), (MGMT_STATUS_IMG_VALID_B, 1)]) 1 0 ∧
    preUpdSelectDenied (op [0, 1, 7]) (up []) 1 7 ∧
    preLogRead (op [4097, 1, 0]) (put 0x1C0020 (wordsLE [4097, 2, 3, 4, 5, 6, 7, 0xFFFFFFFF]) (up [(MGMT_LOG_SEQ_NEXT, 4098)])) 4097 1 [4097, 2, 3, 4, 5, 6, 7, 0xFFFFFFFF] ∧
    preLogReadNone (op [4098, 127, 0]) (up [(MGMT_LOG_SEQ_NEXT, 4098)]) 4098 127 ∧
    preLogReadPersistent (op [1, 5, 1]) { up [] with flash := putBytes 0x80000 (wordsLE ([0, 2, 3, 4, 5, 6, 7, 0] ++ [1, 2, 3, 4, 5, 6, 7, 8] ++ [2, 2, 3, 4, 5, 6, 7, 0x10008])) [] } 1 5 ∧
    prePersistentLogAppend ((up []).setMgmt fun m => { m with persistQ := [[1, 2, 3, 4, 5, 6, 7, 0xFFFFFFFF], []] }) [1, 2, 3, 4, 5, 6, 7, 0xFFFFFFFF] [[]] ∧
    preLifetimeSample ((up [(MGMT_TEMPi_TEMP 7, 1250), (MGMT_TEMPi_TEMP 0, 0xFFF6)]).setMgmt fun m => { m with life := (List.replicate 63 0).set 3 7 }) 17 1250 0xFFFFFFF6 ∧
    preLifetimeAppend ((up []).setMgmt fun m => { m with life := List.replicate 63 0xFFFFFFFF }) ∧
    preLifetimeAppendFails ((up []).setMgmt fun m => { m with life := List.replicate 63 5 }) ∧
    preLifeRead (op []) ((up []).setMgmt fun m => { m with life := List.replicate 63 5 }) ∧
    preDieSensorUpdate (regs [(MGMT_STATUS_PHASE, 4), (PWR_STATUS_DOMAIN_ON, 3)]) (Vector.replicate 8 1200) (Vector.replicate 10 900) ∧
    preDieSensorHot (regs [(MGMT_STATUS_PHASE, 4), (PWR_STATUS_DOMAIN_ON, 3)]) ((Vector.replicate 8 1200).set 6 1201) (Vector.replicate 10 900) 6 ∧
    preDieSensorDrift (up [(CAL_CTRL_AUTO 0, 0), (CAL_CTRL_AUTO 1, 0), (TDC_CALTEMPi_TEMP 8, 500), (TDC_CHn_STAT_OWNER 2, 0x0A02)]) ((Vector.replicate 8 300).set 5 400) (Vector.replicate 10 900) ∧
    preDramSensorRead (regs [(MGMT_STATUS_PHASE, 4), (PWR_STATUS_DOMAIN_ON, 3), (DRAMC_CONFIG_EN 0, 1), (DRAMC_CONFIG_EN 1, 1)]) (some 700) none ∧
    preDramSensorPassed (up [(DRAMC_CONFIG_EN 1, 1)]) 700 ∧
    preSensorRead (op []) (up [(MGMT_VMONj_MV 9, 3300)]) ∧
    preMgmtStatus (op []) { (up [(MGMT_STATUS_IMG_VALID_A, 1)]).setMgmt (fun m => { m with record := [1, 77] }) with flash := putBytes 0x10000C (wordsLE [0x01020003, 5]) [] } ∧
    preCoilReference ((up [(HK_COILc_MAP_EN 3, 1), (HK_COILc_MAP_RTD_ACC 3, 0), (HK_COILc_MAP_REF_ACC 3, 1), (HK_ACCa_CNT_CNT 0, 8000), (HK_ACCa_CNT_CNT 1, 8000)]).setHk fun h => { h with accs := (h.accs.set 0 ⟨181734400, 0, 0, none⟩).set 1 ⟨167688000, 0, 0, none⟩ }) 3 0 1 21501 ∧
    preCoilEmpty (up [(HK_COILc_MAP_EN 3, 1), (HK_COILc_MAP_RTD_ACC 3, 63), (BRIL_COILk_T_VALID 1 1, 1)]) 3 63 := by
  iterate 5 refine And.intro (by decide +kernel) ?_
  refine And.intro witness_cfgCommit ?_
  iterate 30 refine And.intro (by decide +kernel) ?_
  decide +kernel

theorem witness_PerformanceCounters :
    prePmonClr ((up [(PMON_WRAP_WRAP, 0x81)]).setPmon fun p => { p with cnt := Vector.replicate 8 77, nowAt := 5 }) ∧
    prePmonSnapGo { ((up [(PMON_WRAP_WRAP, 0x81)]).setPmon fun p => { p with cnt := (Vector.replicate 8 77).set 7 0xFEDCBA987654 }) with cyc := 0x123456789AB } ∧
    prePmonSnapNotAvailable (up [(LINK_GRPn_CTRL_LOOP 7, 1)]) ∧
    prePmonSnapNotAvailable (up [(SYS_STATUS_CORE_WAIT, 1)]) ∧
    prePmonBwGo (up [(PMON_BW_CTRL_WIN, 1000000)]) ∧
    prePmonBwGoBusy (up [(PMON_STATUS_BW_BUSY, 1)]) ∧
    preBandwidthClose { ((up [(PMON_STATUS_BW_BUSY, 1)]).setPmon fun p => { p with bwEnd := some 0, bw := Vector.replicate 14 5, bw2 := Vector.replicate 14 7 }) with cyc := 1 } 0 ∧
    preBandwidthCloseCont { ((up [(PMON_STATUS_BW_BUSY, 1), (PMON_BW_CTRL_CONT, 1), (PMON_BW_CTRL_WIN, 1)]).setPmon fun p => { p with bwEnd := some 0, bw := Vector.replicate 14 5, bw2 := Vector.replicate 14 7 }) with cyc := 1 } 0 ∧
    prePmonCntLoRead ((up []).setPmon fun p => { p with cnt := Vector.replicate 8 0xFEDCBA987654 }) 7 ∧
    prePmonConfig (op [7, 0x30030]) (up []) 7 0x30030 ∧
    prePmonConfig (op [7, 0x20043]) (up []) 7 0x20043 ∧
    prePmonConfigBad (op [7, 0x30020]) (up []) 7 0x30020 ∧
    prePmonConfigBad (op [8, 1]) (up []) 8 1 ∧
    prePmonConfigBad (op [7, 0x44]) (up []) 7 0x44 ∧
    prePmonConfigDenied (op [7, 1]) (up [(PMON_CNTk_CTRL_EN 7, 1)]) 7 1 ∧
    prePmonSnapshot (op [0]) { ((up [(PMON_WRAP_WRAP, 0x81)]).setPmon fun p => { p with cnt := (Vector.replicate 8 77).set 7 0xFEDCBA987654 }) with cyc := 0x123456789AB } ∧
    prePmonSnapshotClear (op [3]) { ((up [(PMON_WRAP_WRAP, 0x81)]).setPmon fun p => { p with cnt := (Vector.replicate 8 77).set 7 0xFEDCBA987654 }) with cyc := 0x123456789AB } ∧
    prePmonSnapshotNotReady (op [3]) (up [(PWR_STATUS_BUSY, 1)]) 3 ∧
    prePmonRead (op [0]) { ((up [(PMON_WRAP_WRAP, 0x81)]).setPmon fun p => { p with cnt := (Vector.replicate 8 77).set 7 0xFEDCBA987654 }) with cyc := 0x123456789AB } ∧
    prePmonSample { (up []).setPmon (fun r => { r with cnt := Vector.replicate 8 0xFEDCBA987654, read := some (⟨.spi, 0xE2, 0x1234, [0]⟩, 3, [1, 2]) }) with cyc := 9 } ⟨.spi, 0xE2, 0x1234, [0]⟩ 3 0 [1, 2] ∧
    prePmonReadEnd (op [0]) { (up [(PMON_WRAP_WRAP, 0x81)]).setPmon (fun r => { r with cnt := Vector.replicate 8 0xFEDCBA987654, read := some (⟨.spi, 0xE2, 0x1234, [0]⟩, 3, List.replicate 16 5) }) with cyc := 51 } ⟨.spi, 0xE2, 0x1234, [0]⟩ 3 (List.replicate 16 5) ∧
    prePmonBwStart (op [0x010F4240, 1]) (up []) 1000000 1 ∧
    prePmonBwAlready (op [1, 1]) (up [(PMON_STATUS_BW_BUSY, 1)]) 1 ∧
    prePmonBwBad (op [1000001, 0]) (up []) 1000001 0 ∧
    prePmonBwRead (op [1, 0]) ((up [(PMON_BW_SEQ_COUNT, 3)]).setPmon fun p => { p with res := Vector.ofFn fun i => 0xBA00000000 + i.val }) 1 ∧
    prePmonBwNotReady (op [1, 0]) (up []) 1 ∧
    prePmonGetStatus (op []) (up [(PMON_CTRL_RUN, 1)]) := by
  iterate 26 refine And.intro (by decide +kernel) ?_
  decide +kernel

theorem witness_EmitterDrive :
    preRampStep (up [(EMIT_CHc_SET_RAMP 3, 200), (EMIT_CHc_SET_CODE 3, 4095), (EMIT_CHc_ACT_CODE 3, 3900), (EMIT_STATUS_ON, 12)]) 3 ∧
    preRampStep (up [(EMIT_CHc_SET_RAMP 2, 200), (EMIT_CHc_SET_CODE 2, 0), (EMIT_CHc_ACT_CODE 2, 150), (EMIT_STATUS_ON, 15)]) 2 ∧
    preSinkTemperatureOk (up []) 3 1499 ∧
    preSinkTrip (up [(EMIT_CHc_ACT_CODE 3, 3900), (EMIT_STATUS_ON, 12)]) 3 1500 ∧
    preDchGo (up [(DCH_CTRL_EN, 1)]) ∧
    preDchGoIgnored (up [(DCH_CTRL_EN, 1), (DCH_STATUS_BUSY, 1)]) ∧
    preDchTransferComplete ((up [(DCH_CTRL_EN, 1), (DCH_STATUS_BUSY, 1)]).setEmit fun e => { e with dchOff := true }) ∧
    preDchTransferComplete (up [(DCH_CTRL_EN, 1), (DCH_STATUS_BUSY, 1)]) ∧
    preDchTransferReply (op []) ((up [(DCH_CTRL_EN, 1), (DCH_STATUS_BUSY, 1)]).setEmit fun e => { e with dchTo := some ⟨.spi, 0xCD, 0x1234, [2]⟩ }) ⟨.spi, 0xCD, 0x1234, [2]⟩ ∧
    preEmitSet (op [3, 0x01400C00]) (up [(EMIT_STATUS_ON, 1)]) 3 0x01400C00 ∧
    preEmitSet (op [3, 0x00000C00]) (up [(EMIT_STATUS_SD, 8)]) 3 0x00000C00 ∧
    preEmitRestart (op [3]) (up [(EMIT_STATUS_SD, 8), (EMIT_CHc_SET_CODE 3, 77), (EMIT_CHc_TEMP_TEMP 3, 1250)]) 3 ∧
    preEmitRestartHot (op [3]) (up [(EMIT_STATUS_SD, 8), (EMIT_CHc_TEMP_TEMP 3, 1251)]) 3 ∧
    preEmitRestartAlready (op [3]) (up [(EMIT_STATUS_SD, 7)]) 3 ∧
    preDchAcquire (op [1]) (up [(TDC_CHn_STAT_OWNER 3, 0x0903)]) ∧
    preDchAcquireTaken (op [1]) (up [(TDC_CHn_STAT_OWNER 3, 0x0A03)]) ∧
    preDchRelease (op [0]) (up [(DCH_CTRL_EN, 1)]) ∧
    preDchWrite (op [2, 255, 32, 0x80000001]) (up [(DCH_CTRL_EN, 1)]) 255 32 0x80000001 ∧
    preEmitGetStatus (op []) (up [(DCH_STATUS_DONE, 1)]) := by
  iterate 18 refine And.intro (by decide +kernel) ?_
  decide +kernel

theorem witness_Calibration :
    preCalCtrlRun (up []) 1 ∧
    preCalCtrlRunBusy (up [(CAL_STAT_STATE 1, 4)]) 1 ∧
    preCalCtrlAbort (up [(CAL_STAT_STATE 1, 4)]) 1 ∧
    preRetryWaitExpiry (up [(CAL_STAT_RETRY_WAIT 0, 1), (MGMT_TEMPi_TEMP 2, 356), (CAL_TEMP_TEMP 0, 315)]) 0 ∧
    preRetryWaitExpiryEqual (up [(CAL_STAT_RETRY_WAIT 0, 1), (MGMT_TEMPi_TEMP 2, 356), (CAL_TEMP_TEMP 0, 316)]) 0 ∧
    preAccumulationStart (up [(CAL_STAT_STATE 1, 1), (SEQ_STATUS_STATE 1, 2)]) 1 ∧
    preAccumulationA ((up [(CAL_STAT_STATE 1, 2), (CAL_CFG_NSAMP_LOG2 1, 20)]).setCal 1 fun c => { c with accA := (Vector.replicate 3 ⟨2 ^ 20, -1572864, -1572864, 4000000, 4080400, 40000, -250000, none⟩) }) 1 (Vector.replicate 3 ⟨2 ^ 20, -1572864, -1572864, 4000000, 4080400, 40000, -250000, none⟩) ∧
    preAccumulationB ((up [(CAL_STAT_STATE 1, 3), (CAL_CFG_NSAMP_LOG2 1, 20)]).setCal 1 fun c => { c with accB := (Vector.replicate 3 ⟨2 ^ 20, -1572864, -1572864, 4000000, 4080400, 40000, -250000, none⟩), a := some (((up [(CAL_CFG_NSAMP_LOG2 1, 20)]).estimate 1 (Vector.replicate 3 ⟨2 ^ 20, -1572864, -1572864, 4000000, 4080400, 40000, -250000, none⟩)).1) }) 1 (Vector.replicate 3 ⟨2 ^ 20, -1572864, -1572864, 4000000, 4080400, 40000, -250000, none⟩) (((up [(CAL_CFG_NSAMP_LOG2 1, 20)]).estimate 1 (Vector.replicate 3 ⟨2 ^ 20, -1572864, -1572864, 4000000, 4080400, 40000, -250000, none⟩)).1) (((up [(CAL_CFG_NSAMP_LOG2 1, 20)]).estimate 1 (Vector.replicate 3 ⟨2 ^ 20, -1572864, -1572864, 4000000, 4080400, 40000, -250000, none⟩)).1) ∧
    preAccumulationDisagree ((up [(CAL_STAT_STATE 1, 3), (CAL_CFG_NSAMP_LOG2 1, 20)]).setCal 1 fun c => { c with accB := (Vector.replicate 3 ⟨2 ^ 20, -1572864, -1572864, 4000000, 4080400, 40000, -250000, none⟩), a := some ⟨Vector.replicate 6 0, Vector.replicate 3 0, Vector.replicate 3 0, Vector.replicate 3 0⟩ }) 1 (Vector.replicate 3 ⟨2 ^ 20, -1572864, -1572864, 4000000, 4080400, 40000, -250000, none⟩) ⟨Vector.replicate 6 0, Vector.replicate 3 0, Vector.replicate 3 0, Vector.replicate 3 0⟩ (((up [(CAL_CFG_NSAMP_LOG2 1, 20)]).estimate 1 (Vector.replicate 3 ⟨2 ^ 20, -1572864, -1572864, 4000000, 4080400, 40000, -250000, none⟩)).1) ∧
    preAccumulationTimeout { (up [(CAL_STAT_STATE 1, 3)]) with cyc := 4000000001 } 1 ∧
    preCalApply ((up [(CAL_STAT_STATE 1, 4), (SEQ_STATUS_STATE 1, 2), (MGMT_TEMPi_TEMP 2, 356)]).setCal 1 fun c => { c with settled := true, found := some ⟨Vector.replicate 6 (-20), Vector.replicate 3 16224, Vector.replicate 3 (-162), Vector.replicate 3 (-256)⟩ }) 1 ⟨Vector.replicate 6 (-20), Vector.replicate 3 16224, Vector.replicate 3 (-162), Vector.replicate 3 (-256)⟩ ∧
    preCalApplyHeld ((up [(CAL_STATUS_WPEND_B, 1), (SEQ_STATUS_STATE 1, 3)]).setCal 1 fun c => { c with held := some [0x1FFFF, 1, 2, 3, 4, 5, 0xFFF, 7, 8, 0xFFFF, 10, 11, 0xFFFF, 13, 14, 0x1FF] }) 1 [0x1FFFF, 1, 2, 3, 4, 5, 0xFFF, 7, 8, 0xFFFF, 10, 11, 0xFFFF, 13, 14, 0x1FF] ∧
    preCalRun (op [1]) (up [(RXF_CTRL_BRI_EN 1, 1)]) 1 ∧
    preCalRunAlready (op [1]) (up [(CAL_STAT_STATE 1, 1)]) 1 ∧
    preCalConfig (op [1, 4, 0xFF01071E, 0xFF010203]) (up []) 1 4 0xFF01071E 0xFF010203 ∧
    preCalConfigAuto (op [1, 7, 0xFF01071E, 0xFF010203]) (up [(MGMT_TEMPi_TEMP 7, 2)]) 1 7 0xFF01071E 0xFF010203 ∧
    preCalConfigDenied (op [1, 7, 0, 0]) (up [(CAL_STAT_STATE 1, 1)]) 1 7 0 0 ∧
    preCalRead (op [1]) (up [(CAL_PHp_PH 1 2, 0xFFFF)]) 1 ∧
    preCalWrite (op (1 :: [0x1FFFF, 1, 2, 3, 4, 5, 0xFFF, 7, 8, 0xFFFF, 10, 11, 0xFFFF, 13, 14, 0x1FF])) (up [(SEQ_STATUS_STATE 1, 1)]) 1 [0x1FFFF, 1, 2, 3, 4, 5, 0xFFF, 7, 8, 0xFFFF, 10, 11, 0xFFFF, 13, 14, 0x1FF] ∧
    preCalWriteHeld (op (1 :: [0x1FFFF, 1, 2, 3, 4, 5, 0xFFF, 7, 8, 0xFFFF, 10, 11, 0xFFFF, 13, 14, 0x1FF])) (up [(SEQ_STATUS_STATE 1, 2)]) 1 [0x1FFFF, 1, 2, 3, 4, 5, 0xFFF, 7, 8, 0xFFFF, 10, 11, 0xFFFF, 13, 14, 0x1FF] ∧
    preCalGetStatus (op [1]) (up [(CAL_RUNS_COUNT 1, 5)])  1 := by
  iterate 20 refine And.intro (by decide +kernel) ?_
  decide +kernel

theorem witness_Housekeeping :
    preHkDiscard (hkSys 0x00080000 0x00090001 fun a => { a with discard := true }) (hkCodes 5 6) { hkFresh false 3 0 with settling := false } ∧
    preHkKeep (hkSys 0x00080000 0x00090001 id) (hkCodes (-5) 32767) { hkFresh false 3 0 with settling := false, discard := false } ∧
    preHkSlotDone (hkSys 0x00080000 0x00090000 fun a => { a with done := 7 }) (hkCodes (-5) 32767) { hkFresh false 3 7 with settling := false, discard := false } ∧
    preHkPassDone ((hkSys 0x00080000 0x00090000 fun a => { a with done := 7 }).set HK_NSLOT_NREG 4) (hkCodes (-5) 32767) { hkFresh false 3 7 with settling := false, discard := false } ∧
    preHkInterrupted ((hkSys 0x00080000 0x00090001 fun a => { a with discard := true, done := 5, parity := 3 }).setHk fun h => { h with injWait := true }) (hkCodes 5 6) { hkFresh false 3 5 with settling := false, parity := 3 } ∧
    preHkPairFirst ((hkSys 0x000801F4 0x00000B13 id).set HK_RTD_STAT_ON 8) (hkCodes 5 6) { hkFresh false 3 0 with settling := false, discard := false } ∧
    preHkPairSecond ((hkSys 0x000801F4 0x00000B13 fun a => { a with second := true, first0 := some 1000, done := 1, parity := 1 }).set HK_RTD_STAT_ON 8) (hkCodes (-32768) 6) { hkFresh false 3 1 with settling := false, discard := false, second := true, first0 := some 1000, parity := 1 } 1000 ∧
    preHkCheckFails ((hkSys 0x000801F4 0x00000B13 id).set HK_RTD_STAT_ON 8) ⟨⟨5, 900, 1051, false, false⟩, ⟨5, 0, 0, true, true⟩⟩ { hkFresh false 3 0 with settling := false, discard := false } false true ∧
    preHkMirror (hkSys 0x80080000 0x00000001 id) (hkCodes 117 100) { hkFresh false 3 0 with settling := false, discard := false } ∧
    preHkWindowExit ((hkSys 0x00080000 0x00000001 id).set (HK_ACCa_CTRL_WEN 6) 1 |>.set (HK_ACCa_WHI_WHI 6) 0xFFFFFFFF) (hkCodes 0 100) { hkFresh false 3 0 with settling := false, discard := false } ∧
    preHkWindowBack ((hkSys 0x00080000 0x00000001 id).set (HK_ACCa_CTRL_WEN 6) 1 |>.set (HK_ACCa_CTRL_OUT 6) 1 |>.set (HK_ACCa_CNT_CNT 6) 0xFFFFFFFF) (hkCodes 0 100) { hkFresh false 3 0 with settling := false, discard := false } ∧
    preHkFaultEnd (((hkSys 0x000801F4 0x00000B13 fun a => { a with second := true, skip0 := true, done := 7, faults := [(3, true, false)] }).set HK_NSLOT_NREG 4).set PWR_STATUS_DOMAIN_ON 3) (hkCodes (-32768) 6) { hkFresh false 3 7 with settling := false, discard := false, second := true, skip0 := true, faults := [(3, true, false)] } 3 true false ∧
    preHkSettleExpiry (hkSys 0x00080000 0x00090001 fun a => { a with settling := true }) { hkFresh false 3 0 with discard := false } ∧
    prePeriodBoundary (up [(HK_CTRL_MODE, 2), (HK_STATUS_SLOT, 5)]) ∧
    prePeriodOverrun { (up [(HK_CTRL_MODE, 2), (HK_STATUS_REG_BUSY, 1)]) with cyc := 1 } ∧
    preHkStart (up [(HK_CTRL_MODE, 3)]) ∧
    preAccClr (up [(HK_ACCa_CNT_CNT 71, 0xFFFFFFFF), (HK_ACCa_CTRL_FULL 71, 1)]) 71 ∧
    preAccCntRead ((up []).setHk fun h => { h with accs := h.accs.set 71 ⟨-5000000000, -32768, 7, none⟩ }) 71 ∧
    preRtdRearm (up [(HK_RTD_STAT_FAULT, 15)]) 3 ∧
    preRtdRearm (up [(HK_RTD_STAT_FAULT, 7)]) 3 ∧
    preHkSeqConfig (op [0, 0x37, 1000, 2, 0x000801F4, 0x08230803, 0x83FF0000, 0x00000002]) (up [(HK_CTRL_INJ_LW, 1)]) 0x37 1000 0x000801F4 0x08230803 0x83FF0000 0x00000002 ∧
    preHkSeqConfigPeriodic (op [0, 2, 4294967295, 0]) { (up []) with cyc := 77 } 4294967295 ∧
    preHkSeqConfigInjected (op [1, 0x30, 0, 1, 0x83FF0000, 0x00000002]) (up []) 0x30 0x83FF0000 0x00000002 ∧
    preHkSeqConfigDenied (op [0, 0, 5, 1, 0x00010000, 1]) (up [(HK_CTRL_MODE, 3)]) 0 5 0x00010000 1 ∧
    preHkInject (op []) (up [(HK_STATUS_INJ_SLOT, 3)]) ∧
    preHkInjectHeld (op []) (up [(HK_STATUS_INJ_BUSY, 1)]) ∧
    preHkInjectAlready (op []) (up [(HK_STATUS_INJ_BUSY, 1), (HK_STATUS_INJ_HELD, 1)]) ∧
    preHkWindow (op [71, 0xFFFFFFFE, 1, 1]) (up [(HK_ACCa_CTRL_OUT 71, 1)]) 71 0xFFFFFFFE 1 1 ∧
    preHkRtd (op [3, 3]) (up [(HK_RTD_STAT_FAULT, 15), (HK_RTD_CTRL_EN, 15), (HK_RTD_STAT_ON, 7)]) 3 true true ∧
    preHkRtd (op [2, 0]) (up [(HK_RTD_STAT_FAULT, 8), (HK_RTD_CTRL_EN, 15), (HK_RTD_STAT_ON, 7)]) 2 false false ∧
    preHkReadAcc (op [70, 2, 1]) ((up [(HK_ACCa_CNT_CNT 71, 9), (HK_ACCa_CNT_CNT 69, 9), (HK_ACCa_CTRL_FULL 70, 1)]).setHk fun h => { h with accs := h.accs.set 71 ⟨-5000000000, -32768, 7, none⟩ }) 70 2 true ∧
    preHkGetStatus (op []) (up [(HK_PASSES_COUNT, 3)]) := by
  iterate 31 refine And.intro (by decide +kernel) ?_
  decide +kernel

theorem witness_TimeMeasurement :
    preEdgePrescaled (up [(TDC_CHn_STAT_OWNER 3, 0x0A03), (TDC_CHn_CTRL_MODE 3, 1), (TDC_CHn_CTRL_POL 3, 2), (TDC_CHn_CTRL_PRESC 3, 255)]) 3 ⟨100, 5, true⟩ 3 ∧
    preEdgeDead { (up [(TDC_CHn_STAT_OWNER 2, 0x0A02), (TDC_CHn_CTRL_MODE 2, 1), (TDC_CHn_CTRL_POL 2, 1)]) with tdc := { TdcRun.init with last := TdcRun.init.last.set 2 (some (100 * 65536 - 157286 - 64 * 5 - 32)) } } 2 ⟨100, 5, true⟩ 2 (100 * 65536 - 157286 - 64 * 5 - 32) ∧
    preEdgeStampMode (up [(TDC_CHn_STAT_OWNER 2, 0x0A02), (TDC_CHn_CTRL_MODE 2, 1), (TDC_CHn_CTRL_POL 2, 1)]) 2 ⟨100, 1023, true⟩ 2 6488096 ∧
    preStampAccepted ((up [(TDC_CHn_CTRL_REF 2, 9)]).setSq 1 fun q => { q with launches := [20, 10] }) 2 524288 600000 true ∧
    preStampEvery ((up [(TDC_CHn_CTRL_REF 0, 15)]).set SEQ_REF_STATUS_EPOCH_VALID 0) 0 0x123456789A true ∧
    preStampRejected (up [(TDC_CHn_CTRL_REF 2, 8)]) 2 6488096 true 0 ∧
    preStampRejected ((up [(TDC_CHn_CTRL_REF 2, 9), (TDC_CHn_WIN_OPEN_OPEN 2, 2)]).setSq 1 fun q => { q with launches := [20, 10] }) 2 600000 true 1 ∧
    preStampLost ((up [(TDC_CHn_CTRL_REF 1, 15)]).setTdc 1 fun c => { c with fifo := List.replicate 64 [1, 2, 3, 4, 5, 6] }) 1 65536 false ∧
    preStampsDecided { (up [(TDC_CHn_CTRL_REF 0, 15)]).setTdc 0 (fun c => { c with wait := [(5, true, 1)] }) with cyc := 10 } 0 5 1 true ∧
    preEdgeGate ((up [(TDC_CHn_STAT_OWNER 1, 0x0A01), (TDC_CHn_CTRL_MODE 1, 2)]).setTdc 1 fun c => { c with gate := some (0, 65504) }) 1 ⟨1, 0, false⟩ 1 65504 0 65504 ∧
    preGateCloseOnce { (up [(TDC_CHn_STAT_GATE_BUSY 3, 1)]).setTdc 3 (fun c => { c with gate := some (0, 1100000), stamps := [1048580, 524288, 0] }) with cyc := 100 } 3 0 1100000 (-5 / 393216, 1310725 / 131072) ∧
    preGateCloseCont { (up [(TDC_CHn_STAT_GATE_BUSY 3, 1), (TDC_CHn_CTRL_CONT 3, 1)]).setTdc 3 (fun c => { c with gate := some (0, 1100000), stamps := [524288, 0] }) with cyc := 100 } 3 0 1100000 ∧
    preTdcCalibrationGood (up [(TDC_STATUS_CAL_BUSY, 0x1FF), (MGMT_TEMPi_TEMP 5, 512)]) 8 (List.replicate 512 1000 ++ List.replicate 512 1048) ∧
    preTdcCalibrationBad (up [(TDC_STATUS_CAL_BUSY, 0x1FF), (MGMT_TEMPi_TEMP 5, 512)]) 8 (List.replicate 512 2048 ++ List.replicate 512 0) ∧
    preFifo0Read ((up []).setTdc 3 fun c => { c with fifo := [[1, 2, 3, 4, 5, 0xFFFFFFFF], [9]] }) 3 ∧
    preFifo0Read (up [(TDC_CHn_FIFOw_WORD 3 0, 77)]) 3 ∧
    preTdcConfig (op [0, 3, 0x9FF19, 5, 5, 10000000]) ((up []).setTdc 3 fun c => { c with fifo := [[1]] }) 3 0x9FF19 5 5 10000000 ∧
    preTdcConfigOff (op [0, 1, 0xF0000, 5, 5, 10]) ((up [(TDC_CHn_STAT_OWNER 1, 0x0A01), (TDC_CHn_CTRL_MODE 1, 2), (TDC_CHn_STAT_GATE_BUSY 1, 1)]).setTdc 1 fun c => { c with fifo := [[1]], gate := some (1, 2) }) 1 0xF0000 5 5 10 ∧
    preTdcConfigBusy (op [0, 1, 2, 5, 5, 10]) (up [(TDC_CHn_STAT_OWNER 1, 0x0101)]) 1 2 5 5 10 ∧
    preTdcCalibrate (op [0, 0x1FE]) (up [(TDC_CHn_STAT_OWNER 0, 0x0A00)]) 0x1FE ∧
    preTdcRead (op [0, 3, 1]) ((up [(TDC_CHn_CTRL_MODE 3, 1)]).setTdc 3 fun c => { c with fifo := [[1, 2, 3, 4, 5, 6], [7, 8, 9, 10, 11, 12]] }) 3 1 ∧
    preTdcRead (op [0, 3, 170]) ((up [(TDC_CHn_CTRL_MODE 3, 1)]).setTdc 3 fun c => { c with fifo := [[1, 2, 3, 4, 5, 6], [7, 8, 9, 10, 11, 12]] }) 3 170 ∧
    preTdcFreqStart (op [0, 2, 1]) ((up [(TDC_CHn_CTRL_MODE 2, 2)]).setTdc 2 fun c => { c with per := 1677713211 }) 2 ∧
    preTdcFreqHeld (op [0, 2, 1]) ((up [(TDC_CHn_CTRL_MODE 2, 2), (TDC_CHn_STAT_GATE_BUSY 2, 1)]).setTdc 2 fun c => { c with per := 1677713211 }) 2 ∧
    preTdcFreqRead (op [0, 2, 0]) ((up [(TDC_CHn_CTRL_MODE 2, 2), (TDC_CHn_STAT_RESULT_VALID 2, 1)]).setTdc 2 fun c => { c with per := 1677713211 }) 2 1677713211 ∧
    preTdcGetStatus (op []) (up []) := by
  iterate 25 refine And.intro (by decide +kernel) ?_
  decide +kernel

theorem witness_MemorySystem :
    preDramRequest (dramSys []) 1 ⟨6, true, 0x3FFFFFFC0⟩ (1, 3, 15, 65535) ∧
    preDramRequestPanic ((((dramSys [])).set (DRAMC_PANICp_ON 1 3) 1).set (BRIL_ACC_BASE_HI_ADDR 0) 0x84) 1 ⟨3, false, 64⟩ ∧
    preSlotActivate (dramSys [⟨5, false, 1, 3, 15, 7, 0⟩]) 1 ⟨5, false, 1, 3, 15, 7, 0⟩ 0 ∧
    preSlotHit ((dramSys [⟨5, true, 1, 3, 15, 7, 0⟩]).setDram 1 fun d => { d with rows := [(31, 7)] }) 1 ⟨5, true, 1, 3, 15, 7, 0⟩ 0 ∧
    preSlotRefresh (((dramSys [⟨5, true, 1, 3, 15, 7, 0⟩]).set (DRAMC_CHSTAT_OWED0 1) 9)) 1 0 ∧
    preBankIdleTimeout { ((dramSys []).setDram 1 fun d => { d with rows := [(bankKey 1 15, 7)], actAt := [(bankKey 1 15, 0)] }) with cyc := 100000 } 1 1 15 7 ∧
    preRefreshTimerExpiry (dramSys []) 1 1 ∧
    preTempHot ((dramSys []).set (DRAMC_CHSTAT_HOT 1) 1) 1 950 ∧
    preTempCrossing (up []) 1 800 ∧
    preTempCool ((dramSys []).set (DRAMC_CHSTAT_HOT 1) 1) 1 770 ∧
    preTempCool ((dramSys []).set (DRAMC_CHSTAT_HOT 1) 1) 0 0xFFFF ∧
    preTempStale { up [] with cyc := 51200001 } 1 ∧
    preZqcsInterval (dramSys []) 1 ∧
    preDramcMrsGo (((dramSys []).set (DRAMC_MRS_RANK 1) 1).set (DRAMC_MRS_MR 1) 6 |>.set (DRAMC_MRS_VALUE 1) 0x3FFFF) 1 1 6 ∧
    preTrnStart (up [(DRAMC_TRN_CTRL_MODE 1, 3), (DRAMC_TRN_RESULT_DONE 1, 1)]) 1 ∧
    preTrainingPassComplete ((up []).setDram 1 fun d => { d with pass := true }) 1 0x1FF ∧
    preDramBringup (up [(DRAMC_CHSTAT_TRAINING 0, 1), (DRAMC_CHSTAT_TRAINING 1, 1), (DRAMC_CONFIG_EN 1, 1), (DRAMC_CONFIG_WIDTH 1, 1)]) 1 ⟨true, Vector.replicate 7 0x155, Vector.replicate 9 (1, 2, 3, 4), 55⟩ ∧
    preDramLayout (up [(DRAMC_CHSTAT_TRAINING 0, 1), (DRAMC_CONFIG_EN 0, 1)]) 0 ⟨true, Vector.replicate 7 0x155, Vector.replicate 9 (1, 2, 3, 4), 55⟩ ∧
    preDramTrainFail (up [(DRAMC_CHSTAT_TRAINING 0, 1), (DRAMC_CHSTAT_TRAINING 1, 1), (DRAMC_CONFIG_EN 1, 1)]) 1 ⟨false, Vector.replicate 7 0, Vector.replicate 9 (1, 2, 3, 4), 55⟩ ∧
    preFillGo (((dramSys []).set (DRAMC_FILL_ADDR_HI_ADDR 1) 0x84).set (DRAMC_FILL_LEN_BURSTS 1) 2) 1 0x8400000000 2 ∧
    preFillComplete ((up [(DRAMC_FILL_CTRL_BUSY 1, 1)]).setDram 1 fun d => { d with fill := some (0x8400000040, 2) }) 1 0x8400000040 2 ∧
    preCombiningTimeout { put 0x1FFFF8 [1, 2, 3, 4, 5, 6, 7, 8] (up []) with cyc := 1, scrub := { (up []).scrub with combCmd := some ⟨0x1FFFF8, 0xAABBCCDD, 0⟩ } } ⟨0x1FFFF8, 0xAABBCCDD, 0⟩ ∧
    preScrubGo (up [(SCRUB_START_LO_ADDR, 0x2000000 / 8), (SCRUB_WORDS_WORDS, 3)]) ∧
    preScrubRange (up [(SCRUB_START_HI_ADDR, 0x80), (SCRUB_WORDS_WORDS, 3)]) ∧
    preScrubAbort { up [(SCRUB_STATUS_BUSY, 1)] with scrub := { (up []).scrub with wait := 16, pass := some ⟨0x2000000, 3, 7, 1, 2, some 0x2000008, none⟩ } } ⟨0x2000000, 3, 7, 1, 2, some 0x2000008, none⟩ ∧
    preScrubPassComplete { up [(SCRUB_STATUS_BUSY, 1)] with scrub := { (up []).scrub with wait := 16, pass := some ⟨0x2000000, 0, 7, 1, 2, some 0x2000008, some 0x2000010⟩ } } ⟨0x2000000, 0, 7, 1, 2, some 0x2000008, some 0x2000010⟩ ∧
    preScrubWaitExpiry { put 0x2000000 [1, 2, 3, 4, 5, 6, 7, 8] (up []) with scrub := { (up []).scrub with wait := 16, pass := some ⟨0x2000000, 3, 7, 1, 2, none, none⟩ } } ⟨0x2000000, 3, 7, 1, 2, none, none⟩ ∧
    preScrubCe { { put 0x2000000 [1, 2, 3, 4, 5, 6, 7, 8] (up []) with ecc := [(0x2000000, false)] } with scrub := { (up []).scrub with wait := 16, pass := some ⟨0x2000000, 3, 7, 1, 2, none, none⟩ } } ⟨0x2000000, 3, 7, 1, 2, none, none⟩ ∧
    preScrubInj (up []) 2 := by
  iterate 28 refine And.intro (by decide +kernel) ?_
  decide +kernel

theorem witness_Link :
    preArbiterAlarm ({ grpSys 4 with out := { (grpSys 4).out with alarms := [⟨List.replicate 10 7, 0, 1⟩, ⟨[], 0, 1⟩], tx := [⟨wordsLE [2, 3], none⟩] } }.setGrp 4 fun r => { r with blks := [(1, 5)] }) 4 ⟨List.replicate 10 7, 0, 1⟩ [⟨[], 0, 1⟩] ∧
    preArbiterStream { put (txAddr 0x3FFF0) (wordsLE [2, 3, 4, 5]) (grpSys 4) with out := { (grpSys 4).out with tx := [⟨wordsLE [2, 3, 4, 5], some 0x3FFF0⟩], bulk := [⟨1, 2, [3], 0, none, none⟩] } } 4 ⟨wordsLE [2, 3, 4, 5], some 0x3FFF0⟩ [] 0x3FFF0 ∧
    prePacketConsumed (grpSys 4) 4 (aPacket 2 false 0 [1, 2, 3, 4]) ∧
    prePacketForwarded (mgrSys) 0 4 (aPacket 0 false 0 [1, 2, 3, 4]) ∧
    prePacketCommand (grpSys 4) 4 (aPacket 2 true 0 (bytesLE 4 0x30 ++ pktIdent)) pktIdent ∧
    prePacketBad (grpSys 4) 4 ⟨1, false, 0, 0, 0, [1, 2, 3, 4], 0, false, []⟩ ∧
    prePacketBad (grpSys 4) 4 ⟨0, false, 0, 0, 0, [], 0, true, []⟩ ∧
    prePacketGap (grpSys 4) 4 (aPacket 1 false 1 [1, 2, 3, 4]) ∧
    preDownGroupStart ((downSys).setGrp 0 fun r => { r with waiting := true }) 0 ∧
    preRegularAm ((grpSys 4).set (LINK_GRPn_STATUS_TLANE 4) 4) 4 ∧
    preRegularAmAdds (((grpSys 4).set (LINK_GRPn_STATUS_MASK 4) 1).setGrp 4 fun r => { r with joining := [5] }) 4 5 ∧
    preReplayTimeout { ((grpSys 4).setGrp 4 fun r => { r with replay := [⟨1, false, 0, 0, 3, []⟩, ⟨0, false, 0, 0, 9, []⟩] }) with cyc := 1000000 } 4 ∧
    preTimingSetSend (downSys) 0 12345 ∧
    preTimingSetReceive (wrkSys) 4 ⟨3, 5, 6, true, false, false, true, 1, 0, false, 0⟩ 99 ∧
    preEchoRequest ((wrkSys).setGrp 4 fun r => { r with eid := 127 }) 4 77 ∧
    preRouteSend { wrkSys with link := { (wrkSys).link with routeDue := true } } 4 ∧
    preLinkRunTrigger ({ up [(SEQ_STATUS_STATE 0, 1), (SEQ_CTRL_TRIG_SRC 0, 5), (SEQ_REF_STATUS_EPOCH_VALID, 1)] with link := { (up []).link with linkTrig := some 0 } }.setTrk fun r => { r with model := some ⟨0, 0, 100000⟩ }) 0 0 ∧
    preLinkSetId (op [0, 1, 0]) (up []) 1 0 ∧
    preLinkSetWorker (op [0, 2, 15]) (up [(SEQ_REF_STATUS_EPOCH_VALID, 1)]) 15 ∧
    preLinkGroupConfigure (op [0, 6, 1, 0, 0]) (up []) 6 1 0 ∧
    preLinkGroupEnable (op [0, 6, 1, 0, 1]) ((up [(LINK_GRPn_CTRL_WIDTH 6, 1)]).setGrp 6 fun r => { r with conf := true }) 6 ∧
    preLinkTimingCfg (op [0, 0x0064000A, 255, 0xFFFFFFFF, 65535]) (up []) 0x0064000A 255 0xFFFFFFFF 65535 ∧
    preLinkRunStart (op [0, 0, 1000]) ((up [(LINK_ID_MODE, 1), (SEQ_REF_STATUS_EPOCH_VALID, 1)]).setTrk fun r => { r with model := some ⟨0, 0, 100000⟩ }) 0 1000 ∧
    preLinkLoop (op [0, 7, 1]) ((up []).setGrp 7 fun r => { r with conf := true }) 7 1 ∧
    preLinkTopology (op []) ((up [(LINK_ID_MODE, 1)]).setGrp 6 fun r => { r with conf := true }) ∧
    preLinkRttStatus (op []) (up [(LINK_ID_MODE, 2), (LINK_RTT_PS, 0xFFFFFFFF)]) ∧
    preLinkGetStatus (op [0, 7]) ((up []).setGrp 7 fun r => { r with conf := true }) 7 := by
  iterate 26 refine And.intro (by decide +kernel) ?_
  decide +kernel

theorem witness_Lanes :
    preRefclkLaneBad (up [(LANE_CTRL_EN 2, 1), (LANE_STATUS_STATE 2, 6), (LANE_QUAD_STATUS_REFCLK_OK, 1), (LANE_QUAD_STATUS_PLL_LOCK_Q0, 1), (LANE_STATUS_STATE 3, 8)]) ∧
    preRefclkLaneOk (up []) ∧
    preLanePllLock { up [(LANE_QUAD_STATUS_REFCLK_OK, 1)] with cyc := 77 } 1 ∧
    preDetectFirst (up [(LANE_STATUS_STATE 5, 1), (LANE_QUAD_STATUS_PLL_LOCK_Q1, 1)]) 5 true ∧
    preDetectFirst ((up [(LANE_STATUS_STATE 5, 1), (LANE_QUAD_STATUS_PLL_LOCK_Q1, 1)]).setLane 5 fun l => { l with detects := 1 }) 5 false ∧
    preDetectSecond ((up [(LANE_STATUS_STATE 5, 1), (LANE_QUAD_STATUS_PLL_LOCK_Q1, 1)]).setLane 5 fun l => { l with detects := 1 }) 5 ∧
    preBitLock (up [(LANE_STATUS_STATE 5, 2), (LANE_RXEQ_CTLE 5, 7), (LANE_CTRL_EQ_AUTO 5, 0)]) 5 ∧
    preBitLockAuto (up [(LANE_STATUS_STATE 5, 2), (LANE_CTRL_EQ_AUTO 5, 1), (LANE_RXEQ_CTLE_MIN 5, 2), (LANE_RXEQ_CTLE_MAX 5, 5)]) 5 ∧
    preCdrLockLost (up [(LANE_STATUS_STATE 5, 3), (LANE_STATUS_BIT_LOCK 5, 1)]) 5 ∧
    preTrainTimeout { (up [(LANE_STATUS_STATE 5, 4)]).setLane 5 (fun l => { l with trainDue := some 0 }) with cyc := 1 } 5 0 ∧
    preRetrain (up [(LANE_STATUS_STATE 5, 6), (LANE_ES_STAT_BUSY 5, 1)]) 5 ∧
    preRetrainInGroup (grpSys 4) 5 4 ∧
    preTestModeEntry (up [(LANE_STATUS_STATE 5, 6)]) 5 ∧
    preTestModeExit (up [(LANE_STATUS_STATE 5, 8), (LANE_CTRL_MODE 5, 1), (LANE_CTRL_EN 5, 1), (LANE_TEST_LOOP 5, 2)]) 5 ∧
    preBlockGainsLock ((up [(LANE_CTRL_EN 5, 1), (LANE_STATUS_STATE 5, 3), (LANE_STATUS_BIT_LOCK 5, 1)]).setLane 5 fun l => { l with goodSh := 63 }) 5 ⟨2, 0x123456789ABCDEF0, false, 0⟩ ∧
    preBlockHunts ((up [(LANE_CTRL_EN 5, 1), (LANE_STATUS_STATE 5, 3), (LANE_STATUS_BIT_LOCK 5, 1)]).setLane 5 fun l => { l with goodSh := 63 }) 5 ⟨3, 5, false, 0⟩ ∧
    preBlockBadHeader ((up [(LANE_CTRL_EN 5, 1), (LANE_STATUS_STATE 5, 6), (LANE_STATUS_BLK_LOCK 5, 1)]).setLane 5 fun l => { l with winBad := 30, winBlocks := 62 }) 5 ⟨3, 5, false, 0⟩ ∧
    preSlotTrain (up [(LANE_STATUS_STATE 5, 2)]) 5 ∧
    preSlotTrain ((up [(LANE_STATUS_STATE 5, 3)]).setLane 5 fun l => { l with slotNo := 31 }) 5 ∧
    preIdleEntry (up [(LANE_STATUS_STATE 5, 6), (LANE_STATUS_RX_IDLE 5, 1)]) 5 ∧
    preIdleEntry (up [(LANE_STATUS_STATE 5, 6)]) 5 ∧
    preFastExit (up [(LANE_STATUS_TX_IDLE 5, 1)]) 5 ∧
    preEsStart (up [(LANE_STATUS_STATE 5, 6), (LANE_ES_ERR_COUNT 5, 9)]) 5 ∧
    preEsRefused (up [(LANE_STATUS_STATE 5, 3)]) 5 ∧
    preEsAbort (up [(LANE_ES_STAT_BUSY 5, 1)]) 5 ∧
    preEsScanDone (up [(LANE_ES_STAT_BUSY 5, 1), (LANE_ES_CTRL_DWELL 5, 10)]) 5 1024 ∧
    preInjBit (up [(LANE_STATUS_STATE 5, 8), (LANE_TEST_PRBS_TX 5, 3)]) 5 ∧
    preInjRateInjection { up [(LANE_STATUS_STATE 5, 8), (LANE_TEST_PRBS_TX 5, 3), (LANE_TEST_INJ_RATE 5, 1)] with cyc := 1000 } 5 ∧
    prePrbsWrongBit ((up [(LANE_CTRL_EN 5, 1), (LANE_STATUS_STATE 5, 8), (LANE_TEST_PRBS_RX 5, 1), (LANE_PRBS_STAT_PRBS_LOCK 5, 1)]).setLane 5 fun l => { l with prbs := 0x41 }) 5 false ∧
    prePrbsRightBit ((up [(LANE_CTRL_EN 5, 1), (LANE_STATUS_STATE 5, 8), (LANE_TEST_PRBS_RX 5, 1), (LANE_PRBS_STAT_PRBS_LOCK 5, 1)]).setLane 5 fun l => { l with prbs := 0x41, prbsRem := 65535 }) 5 true := by
  iterate 29 refine And.intro (by decide +kernel) ?_
  decide +kernel

theorem witness_CommandIntake :
    prePacketQueued (up []) 1 3 pktIdent ∧
    prePacketSpi (up []) pktIdent ∧
    prePacketLength (up []) (pktIdent ++ [0]) ⟨.spi, 0x1234, []⟩ ∧
    prePacketCrc (up []) (pktIdent.set 1 1) ⟨.spi, 0x1234, []⟩ ∧
    prePacketBusy (fullQueue (up [])) pktIdent ⟨.spi, 0x1234, []⟩ ∧
    preCommandDequeue { up [(CMD_TMO_MS, 500)] with cmd := { (up []).cmd with queue := [⟨.spi, 0x18, 7, [0]⟩, ⟨.spi, 0, 8, []⟩] } } ⟨.spi, 0x18, 7, [0]⟩ [⟨.spi, 0, 8, []⟩] ∧
    preDequeueUnknown { up [] with cmd := { (up []).cmd with queue := [⟨.spi, 0x06, 7, [0]⟩] } } ⟨.spi, 0x06, 7, [0]⟩ [] ∧
    preSpiPoll (up []) ∧
    preCmdWrite (up []) pktIdent ∧
    preCmdWriteShort (up []) [1, 2, 3] ∧
    preRplyRead { up [] with cmd := { (up []).cmd with replies := [[1, 2, 3], [4]] } } 4 [1, 2, 3] [[4]] ∧
    preRplyRead { up [] with cmd := { (up []).cmd with replies := [[1, 2, 3], [4]] } } 2 [1, 2, 3] [[4]] ∧
    preRplyReadEmpty (up []) 4 ∧
    preSpiBadOp (up []) 0xFF ∧
    preNopCommand (op []) (up []) ∧
    preIdentCmd (op []) (up [(MGMT_FW_VERSION_VERSION, 0x10203)]) ∧
    preStatusCmd (op []) (up []) ∧
    preResetCmd (op [0x52000001]) (up []) ∧
    preFactoryTest (op [1, 2, 3]) (up []) 15 := by
  iterate 18 refine And.intro (by decide +kernel) ?_
  decide +kernel

theorem witness_Output :
    preHandoverHold (outSys [aFrame 33 [1, 2, 0x8000]] []) (aFrame 33 [1, 2, 0x8000]) [] ∧
    preHandoverDrop (outSys [aFrame 33 [1]] [⟨aFrame 33 [], 0, 1, 0⟩, ⟨aFrame 33 [], 1, 1, 0⟩]) (aFrame 33 [1]) [] ∧
    preHandoverDiscard (outSys [aFrame 34 [1]] []) (aFrame 34 [1]) [] ∧
    preFrameEncode (put 0x8000080000 [1, 0, 2, 0, 0, 0x80, 0, 0] (outSys [] [⟨aFrame 32 [], 0, 3, 0⟩])) ⟨aFrame 32 [], 0, 3, 0⟩ [] [1, 0, 2, 0, 0, 0x80, 0, 0] ∧
    preBlockEncodeRaw { outSys [] [] with out := { (outSys [] []).out with enc := some ⟨aFrame 33 [1, 2, 3], true, 0, true, 0, [], []⟩ } } ⟨aFrame 33 [1, 2, 3], true, 0, true, 0, [], []⟩ ∧
    preBlockEncodeCoded { outSys [] [] with out := { (outSys [] []).out with enc := some ⟨aFrame 33 (List.replicate 100 0x1234), true, 2, true, 0, [], []⟩ } } ⟨aFrame 33 (List.replicate 100 0x1234), true, 2, true, 0, [], []⟩ ∧
    preFrameTail { outSys [] [] with out := { (outSys [] []).out with enc := some ⟨aFrame 33 [1, 2, 3], true, 0, true, 1, [], [1, 2, 3]⟩ } } ⟨aFrame 33 [1, 2, 3], true, 0, true, 1, [], [1, 2, 3]⟩ ∧
    preDropMarkerSend { outSys [] [] with out := { (outSys [] []).out with drops := [(33, 7, 2), (0, 1, 1)] } } ⟨1, 1⟩ 7 2 [(0, 1, 1)] ∧
    preUserAreaPoll (put (engMem 15 1 + 0x1FC00) (List.replicate 8 0) (put (userBase 1) (wordsLE [0xFFFFFFFF, 16] ++ List.replicate 24 0 ++ List.replicate 16 0x77) (up [(OUT_CTRL_USER_EN15, 1)]))) 1 0xFFFFFFFF 16 (List.replicate 16 0x77) ∧
    preOutStreamOn (op [0, 49, 1]) (up [(OUT_STATUS_HOLD_VALID, 1), (OUT_STREAM_EN_B_EN, 1)]) 1 17 ∧
    preOutStreamOff (op [0, 17, 0]) (up [(OUT_STATUS_HOLD_VALID, 1), (OUT_STREAM_EN_A_EN, 0x3FFFF)]) 0 17 ∧
    preOutCmp (op [1, 0xFFFF001B]) (up []) 1 0xFFFF001B ∧
    preOutCmp (op [0, 0x00010036]) (up []) 0 0x00010036 ∧
    preOutMemSetup (op [0, 0x1000, 0x80]) memSys 0x1000 0x80 ∧
    preOutCmpSave (op [0, 33, 8, 0x84]) (put (histBase 33) [1, 0, 2, 0, 3, 0, 4, 0] { up [(DRAMC_CONFIG_CAP_GIB 1, 1)] with out := { (up []).out with hist := [(33, ⟨9, 4, 100, 2, 1, 0xABCD, true⟩)] } }) 1 1 8 0x84 ⟨9, 4, 100, 2, 1, 0xABCD, true⟩ [1, 0, 2, 0, 3, 0, 4, 0] ∧
    preOutCmpRestore (op [0, 33, 8, 0x84]) (put 0x8400000008 (wordsLE [33, 9, 4, 100 + 2 ^ 18, crc32c [1, 0, 2, 0, 3, 0, 4, 0], 0, 0, 0] ++ [1, 0, 2, 0, 3, 0, 4, 0]) (up [(DRAMC_CONFIG_CAP_GIB 1, 1)])) 1 1 8 0x84 9 4 (100 + 2 ^ 18) (crc32c [1, 0, 2, 0, 3, 0, 4, 0]) [1, 0, 2, 0, 3, 0, 4, 0] ∧
    preOutSnapRead (op [0, 0x1FFFF8, 8]) (put (snapBase + 0x1FFFF8) [1, 2, 3, 4, 5, 6, 7, 8] (up [])) 0x1FFFF8 8 [1, 2, 3, 4, 5, 6, 7, 8] ∧
    preOutUser (op [0, 3]) (up [(OUT_CTRL_USER_EN15, 1), (OUT_STATUS_USER_HALT14, 1)]) 3 ∧
    preOutGetStatus (op []) (up [(OUT_DROP_COUNT_COUNT, 7)]) := by
  iterate 13 refine And.intro (by decide +kernel) ?_
  refine And.intro witness_outMemSetup ?_
  iterate 4 refine And.intro (by decide +kernel) ?_
  decide +kernel

theorem witness_Brillouin :
    preSpectrumFirst brilSys 1 (brilCap 100) [] 0 ∧
    preSpectrumNext (brilSys2 sums) 1 (brilCap 100) [] 0 sums 7 ∧
    preSpectrumClip (clipSys 131326) 1 { brilCap 100 with clips := [131326] } [] 131326 ∧
    preDescriptorPost (put (engMem 13 1 + 0x1FE00) (List.replicate 64 0xEE) ((up [(BRIL_FIT_ENG_ENG 1, 13), (BRIL_ACC_BASE_HI_ADDR 1, 0x80), (BRIL_RES_BASE_HI_ADDR 1, 0x81)]).setBril 1 fun b => { b with closed := some ⟨1, 77, 0, false, false, false, false, 3, [10, 11, 12, 13, 14, 15]⟩, readySeq := 0xFFFFFFFF })) 1 ⟨1, 77, 0, false, false, false, false, 3, [10, 11, 12, 13, 14, 15]⟩ ∧
    preDoneSeqPoll (put (engMem 13 1 + 0x1FE00 + 56) [0, 0, 0, 0, 5, 0, 0, 0x80] ((up [(BRIL_FIT_ENG_ENG 1, 13), (BRIL_STAT_HELD 1, 1)]).setBril 1 fun b => { b with posted := some ⟨1, 77, 0, false, false, false, false, 3, []⟩, held := [1], readySeq := 0x80000005 })) 1 ⟨1, 77, 0, false, false, false, false, 3, []⟩ [0, 0, 0, 0, 5, 0, 0, 0x80] ∧
    preResultAreaRead (put (engMem 13 1 + 0x1FF60) (List.replicate 8 0) (put 0x8000000000 [1, 2, 3, 4, 5, 6, 7, 8] ((up [(BRIL_FIT_ENG_ENG 1, 13), (BRIL_RES_BASE_HI_ADDR 1, 0x80), (SEQ_LEN_LEN 1, 2), (SEQ_NG_NG 1, 14682), (SEQ_GUARD_GUARD 1, 0)]).setBril 1 fun b => { b with posted := some ⟨1, 77, 0, true, false, false, false, 3, [0, 0, 0, 0, 0, 3]⟩, done := true }))) 1 ⟨1, 77, 0, true, false, false, false, 3, [0, 0, 0, 0, 0, 3]⟩ ∧
    preBrilConfig (op [1, 0xA, 10000, 0xFFFFFFFF, 90, 13]) ((up [(SEQ_INT_DIV_INT_DIV, 40000)]).setTrk fun r => { r with model := some ⟨0, 0, 100000⟩ }) 1 0xA 10000 0xFFFFFFFF 90 13 ∧
    preBrilMemSetup (op [1, 0, 0x80, 0, 0x81]) memSys 1 0 0x80 0 0x81 ∧
    preBrilEnable (op [1, 1]) ((up [(BRIL_ACC_CYCLES 1, 10000)]).setTrk fun r => { r with model := some ⟨0, 0, 100000⟩ }) 1 ∧
    preBrilDisable (op [1, 0]) ((up [(BRIL_CTRL_EN 1, 1), (BRIL_STAT_OPEN 1, 1)]).setBril 1 fun b => { b with open_ := some 3, since := some 9 }) 1 ∧
    preBrilCoil (op [1, 1, 0x00110010, 0x80FFFFFF]) (up [(SEQ_LEN_LEN 1, 1000), (SEQ_NG_NG 1, 14682)]) 1 1 16 17 0x80FFFFFF ∧
    preBrilDump (op [1, 1, 400, 20]) (up [(SEQ_LEN_LEN 1, 1000), (SEQ_NG_NG 1, 14682), (SEQ_GUARD_GUARD 1, 0)]) 1 400 20 ∧
    preBrilDumpCancel (op [1, 0, 0, 0]) ((up [(BRIL_STATUS_SNAP_OWN, 1), (BRIL_STATUS_DUMP_PEND, 1)]).setBril 1 fun b => { b with dump := some (1, 2) }) 1 0 0 ∧
    preBrilGetStatus (op [1]) (up [(BRIL_LOST_COUNT 1, 7)]) 1 := by
  refine And.intro (by decide +kernel) ?_
  refine And.intro witness_spectrumNext ?_
  iterate 5 refine And.intro (by decide +kernel) ?_
  refine And.intro witness_brilMemSetup ?_
  iterate 5 refine And.intro (by decide +kernel) ?_
  decide +kernel

theorem witness_EnginePorts :
    preILwait 9 (landS 0x5000000000000000 [⟨1, 9, 0⟩] [⟨0, 4, 0⟩]) 0x5000000000000000 ⟨1, 9, 0⟩ [] ∧
    preILwaitStall 9 (landS 0x5000000000000000 [] [⟨0, 4, 0⟩]) 0x5000000000000000 ∧
    preILwaitTwo 9 (landS 0x5000000000000000 [] [⟨0, 4, 0⟩, ⟨1, 4, 0⟩]) 0x5000000000000000 ∧
    preILtest 9 (landS 0x51f0000000000000 [⟨1, 9, 0⟩] [⟨0, 4, 0⟩]) 0x51f0000000000000 ∧
    preILtest 9 (landS 0x51f0000000000000 [] []) 0x51f0000000000000 ∧
    preILrdG 9 (landS 0x52e0000000000000 [] [⟨1, 9, 0⟩]) 0x52e0000000000000 ⟨1, 9, 0⟩ [] 8 ∧
    preILrdV 9 (landS 0x52d0000000000001 [] [⟨1, 9, 0⟩]) 0x52d0000000000001 ⟨1, 9, 0⟩ [] 8 ∧
    preILrel 9 (landS 0x5300000000000000 [] [⟨1, 9, 0⟩]) 0x5300000000000000 ⟨1, 9, 0⟩ [] ∧
    preILrel 9 (landS 0x5300000000000000 [] [⟨0, 9, 0⟩, ⟨1, 5, 0⟩]) 0x5300000000000000 ⟨0, 9, 0⟩ [⟨1, 5, 0⟩] ∧
    preILrelNone 9 (landS 0x5300000000000000 [] []) 0x5300000000000000 ∧
    preIDstart 9 (engS 9 5 0x5400000000000001 fun e => { e with dma := e.dma.set 1 ⟨65532, 0x2C00000, 32768, 0, 0, false, false⟩ }) 0x5400000000000001 1 ∧
    preIDstartDesc 9 (engS 9 5 0x5400000000000001 fun e => { e with dma := e.dma.set 1 ⟨0, 0, 12, 0, 0, false, false⟩ }) 0x5400000000000001 1 ∧
    preIDstartStall 9 ((engS 9 5 0x5400000000000001 id).set (ENG_DEk_DMA1_BUSY 9) 1) 0x5400000000000001 1 ∧
    preIDwait 9 ((engS 9 5 0x55f0000000000001 id).set (ENG_DEk_DMA1_DONE 9) 1) 0x55f0000000000001 1 ∧
    preIFout 9 (foutS 0x5623400000000000) 0x5623400000000000 0 100 8 1 ∧
    preIFoutSpan 9 ((foutS 0x5623400000000000).set (ENG_DEk_SPAN_LO_FIRST 9) 200) 0x5623400000000000 ∧
    preIFclose 9 (foutS 0x5703000000000000) 0x5703000000000000 ∧
    preIQrep 9 (foutS 0x5803000000000002) 0x5803000000000002 ∧
    preIQrepStall 9 ((foutS 0x5803000000000002).setEng 9 fun e => { e with qreps := List.replicate 16 ⟨0, 0, 1⟩ }) 0x5803000000000002 ∧
    preIAlarm 9 ((foutS 0x590c000000000000).set OUT_STATUS_HOST_ACTIVE 1) 0x590c000000000000 ∧
    preIAlarmStall 9 (fullAlarms ((foutS 0x590c000000000000).set OUT_STATUS_HOST_ACTIVE 1)) 0x590c000000000000 := by
  iterate 20 refine And.intro (by decide +kernel) ?_
  decide +kernel

theorem witness_EngineLoadsStores :
    preILdG 9 (memS 0x40f0080800000000) 0x40f0080800000000 9 1 ∧
    preILdG 9 (memS 0x40f357f800000000) 0x40f357f800000000 10 2 ∧
    preILdV 9 (memS 0x40f8080800000000) 0x40f8080800000000 9 1 ∧
    preILdV 9 (memS 0x40fb57f800000000) 0x40fb57f800000000 10 2 ∧
    preILdV 9 (memS 0x40fd280800000000) 0x40fd280800000000 8 8 ∧
    preIStG 9 (memS 0x41f0080800000000) 0x41f0080800000000 9 1 ∧
    preIStG 9 (memS 0x41f357f800000000) 0x41f357f800000000 10 2 ∧
    preIStV 9 (memS 0x41f8080800000000) 0x41f8080800000000 9 1 ∧
    preIStV 9 (memS 0x41fb57f800000000) 0x41fb57f800000000 10 2 ∧
    preIStV 9 (memS 0x41fd280800000000) 0x41fd280800000000 8 8 ∧
    preISst 9 (memS 0x4230080f20000000) 0x4230080f20000000 9 1 ∧
    preISst 9 (memS 0x423357ff00000000) 0x423357ff00000000 10 2 ∧
    preISst 9 (memS 0x42352808f8000000) 0x42352808f8000000 8 8 ∧
    preILdMisaligned 9 (memS 0x40f3000000000000) 0x40f3000000000000 9 2 := by
  iterate 13 refine And.intro (by decide +kernel) ?_
  decide +kernel

theorem witness_EngineAccumulators :
    preIMacop 9 (vecS 0x3025700000000000) 0x3025700000000000 none none ∧
    preIMacop 9 (vecS 0x302570210126a02a) 0x302570210126a02a (some ⟨false, 0, 1, 8, 2⟩) (some ⟨true, 5, 1, 8, 5⟩) ∧
    preIMacop 9 (vecS 0x302570210124dfec) 0x302570210124dfec (some ⟨false, 0, 1, 8, 2⟩) (some ⟨false, 5, 2, -8, 6⟩) ∧
    preIMsu 9 (vecS 0x3125700000000000) 0x3125700000000000 none none ∧
    preIMsu 9 (vecS 0x312570210126a02a) 0x312570210126a02a (some ⟨false, 0, 1, 8, 2⟩) (some ⟨true, 5, 1, 8, 5⟩) ∧
    preIMsu 9 (vecS 0x312570210124dfec) 0x312570210124dfec (some ⟨false, 0, 1, 8, 2⟩) (some ⟨false, 5, 2, -8, 6⟩) ∧
    preIMacf 9 (vecS 0x3225700000000000) 0x3225700000000000 none none ∧
    preIMacf 9 (vecS 0x322570210126a02a) 0x322570210126a02a (some ⟨false, 0, 1, 8, 2⟩) (some ⟨true, 5, 1, 8, 5⟩) ∧
    preIMacf 9 (vecS 0x322570210124dfec) 0x322570210124dfec (some ⟨false, 0, 1, 8, 2⟩) (some ⟨false, 5, 2, -8, 6⟩) ∧
    preIMsuf 9 (vecS 0x3325700000000000) 0x3325700000000000 none none ∧
    preIMsuf 9 (vecS 0x332570210126a02a) 0x332570210126a02a (some ⟨false, 0, 1, 8, 2⟩) (some ⟨true, 5, 1, 8, 5⟩) ∧
    preIMsuf 9 (vecS 0x332570210124dfec) 0x332570210124dfec (some ⟨false, 0, 1, 8, 2⟩) (some ⟨false, 5, 2, -8, 6⟩) ∧
    preIMpy 9 (vecS 0x3435700000000000) 0x3435700000000000 none none ∧
    preIMpy 9 (vecS 0x343570210126a02a) 0x343570210126a02a (some ⟨false, 0, 1, 8, 2⟩) (some ⟨true, 5, 1, 8, 5⟩) ∧
    preIMpy 9 (vecS 0x343570210124dfec) 0x343570210124dfec (some ⟨false, 0, 1, 8, 2⟩) (some ⟨false, 5, 2, -8, 6⟩) ∧
    preIMpyf 9 (vecS 0x3535700000000000) 0x3535700000000000 none none ∧
    preIMpyf 9 (vecS 0x353570210126a02a) 0x353570210126a02a (some ⟨false, 0, 1, 8, 2⟩) (some ⟨true, 5, 1, 8, 5⟩) ∧
    preIMpyf 9 (vecS 0x353570210124dfec) 0x353570210124dfec (some ⟨false, 0, 1, 8, 2⟩) (some ⟨false, 5, 2, -8, 6⟩) ∧
    preIClra 9 (vecS 0x3635700000000000) 0x3635700000000000 none none ∧
    preIClra 9 (vecS 0x363570210126a02a) 0x363570210126a02a (some ⟨false, 0, 1, 8, 2⟩) (some ⟨true, 5, 1, 8, 5⟩) ∧
    preIClra 9 (vecS 0x363570210124dfec) 0x363570210124dfec (some ⟨false, 0, 1, 8, 2⟩) (some ⟨false, 5, 2, -8, 6⟩) ∧
    preILda 9 (vecS 0x37357b8000000000) 0x37357b8000000000 none none ∧
    preILda 9 (vecS 0x37357ba10126a02a) 0x37357ba10126a02a (some ⟨false, 0, 1, 8, 2⟩) (some ⟨true, 5, 1, 8, 5⟩) ∧
    preILda 9 (vecS 0x37357ba10124dfec) 0x37357ba10124dfec (some ⟨false, 0, 1, 8, 2⟩) (some ⟨false, 5, 2, -8, 6⟩) := by
  iterate 23 refine And.intro (by decide +kernel) ?_
  decide +kernel

theorem witness_EngineVector :
    preIVadd 9 (vecS 0x2065700000000000) 0x2065700000000000 none none ∧
    preIVadd 9 (vecS 0x206570210126a02a) 0x206570210126a02a (some ⟨false, 0, 1, 8, 2⟩) (some ⟨true, 5, 1, 8, 5⟩) ∧
    preIVadd 9 (vecS 0x206570210124dfec) 0x206570210124dfec (some ⟨false, 0, 1, 8, 2⟩) (some ⟨false, 5, 2, -8, 6⟩) ∧
    preIVsub 9 (vecS 0x2165700000000000) 0x2165700000000000 none none ∧
    preIVsub 9 (vecS 0x216570210126a02a) 0x216570210126a02a (some ⟨false, 0, 1, 8, 2⟩) (some ⟨true, 5, 1, 8, 5⟩) ∧
    preIVsub 9 (vecS 0x216570210124dfec) 0x216570210124dfec (some ⟨false, 0, 1, 8, 2⟩) (some ⟨false, 5, 2, -8, 6⟩) ∧
    preIVadds 9 (vecS 0x2265700000000000) 0x2265700000000000 none none ∧
    preIVadds 9 (vecS 0x226570210126a02a) 0x226570210126a02a (some ⟨false, 0, 1, 8, 2⟩) (some ⟨true, 5, 1, 8, 5⟩) ∧
    preIVadds 9 (vecS 0x226570210124dfec) 0x226570210124dfec (some ⟨false, 0, 1, 8, 2⟩) (some ⟨false, 5, 2, -8, 6⟩) ∧
    preIVsubs 9 (vecS 0x2365700000000000) 0x2365700000000000 none none ∧
    preIVsubs 9 (vecS 0x236570210126a02a) 0x236570210126a02a (some ⟨false, 0, 1, 8, 2⟩) (some ⟨true, 5, 1, 8, 5⟩) ∧
    preIVsubs 9 (vecS 0x236570210124dfec) 0x236570210124dfec (some ⟨false, 0, 1, 8, 2⟩) (some ⟨false, 5, 2, -8, 6⟩) ∧
    preIVand 9 (vecS 0x2465700000000000) 0x2465700000000000 none none ∧
    preIVand 9 (vecS 0x246570210126a02a) 0x246570210126a02a (some ⟨false, 0, 1, 8, 2⟩) (some ⟨true, 5, 1, 8, 5⟩) ∧
    preIVand 9 (vecS 0x246570210124dfec) 0x246570210124dfec (some ⟨false, 0, 1, 8, 2⟩) (some ⟨false, 5, 2, -8, 6⟩) ∧
    preIVor 9 (vecS 0x2565700000000000) 0x2565700000000000 none none ∧
    preIVor 9 (vecS 0x256570210126a02a) 0x256570210126a02a (some ⟨false, 0, 1, 8, 2⟩) (some ⟨true, 5, 1, 8, 5⟩) ∧
    preIVor 9 (vecS 0x256570210124dfec) 0x256570210124dfec (some ⟨false, 0, 1, 8, 2⟩) (some ⟨false, 5, 2, -8, 6⟩) ∧
    preIVxor 9 (vecS 0x2665700000000000) 0x2665700000000000 none none ∧
    preIVxor 9 (vecS 0x266570210126a02a) 0x266570210126a02a (some ⟨false, 0, 1, 8, 2⟩) (some ⟨true, 5, 1, 8, 5⟩) ∧
    preIVxor 9 (vecS 0x266570210124dfec) 0x266570210124dfec (some ⟨false, 0, 1, 8, 2⟩) (some ⟨false, 5, 2, -8, 6⟩) ∧
    preIVcmplt 9 (vecS 0x2865700000000000) 0x2865700000000000 none none ∧
    preIVcmplt 9 (vecS 0x286570210126a02a) 0x286570210126a02a (some ⟨false, 0, 1, 8, 2⟩) (some ⟨true, 5, 1, 8, 5⟩) ∧
    preIVcmplt 9 (vecS 0x286570210124dfec) 0x286570210124dfec (some ⟨false, 0, 1, 8, 2⟩) (some ⟨false, 5, 2, -8, 6⟩) ∧
    preIVsra 9 (vecS 0x2765778000000000) 0x2765778000000000 none none ∧
    preIVsra 9 (vecS 0x276577a10126a02a) 0x276577a10126a02a (some ⟨false, 0, 1, 8, 2⟩) (some ⟨true, 5, 1, 8, 5⟩) ∧
    preIVsra 9 (vecS 0x276577a10124dfec) 0x276577a10124dfec (some ⟨false, 0, 1, 8, 2⟩) (some ⟨false, 5, 2, -8, 6⟩) ∧
    preIValign 9 (vecS 0x2965738000000000) 0x2965738000000000 none none ∧
    preIValign 9 (vecS 0x296573a10126a02a) 0x296573a10126a02a (some ⟨false, 0, 1, 8, 2⟩) (some ⟨true, 5, 1, 8, 5⟩) ∧
    preIValign 9 (vecS 0x296573a10124dfec) 0x296573a10124dfec (some ⟨false, 0, 1, 8, 2⟩) (some ⟨false, 5, 2, -8, 6⟩) ∧
    preIVeven 9 (vecS 0x2a65700000000000) 0x2a65700000000000 none none ∧
    preIVeven 9 (vecS 0x2a6570210126a02a) 0x2a6570210126a02a (some ⟨false, 0, 1, 8, 2⟩) (some ⟨true, 5, 1, 8, 5⟩) ∧
    preIVeven 9 (vecS 0x2a6570210124dfec) 0x2a6570210124dfec (some ⟨false, 0, 1, 8, 2⟩) (some ⟨false, 5, 2, -8, 6⟩) ∧
    preIVodd 9 (vecS 0x2b65700000000000) 0x2b65700000000000 none none ∧
    preIVodd 9 (vecS 0x2b6570210126a02a) 0x2b6570210126a02a (some ⟨false, 0, 1, 8, 2⟩) (some ⟨true, 5, 1, 8, 5⟩) ∧
    preIVodd 9 (vecS 0x2b6570210124dfec) 0x2b6570210124dfec (some ⟨false, 0, 1, 8, 2⟩) (some ⟨false, 5, 2, -8, 6⟩) ∧
    preIVsplat 9 (vecS 0x2c65700000000000) 0x2c65700000000000 none none ∧
    preIVsplat 9 (vecS 0x2c6570210126a02a) 0x2c6570210126a02a (some ⟨false, 0, 1, 8, 2⟩) (some ⟨true, 5, 1, 8, 5⟩) ∧
    preIVsplat 9 (vecS 0x2c6570210124dfec) 0x2c6570210124dfec (some ⟨false, 0, 1, 8, 2⟩) (some ⟨false, 5, 2, -8, 6⟩) ∧
    preIVext 9 (vecS 0x2d65738000000000) 0x2d65738000000000 none none ∧
    preIVext 9 (vecS 0x2d6573a10126a02a) 0x2d6573a10126a02a (some ⟨false, 0, 1, 8, 2⟩) (some ⟨true, 5, 1, 8, 5⟩) ∧
    preIVext 9 (vecS 0x2d6573a10124dfec) 0x2d6573a10124dfec (some ⟨false, 0, 1, 8, 2⟩) (some ⟨false, 5, 2, -8, 6⟩) ∧
    preIVins 9 (vecS 0x2e65718000000000) 0x2e65718000000000 none none ∧
    preIVins 9 (vecS 0x2e6571a10126a02a) 0x2e6571a10126a02a (some ⟨false, 0, 1, 8, 2⟩) (some ⟨true, 5, 1, 8, 5⟩) ∧
    preIVins 9 (vecS 0x2e6571a10124dfec) 0x2e6571a10124dfec (some ⟨false, 0, 1, 8, 2⟩) (some ⟨false, 5, 2, -8, 6⟩) ∧
    preIVmove 9 (vecS 0x2f65700000000000) 0x2f65700000000000 none none ∧
    preIVmove 9 (vecS 0x2f6570210126a02a) 0x2f6570210126a02a (some ⟨false, 0, 1, 8, 2⟩) (some ⟨true, 5, 1, 8, 5⟩) ∧
    preIVmove 9 (vecS 0x2f6570210124dfec) 0x2f6570210124dfec (some ⟨false, 0, 1, 8, 2⟩) (some ⟨false, 5, 2, -8, 6⟩) ∧
    preISatv 9 (vecS 0x3865780000000000) 0x3865780000000000 none none ∧
    preISatv 9 (vecS 0x386578210126a02a) 0x386578210126a02a (some ⟨false, 0, 1, 8, 2⟩) (some ⟨true, 5, 1, 8, 5⟩) ∧
    preISatv 9 (vecS 0x386578210124dfec) 0x386578210124dfec (some ⟨false, 0, 1, 8, 2⟩) (some ⟨false, 5, 2, -8, 6⟩) ∧
    preIMoveMisaligned 9 (engS 9 5 0x2f00002000200000 fun e => { e with a := e.a.set 0 0xFFFC }) 0x2f00002000200000 (some ⟨false, 0, 0, 0, 2⟩) none := by
  iterate 51 refine And.intro (by decide +kernel) ?_
  decide +kernel

theorem witness_EngineControl :
    preIBr 9 (engS 9 1 0x18001fff00000000 id) 0x18001fff00000000 ∧
    preIBz 9 (engS 9 1 0x190f100000000000 fun e => { e with g := e.g.set 15 0x0 }) 0x190f100000000000 ∧
    preIBz 9 (engS 9 1 0x190f100000000000 fun e => { e with g := e.g.set 15 0x1 }) 0x190f100000000000 ∧
    preIBnz 9 (engS 9 1 0x1a0f100000000000 fun e => { e with g := e.g.set 15 0x1 }) 0x1a0f100000000000 ∧
    preIBnz 9 (engS 9 1 0x1a0f100000000000 fun e => { e with g := e.g.set 15 0x0 }) 0x1a0f100000000000 ∧
    preIBltz 9 (engS 9 1 0x1b0f100000000000 fun e => { e with g := e.g.set 15 0x80000000 }) 0x1b0f100000000000 ∧
    preIBltz 9 (engS 9 1 0x1b0f100000000000 fun e => { e with g := e.g.set 15 0x0 }) 0x1b0f100000000000 ∧
    preIBgez 9 (engS 9 1 0x1c0f100000000000 fun e => { e with g := e.g.set 15 0x0 }) 0x1c0f100000000000 ∧
    preIBgez 9 (engS 9 1 0x1c0f100000000000 fun e => { e with g := e.g.set 15 0x80000000 }) 0x1c0f100000000000 ∧
    preIJal 9 (engS 9 0x1FFF 0x1df0100000000000 id) 0x1df0100000000000 ∧
    preIJr 9 (engS 9 1 0x1e03000000000000 fun e => { e with g := e.g.set 3 0xFFFFFFF0 }) 0x1e03000000000000 ∧
    preILoop 9 (put (engMem 9 2 + 8 * 6) (bytesLE 8 0x0100000000000000) (engS 9 5 0x1f0320060000ffff id)) 0x1f0320060000ffff 0xFFFF 0x0100000000000000 ∧
    preILoop 9 (put (engMem 9 2 + 8 * 6) (bytesLE 8 0xFD00000000000000) (engS 9 5 0x1f03000600000000 fun e => { e with g := e.g.set 3 0x10002, loops := List.replicate 3 ⟨1, 7, 9⟩ })) 0x1f03000600000000 2 0xFD00000000000000 ∧
    preILoopZero 9 (put (engMem 9 2 + 8 * 0x1FFF) (bytesLE 8 0x0100000000000000) (engS 9 5 0x1f033fff00000000 id)) 0x1f033fff00000000 0x0100000000000000 ∧
    preILoopFifth 9 (put (engMem 9 2 + 8 * 6) (bytesLE 8 0x0100000000000000) (engS 9 5 0x1f0320060000ffff fun e => { e with loops := List.replicate 4 ⟨1, 7, 9⟩ })) 0x1f0320060000ffff 0x0100000000000000 ∧
    preILpop 9 (engS 9 5 0x1700000000000000 fun e => { e with loops := [⟨1, 5, 2⟩, ⟨0, 7, 3⟩] }) 0x1700000000000000 ⟨1, 5, 2⟩ [⟨0, 7, 3⟩] ∧
    preINop 9 (engS 9 0x1FFF 0xfd00000000000000 id) 0xfd00000000000000 ∧
    preILoopBack 9 (engS 9 5 0xfd00000000000000 fun e => { e with loops := [⟨2, 5, 2⟩] }) 0xfd00000000000000 ⟨2, 5, 2⟩ [] ∧
    preILoopEnd 9 (engS 9 5 0xfd00000000000000 fun e => { e with loops := [⟨2, 5, 1⟩] }) 0xfd00000000000000 ⟨2, 5, 1⟩ ∧
    preIHalt 9 (engS 9 5 0xff00000000000000 id) 0xff00000000000000 ∧
    preIBreak 9 (engS 9 5 0xfe00000000000000 id) 0xfe00000000000000 ∧
    preIIllegal 9 (engS 9 5 0x0 id) 0x0 0 ∧
    preIIllegal 9 (engS 9 5 0x1300000000000000 id) 0x1300000000000000 0x13 ∧
    preIReserved 9 (engS 9 5 0x100040000000000 id) 0x100040000000000 := by
  iterate 23 refine And.intro (by decide +kernel) ?_
  decide +kernel

theorem witness_EngineScalar :
    preIAddOp 15 (engS 15 0x1FFF 0x1fed00000000000 fun e => { e with g := (e.g.set 14 0xffffffff).set 13 0x2 }) 0x1fed00000000000 0xffffffff 0x2 ∧
    preIAddOp 0 (engS 0 5 0x133380000000002 fun e => { e with g := e.g.set 3 0xffffffff, loops := [⟨2, 5, 2⟩] }) 0x133380000000002 0xffffffff 0x2 ∧
    preISubOp 15 (engS 15 0x1FFF 0x2fed00000000000 fun e => { e with g := (e.g.set 14 0x1).set 13 0x2 }) 0x2fed00000000000 0x1 0x2 ∧
    preISubOp 0 (engS 0 5 0x233380000000002 fun e => { e with g := e.g.set 3 0x1, loops := [⟨2, 5, 2⟩] }) 0x233380000000002 0x1 0x2 ∧
    preIAndOp 15 (engS 15 0x1FFF 0x3fed00000000000 fun e => { e with g := (e.g.set 14 0xc).set 13 0xa }) 0x3fed00000000000 0xc 0xa ∧
    preIAndOp 0 (engS 0 5 0x33338000000000a fun e => { e with g := e.g.set 3 0xc, loops := [⟨2, 5, 2⟩] }) 0x33338000000000a 0xc 0xa ∧
    preIOrOp 15 (engS 15 0x1FFF 0x4fed00000000000 fun e => { e with g := (e.g.set 14 0xc).set 13 0xa }) 0x4fed00000000000 0xc 0xa ∧
    preIOrOp 0 (engS 0 5 0x43338000000000a fun e => { e with g := e.g.set 3 0xc, loops := [⟨2, 5, 2⟩] }) 0x43338000000000a 0xc 0xa ∧
    preIXorOp 15 (engS 15 0x1FFF 0x5fed00000000000 fun e => { e with g := (e.g.set 14 0xc).set 13 0xa }) 0x5fed00000000000 0xc 0xa ∧
    preIXorOp 0 (engS 0 5 0x53338000000000a fun e => { e with g := e.g.set 3 0xc, loops := [⟨2, 5, 2⟩] }) 0x53338000000000a 0xc 0xa ∧
    preIShlOp 15 (engS 15 0x1FFF 0x6fed00000000000 fun e => { e with g := (e.g.set 14 0x3).set 13 0x21 }) 0x6fed00000000000 0x3 0x21 ∧
    preIShlOp 0 (engS 0 5 0x633380000000021 fun e => { e with g := e.g.set 3 0x3, loops := [⟨2, 5, 2⟩] }) 0x633380000000021 0x3 0x21 ∧
    preIShr 15 (engS 15 0x1FFF 0x7fed00000000000 fun e => { e with g := (e.g.set 14 0x80000000).set 13 0x3f }) 0x7fed00000000000 0x80000000 0x3f ∧
    preIShr 0 (engS 0 5 0x73338000000003f fun e => { e with g := e.g.set 3 0x80000000, loops := [⟨2, 5, 2⟩] }) 0x73338000000003f 0x80000000 0x3f ∧
    preISra 15 (engS 15 0x1FFF 0x8fed00000000000 fun e => { e with g := (e.g.set 14 0x80000000).set 13 0x3f }) 0x8fed00000000000 0x80000000 0x3f ∧
    preISra 0 (engS 0 5 0x83338000000003f fun e => { e with g := e.g.set 3 0x80000000, loops := [⟨2, 5, 2⟩] }) 0x83338000000003f 0x80000000 0x3f ∧
    preIMulOp 15 (engS 15 0x1FFF 0x9fed00000000000 fun e => { e with g := (e.g.set 14 0xffffffff).set 13 0x80000001 }) 0x9fed00000000000 0xffffffff 0x80000001 ∧
    preIMulOp 0 (engS 0 5 0x933380080000001 fun e => { e with g := e.g.set 3 0xffffffff, loops := [⟨2, 5, 2⟩] }) 0x933380080000001 0xffffffff 0x80000001 ∧
    preISlt 15 (engS 15 0x1FFF 0xafed00000000000 fun e => { e with g := (e.g.set 14 0xffffffff).set 13 0x0 }) 0xafed00000000000 0xffffffff 0x0 ∧
    preISlt 0 (engS 0 5 0xa33380000000000 fun e => { e with g := e.g.set 3 0xffffffff, loops := [⟨2, 5, 2⟩] }) 0xa33380000000000 0xffffffff 0x0 ∧
    preISltu 15 (engS 15 0x1FFF 0xbfed00000000000 fun e => { e with g := (e.g.set 14 0xffffffff).set 13 0x0 }) 0xbfed00000000000 0xffffffff 0x0 ∧
    preISltu 0 (engS 0 5 0xb33380000000000 fun e => { e with g := e.g.set 3 0xffffffff, loops := [⟨2, 5, 2⟩] }) 0xb33380000000000 0xffffffff 0x0 ∧
    preILi 15 (engS 15 0 0xcf00800ffffffff id) 0xcf00800ffffffff ∧
    preIMtsA 9 (engS 9 1 0x1007000000000007 fun e => { e with g := e.g.set 7 0xffffffff }) 0x1007000000000007 7 0xffffffff ∧
    preIMtsA 9 (engS 9 1 0x1007000000000000 fun e => { e with g := e.g.set 7 0x12345678 }) 0x1007000000000000 0 0x12345678 ∧
    preIMtsB 9 (engS 9 1 0x100700000000000f fun e => { e with g := e.g.set 7 0xffffffff }) 0x100700000000000f 15 0xffffffff ∧
    preIMtsB 9 (engS 9 1 0x1007000000000008 fun e => { e with g := e.g.set 7 0x12345678 }) 0x1007000000000008 8 0x12345678 ∧
    preIMtsL 9 (engS 9 1 0x1007000000000017 fun e => { e with g := e.g.set 7 0xffffffff }) 0x1007000000000017 23 0xffffffff ∧
    preIMtsL 9 (engS 9 1 0x1007000000000010 fun e => { e with g := e.g.set 7 0x12345678 }) 0x1007000000000010 16 0x12345678 ∧
    preIMtsLp 9 (engS 9 1 0x1007000000000018 fun e => { e with g := e.g.set 7 0xffffffff }) 0x1007000000000018 24 0xffffffff ∧
    preIMtsLaddr 9 (engS 9 1 0x1007000000000020 fun e => { e with g := e.g.set 7 0xFFFFFFFD, dma := e.dma.set 0 ⟨1, 2, 3, 4, 5, false, false⟩ }) 0x1007000000000020 0 ⟨1, 2, 3, 4, 5, false, false⟩ 0xFFFFFFFD ∧
    preIMtsLaddr 9 (engS 9 1 0x1007000000000028 fun e => { e with g := e.g.set 7 0xFFFFFFFD, dma := e.dma.set 1 ⟨1, 2, 3, 4, 5, false, false⟩ }) 0x1007000000000028 1 ⟨1, 2, 3, 4, 5, false, false⟩ 0xFFFFFFFD ∧
    preIMtsRaddrLo 9 (engS 9 1 0x1007000000000021 fun e => { e with g := e.g.set 7 0xFFFFFFFD, dma := e.dma.set 0 ⟨1, 2, 3, 4, 5, false, false⟩ }) 0x1007000000000021 0 ⟨1, 2, 3, 4, 5, false, false⟩ 0xFFFFFFFD ∧
    preIMtsRaddrLo 9 (engS 9 1 0x1007000000000029 fun e => { e with g := e.g.set 7 0xFFFFFFFD, dma := e.dma.set 1 ⟨1, 2, 3, 4, 5, false, false⟩ }) 0x1007000000000029 1 ⟨1, 2, 3, 4, 5, false, false⟩ 0xFFFFFFFD ∧
    preIMtsRaddrHi 9 (engS 9 1 0x1007000000000022 fun e => { e with g := e.g.set 7 0xFFFFFFFD, dma := e.dma.set 0 ⟨1, 2, 3, 4, 5, false, false⟩ }) 0x1007000000000022 0 ⟨1, 2, 3, 4, 5, false, false⟩ 0xFFFFFFFD ∧
    preIMtsRaddrHi 9 (engS 9 1 0x100700000000002a fun e => { e with g := e.g.set 7 0xFFFFFFFD, dma := e.dma.set 1 ⟨1, 2, 3, 4, 5, false, false⟩ }) 0x100700000000002a 1 ⟨1, 2, 3, 4, 5, false, false⟩ 0xFFFFFFFD ∧
    preIMtsCount 9 (engS 9 1 0x1007000000000023 fun e => { e with g := e.g.set 7 0xFFFFFFFD, dma := e.dma.set 0 ⟨1, 2, 3, 4, 5, false, false⟩ }) 0x1007000000000023 0 ⟨1, 2, 3, 4, 5, false, false⟩ 0xFFFFFFFD ∧
    preIMtsCount 9 (engS 9 1 0x100700000000002b fun e => { e with g := e.g.set 7 0xFFFFFFFD, dma := e.dma.set 1 ⟨1, 2, 3, 4, 5, false, false⟩ }) 0x100700000000002b 1 ⟨1, 2, 3, 4, 5, false, false⟩ 0xFFFFFFFD ∧
    preIMtsRows 9 (engS 9 1 0x1007000000000024 fun e => { e with g := e.g.set 7 0xFFFFFFFD, dma := e.dma.set 0 ⟨1, 2, 3, 4, 5, false, false⟩ }) 0x1007000000000024 0 ⟨1, 2, 3, 4, 5, false, false⟩ 0xFFFFFFFD ∧
    preIMtsRows 9 (engS 9 1 0x100700000000002c fun e => { e with g := e.g.set 7 0xFFFFFFFD, dma := e.dma.set 1 ⟨1, 2, 3, 4, 5, false, false⟩ }) 0x100700000000002c 1 ⟨1, 2, 3, 4, 5, false, false⟩ 0xFFFFFFFD ∧
    preIMtsRstride 9 (engS 9 1 0x1007000000000025 fun e => { e with g := e.g.set 7 0xFFFFFFFD, dma := e.dma.set 0 ⟨1, 2, 3, 4, 5, false, false⟩ }) 0x1007000000000025 0 ⟨1, 2, 3, 4, 5, false, false⟩ 0xFFFFFFFD ∧
    preIMtsRstride 9 (engS 9 1 0x100700000000002d fun e => { e with g := e.g.set 7 0xFFFFFFFD, dma := e.dma.set 1 ⟨1, 2, 3, 4, 5, false, false⟩ }) 0x100700000000002d 1 ⟨1, 2, 3, 4, 5, false, false⟩ 0xFFFFFFFD ∧
    preIMtsDmaCtrl 9 (engS 9 1 0x1007000000000026 fun e => { e with g := e.g.set 7 0xFFFFFFFD, dma := e.dma.set 0 ⟨1, 2, 3, 4, 5, false, false⟩ }) 0x1007000000000026 0 ⟨1, 2, 3, 4, 5, false, false⟩ 0xFFFFFFFD ∧
    preIMtsDmaCtrl 9 (engS 9 1 0x100700000000002e fun e => { e with g := e.g.set 7 0xFFFFFFFD, dma := e.dma.set 1 ⟨1, 2, 3, 4, 5, false, false⟩ }) 0x100700000000002e 1 ⟨1, 2, 3, 4, 5, false, false⟩ 0xFFFFFFFD ∧
    preIMfsA 9 (engS 9 1 0x11f0000000000007 fun e => { e with a := e.a.set 7 0xFFFF }) 0x11f0000000000007 7 ∧
    preIMfsB 9 (engS 9 1 0x11f000000000000f fun e => { e with b := e.b.set 7 0xFFFF }) 0x11f000000000000f 15 ∧
    preIMfsL 9 (engS 9 1 0x11f0000000000017 fun e => { e with l := e.l.set 7 0xFFFF }) 0x11f0000000000017 23 ∧
    preIMfsLp 9 (engS 9 1 0x11f0000000000018 fun e => { e with lp := 0x7FF8 }) 0x11f0000000000018 24 ∧
    preIMfsId 9 (engS 9 1 0x11f0000000000030 id) 0x11f0000000000030 48 ∧
    preIMfsLaddr 9 (engS 9 1 0x11f0000000000028 fun e => { e with dma := e.dma.set 1 ⟨1, 0xFF00000002, 3, 4, 5, true, true⟩ }) 0x11f0000000000028 1 ⟨1, 0xFF00000002, 3, 4, 5, true, true⟩ ∧
    preIMfsRaddrLo 9 (engS 9 1 0x11f0000000000029 fun e => { e with dma := e.dma.set 1 ⟨1, 0xFF00000002, 3, 4, 5, true, true⟩ }) 0x11f0000000000029 1 ⟨1, 0xFF00000002, 3, 4, 5, true, true⟩ ∧
    preIMfsRaddrHi 9 (engS 9 1 0x11f000000000002a fun e => { e with dma := e.dma.set 1 ⟨1, 0xFF00000002, 3, 4, 5, true, true⟩ }) 0x11f000000000002a 1 ⟨1, 0xFF00000002, 3, 4, 5, true, true⟩ ∧
    preIMfsCount 9 (engS 9 1 0x11f000000000002b fun e => { e with dma := e.dma.set 1 ⟨1, 0xFF00000002, 3, 4, 5, true, true⟩ }) 0x11f000000000002b 1 ⟨1, 0xFF00000002, 3, 4, 5, true, true⟩ ∧
    preIMfsRows 9 (engS 9 1 0x11f000000000002c fun e => { e with dma := e.dma.set 1 ⟨1, 0xFF00000002, 3, 4, 5, true, true⟩ }) 0x11f000000000002c 1 ⟨1, 0xFF00000002, 3, 4, 5, true, true⟩ ∧
    preIMfsRstride 9 (engS 9 1 0x11f000000000002d fun e => { e with dma := e.dma.set 1 ⟨1, 0xFF00000002, 3, 4, 5, true, true⟩ }) 0x11f000000000002d 1 ⟨1, 0xFF00000002, 3, 4, 5, true, true⟩ ∧
    preIMfsDmaCtrl 9 (engS 9 1 0x11f000000000002e fun e => { e with dma := e.dma.set 1 ⟨1, 0xFF00000002, 3, 4, 5, true, true⟩ }) 0x11f000000000002e 1 ⟨1, 0xFF00000002, 3, 4, 5, true, true⟩ ∧
    preIMfsDmaStat 9 (engS 9 1 0x11f000000000002f fun e => { e with dma := e.dma.set 1 ⟨1, 0xFF00000002, 3, 4, 5, true, true⟩ }) 0x11f000000000002f 1 ⟨1, 0xFF00000002, 3, 4, 5, true, true⟩ ∧
    preIOvr 9 (engS 9 1 0x1240000000000003 fun e => { e with ov := e.ov.set 3 #v[true, false, false, false, false, false, false, true], ovs := e.ovs.set 3 #v[false, true, false, false, false, false, false, true] }) 0x1240000000000003 3 0x8281 := by
  iterate 57 refine And.intro (by decide +kernel) ?_
  decide +kernel

theorem witness_EngineOpcodes :
    preEngAssign (op [0, 0x21012101, 0x22222222]) (up []) 0x21012101 0x22222222 ∧
    preEngSpan (op [0, 15, 131071, 131071]) (up []) 15 131071 131071 ∧
    preEngGauge (op [1, 200]) (up []) 1 200 ∧
    preEngGauge (op [0, 2]) (up []) 0 2 ∧
    preEngLoad (op [0, 15, 2, 16382, 2, 0xFFFFFFFF, 1]) (up []) 15 2 8191 0xFFFFFFFF 1 ∧
    preEngLoad (op [0, 0, 1, 0, 2, 5, 1]) (up [(ENG_DEk_STAT_STATE 0, 1)]) 0 1 0 5 1 ∧
    preEngRead (op [0, 15, 2, 16382, 2]) (put (engMem 15 2 + 8 * 8191) [1, 2, 3, 4, 5, 6, 7, 8] (up [])) 15 2 8191 [1, 2, 3, 4, 5, 6, 7, 8] ∧
    preEngStart (op [0, 7]) (((up [(ENG_DEk_STAT_STATE 7, 2), (ENG_DEk_TRAP_CAUSE 7, 8)])).setEng 7 fun e => { e with pc := 99, g := e.g.set 3 5 }) 7 ∧
    preEngStop (op [0, 7]) (up [(ENG_DEk_STAT_STATE 7, 1), (ENG_ASSIGN_SRC 7, 0)]) 7 ∧
    preEngMeminit (op [0, 7]) (up [(ENG_DEk_STAT_STATE 7, 2)]) 7 ∧
    preEngDefault (op [0, 13]) (up [(ENG_DEk_STAT_STATE 13, 2)]) 13 ∧
    preEngGetStatus (op [0, 15]) (up [(ENG_DEk_STAT_STATE 15, 2), (ENG_DEk_TRAP_CAUSE 15, 8), (ENG_DEk_TRAP_PC 15, 0x1FFF), (ENG_DEk_QREPS_COUNT 15, 7)]) 15 := by
  iterate 11 refine And.intro (by decide +kernel) ?_
  decide +kernel

theorem witness_EngineEvents :
    preDekCtrlStart 7 (((up [(ENG_DEk_STAT_STATE 7, 2), (ENG_DEk_TRAP_CAUSE 7, 8), (ENG_DEk_TRAP_PC 7, 99)])).setEng 7 fun e => { e with pc := 99, g := e.g.set 3 5 }) ∧
    preDekCtrlStop 7 ((up [(ENG_DEk_STAT_STATE 7, 1), (ENG_ASSIGN_SRC 7, 0)]).setEng 7 fun e => { e with pc := 99, stall := some .alarm }) ∧
    preDekStopHalves 9 (landS 0 [⟨1, 9, 0⟩] [⟨0, 4, 0⟩]) ∧
    preDmaComplete 9 1 (put (engBase 9 + 0x4FFF8) [1, 2, 3, 4, 5, 6, 7, 8] (((up [(ENG_DEk_DMA1_BUSY 9, 1)])).setEng 9 fun e => { e with dma := e.dma.set 1 ⟨0, engBase 9 + 0x4FFF8, 8, 0, 0, false, false⟩ })) 0x4FFF8 [1, 2, 3, 4, 5, 6, 7, 8] ∧
    preExternalAccessWaitExpiry 15 (up [(ENG_DEk_STAT_STATE 15, 1)]) ∧
    preMeminitComplete 15 { (up [(ENG_DEk_STAT_STATE 15, 2)]).setEng 15 fun e => { e with memInit := some 1 } with cyc := 5121 } 1 ∧
    preLandingWaitResume 9 ((landS 0x5000000000000000 [⟨1, 9, 0⟩] [⟨0, 4, 0⟩]).setEng 9 fun e => { e with stall := some .landing }) 0x5000000000000000 ⟨1, 9, 0⟩ [] ∧
    preDmaWaitResume 9 ((engS 9 5 0x5510000000000001 fun e => { e with stall := some (.dmaWait 1) }).set (ENG_DEk_DMA1_DONE 9) 1) 0x5510000000000001 1 ∧
    preFrameOutputResume 9 ((foutS 0x5623400000000000).setEng 9 fun e => { e with stall := some .frameOut }) 0x5623400000000000 0 100 8 1 ∧
    preQualityReportApply 9 (put (qualAddr 0 7) (List.replicate 16 0) ((up []).setEng 9 fun e => { e with qreps := [⟨0, 0, 7⟩, ⟨1, 0, 8⟩] })) ⟨0, 0, 7⟩ [⟨1, 0, 8⟩] ∧
    preQualityEdgeApply 9 (put (qualAddr 1 7) (List.replicate 16 0xF0) ((up []).setEng 9 fun e => { e with qreps := [⟨1, 1, 7⟩, ⟨1, 0, 8⟩] })) 1 7 [⟨1, 0, 8⟩] 0xF0 0xF0 0xF0 0xF0 ∧
    preAlarmPostAccept 9 (((foutS 0).set OUT_STATUS_HOST_ACTIVE 1).setEng 9 fun e => { e with stall := some .alarm, posts := [(1, [1, 2, 3, 4])] }) 1 [1, 2, 3, 4] := by
  iterate 11 refine And.intro (by decide +kernel) ?_
  decide +kernel

theorem witness_PositionFilter :
    preBrickWrite (brickSys) 1 0 ∧
    preTileSetProcess ((up [(SEQ_LEN_LEN 1, 1), (SEQ_GUARD_GUARD 1, 0)]).setPfil 1 fun p => { p with ready := [⟨0, [⟨0, true, false, none⟩], false, []⟩] }) 1 ⟨0, [⟨0, true, false, none⟩], false, []⟩ [] ∧
    preFadeComplete (fadeSys) 1 1 (List.replicate 3 ⟨[], ⟨0, true, false, none⟩⟩) ∧
    preTileSetRelease (fadeSys) 1 1 (List.replicate 3 ⟨[], ⟨0, true, false, none⟩⟩) ∧
    prePfilSyncGo (up [(SEQ_STATUS_STATE 1, 1)]) 1 ∧
    prePfilConfig (op [1, 0x357, 384, 0, 0xFFFFFFFF, 0xFFFFFFFF]) (up []) 1 0x357 384 0 0xFFFFFFFF 0xFFFFFFFF ∧
    prePfilConfig (op [0, 0x001, 1, 10000, 0x00010001, 0]) (up []) 0 1 1 10000 0x00010001 0 ∧
    prePfilMemSetup (op [1, 0, 0x80, 0, 0x84]) memSys 1 0 0x80 0 0x84 ∧
    prePfilCoefWrite (op [3, 382, 2, 0x1FFFF, 0xFFFE0000]) (up []) 1 1 382 [0x1FFFF, 0xFFFE0000] ∧
    prePfilSwap (op [3, 4096]) (up []) 1 1 4096 ∧
    prePfilSwap (op [2, 16]) (up [(SEQ_STATUS_STATE 0, 2)]) 0 1 16 ∧
    prePfilSync (op [1]) (up [(SEQ_STATUS_STATE 1, 1)]) 1 ∧
    prePfilLoupe (op [1, 15, 10, 131071, 16384, 10000, 0x00010001]) (up [(PFIL_RATE_RATE 1, 10000), (PFIL_LOCK_QN 1, 1), (PFIL_LOCK_QD 1, 1)]) 1 15 10 131071 16384 10000 0x00010001 ∧
    prePfilBudget (op [1]) (up [(SEQ_STATUS_STATE 1, 1)]) 1 ∧
    prePfilGetStatus (op [1]) (up []) 1 := by
  iterate 7 refine And.intro (by decide +kernel) ?_
  refine And.intro witness_pfilMemSetup ?_
  iterate 6 refine And.intro (by decide +kernel) ?_
  decide +kernel

theorem witness_Prism :
    prePrismResponse (galSys 1 4000) 1 shot5 ⟨5, 4000, 1⟩ 0x1234 ∧
    preLandingRunWrite (landSys) 15 5 64 1 true 1 [5, 96 + 64 * 256, 0, 0, 0xAAAA, 0xBBBB] ∧
    preLandingFlushTimeout (flushSys) 3 0 0 ∧
    preGalInit (up []) 1 ∧
    preGalInitComplete ({ (up []).setPrism 1 fun p => { p with galOp := some .init } with cyc := 98304 }) 1 ∧
    preQclr (up [(SEQ_STATUS_STATE 1, 2)]) 1 ∧
    preQclrComplete ((up []).setPrism 1 fun p => { p with galOp := some (.qclr 131072) }) 1 131072 ∧
    prePrismConfig (op [1, 6, 0x000F0F1F, 4095]) (up []) 1 6 0x000F0F1F 4095 ∧
    prePrismGallery (op [1, 15, 3, 255]) (up []) 1 15 3 255 ∧
    prePrismGalInit (op [1, 65535]) (up []) 1 65535 ∧
    prePrismQclear (op [1]) (up []) 1 ∧
    prePrismBril (op [1, 0x1FFF190F]) (up []) 1 0x1FFF190F ∧
    prePrismMfInfo (op [1, 15]) (up [(RXF_PCODE_CTRL_TYPE 1 15, 1), (RXF_PCODE_LEN_LEN 1 15, 20000), (RXF_PCODE_BW_BW 1 15, 1000)]) 1 15 ∧
    prePrismGetStatus (op [1]) (up []) 1 := by
  iterate 13 refine And.intro (by decide +kernel) ?_
  decide +kernel

theorem witness_LossWatch :
    preEnvelopeWord (lwSys ⟨31, true, true, true, false, 0, 0, 99, 0, 0, 0⟩) 0 (Vector.replicate 5 (Vector.replicate 6 100)) ⟨7, 0, 0, true, false, 0⟩ ⟨31, true, true, true, false, 0, 0, 99, 0, 0, 0⟩ 0 ∧
    preHoldoffExpiry ((up [(LW_FSTAT_HOLDOFF 1, 1)]).setLw 1 fun r => { r with holdDue := some 0 }) 1 0 ∧
    preEventFifoTransfer ((up [(OUT_STATUS_HOST_ACTIVE, 1), (OUT_ASEQ_NEXT, 0xFFFFFFFF)]).setLw 1 fun r => { r with fifo := [⟨[1, 2, 3, 4, 5, 6, 7], 1⟩], lost := 3 }) 1 ⟨[1, 2, 3, 4, 5, 6, 7], 1⟩ [] ∧
    preAlarmPulseExpiry { up [(LW_ALARM_MODE, 1), (LW_ALARM_LATCH_B, 1)] with cyc := 1 } 1 ∧
    preMaskFillComplete ((up []).setLw 1 fun r => { r with fill := some (⟨.spi, 0x75, 9, [1, 0x12345678]⟩, 0, 0x12345678) }) 1 ⟨.spi, 0x75, 9, [1, 0x12345678]⟩ 0 0x12345678 ∧
    preMaskLearnComplete ((up [(LW_FSTAT_LEARNING 1, 1), (LW_MASK_CTRL_MLEN 1, 2)]).setLw 1 fun r => { r with learn := some ⟨0, 255, false, [], []⟩ }) 1 ⟨0, 255, false, [], []⟩ ∧
    preCaptureRecord (setCapS (up [(LW_CAP_NPTS_NPTS, 2), (LW_CAP_SHOTS_NSHOT, 2)]) fun q => { q with ready := [⟨1, ⟨7, 0, 0, true, false, 0⟩, true, 3, [(0, ⟨5, 9, true, false⟩)]⟩], taken := 1 }) ⟨1, ⟨7, 0, 0, true, false, 0⟩, true, 3, [(0, ⟨5, 9, true, false⟩)]⟩ [] ∧
    preLwEnable (op [1, 1]) (up [(LW_TRG_STATE_TRIPPED 1, 5)]) 1 1 ∧
    preLwEnable (op [0, 0]) (up [(LW_CTRL_EN 0, 1)]) 0 0 ∧
    preLwTrigger (op [1, 31, 0xF1F, 0x3FFFF, 0xFFFFFF, 0xFFFFFF]) (up [(LW_TRG_STATE_TRIPPED 1, 0xFFFFFFFF)]) 1 31 0xF1F 0x3FFFF 0xFFFFFF 0xFFFFFF ∧
    preLwHoldoff (op [1, 0xFFFFFF01]) (up []) 1 0xFFFFFF01 ∧
    preLwMaskConfig (op [1, 0x4000841E]) (up [(LW_FSTAT_MASK_VALID 1, 1)]) 1 0x4000841E ∧
    preLwMaskWrite (op [1, 16382, 2, 0xFFFF0000, 1]) (up [(LW_MASK_CTRL_MLEN 1, 16384)]) 1 8191 0xFFFF0000 1 ∧
    preLwMaskFill (op [1, 0xFFFF0000]) (up []) 1 0xFFFF0000 ∧
    preLwMaskLearn (op [1, 65535, 255]) (up [(SEQ_STATUS_STATE 1, 2), (LW_CTRL_EN 1, 1)]) 1 65535 255 ∧
    preLwAlarm (op [0, 0xFFFFFF0C, 1]) (up [(LW_ALARM_LATCH_A, 1), (LW_ALARM_LATCH_B, 1)]) 0xFFFFFF0C 1 ∧
    preLwCapture (op [1, 1, 0x876, 0x3FFFF, 262, 0x7FFF]) (up []) 1 0x876 0x3FFFF 262 0x7FFF ∧
    preLwLastEvent (op [1]) (up []) 1 ∧
    preLwGetStatus (op [0]) (up []) 0 := by
  iterate 18 refine And.intro (by decide +kernel) ?_
  decide +kernel

theorem witness_ReceiverFrontEnd :
    preShotLaunch ((up [(RXF_PCODE_CTRL_TYPE 1 2, 1), (RXF_CTRL_STAIR_EN 1, 0), (RXF_PCODE_LEN_LEN 1 2, 20000)]).setSq 1 fun q => { q with handed := [⟨3, 2, 0, 0, 100, 0⟩] }) 1 ⟨3, 2, 0, 0, 100, 0⟩ [] ∧
    preProbeTestEmit (up [(RXF_PTEST_EN 1, 1), (RXF_PTEST_SLOT 1, 7), (RXF_PTEST_CODE 1, 15), (RXF_PTEST_PERIOD 1, 65535)]) 1 ∧
    preConverterGroupReady ({ up [] with cyc := 8000 }) 0 true ∧
    preConverterGroupReady ({ up [] with cyc := 8000 }) 1 false ∧
    preGainStep ((up [(RXF_CTRL_STAIR_EN 1, 1), (SEQ_STATUS_STATE 1, 2), (RXF_STAIRe_EN 1 15, 1), (RXF_STAIRe_OFFSET 1 15, 4), (RXF_STAIRe_RG 1 15, 15)]).setRxf 1 fun x => { x with stairAt := some 0 }) 1 15 4 4 ∧
    preRxfProbeWrite (op [1, 15, 0x1FFF4001, 20000, 100000, 0]) (up []) 1 15 0x1FFF4001 20000 100000 0 ∧
    preRxfProbeWrite (op [0, 0, 0, 0, 0, 0]) (up []) 0 0 0 0 0 0 ∧
    preRxfCodeWrite (op [1, 254, 2, 0xFFFFFFFF, 0]) (up []) 1 0xFFFFFFFF 0 ∧
    preRxfStairWrite (op [1, 14, 2, 0x8FF3FFFF, 0x80070001]) (up []) 1 0x8FF3FFFF 0x80070001 ∧
    preRxfGate (op [1, 255, 255, 3]) (up []) 1 255 255 3 ∧
    preRxfGate (op [0, 0, 0, 0]) (up []) 0 0 0 0 ∧
    preRxfPower (op [1, 6]) (up [(RXF_STATUS_RAY_RDY_B, 1)]) 1 6 ∧
    preRxfPower (op [0, 1]) (up [(RXF_CTRL_RAY_EN 0, 0)]) 0 1 ∧
    preRxfProbeTest (op [1, 1, 7, 15, 65535]) (up [(RXF_PCODE_CTRL_TYPE 1 15, 1), (RXF_PCODE_LEN_LEN 1 15, 20000), (RXF_PCODE_BW_BW 1 15, 1000)]) 1 7 15 65535 ∧
    preRxfGetStatus (op [1]) (up []) 1 := by
  iterate 14 refine And.intro (by decide +kernel) ?_
  decide +kernel

theorem witness_TriggersAndLaunches :
    preHardwareTrigger (up [(SEQ_STATUS_STATE 1, 1), (SEQ_CTRL_TRIG_SRC 1, 5)]) 1 .link ∧
    preTimeTrigger ((up [(SEQ_STATUS_STATE 0, 1)]).setSq 0 fun q => { q with timeTrig := some 0 }) 0 0 ∧
    preSeqTrigGo (up [(SEQ_STATUS_STATE 1, 2)]) 1 ∧
    preLaunchHandover (launchSys 200) 0 ⟨0, 0, 0, 0⟩ 0 ∧
    preLmonEdge ((up []).setSq 1 fun q => { q with wins := [⟨3, 0, false⟩] }) 1 0 ⟨3, 0, false⟩ [] ∧
    preLmonWindowClose ({ (up []).setSq 1 fun q => { q with wins := [⟨3, 0, false⟩] } with cyc := 1000 }) 1 ⟨3, 0, false⟩ [] ∧
    preRunStart ((up [(SEQ_STATUS_STATE 1, 2)]).setSq 1 fun q => { q with start := some 0 }) 1 0 ∧
    preDrainComplete ((up [(SEQ_STATUS_STATE 0, 3)]).setSq 0 fun q => { q with start := some 0 }) 0 0 ∧
    preRunAbort ((up [(SEQ_STATUS_STATE 0, 2)]).setSq 0 fun q => { q with abortAt := some 0 }) 0 0 ∧
    preFlightEnd ((up [(SEQ_STATUS_STATE 0, 2)]).setSq 0 fun q => { q with ends := [(0, 7)], limit := some 1 }) 0 0 7 [] ∧
    preStopAtBoundary ((up [(SEQ_STATUS_STATE 0, 4)]).setSq 0 fun q => { q with stopAt := some 0 }) 0 0 ∧
    prePageSwitchApply (up [(SEQ_STATUS_PAGE_PEND 1, 1)]) 1 := by
  iterate 11 refine And.intro (by decide +kernel) ?_
  decide +kernel

theorem witness_ReferenceTracker :
    preTrackerRefit (up [(SEQ_REF_CTRL_SRC, 1)]) 0x10000000 ∧
    preInternalReferenceLock ({ up [] with cyc := 400 }) ∧
    preFlightEpochSet (epochSys) 0x20000 ⟨0, 0, 100000⟩ ∧
    preReferenceLost { setTrkS (up [(SEQ_REF_CTRL_SRC, 1), (SEQ_REF_STATUS_PRESENT, 1)]) (fun r => { r with model := some ⟨0, 0, 100000⟩ }) with cyc := 1000000 } ∧
    preHoldoverPhaseCheck (holdSys 0) ⟨0, 0, 100⟩ ⟨0, 0, 100⟩ 3 0 300 [(2, 200), (1, 100), (0, 0)] ∧
    preHoldoverPhaseCheck (holdSys 50) ⟨0, 0, 100⟩ ⟨0, 50, 100⟩ 3 (1/2) 350 [(2, 250), (1, 150), (0, 50)] ∧
    preHoldoverLimitStop ({ up [(SEQ_REF_STATUS_HOLDOVER, 1), (SEQ_TRACK_HOLD_MAX, 1), (SEQ_STATUS_STATE 1, 2)] with cyc := 400001 }) 1 ∧
    preMarkerEdge (up [(SEQ_REF_CTRL_SRC, 1), (SEQ_REF_CTRL_MARK_EN, 1), (SEQ_REF_STATUS_LOCKED, 1)]) 5 := by
  iterate 7 refine And.intro (by decide +kernel) ?_
  decide +kernel

theorem witness_SequencerOpcodes :
    preSeqConfig (op [1, 50000, 15500, 4095, 128000]) (up []) 1 50000 15500 4095 128000 ∧
    preSeqConfig (op [0, 1, 14000, 0, 0]) (up []) 0 1 14000 0 0 ∧
    preSeqRef (op [0x0305, 7, 4000, 0x00C8000C, 500, 65535]) (up []) 0x0305 7 4000 0x00C8000C 500 65535 ∧
    preSeqRef (op [0, 0, 40000, 0x03E80006, 1000, 1]) (up []) 0 0 40000 0x03E80006 1000 1 ∧
    preSeqFlightWrite (op [3, 62, 2, 0x80F7FFFF, 0]) (up []) 1 1 62 [0x80F7FFFF, 0] ∧
    preSeqPeriod (op [3, 65535, 1024]) (up []) 1 1 65535 1024 ∧
    preSeqPeriod (op [0, 1, 1]) (up []) 0 0 1 1 ∧
    preSeqLmon (op [1, 1, 0xFFFFFF80, 1000]) (up [(SEQ_STATUS_STATE 1, 1)]) 1 1 0xFFFFFF80 1000 ∧
    preSeqEpoch (op [1]) (up [(SEQ_REF_CTRL_MARK_EN, 1), (SEQ_STATUS_STATE 0, 1)]) 1 ∧
    preSeqPageSwitch (op [2]) (pageSys 0) 0 1 ∧
    preSeqPageSwitch (op [2]) (pageSys 2) 0 1 ∧
    preSeqArm (op [0, 0x81, 5, 9, 0, 0]) (pageSys 0) 0 0x81 5 9 0 0 ∧
    preSeqTrigger (op [1]) (up [(SEQ_STATUS_STATE 1, 1)]) 1 ∧
    preSeqStop (op [0]) (up [(SEQ_STATUS_STATE 0, 2), (SEQ_STATUS_TRIG_HELD 0, 1)]) 0 ∧
    preSeqGetStatus (op [1]) (up []) 1 := by
  iterate 14 refine And.intro (by decide +kernel) ?_
  decide +kernel

end Sys2Proof.Tests
end

section
/-! SUPPORT. What an answer, an issue and an outcome must keep, and the rules that the proofs of single functions use. The sections
after this one say of every function of the model, in the model's order, that what it leaves is as sound as what it was given. -/

namespace Sys2Proof.Machine
variable {s t u : State}

/-! ### Pairs, folds and changes of single stores -/

/-- A fold whose accumulator holds a state at `π`. -/
theorem Keeps.foldl_at {α β : Type} {s : State} (π : β → State) {g : β → α → β} (hg : ∀ p a, Keeps (π p) (π (g p a))) (l : List α)
    {p : β} (h : Keeps s (π p)) : Keeps s (π (l.foldl g p)) := by
  induction l generalizing p with
  | nil => exact h
  | cons a l ih => exact ih (h.trans (hg p a))
/-- A fold that carries a state before something else. -/
theorem Keeps.foldl_fst {α β : Type} {s : State} {g : State × β → α → State × β} (hg : ∀ p a, Keeps p.1 (g p a).1) (l : List α)
    {p : State × β} (h : Keeps s p.1) : Keeps s (l.foldl g p).1 := Keeps.foldl_at Prod.fst hg l h
/-- A fold that carries a state after two other things. -/
theorem Keeps.foldl_thd {α β γ : Type} {s : State} {g : β × γ × State → α → β × γ × State} (hg : ∀ p a, Keeps p.2.2 (g p a).2.2)
    (l : List α) {p : β × γ × State} (h : Keeps s p.2.2) : Keeps s (l.foldl g p).2.2 := Keeps.foldl_at (fun q : β × γ × State => q.2.2) hg l h
/-- The state of a pair that a match has taken apart. -/
theorem Keeps.of_pair {α : Type} {p : α × State} {a : α} (h : Keeps s p.2) (e : p = (a, u)) : Keeps s u := by
  subst e
  exact h
/-- A pair that a proof has given a name is the pair it names. Stated for any pair: the kernel then compares the two pairs by
their names, where it would evaluate both states to compare `x.2` with `v.2`. -/
theorem Keeps.at {α : Type} {x v : α × State} (h : Keeps s v.2) (e : x = v) : Keeps s x.2 := e ▸ h
theorem Keeps.atFst {α : Type} {x v : State × α} (h : Keeps s v.1) (e : x = v) : Keeps s x.1 := e ▸ h
theorem Keeps.atThd {α β : Type} {x v : α × β × State} (h : Keeps s v.2.2) (e : x = v) : Keeps s x.2.2 := e ▸ h
theorem Keeps.pair {α : Type} (h : Keeps s u) (a : α) : Keeps s (a, u).2 := h
theorem Keeps.pairFst {α : Type} (h : Keeps s u) (a : α) : Keeps s (u, a).1 := h
theorem Keeps.triple {α β : Type} (h : Keeps s u) (a : α) (b : β) : Keeps s (a, b, u).2.2 := h
/-- A change of memory alone that keeps the addresses rising. -/
theorem Keeps.withMem {m : KMap Byte} (h : Keeps s t) (hm : kwf t.mem = true → kwf m = true) : Keeps s { t with mem := m } :=
  h.trans (Keeps.of id hm id id rfl)

/-- A change of the output buffer alone. -/
theorem Keeps.withOut (h : Keeps s t) (o : OutRun) : Keeps s { t with out := o } := h.same rfl rfl rfl rfl rfl
/-- A recursion on a count keeps the canonical forms if it does so at 0 and at `n + 1` whatever a kept recursion stands below. -/
theorem Keeps.brecOn {F : (n : Nat) → Nat.below (motive := fun _ => State → State) n → State → State}
    (h0 : ∀ b u, Keeps u (F 0 b u)) (hs : ∀ n b u, (∀ v, Keeps v (b.1 v)) → Keeps u (F (n + 1) b u)) (n : Nat) :
    ∀ u, Keeps u (Nat.brecOn (motive := fun _ => State → State) n F u) := by
  induction n with
  | zero => exact h0 _
  | succ n ih => exact fun u => hs n _ u ih

/-! ### Opcodes -/

theorem CmdRes.Keeps.refuse (st owner : Nat) : (CmdRes.refuse st owner).Keeps s := Machine.Keeps.refl s
theorem CmdRes.Keeps.done (h : Machine.Keeps s t) (st : Nat) (d : List Nat) : (CmdRes.done st d t).Keeps s := h
theorem CmdRes.Keeps.ok (h : Machine.Keeps s t) : (CmdRes.ok t).Keeps s := h
theorem CmdRes.Keeps.data (h : Machine.Keeps s t) (d : List Nat) : (CmdRes.data t d).Keeps s := h
theorem CmdRes.Keeps.already (h : Machine.Keeps s t) : (CmdRes.already t).Keeps s := h
theorem CmdRes.Keeps.ite {p : Prop} [Decidable p] {a b : CmdRes} (h : a.Keeps s) (k : b.Keeps s) : (if p then a else b).Keeps s := by
  split
  · exact h
  · exact k
theorem CmdRes.Keeps.trans {r : CmdRes} (h : Machine.Keeps s t) (k : r.Keeps t) : r.Keeps s := by
  cases r with
  | refuse st o => exact Machine.Keeps.refl s
  | done st d v => exact Machine.Keeps.trans h k
theorem Keeps.state {r : CmdRes} (h : Keeps s t) (hr : r.Keeps s) : Keeps s (r.state t) := by
  cases r with
  | refuse st o => exact h
  | done st d v => exact hr
theorem Keeps.judge {op blk : Nat} {masks : List Nat → List Nat} {body : State → List Nat → CmdRes} {c : CmdIn}
    (hb : (body t c.words).Keeps s) : CmdRes.Keeps s (t.judge op blk masks body c) := by
  unfold State.judge
  dsimp only
  split
  · exact Keeps.refl s
  · exact hb
/-- An opcode run on a kept state keeps what its own meaning keeps. -/
theorem Keeps.runOp {op blk : Nat} {masks : List Nat → List Nat} {body : State → List Nat → CmdRes} {c : CmdIn}
    (h : Keeps s t) (hb : (body t c.words).Keeps t) : Keeps s (Machine.runCmd op blk masks body c t) := h.trans (Keeps.runCmd hb)

/-! ### Issues, answers to power requests, outcomes -/

/-- The state that an issue hands over. -/
def Issue.left : Issue → State
  | .trap _ _ s => s
  | .stall _ s => s
  | .next s => s
  | .jump _ s => s
  | .stop s => s
/-- What an issue hands over is as sound as `s`. -/
def Issue.Keeps (s : State) (r : Issue) : Prop := Machine.Keeps s r.left
theorem Issue.Keeps.trap (h : Machine.Keeps s t) (c : Nat) (a : Option (Nat × Nat)) : (Issue.trap c a t).Keeps s := h
theorem Issue.Keeps.stall (h : Machine.Keeps s t) (w : Stall) : (Issue.stall w t).Keeps s := h
theorem Issue.Keeps.next (h : Machine.Keeps s t) : (Issue.next t).Keeps s := h
theorem Issue.Keeps.jump (h : Machine.Keeps s t) (a : Nat) : (Issue.jump a t).Keeps s := h
theorem Issue.Keeps.stop (h : Machine.Keeps s t) : (Issue.stop t).Keeps s := h
theorem Issue.Keeps.ite {p : Prop} [Decidable p] {a b : Issue} (h : a.Keeps s) (k : b.Keeps s) : (if p then a else b).Keeps s := by
  split
  · exact h
  · exact k

/-- What an answer to a power request leaves is as sound as `s`. -/
def PwrAns.Keeps (s : State) : PwrAns → Prop
  | .ok t => Machine.Keeps s t
  | .pending t => Machine.Keeps s t
  | .already => True
  | .denied => True
  | .bad => True
theorem PwrAns.Keeps.ite {p : Prop} [Decidable p] {a b : PwrAns} (h : a.Keeps s) (k : b.Keeps s) : (if p then a else b).Keeps s := by
  split
  · exact h
  · exact k

/-- A command that answers a next state answers one as sound as `s`. -/
def OutKeeps (s : State) (o : Host.Outcome State Fault Refusal) : Prop := ∀ t, o = .next t → Keeps s t
theorem OutKeeps.next (h : Keeps s t) : OutKeeps s (.next t) := by
  rintro _ ⟨⟩
  exact h
theorem OutKeeps.ite {p : Prop} [Decidable p] {a b : Host.Outcome State Fault Refusal} (h : OutKeeps s a) (k : OutKeeps s b) :
    OutKeeps s (if p then a else b) := by
  split
  · exact h
  · exact k

end Sys2Proof.Machine
end

section
/-! SUPPORT. The functions of Sys2Proof/Machine/Ops.lean keep the canonical forms and the queue. -/

namespace Sys2Proof.Machine
variable {s t u : State}

/-! ### Free values (log entry 2) -/

theorem Keeps.pick (h : Keeps s t) (lo : Nat) (hi : Nat) : Keeps s (t.pick lo hi).2 := h.draw.pair _

/-! ### Masters, domains and the address map (01) -/

theorem Keeps.onReg (h : Keeps s t) (k : Keeps s u) (blk : Nat) : Keeps s (t.onReg blk u) := Keeps.ite k (h.raise _ _)

/-! ### The alarm queue (R238, R239) -/

theorem Keeps.enterAlarm (h : Keeps s t) (typ fib eng : Nat) (ws : List Nat) (w9 : Nat) : Keeps s (t.enterAlarm typ fib eng ws w9) := by
  unfold State.enterAlarm
  extract_lets n s1 a src s2
  have hs1 : Keeps s s1 := h.set _ _
  have hs2 : Keeps s s2 := hs1.same rfl rfl rfl rfl rfl
  exact Keeps.ite (Keeps.ite (hs2.raise _ _) hs2) ((hs1.inc _).raise _ _)
theorem Keeps.discardAlarms (h : Keeps s t) : Keeps s t.discardAlarms := by
  unfold State.discardAlarms
  extract_lets src src2
  have hsrc : Keeps s src := (h.incBy _ _).raise _ _
  clear_value src
  exact Keeps.ite h (hsrc.same rfl rfl rfl rfl rfl)

end Sys2Proof.Machine
end

section
/-! SUPPORT. The functions of Sys2Proof/Machine/Operands.lean keep the canonical forms and the queue. -/

namespace Sys2Proof.Machine
variable {s t u : State}

/-! ### Calibration runs end early (R440) -/

theorem Keeps.setCalState (h : Keeps s t) (f : Nat) (v : Nat) : Keeps s (t.setCalState f v) := (h.set _ _).setB _ _
theorem Keeps.calRetry (h : Keeps s t) (f : Fib) : Keeps s (t.calRetry f) := by
  unfold State.calRetry
  extract_lets src src2
  have hsrc : Keeps s src := (h.setCalState _ _).set _ _
  clear_value src
  exact hsrc.same rfl rfl rfl rfl rfl
theorem Keeps.calAbort (h : Keeps s t) (f : Fib) : Keeps s (t.calAbort f) := Keeps.ite h (((h.raise _ _).inc _).calRetry _)

/-! ### Shared time-measurement channels (R327, R398) -/

theorem Keeps.tdcAcquire (h : Keeps s t) (n : Nat) (owner : Nat) : Keeps s (t.tdcAcquire n owner) := by
  unfold State.tdcAcquire
  extract_lets c src src2 src3
  have hsrc : Keeps s src := h.set _ _
  clear_value src
  exact hsrc.same rfl rfl rfl rfl rfl
theorem Keeps.tdcRelease (h : Keeps s t) (n : Nat) (owner : Nat) : Keeps s (t.tdcRelease n owner) := Keeps.ite (h.set _ _) h

end Sys2Proof.Machine
end

section
/-! SUPPORT. The functions of Sys2Proof/Machine/Plan.lean keep the canonical forms and the queue. -/

namespace Sys2Proof.Machine
variable {s t u : State}

/-! ### Engine spans (R31, R173) -/

theorem Keeps.applyAutoSpan (h : Keeps s t) (f : Nat) : Keeps s (t.applyAutoSpan f) :=
    Keeps.ite (h.foldl (fun u _ => ((Keeps.refl u).set _ _).set _ _) _) h

/-! ### Position filter (06) -/

theorem Keeps.setLoad (h : Keeps s t) (f : Nat) (load : Rat) : Keeps s (t.setLoad f load) := h.set _ _

/-! ### Temperature path and DRAM channels -/

theorem Keeps.setRtLoad (h : Keeps s t) (f : Nat) (c : LoadCase) (t' : Rat) : Keeps s (t.setRtLoad f c t') :=
    h.foldl (fun u _ => (Keeps.refl u).set _ _) _
theorem Keeps.setBrilLoad (h : Keeps s t) (f : Nat) (p : Nat) (t' : Rat) : Keeps s (t.setBrilLoad f p t') := h.set _ _

end Sys2Proof.Machine
end

section
/-! SUPPORT. The functions of Sys2Proof/Machine/Seq.lean keep the canonical forms and the queue. -/

namespace Sys2Proof.Machine
variable {s t u : State}

/-! ### Small accessors -/

theorem Keeps.setSq (h : Keeps s t) (f : Fib) (g : SeqRun → SeqRun) : Keeps s (t.setSq f g) := h.same rfl rfl rfl rfl rfl
theorem Keeps.setLw (h : Keeps s t) (f : Fib) (g : LwRun → LwRun) : Keeps s (t.setLw f g) := h.same rfl rfl rfl rfl rfl
theorem Keeps.setTrk (h : Keeps s t) (g : Tracker → Tracker) : Keeps s (t.setTrk g) := h.same rfl rfl rfl rfl rfl

/-! ### The reference tracker -/

theorem Keeps.judgeLock (h : Keeps s t) : Keeps s t.judgeLock := by
  unfold State.judgeLock
  extract_lets r s1
  have hs1 : Keeps s s1 := h.set _ _
  clear_value s1
  exact Keeps.ite (Keeps.ite (hs1.set _ _) hs1) ((hs1.set _ _).raise _ _)
theorem Keeps.selectRef (h : Keeps s t) : Keeps s t.selectRef := ((((h.set _ _).set _ _).set _ _).set _ _).setTrk _
theorem Keeps.setExtModel (h : Keeps s t) (m : Option RefModel) : Keeps s (t.setExtModel m) := h.setTrk _
theorem Keeps.voidEpoch (h : Keeps s t) : Keeps s t.voidEpoch := ((h.set _ _).selectRef).setTrk _
theorem Keeps.refChanged (h : Keeps s t) (u : State) : Keeps s (t.refChanged u) := Keeps.ite h.voidEpoch h
theorem Keeps.keepRef (h : Keeps s t) (f : Fib) : Keeps s (t.keepRef f) := Keeps.ite h (h.setSq _ _)
theorem Keeps.startFallback (h : Keeps s t) : Keeps s t.startFallback := ((((h.keepRef _).keepRef _).set _ _).set _ _).setTrk _
theorem Keeps.endFallback (h : Keeps s t) : Keeps s t.endFallback := by
  unfold State.endFallback
  extract_lets s1
  have hs1 : Keeps s s1 := h.set _ _
  clear_value s1
  exact Keeps.ite (Keeps.ite hs1.voidEpoch (hs1.setTrk _)) h
theorem Keeps.markErr (h : Keeps s t) (n : Nat) : Keeps s (t.markErr n) := Keeps.ite h ((h.incBy _ _).raise _ _)
theorem Keeps.marksPassed (h : Keeps s t) (k' : Int) : Keeps s (t.marksPassed k') := by
  unfold State.marksPassed
  split
  · exact Keeps.ite ((h.markErr _).setTrk _) h
  · exact h
theorem Keeps.remark (h : Keeps s t) : Keeps s t.remark := by
  unfold State.remark
  split
  · exact h.setTrk _
  · exact h
theorem Keeps.putMper (h : Keeps s t) (v : Nat) : Keeps s (t.putMper v) := Keeps.ite h ((h.set _ _).remark)
theorem Keeps.takeStamp (h : Keeps s t) (t' : Rat) : Keeps s (t.takeStamp t') :=
    Keeps.ite (((h.set _ _).setTrk _).marksPassed _) (((((h.set _ _).setTrk _).setExtModel _).judgeLock).marksPassed _)
theorem Keeps.execTrackerRefit (h : Keeps s t) (stamp : BitVec 64) : OutKeeps s (execTrackerRefit stamp t) := .next (Keeps.ite (h.takeStamp _) h)
theorem Keeps.execInternalReferenceLock (h : Keeps s t) : OutKeeps s (execInternalReferenceLock t) := .next (Keeps.ite ((h.set _ _).set _ _) h)
theorem Keeps.realign (h : Keeps s t) (t' : Rat) : Keeps s (t.realign t') := by
  unfold State.realign
  split
  · exact h.setTrk _
  · exact h
theorem Keeps.epochReply (h : Keeps s t) (stamp : Nat) : Keeps s (t.epochReply stamp) := by
  unfold State.epochReply
  split
  · exact ((h.setTrk _).answer _ _ _ _ _ _).retire _ _ _
  · exact h
theorem Keeps.setEpoch (h : Keeps s t) (k' : Int) (marker : Bool) : Keeps s (t.setEpoch k' marker) := by
  unfold State.setEpoch
  extract_lets s1 src src2
  have hs1 : Keeps s s1 := Keeps.ite ((h.set _ _).setTrk _) h
  clear_value s1
  have hsrc : Keeps s src := hs1.set _ _
  clear_value src
  refine Keeps.setTrk ?_ _
  exact hsrc.same rfl rfl rfl rfl rfl
theorem Keeps.execFlightEpochSet (h : Keeps s t) (at_ : BitVec 64) : OutKeeps s (execFlightEpochSet at_ t) := by
  unfold Machine.execFlightEpochSet
  refine .next (Keeps.ite h ?_)
  split
  · split
    · exact (h.setEpoch _ _).epochReply _
    · exact h
  · extract_lets s1
    have hs1 : Keeps s s1 := h.realign _
    clear_value s1
    exact Keeps.ite ((hs1.setEpoch _ _).epochReply _) h
  · exact h
theorem Keeps.execReferenceLost (h : Keeps s t) : OutKeeps s (execReferenceLost t) := by
  unfold Machine.execReferenceLost
  extract_lets s1
  have hs1 : Keeps s s1 := (h.raise _ _).set _ _
  clear_value s1
  exact .next (h.onFab (Keeps.ite (Keeps.ite (hs1.setTrk _) ((hs1.set _ _).setTrk _)) h))
theorem Keeps.execHoldoverPhaseCheck (h : Keeps s t) : OutKeeps s (execHoldoverPhaseCheck t) := by
  unfold Machine.execHoldoverPhaseCheck
  refine .next (h.onFab ?_)
  split
  · exact Keeps.ite (Keeps.ite (((((Keeps.ite ((Keeps.ite (h.setSq _ _) h).setSq _ _) (Keeps.ite
        (h.setSq _ _) h)).set _ _).setTrk _).setExtModel _).judgeLock) ((h.raise _ _).setTrk _)) h
  · exact h

/-! ### Runs: what is launched next (R65, R66, R74, R80) -/

theorem Keeps.showNext (h : Keeps s t) (f : Fib) : Keeps s (t.showNext f) := h.setSq _ _
theorem Keeps.planRun (h : Keeps s t) (f : Fib) (p : Rat) : Keeps s (t.planRun f p) := (h.setSq _ _).showNext _
theorem Keeps.setPfil (h : Keeps s t) (f : Fib) (g : PfilRun → PfilRun) : Keeps s (t.setPfil f g) := h.same rfl rfl rfl rfl rfl
theorem Keeps.setEng (h : Keeps s t) (n : Fin 16) (g : Engine → Engine) : Keeps s (t.setEng n g) := h.same rfl rfl rfl rfl rfl
theorem Keeps.requestSync (h : Keeps s t) (f : Fib) : Keeps s (t.requestSync f) := (h.set _ _).setPfil _ _
theorem Keeps.applyPage (h : Keeps s t) (f : Fib) : Keeps s (t.applyPage f) := by
  unfold State.applyPage
  extract_lets s1
  have hs1 : Keeps s s1 := (h.set _ _).set _ _
  clear_value s1
  exact Keeps.ite (Keeps.ite (hs1.requestSync _) hs1) h
theorem Keeps.switchNow (h : Keeps s t) (f : Fib) (p : Nat) : Keeps s (t.switchNow f p) := by
  unfold State.switchNow
  extract_lets s1
  have hs1 : Keeps s s1 := (h.set _ _).set _ _
  clear_value s1
  exact Keeps.ite (hs1.requestSync _) hs1
theorem Keeps.beginRun (h : Keeps s t) (f : Fib) (contiguous : Bool) : Keeps s (t.beginRun f contiguous) := by
  unfold State.beginRun
  extract_lets s1 s2 fed s3
  have hs1 : Keeps s s1 := (((h.set _ _).inc _).setSq _ _).showNext _
  clear_value s1
  have hs2 : Keeps s s2 := Keeps.ite (hs1.applyPage _) hs1
  clear_value s2
  have hs3 : Keeps s s3 := Keeps.ite hs2 ((hs2.set _ _).setPfil _ _)
  clear_value s3
  exact (hs3.setPfil _ _).setB _ _

/-! ### Triggers (R74–R79, R509) -/

theorem Keeps.trigger (h : Keeps s t) (f : Fib) (time : Option Rat) : Keeps s (t.trigger f time).2 := by
  unfold State.trigger
  extract_lets lost p
  have hlost : Keeps s lost.2 := (((h.inc _).raise _ _).pair _).at rfl
  clear_value lost
  split
  · exact ((h.set _ _).planRun _ _).pair _
  · split
    · exact hlost
    · split
      · split
        · exact hlost
        · exact ((h.set _ _).setSq _ _).pair _
      · exact (h.setSq _ _).pair _
  · exact hlost
  · exact (h.inc _).pair _
theorem Keeps.softTrigger (h : Keeps s t) (f : Fib) : Keeps s (t.softTrigger f).2 := by
  unfold State.softTrigger
  split
  · exact h.trigger _ _
  · exact (h.inc _).pair _
theorem Keeps.execHardwareTrigger (h : Keeps s t) (f : Fib) (src : TrigSrc) : OutKeeps s (execHardwareTrigger f src t) :=
    .next (Keeps.ite (h.trigger _ _) h)
theorem Keeps.execTimeTrigger (h : Keeps s t) (f : Fib) : OutKeeps s (execTimeTrigger f t) := by
  unfold Machine.execTimeTrigger
  refine .next (h.onFab ?_)
  split
  · exact Keeps.ite ((h.setSq _ _).trigger _ _) h
  · exact h
theorem Keeps.execSeqTrigGo (h : Keeps s t) (f : Fib) : OutKeeps s (execSeqTrigGo f t) := .next (h.onReg (h.softTrigger _) _)

/-! ### Launches (R69, R71) -/

theorem Keeps.stepEntry (h : Keeps s t) (f : Fib) (e : Entry) : Keeps s (t.stepEntry f e) := Keeps.ite (h.setSq _ _) (h.setSq _ _)
theorem Keeps.execLaunchHandover (h : Keeps s t) (f : Fib) : OutKeeps s (execLaunchHandover f t) := by
  unfold Machine.execLaunchHandover
  refine .next ?_
  split
  · extract_lets ph t2 q len skip at_ info s1 s2
    have hs1 : Keeps s s1 := h.setSq _ _
    clear_value s1
    have hs2 : Keeps s s2 := Keeps.ite ((hs1.inc _).raise _ _) ((hs1.setLw _ _).setSq _ _)
    clear_value s2
    exact Keeps.ite ((hs2.stepEntry _ _).showNext _) h
  · exact h
theorem Keeps.upShot (h : Keeps s t) (f : Fib) (shot : Nat) (g : EnvShot → EnvShot) : Keeps s (t.upShot f shot g) := by
  unfold State.upShot
  extract_lets up s1 src
  have hs1 : Keeps s s1 := h.setLw _ _
  clear_value s1
  exact Keeps.ite (hs1.same rfl rfl rfl rfl rfl) hs1
theorem Keeps.settleShot (h : Keeps s t) (f : Fib) (shot : Nat) (t' : Rat) (sched : Bool) : Keeps s (t.settleShot f shot t' sched) := by
  unfold State.settleShot
  extract_lets src src2
  have hsrc : Keeps s src := h.setSq _ _
  clear_value src
  refine Keeps.upShot ?_ _ _ _
  exact hsrc.same rfl rfl rfl rfl rfl
theorem Keeps.lmonIn (h : Keeps s t) (f : Fib) (t' : Rat) (w : LmonWin) : Keeps s (t.lmonIn f t' w) :=
    Keeps.ite ((h.inc _).raise _ _) ((h.setSq _ _).settleShot _ _ _ _)
theorem Keeps.execLmonEdge (h : Keeps s t) (f : Fib) (stamp : BitVec 64) : OutKeeps s (execLmonEdge f stamp t) :=
    .next (h.onFab (h.foldl (fun u _ => (Keeps.refl u).lmonIn _ _ _) _))
theorem Keeps.execLmonWindowClose (h : Keeps s t) (f : Fib) : OutKeeps s (execLmonWindowClose f t) := by
  unfold Machine.execLmonWindowClose
  refine .next (h.onFab ?_)
  split
  · extract_lets s1
    have hs1 : Keeps s s1 := h.setSq _ _
    clear_value s1
    exact Keeps.ite (Keeps.ite hs1 (((hs1.inc _).raise _ _).settleShot _ _ _ _)) h
  · exact h

/-! ### Stops and boundaries (R75–R80) -/

theorem Keeps.gainTo (h : Keeps s t) (f : Fib) (e : Nat) (n : Int) : Keeps s (t.gainTo f e n) := by
  unfold State.gainTo
  extract_lets rg bg r src
  have hsrc : Keeps s src := h.inc _
  clear_value src
  exact Keeps.ite h (hsrc.same rfl rfl rfl rfl rfl)
theorem Keeps.syncStair (h : Keeps s t) (f : Fib) : Keeps s (t.syncStair f) := Keeps.ite h (h.gainTo _ _ _)
theorem Keeps.abortLearn (h : Keeps s t) (f : Fib) : Keeps s (t.abortLearn f) := (h.set _ _).setLw _ _
theorem Keeps.toIdle (h : Keeps s t) (f : Fib) : Keeps s (t.toIdle f) :=
    ((((((((((h.applyPage _).setSq _ _).set _ _).set _ _).set _ _).tdcRelease _ _).tdcRelease _ _).syncStair _).abortLearn _).calAbort
      _).endFallback
theorem Keeps.stopDiscards (h : Keeps s t) (f : Fib) : Keeps s (t.stopDiscards f) := (h.incBy _ _).set _ _
theorem Keeps.stopSeq (h : Keeps s t) (f : Fib) : Keeps s (t.stopSeq f) := by
  unfold State.stopSeq
  split
  · exact h.toIdle _
  · exact ((((h.stopDiscards _).set _ _).calAbort _).abortLearn _).setSq _ _
  · exact Keeps.ite (((((h.stopDiscards _).set _ _).calAbort _).abortLearn _).setSq _ _) ((h.stopDiscards _).toIdle _)
  · exact h
theorem Keeps.execStopAtBoundary (h : Keeps s t) (f : Fib) : OutKeeps s (execStopAtBoundary f t) := by
  unfold Machine.execStopAtBoundary
  refine .next (h.onFab ?_)
  split
  · exact Keeps.ite (h.toIdle _) h
  · exact h
theorem Keeps.execHoldoverLimitStop (h : Keeps s t) : OutKeeps s (execHoldoverLimitStop t) :=
    .next (h.onFab (Keeps.ite ((Keeps.ite (((Keeps.ite ((h.raise _ _).stopSeq _) h).raise _ _).stopSeq _) (Keeps.ite
      ((h.raise _ _).stopSeq _) h)).setTrk _) h))
theorem Keeps.execRunStart (h : Keeps s t) (f : Fib) : OutKeeps s (execRunStart f t) := by
  unfold Machine.execRunStart
  refine .next (h.onFab ?_)
  split
  · exact Keeps.ite (h.beginRun _ _) h
  · exact h
theorem Keeps.execRunAbort (h : Keeps s t) (f : Fib) : OutKeeps s (execRunAbort f t) := by
  unfold Machine.execRunAbort
  refine .next (h.onFab ?_)
  split
  · exact Keeps.ite (((h.set _ _).setSq _ _).planRun _ _) h
  · exact h
theorem Keeps.execDrainComplete (h : Keeps s t) (f : Fib) : OutKeeps s (execDrainComplete f t) := by
  unfold Machine.execDrainComplete
  refine .next (h.onFab ?_)
  split
  · exact Keeps.ite (h.beginRun _ _) h
  · exact h
theorem Keeps.execFlightEnd (h : Keeps s t) (f : Fib) : OutKeeps s (execFlightEnd f t) := by
  unfold Machine.execFlightEnd
  refine .next (h.onFab ?_)
  split
  · extract_lets s1 n s2
    have hs1 : Keeps s s1 := h.setSq _ _
    clear_value s1
    have hs2 : Keeps s s2 := Keeps.ite (hs1.applyPage _) hs1
    clear_value s2
    exact Keeps.ite (Keeps.ite hs1 (Keeps.ite (((hs2.set _ _).setSq _ _).beginRun _ _) (Keeps.ite hs2 (((hs2.set _ _).set _ _).setSq _ _)))) h
  · exact h
theorem Keeps.execPageSwitchApply (h : Keeps s t) (f : Fib) : OutKeeps s (execPageSwitchApply f t) :=
    .next (h.onFab (Keeps.ite (h.applyPage _) h))

/-! ### Markers (R64) -/

theorem Keeps.execMarkerEdge (h : Keeps s t) (stamp : BitVec 64) : OutKeeps s (execMarkerEdge stamp t) := by
  unfold Machine.execMarkerEdge
  refine .next (Keeps.ite h (Keeps.ite (h.setTrk _) ?_))
  split
  · exact (h.markErr _).setTrk _
  · exact h

/-! ### Opcodes (R84) -/

theorem Keeps.seqConfig (h : Keeps s t) (ps : List Nat) : CmdRes.Keeps s (seqConfig t ps) :=
    .ite (.refuse _ _) (.ite (.ok ((((h.set _ _).set _ _).set _ _).set _ _)) (.refuse _ _))
theorem Keeps.execSeqConfig (h : Keeps s t) (c : CmdIn) : OutKeeps s (execSeqConfig c t) := .next (h.runOp ((Keeps.refl t).seqConfig _))
theorem Keeps.writeRefCtrl (h : Keeps s t) (v : Nat) : Keeps s (t.writeRefCtrl v) := by
  unfold State.writeRefCtrl
  extract_lets s1
  have hs1 : Keeps s s1 := ((((h.set _ _).set _ _).set _ _).set _ _).set _ _
  clear_value s1
  exact Keeps.ite (hs1.tdcAcquire _ _) (hs1.tdcRelease _ _)
theorem Keeps.seqRef (h : Keeps s t) (ps : List Nat) : CmdRes.Keeps s (seqRef t ps) :=
    .ite (.refuse _ _) (.ite (.refuse _ _) (.ite (.refuse _ _) (.ite (.ok ((((((((h.writeRefCtrl _).set _ _).set _ _).set _ _).set _ _).set _
      _).putMper _).refChanged _)) (.refuse _ _))))
theorem Keeps.execSeqRef (h : Keeps s t) (c : CmdIn) : OutKeeps s (execSeqRef c t) := .next (h.runOp ((Keeps.refl t).seqRef _))
theorem Keeps.writeEntry (h : Keeps s t) (f : Nat) (p : Nat) (e : Nat) (v : Nat) : Keeps s (t.writeEntry f p e v) :=
    (((h.set _ _).set _ _).set _ _).set _ _
theorem Keeps.seqFlightWrite (h : Keeps s t) (ps : List Nat) : CmdRes.Keeps s (seqFlightWrite t ps) :=
    .ite (.refuse _ _) (.ite (.ok (h.foldl (fun u _ => (Keeps.refl u).writeEntry _ _ _ _) _)) (.refuse _ _))
theorem Keeps.execSeqFlightWrite (h : Keeps s t) (c : CmdIn) : OutKeeps s (execSeqFlightWrite c t) :=
    .next (h.runOp ((Keeps.refl t).seqFlightWrite _))
theorem Keeps.seqPeriod (h : Keeps s t) (ps : List Nat) : CmdRes.Keeps s (seqPeriod t ps) :=
    .ite (.refuse _ _) (.ite (.ok (Keeps.ite ((h.set _ _).set _ _) ((h.set _ _).set _ _))) (.refuse _ _))
theorem Keeps.execSeqPeriod (h : Keeps s t) (c : CmdIn) : OutKeeps s (execSeqPeriod c t) := .next (h.runOp ((Keeps.refl t).seqPeriod _))
theorem Keeps.recordLoads (h : Keeps s t) (f : Nat) (p : Nat) (uneven : Bool) (t' : Rat) : Keeps s (t.recordLoads f p uneven t') := by
  unfold State.recordLoads
  extract_lets s1 s2
  have hs1 : Keeps s s1 := h.setLoad _ _
  clear_value s1
  have hs2 : Keeps s s2 := Keeps.ite (hs1.setBrilLoad _ _ _) hs1
  clear_value s2
  exact hs2.setRtLoad _ _ _
theorem Keeps.holdSwitch (h : Keeps s t) (f : Fib) : Keeps s (t.holdSwitch f) := (h.set _ _).setSq _ _
theorem Keeps.seqPageSwitch (h : Keeps s t) (ps : List Nat) : CmdRes.Keeps s (seqPageSwitch t ps) := by
  unfold Machine.seqPageSwitch
  refine .ite (.ite (.ok (h.set _ _)) (.already h)) (.ite (.already h) (.ite (.refuse _ _) ?_))
  split
  · exact .refuse _ _
  · extract_lets s1
    have hs1 : Keeps s s1 := h.recordLoads _ _ _ _
    clear_value s1
    exact .ite (.ok (hs1.switchNow _ _)) (.done (hs1.holdSwitch _) _ _)
theorem Keeps.execSeqPageSwitch (h : Keeps s t) (c : CmdIn) : OutKeeps s (execSeqPageSwitch c t) :=
    .next (h.runOp ((Keeps.refl t).seqPageSwitch _))
theorem Keeps.armSeq (h : Keeps s t) (f : Fib) (ps : List Nat) (fall : Bool) : Keeps s (t.armSeq f ps fall) := by
  unfold State.armSeq
  extract_lets ctrl src s1 s2 s3 s4 s5 src2 src3 s6
  have hs1 : Keeps s s1 := (((((h.set _ _).set _ _).set _ _).set _ _).set _ _).set _ _
  clear_value s1
  have hs2 : Keeps s s2 := ((hs1.set _ _).set _ _).set _ _
  clear_value s2
  have hs3 : Keeps s s3 := by
    unfold s3
    split
    · exact hs2.tdcAcquire _ _
    · exact hs2
  clear_value s3
  have hs4 : Keeps s s4 := Keeps.ite hs3.startFallback hs3
  clear_value s4
  have hs5 : Keeps s s5 := (((hs4.applyAutoSpan _).recordLoads _ _ _ _).set _ _).setSq _ _
  clear_value s5
  have hs6 : Keeps s s6 := hs5.same rfl rfl rfl rfl rfl
  clear_value s6
  refine (hs6.setPfil _ _).foldl (fun u a => ?_) _
  extract_lets u2 src4
  have hu2 : Keeps u u2 := (Keeps.refl u).setEng _ _
  clear_value u2
  exact hu2.same rfl rfl rfl rfl rfl
theorem Keeps.seqArm (h : Keeps s t) (ps : List Nat) : CmdRes.Keeps s (seqArm t ps) := by
  unfold Machine.seqArm
  extract_lets f fall
  split
  · exact .refuse _ _
  · exact .ite (.done h _ _) (.done (h.armSeq _ _ _) _ _)
theorem Keeps.execSeqArm (h : Keeps s t) (c : CmdIn) : OutKeeps s (execSeqArm c t) := .next (h.runOp ((Keeps.refl t).seqArm _))
theorem Keeps.seqTrigger (h : Keeps s t) (ps : List Nat) : CmdRes.Keeps s (seqTrigger t ps) := by
  unfold Machine.seqTrigger
  extract_lets r
  have hr : Keeps s r.2 := (h.softTrigger _).at rfl
  clear_value r
  exact .done hr _ _
theorem Keeps.execSeqTrigger (h : Keeps s t) (c : CmdIn) : OutKeeps s (execSeqTrigger c t) := .next (h.runOp ((Keeps.refl t).seqTrigger _))
theorem Keeps.seqStop (h : Keeps s t) (ps : List Nat) : CmdRes.Keeps s (seqStop t ps) := .ite (.already h) (.ok (h.stopSeq _))
theorem Keeps.execSeqStop (h : Keeps s t) (c : CmdIn) : OutKeeps s (execSeqStop c t) := .next (h.runOp ((Keeps.refl t).seqStop _))
theorem Keeps.seqEpoch (h : Keeps s t) (ps : List Nat) : CmdRes.Keeps s (seqEpoch t ps) := by
  unfold Machine.seqEpoch
  split
  · exact .refuse _ _
  · exact .ok h
theorem Keeps.execSeqEpoch (h : Keeps s t) (c : CmdIn) : OutKeeps s (execSeqEpoch c t) := by
  unfold Machine.execSeqEpoch
  extract_lets ps p src src2
  have hsrc : Keeps s src := h.setTrk _
  clear_value src
  exact .next (Keeps.ite (hsrc.same rfl rfl rfl rfl rfl) (h.runOp ((Keeps.refl t).seqEpoch _)))
theorem Keeps.seqGetStatus (h : Keeps s t) (ps : List Nat) : CmdRes.Keeps s (seqGetStatus t ps) := .data h _
theorem Keeps.execSeqGetStatus (h : Keeps s t) (c : CmdIn) : OutKeeps s (execSeqGetStatus c t) := .next (h.runOp ((Keeps.refl t).seqGetStatus _))
theorem Keeps.seqLmon (h : Keeps s t) (ps : List Nat) : CmdRes.Keeps s (seqLmon t ps) :=
    .ite (.refuse _ _) (.ite (.ok (((h.set _ _).set _ _).set _ _)) (.refuse _ _))
theorem Keeps.execSeqLmon (h : Keeps s t) (c : CmdIn) : OutKeeps s (execSeqLmon c t) := .next (h.runOp ((Keeps.refl t).seqLmon _))

end Sys2Proof.Machine
end

section
/-! SUPPORT. The functions of Sys2Proof/Machine/Signal.lean keep the canonical forms and the queue. -/

namespace Sys2Proof.Machine
variable {s t u : State}
theorem Keeps.setRxf (h : Keeps s t) (f : Fib) (g : RxfRun → RxfRun) : Keeps s (t.setRxf f g) := h.same rfl rfl rfl rfl rfl

/-! ### Matched filter (R109–R111) -/

theorem Keeps.pickNear (h : Keeps s t) (v : Rat) (r : Nat) : Keeps s (t.pickNear v r).2 := by
  unfold State.pickNear
  extract_lets lo x
  have hx : Keeps s x.2 := (h.pick _ _).at rfl
  clear_value x
  exact hx.pair _

/-! ### Phase and magnitude (R112) -/

theorem Keeps.cordic (h : Keeps s t) (i : Int) (q : Int) : Keeps s (t.cordic i q).2 := by
  unfold State.cordic
  extract_lets d
  have hd : Keeps s d.2 := (h.pick _ _).at rfl
  clear_value d
  split
  · exact h.pair _
  · exact hd.pair _

end Sys2Proof.Machine
end

section
/-! SUPPORT. The functions of Sys2Proof/Machine/Rxf.lean keep the canonical forms and the queue. -/

namespace Sys2Proof.Machine
variable {s t u : State}
theorem Keeps.setPrism (h : Keeps s t) (f : Fib) (g : PrismRun → PrismRun) : Keeps s (t.setPrism f g) := h.same rfl rfl rfl rfl rfl
theorem Keeps.firmwareWrite (h : Keeps s t) (a : Nat) (ws : List Nat) : Keeps s (t.firmwareWrite a ws) :=
    (Keeps.foldl_fst (fun _ _ => ((Keeps.refl _).write32 _ _ _).pairFst _) _ (h.pairFst _)).release _
theorem Keeps.readShotWords (h : Keeps s t) (f : Fib) (d : Nat) : Keeps s (t.readShotWords f d).2 := by
  unfold State.readShotWords
  refine Keeps.foldl_snd (fun p a => ?_) _ (h.pair _)
  extract_lets r
  have hr : Keeps p.2 r.2 := ((Keeps.refl _).readWord _ _).at rfl
  clear_value r
  exact hr.pair _
theorem Keeps.passShot (h : Keeps s t) (f : Fib) (slot : Nat) : Keeps s (t.passShot f slot) := h.setPrism _ _
theorem Keeps.brilCapture (h : Keeps s t) (f : Fib) (shot : Nat) (em : Emission) : Keeps s (t.brilCapture f shot em) := by
  unfold State.brilCapture
  refine Keeps.ite ?_ (h.passShot _ _)
  split
  · exact (h.inc _).setPrism _ _
  · exact ((h.inc _).raise _ _).passShot _ _
theorem Keeps.dropShot (h : Keeps s t) (f : Fib) (shot : Nat) : Keeps s (t.dropShot f shot) := (((h.inc _).raise _ _).setLw _ _).setSq _ _
theorem Keeps.markLaunch (h : Keeps s t) (f : Fib) (shot : Nat) : Keeps s (t.markLaunch f shot) := (h.setSq _ _).upShot _ _ _
theorem Keeps.emitShot (h : Keeps s t) (f : Fib) (shot : Nat) (em : Emission) : Keeps s (t.emitShot f shot em) := (h.markLaunch _ _).setRxf _ _
theorem Keeps.execShotLaunch (h : Keeps s t) (f : Fib) : OutKeeps s (execShotLaunch f t) := by
  unfold Machine.execShotLaunch
  refine .next (h.onFab ?_)
  split
  · extract_lets r s1 em s2 s3 s4
    have hr : Keeps s r.2 := (h.readShotWords _ _).at rfl
    clear_value r
    have hs1 : Keeps s s1 := hr.setSq _ _
    clear_value s1
    have hs2 : Keeps s s2 := hs1.emitShot _ _ _
    clear_value s2
    have hs3 : Keeps s s3 := Keeps.ite (hs2.raise _ _) hs2
    clear_value s3
    have hs4 : Keeps s s4 := Keeps.ite hs3 (hs3.settleShot _ _ _ _)
    clear_value s4
    exact Keeps.ite (Keeps.ite (hs1.dropShot _ _) (hs4.brilCapture _ _ _)) h
  · exact h
theorem Keeps.execProbeTestEmit (h : Keeps s t) (f : Fib) : OutKeeps s (execProbeTestEmit f t) := .next (h.onFab (Keeps.ite (h.setRxf _ _) h))
theorem Keeps.execConverterGroupReady (h : Keeps s t) (f : Fib) (bril : Bool) : OutKeeps s (execConverterGroupReady f bril t) :=
    .next (h.onFab (Keeps.ite (Keeps.ite (h.set _ _) h) (Keeps.ite (h.set _ _) h)))
theorem Keeps.execGainStep (h : Keeps s t) (f : Fib) (entry : Fin 16) (ofs : Fin 5) : OutKeeps s (execGainStep f entry ofs t) := by
  unfold Machine.execGainStep
  refine .next (h.onFab (Keeps.ite ?_ h))
  split
  · exact Keeps.ite ((h.gainTo _ _ _).setRxf _ _) h
  · exact h
theorem Keeps.setGroups (h : Keeps s t) (f : Fib) (ray : Bool) (bri : Bool) : Keeps s (t.setGroups f ray bri) := by
  unfold State.setGroups
  extract_lets s1 s2 s3
  have hs1 : Keeps s s1 := Keeps.ite (Keeps.ite h (h.setRxf _ _)) (h.set _ _)
  clear_value s1
  have hs2 : Keeps s s2 := Keeps.ite (Keeps.ite hs1 (hs1.setRxf _ _)) (hs1.set _ _)
  clear_value s2
  have hs3 : Keeps s s3 := (hs2.setB _ _).setB _ _
  clear_value s3
  exact Keeps.ite (hs3.calAbort _) hs3

/-! ### Opcodes (R103) -/

theorem Keeps.rxfProbeWrite (h : Keeps s t) (ps : List Nat) : CmdRes.Keeps s (rxfProbeWrite t ps) :=
    .ite (.refuse _ _) (.ite (.refuse _ _) (.ite (.refuse _ _) (.ok ((((((((h.set _ _).set _ _).set _ _).set _ _).set _ _).set _ _).set _ _).set
      _ _))))
theorem Keeps.execRxfProbeWrite (h : Keeps s t) (c : CmdIn) : OutKeeps s (execRxfProbeWrite c t) :=
    .next (h.runOp ((Keeps.refl t).rxfProbeWrite _))
theorem Keeps.rxfCodeWrite (h : Keeps s t) (ps : List Nat) : CmdRes.Keeps s (rxfCodeWrite t ps) :=
    .ite (.refuse _ _) (.ite (.refuse _ _) (.ok (h.firmwareWrite _ _)))
theorem Keeps.execRxfCodeWrite (h : Keeps s t) (c : CmdIn) : OutKeeps s (execRxfCodeWrite c t) := .next (h.runOp ((Keeps.refl t).rxfCodeWrite _))
theorem Keeps.rxfStairWrite (h : Keeps s t) (ps : List Nat) : CmdRes.Keeps s (rxfStairWrite t ps) :=
    .ite (.refuse _ _) (.ite (.refuse _ _) (.ok ((h.firmwareWrite _ _).syncStair _)))
theorem Keeps.execRxfStairWrite (h : Keeps s t) (c : CmdIn) : OutKeeps s (execRxfStairWrite c t) :=
    .next (h.runOp ((Keeps.refl t).rxfStairWrite _))
theorem Keeps.rxfGate (h : Keeps s t) (ps : List Nat) : CmdRes.Keeps s (rxfGate t ps) :=
    .ite (.refuse _ _) (.ite (.refuse _ _) (.ok ((((h.set _ _).set _ _).set _ _).set _ _)))
theorem Keeps.execRxfGate (h : Keeps s t) (c : CmdIn) : OutKeeps s (execRxfGate c t) := .next (h.runOp ((Keeps.refl t).rxfGate _))
theorem Keeps.rxfPower (h : Keeps s t) (ps : List Nat) : CmdRes.Keeps s (rxfPower t ps) := by
  unfold Machine.rxfPower
  extract_lets f t2
  have ht2 : Keeps s t2 := (h.setGroups _ _ _).set _ _
  clear_value t2
  exact .ite (.refuse _ _) (.done ht2 _ _)
theorem Keeps.execRxfPower (h : Keeps s t) (c : CmdIn) : OutKeeps s (execRxfPower c t) := .next (h.runOp ((Keeps.refl t).rxfPower _))
theorem Keeps.setPtest (h : Keeps s t) (f : Fib) (on : Bool) : Keeps s (t.setPtest f on) := ((h.setB _ _).setB _ _).setRxf _ _
theorem Keeps.rxfProbeTest (h : Keeps s t) (ps : List Nat) : CmdRes.Keeps s (rxfProbeTest t ps) :=
    .ite (.refuse _ _) (.ite (.refuse _ _) (.ite (.already h) (.ok ((((h.set _ _).set _ _).set _ _).setPtest _ _))))
theorem Keeps.execRxfProbeTest (h : Keeps s t) (c : CmdIn) : OutKeeps s (execRxfProbeTest c t) := .next (h.runOp ((Keeps.refl t).rxfProbeTest _))
theorem Keeps.rxfGetStatus (h : Keeps s t) (ps : List Nat) : CmdRes.Keeps s (rxfGetStatus t ps) := .data h _
theorem Keeps.execRxfGetStatus (h : Keeps s t) (c : CmdIn) : OutKeeps s (execRxfGetStatus c t) := .next (h.runOp ((Keeps.refl t).rxfGetStatus _))

end Sys2Proof.Machine
end

section
/-! SUPPORT. The functions of Sys2Proof/Machine/Prism.lean keep the canonical forms and the queue. -/

namespace Sys2Proof.Machine
variable {s t u : State}
theorem Keeps.setLand (h : Keeps s t) (n : Fin 16) (g : Landing → Landing) : Keeps s (t.setLand n g) := h.same rfl rfl rfl rfl rfl

/-! ### Galleries (R113–R118) -/

theorem Keeps.galWord (h : Keeps s t) (a : Nat) (init : Nat) : Keeps s (t.galWord a init).2 := by
  unfold State.galWord
  extract_lets r
  have hr : Keeps s r.2 := (h.readWord _ _).at rfl
  clear_value r
  exact hr.pair _
theorem Keeps.galUpdate (h : Keeps s t) (a : Nat) (n : Nat) (init : Nat) (g : Nat → Nat) : Keeps s (t.galUpdate a n init g) := by
  unfold State.galUpdate
  extract_lets r
  have hr : Keeps s r.2 := (h.galWord _ _).at rfl
  clear_value r
  exact hr.writeWord _ _
theorem Keeps.readRef (h : Keeps s t) (f : Nat) (p : Nat) (sl : Nat) (pol : Nat) : Keeps s (t.readRef f p sl pol).2 := by
  unfold State.readRef
  extract_lets r
  have hr : Keeps s r.2 := (h.galWord _ _).at rfl
  clear_value r
  exact hr.pair _
theorem Keeps.qualCount (h : Keeps s t) (f : Nat) (p : Nat) (i : Nat) : Keeps s (t.qualCount f p i) := h.galUpdate _ _ _ _
theorem Keeps.fadeThr (h : Keeps s t) (f : Nat) (p : Nat) : Keeps s (t.fadeThr f p).2 := by
  unfold State.fadeThr
  extract_lets r
  have hr : Keeps s r.2 := (h.galWord _ _).at rfl
  clear_value r
  exact hr.pair _

/-! ### Responses (R105–R115) -/

theorem Keeps.respFlag (h : Keeps s t) (f : Nat) (p : Nat) (i : Nat) (cnt : Fld) (b : Bool) : Keeps s (t.respFlag f p i cnt b) :=
    Keeps.ite ((h.inc _).qualCount _ _ _) h
theorem Keeps.mfSat (h : Keeps s t) (f : Nat) (n : Nat) : Keeps s (t.mfSat f n) := Keeps.ite h ((h.incBy _ _).raise _ _)
theorem Keeps.mfOutput (h : Keeps s t) (f : Fib) (e : Emission) (pos : Nat) (pol : Fin 2) : Keeps s (t.mfOutput f e pos pol).2 := by
  unfold State.mfOutput
  extract_lets x d a b sh i0 q0
  have ha : Keeps s a.2 := (h.pickNear _ _).at rfl
  clear_value a
  have hb : Keeps s b.2 := (ha.pickNear _ _).at rfl
  clear_value b
  exact hb.pair _
theorem Keeps.keepResponse (h : Keeps s t) (f : Fib) (x : Shot) (r : Response) (i : Int) (q : Int) (step : Bool) (clip : Bool) :
    Keeps s (t.keepResponse f x r i q step clip) := by
  unfold State.keepResponse
  extract_lets b m mag ph thr fade s2 s3 both a c s4 iqs w
  have hm : Keeps s m.2 := (h.pick _ _).at rfl
  clear_value m
  have hph : Keeps s ph.2 := (hm.cordic _ _).at rfl
  clear_value ph
  have hthr : Keeps s thr.2 := (hph.fadeThr _ _).at rfl
  clear_value thr
  have hs2 : Keeps s s2 := ((hthr.respFlag _ _ _ _ _).respFlag _ _ _ _ _).respFlag _ _ _ _ _
  clear_value s2
  have hs3 : Keeps s s3 := Keeps.ite hs2 (hs2.galUpdate _ _ _ _)
  clear_value s3
  have ha : Keeps s a.2 := (hs3.readRef _ _ _ _).at rfl
  clear_value a
  have hc : Keeps s c.2 := (ha.readRef _ _ _ _).at rfl
  clear_value c
  have hs4 : Keeps s s4 := Keeps.ite (hc.galUpdate _ _ _ _) hs3
  clear_value s4
  exact hs4.setPrism _ _
theorem Keeps.execPrismResponse (h : Keeps s t) (f : Fib) (r : Response) : OutKeeps s (execPrismResponse f r t) := by
  unfold Machine.execPrismResponse
  refine .next (h.onFab ?_)
  split
  · extract_lets w z
    have hz : Keeps s z.2 := (h.mfOutput _ _ _ _).at rfl
    clear_value z
    exact Keeps.ite ((hz.mfSat _ _).keepResponse _ _ _ _ _ _ _) h
  · exact h

/-! ### Captured Brillouin shots (R120) -/

theorem Keeps.storeCapture (h : Keeps s t) (f : Fib) (c : Capture) : Keeps s (t.storeCapture f c) :=
    h.foldl (fun u _ => (Keeps.refl u).writeRange _ _) _
theorem Keeps.brilTake (h : Keeps s t) (f : Fib) (iv : Int) (clip : Bool) : Keeps s (t.brilTake f iv clip) :=
    (h.foldl (fun u _ => (Keeps.refl u).storeCapture _ _) _).setPrism _ _

/-! ### Landings (R123–R127) -/

theorem Keeps.loseHalves (h : Keeps s t) (n : Fin 16) (hs : List Half) : Keeps s (t.loseHalves n hs) :=
    ((h.incBy _ _).foldl (fun u _ => (Keeps.refl u).set _ _) _).setLand _ _
theorem Keeps.handHalf (h : Keeps s t) (f : Fib) (n : Fin 16) (flushed : Bool) : Keeps s (t.handHalf f n flushed) := by
  unfold State.handHalf
  extract_lets l a seq x s1 s2 s3
  have hs1 : Keeps s s1 := h.writeRange _ _
  clear_value s1
  have hs2 : Keeps s s2 := ((hs1.set _ _).set _ _).set _ _
  clear_value s2
  have hs3 : Keeps s s3 := (hs2.pmonAdd _ _ _).setLand _ _
  clear_value s3
  exact Keeps.ite hs3 (hs3.loseHalves _ _)
theorem Keeps.dropRun (h : Keeps s t) (f : Fib) (n : Fin 16) (n2 : Nat) : Keeps s (t.dropRun f n n2) :=
    (((h.incBy _ _).raise _ _).pmonAdd _ _ _).setLand _ _
theorem Keeps.putRun (h : Keeps s t) (n : Fin 16) (ws : List Nat) : Keeps s (t.putRun n ws) := (h.writeRange _ _).setLand _ _
theorem Keeps.landRun (h : Keeps s t) (f : Fib) (n : Fin 16) (n2 : Nat) (ws : List Nat) : Keeps s (t.landRun f n n2 ws) := by
  unfold State.landRun
  extract_lets l s1
  have hs1 : Keeps s s1 := h.handHalf _ _ _
  clear_value s1
  exact Keeps.ite (h.dropRun _ _ _) (Keeps.ite (h.putRun _ _) (Keeps.ite (hs1.dropRun _ _ _) (hs1.putRun _ _)))
theorem Keeps.execLandingRunWrite (h : Keeps s t) (n : Fin 16) (shot : Nat) : OutKeeps s (execLandingRunWrite n shot t) := by
  unfold Machine.execLandingRunWrite
  refine .next (h.onFab (Keeps.ite h ?_))
  split
  · exact h
  · split
    · exact h
    · exact (h.landRun _ _ _ _).setLand _ _
theorem Keeps.execLandingFlushTimeout (h : Keeps s t) (n : Fin 16) : OutKeeps s (execLandingFlushTimeout n t) := by
  unfold Machine.execLandingFlushTimeout
  refine .next (h.onFab ?_)
  split
  · exact Keeps.ite (h.handHalf _ _ _) h
  · exact h

/-! ### Gallery operations (R117, R118) -/

theorem Keeps.startGal (h : Keeps s t) (f : Fib) (op : GalOp) : Keeps s (t.startGal f op) := (h.set _ _).setPrism _ _
theorem Keeps.execGalInit (h : Keeps s t) (f : Fib) : OutKeeps s (execGalInit f t) := .next (h.onReg (Keeps.ite (h.startGal _ _) h) _)
theorem Keeps.finishGalInit (h : Keeps s t) (f : Fib) : Keeps s (t.finishGalInit f) :=
    ((((h.fillWords _ _ _).fillWords _ _ _).set _ _).set _ _).setPrism _ _
theorem Keeps.execGalInitComplete (h : Keeps s t) (f : Fib) : OutKeeps s (execGalInitComplete f t) :=
    .next (h.onFab (Keeps.ite (h.finishGalInit _) h))
theorem Keeps.execQclr (h : Keeps s t) (f : Fib) : OutKeeps s (execQclr f t) := .next (h.onReg (Keeps.ite (h.startGal _ _) h) _)
theorem Keeps.tickQclr (h : Keeps s t) (f : Fib) : Keeps s (t.tickQclr f) := by
  unfold State.tickQclr
  split
  · exact Keeps.ite ((h.foldl (fun u _ => (Keeps.refl u).writeWord _ _) _).setPrism _ _) h
  · exact h
theorem Keeps.execQclrComplete (h : Keeps s t) (f : Fib) : OutKeeps s (execQclrComplete f t) := by
  unfold Machine.execQclrComplete
  refine .next (h.onFab ?_)
  split
  · exact Keeps.ite ((h.set _ _).setPrism _ _) h
  · exact h

/-! ### Opcodes (R130) -/

theorem Keeps.prismConfig (h : Keeps s t) (ps : List Nat) : CmdRes.Keeps s (prismConfig t ps) :=
    .ite (.refuse _ _) (.ite (.refuse _ _) (.ok ((((((h.set _ _).set _ _).set _ _).set _ _).set _ _).set _ _)))
theorem Keeps.execPrismConfig (h : Keeps s t) (c : CmdIn) : OutKeeps s (execPrismConfig c t) := .next (h.runOp ((Keeps.refl t).prismConfig _))
theorem Keeps.prismGallery (h : Keeps s t) (ps : List Nat) : CmdRes.Keeps s (prismGallery t ps) :=
    .ite (.refuse _ _) (.ok ((((h.set _ _).set _ _).set _ _).set _ _))
theorem Keeps.execPrismGallery (h : Keeps s t) (c : CmdIn) : OutKeeps s (execPrismGallery c t) := .next (h.runOp ((Keeps.refl t).prismGallery _))
theorem Keeps.prismGalInit (h : Keeps s t) (ps : List Nat) : CmdRes.Keeps s (prismGalInit t ps) := by
  unfold Machine.prismGalInit
  refine .ite (.refuse _ _) ?_
  split
  · exact .refuse _ _
  · exact .ok ((h.set _ _).startGal _ _)
theorem Keeps.execPrismGalInit (h : Keeps s t) (c : CmdIn) : OutKeeps s (execPrismGalInit c t) := .next (h.runOp ((Keeps.refl t).prismGalInit _))
theorem Keeps.prismQclear (h : Keeps s t) (ps : List Nat) : CmdRes.Keeps s (prismQclear t ps) := by
  unfold Machine.prismQclear
  split
  · exact .refuse _ _
  · exact .ok (h.startGal _ _)
theorem Keeps.execPrismQclear (h : Keeps s t) (c : CmdIn) : OutKeeps s (execPrismQclear c t) := .next (h.runOp ((Keeps.refl t).prismQclear _))
theorem Keeps.prismBril (h : Keeps s t) (ps : List Nat) : CmdRes.Keeps s (prismBril t ps) :=
    .ite (.refuse _ _) (.ite (.refuse _ _) (.ok (((((h.set _ _).set _ _).set _ _).set _ _).set _ _)))
theorem Keeps.execPrismBril (h : Keeps s t) (c : CmdIn) : OutKeeps s (execPrismBril c t) := .next (h.runOp ((Keeps.refl t).prismBril _))
theorem Keeps.prismMfInfo (h : Keeps s t) (ps : List Nat) : CmdRes.Keeps s (prismMfInfo t ps) := .ite (.refuse _ _) (.data h _)
theorem Keeps.execPrismMfInfo (h : Keeps s t) (c : CmdIn) : OutKeeps s (execPrismMfInfo c t) := .next (h.runOp ((Keeps.refl t).prismMfInfo _))
theorem Keeps.prismGetStatus (h : Keeps s t) (ps : List Nat) : CmdRes.Keeps s (prismGetStatus t ps) := .data h _
theorem Keeps.execPrismGetStatus (h : Keeps s t) (c : CmdIn) : OutKeeps s (execPrismGetStatus c t) :=
    .next (h.runOp ((Keeps.refl t).prismGetStatus _))

end Sys2Proof.Machine
end

section
/-! SUPPORT. The functions of Sys2Proof/Machine/Pfil.lean keep the canonical forms and the queue. -/

namespace Sys2Proof.Machine
variable {s t u : State}

/-! ### Corner-turn staging (R131, R132, R168, R169) -/

theorem Keeps.openRow (h : Keeps s t) (f : Nat) : Keeps s (t.openRow f) := h.writeRange _ _
theorem Keeps.enterRun (h : Keeps s t) (f : Fib) : Keeps s (t.enterRun f) := by
  unfold State.enterRun
  extract_lets p go
  split
  · exact (h.openRow _).setPfil _ _
  · exact Keeps.ite ((h.openRow _).setPfil _ _) h
  · exact h
theorem Keeps.closeFrames (h : Keeps s t) (f : Fib) : Keeps s (t.closeFrames f) := by
  unfold State.closeFrames
  extract_lets s1 p top
  have hs1 : Keeps s s1 := h.enterRun _
  clear_value s1
  refine Keeps.ite h ?_
  split
  · exact hs1
  · exact (hs1.setPfil _ _).enterRun _
theorem Keeps.stageSamples (h : Keeps s t) (f q i : Nat) (v : List Nat) : Keeps s (t.stageSamples f q i v) := by
  refine h.withMem fun hm => List.foldlRecOn (motive := fun m => kwf m = true) _ _ hm fun m hm j _ => ?_
  split
  · exact putBytes_wf _ _ hm
  · exact hm

/-! ### Bricks and tile sets (R131–R133) -/

theorem Keeps.stagedBrick (h : Keeps s t) (f : Nat) (b : Nat) : Keeps s (t.stagedBrick f b).2 := by
  unfold State.stagedBrick
  refine Keeps.foldl_snd (fun p a => ?_) _ (h.pair _)
  extract_lets r
  have hr : Keeps p.2 r.2 := ((Keeps.refl _).readWord _ _).at rfl
  clear_value r
  exact hr.pair _
theorem Keeps.writeOwed (h : Keeps s t) (f : Nat) (buf : Nat) (rows : List Nat) : Keeps s (t.writeOwed f buf rows) :=
    h.foldl (fun u _ => (Keeps.refl u).foldl (fun u _ => (Keeps.refl u).writeDram _ _ _) _) _
theorem Keeps.endRow (h : Keeps s t) (f : Fib) : Keeps s (t.endRow f) := by
  unfold State.endRow
  extract_lets s1 p
  have hs1 : Keeps s s1 := (h.openRow _).setPfil _ _
  clear_value s1
  exact Keeps.ite (hs1.setPfil _ _) hs1
theorem Keeps.execBrickWrite (h : Keeps s t) (f : Fib) : OutKeeps s (execBrickWrite f t) := by
  unfold Machine.execBrickWrite
  extract_lets s1 p buf row r s2
  have hs1 : Keeps s s1 := h.closeFrames _
  clear_value s1
  have hr : Keeps s r.2 := (hs1.stagedBrick _ _).at rfl
  clear_value r
  have hs2 : Keeps s s2 := hr.writeDram _ _ _
  clear_value s2
  exact .next (h.onFab (Keeps.ite hs1 (Keeps.ite hs1 (Keeps.ite (((((hs1.incBy _ _).raise _ _).setPfil _ _).endRow _).closeFrames _) (Keeps.ite
      (hs2.setPfil _ _) ((hs2.endRow _).closeFrames _))))))

/-! ### Streams (R137–R142) -/

theorem Keeps.setStream (h : Keeps s t) (f : Fib) (i : Fin 17) (g : PStream → PStream) : Keeps s (t.setStream f i g) := by
  unfold State.setStream
  extract_lets s1
  have hs1 : Keeps s s1 := h.setPfil _ _
  clear_value s1
  exact hs1.setB _ _
theorem Keeps.setStep (h : Keeps s t) (f : Fib) (i : Fin 17) : Keeps s (t.setStep f i) := by
  unfold State.setStep
  split
  · exact h.setStream _ _ _
  · exact h
theorem Keeps.resettle (h : Keeps s t) (f : Fib) (i : Fin 17) : Keeps s (t.resettle f i) := by
  unfold State.resettle
  split
  · exact h.setStream _ _ _
  · exact h
theorem Keeps.resettleAll (h : Keeps s t) (f : Fib) : Keeps s (t.resettleAll f) := h.foldl (fun u _ => (Keeps.refl u).resettle _ _) _
theorem Keeps.restartStream (h : Keeps s t) (f : Fib) (i : Fin 17) (since : Nat) : Keeps s (t.restartStream f i since) :=
    ((h.setStream _ _ _).setStep _ _).resettle _ _
theorem Keeps.runStep (h : Keeps s t) (f : Fib) (t' : Rat) : Keeps s (t.runStep f t') :=
    (h.setPfil _ _).foldl (fun u _ => (Keeps.refl u).setStep _ _) _

/-! ### Fades (R143, R144) -/

theorem Keeps.startFade (h : Keeps s t) (f : Fib) (l : Nat) : Keeps s (t.startFade f l) := by
  unfold State.startFade
  extract_lets s1
  have hs1 : Keeps s s1 := h.set _ _
  clear_value s1
  exact Keeps.ite (hs1.resettleAll _) (((hs1.set _ _).set _ _).set _ _)
theorem Keeps.startHeld (h : Keeps s t) (f : Fib) : Keeps s (t.startHeld f) := by
  unfold State.startHeld
  split
  · exact ((h.set _ _).setPfil _ _).startFade _ _
  · exact h
theorem Keeps.endFade (h : Keeps s t) (f : Fib) : Keeps s (t.endFade f) := by
  unfold State.endFade
  extract_lets s1
  have hs1 : Keeps s s1 := ((h.set _ _).set _ _).set _ _
  clear_value s1
  exact Keeps.ite hs1 (hs1.startHeld _)
theorem Keeps.fadeStep (h : Keeps s t) (f : Fib) : Keeps s (t.fadeStep f) := Keeps.ite (Keeps.ite (h.endFade _) (h.set _ _)) (h.startHeld _)
theorem Keeps.applySync (h : Keeps s t) (f : Fib) (first : Bool) : Keeps s (t.applySync f first) := by
  unfold State.applySync
  extract_lets s1 s2
  have hs1 : Keeps s s1 := Keeps.ite (h.endFade _) h
  clear_value s1
  have hs2 : Keeps s s2 := (hs1.inc _).setPfil _ _
  clear_value s2
  exact (hs2.setB _ _).foldl (fun u _ => (Keeps.refl u).restartStream _ _ _) _

/-! ### Processing a tile set (R139, R147) -/

theorem Keeps.applyLoupes (h : Keeps s t) (f : Fib) : Keeps s (t.applyLoupes f) :=
    h.foldl (fun u _ => Keeps.ite (Keeps.refl u) (Keeps.ite (Keeps.refl u) (((Keeps.refl u).setStream _ _ _).restartStream _ _ _))) _
theorem Keeps.readRow (h : Keeps s t) (f : Fib) (buf row : Nat) : Keeps s (t.readRow f buf row).2 := by
  unfold State.readRow
  refine Keeps.pair ?_ _
  exact Keeps.foldl_snd (fun p q => ((Keeps.refl p.2).readDram _ _).pair _) _ (h.pair _)
theorem Keeps.readTiles (h : Keeps s t) (f : Fib) (t' : TileSet) : Keeps s (t.readTiles f t').2 := by
  unfold State.readTiles
  extract_lets r
  have hr : Keeps s r.2 := by
    refine (Keeps.foldl_snd (fun p a => ?_) _ (h.pair _)).at rfl
    extract_lets x
    have hx : Keeps p.2 x.2 := ((Keeps.refl _).readRow _ _ _).at rfl
    clear_value x
    exact hx.pair _
  clear_value r
  exact hr.pair _
theorem Keeps.readHistory (h : Keeps s t) (f : Fib) : Keeps s (t.readHistory f) := by
  unfold State.readHistory
  extract_lets lo hi s1
  have hs1 : Keeps s s1 := by
    refine h.foldl (fun u e => Keeps.ite ?_ ((Keeps.refl u).dramCe _)) _
    exact (((Keeps.refl u).dramUe _ _).pick _ _).setPfil _ _
  clear_value s1
  exact hs1.trans (Keeps.of id (fun x => kclear_wf _ _ x) (fun x => kclear_wf _ _ x) id rfl)
theorem Keeps.execTileSetProcess (h : Keeps s t) (f : Fib) : OutKeeps s (execTileSetProcess f t) := by
  unfold Machine.execTileSetProcess
  refine .next (h.onFab ?_)
  split
  · extract_lets s0 s1 r
    have hs0 : Keeps s s0 := (h.readHistory _).setPfil _ _
    clear_value s0
    have hs1 : Keeps s s1 := Keeps.ite (hs0.applySync _ _) hs0
    clear_value s1
    have hr : Keeps s r.2 := ((hs1.applyLoupes _).readTiles _ _).at rfl
    clear_value r
    exact Keeps.ite (hr.setPfil _ _) h
  · exact h
theorem Keeps.firStep (h : Keeps s t) (f : Fib) (i : Fin 17) : Keeps s (t.firStep f i) := by
  unfold State.firStep
  split
  · exact Keeps.ite (h.setStream _ _ _) h
  · exact h
theorem Keeps.streamStep (h : Keeps s t) (f : Fib) (i : Fin 17) : Keeps s (t.streamStep f i) := by
  unfold State.streamStep
  split
  · exact h
  · extract_lets p st v u src s2 s1
    have hs2 : Keeps s s2 := h.same rfl rfl rfl rfl rfl
    clear_value s2
    have hs1 : Keeps s s1 := Keeps.ite ((Keeps.ite (hs2.inc _) hs2).setStream _ _ _) h
    clear_value s1
    exact Keeps.ite h (hs1.setStream _ _ _)
theorem Keeps.filterFrame (h : Keeps s t) (f : Fib) (x : InFrame) : Keeps s (t.filterFrame f x) := by
  unfold State.filterFrame
  extract_lets n s1 s2 s3
  have hs1 : Keeps s s1 := h.setPfil _ _
  clear_value s1
  have hs2 : Keeps s s2 := by
    unfold s2
    split
    · exact Keeps.ite hs1 (hs1.runStep _ _)
    · exact hs1
  clear_value s2
  have hs3 : Keeps s s3 := Keeps.ite (hs2.fadeStep _) hs2
  clear_value s3
  exact hs3.foldl (fun u _ => ((Keeps.refl u).firStep _ _).streamStep _ _) _
theorem Keeps.filterUntil (h : Keeps s t) (f : Fib) (stop : State → Bool) (xs : List InFrame) : Keeps s (t.filterUntil f stop xs).2 := by
  induction xs generalizing t with
  | nil => exact h
  | cons x xs ih =>
    unfold State.filterUntil
    extract_lets s1
    have hs1 : Keeps s s1 := h.filterFrame _ _
    clear_value s1
    split
    · exact hs1
    · exact ih hs1
theorem Keeps.execFadeComplete (h : Keeps s t) (f : Fib) : OutKeeps s (execFadeComplete f t) := by
  unfold Machine.execFadeComplete
  refine .next (h.onFab ?_)
  split
  · extract_lets r
    have hr : Keeps s r.2 := (h.filterUntil _ _ _).at rfl
    clear_value r
    exact Keeps.ite (hr.setPfil _ _) h
  · exact h
theorem Keeps.execTileSetRelease (h : Keeps s t) (f : Fib) : OutKeeps s (execTileSetRelease f t) := by
  unfold Machine.execTileSetRelease
  refine .next (h.onFab ?_)
  split
  · extract_lets s1 p
    have hs1 : Keeps s s1 := (h.filterUntil _ _ _).setPfil _ _
    clear_value s1
    split
    · exact (hs1.writeOwed _ _ _).setPfil _ _
    · exact Keeps.ite ((hs1.writeOwed _ _ _).setPfil _ _) hs1
  · exact h
theorem Keeps.execPfilSyncGo (h : Keeps s t) (f : Fib) : OutKeeps s (execPfilSyncGo f t) := .next (h.onReg (Keeps.ite h (h.requestSync _)) _)

/-! ### Opcodes (R151, R511) -/

theorem Keeps.keepLoad (h : Keeps s t) (f : Fib) (changed : Bool) : Keeps s (t.keepLoad f changed) := Keeps.ite h (h.setLoad _ _)
theorem Keeps.setMainEn (h : Keeps s t) (f : Fib) (en : Nat) : Keeps s (t.setMainEn f en) := (Keeps.ite (h.setStream _ _ _) h).set _ _
theorem Keeps.setLoupeEn (h : Keeps s t) (f : Fib) (l : Nat) (en : Nat) : Keeps s (t.setLoupeEn f l en) :=
    (Keeps.ite (h.setStream _ _ _) (Keeps.ite h (h.setStream _ _ _))).set _ _
theorem Keeps.pfilConfig (h : Keeps s t) (ps : List Nat) : CmdRes.Keeps s (pfilConfig t ps) := by
  unfold Machine.pfilConfig
  extract_lets f c t2 same changed
  have ht2 : Keeps s t2 := (((((((((h.setMainEn _ _).set _ _).set _ _).set _ _).set _ _).set _ _).set _ _).set _ _).set _ _).set _ _
  clear_value t2
  refine .ite (.refuse _ _) (.ite (.refuse _ _) ?_)
  split
  · exact .refuse _ _
  · exact .done (ht2.keepLoad _ _) _ _
theorem Keeps.execPfilConfig (h : Keeps s t) (c : CmdIn) : OutKeeps s (execPfilConfig c t) := .next (h.runOp ((Keeps.refl t).pfilConfig _))
theorem Keeps.pfilMemSetup (h : Keeps s t) (ps : List Nat) : CmdRes.Keeps s (pfilMemSetup t ps) :=
    .ite (.refuse _ _) (.ite (.done ((((h.set _ _).set _ _).set _ _).set _ _) _ _) (.refuse _ _))
theorem Keeps.execPfilMemSetup (h : Keeps s t) (c : CmdIn) : OutKeeps s (execPfilMemSetup c t) := .next (h.runOp ((Keeps.refl t).pfilMemSetup _))
theorem Keeps.pfilCoefWrite (h : Keeps s t) (ps : List Nat) : CmdRes.Keeps s (pfilCoefWrite t ps) := by
  unfold Machine.pfilCoefWrite
  extract_lets f b t2
  have ht2 : Keeps s t2 := h.foldl (fun u _ => (Keeps.refl u).set _ _) _
  clear_value t2
  exact .ite (.refuse _ _) (.ite (.refuse _ _) (.ok (Keeps.ite (ht2.resettleAll _) ht2)))
theorem Keeps.execPfilCoefWrite (h : Keeps s t) (c : CmdIn) : OutKeeps s (execPfilCoefWrite c t) :=
    .next (h.runOp ((Keeps.refl t).pfilCoefWrite _))
theorem Keeps.swapNow (h : Keeps s t) (f : Fib) (b : Nat) : Keeps s (t.swapNow f b) :=
    (((((h.set _ _).set _ _).set _ _).set _ _).set _ _).setPfil _ _
theorem Keeps.pfilSwap (h : Keeps s t) (ps : List Nat) : CmdRes.Keeps s (pfilSwap t ps) := by
  unfold Machine.pfilSwap
  extract_lets f b l cur t2
  have ht2 : Keeps s t2 := (h.set _ _).setPfil _ _
  clear_value t2
  exact .ite (.refuse _ _) (.ite (.already h) (.ite (.ok (h.swapNow _ _)) (.ite (.done (Keeps.ite (ht2.raise _ _) ht2) _ _) (.ok
      (h.startFade _ _)))))
theorem Keeps.execPfilSwap (h : Keeps s t) (c : CmdIn) : OutKeeps s (execPfilSwap c t) := .next (h.runOp ((Keeps.refl t).pfilSwap _))
theorem Keeps.pfilSync (h : Keeps s t) (ps : List Nat) : CmdRes.Keeps s (pfilSync t ps) :=
    .ite (.already h) (.ite (.ok h) (.ok (h.requestSync _)))
theorem Keeps.execPfilSync (h : Keeps s t) (c : CmdIn) : OutKeeps s (execPfilSync c t) := .next (h.runOp ((Keeps.refl t).pfilSync _))
theorem Keeps.pfilLoupe (h : Keeps s t) (ps : List Nat) : CmdRes.Keeps s (pfilLoupe t ps) := by
  unfold Machine.pfilLoupe
  extract_lets f l t2 changed r
  have ht2 : Keeps s t2 := ((((((h.setLoupeEn _ _ _).set _ _).set _ _).set _ _).set _ _).set _ _).set _ _
  clear_value t2
  refine .ite (.refuse _ _) (.ite (.refuse _ _) ?_)
  split
  · exact .refuse _ _
  · exact .done (ht2.keepLoad _ _) _ _
theorem Keeps.execPfilLoupe (h : Keeps s t) (c : CmdIn) : OutKeeps s (execPfilLoupe c t) := .next (h.runOp ((Keeps.refl t).pfilLoupe _))
theorem Keeps.pfilBudget (h : Keeps s t) (ps : List Nat) : CmdRes.Keeps s (pfilBudget t ps) := .ite (.refuse _ _) (.data h _)
theorem Keeps.execPfilBudget (h : Keeps s t) (c : CmdIn) : OutKeeps s (execPfilBudget c t) := .next (h.runOp ((Keeps.refl t).pfilBudget _))
theorem Keeps.pfilGetStatus (h : Keeps s t) (ps : List Nat) : CmdRes.Keeps s (pfilGetStatus t ps) := .data h _
theorem Keeps.execPfilGetStatus (h : Keeps s t) (c : CmdIn) : OutKeeps s (execPfilGetStatus c t) :=
    .next (h.runOp ((Keeps.refl t).pfilGetStatus _))

end Sys2Proof.Machine
end

section
/-! SUPPORT. The functions of Sys2Proof/Machine/Eng.lean keep the canonical forms and the queue. -/

namespace Sys2Proof.Machine
variable {s t u : State}

/-! ### DMA channels (R166, R167) -/

theorem Keeps.dmaPut (h : Keeps s t) (m : Master) (a : Nat) (bs : List Byte) : Keeps s (t.dmaPut m a bs) := by
  unfold State.dmaPut
  split
  · exact h.foldl (fun u _ => Keeps.ite (Keeps.refl u) ((Keeps.refl u).writeMem _ _ _)) _
  · exact h.writeMem _ _ _
theorem Keeps.dmaRow (h : Keeps s t) (k : Fin 16) (ch : Fin 2) (d : DmaChan) (r w0 n : Nat) : Keeps s (t.dmaRow k ch d r w0 n).2 := by
  unfold State.dmaRow
  extract_lets m rd u
  have hu : Keeps s u := by
    refine Keeps.foldl_thd (fun p j => ?_) _ (h.triple _ _)
    obtain ⟨c, bs, v⟩ := p
    cases c with
    | some c => exact Keeps.refl v
    | none =>
      dsimp -zeta only
      extract_lets ra x
      have hx : Keeps v x.2 := ((Keeps.refl v).readMem _ _).at rfl
      clear_value x
      split
      · exact (Keeps.refl v).addrErr _ _
      · split <;> exact hx.triple _ _
  clear_value u
  refine Keeps.pair (Keeps.ite (Keeps.ite hu (hu.dmaPut _ _ _)) ?_) _
  exact hu.foldl (fun v j => (Keeps.refl v).writeWord _ _) _
theorem Keeps.dmaMove (h : Keeps s t) (k : Fin 16) (ch : Fin 2) (n : Nat) : Keeps s (t.dmaMove k ch n).2 := by
  unfold State.dmaMove
  refine Keeps.foldl_snd (fun p r => ?_) _ (h.pair _)
  obtain ⟨c, u⟩ := p
  cases c with
  | some c => exact Keeps.refl u
  | none => exact (Keeps.refl u).dmaRow _ _ _ _ _ _
theorem Keeps.dmaHalt (h : Keeps s t) (n : Fin 16) (ch : Fin 2) (cause : Nat) : Keeps s (t.dmaHalt n ch cause) :=
    (((h.set _ _).set _ _).set _ _).raise _ _
theorem Keeps.dmaStop (h : Keeps s t) (n : Fin 16) (ch : Fin 2) : Keeps s (t.dmaStop n ch) := by
  unfold State.dmaStop
  extract_lets n2
  have hn2 : Keeps s n2.2 := (h.pick _ _).at rfl
  clear_value n2
  exact Keeps.ite ((hn2.dmaMove _ _ _).dmaHalt _ _ _) h

/-! ### Stops and traps (R152–R154, R172) -/

theorem Keeps.quitEngine (h : Keeps s t) (n : Fin 16) (st : Nat) : Keeps s (t.quitEngine n st) := by
  unfold State.quitEngine
  extract_lets l s1 s2
  have hs1 : Keeps s s1 := (((h.set _ _).loseHalves _ _).dmaStop _ _).dmaStop _ _
  clear_value s1
  have hs2 : Keeps s s2 := hs1.setEng _ _
  clear_value s2
  exact Keeps.ite hs2 (hs2.closeFrames _)
theorem Keeps.engTrap (h : Keeps s t) (n : Fin 16) (cause : Nat) (at_ : Option (Nat × Nat)) : Keeps s (t.engTrap n cause at_) := by
  unfold State.engTrap
  extract_lets s1 s2
  have hs1 : Keeps s s1 := (h.set _ _).set _ _
  clear_value s1
  have hs2 : Keeps s s2 := by
    unfold s2
    split
    · exact (hs1.set _ _).set _ _
    · exact hs1
  clear_value s2
  exact ((hs2.raise _ _).logEvent _ _ _ _).quitEngine _ _
theorem Keeps.startEngine (h : Keeps s t) (n : Fin 16) : Keeps s (t.startEngine n) := by
  unfold State.startEngine
  extract_lets l s1 s2 src
  have hs1 : Keeps s s1 := (((((h.loseHalves _ _).set _ _).set _ _).set _ _).set _ _).set _ _
  clear_value s1
  have hs2 : Keeps s s2 := Keeps.ite (hs1.writeNarrow _ _ _ _) hs1
  clear_value s2
  exact hs2.setEng _ _
theorem Keeps.execDekCtrlStart (h : Keeps s t) (n : Fin 16) : OutKeeps s (execDekCtrlStart n t) :=
    .next (h.onReg (Keeps.ite h (h.startEngine _)) _)
theorem Keeps.execDekCtrlStop (h : Keeps s t) (n : Fin 16) : OutKeeps s (execDekCtrlStop n t) :=
    .next (h.onReg (Keeps.ite h (h.quitEngine _ _)) _)
theorem Keeps.execDmaComplete (h : Keeps s t) (k : Fin 16) (ch : Fin 2) : OutKeeps s (execDmaComplete k ch t) := by
  unfold Machine.execDmaComplete
  refine .next (h.onFab (Keeps.ite ?_ h))
  extract_lets d
  have hm := h.dmaMove k ch d.words
  revert hm
  obtain ⟨c, u⟩ := t.dmaMove k ch d.words
  intro hu
  cases c with
  | none => exact (Keeps.set hu _ _).set _ _
  | some c => exact Keeps.ite ((Keeps.dmaHalt hu _ _ _).engTrap _ _ _) (Keeps.dmaHalt hu _ _ _)
theorem Keeps.execExternalAccessWaitExpiry (h : Keeps s t) (n : Fin 16) : OutKeeps s (execExternalAccessWaitExpiry n t) :=
    .next (h.onFab (Keeps.ite (h.setEng _ _) h))
theorem Keeps.zeroEngine (h : Keeps s t) (k' : Nat) : Keeps s (t.zeroEngine k') := h.fillWords _ _ _
theorem Keeps.execMeminitComplete (h : Keeps s t) (n : Fin 16) : OutKeeps s (execMeminitComplete n t) := by
  unfold Machine.execMeminitComplete
  refine .next (h.onFab ?_)
  split
  · extract_lets s1
    have hs1 : Keeps s s1 := (h.zeroEngine _).setEng _ _
    clear_value s1
    exact Keeps.ite (Keeps.ite (hs1.set _ _) hs1) h
  · exact h

/-! ### Opcodes (R180) -/

theorem Keeps.replaceKernel (h : Keeps s t) (a : Nat) : Keeps s (t.replaceKernel a) := by
  unfold State.replaceKernel
  split
  · exact h.setEng _ _
  · exact h
theorem Keeps.engAssign (h : Keeps s t) (ps : List Nat) : CmdRes.Keeps s (engAssign t ps) :=
    .ite (.refuse _ _) (.ite (.refuse _ _) (.ok (h.foldl (fun u _ => (Keeps.refl u).set _ _) _)))
theorem Keeps.execEngAssign (h : Keeps s t) (c : CmdIn) : OutKeeps s (execEngAssign c t) := .next (h.runOp ((Keeps.refl t).engAssign _))
theorem Keeps.engSpan (h : Keeps s t) (ps : List Nat) : CmdRes.Keeps s (engSpan t ps) :=
    .ite (.refuse _ _) (.ite (.refuse _ _) (.ite (.refuse _ _) (.ok ((h.set _ _).set _ _))))
theorem Keeps.execEngSpan (h : Keeps s t) (c : CmdIn) : OutKeeps s (execEngSpan c t) := .next (h.runOp ((Keeps.refl t).engSpan _))
theorem Keeps.engGauge (h : Keeps s t) (ps : List Nat) : CmdRes.Keeps s (engGauge t ps) :=
    .ite (.refuse _ _) (.ite (.refuse _ _) (.ok (h.set _ _)))
theorem Keeps.execEngGauge (h : Keeps s t) (c : CmdIn) : OutKeeps s (execEngGauge c t) := .next (h.runOp ((Keeps.refl t).engGauge _))
theorem Keeps.engLoad (h : Keeps s t) (ps : List Nat) : CmdRes.Keeps s (engLoad t ps) :=
    .ite (.refuse _ _) (.ite (.refuse _ _) (.ite (.refuse _ _) (.ok ((h.firmwareWrite _ _).replaceKernel _))))
theorem Keeps.execEngLoad (h : Keeps s t) (c : CmdIn) : OutKeeps s (execEngLoad c t) := .next (h.runOp ((Keeps.refl t).engLoad _))
theorem Keeps.readWords (h : Keeps s t) (m : Master) (a : Nat) (n : Nat) : Keeps s (t.readWords m a n).2 := by
  unfold State.readWords
  refine Keeps.foldl_snd (fun p a => ?_) _ (h.pair _)
  extract_lets b r
  have hr : Keeps p.2 r.2 := ((Keeps.refl _).readMem _ _).at rfl
  clear_value r
  exact hr.pair _
theorem Keeps.engRead (h : Keeps s t) (ps : List Nat) : CmdRes.Keeps s (engRead t ps) := by
  unfold Machine.engRead
  extract_lets k r
  have hr : Keeps s r.2 := (h.readWords _ _ _).at rfl
  clear_value r
  refine .ite (.refuse _ _) ?_
  split <;> exact .done hr _ _
theorem Keeps.execEngRead (h : Keeps s t) (c : CmdIn) : OutKeeps s (execEngRead c t) := .next (h.runOp ((Keeps.refl t).engRead _))
theorem Keeps.engStart (h : Keeps s t) (ps : List Nat) : CmdRes.Keeps s (engStart t ps) :=
    .ite (.refuse _ _) (.ite (.already h) (.ok (h.startEngine _)))
theorem Keeps.execEngStart (h : Keeps s t) (c : CmdIn) : OutKeeps s (execEngStart c t) := .next (h.runOp ((Keeps.refl t).engStart _))
theorem Keeps.engStop (h : Keeps s t) (ps : List Nat) : CmdRes.Keeps s (engStop t ps) :=
    .ite (.refuse _ _) (.ite (.already h) (.ok (h.quitEngine _ _)))
theorem Keeps.execEngStop (h : Keeps s t) (c : CmdIn) : OutKeeps s (execEngStop c t) := .next (h.runOp ((Keeps.refl t).engStop _))
theorem Keeps.engMeminit (h : Keeps s t) (ps : List Nat) : CmdRes.Keeps s (engMeminit t ps) :=
    .ite (.refuse _ _) (.ite (.refuse _ _) (.ok (h.setEng _ _)))
theorem Keeps.execEngMeminit (h : Keeps s t) (c : CmdIn) : OutKeeps s (execEngMeminit c t) := .next (h.runOp ((Keeps.refl t).engMeminit _))
theorem Keeps.loadDefault (h : Keeps s t) (n : Fin 16) : Keeps s (t.loadDefault n) :=
    ((((h.zeroEngine _).writeRange _ _).writeRange _ _).set _ _).setEng _ _
theorem Keeps.engDefault (h : Keeps s t) (ps : List Nat) : CmdRes.Keeps s (engDefault t ps) :=
    .ite (.refuse _ _) (.ite (.refuse _ _) (.done (h.loadDefault _) _ _))
theorem Keeps.execEngDefault (h : Keeps s t) (c : CmdIn) : OutKeeps s (execEngDefault c t) := .next (h.runOp ((Keeps.refl t).engDefault _))
theorem Keeps.engGetStatus (h : Keeps s t) (ps : List Nat) : CmdRes.Keeps s (engGetStatus t ps) := .ite (.refuse _ _) (.data h _)
theorem Keeps.execEngGetStatus (h : Keeps s t) (c : CmdIn) : OutKeeps s (execEngGetStatus c t) := .next (h.runOp ((Keeps.refl t).engGetStatus _))

end Sys2Proof.Machine
end

section
/-! SUPPORT. The functions of Sys2Proof/Machine/Kernel.lean keep the canonical forms and the queue. -/

namespace Sys2Proof.Machine
variable {s t u : State}
theorem Keeps.takeHalf (h : Keeps s t) (n : Fin 16) : Keeps s (t.takeHalf n) := by
  unfold State.takeHalf
  split
  · exact (h.setLand _ _).setEng _ _
  · exact h
theorem Keeps.dropHalf (h : Keeps s t) (n : Fin 16) : Keeps s (t.dropHalf n) := by
  unfold State.dropHalf
  split
  · exact (h.set _ _).setLand _ _
  · exact h
theorem Keeps.postAlarm (h : Keeps s t) (n : Fin 16) (ws : List Nat) : Keeps s (t.postAlarm n ws) :=
    Keeps.ite ((h.inc _).enterAlarm _ _ _ _ _) (h.setEng _ _)
theorem Keeps.applyReport (h : Keeps s t) (r : QReport) : Keeps s (t.applyReport r) := Keeps.ite (h.qualCount _ _ _) (h.galUpdate _ _ _ _)
theorem Keeps.postReport (h : Keeps s t) (n : Fin 16) (kind : Nat) (pos : Nat) : Keeps s (t.postReport n kind pos) := (h.inc _).applyReport _
theorem Keeps.setKern (h : Keeps s t) (n : Fin 16) (g : Kern → Kern) : Keeps s (t.setKern n g) := h.setEng _ _

/-! ### Phases and samples -/

theorem Keeps.combined (h : Keeps s t) (n : Fin 16) (x : KShot) (q : Nat) (r : Nat × Nat) : Keeps s (t.combined n x q r).2 := by
  unfold State.combined
  extract_lets f p
  have hp : Keeps s p.2 := by
    refine (Keeps.foldl_snd (fun p a => ?_) _ (h.pair _)).at rfl
    extract_lets a2 v
    have hv : Keeps p.2 v.2 := ((Keeps.refl _).readMem _ _).at rfl
    clear_value v
    split
    · exact (Keeps.refl _)
    · exact hv.pair _
  clear_value p
  exact hp.pair _
theorem Keeps.shotPhases (h : Keeps s t) (n : Fin 16) (x : KShot) : Keeps s (t.shotPhases n x).2 := by
  unfold State.shotPhases
  refine Keeps.foldl_snd (fun p a => ?_) _ (h.pair _)
  extract_lets c past
  have hc : Keeps p.2 c.2 := ((Keeps.refl _).combined _ _ _ _).at rfl
  clear_value c
  split
  · exact hc.pair _
  · exact (hc.setKern _ _).pair _
theorem Keeps.freeSample (h : Keeps s t) : Keeps s t.freeSample.2 := by
  unfold State.freeSample
  extract_lets d
  have hd : Keeps s d.2 := (h.pick _ _).at rfl
  clear_value d
  exact hd.pair _
theorem Keeps.kernelSample (h : Keeps s t) (f : Fib) (ps : List Nat) (ph : KMap EndPhase) (p : Nat) : Keeps s (t.kernelSample f ps ph p).2 := by
  unfold State.kernelSample
  split
  · exact h.pair _
  · split
    · split
      · exact h.pair _
      · extract_lets d
        have hd : Keeps s d.2 := h.freeSample.at rfl
        clear_value d
        exact hd.pair _
    · exact h.pair _
    · exact h.pair _
    · exact h.pair _
    · exact h.pair _
    · extract_lets d
      have hd : Keeps s d.2 := h.freeSample.at rfl
      clear_value d
      exact hd.pair _

/-! ### Phase windows (R177) -/

theorem Keeps.runWindows (h : Keeps s t) (n : Fin 16) (x : KShot) (xs : List KSample) : Keeps s (t.runWindows n x xs) := by
  unfold State.runWindows
  refine h.foldl (fun u a => Keeps.ite ?_ (Keeps.refl u)) _
  extract_lets r u2
  have hu2 : Keeps u u2 := (Keeps.refl u).setKern _ _
  clear_value u2
  split
  · exact hu2.postAlarm _ _
  · exact hu2

/-! ### A shot, and a half -/

theorem Keeps.reportEdges (h : Keeps s t) (n : Fin 16) : Keeps s (t.reportEdges n) :=
    Keeps.ite h ((h.foldl (fun u _ => Keeps.ite (Keeps.ite (Keeps.refl u) ((Keeps.refl u).postReport _ _ _)) (Keeps.ite
      ((Keeps.refl u).postReport _ _ _) (Keeps.refl u))) _).setKern _ _)
theorem Keeps.stageOne (h : Keeps s t) (f : Nat) (i : Nat) (x : KSample) : Keeps s (t.stageOne f i x) := h.putMem _ _
theorem Keeps.kernelOut (h : Keeps s t) (n : Fin 16) (x : KShot) (ps : List Nat) (slot : Option Nat) : Keeps s (t.kernelOut n x ps slot) := by
  unfold State.kernelOut
  extract_lets f s1 ph r s2 s3
  have hs1 : Keeps s s1 := (h.setKern _ _).reportEdges _
  clear_value s1
  have hph : Keeps s ph.2 := (hs1.shotPhases _ _).at rfl
  clear_value ph
  have hr : Keeps s r.2 := by
    refine (Keeps.foldl_snd (fun p a => ?_) _ (hph.pair _)).at rfl
    extract_lets v
    have hv : Keeps p.2 v.2 := ((Keeps.refl _).kernelSample _ _ _ _).at rfl
    clear_value v
    exact hv.pair _
  clear_value r
  have hs2 : Keeps s s2 := by
    unfold s2
    split
    · exact hr.foldl (fun u _ => (Keeps.refl u).stageOne _ _ _) _
    · exact hr
  clear_value s2
  have hs3 : Keeps s s3 := hs2.foldl (fun u _ => Keeps.ite ((Keeps.refl u).postReport _ _ _) (Keeps.refl u)) _
  clear_value s3
  exact ((hs3.runWindows _ _ _).setEng _ _).closeFrames _
theorem Keeps.readParams (h : Keeps s t) (n : Fin 16) : Keeps s (t.readParams n).2 := by
  unfold State.readParams
  extract_lets r
  have hr : Keeps s r.2 := (h.readWords _ _ _).at rfl
  clear_value r
  exact hr.pair _
/-- The recursion is taken as `Keeps.brecOn` gives it, with the runs below left open; the two reads that the body looks at are
named before its `match` is reduced (as for `Keeps.fitKernel`). -/
theorem Keeps.kernelRun (h : Keeps s t) (k : Fin 16) (n : Nat) : Keeps s (t.kernelRun k n) := by
  delta State.kernelRun
  refine h.trans (Keeps.brecOn (fun _ u => Keeps.refl u) (fun n b u ih => ?_) n t)
  generalize hF : @State.kernelRun._f = F
  delta State.kernelRun._f at hF
  subst hF
  dsimp -zeta only
  extract_lets +onlyGivenNames xs
  clear_value xs
  split
  · refine Keeps.ite ?_ ((Keeps.refl u).setEng _ _)
    extract_lets +onlyGivenNames f s1
    have hs1 : Keeps u s1 := Keeps.ite (Keeps.refl u) ((Keeps.refl u).enterRun _)
    clear_value s1
    have hp := hs1.readParams k
    generalize s1.readParams k = p at hp ⊢
    obtain ⟨⟨ps, e⟩, v⟩ := p
    generalize (if u.on (Reg.SEQ_CTRL_UNEVEN f) = true then some none else s1.frameSlot f _) = o
    cases o with
    | none => exact hs1.setEng _ _
    | some slot =>
      cases e with
      | some a => exact Keeps.engTrap hp _ _ _
      | none => exact ((Keeps.kernelOut hp _ _ _ _).setKern _ _).trans (ih _)
  · exact (Keeps.refl u).setEng _ _
theorem Keeps.kernelGo (h : Keeps s t) (n : Fin 16) : Keeps s (t.kernelGo n) := (h.setEng _ _).kernelRun _ _
theorem Keeps.kernelHalf (h : Keeps s t) (n : Fin 16) : Keeps s (t.kernelHalf n) := by
  unfold State.kernelHalf
  extract_lets s1
  have hs1 : Keeps s s1 := h.takeHalf _
  clear_value s1
  split
  · exact h
  · extract_lets a w n2 r live
    have hw : Keeps s w.2 := (hs1.readWords _ _ _).at rfl
    clear_value w
    have hr : Keeps s r.2 := (hw.readWords _ _ _).at rfl
    clear_value r
    split
    · exact hr.engTrap _ _ _
    · exact ((hr.dropHalf _).setKern _ _).kernelGo _

end Sys2Proof.Machine
end

section
/-! SUPPORT. The functions of Sys2Proof/Machine/EngIsa.lean keep the canonical forms and the queue. -/

namespace Sys2Proof.Machine
variable {s t u : State}

/-! ### Fields of an instruction word (R181) -/

theorem Keeps.illegal (h : Keeps s t) : Issue.Keeps s (Issue.illegal t) := .trap h _ _
theorem Keeps.legal {i : Issue} (h : Keeps s t) (ok : Bool) (hi : i.Keeps s) : Issue.Keeps s (Issue.legal ok t i) := .ite hi h.illegal

/-! ### Sequencing (R193) -/

theorem Keeps.advance (h : Keeps s t) (n : Fin 16) (target : Option Nat) : Keeps s (t.advance n target) := h.setEng _ _
theorem Keeps.fetch (h : Keeps s t) (n : Fin 16) : Keeps s (t.fetch n).2 := h.readMem _ _
/-- Whatever an issue leaves, a trap included, is as sound as what it hands over. -/
theorem Issue.Keeps.state {i : Issue} (h : i.Keeps s) (k : Fin 16) : Machine.Keeps s (Issue.state k i) := by
  cases i with unfold Issue.state
  | trap c a u => exact Machine.Keeps.engTrap h _ _ _
  | stall w u => exact Machine.Keeps.setEng h _ _
  | next u => exact Machine.Keeps.advance h _ _
  | jump a u => exact Machine.Keeps.advance h _ _
  | stop u => exact (Machine.Keeps.advance h _ _).quitEngine _ _
theorem Keeps.issue {body : Fin 16 → State → Nat → Issue} (h : Keeps s t) (k : Fin 16) (op : Nat)
    (hb : ∀ v w, (body k v w).Keeps v) : Keeps s (t.issue k op body) := by
  unfold State.issue
  refine Keeps.ite h (Keeps.ite (h.setEng _ _) ?_)
  extract_lets r
  have hr : Keeps s r.2 := (h.fetch _).at rfl
  clear_value r
  exact Keeps.ite (hr.engTrap _ _ _) (Keeps.ite (hr.trans ((hb _ _).state k)) h)

/-! ### Scalar and control instructions (R186) -/

theorem Keeps.setG (h : Keeps s t) (n : Fin 16) (i : Fin 16) (v : Word) : Keeps s (t.setG n i v) := h.setEng _ _
theorem Keeps.scalar (h : Keeps s t) (f : Word → Word → Word) (n : Fin 16) (w : Nat) : Issue.Keeps s (scalar f n t w) :=
    h.legal _ (.next (h.setG _ _ _))
theorem Keeps.bodyAdd (h : Keeps s t) (n : Fin 16) (w : Nat) : Issue.Keeps s (bodyAdd n t w) := h.scalar _ _ _
theorem Keeps.bodySub (h : Keeps s t) (n : Fin 16) (w : Nat) : Issue.Keeps s (bodySub n t w) := h.scalar _ _ _
theorem Keeps.bodyAnd (h : Keeps s t) (n : Fin 16) (w : Nat) : Issue.Keeps s (bodyAnd n t w) := h.scalar _ _ _
theorem Keeps.bodyOr (h : Keeps s t) (n : Fin 16) (w : Nat) : Issue.Keeps s (bodyOr n t w) := h.scalar _ _ _
theorem Keeps.bodyXor (h : Keeps s t) (n : Fin 16) (w : Nat) : Issue.Keeps s (bodyXor n t w) := h.scalar _ _ _
theorem Keeps.bodyShl (h : Keeps s t) (n : Fin 16) (w : Nat) : Issue.Keeps s (bodyShl n t w) := h.scalar _ _ _
theorem Keeps.bodyShr (h : Keeps s t) (n : Fin 16) (w : Nat) : Issue.Keeps s (bodyShr n t w) := h.scalar _ _ _
theorem Keeps.bodySra (h : Keeps s t) (n : Fin 16) (w : Nat) : Issue.Keeps s (bodySra n t w) := h.scalar _ _ _
theorem Keeps.bodyMul (h : Keeps s t) (n : Fin 16) (w : Nat) : Issue.Keeps s (bodyMul n t w) := h.scalar _ _ _
theorem Keeps.bodySlt (h : Keeps s t) (n : Fin 16) (w : Nat) : Issue.Keeps s (bodySlt n t w) := h.scalar _ _ _
theorem Keeps.bodySltu (h : Keeps s t) (n : Fin 16) (w : Nat) : Issue.Keeps s (bodySltu n t w) := h.scalar _ _ _
theorem Keeps.bodyLi (h : Keeps s t) (n : Fin 16) (w : Nat) : Issue.Keeps s (bodyLi n t w) := h.legal _ (.next (h.setG _ _ _))
theorem Keeps.bodyMts (h : Keeps s t) (n : Fin 16) (w : Nat) : Issue.Keeps s (bodyMts n t w) := by
  unfold Machine.bodyMts
  extract_lets n2
  split
  · exact .ite (.stall h _) (.next (h.setEng _ _))
  · exact h.illegal
theorem Keeps.bodyMfs (h : Keeps s t) (n : Fin 16) (w : Nat) : Issue.Keeps s (bodyMfs n t w) := by
  unfold Machine.bodyMfs
  split
  · exact .next (h.setG _ _ _)
  · exact h.illegal
theorem Keeps.bodyOvr (h : Keeps s t) (n : Fin 16) (w : Nat) : Issue.Keeps s (bodyOvr n t w) := h.legal _ (.next (h.setG _ _ _))
theorem Keeps.branch (h : Keeps s t) (c : Word → Bool) (n : Fin 16) (w : Nat) : Issue.Keeps s (branch c n t w) :=
    h.legal _ (.ite (.jump h _) (.next h))
theorem Keeps.bodyBr (h : Keeps s t) (n : Fin 16) (w : Nat) : Issue.Keeps s (bodyBr n t w) := h.branch _ _ _
theorem Keeps.bodyBz (h : Keeps s t) (n : Fin 16) (w : Nat) : Issue.Keeps s (bodyBz n t w) := h.branch _ _ _
theorem Keeps.bodyBnz (h : Keeps s t) (n : Fin 16) (w : Nat) : Issue.Keeps s (bodyBnz n t w) := h.branch _ _ _
theorem Keeps.bodyBltz (h : Keeps s t) (n : Fin 16) (w : Nat) : Issue.Keeps s (bodyBltz n t w) := h.branch _ _ _
theorem Keeps.bodyBgez (h : Keeps s t) (n : Fin 16) (w : Nat) : Issue.Keeps s (bodyBgez n t w) := h.branch _ _ _
theorem Keeps.bodyJal (h : Keeps s t) (n : Fin 16) (w : Nat) : Issue.Keeps s (bodyJal n t w) := h.legal _ (.jump (h.setG _ _ _) _)
theorem Keeps.bodyJr (h : Keeps s t) (n : Fin 16) (w : Nat) : Issue.Keeps s (bodyJr n t w) := h.legal _ (.jump h _)
theorem Keeps.bodyLpop (h : Keeps s t) (n : Fin 16) (w : Nat) : Issue.Keeps s (bodyLpop n t w) := h.legal _ (.next (h.setEng _ _))
theorem Keeps.bodyLoop (h : Keeps s t) (n : Fin 16) (w : Nat) : Issue.Keeps s (bodyLoop n t w) := by
  unfold Machine.bodyLoop
  extract_lets x t2 n2 r
  have hr : Keeps s r.2 := (h.readMem _ _).at rfl
  clear_value r
  exact .ite h.illegal (.ite (.trap hr _ _) (.ite (.jump hr _) (.ite (.trap hr _ _) (.jump (hr.setEng _ _) _))))
theorem Keeps.bodyNop (h : Keeps s t) (x : Fin 16) (w : Nat) : Issue.Keeps s (bodyNop x t w) := h.legal _ (.next h)
theorem Keeps.bodyBreak (h : Keeps s t) (x : Fin 16) (w : Nat) : Issue.Keeps s (bodyBreak x t w) := h.legal _ (.trap h _ _)
theorem Keeps.bodyHalt (h : Keeps s t) (x : Fin 16) (w : Nat) : Issue.Keeps s (bodyHalt x t w) := h.legal _ (.stop h)

/-! ### Data addresses and accesses (R155–R157) -/

theorem Keeps.readData (h : Keeps s t) (n : Fin 16) (mem : Nat) (a : Nat) (n2 : Nat) : Keeps s (t.readData n mem a n2).2 := by
  unfold State.readData
  extract_lets b x y x2
  have hx : Keeps s x.2 := (h.readMem _ _).at rfl
  clear_value x
  have hy : Keeps s y.2 := (hx.readMem _ _).at rfl
  clear_value y
  have hx2 : Keeps s x2.2 := (h.readMem _ _).at rfl
  clear_value x2
  split
  · exact hy.pair _
  · exact hx2.pair _
theorem Keeps.writeData (h : Keeps s t) (n : Fin 16) (mem : Nat) (a : Nat) (n2 : Nat) (v : Nat) : Keeps s (t.writeData n mem a n2 v) :=
    Keeps.ite (h.writeRange _ _) (h.writeNarrow _ _ _ _)

/-! ### Parallel moves (R183, R184) -/

theorem Keeps.moveLoad (h : Keeps s t) (n : Fin 16) (e : Engine) (mem : Nat) (x : Option PMove) : Keeps s (t.moveLoad n e mem x).2 := by
  unfold State.moveLoad
  split
  · extract_lets r
    have hr : Keeps s r.2 := (h.readData _ _ _ _).at rfl
    clear_value r
    split
    · exact h.pair _
    · exact hr.pair _
  · exact h.pair _
theorem Keeps.moveStore (h : Keeps s t) (n : Fin 16) (e : Engine) (mem : Nat) (x : Option PMove) : Keeps s (t.moveStore n e mem x) := by
  unfold State.moveStore
  split
  · exact Keeps.ite (h.writeData _ _ _ _ _) h
  · exact h
theorem Keeps.vector (h : Keeps s t) (ok : Nat → Bool) (f : Nat → Engine → Engine) (n : Fin 16) (w : Nat) :
    Issue.Keeps s (vector ok f n t w) := by
  unfold Machine.vector
  split
  · extract_lets e x y
    have hx : Keeps s x.2 := (h.moveLoad _ _ _ _).at rfl
    clear_value x
    have hy : Keeps s y.2 := (hx.moveLoad _ _ _ _).at rfl
    clear_value y
    exact .ite h.illegal (.ite (.trap h _ _) (.ite (.trap h _ _) (.ite (.trap hy _ _) (.ite (.trap hy _ _) (.next
      (((hy.moveStore _ _ _ _).moveStore _ _ _ _).setEng _ _))))))
  · exact h.illegal

/-! ### Vector instructions (R187) -/

theorem Keeps.bodyVadd (h : Keeps s t) (n : Fin 16) (w : Nat) : Issue.Keeps s (bodyVadd n t w) := h.vector _ _ _ _
theorem Keeps.bodyVsub (h : Keeps s t) (n : Fin 16) (w : Nat) : Issue.Keeps s (bodyVsub n t w) := h.vector _ _ _ _
theorem Keeps.bodyVadds (h : Keeps s t) (n : Fin 16) (w : Nat) : Issue.Keeps s (bodyVadds n t w) := h.vector _ _ _ _
theorem Keeps.bodyVsubs (h : Keeps s t) (n : Fin 16) (w : Nat) : Issue.Keeps s (bodyVsubs n t w) := h.vector _ _ _ _
theorem Keeps.bodyVand (h : Keeps s t) (n : Fin 16) (w : Nat) : Issue.Keeps s (bodyVand n t w) := h.vector _ _ _ _
theorem Keeps.bodyVor (h : Keeps s t) (n : Fin 16) (w : Nat) : Issue.Keeps s (bodyVor n t w) := h.vector _ _ _ _
theorem Keeps.bodyVxor (h : Keeps s t) (n : Fin 16) (w : Nat) : Issue.Keeps s (bodyVxor n t w) := h.vector _ _ _ _
theorem Keeps.bodyVsra (h : Keeps s t) (n : Fin 16) (w : Nat) : Issue.Keeps s (bodyVsra n t w) := h.vector _ _ _ _
theorem Keeps.bodyVcmplt (h : Keeps s t) (n : Fin 16) (w : Nat) : Issue.Keeps s (bodyVcmplt n t w) := h.vector _ _ _ _
theorem Keeps.bodyValign (h : Keeps s t) (n : Fin 16) (w : Nat) : Issue.Keeps s (bodyValign n t w) := h.vector _ _ _ _
theorem Keeps.bodyVeven (h : Keeps s t) (n : Fin 16) (w : Nat) : Issue.Keeps s (bodyVeven n t w) := h.vector _ _ _ _
theorem Keeps.bodyVodd (h : Keeps s t) (n : Fin 16) (w : Nat) : Issue.Keeps s (bodyVodd n t w) := h.vector _ _ _ _
theorem Keeps.bodyVsplat (h : Keeps s t) (n : Fin 16) (w : Nat) : Issue.Keeps s (bodyVsplat n t w) := h.vector _ _ _ _
theorem Keeps.bodyVext (h : Keeps s t) (n : Fin 16) (w : Nat) : Issue.Keeps s (bodyVext n t w) := h.vector _ _ _ _
theorem Keeps.bodyVins (h : Keeps s t) (n : Fin 16) (w : Nat) : Issue.Keeps s (bodyVins n t w) := h.vector _ _ _ _
theorem Keeps.bodyVmove (h : Keeps s t) (n : Fin 16) (w : Nat) : Issue.Keeps s (bodyVmove n t w) := h.vector _ _ _ _

/-! ### Accumulators (R161, R162) -/

theorem Keeps.bodyMac (h : Keeps s t) (n : Fin 16) (w : Nat) : Issue.Keeps s (bodyMac n t w) := h.vector _ _ _ _
theorem Keeps.bodyMsu (h : Keeps s t) (n : Fin 16) (w : Nat) : Issue.Keeps s (bodyMsu n t w) := h.vector _ _ _ _
theorem Keeps.bodyMacf (h : Keeps s t) (n : Fin 16) (w : Nat) : Issue.Keeps s (bodyMacf n t w) := h.vector _ _ _ _
theorem Keeps.bodyMsuf (h : Keeps s t) (n : Fin 16) (w : Nat) : Issue.Keeps s (bodyMsuf n t w) := h.vector _ _ _ _
theorem Keeps.bodyMpy (h : Keeps s t) (n : Fin 16) (w : Nat) : Issue.Keeps s (bodyMpy n t w) := h.vector _ _ _ _
theorem Keeps.bodyMpyf (h : Keeps s t) (n : Fin 16) (w : Nat) : Issue.Keeps s (bodyMpyf n t w) := h.vector _ _ _ _
theorem Keeps.bodyClra (h : Keeps s t) (n : Fin 16) (w : Nat) : Issue.Keeps s (bodyClra n t w) := h.vector _ _ _ _
theorem Keeps.bodyLda (h : Keeps s t) (n : Fin 16) (w : Nat) : Issue.Keeps s (bodyLda n t w) := h.vector _ _ _ _
theorem Keeps.bodySatv (h : Keeps s t) (n : Fin 16) (w : Nat) : Issue.Keeps s (bodySatv n t w) := h.vector _ _ _ _

/-! ### Loads and stores (R188) -/

theorem Keeps.bodyLd (h : Keeps s t) (n : Fin 16) (w : Nat) : Issue.Keeps s (bodyLd n t w) := by
  unfold Machine.bodyLd
  extract_lets e a mem n2 r e1
  have hr : Keeps s r.2 := (h.readData _ _ _ _).at rfl
  clear_value r
  exact .ite h.illegal (.ite (.trap h _ _) (.ite (.trap hr _ _) (.next (hr.setEng _ _))))
theorem Keeps.storeL (h : Keeps s t) (n : Fin 16) (w : Nat) (ok : Bool) (v : Nat) : Issue.Keeps s (storeL n t w ok v) :=
    .ite h.illegal (.ite (.trap h _ _) (.next ((h.writeData _ _ _ _ _).setEng _ _)))
theorem Keeps.bodySt (h : Keeps s t) (n : Fin 16) (w : Nat) : Issue.Keeps s (bodySt n t w) := h.storeL _ _ _ _
theorem Keeps.bodySst (h : Keeps s t) (n : Fin 16) (w : Nat) : Issue.Keeps s (bodySst n t w) := h.storeL _ _ _ _

/-! ### Ports (R163–R171, R188, R189) -/

theorem Keeps.fed {i : Issue} (h : Keeps s t) (k : Fin 16) (w : Nat) (hi : i.Keeps s) : Issue.Keeps s (fed t k w i) := h.legal _ hi
theorem Keeps.bodyLwait (h : Keeps s t) (n : Fin 16) (w : Nat) : Issue.Keeps s (bodyLwait n t w) :=
    h.fed _ _ (.ite (.next h) (.ite (.stall h _) (.next (h.takeHalf _))))
theorem Keeps.bodyLtest (h : Keeps s t) (n : Fin 16) (w : Nat) : Issue.Keeps s (bodyLtest n t w) := h.fed _ _ (.next (h.setG _ _ _))
theorem Keeps.bodyLrd (h : Keeps s t) (n : Fin 16) (w : Nat) : Issue.Keeps s (bodyLrd n t w) := by
  unfold Machine.bodyLrd
  refine .ite h.illegal (h.fed _ _ ?_)
  split
  · exact .trap h _ _
  · extract_lets a x y
    have hx : Keeps s x.2 := (h.readMem _ _).at rfl
    clear_value x
    have hy : Keeps s y.2 := by
      unfold y
      split
      · exact hx.readMem _ _
      · exact hx.pair _
    clear_value y
    exact .ite (.trap h _ _) (.ite (.trap hy _ _) (.next (hy.setEng _ _)))
theorem Keeps.bodyLrel (h : Keeps s t) (n : Fin 16) (w : Nat) : Issue.Keeps s (bodyLrel n t w) := by
  unfold Machine.bodyLrel
  refine h.fed _ _ ?_
  split
  · exact .trap h _ _
  · extract_lets s1
    have hs1 : Keeps s s1 := (h.set _ _).setLand _ _
    clear_value s1
    exact .next (Keeps.ite hs1 (hs1.setEng _ _))
theorem Keeps.bodyDstart (h : Keeps s t) (n : Fin 16) (w : Nat) : Issue.Keeps s (bodyDstart n t w) := by
  unfold Machine.bodyDstart
  extract_lets c d s1
  have hs1 : Keeps s s1 := ((h.set _ _).set _ _).set _ _
  clear_value s1
  exact .ite h.illegal (.ite (.stall h _) (.ite (.next (hs1.set _ _)) (.ite (.trap (hs1.dmaHalt _ _ _) _ _) (.next (hs1.dmaHalt _ _ _)))))
theorem Keeps.bodyDwait (h : Keeps s t) (n : Fin 16) (w : Nat) : Issue.Keeps s (bodyDwait n t w) :=
    .ite h.illegal (.ite (.stall h _) (.next (h.setG _ _ _)))
theorem Keeps.bodyFout (h : Keeps s t) (n : Fin 16) (w : Nat) : Issue.Keeps s (bodyFout n t w) := by
  unfold Machine.bodyFout
  extract_lets f p shot s1
  have hs1 : Keeps s s1 := h.enterRun _
  clear_value s1
  refine h.fed _ _ (.ite (.trap h _ _) (.ite (.next h) ?_))
  split
  · exact .stall hs1 _
  · exact .next hs1
  · exact .next (hs1.stageSamples _ _ _ _)
theorem Keeps.bodyFclose (h : Keeps s t) (n : Fin 16) (w : Nat) : Issue.Keeps s (bodyFclose n t w) :=
    h.fed _ _ (.next ((h.setEng _ _).closeFrames _))
theorem Keeps.bodyQrep (h : Keeps s t) (n : Fin 16) (w : Nat) : Issue.Keeps s (bodyQrep n t w) :=
    .ite h.illegal (h.fed _ _ (.ite (.stall h _) (.next ((h.inc _).setEng _ _))))
theorem Keeps.bodyAlarm (h : Keeps s t) (n : Fin 16) (w : Nat) : Issue.Keeps s (bodyAlarm n t w) := by
  unfold Machine.bodyAlarm
  extract_lets g t2
  have ht2 : Keeps s t2 := h.postAlarm _ _
  clear_value t2
  exact .ite h.illegal (.ite (.next ht2) (.stall ht2 _))

/-! ### The instructions -/

theorem Keeps.execAddOp (h : Keeps s t) (n : Fin 16) : OutKeeps s (execAddOp n t) := .next (h.issue _ _ (fun v _ => (Keeps.refl v).bodyAdd _ _))
theorem Keeps.execSubOp (h : Keeps s t) (n : Fin 16) : OutKeeps s (execSubOp n t) := .next (h.issue _ _ (fun v _ => (Keeps.refl v).bodySub _ _))
theorem Keeps.execAndOp (h : Keeps s t) (n : Fin 16) : OutKeeps s (execAndOp n t) := .next (h.issue _ _ (fun v _ => (Keeps.refl v).bodyAnd _ _))
theorem Keeps.execOrOp (h : Keeps s t) (n : Fin 16) : OutKeeps s (execOrOp n t) := .next (h.issue _ _ (fun v _ => (Keeps.refl v).bodyOr _ _))
theorem Keeps.execXorOp (h : Keeps s t) (n : Fin 16) : OutKeeps s (execXorOp n t) := .next (h.issue _ _ (fun v _ => (Keeps.refl v).bodyXor _ _))
theorem Keeps.execShlOp (h : Keeps s t) (n : Fin 16) : OutKeeps s (execShlOp n t) := .next (h.issue _ _ (fun v _ => (Keeps.refl v).bodyShl _ _))
theorem Keeps.execShr (h : Keeps s t) (n : Fin 16) : OutKeeps s (execShr n t) := .next (h.issue _ _ (fun v _ => (Keeps.refl v).bodyShr _ _))
theorem Keeps.execSra (h : Keeps s t) (n : Fin 16) : OutKeeps s (execSra n t) := .next (h.issue _ _ (fun v _ => (Keeps.refl v).bodySra _ _))
theorem Keeps.execMulOp (h : Keeps s t) (n : Fin 16) : OutKeeps s (execMulOp n t) := .next (h.issue _ _ (fun v _ => (Keeps.refl v).bodyMul _ _))
theorem Keeps.execSlt (h : Keeps s t) (n : Fin 16) : OutKeeps s (execSlt n t) := .next (h.issue _ _ (fun v _ => (Keeps.refl v).bodySlt _ _))
theorem Keeps.execSltu (h : Keeps s t) (n : Fin 16) : OutKeeps s (execSltu n t) := .next (h.issue _ _ (fun v _ => (Keeps.refl v).bodySltu _ _))
theorem Keeps.execLi (h : Keeps s t) (n : Fin 16) : OutKeeps s (execLi n t) := .next (h.issue _ _ (fun v _ => (Keeps.refl v).bodyLi _ _))
theorem Keeps.execMts (h : Keeps s t) (n : Fin 16) : OutKeeps s (execMts n t) := .next (h.issue _ _ (fun v _ => (Keeps.refl v).bodyMts _ _))
theorem Keeps.execMfs (h : Keeps s t) (n : Fin 16) : OutKeeps s (execMfs n t) := .next (h.issue _ _ (fun v _ => (Keeps.refl v).bodyMfs _ _))
theorem Keeps.execOvr (h : Keeps s t) (n : Fin 16) : OutKeeps s (execOvr n t) := .next (h.issue _ _ (fun v _ => (Keeps.refl v).bodyOvr _ _))
theorem Keeps.execLpop (h : Keeps s t) (n : Fin 16) : OutKeeps s (execLpop n t) := .next (h.issue _ _ (fun v _ => (Keeps.refl v).bodyLpop _ _))
theorem Keeps.execBr (h : Keeps s t) (n : Fin 16) : OutKeeps s (execBr n t) := .next (h.issue _ _ (fun v _ => (Keeps.refl v).bodyBr _ _))
theorem Keeps.execBz (h : Keeps s t) (n : Fin 16) : OutKeeps s (execBz n t) := .next (h.issue _ _ (fun v _ => (Keeps.refl v).bodyBz _ _))
theorem Keeps.execBnz (h : Keeps s t) (n : Fin 16) : OutKeeps s (execBnz n t) := .next (h.issue _ _ (fun v _ => (Keeps.refl v).bodyBnz _ _))
theorem Keeps.execBltz (h : Keeps s t) (n : Fin 16) : OutKeeps s (execBltz n t) := .next (h.issue _ _ (fun v _ => (Keeps.refl v).bodyBltz _ _))
theorem Keeps.execBgez (h : Keeps s t) (n : Fin 16) : OutKeeps s (execBgez n t) := .next (h.issue _ _ (fun v _ => (Keeps.refl v).bodyBgez _ _))
theorem Keeps.execJal (h : Keeps s t) (n : Fin 16) : OutKeeps s (execJal n t) := .next (h.issue _ _ (fun v _ => (Keeps.refl v).bodyJal _ _))
theorem Keeps.execJr (h : Keeps s t) (n : Fin 16) : OutKeeps s (execJr n t) := .next (h.issue _ _ (fun v _ => (Keeps.refl v).bodyJr _ _))
theorem Keeps.execLoopOp (h : Keeps s t) (n : Fin 16) : OutKeeps s (execLoopOp n t) :=
    .next (h.issue _ _ (fun v _ => (Keeps.refl v).bodyLoop _ _))
theorem Keeps.execNopOp (h : Keeps s t) (n : Fin 16) : OutKeeps s (execNopOp n t) := .next (h.issue _ _ (fun v _ => (Keeps.refl v).bodyNop _ _))
theorem Keeps.execBreakOp (h : Keeps s t) (n : Fin 16) : OutKeeps s (execBreakOp n t) :=
    .next (h.issue _ _ (fun v _ => (Keeps.refl v).bodyBreak _ _))
theorem Keeps.execHaltOp (h : Keeps s t) (n : Fin 16) : OutKeeps s (execHaltOp n t) :=
    .next (h.issue _ _ (fun v _ => (Keeps.refl v).bodyHalt _ _))
theorem Keeps.execVadd (h : Keeps s t) (n : Fin 16) : OutKeeps s (execVadd n t) := .next (h.issue _ _ (fun v _ => (Keeps.refl v).bodyVadd _ _))
theorem Keeps.execVsub (h : Keeps s t) (n : Fin 16) : OutKeeps s (execVsub n t) := .next (h.issue _ _ (fun v _ => (Keeps.refl v).bodyVsub _ _))
theorem Keeps.execVadds (h : Keeps s t) (n : Fin 16) : OutKeeps s (execVadds n t) :=
    .next (h.issue _ _ (fun v _ => (Keeps.refl v).bodyVadds _ _))
theorem Keeps.execVsubs (h : Keeps s t) (n : Fin 16) : OutKeeps s (execVsubs n t) :=
    .next (h.issue _ _ (fun v _ => (Keeps.refl v).bodyVsubs _ _))
theorem Keeps.execVand (h : Keeps s t) (n : Fin 16) : OutKeeps s (execVand n t) := .next (h.issue _ _ (fun v _ => (Keeps.refl v).bodyVand _ _))
theorem Keeps.execVor (h : Keeps s t) (n : Fin 16) : OutKeeps s (execVor n t) := .next (h.issue _ _ (fun v _ => (Keeps.refl v).bodyVor _ _))
theorem Keeps.execVxor (h : Keeps s t) (n : Fin 16) : OutKeeps s (execVxor n t) := .next (h.issue _ _ (fun v _ => (Keeps.refl v).bodyVxor _ _))
theorem Keeps.execVsra (h : Keeps s t) (n : Fin 16) : OutKeeps s (execVsra n t) := .next (h.issue _ _ (fun v _ => (Keeps.refl v).bodyVsra _ _))
theorem Keeps.execVcmplt (h : Keeps s t) (n : Fin 16) : OutKeeps s (execVcmplt n t) :=
    .next (h.issue _ _ (fun v _ => (Keeps.refl v).bodyVcmplt _ _))
theorem Keeps.execValign (h : Keeps s t) (n : Fin 16) : OutKeeps s (execValign n t) :=
    .next (h.issue _ _ (fun v _ => (Keeps.refl v).bodyValign _ _))
theorem Keeps.execVeven (h : Keeps s t) (n : Fin 16) : OutKeeps s (execVeven n t) :=
    .next (h.issue _ _ (fun v _ => (Keeps.refl v).bodyVeven _ _))
theorem Keeps.execVodd (h : Keeps s t) (n : Fin 16) : OutKeeps s (execVodd n t) := .next (h.issue _ _ (fun v _ => (Keeps.refl v).bodyVodd _ _))
theorem Keeps.execVsplat (h : Keeps s t) (n : Fin 16) : OutKeeps s (execVsplat n t) :=
    .next (h.issue _ _ (fun v _ => (Keeps.refl v).bodyVsplat _ _))
theorem Keeps.execVext (h : Keeps s t) (n : Fin 16) : OutKeeps s (execVext n t) := .next (h.issue _ _ (fun v _ => (Keeps.refl v).bodyVext _ _))
theorem Keeps.execVins (h : Keeps s t) (n : Fin 16) : OutKeeps s (execVins n t) := .next (h.issue _ _ (fun v _ => (Keeps.refl v).bodyVins _ _))
theorem Keeps.execVmove (h : Keeps s t) (n : Fin 16) : OutKeeps s (execVmove n t) :=
    .next (h.issue _ _ (fun v _ => (Keeps.refl v).bodyVmove _ _))
theorem Keeps.execMacOp (h : Keeps s t) (n : Fin 16) : OutKeeps s (execMacOp n t) := .next (h.issue _ _ (fun v _ => (Keeps.refl v).bodyMac _ _))
theorem Keeps.execMsu (h : Keeps s t) (n : Fin 16) : OutKeeps s (execMsu n t) := .next (h.issue _ _ (fun v _ => (Keeps.refl v).bodyMsu _ _))
theorem Keeps.execMacf (h : Keeps s t) (n : Fin 16) : OutKeeps s (execMacf n t) := .next (h.issue _ _ (fun v _ => (Keeps.refl v).bodyMacf _ _))
theorem Keeps.execMsuf (h : Keeps s t) (n : Fin 16) : OutKeeps s (execMsuf n t) := .next (h.issue _ _ (fun v _ => (Keeps.refl v).bodyMsuf _ _))
theorem Keeps.execMpy (h : Keeps s t) (n : Fin 16) : OutKeeps s (execMpy n t) := .next (h.issue _ _ (fun v _ => (Keeps.refl v).bodyMpy _ _))
theorem Keeps.execMpyf (h : Keeps s t) (n : Fin 16) : OutKeeps s (execMpyf n t) := .next (h.issue _ _ (fun v _ => (Keeps.refl v).bodyMpyf _ _))
theorem Keeps.execClra (h : Keeps s t) (n : Fin 16) : OutKeeps s (execClra n t) := .next (h.issue _ _ (fun v _ => (Keeps.refl v).bodyClra _ _))
theorem Keeps.execLda (h : Keeps s t) (n : Fin 16) : OutKeeps s (execLda n t) := .next (h.issue _ _ (fun v _ => (Keeps.refl v).bodyLda _ _))
theorem Keeps.execSatv (h : Keeps s t) (n : Fin 16) : OutKeeps s (execSatv n t) := .next (h.issue _ _ (fun v _ => (Keeps.refl v).bodySatv _ _))
theorem Keeps.execLd (h : Keeps s t) (n : Fin 16) : OutKeeps s (execLd n t) := .next (h.issue _ _ (fun v _ => (Keeps.refl v).bodyLd _ _))
theorem Keeps.execStOp (h : Keeps s t) (n : Fin 16) : OutKeeps s (execStOp n t) := .next (h.issue _ _ (fun v _ => (Keeps.refl v).bodySt _ _))
theorem Keeps.execSst (h : Keeps s t) (n : Fin 16) : OutKeeps s (execSst n t) := .next (h.issue _ _ (fun v _ => (Keeps.refl v).bodySst _ _))
theorem Keeps.execLwait (h : Keeps s t) (n : Fin 16) : OutKeeps s (execLwait n t) :=
    .next (h.issue _ _ (fun v _ => (Keeps.refl v).bodyLwait _ _))
theorem Keeps.execLtest (h : Keeps s t) (n : Fin 16) : OutKeeps s (execLtest n t) :=
    .next (h.issue _ _ (fun v _ => (Keeps.refl v).bodyLtest _ _))
theorem Keeps.execLrd (h : Keeps s t) (n : Fin 16) : OutKeeps s (execLrd n t) := .next (h.issue _ _ (fun v _ => (Keeps.refl v).bodyLrd _ _))
theorem Keeps.execLrel (h : Keeps s t) (n : Fin 16) : OutKeeps s (execLrel n t) := .next (h.issue _ _ (fun v _ => (Keeps.refl v).bodyLrel _ _))
theorem Keeps.execDstart (h : Keeps s t) (n : Fin 16) : OutKeeps s (execDstart n t) :=
    .next (h.issue _ _ (fun v _ => (Keeps.refl v).bodyDstart _ _))
theorem Keeps.execDwait (h : Keeps s t) (n : Fin 16) : OutKeeps s (execDwait n t) :=
    .next (h.issue _ _ (fun v _ => (Keeps.refl v).bodyDwait _ _))
theorem Keeps.execFout (h : Keeps s t) (n : Fin 16) : OutKeeps s (execFout n t) := .next (h.issue _ _ (fun v _ => (Keeps.refl v).bodyFout _ _))
theorem Keeps.execFclose (h : Keeps s t) (n : Fin 16) : OutKeeps s (execFclose n t) :=
    .next (h.issue _ _ (fun v _ => (Keeps.refl v).bodyFclose _ _))
theorem Keeps.execQrep (h : Keeps s t) (n : Fin 16) : OutKeeps s (execQrep n t) := .next (h.issue _ _ (fun v _ => (Keeps.refl v).bodyQrep _ _))
theorem Keeps.execAlarmOp (h : Keeps s t) (n : Fin 16) : OutKeeps s (execAlarmOp n t) :=
    .next (h.issue _ _ (fun v _ => (Keeps.refl v).bodyAlarm _ _))
/-- Every defined instruction keeps the canonical forms. -/
theorem engOps_keep : ∀ p ∈ engOps, ∀ (k : Fin 16) (v : State) (w : Nat), (p.2 k v w).Keeps v := by
  unfold engOps
  simp only [List.forall_mem_cons]
  exact ⟨
    fun k v w => (Keeps.refl v).bodyAdd k w,
    fun k v w => (Keeps.refl v).bodySub k w,
    fun k v w => (Keeps.refl v).bodyAnd k w,
    fun k v w => (Keeps.refl v).bodyOr k w,
    fun k v w => (Keeps.refl v).bodyXor k w,
    fun k v w => (Keeps.refl v).bodyShl k w,
    fun k v w => (Keeps.refl v).bodyShr k w,
    fun k v w => (Keeps.refl v).bodySra k w,
    fun k v w => (Keeps.refl v).bodyMul k w,
    fun k v w => (Keeps.refl v).bodySlt k w,
    fun k v w => (Keeps.refl v).bodySltu k w,
    fun k v w => (Keeps.refl v).bodyLi k w,
    fun k v w => (Keeps.refl v).bodyMts k w,
    fun k v w => (Keeps.refl v).bodyMfs k w,
    fun k v w => (Keeps.refl v).bodyOvr k w,
    fun k v w => (Keeps.refl v).bodyLpop k w,
    fun k v w => (Keeps.refl v).bodyBr k w,
    fun k v w => (Keeps.refl v).bodyBz k w,
    fun k v w => (Keeps.refl v).bodyBnz k w,
    fun k v w => (Keeps.refl v).bodyBltz k w,
    fun k v w => (Keeps.refl v).bodyBgez k w,
    fun k v w => (Keeps.refl v).bodyJal k w,
    fun k v w => (Keeps.refl v).bodyJr k w,
    fun k v w => (Keeps.refl v).bodyLoop k w,
    fun k v w => (Keeps.refl v).bodyNop k w,
    fun k v w => (Keeps.refl v).bodyBreak k w,
    fun k v w => (Keeps.refl v).bodyHalt k w,
    fun k v w => (Keeps.refl v).bodyVadd k w,
    fun k v w => (Keeps.refl v).bodyVsub k w,
    fun k v w => (Keeps.refl v).bodyVadds k w,
    fun k v w => (Keeps.refl v).bodyVsubs k w,
    fun k v w => (Keeps.refl v).bodyVand k w,
    fun k v w => (Keeps.refl v).bodyVor k w,
    fun k v w => (Keeps.refl v).bodyVxor k w,
    fun k v w => (Keeps.refl v).bodyVsra k w,
    fun k v w => (Keeps.refl v).bodyVcmplt k w,
    fun k v w => (Keeps.refl v).bodyValign k w,
    fun k v w => (Keeps.refl v).bodyVeven k w,
    fun k v w => (Keeps.refl v).bodyVodd k w,
    fun k v w => (Keeps.refl v).bodyVsplat k w,
    fun k v w => (Keeps.refl v).bodyVext k w,
    fun k v w => (Keeps.refl v).bodyVins k w,
    fun k v w => (Keeps.refl v).bodyVmove k w,
    fun k v w => (Keeps.refl v).bodyMac k w,
    fun k v w => (Keeps.refl v).bodyMsu k w,
    fun k v w => (Keeps.refl v).bodyMacf k w,
    fun k v w => (Keeps.refl v).bodyMsuf k w,
    fun k v w => (Keeps.refl v).bodyMpy k w,
    fun k v w => (Keeps.refl v).bodyMpyf k w,
    fun k v w => (Keeps.refl v).bodyClra k w,
    fun k v w => (Keeps.refl v).bodyLda k w,
    fun k v w => (Keeps.refl v).bodySatv k w,
    fun k v w => (Keeps.refl v).bodyLd k w,
    fun k v w => (Keeps.refl v).bodySt k w,
    fun k v w => (Keeps.refl v).bodySst k w,
    fun k v w => (Keeps.refl v).bodyLwait k w,
    fun k v w => (Keeps.refl v).bodyLtest k w,
    fun k v w => (Keeps.refl v).bodyLrd k w,
    fun k v w => (Keeps.refl v).bodyLrel k w,
    fun k v w => (Keeps.refl v).bodyDstart k w,
    fun k v w => (Keeps.refl v).bodyDwait k w,
    fun k v w => (Keeps.refl v).bodyFout k w,
    fun k v w => (Keeps.refl v).bodyFclose k w,
    fun k v w => (Keeps.refl v).bodyQrep k w,
    fun k v w => (Keeps.refl v).bodyAlarm k w,
    fun _ h => absurd h List.not_mem_nil⟩
theorem Keeps.execIllegal (h : Keeps s t) (k : Fin 16) : OutKeeps s (execIllegal k t) := by
  unfold Machine.execIllegal
  refine .next (Keeps.ite h (Keeps.ite (Keeps.ite (h.engTrap _ _ _) h) ?_))
  extract_lets r
  have hr : Keeps s r.2 := (h.fetch _).at rfl
  clear_value r
  refine Keeps.ite h ?_
  split
  · exact hr.engTrap _ _ _
  · next p hp =>
    have hi := engOps_keep p (List.mem_of_find?_eq_some hp) k r.2 r.1.1
    revert hi
    cases p.2 k r.2 r.1.1 with
    | trap c a v =>
      intro hv
      split
      · next e => cases e; exact (hr.trans hv).engTrap _ _ _
      · exact h
    | stall w v => exact fun _ => h
    | next v => exact fun _ => h
    | jump a v => exact fun _ => h
    | stop v => exact fun _ => h

/-! ### Stalled instructions go on (R165, R167, R169–R171, R191) -/

theorem Keeps.retry {body : Fin 16 → State → Nat → Issue} (h : Keeps s t) (k : Fin 16) (op : Nat)
    (hb : ∀ v w, (body k v w).Keeps v) : Keeps s (t.retry k op body) := (h.setEng _ _).issue _ _ hb
theorem Keeps.execLandingWaitResume (h : Keeps s t) (n : Fin 16) : OutKeeps s (execLandingWaitResume n t) :=
    .next (h.onFab (Keeps.ite (Keeps.ite (h.kernelHalf _) (h.retry _ _ (fun v _ => (Keeps.refl v).bodyLwait _ _))) h))
theorem Keeps.execDmaWaitResume (h : Keeps s t) (n : Fin 16) : OutKeeps s (execDmaWaitResume n t) := by
  unfold Machine.execDmaWaitResume
  refine .next (h.onFab ?_)
  split
  · exact Keeps.ite h (h.retry _ _ (fun v w => (Keeps.refl v).bodyDwait _ _))
  · exact Keeps.ite h (h.retry _ _ (fun v w => (Keeps.refl v).bodyDstart _ _))
  · exact Keeps.ite h (h.retry _ _ (fun v w => (Keeps.refl v).bodyMts _ _))
  · exact h
theorem Keeps.execFrameOutputResume (h : Keeps s t) (n : Fin 16) : OutKeeps s (execFrameOutputResume n t) :=
    .next (h.onFab (Keeps.ite (Keeps.ite (h.kernelGo _) (h.retry _ _ (fun v _ => (Keeps.refl v).bodyFout _ _))) h))
theorem Keeps.execQualityReportApply (h : Keeps s t) (n : Fin 16) : OutKeeps s (execQualityReportApply n t) := by
  unfold Machine.execQualityReportApply
  refine .next (h.onFab ?_)
  split
  · extract_lets s1
    have hs1 : Keeps s s1 := (h.applyReport _).setEng _ _
    clear_value s1
    exact Keeps.ite (hs1.retry _ _ (fun v w => (Keeps.refl v).bodyQrep _ _)) hs1
  · exact h
theorem Keeps.acceptPost (h : Keeps s t) (n : Fin 16) (p : Nat × List Nat) : Keeps s (t.acceptPost n p) :=
    ((h.inc _).enterAlarm _ _ _ _ _).setEng _ _
theorem Keeps.execAlarmPostAccept (h : Keeps s t) (n : Fin 16) : OutKeeps s (execAlarmPostAccept n t) := by
  unfold Machine.execAlarmPostAccept
  refine .next (h.onFab ?_)
  split
  · extract_lets s1
    have hs1 : Keeps s s1 := h.acceptPost _ _
    clear_value s1
    exact Keeps.ite (Keeps.ite (Keeps.ite (hs1.setEng _ _) ((hs1.setEng _ _).advance _ _)) hs1) h
  · exact h

end Sys2Proof.Machine
end

section
/-! SUPPORT. The functions of Sys2Proof/Machine/Bril.lean keep the canonical forms and the queue. -/

namespace Sys2Proof.Machine
variable {s t u : State}
theorem Keeps.setBril (h : Keeps s t) (f : Fib) (g : BrilRun → BrilRun) : Keeps s (t.setBril f g) := h.same rfl rfl rfl rfl rfl

/-! ### Layout (R194, R202) -/

theorem Keeps.read32 (h : Keeps s t) (m : Master) (a : Nat) : Keeps s (t.read32 m a).2 := by
  unfold State.read32
  extract_lets r
  have hr : Keeps s r.2 := (h.readMem _ _).at rfl
  clear_value r
  exact hr.pair _

/-! ### Intervals (R197–R199) -/

theorem Keeps.showBril (h : Keeps s t) (f : Fib) : Keeps s (t.showBril f) := (h.setB _ _).setB _ _
theorem Keeps.openInterval (h : Keeps s t) (f : Fib) (j : Int) : Keeps s (t.openInterval f j) := by
  unfold State.openInterval
  refine (Keeps.setBril ?_ _ _).showBril _
  split
  · split
    · exact h.set _ _
    · exact h
  · exact h
theorem Keeps.copyDump (h : Keeps s t) (f : Fib) (bank first n : Nat) : Keeps s (t.copyDump f bank first n) := by
  unfold State.copyDump
  refine h.foldl (fun u i => Keeps.writeRange ?_ _ _) _
  exact Keeps.foldl_snd (fun p j => ((Keeps.refl p.2).readMem _ _).pair _) _ (((Keeps.refl u).read32 _ _).pair _)
theorem Keeps.makeDump (h : Keeps s t) (f : Fib) (bank : Nat) : Keeps s (t.makeDump f bank) := by
  unfold State.makeDump
  split
  · exact (((h.copyDump _ _ _ _).set _ _).raise _ _).setBril _ _
  · exact h
theorem Keeps.closeInterval (h : Keeps s t) (f : Fib) : Keeps s (t.closeInterval f) := by
  unfold State.closeInterval
  extract_lets b bank shut short s1 s2 s3 c
  have hs1 : Keeps s s1 := h.writeDram _ _ _
  clear_value s1
  have hs2 : Keeps s s2 := (hs1.makeDump _ _).set _ _
  clear_value s2
  have hs3 : Keeps s s3 := Keeps.ite (hs2.raise _ _) hs2
  clear_value s3
  exact Keeps.ite ((((((h.raise _ _).inc _).setBril _ _).set _ _).setBril _ _).showBril _) (Keeps.ite (((h.set _ _).setBril _ _).showBril _)
      ((((hs3.setBril _ _).set _ _).setBril _ _).showBril _))
theorem Keeps.tryClose (h : Keeps s t) (f : Fib) : Keeps s (t.tryClose f) := by
  unfold State.tryClose
  split
  · exact Keeps.ite (h.closeInterval _) h
  · exact h

/-! ### Spectra (R121, R195, R204) -/

theorem Keeps.addSpectrum (h : Keeps s t) (a : Nat) (fresh : Bool) (p : List Nat) : Keeps s (t.addSpectrum a fresh p).2 := by
  unfold State.addSpectrum
  split
  · exact (h.writeDram _ _ _).pair _
  · refine Keeps.pair (Keeps.writeDram ?_ _ _ _) _
    refine Keeps.foldl_thd (fun x j => ?_) _ (h.triple _ _)
    exact Keeps.triple ((Keeps.refl x.2.2).readDram _ _) _ _
theorem Keeps.accumulate (h : Keeps s t) (f : Fib) (c : Capture) (p : List Nat) : Keeps s (t.accumulate f c p) := by
  unfold State.accumulate
  extract_lets j s1 b bank s2 w n r sat new
  have hs1 : Keeps s s1 := by
    unfold s1
    split
    · exact h.openInterval _ _
    · exact Keeps.ite ((h.closeInterval _).openInterval _ _) h
  clear_value s1
  have hs2 : Keeps s s2 := hs1.raise _ _
  clear_value s2
  have hr : Keeps s r.2 := (hs1.addSpectrum _ _ _).at rfl
  clear_value r
  split
  · exact h
  · exact Keeps.ite h (Keeps.ite hs1 (Keeps.ite ((Keeps.ite hs2 (hs2.inc _)).setBril _ _) ((Keeps.ite (hr.raise _ _) hr).setBril _ _)))
theorem Keeps.captureSamples (h : Keeps s t) (f : Fib) (c : Capture) (t' : Nat) : Keeps s (t.captureSamples f c t').2 := by
  unfold State.captureSamples
  refine Keeps.foldl_snd (fun p a => ?_) _ (h.pair _)
  extract_lets r x
  have hr : Keeps p.2 r.2 := ((Keeps.refl _).readWord _ _).at rfl
  clear_value r
  split
  · exact (Keeps.refl _).pair _
  · exact hr.pair _
theorem Keeps.spectrumOf (h : Keeps s t) (f : Fib) (c : Capture) (xs : List (Rat × Rat)) : Keeps s (t.spectrumOf f c xs).2 := by
  unfold State.spectrumOf
  refine Keeps.foldl_snd (fun p a => ?_) _ (h.pair _)
  extract_lets v d
  have hd : Keeps p.2 d.2 := ((Keeps.refl _).pickNear _ _).at rfl
  clear_value d
  exact hd.pair _
theorem Keeps.execSpectrumDelivery (h : Keeps s t) (f : Fib) (pos : Nat) : OutKeeps s (execSpectrumDelivery f pos t) := by
  unfold Machine.execSpectrumDelivery
  refine .next (h.onFab ?_)
  split
  · extract_lets x p s1 s2
    have hx : Keeps s x.2 := (h.captureSamples _ _ _).at rfl
    clear_value x
    have hp : Keeps s p.2 := (hx.spectrumOf _ _ _).at rfl
    clear_value p
    have hs1 : Keeps s s1 := Keeps.ite (hx.inc _) (Keeps.ite hx (Keeps.ite (hp.accumulate _ _ _) hp))
    clear_value s1
    have hs2 : Keeps s s2 := hs1.setPrism _ _
    clear_value s2
    exact Keeps.ite (hs2.tryClose _) h
  · exact h

/-! ### Descriptor and results (R201, R203, R209) -/

theorem Keeps.fitWrite (h : Keeps s t) (f : Nat) (w : Nat) (v : Nat) : Keeps s (t.fitWrite f w v) := h.writeNarrow _ _ _ _
theorem Keeps.execDescriptorPost (h : Keeps s t) (f : Fib) : OutKeeps s (execDescriptorPost f t) := by
  unfold Machine.execDescriptorPost
  extract_lets s1 r seq
  have hs1 : Keeps s s1 := h.tryClose _
  clear_value s1
  refine .next (h.onFab ?_)
  split
  · exact ((Keeps.foldl_fst (fun _ _ => ((Keeps.refl _).fitWrite _ _ _).pairFst _) _ (hs1.pairFst _)).fitWrite _ _ _).setBril _ _
  · exact hs1

/-! ### The default fit kernel (R205–R208) -/

theorem Keeps.fitPosition (h : Keeps s t) (n : Fin 16) (f : Fib) (ps : List Nat) (acc : Nat) (cnt : Nat) (t' : Nat) :
    Keeps s (t.fitPosition n f ps acc cnt t').2 := by
  unfold State.fitPosition
  extract_lets c w
  have hc : Keeps s c.2 := (h.read32 _ _).at rfl
  clear_value c
  have hw : Keeps s w.2 := (hc.readWords _ _ _).at rfl
  clear_value w
  exact hw.pair _
theorem Keeps.fitSample (h : Keeps s t) (ps : List Nat) (d : List Nat) (r : FitRef) (x : Fitted) : Keeps s (t.fitSample ps d r x).2 := by
  unfold State.fitSample
  split
  · exact h.pair _
  · split
    · exact h.pair _
    · split
      · exact h.freeSample
      · exact h.pair _
theorem Keeps.fitResult (h : Keeps s t) (ps : List Nat) (d : List Nat) (r : FitRef) (x : Option Fitted) : Keeps s (t.fitResult ps d r x).2 := by
  unfold State.fitResult
  split
  · extract_lets a b
    have ha : Keeps s a.2 := (h.pick _ _).at rfl
    clear_value a
    have hb : Keeps s b.2 := ha.draw.at rfl
    clear_value b
    exact hb.pair _
  · extract_lets v b
    have hv : Keeps s v.2 := (h.fitSample _ _ _ _).at rfl
    clear_value v
    have hb : Keeps s b.2 := hv.draw.at rfl
    clear_value b
    split
    · exact hv.pair _
    · exact hb.pair _
theorem Keeps.putParam (h : Keeps s t) (n : Fin 16) (w : Nat) (v : Nat) : Keeps s (t.putParam n w v) := h.writeNarrow _ _ _ _
/-- The body is put in place of the name before the arguments meet it: the kernel would evaluate the reads that its `match`
looks at to compare an unfolded application with the name. -/
theorem Keeps.fitKernel (h : Keeps s t) (n : Fin 16) (f : Fib) (seq : Nat) : Keeps s (t.fitKernel n f seq) := by
  generalize hF : @State.fitKernel = F
  delta State.fitKernel at hF
  subst hF
  beta_reduce
  extract_lets +onlyGivenNames p d
  have hp : Keeps s p.2 := (h.readParams _).at rfl
  clear_value p
  have hd : Keeps s d.2 := (hp.readWords _ _ _).at rfl
  clear_value d
  split
  · extract_lets s1 ps w adr r ref b nu vals
    have hs1 : Keeps s s1 := hd.setKern _ _
    clear_value s1
    have hr : Keeps s r.2 := by
      refine (Keeps.foldl_snd (fun p a => ?_) _ (hs1.pair _)).at rfl
      exact ((Keeps.refl p.2).fitPosition _ _ _ _ _ _).pair _
    clear_value r
    have hb : Keeps s b.2 := by
      refine (Keeps.foldl_snd (fun p a => ?_) _ (hr.pair _)).at rfl
      exact ((Keeps.refl p.2).fitResult _ _ _ _).pair _
    clear_value b
    exact ((hb.writeDram _ _ _).foldl (fun u _ => (Keeps.refl u).putParam _ _ _) _).writeNarrow _ _ _ _
  · exact hp.engTrap _ _ _
  · exact hd.engTrap _ _ _
theorem Keeps.runFit (h : Keeps s t) (f : Fib) : Keeps s (t.runFit f) := Keeps.ite (h.fitKernel _ _ _) h
theorem Keeps.execDoneSeqPoll (h : Keeps s t) (f : Fib) : OutKeeps s (execDoneSeqPoll f t) := by
  unfold Machine.execDoneSeqPoll
  extract_lets s0 r s1
  have hs0 : Keeps s s0 := h.runFit _
  clear_value s0
  have hr : Keeps s r.2 := (hs0.read32 _ _).at rfl
  clear_value r
  have hs1 : Keeps s s1 := hr.setBril _ _
  clear_value s1
  exact .next (h.onFab (Keeps.ite (Keeps.ite ((hs1.setBril _ _).showBril _) hs1) h))
theorem Keeps.execResultAreaRead (h : Keeps s t) (f : Fib) : OutKeeps s (execResultAreaRead f t) := by
  unfold Machine.execResultAreaRead
  refine .next (h.onFab ?_)
  split
  · extract_lets r src stale fr s1 out
    have hr : Keeps s r.2 := (Keeps.foldl_snd (fun p _ => ((Keeps.refl p.2).readDram _ _).pair _) _ (h.pair _)).at rfl
    have hsrc : Keeps s src.2 := (hr.read32 _ _).at rfl
    clear_value src
    have hs1 : Keeps s s1 := ((Keeps.ite (hsrc.raise _ _) hsrc).inc _).setBril _ _
    clear_value s1
    exact hs1.withOut _
  · exact h

/-! ### Opcodes (R213) -/

theorem Keeps.setBrilEn (h : Keeps s t) (f : Fib) (en : Bool) : Keeps s (t.setBrilEn f en) := ((h.setB _ _).setBril _ _).showBril _
theorem Keeps.brilConfig (h : Keeps s t) (ps : List Nat) : CmdRes.Keeps s (brilConfig t ps) := by
  unfold Machine.brilConfig
  extract_lets f t2
  have ht2 : Keeps s t2 := ((((h.set _ _).set _ _).set _ _).set _ _).set _ _
  clear_value t2
  exact .ite (.refuse _ _) (.ite (.refuse _ _) (.done (ht2.set _ _) _ _))
theorem Keeps.execBrilConfig (h : Keeps s t) (c : CmdIn) : OutKeeps s (execBrilConfig c t) := .next (h.runOp ((Keeps.refl t).brilConfig _))
theorem Keeps.brilMemSetup (h : Keeps s t) (ps : List Nat) : CmdRes.Keeps s (brilMemSetup t ps) :=
    .ite (.refuse _ _) (.ite (.done ((((h.set _ _).set _ _).set _ _).set _ _) _ _) (.refuse _ _))
theorem Keeps.execBrilMemSetup (h : Keeps s t) (c : CmdIn) : OutKeeps s (execBrilMemSetup c t) := .next (h.runOp ((Keeps.refl t).brilMemSetup _))
theorem Keeps.brilEnable (h : Keeps s t) (ps : List Nat) : CmdRes.Keeps s (brilEnable t ps) := by
  unfold Machine.brilEnable
  extract_lets f en t2 src c u
  have hu : Keeps s u := ((h.setBrilLoad _ _ _).setRtLoad _ _ _).setBrilEn _ _
  clear_value u
  exact .ite (.done h _ _) (.ite (.done (h.setBrilEn _ _) _ _) (.ite (.refuse _ _) (.ite (.refuse _ _) (.done hu _ _))))
theorem Keeps.execBrilEnable (h : Keeps s t) (c : CmdIn) : OutKeeps s (execBrilEnable c t) := .next (h.runOp ((Keeps.refl t).brilEnable _))
theorem Keeps.brilCoil (h : Keeps s t) (ps : List Nat) : CmdRes.Keeps s (brilCoil t ps) :=
    .ite (.refuse _ _) (.ok ((((h.set _ _).set _ _).set _ _).set _ _))
theorem Keeps.execBrilCoil (h : Keeps s t) (c : CmdIn) : OutKeeps s (execBrilCoil c t) := .next (h.runOp ((Keeps.refl t).brilCoil _))
theorem Keeps.brilDump (h : Keeps s t) (ps : List Nat) : CmdRes.Keeps s (brilDump t ps) := by
  unfold Machine.brilDump
  refine .ite (.ite (.ok ((((h.setBril _ _).setBril _ _).set _ _).set _ _)) (.already h)) (.ite (.refuse _ _) ?_)
  split
  · exact .refuse _ _
  · exact .done (((((h.setBril _ _).setBril _ _).set _ _).set _ _).setBril _ _) _ _
theorem Keeps.execBrilDump (h : Keeps s t) (c : CmdIn) : OutKeeps s (execBrilDump c t) := .next (h.runOp ((Keeps.refl t).brilDump _))
theorem Keeps.brilGetStatus (h : Keeps s t) (ps : List Nat) : CmdRes.Keeps s (brilGetStatus t ps) := .data h _
theorem Keeps.execBrilGetStatus (h : Keeps s t) (c : CmdIn) : OutKeeps s (execBrilGetStatus c t) :=
    .next (h.runOp ((Keeps.refl t).brilGetStatus _))

end Sys2Proof.Machine
end

section
/-! SUPPORT. The functions of Sys2Proof/Machine/Power.lean keep the canonical forms and the queue. -/

namespace Sys2Proof.Machine
variable {s t u : State}
theorem Keeps.setPwr (h : Keeps s t) (g : PwrRun → PwrRun) : Keeps s (t.setPwr g) := h.same rfl rfl rfl rfl rfl

end Sys2Proof.Machine
end

section
/-! SUPPORT. The functions of Sys2Proof/Machine/Hk.lean keep the canonical forms and the queue. -/

namespace Sys2Proof.Machine
variable {s t u : State}
theorem Keeps.setHk (h : Keeps s t) (g : HkRun → HkRun) : Keeps s (t.setHk g) := h.same rfl rfl rfl rfl rfl

/-! ### What runs (R417–R421) -/

theorem Keeps.hkBegin (h : Keeps s t) (a : HkAct) : Keeps s (t.hkBegin a) := ((Keeps.ite (h.set _ _) (h.set _ _)).set _ _).setHk _
theorem Keeps.hkIdle (h : Keeps s t) : Keeps s t.hkIdle := (h.set _ _).setHk _
theorem Keeps.hkNext (h : Keeps s t) (r : Option HkAct) : Keeps s (t.hkNext r) := by
  unfold State.hkNext
  refine Keeps.ite ((h.setHk _).hkBegin _) ?_
  split
  · exact (h.setHk _).hkBegin _
  · exact (h.setHk _).hkIdle
theorem Keeps.hkInterrupt (h : Keeps s t) (a : HkAct) : Keeps s (t.hkInterrupt a) := (h.incBy _ _).hkNext _
theorem Keeps.hkStartPass (h : Keeps s t) : Keeps s t.hkStartPass := by
  unfold State.hkStartPass
  extract_lets s1
  have hs1 : Keeps s s1 := h.set _ _
  clear_value s1
  exact Keeps.ite (hs1.setHk _) (hs1.hkNext _)
theorem Keeps.injTrigger (h : Keeps s t) : Keeps s t.injTrigger := by
  unfold State.injTrigger
  extract_lets s1
  have hs1 : Keeps s s1 := (h.set _ _).setHk _
  clear_value s1
  refine Keeps.ite ((h.inc _).raise _ _) (Keeps.ite (h.set _ _) ?_)
  split
  · exact Keeps.ite (hs1.hkInterrupt _) hs1
  · exact hs1.hkNext _

/-! ### Accumulators and windows (R422–R424) -/

theorem Keeps.accBefore (h : Keeps s t) (a : Fin 72) : Keeps s (t.accBefore a).2 := by
  unfold State.accBefore
  split
  · split
    · exact (((h.set _ _).set _ _).setHk _).pair _
    · exact h.pair _
  · exact h.pair _
theorem Keeps.accClear (h : Keeps s t) (a : Fin 72) : Keeps s (t.accClear a) := by
  unfold State.accClear
  split <;> exact ((h.set _ _).set _ _).setHk _
theorem Keeps.windowExit (h : Keeps s t) (a : Nat) : Keeps s (t.windowExit a) := by
  unfold State.windowExit
  extract_lets s1
  have hs1 : Keeps s s1 := (h.set _ _).raise _ _
  clear_value s1
  exact (Keeps.ite hs1.injTrigger hs1).wakeFire _
theorem Keeps.keep (h : Keeps s t) (a : Fin 72) (x : Int) : Keeps s (t.keep a x) := by
  unfold State.keep
  extract_lets c s2 s1 inside
  have hs2 : Keeps s s2 := (h.set _ _).setHk _
  clear_value s2
  have hs1 : Keeps s s1 := Keeps.ite (Keeps.ite ((hs2.set _ _).raise _ _) hs2) h
  clear_value s1
  exact Keeps.ite (Keeps.ite (Keeps.ite (hs1.set _ _) hs1) (Keeps.ite hs1 (hs1.windowExit _))) hs1

/-! ### Conversions (R415, R417, R418, R425, R427, R428) -/

theorem Keeps.hkVoidCoils (h : Keeps s t) (k' : Nat) : Keeps s (t.hkVoidCoils k') :=
    h.foldl (fun u _ => Keeps.ite ((Keeps.refl u).set _ _) (Keeps.refl u)) _
theorem Keeps.rtdFault (h : Keeps s t) (f : Nat × Bool × Bool) : Keeps s (t.rtdFault f) :=
    (((((h.orBits _ _).raise _ _).set _ _).set _ _).logEvent _ _ _ _).hkVoidCoils _
theorem Keeps.hkPassEnd (h : Keeps s t) (whole : Bool) : Keeps s (t.hkPassEnd whole) := by
  unfold State.hkPassEnd
  extract_lets s1
  have hs1 : Keeps s s1 := (Keeps.ite (h.inc _) h).set _ _
  clear_value s1
  exact Keeps.ite ((hs1.set _ _).hkNext _) (hs1.hkNext _)
theorem Keeps.hkSlotEnd (h : Keeps s t) (a : HkAct) : Keeps s (t.hkSlotEnd a) := by
  unfold State.hkSlotEnd
  extract_lets s1
  have hs1 : Keeps s s1 := (h.foldl (fun u _ => (Keeps.refl u).rtdFault _) _).hkIdle
  clear_value s1
  exact Keeps.ite (Keeps.ite (hs1.hkBegin _) (Keeps.ite ((hs1.set _ _).hkBegin _) ((hs1.set _ _).hkNext _))) (Keeps.ite (Keeps.ite
      (hs1.hkPassEnd _) (hs1.hkNext _)) (hs1.hkPassEnd _))
theorem Keeps.hkConversion (h : Keeps s t) (a : HkAct) (x : HkSample) : Keeps s (t.hkConversion a x) := by
  unfold State.hkConversion
  extract_lets i0 i1 c0 c1 f0 f1 same l0 l1 bad off s1 a1 go v0 v1 s2 even r0 r1 s3 s4 b b2
  have hs1 : Keeps s s1 := (h.incBy _ _).set _ _
  clear_value s1
  have hs2 : Keeps s s2 := Keeps.ite ((hs1.inc _).raise _ _) hs1
  clear_value s2
  have hs3 : Keeps s s3 := by
    unfold s3
    split
    · exact hs2.keep _ _
    · exact hs2
  clear_value s3
  have hs4 : Keeps s s4 := by
    unfold s4
    split
    · exact hs3.keep _ _
    · exact hs3
  clear_value s4
  exact Keeps.ite (Keeps.ite ((hs1.incBy _ _).hkInterrupt _) ((hs1.incBy _ _).setHk _)) (Keeps.ite (Keeps.ite (hs4.hkInterrupt _)
      (hs4.setHk _)) (Keeps.ite (hs4.hkSlotEnd _) (Keeps.ite (hs4.hkInterrupt _) (hs4.setHk _))))
theorem Keeps.execHkConversionComplete (h : Keeps s t) (x : HkSample) : OutKeeps s (execHkConversionComplete x t) := by
  unfold Machine.execHkConversionComplete
  refine .next (h.onDom ?_ _)
  split
  · exact Keeps.ite (h.hkConversion _ _) h
  · exact h
theorem Keeps.execHkSettleExpiry (h : Keeps s t) : OutKeeps s (execHkSettleExpiry t) := by
  unfold Machine.execHkSettleExpiry
  refine .next (h.onDom ?_ _)
  split
  · exact Keeps.ite (h.setHk _) h
  · exact h
theorem Keeps.execPeriodBoundary (h : Keeps s t) : OutKeeps s (execPeriodBoundary t) := by
  unfold Machine.execPeriodBoundary
  extract_lets s1
  have hs1 : Keeps s s1 := h.setHk _
  clear_value s1
  exact .next (h.onDom (Keeps.ite (Keeps.ite hs1.hkStartPass (Keeps.ite ((hs1.inc _).raise _ _) h)) h) _)
theorem Keeps.hkGo (h : Keeps s t) : Keeps s t.hkGo := Keeps.ite h.hkStartPass h
theorem Keeps.execHkStart (h : Keeps s t) : OutKeeps s (execHkStart t) := .next (h.onReg h.hkGo _)
theorem Keeps.setHkMode (h : Keeps s t) (m : Nat) : Keeps s (t.setHkMode m) := by
  unfold State.setHkMode
  extract_lets s1
  have hs1 : Keeps s s1 := h.set _ _
  clear_value s1
  exact Keeps.ite hs1.hkStartPass (Keeps.ite (hs1.setHk _) hs1)
theorem Keeps.execAccClr (h : Keeps s t) (a : Fin 72) : OutKeeps s (execAccClr a t) := .next (h.onReg (h.accClear _) _)
theorem Keeps.accLatch (h : Keeps s t) (a : Fin 72) : Keeps s (t.accLatch a) := (((h.set _ _).set _ _).set _ _).set _ _
theorem Keeps.execAccCntRead (h : Keeps s t) (a : Fin 72) : OutKeeps s (execAccCntRead a t) := .next (h.onReg (h.accLatch _) _)
theorem Keeps.rearm (h : Keeps s t) (k' : Nat) : Keeps s (t.rearm k') := h.set _ _
theorem Keeps.execRtdRearm (h : Keeps s t) (n : Fin 4) : OutKeeps s (execRtdRearm n t) := .next (h.onReg (h.rearm _) _)
theorem Keeps.setRtdEn (h : Keeps s t) (en : Nat) : Keeps s (t.setRtdEn en) := (h.set _ _).set _ _

/-! ### Opcodes (R432) -/

theorem Keeps.hkSlots (h : Keeps s t) (inj : Bool) (n : Nat) (ps : List Nat) : Keeps s (t.hkSlots inj n ps) := by
  unfold State.hkSlots
  extract_lets s1
  have hs1 : Keeps s s1 := h.foldl (fun u _ => Keeps.ite (((Keeps.refl u).set _ _).set _ _) (((Keeps.refl u).set _ _).set _ _)) _
  clear_value s1
  exact Keeps.ite hs1 (Keeps.ite (hs1.set _ _) (hs1.set _ _))
theorem Keeps.hkSeqConfig (h : Keeps s t) (ps : List Nat) : CmdRes.Keeps s (hkSeqConfig t ps) := by
  unfold Machine.hkSeqConfig
  extract_lets inj v n s1 s2 s4 s3
  have hs1 : Keeps s s1 := h.hkSlots _ _ _
  clear_value s1
  have hs2 : Keeps s s2 := (hs1.set _ _).set _ _
  clear_value s2
  have hs4 : Keeps s s4 := ((Keeps.ite hs2 (hs2.set _ _)).set _ _).setHkMode _
  clear_value s4
  have hs3 : Keeps s s3 := Keeps.ite hs2 (Keeps.ite hs4.hkGo hs4)
  clear_value s3
  exact .ite (.refuse _ _) (.ite (.refuse _ _) (.ite (.refuse _ _) (.ite (.refuse _ _) (.done hs3 _ _))))
theorem Keeps.execHkSeqConfig (h : Keeps s t) (c : CmdIn) : OutKeeps s (execHkSeqConfig c t) := .next (h.runOp ((Keeps.refl t).hkSeqConfig _))
theorem Keeps.hkInject (h : Keeps s t) (x : List Nat) : CmdRes.Keeps s (hkInject t x) :=
    .ite (.already h) (.ite (.done h.injTrigger _ _) (.ok h.injTrigger))
theorem Keeps.execHkInject (h : Keeps s t) (c : CmdIn) : OutKeeps s (execHkInject c t) := .next (h.runOp ((Keeps.refl t).hkInject _))
theorem Keeps.hkWindow (h : Keeps s t) (ps : List Nat) : CmdRes.Keeps s (hkWindow t ps) :=
    .ite (.refuse _ _) (.ok ((((h.set _ _).set _ _).set _ _).set _ _))
theorem Keeps.execHkWindow (h : Keeps s t) (c : CmdIn) : OutKeeps s (execHkWindow c t) := .next (h.runOp ((Keeps.refl t).hkWindow _))
theorem Keeps.hkRtdOp (h : Keeps s t) (ps : List Nat) : CmdRes.Keeps s (hkRtdOp t ps) := by
  unfold Machine.hkRtdOp
  extract_lets k en re m s1
  have hs1 : Keeps s s1 := (Keeps.ite (h.rearm _) h).setRtdEn _
  clear_value s1
  exact .ite (.refuse _ _) (.ite (.done h _ _) (.done hs1 _ _))
theorem Keeps.execHkRtd (h : Keeps s t) (c : CmdIn) : OutKeeps s (execHkRtd c t) := .next (h.runOp ((Keeps.refl t).hkRtdOp _))
theorem Keeps.hkReadAcc (h : Keeps s t) (ps : List Nat) : CmdRes.Keeps s (hkReadAcc t ps) :=
    .ite (.refuse _ _) (.done (Keeps.ite (h.foldl (fun u _ => (Keeps.refl u).accClear _) _) h) _ _)
theorem Keeps.execHkReadAcc (h : Keeps s t) (c : CmdIn) : OutKeeps s (execHkReadAcc c t) := .next (h.runOp ((Keeps.refl t).hkReadAcc _))
theorem Keeps.hkGetStatus (h : Keeps s t) (x : List Nat) : CmdRes.Keeps s (hkGetStatus t x) := .data h _
theorem Keeps.execHkGetStatus (h : Keeps s t) (c : CmdIn) : OutKeeps s (execHkGetStatus c t) := .next (h.runOp ((Keeps.refl t).hkGetStatus _))

end Sys2Proof.Machine
end

section
/-! SUPPORT. The functions of Sys2Proof/Machine/Lw.lean keep the canonical forms and the queue. -/

namespace Sys2Proof.Machine
variable {s t u : State}
theorem Keeps.setCap (h : Keeps s t) (g : CapRun → CapRun) : Keeps s (t.setCap g) := h.same rfl rfl rfl rfl rfl

/-! ### The envelope word (R92, R97, R98, R104, R433) -/

theorem Keeps.hear (h : Keeps s t) (f : Fib) (iv : Int) (raw : EnvRaw) : Keeps s (t.hear f iv raw) := h.setRxf _ _
theorem Keeps.countClips (h : Keeps s t) (f : Fib) (raw : EnvRaw) : Keeps s (t.countClips f raw) :=
    h.foldl (fun u _ => Keeps.ite (((Keeps.refl u).incBy _ _).raise _ _) (Keeps.refl u)) _

/-! ### Statistics of a calibration run (R436) -/

theorem Keeps.setCal (h : Keeps s t) (f : Fib) (g : CalRun → CalRun) : Keeps s (t.setCal f g) := h.same rfl rfl rfl rfl rfl
theorem Keeps.calSample (h : Keeps s t) (f : Fib) (n : Int) (raw : Vector (BitVec 12) 6) : Keeps s (t.calSample f n raw) := by
  unfold State.calSample
  extract_lets c more a next
  split <;> exact Keeps.ite h (h.setCal _ _)
theorem Keeps.calGather (h : Keeps s t) (f : Fib) (iv : Int) (raw : EnvRaw) : Keeps s (t.calGather f iv raw) :=
    Keeps.ite (h.foldl (fun u _ => (Keeps.refl u).calSample _ _ _) _) h

/-! ### Envelope positions (R214) -/

theorem Keeps.beginShot (h : Keeps s t) (f : Fib) (x : EnvShot) : Keeps s (t.beginShot f x) := by
  unfold State.beginShot
  extract_lets learns s1
  have hs1 : Keeps s s1 := h.setLw _ _
  clear_value s1
  exact Keeps.ite (hs1.setCap _) hs1
theorem Keeps.endShot (h : Keeps s t) (f : Fib) (last : Int) : Keeps s (t.endShot f last) := by
  unfold State.endShot
  split
  · exact h
  · extract_lets s1 skipped s2
    have hs1 : Keeps s s1 := Keeps.ite h (h.beginShot _ _)
    clear_value s1
    have hs2 : Keeps s s2 := (hs1.incBy _ _).setLw _ _
    clear_value s2
    split
    · exact Keeps.ite (hs2.setCap _) hs2
    · exact hs2
theorem Keeps.placeShots (h : Keeps s t) (f : Fib) (iv : Int) : Keeps s (t.placeShots f iv) := by
  unfold State.placeShots
  extract_lets due s1
  have hs1 : Keeps s s1 := h.foldl (fun u _ => ((Keeps.refl u).endShot _ _).setLw _ _) _
  clear_value s1
  split
  · extract_lets e s2
    have hs2 : Keeps s s2 := Keeps.ite (hs1.beginShot _ _) hs1
    clear_value s2
    exact Keeps.ite (hs2.endShot _ _) hs2
  · exact hs1

/-! ### Tests (R215–R219) -/

theorem Keeps.stepTrig (h : Keeps s t) (f : Fib) (e : Nat) (w : EnvWord) (t' : LwTrig) : Keeps s (t.stepTrig f e w t').2.2 := by
  unfold State.stepTrig
  extract_lets t1 st v r st1
  split
  · split
    · exact (h.inc _).triple _ _
    · exact (h.set _ _).triple _ _
  · exact h.triple _ _
theorem Keeps.stepTrigs (h : Keeps s t) (f : Fib) (e : Nat) (w : EnvWord) : Keeps s (t.stepTrigs f e w).2 := by
  unfold State.stepTrigs
  extract_lets r
  have hr : Keeps s r.2.2 := by
    refine (Keeps.foldl_thd (fun p a => ?_) _ (h.triple _ _)).atThd rfl
    extract_lets q
    have hq : Keeps p.2.2 q.2.2 := ((Keeps.refl _).stepTrig _ _ _ _).atThd rfl
    clear_value q
    exact hq.triple _ _
  clear_value r
  exact (hr.setLw _ _).pair _
theorem Keeps.maskEntry (h : Keeps s t) (f : Nat) (j : Nat) : Keeps s (t.maskEntry f j).2 := by
  unfold State.maskEntry
  extract_lets r v
  have hr : Keeps s r.2 := (h.readWord _ _).at rfl
  clear_value r
  split <;> exact hr.pair _
theorem Keeps.stepMask (h : Keeps s t) (f : Fib) (e : Nat) (w : EnvWord) : Keeps s (t.stepMask f e w).2 := by
  unfold State.stepMask
  extract_lets r v s1 s2
  have hr : Keeps s r.2 := (h.maskEntry _ _).at rfl
  clear_value r
  have hs1 : Keeps s s1 := hr.inc _
  clear_value s1
  have hs2 : Keeps s s2 := Keeps.ite ((hs1.set _ _).raise _ _) hs1
  clear_value s2
  split
  · split
    · exact hs2.pair _
    · exact hr.pair _
  · exact h.pair _
theorem Keeps.stepLearn (h : Keeps s t) (f : Fib) (e : Nat) (w : EnvWord) : Keeps s (t.stepLearn f e w) := Keeps.ite (h.setLw _ _) h
theorem Keeps.stepCap (h : Keeps s t) (f : Fib) (e : Nat) (w : EnvWord) : Keeps s (t.stepCap f e w) := by
  unfold State.stepCap
  split
  · exact Keeps.ite (h.setCap _) h
  · exact h

/-! ### Events and hold-off (R222–R225, R229) -/

theorem Keeps.suppress (h : Keeps s t) (f : Fib) : Keeps s (t.suppress f) := by
  unfold State.suppress
  extract_lets s1 n
  have hs1 : Keeps s s1 := h.inc _
  clear_value s1
  exact Keeps.ite hs1 ((hs1.setLw _ _).setB _ _)
theorem Keeps.startHold (h : Keeps s t) (f : Fib) : Keeps s (t.startHold f) := (h.setB _ _).setLw _ _
theorem Keeps.latchAlarm (h : Keeps s t) (f : Fib) : Keeps s (t.latchAlarm f) := (h.raise _ _).setLw _ _
theorem Keeps.capDone (h : Keeps s t) : Keeps s t.capDone := (h.set _ _).raise _ _
theorem Keeps.freeze (h : Keeps s t) (f : Fib) (evt : Nat) : Keeps s (t.freeze f evt) := by
  unfold State.freeze
  extract_lets first s1 n idx s2
  have hs1 : Keeps s s1 := h.setCap _
  clear_value s1
  have hs2 : Keeps s s2 := (hs1.set _ _).set _ _
  clear_value s2
  exact Keeps.ite h (Keeps.ite (Keeps.ite hs2.capDone hs2) hs1)
theorem Keeps.raiseEvent (h : Keeps s t) (f : Fib) (e : Nat) (x : EnvShot) (ms : List Met) : Keeps s (t.raiseEvent f e x ms) := by
  unfold State.raiseEvent
  extract_lets s1 num cause mask prim ph s2 s3 s4 s5 s6
  have hs1 : Keeps s s1 := (h.inc _).raise _ _
  clear_value s1
  have hs2 : Keeps s s2 := ((((((hs1.set _ _).set _ _).set _ _).set _ _).set _ _).set _ _).set _ _
  clear_value s2
  have hs3 : Keeps s s3 := Keeps.ite (hs2.latchAlarm _) hs2
  clear_value s3
  have hs4 : Keeps s s4 := Keeps.ite (hs3.freeze _ _) hs3
  clear_value s4
  have hs5 : Keeps s s5 := Keeps.ite (Keeps.ite (hs4.setLw _ _) (((hs4.inc _).raise _ _).setLw _ _)) hs4
  clear_value s5
  have hs6 : Keeps s s6 := hs5.startHold _
  clear_value s6
  exact Keeps.ite hs6.injTrigger hs6
theorem Keeps.stepPosition (h : Keeps s t) (f : Fib) (x : EnvShot) (e : Nat) (w : EnvWord) : Keeps s (t.stepPosition f x e w) := by
  unfold State.stepPosition
  extract_lets t2 m s1 ms
  have ht2 : Keeps s t2.2 := by
    unfold t2
    split
    · exact h.stepTrigs _ _ _
    · exact h.pair _
  clear_value t2
  have hm : Keeps s m.2 := (ht2.stepMask _ _ _).at rfl
  clear_value m
  have hs1 : Keeps s s1 := (hm.stepLearn _ _ _).stepCap _ _ _
  clear_value s1
  exact Keeps.ite hs1 (Keeps.ite (hs1.suppress _) (hs1.raiseEvent _ _ _ _))
theorem Keeps.watch (h : Keeps s t) (f : Fib) (iv : Int) (w : EnvWord) : Keeps s (t.watch f iv w) := by
  unfold State.watch
  extract_lets t2
  have ht2 : Keeps s t2 := h.placeShots _ _
  clear_value t2
  split
  · exact ht2.stepPosition _ _ _ _
  · exact ht2
theorem Keeps.takeSamples (h : Keeps s t) (f : Fib) (iv : Int) (raw : EnvRaw) : Keeps s (t.takeSamples f iv raw) := by
  unfold State.takeSamples
  exact ((((h.countClips _ _).calGather _ _ _).hear _ _ _).brilTake _ _ _).setLw _ _
theorem Keeps.execEnvelopeWord (h : Keeps s t) (f : Fib) (raw : EnvRaw) : OutKeeps s (execEnvelopeWord f raw t) := by
  unfold Machine.execEnvelopeWord
  extract_lets iv s1 w s2
  have hs1 : Keeps s s1 := h.syncStair _
  clear_value s1
  have hs2 : Keeps s s2 := hs1.takeSamples _ _ _
  clear_value s2
  exact .next (h.onFab (Keeps.ite (Keeps.ite (hs2.watch _ _ _) hs2) h))
theorem Keeps.execHoldoffExpiry (h : Keeps s t) (f : Fib) : OutKeeps s (execHoldoffExpiry f t) := by
  unfold Machine.execHoldoffExpiry
  refine .next (h.onFab ?_)
  split
  · exact Keeps.ite ((h.set _ _).setLw _ _) h
  · exact h
theorem Keeps.execEventFifoTransfer (h : Keeps s t) (f : Fib) : OutKeeps s (execEventFifoTransfer f t) := by
  unfold Machine.execEventFifoTransfer
  refine .next (h.onFab ?_)
  split
  · exact Keeps.ite ((h.enterAlarm _ _ _ _ _).setLw _ _) h
  · exact h
theorem Keeps.execAlarmPulseExpiry (h : Keeps s t) (f : Fib) : OutKeeps s (execAlarmPulseExpiry f t) := .next (h.onFab (Keeps.ite (h.set _ _) h))

/-! ### Mask memory (R218, R220, R221) -/

theorem Keeps.maskPartner (h : Keeps s t) (f : Nat) (j : Nat) : Keeps s (t.maskPartner f j).2 := by
  unfold State.maskPartner
  extract_lets r
  have hr : Keeps s r.2 := (h.readWord _ _).at rfl
  clear_value r
  exact hr.pair _
theorem Keeps.maskPut (h : Keeps s t) (f first : Nat) (ws : List Nat) : Keeps s (t.maskPut f first ws) := by
  unfold State.maskPut
  refine Keeps.ite h (h.foldl (fun u i => ?_) _)
  have he : ∀ (v : State) (j : Nat), Keeps v
      (if first ≤ j ∧ j < first + ws.length then (ws.getD (j - first) 0, v) else v.maskPartner f j).2 := by
    intro v j
    split
    · exact Keeps.refl v
    · exact (Keeps.refl v).maskPartner _ _
  exact Keeps.writeWord ((he u _).trans (he _ _)) _ _
theorem Keeps.execMaskFillComplete (h : Keeps s t) (f : Fib) : OutKeeps s (execMaskFillComplete f t) := by
  unfold Machine.execMaskFillComplete
  refine .next (h.onFab ?_)
  split
  · exact Keeps.ite (((((h.fillWords _ _ _).set _ _).setLw _ _).answer _ _ _ _ _ _).retire _ _ _) h
  · exact h
theorem Keeps.execMaskLearnComplete (h : Keeps s t) (f : Fib) : OutKeeps s (execMaskLearnComplete f t) := by
  unfold Machine.execMaskLearnComplete
  refine .next (h.onFab ?_)
  split
  · exact Keeps.ite ((((h.maskPut _ _ _).set _ _).set _ _).setLw _ _) h
  · exact h

/-! ### Trace capture (R227–R229) -/

theorem Keeps.execCaptureRecord (h : Keeps s t) : OutKeeps s (execCaptureRecord t) := by
  unfold Machine.execCaptureRecord
  refine .next (h.onFab ?_)
  split
  · extract_lets s1 ended
    have hs1 : Keeps s s1 := ((h.writeRange _ _).inc _).setCap _
    clear_value s1
    exact Keeps.ite hs1.capDone hs1
  · exact h
theorem Keeps.startCapture (h : Keeps s t) : Keeps s t.startCapture := (((((h.set _ _).set _ _).set _ _).set _ _).set _ _).setCap _
theorem Keeps.stopCapture (h : Keeps s t) : Keeps s t.stopCapture := (((h.set _ _).set _ _).set _ _).setCap _

/-! ### Opcodes (R231) -/

theorem Keeps.setLwEn (h : Keeps s t) (f : Fib) (en : Bool) : Keeps s (t.setLwEn f en) := by
  unfold State.setLwEn
  extract_lets s1
  have hs1 : Keeps s s1 := (h.setB _ _).set _ _
  clear_value s1
  exact Keeps.ite h ((Keeps.ite hs1 (hs1.abortLearn _)).setLw _ _)
theorem Keeps.lwEnable (h : Keeps s t) (ps : List Nat) : CmdRes.Keeps s (lwEnable t ps) := .ite (.already h) (.ok (h.setLwEn _ _))
theorem Keeps.execLwEnable (h : Keeps s t) (c : CmdIn) : OutKeeps s (execLwEnable c t) := .next (h.runOp ((Keeps.refl t).lwEnable _))
theorem Keeps.armTrig (h : Keeps s t) (f : Nat) (n : Nat) : Keeps s (t.armTrig f n) := h.set _ _
theorem Keeps.setTrigCtrl (h : Keeps s t) (f : Nat) (n : Nat) (v : Nat) : Keeps s (t.setTrigCtrl f n v) :=
    (((((h.set _ _).set _ _).set _ _).set _ _).set _ _).set _ _
theorem Keeps.lwTrigger (h : Keeps s t) (ps : List Nat) : CmdRes.Keeps s (lwTrigger t ps) :=
    .ite (.refuse _ _) (.ok (((((h.setTrigCtrl _ _ _).set _ _).set _ _).set _ _).armTrig _ _))
theorem Keeps.execLwTrigger (h : Keeps s t) (c : CmdIn) : OutKeeps s (execLwTrigger c t) := .next (h.runOp ((Keeps.refl t).lwTrigger _))
theorem Keeps.lwHoldoff (h : Keeps s t) (ps : List Nat) : CmdRes.Keeps s (lwHoldoff t ps) := .ok ((h.set _ _).set _ _)
theorem Keeps.execLwHoldoff (h : Keeps s t) (c : CmdIn) : OutKeeps s (execLwHoldoff c t) := .next (h.runOp ((Keeps.refl t).lwHoldoff _))
theorem Keeps.setMaskCtrl (h : Keeps s t) (f : Nat) (v : Nat) : Keeps s (t.setMaskCtrl f v) := by
  unfold State.setMaskCtrl
  extract_lets s1 en s2 s3
  have hs1 : Keeps s s1 := Keeps.ite (h.set _ _) h
  clear_value s1
  have hs2 : Keeps s s2 := ((((((hs1.set _ _).set _ _).set _ _).set _ _).set _ _).set _ _).set _ _
  clear_value s2
  have hs3 : Keeps s s3 := hs2.setB _ _
  clear_value s3
  exact Keeps.ite (hs3.set _ _) hs3
theorem Keeps.lwMaskConfig (h : Keeps s t) (ps : List Nat) : CmdRes.Keeps s (lwMaskConfig t ps) :=
    .ite (.refuse _ _) (.ite (.refuse _ _) (.ite (.refuse _ _) (.ok (h.setMaskCtrl _ _))))
theorem Keeps.execLwMaskConfig (h : Keeps s t) (c : CmdIn) : OutKeeps s (execLwMaskConfig c t) := .next (h.runOp ((Keeps.refl t).lwMaskConfig _))
theorem Keeps.lwMaskWrite (h : Keeps s t) (ps : List Nat) : CmdRes.Keeps s (lwMaskWrite t ps) :=
    .ite (.refuse _ _) (.ite (.refuse _ _) (.ok (h.maskPut _ _ _)))
theorem Keeps.execLwMaskWrite (h : Keeps s t) (c : CmdIn) : OutKeeps s (execLwMaskWrite c t) := .next (h.runOp ((Keeps.refl t).lwMaskWrite _))
theorem Keeps.lwMaskFill (h : Keeps s t) (ps : List Nat) : CmdRes.Keeps s (lwMaskFill t ps) := .ite (.refuse _ _) (.ok h)
theorem Keeps.execLwMaskFill (h : Keeps s t) (c : CmdIn) : OutKeeps s (execLwMaskFill c t) := by
  unfold Machine.execLwMaskFill
  extract_lets ps p src src2
  have hsrc : Keeps s src := h.setLw _ _
  clear_value src
  exact .next (Keeps.ite (hsrc.same rfl rfl rfl rfl rfl) (h.runOp ((Keeps.refl t).lwMaskFill _)))
theorem Keeps.lwMaskLearn (h : Keeps s t) (ps : List Nat) : CmdRes.Keeps s (lwMaskLearn t ps) :=
    .ite (.refuse _ _) (.ite (.refuse _ _) (.ite (.refuse _ _) (.ok ((((h.set _ _).set _ _).set _ _).setLw _ _))))
theorem Keeps.execLwMaskLearn (h : Keeps s t) (c : CmdIn) : OutKeeps s (execLwMaskLearn c t) := .next (h.runOp ((Keeps.refl t).lwMaskLearn _))
theorem Keeps.lwAlarm (h : Keeps s t) (ps : List Nat) : CmdRes.Keeps s (lwAlarm t ps) := by
  unfold Machine.lwAlarm
  extract_lets v s1 s2 s3
  have hs1 : Keeps s s1 := ((h.set _ _).set _ _).set _ _
  clear_value s1
  have hs2 : Keeps s s2 := Keeps.ite (hs1.clearBits _ _) hs1
  clear_value s2
  have hs3 : Keeps s s3 := Keeps.ite (hs2.clearBits _ _) hs2
  clear_value s3
  exact .ite (.refuse _ _) (.done hs3 _ _)
theorem Keeps.execLwAlarm (h : Keeps s t) (c : CmdIn) : OutKeeps s (execLwAlarm c t) := .next (h.runOp ((Keeps.refl t).lwAlarm _))
theorem Keeps.lwCapture (h : Keeps s t) (ps : List Nat) : CmdRes.Keeps s (lwCapture t ps) := by
  unfold Machine.lwCapture
  refine .ite (.ite (.ok h.stopCapture) (.already h)) ?_
  split
  · exact .refuse _ _
  · exact .ite (.ite (.already h) (.refuse _ _)) (.ite (.refuse _ _) (.ok ((((((((((h.set _ _).set _ _).set _ _).set _ _).set _ _).set _ _).set
        _ _).set _ _).set _ _).startCapture)))
theorem Keeps.execLwCapture (h : Keeps s t) (c : CmdIn) : OutKeeps s (execLwCapture c t) := .next (h.runOp ((Keeps.refl t).lwCapture _))
theorem Keeps.lwLastEvent (h : Keeps s t) (ps : List Nat) : CmdRes.Keeps s (lwLastEvent t ps) := .data h _
theorem Keeps.execLwLastEvent (h : Keeps s t) (c : CmdIn) : OutKeeps s (execLwLastEvent c t) := .next (h.runOp ((Keeps.refl t).lwLastEvent _))
theorem Keeps.lwGetStatus (h : Keeps s t) (ps : List Nat) : CmdRes.Keeps s (lwGetStatus t ps) := .data h _
theorem Keeps.execLwGetStatus (h : Keeps s t) (c : CmdIn) : OutKeeps s (execLwGetStatus c t) := .next (h.runOp ((Keeps.refl t).lwGetStatus _))

end Sys2Proof.Machine
end

section
/-! SUPPORT. The functions of Sys2Proof/Machine/Out.lean keep the canonical forms and the queue. -/

namespace Sys2Proof.Machine
variable {s t u : State}
theorem Keeps.setOut (h : Keeps s t) (g : OutRun → OutRun) : Keeps s (t.setOut g) := h.same rfl rfl rfl rfl rfl

/-! ### Streams and their memory (R232, R233, R248, R249) -/

theorem Keeps.setHist (h : Keeps s t) (c : Nat) (h' : HistInfo) : Keeps s (t.setHist c h') := h.setOut _
theorem Keeps.readMany (h : Keeps s t) (m : Master) (a : Nat) (n : Nat) (bad : Nat → List Byte) : Keeps s (t.readMany m a n bad).2 := by
  unfold State.readMany
  refine Keeps.foldl_snd (fun p a => ?_) _ (h.pair _)
  extract_lets r
  have hr : Keeps p.2 r.2 := ((Keeps.refl _).readMem _ _).at rfl
  clear_value r
  exact hr.pair _

/-! ### Hand-over, encoding, drops (R250, R251) -/

theorem Keeps.execFrameHandover (h : Keeps s t) : OutKeeps s (execFrameHandover t) := by
  unfold Machine.execFrameHandover
  refine .next (h.onFab ?_)
  split
  · extract_lets s1 c
    have hs1 : Keeps s s1 := h.setOut _
    clear_value s1
    refine Keeps.ite hs1 ?_
    split
    · exact (hs1.writeDram _ _ _).setOut _
    · exact ((hs1.inc _).raise _ _).setOut _
  · exact h
theorem Keeps.reserve (h : Keeps s t) (n : Nat) : Keeps s (t.reserve n) := h.set _ _
theorem Keeps.pushS (h : Keeps s t) (bs : List Byte) : Keeps s (t.pushS bs) := ((h.writeRange _ _).writeRange _ _).setOut _
theorem Keeps.readHeld (h : Keeps s t) (h' : HeldFrame) : Keeps s (t.readHeld h').2 := by
  unfold State.readHeld
  extract_lets r
  have hr : Keeps s r.2 := (h.readMany _ _ _ _).at rfl
  clear_value r
  exact hr.pair _
theorem Keeps.writeHead (h : Keeps s t) (e : Enc) : Keeps s (t.writeHead e) := Keeps.ite h (((h.reserve _).pushS _).setOut _)
theorem Keeps.execFrameEncode (h : Keeps s t) : OutKeeps s (execFrameEncode t) := by
  unfold Machine.execFrameEncode
  refine .next (h.onFab ?_)
  split
  · extract_lets r src e
    have hr : Keeps s r.2 := (h.readHeld _).at rfl
    clear_value r
    exact (hr.setOut _).writeHead _
  · exact Keeps.ite h (h.writeHead _)
  · exact h
theorem Keeps.readHist (h : Keeps s t) (c : Nat) (n : Nat) (npos : Nat) : Keeps s (t.readHist c n npos).2 := by
  unfold State.readHist
  refine Keeps.foldl_snd (fun p a => ?_) _ (h.pair _)
  extract_lets r
  have hr : Keeps p.2 r.2 := ((Keeps.refl _).readWord _ _).at rfl
  clear_value r
  split
  · exact hr.pair _
  · exact (Keeps.refl _).pair _
theorem Keeps.execBlockEncode (h : Keeps s t) : OutKeeps s (execBlockEncode t) := by
  unfold Machine.execBlockEncode
  refine .next (h.onFab ?_)
  split
  · extract_lets c npos xs ys x r rec_ data last n s1 s2
    have hx : Keeps s x.2 := by
      unfold x
      split
      · exact h.pair _
      · exact h.readHist _ _ _
    clear_value x
    have hs1 : Keeps s s1 := (hx.reserve _).writeRange _ _
    clear_value s1
    have hs2 : Keeps s s2 := Keeps.ite (hs1.pushS _) hs1
    clear_value s2
    exact Keeps.ite h (hs2.setOut _)
  · exact h
theorem Keeps.execFrameTail (h : Keeps s t) : OutKeeps s (execFrameTail t) := by
  unfold Machine.execFrameTail
  refine .next (h.onFab ?_)
  split
  · exact Keeps.ite h ((((h.reserve _).pushS _).setHist _ _).setOut _)
  · exact h
theorem Keeps.sendMarker (h : Keeps s t) (c : Nat) : Keeps s (t.sendMarker c) := by
  unfold State.sendMarker
  split
  · exact h.setOut _
  · exact h
theorem Keeps.execDropMarkerSend (h : Keeps s t) (sid : StreamId) : OutKeeps s (execDropMarkerSend sid t) :=
    .next (h.onFab (Keeps.ite (h.sendMarker _) h))

/-! ### User records (R254, R512) -/

theorem Keeps.setUserEn (h : Keeps s t) (i : Fin 2) (en : Bool) : Keeps s (t.setUserEn i en) := by
  unfold State.setUserEn
  extract_lets s1
  have hs1 : Keeps s s1 := h.setB _ _
  clear_value s1
  exact Keeps.ite ((hs1.set _ _).setOut _) hs1
theorem Keeps.serveUser (h : Keeps s t) (i : Fin 2) (seq : Nat) : Keeps s (t.serveUser i seq) := (h.setOut _).writeNarrow _ _ _ _
theorem Keeps.readReported (h : Keeps s t) (m : Master) (a : Nat) (n : Nat) : Keeps s (t.readReported m a n).2 := by
  unfold State.readReported
  refine Keeps.foldl_snd (fun p a => ?_) _ (h.pair _)
  extract_lets r
  have hr : Keeps p.2 r.2 := ((Keeps.refl _).readWord _ _).at rfl
  clear_value r
  split
  · exact (hr.integrity _ _ _ _).pair _
  · exact hr.pair _
theorem Keeps.readTx (h : Keeps s t) (p : Payload) : Keeps s (t.readTx p).2 := by
  unfold State.readTx
  split
  · extract_lets n a b
    have ha : Keeps s a.2 := (h.readReported _ _ _).at rfl
    clear_value a
    have hb : Keeps s b.2 := (ha.readReported _ _ _).at rfl
    clear_value b
    exact hb.pair _
  · exact h.pair _
theorem Keeps.execUserAreaPoll (h : Keeps s t) (de15 : Bool) : OutKeeps s (execUserAreaPoll de15 t) := by
  unfold Machine.execUserAreaPoll
  extract_lets i s0 r seq q len d
  have hs0 : Keeps s s0 := h.setOut _
  clear_value s0
  have hr : Keeps s r.2 := (hs0.readWord _ _).at rfl
  clear_value r
  have hq : Keeps s q.2 := (hr.readWord _ _).at rfl
  clear_value q
  have hd : Keeps s d.2 := (hq.readReported _ _ _).at rfl
  clear_value d
  exact .next (h.onFab (Keeps.ite (Keeps.ite (((hr.set _ _).raise _ _).integrity _ _ _ _) (Keeps.ite hr (Keeps.ite
      (((hq.raise _ _).serveUser _ _).integrity _ _ _ _) (Keeps.ite ((hq.raise _ _).serveUser _ _)
      (((hd.writeRange _ _).serveUser _ _).postBulk _))))) h))

/-! ### Opcodes (R256) -/

theorem Keeps.setStreamEn (h : Keeps s t) (c : Nat) (en : Bool) : Keeps s (t.setStreamEn c en) := by
  unfold State.setStreamEn
  extract_lets m b s1
  have hs1 : Keeps s s1 := h.set _ _
  clear_value s1
  exact Keeps.ite (hs1.setOut _) hs1
theorem Keeps.outStream (h : Keeps s t) (ps : List Nat) : CmdRes.Keeps s (outStream t ps) :=
    .ite (.refuse _ _) (.ite (.refuse _ _) (.ite (.already h) (.ok (h.setStreamEn _ _))))
theorem Keeps.execOutStream (h : Keeps s t) (c : CmdIn) : OutKeeps s (execOutStream c t) := .next (h.runOp ((Keeps.refl t).outStream _))
theorem Keeps.setCmpCfg (h : Keeps s t) (f : Nat) (v : Nat) : Keeps s (t.setCmpCfg f v) :=
    Keeps.ite ((((h.set _ _).set _ _).set _ _).set _ _) ((((h.set _ _).set _ _).set _ _).set _ _)
theorem Keeps.outCmp (h : Keeps s t) (ps : List Nat) : CmdRes.Keeps s (outCmp t ps) := .ok (h.setCmpCfg _ _)
theorem Keeps.execOutCmp (h : Keeps s t) (c : CmdIn) : OutKeeps s (execOutCmp c t) := .next (h.runOp ((Keeps.refl t).outCmp _))
theorem Keeps.setHoldBase (h : Keeps s t) (lo : Nat) (hi : Nat) : Keeps s (t.setHoldBase lo hi) := ((h.set _ _).set _ _).setB _ _
theorem Keeps.outMemSetup (h : Keeps s t) (ps : List Nat) : CmdRes.Keeps s (outMemSetup t ps) :=
    .ite (.refuse _ _) (.ite (.refuse _ _) (.done (h.setHoldBase _ _) _ _))
theorem Keeps.execOutMemSetup (h : Keeps s t) (c : CmdIn) : OutKeeps s (execOutMemSetup c t) := .next (h.runOp ((Keeps.refl t).outMemSetup _))
theorem Keeps.outCmpSave (h : Keeps s t) (ps : List Nat) : CmdRes.Keeps s (outCmpSave t ps) := by
  unfold Machine.outCmpSave
  refine .ite (.refuse _ _) (.ite (.refuse _ _) ?_)
  split
  · extract_lets r a img
    have hr : Keeps s r.2 := (h.readMany _ _ _ _).at rfl
    clear_value r
    exact .ite (.refuse _ _) (.ite (.refuse _ _) (.ite (.done hr _ _) (.done (hr.writeDram _ _ _) _ _)))
  · exact .refuse _ _
theorem Keeps.execOutCmpSave (h : Keeps s t) (c : CmdIn) : OutKeeps s (execOutCmpSave c t) := .next (h.runOp ((Keeps.refl t).outCmpSave _))
theorem Keeps.outCmpRestore (h : Keeps s t) (ps : List Nat) : CmdRes.Keeps s (outCmpRestore t ps) := by
  unfold Machine.outCmpRestore
  extract_lets c a r w npos d xs crc v x
  have hr : Keeps s r.2 := (h.readMany _ _ _ _).at rfl
  clear_value r
  have hd : Keeps s d.2 := (hr.readMany _ _ _ _).at rfl
  clear_value d
  exact .ite (.refuse _ _) (.ite (.refuse _ _) (.ite (.refuse _ _) (.ite (.done hr _ _) (.ite (.done hr _ _) (.ite (.done hd _ _) (.ite
      (.done hd _ _) (.done (((hd.writeRange _ _).setHist _ _).setOut _) _ _)))))))
theorem Keeps.execOutCmpRestore (h : Keeps s t) (c : CmdIn) : OutKeeps s (execOutCmpRestore c t) :=
    .next (h.runOp ((Keeps.refl t).outCmpRestore _))
theorem Keeps.outSnapRead (h : Keeps s t) (tag : Nat) (ps : List Nat) : CmdRes.Keeps s (outSnapRead tag t ps) := by
  unfold Machine.outSnapRead
  extract_lets o n r
  have hr : Keeps s r.2 := (h.readReported _ _ _).at rfl
  clear_value r
  exact .ite (.refuse _ _) (.ite (.refuse _ _) (.ite (.refuse _ _) (.done ((hr.set _ _).postBulk _) _ _)))
theorem Keeps.execOutSnapRead (h : Keeps s t) (c : CmdIn) : OutKeeps s (execOutSnapRead c t) := .next (h.runOp ((Keeps.refl t).outSnapRead _ _))
theorem Keeps.outUser (h : Keeps s t) (ps : List Nat) : CmdRes.Keeps s (outUser t ps) := .ok ((h.setUserEn _ _).setUserEn _ _)
theorem Keeps.execOutUser (h : Keeps s t) (c : CmdIn) : OutKeeps s (execOutUser c t) := .next (h.runOp ((Keeps.refl t).outUser _))
theorem Keeps.outGetStatus (h : Keeps s t) (x : List Nat) : CmdRes.Keeps s (outGetStatus t x) := .data h _
theorem Keeps.execOutGetStatus (h : Keeps s t) (c : CmdIn) : OutKeeps s (execOutGetStatus c t) := .next (h.runOp ((Keeps.refl t).outGetStatus _))

end Sys2Proof.Machine
end

section
/-! SUPPORT. The functions of Sys2Proof/Machine/Intake.lean keep the canonical forms and the queue. -/

namespace Sys2Proof.Machine
variable {s t u : State}
theorem Keeps.setCmd (h : Keeps s t) (g : CmdRun → CmdRun) : Keeps s (t.setCmd g) := h.same rfl rfl rfl rfl rfl

/-! ### Intake (R315, R323, R324, R326) -/

theorem Keeps.hwReply (h : Keeps s t) (src : CmdSrc) (b : List Byte) (st : Nat) : Keeps s (t.hwReply src b st) := h.answer _ _ _ _ _ _
theorem Keeps.takePacket (h : Keeps s t) (src : CmdSrc) (b : List Byte) : Keeps s (t.takePacket src b) := by
  unfold State.takePacket
  refine Keeps.ite (h.hwReply _ _ _) (Keeps.ite (((h.inc _).raise _ _).hwReply _ _ _) (Keeps.ite (h.hwReply _ _ _) (Keeps.ite
      (((h.inc _).raise _ _).hwReply _ _ _) (Keeps.setCmd ?_ _))))
  split <;> exact h.inc _
theorem Keeps.intake (h : Keeps s t) (src : CmdSrc) (b : List Byte) : Keeps s (t.intake src b) := by
  unfold State.intake
  split
  · exact Keeps.ite (h.takePacket _ _) (h.setCmd _)
  · exact h.takePacket _ _
theorem Keeps.execCommandPacketReceive (h : Keeps s t) (src : CmdSrc) (bytes : List (BitVec 8)) :
    OutKeeps s (execCommandPacketReceive src bytes t) :=
    .next (Keeps.ite (h.intake _ _) h)

/-! ### The queue (R323–R326) -/

theorem Keeps.answerPkt (h : Keeps s t) (p : CmdPkt) (st : Nat) : Keeps s (t.answerPkt p st) := h.answer _ _ _ _ _ _
theorem Keeps.armReset (h : Keeps s t) : Keeps s t.armReset := (h.pick _ _).setCmd _
theorem Keeps.execCommandDequeue (h : Keeps s t) : OutKeeps s (execCommandDequeue t) := by
  unfold Machine.execCommandDequeue
  refine .next (Keeps.ite h ?_)
  split
  · extract_lets s1 op
    have hs1 : Keeps s s1 := h.setCmd _
    clear_value s1
    exact Keeps.ite h (Keeps.ite ((hs1.answerPkt _ _).armReset) (Keeps.ite (hs1.answerPkt _ _) (Keeps.ite (hs1.answerPkt _ _) (hs1.setCmd _))))
  · exact h

/-! ### The SPI target port (R332–R338) -/

theorem Keeps.portOut (h : Keeps s t) (b : List Byte) : Keeps s (t.portOut b) := h.setCmd _
theorem Keeps.execSpiPoll (h : Keeps s t) : OutKeeps s (execSpiPoll t) := .next (Keeps.ite (h.portOut _) h)
theorem Keeps.execCmdWrite (h : Keeps s t) (bytes : List (BitVec 8)) : OutKeeps s (execCmdWrite bytes t) := by
  unfold Machine.execCmdWrite
  extract_lets s1
  have hs1 : Keeps s s1 := h.portOut _
  clear_value s1
  exact .next (Keeps.ite (Keeps.ite ((hs1.inc _).raise _ _) (hs1.intake _ _)) h)
theorem Keeps.placeReplies (h : Keeps s t) (n : Nat) : Keeps s (t.placeReplies n) := by
  induction n generalizing t with
  | zero => exact h
  | succ n ih =>
    unfold State.placeReplies
    split
    · exact Keeps.ite (ih (h.setCmd _)) h
    · exact ih ((h.setCmd _).takePacket _ _)
    · exact h
theorem Keeps.execRplyRead (h : Keeps s t) (bytes : Nat) : OutKeeps s (execRplyRead bytes t) := by
  unfold Machine.execRplyRead
  refine .next (Keeps.ite ?_ h)
  split
  · extract_lets s1
    have hs1 : Keeps s s1 := h.portOut _
    clear_value s1
    exact Keeps.ite ((hs1.setCmd _).placeReplies _) hs1
  · exact h.portOut _
theorem Keeps.execSpiBadOp (h : Keeps s t) (op : BitVec 8) : OutKeeps s (execSpiBadOp op t) := .next (Keeps.ite ((h.portOut _).raise _ _) h)

/-! ### General opcodes without an access (R329, R326) -/

theorem Keeps.nopCmd (h : Keeps s t) (x : List Nat) : CmdRes.Keeps s (nopCmd t x) := .ok h
theorem Keeps.execNopCommand (h : Keeps s t) (c : CmdIn) : OutKeeps s (execNopCommand c t) := .next (h.runOp ((Keeps.refl t).nopCmd _))
theorem Keeps.identBody (h : Keeps s t) (x : List Nat) : CmdRes.Keeps s (identBody t x) := .data h _
theorem Keeps.execIdentCmd (h : Keeps s t) (c : CmdIn) : OutKeeps s (execIdentCmd c t) := .next (h.runOp ((Keeps.refl t).identBody _))
theorem Keeps.statusBody (h : Keeps s t) (x : List Nat) : CmdRes.Keeps s (statusBody t x) := .data h _
theorem Keeps.execStatusCmd (h : Keeps s t) (c : CmdIn) : OutKeeps s (execStatusCmd c t) := .next (h.runOp ((Keeps.refl t).statusBody _))
theorem Keeps.resetBody (h : Keeps s t) (ps : List Nat) : CmdRes.Keeps s (resetBody t ps) := .ite (.refuse _ _) (.ok ((h.setCmd _).armReset))
theorem Keeps.execResetCmd (h : Keeps s t) (c : CmdIn) : OutKeeps s (execResetCmd c t) := .next (h.runOp ((Keeps.refl t).resetBody _))
theorem Keeps.factoryBody (_ : Keeps s t) (x : List Nat) : CmdRes.Keeps s (factoryBody t x) := CmdRes.Keeps.refuse _ _
theorem Keeps.execFactoryTest (h : Keeps s t) (op : Fin 16) (c : CmdIn) : OutKeeps s (execFactoryTest op c t) :=
    .next (h.runOp ((Keeps.refl t).factoryBody _))

end Sys2Proof.Machine
end

section
/-! SUPPORT. The functions of Sys2Proof/Machine/Lane.lean keep the canonical forms and the queue. -/

namespace Sys2Proof.Machine
variable {s t u : State}
theorem Keeps.setLane (h : Keeps s t) (n : Fin 8) (g : LaneRun → LaneRun) : Keeps s (t.setLane n g) := h.same rfl rfl rfl rfl rfl
theorem Keeps.setGrp (h : Keeps s t) (n : Fin 8) (g : GroupRun → GroupRun) : Keeps s (t.setGrp n g) := h.same rfl rfl rfl rfl rfl
theorem Keeps.setLink (h : Keeps s t) (g : LinkRun → LinkRun) : Keeps s (t.setLink g) := h.same rfl rfl rfl rfl rfl

/-! ### Lane states, rates and clocks (R257, R267, R513) -/

theorem Keeps.setLaneState (h : Keeps s t) (n : Fin 8) (v : Nat) : Keeps s (t.setLaneState n v) := (Keeps.ite ((h.set _ _).raise _ _) h).set _ _

/-! ### Scrambling (R261) -/

theorem Keeps.sendBlk (h : Keeps s t) (n : Fin 8) (sh : Nat) (d : Nat) : Keeps s (t.sendBlk n sh d) := h.setLane _ _

/-! ### Blocks (R265, R266, R290, R291) -/

theorem Keeps.sendPattern (h : Keeps s t) (n : Fin 8) (rdy : Bool) (exit_ : Bool) : Keeps s (t.sendPattern n rdy exit_) :=
    (h.sendBlk _ _ _).setLane _ _

/-! ### Groups (R285, R287, R293, R305) -/

theorem Keeps.syncHost (h : Keeps s t) : Keeps s t.syncHost := (h.setB _ _).discardAlarms
theorem Keeps.routeChanged (h : Keeps s t) : Keeps s t.routeChanged := Keeps.ite (h.setLink _) h
theorem Keeps.setMask (h : Keeps s t) (g : Fin 8) (mask : Nat) : Keeps s (t.setMask g mask) := by
  unfold State.setMask
  extract_lets st moved s1 s2 s3
  have hs1 : Keeps s s1 := ((h.set _ _).set _ _).set _ _
  clear_value s1
  have hs2 : Keeps s s2 := Keeps.ite (hs1.setLink _) hs1
  clear_value s2
  have hs3 : Keeps s s3 := Keeps.ite ((hs2.set _ _).routeChanged) hs2
  clear_value s3
  exact hs3.syncHost
theorem Keeps.stripeBlk (h : Keeps s t) (g : Fin 8) (sh : Nat) (d : Nat) : Keeps s (t.stripeBlk g sh d) := (h.sendBlk _ _ _).setGrp _ _
theorem Keeps.sendAm (h : Keeps s t) (g : Fin 8) (restripe : Bool) : Keeps s (t.sendAm g restripe) := by
  unfold State.sendAm
  extract_lets q b s1 s2
  have hs1 : Keeps s s1 := h.foldl (fun u _ => (Keeps.refl u).sendBlk _ _ _) _
  clear_value s1
  have hs2 : Keeps s s2 := hs1.setGrp _ _
  clear_value s2
  exact Keeps.ite (hs2.inc _) hs2
theorem Keeps.startStream (h : Keeps s t) (g : Fin 8) (n : Fin 8) : Keeps s (t.startStream g n) := ((h.setMask _ _).setGrp _ _).sendAm _ _
theorem Keeps.freeCredit (h : Keeps s t) (g : Nat) (cls : Nat) (len : Nat) : Keeps s (t.freeCredit g cls len) := Keeps.ite (h.setGrp _ _) h
theorem Keeps.emptyGroup (h : Keeps s t) (g : Fin 8) : Keeps s (t.emptyGroup g) :=
    ((((h.setMask _ _).incBy _ _).incBy _ _).setGrp _ _).foldl (fun u _ => (Keeps.refl u).freeCredit _ _ _) _
theorem Keeps.groupDown (h : Keeps s t) (g : Fin 8) : Keeps s (t.groupDown g) := ((h.emptyGroup _).raise _ _).logEvent _ _ _ _

/-! ### Entering lane states -/

theorem Keeps.toTrain (h : Keeps s t) (n : Fin 8) : Keeps s (t.toTrain n) :=
    (((((h.setLaneState _ _).set _ _).set _ _).set _ _).set _ _).setLane _ _
theorem Keeps.toBitlock (h : Keeps s t) (n : Fin 8) : Keeps s (t.toBitlock n) := ((((h.setLaneState _ _).set _ _).set _ _).set _ _).setLane _ _
theorem Keeps.toDetect (h : Keeps s t) (n : Fin 8) : Keeps s (t.toDetect n) :=
    (((((h.setLaneState _ _).set _ _).set _ _).set _ _).set _ _).setLane _ _
theorem Keeps.groupFail (h : Keeps s t) (g : Fin 8) : Keeps s (t.groupFail g) :=
    ((h.groupDown _).foldl (fun u _ => (Keeps.refl u).toTrain _) _).setGrp _ _
theorem Keeps.resend (h : Keeps s t) (g : Fin 8) : Keeps s (t.resend g) := by
  unfold State.resend
  extract_lets r s1
  have hs1 : Keeps s s1 := (h.inc _).setGrp _ _
  clear_value s1
  exact Keeps.ite h (Keeps.ite (hs1.groupFail _) hs1)
theorem Keeps.keepLanes (h : Keeps s t) (g : Fin 8) (mask : Nat) : Keeps s (t.keepLanes g mask) := by
  unfold State.keepLanes
  extract_lets s1
  have hs1 : Keeps s s1 := h.groupDown _
  clear_value s1
  refine Keeps.ite h (Keeps.ite ?_ (((h.setMask _ _).sendAm _ _).resend _))
  split
  · exact hs1.startStream _ _
  · exact hs1
theorem Keeps.leaveGroup (h : Keeps s t) (n : Fin 8) : Keeps s (t.leaveGroup n) := by
  unfold State.leaveGroup
  split
  · extract_lets s1
    have hs1 : Keeps s s1 := h.setGrp _ _
    clear_value s1
    exact Keeps.ite (hs1.keepLanes _ _) hs1
  · exact h
theorem Keeps.countLol (h : Keeps s t) (n : Fin 8) : Keeps s (t.countLol n) := (((h.inc _).raise _ _).lifeAdd _ _).logEvent _ _ _ _
theorem Keeps.loseLock (h : Keeps s t) (n : Fin 8) (cdr : Bool) : Keeps s (t.loseLock n cdr) := by
  unfold State.loseLock
  extract_lets s1
  have hs1 : Keeps s s1 := h.countLol _
  clear_value s1
  exact Keeps.ite ((hs1.set _ _).setLane _ _) ((Keeps.ite (hs1.toBitlock _) (hs1.toTrain _)).leaveGroup _)

/-! ### Enabling lanes (R260, R267, R281) -/

theorem Keeps.setLaneEn (h : Keeps s t) (n : Fin 8) (en : Bool) : Keeps s (t.setLaneEn n en) := by
  unfold State.setLaneEn
  extract_lets s1
  have hs1 : Keeps s s1 := h.setB _ _
  clear_value s1
  exact Keeps.ite h (Keeps.ite (Keeps.ite (hs1.setLaneState _ _) (hs1.toDetect _)) (((((((hs1.setLaneState _ _).set _ _).set _ _).set _ _).set _
      _).setLane _ _).leaveGroup _))
theorem Keeps.setLaneMode (h : Keeps s t) (n : Fin 8) (test : Bool) : Keeps s (t.setLaneMode n test) := by
  unfold State.setLaneMode
  extract_lets s1 s2
  have hs1 : Keeps s s1 := (h.setB _ _).setLane _ _
  clear_value s1
  have hs2 : Keeps s s2 := (hs1.zero _).set _ _
  clear_value s2
  exact Keeps.ite h (Keeps.ite ((((((hs1.setLaneState _ _).set _ _).set _ _).set _ _).setLane _ _).leaveGroup _) (Keeps.ite (hs2.toDetect _)
      (hs2.setLaneState _ _)))
theorem Keeps.applyCtle (h : Keeps s t) (n : Fin 8) : Keeps s (t.applyCtle n) := Keeps.ite h (h.set _ _)
theorem Keeps.setRate (h : Keeps s t) (q : Nat) (fast : Bool) : Keeps s (t.setRate q fast) := Keeps.ite h ((h.setB _ _).set _ _)

/-! ### Reference and PLL (R258, R513) -/

theorem Keeps.onLane (h : Keeps s t) (k : Keeps s u) : Keeps s (t.onLane u) := h.onDom k _
theorem Keeps.execRefclkLaneBad (h : Keeps s t) : OutKeeps s (execRefclkLaneBad t) :=
    .next (h.onLane (((((h.raise _ _).set _ _).set _ _).set _ _).foldl (fun u _ => ((Keeps.refl u).toDetect _).leaveGroup _) _))
theorem Keeps.execRefclkLaneOk (h : Keeps s t) : OutKeeps s (execRefclkLaneOk t) := .next (h.onLane (h.set _ _))
theorem Keeps.execLanePllLock (h : Keeps s t) (q : Fin 2) : OutKeeps s (execLanePllLock q t) :=
    .next (h.onLane (Keeps.ite ((h.set _ _).foldl (fun u _ => (Keeps.refl u).setLane _ _) _) h))

/-! ### Bring-up (R268, R269) -/

theorem Keeps.execDetectAttempt (h : Keeps s t) (n : Fin 8) (found : Bool) : OutKeeps s (execDetectAttempt n found t) := by
  unfold Machine.execDetectAttempt
  extract_lets d s1
  have hs1 : Keeps s s1 := (h.setB _ _).setLane _ _
  clear_value s1
  exact .next (h.onLane (Keeps.ite (Keeps.ite (((hs1.pick _ _).toTrain _).setLane _ _) hs1) h))
theorem Keeps.execBitLock (h : Keeps s t) (n : Fin 8) : OutKeeps s (execBitLock n t) := by
  unfold Machine.execBitLock
  extract_lets p s1
  have hp : Keeps s p.2 := (h.pick _ _).at rfl
  clear_value p
  have hs1 : Keeps s s1 := Keeps.ite (hp.set _ _) (h.applyCtle _)
  clear_value s1
  exact .next (h.onLane (Keeps.ite (((hs1.setLaneState _ _).set _ _).setLane _ _) (Keeps.ite (h.set _ _) h)))
theorem Keeps.execCdrLockLost (h : Keeps s t) (n : Fin 8) : OutKeeps s (execCdrLockLost n t) :=
    .next (h.onLane (Keeps.ite (h.toTrain _) (Keeps.ite (h.loseLock _ _) (Keeps.ite ((Keeps.ite (h.loseLock _ _) h).set _ _) h))))
theorem Keeps.execTrainTimeout (h : Keeps s t) (n : Fin 8) : OutKeeps s (execTrainTimeout n t) := by
  unfold Machine.execTrainTimeout
  refine .next (h.onLane ?_)
  split
  · exact Keeps.ite ((((h.inc _).raise _ _).lifeAdd _ _).toDetect _) h
  · exact h
theorem Keeps.retrainLane (h : Keeps s t) (n : Fin 8) : Keeps s (t.retrainLane n) := Keeps.ite (((h.countLol _).toTrain _).leaveGroup _) h
theorem Keeps.execRetrain (h : Keeps s t) (n : Fin 8) : OutKeeps s (execRetrain n t) := .next (h.onReg (h.retrainLane _) _)
theorem Keeps.execTestModeEntry (h : Keeps s t) (n : Fin 8) (test : Bool) : OutKeeps s (execTestModeEntry n test t) :=
    .next (h.onReg (h.setLaneMode _ _) _)
theorem Keeps.tryCapx (h : Keeps s t) (n : Fin 8) : Keeps s (t.tryCapx n) := Keeps.ite ((h.setLaneState _ _).setLane _ _) h

/-! ### Capability exchange (R291, R292) -/

theorem Keeps.tryActive (h : Keeps s t) (n : Fin 8) : Keeps s (t.tryActive n) := by
  unfold State.tryActive
  extract_lets l
  split
  · extract_lets s1 s2
    have hs1 : Keeps s s1 := (((h.setLaneState _ _).set _ _).set _ _).setGrp _ _
    clear_value s1
    have hs2 : Keeps s s2 := Keeps.ite (hs1.set _ _) hs1
    clear_value s2
    exact Keeps.ite (Keeps.ite (hs2.startStream _ _) (hs2.setGrp _ _)) h
  · exact h
theorem Keeps.capRx (h : Keeps s t) (g : Fin 8) (n : Fin 8) (p : Nat) : Keeps s (t.capRx g n p) :=
    Keeps.ite h (Keeps.ite ((((h.raise _ _).set _ _).set _ _).setLane _ _) ((h.setLane _ _).tryActive _))

/-! ### Link control blocks received (R290, R294–R299, R301, R306) -/

theorem Keeps.ackRx (h : Keeps s t) (g : Fin 8) (p : Nat) : Keeps s (t.ackRx g p) := by
  unfold State.ackRx
  extract_lets gone any_ s1
  have hs1 : Keeps s s1 := h.setGrp _ _
  clear_value s1
  exact Keeps.ite (hs1.resend _) hs1
theorem Keeps.creditRx (h : Keeps s t) (g : Fin 8) (p : Nat) : Keeps s (t.creditRx g p) := h.setGrp _ _
theorem Keeps.amRx (h : Keeps s t) (g : Fin 8) (n : Fin 8) (p : Nat) : Keeps s (t.amRx g n p) := by
  unfold State.amRx
  extract_lets mask seq s1 s2
  have hs1 : Keeps s s1 := h.foldl (fun u _ => (Keeps.refl u).loseLock _ _) _
  clear_value s1
  have hs2 : Keeps s s2 := hs1.setGrp _ _
  clear_value s2
  exact Keeps.ite (Keeps.ite h ((h.inc _).keepLanes _ _)) (Keeps.ite ((hs2.setMask _ _).setGrp _ _) hs2)
theorem Keeps.takeRtt (h : Keeps s t) (rtt : Rat) : Keeps s (t.takeRtt rtt) := by
  unfold State.takeRtt
  extract_lets l off far replace s1 s2 s3 m d s4
  have hs1 : Keeps s s1 := Keeps.ite (h.inc _) h
  clear_value s1
  have hs2 : Keeps s s2 := Keeps.ite (hs1.raise _ _) hs1
  clear_value s2
  have hs3 : Keeps s s3 := hs2.setLink _
  clear_value s3
  have hs4 : Keeps s s4 := hs3.set _ _
  clear_value s4
  exact Keeps.ite hs3 (Keeps.ite hs4 ((hs4.setLink _).set _ _))
theorem Keeps.echoRx (h : Keeps s t) (g : Fin 8) (p : Nat) (stamp : Nat) : Keeps s (t.echoRx g p stamp) := by
  unfold State.echoRx
  refine Keeps.ite (Keeps.ite (h.setGrp _ _) h) ?_
  split
  · exact Keeps.ite ((h.setGrp _ _).takeRtt _) h
  · exact h
theorem Keeps.routeRx (h : Keeps s t) (g : Fin 8) (p : Nat) : Keeps s (t.routeRx g p) := Keeps.ite ((h.set _ _).routeChanged) h
theorem Keeps.ctrlRx (h : Keeps s t) (n : Fin 8) (p : Nat) (stamp : Nat) : Keeps s (t.ctrlRx n p stamp) := by
  unfold State.ctrlRx
  refine Keeps.ite h (Keeps.ite (h.inc _) ?_)
  split
  · refine Keeps.ite h (Keeps.ite (Keeps.ite (h.capRx _ _ _) h) ?_)
    split
    · exact h.amRx _ _ _
    · exact h.creditRx _ _
    · exact h.ackRx _ _
    · exact h.echoRx _ _ _
    · exact h.routeRx _ _
    · exact h
  · exact h

/-! ### Receiving blocks (R262–R264, R270–R274) -/

theorem Keeps.trainRx (h : Keeps s t) (n : Fin 8) (p : Nat) : Keeps s (t.trainRx n p) := by
  unfold State.trainRx
  extract_lets rdy s1 st s2 s22 s3
  have hs1 : Keeps s s1 := (h.setB _ _).set _ _
  clear_value s1
  have hs2 : Keeps s s2 := hs1.setLane _ _
  clear_value s2
  have hs22 : Keeps s s22 := hs1.setLane _ _
  clear_value s22
  have hs3 : Keeps s s3 := ((hs22.set _ _).set _ _).setLane _ _
  clear_value s3
  exact Keeps.ite ((hs1.setLane _ _).tryCapx _) (Keeps.ite (Keeps.ite (Keeps.ite (hs2.loseLock _ _) hs2) (Keeps.ite (Keeps.ite (Keeps.ite
      (hs3.setLaneState _ _) hs3) hs22) hs1)) hs1)
theorem Keeps.hunt (h : Keeps s t) (n : Fin 8) (sh : Nat) : Keeps s (t.hunt n sh) := h.setLane _ _
theorem Keeps.gainLock (h : Keeps s t) (n : Fin 8) : Keeps s (t.gainLock n) := by
  unfold State.gainLock
  extract_lets s1
  have hs1 : Keeps s s1 := (h.set _ _).setLane _ _
  clear_value s1
  exact Keeps.ite ((hs1.setLaneState _ _).setLane _ _) hs1
theorem Keeps.idleBlock (h : Keeps s t) (n : Fin 8) (sh : Nat) (p : Nat) (elastic : Bool) : Keeps s (t.idleBlock n sh p elastic) := by
  unfold State.idleBlock
  extract_lets s1 l s2 s22
  have hs1 : Keeps s s1 := h.setLane _ _
  clear_value s1
  have hs2 : Keeps s s2 := hs1.set _ _
  clear_value s2
  have hs22 : Keeps s s22 := hs1.hunt _ _
  clear_value s22
  exact Keeps.ite (Keeps.ite (hs1.loseLock _ _) (Keeps.ite (hs1.trainRx _ _) (Keeps.ite hs1 (Keeps.ite (hs2.setLaneState _ _) hs2))))
      (Keeps.ite (hs22.gainLock _) (Keeps.ite ((hs22.inc _).loseLock _ _) hs22))
theorem Keeps.rxPlain (h : Keeps s t) (n : Fin 8) (sh : Nat) (p : Nat) (elastic : Bool) (stamp : Nat) :
    Keeps s (t.rxPlain n sh p elastic stamp) := by
  unfold State.rxPlain
  extract_lets st s1 bad l wb s12 s2
  have hs1 : Keeps s s1 := h.hunt _ _
  clear_value s1
  have hs12 : Keeps s s12 := h.setLane _ _
  clear_value s12
  have hs2 : Keeps s s2 := Keeps.ite (hs12.inc _) (Keeps.ite (hs12.inc _) hs12)
  clear_value s2
  exact Keeps.ite (h.idleBlock _ _ _ _) (Keeps.ite (Keeps.ite (Keeps.ite (hs1.gainLock _) hs1) h) (Keeps.ite (hs2.loseLock _ _) (Keeps.ite
      (hs2.trainRx _ _) (Keeps.ite (hs2.ctrlRx _ _ _) hs2))))
theorem Keeps.rxBlock (h : Keeps s t) (n : Fin 8) (sh : Nat) (payload : Nat) (elastic : Bool) (stamp : Nat) :
    Keeps s (t.rxBlock n sh payload elastic stamp) :=
    (h.setLane _ _).rxPlain _ _ _ _ _
theorem Keeps.execBlockReceive (h : Keeps s t) (n : Fin 8) (b : RxBlock) : OutKeeps s (execBlockReceive n b t) := by
  unfold Machine.execBlockReceive
  extract_lets st loop_ s1
  have hs1 : Keeps s s1 := h.rxBlock _ _ _ _ _
  clear_value s1
  exact .next (h.onLane (Keeps.ite h (Keeps.ite h (Keeps.ite (hs1.sendBlk _ _ _) hs1))))

/-! ### Sending blocks (R265, R270, R273, R274, R291, R296, R297, R306) -/

theorem Keeps.sendStream (h : Keeps s t) (g : Fin 8) : Keeps s (t.sendStream g) := by
  unfold State.sendStream
  extract_lets r
  split
  · exact (h.stripeBlk _ _ _).setGrp _ _
  · refine Keeps.ite ((h.stripeBlk _ _ _).setGrp _ _) (Keeps.ite ((h.stripeBlk _ _ _).setGrp _ _) ?_)
    split
    · exact (h.stripeBlk _ _ _).setGrp _ _
    · exact h.stripeBlk _ _ _
theorem Keeps.sendFree (h : Keeps s t) (n : Fin 8) : Keeps s (t.sendFree n) := by
  unfold State.sendFree
  split
  · refine Keeps.ite (h.sendBlk _ _ _) ?_
    split
    · extract_lets d turn
      have hd : Keeps s d.2 := (h.pick _ _).at rfl
      clear_value d
      exact Keeps.ite ((hd.sendBlk _ _ _).setGrp _ _) (Keeps.ite (h.sendStream _) h)
    · exact Keeps.ite (h.sendStream _) h
  · exact h.sendBlk _ _ _
theorem Keeps.sendBurst (h : Keeps s t) (n : Fin 8) : Keeps s (t.sendBurst n) := by
  unfold State.sendBurst
  extract_lets left s1 s2
  have hs1 : Keeps s s1 := (h.sendPattern _ _ _).setLane _ _
  clear_value s1
  have hs2 : Keeps s s2 := hs1.set _ _
  clear_value s2
  exact Keeps.ite (Keeps.ite (hs2.setLaneState _ _) hs2) hs1
theorem Keeps.sendCapx (h : Keeps s t) (n : Fin 8) : Keeps s (t.sendCapx n) := by
  unfold State.sendCapx
  refine Keeps.ite ((h.sendPattern _ _ _).setLane _ _) ?_
  split
  · exact Keeps.ite (h.sendBlk _ _ _) (Keeps.ite (((h.sendBlk _ _ _).setLane _ _).tryActive _) ((h.sendBlk _ _ _).setLane _ _))
  · exact h.sendBlk _ _ _
theorem Keeps.execBlockSlotTransmit (h : Keeps s t) (n : Fin 8) : OutKeeps s (execBlockSlotTransmit n t) := by
  unfold Machine.execBlockSlotTransmit
  extract_lets st s1
  have hs1 : Keeps s s1 := h.sendBlk _ _ _
  clear_value s1
  exact .next (h.onLane (Keeps.ite (h.sendPattern _ _ _) (Keeps.ite (((h.sendPattern _ _ _).setLane _ _).tryCapx _) (Keeps.ite (h.sendCapx _)
      (Keeps.ite (Keeps.ite (h.sendBurst _) (Keeps.ite h (h.sendFree _))) (Keeps.ite (Keeps.ite (hs1.rxBlock _ _ _ _ _) hs1) h))))))
theorem Keeps.idleLane (h : Keeps s t) (n : Fin 8) : Keeps s (t.idleLane n) := by
  unfold State.idleLane
  extract_lets b s1
  have hs1 : Keeps s s1 := ((((h.sendBlk _ _ _).sendBlk _ _ _).sendBlk _ _ _).sendBlk _ _ _).set _ _
  clear_value s1
  exact Keeps.ite (Keeps.ite (hs1.setLaneState _ _) hs1) h
theorem Keeps.execIdleEntry (h : Keeps s t) (n : Fin 8) : OutKeeps s (execIdleEntry n t) := .next (h.onLane (h.idleLane _))
theorem Keeps.exitLane (h : Keeps s t) (n : Fin 8) : Keeps s (t.exitLane n) := Keeps.ite (h.setLane _ _) h
theorem Keeps.execFastExit (h : Keeps s t) (n : Fin 8) : OutKeeps s (execFastExit n t) := .next (h.onLane (h.exitLane _))

/-! ### Eye scan (R277) -/

theorem Keeps.esBegin (h : Keeps s t) (n : Fin 8) : Keeps s (t.esBegin n) := Keeps.ite (((h.set _ _).set _ _).setLane _ _) (h.raise _ _)
theorem Keeps.esEnd (h : Keeps s t) (n : Fin 8) : Keeps s (t.esEnd n) := Keeps.ite ((h.set _ _).raise _ _) h
theorem Keeps.execEsStart (h : Keeps s t) (n : Fin 8) : OutKeeps s (execEsStart n t) := .next (h.onReg (h.esBegin _) _)
theorem Keeps.execEsAbort (h : Keeps s t) (n : Fin 8) : OutKeeps s (execEsAbort n t) := .next (h.onReg (h.esEnd _) _)
theorem Keeps.execEsScanDone (h : Keeps s t) (n : Fin 8) (errors : Nat) : OutKeeps s (execEsScanDone n errors t) :=
    .next (h.onLane (Keeps.ite (((h.incBy _ _).set _ _).raise _ _) h))

/-! ### PRBS (R278, R279) -/

theorem Keeps.injectBit (h : Keeps s t) (n : Fin 8) : Keeps s (t.injectBit n) := Keeps.ite (h.setLane _ _) h
theorem Keeps.execInjBit (h : Keeps s t) (n : Fin 8) : OutKeeps s (execInjBit n t) := .next (h.onReg (h.injectBit _) _)
theorem Keeps.execInjRateInjection (h : Keeps s t) (n : Fin 8) : OutKeeps s (execInjRateInjection n t) :=
    .next (h.onLane (Keeps.ite ((h.injectBit _).setLane _ _) h))
theorem Keeps.prbsSend (h : Keeps s t) (n : Fin 8) : Keeps s (t.prbsSend n) := h.setLane _ _
theorem Keeps.execPrbsBitReceive (h : Keeps s t) (n : Fin 8) (bit : Bool) : OutKeeps s (execPrbsBitReceive n bit t) := by
  unfold Machine.execPrbsBitReceive
  extract_lets sel loop_ s0 raw r carry src s1 s2
  have hs0 : Keeps s s0 := h.prbsSend _
  clear_value s0
  have hs1 : Keeps s s1 := (hs0.setLane _ _).setB _ _
  clear_value s1
  have hs2 : Keeps s s2 := Keeps.ite (hs1.inc _) hs1
  clear_value s2
  exact .next (h.onLane (Keeps.ite h (Keeps.ite hs0 (Keeps.ite (hs2.inc _) hs2))))
theorem Keeps.prbsRestart (h : Keeps s t) (n : Fin 8) : Keeps s (t.prbsRestart n) := (h.set _ _).setLane _ _

end Sys2Proof.Machine
end

section
/-! SUPPORT. The functions of Sys2Proof/Machine/Link.lean keep the canonical forms and the queue. -/

namespace Sys2Proof.Machine
variable {s t u : State}
theorem Keeps.onLink (h : Keeps s t) (k : Keeps s u) : Keeps s (t.onLink u) := h.onLane (h.onFab k)

/-! ### The transmit arbiter (R17–R19, R288, R296, R298, R299, R303) -/

theorem Keeps.ownBytes (h : Keeps s t) (g : Fin 8) (c : Nat) : Keeps s (t.ownBytes g c).2 := by
  unfold State.ownBytes
  extract_lets b
  split
  · split
    · exact h.readTx _
    · exact h.pair _
  · split
    · split
      · extract_lets r
        have hr : Keeps s r.2 := (h.readReported _ _ _).at rfl
        clear_value r
        exact hr.pair _
      · exact h.pair _
    · exact h.pair _
theorem Keeps.pktFrom (h : Keeps s t) (g : Fin 8) (c : Nat) (t' : TxFrom) : Keeps s (t.pktFrom g c t').2 := by
  unfold State.pktFrom
  split
  · exact h.pair _
  · extract_lets r
    have hr : Keeps s r.2 := (h.ownBytes _ _).at rfl
    clear_value r
    exact hr.pair _
  · exact h.pair _
theorem Keeps.sentS (h : Keeps s t) (b : List Byte) : Keeps s (t.sentS b) := by
  unfold State.sentS
  extract_lets typ s1 s2
  have hs1 : Keeps s s1 := h.setOut _
  clear_value s1
  have hs2 : Keeps s s2 := Keeps.ite hs1 (hs1.set _ _)
  clear_value s2
  exact Keeps.ite ((hs2.inc _).pmonAdd _ _ _) hs2
theorem Keeps.sentB (h : Keeps s t) (g : Fin 8) : Keeps s (t.sentB g) := by
  unfold State.sentB
  split
  · split
    · extract_lets s1
      have hs1 : Keeps s s1 := h.setOut _
      clear_value s1
      exact Keeps.ite (Keeps.ite (hs1.set _ _) hs1) (h.setOut _)
    · exact h
  · exact h
theorem Keeps.takeSent (h : Keeps s t) (g : Fin 8) (c : Nat) (t' : TxFrom) (p : LinkPkt) : Keeps s (t.takeSent g c t' p) := by
  unfold State.takeSent
  split
  · exact h.setGrp _ _
  · split
    · exact (h.setOut _).inc _
    · exact h.sentS _
    · exact h.sentB _
  · exact (h.setGrp _ _).freeCredit _ _ _
theorem Keeps.sendPkt (h : Keeps s t) (g : Fin 8) (c : Nat) (t' : TxFrom) : Keeps s (t.sendPkt g c t') := by
  unfold State.sendPkt
  extract_lets r new q p0 p u s1 s2
  have hq : Keeps s q.2 := (h.pktFrom _ _ _).at rfl
  clear_value q
  have hs1 : Keeps s s1 := (hq.takeSent _ _ _ _).setGrp _ _
  clear_value s1
  have hs2 : Keeps s s2 := Keeps.ite (hs1.inc _) hs1
  clear_value s2
  exact Keeps.ite (hs2.pmonAdd _ _ _) (Keeps.ite (hs2.pmonAdd _ _ _) hs2)
theorem Keeps.markerFirst (h : Keeps s t) : Keeps s t.markerFirst := by
  unfold State.markerFirst
  split
  · exact Keeps.ite (h.sendMarker _) h
  · exact h
theorem Keeps.execTransmitArbiterServe (h : Keeps s t) (g : Fin 8) : OutKeeps s (execTransmitArbiterServe g t) := by
  unfold Machine.execTransmitArbiterServe
  extract_lets s0
  have hs0 : Keeps s s0 := Keeps.ite h.markerFirst h
  clear_value s0
  refine .next (h.onLink (Keeps.ite ?_ h))
  split
  · split
    · exact hs0.sendPkt _ _ _
    · exact h
  · exact h

/-! ### Packets received (R288, R289, R297, R302, R303, R310, R311, R319) -/

theorem Keeps.forward (h : Keeps s t) (g : Fin 8) (from_ : Nat) (p : LinkPkt) : Keeps s (t.forward g from_ p) := h.setGrp _ _
theorem Keeps.dropFwd (h : Keeps s t) (from_ : Nat) (p : LinkPkt) : Keeps s (t.dropFwd from_ p) := (h.incBy _ _).freeCredit _ _ _
theorem Keeps.routeOut (h : Keeps s t) (g : Fin 8) (p : LinkPkt) : Keeps s (t.routeOut g p) := by
  unfold State.routeOut
  extract_lets s1 s12
  have hs1 : Keeps s s1 := h.freeCredit _ _ _
  clear_value s1
  have hs12 : Keeps s s12 := (h.inc _).freeCredit _ _ _
  clear_value s12
  refine Keeps.ite (Keeps.ite (hs1.intake _ _) hs1) ?_
  split
  · exact h.forward _ _ _
  · exact Keeps.ite (hs12.forward _ _ _) hs12
theorem Keeps.dispatchPkt (h : Keeps s t) (g : Fin 8) (p : LinkPkt) : Keeps s (t.dispatchPkt g p) := by
  unfold State.dispatchPkt
  refine Keeps.ite (h.forward _ _ _) (Keeps.ite (h.routeOut _ _) (Keeps.ite ?_ (h.freeCredit _ _ _)))
  split
  · exact Keeps.ite (h.forward _ _ _) (h.dropFwd _ _)
  · exact h.dropFwd _ _
theorem Keeps.cutPackets (h : Keeps s t) (n : Fin 8) (ps : List (Fin 4 × Nat)) : Keeps s (t.cutPackets n ps) :=
    h.foldl (fun u _ => ((Keeps.refl u).inc _).freeCredit _ _ _) _
theorem Keeps.execPacketReceive (h : Keeps s t) (n : Fin 8) (p : RxPacket) : OutKeeps s (execPacketReceive n p t) := by
  unfold Machine.execPacketReceive
  extract_lets r want s1 s12
  have hs1 : Keeps s s1 := (h.inc _).setGrp _ _
  clear_value s1
  have hs12 : Keeps s s12 := h.freeCredit _ _ _
  clear_value s12
  exact .next (h.onLink (Keeps.ite h (Keeps.ite (h.cutPackets _ _) (Keeps.ite (((h.inc _).freeCredit _ _ _).setGrp _ _) (Keeps.ite
      (hs1.dispatchPkt _ _) (Keeps.ite hs12 (hs12.setGrp _ _)))))))

/-! ### Groups (R285, R286, R293, R298) -/

theorem Keeps.startGroup (h : Keeps s t) (g : Fin 8) : Keeps s (t.startGroup g) :=
    (h.foldl (fun u _ => (Keeps.refl u).setLaneEn _ _) _).setGrp _ _
theorem Keeps.startDown (h : Keeps s t) (g : Fin 8) : Keeps s (t.startDown g) := Keeps.ite ((h.startGroup _).setLink _) h
theorem Keeps.execDownGroupStart (h : Keeps s t) (n : Fin 8) : OutKeeps s (execDownGroupStart n t) :=
    .next (h.onLink (Keeps.ite (h.startDown _) h))
theorem Keeps.enableGroup (h : Keeps s t) (g : Fin 8) : Keeps s (t.enableGroup g) := by
  unfold State.enableGroup
  extract_lets src s1
  have hs1 : Keeps s s1 := ((h.set _ _).setGrp _ _).setMask _ _
  clear_value s1
  exact Keeps.ite (hs1.startDown _) (hs1.startGroup _)
theorem Keeps.disableGroup (h : Keeps s t) (g : Fin 8) : Keeps s (t.disableGroup g) :=
    (((h.set _ _).emptyGroup _).setGrp _ _).foldl (fun u _ => (Keeps.refl u).setLaneEn _ _) _
theorem Keeps.setGroupEn (h : Keeps s t) (g : Fin 8) (en : Bool) : Keeps s (t.setGroupEn g en) :=
    Keeps.ite h (Keeps.ite (h.enableGroup _) (h.disableGroup _))
theorem Keeps.configure (h : Keeps s t) (n : Fin 8) (w : Nat) (role : Nat) : Keeps s (t.configure n w role) := ((h.set _ _).set _ _).setGrp _ _
theorem Keeps.putGroup (h : Keeps s t) (n : Fin 8) (w : Nat) (role : Nat) (en : Bool) : Keeps s (t.putGroup n w role en) :=
    (Keeps.ite (h.configure _ _ _) h).setGroupEn _ _
theorem Keeps.execRegularAm (h : Keeps s t) (n : Fin 8) : OutKeeps s (execRegularAm n t) :=
    .next (h.onLink (Keeps.ite (((h.setMask _ _).sendAm _ _).setGrp _ _) h))
theorem Keeps.execReplayTimeout (h : Keeps s t) (n : Fin 8) : OutKeeps s (execReplayTimeout n t) := .next (h.onLink (Keeps.ite (h.resend _) h))

/-! ### Timing distribution (R304–R309) -/

theorem Keeps.execTimingSetSend (h : Keeps s t) (n : Fin 8) (departure : BitVec 64) : OutKeeps s (execTimingSetSend n departure t) :=
    .next (h.onLink (Keeps.ite ((h.foldl (fun u _ => (Keeps.refl u).sendBlk _ _ _) _).setGrp _ _) h))
theorem Keeps.takeEpoch (h : Keeps s t) (gen : Nat) (p : Nat) (t' : Rat) (period : Nat) : Keeps s (t.takeEpoch gen p t' period) :=
    (((Keeps.ite (h.set _ _) h).set _ _).setTrk _).setLink _
theorem Keeps.workerStamp (h : Keeps s t) (k' : Rat) (t' : Rat) : Keeps s (t.workerStamp k' t') :=
    Keeps.ite (h.setTrk _) ((h.setTrk _).judgeLock)
theorem Keeps.stopForEpoch (h : Keeps s t) : Keeps s t.stopForEpoch :=
    (h.raise _ _).foldl (fun u _ => Keeps.ite (((Keeps.refl u).raise _ _).stopSeq _) (Keeps.refl u)) _
theorem Keeps.timingFit (h : Keeps s t) (ts : TimingSet) (p : Nat) (t' : Rat) : Keeps s (t.timingFit ts p t') := by
  unfold State.timingFit
  extract_lets s1
  have hs1 : Keeps s s1 := Keeps.ite h h.stopForEpoch
  clear_value s1
  exact Keeps.ite (Keeps.ite ((hs1.takeEpoch _ _ _ _).workerStamp _ _) hs1) (h.workerStamp _ _)
theorem Keeps.runRx (h : Keeps s t) (ts : TimingSet) : Keeps s (t.runRx ts) := by
  unfold State.runRx
  extract_lets s1
  have hs1 : Keeps s s1 := h.setLink _
  clear_value s1
  refine Keeps.ite ?_ h
  split
  · exact Keeps.ite ((hs1.inc _).raise _ _) (hs1.setLink _)
  · exact hs1
theorem Keeps.execTimingSetReceive (h : Keeps s t) (n : Fin 8) (ts : TimingSet) (arrival : BitVec 64) :
    OutKeeps s (execTimingSetReceive n ts arrival t) := by
  unfold Machine.execTimingSetReceive
  refine .next (h.onLink (Keeps.ite (((Keeps.set ?_ _ _).setLink _).runRx _) h))
  split
  · exact Keeps.ite (h.timingFit _ _ _) h
  · exact h
theorem Keeps.execEchoRequest (h : Keeps s t) (departure : BitVec 64) : OutKeeps s (execEchoRequest departure t) := by
  unfold Machine.execEchoRequest
  refine .next (h.onLink ?_)
  split
  · exact Keeps.ite ((((Keeps.ite (h.inc _) h).sendBlk _ _ _).setGrp _ _).setLink _) h
  · exact h
theorem Keeps.execRouteSend (h : Keeps s t) : OutKeeps s (execRouteSend t) := by
  unfold Machine.execRouteSend
  refine .next (h.onLink ?_)
  split
  · exact Keeps.ite ((h.stripeBlk _ _ _).setLink _) h
  · exact h
theorem Keeps.execLinkRunTrigger (h : Keeps s t) : OutKeeps s (execLinkRunTrigger t) := by
  unfold Machine.execLinkRunTrigger
  refine .next (h.onLink ?_)
  split
  · split
    · exact Keeps.ite ((h.setLink _).foldl (fun u _ => Keeps.ite ((Keeps.refl u).trigger _ _) (Keeps.refl u)) _) h
    · exact h
  · exact h

/-! ### Opcodes (R314) -/

theorem Keeps.setId (h : Keeps s t) (mode : Nat) (id : Nat) : Keeps s (t.setId mode id) := by
  unfold State.setId
  extract_lets s1 s2
  have hs1 : Keeps s s1 := (h.set _ _).set _ _
  clear_value s1
  have hs2 : Keeps s s2 := Keeps.ite hs1 (hs1.set _ _)
  clear_value s2
  exact Keeps.ite hs2 (hs2.voidEpoch.setLink _)
theorem Keeps.linkSetId (h : Keeps s t) (ps : List Nat) : CmdRes.Keeps s (linkSetId t ps) :=
    .ite (.refuse _ _) (.ite (.refuse _ _) (.ok (h.setId _ _)))
theorem Keeps.execLinkSetId (h : Keeps s t) (c : CmdIn) : OutKeeps s (execLinkSetId c t) := .next (h.runOp ((Keeps.refl t).linkSetId _))
theorem Keeps.linkGroup (h : Keeps s t) (ps : List Nat) : CmdRes.Keeps s (linkGroup t ps) := by
  unfold Machine.linkGroup
  extract_lets w role en n s1
  have hs1 : Keeps s s1 := h.putGroup _ _ _ _
  clear_value s1
  exact .ite (.refuse _ _) (.ite (.refuse _ _) (.ite (.refuse _ _) (.ite (.done h _ _) (.done hs1 _ _))))
theorem Keeps.execLinkGroup (h : Keeps s t) (c : CmdIn) : OutKeeps s (execLinkGroup c t) := .next (h.runOp ((Keeps.refl t).linkGroup _))
theorem Keeps.linkTimingCfg (h : Keeps s t) (ps : List Nat) : CmdRes.Keeps s (linkTimingCfg t ps) :=
    .ite (.refuse _ _) (.ok (((((h.set _ _).set _ _).set _ _).set _ _).set _ _))
theorem Keeps.execLinkTimingCfg (h : Keeps s t) (c : CmdIn) : OutKeeps s (execLinkTimingCfg c t) :=
    .next (h.runOp ((Keeps.refl t).linkTimingCfg _))
theorem Keeps.linkRunStart (h : Keeps s t) (ps : List Nat) : CmdRes.Keeps s (linkRunStart t ps) :=
    .ite (.refuse _ _) (.ite (.refuse _ _) (.ite (.refuse _ _) (.done (h.setLink _) _ _)))
theorem Keeps.execLinkRunStart (h : Keeps s t) (c : CmdIn) : OutKeeps s (execLinkRunStart c t) := .next (h.runOp ((Keeps.refl t).linkRunStart _))
theorem Keeps.linkLoop (h : Keeps s t) (ps : List Nat) : CmdRes.Keeps s (linkLoop t ps) := by
  unfold Machine.linkLoop
  split
  · exact .ite (.refuse _ _) (.ok (h.set _ _))
  · exact .refuse _ _
theorem Keeps.execLinkLoop (h : Keeps s t) (c : CmdIn) : OutKeeps s (execLinkLoop c t) := .next (h.runOp ((Keeps.refl t).linkLoop _))
theorem Keeps.linkTopology (h : Keeps s t) (x : List Nat) : CmdRes.Keeps s (linkTopology t x) := .data h _
theorem Keeps.execLinkTopology (h : Keeps s t) (c : CmdIn) : OutKeeps s (execLinkTopology c t) := .next (h.runOp ((Keeps.refl t).linkTopology _))
theorem Keeps.linkRttStatus (h : Keeps s t) (x : List Nat) : CmdRes.Keeps s (linkRttStatus t x) := .ite (.refuse _ _) (.data h _)
theorem Keeps.execLinkRttStatus (h : Keeps s t) (c : CmdIn) : OutKeeps s (execLinkRttStatus c t) :=
    .next (h.runOp ((Keeps.refl t).linkRttStatus _))
theorem Keeps.linkGetStatus (h : Keeps s t) (ps : List Nat) : CmdRes.Keeps s (linkGetStatus t ps) := by
  unfold Machine.linkGetStatus
  split
  · exact .data h _
  · exact .refuse _ _
theorem Keeps.execLinkGetStatus (h : Keeps s t) (c : CmdIn) : OutKeeps s (execLinkGetStatus c t) :=
    .next (h.runOp ((Keeps.refl t).linkGetStatus _))

end Sys2Proof.Machine
end

section
/-! SUPPORT. The functions of Sys2Proof/Machine/Dram.lean keep the canonical forms and the queue. -/

namespace Sys2Proof.Machine
variable {s t u : State}
theorem Keeps.setDram (h : Keeps s t) (ch : Chan) (g : DramRun → DramRun) : Keeps s (t.setDram ch g) := h.same rfl rfl rfl rfl rfl
theorem Keeps.onDdr (h : Keeps s t) (k : Keeps s u) : Keeps s (t.onDdr u) := h.onDom (h.onFab k) _

/-! ### Requests and panic (R369–R371) -/

theorem Keeps.panicNow (h : Keeps s t) (ch : Chan) (p : Nat) : Keeps s (t.panicNow ch p) := Keeps.ite (h.set _ _) (Keeps.ite (h.set _ _) h)
theorem Keeps.admitDram (h : Keeps s t) (ch : Chan) : Keeps s (t.admitDram ch) := h.setDram _ _
theorem Keeps.execDramRequest (h : Keeps s t) (ch : Chan) (rq : DramReq) : OutKeeps s (execDramRequest ch rq t) := by
  unfold Machine.execDramRequest
  extract_lets p d a s1
  have hs1 : Keeps s s1 := (h.setDram _ _).admitDram _
  clear_value s1
  exact .next (h.onDdr (Keeps.ite (Keeps.ite (hs1.panicNow _ _) hs1) h))

/-! ### One command slot (R371, R372, R374, R375) -/

theorem Keeps.bwCount (h : Keeps s t) (n : Nat) (bytes : Nat) : Keeps s (t.bwCount n bytes) := by
  unfold State.bwCount
  extract_lets i src
  split
  · exact Keeps.ite h (Keeps.ite (h.same rfl rfl rfl rfl rfl) (h.same rfl rfl rfl rfl rfl))
  · exact h
theorem Keeps.serveReq (h : Keeps s t) (ch : Chan) (t' : Nat) (q : DramQ) (asHit : Bool) : Keeps s (t.serveReq ch t' q asHit) := by
  unfold State.serveReq
  extract_lets k d s1 s2 s3 s4
  have hs1 : Keeps s s1 := h.setDram _ _
  clear_value s1
  have hs2 : Keeps s s2 := Keeps.ite (hs1.pmonAdd _ _ _) hs1
  clear_value s2
  have hs3 : Keeps s s3 := hs2.bwCount _ _
  clear_value s3
  have hs4 : Keeps s s4 := hs3.admitDram _
  clear_value s4
  split
  · exact (h.setDram _ _).pmonAdd _ _ _
  · exact Keeps.ite (h.setDram _ _) (Keeps.ite (hs4.panicNow _ _) hs4)
theorem Keeps.refStep (h : Keeps s t) (ch : Chan) (r : Nat) (t' : Nat) (forced : Bool) : Keeps s (t.refStep ch r t' forced) := by
  unfold State.refStep
  extract_lets s1
  have hs1 : Keeps s s1 := ((h.set _ _).setDram _ _).pmonAdd _ _ _
  clear_value s1
  exact Keeps.ite h (Keeps.ite (Keeps.ite (hs1.inc _) hs1) (h.setDram _ _))
theorem Keeps.slotCommand (h : Keeps s t) (ch : Chan) (t' : Nat) : Keeps s (t.slotCommand ch t') := by
  unfold State.slotCommand
  extract_lets d rs forced ready panic hit calm
  clear_value forced
  split
  · exact h.refStep _ _ _ _
  · split
    · exact h.serveReq _ _ _ _
    · split
      · exact h.serveReq _ _ _ _
      · clear_value calm
        split
        · exact h.refStep _ _ _ _
        · split
          · split
            · exact (h.serveReq _ _ _ _).setDram _ _
            · exact h
          · exact h
theorem Keeps.execDramCommandSlot (h : Keeps s t) (ch : Chan) : OutKeeps s (execDramCommandSlot ch t) :=
    .next (h.onDdr (Keeps.ite ((h.slotCommand _ _).setDram _ _) h))
theorem Keeps.execBankIdleTimeout (h : Keeps s t) (ch : Chan) (rank : Fin 2) (bank : Fin 16) : OutKeeps s (execBankIdleTimeout ch rank bank t) :=
    .next (h.onDdr (Keeps.ite (h.setDram _ _) h))

/-! ### Refresh and temperature (R374–R376) -/

theorem Keeps.refExpiry (h : Keeps s t) (ch : Chan) (r : Fin 2) : Keeps s (t.refExpiry ch r) := (h.inc _).setDram _ _
theorem Keeps.execRefreshTimerExpiry (h : Keeps s t) (ch : Chan) (rank : Fin 2) : OutKeeps s (execRefreshTimerExpiry ch rank t) :=
    .next (h.onDdr (Keeps.ite (h.refExpiry _ _) h))
theorem Keeps.crossing (h : Keeps s t) (ch : Chan) : Keeps s (t.crossing ch) := by
  unfold State.crossing
  extract_lets s1 s2
  have hs1 : Keeps s s1 := h.foldl (fun u _ => Keeps.ite ((Keeps.refl u).refExpiry _ _) (Keeps.refl u)) _
  clear_value s1
  have hs2 : Keeps s s2 := (hs1.set _ _).set _ _
  clear_value s2
  exact Keeps.ite h (hs2.setDram _ _)
theorem Keeps.dramTemp (h : Keeps s t) (ch : Chan) (v : Nat) : Keeps s (t.dramTemp ch v) := by
  unfold State.dramTemp
  extract_lets s1 t2 s2
  have hs1 : Keeps s s1 := (h.set _ _).setDram _ _
  clear_value s1
  have hs2 : Keeps s s2 := Keeps.ite (hs1.raise _ _) hs1
  clear_value s2
  exact Keeps.ite ((hs1.raise _ _).crossing _) (Keeps.ite (hs2.crossing _) (Keeps.ite ((hs2.set _ _).set _ _) hs2))
theorem Keeps.execDramcTempWrite (h : Keeps s t) (ch : Chan) (temp : BitVec 16) : OutKeeps s (execDramcTempWrite ch temp t) :=
    .next (h.onReg (h.dramTemp _ _) _)
theorem Keeps.execTempStaleTimeout (h : Keeps s t) (ch : Chan) : OutKeeps s (execTempStaleTimeout ch t) :=
    .next (h.onDdr (Keeps.ite ((h.raise _ _).crossing _) h))
theorem Keeps.execZqcsInterval (h : Keeps s t) (ch : Chan) : OutKeeps s (execZqcsInterval ch t) := .next (h.onDdr (Keeps.ite (h.setDram _ _) h))

/-! ### Mode registers, training and bring-up (R382, R383) -/

theorem Keeps.mrsGo (h : Keeps s t) (ch : Chan) : Keeps s (t.mrsGo ch) := Keeps.ite (h.setDram _ _) h
theorem Keeps.execDramcMrsGo (h : Keeps s t) (ch : Chan) : OutKeeps s (execDramcMrsGo ch t) := .next (h.onReg (h.mrsGo _) _)
theorem Keeps.trnStart (h : Keeps s t) (ch : Chan) : Keeps s (t.trnStart ch) := Keeps.ite ((h.set _ _).setDram _ _) h
theorem Keeps.execTrnStart (h : Keeps s t) (ch : Chan) : OutKeeps s (execTrnStart ch t) := .next (h.onReg (h.trnStart _) _)
theorem Keeps.execTrainingPassComplete (h : Keeps s t) (ch : Chan) (pass : BitVec 9) : OutKeeps s (execTrainingPassComplete ch pass t) :=
    .next (h.onDdr (Keeps.ite (((h.set _ _).set _ _).setDram _ _) h))
theorem Keeps.baseDefault (h : Keeps s t) (lo : Fld) (hi : Fld) (a : Nat) : Keeps s (t.baseDefault lo hi a) := Keeps.ite ((h.set _ _).set _ _) h
theorem Keeps.layout (h : Keeps s t) : Keeps s t.layout := by
  unfold State.layout
  extract_lets fibre s1 hold
  have hs1 : Keeps s s1 := (((((((h.baseDefault _ _ _).baseDefault _ _ _).baseDefault _ _ _).baseDefault _ _ _).baseDefault _ _ _).baseDefault _
      _ _).baseDefault _ _ _).baseDefault _ _ _
  clear_value s1
  clear_value hold
  split
  · exact Keeps.ite (hs1.setHoldBase _ _) hs1
  · exact hs1
theorem Keeps.channelUp (h : Keeps s t) (ch : Chan) : Keeps s (t.channelUp ch) := by
  unfold State.channelUp
  extract_lets s1
  have hs1 : Keeps s s1 := ((((h.set _ _).set _ _).set _ _).set _ _).set _ _
  clear_value s1
  exact hs1.setDram _ _
theorem Keeps.putDelays (h : Keeps s t) (ch : Chan) (b : BringIn) : Keeps s (t.putDelays ch b) :=
    (h.foldl (fun u _ => ((((Keeps.refl u).set _ _).set _ _).set _ _).set _ _) _).set _ _
theorem Keeps.restoreDelays (h : Keeps s t) (ch : Chan) (r : List Nat) : Keeps s (t.restoreDelays ch r) :=
    ((h.foldl (fun u _ => ((((Keeps.refl u).set _ _).set _ _).set _ _).set _ _) _).set _ _).setDram _ _
theorem Keeps.bringEnd (h : Keeps s t) : Keeps s t.bringEnd := Keeps.ite h h.layout
theorem Keeps.execDramBringup (h : Keeps s t) (ch : Chan) (b : BringIn) : OutKeeps s (execDramBringup ch b t) := by
  unfold Machine.execDramBringup
  extract_lets kept s0 s1 s2 s3
  have hs0 : Keeps s s0 := h.set _ _
  clear_value s0
  have hs1 : Keeps s s1 := hs0.setDram _ _
  clear_value s1
  have hs2 : Keeps s s2 := Keeps.ite hs1 (hs1.putDelays _ _)
  clear_value s2
  have hs3 : Keeps s s3 := Keeps.ite (hs2.channelUp _) (hs2.raise _ _)
  clear_value s3
  exact .next (h.onDdr (Keeps.ite ((Keeps.ite ((hs0.restoreDelays _ _).channelUp _) hs3).bringEnd) h))

/-! ### The fill engine (R381) -/

theorem Keeps.fillGo (h : Keeps s t) (ch : Chan) : Keeps s (t.fillGo ch) := by
  unfold State.fillGo
  refine Keeps.ite h ?_
  split
  · exact h.addrErr _ _
  · exact (h.set _ _).setDram _ _
theorem Keeps.execFillGo (h : Keeps s t) (ch : Chan) : OutKeeps s (execFillGo ch t) := .next (h.onReg (h.fillGo _) _)
theorem Keeps.execFillComplete (h : Keeps s t) (ch : Chan) : OutKeeps s (execFillComplete ch t) := by
  unfold Machine.execFillComplete
  refine .next (h.onDdr ?_)
  split
  · exact ((h.writeDram _ _ _).set _ _).setDram _ _
  · exact h

end Sys2Proof.Machine
end

section
/-! SUPPORT. The functions of Sys2Proof/Machine/Scrub.lean keep the canonical forms and the queue. -/

namespace Sys2Proof.Machine
variable {s t u : State}
theorem Keeps.setScrub (h : Keeps s t) (g : ScrubRun → ScrubRun) : Keeps s (t.setScrub g) := h.same rfl rfl rfl rfl rfl
theorem Keeps.onCore (h : Keeps s t) (k : Keeps s u) : Keeps s (t.onCore u) := h.onDom (h.onFab k) _
theorem Keeps.execCombiningTimeout (h : Keeps s t) (m : Master) : OutKeeps s (execCombiningTimeout m t) := by
  unfold Machine.execCombiningTimeout
  refine .next ?_
  split
  · exact Keeps.ite (h.onFab (h.release _)) h
  · exact h
theorem Keeps.scrubGo (h : Keeps s t) : Keeps s t.scrubGo := Keeps.ite h (Keeps.ite (h.raise _ _) (((h.set _ _).inc _).setScrub _))
theorem Keeps.execScrubGo (h : Keeps s t) : OutKeeps s (execScrubGo t) := .next (h.onReg h.scrubGo _)
theorem Keeps.scrubRead (h : Keeps s t) : Keeps s t.scrubRead := by
  unfold State.scrubRead
  split
  · extract_lets r s1 ce ue
    have hr : Keeps s r.2 := (((h.pmonIo _ _ _).releaseFor _).peekWord _).at rfl
    clear_value r
    have hs1 : Keeps s s1 := by
      unfold s1
      split
      · exact hr
      · exact hr.correction _ _ _
      · exact hr.uncorrectable _ _
    clear_value s1
    exact Keeps.ite h (hs1.setScrub _)
  · exact h
theorem Keeps.scrubReport (h : Keeps s t) (p : Pass) (aborted : Bool) : Keeps s (t.scrubReport p aborted) := Keeps.ite (h.postBulk _) h
theorem Keeps.scrubEnd (h : Keeps s t) (p : Pass) (aborted : Bool) : Keeps s (t.scrubEnd p aborted) :=
    (((((((((((h.set _ _).set _ _).set _ _).set _ _).set _ _).set _ _).set _ _).set _ _).raise _ _).setB _ _).setScrub _).scrubReport _ _
theorem Keeps.scrubAbort (h : Keeps s t) : Keeps s t.scrubAbort := by
  unfold State.scrubAbort
  split
  · exact Keeps.ite h (h.scrubEnd _ _)
  · exact h
theorem Keeps.execScrubAbort (h : Keeps s t) : OutKeeps s (execScrubAbort t) := .next (h.onReg h.scrubAbort _)
theorem Keeps.execScrubPassComplete (h : Keeps s t) : OutKeeps s (execScrubPassComplete t) := by
  unfold Machine.execScrubPassComplete
  refine .next (h.onCore ?_)
  split
  · exact Keeps.ite (h.scrubEnd _ _) h
  · exact h
theorem Keeps.tickScrub (h : Keeps s t) : Keeps s t.tickScrub := by
  unfold State.tickScrub
  split
  · exact Keeps.ite h (Keeps.ite (h.setScrub _) (h.scrubRead.setScrub _))
  · exact h
theorem Keeps.execScrubWaitExpiry (h : Keeps s t) : OutKeeps s (execScrubWaitExpiry t) := by
  unfold Machine.execScrubWaitExpiry
  refine .next (h.onCore ?_)
  split
  · extract_lets s1
    have hs1 : Keeps s s1 := h.scrubRead.setScrub _
    clear_value s1
    refine Keeps.ite h ?_
    split
    · exact Keeps.ite (hs1.setEng _ _) hs1
    · exact hs1
  · exact h
theorem Keeps.execScrubInj (h : Keeps s t) (mode : BitVec 2) : OutKeeps s (execScrubInj mode t) := .next (h.onReg (Keeps.ite h (h.set _ _)) _)

end Sys2Proof.Machine
end

section
/-! SUPPORT. The functions of Sys2Proof/Machine/Tdc.lean keep the canonical forms and the queue. -/

namespace Sys2Proof.Machine
variable {s t u : State}
theorem Keeps.setTdc (h : Keeps s t) (n : Fin 8) (g : TdcChan → TdcChan) : Keeps s (t.setTdc n g) := h.same rfl rfl rfl rfl rfl

/-! ### Edges (R397, R401–R403, R408) -/

theorem Keeps.keepStamp (h : Keeps s t) (n : Fin 8) (st : Nat) : Keeps s (t.keepStamp n st) := h.setTdc _ _
theorem Keeps.pushRecord (h : Keeps s t) (n : Fin 8) (r : List Nat) : Keeps s (t.pushRecord n r) :=
    Keeps.ite ((h.inc _).raise _ _) ((h.setTdc _ _).set _ _)
theorem Keeps.stampMode (h : Keeps s t) (n : Fin 8) (st : Nat) (fall : Bool) : Keeps s (t.stampMode n st fall) := by
  unfold State.stampMode
  extract_lets ref
  split
  · exact Keeps.ite ((h.keepStamp _ _).pushRecord _ _) ((Keeps.ite (h.keepStamp _ _) h).inc _)
  · exact (Keeps.ite (h.keepStamp _ _) h).inc _
theorem Keeps.tickStamps (h : Keeps s t) (n : Fin 8) : Keeps s (t.tickStamps n) :=
    Keeps.ite h ((h.foldl (fun u _ => (Keeps.refl u).stampMode _ _ _) _).setTdc _ _)
theorem Keeps.freqMode (h : Keeps s t) (n : Fin 8) (st : Nat) : Keeps s (t.freqMode n st) := by
  unfold State.freqMode
  split
  · exact Keeps.ite (h.setTdc _ _) h
  · exact h
theorem Keeps.takeEdge (h : Keeps s t) (n : Fin 8) (st : Nat) (fall : Bool) : Keeps s (t.takeEdge n st fall) :=
    Keeps.ite (h.setTdc _ _) (Keeps.ite (h.freqMode _ _) (h.keepStamp _ _))
theorem Keeps.execEdgeStamp (h : Keeps s t) (ip : Fin 9) (e : EdgeIn) : OutKeeps s (execEdgeStamp ip e t) := by
  unfold Machine.execEdgeStamp
  extract_lets n sel k s1 st src s2
  have hs1 : Keeps s s1 := h.setTdc _ _
  clear_value s1
  have hs2 : Keeps s s2 := by
    unfold s2
    refine Keeps.inc ?_ _
    exact hs1.same rfl rfl rfl rfl rfl
  clear_value s2
  exact .next (h.onCore (Keeps.ite h (Keeps.ite hs1 (Keeps.ite (hs1.inc _) (hs2.takeEdge _ _ _)))))

/-! ### Gates (R408, R409) -/

theorem Keeps.openGate (h : Keeps s t) (n : Fin 8) (t' : Nat) (after : Bool) (held : List Nat) : Keeps s (t.openGate n t' after held) :=
    (h.set _ _).setTdc _ _
theorem Keeps.startGate (h : Keeps s t) (n : Fin 8) : Keeps s (t.startGate n) := h.openGate _ _ _ _
theorem Keeps.gateResult (h : Keeps s t) (n : Fin 8) (st : List Nat) : Keeps s (t.gateResult n st) := by
  unfold State.gateResult
  extract_lets ps per r
  have hr : Keeps s r.2 := by
    unfold r
    split
    · exact h.pick _ _
    · exact h.pair _
  clear_value r
  exact ((((((hr.set _ _).set _ _).setB _ _).set _ _).raise _ _).set _ _).setTdc _ _
theorem Keeps.execGateClose (h : Keeps s t) (n : Fin 4) : OutKeeps s (execGateClose n t) := by
  unfold Machine.execGateClose
  refine .next (h.onCore ?_)
  split
  · extract_lets st s1
    have hs1 : Keeps s s1 := h.gateResult _ _
    clear_value s1
    exact Keeps.ite (Keeps.ite (hs1.openGate _ _ _ _) (Keeps.ite ((hs1.set _ _).openGate _ _ _ _) hs1)) h
  · exact h

/-! ### Modes and ownership (R398, R403, R409) -/

theorem Keeps.setTdcMode (h : Keeps s t) (n : Fin 8) (mode : Nat) : Keeps s (t.setTdcMode n mode) := by
  unfold State.setTdcMode
  extract_lets old s1 s2 s3
  have hs1 : Keeps s s1 := h.set _ _
  clear_value s1
  have hs2 : Keeps s s2 := Keeps.ite (((hs1.set _ _).set _ _).setTdc _ _) (hs1.setTdc _ _)
  clear_value s2
  have hs3 : Keeps s s3 := Keeps.ite (hs2.tdcRelease _ _) (Keeps.ite (((hs2.tdcAcquire _ _).setTdc _ _).set _ _) hs2)
  clear_value s3
  exact Keeps.ite h (Keeps.ite (hs3.startGate _) hs3)

/-! ### Calibration (R405, R406) -/

theorem Keeps.execTdcCalibrationComplete (h : Keeps s t) (ip : Fin 9) (hist : List Nat) : OutKeeps s (execTdcCalibrationComplete ip hist t) := by
  unfold Machine.execTdcCalibrationComplete
  extract_lets w s1
  have hs1 : Keeps s s1 := (h.set _ _).set _ _
  clear_value s1
  exact .next (h.onCore (Keeps.ite (Keeps.ite (hs1.raise _ _) ((hs1.foldl (fun u _ => (Keeps.refl u).set _ _) _).orBits _ _)) h))
theorem Keeps.fifoRead (h : Keeps s t) (n : Fin 8) : Keeps s (t.fifoRead n) :=
    ((h.foldl (fun u _ => (Keeps.refl u).set _ _) _).setTdc _ _).set _ _
theorem Keeps.execFifo0Read (h : Keeps s t) (n : Fin 4) : OutKeeps s (execFifo0Read n t) := .next (h.onReg (h.fifoRead _) _)

/-! ### Opcodes (R413) -/

theorem Keeps.tdcConfig (h : Keeps s t) (ps : List Nat) : CmdRes.Keeps s (tdcConfig t ps) :=
    .ite (.refuse _ _) (.ite (.refuse _ _) (.ite (.refuse _ _) (.ite (.refuse _ _) (.ok
      ((((((((h.set _ _).set _ _).set _ _).set _ _).set _ _).set _ _).set _ _).setTdcMode _ _)))))
theorem Keeps.execTdcConfig (h : Keeps s t) (c : CmdIn) : OutKeeps s (execTdcConfig c t) := .next (h.runOp ((Keeps.refl t).tdcConfig _))
theorem Keeps.tdcCalibrate (h : Keeps s t) (mask : Nat) : Keeps s (t.tdcCalibrate mask) := h.orBits _ _
theorem Keeps.tdcCalibrateBody (h : Keeps s t) (ps : List Nat) : CmdRes.Keeps s (tdcCalibrateBody t ps) :=
    .ite (.refuse _ _) (.ite (.refuse _ _) (.ok (h.tdcCalibrate _)))
theorem Keeps.execTdcCalibrate (h : Keeps s t) (c : CmdIn) : OutKeeps s (execTdcCalibrate c t) :=
    .next (h.runOp ((Keeps.refl t).tdcCalibrateBody _))
theorem Keeps.tdcRead (h : Keeps s t) (ps : List Nat) : CmdRes.Keeps s (tdcRead t ps) :=
    .ite (.refuse _ _) (.ite (.refuse _ _) (.ite (.refuse _ _) (.done ((h.setTdc _ _).set _ _) _ _)))
theorem Keeps.execTdcRead (h : Keeps s t) (c : CmdIn) : OutKeeps s (execTdcRead c t) := .next (h.runOp ((Keeps.refl t).tdcRead _))
theorem Keeps.freqData (h : Keeps s t) (n : Fin 8) : Keeps s (t.freqData n).2 := by
  unfold State.freqData
  extract_lets per r
  have hr : Keeps s r.2 := by
    unfold r
    split
    · exact h.pick _ _
    · exact h.pair _
  clear_value r
  exact hr.pair _
theorem Keeps.tdcFreq (h : Keeps s t) (ps : List Nat) : CmdRes.Keeps s (tdcFreq t ps) := by
  unfold Machine.tdcFreq
  extract_lets n d
  have hd : Keeps s d.2 := (h.freqData _).at rfl
  clear_value d
  exact .ite (.refuse _ _) (.ite (.refuse _ _) (.ite (.ite (.done hd _ _) (.ite (.done (hd.startGate _) _ _) (.ite (.done hd _ _) (.done
      (hd.set _ _) _ _)))) (.ite (.refuse _ _) (.done hd _ _))))
theorem Keeps.execTdcFreq (h : Keeps s t) (c : CmdIn) : OutKeeps s (execTdcFreq c t) := .next (h.runOp ((Keeps.refl t).tdcFreq _))
theorem Keeps.tdcGetStatus (h : Keeps s t) (x : List Nat) : CmdRes.Keeps s (tdcGetStatus t x) := .data h _
theorem Keeps.execTdcGetStatus (h : Keeps s t) (c : CmdIn) : OutKeeps s (execTdcGetStatus c t) := .next (h.runOp ((Keeps.refl t).tdcGetStatus _))

end Sys2Proof.Machine
end

section
/-! SUPPORT. The functions of Sys2Proof/Machine/Cal.lean keep the canonical forms and the queue. -/

namespace Sys2Proof.Machine
variable {s t u : State}
theorem Keeps.onRx (h : Keeps s t) (k : Keeps s u) : Keeps s (t.onRx u) := h.onDom (h.onFab k) _

/-! ### Estimates (R436) -/

theorem Keeps.drawInt (h : Keeps s t) : Keeps s t.drawInt.2 := h.draw.pair _
theorem Keeps.estimate (h : Keeps s t) (f : Nat) (x : Vector CalAcc 3) : Keeps s (t.estimate f x).2 := by
  unfold State.estimate
  refine Keeps.foldl_snd (fun p a => ?_) _ (h.pair _)
  extract_lets src put a2 b c
  have ha2 : Keeps p.2 a2.2 := ((Keeps.refl _).drawInt).at rfl
  clear_value a2
  have hb : Keeps p.2 b.2 := ha2.drawInt.at rfl
  clear_value b
  have hc : Keeps p.2 c.2 := (hb.pick _ _).at rfl
  clear_value c
  split
  · exact (Keeps.refl _).pair _
  · exact hc.pair _

/-! ### The set in force (R441, R442) -/

theorem Keeps.putSet (h : Keeps s t) (f : Nat) (pairs : List (Fin 3)) (e : CalEst) : Keeps s (t.putSet f pairs e) :=
    h.foldl (fun u _ => (((((Keeps.refl u).set _ _).set _ _).set _ _).set _ _).set _ _) _
theorem Keeps.putRecord (h : Keeps s t) (f : Fib) (ws : List Nat) : Keeps s (t.putRecord f ws) :=
    ((((h.foldl (fun u _ => (Keeps.refl u).set _ _) _).foldl (fun u _ => (((Keeps.refl u).set _ _).set _ _).set _ _) _).set _ _).set _ _).set _ _

/-! ### Requests (R438) -/

theorem Keeps.calRequest (h : Keeps s t) (f : Fib) : Keeps s (t.calRequest f) := Keeps.ite ((h.setCalState _ _).inc _) h
theorem Keeps.calTemp (h : Keeps s t) (f : Fib) : Keeps s (t.calTemp f) := Keeps.ite (h.calRequest _) h
theorem Keeps.execCalCtrlRun (h : Keeps s t) (f : Fib) : OutKeeps s (execCalCtrlRun f t) := .next (h.onReg (h.calRequest _) _)
theorem Keeps.execCalCtrlAbort (h : Keeps s t) (f : Fib) : OutKeeps s (execCalCtrlAbort f t) := .next (h.onReg (h.calAbort _) _)
theorem Keeps.execRetryWaitExpiry (h : Keeps s t) (f : Fib) : OutKeeps s (execRetryWaitExpiry f t) :=
    .next (h.onRx (Keeps.ite ((h.set _ _).calTemp _) h))

/-! ### Accumulations (R436, R437, R439, R440) -/

theorem Keeps.execAccumulationStart (h : Keeps s t) (f : Fib) : OutKeeps s (execAccumulationStart f t) :=
    .next (h.onRx (Keeps.ite ((h.setCalState _ _).setCal _ _) h))
theorem Keeps.calJudge (h : Keeps s t) (f : Fib) (a : CalEst) (b : CalEst) : Keeps s (t.calJudge f a b) := by
  unfold State.calJudge
  extract_lets ps m dis rng s1
  have hs1 : Keeps s s1 := Keeps.ite (h.raise _ _) h
  clear_value s1
  exact Keeps.ite (((Keeps.ite (hs1.raise _ _) hs1).inc _).calRetry _) ((h.setCalState _ _).setCal _ _)
theorem Keeps.execAccumulationComplete (h : Keeps s t) (f : Fib) (b : Bool) : OutKeeps s (execAccumulationComplete f b t) := by
  unfold Machine.execAccumulationComplete
  extract_lets e e2
  have he : Keeps s e.2 := (h.estimate _ _).at rfl
  clear_value e
  have he2 : Keeps s e2.2 := (h.estimate _ _).at rfl
  clear_value e2
  refine .next (h.onRx (Keeps.ite ((he.setCalState _ _).setCal _ _) (Keeps.ite ?_ h)))
  split
  · exact he2.calJudge _ _ _
  · exact h
theorem Keeps.execAccumulationTimeout (h : Keeps s t) (f : Fib) : OutKeeps s (execAccumulationTimeout f t) :=
    .next (h.onRx (Keeps.ite (h.calAbort _) h))
theorem Keeps.execCalApply (h : Keeps s t) (f : Fib) : OutKeeps s (execCalApply f t) := by
  unfold Machine.execCalApply
  refine .next (h.onRx (Keeps.ite h ?_))
  split
  · exact ((h.putRecord _ _).set _ _).setCal _ _
  · exact Keeps.ite ((((((((h.putSet _ _ _).set _ _).set _ _).set _ _).setB _ _).raise _ _).setCalState _ _).setCal _ _) h
  · exact h

/-! ### Opcodes (R444) -/

theorem Keeps.calRun (h : Keeps s t) (ps : List Nat) : CmdRes.Keeps s (calRun t ps) :=
    .ite (.already h) (.ite (.refuse _ _) (.ok (h.calRequest _)))
theorem Keeps.execCalRun (h : Keeps s t) (c : CmdIn) : OutKeeps s (execCalRun c t) := .next (h.runOp ((Keeps.refl t).calRun _))
theorem Keeps.putCalCfg (h : Keeps s t) (f : Nat) (cfg : Nat) (tol : Nat) : Keeps s (t.putCalCfg f cfg tol) :=
    (((((((h.set _ _).set _ _).set _ _).set _ _).set _ _).set _ _).set _ _).set _ _
theorem Keeps.calConfig (h : Keeps s t) (ps : List Nat) : CmdRes.Keeps s (calConfig t ps) :=
    .ite (.refuse _ _) (.ite (.refuse _ _) (.ok (((((h.set _ _).set _ _).set _ _).putCalCfg _ _ _).calTemp _)))
theorem Keeps.execCalConfig (h : Keeps s t) (c : CmdIn) : OutKeeps s (execCalConfig c t) := .next (h.runOp ((Keeps.refl t).calConfig _))
theorem Keeps.calRead (h : Keeps s t) (ps : List Nat) : CmdRes.Keeps s (calRead t ps) := .data h _
theorem Keeps.execCalRead (h : Keeps s t) (c : CmdIn) : OutKeeps s (execCalRead c t) := .next (h.runOp ((Keeps.refl t).calRead _))
theorem Keeps.calWrite (h : Keeps s t) (ps : List Nat) : CmdRes.Keeps s (calWrite t ps) :=
    .ite (.refuse _ _) (.ite (.refuse _ _) (.ite (.ok (h.putRecord _ _)) (.done ((h.set _ _).setCal _ _) _ _)))
theorem Keeps.execCalWrite (h : Keeps s t) (c : CmdIn) : OutKeeps s (execCalWrite c t) := .next (h.runOp ((Keeps.refl t).calWrite _))
theorem Keeps.calGetStatus (h : Keeps s t) (ps : List Nat) : CmdRes.Keeps s (calGetStatus t ps) := .data h _
theorem Keeps.execCalGetStatus (h : Keeps s t) (c : CmdIn) : OutKeeps s (execCalGetStatus c t) := .next (h.runOp ((Keeps.refl t).calGetStatus _))

end Sys2Proof.Machine
end

section
/-! SUPPORT. The functions of Sys2Proof/Machine/Emit.lean keep the canonical forms and the queue. -/

namespace Sys2Proof.Machine
variable {s t u : State}
theorem Keeps.setEmit (h : Keeps s t) (g : EmitRun → EmitRun) : Keeps s (t.setEmit g) := h.same rfl rfl rfl rfl rfl
theorem Keeps.setSink (h : Keeps s t) (c : Fin 4) (g : Sink → Sink) : Keeps s (t.setSink c g) := h.setEmit _
theorem Keeps.onMgmt (h : Keeps s t) (k : Keeps s u) : Keeps s (t.onMgmt u) := h.onDom k _

/-! ### Current sinks (R445–R449) -/

theorem Keeps.setApplied (h : Keeps s t) (c : Fin 4) (v : Nat) : Keeps s (t.setApplied c v) := (h.set _ _).set _ _
theorem Keeps.sinkSet (h : Keeps s t) (c : Fin 4) : Keeps s (t.sinkSet c) := Keeps.ite h (Keeps.ite (h.setSink _ _) h)
theorem Keeps.execRampStep (h : Keeps s t) (c : Fin 4) : OutKeeps s (execRampStep c t) :=
    .next (h.onMgmt (Keeps.ite ((h.setApplied _ _).setSink _ _) h))
theorem Keeps.modulate (h : Keeps s t) (c : Fin 4) : Keeps s (t.modulate c) := by
  unfold State.modulate
  extract_lets code s2 spread p
  have hs2 : Keeps s s2 := Keeps.ite (h.setApplied _ _) h
  clear_value s2
  have hp : Keeps s p.2 := by
    unfold p
    split
    · exact hs2.pick _ _
    · exact hs2.pair _
  clear_value p
  exact hp.setSink _ _
theorem Keeps.execSinkTemperatureRead (h : Keeps s t) (c : Fin 4) (temp : BitVec 16) : OutKeeps s (execSinkTemperatureRead c temp t) := by
  unfold Machine.execSinkTemperatureRead
  extract_lets s1 s2
  have hs1 : Keeps s s1 := h.set _ _
  clear_value s1
  have hs2 : Keeps s s2 := ((hs1.setApplied _ _).setSink _ _).orBits _ _
  clear_value s2
  exact .next (h.onMgmt (Keeps.ite (Keeps.ite hs2 ((((hs2.raise _ _).inc _).lifeAdd _ _).logEvent _ _ _ _)) hs1))

/-! ### Drive chain (R450–R452) -/

theorem Keeps.setChain (h : Keeps s t) (en : Bool) : Keeps s (t.setChain en) :=
    Keeps.ite (Keeps.ite ((h.set _ _).setEmit _) h) (Keeps.ite (h.setEmit _) (h.set _ _))
theorem Keeps.chainGo (h : Keeps s t) : Keeps s t.chainGo := Keeps.ite ((h.set _ _).setEmit _) h
theorem Keeps.execDchGo (h : Keeps s t) : OutKeeps s (execDchGo t) := .next (h.onReg h.chainGo _)
theorem Keeps.chainReply (h : Keeps s t) : Keeps s t.chainReply := by
  unfold State.chainReply
  split
  · exact ((h.setEmit _).answer _ _ _ _ _ _).retire _ _ _
  · exact h
theorem Keeps.execDchTransferComplete (h : Keeps s t) : OutKeeps s (execDchTransferComplete t) := by
  unfold Machine.execDchTransferComplete
  extract_lets s1
  have hs1 : Keeps s s1 := (h.set _ _).raise _ _
  clear_value s1
  exact .next (h.onMgmt (Keeps.ite ((Keeps.ite ((hs1.set _ _).setEmit _) hs1).chainReply) h))

/-! ### Opcodes (R454) -/

theorem Keeps.putSink (h : Keeps s t) (c : Fin 4) (v : Nat) : Keeps s (t.putSink c v) := (((h.set _ _).set _ _).set _ _).sinkSet _
theorem Keeps.emitSet (h : Keeps s t) (ps : List Nat) : CmdRes.Keeps s (emitSet t ps) := by
  unfold Machine.emitSet
  extract_lets c s1
  have hs1 : Keeps s s1 := h.putSink _ _
  clear_value s1
  exact .ite (.refuse _ _) (.done hs1 _ _)
theorem Keeps.execEmitSet (h : Keeps s t) (c : CmdIn) : OutKeeps s (execEmitSet c t) := .next (h.runOp ((Keeps.refl t).emitSet _))
theorem Keeps.emitRestart (h : Keeps s t) (ps : List Nat) : CmdRes.Keeps s (emitRestart t ps) :=
    .ite (.refuse _ _) (.ite (.refuse _ _) (.ite (.already h) (.ok (((h.set _ _).setSink _ _).sinkSet _))))
theorem Keeps.execEmitRestart (h : Keeps s t) (c : CmdIn) : OutKeeps s (execEmitRestart c t) := .next (h.runOp ((Keeps.refl t).emitRestart _))
theorem Keeps.dchWrite (h : Keeps s t) (ps : List Nat) : CmdRes.Keeps s (dchWrite t ps) := by
  unfold Machine.dchWrite
  extract_lets taken s1
  have hs1 : Keeps s s1 := (h.set _ _).set _ _
  clear_value s1
  split
  · exact .ite (.ok (h.setChain _)) (.already h)
  · exact .ite (.already h) (.ite (.refuse _ _) (.ok (h.setChain _)))
  · exact .ite (.refuse _ _) (.ite (.refuse _ _) (.ok ((hs1.foldl (fun u _ => (Keeps.refl u).set _ _) _).chainGo)))
  · exact .refuse _ _
theorem Keeps.execDchWrite (h : Keeps s t) (c : CmdIn) : OutKeeps s (execDchWrite c t) :=
    .next (Keeps.ite (Keeps.ite h ((h.state (Keeps.judge (h.dchWrite _))).setEmit _)) (h.runOp ((Keeps.refl t).dchWrite _)))
theorem Keeps.emitGetStatus (h : Keeps s t) (x : List Nat) : CmdRes.Keeps s (emitGetStatus t x) := .data h _
theorem Keeps.execEmitGetStatus (h : Keeps s t) (c : CmdIn) : OutKeeps s (execEmitGetStatus c t) :=
    .next (h.runOp ((Keeps.refl t).emitGetStatus _))

end Sys2Proof.Machine
end

section
/-! SUPPORT. The functions of Sys2Proof/Machine/Flash.lean keep the canonical forms and the queue. -/

namespace Sys2Proof.Machine
variable {s t u : State}
theorem Keeps.setMgmt (h : Keeps s t) (g : MgmtRun → MgmtRun) : Keeps s (t.setMgmt g) := h.same rfl rfl rfl rfl rfl

/-! ### The boot selection record (R344) -/

theorem Keeps.selWrite (h : Keeps s t) (r : Nat × Nat × Nat) : Keeps s (t.selWrite r) := by
  unfold State.selWrite
  split
  exact (h.flashErase _ _).flashPut _ _

/-! ### Lifetime records (R357, R358) -/

theorem Keeps.lifeAppend (h : Keeps s t) (ok : Bool) : Keeps s (t.lifeAppend ok) := by
  unfold State.lifeAppend
  extract_lets s1 b at_ bad src s3 s2
  have hs1 : Keeps s s1 := h.setMgmt _
  clear_value s1
  have hsrc : Keeps s src := hs1.flashAppend _ _ _ _
  clear_value src
  have hs3 : Keeps s s3 := hsrc.same rfl rfl rfl rfl rfl
  clear_value s3
  have hs2 : Keeps s s2 := Keeps.ite (hs1.flashAppend _ _ _ _) (((hs3.flashAppend _ _ _ _).raise _ _).logEvent _ _ _ _)
  clear_value s2
  exact hs2.set _ _

/-! ### The persistent event log (R355) -/

theorem Keeps.persistAppend (h : Keeps s t) : Keeps s t.persistAppend := by
  unfold State.persistAppend
  split
  · exact h
  · exact (h.setMgmt _).flashAppend _ _ _ _

end Sys2Proof.Machine
end

section
/-! SUPPORT. The functions of Sys2Proof/Machine/Pmon.lean keep the canonical forms and the queue. -/

namespace Sys2Proof.Machine
variable {s t u : State}
theorem Keeps.setPmon (h : Keeps s t) (g : PmonRun → PmonRun) : Keeps s (t.setPmon g) := h.same rfl rfl rfl rfl rfl
theorem Keeps.pmonClear (h : Keeps s t) : Keeps s t.pmonClear := (h.set _ _).setPmon _
theorem Keeps.execPmonClr (h : Keeps s t) : OutKeeps s (execPmonClr t) := .next (h.onReg h.pmonClear _)
theorem Keeps.pmonSnap (h : Keeps s t) : Keeps s t.pmonSnap :=
    ((((h.foldl (fun u _ => (Keeps.refl u).pmonCopy _) _).set _ _).set _ _).raise _ _).setPmon _
theorem Keeps.snapGo (h : Keeps s t) : Keeps s t.snapGo := Keeps.ite h.pmonSnap h
theorem Keeps.execPmonSnapGo (h : Keeps s t) : OutKeeps s (execPmonSnapGo t) := .next (h.onReg h.snapGo _)

/-! ### Bandwidth windows (R484) -/

theorem Keeps.bwGo (h : Keeps s t) : Keeps s t.bwGo := Keeps.ite h ((h.set _ _).setPmon _)
theorem Keeps.execPmonBwGo (h : Keeps s t) : OutKeeps s (execPmonBwGo t) := .next (h.onReg h.bwGo _)
theorem Keeps.execBandwidthWindowClose (h : Keeps s t) : OutKeeps s (execBandwidthWindowClose t) := by
  unfold Machine.execBandwidthWindowClose
  refine .next (h.onCore ?_)
  split
  · exact Keeps.ite ((((h.set _ _).raise _ _).setB _ _).setPmon _) h
  · exact h
theorem Keeps.cntLoRead (h : Keeps s t) (n : Fin 8) : Keeps s (t.cntLoRead n).2 := (h.set _ _).pair _
theorem Keeps.execPmonCntLoRead (h : Keeps s t) (n : Fin 8) : OutKeeps s (execPmonCntLoRead n t) := .next (h.onReg (h.cntLoRead _) _)

/-! ### Opcodes (R486) -/

theorem Keeps.pmonPut (h : Keeps s t) (k' : Nat) (v : Nat) : Keeps s (t.pmonPut k' v) := (((h.set _ _).set _ _).set _ _).set _ _
theorem Keeps.pmonConfig (h : Keeps s t) (ps : List Nat) : CmdRes.Keeps s (pmonConfig t ps) :=
    .ite (.refuse _ _) (.ite (.refuse _ _) (.ok (h.pmonPut _ _)))
theorem Keeps.execPmonConfig (h : Keeps s t) (c : CmdIn) : OutKeeps s (execPmonConfig c t) := .next (h.runOp ((Keeps.refl t).pmonConfig _))
theorem Keeps.pmonSnapshot (h : Keeps s t) (ps : List Nat) : CmdRes.Keeps s (pmonSnapshot t ps) := by
  unfold Machine.pmonSnapshot
  extract_lets s1 s2
  have hs1 : Keeps s s1 := Keeps.ite h.pmonClear h
  clear_value s1
  have hs2 : Keeps s s2 := (Keeps.ite (hs1.set _ _) hs1).pmonSnap
  clear_value s2
  exact .ite (.refuse _ _) (.done hs2 _ _)
theorem Keeps.execPmonSnapshot (h : Keeps s t) (c : CmdIn) : OutKeeps s (execPmonSnapshot c t) := .next (h.runOp ((Keeps.refl t).pmonSnapshot _))
theorem Keeps.pmonRead (h : Keeps s t) (x : List Nat) : CmdRes.Keeps s (pmonRead t x) := .data h _
theorem Keeps.execPmonRead (h : Keeps s t) (c : CmdIn) : OutKeeps s (execPmonRead c t) :=
    .next (Keeps.ite (Keeps.ite h (h.setPmon _)) (h.runOp ((Keeps.refl t).pmonRead _)))
theorem Keeps.tickPmon (h : Keeps s t) : Keeps s t.tickPmon := by
  unfold State.tickPmon
  split
  · exact Keeps.ite h (Keeps.ite (h.setPmon _) (((h.setPmon _).answer _ _ _ _ _ _).retire _ _ _))
  · exact h
theorem Keeps.pmonBw (h : Keeps s t) (ps : List Nat) : CmdRes.Keeps s (pmonBw t ps) :=
    .ite (.refuse _ _) (.ite (.ite (.already h) (.ok (((h.set _ _).set _ _).bwGo))) (.ite (.refuse _ _) (.data h _)))
theorem Keeps.execPmonBw (h : Keeps s t) (c : CmdIn) : OutKeeps s (execPmonBw c t) := .next (h.runOp ((Keeps.refl t).pmonBw _))
theorem Keeps.pmonGetStatus (h : Keeps s t) (x : List Nat) : CmdRes.Keeps s (pmonGetStatus t x) := .data h _
theorem Keeps.execPmonGetStatus (h : Keeps s t) (c : CmdIn) : OutKeeps s (execPmonGetStatus c t) :=
    .next (h.runOp ((Keeps.refl t).pmonGetStatus _))

end Sys2Proof.Machine
end

section
/-! SUPPORT. The functions of Sys2Proof/Machine/Pwr.lean keep the canonical forms and the queue. -/

namespace Sys2Proof.Machine
variable {s t u : State}

/-! ### Clocks (R28, R456, R457) -/

theorem Keeps.execSamplingPllStart (h : Keeps s t) : OutKeeps s (execSamplingPllStart t) := by
  unfold Machine.execSamplingPllStart
  extract_lets s1
  have hs1 : Keeps s s1 := h.set _ _
  clear_value s1
  exact .next (Keeps.ite (hs1.setPwr _) hs1)
theorem Keeps.execSamplingPllLock (h : Keeps s t) : OutKeeps s (execSamplingPllLock t) :=
    .next (Keeps.ite (((((h.set _ _).set _ _).set _ _).setPwr _).setPmon _) h)
theorem Keeps.execRefclkSmpBad (h : Keeps s t) : OutKeeps s (execRefclkSmpBad t) := by
  unfold Machine.execRefclkSmpBad
  extract_lets s1 s2 s3
  have hs1 : Keeps s s1 := h.set _ _
  clear_value s1
  have hs2 : Keeps s s2 := (((hs1.raise _ _).logEvent _ _ _ _).calAbort _).calAbort _
  clear_value s2
  have hs3 : Keeps s s3 := (hs2.setRxf _ _).setRxf _ _
  clear_value s3
  exact .next (Keeps.ite ((((hs3.set _ _).set _ _).set _ _).setPwr _) hs1)

/-! ### DRAM in self-refresh and the retention store (R377, R458, R466, R470) -/

theorem Keeps.selfRefresh (h : Keeps s t) : Keeps s t.selfRefresh :=
    Keeps.ite ((h.setPwr _).foldl (fun u _ => Keeps.ite (((Keeps.refl u).set _ _).setDram _ _) (Keeps.refl u)) _) h
theorem Keeps.leaveSelfRefresh (h : Keeps s t) : Keeps s t.leaveSelfRefresh :=
    h.foldl (fun u _ => Keeps.ite (((Keeps.refl u).set _ _).channelUp _) (Keeps.refl u)) _

/-! ### Operating points (R460–R462) -/

theorem Keeps.opGo (h : Keeps s t) (op : Nat) (dst : Option Nat) : Keeps s (t.opGo op dst) := ((Keeps.ite h (h.set _ _)).set _ _).setPwr _

/-! ### Requests (R464–R467) -/

theorem Keeps.hold (h : Keeps s t) (r : PwrReq) : Keeps s (t.hold r) := ((Keeps.ite (h.raise _ _) h).set _ _).setPwr _
theorem Keeps.stopFed (h : Keeps s t) : Keeps s t.stopFed := h.foldl (fun u _ => Keeps.ite ((Keeps.refl u).quitEngine _ _) (Keeps.refl u)) _
theorem Keeps.enterReduced (h : Keeps s t) : Keeps s t.enterReduced := by
  unfold State.enterReduced
  extract_lets rays s1 s2
  have hs1 : Keeps s s1 := h.setPwr _
  clear_value s1
  have hs2 : Keeps s s2 := ((hs1.setGroups _ _ _).setGroups _ _ _).stopFed
  clear_value s2
  exact Keeps.ite (hs2.set _ _) (hs2.opGo _ _)
theorem Keeps.leaveReduced (h : Keeps s t) : Keeps s t.leaveReduced := by
  unfold State.leaveReduced
  extract_lets s1
  have hs1 : Keeps s s1 := (h.setGroups _ _ _).setGroups _ _ _
  clear_value s1
  exact Keeps.ite (hs1.set _ _) (hs1.opGo _ _)
theorem Keeps.acceptEntry (h : Keeps s t) (t' : Nat) : Keeps s (t.acceptEntry t') := ((h.set _ _).set _ _).setPwr _
theorem Keeps.stateReq (h : Keeps s t) (v : Nat) : PwrAns.Keeps s (t.stateReq v) :=
    PwrAns.Keeps.ite trivial (PwrAns.Keeps.ite trivial (PwrAns.Keeps.ite trivial (PwrAns.Keeps.ite trivial (PwrAns.Keeps.ite (PwrAns.Keeps.ite
      (h.wakeUp _) h.leaveReduced) (PwrAns.Keeps.ite h.enterReduced (h.acceptEntry _))))))
theorem Keeps.pwrRequest (h : Keeps s t) (r : PwrReq) : PwrAns.Keeps s (t.pwrRequest r) :=
    PwrAns.Keeps.ite trivial (PwrAns.Keeps.ite trivial (PwrAns.Keeps.ite trivial (PwrAns.Keeps.ite (h.hold _) (PwrAns.Keeps.ite (h.stateReq _)
      (h.opGo _ _)))))
theorem Keeps.pwrDone (h : Keeps s t) : Keeps s t.pwrDone := by
  unfold State.pwrDone
  extract_lets s1
  have hs1 : Keeps s s1 := (h.set _ _).setPwr _
  clear_value s1
  split
  · exact hs1
  · next s2 _ r _ =>
    have hs2 : Keeps s s2 := (hs1.set _ _).setPwr _
    clear_value s2
    have hr := hs2.pwrRequest r
    revert hr
    cases s2.pwrRequest r with
    | ok v => exact id
    | pending v => exact id
    | already => exact fun _ => hs2
    | denied => exact fun _ => Keeps.ite (hs2.raise _ _) hs2
    | bad => exact fun _ => Keeps.ite (hs2.raise _ _) hs2
theorem Keeps.opDone (h : Keeps s t) : Keeps s t.opDone := by
  unfold State.opDone
  refine Keeps.pwrDone ?_
  split
  · exact h.set _ _
  · exact h
theorem Keeps.pwrGo (h : Keeps s t) (isState : Bool) : Keeps s (t.pwrGo isState) := by
  unfold State.pwrGo
  generalize (⟨isState, if isState then t.get Reg.PWR_REQ_STATE else t.get Reg.PWR_REQ_OP, true⟩ : PwrReq) = r
  have hr := h.pwrRequest r
  revert hr
  cases t.pwrRequest r with
  | ok v => exact id
  | pending v => exact id
  | already => exact fun _ => h
  | denied => exact fun _ => h.raise _ _
  | bad => exact fun _ => h.raise _ _
theorem Keeps.execGoState (h : Keeps s t) : OutKeeps s (execGoState t) := .next (h.pwrGo _)
theorem Keeps.execGoOp (h : Keeps s t) : OutKeeps s (execGoOp t) := .next (h.pwrGo _)
theorem Keeps.execVoltageConfirm (h : Keeps s t) (mv : Nat) : OutKeeps s (execVoltageConfirm mv t) := by
  unfold Machine.execVoltageConfirm
  refine .next ?_
  split
  · exact Keeps.ite ((h.set _ _).opDone) h
  · exact h.opDone
  · exact h
theorem Keeps.execVsettleTimeout (h : Keeps s t) : OutKeeps s (execVsettleTimeout t) := by
  unfold Machine.execVsettleTimeout
  refine .next ?_
  split
  · exact Keeps.ite (h.setPwr _) h
  · exact h
theorem Keeps.opTick (h : Keeps s t) : Keeps s t.opTick := by
  unfold State.opTick
  split
  · exact Keeps.ite h.opDone h
  · exact Keeps.ite ((h.raise _ _).opDone) h
  · exact h

/-! ### Entry and wake (R459, R466–R470) -/

theorem Keeps.idleGroups (h : Keeps s t) : Keeps s t.idleGroups := Keeps.ite (h.foldl (fun u _ => (Keeps.refl u).idleLane _) _) h
theorem Keeps.exitGroups (h : Keeps s t) : Keeps s t.exitGroups := Keeps.ite (h.foldl (fun u _ => (Keeps.refl u).exitLane _) _) h
theorem Keeps.execStateEntryComplete (h : Keeps s t) : OutKeeps s (execStateEntryComplete t) := by
  unfold Machine.execStateEntryComplete
  refine .next ?_
  split
  · extract_lets s1 s2 pend s3 s32 s4 s5
    have hs1 : Keeps s s1 := h.idleGroups.selfRefresh
    clear_value s1
    have hs2 : Keeps s s2 := Keeps.ite (hs1.lifeAppend _) hs1
    clear_value s2
    have hs3 : Keeps s s3 := hs2.leaveSelfRefresh.exitGroups
    clear_value s3
    have hs32 : Keeps s s32 := (hs2.set _ _).inc _
    clear_value s32
    have hs4 : Keeps s s4 := ((hs32.domainOff _).domainOff _).domainOff _
    clear_value s4
    have hs5 : Keeps s s5 := Keeps.ite ((hs4.domainOff _).domainOff _) hs4
    clear_value s5
    exact Keeps.ite (((((hs3.set _ _).raise _ _).inc _).set _ _).pwrDone) (((hs5.set _ _).setPwr _).pwrDone)
  · exact h
theorem Keeps.execWakeNLow (h : Keeps s t) : OutKeeps s (execWakeNLow t) := .next (h.wakeFire _)
theorem Keeps.execSpiWake (h : Keeps s t) : OutKeeps s (execSpiWake t) := .next (Keeps.ite (h.wakeFire _) h)
theorem Keeps.execWakeTimerExpiry (h : Keeps s t) : OutKeeps s (execWakeTimerExpiry t) := .next (Keeps.ite (h.wakeFire _) h)
theorem Keeps.execLinkWake (h : Keeps s t) : OutKeeps s (execLinkWake t) := .next (h.onLane (Keeps.ite (h.wakeFire _) h))

/-! ### Resets by pins and supplies (R471–R473, R489) -/

theorem Keeps.execPorstNAssert (h : Keeps s t) : OutKeeps s (execPorstNAssert t) := .next (h.fullReset _)
theorem Keeps.execSupplyBrownout (h : Keeps s t) : OutKeeps s (execSupplyBrownout t) := .next (h.fullReset _)

/-! ### Opcodes (R476) -/

theorem Keeps.pwrAnswer {r : PwrAns} (h : Keeps s t) (hr : r.Keeps s) : CmdRes.Keeps s (pwrAnswer t r) := by
  cases r with
  | ok v => exact hr
  | pending v => exact hr
  | already => exact h
  | denied => exact Keeps.refl s
  | bad => exact Keeps.refl s
theorem Keeps.pwrState (h : Keeps s t) (ps : List Nat) : CmdRes.Keeps s (pwrState t ps) := .ite (.refuse _ _) (h.pwrAnswer (h.pwrRequest _))
theorem Keeps.execPwrState (h : Keeps s t) (c : CmdIn) : OutKeeps s (execPwrState c t) := .next (h.runOp ((Keeps.refl t).pwrState _))
theorem Keeps.pwrOp (h : Keeps s t) (ps : List Nat) : CmdRes.Keeps s (pwrOp t ps) := .ite (.refuse _ _) (h.pwrAnswer (h.pwrRequest _))
theorem Keeps.execPwrOp (h : Keeps s t) (c : CmdIn) : OutKeeps s (execPwrOp c t) := .next (h.runOp ((Keeps.refl t).pwrOp _))
theorem Keeps.pwrWake (h : Keeps s t) (ps : List Nat) : CmdRes.Keeps s (pwrWake t ps) := .ite (.refuse _ _) (.ok ((h.set _ _).set _ _))
theorem Keeps.execPwrWake (h : Keeps s t) (c : CmdIn) : OutKeeps s (execPwrWake c t) := .next (h.runOp ((Keeps.refl t).pwrWake _))
theorem Keeps.pwrGetStatus (h : Keeps s t) (x : List Nat) : CmdRes.Keeps s (pwrGetStatus t x) := .data h _
theorem Keeps.execPwrGetStatus (h : Keeps s t) (c : CmdIn) : OutKeeps s (execPwrGetStatus c t) := .next (h.runOp ((Keeps.refl t).pwrGetStatus _))

end Sys2Proof.Machine
end

section
/-! SUPPORT. The functions of Sys2Proof/Machine/RegView.lean keep the canonical forms and the queue. -/

namespace Sys2Proof.Machine
variable {s t u : State}

/-! ### High registers latched on a read of the low one (R507) -/

theorem Keeps.latchHigh (h : Keeps s t) (r : LowReg) : Keeps s (t.latchHigh r) := h.set _ _
theorem Keeps.execLatchedLowRead (h : Keeps s t) (r : LowReg) : OutKeeps s (execLatchedLowRead r t) := .next (h.onReg (h.latchHigh _) _)
theorem Keeps.readEffect (h : Keeps s t) (blk : Nat) (off : Nat) : Keeps s (t.readEffect blk off) := by
  unfold State.readEffect
  split
  · exact h.latchHigh _
  · exact Keeps.ite (h.fifoRead _) (Keeps.ite (h.accLatch _) (Keeps.ite (h.cntLoRead _) h))
theorem Keeps.readReg (h : Keeps s t) (blk : Nat) (off : Nat) : Keeps s (t.readReg blk off).2 := (h.readEffect _ _).pair _

end Sys2Proof.Machine
end

section
/-! SUPPORT. The functions of Sys2Proof/Machine/RegWrite.lean keep the canonical forms and the queue. -/

namespace Sys2Proof.Machine
variable {s t u : State}

/-! ### Fields by their Type (R8, R506) -/

theorem Keeps.storeField (h : Keeps s t) (r : Row) (off : Nat) (v : Nat) : Keeps s (t.storeField r off v) := by
  unfold State.storeField
  extract_lets f x
  split
  · exact Keeps.ite (h.set _ _) h
  · exact h.clearBits _ _
  · exact Keeps.ite (h.set _ _) h
  · exact h
theorem Keeps.storeM (h : Keeps s t) (blk : Nat) (off : Nat) (v : Nat) (mask : Nat) : Keeps s (t.storeM blk off v mask) :=
    h.foldl (fun u _ => (Keeps.refl u).storeField _ _ _) _
theorem Keeps.store (h : Keeps s t) (blk : Nat) (off : Nat) (v : Nat) : Keeps s (t.store blk off v) := h.storeM _ _ _ _
theorem Keeps.storeIf (h : Keeps s t) (c : Bool) (blk : Nat) (off : Nat) (v : Nat) : Keeps s (t.storeIf c blk off v) :=
    Keeps.ite (h.store _ _ _) h

/-! ### CLR_CNT -/

theorem Keeps.clrCounters (h : Keeps s t) (b : CntBlk) : Keeps s (t.clrCounters b) := by
  unfold State.clrCounters
  extract_lets s1 src
  have hs1 : Keeps s s1 := h.zero _
  clear_value s1
  exact Keeps.ite (hs1.same rfl rfl rfl rfl rfl) hs1
theorem Keeps.execClrCnt (h : Keeps s t) (b : CntBlk) : OutKeeps s (execClrCnt b t) := .next (h.onReg (h.clrCounters _) _)
theorem Keeps.clrBit (h : Keeps s t) (v : Nat) (b : CntBlk) : Keeps s (t.clrBit v b) := Keeps.ite (h.clrCounters _) h

/-! ### Shot sequencer (R63, R81–R83, R509) -/

theorem Keeps.putSeqCtrl (h : Keeps s t) (f : Fib) (v : Nat) : Keeps s (t.putSeqCtrl f v) := by
  unfold State.putSeqCtrl
  extract_lets off old new me free s1 s2
  have hs1 : Keeps s s1 := by
    unfold s1
    split
    · exact h.tdcRelease _ _
    · exact h
  clear_value s1
  have hs2 : Keeps s s2 := by
    unfold s2
    split
    · exact hs1.tdcAcquire _ _
    · exact hs1
  clear_value s2
  exact Keeps.ite h (Keeps.ite (h.store _ _ _) (Keeps.ite (h.storeM _ _ _ _) ((hs2.store _ _ _).setSq _ _)))
theorem Keeps.putSeqReg (h : Keeps s t) (off : Nat) (v : Nat) : Keeps s (t.putSeqReg off v) :=
    Keeps.ite (Keeps.ite h ((h.writeRefCtrl _).refChanged _)) (Keeps.ite ((h.storeIf _ _ _ _).refChanged _) (Keeps.ite (Keeps.ite h
      (h.putMper _)) (Keeps.ite (h.store _ _ _) (Keeps.ite (h.storeIf _ _ _ _) (Keeps.ite h (Keeps.ite ((h.putSeqCtrl _ _).clrBit _ _)
      (Keeps.ite (h.storeIf _ _ _ _) (Keeps.ite (h.storeIf _ _ _ _) (Keeps.ite (h.storeIf _ _ _ _) (Keeps.ite (Keeps.ite (h.softTrigger _) h)
      (h.store _ _ _)))))))))))

/-! ### Receiver front end (R89, R93, R101, R464) -/

theorem Keeps.putRxfCtrl (h : Keeps s t) (f : Fib) (v : Nat) : Keeps s (t.putRxfCtrl f v) := Keeps.ite h ((h.setGroups _ _ _).storeM _ _ _ _)
theorem Keeps.putPtest (h : Keeps s t) (f : Fib) (v : Nat) : Keeps s (t.putPtest f v) := by
  unfold State.putPtest
  extract_lets s1 d
  have hs1 : Keeps s s1 := h.storeM _ _ _ _
  clear_value s1
  exact Keeps.ite (Keeps.ite (hs1.setPtest _ _) hs1) (Keeps.ite hs1 (hs1.setPtest _ _))
theorem Keeps.putRxfMem (h : Keeps s t) (m : Master) (off : Nat) (v : Nat) : Keeps s (t.putRxfMem m off v) := by
  unfold State.putRxfMem
  extract_lets f s1
  have hs1 : Keeps s s1 := h.write32 _ _ _
  clear_value s1
  exact Keeps.ite h (Keeps.ite (hs1.syncStair _) hs1)
theorem Keeps.putRxfReg (h : Keeps s t) (m : Master) (off : Nat) (v : Nat) : Keeps s (t.putRxfReg m off v) :=
    Keeps.ite (h.store _ _ _) (Keeps.ite (h.putRxfMem _ _ _) (Keeps.ite ((h.putRxfCtrl _ _).clrBit _ _) (Keeps.ite (h.storeIf _ _ _ _)
      (Keeps.ite (h.putPtest _ _) (h.store _ _ _)))))

/-! ### Prism pipeline, position filter, engines and temperature path (R129, R148, R149, R179, R212) -/

theorem Keeps.putPrismReg (h : Keeps s t) (off : Nat) (v : Nat) : Keeps s (t.putPrismReg off v) := by
  unfold State.putPrismReg
  extract_lets f o idle s1 s2
  have hs1 : Keeps s s1 := h.storeM _ _ _ _
  clear_value s1
  have hs2 : Keeps s s2 := Keeps.ite (hs1.startGal _ _) hs1
  clear_value s2
  exact Keeps.ite (h.store _ _ _) (Keeps.ite ((h.storeIf _ _ _ _).clrBit _ _) (Keeps.ite (Keeps.ite (hs2.startGal _ _) hs2) (Keeps.ite
      (h.storeIf _ _ _ _) (h.store _ _ _))))
theorem Keeps.putLoupe (h : Keeps s t) (f : Fib) (l : Nat) (off : Nat) (v : Nat) : Keeps s (t.putLoupe f l off v) := by
  unfold State.putLoupe
  extract_lets t2
  have ht2 : Keeps s t2 := Keeps.ite ((h.storeM _ _ _ _).setLoupeEn _ _ _) (h.store _ _ _)
  clear_value t2
  exact Keeps.ite h ht2
theorem Keeps.putPfilReg (h : Keeps s t) (off : Nat) (v : Nat) : Keeps s (t.putPfilReg off v) :=
    Keeps.ite (h.storeIf _ _ _ _) (Keeps.ite (h.store _ _ _) (Keeps.ite ((Keeps.ite ((h.storeM _ _ _ _).setMainEn _ _) h).clrBit _ _)
      (Keeps.ite (Keeps.ite (h.requestSync _) h) (Keeps.ite (Keeps.ite (h.putLoupe _ _ _ _) h) (Keeps.ite (h.storeIf _ _ _ _)
      (h.store _ _ _))))))
theorem Keeps.putAssign (h : Keeps s t) (k' : Nat) (b : Nat) : Keeps s (t.putAssign k' b) := Keeps.ite (h.set _ _) h
theorem Keeps.putEngReg (h : Keeps s t) (off : Nat) (v : Nat) : Keeps s (t.putEngReg off v) :=
    Keeps.ite ((h.store _ _ _).clrBit _ _) (Keeps.ite (h.foldl (fun u _ => (Keeps.refl u).putAssign _ _) _) (Keeps.ite (h.foldl (fun u _ =>
      (Keeps.refl u).putAssign _ _) _) (Keeps.ite (h.storeM _ _ _ _) (Keeps.ite (h.store _ _ _) (Keeps.ite (Keeps.ite (Keeps.ite h
      (h.startEngine _)) (Keeps.ite (Keeps.ite h (h.quitEngine _ _)) h)) (Keeps.ite (h.storeIf _ _ _ _) (h.store _ _ _)))))))
theorem Keeps.putBrilReg (h : Keeps s t) (off : Nat) (v : Nat) : Keeps s (t.putBrilReg off v) := by
  unfold State.putBrilReg
  extract_lets f o stopped s1
  have hs1 : Keeps s s1 := Keeps.ite (h.storeM _ _ _ _) h
  clear_value s1
  exact Keeps.ite (h.store _ _ _) (Keeps.ite ((Keeps.ite hs1 (hs1.setBrilEn _ _)).clrBit _ _) (Keeps.ite (h.storeIf _ _ _ _) (Keeps.ite
      (h.storeIf _ _ _ _) (h.store _ _ _))))

/-! ### Loss watch and output (R217, R218, R227, R230, R249, R255) -/

theorem Keeps.putCapCtrl (h : Keeps s t) (v : Nat) : Keeps s (t.putCapCtrl v) := by
  unfold State.putCapCtrl
  extract_lets s1
  have hs1 : Keeps s s1 := h.storeM _ _ _ _
  clear_value s1
  exact Keeps.ite h (Keeps.ite hs1.startCapture hs1)
theorem Keeps.putMaskCtrl (h : Keeps s t) (f : Fib) (v : Nat) : Keeps s (t.putMaskCtrl f v) := h.setMaskCtrl _ _
theorem Keeps.putLwReg (h : Keeps s t) (off : Nat) (v : Nat) : Keeps s (t.putLwReg off v) :=
    Keeps.ite (h.putCapCtrl _) (Keeps.ite (h.storeIf _ _ _ _) (Keeps.ite (h.store _ _ _) (Keeps.ite ((h.setLwEn _ _).clrBit _ _) (Keeps.ite
      (h.putMaskCtrl _ _) (Keeps.ite ((h.store _ _ _).armTrig _ _) (h.store _ _ _))))))
theorem Keeps.putStreams (h : Keeps s t) (f : Nat) (v : Nat) : Keeps s (t.putStreams f v) :=
    Keeps.ite (h.foldl (fun u _ => Keeps.ite (Keeps.refl u) ((Keeps.refl u).setStreamEn _ _)) _) h
theorem Keeps.putOutReg (h : Keeps s t) (off : Nat) (v : Nat) : Keeps s (t.putOutReg off v) :=
    Keeps.ite (((h.setUserEn _ _).setUserEn _ _).clrBit _ _) (Keeps.ite (h.putStreams _ _) (Keeps.ite (h.putStreams _ _) (Keeps.ite (Keeps.ite
      (h.setHoldBase _ _) h) (Keeps.ite (Keeps.ite (h.setHoldBase _ _) h) (h.store _ _ _)))))

/-! ### Lanes and link (R257, R275–R281, R284, R285, R312, R313) -/

theorem Keeps.putLaneReg (h : Keeps s t) (off : Nat) (v : Nat) : Keeps s (t.putLaneReg off v) := by
  unfold State.putLaneReg
  extract_lets n o s1 s0 s12 s2 s22
  have hs1 : Keeps s s1 := (((h.storeM _ _ _ _).applyCtle _).setLaneMode _ _).setLaneEn _ _
  clear_value s1
  have hs0 : Keeps s s0 := h.store _ _ _
  clear_value s0
  have hs12 : Keeps s s12 := Keeps.ite hs0 (hs0.setLane _ _)
  clear_value s12
  have hs2 : Keeps s s2 := Keeps.ite hs12 (hs12.prbsRestart _)
  clear_value s2
  have hs22 : Keeps s s22 := Keeps.ite (hs0.esBegin _) hs0
  clear_value s22
  exact Keeps.ite ((h.setRate _ _).setRate _ _) (Keeps.ite (h.store _ _ _) (Keeps.ite ((Keeps.ite (hs1.retrainLane _) hs1).clrBit _ _)
      (Keeps.ite ((h.store _ _ _).applyCtle _) (Keeps.ite (Keeps.ite h (Keeps.ite (hs2.injectBit _) hs2)) (Keeps.ite (Keeps.ite
      (hs22.esEnd _) hs22) (h.store _ _ _))))))
theorem Keeps.putGroupReg (h : Keeps s t) (n : Fin 8) (v : Nat) : Keeps s (t.putGroupReg n v) :=
    Keeps.ite h ((Keeps.ite (h.set _ _) h).putGroup _ _ _ _)
theorem Keeps.putLinkReg (h : Keeps s t) (off : Nat) (v : Nat) : Keeps s (t.putLinkReg off v) :=
    Keeps.ite (h.clrBit _ _) (Keeps.ite (Keeps.ite (h.setId _ _) h) (Keeps.ite (Keeps.ite (h.putGroupReg _ _) (h.storeIf _ _ _ _))
      (h.store _ _ _)))

/-! ### DRAM, memory integrity, time measurement (R385, R396, R411) -/

theorem Keeps.putDramReg (h : Keeps s t) (off : Nat) (v : Nat) : Keeps s (t.putDramReg off v) :=
    Keeps.ite (h.store _ _ _) (Keeps.ite ((h.storeIf _ _ _ _).clrBit _ _) (Keeps.ite (h.storeIf _ _ _ _) (Keeps.ite (h.dramTemp _ _) (Keeps.ite
      ((h.store _ _ _).panicNow _ _) (Keeps.ite (Keeps.ite ((h.store _ _ _).mrsGo _) (h.store _ _ _)) (Keeps.ite (Keeps.ite
      ((h.store _ _ _).trnStart _) (h.store _ _ _)) (Keeps.ite (Keeps.ite ((h.store _ _ _).fillGo _) (h.store _ _ _)) (h.store _ _ _))))))))
theorem Keeps.putScrubReg (h : Keeps s t) (off : Nat) (v : Nat) : Keeps s (t.putScrubReg off v) := by
  unfold State.putScrubReg
  extract_lets s1
  have hs1 : Keeps s s1 := Keeps.ite h.scrubGo h
  clear_value s1
  exact Keeps.ite ((Keeps.ite hs1.scrubAbort hs1).clrBit _ _) (Keeps.ite (h.storeIf _ _ _ _) (h.store _ _ _))
theorem Keeps.putTdcReg (h : Keeps s t) (off : Nat) (v : Nat) : Keeps s (t.putTdcReg off v) := by
  unfold State.putTdcReg
  extract_lets c n o s1 m
  have hs1 : Keeps s s1 := Keeps.ite (h.storeM _ _ _ _) h
  clear_value s1
  exact Keeps.ite (h.store _ _ _) (Keeps.ite (h.storeIf _ _ _ _) (Keeps.ite h (Keeps.ite ((Keeps.ite hs1 (hs1.setTdcMode _ _)).clrBit _ _)
      (Keeps.ite h (h.storeIf _ _ _ _)))))

/-! ### Housekeeping, calibration, emitters (R415, R416, R424, R431, R443, R450, R453) -/

theorem Keeps.putHkReg (h : Keeps s t) (off : Nat) (v : Nat) : Keeps s (t.putHkReg off v) := by
  unfold State.putHkReg
  extract_lets word s1 s2 a s12 s22
  have hs1 : Keeps s s1 := h.storeM _ _ _ _
  clear_value s1
  have hs2 : Keeps s s2 := hs1.setHkMode _
  clear_value s2
  have hs12 : Keeps s s12 := h.store _ _ _
  clear_value s12
  have hs22 : Keeps s s22 := Keeps.ite (hs12.set _ _) hs12
  clear_value s22
  exact Keeps.ite ((Keeps.ite hs2.hkGo hs2).clrBit _ _) (Keeps.ite (h.storeM _ _ _ _) (Keeps.ite ((h.setRtdEn _).foldl (fun u _ => Keeps.ite
      ((Keeps.refl u).rearm _) (Keeps.refl u)) _) (Keeps.ite (Keeps.ite (h.store _ _ _) h) (Keeps.ite (Keeps.ite (h.store _ _ _) h) (Keeps.ite
      (Keeps.ite (hs22.accClear _) hs22) (h.store _ _ _))))))
theorem Keeps.putCalReg (h : Keeps s t) (off : Nat) (v : Nat) : Keeps s (t.putCalReg off v) := by
  unfold State.putCalReg
  extract_lets f o idle s1 s2 s3
  have hs1 : Keeps s s1 := h.store _ _ _
  clear_value s1
  have hs2 : Keeps s s2 := Keeps.ite (hs1.calRequest _) hs1
  clear_value s2
  have hs3 : Keeps s s3 := Keeps.ite (hs2.calAbort _) hs2
  clear_value s3
  exact Keeps.ite (h.store _ _ _) (Keeps.ite ((hs3.calTemp _).clrBit _ _) (Keeps.ite (h.storeIf _ _ _ _) (Keeps.ite (Keeps.ite
      (((h.store _ _ _).set _ _).set _ _) h) (h.store _ _ _))))
theorem Keeps.putEmitReg (h : Keeps s t) (off : Nat) (v : Nat) : Keeps s (t.putEmitReg off v) := by
  unfold State.putEmitReg
  extract_lets s1
  have hs1 : Keeps s s1 := Keeps.ite h (h.setChain _)
  clear_value s1
  exact Keeps.ite (h.clrBit _ _) (Keeps.ite (h.putSink _ _) (Keeps.ite (Keeps.ite hs1.chainGo hs1) (Keeps.ite (h.storeIf _ _ _ _)
      (h.store _ _ _))))

/-! ### Performance counters, power, management (R345, R480, R482, R484, R485, R475) -/

theorem Keeps.putCounter (h : Keeps s t) (k' : Nat) (v : Nat) : Keeps s (t.putCounter k' v) := Keeps.ite h (h.pmonPut _ _)
theorem Keeps.putPmonReg (h : Keeps s t) (off : Nat) (v : Nat) : Keeps s (t.putPmonReg off v) := by
  unfold State.putPmonReg
  extract_lets s1
  have hs1 : Keeps s s1 := Keeps.ite (Keeps.ite h (h.set _ _)) (h.store _ _ _)
  clear_value s1
  exact Keeps.ite ((Keeps.ite h.pmonClear h).store _ _ _) (Keeps.ite (Keeps.ite h.snapGo h) (Keeps.ite (Keeps.ite hs1.bwGo hs1) (Keeps.ite
      (h.putCounter _ _) (h.store _ _ _))))
theorem Keeps.putPwrReg (h : Keeps s t) (off : Nat) (v : Nat) : Keeps s (t.putPwrReg off v) := by
  unfold State.putPwrReg
  extract_lets s1 s2
  have hs1 : Keeps s s1 := h.store _ _ _
  clear_value s1
  have hs2 : Keeps s s2 := Keeps.ite (hs1.pwrGo _) hs1
  clear_value s2
  exact Keeps.ite ((Keeps.ite (hs2.pwrGo _) hs2).clrBit _ _) (h.store _ _ _)
theorem Keeps.putWdt (h : Keeps s t) (m : Master) (v : Nat) : Keeps s (t.putWdt m v) := Keeps.ite ((h.store _ _ _).setMgmt _) h

/-! ### One write -/

theorem Keeps.writeReg (h : Keeps s t) (m : Master) (blk : Nat) (off : Nat) (v : Nat) : Keeps s (t.writeReg m blk off v) := by
  unfold State.writeReg
  split
  · exact h.putSeqReg _ _
  · exact h.putRxfReg _ _ _
  · exact h.putPrismReg _ _
  · exact h.putPfilReg _ _
  · exact h.putEngReg _ _
  · exact h.putBrilReg _ _
  · exact h.putLwReg _ _
  · exact h.putOutReg _ _
  · exact h.putLaneReg _ _
  · exact h.putLinkReg _ _
  · exact (h.store _ _ _).clrBit _ _
  · exact h.putDramReg _ _
  · exact h.putScrubReg _ _
  · exact h.putTdcReg _ _
  · exact h.putHkReg _ _
  · exact h.putCalReg _ _
  · exact h.putEmitReg _ _
  · exact h.putPwrReg _ _
  · exact h.putPmonReg _ _
  · exact Keeps.ite (h.putWdt _ _) (h.store _ _ _)
  · exact h.store _ _ _
theorem Keeps.windowWrite (h : Keeps s t) (m : Master) (a : Nat) (bytes : Nat) (v : Nat) : Keeps s (t.windowWrite m a bytes v) := by
  unfold State.windowWrite
  split
  · exact Keeps.ite (h.addrErr _ _) (Keeps.ite (h.raise _ _) (Keeps.ite (h.raise _ _) (Keeps.ite (h.writeReg _ _ _ _)
        (((h.release _).pmonIo _ _ _).writeReg _ _ _ _))))
  · exact Keeps.ite h (h.addrErr _ _)
theorem Keeps.execRegisterWrite (h : Keeps s t) (m : Master) (addr : BitVec 40) (bytes : Nat) (value : BitVec 32) :
    OutKeeps s (execRegisterWrite m addr bytes value t) :=
    .next (h.windowWrite _ _ _ _)

end Sys2Proof.Machine
end

section
/-! SUPPORT. The functions of Sys2Proof/Machine/Cmd.lean keep the canonical forms and the queue. -/

namespace Sys2Proof.Machine
variable {s t u : State}

/-! ### Access to a range of words (R20, R330, R457) -/

theorem Keeps.readAny (h : Keeps s t) (m : Master) (a : Nat) : Keeps s (t.readAny m a).2 := by
  unfold State.readAny
  split
  · extract_lets r r2
    have hr : Keeps s r.2 := (h.readMem _ _).at rfl
    clear_value r
    have hr2 : Keeps s r2.2 := ((h.pmonIo _ _ _).readReg _ _).at rfl
    clear_value r2
    split
    · exact hr.pair _
    · exact hr2.pair _
  · extract_lets r
    have hr : Keeps s r.2 := (h.readMem _ _).at rfl
    clear_value r
    exact hr.pair _
theorem Keeps.readAnys (h : Keeps s t) (m : Master) (a : Nat) (n : Nat) : Keeps s (t.readAnys m a n).2 := by
  unfold State.readAnys
  refine Keeps.foldl_snd (fun p a => ?_) _ (h.pair _)
  extract_lets r
  have hr : Keeps p.2 r.2 := ((Keeps.refl _).readAny _ _).at rfl
  clear_value r
  exact hr.pair _
theorem Keeps.writeAny (h : Keeps s t) (m : Master) (a : Nat) (v : Nat) : Keeps s (t.writeAny m a v) := by
  unfold State.writeAny
  split
  · exact h.windowWrite _ _ _ _
  · exact (h.release _).writeDram _ _ _
  · exact Keeps.ite ((h.write32 _ _ _).replaceKernel _) h
theorem Keeps.writeAnys (h : Keeps s t) (m : Master) (a : Nat) (ws : List Nat) : Keeps s (t.writeAnys m a ws) :=
    h.foldl (fun u _ => (Keeps.refl u).writeAny _ _ _) _

/-! ### READ_REG and WRITE_REG (R330, R331) -/

theorem Keeps.regRead (h : Keeps s t) (ps : List Nat) : CmdRes.Keeps s (regRead t ps) := by
  unfold Machine.regRead
  refine .ite (.refuse _ _) ?_
  split
  · exact .done (h.addrErr _ _) _ _
  · extract_lets r
    have hr : Keeps s r.2 := (h.readAnys _ _ _).at rfl
    clear_value r
    refine .ite (.refuse _ _) ?_
    split <;> exact .done hr _ _
theorem Keeps.execReadReg (h : Keeps s t) (c : CmdIn) : OutKeeps s (execReadReg c t) := .next (h.runOp ((Keeps.refl t).regRead _))
theorem Keeps.regWrite (h : Keeps s t) (ps : List Nat) : CmdRes.Keeps s (regWrite t ps) := by
  unfold Machine.regWrite
  refine .ite (.refuse _ _) ?_
  split
  · exact .done (h.addrErr _ _) _ _
  · split
    · exact .done h _ _
    · exact .ok (h.writeAnys _ _ _)
theorem Keeps.execWriteReg (h : Keeps s t) (c : CmdIn) : OutKeeps s (execWriteReg c t) := .next (h.runOp ((Keeps.refl t).regWrite _))

/-! ### COMMAND_TIMEOUT (R325, R322) -/

theorem Keeps.withdraw (h : Keeps s t) (p : CmdPkt) : Keeps s (t.withdraw p) := by
  unfold State.withdraw
  extract_lets s1 s2 s3
  have hs1 : Keeps s s1 := Keeps.ite (h.setTrk _) h
  clear_value s1
  have hs2 : Keeps s s2 := by
    unfold s2
    refine hs1.foldl (fun u a => ?_) _
    split
    · split
      · exact (Keeps.refl u).setLw _ _
      · exact (Keeps.refl u)
    · exact (Keeps.refl u)
  clear_value s2
  have hs3 : Keeps s s3 := Keeps.ite (hs2.setEmit _) hs2
  clear_value s3
  exact Keeps.ite (hs3.setPmon _) hs3
theorem Keeps.progress (h : Keeps s t) (p : CmdPkt) (written : Nat) : Keeps s (t.progress p written).2 := by
  unfold State.progress
  extract_lets ps a
  split
  · exact (h.writeAnys _ _ _).pair _
  · split
    · exact (Keeps.ite h ((h.firmwareWrite _ _).replaceKernel _)).pair _
    · exact h.pair _
theorem Keeps.execCommandTimeout (h : Keeps s t) (written : Nat) : OutKeeps s (execCommandTimeout written t) := by
  unfold Machine.execCommandTimeout
  refine .next ?_
  split
  · extract_lets r s1
    have hr : Keeps s r.2 := ((h.withdraw _).progress _ _).at rfl
    clear_value r
    have hs1 : Keeps s s1 := (hr.inc _).raise _ _
    clear_value s1
    exact Keeps.ite ((hs1.answer _ _ _ _ _ _).retire _ _ _) h
  · exact h

end Sys2Proof.Machine
end

section
/-! SUPPORT. The functions of Sys2Proof/Machine/Boot.lean keep the canonical forms and the queue. -/

namespace Sys2Proof.Machine
variable {s t u : State}
theorem Keeps.enterPhase (h : Keeps s t) (p : Nat) : Keeps s (t.enterPhase p) := (h.set _ _).setMgmt _
theorem Keeps.enterFault (h : Keeps s t) (why : Nat) : Keeps s (t.enterFault why) := (h.set _ _).setMgmt _
theorem Keeps.writeOpen (h : Keeps s t) (a : Nat) (n : Nat) : Keeps s (t.writeOpen a n) := by
  unfold State.writeOpen
  extract_lets src
  have hsrc : Keeps s src := h.writeRange _ _
  clear_value src
  exact hsrc.same rfl rfl rfl rfl rfl

/-! ### ROM and CONFIG (R341, R347, R348, R456, R473) -/

theorem Keeps.selectBanks (h : Keeps s t) (b : BootIn) : Keeps s (t.selectBanks b) := Keeps.ite h (h.setPwr _)
theorem Keeps.execBoot (h : Keeps s t) (b : BootIn) : OutKeeps s (execBoot b t) := by
  unfold Machine.execBoot
  extract_lets s1 s2
  have hs1 : Keeps s s1 := (((h.selectBanks _).set _ _).setB _ _).set _ _
  clear_value s1
  have hs2 : Keeps s s2 := (hs1.set _ _).writeOpen _ _
  clear_value s2
  exact .next (Keeps.ite h (Keeps.ite ((hs2.setMgmt _).enterPhase _) (hs2.enterFault _)))
theorem Keeps.loadRecord (h : Keeps s t) (ws : List Nat) (slot : Option Nat) : Keeps s (t.loadRecord ws slot) := h.setMgmt _
theorem Keeps.loadDefaults (h : Keeps s t) (k' : Nat) (gen : Nat) : Keeps s (t.loadDefaults k' gen) :=
    ((h.loadRecord _ _).set _ _).logEvent _ _ _ _
theorem Keeps.execConfigLoad (h : Keeps s t) : OutKeeps s (execConfigLoad t) := by
  unfold Machine.execConfigLoad
  refine .next (Keeps.ite h (Keeps.enterPhase ?_ _))
  split
  · exact Keeps.ite (h.loadRecord _ _) (h.loadDefaults _ _)
  · exact h.loadDefaults _ _

/-! ### IMAGE (R344, R346) -/

theorem Keeps.rollback (h : Keeps s t) (img : Nat) (why : Nat) : Keeps s (t.rollback img why) := (h.raise _ _).logEvent _ _ _ _
theorem Keeps.trialBoot (h : Keeps s t) : Keeps s t.trialBoot.2 := by
  unfold State.trialBoot
  extract_lets r q q2
  split
  · exact h.pair _
  · split
    · exact ((h.rollback _ _).selWrite _).pair _
    · exact (h.selWrite _).pair _
theorem Keeps.startImage (h : Keeps s t) (r : Nat × Nat × Nat) : Keeps s (t.startImage r) :=
    ((((((h.writeRange _ _).set _ _).set _ _).set _ _).set _ _).setMgmt _).enterPhase _
theorem Keeps.execImageLoad (h : Keeps s t) : OutKeeps s (execImageLoad t) := by
  unfold Machine.execImageLoad
  refine .next (Keeps.ite h ?_)
  extract_lets s1
  have hs1 := ((h.setB Reg.MGMT_STATUS_IMG_VALID_A (t.imageFault 0 == 0)).setB Reg.MGMT_STATUS_IMG_VALID_B (t.imageFault 1 == 0)).trialBoot
  revert hs1
  change Keeps s s1.trialBoot.2 → _
  obtain ⟨r, u⟩ := s1.trialBoot
  intro hu
  exact Keeps.ite (Keeps.startImage hu _) (Keeps.ite (Keeps.enterFault hu _) (((Keeps.rollback hu _ _).selWrite _).startImage _))

/-! ### INIT (R102, R349, R357, R382, R389, R406) -/

theorem Keeps.cfgEntry (h : Keeps s t) (e : Nat × Nat × Nat) : Keeps s (t.cfgEntry e) :=
    Keeps.ite ((h.raise _ _).logEvent _ _ _ _) (h.writeAny _ _ _)
theorem Keeps.applyEntries (h : Keeps s t) (p : Nat → Bool) : Keeps s (t.applyEntries p) :=
    (h.foldl (fun u _ => (Keeps.refl u).cfgEntry _) _).release _
theorem Keeps.fixedLane (h : Keeps s t) : Keeps s t.fixedLane := (h.windowWrite _ _ _ _).windowWrite _ _ _ _
theorem Keeps.fixedWords (h : Keeps s t) : Keeps s t.fixedWords := (((h.windowWrite _ _ _ _).windowWrite _ _ _ _).windowWrite _ _ _ _).setMgmt _
theorem Keeps.engAuto (h : Keeps s t) : Keeps s t.engAuto := by
  unfold State.engAuto
  refine Keeps.ite (h.foldl (fun u a => ?_) _) h
  extract_lets u2
  have hu2 : Keeps u u2 := Keeps.ite ((Keeps.refl u).loadDefault _) (Keeps.refl u)
  clear_value u2
  exact Keeps.ite hu2 (hu2.startEngine _)
theorem Keeps.dramStart (h : Keeps s t) : Keeps s t.dramStart := by
  unfold State.dramStart
  extract_lets s1
  have hs1 : Keeps s s1 := Keeps.ite ((h.set _ _).set _ _) h
  clear_value s1
  exact Keeps.ite ((hs1.set _ _).set _ _) hs1
theorem Keeps.cfgGroups (h : Keeps s t) : Keeps s t.cfgGroups :=
    h.foldl (fun u _ => Keeps.ite (((Keeps.refl u).set _ _).putGroup _ _ _ _) (Keeps.refl u)) _
theorem Keeps.bootMemory (h : Keeps s t) : Keeps s t.bootMemory :=
    (h.foldl (fun u _ => ((Keeps.refl u).firmwareWrite _ _).firmwareWrite _ _) _).writeOpen _ _
theorem Keeps.coreInit (h : Keeps s t) (pick : Nat → Bool) : Keeps s (t.coreInit pick) :=
    (((((((h.bootMemory.fixedLane.applyEntries _).engAuto).dramStart).startGal _ _).startGal _ _).tdcCalibrate _).cfgGroups).set _ _
theorem Keeps.lifeBoot (h : Keeps s t) : Keeps s t.lifeBoot := (h.setB _ _).setMgmt _
theorem Keeps.enterEarly (h : Keeps s t) : Keeps s t.enterEarly := (h.foldl (fun u _ => (Keeps.refl u).logEnter _ _) _).setMgmt _
theorem Keeps.logBoot (h : Keeps s t) : Keeps s t.logBoot := by
  unfold State.logBoot
  extract_lets cause s1
  have hs1 : Keeps s s1 := h.logEvent _ _ _ _
  clear_value s1
  exact Keeps.ite (hs1.logEvent _ _ _ _) hs1
theorem Keeps.execConfigApply (h : Keeps s t) : OutKeeps s (execConfigApply t) := by
  unfold Machine.execConfigApply
  extract_lets s1 s2
  have hs1 : Keeps s s1 := h.lifeBoot.enterEarly.logBoot.fixedWords.writeRange _ _
  clear_value s1
  have hs2 : Keeps s s2 := Keeps.ite (hs1.coreInit _) (((hs1.applyEntries _).set _ _).setMgmt _)
  clear_value s2
  exact .next (Keeps.ite h (hs2.enterPhase _))

/-! ### Wake from STANDBY, and deferred work (R457, R459, R469) -/

theorem Keeps.restoreChannel (h : Keeps s t) (ch : Chan) : Keeps s (t.restoreChannel ch) :=
    Keeps.ite h ((((h.storeM _ _ _ _).restoreDelays _ _).set _ _).channelUp _)
theorem Keeps.wakeWork (h : Keeps s t) : Keeps s t.wakeWork :=
    ((((((h.applyEntries _).restoreChannel _).restoreChannel _).exitGroups).applyEntries _).engAuto).set _ _
theorem Keeps.execWakeRestoreComplete (h : Keeps s t) : OutKeeps s (execWakeRestoreComplete t) :=
    .next (Keeps.ite (((Keeps.ite h.wakeWork ((h.set _ _).setMgmt _)).set _ _).pwrDone) h)
theorem Keeps.execDeferredInitWork (h : Keeps s t) : OutKeeps s (execDeferredInitWork t) :=
    .next (Keeps.ite h (Keeps.ite ((h.coreInit _).setMgmt _) (Keeps.ite (h.wakeWork.setMgmt _) h)))

/-! ### The watchdog (R345) -/

theorem Keeps.execWatchdogExpiry (h : Keeps s t) : OutKeeps s (execWatchdogExpiry t) := by
  unfold Machine.execWatchdogExpiry
  refine .next ?_
  split
  · exact Keeps.ite (h.fullReset _) h
  · exact h
theorem Keeps.execMgmtWdtWrite (h : Keeps s t) (m : Master) (value : BitVec 32) : OutKeeps s (execMgmtWdtWrite m value t) :=
    .next (h.windowWrite _ _ _ _)

end Sys2Proof.Machine
end

section
/-! SUPPORT. The functions of Sys2Proof/Machine/Mgmt.lean keep the canonical forms and the queue. -/

namespace Sys2Proof.Machine
variable {s t u : State}
theorem Keeps.selfReset (h : Keeps s t) : Keeps s t.selfReset := (h.setCmd _).armReset
theorem Keeps.sramRead {k : List Nat → State → CmdRes} (h : Keeps s t) (a n : Nat) (hk : ∀ ws v, Keeps s v → (k ws v).Keeps s) :
    CmdRes.Keeps s (t.sramRead a n k) := by
  unfold State.sramRead
  extract_lets r
  have hr : Keeps s r.2 := (h.readWords _ _ _).at rfl
  clear_value r
  split
  · exact .done hr.selfReset _ _
  · exact hk _ _ hr

/-! ### Configuration (R347, R350, R351, R365) -/

theorem Keeps.cfgReadBody (h : Keeps s t) (ps : List Nat) : CmdRes.Keeps s (cfgReadBody t ps) := by
  unfold Machine.cfgReadBody
  extract_lets src first n r
  have hr : Keeps s r.2 := (h.readWords _ _ _).at rfl
  clear_value r
  refine .ite (.refuse _ _) (.ite (.refuse _ _) (CmdRes.Keeps.ite ?_ (.ite (.data h _) (.data h _))))
  split <;> exact .done hr _ _
theorem Keeps.execCfgRead (h : Keeps s t) (c : CmdIn) : OutKeeps s (execCfgRead c t) := .next (h.runOp ((Keeps.refl t).cfgReadBody _))
theorem Keeps.cfgWriteBody (h : Keeps s t) (ps : List Nat) : CmdRes.Keeps s (cfgWriteBody t ps) :=
    .ite (.refuse _ _) (.ite (.refuse _ _) (.ok (h.firmwareWrite _ _)))
theorem Keeps.execCfgWrite (h : Keeps s t) (c : CmdIn) : OutKeeps s (execCfgWrite c t) := .next (h.runOp ((Keeps.refl t).cfgWriteBody _))
theorem Keeps.commitSlot (h : Keeps s t) : Keeps s t.commitSlot.2 := by
  unfold State.commitSlot
  split
  · exact h.pair _
  · exact h.pick _ _
theorem Keeps.cfgCommitBody (h : Keeps s t) (ps : List Nat) : CmdRes.Keeps s (cfgCommitBody t ps) := by
  refine h.sramRead _ _ fun ws v hv => .ite (.refuse _ _) (.ite (.refuse _ _) ?_)
  have hc := hv.commitSlot
  revert hc
  obtain ⟨k, u⟩ := v.commitSlot
  intro hu
  exact .done (((Keeps.flashErase hu _ _).flashPut _ _).set _ _ |>.setMgmt _) _ _
theorem Keeps.execCfgCommit (h : Keeps s t) (c : CmdIn) : OutKeeps s (execCfgCommit c t) := .next (h.runOp ((Keeps.refl t).cfgCommitBody _))
theorem Keeps.execCfgCommitComplete (h : Keeps s t) (ok : Bool) : OutKeeps s (execCfgCommitComplete ok t) := by
  unfold Machine.execCfgCommitComplete
  refine .next ?_
  split
  · extract_lets n base s1 src s2
    have hs1 : Keeps s s1 := h.flashPut _ _
    clear_value s1
    have hsrc : Keeps s src := (h.flashErase _ _).flashPut _ _
    clear_value src
    have hs2 : Keeps s s2 := Keeps.ite hs1 (hsrc.same rfl rfl rfl rfl rfl)
    clear_value s2
    exact ((Keeps.ite hs2 (hs2.raise _ _)).set _ _).setMgmt _
  · exact h

/-! ### Firmware update (R351–R353) -/

theorem Keeps.updBeginBody (h : Keeps s t) (ps : List Nat) : CmdRes.Keeps s (updBeginBody t ps) :=
    .ite (.refuse _ _) (.ite (.refuse _ _) (.done (((((Keeps.ite (h.selWrite _) h).set _ _).set _ _).flashErase _ _).setMgmt _) _ _))
theorem Keeps.execUpdBegin (h : Keeps s t) (c : CmdIn) : OutKeeps s (execUpdBegin c t) := .next (h.runOp ((Keeps.refl t).updBeginBody _))
theorem Keeps.execUpdEraseComplete (h : Keeps s t) : OutKeeps s (execUpdEraseComplete t) := by
  unfold Machine.execUpdEraseComplete
  refine .next ?_
  split
  · exact Keeps.ite ((h.set _ _).setMgmt _) h
  · exact h
theorem Keeps.updDataBody (h : Keeps s t) (ps : List Nat) : CmdRes.Keeps s (updDataBody t ps) := by
  unfold Machine.updDataBody
  refine .ite (.refuse _ _) ?_
  split
  · exact .refuse _ _
  · exact .ite (.done h _ _) (.ite (.refuse _ _) (.ite (.refuse _ _) (.done ((h.flashPut _ _).setMgmt _) _ _)))
theorem Keeps.execUpdData (h : Keeps s t) (c : CmdIn) : OutKeeps s (execUpdData c t) := .next (h.runOp ((Keeps.refl t).updDataBody _))
theorem Keeps.updCommitBody (h : Keeps s t) (x : List Nat) : CmdRes.Keeps s (updCommitBody t x) := by
  unfold Machine.updCommitBody
  split
  · exact .refuse _ _
  · exact .ite (.refuse _ _) (.ok ((h.set _ _).setMgmt _))
theorem Keeps.execUpdCommit (h : Keeps s t) (c : CmdIn) : OutKeeps s (execUpdCommit c t) := .next (h.runOp ((Keeps.refl t).updCommitBody _))
theorem Keeps.execUpdVerifyComplete (h : Keeps s t) : OutKeeps s (execUpdVerifyComplete t) := by
  unfold Machine.execUpdVerifyComplete
  refine .next ?_
  split
  · extract_lets f why s1
    have hs1 : Keeps s s1 := (h.set _ _).setMgmt _
    clear_value s1
    exact Keeps.ite h (Keeps.ite (hs1.set _ _) ((hs1.raise _ _).logEvent _ _ _ _))
  · exact h
theorem Keeps.selAnswer (h : Keeps s t) (r : Nat × Nat × Nat) : CmdRes.Keeps s (t.selAnswer r) := by
  unfold State.selAnswer
  extract_lets s1 s2
  have hs1 : Keeps s s1 := (h.selWrite _).set _ _
  clear_value s1
  have hs2 : Keeps s s2 := Keeps.ite (hs1.set _ _) hs1
  clear_value s2
  exact .ite (.done h _ _) (.done hs2 _ _)
theorem Keeps.updSelectBody (h : Keeps s t) (ps : List Nat) : CmdRes.Keeps s (updSelectBody t ps) := by
  unfold Machine.updSelectBody
  refine .ite (.refuse _ _) ?_
  split <;> exact .ite (.refuse _ _) (h.selAnswer _)
theorem Keeps.execUpdSelect (h : Keeps s t) (c : CmdIn) : OutKeeps s (execUpdSelect c t) := .next (h.runOp ((Keeps.refl t).updSelectBody _))

/-! ### The event log (R354, R355, R365) -/

theorem Keeps.logReadBody (h : Keeps s t) (ps : List Nat) : CmdRes.Keeps s (logReadBody t ps) := by
  unfold Machine.logReadBody
  extract_lets n rs next first k r
  have hr : Keeps s r.2 := by
    refine (Keeps.foldl_snd (fun p a => ?_) _ (h.pair _)).at rfl
    extract_lets q
    have hq : Keeps p.2 q.2 := ((Keeps.refl _).readWords _ _ _).at rfl
    clear_value q
    exact hq.pair _
  clear_value r
  exact .ite (.refuse _ _) (.ite (.data h _) (.ite (.done hr.selfReset _ _) (.done hr _ _)))
theorem Keeps.execLogRead (h : Keeps s t) (c : CmdIn) : OutKeeps s (execLogRead c t) := .next (h.runOp ((Keeps.refl t).logReadBody _))
theorem Keeps.execPersistentLogAppend (h : Keeps s t) : OutKeeps s (execPersistentLogAppend t) := .next (h.onMgmt h.persistAppend)

/-! ### Lifetime records (R357, R358) -/

theorem Keeps.sinkSecond (h : Keeps s t) (c : Fin 4) : Keeps s (t.sinkSecond c) := by
  unfold State.sinkSecond
  extract_lets a q s1
  have hs1 : Keeps s s1 := (h.lifeAdd _ _).setMgmt _
  clear_value s1
  exact Keeps.ite hs1 (hs1.lifeAdd _ _)
theorem Keeps.execLifetimeSample (h : Keeps s t) : OutKeeps s (execLifetimeSample t) :=
    .next (Keeps.ite h ((((h.lifeAdd _ _).lifeAdd _ _).setMgmt _).foldl (fun u _ => (Keeps.refl u).sinkSecond _) _))
theorem Keeps.execLifetimeAppend (h : Keeps s t) (ok : Bool) : OutKeeps s (execLifetimeAppend ok t) := .next (Keeps.ite (h.lifeAppend _) h)
theorem Keeps.lifeReadBody (h : Keeps s t) (x : List Nat) : CmdRes.Keeps s (lifeReadBody t x) := .data h _
theorem Keeps.execLifeRead (h : Keeps s t) (c : CmdIn) : OutKeeps s (execLifeRead c t) := .next (h.runOp ((Keeps.refl t).lifeReadBody _))

/-! ### Sensors (R359, R405, R407, R438) -/

theorem Keeps.tjCheck (h : Keeps s t) : Keeps s t.tjCheck := by
  unfold State.tjCheck
  extract_lets ts lim cooled s1 x
  have hs1 : Keeps s s1 := Keeps.ite (h.setMgmt _) h
  clear_value s1
  exact Keeps.ite (((hs1.setMgmt _).raise _ _).logEvent _ _ _ _) hs1
theorem Keeps.execDieSensorUpdate (h : Keeps s t) (temps : Vector (BitVec 16) 8) (mv : Vector (BitVec 16) 10) :
    OutKeeps s (execDieSensorUpdate temps mv t) := by
  unfold Machine.execDieSensorUpdate
  extract_lets s1 s2 s3 s4
  have hs1 : Keeps s s1 := h.foldl (fun u _ => (Keeps.refl u).set _ _) _
  clear_value s1
  have hs2 : Keeps s s2 := hs1.foldl (fun u _ => (Keeps.refl u).set _ _) _
  clear_value s2
  have hs3 : Keeps s s3 := hs2.tjCheck
  clear_value s3
  have hs4 : Keeps s s4 := Keeps.ite ((hs3.calTemp _).calTemp _) hs3
  clear_value s4
  exact .next (Keeps.ite h (Keeps.ite hs2 (Keeps.ite (hs4.tdcCalibrate _) hs4)))
theorem Keeps.moduleRead (h : Keeps s t) (ch : Chan) (r : Option (BitVec 16)) : Keeps s (t.moduleRead ch r) := by
  unfold State.moduleRead
  extract_lets v s1 s2
  have hs1 : Keeps s s1 := h.set _ _
  clear_value s1
  have hs2 : Keeps s s2 := Keeps.ite (hs1.raise _ _) hs1
  clear_value s2
  exact Keeps.ite (hs2.dramTemp _ _) hs2
theorem Keeps.execDramSensorRead (h : Keeps s t) (da : Option (BitVec 16)) (db : Option (BitVec 16)) :
    OutKeeps s (execDramSensorRead da db t) := by
  unfold Machine.execDramSensorRead
  extract_lets s1
  have hs1 : Keeps s s1 := Keeps.ite (h.moduleRead _ _) h
  clear_value s1
  exact .next (Keeps.ite h (Keeps.ite (hs1.moduleRead _ _) hs1))
theorem Keeps.sensorReadBody (h : Keeps s t) (x : List Nat) : CmdRes.Keeps s (sensorReadBody t x) := .data h _
theorem Keeps.execSensorRead (h : Keeps s t) (c : CmdIn) : OutKeeps s (execSensorRead c t) := .next (h.runOp ((Keeps.refl t).sensorReadBody _))
theorem Keeps.mgmtStatusBody (h : Keeps s t) (x : List Nat) : CmdRes.Keeps s (mgmtStatusBody t x) := .data h _
theorem Keeps.execMgmtStatus (h : Keeps s t) (c : CmdIn) : OutKeeps s (execMgmtStatus c t) := .next (h.runOp ((Keeps.refl t).mgmtStatusBody _))

/-! ### Coil temperatures (R429) -/

theorem Keeps.coilUpdate (h : Keeps s t) (c : Nat) : Keeps s (t.coilUpdate c) := by
  unfold State.coilUpdate
  extract_lets a b inj exc t2 drop s1
  have hs1 : Keeps s s1 := Keeps.ite (((Keeps.ite ((h.accLatch _).accClear _) h).accLatch _).accClear _) (Keeps.ite
      ((h.accLatch _).accClear _) h)
  clear_value s1
  clear_value t2
  split
  · exact (hs1.set _ _).set _ _
  · exact hs1.set _ _
theorem Keeps.execCoilTemperatureUpdate (h : Keeps s t) : OutKeeps s (execCoilTemperatureUpdate t) :=
    .next (Keeps.ite (h.foldl (fun u _ => Keeps.ite ((Keeps.refl u).coilUpdate _) (Keeps.refl u)) _) h)

end Sys2Proof.Machine
end

section
/-! SUPPORT. The functions of Sys2Proof/Machine/Monitor.lean keep the canonical forms and the queue. -/

namespace Sys2Proof.Machine
variable {s t u : State}
theorem Keeps.onLine (h : Keeps s t) (k : Keeps s u) : Keeps s (t.onLine u) := Keeps.ite k h
theorem Keeps.monReply (h : Keeps s t) (st : Nat) (ws : List Nat) : Keeps s (t.monReply st ws) := h.setMgmt _
theorem Keeps.monData (h : Keeps s t) (ws : List Nat) : Keeps s (t.monData ws) := h.monReply _ _
theorem Keeps.monAnswer {r : CmdRes} (h : Keeps s t) (hr : r.Keeps s) : Keeps s (t.monAnswer r) := (h.state hr).monReply _ _
theorem Keeps.execMonHelp (h : Keeps s t) : OutKeeps s (execMonHelp t) := .next (h.onLine (h.monData _))
theorem Keeps.execMonIdent (h : Keeps s t) (status : Bool) : OutKeeps s (execMonIdent status t) := .next (h.onLine (h.monData _))
theorem Keeps.execMonLog (h : Keeps s t) (n : Option Nat) : OutKeeps s (execMonLog n t) :=
    .next (h.onLine (Keeps.ite (h.monReply _ _) ((h.state (h.logReadBody _)).monReply _ _)))
theorem Keeps.execMonLife (h : Keeps s t) (sensors : Bool) : OutKeeps s (execMonLife sensors t) :=
    .next (h.onLine (h.monAnswer (.ite (h.sensorReadBody _) (h.lifeReadBody _))))
theorem Keeps.execMonRd (h : Keeps s t) (addr : BitVec 40) (n : Nat) : OutKeeps s (execMonRd addr n t) :=
    .next (h.onLine (Keeps.ite (h.monReply _ _) (h.monAnswer (h.regRead _))))
theorem Keeps.execMonBaud (h : Keeps s t) (code : Fin 8) : OutKeeps s (execMonBaud code t) :=
    .next (h.onLine (((h.monData _).set _ _).setMgmt _))
theorem Keeps.wrongToken (h : Keeps s t) : Keeps s t.wrongToken := by
  unfold State.wrongToken
  extract_lets s1
  have hs1 : Keeps s s1 := ((h.monReply _ _).inc _).setMgmt _
  clear_value s1
  exact Keeps.ite ((hs1.set _ _).logEvent _ _ _ _) hs1
theorem Keeps.execMonUnlock (h : Keeps s t) (token : BitVec 32) : OutKeeps s (execMonUnlock token t) :=
    .next (h.onLine (Keeps.ite (h.monReply _ _) (Keeps.ite ((h.monData _).set _ _) h.wrongToken)))
theorem Keeps.execMonLock (h : Keeps s t) : OutKeeps s (execMonLock t) := .next (h.onLine ((h.monData _).set _ _))
theorem Keeps.execMonWr (h : Keeps s t) (addr : BitVec 40) (value : BitVec 32) : OutKeeps s (execMonWr addr value t) := by
  unfold Machine.execMonWr
  refine .next (h.onLine (Keeps.ite (h.monReply _ _) ?_))
  split
  · exact (h.addrErr _ _).monReply _ _
  · split
    · exact h.monReply _ _
    · exact (h.writeAny _ _ _).monReply _ _
theorem Keeps.execMonReset (h : Keeps s t) : OutKeeps s (execMonReset t) :=
    .next (h.onLine (Keeps.ite ((h.monData _).selfReset) (h.monReply _ _)))
theorem Keeps.execMonitorSessionTimeout (h : Keeps s t) : OutKeeps s (execMonitorSessionTimeout t) := .next (h.onMgmt (Keeps.ite (h.set _ _) h))

end Sys2Proof.Machine
end

section
/-! SUPPORT. The functions of Sys2Proof/Machine/Tick.lean keep the canonical forms and the queue. -/

namespace Sys2Proof.Machine
variable {s t u : State}
theorem Keeps.tickOut (h : Keeps s t) : Keeps s t.tickOut := Keeps.ite ((h.inc _).pmonAdd _ _ _) h
theorem Keeps.tickEng (h : Keeps s t) : Keeps s t.tickEng := h.foldl (fun u _ => Keeps.ite ((Keeps.refl u).inc _) (Keeps.refl u)) _
theorem Keeps.tickPanic (h : Keeps s t) (ch : Chan) : Keeps s (t.tickPanic ch) := by
  unfold State.tickPanic
  extract_lets ps s1
  have hs1 : Keeps s s1 := h.foldl (fun u _ => (Keeps.refl u).inc _) _
  clear_value s1
  exact Keeps.ite hs1 (hs1.pmonAdd _ _ _)
theorem Keeps.tickFab (h : Keeps s t) : Keeps s t.tickFab := by
  unfold State.tickFab
  exact (((((((((h.pmonAdd _ _ _).tickOut).tickEng).tickPanic _).tickPanic _).tickQclr _).tickQclr _).tickScrub).foldl (fun u _ => Keeps.ite
      ((Keeps.refl u).tickStamps _) (Keeps.refl u)) _).tickPmon
theorem Keeps.tickEmit (h : Keeps s t) : Keeps s t.tickEmit := Keeps.ite (h.foldl (fun u _ => (Keeps.refl u).modulate _) _) h
theorem Keeps.tick (h : Keeps s t) : Keeps s t.tick := by
  unfold State.tick
  extract_lets s1 s2
  have hs1 : Keeps s s1 := by
    unfold s1
    refine Keeps.opTick ?_
    exact h.same rfl rfl rfl rfl rfl
  clear_value s1
  have hs2 : Keeps s s2 := (Keeps.ite hs1.tickFab hs1).tickEmit
  clear_value s2
  split
  · exact hs2.fullReset _
  · exact hs2

end Sys2Proof.Machine
end

section
/-! SUPPORT. The dispatch and the step keep the canonical forms and the queue. -/

namespace Sys2Proof.Machine
variable {s t u : State}

/-- Every command keeps the canonical forms and the queue. -/
theorem exec_keeps (i : Instr) (h : Keeps s t) : OutKeeps s (exec i t) := by
  cases i with
  | registerWrite m addr bytes value => exact h.execRegisterWrite m addr bytes value
  | latchedLowRead r => exact h.execLatchedLowRead r
  | clrCnt b => exact h.execClrCnt b
  | transmitArbiterServe g => exact h.execTransmitArbiterServe g
  | refclkSmpBad => exact h.execRefclkSmpBad
  | samplingPllStart => exact h.execSamplingPllStart
  | samplingPllLock => exact h.execSamplingPllLock
  | deferredInitWork => exact h.execDeferredInitWork
  | trackerRefit stamp => exact h.execTrackerRefit stamp
  | internalReferenceLock => exact h.execInternalReferenceLock
  | flightEpochSet at_ => exact h.execFlightEpochSet at_
  | referenceLost => exact h.execReferenceLost
  | holdoverLimitStop => exact h.execHoldoverLimitStop
  | holdoverPhaseCheck => exact h.execHoldoverPhaseCheck
  | markerEdge stamp => exact h.execMarkerEdge stamp
  | launchHandover f => exact h.execLaunchHandover f
  | shotLaunch f => exact h.execShotLaunch f
  | lmonEdge f stamp => exact h.execLmonEdge f stamp
  | lmonWindowClose f => exact h.execLmonWindowClose f
  | hardwareTrigger f src => exact h.execHardwareTrigger f src
  | timeTrigger f => exact h.execTimeTrigger f
  | seqTrigGo f => exact h.execSeqTrigGo f
  | runStart f => exact h.execRunStart f
  | flightEnd f => exact h.execFlightEnd f
  | runAbort f => exact h.execRunAbort f
  | drainComplete f => exact h.execDrainComplete f
  | stopAtBoundary f => exact h.execStopAtBoundary f
  | pageSwitchApply f => exact h.execPageSwitchApply f
  | seqConfig c => exact h.execSeqConfig c
  | seqRef c => exact h.execSeqRef c
  | seqFlightWrite c => exact h.execSeqFlightWrite c
  | seqPeriod c => exact h.execSeqPeriod c
  | seqPageSwitch c => exact h.execSeqPageSwitch c
  | seqArm c => exact h.execSeqArm c
  | seqTrigger c => exact h.execSeqTrigger c
  | seqStop c => exact h.execSeqStop c
  | seqEpoch c => exact h.execSeqEpoch c
  | seqGetStatus c => exact h.execSeqGetStatus c
  | seqLmon c => exact h.execSeqLmon c
  | probeTestEmit f => exact h.execProbeTestEmit f
  | converterGroupReady f bril => exact h.execConverterGroupReady f bril
  | gainStep f entry ofs => exact h.execGainStep f entry ofs
  | rxfProbeWrite c => exact h.execRxfProbeWrite c
  | rxfCodeWrite c => exact h.execRxfCodeWrite c
  | rxfStairWrite c => exact h.execRxfStairWrite c
  | rxfGate c => exact h.execRxfGate c
  | rxfPower c => exact h.execRxfPower c
  | rxfProbeTest c => exact h.execRxfProbeTest c
  | rxfGetStatus c => exact h.execRxfGetStatus c
  | envelopeWord f raw => exact h.execEnvelopeWord f raw
  | holdoffExpiry f => exact h.execHoldoffExpiry f
  | eventFifoTransfer f => exact h.execEventFifoTransfer f
  | alarmPulseExpiry f => exact h.execAlarmPulseExpiry f
  | prismResponse f r => exact h.execPrismResponse f r
  | landingRunWrite k shot => exact h.execLandingRunWrite k shot
  | landingFlushTimeout k => exact h.execLandingFlushTimeout k
  | galInit f => exact h.execGalInit f
  | galInitComplete f => exact h.execGalInitComplete f
  | qclr f => exact h.execQclr f
  | qclrComplete f => exact h.execQclrComplete f
  | spectrumDelivery f pos => exact h.execSpectrumDelivery f pos
  | descriptorPost f => exact h.execDescriptorPost f
  | doneSeqPoll f => exact h.execDoneSeqPoll f
  | resultAreaRead f => exact h.execResultAreaRead f
  | prismConfig c => exact h.execPrismConfig c
  | prismGallery c => exact h.execPrismGallery c
  | prismGalInit c => exact h.execPrismGalInit c
  | prismQclear c => exact h.execPrismQclear c
  | prismBril c => exact h.execPrismBril c
  | prismMfInfo c => exact h.execPrismMfInfo c
  | prismGetStatus c => exact h.execPrismGetStatus c
  | brickWrite f => exact h.execBrickWrite f
  | tileSetProcess f => exact h.execTileSetProcess f
  | tileSetRelease f => exact h.execTileSetRelease f
  | fadeComplete f => exact h.execFadeComplete f
  | pfilSyncGo f => exact h.execPfilSyncGo f
  | pfilConfig c => exact h.execPfilConfig c
  | pfilMemSetup c => exact h.execPfilMemSetup c
  | pfilCoefWrite c => exact h.execPfilCoefWrite c
  | pfilSwap c => exact h.execPfilSwap c
  | pfilSync c => exact h.execPfilSync c
  | pfilLoupe c => exact h.execPfilLoupe c
  | pfilBudget c => exact h.execPfilBudget c
  | pfilGetStatus c => exact h.execPfilGetStatus c
  | frameHandover => exact h.execFrameHandover
  | frameEncode => exact h.execFrameEncode
  | blockEncode => exact h.execBlockEncode
  | frameTail => exact h.execFrameTail
  | dropMarkerSend sid => exact h.execDropMarkerSend sid
  | userAreaPoll de15 => exact h.execUserAreaPoll de15
  | outStream c => exact h.execOutStream c
  | outCmp c => exact h.execOutCmp c
  | outMemSetup c => exact h.execOutMemSetup c
  | outCmpSave c => exact h.execOutCmpSave c
  | outCmpRestore c => exact h.execOutCmpRestore c
  | outSnapRead c => exact h.execOutSnapRead c
  | outUser c => exact h.execOutUser c
  | outGetStatus c => exact h.execOutGetStatus c
  | dekCtrlStart k => exact h.execDekCtrlStart k
  | dekCtrlStop k => exact h.execDekCtrlStop k
  | dmaComplete k ch => exact h.execDmaComplete k ch
  | landingWaitResume k => exact h.execLandingWaitResume k
  | dmaWaitResume k => exact h.execDmaWaitResume k
  | frameOutputResume k => exact h.execFrameOutputResume k
  | qualityReportApply k => exact h.execQualityReportApply k
  | alarmPostAccept k => exact h.execAlarmPostAccept k
  | externalAccessWaitExpiry k => exact h.execExternalAccessWaitExpiry k
  | meminitComplete k => exact h.execMeminitComplete k
  | engAssign c => exact h.execEngAssign c
  | engSpan c => exact h.execEngSpan c
  | engGauge c => exact h.execEngGauge c
  | engLoad c => exact h.execEngLoad c
  | engRead c => exact h.execEngRead c
  | engStart c => exact h.execEngStart c
  | engStop c => exact h.execEngStop c
  | engMeminit c => exact h.execEngMeminit c
  | engDefault c => exact h.execEngDefault c
  | engGetStatus c => exact h.execEngGetStatus c
  | addOp k => exact h.execAddOp k
  | subOp k => exact h.execSubOp k
  | andOp k => exact h.execAndOp k
  | orOp k => exact h.execOrOp k
  | xorOp k => exact h.execXorOp k
  | shlOp k => exact h.execShlOp k
  | shr k => exact h.execShr k
  | sra k => exact h.execSra k
  | mulOp k => exact h.execMulOp k
  | slt k => exact h.execSlt k
  | sltu k => exact h.execSltu k
  | li k => exact h.execLi k
  | mts k => exact h.execMts k
  | mfs k => exact h.execMfs k
  | ovr k => exact h.execOvr k
  | lpop k => exact h.execLpop k
  | br k => exact h.execBr k
  | bz k => exact h.execBz k
  | bnz k => exact h.execBnz k
  | bltz k => exact h.execBltz k
  | bgez k => exact h.execBgez k
  | jal k => exact h.execJal k
  | jr k => exact h.execJr k
  | loopOp k => exact h.execLoopOp k
  | nopOp k => exact h.execNopOp k
  | breakOp k => exact h.execBreakOp k
  | haltOp k => exact h.execHaltOp k
  | illegal k => exact h.execIllegal k
  | vadd k => exact h.execVadd k
  | vsub k => exact h.execVsub k
  | vadds k => exact h.execVadds k
  | vsubs k => exact h.execVsubs k
  | vand k => exact h.execVand k
  | vor k => exact h.execVor k
  | vxor k => exact h.execVxor k
  | vsra k => exact h.execVsra k
  | vcmplt k => exact h.execVcmplt k
  | valign k => exact h.execValign k
  | veven k => exact h.execVeven k
  | vodd k => exact h.execVodd k
  | vsplat k => exact h.execVsplat k
  | vext k => exact h.execVext k
  | vins k => exact h.execVins k
  | vmove k => exact h.execVmove k
  | macOp k => exact h.execMacOp k
  | msu k => exact h.execMsu k
  | macf k => exact h.execMacf k
  | msuf k => exact h.execMsuf k
  | mpy k => exact h.execMpy k
  | mpyf k => exact h.execMpyf k
  | clra k => exact h.execClra k
  | lda k => exact h.execLda k
  | satv k => exact h.execSatv k
  | ld k => exact h.execLd k
  | stOp k => exact h.execStOp k
  | sst k => exact h.execSst k
  | lwait k => exact h.execLwait k
  | ltest k => exact h.execLtest k
  | lrd k => exact h.execLrd k
  | lrel k => exact h.execLrel k
  | dstart k => exact h.execDstart k
  | dwait k => exact h.execDwait k
  | fout k => exact h.execFout k
  | fclose k => exact h.execFclose k
  | qrep k => exact h.execQrep k
  | alarmOp k => exact h.execAlarmOp k
  | brilConfig c => exact h.execBrilConfig c
  | brilMemSetup c => exact h.execBrilMemSetup c
  | brilEnable c => exact h.execBrilEnable c
  | brilCoil c => exact h.execBrilCoil c
  | brilDump c => exact h.execBrilDump c
  | brilGetStatus c => exact h.execBrilGetStatus c
  | maskFillComplete f => exact h.execMaskFillComplete f
  | maskLearnComplete f => exact h.execMaskLearnComplete f
  | captureRecord => exact h.execCaptureRecord
  | lwEnable c => exact h.execLwEnable c
  | lwTrigger c => exact h.execLwTrigger c
  | lwHoldoff c => exact h.execLwHoldoff c
  | lwMaskConfig c => exact h.execLwMaskConfig c
  | lwMaskWrite c => exact h.execLwMaskWrite c
  | lwMaskFill c => exact h.execLwMaskFill c
  | lwMaskLearn c => exact h.execLwMaskLearn c
  | lwAlarm c => exact h.execLwAlarm c
  | lwCapture c => exact h.execLwCapture c
  | lwLastEvent c => exact h.execLwLastEvent c
  | lwGetStatus c => exact h.execLwGetStatus c
  | refclkLaneBad => exact h.execRefclkLaneBad
  | refclkLaneOk => exact h.execRefclkLaneOk
  | lanePllLock q => exact h.execLanePllLock q
  | detectAttempt n found => exact h.execDetectAttempt n found
  | bitLock n => exact h.execBitLock n
  | trainTimeout n => exact h.execTrainTimeout n
  | blockReceive n b => exact h.execBlockReceive n b
  | idleEntry n => exact h.execIdleEntry n
  | fastExit n => exact h.execFastExit n
  | retrain n => exact h.execRetrain n
  | testModeEntry n test => exact h.execTestModeEntry n test
  | esStart n => exact h.execEsStart n
  | esAbort n => exact h.execEsAbort n
  | esScanDone n errors => exact h.execEsScanDone n errors
  | injBit n => exact h.execInjBit n
  | injRateInjection n => exact h.execInjRateInjection n
  | downGroupStart n => exact h.execDownGroupStart n
  | packetReceive n p => exact h.execPacketReceive n p
  | timingSetReceive n ts arrival => exact h.execTimingSetReceive n ts arrival
  | regularAm n => exact h.execRegularAm n
  | replayTimeout n => exact h.execReplayTimeout n
  | timingSetSend n departure => exact h.execTimingSetSend n departure
  | echoRequest departure => exact h.execEchoRequest departure
  | routeSend => exact h.execRouteSend
  | linkRunTrigger => exact h.execLinkRunTrigger
  | linkSetId c => exact h.execLinkSetId c
  | linkGroup c => exact h.execLinkGroup c
  | linkTimingCfg c => exact h.execLinkTimingCfg c
  | linkRunStart c => exact h.execLinkRunStart c
  | linkLoop c => exact h.execLinkLoop c
  | linkTopology c => exact h.execLinkTopology c
  | linkRttStatus c => exact h.execLinkRttStatus c
  | linkGetStatus c => exact h.execLinkGetStatus c
  | commandPacketReceive src bytes => exact h.execCommandPacketReceive src bytes
  | commandDequeue => exact h.execCommandDequeue
  | commandTimeout written => exact h.execCommandTimeout written
  | spiPoll => exact h.execSpiPoll
  | cmdWrite bytes => exact h.execCmdWrite bytes
  | rplyRead bytes => exact h.execRplyRead bytes
  | spiBadOp op => exact h.execSpiBadOp op
  | nopCommand c => exact h.execNopCommand c
  | identCmd c => exact h.execIdentCmd c
  | statusCmd c => exact h.execStatusCmd c
  | readReg c => exact h.execReadReg c
  | writeReg c => exact h.execWriteReg c
  | resetCmd c => exact h.execResetCmd c
  | factoryTest op c => exact h.execFactoryTest op c
  | boot b => exact h.execBoot b
  | configLoad => exact h.execConfigLoad
  | imageLoad => exact h.execImageLoad
  | configApply => exact h.execConfigApply
  | dramBringup ch b => exact h.execDramBringup ch b
  | watchdogExpiry => exact h.execWatchdogExpiry
  | mgmtWdtWrite m value => exact h.execMgmtWdtWrite m value
  | cfgCommitComplete ok => exact h.execCfgCommitComplete ok
  | updEraseComplete => exact h.execUpdEraseComplete
  | updVerifyComplete => exact h.execUpdVerifyComplete
  | persistentLogAppend => exact h.execPersistentLogAppend
  | lifetimeSample => exact h.execLifetimeSample
  | lifetimeAppend ok => exact h.execLifetimeAppend ok
  | dieSensorUpdate temps mv => exact h.execDieSensorUpdate temps mv
  | dramSensorRead da db => exact h.execDramSensorRead da db
  | coilTemperatureUpdate => exact h.execCoilTemperatureUpdate
  | monHelp => exact h.execMonHelp
  | monIdent status => exact h.execMonIdent status
  | monLog n => exact h.execMonLog n
  | monLife sensors => exact h.execMonLife sensors
  | monRd addr n => exact h.execMonRd addr n
  | monBaud code => exact h.execMonBaud code
  | monUnlock token => exact h.execMonUnlock token
  | monLock => exact h.execMonLock
  | monWr addr value => exact h.execMonWr addr value
  | monReset => exact h.execMonReset
  | monitorSessionTimeout => exact h.execMonitorSessionTimeout
  | mgmtStatus c => exact h.execMgmtStatus c
  | cfgRead c => exact h.execCfgRead c
  | cfgWrite c => exact h.execCfgWrite c
  | cfgCommit c => exact h.execCfgCommit c
  | updBegin c => exact h.execUpdBegin c
  | updData c => exact h.execUpdData c
  | updCommit c => exact h.execUpdCommit c
  | updSelect c => exact h.execUpdSelect c
  | logRead c => exact h.execLogRead c
  | lifeRead c => exact h.execLifeRead c
  | sensorRead c => exact h.execSensorRead c
  | dramRequest ch rq => exact h.execDramRequest ch rq
  | refreshTimerExpiry ch rank => exact h.execRefreshTimerExpiry ch rank
  | bankIdleTimeout ch rank bank => exact h.execBankIdleTimeout ch rank bank
  | dramcTempWrite ch temp => exact h.execDramcTempWrite ch temp
  | tempStaleTimeout ch => exact h.execTempStaleTimeout ch
  | zqcsInterval ch => exact h.execZqcsInterval ch
  | dramcMrsGo ch => exact h.execDramcMrsGo ch
  | trnStart ch => exact h.execTrnStart ch
  | trainingPassComplete ch pass => exact h.execTrainingPassComplete ch pass
  | fillGo ch => exact h.execFillGo ch
  | fillComplete ch => exact h.execFillComplete ch
  | combiningTimeout m => exact h.execCombiningTimeout m
  | scrubGo => exact h.execScrubGo
  | scrubAbort => exact h.execScrubAbort
  | scrubPassComplete => exact h.execScrubPassComplete
  | scrubWaitExpiry => exact h.execScrubWaitExpiry
  | scrubInj mode => exact h.execScrubInj mode
  | edgeStamp ip e => exact h.execEdgeStamp ip e
  | gateClose n => exact h.execGateClose n
  | tdcCalibrationComplete ip hist => exact h.execTdcCalibrationComplete ip hist
  | fifo0Read n => exact h.execFifo0Read n
  | tdcConfig c => exact h.execTdcConfig c
  | tdcCalibrate c => exact h.execTdcCalibrate c
  | tdcRead c => exact h.execTdcRead c
  | tdcFreq c => exact h.execTdcFreq c
  | tdcGetStatus c => exact h.execTdcGetStatus c
  | hkConversionComplete x => exact h.execHkConversionComplete x
  | hkSettleExpiry => exact h.execHkSettleExpiry
  | periodBoundary => exact h.execPeriodBoundary
  | hkStart => exact h.execHkStart
  | accClr a => exact h.execAccClr a
  | accCntRead a => exact h.execAccCntRead a
  | rtdRearm k => exact h.execRtdRearm k
  | hkSeqConfig c => exact h.execHkSeqConfig c
  | hkInject c => exact h.execHkInject c
  | hkWindow c => exact h.execHkWindow c
  | hkRtd c => exact h.execHkRtd c
  | hkReadAcc c => exact h.execHkReadAcc c
  | hkGetStatus c => exact h.execHkGetStatus c
  | calCtrlRun f => exact h.execCalCtrlRun f
  | calCtrlAbort f => exact h.execCalCtrlAbort f
  | accumulationStart f => exact h.execAccumulationStart f
  | accumulationComplete f b => exact h.execAccumulationComplete f b
  | accumulationTimeout f => exact h.execAccumulationTimeout f
  | calApply f => exact h.execCalApply f
  | retryWaitExpiry f => exact h.execRetryWaitExpiry f
  | calRun c => exact h.execCalRun c
  | calConfig c => exact h.execCalConfig c
  | calRead c => exact h.execCalRead c
  | calWrite c => exact h.execCalWrite c
  | calGetStatus c => exact h.execCalGetStatus c
  | rampStep c => exact h.execRampStep c
  | sinkTemperatureRead c temp => exact h.execSinkTemperatureRead c temp
  | dchGo => exact h.execDchGo
  | dchTransferComplete => exact h.execDchTransferComplete
  | emitSet c => exact h.execEmitSet c
  | emitRestart c => exact h.execEmitRestart c
  | dchWrite c => exact h.execDchWrite c
  | emitGetStatus c => exact h.execEmitGetStatus c
  | goState => exact h.execGoState
  | goOp => exact h.execGoOp
  | voltageConfirm mv => exact h.execVoltageConfirm mv
  | vsettleTimeout => exact h.execVsettleTimeout
  | stateEntryComplete => exact h.execStateEntryComplete
  | wakeNLow => exact h.execWakeNLow
  | spiWake => exact h.execSpiWake
  | wakeTimerExpiry => exact h.execWakeTimerExpiry
  | linkWake => exact h.execLinkWake
  | wakeRestoreComplete => exact h.execWakeRestoreComplete
  | porstNAssert => exact h.execPorstNAssert
  | supplyBrownout => exact h.execSupplyBrownout
  | pwrState c => exact h.execPwrState c
  | pwrOp c => exact h.execPwrOp c
  | pwrWake c => exact h.execPwrWake c
  | pwrGetStatus c => exact h.execPwrGetStatus c
  | pmonClr => exact h.execPmonClr
  | pmonSnapGo => exact h.execPmonSnapGo
  | pmonBwGo => exact h.execPmonBwGo
  | bandwidthWindowClose => exact h.execBandwidthWindowClose
  | pmonCntLoRead k => exact h.execPmonCntLoRead k
  | pmonConfig c => exact h.execPmonConfig c
  | pmonSnapshot c => exact h.execPmonSnapshot c
  | pmonRead c => exact h.execPmonRead c
  | pmonBw c => exact h.execPmonBw c
  | pmonGetStatus c => exact h.execPmonGetStatus c
  | cdrLockLost n => exact h.execCdrLockLost n
  | prbsBitReceive n bit => exact h.execPrbsBitReceive n bit
  | blockSlotTransmit n => exact h.execBlockSlotTransmit n
  | dramCommandSlot ch => exact h.execDramCommandSlot ch
/-- A step takes the first command from the queue, if there is one, and else one cycle; what it answers is as sound as the state
without that command. -/
theorem step_keeps (s : State) : OutKeeps { s with pending := s.pending.tail } (step s) := by
  unfold step
  split
  next hq =>
    have hs : Keeps { s with pending := s.pending.tail } s := Keeps.of id id id id (by simp [hq])
    exact .next hs.tick
  next c rest hq =>
    have hs : { s with pending := s.pending.tail } = { s with pending := rest } := by simp [hq]
    rw [hs]
    exact exec_keeps c (Keeps.refl _)
/-- Soundness speaks of the stores, not of the queue. -/
theorem wf_pending (s : State) (q : List Instr) : State.wf { s with pending := q } = s.wf := rfl

end Sys2Proof.Machine

namespace Sys2Proof.Proofs
open Sys2Proof.Machine

/-- Settles O5, one lemma for every function that answers a state: what it leaves is as sound as what it was given, and the queue
is untouched; `step` itself drops the first command. -/
theorem stepKeepsSound : Obligations.StepKeepsSound := by
  unfold Obligations.StepKeepsSound Claim.stepKeepsSound
  intro s t hwf hstep
  obtain ⟨hsound, hqueue⟩ := step_keeps s t hstep
  exact ⟨hsound (by rwa [wf_pending]), hqueue⟩

end Sys2Proof.Proofs
end

section
/-! SUPPORT. The counterexample to the W1C clause of RegisterAccess: an event and a clearing write in one cycle (R10). -/

namespace Sys2Proof.Proofs
open Sys2Proof.Machine Sys2Proof.Machine.Reg

/-- The management domain is on, and in the present cycle the housekeeping sequencer has found a mirror error. -/
def mirrorRaised : State := State.reset.raise HK_FLAGS_MIRROR 1

/-- The counterexample meets the hypothesis of the W1C clause. -/
theorem mirrorRaised_pre : Claim.preRegisterWriteW1c mirrorRaised .mgmt 1 := by decide +kernel

/-- REGISTER_WRITE is a window write, and answers a next state. -/
theorem registerWrite_eq {m : Master} {a : BitVec 40} {n : Nat} {v : BitVec 32} {s t : State}
    (h : exec (.registerWrite m a n v) s = .next t) : t = s.windowWrite m a.toNat n v.toNat := (Host.Outcome.next.inj h).symm

/-- A write of 1 to the flag in the cycle of its event does not clear it (R10). -/
theorem mirrorRaised_stays :
    (mirrorRaised.windowWrite .mgmt (0x400F0020 : BitVec 40).toNat 4 (1 : BitVec 32).toNat).get HK_FLAGS_MIRROR = 1 := by
  decide +kernel

/-- The W1C clause fails: it does not except the flags that an event of the same cycle sets. -/
theorem not_registerWriteW1c : ¬ Claim.registerWriteW1c := by
  intro h
  obtain ⟨t, hwrite, hflag, -, -⟩ := h mirrorRaised .mgmt 1 mirrorRaised_pre
  have hcleared : t.get HK_FLAGS_MIRROR = 0 := hflag
  rw [registerWrite_eq hwrite, mirrorRaised_stays] at hcleared
  exact Nat.one_ne_zero hcleared

/-- Refutes O8: HK_FLAGS.MIRROR is raised in the cycle in which software writes a 1 to it; by R10 the flag stays set, where the
W1C clause says that it reads 0. -/
theorem not_registerAccess : ¬ Obligations.RegisterAccess := by
  unfold Obligations.RegisterAccess
  rintro ⟨-, hw1c, -⟩
  exact not_registerWriteW1c hw1c

end Sys2Proof.Proofs
end

section
/-! SUPPORT. Spans that cover a readout range, and an opcode that its own checks refuse (R31, R322). -/

namespace Sys2Proof.Machine
open Reg

/-- Sorting keeps the spans. -/
theorem mem_insertSpan {q a : Nat × Nat} {l : List (Nat × Nat)} : q ∈ insertSpan a l ↔ q = a ∨ q ∈ l := by
  induction l with
  | nil => simp [insertSpan]
  | cons b t ih =>
    rw [insertSpan]
    split
    · exact List.mem_cons
    · rw [List.mem_cons, ih, List.mem_cons]
      tauto
theorem mem_sortSpans {q : Nat × Nat} {l : List (Nat × Nat)} : q ∈ l.foldr insertSpan [] ↔ q ∈ l := by
  induction l with
  | nil => rfl
  | cons a t ih => rw [List.foldr_cons, mem_insertSpan, ih, List.mem_cons]

/-- Spans that cover the positions from `p` to `n − 1` leave none of them out. -/
theorem covers_mem {n x : Nat} {l : List (Nat × Nat)} :
    ∀ {p : Nat}, covers n p l = true → p ≤ x → x < n → ∃ q ∈ l, q.1 ≤ x ∧ x ≤ q.2 := by
  induction l with
  | nil =>
    intro p hc hp hx
    have : n ≤ p := of_decide_eq_true hc
    omega
  | cons ab t ih =>
    obtain ⟨a, b⟩ := ab
    intro p hc hp hx
    rw [covers, if_neg (by omega), Bool.and_eq_true, beq_iff_eq] at hc
    obtain ⟨rfl, hrest⟩ := hc
    by_cases hb : x ≤ b
    · exact ⟨(a, b), List.mem_cons_self, hp, hb⟩
    · obtain ⟨q, hq, hin⟩ := ih hrest (by omega) hx
      exact ⟨q, List.mem_cons_of_mem _ hq, hin⟩

/-- A start that passes the span check has every position of the readout range in a span (R31). -/
theorem spansOk_mem {s : State} {f x : Nat} (h : s.spansOk f = true) (hx : x < s.readN f) :
    ∃ q ∈ s.spansOf f, q.1 ≤ x ∧ x ≤ q.2 := by
  simp only [State.spansOk, Bool.and_eq_true] at h
  obtain ⟨q, hq, hin⟩ := covers_mem h.2 (Nat.zero_le x) hx
  exact ⟨q, mem_sortSpans.1 hq, hin⟩

/-- A field of value 1 is on. -/
theorem on_of_get_one {s : State} {g : Fld} (h : s.get g = 1) : s.on g = true := by simp [State.on, h]

/-- SEQ_ARM's first check: the reference is locked, or need not be (R84). -/
theorem lock_not_awaited {s : State} (h : s.get SEQ_REF_STATUS_LOCKED = 1 ∨ s.fallsBack = true ∨ s.external = false) :
    (s.external && !s.on SEQ_REF_STATUS_LOCKED && !s.fallsBack && !s.on SEQ_REF_STATUS_ON_INTERNAL) = false := by
  rcases h with h | h | h
  · simp [on_of_get_one h]
  · simp [h]
  · simp [h]

/-- With nothing that makes SEQ_ARM answer NOT_READY, spans that fail R31 make it answer BAD_PARAM. -/
theorem armRefusal_spans {s : State} {f : Fib} {ps : List Nat}
    (hlock : s.get SEQ_REF_STATUS_LOCKED = 1 ∨ s.fallsBack = true ∨ s.external = false)
    (hepoch : s.get SEQ_REF_STATUS_EPOCH_VALID = 1) (hwait : s.groupsWait f = false) (hgal : s.get (galValidF f) = 1)
    (hspans : s.spansOk f = false) : s.armRefusal f ps s.fallsBack = some (stBadParam, 0) := by
  simp [State.armRefusal, lock_not_awaited hlock, on_of_get_one hepoch, hwait, on_of_get_one hgal, hspans]

/-- Everything an opcode that is refused does: the one reply, and no other effect (R322). -/
theorem runCmd_refused {op blk st owner : Nat} {masks : List Nat → List Nat} {body : State → List Nat → CmdRes} {c : CmdIn}
    {s : State} (h : s.judge op blk masks body c = .refuse st owner) (hop : op < 256) (hst : st < 256) :
    Replied op st [] owner c s (runCmd op blk masks body c s) ∧ SameRegs lastF s (runCmd op blk masks body c s)
      ∧ runCmd op blk masks body c s = repliedOnly s (runCmd op blk masks body c s) := by
  simp only [runCmd, h]
  exact answer_spec s c owner [] hop hst

/-- Six parameters of which the first names a fibre and the second has eight bits have the form of SEQ_ARM's (R84, R317). -/
theorem seqArm_params {c : CmdIn} {f : Fib} (hf : c.words.head? = some f.val) (hlen : c.words.length = 6)
    (hctrl : c.words.getD 1 0 < 256) : paramsOk [1, 0xFF, full, full, full, full] c.words = true := by
  have hw : ∀ w ∈ c.words, w &&& full = w := fun w hm => and_full (words_lt c hm)
  match hc : c.words, hlen with
  | [a, b, x, y, z, w], _ =>
    rw [hc] at hf hctrl hw
    have ha : a &&& 1 = a := by
      have : a = f.val := by simpa using hf
      rw [Nat.and_one_is_mod, Nat.mod_eq_of_lt (this ▸ f.isLt)]
    have hb : b &&& 0xFF = b := by
      have := Nat.and_two_pow_sub_one_eq_mod b 8
      rw [show (0xFF : Nat) = 2 ^ 8 - 1 from rfl, this, Nat.mod_eq_of_lt (by simpa using hctrl)]
    simp [paramsOk, ha, hb, hw]

/-- The fibre that a parameter's bit 0 names. -/
theorem fibP_of_head {ps : List Nat} {f : Fib} (h : ps.head? = some f.val) : fibP ps = f := by
  have hp : par ps 0 = f.val := by
    rw [par, List.getD_eq_getElem?_getD, ← List.head?_eq_getElem?, h]
    rfl
  simp only [fibP, hp]
  fin_cases f <;> rfl

end Sys2Proof.Machine

namespace Sys2Proof.Proofs
open Sys2Proof.Machine Sys2Proof.Machine.Reg

/-- Settles O38: spans that pass the check leave no position out, so the check fails, and it comes before every other that could
answer. -/
theorem spanGapRefusesStart : Obligations.SpanGapRefusesStart := by
  unfold Obligations.SpanGapRefusesStart Claim.spanGap
  rintro c s f p ⟨hready, hf, hlen, hctrl, -, hlock, hepoch, hwait, hgal, hp, hgap⟩
  have hspans : s.spansOk f = false := by
    rw [Bool.eq_false_iff]
    intro hok
    obtain ⟨q, hq, hin⟩ := spansOk_mem hok hp
    exact hgap q hq hin
  have hjudge : s.judge 0x15 1 (fun _ => [1, 0xFF, full, full, full, full]) seqArm c = .refuse stBadParam 0 := by
    rw [judge_ready hready (seqArm_params hf hlen hctrl), seqArm, fibP_of_head hf,
      armRefusal_spans hlock hepoch hwait hgal hspans]
  obtain ⟨hreply, hregs, honly⟩ := runCmd_refused hjudge (by decide) (by decide)
  exact ⟨_, rfl, hreply, hregs.mono (List.subset_append_left _ _), honly⟩

end Sys2Proof.Proofs
end

section
/-! SUPPORT. The counterexample to the clause of Link on a lane that joins: LINK_GRPn_CTRL.WIDTH holds the code 3, which names no
width (R285, R313), and the fifth lane has no bit in the four of LINK_GRPn_STATUS.MASK. -/

namespace Sys2Proof.Proofs
open Sys2Proof.Machine Sys2Proof.Machine.Reg

/-- A group from lane 0 on with the undefined width code 3, ACTIVE with lane 0, while lane 4 is ACTIVE and waits to join. -/
def wideGroup : State :=
  let s := [(PWR_STATUS_DOMAIN_ON, 0x3F), (SYS_CLK_STATUS_FAB_RUN, 1), (LINK_GRPn_CTRL_EN 0, 1), (LINK_GRPn_CTRL_WIDTH 0, 3),
    (LINK_GRPn_STATUS_STATE 0, 3), (LINK_GRPn_STATUS_MASK 0, 1), (LANE_STATUS_STATE 0, 6), (LANE_STATUS_STATE 4, 6)].foldl
      (fun (t : State) (p : Fld × Nat) => t.set p.1 p.2) State.reset
  s.setGrp 0 fun r => { r with conf := true, joining := [4] }

/-- The counterexample meets the hypotheses of the clause. -/
theorem wideGroup_pre : Claim.preRegularAmAdds wideGroup 0 4 := by decide +kernel

/-- At the regular AM the active set stays lane 0 alone. -/
theorem wideGroup_mask {t : State} (h : exec (.regularAm 0) wideGroup = .next t) : t.grpMask 0 = 1 := by
  rw [← Host.Outcome.next.inj h]
  decide +kernel

/-- Refutes O17: the clause on a lane that joins does not ask that WIDTH be one of the three codes that R285 and R313 define.
With the code 3, which no command configures, lane 4 counts as a lane of group 0, and the four bits of MASK cannot show it. -/
theorem not_link : ¬ Obligations.Link := by
  unfold Obligations.Link
  rintro ⟨-, -, -, -, -, -, -, -, -, hadds, -⟩
  obtain ⟨t, hexec, hmask, -⟩ := hadds wideGroup 0 4 wideGroup_pre
  rw [wideGroup_mask hexec] at hmask
  exact absurd hmask (by decide +kernel)

end Sys2Proof.Proofs
end

section
/-! SUPPORT. A narrow write to a word of an engine's memory (R387), and the counterexample to ENG_START's clause of
EngineOpcodes: a default kernel writes its version into the engine's Y memory as it starts (R176). -/

namespace Sys2Proof.Machine
open Reg

/-- Freeing an entry of the repeat table leaves memory alone. -/
@[simp] theorem rptFree_mem (s : State) (a : Nat) : (s.rptFree a).mem = s.mem := by
  unfold State.rptFree
  split <;> rfl

/-- With no half held, a read has nothing to write first (R390). -/
theorem releaseFor_of_noHeld {s : State} (h : NoHeld s) (w : Nat) : s.releaseFor w = s := by
  obtain ⟨hmgmt, hcmd⟩ := h
  simp [State.releaseFor, State.comb, hmgmt, hcmd]

/-- A word of an engine's memory that has been written and carries no error reads as its bytes. -/
theorem peekWord_engine {s : State} {a k off : Nat} {bs : List Byte} (hreg : regionOf a = .engine k off)
    (hbs : getBytes s.mem a 8 = some bs) (hecc : kget a s.ecc = none) : s.peekWord a = ((ofBytesLE bs, .ok), s) := by
  simp [State.peekWord, State.wordBytes, hreg, hbs, hecc]

/-- A whole word stored in an engine's memory. -/
theorem storeWord_engine_mem {s : State} {a k off : Nat} (hreg : regionOf a = .engine k off) (v : Nat) (bad : Option Bool) :
    (s.storeWord a v bad).mem = putBytes a (bytesLE 8 v) s.mem := by
  simp [State.storeWord, hreg]

/-- A write of `n` bytes to an aligned word of an engine's memory that carries no error. -/
theorem writeNarrow_engine_mem {s : State} {m : Master} {a k off n v : Nat} {bs : List Byte} (hal : a % 8 = 0)
    (hreg : regionOf a = .engine k off) (hheld : NoHeld s) (hbs : getBytes s.mem a 8 = some bs) (hecc : kget a s.ecc = none) :
    (s.writeNarrow m a n v).mem = putBytes a (bytesLE 8 (mergeWord (ofBytesLE bs) 0 n v)) s.mem := by
  have hw : a / 8 * 8 = a := by omega
  rw [State.writeNarrow, hw, releaseFor_of_noHeld hheld, State.mergeNarrow, hw, peekWord_engine hreg hbs hecc, hal]
  exact storeWord_engine_mem hreg _ _

/-- A 32-bit write to the low half of a word puts the value's low byte first. -/
theorem mergeWord_low_byte (w v : Nat) : BitVec.ofNat 8 (mergeWord w 0 4 v) = BitVec.ofNat 8 v := by
  have hmod : mergeWord w 0 4 v % 2 ^ 8 = v % 2 ^ 8 := by
    simp only [mergeWord, Nat.mul_zero, Nat.pow_zero, Nat.div_one, Nat.mul_one]
    omega
  apply BitVec.eq_of_toNat_eq
  rw [BitVec.toNat_ofNat, BitVec.toNat_ofNat, hmod]

/-- The first byte stored of a 64-bit value. -/
theorem kget_putBytes_word (a v : Nat) (m : KMap Byte) : kget a (putBytes a (bytesLE 8 v) m) = some (BitVec.ofNat 8 v) := by
  rw [kget_putBytes, if_pos ⟨Nat.le_refl a, Nat.lt_add_of_pos_right (by simp [bytesLE])⟩, Nat.sub_self]
  rfl

/-- The word of engine `k`'s parameter block whose low half is the version of its default kernel (R176, R205). -/
def versionAddr (k : Nat) : Nat := paramAddr k + 80

/-- It is an aligned word of the engine's own memory. -/
theorem versionAddr_aligned : ∀ k : Fin 16, versionAddr k % 8 = 0 := by decide
theorem versionAddr_region : ∀ k : Fin 16, regionOf (versionAddr k) = .engine k 0x3FF50 := by decide

/-- Releasing halves sets registers alone, so whatever no register write changes stays. -/
theorem foldl_held_keeps {α : Type} (p : State → α) (hp : ∀ (t : State) (f : Fld) (v : Nat), p (t.set f v) = p t) (k : Nat)
    (hs : List Half) (s : State) : p (hs.foldl (fun t h => t.set (heldF k h.no) 0) s) = p s := by
  induction hs generalizing s with
  | nil => rfl
  | cons x xs ih => rw [List.foldl_cons, ih, hp]
@[simp] theorem loseHalves_mem (s : State) (k : Fin 16) (hs : List Half) : (s.loseHalves k hs).mem = s.mem :=
  foldl_held_keeps State.mem (fun _ _ _ => rfl) k hs _
@[simp] theorem loseHalves_ecc (s : State) (k : Fin 16) (hs : List Half) : (s.loseHalves k hs).ecc = s.ecc :=
  foldl_held_keeps State.ecc (fun _ _ _ => rfl) k hs _
@[simp] theorem loseHalves_scrub (s : State) (k : Fin 16) (hs : List Half) : (s.loseHalves k hs).scrub = s.scrub :=
  foldl_held_keeps State.scrub (fun _ _ _ => rfl) k hs _

/-- `s` with the registers as ENG_START leaves them: no half held, no trap, RUNNING (R153). -/
def State.startRegs (s : State) (k : Fin 16) : State :=
  (((((s.loseHalves k ((s.land[k]).avail ++ (s.land[k]).taken)).set (ENG_DEk_TRAP_CAUSE k) 0).set (ENG_DEk_TRAP_PC k) 0).set
    (ENG_DEk_TRAP_ADDR_ADDR k) 0).set (ENG_DEk_TRAP_ADDR_MEM k) 0).set (ENG_DEk_STAT_STATE k) engRunning
@[simp] theorem startRegs_mem (s : State) (k : Fin 16) : (s.startRegs k).mem = s.mem := by simp [State.startRegs]
@[simp] theorem startRegs_ecc (s : State) (k : Fin 16) : (s.startRegs k).ecc = s.ecc := by simp [State.startRegs]
@[simp] theorem startRegs_scrub (s : State) (k : Fin 16) : (s.startRegs k).scrub = s.scrub := by simp [State.startRegs]

/-- All that starting an engine does to memory is a default kernel's write of its version. -/
theorem startEngine_mem (s : State) (k : Fin 16) : (s.startEngine k).mem =
    (if (s.eg k).kern.isSome then (s.startRegs k).writeNarrow (.engine k) (versionAddr k) 4 (Config.kernelVersion k)
      else s.startRegs k).mem := rfl

/-- ENG_START of a default kernel writes its version into the parameter block (R176). -/
theorem startEngine_version {s : State} {k : Fin 16} {bs : List Byte} (hkern : (s.eg k).kern.isSome = true) (hheld : NoHeld s)
    (hbs : getBytes s.mem (versionAddr k) 8 = some bs) (hecc : kget (versionAddr k) s.ecc = none) :
    kget (versionAddr k) (s.startEngine k).mem = some (BitVec.ofNat 8 (Config.kernelVersion k)) := by
  have hheld' : NoHeld (s.startRegs k) := by rwa [NoHeld, startRegs_scrub]
  rw [startEngine_mem, if_pos hkern, writeNarrow_engine_mem (versionAddr_aligned k) (versionAddr_region k) hheld'
    (by rwa [startRegs_mem]) (by rwa [startRegs_ecc]), kget_putBytes_word, mergeWord_low_byte]

/-- An answer leaves memory as the state it answers from has it. -/
theorem mem_of_repliedOnly {u t : State} (h : t = repliedOnly u t) : t.mem = u.mem :=
  (congrArg State.mem h).trans rfl

/-- What ENG_START leaves in memory is what starting the engine leaves. -/
theorem engStart_mem {c : CmdIn} {s t : State} {k : Fin 16} (hready : Ready 5 s) (hwords : c.words = [0, k.val])
    (hstop : s.engState k ≠ 1) (h : exec (.engStart c) s = .next t) : t.mem = (s.startEngine k).mem := by
  have hform : paramsOk [0, full] c.words = true := by
    rw [hwords]
    simp [paramsOk, and_full (show k.val < 2 ^ 32 by omega)]
  have hjudge : s.judge 0x55 5 (fun _ => [0, full]) engStart c = .done stOk [] (s.startEngine k) := by
    rw [judge_ready hready hform, hwords, engStart]
    simp [par, engRunning, hstop, CmdRes.ok, show ¬ 15 < k.val by omega]
  obtain ⟨-, -, honly⟩ := runCmd_done hjudge (by decide) (by decide)
  rw [← Host.Outcome.next.inj h]
  exact mem_of_repliedOnly honly

end Sys2Proof.Machine

namespace Sys2Proof.Proofs
open Sys2Proof.Machine Sys2Proof.Machine.Reg

/-- Engine 3 of a ready device, STOPPED, holds its default kernel; the host has put another number where the version stands. -/
def staleVersion : State :=
  let s := [(MGMT_STATUS_PHASE, 4), (PWR_STATUS_DOMAIN_ON, 0x3F), (SYS_CLK_STATUS_FAB_RUN, 1)].foldl
    (fun (t : State) (p : Fld × Nat) => t.set p.1 p.2) State.reset
  { s.setEng 3 fun e => { e with kern := some Kern.init } with
    mem := putBytes (versionAddr 3) (bytesLE 8 (Config.kernelVersion 3 + 1)) [] }

/-- ENG_START of engine 3. -/
def startThree : CmdIn := ⟨.spi, 0, [0, 3]⟩

/-- The counterexample meets the hypotheses of the clause. -/
theorem staleVersion_pre : Claim.preEngStart startThree staleVersion 3 := by decide +kernel

/-- The byte of memory that ENG_START changes, before it. -/
theorem staleVersion_byte : kget (versionAddr 3) staleVersion.mem = some (BitVec.ofNat 8 (Config.kernelVersion 3 + 1)) :=
  kget_putBytes_word _ _ _

/-- The same byte after it. -/
theorem staleVersion_started : kget (versionAddr 3) (staleVersion.startEngine 3).mem = some (BitVec.ofNat 8 (Config.kernelVersion 3)) :=
  startEngine_version (k := 3) rfl ⟨rfl, rfl⟩ (getBytes_putBytes_same _ (bytesLE 8 (Config.kernelVersion 3 + 1)) []) rfl

/-- Refutes O28: ENG_START of an engine that holds a default kernel writes the kernel's version into word 20 of its parameter
block (R176), where the clause says that memory stays as it was; here the host has overwritten that word. -/
theorem not_engineOpcodes : ¬ Obligations.EngineOpcodes := by
  unfold Obligations.EngineOpcodes
  rintro ⟨-, -, -, -, -, hstart, -⟩
  obtain ⟨t, hexec, -, -, -, -, -, -, -, -, honly⟩ := hstart startThree staleVersion 3 staleVersion_pre
  obtain ⟨hready, hwords, hstop, -, -⟩ := staleVersion_pre
  have hkept : t.mem = staleVersion.mem := (mem_of_repliedOnly honly).trans rfl
  have hbyte : BitVec.ofNat 8 (Config.kernelVersion 3 + 1) = BitVec.ofNat 8 (Config.kernelVersion 3) := by
    rw [← Option.some_inj, ← staleVersion_byte, ← hkept, engStart_mem hready hwords hstop hexec, staleVersion_started]
  have hmod := congrArg BitVec.toNat hbyte
  simp only [BitVec.toNat_ofNat] at hmod
  omega

end Sys2Proof.Proofs
end

section
/-! SUPPORT. What giving a shot its launch instant does to the captures of that shot (R50), and the counterexample to the clause of
TriggersAndLaunches on an LMON edge: its frame leaves the captures out. -/

namespace Sys2Proof.Machine
open Reg

/-- A shot in loss watch or in the trace capture is changed apart from the captures of the Prism. -/
@[simp] theorem upShot_prism (s : State) (f : Fib) (n : Nat) (g : EnvShot → EnvShot) : (s.upShot f n g).prism = s.prism := by
  unfold State.upShot
  split <;> rfl

/-- The captures of a fibre once a shot has its launch instant: those of the shot take its phase and its mark (R50). -/
theorem settleShot_caps (s : State) (f : Fib) (n : Nat) (t : Rat) (sched : Bool) :
    ((s.settleShot f n t sched).prism[f]).caps =
      (s.prism[f]).caps.map fun c => if c.shot = n then { c with phase := s.phaseOf f t, sched := sched } else c := by
  simp [State.settleShot]

/-- Every capture of a shot that has its launch instant carries the mark that it was given. -/
theorem settleShot_sched {s : State} {f : Fib} {n : Nat} {t : Rat} {sched : Bool} {c : Capture}
    (hc : c ∈ ((s.settleShot f n t sched).prism[f]).caps) (hn : c.shot = n) : c.sched = sched := by
  rw [settleShot_caps, List.mem_map] at hc
  obtain ⟨d, -, rfl⟩ := hc
  by_cases hd : d.shot = n
  · rw [if_pos hd]
  · exact absurd (by rwa [if_neg hd] at hn) hd

/-- The first edge in a window makes the launch instant of its shot a measured one (R50, R72). -/
theorem lmonIn_sched {s : State} {f : Fib} {t : Rat} {w : LmonWin} {c : Capture} (hw : w.taken = false)
    (hc : c ∈ ((s.lmonIn f t w).prism[f]).caps) (hn : c.shot = w.shot) : c.sched = false := by
  rw [State.lmonIn, hw, if_neg Bool.false_ne_true] at hc
  exact settleShot_sched hc hn

/-- An edge in the one open window is taken in it (R72). -/
theorem lmonEdge_one_window {s : State} {f : Fib} {stamp : BitVec 64} {w : LmonWin} (h : Claim.preLmonEdge s f stamp w []) :
    exec (.lmonEdge f stamp) s = .next (s.lmonIn f (s.instOf stamp.toNat) w) := by
  obtain ⟨hfab, hwins, -, hlo, hhi⟩ := h
  have hin : (decide (w.centre - (s.get (SEQ_LMON_WIN_WIN f) : Rat) ≤ s.instOf stamp.toNat)
      && decide (s.instOf stamp.toNat ≤ w.centre + (s.get (SEQ_LMON_WIN_WIN f) : Rat))) = true := by
    rw [decide_eq_true hlo, decide_eq_true hhi, Bool.and_self]
  show execLmonEdge f stamp s = _
  simp only [execLmonEdge, State.onFab, hfab, hwins, List.filter_cons, hin, List.filter_nil, List.foldl, if_true]

end Sys2Proof.Machine

namespace Sys2Proof.Proofs
open Sys2Proof.Machine Sys2Proof.Machine.Reg

/-- The reset state with register fields set. -/
def withRegs (l : List (Fld × Nat)) : State := l.foldl (fun (t : State) (p : Fld × Nat) => t.set p.1 p.2) State.reset

/-- The open window of shot 3, centred on the present. -/
def openWindow : LmonWin := ⟨3, 0, false⟩

/-- The capture of shot 3, its launch instant still the scheduled one. -/
def scheduledCapture : Capture := ⟨3, 0, 0, true, false, 0, 0, ⟨0, 0, ⟨1, false, 0, 100, 2000, 1000, 0, []⟩⟩, 0, []⟩

/-- Fibre A captures shot 3 while the shot's LMON window is open. -/
def capturedInWindow : State :=
  let s := (withRegs [(SYS_CLK_STATUS_FAB_RUN, 1)]).setSq 0 fun q => { q with wins := [openWindow] }
  s.setPrism 0 fun p => { p with caps := [scheduledCapture] }

/-- The counterexample meets the hypotheses of the clause. -/
theorem capturedInWindow_pre : Claim.preLmonEdge capturedInWindow 0 0 openWindow [] := by decide +kernel

/-- The clause on an LMON edge fails: the edge marks the shot's capture as measured, and the frame says that it stays as it was. -/
theorem not_lmonEdge : ¬ Claim.lmonEdge := by
  intro h
  obtain ⟨t, hexec, -, hframe⟩ := h _ _ _ _ _ capturedInWindow_pre
  have hkept : t.prism = capturedInWindow.prism := (congrArg State.prism hframe).trans rfl
  have hcap : scheduledCapture ∈ (t.prism[(0 : Fib)]).caps := by
    rw [hkept]
    exact List.mem_singleton.2 rfl
  rw [← Host.Outcome.next.inj ((lmonEdge_one_window capturedInWindow_pre).symm.trans hexec)] at hcap
  exact absurd (lmonIn_sched rfl hcap rfl) (by decide)

/-- Refutes O34: the clause on an LMON edge says that the edge changes what the sequencers and loss watch hold and nothing else, while
the edge is the launch instant under every timestamp of its shot (R50), and so gives the Prism's capture of the shot its phase and
its mark as well. -/
theorem not_triggersAndLaunches : ¬ Obligations.TriggersAndLaunches := by
  unfold Obligations.TriggersAndLaunches
  rintro ⟨-, -, -, -, hedge, -⟩
  exact not_lmonEdge hedge

end Sys2Proof.Proofs
end

section
/-! SUPPORT. The counterexample to the clause of ReferenceTracker on the phase check: during a fallback the holdover model is the
external reference's, kept behind the internal one in force (R60, R61). -/

namespace Sys2Proof.Proofs
open Sys2Proof.Machine Sys2Proof.Machine.Reg

/-- The internal reference in force, with a period of 100 µs. -/
def internalModel : RefModel := ⟨0, 0, 100000⟩

/-- The external reference of the same period, half a cycle later. -/
def externalModel : RefModel := ⟨0, 50000, 100000⟩

/-- Fibre A runs on the internal reference, and the external one has come back with W = 4 stamps on its own holdover model. -/
def fallbackReturn : State :=
  let s := withRegs [(SYS_CLK_STATUS_FAB_RUN, 1), (SEQ_REF_CTRL_SRC, 1), (SEQ_REF_CTRL_FALLBACK, 1), (SEQ_REF_STATUS_ON_INTERNAL, 1),
    (SEQ_REF_STATUS_PRESENT, 1), (SEQ_REF_STATUS_HOLDOVER, 1), (SEQ_TRACK_WIN_LOG2, 2), (SEQ_STATUS_STATE 0, 2)]
  { s.setTrk fun r => { r with
      model := some internalModel, extModel := some externalModel
      back := [(3, 350000), (2, 250000), (1, 150000), (0, 50000)] } with cyc := 160000 }

/-- The counterexample meets the hypotheses of the clause, with the internal reference as the old model and half a cycle as its
distance from the new fit. -/
theorem fallbackReturn_pre : Claim.preHoldoverPhaseCheck fallbackReturn internalModel externalModel 3 (1 / 2) 350000
    [(2, 250000), (1, 150000), (0, 50000)] := by decide +kernel

/-- The stamps lie on the external reference's own model, so that no phase jump is found (R61). -/
theorem fallbackReturn_no_jump {t : State} (h : exec .holdoverPhaseCheck fallbackReturn = .next t) :
    t.get SEQ_REF_FLAGS_PHASE_JUMP = 0 := by
  rw [← Host.Outcome.next.inj h]
  decide +kernel

/-- The clause on the phase check fails: it measures the new fit against the model in force also during a fallback. -/
theorem not_holdoverPhaseCheck : ¬ Claim.holdoverPhaseCheck := by
  intro h
  obtain ⟨t, hexec, hjudged, -⟩ := h _ _ _ _ _ _ _ fallbackReturn_pre
  rw [if_neg (by norm_num)] at hjudged
  obtain ⟨hjump, -⟩ := hjudged
  rw [fallbackReturn_no_jump hexec] at hjump
  exact Nat.zero_ne_one hjump

/-- Refutes O35: the clause on the phase check takes the model in force for the holdover model. During a fallback (R60) the model in
force is the internal reference's, and R61 compares the stamps of the external reference with the model that was kept of it: here
they agree and tracking resumes, where the clause demands PHASE_JUMP. -/
theorem not_referenceTracker : ¬ Obligations.ReferenceTracker := by
  unfold Obligations.ReferenceTracker
  rintro ⟨-, -, -, -, hcheck, -⟩
  exact not_holdoverPhaseCheck hcheck

end Sys2Proof.Proofs
end

section
/-! SUPPORT. What SEQ_ARM does to the shots of a fibre's receiver front end (R124), and the counterexample to its clause of
SequencerOpcodes: shots of an earlier run. -/

namespace Sys2Proof.Machine
open Reg

/-- A fold whose steps leave the receiver front ends alone. -/
theorem foldl_rxf {α : Type} {g : State → α → State} (hg : ∀ u a, (g u a).rxf = u.rxf) (l : List α) (s : State) :
    (l.foldl g s).rxf = s.rxf := by
  induction l generalizing s with
  | nil => rfl
  | cons a l ih => rw [List.foldl_cons, ih, hg]

/-- Arming a sequencer forgets the shots of the fibre, whose numbers begin anew (R124). -/
theorem armSeq_shots (s : State) (f : Fib) (ps : List Nat) (fall : Bool) : ((s.armSeq f ps fall).rxf[f]).shots = [] := by
  rw [State.armSeq, foldl_rxf]
  · simp
  · exact fun _ _ => rfl

/-- An accepted SEQ_ARM of an idle sequencer leaves the state armed, but for its answer. -/
theorem seqArm_rxf {c : CmdIn} {s t : State} {f : Fib} {ctrl n sp lo hi : Nat} (hpre : Claim.preSeqArm c s f ctrl n sp lo hi)
    (h : exec (.seqArm c) s = .next t) : t.rxf = (s.armSeq f c.words s.fallsBack).rxf := by
  obtain ⟨hready, hwords, hctrl, hidle, hchecks⟩ := hpre
  have hhead : c.words.head? = some f.val := by rw [hwords]; rfl
  have hform : paramsOk [1, 0xFF, full, full, full, full] c.words = true :=
    seqArm_params hhead (by rw [hwords]; rfl) (by rwa [hwords])
  have hjudge : s.judge 0x15 1 (fun _ => [1, 0xFF, full, full, full, full]) seqArm c =
      .done stOk [par c.words 3] (s.armSeq f c.words s.fallsBack) := by
    rw [judge_ready hready hform, seqArm, fibP_of_head hhead]
    simp [hchecks, hidle]
  obtain ⟨-, -, honly⟩ := runCmd_done hjudge (by decide) (by decide)
  rw [← Host.Outcome.next.inj h]
  exact (congrArg State.rxf honly).trans rfl

end Sys2Proof.Machine

namespace Sys2Proof.Proofs
open Sys2Proof.Machine Sys2Proof.Machine.Reg

/-- A shot of an earlier run. -/
def earlierShot : Shot := ⟨5, ⟨0, 0, ⟨1, false, 0, 100, 2000, 1000, 0, []⟩⟩, ⟨4, false, false, 0⟩⟩

/-- A ready device whose fibre A, of 1 km on the internal reference, is IDLE again after a run: one descriptor, a flight of one
launch, and engine 0 under AUTO_SPAN. -/
def idleAfterRun : State :=
  let s := withRegs [(MGMT_STATUS_PHASE, 4), (PWR_STATUS_DOMAIN_ON, 0x3F), (SYS_CLK_STATUS_FAB_RUN, 1), (SEQ_LEN_LEN 0, 1000),
    (SEQ_NG_NG 0, 14682), (SEQ_GUARD_GUARD 0, 0), (SEQ_INT_DIV_INT_DIV, 40000), (RXF_PCODE_CTRL_TYPE 0 0, 1),
    (RXF_PCODE_CTRL_AMP 0 0, 100), (RXF_PCODE_LEN_LEN 0 0, 2000), (RXF_PCODE_BW_BW 0 0, 1000), (SEQ_FT_EN 0 0 0, 1),
    (RXF_CTRL_RAY_EN 0, 1), (RXF_CTRL_BRI_EN 0, 0), (RXF_STATUS_RAY_RDY_A, 1), (PRISM_STATUS_GAL_VALID_A, 1),
    (ENG_ASSIGN_SRC 0, 1), (ENG_CTRL_AUTO_SPAN, 1)]
  s.setRxf 0 fun r => { r with shots := [earlierShot] }

/-- SEQ_ARM of fibre A for five flights with UNEVEN = 1 and a software trigger. -/
def armFibreA : CmdIn := ⟨.spi, 0, [0, 0x81, 5, 0, 0, 0]⟩

/-- The counterexample meets the hypotheses of the clause. -/
theorem idleAfterRun_pre : Claim.preSeqArm armFibreA idleAfterRun 0 0x81 5 0 0 0 := by decide +kernel

/-- SEQ_ARM's clause fails: it says that the receiver front ends stay as they were. -/
theorem not_seqArm : ¬ Claim.seqArm := by
  intro h
  obtain ⟨t, hexec, -, -, -, -, -, -, -, -, -, -, -, -, -, -, -, -, -, hrxf⟩ := h _ _ _ _ _ _ _ _ idleAfterRun_pre
  have hshots : (idleAfterRun.rxf[(0 : Fib)]).shots = [] := by
    rw [← hrxf, seqArm_rxf idleAfterRun_pre hexec, armSeq_shots]
  exact List.cons_ne_nil earlierShot [] hshots

/-- Refutes O36: SEQ_ARM's clause says that the receiver front ends stay as they were. Shot numbers begin anew with the arming
(R124), so the fibre's list of launched shots is emptied, and it is not empty after an earlier run. -/
theorem not_sequencerOpcodes : ¬ Obligations.SequencerOpcodes := by
  unfold Obligations.SequencerOpcodes
  rintro ⟨-, -, -, -, -, -, -, harm, -⟩
  exact not_seqArm harm

end Sys2Proof.Proofs
end

section
/-! SUPPORT. Register fields stored one after another, and what an opcode that is done leaves: the fields it stored, its one
answer, and the rest of the machine as before (R8, R324). -/

namespace Sys2Proof.Machine
open Reg

/-! ### Entries put one after another -/

section
variable {α β : Type} (k : β → Nat) (v : β → α)

/-- Entries put at other keys leave an entry alone. -/
theorem kget_foldl_kput_ne {j : Nat} {l : List β} (h : j ∉ l.map k) (m : KMap α) :
    kget j (l.foldl (fun m b => kput (k b) (v b) m) m) = kget j m := by
  induction l generalizing m with
  | nil => rfl
  | cons b l ih =>
    rw [List.map_cons, List.mem_cons, not_or] at h
    rw [List.foldl_cons, ih h.2, kget_kput_ne h.1]

/-- Of entries put at different keys each is read back. -/
theorem kget_foldl_kput_mem {b : β} {l : List β} (hn : (l.map k).Nodup) (hb : b ∈ l) (m : KMap α) :
    kget (k b) (l.foldl (fun m b => kput (k b) (v b) m) m) = some (v b) := by
  induction l generalizing m with
  | nil => cases hb
  | cons a l ih =>
    rw [List.map_cons, List.nodup_cons] at hn
    rw [List.foldl_cons]
    rcases List.mem_cons.1 hb with rfl | hl
    · rw [kget_foldl_kput_ne k v hn.1, kget_kput_same]
    · exact ih hn.2 hl _
end

/-- Register fields stored one after another. -/
def State.puts (s : State) (l : List (Fld × Nat)) : State := l.foldl (fun t p => t.set p.1 p.2) s

theorem puts_append (s : State) (l m : List (Fld × Nat)) : s.puts (l ++ m) = (s.puts l).puts m := List.foldl_append
theorem puts_regs (s : State) (l : List (Fld × Nat)) :
    (s.puts l).regs = l.foldl (fun m p => kput p.1.key (p.2 % 2 ^ p.1.w) m) s.regs := by
  induction l generalizing s with
  | nil => rfl
  | cons p l ih => exact ih (s.set p.1 p.2)

/-- Fields stored at different places read as they were stored. -/
theorem get_puts {s : State} {l : List (Fld × Nat)} (hn : (l.map fun p => p.1.key).Nodup) {g : Fld} {v : Nat}
    (hg : (g, v) ∈ l) : (s.puts l).get g = v % 2 ^ g.w := by
  have := kget_foldl_kput_mem (fun p : Fld × Nat => p.1.key) (fun p => p.2 % 2 ^ p.1.w) hn hg s.regs
  rw [State.get, puts_regs, this]
  rfl

theorem sameRegs_puts (s : State) (l : List (Fld × Nat)) : SameRegs (l.map Prod.fst) s (s.puts l) := fun g hg => by
  rw [List.map_map] at hg
  rw [State.get, puts_regs, kget_foldl_kput_ne (fun p : Fld × Nat => p.1.key) _ hg, State.get]

/-- Nothing but register fields has changed. -/
theorem puts_butNotes (s : State) (l : List (Fld × Nat)) : s.puts l = butNotes s (s.puts l) := by
  induction l generalizing s with
  | nil => rfl
  | cons p l ih => exact ih (s.set p.1 p.2)

/-! ### Events and the fields they may change -/

section
variable {fs : List Fld} {s t u : State}

theorem Only.refl (fs : List Fld) (s : State) : Only fs s s s := ⟨SameRegs.refl fs s, rfl⟩
theorem Only.set (h : Only fs s u t) {f : Fld} (hf : f ∈ fs) (v : Nat) : Only fs s u (t.set f v) :=
  ⟨h.1.set hf v, congrArg (State.set · f v) h.2⟩
/-- Registers stored, and beside them only what `u` says. -/
theorem Only.of_puts {l : List (Fld × Nat)} (hr : t.regs = (s.puts l).regs) (hu : t = butNotes u t) :
    Only (l.map Prod.fst) s u t := ⟨(sameRegs_puts s l).of_regs hr, hu⟩

/-- A front end is changed beside register fields. -/
theorem setRxf_butNotes (h : t = butNotes u t) (f : Fib) (g : RxfRun → RxfRun) :
    t.setRxf f g = butNotes (u.setRxf f g) (t.setRxf f g) := congrArg (State.setRxf · f g) h

/-- `s` with the front ends of `r`. -/
def State.withRxf (s : State) (r : Vector RxfRun 2) : State := { s with rxf := r }
theorem withRxf_butNotes (h : t = butNotes u t) (r : Vector RxfRun 2) :
    t.withRxf r = butNotes (u.withRxf r) (t.withRxf r) := congrArg (State.withRxf · r) h

/-- A change of what a front end holds, where what the front ends hold may change. -/
theorem Only.setRxf (h : Only fs s { s with rxf := t.rxf } t) (f : Fib) (g : RxfRun → RxfRun) :
    Only fs s { s with rxf := (t.setRxf f g).rxf } (t.setRxf f g) :=
  ⟨h.1.of_regs rfl, congrArg (State.setRxf · f g) h.2⟩
end

/-! ### What an opcode that is done leaves -/

/-- The fields of an answer lie behind the windows of the first eleven blocks. -/
theorem notLast {g : Fld} (h : g.key < key 11 0 0) : g.key ∉ lastF.map Fld.key := by
  simp only [lastF, CMD_LAST_OPCODE, CMD_LAST_STATUS, CMD_LAST_TAG, key, List.map_cons, List.map_nil, List.mem_cons,
    List.not_mem_nil, or_false] at h ⊢
  omega

section
variable {op blk st : Nat} {masks : List Nat → List Nat} {body : State → List Nat → CmdRes} {c : CmdIn} {s u s' : State}
  {d : List Nat} {fs : List Fld} (hj : s.judge op blk masks body c = .done st d s') (hop : op < 256) (hst : st < 256)
include hj hop hst

/-- The answer leaves the fields of the first eleven blocks as the opcode's body left them. -/
theorem runCmd_get {g : Fld} (hg : g.key < key 11 0 0) : (runCmd op blk masks body c s).get g = s'.get g :=
  (runCmd_done hj hop hst).2.1 g (notLast hg)

/-- The one reply goes out behind those that waited, where the body has sent none itself. -/
theorem runCmd_replied (hcmd : s'.cmd = s.cmd) (hout : s'.out = s.out) :
    Replied op st d 0 c s (runCmd op blk masks body c s) := by
  have h := (runCmd_done hj hop hst).1
  rwa [Replied, hcmd, hout] at h

/-- What the body changed is all that the opcode changes beside its answer. -/
theorem runCmd_only (h : Only fs s u s') (hcmd : u.cmd = s.cmd) (hout : u.out = s.out) :
    Done op st d fs c s u (runCmd op blk masks body c s) := by
  obtain ⟨hregs, honly⟩ := h
  obtain ⟨-, hlast, hanswer⟩ := runCmd_done hj hop hst
  refine ⟨runCmd_replied hj hop hst ((congrArg State.cmd honly).trans hcmd) ((congrArg State.out honly).trans hout), ?_, ?_⟩
  · exact (hregs.mono (List.subset_append_right _ _)).trans (hlast.mono (List.subset_append_left _ _))
  · rw [honly] at hanswer
    exact hanswer
end

section
variable {op st : Nat} {d : List Nat} {fs : List Fld} {c : CmdIn} {s t : State}

theorem Done.mono {u : State} {gs : List Fld} (h : Done op st d fs c s u t) (hs : fs ⊆ gs) : Done op st d gs c s u t :=
  ⟨h.1, h.2.1.mono (List.append_subset.2 ⟨List.subset_append_left _ _, List.subset_append_of_subset_right _ hs⟩), h.2.2⟩

/-- What the front ends hold may be named from the state that the opcode leaves. -/
theorem Done.rxf {r : Vector RxfRun 2} (h : Done op st d fs c s { s with rxf := r } t) :
    Done op st d fs c s { s with rxf := t.rxf } t := by
  have hr : t.rxf = r := congrArg State.rxf h.2.2
  rwa [hr]
end

/-- Fields at different places in the windows of the first eleven blocks, each with a value of its width. -/
def Storable (l : List (Fld × Nat)) : Prop :=
  (l.map fun p => p.1.key).Nodup ∧ ∀ p ∈ l, p.1.key < key 11 0 0 ∧ p.2 < 2 ^ p.1.w

theorem storable_nil : Storable [] := ⟨List.nodup_nil, fun _ h => (List.not_mem_nil h).elim⟩
theorem storable_cons {g : Fld} {v : Nat} {l : List (Fld × Nat)} : Storable ((g, v) :: l) ↔
    g.key ∉ l.map (fun p => p.1.key) ∧ (g.key < key 11 0 0 ∧ v < 2 ^ g.w) ∧ Storable l := by
  simp only [Storable, List.map_cons, List.nodup_cons, List.forall_mem_cons]
  tauto

/-- An opcode that stores fields: each reads as it was stored, and beside them only what `u` says has changed. -/
theorem runCmd_stored {op blk st : Nat} {masks : List Nat → List Nat} {body : State → List Nat → CmdRes} {c : CmdIn}
    {s u s' : State} {d : List Nat} {l : List (Fld × Nat)} (hj : s.judge op blk masks body c = .done st d s')
    (hop : op < 256) (hst : st < 256) (hr : s'.regs = (s.puts l).regs) (hu : s' = butNotes u s') (hcmd : u.cmd = s.cmd)
    (hout : u.out = s.out) (hl : Storable l) :
    (∀ p ∈ l, (runCmd op blk masks body c s).get p.1 = p.2)
      ∧ Done op st d (l.map Prod.fst) c s u (runCmd op blk masks body c s) := by
  refine ⟨fun p hp => ?_, runCmd_only hj hop hst (Only.of_puts hr hu) hcmd hout⟩
  have hget : s'.get p.1 = (s.puts l).get p.1 := by rw [State.get, hr, State.get]
  obtain ⟨hkey, hfits⟩ := hl.2 p hp
  rw [runCmd_get hj hop hst hkey, hget, get_puts hl.1 hp, Nat.mod_eq_of_lt hfits]

/-! ### Parameters (R317) -/

theorem fib_and_one : ∀ f : Fib, f.val &&& 1 = f.val := by decide
theorem words_mem_lt {c : CmdIn} {ws : List Nat} (h : c.words = ws) : ∀ w ∈ ws, w < 2 ^ 32 := fun _ hw =>
  words_lt c (h ▸ hw)
/-- The form of the parameters, one after another. -/
theorem paramsOk_cons (m v : Nat) (ms ps : List Nat) :
    paramsOk (m :: ms) (v :: ps) = true ↔ v &&& m = v ∧ paramsOk ms ps = true := by
  simp [paramsOk, and_left_comm]
/-- A field of a parameter has the field's width. -/
theorem fld_lt (v lo w : Nat) : fld v lo w < 2 ^ w := Nat.mod_lt _ (Nat.two_pow_pos w)
theorem paramsOk_nil : paramsOk [] [] = true := rfl

end Sys2Proof.Machine
end

section
/-! SUPPORT. The receiver front end's opcodes that store register fields: RXF_PROBE_WRITE, RXF_GATE, RXF_POWER, RXF_PROBE_TEST and
RXF_GET_STATUS (R93, R103, R510). -/

namespace Sys2Proof.Machine
open Reg

/-! ### RXF_GET_STATUS -/

/-- The clause on RXF_GET_STATUS (R103): status, control word, clip flags and counters are read and nothing changes. -/
theorem rxfGetStatus_holds : Claim.rxfGetStatus := by
  rintro c s f ⟨hready, hwords⟩
  have hform : paramsOk [1] c.words = true := by
    rw [hwords, paramsOk_cons]
    exact ⟨fib_and_one f, paramsOk_nil⟩
  have hf : fibP c.words = f := fibP_of_head (by rw [hwords]; rfl)
  have hclip : 0x1000 + 0x1000 * f.val + 8 = 0x1008 + 0x1000 * f.val := by omega
  have hjudge := judge_ready (op := 0x26) (masks := fun _ => [1]) (body := rxfGetStatus) hready hform
  rw [rxfGetStatus, hf, hclip] at hjudge
  exact ⟨_, rfl, runCmd_only hjudge (by decide) (by decide) (Only.refl _ s) rfl rfl⟩

/-! ### RXF_GATE -/

/-- The fields that RXF_GATE stores. -/
def gateFields (f : Fib) (lead lag pol : Nat) : List (Fld × Nat) :=
  [(RXF_GATE_LEAD f, lead), (RXF_GATE_LAG f, lag), (RXF_CTRL_PGATE_POL f, fld pol 0 1), (RXF_CTRL_LMON_POL f, fld pol 1 1)]

theorem gateFields_storable (f : Fib) {lead lag : Nat} (pol : Nat) (hlead : lead ≤ 255) (hlag : lag ≤ 255) :
    Storable (gateFields f lead lag pol) := by
  have hgate := fld_lt pol 0 1
  have hmon := fld_lt pol 1 1
  simp only [gateFields, storable_cons, storable_nil, List.map_cons, List.map_nil, List.mem_cons, List.not_mem_nil, or_false,
    not_false_eq_true, true_and, and_true, RXF_GATE_LEAD, RXF_GATE_LAG, RXF_CTRL_PGATE_POL, RXF_CTRL_LMON_POL, key]
  omega

theorem rxfGate_judge {c : CmdIn} {s : State} {f : Fib} {lead lag pol : Nat} (h : Claim.preRxfGate c s f lead lag pol) :
    s.judge 0x23 2 (fun _ => [1, full, full, 3]) rxfGate c = .done stOk [] (s.puts (gateFields f lead lag pol)) := by
  obtain ⟨hready, hwords, hidle, hlead, hlag, hpol⟩ := h
  have hform : paramsOk [1, full, full, 3] c.words = true := by
    simp only [hwords, paramsOk_cons]
    exact ⟨fib_and_one f, and_full (by omega), and_full (by omega), Nat.and_two_pow_sub_one_of_lt_two_pow (n := 2) (by omega),
      paramsOk_nil⟩
  have hf : fibP c.words = f := fibP_of_head (by rw [hwords]; rfl)
  rw [judge_ready hready hform, rxfGate, hf, hwords]
  simp only [par, List.getD_cons_succ, List.getD_cons_zero]
  rw [if_neg (not_not.2 hidle), if_neg (by omega)]
  rfl

/-- The clause on RXF_GATE (R103): the gate times and the polarities are stored. -/
theorem rxfGate_holds : Claim.rxfGate := by
  intro c s f lead lag pol h
  have hjudge := rxfGate_judge h
  obtain ⟨-, -, -, hlead, hlag, -⟩ := h
  obtain ⟨hget, hdone⟩ := runCmd_stored hjudge (by decide) (by decide) rfl (puts_butNotes s _) rfl rfl
    (gateFields_storable f pol hlead hlag)
  simp only [gateFields, List.forall_mem_cons] at hget
  obtain ⟨hgLead, hgLag, hgGate, hgMon, -⟩ := hget
  exact ⟨_, rfl, hgLead, hgLag, hgGate, hgMon, hdone⟩

/-! ### RXF_PROBE_WRITE -/

/-- The fields of descriptor `d` that RXF_PROBE_WRITE stores. -/
def codeFields (f : Fib) (d ctl len bw bpsk : Nat) : List (Fld × Nat) :=
  [(RXF_PCODE_CTRL_TYPE f d, fld ctl 0 2), (RXF_PCODE_CTRL_DIR f d, fld ctl 2 1), (RXF_PCODE_CTRL_TAPER f d, fld ctl 8 8),
    (RXF_PCODE_CTRL_AMP f d, fld ctl 16 14), (RXF_PCODE_LEN_LEN f d, len), (RXF_PCODE_BW_BW f d, bw),
    (RXF_PCODE_BPSK_START f d, fld bpsk 0 13), (RXF_PCODE_BPSK_CHIP f d, fld bpsk 16 15)]

theorem codeFields_storable (f : Fib) {d len bw : Nat} (ctl bpsk : Nat) (hd : d ≤ 15) (hlen : len ≤ 0x7FFF)
    (hbw : bw ≤ 0x1FFFF) : Storable (codeFields f d ctl len bw bpsk) := by
  have htype := fld_lt ctl 0 2
  have hdir := fld_lt ctl 2 1
  have htaper := fld_lt ctl 8 8
  have hamp := fld_lt ctl 16 14
  have hstart := fld_lt bpsk 0 13
  have hchip := fld_lt bpsk 16 15
  simp only [codeFields, storable_cons, storable_nil, List.map_cons, List.map_nil, List.mem_cons, List.not_mem_nil, or_false,
    not_false_eq_true, true_and, and_true, RXF_PCODE_CTRL_TYPE, RXF_PCODE_CTRL_DIR, RXF_PCODE_CTRL_TAPER, RXF_PCODE_CTRL_AMP,
    RXF_PCODE_LEN_LEN, RXF_PCODE_BW_BW, RXF_PCODE_BPSK_START, RXF_PCODE_BPSK_CHIP, key]
  omega

theorem rxfProbeWrite_judge {c : CmdIn} {s : State} {f : Fib} {d ctl len bw bpsk : Nat}
    (h : Claim.preRxfProbeWrite c s f d ctl len bw bpsk) :
    s.judge 0x20 2 (fun _ => [1, full, 0x3FFFFF07, 0x7FFF, 0x1FFFF, 0x7FFF1FFF]) rxfProbeWrite c =
      .done stOk [] (s.puts (codeFields f d ctl len bw bpsk)) := by
  obtain ⟨hready, hwords, hd, hctl, hlen, hbw, hbpsk, hvalid, hfree⟩ := h
  have hform : paramsOk [1, full, 0x3FFFFF07, 0x7FFF, 0x1FFFF, 0x7FFF1FFF] c.words = true := by
    simp only [hwords, paramsOk_cons]
    exact ⟨fib_and_one f, and_full (by omega), hctl, Nat.and_two_pow_sub_one_of_lt_two_pow (n := 15) (by omega),
      Nat.and_two_pow_sub_one_of_lt_two_pow (n := 17) (by omega), hbpsk, paramsOk_nil⟩
  have hf : fibP c.words = f := fibP_of_head (by rw [hwords]; rfl)
  have hunused : ¬ (s.seqRuns f && (s.codesInUse f).contains d) = true := by
    rw [Bool.and_eq_true]
    rintro ⟨hruns, hused⟩
    rw [hfree hruns] at hused
    cases hused
  rw [judge_ready hready hform, rxfProbeWrite, hf, hwords]
  simp only [par, List.getD_cons_succ, List.getD_cons_zero]
  rw [if_neg (by omega), if_neg, if_neg hunused]
  · rfl
  · rintro ⟨htype, hbad⟩
    rcases hvalid with hoff | hok
    · exact htype hoff
    · rw [hok] at hbad
      cases hbad

/-- The clause on RXF_PROBE_WRITE (R103, R510): the descriptor is stored as it was given. -/
theorem rxfProbeWrite_holds : Claim.rxfProbeWrite := by
  intro c s f d ctl len bw bpsk h
  have hjudge := rxfProbeWrite_judge h
  obtain ⟨-, -, hd, -, hlen, hbw, -⟩ := h
  obtain ⟨hget, hdone⟩ := runCmd_stored hjudge (by decide) (by decide) rfl (puts_butNotes s _) rfl rfl
    (codeFields_storable f ctl bpsk hd hlen hbw)
  simp only [codeFields, List.forall_mem_cons] at hget
  obtain ⟨htype, hdir, htaper, hamp, hgLen, hgBw, hstart, hchip, -⟩ := hget
  exact ⟨_, rfl, htype, hdir, htaper, hamp, hgLen, hgBw, hstart, hchip, hdone⟩

/-! ### RXF_PROBE_TEST -/

/-- The fields that RXF_PROBE_TEST stores as it begins a probe test. -/
def testFields (f : Fib) (slot d per : Nat) : List (Fld × Nat) :=
  [(RXF_PTEST_SLOT f, slot), (RXF_PTEST_CODE f, d), (RXF_PTEST_PERIOD f, per), (RXF_PTEST_EN f, 1), (ptestF f, 1)]

/-- A fibre's bit of RXF_STATUS that shows its probe test (R101). -/
theorem ptestF_eq : ∀ f : Fib, ptestF f = ⟨key 2 0 (4 + f.val), 1, 0⟩ := by decide

theorem testFields_storable (f : Fib) {slot d per : Nat} (hslot : slot ≤ 7) (hd : d ≤ 15) (hper : per ≤ 65535) :
    Storable (testFields f slot d per) := by
  simp only [testFields, storable_cons, storable_nil, List.map_cons, List.map_nil, List.mem_cons, List.not_mem_nil, or_false,
    not_false_eq_true, true_and, and_true, RXF_PTEST_SLOT, RXF_PTEST_CODE, RXF_PTEST_PERIOD, RXF_PTEST_EN, ptestF_eq, key]
  omega

theorem rxfProbeTest_judge {c : CmdIn} {s : State} {f : Fib} {slot d per : Nat} (h : Claim.preRxfProbeTest c s f slot d per) :
    s.judge 0x25 2 (fun _ => [1, 1, full, full, full]) rxfProbeTest c = .done stOk []
      ((s.puts (testFields f slot d per)).setRxf f fun x => { x with ptestDue := s.cyc }) := by
  obtain ⟨hready, hwords, hidle, hslot, hd, hper, hcode, hoff⟩ := h
  have hform : paramsOk [1, 1, full, full, full] c.words = true := by
    have hper32 : per < 2 ^ 32 := words_mem_lt hwords per (by simp)
    simp only [hwords, paramsOk_cons]
    exact ⟨fib_and_one f, rfl, and_full (by omega), and_full (by omega), and_full hper32, paramsOk_nil⟩
  have hf : fibP c.words = f := fibP_of_head (by rw [hwords]; rfl)
  have hen : bit 1 0 = true := rfl
  have hoff' : ¬ true = s.on (RXF_PTEST_EN f) := by simp [State.on, hoff]
  rw [judge_ready hready hform, rxfProbeTest, hf, hwords]
  simp only [par, List.getD_cons_succ, List.getD_cons_zero, hen]
  rw [if_neg (by simp [hidle]), if_neg (by simp [hper, hcode]; omega), if_neg hoff']
  rfl

/-- The clause on RXF_PROBE_TEST (R89, R101): the test of an idle fibre is on, with the slot, code and period given. -/
theorem rxfProbeTest_holds : Claim.rxfProbeTest := by
  intro c s f slot d per h
  have hjudge := rxfProbeTest_judge h
  obtain ⟨-, -, -, hslot, hd, hper, -⟩ := h
  have hper16 : per ≤ 65535 := by
    rw [State.ptestPeriodOk, Bool.and_eq_true] at hper
    exact of_decide_eq_true hper.1
  obtain ⟨hget, hdone⟩ := runCmd_stored hjudge (by decide) (by decide) rfl
    (setRxf_butNotes (puts_butNotes s _) f _) rfl rfl (testFields_storable f hslot hd hper16)
  simp only [testFields, List.forall_mem_cons] at hget
  obtain ⟨hgSlot, hgCode, hgPeriod, hen, hruns, -⟩ := hget
  exact ⟨_, rfl, hen, hruns, hgSlot, hgCode, hgPeriod, (hdone.mono (by simp [testFields])).rxf⟩

end Sys2Proof.Machine
end

section
/-! SUPPORT. A register as a whole: it reads as its fields, so that it keeps its value while they do, and a word stored in it is
read back (R8). -/

namespace Sys2Proof.Machine
open Reg

theorem rows_lo_lt : ∀ r ∈ rows, r.lo < 32 := by decide +kernel

/-- A register's fields, each by its lowest bit and its width. -/
def fieldsAt (blk off : Nat) : List (Nat × Nat) := (rows.filter fun r => r.at blk off).map fun r => (r.lo, r.w)
/-- What a register of these fields keeps of a value. -/
def kept (fs : List (Nat × Nat)) (v : Nat) : Nat := fs.foldl (fun x p => x + v / 2 ^ p.1 % 2 ^ p.2 * 2 ^ p.1) 0

/-- A register reads the same where each of its fields does. -/
theorem rawReg_congr {s t : State} {blk off : Nat}
    (h : ∀ lo w rst, lo < 32 → t.get ⟨key blk off lo, w, rst⟩ = s.get ⟨key blk off lo, w, rst⟩) :
    t.rawReg blk off = s.rawReg blk off := by
  refine List.foldl_ext _ _ _ fun v r hr => ?_
  rw [h r.lo r.w r.rst (rows_lo_lt r (List.mem_of_mem_filter hr))]

theorem rawReg_of_sameRegs {fs : List Fld} {s t : State} {blk off : Nat} (h : SameRegs fs s t)
    (hf : ∀ g ∈ fs, g.key < key blk off 0 ∨ key blk (off + 1) 0 ≤ g.key) : t.rawReg blk off = s.rawReg blk off := by
  refine rawReg_congr fun lo w rst hlo => h _ fun hm => ?_
  obtain ⟨g, hg, hk⟩ := List.mem_map.1 hm
  have := hf g hg
  simp only [key] at hk this
  omega

/-- The answer to a command leaves every register of the first eleven blocks as it was. -/
theorem rawReg_of_sameLast {s t : State} {blk off : Nat} (h : SameRegs lastF s t) (hk : key blk (off + 1) 0 ≤ key 11 0 0) :
    t.rawReg blk off = s.rawReg blk off := by
  refine rawReg_congr fun lo w rst hlo => h _ (notLast ?_)
  simp only [key] at hk ⊢
  omega

end Sys2Proof.Machine
end

section
/-! SUPPORT. RXF_POWER: the power bits of a fibre's converter groups and stairs (R93, R103, R464). -/

namespace Sys2Proof.Machine
open Reg

/-- The fields that powering the groups of a fibre stores: a group that is switched off is not ready (R93). -/
def groupFields (f : Fib) (ray bri : Bool) : List (Fld × Nat) :=
  (if ray then [] else [(rayRdyF f, 0)]) ++ (if bri then [] else [(briRdyF f, 0)]) ++
    [(RXF_CTRL_RAY_EN f, ray.toNat), (RXF_CTRL_BRI_EN f, bri.toNat)]
/-- The fields that RXF_POWER stores. -/
def powerFields (f : Fib) (v : Nat) : List (Fld × Nat) :=
  groupFields f (bit v 0) (bit v 1) ++ [(RXF_CTRL_STAIR_EN f, fld v 2 1)]

theorem groupFields_subset (f : Fib) (ray bri : Bool) : (groupFields f ray bri).map Prod.fst ⊆
    [RXF_CTRL_RAY_EN f, RXF_CTRL_BRI_EN f, RXF_CTRL_STAIR_EN f, rayRdyF f, briRdyF f] := by
  cases ray <;> cases bri <;> simp [groupFields]

/-- The places are the same whatever the bits: the few values they can have are gone through. -/
theorem groupFields_storable : ∀ (f : Fib) (ray bri : Bool) (stair : Fin 2),
    Storable (groupFields f ray bri ++ [(RXF_CTRL_STAIR_EN f, stair.val)]) := by
  unfold Storable
  decide
theorem powerFields_storable (f : Fib) (v : Nat) : Storable (powerFields f v) :=
  groupFields_storable f (bit v 0) (bit v 1) ⟨fld v 2 1, fld_lt v 2 1⟩

/-- With no calibration run in progress none is aborted (R440). -/
theorem calAbort_idle {s : State} {f : Fib} (h : s.get (CAL_STAT_STATE f) = 0) : s.calAbort f = s := if_pos h

/-- The state of a calibration run is none of the fields that powering the groups stores. -/
theorem calState_notMem_groupFields (f : Fib) (ray bri : Bool) :
    (CAL_STAT_STATE f).key ∉ ((groupFields f ray bri).map Prod.fst).map Fld.key := by
  revert f ray bri
  decide

/-- Powering the groups of a fibre that does not calibrate stores the power bits, and the time at which a group was newly
enabled. -/
theorem setGroups_idle {s : State} {f : Fib} (h : s.get (CAL_STAT_STATE f) = 0) (ray bri : Bool) :
    ∃ r, s.setGroups f ray bri = (s.puts (groupFields f ray bri)).withRxf r := by
  unfold State.setGroups
  extract_lets s1 s2 s3
  have hs3 : ∃ r, s3 = (s.puts (groupFields f ray bri)).withRxf r := by
    simp only [s3, s2, s1]
    cases ray <;> cases bri <;> simp only [if_true, if_false, Bool.false_eq_true] <;> (repeat' split) <;> exact ⟨_, rfl⟩
  obtain ⟨r, hr⟩ := hs3
  have hidle : s3.get (CAL_STAT_STATE f) = 0 := by
    rw [hr]
    exact (sameRegs_puts s _ _ (calState_notMem_groupFields f ray bri)).trans h
  rw [calAbort_idle hidle, ite_self]
  exact ⟨r, hr⟩

theorem rxfPower_judge {c : CmdIn} {s : State} {f : Fib} {v : Nat} (h : Claim.preRxfPower c s f v) :
    ∃ r, s.judge 0x24 2 (fun _ => [1, 7]) rxfPower c = .done stOk
      [((s.puts (powerFields f v)).withRxf r).rawReg 2 0] ((s.puts (powerFields f v)).withRxf r) := by
  obtain ⟨hready, hwords, hv, hidle, hbarred, hcal⟩ := h
  have hform : paramsOk [1, 7] c.words = true := by
    simp only [hwords, paramsOk_cons]
    exact ⟨fib_and_one f, Nat.and_two_pow_sub_one_of_lt_two_pow (n := 3) (by omega), paramsOk_nil⟩
  have hf : fibP c.words = f := fibP_of_head (by rw [hwords]; rfl)
  obtain ⟨r, hr⟩ := setGroups_idle hcal (bit v 0) (bit v 1)
  refine ⟨r, ?_⟩
  rw [judge_ready hready hform, rxfPower, hf, hwords]
  simp only [par, List.getD_cons_succ, List.getD_cons_zero]
  rw [if_neg (by simp [hidle, hbarred]), hr, powerFields, puts_append]
  rfl

/-- One bit of a parameter, as a number. -/
theorem toNat_bit (v i : Nat) : (bit v i).toNat = fld v i 1 := Nat.toNat_testBit v i

/-- The clause on RXF_POWER (R93, R103): the power bits are stored, and a group that is switched off is not ready. -/
theorem rxfPower_holds : Claim.rxfPower := by
  intro c s f v h
  obtain ⟨r, hjudge⟩ := rxfPower_judge h
  have hlast := (runCmd_done hjudge (by decide) (by decide)).2.1
  obtain ⟨hget, hdone⟩ := runCmd_stored hjudge (by decide) (by decide) rfl
    (withRxf_butNotes (puts_butNotes s _) r) rfl rfl (powerFields_storable f v)
  rw [← rawReg_of_sameLast hlast (by decide)] at hdone
  have hrayOff : fld v 0 1 = 0 → (rayRdyF f, 0) ∈ powerFields f v := by
    rw [← toNat_bit, powerFields]
    cases bit v 0 <;> simp [groupFields]
  have hbriOff : fld v 1 1 = 0 → (briRdyF f, 0) ∈ powerFields f v := by
    rw [← toNat_bit, powerFields]
    cases bit v 1 <;> simp [groupFields]
  have hray : (RXF_CTRL_RAY_EN f, fld v 0 1) ∈ powerFields f v := by simp [powerFields, groupFields, toNat_bit]
  have hbri : (RXF_CTRL_BRI_EN f, fld v 1 1) ∈ powerFields f v := by simp [powerFields, groupFields, toNat_bit]
  have hstair : (RXF_CTRL_STAIR_EN f, fld v 2 1) ∈ powerFields f v := by simp [powerFields]
  have hfields : (powerFields f v).map Prod.fst ⊆
      [RXF_CTRL_RAY_EN f, RXF_CTRL_BRI_EN f, RXF_CTRL_STAIR_EN f, rayRdyF f, briRdyF f] := by
    rw [powerFields, List.map_append]
    exact List.append_subset.2 ⟨groupFields_subset f _ _, by simp⟩
  exact ⟨_, rfl, hget _ hray, hget _ hbri, hget _ hstair, fun h0 => hget _ (hrayOff h0), fun h0 => hget _ (hbriOff h0),
    (hdone.mono hfields).rxf⟩

end Sys2Proof.Machine
end

section
/-! SUPPORT. Words of a window's memories: what firmware's write of a pair of words does (R102, R390, R478). -/

namespace Sys2Proof.Machine
open Reg

/-! ### Registers stored whole -/

/-- The key of a row's field in the register at `off` of block `blk`, and its bits of a value. -/
def rowKey (blk off : Nat) (r : Row) : Nat := key blk off r.lo
def rowBits (v : Nat) (r : Row) : Nat := v / 2 ^ r.lo % 2 ^ r.w

theorem putRow_eq (blk off v : Nat) (m : KMap Nat) : putRow blk off v m =
    (rows.filter fun r => r.at blk off).foldl (fun m r => kput (rowKey blk off r) (rowBits v r) m) m := rfl

theorem rowKey_nodup {blk off : Nat} (h : ((fieldsAt blk off).map Prod.fst).Nodup) :
    ((rows.filter fun r => r.at blk off).map (rowKey blk off)).Nodup := by
  rw [fieldsAt, List.map_map] at h
  have hinj : Function.Injective (key blk off) := fun x y hxy => by
    simp only [key] at hxy
    omega
  have := h.map hinj
  rwa [List.map_map] at this

/-- A register that was stored holds what its fields keep of the value. -/
theorem rawReg_putRow {s : State} {blk off v : Nat} {m : KMap Nat} (h : ((fieldsAt blk off).map Prod.fst).Nodup)
    (hs : s.regs = putRow blk off v m) : s.rawReg blk off = kept (fieldsAt blk off) v := by
  rw [kept, fieldsAt, List.foldl_map]
  refine List.foldl_ext _ _ _ fun x r hr => ?_
  have := kget_foldl_kput_mem (rowKey blk off) (rowBits v) (rowKey_nodup h) hr m
  rw [State.get, hs, putRow_eq]
  exact congrArg (fun y => x + Option.getD y r.rst * 2 ^ r.lo) this

/-- Storing another register leaves a register as it was. -/
theorem rawReg_putRow_ne {s t : State} {blk off off' v : Nat} (h : off ≠ off') (ht : t.regs = putRow blk off' v s.regs) :
    t.rawReg blk off = s.rawReg blk off := by
  refine rawReg_congr fun lo w rst hlo => ?_
  have hnot : key blk off lo ∉ (rows.filter fun r => r.at blk off').map (rowKey blk off') := fun hm => by
    obtain ⟨r, hr, hk⟩ := List.mem_map.1 hm
    have := rows_lo_lt r (List.mem_of_mem_filter hr)
    simp only [rowKey, key] at hk
    omega
  rw [State.get, ht, putRow_eq, kget_foldl_kput_ne _ _ hnot, State.get]

/-! ### A word stored in a window -/

/-- What the opcodes that write RXF memories leave of the machine, beside registers. -/
structure MemoryKept (s t : State) : Prop where
  mem : t.mem = s.mem
  flash : t.flash = s.flash
  seq : t.seq = s.seq
  rxf : t.rxf = s.rxf
  cmd : t.cmd = s.cmd
  out : t.out = s.out

section
variable {s t u : State}
theorem MemoryKept.refl (s : State) : MemoryKept s s := ⟨rfl, rfl, rfl, rfl, rfl, rfl⟩
theorem MemoryKept.trans (h : MemoryKept s t) (k : MemoryKept t u) : MemoryKept s u :=
  ⟨k.mem.trans h.mem, k.flash.trans h.flash, k.seq.trans h.seq, k.rxf.trans h.rxf, k.cmd.trans h.cmd, k.out.trans h.out⟩
end

theorem rptFree_kept (s : State) (a : Nat) : MemoryKept s (s.rptFree a) := by
  unfold State.rptFree
  split <;> exact ⟨rfl, rfl, rfl, rfl, rfl, rfl⟩
theorem rptFree_scrub (s : State) (a : Nat) : (s.rptFree a).scrub = s.scrub := by
  unfold State.rptFree
  split <;> rfl

/-- Freeing an entry of the repeat table leaves the registers of the first eleven blocks as they were. -/
theorem rawReg_rptFree (s : State) (a : Nat) {blk off : Nat} (h : key blk (off + 1) 0 ≤ key 11 0 0) :
    (s.rptFree a).rawReg blk off = s.rawReg blk off := by
  refine rawReg_congr fun lo w rst hlo => ?_
  unfold State.rptFree
  split
  · simp only [key] at h
    rw [State.get_set_ne, State.get_set_ne, State.get_set_ne] <;>
      simp only [SCRUB_RPTi_INFO_VALID, SCRUB_RPTi_INFO_COUNT, SCRUB_RPTi_INFO_PERS, key, ne_eq] <;> omega
  · rfl

/-- `s` with a 64-bit word in the two registers at its place in a window, its check bits fresh. -/
def State.wordStored (s : State) (a blk off v : Nat) : State :=
  { s with regs := putRow blk (off + 4) (hi32 v) (putRow blk off (lo32 v) s.regs), ecc := kdel a s.ecc }
theorem wordStored_kept (s : State) (a blk off v : Nat) : MemoryKept s (s.wordStored a blk off v) :=
  ⟨rfl, rfl, rfl, rfl, rfl, rfl⟩

/-- A word written to a window is stored there, and no entry of the repeat table stays for it. -/
theorem writeWord_window {s : State} {a blk off : Nat} (ha : regionOf a = .window blk off) (v : Nat) :
    s.writeWord a v = (s.wordStored a blk off v).rptFree a := by
  simp only [State.writeWord, State.storeWord, ha]
  rfl

theorem writeWord_window_kept {s : State} {a blk off : Nat} (ha : regionOf a = .window blk off) (v : Nat) :
    MemoryKept s (s.writeWord a v) := by
  rw [writeWord_window ha]
  exact (wordStored_kept s a blk off v).trans (rptFree_kept _ a)

theorem writeWord_window_lo {s : State} {a blk off : Nat} (ha : regionOf a = .window blk off) (v : Nat)
    (h : ((fieldsAt blk off).map Prod.fst).Nodup) (hk : key blk (off + 1) 0 ≤ key 11 0 0) :
    (s.writeWord a v).rawReg blk off = kept (fieldsAt blk off) (lo32 v) := by
  rw [writeWord_window ha, rawReg_rptFree _ _ hk,
    rawReg_putRow_ne (s := { s with regs := putRow blk off (lo32 v) s.regs }) (by omega) rfl, rawReg_putRow h rfl]

theorem writeWord_window_hi {s : State} {a blk off : Nat} (ha : regionOf a = .window blk off) (v : Nat)
    (h : ((fieldsAt blk (off + 4)).map Prod.fst).Nodup) (hk : key blk (off + 5) 0 ≤ key 11 0 0) :
    (s.writeWord a v).rawReg blk (off + 4) = kept (fieldsAt blk (off + 4)) (hi32 v) := by
  rw [writeWord_window ha, rawReg_rptFree _ _ hk, rawReg_putRow h rfl]

/-! ### Performance counters count the firmware's writes (R478) -/

/-- Performance counters have counted, and nothing else has happened. -/
structure Counted (s t : State) : Prop extends MemoryKept s t where
  scrub : t.scrub = s.scrub

section
variable {s t u : State}
theorem Counted.refl (s : State) : Counted s s := ⟨.refl s, rfl⟩
theorem Counted.trans (h : Counted s t) (k : Counted t u) : Counted s u :=
  ⟨h.toMemoryKept.trans k.toMemoryKept, k.scrub.trans h.scrub⟩
theorem Counted.foldl {α : Type} {g : State → α → State} (hg : ∀ u a, Counted u (g u a)) (l : List α) (s : State) :
    Counted s (l.foldl g s) := by
  induction l generalizing s with
  | nil => exact .refl s
  | cons a l ih => exact (hg s a).trans (ih _)
end

theorem pmonBump_counted (s : State) (k : Fin 8) (n : Nat) : Counted s (s.pmonBump k n) := by
  unfold State.pmonBump
  dsimp only
  split <;> split <;> exact ⟨⟨rfl, rfl, rfl, rfl, rfl, rfl⟩, rfl⟩

theorem pmonAdd_counted (s : State) (ev n mid : Nat) : Counted s (s.pmonAdd ev n mid) := by
  unfold State.pmonAdd
  split
  · refine Counted.foldl (fun u k => ?_) _ s
    split
    · exact pmonBump_counted u k n
    · exact .refl u
  · exact .refl s

theorem pmonIo_counted (s : State) (m : Master) (write : Bool) (bytes : Nat) : Counted s (s.pmonIo m write bytes) := by
  unfold State.pmonIo
  split
  · exact .refl s
  · exact .refl s
  · split
    · exact .refl s
    · exact (pmonAdd_counted ..).trans (pmonAdd_counted ..)

/-! ### A pair of words that firmware writes (R390) -/

/-- What a write of the firmware does before its word: it is counted, and the memory is in use. -/
def State.accessed (s : State) (a : Nat) : State := (s.pmonIo .mgmt true 4).useMem .mgmt a

theorem useMem_kept (s : State) (m : Master) (a : Nat) : MemoryKept s (s.useMem m a) := ⟨rfl, rfl, rfl, rfl, rfl, rfl⟩
theorem setComb_kept (s : State) (h : Option Held32) : MemoryKept s (s.setComb .mgmt h) := ⟨rfl, rfl, rfl, rfl, rfl, rfl⟩
theorem accessed_kept (s : State) (a : Nat) : MemoryKept s (s.accessed a) :=
  (pmonIo_counted s .mgmt true 4).toMemoryKept.trans (useMem_kept _ _ a)
theorem accessed_comb (s : State) (a : Nat) : (s.accessed a).comb .mgmt = s.comb .mgmt := by
  show (s.pmonIo .mgmt true 4).scrub.combMgmt = s.scrub.combMgmt
  rw [(pmonIo_counted s .mgmt true 4).scrub]

theorem release_none {s : State} {m : Master} (h : s.comb m = none) : s.release m = s := by rw [State.release, h]

/-- With no half held, the low half of a word is held for the high one. -/
theorem write32_low {s : State} {a : Nat} (v : Nat) (ha : a % 8 = 0) (h : s.comb .mgmt = none) :
    s.write32 .mgmt a v = (s.accessed a).setComb .mgmt (some ⟨a, v, (s.accessed a).cyc + 16⟩) := by
  have hnone : (s.accessed a).release .mgmt = s.accessed a := release_none ((accessed_comb s a).trans h)
  rw [State.write32, if_pos ha]
  exact congrArg (State.setComb · _ _) hnone

/-- The high half joins the low one that is held, and the word is written whole. -/
theorem write32_high {s : State} {a : Nat} {held : Held32} (v : Nat) (ha : held.addr = a) (hal : a % 8 = 0)
    (h : s.comb .mgmt = some held) : s.write32 .mgmt (a + 4) v =
      ((s.accessed (a + 4)).setComb .mgmt none).writeWord a (held.val % 2 ^ 32 + v % 2 ^ 32 * 2 ^ 32) := by
  have hheld : ((s.pmonIo .mgmt true 4).useMem .mgmt (a + 4)).comb .mgmt = some held := (accessed_comb s (a + 4)).trans h
  subst ha
  rw [State.write32, if_neg (by omega)]
  simp only [hheld, if_true]
  rfl

/-- Firmware's pair of words from an even word on is one write of their 64-bit word. -/
theorem firmwareWrite_pair {s : State} {a blk off : Nat} (v w : Nat) (ha : regionOf a = .window blk off) (hal : a % 8 = 0)
    (h : s.scrub.combMgmt = none) :
    ∃ u, MemoryKept s u ∧ s.firmwareWrite a [v, w] = u.writeWord a (v % 2 ^ 32 + w % 2 ^ 32 * 2 ^ 32) := by
  have hlow := write32_low v hal (s := s) h
  generalize hs1 : s.write32 .mgmt a v = s1 at hlow
  have hcomb : s1.comb .mgmt = some ⟨a, v, (s.accessed a).cyc + 16⟩ := by rw [hlow]; rfl
  refine ⟨(s1.accessed (a + 4)).setComb .mgmt none, ?_, ?_⟩
  · rw [hlow]
    exact (accessed_kept s a).trans ((setComb_kept _ _).trans ((accessed_kept _ _).trans (setComb_kept _ _)))
  · have hhigh := write32_high w rfl hal hcomb
    have hfree : (s1.write32 .mgmt (a + 4) w).comb .mgmt = none := by
      rw [hhigh, writeWord_window ha]
      exact congrArg ScrubRun.combMgmt (rptFree_scrub _ _)
    rw [← hhigh, State.firmwareWrite, List.foldl_cons, List.foldl_cons, List.foldl_nil, hs1]
    exact release_none hfree

end Sys2Proof.Machine
end

section
/-! SUPPORT. RXF_CODE_WRITE and RXF_STAIR_WRITE (R96, R103, R510): each writes a pair of words that reads back as given. -/

namespace Sys2Proof.Machine
open Reg

/-- What an answer leaves of memory, sequencers and front ends. -/
theorem kept_of_repliedOnly {u t : State} (h : t = repliedOnly u t) :
    t.mem = u.mem ∧ t.flash = u.flash ∧ t.rxf = u.rxf ∧ t.seq = u.seq :=
  ⟨(congrArg State.mem h).trans rfl, (congrArg State.flash h).trans rfl, (congrArg State.rxf h).trans rfl,
    (congrArg State.seq h).trans rfl⟩

/-! ### RXF_CODE_WRITE -/

theorem lo32_pair {v w : Nat} (hv : v < 2 ^ 32) : lo32 (v % 2 ^ 32 + w % 2 ^ 32 * 2 ^ 32) = v := by
  rw [lo32]
  omega
theorem hi32_pair {v w : Nat} (hw : w < 2 ^ 32) : hi32 (v % 2 ^ 32 + w % 2 ^ 32 * 2 ^ 32) = w := by
  rw [hi32]
  omega

/-- Firmware's pair of words to an even register of block 2 and the next reads back as what the two registers keep. -/
theorem firmwareWrite_window {s : State} {a off v w : Nat} {fs : List (Nat × Nat)} (ha : regionOf a = .window 2 off)
    (hal : a % 8 = 0) (h : s.scrub.combMgmt = none) (hoff : off + 5 ≤ 0x10000) (hlo : fieldsAt 2 off = fs)
    (hhi : fieldsAt 2 (off + 4) = fs) (hfs : (fs.map Prod.fst).Nodup) (hv : v < 2 ^ 32) (hw : w < 2 ^ 32) :
    MemoryKept s (s.firmwareWrite a [v, w]) ∧ (s.firmwareWrite a [v, w]).rawReg 2 off = kept fs v
      ∧ (s.firmwareWrite a [v, w]).rawReg 2 (off + 4) = kept fs w := by
  obtain ⟨u, hu, hpair⟩ := firmwareWrite_pair v w ha hal h
  rw [hpair]
  refine ⟨hu.trans (writeWord_window_kept ha _), ?_, ?_⟩
  · rw [writeWord_window_lo ha _ (hlo ▸ hfs) (by simp only [key]; omega), lo32_pair hv, hlo]
  · rw [writeWord_window_hi ha _ (hhi ▸ hfs) (by simp only [key]; omega), hi32_pair hw, hhi]

theorem codeAddr_region : ∀ f : Fib, regionOf (codeAddr f 254) = .window 2 (0x1800 + 0x1000 * f.val + 4 * 254) := by decide
theorem codeAddr_aligned : ∀ f : Fib, codeAddr f 254 % 8 = 0 := by decide
/-- A word of the code memory is one field of 32 bits (R101). -/
theorem code_fields : ∀ f : Fib, fieldsAt 2 (0x1800 + 0x1000 * f.val + 4 * 254) = [(0, 32)]
    ∧ fieldsAt 2 (0x1800 + 0x1000 * f.val + 4 * 254 + 4) = [(0, 32)] := by decide +kernel
theorem kept_code {v : Nat} (h : v < 2 ^ 32) : kept [(0, 32)] v = v := by
  simp only [kept, List.foldl]
  omega

theorem rxfCodeWrite_judge {c : CmdIn} {s : State} {f : Fib} {v w : Nat} (h : Claim.preRxfCodeWrite c s f v w) :
    s.judge 0x21 2 (fun ps => [1, full, full] ++ List.replicate (min (par ps 2) 500) full) rxfCodeWrite c =
      .done stOk [] (s.firmwareWrite (codeAddr f 254) [v, w]) := by
  obtain ⟨hready, hwords, hruns, -⟩ := h
  have hw := words_mem_lt hwords
  have hform : paramsOk ([1, full, full] ++ List.replicate (min (par c.words 2) 500) full) c.words = true := by
    rw [hwords]
    show paramsOk [1, full, full, full, full] [f.val, 254, 2, v, w] = true
    simp only [paramsOk_cons]
    exact ⟨fib_and_one f, rfl, rfl, and_full (hw v (by simp)), and_full (hw w (by simp)), paramsOk_nil⟩
  have hf : fibP c.words = f := fibP_of_head (by rw [hwords]; rfl)
  rw [judge_ready hready hform, rxfCodeWrite, hf, hwords]
  simp only [par, List.getD_cons_succ, List.getD_cons_zero]
  rw [if_neg (by omega), if_neg (by simp [hruns])]
  rfl

/-- The clause on RXF_CODE_WRITE (R103, R510): the two words are read back from the code memory. -/
theorem rxfCodeWrite_holds : Claim.rxfCodeWrite := by
  intro c s f v w h
  have hjudge := rxfCodeWrite_judge h
  obtain ⟨-, hwords, -, hheld⟩ := h
  have hlt := words_mem_lt hwords
  have hv : v < 2 ^ 32 := hlt v (by simp)
  have hw : w < 2 ^ 32 := hlt w (by simp)
  obtain ⟨hlo, hhi⟩ := code_fields f
  obtain ⟨hkept, hfirst, hsecond⟩ := firmwareWrite_window (codeAddr_region f) (codeAddr_aligned f) hheld (by omega) hlo hhi
    (by decide) hv hw
  obtain ⟨-, hlast, hanswer⟩ := runCmd_done hjudge (by decide) (by decide)
  obtain ⟨hmem, hflash, hrxf, hseq⟩ := kept_of_repliedOnly hanswer
  refine ⟨_, rfl, ?_, ?_, runCmd_replied hjudge (by decide) (by decide) hkept.cmd hkept.out,
    hmem.trans hkept.mem, hflash.trans hkept.flash, hrxf.trans hkept.rxf, hseq.trans hkept.seq⟩
  · rw [rawReg_of_sameLast hlast (by simp only [key]; omega), hfirst, kept_code hv]
  · have hoff : 0x1800 + 0x1000 * f.val + 4 * 255 = 0x1800 + 0x1000 * f.val + 4 * 254 + 4 := by omega
    rw [hoff, rawReg_of_sameLast hlast (by simp only [key]; omega), hsecond, kept_code hw]

/-! ### RXF_STAIR_WRITE -/

theorem stairAddr_region : ∀ f : Fib, regionOf (stairAddr f 14) = .window 2 (0x1400 + 0x1000 * f.val + 4 * 14) := by decide
theorem stairAddr_aligned : ∀ f : Fib, stairAddr f 14 % 8 = 0 := by decide
/-- The fields of a stair entry: OFFSET, RG, BG and EN (R101). -/
def stairFields : List (Nat × Nat) := [(0, 19), (20, 4), (24, 4), (31, 1)]
theorem stair_fields : ∀ f : Fib, fieldsAt 2 (0x1400 + 0x1000 * f.val + 4 * 14) = stairFields
    ∧ fieldsAt 2 (0x1400 + 0x1000 * f.val + 4 * 14 + 4) = stairFields := by decide +kernel

/-- A bit outside the mask that a value keeps to is 0. -/
theorem fld_of_masked {v m : Nat} (i : Nat) (h : v &&& m = v) (hm : m.testBit i = false) : v / 2 ^ i % 2 = 0 := by
  have hbit : v.testBit i = false := by rw [← h, Nat.testBit_and, hm, Bool.and_false]
  rw [Nat.testBit_eq_decide_div_mod_eq, decide_eq_false_iff_not] at hbit
  omega

theorem kept_four (a b c d e f g h v : Nat) : kept [(a, b), (c, d), (e, f), (g, h)] v =
    v / 2 ^ a % 2 ^ b * 2 ^ a + v / 2 ^ c % 2 ^ d * 2 ^ c + v / 2 ^ e % 2 ^ f * 2 ^ e + v / 2 ^ g % 2 ^ h * 2 ^ g := by
  simp only [kept, List.foldl, Nat.zero_add]

/-- The four fields of a stair entry hold the whole of a value whose unassigned bits, 19 and 28 to 30, are 0: it is put together
from the highest field down. -/
theorem kept_stair {v : Nat} (hv : v < 2 ^ 32) (h : v &&& 0x8FF7FFFF = v) : kept stairFields v = v := by
  have h19 := fld_of_masked 19 h (by decide)
  have h28 := fld_of_masked 28 h (by decide)
  have h29 := fld_of_masked 29 h (by decide)
  have h30 := fld_of_masked 30 h (by decide)
  have hen : v / 2 ^ 31 % 2 ^ 1 * 8 = v / 2 ^ 28 := by omega
  have hbg : v / 2 ^ 28 * 16 + v / 2 ^ 24 % 2 ^ 4 = v / 2 ^ 24 := by omega
  have hrg : v / 2 ^ 24 * 16 + v / 2 ^ 20 % 2 ^ 4 = v / 2 ^ 20 := by omega
  have hgap : v / 2 ^ 20 * 2 = v / 2 ^ 19 := by omega
  have hofs : v / 2 ^ 19 * 2 ^ 19 + v / 2 ^ 0 % 2 ^ 19 = v := by omega
  clear h19 h28 h29 h30 hv
  rw [stairFields, kept_four]
  omega

/-- A gain step changes the gain codes in force and its counter (R95, R97). -/
theorem gainTo_only (s : State) (f : Fib) (e : Nat) (n : Int) :
    Only [RXF_STEP_COUNT_COUNT f] s (s.withRxf (s.gainTo f e n).rxf) (s.gainTo f e n) := by
  unfold State.gainTo
  dsimp only
  split
  · exact Only.refl _ s
  · exact ⟨((SameRegs.refl _ s).set (List.mem_singleton.2 rfl) _).of_regs rfl, rfl⟩

theorem syncStair_only (s : State) (f : Fib) :
    Only [RXF_STEP_COUNT_COUNT f] s (s.withRxf (s.syncStair f).rxf) (s.syncStair f) := by
  unfold State.syncStair
  split
  · exact Only.refl _ s
  · exact gainTo_only s f 0 _

/-- What an event that changes front ends and register fields leaves of memory, sequencers, commands and output. -/
theorem kept_of_withRxf {s t : State} {r : Vector RxfRun 2} (h : t = butNotes (s.withRxf r) t) :
    t.mem = s.mem ∧ t.flash = s.flash ∧ t.seq = s.seq ∧ t.cmd = s.cmd ∧ t.out = s.out :=
  ⟨(congrArg State.mem h).trans rfl, (congrArg State.flash h).trans rfl, (congrArg State.seq h).trans rfl,
    (congrArg State.cmd h).trans rfl, (congrArg State.out h).trans rfl⟩

theorem rxfStairWrite_judge {c : CmdIn} {s : State} {f : Fib} {v w : Nat} (h : Claim.preRxfStairWrite c s f v w) :
    s.judge 0x22 2 (fun ps => [1, full, full] ++ List.replicate (min (par ps 2) 500) 0x8FF7FFFF) rxfStairWrite c =
      .done stOk [] ((s.firmwareWrite (stairAddr f 14) [v, w]).syncStair f) := by
  obtain ⟨hready, hwords, hv, hw, hidle, -⟩ := h
  have hform : paramsOk ([1, full, full] ++ List.replicate (min (par c.words 2) 500) 0x8FF7FFFF) c.words = true := by
    rw [hwords]
    show paramsOk [1, full, full, 0x8FF7FFFF, 0x8FF7FFFF] [f.val, 14, 2, v, w] = true
    simp only [paramsOk_cons]
    exact ⟨fib_and_one f, rfl, rfl, hv, hw, paramsOk_nil⟩
  have hf : fibP c.words = f := fibP_of_head (by rw [hwords]; rfl)
  rw [judge_ready hready hform, rxfStairWrite, hf, hwords]
  simp only [par, List.getD_cons_succ, List.getD_cons_zero]
  rw [if_neg (not_not.2 hidle), if_neg (by omega)]
  rfl

/-- The clause on RXF_STAIR_WRITE (R96, R103): the two entries are read back from the stair table. -/
theorem rxfStairWrite_holds : Claim.rxfStairWrite := by
  intro c s f v w h
  have hjudge := rxfStairWrite_judge h
  obtain ⟨-, hwords, hvm, hwm, -, hheld⟩ := h
  have hlt := words_mem_lt hwords
  have hv : v < 2 ^ 32 := hlt v (by simp)
  have hw : w < 2 ^ 32 := hlt w (by simp)
  obtain ⟨hlo, hhi⟩ := stair_fields f
  obtain ⟨hkept, hfirst, hsecond⟩ := firmwareWrite_window (stairAddr_region f) (stairAddr_aligned f) hheld (by omega) hlo hhi
    (by decide) hv hw
  obtain ⟨hstep, hsync⟩ := syncStair_only (s.firmwareWrite (stairAddr f 14) [v, w]) f
  obtain ⟨-, hlast, hanswer⟩ := runCmd_done hjudge (by decide) (by decide)
  obtain ⟨hmem, hflash, -, hseq⟩ := kept_of_repliedOnly hanswer
  obtain ⟨hmem', hflash', hseq', hcmd', hout'⟩ := kept_of_withRxf hsync
  refine ⟨_, rfl, ?_, ?_, runCmd_replied hjudge (by decide) (by decide) (hcmd'.trans hkept.cmd) (hout'.trans hkept.out),
    hmem.trans (hmem'.trans hkept.mem), hflash.trans (hflash'.trans hkept.flash), hseq.trans (hseq'.trans hkept.seq)⟩
  · rw [rawReg_of_sameLast hlast (by simp only [key]; omega),
      rawReg_of_sameRegs hstep (by simp only [List.forall_mem_singleton, RXF_STEP_COUNT_COUNT, key]; omega),
      hfirst, kept_stair hv hvm]
  · have hoff : 0x1400 + 0x1000 * f.val + 4 * 15 = 0x1400 + 0x1000 * f.val + 4 * 14 + 4 := by omega
    rw [hoff, rawReg_of_sameLast hlast (by simp only [key]; omega),
      rawReg_of_sameRegs hstep (by simp only [List.forall_mem_singleton, RXF_STEP_COUNT_COUNT, key]; omega),
      hsecond, kept_stair hw hwm]

end Sys2Proof.Machine
end

section
/-! SUPPORT. The receiver front end's events: a probe test's emission, a converter group that is ready, a gain step (R89, R93,
R95). -/

namespace Sys2Proof.Machine
open Reg

/-- The front end of a fibre after its change. -/
@[simp] theorem rxf_setRxf (s : State) (f : Fib) (g : RxfRun → RxfRun) : (s.setRxf f g).rxf[f] = g s.rxf[f] := by
  simp [State.setRxf]

theorem onFab_running {s : State} (h : s.fabRuns = true) (t : State) : s.onFab t = t := if_pos h

/-- The clause on PROBE_TEST_EMIT (R89): the enabled test whose time has come emits, and is due again after its period. -/
theorem probeTestEmit_holds : Claim.probeTestEmit := by
  rintro s f ⟨hfab, hen, hdue⟩
  have hexec : exec (.probeTestEmit f) s = .next (s.setRxf f fun x => { x with
      probe := some ⟨s.get (RXF_PTEST_SLOT f), s.nowNs, s.codeOf f (s.get (RXF_PTEST_CODE f))⟩
      ptestDue := x.ptestDue + usCyc (s.get (RXF_PTEST_PERIOD f)) }) := by
    show execProbeTestEmit f s = _
    rw [execProbeTestEmit, onFab_running hfab, if_pos (by rw [hen, decide_eq_true hdue]; rfl)]
  exact ⟨_, hexec, by rw [rxf_setRxf], by rw [rxf_setRxf], rfl⟩

theorem ready_width : ∀ (f : Fib) (bril : Bool), (if bril then briRdyF f else rayRdyF f).w = 1 := by decide

/-- The clause on CONVERTER_GROUP_READY (R93): a group 20 µs after it was enabled shows that it is ready. -/
theorem converterGroupReady_holds : Claim.converterGroupReady := by
  rintro s f bril ⟨hfab, hon, htime⟩
  have hexec : exec (.converterGroupReady f bril) s = .next (s.set (if bril then briRdyF f else rayRdyF f) 1) := by
    show execConverterGroupReady f bril s = _
    rw [execConverterGroupReady, onFab_running hfab]
    cases bril <;> exact congrArg _ (if_pos (Bool.and_eq_true_iff.2 ⟨hon, decide_eq_true htime⟩))
  refine ⟨_, hexec, ?_, (Only.refl _ s).set (List.mem_singleton.2 rfl) 1⟩
  rw [State.get_set_same, ready_width]
  rfl

/-! ### GAIN_STEP -/

/-- After a gain step the codes of its entry are in force (R95). -/
theorem gainTo_codes (s : State) (f : Fib) (e : Nat) (n : Int) :
    ((s.gainTo f e n).rxf[f]).rg = s.get (RXF_STAIRe_RG f e) ∧ ((s.gainTo f e n).rxf[f]).bg = s.get (RXF_STAIRe_BG f e) := by
  unfold State.gainTo
  dsimp only
  split
  · assumption
  · simp

/-- Where the Rayleigh code changes, six sample instants from the step's own are flagged (R97). -/
theorem gainTo_flags {s : State} {f : Fib} {e : Nat} {n m : Int} (h : (s.rxf[f]).rg ≠ s.get (RXF_STAIRe_RG f e))
    (hlo : n ≤ m) (hhi : m < n + 6) : ((s.gainTo f e n).rxf[f]).stepRayAt m = true := by
  unfold State.gainTo
  dsimp only
  rw [if_neg (fun hsame => h hsame.1)]
  simpa [RxfRun.stepRayAt, hlo, hhi] using Or.inl h

/-- The step that GAIN_STEP makes where its entry is the next and no launch waits. -/
theorem execGainStep_next {s : State} {f : Fib} {e : Fin 16} {ofs : Fin 5} {n : Int} (h : Claim.preGainStep s f e ofs n) :
    exec (.gainStep f e ofs) s = .next ((s.gainTo f e n).setRxf f fun x => { x with stairAt := some n }) := by
  obtain ⟨hfab, hen, hrun, hnext, hofs, hnow, hnone⟩ := h
  show execGainStep f e ofs s = _
  rw [execGainStep, onFab_running hfab, if_pos (by rw [hen, bne_iff_ne.2 hrun]; rfl), hnext]
  simp [hofs, hnow, hnone]

/-- The clause on GAIN_STEP (R95, R97). -/
theorem gainStep_holds : Claim.gainStep := by
  intro s f e ofs n h
  obtain ⟨hrg, hbg⟩ := gainTo_codes s f e n
  refine ⟨_, execGainStep_next h, ?_, ?_, ?_, fun hchange => ?_, ?_⟩
  · rw [rxf_setRxf]; exact hrg
  · rw [rxf_setRxf]; exact hbg
  · rw [rxf_setRxf]
  · rw [rxf_setRxf]
    exact ⟨gainTo_flags hchange le_rfl (by omega), gainTo_flags hchange (by omega) (by omega)⟩
  · exact Only.setRxf (gainTo_only s f e n) f _

end Sys2Proof.Machine
end

section
/-! SUPPORT. The launch of a shot (R88, R109, R119): what each part of it changes, and the clause on SHOT_LAUNCH. -/

namespace Sys2Proof.Machine
open Reg

/-- A launch changes the register fields `fs` and what sequencers, front ends, loss watch, trace capture and Prism hold. -/
def LaunchOnly (fs : List Fld) (s t : State) : Prop :=
  Only fs s { s with seq := t.seq, rxf := t.rxf, lw := t.lw, cap := t.cap, prism := t.prism } t

section
variable {fs : List Fld} {s t u : State}

theorem LaunchOnly.refl (fs : List Fld) (s : State) : LaunchOnly fs s s := Only.refl fs s
/-- A change of those parts alone, and of the flags raised in the present cycle. -/
theorem LaunchOnly.parts (h : LaunchOnly fs s t)
    (hu : u = { t with raised := u.raised, seq := u.seq, rxf := u.rxf, lw := u.lw, cap := u.cap, prism := u.prism }) :
    LaunchOnly fs s u := by
  obtain ⟨hregs, honly⟩ := h
  refine ⟨hregs.of_regs ((congrArg State.regs hu).trans rfl), ?_⟩
  rw [honly] at hu
  rw [hu]
theorem LaunchOnly.setSq (h : LaunchOnly fs s t) (f : Fib) (g : SeqRun → SeqRun) : LaunchOnly fs s (t.setSq f g) := h.parts rfl
theorem LaunchOnly.setRxf (h : LaunchOnly fs s t) (f : Fib) (g : RxfRun → RxfRun) : LaunchOnly fs s (t.setRxf f g) := h.parts rfl
theorem LaunchOnly.setPrism (h : LaunchOnly fs s t) (f : Fib) (g : PrismRun → PrismRun) : LaunchOnly fs s (t.setPrism f g) :=
  h.parts rfl
theorem LaunchOnly.upShot (h : LaunchOnly fs s t) (f : Fib) (shot : Nat) (g : EnvShot → EnvShot) :
    LaunchOnly fs s (t.upShot f shot g) := by
  unfold State.upShot
  split <;> exact h.parts rfl
theorem LaunchOnly.set (h : LaunchOnly fs s t) {x : Fld} (hx : x ∈ fs) (v : Nat) : LaunchOnly fs s (t.set x v) := Only.set h hx v
theorem LaunchOnly.raise (h : LaunchOnly fs s t) {x : Fld} (hx : x ∈ fs) (v : Nat) : LaunchOnly fs s (t.raise x v) :=
  (h.set hx (t.get x ||| v)).parts rfl
theorem LaunchOnly.settleShot (h : LaunchOnly fs s t) (f : Fib) (shot : Nat) (i : Rat) (sched : Bool) :
    LaunchOnly fs s (t.settleShot f shot i sched) := (h.parts rfl).upShot f shot _
theorem LaunchOnly.emitShot (h : LaunchOnly fs s t) (f : Fib) (shot : Nat) (em : Emission) :
    LaunchOnly fs s (t.emitShot f shot em) := ((h.setSq f _).upShot f shot _).setRxf f _
end

/-! ### Parts of a launch and what they leave -/

@[simp] theorem sq_setSq (s : State) (f : Fib) (g : SeqRun → SeqRun) : (s.setSq f g).sq f = g (s.sq f) := by
  simp [State.sq, State.setSq]
@[simp] theorem upShot_seq (s : State) (f : Fib) (n : Nat) (g : EnvShot → EnvShot) : (s.upShot f n g).seq = s.seq := by
  unfold State.upShot
  split <;> rfl
@[simp] theorem upShot_rxf (s : State) (f : Fib) (n : Nat) (g : EnvShot → EnvShot) : (s.upShot f n g).rxf = s.rxf := by
  unfold State.upShot
  split <;> rfl
@[simp] theorem upShot_sq (s : State) (f : Fib) (n : Nat) (g : EnvShot → EnvShot) : (s.upShot f n g).sq f = s.sq f := by
  rw [State.sq, upShot_seq, State.sq]

/-- Giving a shot its launch instant leaves front ends and registers alone, and the launches that wait. -/
@[simp] theorem settleShot_rxf (s : State) (f : Fib) (n : Nat) (i : Rat) (sched : Bool) :
    (s.settleShot f n i sched).rxf = s.rxf := upShot_rxf ..
@[simp] theorem settleShot_handed (s : State) (f : Fib) (n : Nat) (i : Rat) (sched : Bool) :
    ((s.settleShot f n i sched).sq f).handed = (s.sq f).handed := by
  simp [State.settleShot, State.sq, State.setSq]

/-- The code of more than 1,024 taps is truncated (R109). -/
def State.markTruncated (s : State) (f : Fib) (em : Emission) : State :=
  if 1024 < (mfTaps em.code.len).1 then s.raise (PRISM_FLAGS_MF_TRUNC f) 1 else s
/-- Without the launch monitor the scheduled instant is the launch instant (R50, R72). -/
def State.settleScheduled (s : State) (f : Fib) (shot : Nat) (i : Rat) : State :=
  if s.on (SEQ_CTRL_LMON_EN f) then s else s.settleShot f shot i true
/-- A launch as it leaves the pins: the rest of the launches waits, and its emission, its launch instant and its capture by the
Brillouin section follow. -/
def State.launched (s : State) (f : Fib) (l : Launch) (rest : List Launch) : State :=
  let em : Emission := ⟨l.slot, l.time, s.codeOf f l.code⟩
  ((((s.setSq f fun q => { q with handed := rest }).emitShot f l.shot em).markTruncated f em).settleScheduled f l.shot
    (l.time + s.lmonOfs f)).brilCapture f l.shot em

/-- The fields in which the Brillouin section shows what it did with a launched shot. -/
def captureFields (f : Fib) : List Fld := [PRISM_BRIL_CAPT_COUNT f, PRISM_BRIL_SKIP_COUNT f, PRISM_FLAGS_BRIL_SKIP f]

section
variable {s t : State}
theorem LaunchOnly.markTruncated {fs : List Fld} {f : Fib} (h : LaunchOnly fs s t) (hf : PRISM_FLAGS_MF_TRUNC f ∈ fs)
    (em : Emission) : LaunchOnly fs s (t.markTruncated f em) := by
  unfold State.markTruncated
  split
  · exact h.raise hf 1
  · exact h
theorem LaunchOnly.settleScheduled {fs : List Fld} (h : LaunchOnly fs s t) (f : Fib) (shot : Nat) (i : Rat) :
    LaunchOnly fs s (t.settleScheduled f shot i) := by
  unfold State.settleScheduled
  split
  · exact h
  · exact h.settleShot f shot i true
theorem LaunchOnly.passShot {fs : List Fld} (h : LaunchOnly fs s t) (f : Fib) (slot : Nat) : LaunchOnly fs s (t.passShot f slot) :=
  h.setPrism f _
theorem LaunchOnly.brilCapture {fs : List Fld} {f : Fib} (h : LaunchOnly fs s t) (hf : captureFields f ⊆ fs) (shot : Nat)
    (em : Emission) : LaunchOnly fs s (t.brilCapture f shot em) := by
  unfold State.brilCapture
  split
  · split
    · exact (h.set (hf (by simp [captureFields])) _).setPrism f _
    · exact ((h.set (hf (by simp [captureFields])) _).raise (hf (by simp [captureFields])) 1).passShot f em.slot
  · exact h.passShot f em.slot
end

/-- What the Brillouin section does with a launched shot leaves sequencers and front ends alone (R119). -/
@[simp] theorem brilCapture_seq (s : State) (f : Fib) (shot : Nat) (em : Emission) : (s.brilCapture f shot em).seq = s.seq := by
  unfold State.brilCapture
  (repeat' split) <;> rfl
@[simp] theorem brilCapture_rxf (s : State) (f : Fib) (shot : Nat) (em : Emission) : (s.brilCapture f shot em).rxf = s.rxf := by
  unfold State.brilCapture
  (repeat' split) <;> rfl
@[simp] theorem settleScheduled_rxf (s : State) (f : Fib) (shot : Nat) (i : Rat) : (s.settleScheduled f shot i).rxf = s.rxf := by
  unfold State.settleScheduled
  split
  · rfl
  · exact settleShot_rxf ..
@[simp] theorem settleScheduled_handed (s : State) (f : Fib) (shot : Nat) (i : Rat) :
    ((s.settleScheduled f shot i).sq f).handed = (s.sq f).handed := by
  unfold State.settleScheduled
  split
  · rfl
  · exact settleShot_handed ..
@[simp] theorem markTruncated_seq (s : State) (f : Fib) (em : Emission) : (s.markTruncated f em).seq = s.seq := by
  unfold State.markTruncated
  split <;> rfl
@[simp] theorem markTruncated_rxf (s : State) (f : Fib) (em : Emission) : (s.markTruncated f em).rxf = s.rxf := by
  unfold State.markTruncated
  split <;> rfl

/-- A code of more than 1,024 taps is marked as truncated (R109). -/
theorem markTruncated_long (s : State) (f : Fib) {em : Emission} (h : 1024 < cdiv em.code.len 10) :
    (s.markTruncated f em).get (PRISM_FLAGS_MF_TRUNC f) = 1 := by
  have htaps : 1024 < (mfTaps em.code.len).1 := h
  rw [State.markTruncated, if_pos htaps]
  show (s.orBits (PRISM_FLAGS_MF_TRUNC f) 1).get (PRISM_FLAGS_MF_TRUNC f) = 1
  rw [State.get_orBits, if_pos rfl]
  exact Nat.or_mod_two_eq_one.2 (.inr rfl)

/-- An emission leaves the launches that wait as they are (R88). -/
@[simp] theorem emitShot_handed (s : State) (f : Fib) (shot : Nat) (em : Emission) :
    ((s.emitShot f shot em).sq f).handed = (s.sq f).handed := by
  show (((s.markLaunch f shot)).sq f).handed = _
  rw [State.markLaunch, upShot_sq, sq_setSq]
/-- An emission is on the pins, and its shot with the gallery settings of now the newest one launched (R88, R129). -/
theorem emitShot_rxf (s : State) (f : Fib) (shot : Nat) (em : Emission) : ((s.emitShot f shot em).rxf[f]).probe = some em
    ∧ ((s.emitShot f shot em).rxf[f]).shots.head? = some ⟨shot, em, s.galSet f⟩ := by
  rw [State.emitShot, rxf_setRxf]
  exact ⟨rfl, rfl⟩

/-! ### The launch -/

section
variable (s : State) (f : Fib) (l : Launch) (rest : List Launch)

theorem launched_handed : ((s.launched f l rest).sq f).handed = rest := by
  rw [State.launched, State.sq, brilCapture_seq]
  show ((State.settleScheduled _ f l.shot _).sq f).handed = rest
  rw [settleScheduled_handed, State.sq, markTruncated_seq]
  show ((State.emitShot _ f l.shot _).sq f).handed = rest
  rw [emitShot_handed, sq_setSq]

theorem launched_rxf : ((s.launched f l rest).rxf[f]).probe = some ⟨l.slot, l.time, s.codeOf f l.code⟩
    ∧ ((s.launched f l rest).rxf[f]).shots.head? = some ⟨l.shot, ⟨l.slot, l.time, s.codeOf f l.code⟩, s.galSet f⟩ := by
  rw [State.launched]
  simp only [brilCapture_rxf, settleScheduled_rxf, markTruncated_rxf]
  exact emitShot_rxf (s.setSq f _) f l.shot _

theorem launched_only : LaunchOnly (PRISM_FLAGS_MF_TRUNC f :: captureFields f) s (s.launched f l rest) :=
  (((((LaunchOnly.refl _ s).setSq f _).emitShot f l.shot _).markTruncated List.mem_cons_self _).settleScheduled f l.shot
    _).brilCapture (List.subset_cons_self _ _) l.shot _

/-- MF_TRUNC is not among the fields that the Brillouin section changes. -/
theorem truncated_notMem : (PRISM_FLAGS_MF_TRUNC f).key ∉ (captureFields f).map Fld.key := by
  revert f
  decide

theorem launched_truncated (h : 1024 < cdiv (s.get (RXF_PCODE_LEN_LEN f l.code)) 10) :
    (s.launched f l rest).get (PRISM_FLAGS_MF_TRUNC f) = 1 := by
  have hcapture (t : State) (em : Emission) : (t.brilCapture f l.shot em).get (PRISM_FLAGS_MF_TRUNC f) =
      t.get (PRISM_FLAGS_MF_TRUNC f) :=
    (((LaunchOnly.refl _ t).brilCapture (List.Subset.refl _) l.shot em).1 _ (truncated_notMem f))
  have hsettle (t : State) (i : Rat) : (t.settleScheduled f l.shot i).get (PRISM_FLAGS_MF_TRUNC f) =
      t.get (PRISM_FLAGS_MF_TRUNC f) :=
    ((LaunchOnly.refl [] t).settleScheduled f l.shot i).1 _ List.not_mem_nil
  rw [State.launched, hcapture, hsettle]
  exact markTruncated_long _ f h
end

/-- A chirp's launch with its stairs off reads no word of the RXF memories (R388). -/
theorem readShotWords_chirp {s : State} {f : Fib} {d : Nat} (htype : s.get (RXF_PCODE_CTRL_TYPE f d) = 1)
    (hstair : s.get (RXF_CTRL_STAIR_EN f) = 0) : s.readShotWords f d = (false, s) := by
  simp [State.readShotWords, State.codeWords, State.on, htype, hstair]

@[simp] theorem codeOf_setSq (s : State) (f : Fib) (g : SeqRun → SeqRun) (i d : Nat) :
    (s.setSq f g).codeOf i d = s.codeOf i d := rfl

theorem execShotLaunch_chirp {s : State} {f : Fib} {l : Launch} {rest : List Launch} (h : Claim.preShotLaunch s f l rest) :
    exec (.shotLaunch f) s = .next (s.launched f l rest) := by
  obtain ⟨hfab, hhanded, hdue, htype, hstair⟩ := h
  show execShotLaunch f s = _
  rw [execShotLaunch, onFab_running hfab, hhanded]
  simp only [hdue, readShotWords_chirp htype hstair, if_true, Bool.false_eq_true, if_false, codeOf_setSq]
  rfl

/-- The clause on SHOT_LAUNCH (R88, R109, R119, R129). -/
theorem shotLaunch_holds : Claim.shotLaunch := by
  intro s f l rest h
  obtain ⟨hprobe, hshot⟩ := launched_rxf s f l rest
  exact ⟨_, execShotLaunch_chirp h, launched_handed s f l rest, hprobe, hshot, launched_truncated s f l rest,
    launched_only s f l rest⟩

end Sys2Proof.Machine

namespace Sys2Proof.Proofs
open Sys2Proof.Machine

/-- Settles O33, clause by clause: the events and the opcodes of the receiver front end do what chapter 04 gives them, and leave
everything else. -/
theorem receiverFrontEnd : Obligations.ReceiverFrontEnd := by
  unfold Obligations.ReceiverFrontEnd
  exact ⟨shotLaunch_holds, probeTestEmit_holds, converterGroupReady_holds, gainStep_holds, rxfProbeWrite_holds,
    rxfCodeWrite_holds, rxfStairWrite_holds, rxfGate_holds, rxfPower_holds, rxfProbeTest_holds, rxfGetStatus_holds⟩

end Sys2Proof.Proofs
end

section
/-! SUPPORT. The counterexample to the clause of Brillouin on DESCRIPTOR_POST: a half held in a combining entry for a word of the
descriptor (R390). -/

namespace Sys2Proof.Proofs
open Sys2Proof.Machine Sys2Proof.Machine.Reg

/-- A closed interval that waits for its descriptor: bank 0, frame 7, one capture, 64 temperature positions. -/
def waitingInterval : BrilClosed := ⟨0, 7, 0, true, false, false, false, 1, [64, 0, 0, 0, 0, 0]⟩

/-- Fibre A waits to post an interval whose descriptor words are zero; the management processor has just written the lower half of
the descriptor's first word, and the half is held for its upper one. -/
def heldForDescriptor : State :=
  let s := (withRegs [(SYS_CLK_STATUS_FAB_RUN, 1)]).setBril 0 fun b => { b with closed := some waitingInterval }
  { s with
    mem := putBytes (s.descAddr 0 0) (List.replicate 64 0) []
    scrub := { s.scrub with combMgmt := some ⟨s.descAddr 0 0, 5, 16⟩ } }

/-- The counterexample meets the hypotheses of the clause. -/
theorem heldForDescriptor_pre : Claim.preDescriptorPost heldForDescriptor 0 waitingInterval := by decide +kernel

/-- The management processor's combining entry is occupied before the post. -/
theorem heldForDescriptor_holds : heldForDescriptor.scrub.combMgmt.isSome = true := by decide +kernel

/-- The first narrow write to the descriptor reads its word, and the held half is written before that (R387, R390). -/
theorem heldForDescriptor_released {t : State} (h : exec (.descriptorPost 0) heldForDescriptor = .next t) :
    t.scrub.combMgmt = none := by
  rw [← Host.Outcome.next.inj h]
  decide +kernel

/-- The clause on DESCRIPTOR_POST fails: its frame says that the combining entries stay as they were. -/
theorem not_descriptorPost : ¬ Claim.descriptorPost := by
  intro h
  obtain ⟨t, hexec, -, -, -, -, -, hframe, -⟩ := h _ _ _ heldForDescriptor_pre
  have hkept : t.scrub = heldForDescriptor.scrub := (congrArg State.scrub hframe).trans rfl
  have hheld := heldForDescriptor_holds
  rw [← hkept, heldForDescriptor_released hexec] at hheld
  exact Bool.false_ne_true hheld

/-- Refutes O21: the clause on DESCRIPTOR_POST does not ask that no half be held, and says that only the temperature path, memory,
its error marks and the repeat table change. The descriptor is written 32 bits at a time, each of them a read of its word (R387), so
a half that the management processor holds for that word is written first and leaves the combining entry (R390). -/
theorem not_brillouin : ¬ Obligations.Brillouin := by
  unfold Obligations.Brillouin
  rintro ⟨-, -, -, hpost, -⟩
  exact not_descriptorPost hpost

end Sys2Proof.Proofs
end

section
/-! SUPPORT. What writing GAL_INIT does while PD_CORE is off (R20), and the counterexample to the clause of Prism on it. -/

namespace Sys2Proof.Machine
open Reg

/-- Neither of the Prism's GAL_BUSY bits is the access error of R20. -/
theorem galBusy_ne_accErr : ∀ f : Fib, (galBusyF f).key ≠ SYS_STATUS_ACC_ERR.key := by decide

/-- A write to a register of the Prism while PD_CORE is off sets ACC_ERR and does nothing else (R20). -/
theorem execGalInit_coreOff {s : State} (h : s.domainOn 2 = false) (f : Fib) :
    execGalInit f s = .next (s.raise SYS_STATUS_ACC_ERR 1) := by
  have hreach : s.reach 3 = false := by simp [State.reach, domainOf, h]
  rw [execGalInit, State.onReg, hreach, if_neg Bool.false_ne_true]

/-- GAL_BUSY reads as before such a write. -/
theorem galInit_coreOff_busy {s t : State} {f : Fib} (hoff : s.domainOn 2 = false) (h : exec (.galInit f) s = .next t) :
    t.get (galBusyF f) = s.get (galBusyF f) := by
  rw [← Host.Outcome.next.inj ((execGalInit_coreOff hoff f).symm.trans h)]
  exact State.get_set_ne s (galBusy_ne_accErr f) _

end Sys2Proof.Machine

namespace Sys2Proof.Proofs
open Sys2Proof.Machine Sys2Proof.Machine.Reg

/-- clk_fab runs and PD_CORE alone is off. -/
def coreOff : State := withRegs [(SYS_CLK_STATUS_FAB_RUN, 1), (PWR_STATUS_DOMAIN_ON, 0x3B)]

/-- The counterexample meets the hypotheses of the clause. -/
theorem coreOff_pre : Claim.preGalInit coreOff 0 := by decide +kernel

/-- The Prism's domain is off, and its galleries of fibre A are not busy. -/
theorem coreOff_domain : coreOff.domainOn 2 = false := by decide +kernel
theorem coreOff_idle : coreOff.get (galBusyF (0 : Fib)) = 0 := by decide +kernel

/-- The clause on GAL_INIT fails: the write has no effect, and GAL_BUSY stays 0. -/
theorem not_galInit : ¬ Claim.galInit := by
  intro h
  obtain ⟨t, hexec, hbusy, -⟩ := h coreOff 0 coreOff_pre
  rw [galInit_coreOff_busy coreOff_domain hexec, coreOff_idle] at hbusy
  exact Nat.zero_ne_one hbusy

/-- Refutes O31: the clause on the register bit GAL_INIT asks that clk_fab run and not that PD_CORE be on. A write to the window of a
block whose domain is off has no effect and sets ACC_ERR (R20), so no initialisation starts. -/
theorem not_prism : ¬ Obligations.Prism := by
  unfold Obligations.Prism
  rintro ⟨-, -, -, hinit, -⟩
  exact not_galInit hinit

end Sys2Proof.Proofs
end

section
/-! SUPPORT. What BRICK_WRITE does while the FIFO of RT0 is full (R370), and the counterexample to the clause of PositionFilter on
it. -/

namespace Sys2Proof.Machine

/-- While RT0's FIFO is full, a brick that is due stays in staging and nothing changes (R370). -/
theorem execBrickWrite_full {s : State} {f : Fib} {r : Nat} (h : Claim.preBrickWrite s f r)
    (hfull : s.rtFull (s.ctBase f) 0 true = true) : exec (.brickWrite f) s = .next s := by
  obtain ⟨hfab, hclose, hrun, hrow, -⟩ := h
  have hdue : ¬ (s.pfil[f]).closed < (s.pfil[f]).rowBase + 4 := Nat.not_lt.2 hrow
  show execBrickWrite f s = _
  simp only [execBrickWrite, onFab_running hfab, hclose, hrun, Option.isNone_some, Bool.false_or, decide_eq_true_eq, if_neg hdue,
    if_pos hfull]

end Sys2Proof.Machine

namespace Sys2Proof.Proofs
open Sys2Proof.Machine Sys2Proof.Machine.Reg

/-- A write of RT0 to bank 0 of rank 0. -/
def brickRequest : DramQ := ⟨0, true, 0, 0, 0, 0, 0⟩

/-- Fibre A runs, four shots of its run have closed, and the first brick of their row is written; DA, which holds the corner-turn
buffer, has 64 writes of RT0 to do: 8 in the queue of their bank, and 56 that wait for it (R371). -/
def fullBrickFifo : State :=
  let s := withRegs [(SYS_CLK_STATUS_FAB_RUN, 1), (DRAMC_CONFIG_CAP_GIB 0, 4), (DRAMC_CHSTAT_READY 0, 1), (PFIL_CT_BASE_HI_ADDR 0, 0x80),
    (SEQ_STATUS_STATE 0, 2)]
  let s1 := (s.setSq 0 fun q => { q with shotNo := 4 }).setPfil 0 fun p => { p with run := some 0, closed := 4, brick := 1 }
  let s2 := s1.setDram 0 fun d => { d with queue := List.replicate 8 brickRequest, waiting := List.replicate 56 brickRequest }
  { s2 with mem := putBytes (stagingBase 0 + 64) (List.replicate 64 0) [] }

/-- The counterexample meets the hypotheses of the clause. -/
theorem fullBrickFifo_pre : Claim.preBrickWrite fullBrickFifo 0 0 := by decide +kernel

/-- RT0's FIFO holds its 64 writes. -/
theorem fullBrickFifo_full : fullBrickFifo.rtFull (fullBrickFifo.ctBase 0) 0 true = true := by decide +kernel

/-- The clause on BRICK_WRITE fails: it says that the row goes on to its next brick, and the row stays where it is. -/
theorem not_brickWrite : ¬ Claim.brickWrite := by
  intro h
  obtain ⟨t, hexec, hnext, -⟩ := h fullBrickFifo 0 0 fullBrickFifo_pre
  have hsame : fullBrickFifo = t :=
    Host.Outcome.next.inj ((execBrickWrite_full fullBrickFifo_pre fullBrickFifo_full).symm.trans hexec)
  rw [← hsame] at hnext
  exact (Nat.succ_ne_self _) hnext.symm

/-- Refutes O30: the clause on BRICK_WRITE does not ask that RT0's FIFO have room. A full RT0 FIFO leaves the frames in the staging
area (R370), so the brick that is due is not written and the row does not go on. -/
theorem not_positionFilter : ¬ Obligations.PositionFilter := by
  unfold Obligations.PositionFilter
  rintro ⟨hbrick, -⟩
  exact not_brickWrite hbrick

end Sys2Proof.Proofs
end

section
/-! SUPPORT. An engine issues the word at its program counter: the fetch, and what an issue that goes on, jumps or stalls leaves of
the machine (R158, R181, R193). -/

namespace Sys2Proof.Machine
open Reg

/-! ### Notes of the memories used -/

/-- `s` with another note of the memories used in the present cycle (R392). -/
def State.noted (s : State) (x : KMap Nat) : State := { s with scrub := { s.scrub with uses := x } }

theorem useMem_engine (s : State) (j : Fin 16) (a : Nat) : ∃ x, s.useMem (.engine j) a = s.noted x := ⟨_, rfl⟩
theorem became_noted (u : State) (x : KMap Nat) : Claim.Became u (u.noted x) := rfl
@[simp] theorem noted_noted (s : State) (x y : KMap Nat) : (s.noted x).noted y = s.noted y := rfl
@[simp] theorem noted_eg (s : State) (x : KMap Nat) (k : Fin 16) : (s.noted x).eg k = s.eg k := rfl
@[simp] theorem noted_land (s : State) (x : KMap Nat) : (s.noted x).land = s.land := rfl
@[simp] theorem noted_get (s : State) (x : KMap Nat) (g : Fld) : (s.noted x).get g = s.get g := rfl
@[simp] theorem noted_on (s : State) (x : KMap Nat) (g : Fld) : (s.noted x).on g = s.on g := rfl

/-! ### One engine replaced -/

/-- `s` with engine `k` as `e`. -/
def State.withEng (s : State) (k : Fin 16) (e : Engine) : State := { s with eng := s.eng.set k e }

theorem setEng_eq (s : State) (k : Fin 16) (g : Engine → Engine) : s.setEng k g = s.withEng k (g (s.eg k)) := rfl
@[simp] theorem noted_withEng (s : State) (x : KMap Nat) (k : Fin 16) (e : Engine) :
    (s.noted x).withEng k e = (s.withEng k e).noted x := rfl
@[simp] theorem withEng_eg (s : State) (k : Fin 16) (e : Engine) : (s.withEng k e).eg k = e := by
  simp [State.withEng, State.eg]
@[simp] theorem withEng_withEng (s : State) (k : Fin 16) (e e' : Engine) : (s.withEng k e).withEng k e' = s.withEng k e' := by
  simp [State.withEng]

/-! ### Words of an engine's memories -/

theorem ofBytesLE_bytesLE (n v : Nat) : ofBytesLE (bytesLE n v) = v % 256 ^ n := by
  induction n generalizing v with
  | zero => simp [bytesLE, ofBytesLE, Nat.mod_one]
  | succ n ih =>
    rw [Nat.pow_succ', Nat.mod_mul, bytesLE, ofBytesLE, ih]
    rfl

/-- X, Y and instruction memory lie in the engine's own region (R23). -/
theorem regionOf_engMem (k : Fin 16) {mem off : Nat} (h : 0x20000 * mem + off < 0x50000) :
    regionOf (engMem k mem + off) = .engine k (0x20000 * mem + off) := by
  have hk := k.isLt
  have hbase : engMem k mem + off - 0x2000000 = 0x50000 * k.val + (0x20000 * mem + off) := by
    rw [engMem, engBase]
    omega
  have hlo : 0x2000000 ≤ engMem k mem + off := by
    rw [engMem, engBase]
    omega
  have hdiv : (0x50000 * k.val + (0x20000 * mem + off)) / 0x50000 = k.val := by omega
  have hmod : (0x50000 * k.val + (0x20000 * mem + off)) % 0x50000 = 0x20000 * mem + off := by omega
  rw [regionOf, if_neg (by omega), if_neg (by omega), if_neg (by omega), if_neg (by omega), if_pos (by omega), hbase, hdiv, hmod]

/-- An engine reads a word of an engine's memory that has been written and carries no error: nothing changes but the note that the
memory is in use (R387, R392). -/
theorem readMem_engine {s : State} {a k off : Nat} {bs : List Byte} (j : Fin 16) (hreg : regionOf a = .engine k off)
    (hheld : NoHeld s) (hbs : getBytes s.mem a 8 = some bs) (hecc : kget a s.ecc = none) :
    ∃ x, s.readMem (.engine j) a = ((ofBytesLE bs, false), s.noted x) := by
  obtain ⟨x, hx⟩ := useMem_engine s j a
  have hpeek : (s.noted x).peekWord a = ((ofBytesLE bs, .ok), s.noted x) := peekWord_engine hreg hbs hecc
  have hfree : (s.noted x).releaseFor a = s.noted x := releaseFor_of_noHeld (s := s.noted x) hheld a
  refine ⟨x, ?_⟩
  rw [State.readMem, hreg]
  simp only [State.readWord, State.pmonIo, hx, hfree, hpeek]

/-! ### The issue -/

/-- What an issue leaves where the instruction traps, goes on or jumps. -/
theorem state_trap (k : Fin 16) (c : Nat) (a : Option (Nat × Nat)) (t : State) : (Issue.trap c a t).state k = t.engTrap k c a := rfl
theorem state_next (k : Fin 16) (t : State) : (Issue.next t).state k = t.withEng k (Claim.went (t.eg k)) := rfl
theorem state_jump (k : Fin 16) (a : Nat) (t : State) : (Issue.jump a t).state k = t.withEng k (Claim.jumped a (t.eg k)) := rfl

section
variable {op w a : Nat} {k : Fin 16} {s u : State} {y : Stall} {body : Fin 16 → State → Nat → Issue}

/-- The word at the program counter is fetched. -/
theorem issues_fetch (h : Claim.Issues op k s w) : ∃ x, s.fetch k = ((w, false), s.noted x) := by
  obtain ⟨-, -, -, -, -, hheld, hbs, hecc, hw, -⟩ := h
  have hpc : 8 * (s.eg k).pc.toNat < 0x10000 := by
    have := (s.eg k).pc.isLt
    omega
  obtain ⟨x, hx⟩ := readMem_engine k (regionOf_engMem k (mem := 2) (by omega)) hheld hbs hecc
  rw [ofBytesLE_bytesLE, Nat.mod_eq_of_lt (by simpa using hw)] at hx
  exact ⟨x, hx⟩

/-- An engine that issues a word does what the word's instruction does, once the fetch is noted. -/
theorem issue_eq (h : Claim.Issues op k s w) (body : Fin 16 → State → Nat → Issue) :
    ∃ x, s.issue k op body = (body k (s.noted x) w).state k := by
  obtain ⟨x, hx⟩ := issues_fetch h
  obtain ⟨hfab, hrun, hstall, hskip, hkern, -, -, -, -, hop⟩ := h
  refine ⟨x, ?_⟩
  simp [State.issue, hfab, hrun, hstall, hskip, hkern, hx, hop, engRunning]

theorem issues_noHeld (h : Claim.Issues op k s w) : NoHeld s := by
  obtain ⟨-, -, -, -, -, hheld, -⟩ := h
  exact hheld

theorem became_next (h : Claim.Issues op k s w) (hb : ∀ x, ∃ z, body k (s.noted x) w = .next (u.noted z)) :
    Claim.Became (u.withEng k (Claim.went (u.eg k))) (s.issue k op body) := by
  obtain ⟨x, hx⟩ := issue_eq h body
  obtain ⟨z, hz⟩ := hb x
  rw [hx, hz, state_next]
  exact became_noted _ z

theorem became_jump (h : Claim.Issues op k s w) (hb : ∀ x, ∃ z, body k (s.noted x) w = .jump a (u.noted z)) :
    Claim.Became (u.withEng k (Claim.jumped a (u.eg k))) (s.issue k op body) := by
  obtain ⟨x, hx⟩ := issue_eq h body
  obtain ⟨z, hz⟩ := hb x
  rw [hx, hz, state_jump]
  exact became_noted _ z
end

end Sys2Proof.Machine
end

section
/-! SUPPORT. Branches, loops and NOP: the clauses of EngineControl on instructions that choose the next address and the loop stack
(R186, R192, R193). -/

namespace Sys2Proof.Machine
open Reg

/-- An instruction with a legal encoding does what it means. -/
theorem legal_eq {ok : Bool} (h : ok = true) (s : State) (i : Issue) : Issue.legal ok s i = i := if_pos h

section
variable {op w : Nat} {k : Fin 16} {s : State}

/-! ### Branches -/

/-- A conditional branch jumps where its condition holds of gs, and goes on where it does not (R186, R192). -/
theorem branch_spec (c : Word → Bool) (h : Claim.Issues op k s w) (hok : okC w = true) :
    (c (s.eg k).g[gsOf w] = true → Claim.Became (s.withEng k (Claim.jumped (w / 2 ^ 32 % 2 ^ 13) (s.eg k))) (s.issue k op (branch c)))
      ∧ (c (s.eg k).g[gsOf w] = false → Claim.Became (s.withEng k (Claim.went (s.eg k))) (s.issue k op (branch c))) := by
  have hbody : ∀ x, branch c k (s.noted x) w =
      if c (s.eg k).g[gsOf w] then .jump (tgtOf w) (s.noted x) else .next (s.noted x) := fun x => legal_eq hok _ _
  refine ⟨fun hc => became_jump h fun x => ⟨x, ?_⟩, fun hc => became_next h fun x => ⟨x, ?_⟩⟩
  · rw [hbody, if_pos hc]
    rfl
  · rw [hbody, hc, if_neg Bool.false_ne_true]
end

theorem br_holds : Claim.iBr := fun _ _ _ h => ⟨_, rfl, (branch_spec (fun _ => true) h.1 h.2).1 rfl⟩

theorem bz_holds : Claim.iBz := fun _ _ _ h =>
  have hb := branch_spec (fun v => v == 0) h.1 h.2
  ⟨_, rfl, fun hz => hb.1 (beq_iff_eq.2 hz), fun hz => hb.2 (beq_eq_false_iff_ne.2 hz)⟩

theorem bnz_holds : Claim.iBnz := fun _ _ _ h =>
  have hb := branch_spec (fun v => v != 0) h.1 h.2
  ⟨_, rfl, fun hz => hb.1 (bne_iff_ne.2 hz), fun hz => hb.2 (bne_eq_false_iff_eq.2 (not_not.1 hz))⟩

theorem bltz_holds : Claim.iBltz := fun k s w h =>
  have hb := branch_spec (fun v => v.msb) h.1 h.2
  have hmsb := BitVec.msb_eq_toInt (x := (s.eg k).g[gsOf w])
  ⟨_, rfl, fun hz => hb.1 (hmsb.trans (decide_eq_true hz)), fun hz => hb.2 (hmsb.trans (decide_eq_false hz))⟩

theorem bgez_holds : Claim.iBgez := fun k s w h =>
  have hb := branch_spec (fun v => !v.msb) h.1 h.2
  have hmsb := BitVec.msb_eq_toInt (x := (s.eg k).g[gsOf w])
  ⟨_, rfl, fun hz => hb.1 (congrArg (!·) (hmsb.trans (decide_eq_false (not_lt.2 hz)))),
    fun hz => hb.2 (congrArg (!·) (hmsb.trans (decide_eq_true (not_le.1 hz))))⟩

/-! ### JAL and JR -/

theorem jal_holds : Claim.iJal := by
  rintro k s w ⟨hissue, hok⟩
  refine ⟨_, rfl, ?_⟩
  have hb := became_jump (u := s.withEng k { s.eg k with
      g := (s.eg k).g.set (gdOf w) (BitVec.ofNat 32 (((s.eg k).pc.toNat + 1) % 2 ^ 13)) })
    (body := bodyJal) hissue fun x => ⟨x, legal_eq hok _ _⟩
  rwa [withEng_withEng, withEng_eg] at hb

theorem jr_holds : Claim.iJr := fun _ s _ h => ⟨_, rfl, became_jump (u := s) h.1 fun x => ⟨x, legal_eq h.2 _ _⟩⟩

/-! ### The loop stack -/

/-- Where no loop ends the next address follows and the loop stack stays (R193). -/
theorem loopNext_inside {y : Nat} {ls : List LoopLvl} (h : ∀ l ∈ ls, l.stop ≠ y) : loopNext y ls = ((y + 1) % 8192, ls) := by
  cases ls with
  | nil => rfl
  | cons l t => exact if_neg fun he => h l List.mem_cons_self he.symm
/-- At the end of a loop with repeats left the next address is its start (R193). -/
theorem loopNext_back {y : Nat} {l : LoopLvl} (ls : List LoopLvl) (h : l.stop = y) (hc : 1 < l.count) :
    loopNext y (l :: ls) = (l.start, { l with count := l.count - 1 } :: ls) := by
  rw [loopNext, if_pos h.symm, if_pos hc]
/-- At the end of its last pass a loop is left (R193). -/
theorem loopNext_leave {y : Nat} {l : LoopLvl} (ls : List LoopLvl) (h : l.stop = y) (hc : l.count ≤ 1) :
    loopNext y (l :: ls) = loopNext y ls := by
  rw [loopNext, if_pos h.symm, if_neg (Nat.not_lt.2 hc)]

theorem lpop_holds : Claim.iLpop := by
  rintro k s w l ls ⟨hissue, hok, hloops⟩
  refine ⟨_, rfl, ?_⟩
  have hb := became_next (u := s.withEng k { s.eg k with loops := (s.eg k).loops.tail }) (body := bodyLpop) hissue
    fun x => ⟨x, legal_eq (by simp [hok, hloops]) _ _⟩
  rwa [withEng_withEng, withEng_eg, hloops] at hb

/-- NOP goes on (R186). -/
theorem nop_spec {k : Fin 16} {s : State} {w : Nat} (h : Claim.Issues 0xFD k s w) (hok : okS w = true) :
    Claim.Became (s.withEng k (Claim.went (s.eg k))) (s.issue k 0xFD bodyNop) :=
  became_next h fun x => ⟨x, legal_eq hok _ _⟩

theorem nop_holds : Claim.iNop := fun _ _ _ h => ⟨_, rfl, nop_spec h.1 h.2⟩

theorem loopBack_holds : Claim.iLoopBack := by
  rintro k s w l ls ⟨hissue, hok, hloops, hstop, hcount⟩
  refine ⟨_, rfl, ?_⟩
  have hb := nop_spec hissue hok
  rwa [Claim.went, hloops, loopNext_back ls hstop hcount] at hb

theorem loopEnd_holds : Claim.iLoopEnd := by
  rintro k s w l ⟨hissue, hok, hloops, hstop, hcount⟩
  refine ⟨_, rfl, ?_⟩
  have hb := nop_spec hissue hok
  rwa [Claim.went, hloops, loopNext_leave [] hstop hcount] at hb

/-! ### LOOP -/

section
variable {k : Fin 16} {s : State} {w z : Nat}

/-- The word that LOOP names as its last is intact and may end a loop (R193). -/
def LoopWord (k : Fin 16) (s : State) (w z : Nat) : Prop :=
  getBytes s.mem (engMem k 2 + 8 * (w / 2 ^ 32 % 2 ^ 13)) 8 = some (bytesLE 8 z)
    ∧ kget (engMem k 2 + 8 * (w / 2 ^ 32 % 2 ^ 13)) s.ecc = none ∧ z < 2 ^ 64 ∧ badLoopEnd (opOf z) = false

theorem badLoopEnd_eq_false {op : Nat} (hc : ¬ (0x17 ≤ op ∧ op ≤ 0x1F)) (hb : op ≠ 0xFE) (hh : op ≠ 0xFF) :
    badLoopEnd op = false := by
  simp only [badLoopEnd, Bool.or_eq_false_iff, Bool.and_eq_false_iff, decide_eq_false_iff_not, beq_eq_false_iff_ne]
  exact ⟨⟨Decidable.not_and_iff_or_not.1 hc, hb⟩, hh⟩

/-- The count of a LOOP (R193). -/
def loopCount (k : Fin 16) (s : State) (w : Nat) : Nat :=
  if w.testBit 45 then w % 2 ^ 16 else ((s.eg k).g[gsOf w]).toNat % 2 ^ 16

/-- A LOOP of legal form reads its last word; a count of 0 jumps over the body, a fifth level traps, and else the loop is entered
(R193). -/
theorem bodyLoop_eq (hheld : NoHeld s) (hok : okC w = true) (hlater : (s.eg k).pc.toNat < w / 2 ^ 32 % 2 ^ 13)
    (hz : LoopWord k s w z) (x : KMap Nat) : ∃ y, bodyLoop k (s.noted x) w =
      if loopCount k s w = 0 then .jump ((w / 2 ^ 32 % 2 ^ 13 + 1) % 8192) (s.noted y)
      else if 4 ≤ (s.eg k).loops.length then .trap trLoop none (s.noted y)
      else .jump ((s.eg k).pc.toNat + 1) ((s.withEng k { s.eg k with
        loops := ⟨(s.eg k).pc.toNat + 1, w / 2 ^ 32 % 2 ^ 13, loopCount k s w⟩ :: (s.eg k).loops }).noted y) := by
  obtain ⟨hbs, hecc, hlt, hend⟩ := hz
  have htgt : w / 2 ^ 32 % 2 ^ 13 < 2 ^ 13 := Nat.mod_lt _ (by decide)
  obtain ⟨y, hy⟩ := readMem_engine (s := s.noted x) k (regionOf_engMem k (mem := 2) (by omega)) hheld hbs hecc
  rw [ofBytesLE_bytesLE, Nat.mod_eq_of_lt (show z < 256 ^ 8 by simpa using hlt), noted_noted] at hy
  have hread : (s.noted x).readMem (.engine k) (engMem k 2 + 8 * tgtOf w) = ((z, false), s.noted y) := hy
  have himm : immOf w % 65536 = w % 2 ^ 16 := Nat.mod_mod_of_dvd w (by decide)
  refine ⟨y, ?_⟩
  have hbad : (!okC w || decide (tgtOf w ≤ ((s.noted x).eg k).pc.toNat) || badLoopEnd (opOf z)) = false := by
    rw [hok, hend, decide_eq_false (p := tgtOf w ≤ ((s.noted x).eg k).pc.toNat) (Nat.not_le.2 hlater)]
    rfl
  have hcount : (if bit w 45 then immOf w % 65536 else ((s.noted x).gv k (gsOf w)).toNat % 65536) = loopCount k s w := by
    rw [himm]
    rfl
  simp only [bodyLoop, hread, Bool.not_false, Bool.true_and, hbad, hcount, Bool.false_eq_true, if_false]
  rfl

theorem loop_holds : Claim.iLoop := by
  rintro k s w n z ⟨hissue, hok, hlater, hfour, -, hbs, hecc, hlt, hc, hbr, hh, hn, hpos⟩
  have hheld := issues_noHeld hissue
  have hn' : loopCount k s w = n := hn.symm
  refine ⟨_, rfl, ?_⟩
  have hb := became_jump (u := s.withEng k { s.eg k with
      loops := ⟨(s.eg k).pc.toNat + 1, w / 2 ^ 32 % 2 ^ 13, n⟩ :: (s.eg k).loops }) (body := bodyLoop) hissue fun x => by
    obtain ⟨y, hy⟩ := bodyLoop_eq hheld hok hlater ⟨hbs, hecc, hlt, badLoopEnd_eq_false hc hbr hh⟩ x
    rw [hn', if_neg (by omega), if_neg (by omega)] at hy
    exact ⟨y, hy⟩
  have hinner : w / 2 ^ 32 % 2 ^ 13 ≠ (s.eg k).pc.toNat := by omega
  rwa [withEng_withEng, withEng_eg, Claim.jumped, loopNext, if_neg (Ne.symm hinner)] at hb

theorem loopZero_holds : Claim.iLoopZero := by
  rintro k s w z ⟨hissue, hok, hlater, hends, hbs, hecc, hlt, hc, hbr, hh, hn⟩
  have hheld := issues_noHeld hissue
  have hn' : loopCount k s w = 0 := hn
  refine ⟨_, rfl, ?_⟩
  have hb := became_jump (u := s) (body := bodyLoop) hissue fun x => by
    obtain ⟨y, hy⟩ := bodyLoop_eq hheld hok hlater ⟨hbs, hecc, hlt, badLoopEnd_eq_false hc hbr hh⟩ x
    rw [if_pos hn'] at hy
    exact ⟨y, hy⟩
  have hpc : BitVec.ofNat 13 ((w / 2 ^ 32 % 2 ^ 13 + 1) % 8192) = BitVec.ofNat 13 (w / 2 ^ 32 % 2 ^ 13 + 1) :=
    BitVec.eq_of_toNat_eq (by simp)
  rwa [Claim.jumped, loopNext_inside hends, hpc] at hb
end

end Sys2Proof.Machine
end

section
/-! SUPPORT. What an event record and the corner turn's staging touch beside memory, and what stores free of the repeat table (R355,
R168, R391). -/

namespace Sys2Proof.Machine
open Reg

/-! ### Entries of the repeat table that a store frees (R391) -/

/-- Entries of the repeat table have been freed, and nothing else has happened. -/
def RptFreed (s t : State) : Prop := SameRegs rptF s t ∧ t = { s with regs := t.regs }

theorem RptFreed.refl (s : State) : RptFreed s s := ⟨SameRegs.refl _ s, rfl⟩
theorem RptFreed.trans {s t u : State} (h : RptFreed s t) (k : RptFreed t u) : RptFreed s u :=
  ⟨h.1.trans k.1, k.2.trans (congrArg (fun x : State => { x with regs := u.regs }) h.2)⟩

theorem RptFreed.foldl {α : Type} {g : State → α → State} (hg : ∀ u a, RptFreed u (g u a)) (l : List α) (s : State) :
    RptFreed s (l.foldl g s) := by
  induction l generalizing s with
  | nil => exact .refl s
  | cons a l ih => exact (hg s a).trans (ih _)

theorem rptFree_freed (s : State) (a : Nat) : RptFreed s (s.rptFree a) := by
  unfold State.rptFree
  split
  next i hi =>
    have hlt : i ∈ List.range 16 := List.mem_of_find?_eq_some hi
    have hmem : ∀ f ∈ [SCRUB_RPTi_INFO_VALID i, SCRUB_RPTi_INFO_COUNT i, SCRUB_RPTi_INFO_PERS i], f ∈ rptF := fun f hf =>
      List.mem_flatMap.2 ⟨i, hlt, hf⟩
    exact ⟨(((SameRegs.refl _ s).set (hmem _ (by simp)) 0).set (hmem _ (by simp)) 0).set (hmem _ (by simp)) 0, rfl⟩
  next => exact .refl s

/-- A range is stored with fresh check bits, and entries of the repeat table are freed. -/
theorem writeRange_freed (s : State) (a : Nat) (bs : List Byte) :
    RptFreed { s with mem := putBytes a bs s.mem, ecc := kclear a (a + bs.length) s.ecc } (s.writeRange a bs) := by
  unfold State.writeRange
  refine RptFreed.foldl (fun u i => ?_) _ _
  split
  · exact rptFree_freed u _
  · exact .refl u

/-! ### What events leave of the machine -/

/-- `s` with the registers, the memory, the flags' notes, the output unit, management and the position filter of `t`. -/
def State.besides (s t : State) : State :=
  { s with regs := t.regs, raised := t.raised, mem := t.mem, ecc := t.ecc, out := t.out, mgmt := t.mgmt, pfil := t.pfil }
/-- Of the registers only `fs` may have changed, and of the machine only memory and what the event log and the corner turn keep. -/
def Beside (fs : List Fld) (s t : State) : Prop := SameRegs fs s t ∧ t = s.besides t

section
variable {fs gs : List Fld} {s t u : State}

theorem Beside.refl (fs : List Fld) (s : State) : Beside fs s s := ⟨SameRegs.refl fs s, rfl⟩
theorem Beside.trans (h : Beside fs s t) (k : Beside fs t u) : Beside fs s u :=
  ⟨h.1.trans k.1, k.2.trans (congrArg (State.besides · u) h.2 : t.besides u = (s.besides t).besides u)⟩
/-- What none of those holds is kept. -/
theorem Beside.kept {α : Type} (h : Beside fs s t) (p : State → α) (hp : ∀ t u : State, p (t.besides u) = p t) : p t = p s :=
  (congrArg p h.2).trans (hp s t)
theorem Beside.ite {p : Prop} [Decidable p] (h : Beside fs s t) (k : Beside fs s u) : Beside fs s (if p then t else u) := by
  split
  · exact h
  · exact k
theorem Beside.mono (h : Beside fs s t) (hs : fs ⊆ gs) : Beside gs s t := ⟨h.1.mono hs, h.2⟩
theorem Beside.set (h : Beside fs s t) {f : Fld} (hf : f ∈ fs) (v : Nat) : Beside fs s (t.set f v) :=
  ⟨h.1.set hf v, congrArg (fun x : State => x.set f v) h.2⟩
theorem Beside.raise (h : Beside fs s t) {f : Fld} (hf : f ∈ fs) (v : Nat) : Beside fs s (t.raise f v) :=
  ⟨(h.1.set hf _).of_regs rfl, congrArg (fun x : State => { x with regs := (t.raise f v).regs, raised := (t.raise f v).raised }) h.2⟩
theorem Beside.setPfil (h : Beside fs s t) (f : Fib) (g : PfilRun → PfilRun) : Beside fs s (t.setPfil f g) :=
  ⟨h.1.of_regs rfl, congrArg (fun x : State => { x with pfil := (t.setPfil f g).pfil }) h.2⟩
theorem Beside.postBulk (h : Beside fs s t) (b : Bulk) : Beside fs s (t.postBulk b) :=
  ⟨h.1.of_regs rfl, congrArg (fun x : State => { x with out := (t.postBulk b).out }) h.2⟩
theorem Beside.withMgmt (h : Beside fs s t) (m : MgmtRun) : Beside fs s { t with mgmt := m } :=
  ⟨h.1.of_regs rfl, congrArg (fun x : State => { x with mgmt := m }) h.2⟩
theorem Beside.writeRange (h : Beside fs s t) (hs : rptF ⊆ fs) (a : Nat) (bs : List Byte) : Beside fs s (t.writeRange a bs) := by
  obtain ⟨hregs, heq⟩ := writeRange_freed t a bs
  refine h.trans ⟨(hregs.mono hs : SameRegs fs t _), ?_⟩
  rw [heq]
  rfl
end

/-- An event record touches the log's fields and the repeat table, memory, management and what waits for the host (R343, R355). -/
theorem logEvent_beside (s : State) (code sev p0 p1 : Nat) : Beside logF s (s.logEvent code sev p0 p1) := by
  unfold State.logEvent
  split
  · exact (Beside.refl _ s).withMgmt _
  · unfold State.logEnter
    extract_lets n s1 s2 m s3
    have hs1 : Beside logF s s1 := (Beside.ite ((Beside.refl _ s).raise (by simp [logF]) _) (.refl _ s)).set (by simp [logF]) _
    clear_value s1
    have hs2 : Beside logF s s2 := hs1.writeRange (List.subset_append_right _ _) _ _
    clear_value s2
    have hs3 : Beside logF s s3 := (hs2.withMgmt _).ite hs2
    clear_value s3
    exact (hs3.postBulk _).ite hs3

/-- The staging of the corner turn turns to a run by storing absent samples (R168). -/
theorem enterRun_beside (s : State) (f : Fib) : Beside rptF s (s.enterRun f) := by
  unfold State.enterRun
  extract_lets p go
  have hgo : ∀ r, Beside rptF s (go r) := fun r => ((Beside.refl _ s).writeRange (List.Subset.refl _) _ _).setPfil _ _
  clear_value go
  split
  · exact hgo _
  · split
    · exact hgo _
    · exact .refl _ s
  · exact .refl _ s

/-- Closing frames touches what the corner turn keeps and its staging (R168). -/
theorem closeFrames_beside (s : State) (f : Fib) : Beside rptF s (s.closeFrames f) := by
  unfold State.closeFrames
  split
  · exact .refl _ s
  · extract_lets s1 p
    have hs1 : Beside rptF s s1 := enterRun_beside s f
    clear_value s1
    split
    · exact hs1
    · exact (hs1.setPfil f _).trans (enterRun_beside _ f)

end Sys2Proof.Machine
end

section
/-! SUPPORT. An engine leaves RUNNING, by HALT or by a trap (R152–R154, R172), and the clauses of EngineControl on it. -/

namespace Sys2Proof.Machine
open Reg

/-! ### Leaving RUNNING -/

/-- The fields that tell of an engine's halves (R126, R154). -/
def loseF (k : Nat) : List Fld := [PRISM_LANDk_LOST_COUNT k, PRISM_LANDk_STAT_H0_HELD k, PRISM_LANDk_STAT_H1_HELD k]
/-- The fields that an engine's leaving RUNNING may write beside its state. -/
def quitF (k : Nat) : List Fld := loseF k ++ rptF

/-- No DMA channel of the engine is BUSY. -/
def DmaIdle (k : Fin 16) (s : State) : Prop := s.on (dmaBusyF k 0) = false ∧ s.on (dmaBusyF k 1) = false

theorem heldF_mem_loseF (k h : Nat) : heldF k h ∈ loseF k := by
  unfold heldF
  split <;> simp [loseF]

section
variable {k : Fin 16} {s t : State}

/-- The engine's halves are lost: of the registers only those of its landing change (R154). -/
theorem loseHalves_regs (s : State) (k : Fin 16) (hs : List Half) : SameRegs (loseF k) s (s.loseHalves k hs) := by
  have hfold : ∀ (hs : List Half) (t : State), SameRegs (loseF k) s t →
      SameRegs (loseF k) s (hs.foldl (fun t h => t.set (heldF k h.no) 0) t) := fun hs => by
    induction hs with
    | nil => exact fun _ h => h
    | cons x xs ih => exact fun t h => ih _ (h.set (heldF_mem_loseF k x.no) 0)
  exact (hfold hs _ ((SameRegs.refl _ s).set (by simp [loseF]) _)).of_regs rfl

/-- What the machine keeps while an engine's halves are lost. -/
theorem loseHalves_kept {α : Type} (p : State → α) (hset : ∀ (t : State) (f : Fld) (v : Nat), p (t.set f v) = p t)
    (hland : ∀ (t : State) (g : Landing → Landing), p (t.setLand k g) = p t) (s : State) (hs : List Half) :
    p (s.loseHalves k hs) = p s := by
  rw [State.loseHalves, hland, foldl_held_keeps p hset]
  exact hset _ _ _

/-- An engine that loses every half has none left. -/
theorem loseHalves_all (s : State) (k : Fin 16) :
    (((s.loseHalves k ((s.land[k]).avail ++ (s.land[k]).taken)).land[k]).avail = [])
      ∧ (((s.loseHalves k ((s.land[k]).avail ++ (s.land[k]).taken)).land[k]).taken = []) := by
  have hfold : ∀ (hs : List Half) (t : State), (hs.foldl (fun t h => t.set (heldF k h.no) 0) t).land = t.land :=
    fun hs t => foldl_held_keeps State.land (fun _ _ _ => rfl) k hs t
  simp only [State.loseHalves, State.setLand, hfold]
  simp +contextual

theorem dmaStop_idle {ch : Fin 2} (h : s.on (dmaBusyF k ch) = false) : s.dmaStop k ch = s := if_neg (Bool.eq_false_iff.1 h)

/-- A change of the registers of `fs` leaves a DMA channel idle that none of them describes. -/
theorem on_of_sameRegs {fs : List Fld} {g : Fld} (h : SameRegs fs s t) (hg : g.key ∉ fs.map Fld.key) : t.on g = s.on g := by
  rw [State.on, h g hg, State.on]

/-- What the engine's state and its channels read is none of the fields that tell of its halves or of the repeat table. -/
theorem engState_notMem_quitF : ∀ k : Fin 16, (ENG_DEk_STAT_STATE k).key ∉ (quitF k).map Fld.key := by decide +kernel
theorem dmaBusy_notMem_quitF : ∀ (k : Fin 16) (ch : Fin 2),
    (dmaBusyF k ch).key ∉ (ENG_DEk_STAT_STATE k :: quitF k).map Fld.key := by decide +kernel

/-- What an engine without a BUSY channel leaves as it leaves RUNNING. -/
structure Quit (k : Fin 16) (st : Nat) (s t : State) : Prop where
  regs : SameRegs (ENG_DEk_STAT_STATE k :: quitF k) s t
  state : t.engState k = st % 4
  eng : t.eg k = { s.eg k with stall := none }
  avail : (t.land[k]).avail = []
  taken : (t.land[k]).taken = []
  flash : t.flash = s.flash
  cmd : t.cmd = s.cmd
  lw : t.lw = s.lw
  trk : t.trk = s.trk

/-- Closing frames afterwards changes none of that. -/
theorem Quit.beside {st : Nat} {u : State} (h : Quit k st s t) (hu : Beside rptF t u) : Quit k st s u where
  regs := h.regs.trans (hu.1.mono (List.subset_cons_of_subset _ (List.subset_append_right _ _)))
  state := (hu.1 _ fun hm => engState_notMem_quitF k (List.map_subset _ (List.subset_append_right _ _) hm)).trans h.state
  eng := (hu.kept (State.eg · k) fun _ _ => rfl).trans h.eng
  avail := (hu.kept (fun x => (x.land[k]).avail) fun _ _ => rfl).trans h.avail
  taken := (hu.kept (fun x => (x.land[k]).taken) fun _ _ => rfl).trans h.taken
  flash := (hu.kept State.flash fun _ _ => rfl).trans h.flash
  cmd := (hu.kept State.cmd fun _ _ => rfl).trans h.cmd
  lw := (hu.kept State.lw fun _ _ => rfl).trans h.lw
  trk := (hu.kept State.trk fun _ _ => rfl).trans h.trk

/-- The engine's state is written and its halves are lost. -/
def State.halvesLost (s : State) (k : Fin 16) (st : Nat) : State :=
  (s.set (ENG_DEk_STAT_STATE k) st).loseHalves k ((s.land[k]).avail ++ (s.land[k]).taken)

theorem halvesLost_regs (s : State) (k : Fin 16) (st : Nat) :
    SameRegs (ENG_DEk_STAT_STATE k :: quitF k) s (s.halvesLost k st) :=
  ((SameRegs.refl _ s).set List.mem_cons_self st).trans
    ((loseHalves_regs _ _ _).mono (List.subset_cons_of_subset _ (List.subset_append_left _ _)))

theorem halvesLost_quit (s : State) (k : Fin 16) (st : Nat) :
    Quit k st s ((s.halvesLost k st).setEng k fun e => { e with stall := none }) := by
  obtain ⟨havail, htaken⟩ := loseHalves_all (s.set (ENG_DEk_STAT_STATE k) st) k
  have hpart : ∀ {α : Type} (p : State → α), (∀ (t : State) (f : Fld) (v : Nat), p (t.set f v) = p t) →
      (∀ (t : State) (g : Landing → Landing), p (t.setLand k g) = p t) → p (s.halvesLost k st) = p s := fun p hp hq =>
    (loseHalves_kept p hp hq _ _).trans (hp _ _ _)
  exact
    { regs := (halvesLost_regs s k st).of_regs rfl
      state := (loseHalves_regs _ _ _ _ fun hm =>
        engState_notMem_quitF k (List.map_subset _ (List.subset_append_left _ _) hm)).trans (State.get_set_same _ _ _)
      eng := by
        rw [setEng_eq, withEng_eg]
        exact congrArg (fun e : Engine => { e with stall := none }) (hpart (State.eg · k) (fun _ _ _ => rfl) fun _ _ => rfl)
      avail := havail
      taken := htaken
      flash := hpart State.flash (fun _ _ _ => rfl) fun _ _ => rfl
      cmd := hpart State.cmd (fun _ _ _ => rfl) fun _ _ => rfl
      lw := hpart State.lw (fun _ _ _ => rfl) fun _ _ => rfl
      trk := hpart State.trk (fun _ _ _ => rfl) fun _ _ => rfl }

theorem quitEngine_quit (st : Nat) (h : DmaIdle k s) : Quit k st s (s.quitEngine k st) := by
  obtain ⟨h0, h1⟩ := h
  have hstop0 : (s.halvesLost k st).dmaStop k 0 = s.halvesLost k st :=
    dmaStop_idle ((on_of_sameRegs (halvesLost_regs s k st) (dmaBusy_notMem_quitF k 0)).trans h0)
  have hstop1 : (s.halvesLost k st).dmaStop k 1 = s.halvesLost k st :=
    dmaStop_idle ((on_of_sameRegs (halvesLost_regs s k st) (dmaBusy_notMem_quitF k 1)).trans h1)
  have hlost : ((s.halvesLost k st).dmaStop k 0).dmaStop k 1 = s.halvesLost k st := by rw [hstop0, hstop1]
  unfold State.quitEngine
  extract_lets l s1 s2
  have hs2 : Quit k st s s2 := by
    have : s2 = (s.halvesLost k st).setEng k fun e => { e with stall := none } :=
      congrArg (fun x : State => x.setEng k fun e => { e with stall := none }) hlost
    rw [this]
    exact halvesLost_quit s k st
  clear_value s2
  exact hs2.beside ((Beside.refl _ s2).ite (closeFrames_beside s2 _))
end

/-! ### Traps -/

/-- The fields that a trap writes beside (R172). -/
def trapF (k : Nat) : List Fld :=
  [ENG_DEk_TRAP_CAUSE k, ENG_DEk_TRAP_PC k, ENG_DEk_TRAP_ADDR_ADDR k, ENG_DEk_TRAP_ADDR_MEM k, ENG_FLAGS_TRAP]

/-- Neither an event record nor the engine's leaving RUNNING writes them; none of them tells of a channel. -/
theorem trapF_notMem_logF : ∀ k : Fin 16, ∀ g ∈ trapF k, g.key ∉ logF.map Fld.key := by decide +kernel
theorem trapF_notMem_quitF : ∀ k : Fin 16, ∀ g ∈ trapF k, g.key ∉ (ENG_DEk_STAT_STATE k :: quitF k).map Fld.key := by
  decide +kernel
theorem dmaBusy_notMem_trapF : ∀ (k : Fin 16) (ch : Fin 2), (dmaBusyF k ch).key ∉ (trapF k ++ logF).map Fld.key := by
  decide +kernel

/-- The five fields lie at different places. -/
theorem trapF_nodup : ∀ k : Fin 16, ((trapF k).map Fld.key).Nodup := by decide +kernel

/-- What an engine that traps with a cause at its present instruction leaves (R153, R172). -/
def Trapped (c : Nat) (k : Fin 16) (s t : State) : Prop :=
  t.get (ENG_DEk_TRAP_CAUSE k) = c ∧ t.get (ENG_DEk_TRAP_PC k) = (s.eg k).pc.toNat ∧ t.engState k = 2
    ∧ (t.get ENG_FLAGS_TRAP).testBit k.val = true
    ∧ (t.eg k).pc = (s.eg k).pc ∧ (t.eg k).g = (s.eg k).g ∧ (t.eg k).v = (s.eg k).v ∧ (t.eg k).loops = (s.eg k).loops
    ∧ (t.land[k]).avail = [] ∧ (t.land[k]).taken = []
    ∧ t.flash = s.flash ∧ t.cmd = s.cmd ∧ t.lw = s.lw ∧ t.trk = s.trk
/-- The data address of a trap that has one (R172). -/
def TrapAddr (a m : Nat) (k : Fin 16) (t : State) : Prop :=
  t.get (ENG_DEk_TRAP_ADDR_ADDR k) = a % 2 ^ (ENG_DEk_TRAP_ADDR_ADDR k).w
    ∧ t.get (ENG_DEk_TRAP_ADDR_MEM k) = m % 2 ^ (ENG_DEk_TRAP_ADDR_MEM k).w

section
variable {k : Fin 16} {s t u : State}

/-- `s` with the cause, the instruction's address and the data address of a trap. -/
def State.trapFields (s : State) (k : Fin 16) (c : Nat) (at_ : Option (Nat × Nat)) : State :=
  let s1 := (s.set (ENG_DEk_TRAP_CAUSE k) c).set (ENG_DEk_TRAP_PC k) (s.eg k).pc.toNat
  match at_ with
  | some (a, m) => (s1.set (ENG_DEk_TRAP_ADDR_ADDR k) a).set (ENG_DEk_TRAP_ADDR_MEM k) m
  | none => s1
/-- The engine's flag is raised too. -/
def State.trapNoted (s : State) (k : Fin 16) (c : Nat) (at_ : Option (Nat × Nat)) : State :=
  (s.trapFields k c at_).raise ENG_FLAGS_TRAP (2 ^ k.val)

theorem engTrap_eq (s : State) (k : Fin 16) (c : Nat) (at_ : Option (Nat × Nat)) :
    s.engTrap k c at_ = ((s.trapNoted k c at_).logEvent 0x0501 3 ((s.trapFields k c at_).rawReg 5 (0x1008 + 0x100 * k.val))
      k.val).quitEngine k engHalted := rfl

theorem trapNoted_beside (s : State) (k : Fin 16) (c : Nat) (at_ : Option (Nat × Nat)) :
    Beside (trapF k) s (s.trapNoted k c at_) := by
  have h : Beside (trapF k) s ((s.set (ENG_DEk_TRAP_CAUSE k) c).set (ENG_DEk_TRAP_PC k) (s.eg k).pc.toNat) :=
    ((Beside.refl _ s).set (by simp [trapF]) _).set (by simp [trapF]) _
  obtain _ | ⟨a, m⟩ := at_
  · exact h.raise (by simp [trapF]) _
  · exact ((h.set (by simp [trapF]) _).set (by simp [trapF]) _).raise (by simp [trapF]) _

theorem get_raise (s : State) (f g : Fld) (v : Nat) :
    (s.raise f v).get g = if g.key = f.key then (s.get f ||| v) % 2 ^ f.w else s.get g := State.get_orBits s f g v

/-- What the fields of a trap read once they are noted. -/
theorem trapNoted_get (s : State) (k : Fin 16) (c : Nat) (at_ : Option (Nat × Nat)) :
    (s.trapNoted k c at_).get (ENG_DEk_TRAP_CAUSE k) = c % 16
      ∧ (s.trapNoted k c at_).get (ENG_DEk_TRAP_PC k) = (s.eg k).pc.toNat
      ∧ ((s.trapNoted k c at_).get ENG_FLAGS_TRAP).testBit k.val = true
      ∧ ∀ a m, at_ = some (a, m) → TrapAddr a m k (s.trapNoted k c at_) := by
  have hnodup := trapF_nodup k
  simp only [trapF, List.map_cons, List.map_nil, List.nodup_cons, List.mem_cons, List.not_mem_nil, or_false, not_or] at hnodup
  obtain ⟨⟨hcp, hca, hcm, hcf⟩, ⟨hpa, hpm, hpf⟩, ⟨ham, haf⟩, hmf, -⟩ := hnodup
  have hpc : (s.eg k).pc.toNat % 2 ^ (ENG_DEk_TRAP_PC k).w = (s.eg k).pc.toNat := Nat.mod_eq_of_lt (s.eg k).pc.isLt
  have hflag : ∀ n : Nat, ((n ||| 2 ^ k.val) % 2 ^ ENG_FLAGS_TRAP.w).testBit k.val = true := fun n => by
    rw [Nat.testBit_mod_two_pow, Nat.testBit_or, Nat.testBit_two_pow_self, Bool.or_true, Bool.and_true]
    exact decide_eq_true k.isLt
  obtain _ | ⟨a, m⟩ := at_
  · refine ⟨?_, ?_, ?_, fun a m h => nomatch h⟩
    · simp only [State.trapNoted, State.trapFields, get_raise, State.get_set, hcf, hcp, if_false, if_true]
      rfl
    · simp only [State.trapNoted, State.trapFields, get_raise, State.get_set, hpf, if_false, if_true, hpc]
    · simp only [State.trapNoted, State.trapFields, get_raise, if_true, hflag]
  · refine ⟨?_, ?_, ?_, ?_⟩
    · simp only [State.trapNoted, State.trapFields, get_raise, State.get_set, hcf, hcm, hca, hcp, if_false, if_true]
      rfl
    · simp only [State.trapNoted, State.trapFields, get_raise, State.get_set, hpf, hpm, hpa, if_false, if_true, hpc]
    · simp only [State.trapNoted, State.trapFields, get_raise, if_true, hflag]
    · rintro a m ⟨⟩
      simp only [TrapAddr, State.trapNoted, State.trapFields, get_raise, State.get_set, haf, ham, hmf, if_false, if_true, and_self]

/-- An engine without a BUSY channel traps (R172). -/
theorem engTrap_spec (c : Nat) (at_ : Option (Nat × Nat)) (hc : c < 16) (hdma : DmaIdle k s) :
    Trapped c k s (s.engTrap k c at_) ∧ ∀ a m, at_ = some (a, m) → TrapAddr a m k (s.engTrap k c at_) := by
  have hnote := trapNoted_beside s k c at_
  have hlog := logEvent_beside (s.trapNoted k c at_) 0x0501 3 ((s.trapFields k c at_).rawReg 5 (0x1008 + 0x100 * k.val)) k.val
  obtain ⟨hcause, hpc, hflag, haddr⟩ := trapNoted_get s k c at_
  rw [engTrap_eq]
  generalize (s.trapNoted k c at_).logEvent _ _ _ _ = u at hlog ⊢
  have hu : Beside (trapF k ++ logF) s u :=
    (hnote.mono (List.subset_append_left _ _)).trans (hlog.mono (List.subset_append_right _ _))
  obtain ⟨hdma0, hdma1⟩ := hdma
  have hidle : DmaIdle k u := ⟨(on_of_sameRegs hu.1 (dmaBusy_notMem_trapF k 0)).trans hdma0,
    (on_of_sameRegs hu.1 (dmaBusy_notMem_trapF k 1)).trans hdma1⟩
  have hq := quitEngine_quit engHalted hidle
  generalize u.quitEngine k engHalted = t at hq ⊢
  have hget : ∀ g ∈ trapF k, t.get g = (s.trapNoted k c at_).get g := fun g hg =>
    (hq.regs g (trapF_notMem_quitF k g hg)).trans (hlog.1 g (trapF_notMem_logF k g hg))
  have heng : t.eg k = { s.eg k with stall := none } := by
    rw [hq.eng, State.eg, hu.kept State.eng fun _ _ => rfl, State.eg]
  refine ⟨⟨?_, ?_, hq.state, ?_, ?_, ?_, ?_, ?_, hq.avail, hq.taken, ?_, ?_, ?_, ?_⟩, fun a m ham => ?_⟩
  · rw [hget _ (by simp [trapF]), hcause, Nat.mod_eq_of_lt hc]
  · rw [hget _ (by simp [trapF]), hpc]
  · rw [hget _ (by simp [trapF]), hflag]
  · rw [heng]
  · rw [heng]
  · rw [heng]
  · rw [heng]
  · exact hq.flash.trans (hu.kept State.flash fun _ _ => rfl)
  · exact hq.cmd.trans (hu.kept State.cmd fun _ _ => rfl)
  · exact hq.lw.trans (hu.kept State.lw fun _ _ => rfl)
  · exact hq.trk.trans (hu.kept State.trk fun _ _ => rfl)
  · rw [TrapAddr, hget _ (by simp [trapF]), hget _ (by simp [trapF])]
    exact haddr a m ham

/-- An instruction whose issue traps. -/
theorem issue_trapped {op w c : Nat} {at_ : Option (Nat × Nat)} {body : Fin 16 → State → Nat → Issue} (h : Claim.Issues op k s w)
    (hdma : DmaIdle k s) (hc : c < 16) (hb : ∀ x, ∃ z, body k (s.noted x) w = .trap c at_ (s.noted z)) :
    Trapped c k s (s.issue k op body) ∧ ∀ a m, at_ = some (a, m) → TrapAddr a m k (s.issue k op body) := by
  obtain ⟨x, hx⟩ := issue_eq h body
  obtain ⟨z, hz⟩ := hb x
  rw [hx, hz, state_trap]
  exact engTrap_spec (s := s.noted z) c at_ hc hdma
end

/-! ### The clauses -/

theorem loopFifth_holds : Claim.iLoopFifth := by
  rintro k s w z ⟨hissue, hok, hlater, hfour, hbs, hecc, hlt, hc, hbr, hh, hn, hdma0, hdma1⟩
  have hheld := issues_noHeld hissue
  have hn' : loopCount k s w ≠ 0 := hn
  refine ⟨_, rfl, (issue_trapped (at_ := none) (body := bodyLoop) hissue ⟨hdma0, hdma1⟩ (by decide) fun x => ?_).1⟩
  obtain ⟨y, hy⟩ := bodyLoop_eq hheld hok hlater ⟨hbs, hecc, hlt, badLoopEnd_eq_false hc hbr hh⟩ x
  rw [if_neg hn', if_pos hfour.ge] at hy
  exact ⟨y, hy⟩

theorem break_holds : Claim.iBreak := by
  rintro k s w ⟨hissue, hok, hdma0, hdma1⟩
  exact ⟨_, rfl, (issue_trapped hissue ⟨hdma0, hdma1⟩ (by decide) fun x => ⟨x, legal_eq hok _ _⟩).1⟩

theorem reserved_holds : Claim.iReserved := by
  rintro k s w ⟨hissue, hbad, hdma0, hdma1⟩
  exact ⟨_, rfl, (issue_trapped hissue ⟨hdma0, hdma1⟩ (by decide) fun x => ⟨x, if_neg (Bool.eq_false_iff.1 hbad)⟩).1⟩

theorem illegal_holds : Claim.iIllegal := by
  rintro k s w op ⟨hissue, hop, hdma0, hdma1⟩
  obtain ⟨x, hx⟩ := issues_fetch hissue
  obtain ⟨hfab, hrun, hstall, hskip, hkern, -, -, -, -, hopw⟩ := hissue
  have hfind : engOps.find? (fun p => p.1 == opOf w) = none := by
    rw [List.find?_eq_none, hopw]
    intro p hp hpe
    exact hop (List.mem_map.2 ⟨p, hp, beq_iff_eq.1 hpe⟩)
  have hexec : exec (.illegal k) s = .next ((s.noted x).engTrap k trIllegal none) := by
    show execIllegal k s = _
    simp [execIllegal, hfab, hrun, hstall, hskip, hkern, hx, hfind, engRunning]
  exact ⟨_, hexec, (engTrap_spec (s := s.noted x) trIllegal none (by decide) ⟨hdma0, hdma1⟩).1⟩

theorem trapCause_notMem_quitF (k : Fin 16) : (ENG_DEk_TRAP_CAUSE k).key ∉ (ENG_DEk_STAT_STATE k :: quitF k).map Fld.key :=
  trapF_notMem_quitF k _ (by simp [trapF])

theorem halt_holds : Claim.iHalt := by
  rintro k s w ⟨hissue, hok, hdma0, hdma1⟩
  obtain ⟨x, hx⟩ := issue_eq hissue bodyHalt
  have hq := quitEngine_quit (k := k) (s := (s.noted x).withEng k (Claim.went (s.eg k))) engStopped ⟨hdma0, hdma1⟩
  have hstop : s.issue k 0xFF bodyHalt = ((s.noted x).withEng k (Claim.went (s.eg k))).quitEngine k engStopped := by
    rw [hx, bodyHalt, legal_eq hok]
    rfl
  refine ⟨_, rfl, ?_⟩
  rw [show (s.issue k 0xFF bodyHalt) = _ from hstop]
  have heng := hq.eng
  rw [withEng_eg] at heng
  refine ⟨hq.state, ?_, ?_, ?_, ?_, hq.avail, hq.taken, hq.regs _ (trapCause_notMem_quitF k), hq.flash, hq.cmd, hq.lw, hq.trk⟩
    <;> rw [heng] <;> rfl

end Sys2Proof.Machine
end

section
/-! SUPPORT. EngineControl, clause by clause. -/

namespace Sys2Proof.Proofs
open Sys2Proof.Machine

/-- Settles O26: each clause holds; an instruction that goes on or jumps is the fetch and one new engine, and one that stops or traps
leaves RUNNING with its channels idle. -/
theorem engineControl : Obligations.EngineControl :=
  ⟨br_holds, bz_holds, bnz_holds, bltz_holds, bgez_holds, jal_holds, jr_holds, loop_holds, loopZero_holds, loopFifth_holds,
    lpop_holds, nop_holds, loopBack_holds, loopEnd_holds, halt_holds, break_holds, illegal_holds, reserved_holds⟩

end Sys2Proof.Proofs
end

section
/-! SUPPORT. Consecutive bytes of memory as one value: parts of it, and what a narrow write makes of its word (R387). -/

namespace Sys2Proof.Machine

/-! ### Bytes and the values they spell -/

@[simp] theorem length_bytesLE (n v : Nat) : (bytesLE n v).length = n := by
  induction n generalizing v with
  | zero => rfl
  | succ n ih => rw [bytesLE, List.length_cons, ih]

theorem ofBytesLE_append (xs ys : List Byte) : ofBytesLE (xs ++ ys) = ofBytesLE xs + 256 ^ xs.length * ofBytesLE ys := by
  induction xs with
  | nil => simp [ofBytesLE]
  | cons b t ih =>
    rw [List.cons_append, ofBytesLE, ofBytesLE, ih, List.length_cons, Nat.pow_succ', Nat.mul_add, Nat.mul_assoc, Nat.add_assoc]

theorem ofBytesLE_take (bs : List Byte) (c : Nat) : ofBytesLE (bs.take c) = ofBytesLE bs % 256 ^ c := by
  induction c generalizing bs with
  | zero => simp [ofBytesLE, Nat.mod_one]
  | succ c ih =>
    cases bs with
    | nil => simp [ofBytesLE]
    | cons b t =>
      have hb : b.toNat < 256 := b.isLt
      rw [List.take_succ_cons, ofBytesLE, ofBytesLE, ih, Nat.pow_succ', Nat.mod_mul, Nat.add_mul_mod_self_left, Nat.mod_eq_of_lt hb,
        Nat.add_mul_div_left _ _ (by decide), Nat.div_eq_of_lt hb, Nat.zero_add]

theorem ofBytesLE_drop (bs : List Byte) (c : Nat) : ofBytesLE (bs.drop c) = ofBytesLE bs / 256 ^ c := by
  induction c generalizing bs with
  | zero => simp
  | succ c ih =>
    cases bs with
    | nil => simp [ofBytesLE]
    | cons b t =>
      have hb : b.toNat < 256 := b.isLt
      rw [List.drop_succ_cons, ih, ofBytesLE, Nat.pow_succ', ← Nat.div_div_eq_div_mul, Nat.add_mul_div_left _ _ (by decide),
        Nat.div_eq_of_lt hb, Nat.zero_add]

theorem bytesLE_ofBytesLE (bs : List Byte) : bytesLE bs.length (ofBytesLE bs) = bs := by
  induction bs with
  | nil => rfl
  | cons b t ih =>
    have hb : b.toNat < 256 := b.isLt
    rw [List.length_cons, bytesLE, ofBytesLE, Nat.add_mul_div_left _ _ (by decide), Nat.div_eq_of_lt hb, Nat.zero_add, ih]
    congr 1
    apply BitVec.eq_of_toNat_eq
    rw [BitVec.toNat_ofNat]
    omega

theorem bytesLE_take {n m : Nat} (h : n ≤ m) (v : Nat) : (bytesLE m v).take n = bytesLE n v := by
  induction n generalizing m v with
  | zero => rfl
  | succ n ih =>
    obtain ⟨m, rfl⟩ := Nat.exists_eq_succ_of_ne_zero (by omega : m ≠ 0)
    rw [bytesLE, List.take_succ_cons, ih (by omega), bytesLE]

/-! ### Parts of a range of memory -/

section
variable {m m' : KMap Byte} {a n : Nat} {bs cs : List Byte}

theorem getBytes_length (h : getBytes m a n = some bs) : bs.length = n := by
  induction n generalizing a bs with
  | zero => cases h; rfl
  | succ n ih =>
    simp only [getBytes] at h
    split at h
    next b t _ ht => cases h; rw [List.length_cons, ih ht]
    next => cases h

theorem kget_of_getBytes (h : getBytes m a n = some bs) {i : Nat} (hi : i < n) : kget (a + i) m = bs[i]? := by
  induction n generalizing a bs i with
  | zero => omega
  | succ n ih =>
    simp only [getBytes] at h
    split at h
    next b t hb ht =>
      cases h
      cases i with
      | zero => exact hb
      | succ i => rw [List.getElem?_cons_succ, ← ih ht (by omega), Nat.add_assoc, Nat.add_comm 1 i]
    next => cases h

/-- A range that reads the same byte for byte reads the same. -/
theorem getBytes_of_kget (h : ∀ i < bs.length, kget (a + i) m = bs[i]?) (hn : bs.length = n) : getBytes m a n = some bs := by
  rw [← hn]
  exact getBytes_eq h

theorem getBytes_slice (h : getBytes m a n = some bs) {off c : Nat} (hc : off + c ≤ n) :
    getBytes m (a + off) c = some ((bs.drop off).take c) := by
  have hlen := getBytes_length h
  have hlen' : ((bs.drop off).take c).length = c := by
    rw [List.length_take, List.length_drop]
    omega
  refine getBytes_of_kget (fun i hi => ?_) hlen'
  rw [hlen'] at hi
  rw [Nat.add_assoc, kget_of_getBytes h (by omega), List.getElem?_take_of_lt hi, List.getElem?_drop]

theorem getBytes_append {p q : Nat} (h : getBytes m a p = some bs) (k : getBytes m (a + p) q = some cs) :
    getBytes m a (p + q) = some (bs ++ cs) := by
  have hb := getBytes_length h
  have hc := getBytes_length k
  refine getBytes_of_kget (fun i hi => ?_) (by rw [List.length_append, hb, hc])
  rw [List.length_append, hb, hc] at hi
  by_cases hp : i < p
  · rw [kget_of_getBytes h hp, List.getElem?_append_left (by omega)]
  · rw [List.getElem?_append_right (by omega), hb, ← kget_of_getBytes k (i := i - p) (by omega), Nat.add_assoc,
      Nat.add_sub_cancel' (Nat.not_lt.1 hp)]

/-- Bytes of a range as a value. -/
theorem ofBytesLE_slice (bs : List Byte) (off c : Nat) :
    ofBytesLE ((bs.drop off).take c) = ofBytesLE bs / 2 ^ (8 * off) % 2 ^ (8 * c) := by
  rw [ofBytesLE_take, ofBytesLE_drop, Nat.pow_mul, Nat.pow_mul]
end

/-! ### A narrow write -/

/-- Merging a value into a word replaces bytes of it. -/
theorem mergeWord_append (xs ms ys : List Byte) (v : Nat) :
    mergeWord (ofBytesLE (xs ++ ms ++ ys)) xs.length ms.length v = ofBytesLE (xs ++ bytesLE ms.length v ++ ys) := by
  have hm := ofBytesLE_slice (xs ++ ms ++ ys) xs.length ms.length
  rw [List.append_assoc, List.drop_left, List.take_left] at hm
  rw [mergeWord, List.append_assoc xs, ← hm]
  simp only [List.append_assoc, ofBytesLE_append, length_bytesLE, ofBytesLE_bytesLE]
  have hpow : ∀ n : Nat, 2 ^ (8 * n) = 256 ^ n := fun n => by rw [Nat.pow_mul]
  rw [hpow, hpow, Nat.mul_add, Nat.mul_add, Nat.mul_comm (ofBytesLE ms), Nat.mul_comm (v % _)]
  omega

/-- Storing bytes between bytes that stand there already is storing them alone. -/
theorem kget_putBytes_between {m : KMap Byte} {a : Nat} {xs ms ys zs : List Byte}
    (h : getBytes m a (xs ++ ms ++ ys).length = some (xs ++ ms ++ ys))
    (hz : zs.length = ms.length) (j : Nat) : kget j (putBytes a (xs ++ zs ++ ys) m) = kget j (putBytes (a + xs.length) zs m) := by
  have hold : ∀ i < (xs ++ ms ++ ys).length, kget (a + i) m = (xs ++ ms ++ ys)[i]? := fun i hi => kget_of_getBytes h hi
  simp only [List.length_append] at hold
  rw [kget_putBytes, kget_putBytes]
  simp only [List.length_append]
  by_cases hin : a ≤ j ∧ j < a + (xs.length + zs.length + ys.length)
  · rw [if_pos hin]
    obtain ⟨i, rfl⟩ := Nat.exists_eq_add_of_le hin.1
    rw [Nat.add_sub_cancel_left]
    by_cases hx : i < xs.length
    · rw [if_neg (by omega), hold i (by omega), List.append_assoc, List.append_assoc, List.getElem?_append_left hx,
        List.getElem?_append_left hx]
    · by_cases hzs : i < xs.length + zs.length
      · rw [if_pos (by omega), List.append_assoc, List.getElem?_append_right (by omega), List.getElem?_append_left (by omega)]
        congr 1
        omega
      · rw [if_neg (by omega), hold i (by omega), List.getElem?_append_right (by rw [List.length_append]; omega),
          List.getElem?_append_right (by rw [List.length_append]; omega), List.length_append, List.length_append, hz]
  · rw [if_neg hin, if_neg (by omega)]

end Sys2Proof.Machine
end

section
/-! SUPPORT. Loads from and stores to an engine's X and Y memory (R155, R157, R387). -/

namespace Sys2Proof.Machine
open Reg

/-! ### Loads -/

section
variable {k : Fin 16} {s : State} {mem a n : Nat}

/-- The sizes of an access in halfwords (R188). -/
def AccessSize (n : Nat) : Prop := n = 1 ∨ n = 2 ∨ n = 8

/-- The words that an access touches are intact (R155). -/
def AccessIntact (k : Fin 16) (s : State) (mem a n : Nat) : Prop :=
  Intact s ((engMem k mem + 2 * a) / 8 * 8) ∧ Intact s ((engMem k mem + 2 * (a + n - 1)) / 8 * 8)

/-- An intact word of an engine's memory is read without a further effect. -/
theorem readMem_intact {b j off : Nat} (hreg : regionOf b = .engine j off) (hheld : NoHeld s) (h : Intact s b) :
    ∃ bs, getBytes s.mem b 8 = some bs ∧ ∀ y, ∃ x, (s.noted y).readMem (.engine k) b = ((ofBytesLE bs, false), s.noted x) := by
  obtain ⟨hsome, hecc⟩ := h
  obtain ⟨bs, hbs⟩ := Option.isSome_iff_exists.1 hsome
  exact ⟨bs, hbs, fun y => readMem_engine (s := s.noted y) k hreg hheld hbs hecc⟩

theorem regionOf_data (hmem : mem < 2) {off : Nat} (hoff : off < 0x20000) :
    ∃ o, regionOf (engMem k mem + off) = .engine k o := ⟨_, regionOf_engMem k (by omega)⟩

/-- An aligned load of intact words gives the bytes that stand there. -/
theorem readData_spec (hn : AccessSize n) (hal : a % n = 0) (ha : a < 65536) (hmem : mem < 2) (hheld : NoHeld s)
    (h : AccessIntact k s mem a n) :
    ∃ bs, getBytes s.mem (engMem k mem + 2 * a) (2 * n) = some bs
      ∧ ∀ y, ∃ x, (s.noted y).readData k mem a n = ((ofBytesLE bs, false), s.noted x) := by
  obtain ⟨h1, h2⟩ := h
  have hbase : engMem k mem % 8 = 0 := by
    rw [engMem, engBase]
    omega
  by_cases h8 : n = 8
  · subst h8
    have hw1 : (engMem k mem + 2 * a) / 8 * 8 = engMem k mem + 2 * a := by omega
    have hw2 : (engMem k mem + 2 * (a + 8 - 1)) / 8 * 8 = engMem k mem + 2 * a + 8 := by omega
    rw [hw1] at h1
    rw [hw2] at h2
    obtain ⟨o1, hr1⟩ := regionOf_data (k := k) hmem (off := 2 * a) (by omega)
    obtain ⟨o2, hr2⟩ := regionOf_data (k := k) hmem (off := 2 * a + 8) (by omega)
    rw [← Nat.add_assoc] at hr2
    obtain ⟨xs, hxs, hread1⟩ := readMem_intact (k := k) hr1 hheld h1
    obtain ⟨ys, hys, hread2⟩ := readMem_intact (k := k) hr2 hheld h2
    have happ : getBytes s.mem (engMem k mem + 2 * a) (8 + 8) = some (xs ++ ys) := getBytes_append hxs hys
    refine ⟨xs ++ ys, happ, fun y => ?_⟩
    obtain ⟨u, hu⟩ := hread1 y
    obtain ⟨x, hx⟩ := hread2 u
    refine ⟨x, ?_⟩
    have hval : ofBytesLE (xs ++ ys) = ofBytesLE xs + ofBytesLE ys * 2 ^ 64 := by
      rw [ofBytesLE_append, getBytes_length hxs, Nat.mul_comm, show 256 ^ 8 = 2 ^ 64 by decide]
    simp only [State.readData, if_true, hu, hx, hval, Bool.or_self]
  · have hn2 : 2 * n ≤ 4 := by
      rcases hn with rfl | rfl | rfl <;> omega
    obtain ⟨o, hr⟩ := regionOf_data (k := k) hmem (off := 2 * a / 8 * 8) (by omega)
    have hw : engMem k mem + 2 * a / 8 * 8 = (engMem k mem + 2 * a) / 8 * 8 := by omega
    rw [hw] at hr
    obtain ⟨bs, hbs, hread⟩ := readMem_intact (k := k) hr hheld h1
    have hfit : (engMem k mem + 2 * a) % 8 + 2 * n ≤ 8 := by
      rcases hn with rfl | rfl | rfl <;> omega
    have hslice := getBytes_slice hbs hfit
    rw [Nat.div_add_mod' (engMem k mem + 2 * a) 8] at hslice
    refine ⟨_, hslice, fun y => ?_⟩
    obtain ⟨x, hx⟩ := hread y
    refine ⟨x, ?_⟩
    have hpow : 2 ^ (8 * (2 * n)) = 2 ^ (16 * n) := by
      congr 1
      omega
    rw [State.readData, if_neg h8, hx, ofBytesLE_slice, hpow]
end

/-- The lanes of a value whose bytes stand at an address are the lanes that stand there. -/
theorem lanesAt_get {k : Fin 16} {s : State} {mem a n : Nat} {bs : List Byte}
    (h : getBytes s.mem (engMem k mem + 2 * a) (2 * n) = some bs) (i : Fin 8) (hi : i.val < n) :
    (Claim.lanesAt k s mem a)[i] = BitVec.ofNat 16 (ofBytesLE bs / 2 ^ (16 * i.val)) := by
  have haddr : engMem k mem + 2 * (a + i.val) = engMem k mem + 2 * a + 2 * i.val := by omega
  have hslice := getBytes_slice h (off := 2 * i.val) (c := 2) (by omega)
  have hget : (Claim.lanesAt k s mem a)[i] =
      BitVec.ofNat 16 (ofBytesLE ((getBytes s.mem (engMem k mem + 2 * (a + i.val)) 2).getD [])) := by
    simp [Claim.lanesAt]
  rw [hget, haddr, hslice, Option.getD_some, ofBytesLE_slice]
  apply BitVec.eq_of_toNat_eq
  rw [BitVec.toNat_ofNat, BitVec.toNat_ofNat, show 8 * (2 * i.val) = 16 * i.val by omega, Nat.mod_mod]

/-! ### Stores -/

/-- Bytes have been stored in memory, and beside them only check bits and entries of the repeat table have changed. -/
structure Stored (a : Nat) (bs : List Byte) (s t : State) : Prop where
  regs : SameRegs rptF s t
  rest : t = { s with regs := t.regs, mem := t.mem, ecc := t.ecc }
  mem : ∀ j, kget j t.mem = kget j (putBytes a bs s.mem)

section
variable {s t : State} {a b n v : Nat} {bs : List Byte}

theorem Stored.getBytes (h : Stored a bs s t) : getBytes t.mem a bs.length = some bs :=
  getBytes_eq fun i hi => by
    rw [h.mem, kget_putBytes, if_pos ⟨Nat.le_add_right a i, Nat.add_lt_add_left hi a⟩, Nat.add_sub_cancel_left]
theorem Stored.memKept (h : Stored a bs s t) : MemKept a (a + bs.length) s t := fun j hj => by
  rw [h.mem, kget_putBytes_out hj]
theorem Stored.eg (h : Stored a bs s t) (k : Fin 16) : t.eg k = s.eg k :=
  (congrArg (fun x : State => x.eg k) h.rest).trans rfl

/-- A whole range is stored. -/
theorem writeRange_stored (s : State) (a : Nat) (bs : List Byte) : Stored a bs s (s.writeRange a bs) := by
  obtain ⟨hregs, heq⟩ := writeRange_freed s a bs
  refine ⟨hregs, ?_, fun j => ?_⟩ <;> rw [heq]

/-- A word of an engine's memory is stored whole. -/
theorem storeWord_freed {j off : Nat} (hreg : regionOf a = .engine j off) (v : Nat) :
    RptFreed { s with mem := putBytes a (bytesLE 8 v) s.mem, ecc := kdel a s.ecc } (s.storeWord a v none) := by
  unfold State.storeWord
  rw [hreg]
  exact rptFree_freed _ a

/-- A narrow write to an intact word of an engine's memory stores its bytes (R387). -/
theorem writeNarrow_stored {j off : Nat} (m : Master) (hreg : regionOf (b / 8 * 8) = .engine j off) (hheld : NoHeld s)
    (hint : Intact s (b / 8 * 8)) (hfit : b % 8 + n ≤ 8) : Stored b (bytesLE n v) s (s.writeNarrow m b n v) := by
  obtain ⟨hsome, hecc⟩ := hint
  obtain ⟨old, hold⟩ := Option.isSome_iff_exists.1 hsome
  have hlen := getBytes_length hold
  set xs := old.take (b % 8) with hxs
  set ms := (old.drop (b % 8)).take n with hms
  set ys := (old.drop (b % 8)).drop n with hys
  have hsplit : old = xs ++ ms ++ ys := by rw [hxs, hms, hys, List.append_assoc, List.take_append_drop, List.take_append_drop]
  have hxl : xs.length = b % 8 := by rw [hxs, List.length_take]; omega
  have hml : ms.length = n := by rw [hms, List.length_take, List.length_drop]; omega
  have hyl : (xs ++ bytesLE n v ++ ys).length = 8 := by
    rw [hsplit] at hlen
    simpa [hml] using hlen
  have hmerge : mergeWord (ofBytesLE old) (b % 8) n v = ofBytesLE (xs ++ bytesLE n v ++ ys) := by
    have := mergeWord_append xs ms ys v
    rwa [← hsplit, hxl, hml] at this
  have hword : bytesLE 8 (mergeWord (ofBytesLE old) (b % 8) n v) = xs ++ bytesLE n v ++ ys := by
    rw [hmerge, ← hyl, bytesLE_ofBytesLE]
  have hwrite : s.writeNarrow m b n v = s.storeWord (b / 8 * 8) (mergeWord (ofBytesLE old) (b % 8) n v) none := by
    rw [State.writeNarrow, releaseFor_of_noHeld hheld, State.mergeNarrow, peekWord_engine hreg hold hecc]
  obtain ⟨hregs, heq⟩ := storeWord_freed (s := s) hreg (mergeWord (ofBytesLE old) (b % 8) n v)
  rw [hwrite]
  refine ⟨hregs, ?_, fun i => ?_⟩
  · rw [heq]
  · rw [heq, hword]
    show kget i (putBytes _ _ s.mem) = _
    rw [kget_putBytes_between (ms := ms) (by rw [← hsplit, hlen, hold]) (by rw [length_bytesLE, hml]), hxl, Nat.div_add_mod']
end

end Sys2Proof.Machine
end

section
/-! SUPPORT. The values that engine memory and accumulators hold: lanes as bytes, and the saturating store (R162, R187). -/

namespace Sys2Proof.Machine

/-! ### Lanes and bytes -/

/-- The bytes of lanes. -/
def lanesBytes (l : List (BitVec 16)) : List Byte := l.flatMap fun x => bytesLE 2 x.toNat

theorem length_lanesBytes (l : List (BitVec 16)) : (lanesBytes l).length = 2 * l.length := by
  induction l with
  | nil => rfl
  | cons x l ih =>
    rw [lanesBytes, List.flatMap_cons, List.length_append, length_bytesLE, ← lanesBytes, ih, List.length_cons]
    omega

theorem lanesBytes_take (l : List (BitVec 16)) (n : Nat) : (lanesBytes l).take (2 * n) = lanesBytes (l.take n) := by
  induction l generalizing n with
  | nil => simp [lanesBytes]
  | cons x l ih =>
    cases n with
    | zero => rfl
    | succ n =>
      rw [List.take_succ_cons, lanesBytes, lanesBytes, List.flatMap_cons, List.flatMap_cons, ← lanesBytes, ← lanesBytes, ← ih,
        show 2 * (n + 1) = (bytesLE 2 x.toNat).length + 2 * n by rw [length_bytesLE]; omega, List.take_length_add_append]

theorem ofBytesLE_lanesBytes (l : List (BitVec 16)) : ofBytesLE (lanesBytes l) = l.foldr (fun x n => x.toNat + 65536 * n) 0 := by
  induction l with
  | nil => rfl
  | cons x l ih =>
    rw [lanesBytes, List.flatMap_cons, ofBytesLE_append, ofBytesLE_bytesLE, length_bytesLE, ← lanesBytes, ih, List.foldr_cons,
      show 256 ^ 2 = 65536 by decide, Nat.mod_eq_of_lt (show x.toNat < 65536 from x.isLt)]

theorem map_finRange_lanes (v : Lanes) : (List.finRange 8).map (fun i => v[i]) = v.toList :=
  List.ext_getElem (by simp) fun i h1 h2 => by simp

/-- A sum of digits in base 2^16 by Horner's rule. -/
theorem sum_digits_eq_foldr (n : Nat) (f : Fin n → Nat) :
    ((List.finRange n).map fun i => f i * 2 ^ (16 * i.val)).sum = ((List.finRange n).map f).foldr (fun x t => x + 65536 * t) 0 := by
  induction n with
  | zero => rfl
  | succ n ih =>
    have hdigit : ∀ i : Fin n, f i.succ * 2 ^ (16 * (i.val + 1)) = 65536 * (f i.succ * 2 ^ (16 * i.val)) := fun i => by
      rw [Nat.mul_add, Nat.pow_add, Nat.mul_left_comm, Nat.mul_comm 65536]
      ring
    rw [List.finRange_succ, List.map_cons, List.map_cons, List.map_map, List.map_map, List.sum_cons, List.foldr_cons,
      Function.comp_def, Function.comp_def, ← ih, ← List.sum_map_mul_left]
    simp only [Fin.val_succ, hdigit, Fin.val_zero, Nat.mul_zero, Nat.pow_zero, Nat.mul_one]

theorem ofLanes_eq_foldr (v : Lanes) : ofLanes v = v.toList.foldr (fun x n => x.toNat + 65536 * n) 0 := by
  rw [ofLanes, sum_digits_eq_foldr, ← map_finRange_lanes, List.foldr_map, List.foldr_map]

/-- The first lanes of a register as bytes. -/
theorem bytesLE_ofLanes (v : Lanes) {n : Nat} (h : n ≤ 8) : bytesLE (2 * n) (ofLanes v) = lanesBytes (v.toList.take n) := by
  have hlen : (lanesBytes v.toList).length = 16 := by rw [length_lanesBytes, Vector.length_toList]
  have hall := bytesLE_ofBytesLE (lanesBytes v.toList)
  rw [hlen, ofBytesLE_lanesBytes, ← ofLanes_eq_foldr] at hall
  rw [← lanesBytes_take, ← hall, bytesLE_take (by omega)]

/-! ### The saturating store (R162) -/

/-- Rounding to even a quotient by a power of two, by its floor and its remainder. -/
theorem roundEven_div (x : Int) (q : Nat) : roundEven ((x : Rat) / (2 ^ q : Nat)) =
    if 0 < q ∧ (2 ^ (q - 1) < x % 2 ^ q ∨ (x % 2 ^ q = 2 ^ (q - 1) ∧ x / 2 ^ q % 2 = 1)) then x / 2 ^ q + 1 else x / 2 ^ q := by
  have hd : (0 : Rat) < (2 ^ q : Nat) := by positivity
  have hfloor : Rat.floor ((x : Rat) / (2 ^ q : Nat)) = x / 2 ^ q := by
    have h : Rat.floor ((x : Rat) / (2 ^ q : Nat)) = x / ((2 ^ q : Nat) : Int) := Rat.floor_intCast_div_natCast x (2 ^ q)
    rw [h, Int.natCast_pow]
    rfl
  have hrem : (x : Rat) / (2 ^ q : Nat) - (x / 2 ^ q : Int) = (x % 2 ^ q : Int) / (2 ^ q : Nat) := by
    have hx : (x : Rat) = (2 ^ q : Int) * (x / 2 ^ q : Int) + (x % 2 ^ q : Int) := by
      exact_mod_cast (Int.mul_ediv_add_emod x (2 ^ q)).symm
    rw [sub_eq_iff_eq_add, div_eq_iff hd.ne', add_mul, div_mul_cancel₀ _ hd.ne']
    push_cast at hx ⊢
    linarith
  have hlt : (x % 2 ^ q : Int) / ((2 ^ q : Nat) : Rat) < 1 / 2 ↔ 2 * (x % 2 ^ q) < 2 ^ q := by
    rw [div_lt_div_iff₀ hd two_pos]
    push_cast
    constructor <;> intro h
    · exact_mod_cast (by linarith : (2 : Rat) * (x % 2 ^ q : Int) < 2 ^ q)
    · have : (2 : Rat) * (x % 2 ^ q : Int) < 2 ^ q := by exact_mod_cast h
      linarith
  have hgt : (x % 2 ^ q : Int) / ((2 ^ q : Nat) : Rat) > 1 / 2 ↔ 2 ^ q < 2 * (x % 2 ^ q) := by
    rw [gt_iff_lt, div_lt_div_iff₀ two_pos hd]
    push_cast
    constructor <;> intro h
    · exact_mod_cast (by linarith : (2 : Rat) ^ q < 2 * (x % 2 ^ q : Int))
    · have : (2 : Rat) ^ q < 2 * (x % 2 ^ q : Int) := by exact_mod_cast h
      linarith
  unfold roundEven
  extract_lets f r
  have hf : f = x / 2 ^ q := hfloor
  have hr : r = (x % 2 ^ q : Int) / (2 ^ q : Nat) := by rw [← hrem, ← hf]
  rw [hr, hf]
  simp only [hlt, hgt]
  cases q with
  | zero => simp
  | succ q =>
    rw [Nat.add_sub_cancel, Int.pow_succ]
    generalize (2 : Int) ^ q = d
    split_ifs <;> omega

theorem clamp_eq {m : Int} (hm : 0 ≤ m) (r : Int) : max (-m) (min m r) = if m < r then m else if r < -m then -m else r := by
  split_ifs <;> omega

theorem satLane_eq (e : Engine) (a : Fin 4) (i : Fin 8) (q : Nat) {m : Int} (hm : 0 ≤ m) :
    e.satLane a i q m = Claim.satValue e a i q m := by
  rw [Engine.satLane, satStore, roundEven_div, clamp_eq hm, Claim.satValue]

theorem bitsOf_eq (n : Nat) (x : Int) : bitsOf n x = (BitVec.ofInt n x).toNat := by
  rw [BitVec.toNat_ofInt, bitsOf]
  norm_cast

end Sys2Proof.Machine
end

section
/-! SUPPORT. LD, ST and SST: the clauses of EngineLoadsStores (R155, R157, R162, R188). -/

namespace Sys2Proof.Machine
open Reg

/-- An engine's X and Y memory is 65,536 halfwords long (R155, R157). -/
theorem dataAddr_lt (e : Engine) (r : Fin 8) (mode : Nat) (m : Int) : (e.dataAddr r mode m).1 < 65536 := by
  have hnext : ∀ a b l : Nat, addrNext a b l m < 65536 := fun a b l => by
    show Int.toNat (_ % 65536) < 65536
    omega
  have ha := (e.a[r]).isLt
  unfold Engine.dataAddr
  split
  · exact ha
  · exact ha
  · exact hnext _ _ _

section
variable {k : Fin 16} {s : State} {w a n : Nat}

/-- An aligned format L access to intact words. -/
structure Access (k : Fin 16) (s : State) (w a n : Nat) : Prop where
  legal : okL w = true
  addr : ((s.eg k).lAddr w).1 = a
  aligned : a % n = 0
  size : szOf w = n
  intact : AccessIntact k s (w / 2 ^ 48 % 2) a n

theorem szOf_cases (w : Nat) : AccessSize (szOf w) := by
  have h : w / 2 ^ 49 % 2 ^ 2 < 4 := Nat.mod_lt _ (by decide)
  unfold szOf fld
  generalize w / 2 ^ 49 % 2 ^ 2 = i at h
  match i, h with
  | 0, _ => exact .inl rfl
  | 1, _ => exact .inr (.inl rfl)
  | 2, _ => exact .inr (.inr rfl)
  | 3, _ => exact .inl rfl

theorem Access.sized (h : Access k s w a n) : AccessSize n := h.size ▸ szOf_cases w
theorem Access.lt (h : Access k s w a n) : a < 65536 := h.addr ▸ dataAddr_lt _ _ _ _
theorem Access.mem (_ : Access k s w a n) : w / 2 ^ 48 % 2 < 2 := Nat.mod_lt _ (by decide)

/-! ### LD -/

/-- An engine after a load of `n` halfwords of value `v` (R157, R188). -/
def Engine.loaded (e : Engine) (w n v : Nat) : Engine :=
  if bit w 51 then { e.lPost w with v := e.v.set (gdOf w) (putLanes (e.v[gdOf w]) n v) }
  else { e.lPost w with g := e.g.set (gdOf w) (if n = 1 then (BitVec.ofNat 16 v).signExtend 32 else BitVec.ofNat 32 v) }

/-- An access loads the bytes that stand at its address. -/
theorem ld_spec (h : Claim.Issues 0x40 k s w) (hacc : Access k s w a n) (hg : w.testBit 51 = false → n ≠ 8) :
    ∃ bs, getBytes s.mem (engMem k (w / 2 ^ 48 % 2) + 2 * a) (2 * n) = some bs
      ∧ Claim.Became (s.withEng k (Claim.went ((s.eg k).loaded w n (ofBytesLE bs)))) (s.issue k 0x40 bodyLd) := by
  obtain ⟨bs, hbs, hread⟩ := readData_spec hacc.sized hacc.aligned hacc.lt hacc.mem (issues_noHeld h) hacc.intact
  refine ⟨bs, hbs, ?_⟩
  have hb := became_next (u := s.withEng k ((s.eg k).loaded w n (ofBytesLE bs))) (body := bodyLd) h fun x => by
    obtain ⟨z, hz⟩ := hread x
    refine ⟨z, ?_⟩
    have hsize : (!bit w 51 && n == 8) = false := by
      rw [Bool.and_eq_false_iff, Bool.not_eq_false', beq_eq_false_iff_ne, or_iff_not_imp_left]
      exact fun hb => hg (Bool.eq_false_iff.2 hb)
    have hmem : fld w 48 1 = w / 2 ^ 48 % 2 := rfl
    simp only [bodyLd, noted_eg, hacc.addr, hacc.size, hmem, hz, hacc.legal, hsize, hacc.aligned, Bool.not_true, Bool.or_self,
      Bool.false_eq_true, if_false, ne_eq, not_true_eq_false, setEng_eq, noted_withEng]
    rfl
  rwa [withEng_withEng, withEng_eg] at hb

theorem ldG_holds : Claim.iLdG := by
  rintro k s w a n ⟨hissue, hok, hg, h8, haddr, hal, hn, -, h1, h2⟩
  have hacc : Access k s w a n := ⟨hok, haddr.symm, hal, hn.symm, h1, h2⟩
  obtain ⟨bs, hbs, hb⟩ := ld_spec hissue hacc fun _ => h8
  have hlane := lanesAt_get hbs
  refine ⟨_, rfl, ?_⟩
  have hval : (if n = 1 then (BitVec.ofNat 16 (ofBytesLE bs)).signExtend 32 else BitVec.ofNat 32 (ofBytesLE bs)) =
      if n = 1 then (Claim.lanesAt k s (w / 2 ^ 48 % 2) a)[(0 : Fin 8)].signExtend 32
      else (Claim.lanesAt k s (w / 2 ^ 48 % 2) a)[(1 : Fin 8)] ++ (Claim.lanesAt k s (w / 2 ^ 48 % 2) a)[(0 : Fin 8)] := by
    rcases hacc.sized with rfl | rfl | rfl
    · rw [if_pos rfl, if_pos rfl, hlane 0 (by decide)]
      simp
    · rw [if_neg (by decide), if_neg (by decide), hlane 0 (by decide), hlane 1 (by decide)]
      apply BitVec.eq_of_toNat_eq
      rw [BitVec.toNat_append, BitVec.toNat_ofNat, BitVec.toNat_ofNat, BitVec.toNat_ofNat,
        ← Nat.shiftLeft_add_eq_or_of_lt (Nat.mod_lt _ (by decide)), Nat.shiftLeft_eq]
      norm_num
      omega
    · exact absurd rfl h8
  rw [Engine.loaded, show bit w 51 = false from hg, if_neg Bool.false_ne_true, hval] at hb
  exact hb

theorem ldV_holds : Claim.iLdV := by
  rintro k s w a n ⟨hissue, hok, hv, haddr, hal, hn, -, h1, h2⟩
  have hacc : Access k s w a n := ⟨hok, haddr.symm, hal, hn.symm, h1, h2⟩
  obtain ⟨bs, hbs, hb⟩ := ld_spec hissue hacc fun hg => absurd hv (Bool.eq_false_iff.1 hg)
  refine ⟨_, rfl, ?_⟩
  have hlanes : putLanes ((s.eg k).v[gdOf w]) n (ofBytesLE bs) = Vector.ofFn fun i : Fin 8 =>
      if i.val < n then (Claim.lanesAt k s (w / 2 ^ 48 % 2) a)[i] else ((s.eg k).v[gdOf w])[i] := by
    unfold putLanes
    congr 1
    funext i
    split
    next hi => rw [lanesAt_get hbs i hi]
    next => rfl
  rw [Engine.loaded, show bit w 51 = true from hv, if_pos rfl, hlanes] at hb
  exact hb

/-- An instruction that a misaligned data address traps (R155, R172). -/
theorem issue_misaligned {op m : Nat} {body : Fin 16 → State → Nat → Issue} (h : Claim.Issues op k s w) (hdma : DmaIdle k s)
    (hm : m < 4) (hb : ∀ x, ∃ z, body k (s.noted x) w = .trap trMisalign (some (a, m)) (s.noted z)) :
    Trapped 2 k s (s.issue k op body)
      ∧ (s.issue k op body).get (ENG_DEk_TRAP_ADDR_ADDR k) = a % 2 ^ (ENG_DEk_TRAP_ADDR_ADDR k).w
      ∧ (s.issue k op body).get (ENG_DEk_TRAP_ADDR_MEM k) = m := by
  obtain ⟨htrap, haddr⟩ := issue_trapped h hdma (by decide) hb
  obtain ⟨ha, hmem⟩ := haddr a m rfl
  exact ⟨htrap, ha, hmem.trans (Nat.mod_eq_of_lt hm)⟩

theorem ldMisaligned_holds : Claim.iLdMisaligned := by
  rintro k s w a n ⟨hissue, hok, hg, -, hn, haddr, hal, hdma0, hdma1⟩
  have hsz : szOf w = 2 := by
    rw [szOf, show fld w 49 2 = 1 from hn]
    rfl
  have hmem : w / 2 ^ 48 % 2 < 4 := by omega
  have htrap := issue_misaligned (a := a) (m := w / 2 ^ 48 % 2) (body := bodyLd) hissue ⟨hdma0, hdma1⟩ hmem fun x =>
    ⟨x, by simp [bodyLd, ← haddr, hsz, hok, hal, fld]⟩
  exact ⟨_, rfl, by simpa only [Trapped, and_assoc] using htrap⟩

/-! ### ST and SST -/

/-- An aligned store of intact words stores its bytes. -/
theorem writeData_stored (hacc : Access k s w a n) (hheld : NoHeld s) (v : Nat) :
    Stored (engMem k (w / 2 ^ 48 % 2) + 2 * a) (bytesLE (2 * n) v) s (s.writeData k (w / 2 ^ 48 % 2) a n v) := by
  have hlt := hacc.lt
  have hal := hacc.aligned
  obtain ⟨hint, -⟩ := hacc.intact
  unfold State.writeData
  split
  next h8 =>
    subst h8
    exact writeRange_stored s _ _
  next h8 =>
    have hbase : engMem k (w / 2 ^ 48 % 2) % 8 = 0 := by
      rw [engMem, engBase]
      omega
    obtain ⟨o, hr⟩ := regionOf_data (k := k) hacc.mem (off := 2 * a / 8 * 8) (by omega)
    have hw : engMem k (w / 2 ^ 48 % 2) + 2 * a / 8 * 8 = (engMem k (w / 2 ^ 48 % 2) + 2 * a) / 8 * 8 := by omega
    rw [hw] at hr
    refine writeNarrow_stored _ hr hheld hint ?_
    rcases hacc.sized with rfl | rfl | rfl <;> omega

/-- What an access that stores a value leaves. -/
theorem store_spec {op v : Nat} {body : Fin 16 → State → Nat → Issue} (h : Claim.Issues op k s w) (hacc : Access k s w a n)
    (hb : ∀ x, body k (s.noted x) w = storeL k (s.noted x) w true v) :
    s.issue k op body = butNotes { (s.withEng k (Claim.went ((s.eg k).lPost w))) with
        ecc := (s.issue k op body).ecc, mem := (s.issue k op body).mem } (s.issue k op body)
      ∧ getBytes (s.issue k op body).mem (engMem k (w / 2 ^ 48 % 2) + 2 * a) (2 * n) = some (bytesLE (2 * n) v)
      ∧ MemKept (engMem k (w / 2 ^ 48 % 2) + 2 * a) (engMem k (w / 2 ^ 48 % 2) + 2 * a + 2 * n) s (s.issue k op body)
      ∧ SameRegs rptF s (s.issue k op body) := by
  obtain ⟨x, hx⟩ := issue_eq h body
  have haccx : Access k (s.noted x) w a n := ⟨hacc.legal, hacc.addr, hacc.aligned, hacc.size, hacc.intact⟩
  have hst := writeData_stored haccx (issues_noHeld h) v
  have hmem : fld w 48 1 = w / 2 ^ 48 % 2 := rfl
  have hissue : s.issue k op body = ((s.noted x).writeData k (w / 2 ^ 48 % 2) a n v).withEng k (Claim.went ((s.eg k).lPost w)) := by
    have hstore : storeL k (s.noted x) w true v =
        .next (((s.noted x).writeData k (w / 2 ^ 48 % 2) a n v).withEng k ((s.eg k).lPost w)) := by
      simp only [storeL, noted_eg, hacc.addr, hacc.size, hmem, hacc.legal, hacc.aligned, setEng_eq, hst.eg, Bool.not_true, Bool.or_self,
        Bool.false_eq_true, if_false, ne_eq, not_true_eq_false]
    rw [hx, hb, hstore, state_next, withEng_withEng, withEng_eg]
  rw [hissue]
  generalize (s.noted x).writeData k (w / 2 ^ 48 % 2) a n v = u at hst ⊢
  have hlen : (bytesLE (2 * n) v).length = 2 * n := length_bytesLE _ _
  refine ⟨?_, ?_, ?_, hst.regs.of_regs rfl⟩
  · obtain ⟨g, m, c, rfl⟩ : ∃ g m c, u = { s.noted x with regs := g, mem := m, ecc := c } := ⟨_, _, _, hst.rest⟩
    rfl
  · exact (congrArg (getBytes u.mem _) hlen.symm).trans hst.getBytes
  · exact fun j hj => hst.memKept j (hlen.symm ▸ hj)

theorem stG_holds : Claim.iStG := by
  rintro k s w a n ⟨hissue, hok, hg, h8, haddr, hal, hn, -, h1, h2⟩
  have hacc : Access k s w a n := ⟨hok, haddr.symm, hal, hn.symm, h1, h2⟩
  exact ⟨_, rfl, store_spec (body := bodySt) hissue hacc fun x => by
    simp [bodySt, show bit w 51 = false from hg, hacc.size, bne_iff_ne.2 h8, State.gv]⟩

theorem stV_holds : Claim.iStV := by
  rintro k s w a n ⟨hissue, hok, hv, haddr, hal, hn, -, h1, h2⟩
  have hacc : Access k s w a n := ⟨hok, haddr.symm, hal, hn.symm, h1, h2⟩
  have hn8 : n ≤ 8 := by
    rcases hacc.sized with rfl | rfl | rfl <;> omega
  obtain ⟨heq, hbytes, hkept, hregs⟩ := store_spec (body := bodySt) (v := ofLanes ((s.eg k).v[gdOf w])) hissue hacc fun x => by
    simp [bodySt, show bit w 51 = true from hv]
  rw [bytesLE_ofLanes _ hn8] at hbytes
  exact ⟨_, rfl, heq, hbytes, hkept, hregs⟩

/-- The value that SST stores (R162, R188). -/
def sstValue (e : Engine) (w n : Nat) : Nat :=
  if n = 8 then ofLanes (Vector.ofFn fun i => BitVec.ofInt 16 (Claim.satValue e (Fin.ofNat 4 (w / 2 ^ 52 % 4)) i (w / 2 ^ 27 % 32) 32767))
  else (BitVec.ofInt (16 * n) (Claim.satValue e (Fin.ofNat 4 (w / 2 ^ 52 % 4)) (Fin.ofNat 8 (w / 2 ^ 32 % 8)) (w / 2 ^ 27 % 32)
    (if n = 1 then 32767 else 2 ^ 31 - 1))).toNat

theorem bodySst_eq (hg : w.testBit 51 = false) (hn : szOf w = n) :
    bodySst k s w = storeL k s w true (sstValue (s.eg k) w n) := by
  have hsat : ∀ a i q, (s.eg k).satLane a i q 32767 = Claim.satValue (s.eg k) a i q 32767 := fun a i q => satLane_eq _ _ _ _ (by decide)
  have hsat2 : ∀ a i q, (s.eg k).satLane a i q (2 ^ 31 - 1) = Claim.satValue (s.eg k) a i q (2 ^ 31 - 1) := fun a i q =>
    satLane_eq _ _ _ _ (by decide)
  have hsz : AccessSize n := hn ▸ szOf_cases w
  simp only [bodySst, show bit w 51 = false from hg, Bool.not_false, hn, hsat, hsat2, bitsOf_eq]
  rcases hsz with rfl | rfl | rfl <;> rfl

theorem bytesLE_sstValue (e : Engine) (w n : Nat) : bytesLE (2 * n) (sstValue e w n) =
    if n = 8 then (List.finRange 8).flatMap fun i =>
      bytesLE 2 (BitVec.ofInt 16 (Claim.satValue e (Fin.ofNat 4 (w / 2 ^ 52 % 4)) i (w / 2 ^ 27 % 32) 32767)).toNat
    else bytesLE (2 * n) (BitVec.ofInt (16 * n) (Claim.satValue e (Fin.ofNat 4 (w / 2 ^ 52 % 4)) (Fin.ofNat 8 (w / 2 ^ 32 % 8))
      (w / 2 ^ 27 % 32) (if n = 1 then 32767 else 2 ^ 31 - 1))).toNat := by
  unfold sstValue
  split
  next h8 =>
    subst h8
    rw [bytesLE_ofLanes _ (le_refl 8), List.take_of_length_le (by simp), ← map_finRange_lanes, lanesBytes, List.flatMap_map]
    simp only [Fin.getElem_fin, Vector.getElem_ofFn]
  next => rfl

theorem sst_holds : Claim.iSst := by
  rintro k s w a n ⟨hissue, hok, hg, -, haddr, hal, hn, -, h1, h2⟩
  have hacc : Access k s w a n := ⟨hok, haddr.symm, hal, hn.symm, h1, h2⟩
  obtain ⟨heq, hbytes, hkept, hregs⟩ := store_spec (body := bodySst) (v := sstValue (s.eg k) w n) hissue hacc fun _ =>
    bodySst_eq hg hacc.size
  rw [bytesLE_sstValue] at hbytes
  exact ⟨_, rfl, heq, hbytes, hkept, hregs⟩
end

end Sys2Proof.Machine
end

section
/-! SUPPORT. EngineLoadsStores, clause by clause. -/

namespace Sys2Proof.Proofs
open Sys2Proof.Machine

/-- Settles O23: a load reads and a store replaces exactly the bytes at its address, because the words it touches are intact and no
half is held for them. -/
theorem engineLoadsStores : Obligations.EngineLoadsStores :=
  ⟨ldG_holds, ldV_holds, stG_holds, stV_holds, sst_holds, ldMisaligned_holds⟩

end Sys2Proof.Proofs
end

section
/-! SUPPORT. A format V instruction: its operation and its two parallel moves (R183, R184). -/

namespace Sys2Proof.Machine
open Reg

section
variable {k : Fin 16} {s : State} {mem : Nat} {m : Option PMove}

theorem eq_ok_of_toOption {α : Type} {x : Except Unit α} {a : α} (h : x.toOption = some a) : x = .ok a := by
  cases x with
  | error _ => cases h
  | ok b => cases h; rfl

/-! ### Loads -/

/-- The lanes that an error-free move loads. -/
def loadOf (k : Fin 16) (s : State) (mem : Nat) : Option PMove → Option (Lanes × Bool)
  | some p => if p.store then none else some (Claim.lanesAt k s mem (p.addr (s.eg k)), false)
  | none => none

/-- The lanes of a value whose bytes stand at an address are those that stand there. -/
theorem lanesOf_get {a : Nat} {bs : List Byte} (h : getBytes s.mem (engMem k mem + 2 * a) (2 * 8) = some bs) :
    lanesOf (ofBytesLE bs) = Claim.lanesAt k s mem a :=
  Vector.ext fun i hi => by
    have hlane := lanesAt_get h ⟨i, hi⟩ hi
    rw [Fin.getElem_fin] at hlane
    rw [hlane, lanesOf, Vector.getElem_ofFn]

theorem moveOk_aligned {p : PMove} (h : Claim.moveOk k s mem (some p) = true) : p.addr (s.eg k) % 8 = 0 :=
  beq_iff_eq.1 ((Bool.and_eq_true _ _).mp h).1

theorem moveOk_intact {p : PMove} (h : Claim.moveOk k s mem (some p) = true) (hload : ¬ p.store = true) :
    AccessIntact k s mem (p.addr (s.eg k)) 8 := by
  have hal := moveOk_aligned h
  have hbase : engMem k mem % 8 = 0 := by
    rw [engMem, engBase]
    omega
  have h2 := ((Bool.or_eq_true _ _).mp ((Bool.and_eq_true _ _).mp h).2).resolve_left hload
  rw [Bool.and_eq_true, decide_eq_true_eq, decide_eq_true_eq] at h2
  unfold AccessIntact
  rwa [show (engMem k mem + 2 * p.addr (s.eg k)) / 8 * 8 = engMem k mem + 2 * p.addr (s.eg k) by omega,
    show (engMem k mem + 2 * (p.addr (s.eg k) + 8 - 1)) / 8 * 8 = engMem k mem + 2 * p.addr (s.eg k) + 8 by omega]

/-- A move on intact words loads the lanes that stand there, and a store loads none. -/
theorem moveLoad_spec (hmem : mem < 2) (hheld : NoHeld s) (h : Claim.moveOk k s mem m = true) (y : KMap Nat) :
    ∃ z, (s.noted y).moveLoad k (s.eg k) mem m = (loadOf k s mem m, s.noted z) := by
  cases m with
  | none => exact ⟨y, rfl⟩
  | some p =>
    by_cases hst : p.store = true
    · exact ⟨y, by rw [State.moveLoad, if_pos hst, loadOf, if_pos hst]⟩
    · obtain ⟨bs, hbs, hread⟩ := readData_spec (.inr (.inr rfl)) (moveOk_aligned h) (dataAddr_lt _ _ _ _) hmem hheld
        (moveOk_intact h hst)
      obtain ⟨z, hz⟩ := hread y
      exact ⟨z, by rw [State.moveLoad, if_neg hst, loadOf, if_neg hst, hz, ← lanesOf_get hbs]⟩

theorem moveUe_loadOf : moveUe (loadOf k s mem m) = false := by
  cases m with
  | none => rfl
  | some p =>
    by_cases hst : p.store = true
    · rw [loadOf, if_pos hst, moveUe]
    · rw [loadOf, if_neg hst, moveUe]
theorem moveMis_of_moveOk (h : Claim.moveOk k s mem m = true) : moveMis (s.eg k) m = false := by
  cases m with
  | none => rfl
  | some p => exact bne_eq_false_iff_eq.2 (moveOk_aligned h)
theorem moveRegs_loadOf (e : Engine) : e.moveRegs (s.eg k) m (loadOf k s mem m) = Claim.moved k s mem m e := by
  cases m with
  | none => rfl
  | some p =>
    by_cases hst : p.store = true
    · rw [loadOf, if_pos hst, Claim.moved, if_pos hst, Engine.moveRegs]
    · rw [loadOf, if_neg hst, Claim.moved, if_neg hst, Engine.moveRegs]

/-! ### Stores -/

/-- A move's store replaces its bytes and frees entries of the repeat table. -/
theorem moveStore_freed (u : State) : RptFreed
    { u with mem := Claim.storedBy k s mem m u.mem, ecc := (u.moveStore k (s.eg k) mem m).ecc } (u.moveStore k (s.eg k) mem m) := by
  cases m with
  | none => exact .refl u
  | some p =>
    by_cases hst : p.store = true
    · rw [State.moveStore, if_pos hst, Claim.storedBy, if_pos hst, State.writeData, if_pos rfl]
      obtain ⟨hregs, heq⟩ := writeRange_freed u (engMem k mem + 2 * p.addr (s.eg k)) (bytesLE 16 (ofLanes ((s.eg k).v[p.v])))
      exact ⟨hregs, by rw [heq]⟩
    · rw [State.moveStore, if_neg hst, Claim.storedBy, if_neg hst]
      exact .refl u
end

/-! ### The instruction -/

section
variable {op w : Nat} {k : Fin 16} {s : State} {mx my : Option PMove} {ok : Nat → Bool} {f : Nat → Engine → Engine}

/-- A format V word of legal form whose moves are aligned, and whose loads are error-free, issues its operation and its moves. -/
theorem vector_eq (h : Claim.Vector' op k s w mx my) (hok : ok w = true) (x : KMap Nat) :
    ∃ z, vector ok f k (s.noted x) w = .next ((((s.noted z).moveStore k (s.eg k) 0 mx).moveStore k (s.eg k) 1 my).withEng k
      (Claim.moved k s 1 my (Claim.moved k s 0 mx (f w (s.eg k))))) := by
  obtain ⟨hissue, h38, hmx, hmy, hox, hoy⟩ := h
  have hheld := issues_noHeld hissue
  obtain ⟨y, hy⟩ := moveLoad_spec (by decide) hheld hox x
  obtain ⟨z, hz⟩ := moveLoad_spec (by decide) hheld hoy y
  refine ⟨z, ?_⟩
  simp only [vector, eq_ok_of_toOption hmx, eq_ok_of_toOption hmy, noted_eg, hok, show bit w 38 = false from h38,
    moveMis_of_moveOk hox, moveMis_of_moveOk hoy, hy, hz, moveUe_loadOf, moveRegs_loadOf, setEng_eq, Bool.not_true, Bool.or_self,
    Bool.false_eq_true, if_false]

/-- What a format V instruction leaves, by what its operation makes of the engine (R184). -/
theorem vector_spec {e : Engine} (h : Claim.Vector' op k s w mx my) (hok : ok w = true) (he : f w (s.eg k) = e) :
    s.issue k op (vector ok f) = Claim.afterVector k s mx my e (s.issue k op (vector ok f))
      ∧ SameRegs rptF s (s.issue k op (vector ok f)) := by
  obtain ⟨x, hx⟩ := issue_eq h.1 (vector ok f)
  obtain ⟨z, hz⟩ := vector_eq h hok x
  rw [hx, hz, he, state_next, withEng_withEng, withEng_eg]
  obtain ⟨hregx, hstx⟩ := moveStore_freed (k := k) (s := s) (mem := 0) (m := mx) (s.noted z)
  generalize (s.noted z).moveStore k (s.eg k) 0 mx = u at hregx hstx ⊢
  obtain ⟨hregy, hsty⟩ := moveStore_freed (k := k) (s := s) (mem := 1) (m := my) u
  generalize u.moveStore k (s.eg k) 1 my = t at hregy hsty ⊢
  refine ⟨?_, fun g hg => (hregy g hg).trans (hregx g hg)⟩
  obtain ⟨g, c, rfl⟩ : ∃ g c, u = { s.noted z with mem := Claim.storedBy k s 0 mx s.mem, ecc := c, regs := g } := ⟨_, _, hstx⟩
  obtain ⟨g', c', rfl⟩ : ∃ g' c', t = { s.noted z with
      mem := Claim.storedBy k s 1 my (Claim.storedBy k s 0 mx s.mem), ecc := c', regs := g' } := ⟨_, _, hsty⟩
  rfl

theorem moveMisaligned_holds : Claim.iMoveMisaligned := by
  rintro k s w mx my ⟨hissue, h38, hmx, hmy, hmis, hdma0, hdma1⟩
  have htrap := issue_misaligned (a := moveAddr (s.eg k) mx) (m := 0) (body := bodyVmove) hissue ⟨hdma0, hdma1⟩ (by decide) fun x =>
    ⟨x, by simp [bodyVmove, anyV, vector, eq_ok_of_toOption hmx, eq_ok_of_toOption hmy, show bit w 38 = false from h38, hmis]⟩
  exact ⟨_, rfl, by simpa only [Trapped, and_assoc] using htrap⟩
end

end Sys2Proof.Machine
end

section
/-! SUPPORT. The accumulator instructions: the clauses of EngineAccumulators (R161, R187). -/

namespace Sys2Proof.Machine

theorem accV_of (w : Nat) (h : w / 2 ^ 54 % 4 = 0) : accV w = true := beq_iff_eq.2 h

/-- Adding an exact value to an accumulator lane, part by part (R161). -/
theorem accAdd_eq (x : BitVec 40) (ov ovs : Bool) (q : Int) : accAdd x ov ovs q =
    (BitVec.ofInt 40 (x.toInt + q), ov || decide (2 ^ 39 - 1 < x.toInt + q ∨ x.toInt + q < -(2 ^ 39)),
      if decide (2 ^ 39 - 1 < x.toInt + q ∨ x.toInt + q < -(2 ^ 39)) then decide (x.toInt + q < 0) else ovs) := by
  unfold accAdd
  generalize x.toInt + q = y
  by_cases h : 2 ^ 39 - 1 < y ∨ y < -(2 ^ 39)
  · rw [if_pos (by omega), decide_eq_true h, Bool.or_true, if_pos rfl]
  · rw [if_neg (by omega), decide_eq_false h, Bool.or_false, if_neg Bool.false_ne_true]

/-- A product added to each lane of an accumulator (R161). -/
theorem macLanes_eq (c : Int) (w : Nat) (e : Engine) (p : Fin 8 → Int)
    (hp : ∀ i : Fin 8, c * ((e.v[gsOf w])[i]).toInt * ((e.v[gtOf w])[i]).toInt = p i) :
    macLanes c w e = Claim.accumulated (Fin.ofNat 4 (w / 2 ^ 52 % 4)) p e := by
  simp only [macLanes, hp, accAdd_eq]
  rfl

theorem macop_holds : Claim.iMacop := fun _ _ _ _ _ h =>
  ⟨_, rfl, vector_spec h.1 (accV_of _ h.2) (macLanes_eq _ _ _ _ fun _ => by ring)⟩
theorem msu_holds : Claim.iMsu := fun _ _ _ _ _ h =>
  ⟨_, rfl, vector_spec h.1 (accV_of _ h.2) (macLanes_eq _ _ _ _ fun _ => by ring)⟩
theorem macf_holds : Claim.iMacf := fun _ _ _ _ _ h =>
  ⟨_, rfl, vector_spec h.1 (accV_of _ h.2) (macLanes_eq _ _ _ _ fun _ => by ring)⟩
theorem msuf_holds : Claim.iMsuf := fun _ _ _ _ _ h =>
  ⟨_, rfl, vector_spec h.1 (accV_of _ h.2) (macLanes_eq _ _ _ _ fun _ => by ring)⟩

theorem mpy_holds : Claim.iMpy := fun _ _ _ _ _ h => ⟨_, rfl, vector_spec h.1 (accV_of _ h.2) rfl⟩
theorem clra_holds : Claim.iClra := fun _ _ _ _ _ h => ⟨_, rfl, vector_spec h.1 (accV_of _ h.2) rfl⟩
theorem mpyf_holds : Claim.iMpyf := fun _ _ _ _ _ h => by
  refine ⟨_, rfl, vector_spec h.1 (accV_of _ h.2) ?_⟩
  simp only [Int.mul_assoc]
  rfl
theorem lda_holds : Claim.iLda := fun _ _ w _ _ h =>
  have hok : (accV w && qMax 23 w) = true := by
    rw [accV_of _ h.2.1, Bool.true_and]
    exact decide_eq_true h.2.2
  ⟨_, rfl, vector_spec h.1 hok rfl⟩

end Sys2Proof.Machine
end

section
/-! SUPPORT. EngineAccumulators, clause by clause. -/

namespace Sys2Proof.Proofs
open Sys2Proof.Machine

/-- Settles O24: each instruction is a format V instruction whose operation adds to, or writes, one accumulator. -/
theorem engineAccumulators : Obligations.EngineAccumulators :=
  ⟨macop_holds, msu_holds, macf_holds, msuf_holds, mpy_holds, mpyf_holds, clra_holds, lda_holds⟩

end Sys2Proof.Proofs
end

section
/-! SUPPORT. The vector instructions: the clauses of EngineVector (R162, R187). -/

namespace Sys2Proof.Machine

/-! ### Lane operations -/

theorem vadd_holds : Claim.iVadd := fun _ _ _ _ _ h => ⟨_, rfl, vector_spec h rfl rfl⟩
theorem vsub_holds : Claim.iVsub := fun _ _ _ _ _ h => ⟨_, rfl, vector_spec h rfl rfl⟩
theorem vadds_holds : Claim.iVadds := fun _ _ _ _ _ h => ⟨_, rfl, vector_spec h rfl rfl⟩
theorem vsubs_holds : Claim.iVsubs := fun _ _ _ _ _ h => ⟨_, rfl, vector_spec h rfl rfl⟩
theorem vand_holds : Claim.iVand := fun _ _ _ _ _ h => ⟨_, rfl, vector_spec h rfl rfl⟩
theorem vor_holds : Claim.iVor := fun _ _ _ _ _ h => ⟨_, rfl, vector_spec h rfl rfl⟩
theorem vxor_holds : Claim.iVxor := fun _ _ _ _ _ h => ⟨_, rfl, vector_spec h rfl rfl⟩
theorem vsra_holds : Claim.iVsra := fun _ _ _ _ _ h => ⟨_, rfl, vector_spec h.1 (decide_eq_true h.2) rfl⟩

/-- VCMPLT compares the lanes as signed numbers. -/
theorem vcmplt_holds : Claim.iVcmplt := fun _ _ _ _ _ h => by
  refine ⟨_, rfl, vector_spec h rfl ?_⟩
  simp only [lanewise, BitVec.slt_iff_toInt_lt]
  rfl

/-! ### Lanes of two registers -/

theorem pairLane_eq (e : Engine) (w : Nat) {j : Nat} (hj : j < 16) :
    pairLane e w j = Claim.two (e.v[gsOf w]) (e.v[gtOf w]) j := by
  have hlen : ∀ v : Lanes, v.toList.length = 8 := fun v => Vector.length_toList
  unfold pairLane Claim.two
  split
  next h =>
    rw [List.getD_eq_getElem?_getD, List.getElem?_append_left (by rw [hlen]; exact h)]
    simp [h, Nat.mod_eq_of_lt h]
  next h =>
    have h8 : j - 8 < 8 := by omega
    have hmod : j % 8 = j - 8 := by omega
    rw [List.getD_eq_getElem?_getD, List.getElem?_append_right (by rw [hlen]; omega), hlen]
    simp [h8, hmod]

/-- An instruction that takes lanes of two registers writes vd. -/
theorem pairLanes_eq (e : Engine) (w : Nat) (c : Fin 8 → Nat) (hc : ∀ i, c i < 16) :
    e.setV (gdOf w) (Vector.ofFn fun i => pairLane e w (c i)) =
      { e with v := e.v.set (gdOf w) (Vector.ofFn fun i => Claim.two (e.v[gsOf w]) (e.v[gtOf w]) (c i)) } := by
  rw [show (fun i => pairLane e w (c i)) = fun i => Claim.two (e.v[gsOf w]) (e.v[gtOf w]) (c i) from
    funext fun i => pairLane_eq e w (hc i)]
  rfl

theorem valign_holds : Claim.iValign := fun _ _ w _ _ h =>
  ⟨_, rfl, vector_spec h.1 (decide_eq_true h.2) (pairLanes_eq _ _ (fun i => i.val + w / 2 ^ 39 % 32) fun i => by omega)⟩
theorem veven_holds : Claim.iVeven := fun _ _ _ _ _ h =>
  ⟨_, rfl, vector_spec h rfl (pairLanes_eq _ _ (fun i => 2 * i.val) fun i => by omega)⟩
theorem vodd_holds : Claim.iVodd := fun _ _ _ _ _ h =>
  ⟨_, rfl, vector_spec h rfl (pairLanes_eq _ _ (fun i => 2 * i.val + 1) fun i => by omega)⟩

/-! ### Lanes and g registers, and SATV -/

theorem vsplat_holds : Claim.iVsplat := fun _ _ _ _ _ h => ⟨_, rfl, vector_spec h rfl rfl⟩
theorem vext_holds : Claim.iVext := fun _ _ _ _ _ h => ⟨_, rfl, vector_spec h.1 (decide_eq_true h.2) rfl⟩
theorem vins_holds : Claim.iVins := fun _ _ _ _ _ h => ⟨_, rfl, vector_spec h.1 (decide_eq_true h.2) rfl⟩
theorem vmove_holds : Claim.iVmove := fun _ _ _ _ _ h => ⟨_, rfl, vector_spec h rfl rfl⟩

/-- SATV writes the saturating store values of an accumulator (R162). -/
theorem satv_holds : Claim.iSatv := fun k s w _ _ h => by
  have hsat : ∀ i, (s.eg k).satLane (Fin.ofNat 4 (w / 2 ^ 48 % 4)) i (w / 2 ^ 39 % 32) 32767 =
      Claim.satValue (s.eg k) (Fin.ofNat 4 (w / 2 ^ 48 % 4)) i (w / 2 ^ 39 % 32) 32767 := fun i => satLane_eq _ _ _ _ (by decide)
  refine ⟨_, rfl, vector_spec h rfl ?_⟩
  simp only [← hsat]
  rfl

end Sys2Proof.Machine
end

section
/-! SUPPORT. EngineVector, clause by clause. -/

namespace Sys2Proof.Proofs
open Sys2Proof.Machine

/-- Settles O25: each instruction is a format V instruction whose operation writes its destination; one with a misaligned move traps
before either. -/
theorem engineVector : Obligations.EngineVector :=
  ⟨vadd_holds, vsub_holds, vadds_holds, vsubs_holds, vand_holds, vor_holds, vxor_holds, vcmplt_holds, vsra_holds, valign_holds,
    veven_holds, vodd_holds, vsplat_holds, vext_holds, vins_holds, vmove_holds, satv_holds, moveMisaligned_holds⟩

end Sys2Proof.Proofs
end

section
/-! SUPPORT. The counterexample to the clause of EnginePorts on LRD into g registers. -/

namespace Sys2Proof.Proofs
open Sys2Proof.Machine Sys2Proof.Machine.Reg

/-- A half whose number places it at the window of the engine block, 0x40050000, and not in a landing buffer. -/
def windowHalf : Half := ⟨0x7A8A, 0, 0⟩
/-- LRD into g0 and g1. -/
def lrdWord : Nat := 0x5200000000000000

/-- Engine 0, fed by fibre A, runs with an LRD as its first instruction and holds that half. The eight bytes that the model keeps at
the half's address are 0; the registers there read 1 each: AUTO_SPAN of ENG_CTRL, and fibre A for engine 0 in ENG_ASSIGN0. -/
def halfInWindow : State :=
  let s := withRegs [(SYS_CLK_STATUS_FAB_RUN, 1), (ENG_DEk_STAT_STATE 0, 1), (ENG_CTRL_AUTO_SPAN, 1), (ENG_ASSIGN_SRC 0, 1)]
  { s.setLand 0 fun l => { l with taken := [windowHalf] } with
    mem := putBytes (landHalf 0 windowHalf.no) (bytesLE 8 0) (putBytes (engMem 0 2) (bytesLE 8 lrdWord) []) }

/-- The counterexample meets the hypotheses of the clause. -/
theorem halfInWindow_pre : Claim.preILrdG 0 halfInWindow lrdWord windowHalf [] 0 := by decide +kernel

/-- The model reads the register, and the clause says the byte that stands in memory. -/
theorem halfInWindow_read : ((halfInWindow.issue 0 0x52 bodyLrd).eg 0).g[(0 : Fin 16)] = 1 := by decide +kernel
theorem halfInWindow_bytes : getBytes halfInWindow.mem (landHalf 0 windowHalf.no + 0) 4 = some (bytesLE 4 0) := by decide +kernel

/-- The clause on LRD into g registers fails: g0 is 1, not 0. -/
theorem not_lrdG : ¬ Claim.iLrdG := by
  intro h
  obtain ⟨t, hexec, hbecame⟩ := h 0 halfInWindow lrdWord windowHalf [] 0 halfInWindow_pre
  have ht : halfInWindow.issue 0 0x52 bodyLrd = t := Host.Outcome.next.inj hexec
  have hg : (t.eg 0).g[(0 : Fin 16)] =
      BitVec.ofNat 32 (ofBytesLE ((getBytes halfInWindow.mem (landHalf 0 windowHalf.no + 0) 4).getD [])) :=
    (congrArg (fun x : State => (x.eg 0).g[(0 : Fin 16)]) hbecame).trans (by simp [State.eg, gdOf, fld, lrdWord])
  rw [halfInWindow_bytes, ← ht, halfInWindow_read] at hg
  exact absurd hg (by decide)

/-- Refutes O22: the clause on LRD into g registers takes every half number for one of the two halves of a landing buffer. The number
of a taken half is any natural number in the model, and a half whose address lies in a register window is read from the registers
there, not from the bytes of memory that the clause names. -/
theorem not_enginePorts : ¬ Obligations.EnginePorts := by
  unfold Obligations.EnginePorts
  rintro ⟨-, -, -, -, hlrd, -⟩
  exact not_lrdG hlrd

end Sys2Proof.Proofs
end

section
/-! SUPPORT. The scalar instructions of an engine: the clauses of EngineScalar on a destination in g, the special registers and the
flags of an accumulator (R185, R186). -/

namespace Sys2Proof.Machine
open Reg

section
variable {op w : Nat} {k : Fin 16} {s : State} {body : Fin 16 → State → Nat → Issue}

/-! ### A destination, and the next address -/

/-- An instruction that makes the engine `e` and goes on (R193). -/
theorem became_went {e : Engine} (h : Claim.Issues op k s w) (hb : ∀ x, body k (s.noted x) w = .next ((s.withEng k e).noted x)) :
    Claim.Became (s.withEng k (Claim.went e)) (s.issue k op body) := by
  have hnext := became_next (u := s.withEng k e) h fun x => ⟨x, hb x⟩
  rwa [withEng_withEng, withEng_eg] at hnext

/-- An instruction of legal form whose destination is gd (R186). -/
theorem setG_spec {ok : Bool} {v : Word} (h : Claim.Issues op k s w) (hok : ok = true)
    (hb : ∀ x, body k (s.noted x) w = .legal ok (s.noted x) (.next ((s.noted x).setG k (gdOf w) v))) :
    Claim.Became (s.withEng k { Claim.went (s.eg k) with g := (s.eg k).g.set (gdOf w) v }) (s.issue k op body) :=
  became_went (e := { s.eg k with g := (s.eg k).g.set (gdOf w) v }) h fun x => (hb x).trans (legal_eq hok _ _)

/-! ### Operations on gs and the second operand, and LI -/

/-- A scalar operation writes its value of the two operands to gd (R186). -/
theorem scalar_spec {a b c : Word} (f : Word → Word → Word) (h : Claim.Issues op k s w ∧ okS w = true ∧ Claim.Operands k s w a b)
    (hf : f a b = c) :
    Claim.Became (s.withEng k { Claim.went (s.eg k) with g := (s.eg k).g.set (gdOf w) c }) (s.issue k op (scalar f)) := by
  obtain ⟨hissue, hok, rfl, rfl⟩ := h
  subst hf
  exact setG_spec hissue hok fun _ => rfl
end

theorem addOp_holds : Claim.iAddOp := fun _ _ _ _ _ h => ⟨_, rfl, scalar_spec _ h rfl⟩
theorem subOp_holds : Claim.iSubOp := fun _ _ _ _ _ h => ⟨_, rfl, scalar_spec _ h rfl⟩
theorem andOp_holds : Claim.iAndOp := fun _ _ _ _ _ h => ⟨_, rfl, scalar_spec _ h rfl⟩
theorem orOp_holds : Claim.iOrOp := fun _ _ _ _ _ h => ⟨_, rfl, scalar_spec _ h rfl⟩
theorem xorOp_holds : Claim.iXorOp := fun _ _ _ _ _ h => ⟨_, rfl, scalar_spec _ h rfl⟩
theorem shlOp_holds : Claim.iShlOp := fun _ _ _ _ _ h => ⟨_, rfl, scalar_spec _ h rfl⟩
theorem shr_holds : Claim.iShr := fun _ _ _ _ _ h => ⟨_, rfl, scalar_spec _ h rfl⟩
theorem sra_holds : Claim.iSra := fun _ _ _ _ _ h => ⟨_, rfl, scalar_spec _ h rfl⟩
theorem mulOp_holds : Claim.iMulOp := fun _ _ _ _ _ h => ⟨_, rfl, scalar_spec _ h rfl⟩
theorem slt_holds : Claim.iSlt := fun _ _ _ _ _ h => ⟨_, rfl, scalar_spec _ h (if_congr BitVec.slt_iff_toInt_lt rfl rfl)⟩
theorem sltu_holds : Claim.iSltu := fun _ _ _ _ _ h => ⟨_, rfl, scalar_spec _ h (if_congr BitVec.ult_iff_lt rfl rfl)⟩

theorem li_holds : Claim.iLi := fun _ _ _ h =>
  ⟨_, rfl, setG_spec h.1 (Bool.and_eq_true_iff.2 h.2) fun _ => rfl⟩

/-! ### Writing a special register -/

/-- The registers of a group of eight are named from a multiple of 8 on (R185). -/
theorem groupIndex_eq {m n : Nat} (hm : m % 8 = 0) (h : m ≤ n) : Fin.ofNat 8 n = Fin.ofNat 8 (n - m) :=
  Fin.ext (by simp only [Fin.ofNat]; omega)

theorem spWrite_a (e : Engine) {n : Nat} (h : n < 8) (x : Word) :
    e.spWrite n x.toNat = some { e with a := e.a.set (Fin.ofNat 8 n) (x.setWidth 16) } := if_pos h
theorem spWrite_b (e : Engine) {n : Nat} (h : 8 ≤ n) (h' : n < 16) (x : Word) :
    e.spWrite n x.toNat = some { e with b := e.b.set (Fin.ofNat 8 (n - 8)) (x.setWidth 16) } := by
  rw [Engine.spWrite, if_neg (by omega), if_pos h']
  simp only [groupIndex_eq (m := 8) rfl h]
  rfl
theorem spWrite_l (e : Engine) {n : Nat} (h : 16 ≤ n) (h' : n < 24) (x : Word) :
    e.spWrite n x.toNat = some { e with l := e.l.set (Fin.ofNat 8 (n - 16)) (x.setWidth 16) } := by
  rw [Engine.spWrite, if_neg (by omega), if_neg (by omega), if_pos h']
  simp only [groupIndex_eq (m := 16) rfl h]
  rfl
theorem spWrite_lp (e : Engine) (x : Word) : e.spWrite 24 x.toNat = some { e with lp := x.setWidth 15 } := rfl

/-- The special registers from 32 on are eight for each DMA channel (R185). -/
theorem dmaSpecial_channel (c : Fin 2) {i : Nat} (hi : i < 8) : (32 + i + 8 * c.val - 32) / 8 = c.val := by omega
theorem dmaSpecial_index (c : Fin 2) {i : Nat} (hi : i < 8) : (32 + i + 8 * c.val) % 8 = i := by omega

/-- All of a DMA channel's special registers but its status can be written (R166, R185). -/
theorem spWrite_dma (e : Engine) (c : Fin 2) {i : Nat} (hi : i < 7) (v : Nat) :
    e.spWrite (32 + i + 8 * c.val) v = some { e with dma := e.dma.set c ((e.dma[c]).put i v) } := by
  have hc : Fin.ofNat 2 c.val = c := Fin.ofNat_val_eq_self c
  rw [Engine.spWrite, if_neg (by omega), if_neg (by omega), if_neg (by omega), if_neg (by omega), if_pos (by omega)]
  simp only [dmaSpecial_channel c (show i < 8 by omega), dmaSpecial_index c (show i < 8 by omega), hc]

section
variable {w n : Nat} {k : Fin 16} {s : State} {x : Word} {e : Engine}

theorem immOf_mod_256 (w : Nat) : immOf w % 256 = w % 256 := Nat.mod_mod_of_dvd w (by decide)

/-- MTS writes the special register that its immediate names, unless that is of a BUSY channel (R166, R185). -/
theorem mts_spec (h : Claim.Issues 0x10 k s w) (hok : okS w = true) (hn : w % 256 = n) (hx : (s.eg k).g[gsOf w] = x)
    (hfree : 32 ≤ n → s.on (dmaBusyF k ((n - 32) / 8)) = false) (he : (s.eg k).spWrite n x.toNat = some e) :
    Claim.Became (s.withEng k (Claim.went e)) (s.issue k 0x10 bodyMts) := by
  subst hx hn
  have hgo : ¬ (decide (32 ≤ w % 256) && s.on (dmaBusyF k ((w % 256 - 32) / 8))) = true := by
    rw [Bool.and_eq_true_iff, decide_eq_true_iff]
    exact fun hbusy => Bool.false_ne_true ((hfree hbusy.1).symm.trans hbusy.2)
  refine became_went h fun z => ?_
  have he' : ((s.noted z).eg k).spWrite (w % 256) ((s.noted z).gv k (gsOf w)).toNat = some e := he
  simp only [bodyMts, immOf_mod_256, hok, he', noted_on, if_neg hgo]
  rfl

/-- MTS to a register of a channel that is not BUSY. -/
theorem mts_dma_spec {i : Nat} {c : Fin 2} {d d' : DmaChan}
    (h : Claim.Issues 0x10 k s w ∧ okS w = true ∧ w % 256 = 32 + i + 8 * c.val ∧ (s.eg k).g[gsOf w] = x ∧ (s.eg k).dma[c] = d
      ∧ s.on (dmaBusyF k c) = false) (hi : i < 7) (hput : d.put i x.toNat = d') :
    Claim.Became (s.withEng k { Claim.went (s.eg k) with dma := (s.eg k).dma.set c d' }) (s.issue k 0x10 bodyMts) := by
  obtain ⟨hissue, hok, hn, hx, rfl, hfree⟩ := h
  subst hput
  exact mts_spec hissue hok hn hx (fun _ => by rwa [dmaSpecial_channel c (show i < 8 by omega)]) (spWrite_dma _ c hi _)
end

theorem mtsA_holds : Claim.iMtsA := by
  rintro k s w n x ⟨hissue, hok, hn, hx, hlt⟩
  exact ⟨_, rfl, mts_spec hissue hok hn hx (fun _ => by omega) (spWrite_a _ hlt x)⟩
theorem mtsB_holds : Claim.iMtsB := by
  rintro k s w n x ⟨hissue, hok, hn, hx, hge, hlt⟩
  exact ⟨_, rfl, mts_spec hissue hok hn hx (fun _ => by omega) (spWrite_b _ hge hlt x)⟩
theorem mtsL_holds : Claim.iMtsL := by
  rintro k s w n x ⟨hissue, hok, hn, hx, hge, hlt⟩
  exact ⟨_, rfl, mts_spec hissue hok hn hx (fun _ => by omega) (spWrite_l _ hge hlt x)⟩
theorem mtsLp_holds : Claim.iMtsLp := by
  rintro k s w n x ⟨hissue, hok, hn, hx, rfl⟩
  exact ⟨_, rfl, mts_spec hissue hok hn hx (fun _ => by omega) (spWrite_lp _ x)⟩

theorem mtsLaddr_holds : Claim.iMtsLaddr := fun _ _ _ _ _ _ h => ⟨_, rfl, mts_dma_spec (i := 0) h (by decide) rfl⟩
theorem mtsRaddrLo_holds : Claim.iMtsRaddrLo := fun _ _ _ _ _ x h =>
  ⟨_, rfl, mts_dma_spec (i := 1) h (by decide) (by rw [DmaChan.put, x.toNat_mod_cancel])⟩
theorem mtsRaddrHi_holds : Claim.iMtsRaddrHi := fun _ _ _ _ _ _ h => ⟨_, rfl, mts_dma_spec (i := 2) h (by decide) rfl⟩
theorem mtsCount_holds : Claim.iMtsCount := fun _ _ _ _ _ _ h => ⟨_, rfl, mts_dma_spec (i := 3) h (by decide) rfl⟩
theorem mtsRows_holds : Claim.iMtsRows := fun _ _ _ _ _ _ h => ⟨_, rfl, mts_dma_spec (i := 4) h (by decide) rfl⟩
theorem mtsRstride_holds : Claim.iMtsRstride := fun _ _ _ _ _ x h =>
  ⟨_, rfl, mts_dma_spec (i := 5) h (by decide) (by rw [DmaChan.put, x.toNat_mod_cancel])⟩
theorem mtsDmaCtrl_holds : Claim.iMtsDmaCtrl := fun _ _ _ _ _ _ h => ⟨_, rfl, mts_dma_spec (i := 6) h (by decide) rfl⟩

/-! ### Reading a special register -/

section
variable (s : State) (k : Fin 16)

theorem spRead_a {n : Nat} (h : n < 8) : s.spRead k n = some ((s.eg k).a[Fin.ofNat 8 n]).toNat := if_pos h
theorem spRead_b {n : Nat} (h : 8 ≤ n) (h' : n < 16) : s.spRead k n = some ((s.eg k).b[Fin.ofNat 8 (n - 8)]).toNat := by
  rw [State.spRead, if_neg (by omega), if_pos h']
  simp only [groupIndex_eq (m := 8) rfl h]
theorem spRead_l {n : Nat} (h : 16 ≤ n) (h' : n < 24) : s.spRead k n = some ((s.eg k).l[Fin.ofNat 8 (n - 16)]).toNat := by
  rw [State.spRead, if_neg (by omega), if_neg (by omega), if_pos h']
  simp only [groupIndex_eq (m := 16) rfl h]
theorem spRead_lp : s.spRead k 24 = some (s.eg k).lp.toNat := rfl
theorem spRead_id : s.spRead k 48 = some (k.val + s.landSrc k * 16) := rfl

/-- The eight special registers of a DMA channel with the given status (R185). -/
def DmaChan.special (d : DmaChan) (stat i : Nat) : Nat :=
  match i with
  | 0 => d.laddr | 1 => d.raddr % 2 ^ 32 | 2 => d.raddr / 2 ^ 32 | 3 => d.count | 4 => d.rows | 5 => d.rstride
  | 6 => d.dir.toNat + 2 * d.htrap.toNat | _ => stat

theorem spRead_dma (c : Fin 2) {i : Nat} (hi : i < 8) :
    s.spRead k (32 + i + 8 * c.val) = some (((s.eg k).dma[c]).special (s.dmaStat k c) i) := by
  have hc : Fin.ofNat 2 c.val = c := Fin.ofNat_val_eq_self c
  rw [State.spRead, if_neg (by omega), if_neg (by omega), if_neg (by omega), if_neg (by omega), if_neg (by omega),
    if_pos (by omega)]
  simp only [dmaSpecial_channel c hi, dmaSpecial_index c hi, hc]
  rfl
end

section
variable {w n v : Nat} {k : Fin 16} {s : State}

/-- MFS writes the special register that its immediate names to gd (R185). -/
theorem mfs_spec {x : Word} (h : Claim.Issues 0x11 k s w) (hok : okS w = true) (hn : w % 256 = n) (hv : s.spRead k n = some v)
    (hx : BitVec.ofNat 32 v = x) :
    Claim.Became (s.withEng k { Claim.went (s.eg k) with g := (s.eg k).g.set (gdOf w) x }) (s.issue k 0x11 bodyMfs) := by
  subst hn hx
  refine became_went (e := { s.eg k with g := (s.eg k).g.set (gdOf w) (BitVec.ofNat 32 v) }) h fun z => ?_
  have hv' : (s.noted z).spRead k (w % 256) = some v := hv
  simp only [bodyMfs, immOf_mod_256, hok, hv']
  rfl

/-- MFS of a register of a channel. -/
theorem mfs_dma_spec {i : Nat} {c : Fin 2} {d : DmaChan}
    (h : Claim.Issues 0x11 k s w ∧ okS w = true ∧ w % 256 = 32 + i + 8 * c.val ∧ (s.eg k).dma[c] = d) (hi : i < 8) :
    Claim.Became (s.withEng k { Claim.went (s.eg k) with
      g := (s.eg k).g.set (gdOf w) (BitVec.ofNat 32 (d.special (s.dmaStat k c) i)) }) (s.issue k 0x11 bodyMfs) := by
  obtain ⟨hissue, hok, hn, rfl⟩ := h
  exact mfs_spec hissue hok hn (spRead_dma s k c hi) rfl
end

theorem mfsA_holds : Claim.iMfsA := by
  rintro k s w n ⟨hissue, hok, hn, hlt⟩
  exact ⟨_, rfl, mfs_spec hissue hok hn (spRead_a s k hlt) (BitVec.ofNat_toNat _ _)⟩
theorem mfsB_holds : Claim.iMfsB := by
  rintro k s w n ⟨hissue, hok, hn, hge, hlt⟩
  exact ⟨_, rfl, mfs_spec hissue hok hn (spRead_b s k hge hlt) (BitVec.ofNat_toNat _ _)⟩
theorem mfsL_holds : Claim.iMfsL := by
  rintro k s w n ⟨hissue, hok, hn, hge, hlt⟩
  exact ⟨_, rfl, mfs_spec hissue hok hn (spRead_l s k hge hlt) (BitVec.ofNat_toNat _ _)⟩
theorem mfsLp_holds : Claim.iMfsLp := by
  rintro k s w n ⟨hissue, hok, hn, rfl⟩
  exact ⟨_, rfl, mfs_spec hissue hok hn (spRead_lp s k) (BitVec.ofNat_toNat _ _)⟩
theorem mfsId_holds : Claim.iMfsId := by
  rintro k s w n ⟨hissue, hok, hn, rfl⟩
  exact ⟨_, rfl, mfs_spec hissue hok hn (spRead_id s k) rfl⟩

theorem mfsLaddr_holds : Claim.iMfsLaddr := fun _ _ _ _ _ h => ⟨_, rfl, mfs_dma_spec (i := 0) h (by decide)⟩
theorem mfsRaddrLo_holds : Claim.iMfsRaddrLo := fun _ _ _ _ _ h => ⟨_, rfl, mfs_dma_spec (i := 1) h (by decide)⟩
theorem mfsRaddrHi_holds : Claim.iMfsRaddrHi := fun _ _ _ _ _ h => ⟨_, rfl, mfs_dma_spec (i := 2) h (by decide)⟩
theorem mfsCount_holds : Claim.iMfsCount := fun _ _ _ _ _ h => ⟨_, rfl, mfs_dma_spec (i := 3) h (by decide)⟩
theorem mfsRows_holds : Claim.iMfsRows := fun _ _ _ _ _ h => ⟨_, rfl, mfs_dma_spec (i := 4) h (by decide)⟩
theorem mfsRstride_holds : Claim.iMfsRstride := fun _ _ _ _ _ h => ⟨_, rfl, mfs_dma_spec (i := 5) h (by decide)⟩
theorem mfsDmaCtrl_holds : Claim.iMfsDmaCtrl := fun _ _ _ _ _ h => ⟨_, rfl, mfs_dma_spec (i := 6) h (by decide)⟩
theorem mfsDmaStat_holds : Claim.iMfsDmaStat := fun _ _ _ _ _ h => ⟨_, rfl, mfs_dma_spec (i := 7) h (by decide)⟩

/-! ### OVR -/

/-- The flags of eight lanes are the bits of a number. -/
theorem laneBits_eq_ofBits (v : Vector Bool 8) : laneBits v = Nat.ofBits fun i : Fin 8 => v[i] := by
  have hbit : ∀ (b : Bool) (m : Nat), (if b = true then m else 0) = b.toNat * m := fun b m => by cases b <;> simp
  simp only [laneBits, hbit, List.finRange_succ, List.finRange_zero, List.map_cons, List.map_nil, List.sum_cons, List.sum_nil,
    Nat.ofBits_succ, Nat.ofBits_zero, Function.comp_apply, Fin.getElem_fin, Fin.val_succ, Fin.val_zero]
  ring

/-- A number of 16 bits whose bits are the OV and the OVS of eight lanes (R186). -/
theorem laneBits_of_bits {x : Nat} {p q : Vector Bool 8} (h : ∀ i : Fin 8, x.testBit i.val = p[i] ∧ x.testBit (8 + i.val) = q[i])
    (hx : x < 2 ^ 16) : laneBits p + 256 * laneBits q = x := by
  have hp : laneBits p = x % 2 ^ 8 := by
    rw [laneBits_eq_ofBits, ← Nat.ofBits_testBit]
    exact congrArg Nat.ofBits (funext fun i => (h i).1.symm)
  have hq : laneBits q = x / 2 ^ 8 % 2 ^ 8 := by
    rw [laneBits_eq_ofBits, ← Nat.ofBits_testBit]
    exact congrArg Nat.ofBits (funext fun i => by rw [Nat.testBit_div_two_pow, Nat.add_comm]; exact (h i).2.symm)
  omega

theorem ovr_holds : Claim.iOvr := by
  rintro k s w a v ⟨hissue, hok, ha, hbits, hlt⟩
  have hacc : Fin.ofNat 4 (immOf w) = a := Fin.ext ((Nat.mod_mod_of_dvd w (by decide)).trans ha)
  have hv : BitVec.ofNat 32 (laneBits ((s.eg k).ov[a]) + 256 * laneBits ((s.eg k).ovs[a])) = v := by
    rw [laneBits_of_bits hbits hlt, BitVec.ofNat_toNat, BitVec.setWidth_eq]
  subst hacc
  refine ⟨_, rfl, setG_spec hissue hok fun x => ?_⟩
  rw [bodyOvr, noted_eg, hv]

end Sys2Proof.Machine
end

section
/-! SUPPORT. EngineScalar, clause by clause. -/

namespace Sys2Proof.Proofs
open Sys2Proof.Machine

/-- Settles O27: each instruction makes one new engine, with its destination written, and goes on. -/
theorem engineScalar : Obligations.EngineScalar :=
  ⟨addOp_holds, subOp_holds, andOp_holds, orOp_holds, xorOp_holds, shlOp_holds, shr_holds, sra_holds, mulOp_holds, slt_holds,
    sltu_holds, li_holds, mtsA_holds, mtsB_holds, mtsL_holds, mtsLp_holds, mtsLaddr_holds, mtsRaddrLo_holds, mtsRaddrHi_holds,
    mtsCount_holds, mtsRows_holds, mtsRstride_holds, mtsDmaCtrl_holds, mfsA_holds, mfsB_holds, mfsL_holds, mfsLp_holds, mfsId_holds,
    mfsLaddr_holds, mfsRaddrLo_holds, mfsRaddrHi_holds, mfsCount_holds, mfsRows_holds, mfsRstride_holds, mfsDmaCtrl_holds,
    mfsDmaStat_holds, ovr_holds⟩

end Sys2Proof.Proofs
end


section
/-! SUPPORT. What the tests and the learn of loss watch see of an envelope word (R215): its STEP bit and its test value. -/

namespace Sys2Proof.Machine

variable {s : State} {f : Fib} {e : Nat} {w w' : EnvWord} {t : LwTrig}

/-- CLIP puts 0xFF_FFFF in the place of ENV (R215). -/
theorem testValue_of_clip (h : w.clip = true) : testValue w = 0xFFFFFF := if_pos h

/-- A trigger gathers the test values of the words of its window whose STEP is clear (R215, R216). -/
theorem stepTrig_fst : (s.stepTrig f e w t).1 =
    if t.pos ≤ e ∧ e ≤ t.pos + t.width ∧ !w.step then { t with sum := t.sum + testValue w, k := t.k + 1 } else t := by
  unfold State.stepTrig
  extract_lets t1
  split
  · split <;> rfl
  · rfl

/-- A word with STEP set adds nothing to a trigger's window. -/
theorem stepTrig_fst_of_step (h : w.step = true) : (s.stepTrig f e w t).1 = t := by
  simp [stepTrig_fst, h]

/-- A word with STEP set is no interval of the mask test. -/
theorem stepMask_of_step (h : w.step = true) : s.stepMask f e w = ([], s) := by
  simp [State.stepMask, h]

/-- A word with STEP set is not observed by a learn. -/
theorem stepLearn_of_step (h : w.step = true) : s.stepLearn f e w = s := by
  simp [State.stepLearn, h]

/-- The value under R219 rests on the test value only. -/
theorem maskValue_congr {i : Nat} (hval : testValue w = testValue w') : s.maskValue i w = s.maskValue i w' := by
  rw [State.maskValue, hval, State.maskValue]

section
variable (hstep : w.step = w'.step) (hval : testValue w = testValue w')
include hstep hval

/-- A trigger tells two words apart by STEP and test value only. -/
theorem stepTrig_congr : s.stepTrig f e w t = s.stepTrig f e w' t := by
  rw [State.stepTrig, hstep, hval, State.stepTrig]

/-- The mask test tells two words apart by STEP and test value only. -/
theorem stepMask_congr : s.stepMask f e w = s.stepMask f e w' := by
  rw [State.stepMask, hstep, maskValue_congr hval, State.stepMask]

/-- A learn tells two words apart by STEP and test value only. -/
theorem stepLearn_congr : s.stepLearn f e w = s.stepLearn f e w' := by
  rw [State.stepLearn, hstep, maskValue_congr hval, State.stepLearn]

end

theorem stepExcluded_holds : Claim.stepExcluded := fun _ _ _ _ _ hstep =>
  have htrig := stepTrig_fst_of_step hstep
  ⟨⟨congrArg LwTrig.sum htrig, congrArg LwTrig.k htrig⟩, stepMask_of_step hstep, stepLearn_of_step hstep⟩

theorem clipReplaced_holds : Claim.clipReplaced := by
  intro s f e w t hstep hclip
  have hval : testValue w = testValue ⟨0xFFFFFF, false, false⟩ := testValue_of_clip hclip
  exact ⟨stepTrig_congr hstep hval, stepMask_congr hstep hval, stepLearn_congr hstep hval⟩

end Sys2Proof.Machine

namespace Sys2Proof.Proofs
open Sys2Proof.Machine

/-- Settles O40: a word with STEP set reaches neither a trigger's sum, the mask test nor a learn, and these three see of any
other word only its test value, which is 0xFF_FFFF under CLIP. -/
theorem envelopeFlags : Obligations.EnvelopeFlags := ⟨stepExcluded_holds, clipReplaced_holds⟩

end Sys2Proof.Proofs
end

section
/-! SUPPORT. The counterexample to the clause of Output on a frame that is held: the last burst of its samples holds an uncorrectable
word that they do not cover (R379, R380). -/

namespace Sys2Proof.Proofs
open Sys2Proof.Machine Sys2Proof.Machine.Reg

/-- A frame of one sample for the first loupe stream of fibre A. -/
def oneSample : Frame :=
  ⟨⟨0, 1⟩, 7, 0, false, true, false, false, false, false, false, 0, 0, [0x1234], 0⟩

/-- The ready device is offered the frame, its stream enabled and both of the stream's slots free; the holding area starts with DA.
The first burst of slot 0 has been written, and its last word is uncorrectable since. -/
def errorInSlot : State :=
  let s := withRegs [(MGMT_STATUS_PHASE, 4), (PWR_STATUS_DOMAIN_ON, 0x3F), (SYS_CLK_STATUS_FAB_RUN, 1), (DRAMC_CONFIG_CAP_GIB 0, 4),
    (DRAMC_CHSTAT_READY 0, 1), (OUT_HOLD_BASE_HI_ADDR, 0x80), (OUT_STATUS_HOLD_VALID, 1), (OUT_STREAM_EN_A_EN, 2)]
  { s.setOut fun o => { o with offered := [oneSample] } with
    mem := putBytes (s.slotAddr oneSample.sid.code 0) (List.replicate 64 0) []
    ecc := [(s.slotAddr oneSample.sid.code 0 + 56, true)] }

/-- The counterexample meets the hypotheses of the clause. -/
theorem errorInSlot_pre : Claim.preHandoverHold errorInSlot oneSample [] := by decide +kernel

/-- The first slot of the event log ring is empty before the hand-over, and lies below the burst that the frame's samples touch. -/
theorem errorInSlot_ring : getBytes errorInSlot.mem (logSlot 0) 8 = none := by decide +kernel
theorem errorInSlot_below : logSlot 0 + 8 ≤ errorInSlot.slotAddr oneSample.sid.code 0 / 64 * 64 := by decide +kernel

/-- The write reads the burst and poisons the word, which is logged with CODE 0x0C01 and SEV 3: the first two words of the record
stand in the ring (R354, R355, R380). -/
theorem errorInSlot_logged {t : State} (h : exec .frameHandover errorInSlot = .next t) :
    getBytes t.mem (logSlot 0) 8 = some (wordsLE [0, 0x0C01 + 3 * 2 ^ 16]) := by
  rw [← Host.Outcome.next.inj h]
  decide +kernel

/-- Bytes below a range that is the only one to change read as before. -/
theorem getBytes_below_memKept {s t : State} {lo hi : Nat} (hkept : MemKept lo hi s t) :
    ∀ {n a : Nat}, a + n ≤ lo → getBytes t.mem a n = getBytes s.mem a n := by
  intro n
  induction n with
  | zero => exact fun _ => rfl
  | succ n ih =>
    intro a ha
    simp only [getBytes]
    rw [hkept a (Or.inl (by omega)), ih (by omega)]

/-- The clause on a frame that is held fails: it says that memory outside the bursts of the samples stays as it was. -/
theorem not_handoverHold : ¬ Claim.handoverHold := by
  intro h
  obtain ⟨t, hexec, -, -, -, -, -, hkept, -⟩ := h _ _ _ errorInSlot_pre
  have hring := getBytes_below_memKept hkept errorInSlot_below
  rw [errorInSlot_logged hexec, errorInSlot_ring] at hring
  exact Option.some_ne_none _ hring

/-- Refutes O20: the clause on a frame that is held does not ask that the words beside its samples be free of errors. A burst that
the samples do not fill is read and written back; an uncorrectable word of it is poisoned (R379), and that is logged (R380). The
record is written to the event log ring in management SRAM, which the clause says stays as it was. -/
theorem not_output : ¬ Obligations.Output := by
  unfold Obligations.Output
  rintro ⟨hhold, -⟩
  exact not_handoverHold hhold

end Sys2Proof.Proofs
end

section
/-! SUPPORT. What writing RETRAIN does while clk_fab is stopped (R20, R457), and the counterexample to the clause of Lanes on it. -/

namespace Sys2Proof.Machine
open Reg

/-- The STATE field of a lane is not the access error of R20. -/
theorem laneState_ne_accErr : ∀ n : Fin 8, (LANE_STATUS_STATE n).key ≠ SYS_STATUS_ACC_ERR.key := by decide

/-- While clk_fab does not run, the LANE block's window cannot be reached, even with PD_LANE on (R457). -/
theorem reach_lane_fabStopped {s : State} (h : s.fabRuns = false) : s.reach 9 = false := by simp [State.reach, domainOf, h]

/-- A write to a register of the LANE block while clk_fab does not run sets ACC_ERR and does nothing else (R20, R457). -/
theorem onReg_lane_fabStopped {s : State} (h : s.fabRuns = false) (t : State) : s.onReg 9 t = s.raise SYS_STATUS_ACC_ERR 1 := by
  rw [State.onReg, reach_lane_fabStopped h, if_neg Bool.false_ne_true]

/-- A lane keeps its state when RETRAIN is written while clk_fab does not run. -/
theorem retrain_fabStopped_laneState {s t : State} {n : Fin 8} (hstop : s.fabRuns = false) (h : exec (.retrain n) s = .next t) :
    t.laneState n = s.laneState n := by
  have hexec : exec (.retrain n) s = .next (s.raise SYS_STATUS_ACC_ERR 1) := congrArg _ (onReg_lane_fabStopped hstop (s.retrainLane n))
  rw [← Host.Outcome.next.inj (hexec.symm.trans h)]
  exact State.get_set_ne s (laneState_ne_accErr n) _

end Sys2Proof.Machine

namespace Sys2Proof.Proofs
open Sys2Proof.Machine Sys2Proof.Machine.Reg

/-- After a loss of REFCLK_SMP every domain is on and clk_fab is stopped (R28); lane 5, which has a clock of its own, is still
ACTIVE. -/
def fabStopped : State :=
  withRegs [(MGMT_STATUS_PHASE, 4), (PWR_STATUS_DOMAIN_ON, 0x3F), (SYS_STATUS_REFCLK_SMP_BAD, 1), (SYS_CLK_STATUS_FAB_RUN, 0),
    (LANE_QUAD_STATUS_REFCLK_OK, 1), (LANE_QUAD_STATUS_PLL_LOCK_Q1, 1), (LANE_CTRL_EN 5, 1), (LANE_STATUS_BIT_LOCK 5, 1),
    (LANE_STATUS_BLK_LOCK 5, 1), (LANE_STATUS_STATE 5, lnActive)]

/-- The counterexample meets the hypotheses of the clause. -/
theorem fabStopped_pre : Claim.preRetrain fabStopped 5 := by decide +kernel

/-- clk_fab does not run, and lane 5 is ACTIVE. -/
theorem fabStopped_fabRuns : fabStopped.fabRuns = false := by decide +kernel
theorem fabStopped_laneState : fabStopped.laneState 5 = lnActive := by decide +kernel

/-- The clause on RETRAIN fails: the write has no effect, and the lane stays ACTIVE. -/
theorem not_retrain : ¬ Claim.retrain := by
  intro h
  obtain ⟨t, hexec, htrain, -⟩ := h fabStopped 5 fabStopped_pre
  rw [retrain_fabStopped_laneState fabStopped_fabRuns hexec, fabStopped_laneState] at htrain
  exact absurd htrain (by decide)

/-- Refutes O18: the clause on the register bit RETRAIN asks that PD_LANE be on and not that clk_fab run. While clk_fab is stopped
the window of every block outside PD_AON and PD_MGMT is handled as that of a domain that is off (R457): a write to it has no effect
and sets ACC_ERR (R20), so the lane does not go to TRAIN. -/
theorem not_lanes : ¬ Obligations.Lanes := by
  unfold Obligations.Lanes
  rintro ⟨-, -, -, -, -, -, -, -, -, hretrain, -⟩
  exact not_retrain hretrain

end Sys2Proof.Proofs
end

section
/-! SUPPORT. A step of the machine as a whole: the command in front of the queue, and every command's answer. -/

namespace Sys2Proof.Proofs
open Sys2Proof.Machine

/-- Settles O1: both halves are how a step is defined, and the table of encodings names no word. -/
theorem stepRunsFront : Obligations.StepRunsFront := by
  unfold Obligations.StepRunsFront Claim.stepFront Claim.placedWord
  exact ⟨fun _ _ _ => rfl, fun _ _ _ => ⟨rfl, rfl⟩⟩

/-- Settles O4, by evaluation of the one state that it speaks of. -/
theorem resetIsSound : Obligations.ResetIsSound := by
  unfold Obligations.ResetIsSound Claim.resetSound
  decide

/-- Settles O3: after power-on three fields have been written, and every other reads its reset value as none is stored. -/
theorem resetValues : Obligations.ResetValues := by
  unfold Obligations.ResetValues Claim.resetPower Claim.resetFields
  exact ⟨by decide +kernel, fun _ => rfl, rfl, rfl, rfl⟩

/-- Settles O6, command by command: the meaning of each is a next state. -/
theorem everyCommandCompletes : Obligations.EveryCommandCompletes := by
  unfold Obligations.EveryCommandCompletes Claim.completes
  intro c s
  cases c <;> exact ⟨_, rfl⟩

end Sys2Proof.Proofs
end

section
/-! SUPPORT. A cycle in which no command waits: clocks that stand still, the end of a lowering of clk_eng (R461), and the reset that
RESET asked for (R326). -/

namespace Sys2Proof.Machine
open Reg

/-- The state one cycle later. -/
def State.later (s : State) : State := { s with cyc := s.cyc + 1 }

/-- With no change of power state under way a cycle does nothing to the operating point. -/
theorem opTick_of_none {s : State} (h : s.pwr.change = none) : s.opTick = s := by simp [State.opTick, h]

/-- A lowering that has lasted its time is complete (R461). -/
theorem opTick_of_lower {s : State} {o : Nat} (h : s.pwr.change = some (.lower o))
    (hdue : s.pwr.changeAt + usCyc (s.get PWR_VSETTLE_US + 1) ≤ s.cyc) : s.opTick = s.opDone := by
  simp [State.opTick, h, hdue]

/-- The end of a change of operating point on the way to a power state, with no request held behind it (R461, R467). -/
theorem opDone_of_unheld {s : State} {d : Nat} (hto : s.pwr.stateTo = some d) (hheld : s.pwr.held = none) :
    s.opDone = ((s.set PWR_STATUS_STATE d).set PWR_STATUS_BUSY 0).setPwr fun p => { p with change := none, stateTo := none } := by
  simp [State.opDone, State.pwrDone, State.setPwr, hto, hheld]

/-- Without clk_fab nothing of its domain moves, and outside PD_MGMT's 80 ns grid no emitter's modulator does (R446). -/
theorem tick_of_fabStopped {s : State} (hfab : s.later.opTick.fabRuns = false)
    (hemit : (s.later.opTick.domainOn 1 && s.later.opTick.cyc % 32 == 0) = false) :
    s.tick = if s.later.opTick.resetDue then s.later.opTick.fullReset 3 else s.later.opTick := by
  have hlater : ({ s with cyc := s.cyc + 1 } : State) = s.later := rfl
  simp only [State.tick, hlater, hfab, Bool.and_false, Bool.false_eq_true, if_false, State.tickEmit, hemit]

/-- No reset is due that RESET has not asked for. -/
theorem resetDue_of_not_resetting {s : State} (h : s.cmd.resetting = false) : s.resetDue = false := by simp [State.resetDue, h]

/-- With no command waiting a step is a cycle. -/
theorem step_of_empty {s : State} (h : s.pending = []) : step s = .next s.tick := by simp [step, h]

/-- Fields that stay as they were tell the clock and the power domains. -/
theorem SameRegs.fabRuns {fs : List Fld} {s t : State} (h : SameRegs fs s t) (hk : SYS_CLK_STATUS_FAB_RUN.key ∉ fs.map Fld.key) :
    t.fabRuns = s.fabRuns := by simp only [State.fabRuns, State.on, h _ hk]
theorem SameRegs.domainOn {fs : List Fld} {s t : State} (h : SameRegs fs s t) (hk : PWR_STATUS_DOMAIN_ON.key ∉ fs.map Fld.key)
    (d : Nat) : t.domainOn d = s.domainOn d := by simp only [State.domainOn, h _ hk]

theorem idleCycle_holds : Claim.idleCycle := by
  rintro s ⟨hempty, hfab, hdom, hchange, hreset⟩
  have hop : s.later.opTick = s.later := opTick_of_none hchange
  have hdom' : s.later.domainOn 1 = false := hdom
  have hreset' : s.later.resetDue = false := resetDue_of_not_resetting hreset
  rw [step_of_empty hempty, tick_of_fabStopped (by rw [hop]; exact hfab) (by rw [hop, hdom']; rfl), hop, hreset']
  rfl

/-- What the end of a lowering leaves after one more cycle. -/
def State.lowered (s : State) : State :=
  ((s.later.set PWR_STATUS_STATE 1).set PWR_STATUS_BUSY 0).setPwr fun p => { p with change := none, stateTo := none }

theorem lowered_only (s : State) :
    Only [PWR_STATUS_STATE, PWR_STATUS_BUSY] s { s with cyc := s.lowered.cyc, pwr := s.lowered.pwr } s.lowered :=
  Only.of_puts (l := [(PWR_STATUS_STATE, 1), (PWR_STATUS_BUSY, 0)]) rfl rfl

theorem idleLowering_holds : Claim.idleLowering := by
  rintro s o ⟨hempty, hfab, hdom, hreset, hchange, hheld, hto, hdue⟩
  have hop : s.later.opTick = s.lowered := (opTick_of_lower (s := s.later) hchange hdue).trans (opDone_of_unheld hto hheld)
  have honly := lowered_only s
  have hdom' : s.lowered.domainOn 1 = false := (honly.1.domainOn (by decide) 1).trans hdom
  have hreset' : s.lowered.resetDue = false := resetDue_of_not_resetting hreset
  have htick : s.tick = s.lowered := by
    rw [tick_of_fabStopped (by rw [hop]; exact (honly.1.fabRuns (by decide)).trans hfab) (by rw [hop, hdom']; rfl), hop, hreset']
    rfl
  have hget {p : Fld × Nat} (hp : p ∈ [(PWR_STATUS_STATE, 1), (PWR_STATUS_BUSY, 0)]) :
      s.lowered.get p.1 = p.2 % 2 ^ p.1.w :=
    get_puts (s := s) (l := [(PWR_STATUS_STATE, 1), (PWR_STATUS_BUSY, 0)]) (by decide) hp
  rw [step_of_empty hempty, htick]
  exact ⟨_, rfl, hget (.head _), hget (.tail _ (.head _)), rfl, rfl, honly⟩

/-- The fields that a reset of cause 3 leaves with a value of their own (R472). -/
def resetFields3 (s : State) : List (Fld × Nat) :=
  [(SYS_RST_CAUSE_CAUSE, 3), (SYS_RST_CAUSE_HIST, s.get SYS_RST_CAUSE_HIST ||| 4), (PWR_STATUS_WAKE_SRC, s.get PWR_STATUS_WAKE_SRC)]

theorem fullReset3_regs (s : State) : (s.fullReset 3).regs = (State.reset.puts (resetFields3 s)).regs := rfl

theorem idleReset_holds : Claim.idleReset := by
  rintro s ⟨hempty, hfab, hdom, hgrid, hchange, hreset, hqueue, hexec, hdue, hhist⟩
  have hop : s.later.opTick = s.later := opTick_of_none hchange
  have hgrid' : (s.later.cyc % 32 == 0) = false := by simp only [State.later, beq_eq_false_iff_ne]; omega
  have hdue' : s.later.resetDue = true := by
    simp only [State.resetDue, State.later, hreset, hqueue, hexec, List.isEmpty_nil, Option.isNone_none, Bool.true_and]
    exact decide_eq_true (Nat.le_succ_of_le hdue)
  have htick : s.tick = s.later.fullReset 3 := by
    rw [tick_of_fabStopped (by rw [hop]; exact hfab) (by rw [hop, hgrid', Bool.and_false]), hop, if_pos hdue']
  have hget {p : Fld × Nat} (hp : p ∈ resetFields3 s.later) : (s.later.fullReset 3).get p.1 = p.2 % 2 ^ p.1.w :=
    get_puts (s := State.reset) (l := resetFields3 s.later) (by simp only [resetFields3, List.map_cons, List.map_nil]; decide) hp
  have hhist' : s.get SYS_RST_CAUSE_HIST ||| 4 < 2 ^ 5 := Nat.or_lt_two_pow hhist (by omega)
  rw [step_of_empty hempty, htick]
  refine ⟨_, rfl, hget (.head _), ?_, ?_, rfl, rfl⟩
  · exact (hget (.tail _ (.head _))).trans (Nat.mod_eq_of_lt hhist')
  · exact (sameRegs_puts State.reset (resetFields3 s.later)).of_regs (fullReset3_regs _)

end Sys2Proof.Machine

namespace Sys2Proof.Proofs
open Sys2Proof.Machine

/-- Settles O2: with clk_fab stopped a cycle is the end of a change of operating point, then the reset that is due. -/
theorem idleCycle : Obligations.IdleCycle := by
  unfold Obligations.IdleCycle
  exact ⟨idleCycle_holds, idleLowering_holds, idleReset_holds⟩

end Sys2Proof.Proofs
end

section
/-! SUPPORT. Opcodes that the common checks refuse (R20, R322, R323, R457, R466). -/

namespace Sys2Proof.Machine
open Reg

/-- Everything an opcode that names no owner does when it is refused: its one reply (R322). -/
theorem runCmd_refused_done {op blk st : Nat} {masks : List Nat → List Nat} {body : State → List Nat → CmdRes} {c : CmdIn}
    {s : State} (hj : s.judge op blk masks body c = .refuse st 0) (hop : op < 256) (hst : st < 256) :
    Done op st [] [] c s s (runCmd op blk masks body c s) := runCmd_refused hj hop hst

/-- Every opcode has eight bits. -/
theorem opcode_lt {i : Instr} {op blk : Nat} {c : CmdIn} (h : Claim.opcodeOf i = some (op, blk, c)) : op < 256 := by
  cases i <;> cases h <;> omega

/-- The four opcodes that stay in execution are answered at once where they are not accepted (R62, R218, R454, R483). -/
theorem seqEpoch_unaccepted {c : CmdIn} {s : State} (h : (s.judge 0x18 1 (fun _ => [1]) seqEpoch c).status ≠ stOk) :
    exec (.seqEpoch c) s = .next (runCmd 0x18 1 (fun _ => [1]) seqEpoch c s) := congrArg _ (if_neg h)
theorem lwMaskFill_unaccepted {c : CmdIn} {s : State} (h : (s.judge 0x75 7 (fun _ => [1, full]) lwMaskFill c).status ≠ stOk) :
    exec (.lwMaskFill c) s = .next (runCmd 0x75 7 (fun _ => [1, full]) lwMaskFill c s) := congrArg _ (if_neg h)
theorem dchWrite_unaccepted {c : CmdIn} {s : State} (h : (s.judge 0xCD 17 dchMasks dchWrite c).status ≠ stOk) :
    exec (.dchWrite c) s = .next (runCmd 0xCD 17 dchMasks dchWrite c s) := congrArg _ (if_neg fun hok => h hok.2)
theorem pmonRead_unaccepted {c : CmdIn} {s : State} (h : (s.judge 0xE2 19 (fun _ => [0]) pmonRead c).status ≠ stOk) :
    exec (.pmonRead c) s = .next (runCmd 0xE2 19 (fun _ => [0]) pmonRead c s) := congrArg _ (if_neg h)

/-- A command that carries an opcode is checked, judged and answered as every opcode is, unless it is accepted. -/
theorem opcode_unaccepted {i : Instr} {op blk : Nat} {c : CmdIn} (h : Claim.opcodeOf i = some (op, blk, c)) :
    ∃ masks body, ∀ s : State, (s.judge op blk masks body c).status ≠ stOk → exec i s = .next (runCmd op blk masks body c s) := by
  cases i <;> cases h
  case seqEpoch => exact ⟨_, _, fun _ => seqEpoch_unaccepted⟩
  case lwMaskFill => exact ⟨_, _, fun _ => lwMaskFill_unaccepted⟩
  case dchWrite => exact ⟨_, _, fun _ => dchWrite_unaccepted⟩
  case pmonRead => exact ⟨_, _, fun _ => pmonRead_unaccepted⟩
  all_goals exact ⟨_, _, fun _ _ => rfl⟩

/-- An opcode that the common checks find not ready is answered so, whatever it is, and does nothing else. -/
theorem opcode_notReady {i : Instr} {op blk : Nat} {c : CmdIn} {s : State} (h : Claim.opcodeOf i = some (op, blk, c))
    (hnot : ∀ masks, s.refusal op blk masks c.words = some stNotReady) : ∃ t, exec i s = .next t ∧ Done op 1 [] [] c s s t := by
  obtain ⟨masks, body, hexec⟩ := opcode_unaccepted h
  have hjudge : s.judge op blk masks body c = .refuse stNotReady 0 := by
    have := hnot (masks c.words)
    simp only [CmdIn.words] at this
    simp only [State.judge, this]
  refine ⟨_, hexec s ?_, runCmd_refused_done hjudge (opcode_lt h) (by decide)⟩
  rw [hjudge]
  decide

theorem beforeReady_holds : Claim.beforeReady := by
  rintro i op blk c s ⟨hop, hphase, hident, hstatus⟩
  exact opcode_notReady hop fun masks => by simp [State.refusal, hphase, hident, hstatus]

theorem duringEntry_holds : Claim.duringEntry := by
  rintro i op blk c s d ⟨hop, hentry, hpwr⟩
  have hentering : s.entering = true := by simp [State.entering, hentry]
  have hrange : (decide (0xD0 ≤ op) && decide (op ≤ 0xD3)) = false := by
    rw [Bool.and_eq_false_iff, decide_eq_false_iff_not, decide_eq_false_iff_not]
    omega
  exact opcode_notReady hop fun masks => by simp [State.refusal, hentering, hrange]

/-- A block whose domain is off, or that needs clk_fab while it is stopped, cannot be reached (R20, R457). -/
theorem reach_of_off {s : State} {blk : Nat} (h : s.domainOn (domainOf blk) = false ∨ (2 ≤ domainOf blk ∧ s.fabRuns = false)) :
    s.reach blk = false := by
  rcases h with h | ⟨hdom, hfab⟩
  · simp [State.reach, h]
  · simp only [State.reach, hfab, Bool.or_false, Bool.and_eq_false_iff, decide_eq_false_iff_not]
    omega

theorem unreachable_holds : Claim.unreachable := by
  rintro i op blk c s ⟨hop, hoff⟩
  exact opcode_notReady hop fun masks => by simp [State.refusal, reach_of_off hoff]

end Sys2Proof.Machine

namespace Sys2Proof.Proofs
open Sys2Proof.Machine

/-- Settles O37: each of the three conditions is one of the checks that come before an opcode's own, and what they refuse is
answered and does nothing else. -/
theorem opcodesNotReady : Obligations.OpcodesNotReady := by
  unfold Obligations.OpcodesNotReady
  exact ⟨beforeReady_holds, duringEntry_holds, unreachable_holds⟩

end Sys2Proof.Proofs
end

section
/-! SUPPORT. Register fields stored in any block: what an event that stores them leaves, what an opcode does, and how a register reads
by its fields. -/

namespace Sys2Proof.Machine
open Reg

/-! ### Fields stored, seen from the registers -/

section
variable {s t u : State} {l : List (Fld × Nat)}

/-- A flag of one bit that is raised reads 1. -/
theorem raise_flag_regs {f : Fld} (hf : f.w = 1) : (s.raise f 1).regs = (s.set f 1).regs := by
  have hbit : (s.get f ||| 1) % 2 ^ f.w = 1 % 2 ^ f.w := by
    rw [hf, Nat.or_mod_two_pow]
    rcases Nat.mod_two_eq_zero_or_one (s.get f) with h | h <;> simp [h]
  exact congrArg (kput f.key · s.regs) hbit
theorem get_raise_flag {f : Fld} (hf : f.w = 1) : (s.raise f 1).get f = 1 := by
  have h : (s.raise f 1).get f = (s.set f 1).get f := by rw [State.get, raise_flag_regs hf, State.get]
  rw [h, State.get_set_same, hf]
  rfl

/-- Where the registers are those of the fields stored, each of these reads as it was stored. -/
theorem get_of_puts (hr : t.regs = (s.puts l).regs) (hn : (l.map fun p => p.1.key).Nodup) {f : Fld} {v : Nat} (hp : (f, v) ∈ l) :
    t.get f = v % 2 ^ f.w := by
  rw [State.get, hr, ← State.get, get_puts hn hp]

/-- Registers that are alike read alike. -/
theorem get_of_regs (hr : t.regs = s.regs) (f : Fld) : t.get f = s.get f := by rw [State.get, hr, State.get]
end

/-! ### Opcodes -/

section
variable {op blk st : Nat} {masks : List Nat → List Nat} {body : State → List Nat → CmdRes} {c : CmdIn} {s u s' : State}
  {d : List Nat} {l : List (Fld × Nat)}

/-- An opcode that changes nothing is answered and does nothing else. -/
theorem runCmd_unchanged (hj : s.judge op blk masks body c = .done st d s) (hop : op < 256) (hst : st < 256) :
    Done op st d [] c s s (runCmd op blk masks body c s) := runCmd_only hj hop hst (Only.refl _ s) rfl rfl

/-- An opcode that stores fields, none of them a field of the answer: each reads as it was stored, and beside them only what `u`
says has changed. -/
theorem runCmd_puts (hj : s.judge op blk masks body c = .done st d s') (hop : op < 256) (hst : st < 256)
    (hr : s'.regs = (s.puts l).regs) (hu : s' = butNotes u s') (hcmd : u.cmd = s.cmd) (hout : u.out = s.out)
    (hn : ((l.map fun p => p.1.key) ++ lastF.map Fld.key).Nodup) :
    (∀ {f : Fld} {v : Nat}, (f, v) ∈ l → (runCmd op blk masks body c s).get f = v % 2 ^ f.w)
      ∧ Done op st d (l.map Prod.fst) c s u (runCmd op blk masks body c s) := by
  refine ⟨fun {f v} hp => ?_, runCmd_only hj hop hst (Only.of_puts hr hu) hcmd hout⟩
  obtain ⟨hl, -, hdisjoint⟩ := List.nodup_append.1 hn
  have hlast : f.key ∉ lastF.map Fld.key := fun hm => hdisjoint _ (List.mem_map_of_mem (f := fun p => p.1.key) hp) _ hm rfl
  rw [(runCmd_done hj hop hst).2.1 f hlast]
  exact get_of_puts hr hl hp
end

/-! ### Windows -/

/-- The fields of a register, each with its lowest bit. -/
def fieldsOf (blk off : Nat) : List (Nat × Fld) :=
  (rows.filter fun r => r.at blk off).map fun r => (r.lo, ⟨key blk off r.lo, r.w, r.rst⟩)

/-- A register reads as its fields, each at its place. -/
theorem rawReg_eq (s : State) (blk off : Nat) :
    s.rawReg blk off = (fieldsOf blk off).foldl (fun v p => v + s.get p.2 * 2 ^ p.1) 0 := by
  rw [State.rawReg, fieldsOf, List.foldl_map]

section
variable {s t : State} {blk : Nat}
theorem onReg_reached (h : s.reach blk = true) (t : State) : s.onReg blk t = t := if_pos h
/-- A block that clk_fab serves can be reached where its domain is on and the clock runs. -/
theorem reach_of_running {d : Nat} (hd : s.domainOn d = true) (hfab : s.fabRuns = true) (hblk : domainOf blk = d) :
    s.reach blk = true := by simp [State.reach, hblk, hd, hfab]
theorem onCore_running (hd : s.domainOn 2 = true) (hfab : s.fabRuns = true) (t : State) : s.onCore t = t := by
  rw [State.onCore, State.onDom, if_pos hd, State.onFab, if_pos hfab]
/-- A field of value 0 is not on. -/
theorem off_of_get_zero {g : Fld} (h : s.get g = 0) : s.on g = false := by simp [State.on, h]
end

end Sys2Proof.Machine
end

section
/-! SUPPORT. Performance counters: what an occurrence adds, a clear, the write condition of a counter's control register, and the
snapshot (R478–R482). -/

namespace Sys2Proof.Machine
open Reg

/-! ### Occurrences -/

/-- Occurrences that a counter has taken in the present cycle (R480). -/
def State.pmonNow (s : State) : Vector Nat 8 := if s.pmon.nowAt = s.cyc then s.pmon.now else .replicate 8 0

/-- What is kept of a counter: its value, its occurrences in the present cycle, and its bit of PMON_WRAP. -/
def State.counter (s : State) (k : Fin 8) : Nat × Nat × Bool := (s.pmon.cnt[k], s.pmonNow[k], (s.get PMON_WRAP_WRAP).testBit k)

/-- A counter after `n` more occurrences (R479). -/
def counted (n : Nat) (c : Nat × Nat × Bool) : Nat × Nat × Bool := ((c.1 + n) % 2 ^ 48, c.2.1 + n, c.2.2 || decide (2 ^ 48 ≤ c.1 + n))

/-- A snapshot copy changes no counter and no bit of PMON_WRAP. -/
theorem pmonCopy_wrap (s : State) (k : Fin 8) : (s.pmonCopy k).get PMON_WRAP_WRAP = s.get PMON_WRAP_WRAP := by
  have hkeys : ∀ k : Fin 8, PMON_WRAP_WRAP.key ≠ (PMON_SCNTk_LO_COUNT k).key ∧ PMON_WRAP_WRAP.key ≠ (PMON_SCNTk_HI_COUNT k).key
      ∧ PMON_WRAP_WRAP.key ≠ (PMON_SCNTk_HI_WRAP k).key := by decide
  obtain ⟨hlo, hhi, hwrap⟩ := hkeys k
  rw [State.pmonCopy, State.setB, State.get_set_ne _ hwrap, State.get_set_ne _ hhi, State.get_set_ne _ hlo]
theorem pmonCopy_counter (s : State) (k j : Fin 8) : (s.pmonCopy k).counter j = s.counter j := by
  simp only [State.counter, pmonCopy_wrap]
  rfl

/-- Raising one counter's bit of PMON_WRAP leaves the others. -/
theorem testBit_raise_wrap (s : State) (k j : Fin 8) :
    ((s.raise PMON_WRAP_WRAP (2 ^ k.val)).get PMON_WRAP_WRAP).testBit j = ((s.get PMON_WRAP_WRAP).testBit j || decide (j = k)) := by
  have hget : (s.raise PMON_WRAP_WRAP (2 ^ k.val)).get PMON_WRAP_WRAP = (s.get PMON_WRAP_WRAP ||| 2 ^ k.val) % 2 ^ 8 :=
    State.get_set_same s PMON_WRAP_WRAP _
  rw [hget, Nat.testBit_mod_two_pow, Nat.testBit_or, Nat.testBit_two_pow]
  simp [j.isLt, Fin.ext_iff, eq_comm]

/-- The state in which a counter has taken occurrences, before a snapshot of the same cycle takes them too. -/
def State.pmonTaken (s : State) (k : Fin 8) (n : Nat) : State :=
  { (if 2 ^ 48 ≤ s.pmon.cnt[k] + n then s.raise PMON_WRAP_WRAP (2 ^ k.val) else s) with
    pmon := { s.pmon with cnt := s.pmon.cnt.set k ((s.pmon.cnt[k] + n) % 2 ^ 48), now := s.pmonNow.set k (s.pmonNow[k] + n), nowAt := s.cyc } }

theorem pmonBump_eq (s : State) (k : Fin 8) (n : Nat) :
    s.pmonBump k n = if s.pmon.snapAt = some s.cyc then (s.pmonTaken k n).pmonCopy k else s.pmonTaken k n := rfl

theorem pmonTaken_now (s : State) (k : Fin 8) (n : Nat) : (s.pmonTaken k n).pmonNow = s.pmonNow.set k (s.pmonNow[k] + n) := by
  rw [State.pmonNow, State.pmonTaken]
  split <;> exact if_pos rfl
theorem pmonTaken_wrap (s : State) (k j : Fin 8) (n : Nat) : ((s.pmonTaken k n).get PMON_WRAP_WRAP).testBit j
    = ((s.get PMON_WRAP_WRAP).testBit j || (decide (j = k) && decide (2 ^ 48 ≤ s.pmon.cnt[k] + n))) := by
  rw [State.pmonTaken]
  split
  next h => exact (testBit_raise_wrap s k j).trans (by rw [decide_eq_true h, Bool.and_true])
  next h => rw [decide_eq_false h, Bool.and_false, Bool.or_false]; rfl

/-- Occurrences reach the one counter they are counted in. -/
theorem pmonBump_counter (s : State) (k j : Fin 8) (n : Nat) :
    (s.pmonBump k n).counter j = if j = k then counted n (s.counter j) else s.counter j := by
  have htaken : (s.pmonTaken k n).counter j = if j = k then counted n (s.counter j) else s.counter j := by
    rw [State.counter, pmonTaken_now, pmonTaken_wrap]
    by_cases hj : j = k
    · subst hj
      simp [State.pmonTaken, counted, State.counter]
      rfl
    · have hne : k.val ≠ j.val := fun h => hj (Fin.ext h.symm)
      simp [State.pmonTaken, State.counter, hj, Vector.getElem_set_ne _ _ hne]
  rw [pmonBump_eq]
  split
  · rw [pmonCopy_counter, htaken]
  · exact htaken

/-- Occurrences counted by a list of different counters reach each of them once. -/
theorem foldl_bump_counter (p : Fin 8 → Bool) (n : Nat) (j : Fin 8) : ∀ (l : List (Fin 8)), l.Nodup → ∀ s : State,
    (l.foldl (fun t k => if p k then t.pmonBump k n else t) s).counter j
      = if j ∈ l ∧ p j = true then counted n (s.counter j) else s.counter j
  | [], _, s => by simp
  | k :: l, hl, s => by
    obtain ⟨hk, hl⟩ := List.nodup_cons.1 hl
    rw [List.foldl_cons, foldl_bump_counter p n j l hl]
    by_cases hj : j = k
    · subst hj
      by_cases hp : p j <;> simp [hp, hk, pmonBump_counter]
    · by_cases hp : p k <;> simp [hp, hj, pmonBump_counter]

/-- What `n` occurrences of an event of master `m` do to a counter (R478). -/
theorem pmonAdd_counter (s : State) (ev n m : Nat) (k : Fin 8) : (s.pmonAdd ev n m).counter k
    = if (s.on PMON_CTRL_RUN && s.fabRuns) = true ∧ s.pmonCounts ev m k.val = true then counted n (s.counter k) else s.counter k := by
  rw [State.pmonAdd]
  split
  next hrun =>
    rw [foldl_bump_counter (fun k => s.pmonCounts ev m k.val) n k [0, 1, 2, 3, 4, 5, 6, 7] (by decide)]
    have hall : ∀ k : Fin 8, k ∈ ([0, 1, 2, 3, 4, 5, 6, 7] : List (Fin 8)) := by decide
    simp only [hall, hrun, true_and]
  next hrun => rw [if_neg fun h => hrun h.1]

/-! ### What counting leaves alone -/

/-- `t` is `s` after counting: fields of `fs`, and what the counters hold, and the last snapshot is the same. -/
def Counting (fs : List Fld) (s t : State) : Prop :=
  SameRegs fs s t ∧ t = butNotes { s with pmon := t.pmon } t ∧ t.pmon.snapAt = s.pmon.snapAt

section
variable {fs : List Fld} {s t u : State}
theorem Counting.refl (fs : List Fld) (s : State) : Counting fs s s := ⟨.refl fs s, rfl, rfl⟩
theorem Counting.trans (h : Counting fs s t) (k : Counting fs t u) : Counting fs s u := by
  obtain ⟨hregs, honly, hsnap⟩ := h
  obtain ⟨kregs, konly, ksnap⟩ := k
  refine ⟨hregs.trans kregs, ?_, ksnap.trans hsnap⟩
  rw [honly] at konly
  exact konly
theorem Counting.cyc (h : Counting fs s t) : t.cyc = s.cyc :=
  (congrArg State.cyc h.2.1).trans rfl

/-- The fields that a snapshot's cycle may still change. -/
def SnapIn (fs : List Fld) : Prop :=
  ∀ k : Fin 8, PMON_SCNTk_LO_COUNT k ∈ fs ∧ PMON_SCNTk_HI_COUNT k ∈ fs ∧ PMON_SCNTk_HI_WRAP k ∈ fs

theorem pmonCopy_counting (hfs : SnapIn fs) (s : State) (k : Fin 8) : Counting fs s (s.pmonCopy k) :=
  ⟨(((SameRegs.refl fs s).set (hfs k).1 _).set (hfs k).2.1 _).set (hfs k).2.2 _, rfl, rfl⟩
theorem pmonTaken_counting (hw : PMON_WRAP_WRAP ∈ fs) (s : State) (k : Fin 8) (n : Nat) : Counting fs s (s.pmonTaken k n) := by
  unfold State.pmonTaken
  split
  · exact ⟨((SameRegs.refl fs s).set hw (s.get PMON_WRAP_WRAP ||| 2 ^ k.val)).of_regs rfl, rfl, rfl⟩
  · exact ⟨(SameRegs.refl fs s).of_regs rfl, rfl, rfl⟩
theorem pmonBump_counting (hw : PMON_WRAP_WRAP ∈ fs) (hsnap : s.pmon.snapAt = some s.cyc → SnapIn fs) (k : Fin 8) (n : Nat) :
    Counting fs s (s.pmonBump k n) := by
  have htaken := pmonTaken_counting hw s k n
  rw [pmonBump_eq]
  split
  next h => exact htaken.trans (pmonCopy_counting (hsnap h) _ k)
  next => exact htaken

theorem foldl_bump_counting (p : Fin 8 → Bool) (n : Nat) (hw : PMON_WRAP_WRAP ∈ fs) : ∀ (l : List (Fin 8)) (s : State),
    (s.pmon.snapAt = some s.cyc → SnapIn fs) → Counting fs s (l.foldl (fun t k => if p k then t.pmonBump k n else t) s)
  | [], s, _ => .refl fs s
  | k :: l, s, hsnap => by
    have hstep : Counting fs s (if p k then s.pmonBump k n else s) := by
      split
      · exact pmonBump_counting hw hsnap k n
      · exact .refl fs s
    exact hstep.trans (foldl_bump_counting p n hw l _ (by rw [hstep.2.2, hstep.cyc]; exact hsnap))

/-- Counting changes PMON_WRAP, in the cycle of a snapshot the snapshot, and what the counters hold (R479, R482). -/
theorem pmonAdd_counting (hw : PMON_WRAP_WRAP ∈ fs) (hsnap : s.pmon.snapAt = some s.cyc → SnapIn fs) (ev n m : Nat) :
    Counting fs s (s.pmonAdd ev n m) := by
  rw [State.pmonAdd]
  split
  · exact foldl_bump_counting (fun k => s.pmonCounts ev m k.val) n hw _ s hsnap
  · exact .refl fs s
end

/-- Every field that counting may change. -/
def countF : List Fld :=
  PMON_WRAP_WRAP :: (List.finRange 8).flatMap fun (k : Fin 8) => [PMON_SCNTk_LO_COUNT k, PMON_SCNTk_HI_COUNT k, PMON_SCNTk_HI_WRAP k]
theorem snapIn_countF : SnapIn countF := fun k => by
  have hall : ∀ f ∈ [PMON_SCNTk_LO_COUNT k, PMON_SCNTk_HI_COUNT k, PMON_SCNTk_HI_WRAP k], f ∈ countF := fun f hf =>
    List.mem_cons_of_mem _ (List.mem_flatMap.2 ⟨k, List.mem_finRange k, hf⟩)
  exact ⟨hall _ (.head _), hall _ (.tail _ (.head _)), hall _ (.tail _ (.tail _ (.head _)))⟩

/-! ### Clear -/

/-- A clear keeps of each counter what it has taken in the present cycle (R480). -/
theorem pmonClear_counter (s : State) (k : Fin 8) : s.pmonClear.counter k = (s.pmonNow[k], s.pmonNow[k], false) := by
  have hwrap : s.pmonClear.get PMON_WRAP_WRAP = 0 := State.get_set_same s PMON_WRAP_WRAP 0
  simp only [State.counter, hwrap, Nat.zero_testBit]
  rfl
theorem pmonClear_cnt (s : State) (k : Fin 8) : s.pmonClear.pmon.cnt[k] = s.pmonNow[k] := congrArg Prod.fst (pmonClear_counter s k)

/-- PMON_CLR where the block can be reached. -/
theorem execPmonClr_reached {s : State} (hd : s.domainOn 2 = true) (hfab : s.fabRuns = true) : exec .pmonClr s = .next s.pmonClear :=
  congrArg Host.Outcome.next (onReg_reached (reach_of_running hd hfab rfl) _)

theorem clearAll_holds : Claim.clearAll := by
  rintro s ⟨hd, hfab⟩
  refine ⟨_, execPmonClr_reached hd hfab, fun k => ?_, State.get_set_same s PMON_WRAP_WRAP 0⟩
  rw [pmonClear_cnt, State.pmonNow]
  split
  · rfl
  · exact Vector.getElem_replicate _

theorem pmonClear_sameRegs (s : State) : SameRegs [PMON_WRAP_WRAP] s s.pmonClear := (SameRegs.refl _ s).set (.head _) 0

/-- A clear leaves what is counted as it was. -/
theorem pmonClear_counts (s : State) (ev m : Nat) (k : Fin 8) : s.pmonClear.pmonCounts ev m k = s.pmonCounts ev m k := by
  have hkeys : ∀ k : Fin 8, PMON_CNTk_CTRL_EN k ≠ PMON_WRAP_WRAP ∧ (PMON_CNTk_CTRL_EN k).key ∉ [PMON_WRAP_WRAP].map Fld.key
      ∧ (PMON_CNTk_CTRL_EVENT k).key ∉ [PMON_WRAP_WRAP].map Fld.key ∧ (PMON_CNTk_CTRL_MFILT k).key ∉ [PMON_WRAP_WRAP].map Fld.key
      ∧ (PMON_CNTk_CTRL_MASTER k).key ∉ [PMON_WRAP_WRAP].map Fld.key := by decide
  obtain ⟨-, hen, hevent, hfilt, hmaster⟩ := hkeys k
  have hsame := pmonClear_sameRegs s
  simp only [State.pmonCounts, State.on, hsame _ hen, hsame _ hevent, hsame _ hfilt, hsame _ hmaster]

theorem clearThenCount_holds : Claim.clearThenCount := by
  rintro s k ev n m ⟨hd, hfab, hrun, hcounts, hn, hcyc⟩
  have hnow : s.pmonNow[k] = 0 := by
    rw [State.pmonNow, if_neg hcyc]
    exact Vector.getElem_replicate _
  have hon : s.on PMON_CTRL_RUN = true := on_of_get_one hrun
  have hsame := pmonClear_sameRegs s
  have hon' : s.pmonClear.on PMON_CTRL_RUN = true := on_of_get_one ((hsame _ (by decide)).trans hrun)
  have hfab' : s.pmonClear.fabRuns = true := (hsame.fabRuns (by decide)).trans hfab
  constructor
  · refine ⟨_, execPmonClr_reached hd hfab, ?_⟩
    have h := congrArg Prod.fst (pmonAdd_counter s.pmonClear ev n m k)
    rw [pmonClear_counts, hon', hfab', hcounts, if_pos ⟨rfl, rfl⟩, pmonClear_counter, hnow] at h
    exact h.trans (by simpa [counted] using Nat.mod_eq_of_lt hn)
  · have hadd : Counting countF s (s.pmonAdd ev n m) := pmonAdd_counting (.head _) (fun _ => snapIn_countF) ev n m
    refine ⟨_, execPmonClr_reached ((hadd.1.domainOn (by decide) 2).trans hd) ((hadd.1.fabRuns (by decide)).trans hfab), ?_⟩
    have h := congrArg (fun c => c.2.1) (pmonAdd_counter s ev n m k)
    rw [hon, hfab, hcounts, if_pos ⟨rfl, rfl⟩] at h
    rw [pmonClear_cnt]
    exact h.trans (by simp [counted, State.counter, hnow])

theorem disabledKeeps_holds : Claim.disabledKeeps := by
  intro s k ev n m hen
  have hcounts : s.pmonCounts ev m k.val = false := by simp [State.pmonCounts, off_of_get_zero hen]
  have h := congrArg Prod.fst (pmonAdd_counter s ev n m k)
  rwa [hcounts, if_neg fun h => absurd h.2 Bool.false_ne_true] at h

theorem counterWrap_holds : Claim.counterWrap := by
  rintro s k ev n m ⟨hfab, hrun, hcounts, hsnap⟩
  have hon : s.on PMON_CTRL_RUN = true := on_of_get_one hrun
  have h := pmonAdd_counter s ev n m k
  rw [hon, hfab, hcounts, if_pos ⟨rfl, rfl⟩] at h
  have hwrap : ((s.pmonAdd ev n m).get PMON_WRAP_WRAP).testBit k.val
      = ((s.get PMON_WRAP_WRAP).testBit k.val || decide (2 ^ 48 ≤ s.pmon.cnt[k] + n)) := congrArg (fun c => c.2.2) h
  have hadd : Counting [PMON_WRAP_WRAP] s (s.pmonAdd ev n m) := pmonAdd_counting (.head _) (fun h => absurd h hsnap) ev n m
  refine ⟨congrArg Prod.fst h, fun hge => ?_, fun hlt _ => ?_, fun i hi => ?_, hadd.1, hadd.2.1⟩
  · rw [hwrap, decide_eq_true hge, Bool.or_true]
  · rw [hwrap, decide_eq_false (Nat.not_le.2 hlt), Bool.or_false]
  · have hbit := congrArg (fun c => c.2.2) (pmonAdd_counter s ev n m i)
    split at hbit
    · exact hbit.trans (by simp [counted, State.counter, hi])
    · exact hbit.trans hi

/-! ### The control register of a counter -/

/-- Nothing is counted while RUN = 0 (R480). -/
theorem pmonIo_stopped {s : State} (h : s.on PMON_CTRL_RUN = false) (m : Master) (write : Bool) (bytes : Nat) :
    s.pmonIo m write bytes = s := by
  have hadd (ev n mid : Nat) : s.pmonAdd ev n mid = s := by simp [State.pmonAdd, h]
  unfold State.pmonIo
  split
  · rfl
  · rfl
  · simp only [hadd, ite_self]

/-- A word written by the management processor or the command interface to a register of a block that can be reached, with no half
held and the counters stopped, is that register's write alone (R5, R20, R390). -/
theorem windowWrite_reached {s : State} {m : Master} {a blk off : Nat} (hm : m = .mgmt ∨ m = .cmd) (ha : regionOf a = .window blk off)
    (halign : a % 4 = 0) (hreach : s.reach blk = true) (hblk : blk ≠ 2) (hheld : NoHeld s) (hrun : s.on PMON_CTRL_RUN = false)
    (v : Nat) : s.windowWrite m a 4 v = s.writeReg m blk off v := by
  have hcomb : s.comb m = none := by rcases hm with rfl | rfl <;> simp [State.comb, hheld]
  have hmay : s.mayAccess m true a = true := by
    unfold State.mayAccess
    rw [ha]
    rcases hm with rfl | rfl <;> rfl
  have hrel : s.release m = s := by simp [State.release, hcomb]
  simp only [State.windowWrite, ha, hmay, hreach, hrel, pmonIo_stopped hrun]
  simp [halign, hblk]

/-- Where a counter's control register lies (23, register map). -/
theorem cntCtrl_region : ∀ k : Fin 8, (BitVec.ofNat 40 (0x40130100 + 0x10 * k.val)).toNat = 0x40130100 + 0x10 * k.val
    ∧ regionOf (0x40130100 + 0x10 * k.val) = .window 19 (0x100 + 0x10 * k.val) ∧ (0x40130100 + 0x10 * k.val) % 4 = 0 := by decide

/-- A write of PMON_CNTk_CTRL. -/
theorem putPmonReg_counter (s : State) (k : Fin 8) (v : Nat) : s.putPmonReg (0x100 + 0x10 * k.val) v = s.putCounter k v := by
  have hoff : 0x100 ≤ 0x100 + 0x10 * k.val ∧ 0x100 + 0x10 * k.val < 0x180 ∧ (0x100 + 0x10 * k.val) % 0x10 = 0 := by omega
  have hk : (0x100 + 0x10 * k.val - 0x100) / 0x10 = k.val := by omega
  rw [State.putPmonReg, if_neg (by omega), if_neg (by omega), if_neg (by omega), if_pos hoff, hk]

/-- The fields of PMON_CNTk_CTRL, each with its part of a value. -/
def counterFields (k v : Nat) : List (Fld × Nat) :=
  [(PMON_CNTk_CTRL_EVENT k, fld v 0 8), (PMON_CNTk_CTRL_MASTER k, fld v 8 8), (PMON_CNTk_CTRL_MFILT k, fld v 16 1),
    (PMON_CNTk_CTRL_EN k, fld v 17 1)]
theorem pmonPut_eq (s : State) (k v : Nat) : s.pmonPut k v = s.puts (counterFields k v) := rfl
theorem counterFields_keys (k : Fin 8) (v : Nat) : ((counterFields k v).map (fun p => p.1.key) ++ lastF.map Fld.key).Nodup := by
  simp only [counterFields, List.map_cons, List.map_nil]
  revert k
  decide

/-- A value that is admitted keeps its EVENT, and is stored while EN = 0 (R478, R480). -/
theorem putCounter_of_ok {s : State} {k v : Nat} (hen : s.on (PMON_CNTk_CTRL_EN k) = false) (hok : pmonCtlOk v = true) :
    s.putCounter k v = s.pmonPut k v := by
  have hevent : pmonEvents.contains (fld v 0 8) = true := by
    rw [pmonCtlOk, Bool.and_eq_true] at hok
    exact hok.1
  have hv : v / 256 * 256 + fld v 0 8 = v := by
    simp only [fld]
    omega
  simp only [State.putCounter, hevent, if_true, hv, hen, hok, Bool.not_true, Bool.or_false, Bool.false_eq_true, if_false]

theorem counterWrite_holds : Claim.counterWrite := by
  rintro s k m v ⟨hm, hreach, hheld, hrun⟩
  obtain ⟨haddr, hregion, halign⟩ := cntCtrl_region k
  have hexec : exec (.registerWrite m (BitVec.ofNat 40 (0x40130100 + 0x10 * k.val)) 4 v) s = .next (s.putCounter k v.toNat) := by
    show execRegisterWrite m _ 4 v s = _
    rw [execRegisterWrite, haddr,
      windowWrite_reached hm hregion halign hreach (by decide) hheld (off_of_get_zero hrun), ← putPmonReg_counter]
    rfl
  rw [hexec]
  constructor
  · intro hen
    rw [State.putCounter, on_of_get_one hen]
    rfl
  · intro hen hok
    rw [putCounter_of_ok (off_of_get_zero hen) hok, pmonPut_eq]
    have hget {p : Fld × Nat} (hp : p ∈ counterFields k v.toNat) : (s.puts (counterFields k v.toNat)).get p.1 = p.2 % 2 ^ p.1.w :=
      get_puts (List.nodup_append.1 (counterFields_keys k _)).1 hp
    have hfld (lo w : Nat) : fld v.toNat lo w % 2 ^ w = fld v.toNat lo w := Nat.mod_mod _ _
    refine ⟨_, rfl, (hget (.head _)).trans ?_, (hget (.tail _ (.head _))).trans ?_, (hget (.tail _ (.tail _ (.head _)))).trans ?_,
      (hget (.tail _ (.tail _ (.tail _ (.head _))))).trans ?_, Only.of_puts (l := counterFields k v.toNat) rfl (puts_butNotes _ _)⟩
    · exact (hfld 0 8).trans (by simp [fld])
    · exact hfld 8 8
    · exact hfld 16 1
    · exact hfld 17 1

end Sys2Proof.Machine

namespace Sys2Proof.Proofs
open Sys2Proof.Machine

/-- Settles O39: a clear keeps of a counter what it took in the clear's own cycle, so the order of the two does not matter; a control
register is stored while its EN = 0; and a disabled counter is not among those that take an occurrence. -/
theorem counterClear : Obligations.CounterClear := by
  unfold Obligations.CounterClear
  exact ⟨clearAll_holds, clearThenCount_holds, counterWrite_holds, disabledKeeps_holds⟩

end Sys2Proof.Proofs
end

section
/-! SUPPORT. The counterexample to the clause of BootAndMonitor on a flash that is not accepted (R341). -/

namespace Sys2Proof.Machine
open Reg

/-- A range of memory that is written leaves what the management processor holds. -/
theorem writeOpen_mgmt (s : State) (a n : Nat) : (s.writeOpen a n).mgmt = s.mgmt :=
  (congrArg State.mgmt (writeRange_freed s a _).2).trans rfl

/-- The selection of the I/O banks leaves what the management processor holds. -/
theorem selectBanks_mgmt (s : State) (b : BootIn) : (s.selectBanks b).mgmt = s.mgmt := by
  unfold State.selectBanks
  split <;> rfl

/-- A boot that does not accept the flash leaves the mark of an accepted one as it was. -/
theorem boot_rejected_flashOk {s t : State} {b : BootIn} (hlock : s.get SYS_CLK_STATUS_MGMT_LOCK = 0)
    (hflash : flashAccepted b = false) (h : exec (.boot b) s = .next t) : t.mgmt.flashOk = s.mgmt.flashOk := by
  change execBoot b s = _ at h
  rw [execBoot, off_of_get_zero hlock, hflash] at h
  rw [← Host.Outcome.next.inj h]
  simp [State.enterFault, State.setMgmt, writeOpen_mgmt, selectBanks_mgmt]

end Sys2Proof.Machine

namespace Sys2Proof.Proofs
open Sys2Proof.Machine Sys2Proof.Machine.Reg

/-- A device whose management PLL is not locked, with the mark of an accepted flash set. -/
def flashMarked : State := State.reset.setMgmt fun m => { m with flashOk := true }
/-- A flash without an SFDP table. -/
def noTable : BootIn := ⟨false, 4096, true, 256, false, false, 3300, 3300, 0, true⟩

/-- The counterexample meets the hypotheses of the clause. -/
theorem flashMarked_pre : Claim.preBootRejected flashMarked noTable := by decide

/-- The clause on a flash that is not accepted fails: it says that no flash counts as accepted then. -/
theorem not_bootRejected : ¬ Claim.bootRejected := by
  intro h
  obtain ⟨t, hexec, -, hnot, -⟩ := h _ _ flashMarked_pre
  have hmark := boot_rejected_flashOk flashMarked_pre.1 (by decide) hexec
  rw [hnot] at hmark
  exact absurd hmark (by decide)

/-- Refutes O9: the clause on a flash that is not accepted asks only that the management PLL be unlocked and says that no flash counts
as accepted afterwards. BOOT enters FAULT and leaves that mark as it was; a state in which it is set already is not excluded. -/
theorem not_bootAndMonitor : ¬ Obligations.BootAndMonitor := by
  unfold Obligations.BootAndMonitor
  rintro ⟨-, hrejected, -⟩
  exact not_bootRejected hrejected

end Sys2Proof.Proofs
end

section
/-! SUPPORT. The counterexample to the clause of Housekeeping on the first code of an RTD pair: an excitation that is enabled while its
slot runs (R416, R426). -/

namespace Sys2Proof.Proofs
open Sys2Proof.Machine Sys2Proof.Machine.Reg

/-- The conversion under way: the first of a pair in slot 0, past its settling delay. -/
def firstOfPair : HkAct := { hkFresh false 0 0 with settling := false, discard := false }

/-- Slot 0 converts RTD 0 with excitation 0, which has been enabled since the slot began: HK_RTD_STAT.ON is clear until the next
settling delay. -/
def enabledInSlot : State :=
  (withRegs [(PWR_STATUS_DOMAIN_ON, 0x3F), (HK_SLOTs_CFG_CFG 0, 0x10000), (HK_SLOTs_IN_IN 0, 3), (HK_RTD_CTRL_EN, 1)]).setHk fun h =>
    { h with act := some firstOfPair }

/-- Codes of 5 and 6 whose checks pass. -/
def pairCodes : HkSample := ⟨⟨5, 900, 900, false, false⟩, ⟨6, 900, 900, false, false⟩⟩

/-- The counterexample meets the hypotheses of the clause. -/
theorem enabledInSlot_pre : Claim.preHkPairFirst enabledInSlot pairCodes firstOfPair := by decide

/-- The half does not convert while its excitation is not driven, so no code is remembered. -/
theorem enabledInSlot_first {t : State} (h : exec (.hkConversionComplete pairCodes) enabledInSlot = .next t) :
    t.hk.act.map (·.first0) = some none := by
  rw [← Host.Outcome.next.inj h]
  decide

/-- The clause on the first code of a pair fails: it says that the code is remembered. -/
theorem not_hkPairFirst : ¬ Claim.hkPairFirst := by
  intro h
  obtain ⟨t, hexec, hact, -⟩ := h _ _ _ enabledInSlot_pre
  have hnone := enabledInSlot_first hexec
  rw [hact] at hnone
  exact absurd hnone (by decide)

/-- Refutes O14: the clause on the first code of a pair asks that the excitation may be driven, not that it is. An excitation is
driven from the settling delay on (R426); one that is enabled after its slot began is not, its half does not convert (R416), and no
code is remembered. -/
theorem not_housekeeping : ¬ Obligations.Housekeeping := by
  unfold Obligations.Housekeeping
  rintro ⟨-, -, -, -, -, hfirst, -⟩
  exact not_hkPairFirst hfirst

end Sys2Proof.Proofs
end

section
/-! SUPPORT. The counterexample to the clause of MemorySystem on a correctable word that the scrubber finds: a word of a running
engine's memory (R392). -/

namespace Sys2Proof.Proofs
open Sys2Proof.Machine Sys2Proof.Machine.Reg

/-- One word of a pass is left, the first of engine 0's memory. -/
def lastWord : Pass := ⟨0x2000000, 1, 0, 0, 0, none, none⟩

/-- Engine 0 runs, the word has one wrong bit, and the scrubber has waited its 16 cycles. -/
def scrubsRunning : State :=
  let s := withRegs [(PWR_STATUS_DOMAIN_ON, 0x3F), (SYS_CLK_STATUS_FAB_RUN, 1), (ENG_DEk_STAT_STATE 0, engRunning)]
  { s.setScrub fun r => { r with pass := some lastWord, wait := 16 } with
    mem := putBytes 0x2000000 (List.replicate 8 0) []
    ecc := [(0x2000000, false)] }

/-- The counterexample meets the hypotheses of the clause. -/
theorem scrubsRunning_pre : Claim.preScrubCe scrubsRunning lastWord := by decide

/-- Engine 0 was not held before, and waits the cycle that the scrubber takes. -/
theorem scrubsRunning_skip : (scrubsRunning.eng[(0 : Fin 16)]).skip = false := by decide
theorem scrubsRunning_waits {t : State} (h : exec .scrubWaitExpiry scrubsRunning = .next t) :
    (t.eng[(0 : Fin 16)]).skip = true := by
  rw [← Host.Outcome.next.inj h]
  decide

/-- The clause on a correctable word fails: it says that the engines stay as they were. -/
theorem not_scrubCe : ¬ Claim.scrubCe := by
  intro h
  obtain ⟨t, hexec, -, -, -, -, -, heng⟩ := h _ _ scrubsRunning_pre
  have hwaits := scrubsRunning_waits hexec
  rw [heng, scrubsRunning_skip] at hwaits
  exact Bool.false_ne_true hwaits

/-- Refutes O16: the clause on a correctable word that the scrubber finds after 16 cycles of waiting says that the engines stay as they
were. The scrubber takes the next cycle of the memory, and a running engine whose memory it is waits that cycle (R392). -/
theorem not_memorySystem : ¬ Obligations.MemorySystem := by
  unfold Obligations.MemorySystem
  rintro ⟨-, -, -, -, -, -, -, -, -, -, -, -, -, -, -, -, -, -, -, -, -, -, -, -, -, -, hce, -⟩
  exact not_scrubCe hce

end Sys2Proof.Proofs
end

section
/-! SUPPORT. The counterexample to the clause of EmitterDrive on the thermal shutdown of a sink: an event that the boot ROM holds
(R343). -/

namespace Sys2Proof.Proofs
open Sys2Proof.Machine Sys2Proof.Machine.Reg

/-- The reset state meets the hypotheses of the clause: phase ROM, PD_MGMT on, and sink 0 read at 150.0 °C. -/
theorem romTrip_pre : Claim.preSinkTrip State.reset 0 1500 := by decide

/-- The boot ROM holds the event: no record is entered, and the next sequence number stays 0. -/
theorem romTrip_log {t : State} (h : exec (.sinkTemperatureRead 0 1500) State.reset = .next t) : t.get MGMT_LOG_SEQ_NEXT = 0 := by
  rw [← Host.Outcome.next.inj h]
  decide

/-- The clause on the thermal shutdown fails: it says that a record of the event log has been entered. -/
theorem not_sinkTrip : ¬ Claim.sinkTrip := by
  intro h
  obtain ⟨t, hexec, -, -, -, -, -, -, -, hlog, -⟩ := h _ _ _ romTrip_pre
  rw [romTrip_log hexec] at hlog
  exact absurd hlog (by decide)

/-- Refutes O12: the clause on the thermal shutdown of a sink asks only that PD_MGMT be on, and says that the event log's sequence number
counts up. Before INIT and in FAULT the boot ROM holds an event (R343), and no record enters the ring until firmware runs. -/
theorem not_emitterDrive : ¬ Obligations.EmitterDrive := by
  unfold Obligations.EmitterDrive
  rintro ⟨-, -, htrip, -⟩
  exact not_sinkTrip htrip

end Sys2Proof.Proofs
end

section
/-! SUPPORT. Snapshots, bandwidth windows and the opcodes of the performance counters (R481–R486). -/

namespace Sys2Proof.Machine
open Reg

/-! ### Snapshots (R482) -/

/-- What a snapshot stores of one counter. -/
def snapCounter (s : State) (k : Fin 8) : List (Fld × Nat) :=
  [(PMON_SCNTk_LO_COUNT k, s.pmon.cnt[k]), (PMON_SCNTk_HI_COUNT k, s.pmon.cnt[k] / 2 ^ 32),
    (PMON_SCNTk_HI_WRAP k, ((s.get PMON_WRAP_WRAP).testBit k).toNat)]
/-- What a snapshot stores beside the counters. -/
def snapRest (s : State) : List (Fld × Nat) :=
  [(PMON_SCYC_LO_CYC, s.pmonCyc), (PMON_SCYC_HI_CYC, s.pmonCyc / 2 ^ 32), (PMON_STATUS_SNAP_DONE, 1)]
/-- Everything that a snapshot stores. -/
def snapFields (s : State) : List (Fld × Nat) := (List.finRange 8).flatMap (snapCounter s) ++ snapRest s

theorem pmonCopy_eq {s t : State} (hpmon : t.pmon = s.pmon) (hwrap : t.get PMON_WRAP_WRAP = s.get PMON_WRAP_WRAP) (k : Fin 8) :
    t.pmonCopy k = t.puts (snapCounter s k) := by
  rw [State.pmonCopy, hpmon, hwrap]
  rfl

/-- The copies of the counters one after another. -/
theorem foldl_pmonCopy {s : State} : ∀ (l : List (Fin 8)) (t : State), t.pmon = s.pmon → t.get PMON_WRAP_WRAP = s.get PMON_WRAP_WRAP →
    l.foldl (fun t k => t.pmonCopy k) t = t.puts (l.flatMap (snapCounter s))
  | [], _, _, _ => rfl
  | k :: l, t, hpmon, hwrap => by
    rw [List.foldl_cons, foldl_pmonCopy l (t.pmonCopy k) hpmon ((pmonCopy_wrap t k).trans hwrap), pmonCopy_eq hpmon hwrap,
      List.flatMap_cons, puts_append]

/-- The rest of a snapshot, once the counters are copied. -/
def State.snapClosed (s u : State) : State :=
  (((u.set PMON_SCYC_LO_CYC s.pmonCyc).set PMON_SCYC_HI_CYC (s.pmonCyc / 2 ^ 32)).raise PMON_STATUS_SNAP_DONE 1).setPmon fun p =>
    { p with snapAt := some s.cyc }
theorem snapClosed_regs (s u : State) : (s.snapClosed u).regs = (u.puts (snapRest s)).regs := raise_flag_regs rfl
theorem snapClosed_only {s u : State} (h : u = butNotes s u) :
    s.snapClosed u = butNotes { s with pmon := { s.pmon with snapAt := some s.cyc } } (s.snapClosed u) := by
  rw [h]
  rfl

theorem pmonSnap_eq (s : State) : s.pmonSnap = s.snapClosed (s.puts ((List.finRange 8).flatMap (snapCounter s))) := by
  rw [← foldl_pmonCopy (s := s) _ s rfl rfl]
  rfl
theorem pmonSnap_regs (s : State) : s.pmonSnap.regs = (s.puts (snapFields s)).regs := by
  rw [pmonSnap_eq, snapClosed_regs, snapFields, puts_append]
theorem pmonSnap_only (s : State) : s.pmonSnap = butNotes { s with pmon := { s.pmon with snapAt := some s.cyc } } s.pmonSnap := by
  rw [pmonSnap_eq]
  exact snapClosed_only (puts_butNotes s _)

theorem snapFields_keys (s : State) : ((snapFields s).map (fun p => p.1.key) ++ lastF.map Fld.key).Nodup := by
  have h : (snapFields s).map (fun p => p.1.key) = (snapFields State.reset).map fun p => p.1.key := rfl
  rw [h]
  decide
theorem snapFields_fields (s : State) : (snapFields s).map Prod.fst
    ⊆ [PMON_SCYC_LO_CYC, PMON_SCYC_HI_CYC, PMON_STATUS_SNAP_DONE]
      ++ (List.range 8).flatMap fun k => [PMON_SCNTk_LO_COUNT k, PMON_SCNTk_HI_COUNT k, PMON_SCNTk_HI_WRAP k] := by
  have h : (snapFields s).map Prod.fst = (snapFields State.reset).map Prod.fst := rfl
  rw [h]
  decide

theorem snapCounter_mem {s : State} {k : Fin 8} {p : Fld × Nat} (hp : p ∈ snapCounter s k) : p ∈ snapFields s :=
  List.mem_append_left _ (List.mem_flatMap.2 ⟨k, List.mem_finRange k, hp⟩)
theorem snapRest_mem {s : State} {p : Fld × Nat} (hp : p ∈ snapRest s) : p ∈ snapFields s := List.mem_append_right _ hp

/-- Each field of a snapshot reads as it was stored. -/
theorem pmonSnap_get {s : State} {f : Fld} {v : Nat} (hp : (f, v) ∈ snapFields s) : s.pmonSnap.get f = v % 2 ^ f.w :=
  get_of_puts (pmonSnap_regs s) (List.nodup_append.1 (snapFields_keys s)).1 hp

theorem pmonSnap_cyc (s : State) : s.pmonSnap.get PMON_SCYC_LO_CYC = s.pmonCyc % 2 ^ 32
    ∧ s.pmonSnap.get PMON_SCYC_HI_CYC = s.pmonCyc / 2 ^ 32 % 2 ^ 32 ∧ s.pmonSnap.get PMON_STATUS_SNAP_DONE = 1 :=
  ⟨pmonSnap_get (snapRest_mem (.head _)), pmonSnap_get (snapRest_mem (.tail _ (.head _))),
    pmonSnap_get (snapRest_mem (.tail _ (.tail _ (.head _))))⟩
theorem pmonSnap_counter (s : State) (k : Fin 8) : s.pmonSnap.get (PMON_SCNTk_LO_COUNT k) = s.pmon.cnt[k] % 2 ^ 32
    ∧ s.pmonSnap.get (PMON_SCNTk_HI_COUNT k) = s.pmon.cnt[k] / 2 ^ 32 % 2 ^ 16
    ∧ s.pmonSnap.get (PMON_SCNTk_HI_WRAP k) = ((s.get PMON_WRAP_WRAP).testBit k.val).toNat :=
  ⟨pmonSnap_get (snapCounter_mem (.head _)), pmonSnap_get (snapCounter_mem (.tail _ (.head _))),
    (pmonSnap_get (snapCounter_mem (.tail _ (.tail _ (.head _))))).trans (Nat.mod_eq_of_lt (Bool.toNat_lt _))⟩

/-- The rows before those of block 19. -/
def rowsBefore19 : List Row :=
  rows0 ++ rows1 ++ rows2 ++ rows3 ++ rows4 ++ rows5 ++ rows6 ++ rows7 ++ rows8 ++ rows9 ++ rows10 ++ rows11 ++ rows12 ++ rows13 ++
    rows14 ++ rows15 ++ rows16 ++ rows17 ++ rows18 ++ rows19
theorem rowsBefore19_blk : (rowsBefore19.all fun r => r.blk != 19) = true := by decide +kernel
theorem fieldsOf_19 (off : Nat) :
    fieldsOf 19 off = ((rows20 ++ rows21).filter fun r => r.at 19 off).map fun r => (r.lo, ⟨key 19 off r.lo, r.w, r.rst⟩) := by
  have hrows : rows = rowsBefore19 ++ (rows20 ++ rows21) := List.append_assoc _ _ _
  have hnone : (rowsBefore19.filter fun r => r.at 19 off) = [] := List.filter_eq_nil_iff.2 fun r hr => by
    simp [Row.at, bne_iff_ne.1 (List.all_eq_true.1 rowsBefore19_blk r hr)]
  rw [fieldsOf, hrows, List.filter_append, hnone, List.nil_append]

/-- The registers of the snapshot and their fields (23, register map). -/
theorem snap_registers (k : Fin 8) : fieldsOf 19 (0x208 + 8 * k.val) = [(0, PMON_SCNTk_LO_COUNT k)]
    ∧ fieldsOf 19 (0x20C + 8 * k.val) = [(0, PMON_SCNTk_HI_COUNT k), (16, PMON_SCNTk_HI_WRAP k)] := by
  simp only [fieldsOf_19]
  revert k
  decide
theorem snap_cycRegisters : fieldsOf 19 0x200 = [(0, PMON_SCYC_LO_CYC)] ∧ fieldsOf 19 0x204 = [(0, PMON_SCYC_HI_CYC)] := by
  simp only [fieldsOf_19]
  decide

/-- The words of a snapshot, as PMON_SNAPSHOT replies them. -/
def snapWords (s : State) : List Nat :=
  [s.pmonCyc % 2 ^ 32, s.pmonCyc / 2 ^ 32 % 2 ^ 32] ++ (List.finRange 8).flatMap fun k : Fin 8 =>
    [s.pmon.cnt[k] % 2 ^ 32, s.pmon.cnt[k] / 2 ^ 32 % 2 ^ 16 + 2 ^ 16 * ((s.get PMON_WRAP_WRAP).testBit k.val).toNat]

/-- A register of one field, and one of two. -/
theorem rawReg_one {s : State} {blk off : Nat} {f : Fld} (h : fieldsOf blk off = [(0, f)]) : s.rawReg blk off = s.get f := by
  rw [rawReg_eq, h]
  simp
theorem rawReg_two {s : State} {blk off n : Nat} {f g : Fld} (h : fieldsOf blk off = [(0, f), (n, g)]) :
    s.rawReg blk off = s.get f + 2 ^ n * s.get g := by
  rw [rawReg_eq, h]
  simp [Nat.mul_comm]

theorem pmonSnap_counterWords (s : State) (k : Fin 8) :
    [s.pmonSnap.rawReg 19 (0x208 + 8 * k.val), s.pmonSnap.rawReg 19 (0x20C + 8 * k.val)]
      = [s.pmon.cnt[k] % 2 ^ 32, s.pmon.cnt[k] / 2 ^ 32 % 2 ^ 16 + 2 ^ 16 * ((s.get PMON_WRAP_WRAP).testBit k.val).toNat] := by
  obtain ⟨hfirst, hsecond⟩ := snap_registers k
  obtain ⟨h0, h1, h2⟩ := pmonSnap_counter s k
  rw [rawReg_one hfirst, rawReg_two hsecond, h0, h1, h2]
theorem pmonSnap_cycWords (s : State) : [s.pmonSnap.rawReg 19 0x200, s.pmonSnap.rawReg 19 0x204]
    = [s.pmonCyc % 2 ^ 32, s.pmonCyc / 2 ^ 32 % 2 ^ 32] := by
  obtain ⟨hlo, hhi, -⟩ := pmonSnap_cyc s
  rw [rawReg_one snap_cycRegisters.1, rawReg_one snap_cycRegisters.2, hlo, hhi]
theorem snapWords_order (g : Nat → Nat) : ((List.range 18).map fun i => g (0x200 + 4 * i))
    = [g 0x200, g 0x204] ++ (List.finRange 8).flatMap fun k : Fin 8 => [g (0x208 + 8 * k.val), g (0x20C + 8 * k.val)] := rfl
theorem pmonSnap_words (s : State) : ((List.range 18).map fun i => s.pmonSnap.rawReg 19 (0x200 + 4 * i)) = snapWords s := by
  rw [snapWords_order (s.pmonSnap.rawReg 19), snapWords, pmonSnap_cycWords]
  simp only [pmonSnap_counterWords]

/-- PMON_SNAP_GO where the block can be reached. -/
theorem execPmonSnapGo_reached {s : State} (hd : s.domainOn 2 = true) (hfab : s.fabRuns = true) :
    exec .pmonSnapGo s = .next s.snapGo := congrArg Host.Outcome.next (onReg_reached (reach_of_running hd hfab rfl) _)

theorem pmonSnapGo_holds : Claim.pmonSnapGo := by
  rintro s ⟨hd, hfab, havail⟩
  obtain ⟨hlo, hhi, hdone⟩ := pmonSnap_cyc s
  rw [execPmonSnapGo_reached hd hfab, State.snapGo, if_pos havail]
  have honly := Only.of_puts (pmonSnap_regs s) (pmonSnap_only s)
  exact ⟨_, rfl, hlo, hhi, hdone, pmonSnap_counter s, honly.1.mono (snapFields_fields s), honly.2⟩

theorem pmonSnapNotAvailable_holds : Claim.pmonSnapNotAvailable := by
  rintro s ⟨hd, hfab, havail⟩
  rw [execPmonSnapGo_reached hd hfab, State.snapGo, havail]
  exact ⟨_, rfl, rfl⟩

theorem pmonClr_holds : Claim.pmonClr := by
  rintro s ⟨hd, hfab, hcyc⟩
  have hclear : s.pmonClear = (s.set PMON_WRAP_WRAP 0).setPmon fun p => { p with cnt := .replicate 8 0 } := by
    simp [State.pmonClear, State.setPmon, hcyc]
  rw [execPmonClr_reached hd hfab, hclear]
  exact ⟨_, rfl, State.get_set_same s PMON_WRAP_WRAP 0, Only.of_puts (l := [(PMON_WRAP_WRAP, 0)]) rfl rfl⟩

/-! ### Bandwidth windows (R484) -/

/-- PMON_BW_GO where the block can be reached. -/
theorem execPmonBwGo_reached {s : State} (hd : s.domainOn 2 = true) (hfab : s.fabRuns = true) :
    exec .pmonBwGo s = .next s.bwGo := congrArg Host.Outcome.next (onReg_reached (reach_of_running hd hfab rfl) _)

/-- A window that opens while none runs. -/
theorem bwGo_idle {s : State} (h : s.get PMON_STATUS_BW_BUSY = 0) : s.bwGo = (s.set PMON_STATUS_BW_BUSY 1).setPmon fun p =>
    { p with bw := .replicate 14 0, bw2 := .replicate 14 0, bwEnd := some (s.cyc + 1 + usCyc (s.get PMON_BW_CTRL_WIN)) } := by
  rw [State.bwGo, off_of_get_zero h]
  rfl
theorem bwGo_busy {s : State} (h : s.get PMON_STATUS_BW_BUSY = 1) : s.bwGo = s := by
  rw [State.bwGo, on_of_get_one h]
  rfl

theorem pmonBwGo_holds : Claim.pmonBwGo := by
  rintro s ⟨hd, hfab, hbusy⟩
  rw [execPmonBwGo_reached hd hfab, bwGo_idle hbusy]
  exact ⟨_, rfl, State.get_set_same s PMON_STATUS_BW_BUSY 1, rfl, Only.of_puts (l := [(PMON_STATUS_BW_BUSY, 1)]) rfl rfl⟩

theorem pmonBwGoBusy_holds : Claim.pmonBwGoBusy := by
  rintro s ⟨hd, hfab, hbusy⟩
  rw [execPmonBwGo_reached hd hfab, bwGo_busy hbusy]
  exact ⟨_, rfl, rfl⟩

/-- What the close of a window stores, whether the next one opens or not. -/
def closeFields (s : State) (cont : Bool) : List (Fld × Nat) :=
  [(PMON_BW_SEQ_COUNT, s.get PMON_BW_SEQ_COUNT + 1), (PMON_STATUS_BW_DONE, 1), (PMON_STATUS_BW_BUSY, cont.toNat)]
/-- A window that closes. -/
def State.bwClosed (s : State) (e : Nat) (cont : Bool) : State :=
  (((s.set PMON_BW_SEQ_COUNT (s.get PMON_BW_SEQ_COUNT + 1)).raise PMON_STATUS_BW_DONE 1).setB PMON_STATUS_BW_BUSY cont).setPmon fun p =>
    { p with res := p.bw, bw := p.bw2, bw2 := .replicate 14 0, bwEnd := if cont then some (e + 1 + usCyc (s.get PMON_BW_CTRL_WIN)) else none }

theorem execBandwidthWindowClose_due {s : State} {e : Nat} (hd : s.domainOn 2 = true) (hfab : s.fabRuns = true)
    (hend : s.pmon.bwEnd = some e) (hdue : e < s.cyc) : exec .bandwidthWindowClose s = .next (s.bwClosed e (s.on PMON_BW_CTRL_CONT)) := by
  have hpast : s.past e = true := decide_eq_true hdue
  show execBandwidthWindowClose s = _
  rw [execBandwidthWindowClose, onCore_running hd hfab, hend]
  simp only [hpast, if_true]
  rfl
theorem bwClosed_regs (s : State) (e : Nat) (cont : Bool) : (s.bwClosed e cont).regs = (s.puts (closeFields s cont)).regs :=
  congrArg (kput PMON_STATUS_BW_BUSY.key (cont.toNat % 2 ^ 1)) (raise_flag_regs rfl)
theorem bwClosed_get {s : State} {e : Nat} {cont : Bool} {f : Fld} {v : Nat} (hp : (f, v) ∈ closeFields s cont) :
    (s.bwClosed e cont).get f = v % 2 ^ f.w :=
  get_of_puts (bwClosed_regs s e cont) (by simp only [closeFields, List.map_cons, List.map_nil]; decide) hp

theorem bandwidthClose_holds : Claim.bandwidthClose := by
  rintro s e ⟨hd, hfab, hend, hdue, hcont⟩
  rw [execBandwidthWindowClose_due hd hfab hend hdue, off_of_get_zero hcont]
  exact ⟨_, rfl, bwClosed_get (.head _), bwClosed_get (.tail _ (.head _)), bwClosed_get (.tail _ (.tail _ (.head _))),
    Only.of_puts (bwClosed_regs s e false) rfl⟩

theorem bandwidthCloseCont_holds : Claim.bandwidthCloseCont := by
  rintro s e ⟨hd, hfab, hend, hdue, hcont⟩
  rw [execBandwidthWindowClose_due hd hfab hend hdue, on_of_get_one hcont]
  exact ⟨_, rfl, bwClosed_get (.head _), bwClosed_get (.tail _ (.head _)), bwClosed_get (.tail _ (.tail _ (.head _))),
    Only.of_puts (bwClosed_regs s e true) rfl⟩

theorem pmonCntLoRead_holds : Claim.pmonCntLoRead := by
  rintro s k ⟨hd, hfab⟩
  refine ⟨_, congrArg Host.Outcome.next (onReg_reached (reach_of_running hd hfab rfl) _), State.get_set_same s (PMON_CNTk_HI_COUNT k) _,
    Only.of_puts (l := [(PMON_CNTk_HI_COUNT k, s.pmon.cnt[k] / 2 ^ 32)]) rfl rfl⟩

end Sys2Proof.Machine
end

section
/-! SUPPORT. The opcodes of the performance counters (R486). -/

namespace Sys2Proof.Machine
open Reg

/-- The state that an opcode's body leaves names what the counters hold. -/
theorem Done.pmon {op st : Nat} {d : List Nat} {fs : List Fld} {c : CmdIn} {s t : State} {r : PmonRun}
    (h : Done op st d fs c s { s with pmon := r } t) : Done op st d fs c s { s with pmon := t.pmon } t := by
  have hr : t.pmon = r := congrArg State.pmon h.2.2
  rwa [hr]

/-! ### PMON_CONFIG -/

/-- Bits above the masked ones are 0. -/
theorem and_mask {v n : Nat} (h : v < 2 ^ n) : v &&& (2 ^ n - 1) = v := Nat.and_two_pow_sub_one_of_lt_two_pow h

theorem pmonConfig_judge {c : CmdIn} {s : State} {k v : Nat} (hready : Ready 19 s) (hwords : c.words = [k, v]) (hv : v < 2 ^ 18) :
    s.judge 0xE0 19 (fun _ => [full, 0x3FFFF]) pmonConfig c = pmonConfig s [k, v] := by
  have hk : k < 2 ^ 32 := words_mem_lt hwords k (.head _)
  have hform : paramsOk [full, 0x3FFFF] c.words = true := by
    simp only [hwords, paramsOk_cons]
    exact ⟨and_full hk, and_mask (n := 18) hv, paramsOk_nil⟩
  rw [judge_ready hready hform, hwords]

/-- A value is admitted where its event can be counted, and filtered only where that event can be (R478). -/
theorem pmonCtlOk_iff (v : Nat) : pmonCtlOk v = true ↔ v % 256 ∈ pmonEvents ∧ (v.testBit 16 = true → v % 256 ∈ pmonFiltered) := by
  have hfld : fld v 0 8 = v % 256 := by simp [fld]
  rw [pmonCtlOk, hfld, bit]
  cases v.testBit 16 <;> simp

theorem pmonConfig_holds : Claim.pmonConfig := by
  rintro c s k v ⟨hready, hwords, hv, hen, hevent, hfilter⟩
  have hok : pmonCtlOk v = true := (pmonCtlOk_iff v).2 ⟨hevent, hfilter⟩
  have hjudge : s.judge 0xE0 19 (fun _ => [full, 0x3FFFF]) pmonConfig c = .done stOk [] (s.puts (counterFields k v)) := by
    rw [pmonConfig_judge hready hwords hv, pmonConfig]
    simp only [par, List.getD_cons_zero, List.getD_cons_succ]
    rw [if_neg (by simp [hok]; omega), if_neg (by simp [off_of_get_zero hen]), pmonPut_eq]
    rfl
  obtain ⟨hget, hdone⟩ := runCmd_puts hjudge (by decide) (by decide) rfl (puts_butNotes _ _) rfl rfl (counterFields_keys k v)
  have hfld (lo w : Nat) : fld v lo w % 2 ^ w = fld v lo w := Nat.mod_mod _ _
  refine ⟨_, rfl, (hget (.head _)).trans ?_, (hget (.tail _ (.head _))).trans (hfld 8 8),
    (hget (.tail _ (.tail _ (.head _)))).trans (hfld 16 1), (hget (.tail _ (.tail _ (.tail _ (.head _))))).trans (hfld 17 1), hdone⟩
  exact (hfld 0 8).trans (by simp [fld])

theorem pmonConfigBad_holds : Claim.pmonConfigBad := by
  rintro c s k v ⟨hready, hwords, hv, hbad⟩
  have hnot : 7 < k ∨ (!pmonCtlOk v) = true := by
    rcases hbad with hk | hevent | ⟨hbit, hfilter⟩
    · exact .inl hk
    · exact .inr (by rw [Bool.not_eq_true', ← Bool.not_eq_true]; exact fun h => hevent ((pmonCtlOk_iff v).1 h).1)
    · exact .inr (by rw [Bool.not_eq_true', ← Bool.not_eq_true]; exact fun h => hfilter (((pmonCtlOk_iff v).1 h).2 hbit))
  have hjudge : s.judge 0xE0 19 (fun _ => [full, 0x3FFFF]) pmonConfig c = .refuse stBadParam 0 := by
    rw [pmonConfig_judge hready hwords hv, pmonConfig]
    exact if_pos hnot
  exact ⟨_, rfl, runCmd_refused_done hjudge (by decide) (by decide)⟩

theorem pmonConfigDenied_holds : Claim.pmonConfigDenied := by
  rintro c s k v ⟨hready, hwords, hv, hen, hevent, hother⟩
  have hsmall : ∀ e ∈ pmonEvents, e < 256 := by decide
  have hlt : v < 256 := hsmall v hevent
  have hbit : v.testBit 16 = false := Nat.testBit_lt_two_pow (by omega)
  have hok : pmonCtlOk v = true := (pmonCtlOk_iff v).2 ⟨by rwa [Nat.mod_eq_of_lt hlt], fun h => absurd (hbit.symm.trans h) Bool.false_ne_true⟩
  have hne : v % 2 ^ 17 ≠ s.rawReg 19 (0x100 + 0x10 * k.val) % 2 ^ 17 := by omega
  have hjudge : s.judge 0xE0 19 (fun _ => [full, 0x3FFFF]) pmonConfig c = .refuse stDenied 0 := by
    rw [pmonConfig_judge hready hwords (by omega), pmonConfig]
    simp only [par, List.getD_cons_zero, List.getD_cons_succ]
    rw [if_neg (by simp [hok]; omega), if_pos ⟨on_of_get_one hen, hne⟩]
    rfl
  exact ⟨_, rfl, runCmd_refused_done hjudge (by decide) (by decide)⟩

/-! ### PMON_SNAPSHOT -/

theorem pmonSnapshot_judge {c : CmdIn} {s : State} {p : Fin 4} (hready : Ready 19 s) (hwords : c.words = [p.val]) :
    s.judge 0xE1 19 (fun _ => [3]) pmonSnapshot c = pmonSnapshot s [p.val] := by
  have hform : paramsOk [3] c.words = true := by
    simp only [hwords, paramsOk_cons]
    exact ⟨and_mask (n := 2) p.isLt, paramsOk_nil⟩
  rw [judge_ready hready hform, hwords]

theorem pmonSnapshot_holds : Claim.pmonSnapshot := by
  rintro c s ⟨hready, hwords, havail⟩
  have hjudge : s.judge 0xE1 19 (fun _ => [3]) pmonSnapshot c = .done stOk (snapWords s) s.pmonSnap := by
    rw [pmonSnapshot_judge (p := 0) hready hwords, pmonSnapshot, havail, ← pmonSnap_words]
    rfl
  obtain ⟨hget, hdone⟩ := runCmd_puts hjudge (by decide) (by decide) (pmonSnap_regs s) (pmonSnap_only s) rfl rfl (snapFields_keys s)
  refine ⟨_, rfl, hget (snapRest_mem (.head _)), hget (snapRest_mem (.tail _ (.head _))),
    hget (snapRest_mem (.tail _ (.tail _ (.head _)))), fun k => ⟨hget (snapCounter_mem (.head _)),
    hget (snapCounter_mem (.tail _ (.head _)))⟩, hdone.mono (snapFields_fields s)⟩

/-- The fields that PMON_SNAPSHOT with CLEAR and RUN stores before its snapshot. -/
def clearRunFields : List (Fld × Nat) := [(PMON_WRAP_WRAP, 0), (PMON_CTRL_RUN, 1)]
/-- The counters cleared and started. -/
def State.pmonRestart (s : State) : State := s.pmonClear.set PMON_CTRL_RUN 1

theorem pmonRestart_cnt {s : State} (h : s.pmon.nowAt ≠ s.cyc) : s.pmonRestart.pmon.cnt = .replicate 8 0 := if_neg h
theorem pmonRestart_sameRegs (s : State) : SameRegs (clearRunFields.map Prod.fst) s s.pmonRestart :=
  (sameRegs_puts s clearRunFields).of_regs rfl
theorem pmonRestart_cyc (s : State) : s.pmonRestart.pmonCyc = s.pmonCyc := by
  simp only [State.pmonCyc, (pmonRestart_sameRegs s).fabRuns (by decide)]
  rfl
/-- A snapshot of counters that have just been cleared holds the time and zeros. -/
theorem pmonRestart_words {s : State} (h : s.pmon.nowAt ≠ s.cyc) :
    snapWords s.pmonRestart = [s.pmonCyc % 2 ^ 32, s.pmonCyc / 2 ^ 32 % 2 ^ 32] ++ List.replicate 16 0 := by
  have hwrap : s.pmonRestart.get PMON_WRAP_WRAP = 0 :=
    get_of_puts (s := s) (l := clearRunFields) rfl (by decide) (.head _)
  rw [snapWords, pmonRestart_cyc, pmonRestart_cnt h, hwrap]
  rfl

theorem clearSnap_keys (s : State) :
    ((clearRunFields ++ snapFields s).map (fun p => p.1.key) ++ lastF.map Fld.key).Nodup := by
  have h : (clearRunFields ++ snapFields s).map (fun p => p.1.key) = (clearRunFields ++ snapFields State.reset).map fun p => p.1.key := rfl
  rw [h]
  decide
theorem clearSnap_regs (s : State) :
    s.pmonRestart.pmonSnap.regs = (s.puts (clearRunFields ++ snapFields s.pmonRestart)).regs := by
  have hrestart : s.pmonRestart.regs = (s.puts clearRunFields).regs := rfl
  rw [pmonSnap_regs, puts_append, puts_regs, puts_regs, hrestart]
theorem clearSnap_only (s : State) :
    s.pmonRestart.pmonSnap = butNotes { s with pmon := s.pmonRestart.pmonSnap.pmon } s.pmonRestart.pmonSnap := by
  have h := pmonSnap_only s.pmonRestart
  have hp : s.pmonRestart.pmonSnap.pmon = { s.pmonRestart.pmon with snapAt := some s.cyc } := congrArg State.pmon h
  rw [hp]
  exact h
theorem clearSnap_fields (s : State) : (clearRunFields ++ snapFields s).map Prod.fst
    ⊆ [PMON_CTRL_RUN, PMON_WRAP_WRAP, PMON_SCYC_LO_CYC, PMON_SCYC_HI_CYC, PMON_STATUS_SNAP_DONE]
      ++ (List.range 8).flatMap fun k => [PMON_SCNTk_LO_COUNT k, PMON_SCNTk_HI_COUNT k, PMON_SCNTk_HI_WRAP k] := by
  have h : (clearRunFields ++ snapFields s).map Prod.fst = (clearRunFields ++ snapFields State.reset).map Prod.fst := rfl
  rw [h]
  decide

theorem pmonSnapshotClear_holds : Claim.pmonSnapshotClear := by
  rintro c s ⟨hready, hwords, havail, hcyc⟩
  have hjudge : s.judge 0xE1 19 (fun _ => [3]) pmonSnapshot c = .done stOk (snapWords s.pmonRestart) s.pmonRestart.pmonSnap := by
    rw [pmonSnapshot_judge (p := 3) hready hwords, pmonSnapshot, havail, ← pmonSnap_words]
    rfl
  obtain ⟨hget, hdone⟩ := runCmd_puts hjudge (by decide) (by decide) (clearSnap_regs s) (clearSnap_only s) rfl rfl
    (clearSnap_keys s.pmonRestart)
  rw [pmonRestart_words hcyc] at hdone
  have hcnt : (runCmd 0xE1 19 (fun _ => [3]) pmonSnapshot c s).pmon.cnt = s.pmonRestart.pmonSnap.pmon.cnt :=
    congrArg (fun t => t.pmon.cnt) hdone.2.2
  have hsnap : s.pmonRestart.pmonSnap.pmon.cnt = s.pmonRestart.pmon.cnt :=
    congrArg (fun t => t.pmon.cnt) (pmonSnap_only s.pmonRestart)
  refine ⟨_, rfl, hget (.tail _ (.head _)), hget (.head _), ?_, hget (v := 1) ?_, (hdone.mono (clearSnap_fields _)).pmon⟩
  · rw [hcnt, hsnap, pmonRestart_cnt hcyc]
  · exact List.mem_append_right _ (snapRest_mem (.tail _ (.tail _ (.head _))))

theorem pmonSnapshotNotReady_holds : Claim.pmonSnapshotNotReady := by
  rintro c s p ⟨hready, hwords, havail⟩
  have hjudge : s.judge 0xE1 19 (fun _ => [3]) pmonSnapshot c = .refuse stNotReady 0 := by
    rw [pmonSnapshot_judge hready hwords, pmonSnapshot, havail]
    rfl
  exact ⟨_, rfl, runCmd_refused_done hjudge (by decide) (by decide)⟩

/-! ### PMON_READ (R483) -/

theorem pmonRead_holds : Claim.pmonRead := by
  rintro c s ⟨hready, hwords, hread⟩
  have hform : paramsOk [0] c.words = true := by rw [hwords]; rfl
  have hjudge : s.judge 0xE2 19 (fun _ => [0]) pmonRead c = .done stOk [] s := judge_ready hready hform
  refine ⟨_, ?_, rfl⟩
  show execPmonRead c s = _
  rw [execPmonRead, hjudge, hread]
  rfl

theorem pmonSample_holds : Claim.pmonSample := by
  rintro s p c0 k ws ⟨hread, hlen⟩
  have hk : (ws.length - 2) / 2 = k.val := by omega
  have hidx : (Fin.ofNat 8 k.val).val = k.val := Nat.mod_eq_of_lt (by omega)
  refine ⟨_, rfl, fun hdue => ?_, fun hearly => ?_⟩
  · simp only [State.tickPmon, hread, hk, hidx]
    rw [if_neg (by omega), if_pos k.isLt]
    simp only [Fin.getElem_fin, hidx]
    rfl
  · simp only [State.tickPmon, hread, hk, hidx]
    rw [if_pos hearly]

theorem pmonReadEnd_holds : Claim.pmonReadEnd := by
  rintro c s p c0 ws ⟨hread, hlen, hdue, hsrc, htag⟩
  refine ⟨_, rfl, ?_⟩
  have hk : Fin.ofNat 8 ((ws.length - 2) / 2) = 7 := by rw [hlen]; rfl
  have hlate : ¬ s.cyc < c0 + 6 * ((7 : Fin 8).val + 1) := by
    have : (7 : Fin 8).val = 7 := rfl
    omega
  simp only [State.tickPmon, hread, hk, if_neg hlate]
  rw [if_neg (by decide), hsrc, htag]
  have hanswer := answer_spec (s.setPmon fun r => { r with read := none }) c (op := 0xE2) (st := stOk) 0
    (ws ++ [s.pmon.cnt[7] % 2 ^ 32, s.pmon.cnt[7] / 2 ^ 32, s.get PMON_WRAP_WRAP]) (by decide) (by decide)
  rw [List.append_assoc]
  exact hanswer

/-! ### PMON_BW (R484, R486) -/

/-- P0 of PMON_BW: WIN in its 20 bits and CONT in bit 24. -/
theorem bwParam_and {w cont : Nat} (hw : w < 2 ^ 20) (hcont : cont < 2) : (w + 2 ^ 24 * cont) &&& 0x010FFFFF = w + 2 ^ 24 * cont := by
  have hor : w + 2 ^ 24 * cont = 2 ^ 24 * cont ||| w := by
    rw [Nat.add_comm]
    exact Nat.two_pow_add_eq_or_of_lt (by omega) cont
  have hmask : (0x010FFFFF : Nat) = 2 ^ 24 ||| (2 ^ 20 - 1) := rfl
  have hhigh : 2 ^ 24 * cont &&& 0x010FFFFF = 2 ^ 24 * cont := by
    have : cont = 0 ∨ cont = 1 := by omega
    rcases this with rfl | rfl <;> rfl
  have hlow : w &&& 0x010FFFFF = w := by
    rw [hmask, Nat.and_or_distrib_left, and_mask hw, Nat.and_two_pow, Nat.testBit_lt_two_pow (by omega), Bool.toNat_false, Nat.zero_mul,
      Nat.zero_or]
  rw [hor, Nat.and_or_distrib_right, hhigh, hlow]

theorem pmonBw_judge {c : CmdIn} {s : State} {w cont : Nat} {p : Fin 2} (hready : Ready 19 s)
    (hwords : c.words = [w + 2 ^ 24 * cont, p.val]) (hw : w < 2 ^ 20) (hcont : cont < 2) :
    s.judge 0xE3 19 (fun _ => [0x010FFFFF, 1]) pmonBw c = pmonBw s [w + 2 ^ 24 * cont, p.val] := by
  have hform : paramsOk [0x010FFFFF, 1] c.words = true := by
    simp only [hwords, paramsOk_cons]
    exact ⟨bwParam_and hw hcont, and_mask (n := 1) p.isLt, paramsOk_nil⟩
  rw [judge_ready hready hform, hwords]

/-- PMON_BW by its parameters: WIN, CONT, and whether a window starts. -/
theorem pmonBw_eq {s : State} {w cont p : Nat} (hw : w < 2 ^ 20) (hcont : cont < 2) : pmonBw s [w + 2 ^ 24 * cont, p] =
    if !bwWinOk w then .bad
    else if bit p 0 then
      if s.on PMON_STATUS_BW_BUSY then .already s
      else .ok ((s.set PMON_BW_CTRL_WIN w).set PMON_BW_CTRL_CONT cont).bwGo
    else if s.get PMON_BW_SEQ_COUNT = 0 then .notReady
    else .data s (s.get PMON_BW_SEQ_COUNT :: s.pmon.res.toList.flatMap fun v => [v % 2 ^ 32, v / 2 ^ 32 % 256]) := by
  have hwin : fld (w + 2 ^ 24 * cont) 0 20 = w := by
    simp only [fld]
    omega
  have hfld : fld (w + 2 ^ 24 * cont) 24 1 = cont := by
    simp only [fld]
    omega
  simp only [pmonBw, par, List.getD_cons_zero, List.getD_cons_succ, hwin, hfld]

theorem bwWinOk_of_le {w : Nat} (h : 1 ≤ w) (h' : w ≤ 1000000) : bwWinOk w = true := by
  simp [bwWinOk, h, h']

/-- What PMON_BW stores when it starts a window. -/
def bwFields (w cont : Nat) : List (Fld × Nat) := [(PMON_BW_CTRL_WIN, w), (PMON_BW_CTRL_CONT, cont), (PMON_STATUS_BW_BUSY, 1)]
/-- A window of `w` µs that opens. -/
def State.bwStarted (s : State) (w cont : Nat) : State :=
  (s.puts (bwFields w cont)).setPmon fun p =>
    { p with bw := .replicate 14 0, bw2 := .replicate 14 0, bwEnd := some (s.cyc + 1 + w * 400) }

theorem bwGo_started {s : State} {w cont : Nat} (hw : w < 2 ^ 20) (hbusy : s.get PMON_STATUS_BW_BUSY = 0) :
    ((s.set PMON_BW_CTRL_WIN w).set PMON_BW_CTRL_CONT cont).bwGo = s.bwStarted w cont := by
  have hidle : ((s.set PMON_BW_CTRL_WIN w).set PMON_BW_CTRL_CONT cont).get PMON_STATUS_BW_BUSY = 0 := by
    rw [State.get_set_ne _ (by decide), State.get_set_ne _ (by decide), hbusy]
  have hwin : ((s.set PMON_BW_CTRL_WIN w).set PMON_BW_CTRL_CONT cont).get PMON_BW_CTRL_WIN = w := by
    rw [State.get_set_ne _ (by decide), State.get_set_same]
    exact Nat.mod_eq_of_lt hw
  rw [bwGo_idle hidle, hwin]
  rfl

theorem pmonBwStart_holds : Claim.pmonBwStart := by
  rintro c s w cont ⟨hready, hwords, hlo, hhi, hcont, hbusy⟩
  have hw : w < 2 ^ 20 := by omega
  have hjudge : s.judge 0xE3 19 (fun _ => [0x010FFFFF, 1]) pmonBw c = .done stOk [] (s.bwStarted w cont) := by
    rw [pmonBw_judge (p := 1) hready hwords hw hcont, pmonBw_eq hw hcont, bwWinOk_of_le hlo hhi, off_of_get_zero hbusy,
      bwGo_started hw hbusy]
    rfl
  obtain ⟨hget, hdone⟩ := runCmd_puts (l := bwFields w cont) (u := { s with pmon := (s.bwStarted w cont).pmon }) hjudge (by decide) (by decide) rfl rfl rfl rfl
    (by simp only [bwFields, List.map_cons, List.map_nil]; decide)
  exact ⟨_, rfl, (hget (.head _)).trans (Nat.mod_eq_of_lt hw), (hget (.tail _ (.head _))).trans (Nat.mod_eq_of_lt hcont),
    hget (.tail _ (.tail _ (.head _))), hdone⟩

theorem pmonBwAlready_holds : Claim.pmonBwAlready := by
  rintro c s w ⟨hready, hwords, hlo, hhi, hbusy⟩
  have hw : w < 2 ^ 20 := by omega
  have hjudge : s.judge 0xE3 19 (fun _ => [0x010FFFFF, 1]) pmonBw c = .done stAlready [] s := by
    rw [pmonBw_judge (cont := 0) (p := 1) hready hwords hw (by decide), pmonBw_eq hw (by decide), bwWinOk_of_le hlo hhi,
      on_of_get_one hbusy]
    rfl
  exact ⟨_, rfl, runCmd_unchanged hjudge (by decide) (by decide)⟩

theorem pmonBwBad_holds : Claim.pmonBwBad := by
  rintro c s w p ⟨hready, hwords, hw, hout⟩
  have hbad : bwWinOk w = false := by
    rw [bwWinOk, Bool.and_eq_false_iff, decide_eq_false_iff_not, decide_eq_false_iff_not]
    omega
  have hjudge : s.judge 0xE3 19 (fun _ => [0x010FFFFF, 1]) pmonBw c = .refuse stBadParam 0 := by
    rw [pmonBw_judge (cont := 0) hready hwords hw (by decide), pmonBw_eq hw (by decide), hbad]
    rfl
  exact ⟨_, rfl, runCmd_refused_done hjudge (by decide) (by decide)⟩

/-- The results of a window, one after another. -/
theorem bwWords_eq (v : Vector Nat 14) : (v.toList.flatMap fun x => [x % 2 ^ 32, x / 2 ^ 32 % 256])
    = (List.finRange 14).flatMap fun i => [v[i] % 2 ^ 32, v[i] / 2 ^ 32 % 256] := by
  have hlist : v.toList = (List.finRange 14).map fun i => v[i] := by
    apply List.ext_getElem <;> simp
  rw [hlist, List.flatMap_map]

theorem pmonBwRead_holds : Claim.pmonBwRead := by
  rintro c s w ⟨hready, hwords, hlo, hhi, hseq⟩
  have hw : w < 2 ^ 20 := by omega
  have hjudge : s.judge 0xE3 19 (fun _ => [0x010FFFFF, 1]) pmonBw c = .done stOk (s.get PMON_BW_SEQ_COUNT ::
      (List.finRange 14).flatMap fun i => [s.pmon.res[i] % 2 ^ 32, s.pmon.res[i] / 2 ^ 32 % 256]) s := by
    rw [pmonBw_judge (cont := 0) (p := 0) hready hwords hw (by decide), pmonBw_eq hw (by decide), bwWinOk_of_le hlo hhi,
      if_neg (by decide), if_neg (by decide), if_neg hseq, bwWords_eq]
    rfl
  exact ⟨_, rfl, runCmd_unchanged hjudge (by decide) (by decide)⟩

theorem pmonBwNotReady_holds : Claim.pmonBwNotReady := by
  rintro c s w ⟨hready, hwords, hlo, hhi, hseq⟩
  have hw : w < 2 ^ 20 := by omega
  have hjudge : s.judge 0xE3 19 (fun _ => [0x010FFFFF, 1]) pmonBw c = .refuse stNotReady 0 := by
    rw [pmonBw_judge (cont := 0) (p := 0) hready hwords hw (by decide), pmonBw_eq hw (by decide), bwWinOk_of_le hlo hhi,
      if_neg (by decide), if_neg (by decide), if_pos hseq]
    rfl
  exact ⟨_, rfl, runCmd_refused_done hjudge (by decide) (by decide)⟩

theorem pmonGetStatus_holds : Claim.pmonGetStatus := by
  rintro c s ⟨hready, hwords⟩
  have hform : paramsOk [] c.words = true := by rw [hwords]; rfl
  exact ⟨_, rfl, runCmd_unchanged (judge_ready hready hform) (by decide) (by decide)⟩

end Sys2Proof.Machine

namespace Sys2Proof.Proofs
open Sys2Proof.Machine

/-- Settles O11, clause by clause: a snapshot is 27 fields stored from the counters as they stand, a window's close is three fields and
the byte counts moved on, and each opcode is one of these or a refusal. -/
theorem performanceCounters : Obligations.PerformanceCounters := by
  unfold Obligations.PerformanceCounters
  exact ⟨pmonClr_holds, pmonSnapGo_holds, pmonSnapNotAvailable_holds, pmonBwGo_holds, pmonBwGoBusy_holds, bandwidthClose_holds,
    bandwidthCloseCont_holds, pmonCntLoRead_holds, pmonConfig_holds, pmonConfigBad_holds, pmonConfigDenied_holds, pmonSnapshot_holds,
    pmonSnapshotClear_holds, pmonSnapshotNotReady_holds, pmonRead_holds, pmonSample_holds, pmonReadEnd_holds, pmonBwStart_holds,
    pmonBwAlready_holds, pmonBwBad_holds, pmonBwRead_holds, pmonBwNotReady_holds, pmonGetStatus_holds, counterWrap_holds⟩

end Sys2Proof.Proofs
end

section
/-! SUPPORT. Runs, aborts and accumulations of the self-calibration (R436–R440). -/

namespace Sys2Proof.Machine
open Reg

/-! ### Fields that the block's steps store -/

theorem calBusyF_w (f : Fib) : (calBusyF f).w = 1 := by
  rw [calBusyF]
  split <;> rfl
theorem wpendF_w (f : Fib) : (wpendF f).w = 1 := by
  rw [wpendF]
  split <;> rfl

/-- A counter of 32 bits that saturates fits its field. -/
theorem saturated_mod (n : Nat) : min n (2 ^ 32 - 1) % 2 ^ 32 = min n (2 ^ 32 - 1) :=
  Nat.mod_eq_of_lt (Nat.lt_of_le_of_lt (Nat.min_le_right _ _) (by decide))

/-- The state of a run, with the busy bit that shows it. -/
def calStateFields (f : Fib) (v : Nat) : List (Fld × Nat) := [(CAL_STAT_STATE f, v), (calBusyF f, (v != 0).toNat)]
/-- A run that is requested. -/
def requestFields (s : State) (f : Fib) : List (Fld × Nat) :=
  calStateFields f 1 ++ [(CAL_RUNS_COUNT f, min (s.get (CAL_RUNS_COUNT f) + 1) (2 ^ 32 - 1))]
/-- A run that ends without a change. -/
def retryFields (f : Fib) : List (Fld × Nat) := calStateFields f 0 ++ [(CAL_STAT_RETRY_WAIT f, 1)]
/-- A run that is aborted. -/
def abortFields (s : State) (f : Fib) : List (Fld × Nat) :=
  [(CAL_FLAGS_ABORT f, 1), (CAL_ABORT_CNT_COUNT f, min (s.get (CAL_ABORT_CNT_COUNT f) + 1) (2 ^ 32 - 1))] ++ retryFields f

theorem requestFields_keys (s : State) (f : Fib) : ((requestFields s f).map (fun p => p.1.key) ++ lastF.map Fld.key).Nodup := by
  have h : ∀ f : Fib, ((requestFields State.reset f).map (fun p => p.1.key) ++ lastF.map Fld.key).Nodup := by decide
  exact h f
theorem abortFields_keys (s : State) (f : Fib) : ((abortFields s f).map fun p => p.1.key).Nodup := by
  have h : ∀ f : Fib, ((abortFields State.reset f).map fun p => p.1.key).Nodup := by decide
  exact h f

theorem setCalState_eq (s : State) (f : Fib) (v : Nat) : s.setCalState f v = s.puts (calStateFields f v) := rfl

/-- A run is requested only in IDLE (R438). -/
theorem calRequest_idle {s : State} {f : Fib} (h : s.calState f = 0) : s.calRequest f = s.puts (requestFields s f) := by
  have hkey : ∀ f : Fib, (CAL_RUNS_COUNT f).key ∉ ((calStateFields f 1).map Prod.fst).map Fld.key := by decide
  have hruns : (s.puts (calStateFields f 1)).get (CAL_RUNS_COUNT f) = s.get (CAL_RUNS_COUNT f) := sameRegs_puts s _ _ (hkey f)
  rw [State.calRequest, if_pos h, setCalState_eq, State.inc, State.incBy, hruns, requestFields, puts_append]
  rfl
theorem calRequest_busy {s : State} {f : Fib} (h : s.calState f ≠ 0) : s.calRequest f = s := if_neg h

theorem calRetry_regs (s : State) (f : Fib) : (s.calRetry f).regs = (s.puts (retryFields f)).regs := rfl
theorem calRetry_cal (s : State) (f : Fib) : (s.calRetry f).cal = s.cal.set f { s.cal[f] with
    a := none, found := none, retryDue := s.cyc + msCyc (1000 * s.get (CAL_CFG_RETRY f)) } := rfl

/-- A run under way that is aborted (R440). -/
theorem calAbort_under {s : State} {f : Fib} (h : s.calState f ≠ 0) :
    s.calAbort f = ((s.raise (CAL_FLAGS_ABORT f) 1).inc (CAL_ABORT_CNT_COUNT f)).calRetry f := if_neg h

/-- A flag of one bit raised and another field counted up. -/
theorem raise_inc_regs {s : State} {f g : Fld} (hf : f.w = 1) (hne : g.key ≠ f.key) :
    ((s.raise f 1).inc g).regs = (s.puts [(f, 1), (g, min (s.get g + 1) (2 ^ g.w - 1))]).regs := by
  have hget : (s.raise f 1).get g = s.get g := State.get_set_ne s hne _
  have hraise := raise_flag_regs (s := s) hf
  rw [State.inc, State.incBy, hget]
  exact congrArg (kput g.key _) hraise

theorem calAbort_regs {s : State} {f : Fib} (h : s.calState f ≠ 0) : (s.calAbort f).regs = (s.puts (abortFields s f)).regs := by
  have hkey : ∀ f : Fib, (CAL_ABORT_CNT_COUNT f).key ≠ (CAL_FLAGS_ABORT f).key := by decide
  rw [calAbort_under h, calRetry_regs, abortFields, puts_append, puts_regs, puts_regs _ (retryFields f),
    raise_inc_regs rfl (hkey f)]
  rfl
theorem calAbort_cal {s : State} {f : Fib} (h : s.calState f ≠ 0) : (s.calAbort f).cal = s.cal.set f { s.cal[f] with
    a := none, found := none, retryDue := s.cyc + msCyc (1000 * s.get (CAL_CFG_RETRY f)) } := by
  have hkeys : ∀ f : Fib, (CAL_CFG_RETRY f).key ≠ (CAL_FLAGS_ABORT f).key ∧ (CAL_CFG_RETRY f).key ≠ (CAL_ABORT_CNT_COUNT f).key := by
    decide
  have hretry : ((s.raise (CAL_FLAGS_ABORT f) 1).inc (CAL_ABORT_CNT_COUNT f)).get (CAL_CFG_RETRY f) = s.get (CAL_CFG_RETRY f) :=
    (State.get_set_ne _ (hkeys f).2 _).trans (State.get_set_ne s (hkeys f).1 _)
  rw [calAbort_under h, calRetry_cal, hretry]
  rfl
theorem calAbort_only {s : State} {f : Fib} (h : s.calState f ≠ 0) :
    Only ((abortFields s f).map Prod.fst) s { s with cal := (s.calAbort f).cal } (s.calAbort f) :=
  Only.of_puts (calAbort_regs h) (by rw [calAbort_under h]; rfl)

/-- What the other fibre's run holds is left alone. -/
theorem cal_set_other (v : Vector CalRun 2) (f : Fib) (x : CalRun) : (v.set f x)[1 - f] = v[1 - f] := by
  have hne : f.val ≠ (1 - f).val := by
    have : ∀ f : Fib, f.val ≠ (1 - f).val := by decide
    exact this f
  exact Vector.getElem_set_ne _ _ hne

/-! ### Requests and aborts -/

theorem onReg_cal {s : State} (hd : s.domainOn 3 = true) (hfab : s.fabRuns = true) (t : State) : s.onReg 16 t = t :=
  onReg_reached (reach_of_running hd hfab rfl) t
theorem onRx_running {s : State} (hd : s.domainOn 3 = true) (hfab : s.fabRuns = true) (t : State) : s.onRx t = t := by
  rw [State.onRx, State.onDom, if_pos hd, onFab_running hfab]

/-- What a requested run shows. -/
theorem requested_get {s t : State} {f : Fib} (hget : ∀ {g : Fld} {v : Nat}, (g, v) ∈ requestFields s f → t.get g = v % 2 ^ g.w) :
    t.calState f = 1 ∧ t.get (calBusyF f) = 1 ∧ t.get (CAL_RUNS_COUNT f) = min (s.get (CAL_RUNS_COUNT f) + 1) (2 ^ 32 - 1) := by
  refine ⟨hget (v := 1) (.head _), ?_, (hget (.tail _ (.tail _ (.head _)))).trans (saturated_mod _)⟩
  rw [hget (.tail _ (.head _)), calBusyF_w]
  rfl

theorem calCtrlRun_holds : Claim.calCtrlRun := by
  rintro s f ⟨hd, hfab, hidle⟩
  have hexec : exec (.calCtrlRun f) s = .next (s.puts (requestFields s f)) := by
    rw [← calRequest_idle hidle]
    exact congrArg Host.Outcome.next (onReg_cal hd hfab _)
  obtain ⟨hstate, hbusy, hruns⟩ := requested_get (s := s) (f := f) fun hp =>
    get_of_puts rfl (List.nodup_append.1 (requestFields_keys s f)).1 hp
  exact ⟨_, hexec, hstate, hbusy, hruns, Only.of_puts (l := requestFields s f) rfl (puts_butNotes _ _)⟩

theorem calCtrlRunBusy_holds : Claim.calCtrlRunBusy := by
  rintro s f ⟨hd, hfab, hbusy⟩
  refine ⟨_, congrArg Host.Outcome.next (onReg_cal hd hfab _), calRequest_busy hbusy⟩

/-- What an abort leaves. -/
theorem calAbort_get {s : State} {f : Fib} (h : s.calState f ≠ 0) {g : Fld} {v : Nat} (hp : (g, v) ∈ abortFields s f) :
    (s.calAbort f).get g = v % 2 ^ g.w := get_of_puts (calAbort_regs h) (abortFields_keys s f) hp

theorem calAbort_shown {s : State} {f : Fib} (h : s.calState f ≠ 0) : (s.calAbort f).calState f = 0
    ∧ (s.calAbort f).get (calBusyF f) = 0 ∧ (s.calAbort f).get (CAL_FLAGS_ABORT f) = 1 ∧ (s.calAbort f).get (CAL_STAT_RETRY_WAIT f) = 1
    ∧ (s.calAbort f).get (CAL_ABORT_CNT_COUNT f) = min (s.get (CAL_ABORT_CNT_COUNT f) + 1) (2 ^ 32 - 1) := by
  refine ⟨calAbort_get (v := 0) h (.tail _ (.tail _ (.head _))), ?_, calAbort_get (v := 1) h (.head _),
    calAbort_get (v := 1) h (.tail _ (.tail _ (.tail _ (.tail _ (.head _))))), (calAbort_get h (.tail _ (.head _))).trans (saturated_mod _)⟩
  rw [calAbort_get h (.tail _ (.tail _ (.tail _ (.head _)))), calBusyF_w]
  rfl

theorem abortFields_fields (s : State) (f : Fib) : (abortFields s f).map Prod.fst
    ⊆ [CAL_STAT_STATE f, calBusyF f, CAL_FLAGS_ABORT f, CAL_STAT_RETRY_WAIT f, CAL_ABORT_CNT_COUNT f] := by
  simp [abortFields, retryFields, calStateFields]

/-- Only what may change, where more may. -/
theorem Only.mono {fs gs : List Fld} {s u t : State} (h : Only fs s u t) (hs : fs ⊆ gs) : Only gs s u t := ⟨h.1.mono hs, h.2⟩

theorem calCtrlAbort_holds : Claim.calCtrlAbort := by
  rintro s f ⟨hd, hfab, hunder⟩
  obtain ⟨hstate, hbusy, hflag, hwait, hcount⟩ := calAbort_shown hunder
  have hcal := calAbort_cal hunder
  refine ⟨_, congrArg Host.Outcome.next (onReg_cal hd hfab _), hstate, hbusy, hflag, hwait, hcount, ?_, ?_, ?_, ?_, ?_,
    (calAbort_only hunder).mono (abortFields_fields s f)⟩
  · simp [hcal]
  · simp [hcal]
  · simp [hcal]
  · simp [hcal, msCyc]
    omega
  · rw [hcal, cal_set_other]

theorem accumulationTimeout_holds : Claim.accumulationTimeout := by
  rintro s f ⟨hd, hfab, hunder, hold⟩
  have hrun : s.calState f ≠ 0 := by omega
  have hpast : s.past ((s.cal[f]).startAt + msCyc 10000) = true := decide_eq_true (by simp only [msCyc]; omega)
  have hexec : exec (.accumulationTimeout f) s = .next (s.calAbort f) := by
    show execAccumulationTimeout f s = _
    rw [execAccumulationTimeout, onRx_running hd hfab, if_pos ⟨hunder, hpast⟩]
  obtain ⟨hstate, -, hflag, hwait, -⟩ := calAbort_shown hrun
  have hcal := calAbort_cal hrun
  refine ⟨_, hexec, hstate, hflag, hwait, ?_, ?_, (calAbort_only hrun).mono (abortFields_fields s f)⟩
  · simp [hcal]
  · rw [hcal, cal_set_other]

/-! ### The temperature (R438) -/

/-- The difference that requests a run (R438). -/
def State.calDrift (s : State) (f : Fib) : Nat :=
  (s.getI (MGMT_TEMPi_TEMP (s.get (CAL_CFG_TSENS f))) - s.getI (CAL_TEMP_TEMP f)).natAbs

/-- The temperature asks for a run under AUTO, outside the retry wait, with a difference of more than DT. -/
theorem calTemp_asks {s : State} {f : Fib} (hd : s.domainOn 3 = true) (hauto : s.get (CAL_CTRL_AUTO f) = 1)
    (hwait : s.get (CAL_STAT_RETRY_WAIT f) = 0) (hdrift : s.get (CAL_CFG_DT f) < s.calDrift f) : s.calTemp f = s.calRequest f := by
  have hdrift' : decide (s.get (CAL_CFG_DT f)
      < (signedOf 16 (s.get (MGMT_TEMPi_TEMP (s.get (CAL_CFG_TSENS f)))) - s.getI (CAL_TEMP_TEMP f)).natAbs) = true := decide_eq_true hdrift
  simp only [State.calTemp, hd, on_of_get_one hauto, off_of_get_zero hwait, hdrift', Bool.not_false, Bool.and_self, if_true]
theorem calTemp_within {s : State} {f : Fib} (hdrift : s.calDrift f ≤ s.get (CAL_CFG_DT f)) : s.calTemp f = s := by
  have hdrift' : decide (s.get (CAL_CFG_DT f)
      < (signedOf 16 (s.get (MGMT_TEMPi_TEMP (s.get (CAL_CFG_TSENS f)))) - s.getI (CAL_TEMP_TEMP f)).natAbs) = false :=
    decide_eq_false (Nat.not_lt.2 hdrift)
  simp only [State.calTemp, hdrift', Bool.and_false, Bool.false_eq_true, if_false]
theorem calTemp_manual {s : State} {f : Fib} (hauto : s.get (CAL_CTRL_AUTO f) = 0) : s.calTemp f = s := by
  simp only [State.calTemp, off_of_get_zero hauto, Bool.and_false, Bool.false_and, Bool.false_eq_true, if_false]

/-- Fields that stay as they were tell the difference, where sensors and the calibration's own temperature are among them. -/
theorem SameRegs.getI {fs : List Fld} {s t : State} (h : SameRegs fs s t) {g : Fld} (hg : g.key ∉ fs.map Fld.key) : t.getI g = s.getI g := by
  rw [State.getI, h g hg, State.getI]

end Sys2Proof.Machine
end

section
/-! SUPPORT. The retry wait and the accumulations of the self-calibration (R436–R439). -/

namespace Sys2Proof.Machine
open Reg

/-! ### The retry wait (R438) -/

/-- Fields below the management block's, none of them TSENS or the temperature of the last calibration, do not tell the difference. -/
theorem calDrift_congr {fs : List Fld} {s t : State} {f : Fib} (h : SameRegs fs s t) (hlow : ∀ g ∈ fs, g.key < key 20 0 0)
    (hsens : (CAL_CFG_TSENS f).key ∉ fs.map Fld.key) (htemp : (CAL_TEMP_TEMP f).key ∉ fs.map Fld.key) : t.calDrift f = s.calDrift f := by
  have hmgmt (i : Nat) : (MGMT_TEMPi_TEMP i).key ∉ fs.map Fld.key := fun hm => by
    obtain ⟨g, hg, hk⟩ := List.mem_map.1 hm
    have := hlow g hg
    simp only [MGMT_TEMPi_TEMP, key] at hk this
    omega
  simp only [State.calDrift, h _ hsens, h.getI htemp, h.getI (hmgmt _)]

/-- The fields on which a request by temperature rests are not the retry wait. -/
theorem retryWait_keys : ∀ f : Fib, (∀ g ∈ [CAL_STAT_RETRY_WAIT f], g.key < key 20 0 0)
    ∧ (CAL_CFG_TSENS f).key ∉ [CAL_STAT_RETRY_WAIT f].map Fld.key ∧ (CAL_TEMP_TEMP f).key ∉ [CAL_STAT_RETRY_WAIT f].map Fld.key
    ∧ (CAL_CFG_DT f).key ∉ [CAL_STAT_RETRY_WAIT f].map Fld.key ∧ (CAL_CTRL_AUTO f).key ∉ [CAL_STAT_RETRY_WAIT f].map Fld.key
    ∧ (CAL_STAT_STATE f).key ∉ [CAL_STAT_RETRY_WAIT f].map Fld.key
    ∧ PWR_STATUS_DOMAIN_ON.key ∉ [CAL_STAT_RETRY_WAIT f].map Fld.key := by decide

/-- The retry wait that is over (R438). -/
def State.retryOver (s : State) (f : Fib) : State := s.set (CAL_STAT_RETRY_WAIT f) 0
theorem retryOver_sameRegs (s : State) (f : Fib) : SameRegs [CAL_STAT_RETRY_WAIT f] s (s.retryOver f) :=
  (SameRegs.refl _ s).set (.head _) 0
theorem execRetryWaitExpiry_due {s : State} {f : Fib} (hd : s.domainOn 3 = true) (hfab : s.fabRuns = true)
    (hwait : s.get (CAL_STAT_RETRY_WAIT f) ≠ 0) (hdue : (s.cal[f]).retryDue ≤ s.cyc) :
    exec (.retryWaitExpiry f) s = .next ((s.retryOver f).calTemp f) := by
  have hon : s.on (CAL_STAT_RETRY_WAIT f) = true := by simp [State.on, hwait]
  show execRetryWaitExpiry f s = _
  rw [execRetryWaitExpiry, onRx_running hd hfab, hon, decide_eq_true hdue]
  rfl

theorem retryWaitExpiry_holds : Claim.retryWaitExpiry := by
  rintro s f ⟨hd, hfab, hwait, hdue, hauto, hidle, hdrift⟩
  obtain ⟨hlow, hsens, htemp, hdt, hctrl, hstate, hdom⟩ := retryWait_keys f
  have hsame := retryOver_sameRegs s f
  have hidle' : (s.retryOver f).calState f = 0 := (hsame _ hstate).trans hidle
  have hasks : (s.retryOver f).calTemp f = (s.retryOver f).puts (requestFields (s.retryOver f) f) := by
    rw [calTemp_asks ((hsame.domainOn hdom 3).trans hd) ((hsame _ hctrl).trans hauto) (State.get_set_same s _ 0) ?_, calRequest_idle hidle']
    rw [hsame _ hdt, calDrift_congr hsame hlow hsens htemp]
    exact hdrift
  have hkeys : ((((CAL_STAT_RETRY_WAIT f, 0) :: requestFields (s.retryOver f) f)).map fun p => p.1.key).Nodup := by
    have h : ∀ f : Fib, (((CAL_STAT_RETRY_WAIT f, 0) :: requestFields State.reset f).map fun p => p.1.key).Nodup := by decide
    exact h f
  rw [execRetryWaitExpiry_due hd hfab hwait hdue, hasks]
  have hget {g : Fld} {v : Nat} (hp : (g, v) ∈ (CAL_STAT_RETRY_WAIT f, 0) :: requestFields (s.retryOver f) f) :
      ((s.retryOver f).puts (requestFields (s.retryOver f) f)).get g = v % 2 ^ g.w := get_of_puts (s := s) rfl hkeys hp
  refine ⟨_, rfl, hget (v := 0) (.head _), hget (v := 1) (.tail _ (.head _)), ?_,
    Only.of_puts (s := s) (l := (CAL_STAT_RETRY_WAIT f, 0) :: requestFields (s.retryOver f) f) rfl
      (puts_butNotes s ((CAL_STAT_RETRY_WAIT f, 0) :: requestFields (s.retryOver f) f))⟩
  rw [hget (.tail _ (.tail _ (.head _))), calBusyF_w]
  rfl

theorem retryWaitExpiryEqual_holds : Claim.retryWaitExpiryEqual := by
  rintro s f ⟨hd, hfab, hwait, hdue, hdrift⟩
  obtain ⟨hlow, hsens, htemp, hdt, -⟩ := retryWait_keys f
  have hsame := retryOver_sameRegs s f
  have hwithin : (s.retryOver f).calTemp f = s.retryOver f := calTemp_within (by
    rw [hsame _ hdt, calDrift_congr hsame hlow hsens htemp]
    exact hdrift)
  rw [execRetryWaitExpiry_due hd hfab hwait hdue, hwithin]
  exact ⟨_, rfl, State.get_set_same s _ 0, Only.of_puts (l := [(CAL_STAT_RETRY_WAIT f, 0)]) rfl rfl⟩

/-! ### Accumulations start and end (R436, R437, R439) -/

/-- The fields of a run's state do not meet. -/
theorem calStateFields_keys (f : Fib) (v : Nat) : ((calStateFields f v).map fun p => p.1.key).Nodup := by
  have h : ∀ f : Fib, ((calStateFields f 0).map fun p => p.1.key).Nodup := by decide
  exact h f
/-- What a run's state shows, once it is entered. -/
theorem calState_entered {s t : State} {f : Fib} {v : Nat} (hr : t.regs = (s.puts (calStateFields f v)).regs) :
    t.calState f = v % 8 ∧ t.get (calBusyF f) = (v != 0).toNat := by
  refine ⟨get_of_puts hr (calStateFields_keys f v) (.head _), ?_⟩
  rw [get_of_puts hr (calStateFields_keys f v) (.tail _ (.head _)), calBusyF_w]
  exact Nat.mod_eq_of_lt (Bool.toNat_lt _)

/-- A step that enters a state of a run and changes what the fibre's run holds. -/
theorem setCalState_only (s : State) (f : Fib) (v : Nat) (g : CalRun → CalRun) :
    Only [CAL_STAT_STATE f, calBusyF f] s { s with cal := ((s.setCalState f v).setCal f g).cal } ((s.setCalState f v).setCal f g) :=
  Only.of_puts (l := calStateFields f v) rfl rfl
theorem setCalState_cal (s : State) (f : Fib) (v : Nat) (g : CalRun → CalRun) :
    ((s.setCalState f v).setCal f g).cal[f] = g s.cal[f] ∧ ((s.setCalState f v).setCal f g).cal[1 - f] = s.cal[1 - f] :=
  ⟨Vector.getElem_set_self _, cal_set_other _ f _⟩

/-- What a run holds as accumulation A begins. -/
def CalRun.begun (c : CalRun) (now : Nat) (from_ : Int) : CalRun :=
  { c with a := none, found := none, startAt := now, accA := .replicate 3 CalAcc.init, accB := .replicate 3 CalAcc.init
           from_ := from_, fromB := none }

theorem accumulationStart_holds : Claim.accumulationStart := by
  rintro s f ⟨hd, hfab, hwaits, hruns, hheld⟩
  have hnone : (s.cal[f]).held.isNone = true := by rw [hheld]; rfl
  have hexec : exec (.accumulationStart f) s = .next ((s.setCalState f 2).setCal f (·.begun s.cyc (s.rxf[f]).stair0)) := by
    show execAccumulationStart f s = _
    rw [execAccumulationStart, onRx_running hd hfab, if_pos ⟨hwaits, hruns, hnone⟩]
    rfl
  obtain ⟨hstate, hbusy⟩ := calState_entered (s := s) (f := f) (v := 2)
    (t := (s.setCalState f 2).setCal f (·.begun s.cyc (s.rxf[f]).stair0)) rfl
  obtain ⟨hcal, hother⟩ := setCalState_cal s f 2 (·.begun s.cyc (s.rxf[f]).stair0)
  refine ⟨_, hexec, hstate, hbusy, ?_, ?_, ?_, ?_, hother, setCalState_only s f 2 _⟩
  all_goals rw [hcal]; rfl

/-! ### Estimates (R436) -/

/-- The offsets that an accumulation estimates. -/
def State.offsetEst (s : State) (f : Nat) (x : Vector CalAcc 3) : Vector Int 6 := Vector.ofFn fun c =>
  let a := x[Fin.ofNat 3 (c.val / 2)]
  s.getI (CAL_OFSc_OFS f c) + roundAway (((if c.val % 2 = 0 then a.ofsI else a.ofsQ : Int) : Rat) / s.calLength f)
/-- A pair's estimates put into a set. -/
def CalEst.put (e : CalEst) (i : Fin 3) (g : Int × Int × Int) : CalEst :=
  { e with gain := e.gain.set i g.1, ph := e.ph.set i g.2.1, step := e.step.set i g.2.2 }
/-- The estimates of an accumulation whose pairs all determine theirs. -/
def State.pairsEst (s : State) (f : Nat) (x : Vector CalAcc 3) (g : Fin 3 → Int × Int × Int) : CalEst :=
  (((⟨s.offsetEst f x, .replicate 3 0, .replicate 3 0, .replicate 3 0⟩ : CalEst).put 0 (g 0)).put 1 (g 1)).put 2 (g 2)

/-- Where the sums determine every estimate, no value is left open. -/
theorem estimate_of_pairs {s : State} {f : Nat} {x : Vector CalAcc 3} {g : Fin 3 → Int × Int × Int}
    (h : ∀ p : Fin 3, pairEst (x[p]).ii (x[p]).qq (x[p]).iq (x[p]).sym = some (g p)) : s.estimate f x = (s.pairsEst f x g, s) := by
  simp only [State.estimate, List.foldl_cons, List.foldl_nil, h 0, h 1, h 2]
  rfl
theorem pairsEst_pair (s : State) (f : Nat) (x : Vector CalAcc 3) (g : Fin 3 → Int × Int × Int) : ∀ p : Fin 3,
    ((s.pairsEst f x g).gain[p], (s.pairsEst f x g).ph[p], (s.pairsEst f x g).step[p]) = g p
  | 0 => rfl
  | 1 => rfl
  | 2 => rfl
theorem pairsEst_ofs (s : State) (f : Nat) (x : Vector CalAcc 3) (g : Fin 3 → Int × Int × Int) :
    (s.pairsEst f x g).ofs = s.offsetEst f x := rfl

/-- Sums that determine every estimate give one to each pair. -/
theorem pairs_of_isSome {x : Vector CalAcc 3} (h : ∀ p : Fin 3, (pairEst (x[p]).ii (x[p]).qq (x[p]).iq (x[p]).sym).isSome = true) :
    ∃ g : Fin 3 → Int × Int × Int, ∀ p : Fin 3, pairEst (x[p]).ii (x[p]).qq (x[p]).iq (x[p]).sym = some (g p) :=
  ⟨fun p => (pairEst (x[p]).ii (x[p]).qq (x[p]).iq (x[p]).sym).get (h p), fun p => (Option.some_get (h p)).symm⟩

/-- ACCUMULATION_COMPLETE of A. -/
theorem execAccumulationComplete_a {s : State} {f : Fib} (hd : s.domainOn 3 = true) (hfab : s.fabRuns = true) (hstate : s.calState f = 2)
    (hfull : s.calFull f (s.cal[f]).accA = true) {e : CalEst} (he : s.estimate f (s.cal[f]).accA = (e, s)) :
    exec (.accumulationComplete f false) s = .next ((s.setCalState f 3).setCal f fun c => { c with a := some e, startAt := s.cyc }) := by
  show execAccumulationComplete f false s = _
  rw [execAccumulationComplete, onRx_running hd hfab, if_pos ⟨rfl, hstate, hfull⟩, he]
/-- ACCUMULATION_COMPLETE of B. -/
theorem execAccumulationComplete_b {s : State} {f : Fib} (hd : s.domainOn 3 = true) (hfab : s.fabRuns = true) (hstate : s.calState f = 3)
    (hfull : s.calFull f (s.cal[f]).accB = true) {a b : CalEst} (ha : (s.cal[f]).a = some a) (he : s.estimate f (s.cal[f]).accB = (b, s)) :
    exec (.accumulationComplete f true) s = .next (s.calJudge f a b) := by
  show execAccumulationComplete f true s = _
  rw [execAccumulationComplete, onRx_running hd hfab, if_neg (by simp), if_pos ⟨rfl, hstate, hfull⟩, ha, he]

theorem accumulationA_holds : Claim.accumulationA := by
  rintro s f x ⟨hd, hfab, hstate, hsome⟩
  have hx : (s.cal[f]).accA = x := (hsome 0).2.1
  have hfull : s.calFull f x = true := (hsome 0).2.2
  obtain ⟨g, hg⟩ := pairs_of_isSome fun p => (hsome p).1
  have hexec := execAccumulationComplete_a hd hfab hstate (by rwa [hx]) (by rw [hx]; exact estimate_of_pairs hg)
  obtain ⟨hcal, hother⟩ := setCalState_cal s f 3 fun c => { c with a := some (s.pairsEst f x g), startAt := s.cyc }
  refine ⟨_, hexec, (calState_entered (s := s) (v := 3) rfl).1, ?_, ?_, fun p => ?_, fun c => ?_, setCalState_only s f 3 _, hother⟩
  · rw [hcal]
  · rw [hcal]
    rfl
  · rw [hcal, hg, Option.map_some, pairsEst_pair]
  · rw [hcal, Option.map_some, pairsEst_ofs]
    have hpair : (Fin.ofNat 3 (c.val / 2)).val = c.val / 2 := Nat.mod_eq_of_lt (by omega)
    simp only [State.offsetEst, Fin.getElem_fin, Vector.getElem_ofFn, hpair]
    rfl

/-! ### The comparison of A and B (R437) -/

/-- The two accumulations agree and their means lie in range: the set waits for the next shot. -/
theorem calJudge_found {s : State} {f : Fib} {a b : CalEst}
    (h : (s.calPairs f).all (fun p => s.agree f a b p && inRange (s.meanSet f a b) p) = true) :
    s.calJudge f a b = (s.setCalState f 4).setCal f fun c => { c with
      a := none, found := some (s.meanSet f a b), settled := (s.calPairs f).all fun p => meanEst a.step[p] b.step[p] == 0 } := by
  have hboth : ∀ p ∈ s.calPairs f, s.agree f a b p = true ∧ inRange (s.meanSet f a b) p = true := fun p hp => by
    simpa using List.all_eq_true.1 h p hp
  have hdis : (s.calPairs f).any (fun p => !s.agree f a b p) = false := by
    rw [List.any_eq_false]
    exact fun p hp => by simp [(hboth p hp).1]
  have hrng : (s.calPairs f).any (fun p => !inRange (s.meanSet f a b) p) = false := by
    rw [List.any_eq_false]
    exact fun p hp => by simp [(hboth p hp).2]
  rw [State.calJudge, hdis, hrng]
  rfl

theorem accumulationB_holds : Claim.accumulationB := by
  rintro s f x a b ⟨hd, hfab, hstate, ha, hb, hsome, hagree, hx, hfull⟩
  obtain ⟨g, hg⟩ := pairs_of_isSome hsome
  have hest : s.estimate f (s.cal[f]).accB = (b, s) := by
    rw [hx, ← hb, estimate_of_pairs hg]
  have hexec := execAccumulationComplete_b hd hfab hstate (by rwa [hx]) ha hest
  rw [calJudge_found hagree] at hexec
  obtain ⟨hcal, hother⟩ := setCalState_cal s f 4 fun c => { c with
    a := none, found := some (s.meanSet f a b), settled := (s.calPairs f).all fun p => meanEst a.step[p] b.step[p] == 0 }
  refine ⟨_, hexec, (calState_entered (s := s) (v := 4) rfl).1, ?_, ?_, setCalState_only s f 4 _, hother⟩
  · rw [hcal]
  · rw [hcal]
    rfl

/-- What a comparison that fails stores: DISAGREE, RANGE where a mean lies out of range, the count, and the end of the run. -/
def disagreeFields (s : State) (f : Fib) (rng : Bool) : List (Fld × Nat) :=
  (CAL_FLAGS_DISAGREE f, 1) :: (if rng then [(CAL_FLAGS_RANGE f, 1)] else [])
    ++ [(CAL_DISAGREE_CNT_COUNT f, min (s.get (CAL_DISAGREE_CNT_COUNT f) + 1) (2 ^ 32 - 1))] ++ retryFields f
/-- The state before the run ends. -/
def State.disagreed (s : State) (f : Fib) (rng : Bool) : State :=
  ((if rng then (s.raise (CAL_FLAGS_DISAGREE f) 1).raise (CAL_FLAGS_RANGE f) 1 else s.raise (CAL_FLAGS_DISAGREE f) 1)).inc
    (CAL_DISAGREE_CNT_COUNT f)

theorem calJudge_disagrees {s : State} {f : Fib} {a b : CalEst} (h : (s.calPairs f).any (fun p => !s.agree f a b p) = true) :
    s.calJudge f a b = (s.disagreed f ((s.calPairs f).any fun p => !inRange (s.meanSet f a b) p)).calRetry f := by
  rw [State.calJudge, h]
  rfl
theorem disagreed_regs (s : State) (f : Fib) (rng : Bool) :
    ((s.disagreed f rng).calRetry f).regs = (s.puts (disagreeFields s f rng)).regs := by
  have hkeys : ∀ f : Fib, (CAL_DISAGREE_CNT_COUNT f).key ≠ (CAL_FLAGS_DISAGREE f).key
      ∧ (CAL_DISAGREE_CNT_COUNT f).key ≠ (CAL_FLAGS_RANGE f).key := by decide
  obtain ⟨hdis, hrange⟩ := hkeys f
  have hflag := raise_flag_regs (s := s) (f := CAL_FLAGS_DISAGREE f) rfl
  have hregs : (s.disagreed f rng).regs = (s.puts ((CAL_FLAGS_DISAGREE f, 1) :: (if rng then [(CAL_FLAGS_RANGE f, 1)] else [])
      ++ [(CAL_DISAGREE_CNT_COUNT f, min (s.get (CAL_DISAGREE_CNT_COUNT f) + 1) (2 ^ 32 - 1))])).regs := by
    cases rng with
    | false => exact raise_inc_regs rfl hdis
    | true =>
      have hget : (s.raise (CAL_FLAGS_DISAGREE f) 1).get (CAL_DISAGREE_CNT_COUNT f) = s.get (CAL_DISAGREE_CNT_COUNT f) :=
        State.get_set_ne s hdis _
      have h := raise_inc_regs (s := s.raise (CAL_FLAGS_DISAGREE f) 1) (f := CAL_FLAGS_RANGE f) rfl hrange
      rw [hget, puts_regs, hflag] at h
      exact h.trans (puts_regs _ _).symm
  rw [calRetry_regs, disagreeFields, puts_append, puts_regs, puts_regs _ (retryFields f), hregs]
theorem disagreed_cal (s : State) (f : Fib) (rng : Bool) : ((s.disagreed f rng).calRetry f).cal[1 - f] = s.cal[1 - f] := by
  rw [calRetry_cal, cal_set_other]
  cases rng <;> rfl
theorem disagreed_only (s : State) (f : Fib) (rng : Bool) : Only ((disagreeFields s f rng).map Prod.fst) s
    { s with cal := ((s.disagreed f rng).calRetry f).cal } ((s.disagreed f rng).calRetry f) :=
  Only.of_puts (disagreed_regs s f rng) (by cases rng <;> rfl)
theorem disagreeFields_keys (s : State) (f : Fib) (rng : Bool) : ((disagreeFields s f rng).map fun p => p.1.key).Nodup := by
  have h : ∀ (f : Fib) (rng : Bool), ((disagreeFields State.reset f rng).map fun p => p.1.key).Nodup := by decide
  cases rng
  · exact h f false
  · exact h f true
theorem disagreeFields_fields (s : State) (f : Fib) (rng : Bool) : (disagreeFields s f rng).map Prod.fst
    ⊆ [CAL_STAT_STATE f, calBusyF f, CAL_FLAGS_DISAGREE f, CAL_FLAGS_RANGE f, CAL_DISAGREE_CNT_COUNT f, CAL_STAT_RETRY_WAIT f] := by
  cases rng <;> simp [disagreeFields, retryFields, calStateFields]

theorem accumulationDisagree_holds : Claim.accumulationDisagree := by
  rintro s f x a b ⟨hd, hfab, hstate, ha, hb, hsome, hdis, hx, hfull⟩
  obtain ⟨g, hg⟩ := pairs_of_isSome hsome
  have hest : s.estimate f (s.cal[f]).accB = (b, s) := by
    rw [hx, ← hb, estimate_of_pairs hg]
  have hexec := execAccumulationComplete_b hd hfab hstate (by rwa [hx]) ha hest
  rw [calJudge_disagrees hdis] at hexec
  generalize hrng : ((s.calPairs f).any fun p => !inRange (s.meanSet f a b) p) = rng at hexec ⊢
  have hget {h : Fld} {v : Nat} (hp : (h, v) ∈ disagreeFields s f rng) :
      ((s.disagreed f rng).calRetry f).get h = v % 2 ^ h.w := get_of_puts (disagreed_regs s f rng) (disagreeFields_keys s f rng) hp
  refine ⟨_, hexec, hget (v := 0) ?_, hget (v := 1) (.head _), (hget ?_).trans (saturated_mod _), hget (v := 1) ?_, fun hout => hget (v := 1) ?_,
    (disagreed_only s f rng).mono (disagreeFields_fields s f rng), disagreed_cal s f rng⟩
  · simp [disagreeFields, retryFields, calStateFields]
  · simp [disagreeFields]
  · simp [disagreeFields, retryFields]
  · simp [disagreeFields, hout]

end Sys2Proof.Machine
end

section
/-! SUPPORT. The set in force of the self-calibration, and its opcodes (R441–R444). -/

namespace Sys2Proof.Machine
open Reg

/-! ### Sets and records (R441, R442) -/

/-- A signed value kept in a field reads as its bits. -/
theorem bitsOf_mod (w : Nat) (v : Int) : bitsOf w v % 2 ^ w = bitsOf w v := by
  have hpos : (0 : Int) < 2 ^ w := by positivity
  have hlt : bitsOf w v < 2 ^ w := by
    rw [bitsOf, Int.toNat_lt (Int.emod_nonneg _ hpos.ne')]
    exact_mod_cast Int.emod_lt_of_pos v hpos
  exact Nat.mod_eq_of_lt hlt

/-- A field that is stored or raised leaves all but registers as it was. -/
theorem set_noted {u t : State} (h : t = butNotes u t) (f : Fld) (v : Nat) : t.set f v = butNotes u (t.set f v) := by
  rw [h]
  rfl
theorem raise_noted {u t : State} (h : t = butNotes u t) (f : Fld) (v : Nat) : t.raise f v = butNotes u (t.raise f v) := by
  rw [h]
  rfl
/-- A change of what the calibrations hold, after that. -/
theorem setCal_noted {s t : State} (h : t = butNotes s t) (f : Fib) (g : CalRun → CalRun) :
    t.setCal f g = butNotes { s with cal := (t.setCal f g).cal } (t.setCal f g) := by
  rw [h]
  rfl

/-- Fields stored one after another, as a loop stores them. -/
theorem puts_map {α : Type} (s : State) (l : List α) (g : α → Fld × Nat) :
    s.puts (l.map g) = l.foldl (fun t x => t.set (g x).1 (g x).2) s := List.foldl_map
theorem puts_flatMap {α : Type} (s : State) (l : List α) (g : α → List (Fld × Nat)) :
    s.puts (l.flatMap g) = l.foldl (fun t x => t.puts (g x)) s := List.foldl_flatMap

/-- What a set gives a pair and its two converters. -/
def pairFields (f : Nat) (e : CalEst) (i : Fin 3) : List (Fld × Nat) :=
  [(CAL_OFSc_OFS f (2 * i.val), bitsOf 12 (e.ofs[Fin.ofNat 6 (2 * i.val)])),
    (CAL_OFSc_OFS f (2 * i.val + 1), bitsOf 12 (e.ofs[Fin.ofNat 6 (2 * i.val + 1)])), (CAL_GAINp_GAIN f i, bitsOf 16 e.gain[i]),
    (CAL_PHp_PH f i, bitsOf 16 e.ph[i]), (CAL_SKEWp_SKEW f i, bitsOf 9 e.step[i])]
theorem putSet_eq (f : Nat) (e : CalEst) (l : List (Fin 3)) (s : State) : s.putSet f l e = s.puts (l.flatMap (pairFields f e)) :=
  (puts_flatMap s l (pairFields f e)).symm

/-- What a change of the set stores beside the set. -/
def appliedFields (s : State) (f : Fib) : List (Fld × Nat) :=
  [(CAL_APPLIED_SHOT f, s.firstShot f), (CAL_TEMP_TEMP f, s.get (MGMT_TEMPi_TEMP (s.get (CAL_CFG_TSENS f)))), (CAL_STAT_VALID f, 1),
    (CAL_STAT_SKEW_SETTLED f, (s.cal[f]).settled.toNat), (CAL_FLAGS_DONE f, 1)] ++ calStateFields f 0
/-- What a change of the set stores, all three pairs selected. -/
def applyFields (s : State) (f : Fib) (m : CalEst) : List (Fld × Nat) :=
  ([0, 1, 2] : List (Fin 3)).flatMap (pairFields f m) ++ appliedFields s f
/-- The run ends, once its set is stored. -/
def State.runApplied (s u : State) (f : Fib) : State :=
  (((((((u.set (CAL_APPLIED_SHOT f) (s.firstShot f)).set (CAL_TEMP_TEMP f) (s.get (MGMT_TEMPi_TEMP (s.get (CAL_CFG_TSENS f))))).set
    (CAL_STAT_VALID f) 1).setB (CAL_STAT_SKEW_SETTLED f) (s.cal[f]).settled).raise (CAL_FLAGS_DONE f) 1).setCalState f 0).setCal f
      fun c => { c with found := none })
/-- The state in which a set of all three pairs is in force. -/
def State.applied (s : State) (f : Fib) (m : CalEst) : State := s.runApplied (s.putSet f [0, 1, 2] m) f

theorem runApplied_regs (s u : State) (f : Fib) : (s.runApplied u f).regs = (u.puts (appliedFields s f)).regs :=
  congrArg (fun r => kput (calBusyF f).key (0 % 2 ^ (calBusyF f).w) (kput (CAL_STAT_STATE f).key (0 % 2 ^ 3) r)) (raise_flag_regs rfl)
theorem runApplied_only {s u : State} (h : u = butNotes s u) (f : Fib) :
    s.runApplied u f = butNotes { s with cal := (s.runApplied u f).cal } (s.runApplied u f) := by
  refine setCal_noted (set_noted (set_noted (raise_noted ?_ _ _) _ _) _ _) _ _
  exact set_noted (set_noted (set_noted (set_noted h _ _) _ _) _ _) _ _
theorem applied_regs (s : State) (f : Fib) (m : CalEst) : (s.applied f m).regs = (s.puts (applyFields s f m)).regs := by
  rw [applyFields, puts_append, ← putSet_eq]
  exact runApplied_regs s _ f
theorem applied_only (s : State) (f : Fib) (m : CalEst) :
    s.applied f m = butNotes { s with cal := (s.applied f m).cal } (s.applied f m) :=
  runApplied_only (by rw [putSet_eq]; exact puts_butNotes s _) f
theorem applied_cal (s : State) (f : Fib) (m : CalEst) : ((s.applied f m).cal[f]).found = none := by
  simp [State.applied, State.runApplied, State.setCal]

theorem applyFields_keys (s : State) (f : Fib) (m : CalEst) : ((applyFields s f m).map fun p => p.1.key).Nodup := by
  have h : ∀ f : Fib, ((applyFields State.reset f ⟨.replicate 6 0, .replicate 3 0, .replicate 3 0, .replicate 3 0⟩).map
    fun p => p.1.key).Nodup := by decide
  exact h f
theorem applied_get {s : State} {f : Fib} {m : CalEst} {g : Fld} {v : Nat} (hp : (g, v) ∈ applyFields s f m) :
    (s.applied f m).get g = v % 2 ^ g.w := get_of_puts (applied_regs s f m) (applyFields_keys s f m) hp

theorem applyFields_fields (s : State) (f : Fib) (m : CalEst) : (applyFields s f m).map Prod.fst
    ⊆ [CAL_APPLIED_SHOT f, CAL_TEMP_TEMP f, CAL_STAT_VALID f, CAL_FLAGS_DONE f, CAL_STAT_STATE f, calBusyF f, CAL_STAT_SKEW_SETTLED f]
      ++ (List.range 6).map (fun c => CAL_OFSc_OFS f c)
      ++ (List.range 3).flatMap fun p => [CAL_GAINp_GAIN f p, CAL_PHp_PH f p, CAL_SKEWp_SKEW f p] := by
  have h : ∀ f : Fib, (applyFields State.reset f ⟨.replicate 6 0, .replicate 3 0, .replicate 3 0, .replicate 3 0⟩).map Prod.fst
    ⊆ [CAL_APPLIED_SHOT f, CAL_TEMP_TEMP f, CAL_STAT_VALID f, CAL_FLAGS_DONE f, CAL_STAT_STATE f, calBusyF f, CAL_STAT_SKEW_SETTLED f]
      ++ (List.range 6).map (fun c => CAL_OFSc_OFS f c)
      ++ (List.range 3).flatMap fun p => [CAL_GAINp_GAIN f p, CAL_PHp_PH f p, CAL_SKEWp_SKEW f p] := by decide
  exact h f

/-- Each quantity of a set is among the fields that are stored. -/
theorem pairField_mem {s : State} {f : Fib} {m : CalEst} (i : Fin 3) {p : Fld × Nat} (hp : p ∈ pairFields f m i) :
    p ∈ applyFields s f m := by
  have hall : ∀ i : Fin 3, i ∈ ([0, 1, 2] : List (Fin 3)) := by decide
  exact List.mem_append_left _ (List.mem_flatMap.2 ⟨i, hall i, hp⟩)
theorem offset_mem (f : Nat) (m : CalEst) : ∀ c : Fin 6,
    (CAL_OFSc_OFS f c, bitsOf 12 m.ofs[c]) ∈ pairFields f m (Fin.ofNat 3 (c.val / 2))
  | 0 => .head _
  | 1 => .tail _ (.head _)
  | 2 => .head _
  | 3 => .tail _ (.head _)
  | 4 => .head _
  | 5 => .tail _ (.head _)

/-- CAL_APPLY of a set that a run has found. -/
theorem execCalApply_found {s : State} {f : Fib} {m : CalEst} (hd : s.domainOn 3 = true) (hfab : s.fabRuns = true)
    (hruns : s.seqRuns f = true) (hstate : s.calState f = 4) (hheld : (s.cal[f]).held = none) (hfound : (s.cal[f]).found = some m)
    (hray : s.get (CAL_CTRL_RAY f) = 1) (hbri : s.get (CAL_CTRL_BRI f) = 1) : exec (.calApply f) s = .next (s.applied f m) := by
  have hpairs : s.calPairs f = [0, 1, 2] := by
    rw [State.calPairs, on_of_get_one hray, on_of_get_one hbri]
    rfl
  show execCalApply f s = _
  rw [execCalApply, onRx_running hd hfab, if_neg (by simp [hruns]), hheld, hfound, hpairs]
  exact congrArg _ (if_pos hstate)

theorem calApply_holds : Claim.calApply := by
  rintro s f m ⟨hd, hfab, hruns, hstate, hheld, hfound, hray, hbri⟩
  refine ⟨_, execCalApply_found hd hfab hruns hstate hheld hfound hray hbri, fun c => ?_, fun p => ?_, fun p => ?_, fun p => ?_,
    applied_get ?_, applied_get ?_, applied_get (v := 1) ?_, applied_get (v := 1) ?_, applied_get (v := 0) ?_, ?_, applied_cal s f m,
    (Only.of_puts (applied_regs s f m) (applied_only s f m)).mono (applyFields_fields s f m)⟩
  · exact (applied_get (pairField_mem _ (offset_mem f m c))).trans (bitsOf_mod 12 _)
  · exact (applied_get (pairField_mem p (.tail _ (.tail _ (.head _))))).trans (bitsOf_mod 16 _)
  · exact (applied_get (pairField_mem p (.tail _ (.tail _ (.tail _ (.head _)))))).trans (bitsOf_mod 16 _)
  · exact (applied_get (pairField_mem p (.tail _ (.tail _ (.tail _ (.tail _ (.head _))))))).trans (bitsOf_mod 9 _)
  · simp [applyFields, appliedFields]
  · simp [applyFields, appliedFields]
  · simp [applyFields, appliedFields]
  · simp [applyFields, appliedFields]
  · simp [applyFields, appliedFields, calStateFields]
  · exact (applied_get (by simp [applyFields, appliedFields])).trans (Nat.mod_eq_of_lt (Bool.toNat_lt (s.cal[f]).settled))

/-! ### Records (R442, R444) -/

/-- The quantities of a record. -/
def quantityFields (f : Nat) (ws : List Nat) : List (Fld × Nat) :=
  ((List.range 6).map fun c => (CAL_OFSc_OFS f c, ws.getD (1 + c) 0)) ++ (List.range 3).flatMap fun p =>
    [(CAL_GAINp_GAIN f p, ws.getD (7 + p) 0), (CAL_PHp_PH f p, ws.getD (10 + p) 0), (CAL_SKEWp_SKEW f p, ws.getD (13 + p) 0)]
/-- What a record in force stores. -/
def recordFields (s : State) (f : Fib) (ws : List Nat) : List (Fld × Nat) :=
  quantityFields f ws ++ [(CAL_TEMP_TEMP f, ws.getD 0 0 % 2 ^ 16), (CAL_APPLIED_SHOT f, s.firstShot f), (CAL_STAT_VALID f, 1)]

theorem putRecord_eq (s : State) (f : Fib) (ws : List Nat) : s.putRecord f ws = s.puts (recordFields s f ws) := by
  rw [recordFields, quantityFields, puts_append, puts_append, puts_map, puts_flatMap]
  rfl

theorem recordFields_keys (s : State) (f : Fib) (ws : List Nat) :
    ((recordFields s f ws ++ [(wpendF f, 0)]).map (fun p : Fld × Nat => p.1.key) ++ lastF.map Fld.key).Nodup := by
  have h : ∀ f : Fib, ((recordFields State.reset f [] ++ [(wpendF f, 0)]).map (fun p : Fld × Nat => p.1.key) ++ lastF.map Fld.key).Nodup := by
    decide
  exact h f
theorem recordFields_fields (s : State) (f : Fib) (ws : List Nat) : (recordFields s f ws).map Prod.fst
    ⊆ [CAL_APPLIED_SHOT f, CAL_TEMP_TEMP f, CAL_STAT_VALID f] ++ (List.range 6).map (fun c => CAL_OFSc_OFS f c)
      ++ (List.range 3).flatMap fun p => [CAL_GAINp_GAIN f p, CAL_PHp_PH f p, CAL_SKEWp_SKEW f p] := by
  have h : ∀ f : Fib, (recordFields State.reset f []).map Prod.fst
      ⊆ [CAL_APPLIED_SHOT f, CAL_TEMP_TEMP f, CAL_STAT_VALID f] ++ (List.range 6).map (fun c => CAL_OFSc_OFS f c)
        ++ (List.range 3).flatMap fun p => [CAL_GAINp_GAIN f p, CAL_PHp_PH f p, CAL_SKEWp_SKEW f p] := by decide
  exact h f

/-- What a record that may be written fits. -/
structure RecordFits (ws : List Nat) : Prop where
  length : ws.length = 16
  ofs : ∀ c : Fin 6, ws.getD (1 + c.val) 0 < 2 ^ 12
  gain : ∀ p : Fin 3, ws.getD (7 + p.val) 0 < 2 ^ 16
  ph : ∀ p : Fin 3, ws.getD (10 + p.val) 0 < 2 ^ 16
  skew : ∀ p : Fin 3, ws.getD (13 + p.val) 0 < 2 ^ 9
theorem recordOk_fits {ws : List Nat} (h : recordOk ws = true) : RecordFits ws := by
  simp only [recordOk, Bool.and_eq_true, beq_iff_eq, List.all_eq_true, List.mem_range, decide_eq_true_eq] at h
  obtain ⟨⟨⟨⟨hlen, -⟩, hofs⟩, hpair⟩, hskew⟩ := h
  refine ⟨hlen, fun c => hofs c c.isLt, fun p => hpair p (by omega), fun p => ?_, fun p => hskew p p.isLt⟩
  have := hpair (3 + p.val) (by omega)
  rwa [← Nat.add_assoc] at this

/-- What a record in force shows. -/
theorem record_get {s t : State} {f : Fib} {ws : List Nat} (hok : recordOk ws = true)
    (hget : ∀ {g : Fld} {v : Nat}, (g, v) ∈ recordFields s f ws → t.get g = v % 2 ^ g.w) :
    (∀ c : Fin 6, t.get (CAL_OFSc_OFS f c) = ws.getD (1 + c.val) 0) ∧ (∀ p : Fin 3, t.get (CAL_GAINp_GAIN f p) = ws.getD (7 + p.val) 0)
      ∧ (∀ p : Fin 3, t.get (CAL_PHp_PH f p) = ws.getD (10 + p.val) 0) ∧ (∀ p : Fin 3, t.get (CAL_SKEWp_SKEW f p) = ws.getD (13 + p.val) 0)
      ∧ t.get (CAL_APPLIED_SHOT f) = s.firstShot f % 2 ^ 32 ∧ t.get (CAL_TEMP_TEMP f) = ws.getD 0 0 % 2 ^ 16 ∧ t.get (CAL_STAT_VALID f) = 1 := by
  have hfit := recordOk_fits hok
  have hpair (p : Fin 3) {q : Fld × Nat} (hq : q ∈ [(CAL_GAINp_GAIN f p, ws.getD (7 + p) 0), (CAL_PHp_PH f p, ws.getD (10 + p) 0),
      (CAL_SKEWp_SKEW f p, ws.getD (13 + p) 0)]) : q ∈ recordFields s f ws :=
    List.mem_append_left _ (List.mem_append_right _ (List.mem_flatMap.2 ⟨p, List.mem_range.2 p.isLt, hq⟩))
  have hofs (c : Fin 6) : (CAL_OFSc_OFS f c, ws.getD (1 + c) 0) ∈ recordFields s f ws :=
    List.mem_append_left _ (List.mem_append_left _ (List.mem_map.2 ⟨c, List.mem_range.2 c.isLt, rfl⟩))
  have hrest {q : Fld × Nat} (hq : q ∈ [(CAL_TEMP_TEMP f, ws.getD 0 0 % 2 ^ 16), (CAL_APPLIED_SHOT f, s.firstShot f), (CAL_STAT_VALID f, 1)]) :
      q ∈ recordFields s f ws := List.mem_append_right _ hq
  refine ⟨fun c => (hget (hofs c)).trans (Nat.mod_eq_of_lt (hfit.ofs c)), fun p => (hget (hpair p (.head _))).trans (Nat.mod_eq_of_lt (hfit.gain p)),
    fun p => (hget (hpair p (.tail _ (.head _)))).trans (Nat.mod_eq_of_lt (hfit.ph p)),
    fun p => (hget (hpair p (.tail _ (.tail _ (.head _))))).trans (Nat.mod_eq_of_lt (hfit.skew p)), hget (hrest (.tail _ (.head _))),
    (hget (hrest (.head _))).trans (Nat.mod_mod _ _), hget (v := 1) (hrest (.tail _ (.tail _ (.head _))))⟩

/-- A held record leaves its place. -/
def State.heldTaken (u : State) (f : Fib) : State := (u.set (wpendF f) 0).setCal f fun c => { c with held := none }
/-- The state in which a held record is in force. -/
def State.heldApplied (s : State) (f : Fib) (ws : List Nat) : State := (s.putRecord f ws).heldTaken f
theorem heldTaken_only {s u : State} (h : u = butNotes s u) (f : Fib) :
    u.heldTaken f = butNotes { s with cal := (u.heldTaken f).cal } (u.heldTaken f) := setCal_noted (set_noted h _ _) _ _
theorem heldTaken_regs (u : State) (f : Fib) : (u.heldTaken f).regs = (u.puts [(wpendF f, 0)]).regs := rfl
theorem heldApplied_regs (s : State) (f : Fib) (ws : List Nat) :
    (s.heldApplied f ws).regs = (s.puts (recordFields s f ws ++ [(wpendF f, 0)])).regs := by
  rw [State.heldApplied, putRecord_eq, puts_append, heldTaken_regs]
theorem heldApplied_only (s : State) (f : Fib) (ws : List Nat) :
    s.heldApplied f ws = butNotes { s with cal := (s.heldApplied f ws).cal } (s.heldApplied f ws) :=
  heldTaken_only (by rw [putRecord_eq]; exact puts_butNotes s _) f
theorem heldApplied_held (s : State) (f : Fib) (ws : List Nat) : ((s.heldApplied f ws).cal[f]).held = none := by
  simp [State.heldApplied, State.heldTaken, State.setCal]

theorem calApplyHeld_holds : Claim.calApplyHeld := by
  rintro s f ws ⟨hd, hfab, hruns, hheld, hok⟩
  have hexec : exec (.calApply f) s = .next (s.heldApplied f ws) := by
    show execCalApply f s = _
    rw [execCalApply, onRx_running hd hfab, if_neg (by simp [hruns]), hheld]
    rfl
  have hget {g : Fld} {v : Nat} (hp : (g, v) ∈ recordFields s f ws ++ [(wpendF f, 0)]) :
      (s.heldApplied f ws).get g = v % 2 ^ g.w :=
    get_of_puts (heldApplied_regs s f ws) (List.nodup_append.1 (recordFields_keys s f ws)).1 hp
  obtain ⟨hofs, hgain, hph, hskew, hshot, htemp, hvalid⟩ := record_get hok fun hp => hget (List.mem_append_left _ hp)
  refine ⟨_, hexec, hofs, hgain, hph, hskew, hshot, htemp, hvalid, ?_, ?_,
    (Only.of_puts (heldApplied_regs s f ws) (heldApplied_only s f ws)).mono ?_⟩
  · rw [hget (v := 0) (List.mem_append_right _ (.head _)), Nat.zero_mod]
  · exact heldApplied_held s f ws
  · have h : ∀ f : Fib, (recordFields State.reset f [] ++ [(wpendF f, 0)]).map Prod.fst
        ⊆ [CAL_APPLIED_SHOT f, CAL_TEMP_TEMP f, CAL_STAT_VALID f, wpendF f] ++ (List.range 6).map (fun c => CAL_OFSc_OFS f c)
          ++ (List.range 3).flatMap fun p => [CAL_GAINp_GAIN f p, CAL_PHp_PH f p, CAL_SKEWp_SKEW f p] := by decide
    exact h f

end Sys2Proof.Machine
end

section
/-! SUPPORT. The opcodes of the self-calibration (R444). -/

namespace Sys2Proof.Machine
open Reg

/-- A fibre's number names the fibre. -/
theorem fibOf_cons (f : Fib) (ws : List Nat) : fibOf (f.val :: ws) = f.val := Nat.mod_eq_of_lt f.isLt
theorem fin_fibOf (f : Fib) (ws : List Nat) : Fin.ofNat 2 (fibOf (f.val :: ws)) = f := by
  rw [fibOf_cons]
  exact Fin.ext (Nat.mod_eq_of_lt f.isLt)

/-- The state that an opcode's body leaves names what the calibrations hold. -/
theorem Done.cal {op st : Nat} {d : List Nat} {fs : List Fld} {c : CmdIn} {s t : State} {r : Vector CalRun 2}
    (h : Done op st d fs c s { s with cal := r } t) : t.cal = r ∧ Done op st d fs c s { s with cal := t.cal } t := by
  have hr : t.cal = r := congrArg State.cal h.2.2
  exact ⟨hr, by rwa [hr]⟩

/-- An opcode of the block with the fibre as its only parameter. -/
theorem fibre_judge {op : Nat} {body : State → List Nat → CmdRes} {c : CmdIn} {s : State} {f : Fib} (hready : Ready 16 s)
    (hwords : c.words = [f.val]) : s.judge op 16 (fun _ => [1]) body c = body s [f.val] := by
  have hform : paramsOk [1] c.words = true := by
    rw [hwords, paramsOk_cons]
    exact ⟨and_mask (n := 1) f.isLt, paramsOk_nil⟩
  rw [judge_ready hready hform, hwords]

/-! ### CAL_RUN (R438) -/

theorem calRun_holds : Claim.calRun := by
  rintro c s f ⟨hready, hwords, hidle, hgroups⟩
  have hjudge : s.judge 0xB0 16 (fun _ => [1]) calRun c = .done stOk [] (s.puts (requestFields s f)) := by
    rw [fibre_judge hready hwords, calRun, fin_fibOf, if_neg (by simp [hidle]), hgroups, calRequest_idle hidle]
    rfl
  obtain ⟨hget, hdone⟩ := runCmd_puts hjudge (by decide) (by decide) rfl (puts_butNotes _ _) rfl rfl (requestFields_keys s f)
  obtain ⟨hstate, hbusy, hruns⟩ := requested_get (s := s) (f := f) hget
  exact ⟨_, rfl, hstate, hbusy, hruns, hdone⟩

theorem calRunAlready_holds : Claim.calRunAlready := by
  rintro c s f ⟨hready, hwords, hbusy⟩
  have hjudge : s.judge 0xB0 16 (fun _ => [1]) calRun c = .done stAlready [] s := by
    rw [fibre_judge hready hwords, calRun, fin_fibOf, if_pos hbusy]
    rfl
  exact ⟨_, rfl, runCmd_unchanged hjudge (by decide) (by decide)⟩

/-! ### CAL_CONFIG (R443) -/

theorem calConfig_judge {c : CmdIn} {s : State} {f : Fib} {v cfg tol : Nat} (hready : Ready 16 s) (hwords : c.words = [f.val, v, cfg, tol])
    (hv : v < 8) (hcfg : cfg &&& 0xFFFF071F = cfg) :
    s.judge 0xB1 16 (fun _ => [1, 7, 0xFFFF071F, full]) calConfig c = calConfig s [f.val, v, cfg, tol] := by
  have htol : tol < 2 ^ 32 := words_mem_lt hwords tol (.tail _ (.tail _ (.tail _ (.head _))))
  have hform : paramsOk [1, 7, 0xFFFF071F, full] c.words = true := by
    simp only [hwords, paramsOk_cons]
    exact ⟨and_mask (n := 1) f.isLt, and_mask (n := 3) hv, hcfg, and_full htol, paramsOk_nil⟩
  rw [judge_ready hready hform, hwords]

/-- What CAL_CONFIG stores. -/
def configFields (f v cfg tol : Nat) : List (Fld × Nat) :=
  [(CAL_CTRL_AUTO f, fld v 0 1), (CAL_CTRL_RAY f, fld v 1 1), (CAL_CTRL_BRI f, fld v 2 1), (CAL_CFG_NSAMP_LOG2 f, fld cfg 0 5),
    (CAL_CFG_TSENS f, fld cfg 8 3), (CAL_CFG_DT f, fld cfg 16 8), (CAL_CFG_RETRY f, fld cfg 24 8), (CAL_TOL_OFS_TOL f, fld tol 0 8),
    (CAL_TOL_GAIN_TOL f, fld tol 8 8), (CAL_TOL_PH_TOL f, fld tol 16 8), (CAL_TOL_SKEW_TOL f, fld tol 24 8)]
/-- CAL_CONFIG in IDLE stores its fields, and the temperature is looked at. -/
theorem calConfig_idle {s : State} {f : Fib} {v cfg tol : Nat} (hidle : s.calState f = 0) (hlo : 20 ≤ cfg % 32) (hhi : cfg % 32 ≤ 30)
    (hdt : cfg / 2 ^ 16 % 256 ≠ 0) (hretry : cfg / 2 ^ 24 % 256 ≠ 0) :
    calConfig s [f.val, v, cfg, tol] = .done stOk [] ((s.puts (configFields f v cfg tol)).calTemp f) := by
  have hnsamp : fld cfg 0 5 = cfg % 32 := by simp [fld]
  have hok : calCfgOk cfg = true := by
    simp only [calCfgOk, hnsamp, Bool.and_eq_true, decide_eq_true_eq, bne_iff_ne]
    exact ⟨⟨⟨hlo, hhi⟩, hdt⟩, hretry⟩
  simp only [calConfig, fin_fibOf, par, List.getD_cons_succ, List.getD_cons_zero]
  rw [if_neg (by simp [hidle]), if_neg (by simp [hok])]
  rfl

theorem configFields_keys (s : State) (f : Fib) (v cfg tol : Nat) :
    ((configFields f v cfg tol ++ requestFields s f).map (fun p => p.1.key) ++ lastF.map Fld.key).Nodup := by
  have h : ∀ f : Fib, ((configFields f 0 0 0 ++ requestFields State.reset f).map (fun p => p.1.key) ++ lastF.map Fld.key).Nodup := by decide
  exact h f
theorem configFields_only (f : Fib) (v cfg tol : Nat) : ((configFields f v cfg tol).map (fun p => p.1.key) ++ lastF.map Fld.key).Nodup := by
  have h : ∀ f : Fib, ((configFields f 0 0 0).map (fun p => p.1.key) ++ lastF.map Fld.key).Nodup := by decide
  exact h f

theorem calConfig_holds : Claim.calConfig := by
  rintro c s f v cfg tol ⟨hready, hwords, hv, heven, hcfg, htol, hidle, hlo, hhi, hdt, hretry⟩
  have hauto : (s.puts (configFields f v cfg tol)).get (CAL_CTRL_AUTO f) = 0 := by
    have hfld : fld v 0 1 % 2 ^ 1 = 0 := by simpa [fld] using heven
    exact (get_puts (List.nodup_append.1 (configFields_only f v cfg tol)).1 (.head _)).trans hfld
  have hjudge : s.judge 0xB1 16 (fun _ => [1, 7, 0xFFFF071F, full]) calConfig c = .done stOk [] (s.puts (configFields f v cfg tol)) := by
    rw [calConfig_judge hready hwords hv hcfg, calConfig_idle hidle hlo hhi hdt hretry, calTemp_manual hauto]
  obtain ⟨hget, hdone⟩ := runCmd_puts hjudge (by decide) (by decide) rfl (puts_butNotes _ _) rfl rfl (configFields_only f v cfg tol)
  have hfld (x lo w : Nat) : fld x lo w % 2 ^ w = fld x lo w := Nat.mod_mod _ _
  have hlow (x w : Nat) : fld x 0 w % 2 ^ w = x % 2 ^ w := by rw [hfld, fld, Nat.pow_zero, Nat.div_one]
  refine ⟨_, rfl, ?_, (hget ?_).trans (hfld v 1 1), (hget ?_).trans (hfld v 2 1), (hget ?_).trans (hlow cfg 5), (hget ?_).trans (hfld cfg 8 3),
    (hget ?_).trans (hfld cfg 16 8), (hget ?_).trans (hfld cfg 24 8), (hget ?_).trans (hlow tol 8), (hget ?_).trans (hfld tol 8 8),
    (hget ?_).trans (hfld tol 16 8), (hget ?_).trans (hfld tol 24 8), hdone⟩
  · exact (hget (.head _)).trans ((hlow v 1).trans heven)
  all_goals simp [configFields]

theorem calConfigAuto_holds : Claim.calConfigAuto := by
  rintro c s f v cfg tol ⟨hready, hd, hwords, hv, hodd, hcfg, htol, hidle, hwait, hlo, hhi, hdt, hretry, hdrift⟩
  have hsame := sameRegs_puts s (configFields f v cfg tol)
  have hkeys : ∀ f : Fib, (CAL_STAT_STATE f).key ∉ ((configFields f 0 0 0).map Prod.fst).map Fld.key
      ∧ (CAL_STAT_RETRY_WAIT f).key ∉ ((configFields f 0 0 0).map Prod.fst).map Fld.key
      ∧ (CAL_TEMP_TEMP f).key ∉ ((configFields f 0 0 0).map Prod.fst).map Fld.key
      ∧ (CAL_RUNS_COUNT f).key ∉ ((configFields f 0 0 0).map Prod.fst).map Fld.key
      ∧ PWR_STATUS_DOMAIN_ON.key ∉ ((configFields f 0 0 0).map Prod.fst).map Fld.key
      ∧ ∀ i : Fin 8, (MGMT_TEMPi_TEMP i).key ∉ ((configFields f 0 0 0).map Prod.fst).map Fld.key := by decide
  obtain ⟨hkstate, hkwait, hktemp, hkruns, hkon, hksens⟩ := hkeys f
  have hput {g : Fld} {x : Nat} (hp : (g, x) ∈ configFields f v cfg tol) : (s.puts (configFields f v cfg tol)).get g = x % 2 ^ g.w :=
    get_puts (List.nodup_append.1 (configFields_only f v cfg tol)).1 hp
  have hfld (x lo w : Nat) : fld x lo w % 2 ^ w = fld x lo w := Nat.mod_mod _ _
  have hauto : fld v 0 1 % 2 ^ 1 = 1 := by simpa [fld] using hodd
  have hsens : (s.puts (configFields f v cfg tol)).get (CAL_CFG_TSENS f) = cfg / 2 ^ 8 % 8 := (hput (by simp [configFields])).trans (hfld cfg 8 3)
  have hdt' : (s.puts (configFields f v cfg tol)).get (CAL_CFG_DT f) = cfg / 2 ^ 16 % 256 := (hput (by simp [configFields])).trans (hfld cfg 16 8)
  have hasks : (s.puts (configFields f v cfg tol)).calTemp f = s.puts (configFields f v cfg tol ++ requestFields s f) := by
    have hidle' : (s.puts (configFields f v cfg tol)).calState f = 0 := (hsame _ hkstate).trans hidle
    have hruns : requestFields (s.puts (configFields f v cfg tol)) f = requestFields s f := by
      rw [requestFields, hsame _ hkruns, requestFields]
    rw [calTemp_asks ((hsame.domainOn hkon 3).trans hd) ((hput (.head _)).trans hauto) ((hsame _ hkwait).trans hwait) ?_,
      calRequest_idle hidle', hruns, puts_append]
    rw [hdt', State.calDrift, hsens, hsame.getI hktemp,
      hsame.getI (hksens ⟨cfg / 2 ^ 8 % 8, Nat.mod_lt _ (by decide)⟩)]
    exact hdrift
  have hjudge : s.judge 0xB1 16 (fun _ => [1, 7, 0xFFFF071F, full]) calConfig c
      = .done stOk [] (s.puts (configFields f v cfg tol ++ requestFields s f)) := by
    rw [calConfig_judge hready hwords hv hcfg, calConfig_idle hidle hlo hhi hdt hretry, hasks]
  obtain ⟨hget, hdone⟩ := runCmd_puts hjudge (by decide) (by decide) rfl (puts_butNotes _ _) rfl rfl (configFields_keys s f v cfg tol)
  obtain ⟨hstate, hbusy, -⟩ := requested_get (s := s) (f := f) fun hp => hget (List.mem_append_right _ hp)
  exact ⟨_, rfl, hstate, hbusy, (hget (.head _)).trans hauto, hdone⟩

theorem calConfigDenied_holds : Claim.calConfigDenied := by
  rintro c s f v cfg tol ⟨hready, hwords, hv, hcfg, htol, hbusy⟩
  have hjudge : s.judge 0xB1 16 (fun _ => [1, 7, 0xFFFF071F, full]) calConfig c = .refuse stDenied 0 := by
    rw [calConfig_judge hready hwords hv hcfg, calConfig, fin_fibOf, if_pos hbusy]
    rfl
  exact ⟨_, rfl, runCmd_refused_done hjudge (by decide) (by decide)⟩

/-! ### Records (R442) -/

theorem calRead_holds : Claim.calRead := by
  rintro c s f ⟨hready, hwords⟩
  have hjudge : s.judge 0xB2 16 (fun _ => [1]) calRead c = .done stOk (s.calRecord f) s := by
    rw [fibre_judge hready hwords, calRead, fibOf_cons]
    rfl
  exact ⟨_, rfl, runCmd_unchanged hjudge (by decide) (by decide)⟩

theorem paramsOk_full (ws : List Nat) (h : ∀ w ∈ ws, w < 2 ^ 32) : paramsOk (List.replicate ws.length full) ws = true := by
  induction ws with
  | nil => rfl
  | cons w ws ih =>
    rw [List.length_cons, List.replicate_succ, paramsOk_cons]
    exact ⟨and_full (h w (.head _)), ih fun x hx => h x (.tail _ hx)⟩
theorem calWrite_judge {c : CmdIn} {s : State} {f : Fib} {ws : List Nat} (hready : Ready 16 s) (hwords : c.words = f.val :: ws)
    (hok : recordOk ws = true) : s.judge 0xB3 16 (fun _ => 1 :: List.replicate 16 full) calWrite c = calWrite s (f.val :: ws) := by
  have hform : paramsOk (1 :: List.replicate 16 full) c.words = true := by
    rw [hwords, paramsOk_cons, ← (recordOk_fits hok).length]
    exact ⟨and_mask (n := 1) f.isLt, paramsOk_full ws fun w hw => words_mem_lt hwords w (.tail _ hw)⟩
  rw [judge_ready hready hform, hwords]

theorem recordFields_last (s : State) (f : Fib) (ws : List Nat) :
    ((recordFields s f ws).map (fun p => p.1.key) ++ lastF.map Fld.key).Nodup := by
  have h : ∀ f : Fib, ((recordFields State.reset f []).map (fun p => p.1.key) ++ lastF.map Fld.key).Nodup := by decide
  exact h f

theorem calWrite_holds : Claim.calWrite := by
  rintro c s f ws ⟨hready, hwords, hok, hidle, hseq⟩
  have hjudge : s.judge 0xB3 16 (fun _ => 1 :: List.replicate 16 full) calWrite c = .done stOk [] (s.puts (recordFields s f ws)) := by
    rw [calWrite_judge hready hwords hok, calWrite, fin_fibOf, List.drop_succ_cons, List.drop_zero, if_neg (by simp [hidle]),
      if_neg (by simp [hok]), if_pos hseq, putRecord_eq]
    rfl
  obtain ⟨hget, hdone⟩ := runCmd_puts hjudge (by decide) (by decide) rfl (puts_butNotes _ _) rfl rfl (recordFields_last s f ws)
  obtain ⟨hofs, hgain, hph, hskew, hshot, htemp, hvalid⟩ := record_get hok hget
  exact ⟨_, rfl, hofs, hgain, hph, hskew, hshot, htemp, hvalid, hdone.mono (recordFields_fields s f ws)⟩

/-- The state in which a record waits for the next shot. -/
def State.recordHeld (s : State) (f : Fib) (ws : List Nat) : State := (s.set (wpendF f) 1).setCal f fun c => { c with held := some ws }

theorem calWriteHeld_holds : Claim.calWriteHeld := by
  rintro c s f ws ⟨hready, hwords, hok, hidle, hseq⟩
  have hjudge : s.judge 0xB3 16 (fun _ => 1 :: List.replicate 16 full) calWrite c = .done stPending [] (s.recordHeld f ws) := by
    rw [calWrite_judge hready hwords hok, calWrite, fin_fibOf, List.drop_succ_cons, List.drop_zero, if_neg (by simp [hidle]),
      if_neg (by simp [hok]), if_neg (by omega)]
    rfl
  have hkeys : ∀ f : Fib, (([(wpendF f, 1)] : List (Fld × Nat)).map (fun p => p.1.key) ++ lastF.map Fld.key).Nodup := by decide
  obtain ⟨hget, hdone⟩ := runCmd_puts (l := [(wpendF f, 1)]) (u := { s with cal := (s.recordHeld f ws).cal }) hjudge (by decide) (by decide)
    rfl rfl rfl rfl (hkeys f)
  obtain ⟨hcal, hdone⟩ := hdone.cal
  refine ⟨_, rfl, ?_, ?_, ?_, hdone⟩
  · rw [hcal]
    simp [State.recordHeld, State.setCal]
  · rw [hget (.head _), wpendF_w]
    rfl
  · rw [hcal]
    exact cal_set_other _ f _

theorem calGetStatus_holds : Claim.calGetStatus := by
  rintro c s f ⟨hready, hwords⟩
  have hjudge := fibre_judge (op := 0xB4) (body := calGetStatus) hready hwords
  rw [calGetStatus, fibOf_cons] at hjudge
  exact ⟨_, rfl, runCmd_unchanged hjudge (by decide) (by decide)⟩

end Sys2Proof.Machine

namespace Sys2Proof.Proofs
open Sys2Proof.Machine

/-- Settles O13, clause by clause: every step of a run is a list of fields stored with one change of the fibre's own record of the run,
and the opcodes ask for these steps. -/
theorem calibration : Obligations.Calibration := by
  unfold Obligations.Calibration
  exact ⟨calCtrlRun_holds, calCtrlRunBusy_holds, calCtrlAbort_holds, retryWaitExpiry_holds, retryWaitExpiryEqual_holds,
    accumulationStart_holds, accumulationA_holds, accumulationB_holds, accumulationDisagree_holds, accumulationTimeout_holds,
    calApply_holds, calApplyHeld_holds, calRun_holds, calRunAlready_holds, calConfig_holds, calConfigAuto_holds,
    calConfigDenied_holds, calRead_holds, calWrite_holds, calWriteHeld_holds, calGetStatus_holds⟩

end Sys2Proof.Proofs
end

section
/-! SUPPORT. Command packets: the hardware's checks, the queue, the SPI port and the opcodes without an access (R315–R339). -/

namespace Sys2Proof.Machine
open Reg

/-! ### Answers outside an opcode -/

section
variable {s : State} {c : CmdIn} {op st owner : Nat} {data : List Nat}

/-- A reply goes out alike whether or not a queue entry is freed after it. -/
theorem answer_replied (hop : op < 256) (hst : st < 256) : Replied op st data owner c s (s.answer c.src op st c.tag.toNat owner data) := by
  obtain ⟨⟨hopcode, hstatus, htag, hreply⟩, -, -⟩ := answer_spec s c owner data hop hst
  simp only [get_of_regs (retire_regs _ c.src op c.tag.toNat), retire_replies, retire_waiting, retire_out] at hopcode hstatus htag hreply
  exact ⟨hopcode, hstatus, htag, hreply⟩
theorem answer_sameRegs (hop : op < 256) (hst : st < 256) : SameRegs lastF s (s.answer c.src op st c.tag.toNat owner data) :=
  (answer_spec s c owner data hop hst).2.1.of_regs (retire_regs _ _ _ _).symm
theorem answer_only : s.answer c.src op st c.tag.toNat owner data = repliedOnly s (s.answer c.src op st c.tag.toNat owner data) := by
  simp only [State.answer, State.deliver]
  cases c.src with
  | spi => (repeat' split) <;> rfl
  | inband g d => rfl
theorem answer_queue : (s.answer c.src op st c.tag.toNat owner data).cmd.queue = s.cmd.queue := congrArg (·.cmd.queue) answer_only
theorem answer_exec : (s.answer c.src op st c.tag.toNat owner data).cmd.exec = s.cmd.exec := by
  simp only [State.answer, State.deliver]
  cases c.src with
  | spi => (repeat' split) <;> rfl
  | inband g d => rfl
end

/-- A counter and a flag of an event of the command interface. -/
def State.tallied (s : State) (count flag : Fld) : State := (s.inc count).raise flag 1
theorem tallied_regs {s : State} {count flag : Fld} (hw : flag.w = 1) :
    (s.tallied count flag).regs = (s.puts [(count, min (s.get count + 1) (2 ^ count.w - 1)), (flag, 1)]).regs := raise_flag_regs hw
theorem tallied_sameRegs (s : State) (count flag : Fld) : SameRegs [count, flag] s (s.tallied count flag) :=
  ((SameRegs.refl _ s).set (.head _) _).set (.tail _ (.head _)) _
theorem tallied_get {s : State} {count flag : Fld} (hw : flag.w = 1) (hne : count.key ≠ flag.key) :
    (s.tallied count flag).get flag = 1 ∧ (s.tallied count flag).get count = min (s.get count + 1) (2 ^ count.w - 1) := by
  have hn : (([(count, min (s.get count + 1) (2 ^ count.w - 1)), (flag, 1)] : List (Fld × Nat)).map fun p => p.1.key).Nodup := by
    simp [hne]
  constructor
  · rw [get_of_puts (tallied_regs hw) hn (v := 1) (.tail _ (.head _)), hw]
    rfl
  · exact (get_of_puts (tallied_regs hw) hn (.head _)).trans (Nat.mod_eq_of_lt
      (Nat.lt_of_le_of_lt (Nat.min_le_right _ _) (Nat.sub_lt (Nat.two_pow_pos _) Nat.one_pos)))

/-! ### Packets (R323, R324) -/

section
variable {s : State} {src : CmdSrc} {b : List Byte}

theorem pktTag_lt (b : List Byte) : pktTag b < 2 ^ 16 := by
  have h : ofBytesLE ((b.drop 2).take 2) = ofBytesLE (b.drop 2) % 256 ^ 2 := ofBytesLE_take _ 2
  rw [pktTag, h]
  exact Nat.mod_lt _ (by decide)
theorem pktLenOk_of (h12 : 12 ≤ b.length) (hn : pktN b ≤ 500) (hlen : b.length = 12 + 4 * pktN b) : pktLenOk b = true := by
  rw [pktLenOk, Bool.and_eq_true, Bool.and_eq_true]
  exact ⟨⟨decide_eq_true h12, decide_eq_true hn⟩, beq_iff_eq.2 hlen⟩
theorem pktLenOk_bad (h : b.length < 12 ∨ 500 < pktN b ∨ b.length ≠ 12 + 4 * pktN b) : pktLenOk b = false := by
  rw [← Bool.not_eq_true, pktLenOk, Bool.and_eq_true, Bool.and_eq_true, decide_eq_true_eq, decide_eq_true_eq, beq_iff_eq]
  omega
theorem queueLevel_eq (s : State) : s.queueLevel = s.cmd.queue.length + if s.cmd.exec.isSome then 1 else 0 := by
  rw [State.queueLevel]
  cases s.cmd.exec <;> rfl

/-- The state in which a packet has entered the queue. -/
def State.entered (s : State) (count : Fld) (p : CmdPkt) : State := (s.inc count).setCmd fun c => { c with queue := c.queue ++ [p] }
theorem entered_only (s : State) (count : Fld) (p : CmdPkt) :
    Only [count] s { s with cmd := { s.cmd with queue := s.cmd.queue ++ [p] } } (s.entered count p) :=
  Only.of_puts (l := [(count, min (s.get count + 1) (2 ^ count.w - 1))]) rfl rfl
theorem entered_get (s : State) (count : Fld) (p : CmdPkt) : (s.entered count p).get count = min (s.get count + 1) (2 ^ count.w - 1) :=
  (State.get_set_same s count _).trans (Nat.mod_eq_of_lt
    (Nat.lt_of_le_of_lt (Nat.min_le_right _ _) (Nat.sub_lt (Nat.two_pow_pos _) Nat.one_pos)))

theorem takePacket_badLength (h : pktLenOk b = false) : s.takePacket src b = s.hwReply src b stBadParam := by simp [State.takePacket, h]
theorem takePacket_badCrc (h : pktLenOk b = true) (hcrc : pktCrcOk b = false) :
    s.takePacket src b = (s.tallied CMD_CRC_ERR_COUNT CMD_FLAGS_BAD_CRC).hwReply src b stBadCrc := by
  simp only [State.takePacket, h, hcrc, Bool.not_true, Bool.not_false, Bool.false_eq_true, if_false, if_true]
  rfl
theorem takePacket_full (h : pktLenOk b = true) (hcrc : pktCrcOk b = true) (hres : s.cmd.resetting = false) (hfull : 16 ≤ s.queueLevel) :
    s.takePacket src b = (s.tallied CMD_BUSY_CNT_COUNT CMD_FLAGS_BUSY).hwReply src b stBusy := by
  simp only [State.takePacket, h, hcrc, hres, hfull, Bool.not_true, Bool.false_eq_true, if_false, if_true]
  rfl
theorem takePacket_entered (h : pktLenOk b = true) (hcrc : pktCrcOk b = true) (hres : s.cmd.resetting = false) (hroom : s.queueLevel < 16) :
    s.takePacket src b = s.entered (match src with | .spi => CMD_RX_SPI_COUNT | .inband _ _ => CMD_RX_INBAND_COUNT) (pktOf src b) := by
  simp only [State.takePacket, h, hcrc, hres, Nat.not_le.2 hroom, Bool.not_true, Bool.false_eq_true, if_false]
  cases src <;> rfl

/-- The content of a packet, its opcode as the byte received. -/
theorem pktOf_eq (src : CmdSrc) (b : List Byte) : pktOf src b = ⟨src, b.getD 0 0, BitVec.ofNat 16 (ofBytesLE ((b.drop 2).take 2)),
    (toWords ((b.drop 8).take (4 * pktN b))).map (BitVec.ofNat 32)⟩ := by
  simp [pktOf, pktOp, pktTag]

/-- The port takes a packet while none of its replies waits. -/
theorem execPacket_spi (hup : s.portUp = true) (h4 : 4 ≤ b.length) (hwait : s.cmd.waiting = []) :
    exec (.commandPacketReceive .spi b) s = .next (s.takePacket .spi b) := by
  show execCommandPacketReceive .spi b s = _
  rw [execCommandPacketReceive, hup, decide_eq_true h4, Bool.and_self, if_pos rfl, State.intake, hwait]
  rfl
theorem execPacket_inband {g : Fin 8} {d : Fin 16} (hup : s.portUp = true) (h4 : 4 ≤ b.length) :
    exec (.commandPacketReceive (.inband g d) b) s = .next (s.takePacket (.inband g d) b) := by
  show execCommandPacketReceive (.inband g d) b s = _
  rw [execCommandPacketReceive, hup, decide_eq_true h4, Bool.and_self, if_pos rfl]
  rfl

/-- A reply of the hardware to a packet at the port. -/
theorem hwReply_eq (s : State) (b : List Byte) (st : Nat) : s.hwReply .spi b st
    = s.answer .spi (b.getD 0 0).toNat st (BitVec.ofNat 16 (ofBytesLE ((b.drop 2).take 2))).toNat 0 [] := by
  have htag : (BitVec.ofNat 16 (ofBytesLE ((b.drop 2).take 2))).toNat = pktTag b := Nat.mod_eq_of_lt (pktTag_lt b)
  rw [htag]
  rfl
end

theorem packetQueued_holds : Claim.packetQueued := by
  rintro s g d b ⟨hup, h12, hn, hlen, hcrc, hres, hroom⟩
  have hexec := execPacket_inband (g := g) (d := d) hup (by omega : 4 ≤ b.length)
  rw [takePacket_entered (pktLenOk_of h12 hn hlen) (beq_iff_eq.2 hcrc) hres (by rwa [queueLevel_eq]), pktOf_eq] at hexec
  exact ⟨_, hexec, rfl, entered_get s _ _, entered_only s _ _⟩

theorem packetSpi_holds : Claim.packetSpi := by
  rintro s b ⟨hup, h12, hn, hlen, hcrc, hres, hwait, hroom⟩
  have hexec := execPacket_spi hup (by omega : 4 ≤ b.length) hwait
  rw [takePacket_entered (pktLenOk_of h12 hn hlen) (beq_iff_eq.2 hcrc) hres (by rwa [queueLevel_eq]), pktOf_eq] at hexec
  exact ⟨_, hexec, rfl, entered_only s _ _⟩

theorem packetLength_holds : Claim.packetLength := by
  rintro s b c ⟨hup, h4, hbad, hwait, rfl⟩
  have hexec := execPacket_spi hup h4 hwait
  rw [takePacket_badLength (pktLenOk_bad hbad), hwReply_eq] at hexec
  have hop : (b.getD 0 0).toNat < 256 := (b.getD 0 0).isLt
  exact ⟨_, hexec, answer_replied (c := ⟨.spi, _, []⟩) hop (by decide), answer_queue (c := ⟨.spi, _, []⟩),
    answer_sameRegs (c := ⟨.spi, _, []⟩) hop (by decide), answer_only (c := ⟨.spi, _, []⟩)⟩

/-- A packet that is counted, flagged and answered. -/
theorem hwReply_tallied (s : State) (b : List Byte) {st : Nat} {count flag : Fld} (hst : st < 256) (hw : flag.w = 1)
    (hne : count.key ≠ flag.key) (hlast : count.key ∉ lastF.map Fld.key ∧ flag.key ∉ lastF.map Fld.key) :
    let t := (s.tallied count flag).hwReply .spi b st
    Replied (b.getD 0 0).toNat st [] 0 ⟨.spi, BitVec.ofNat 16 (ofBytesLE ((b.drop 2).take 2)), []⟩ s t ∧ t.cmd.queue = s.cmd.queue
      ∧ t.get flag = 1 ∧ t.get count = min (s.get count + 1) (2 ^ count.w - 1)
      ∧ SameRegs (count :: flag :: lastF) s t ∧ t = repliedOnly s t := by
  rw [hwReply_eq]
  have hop : (b.getD 0 0).toNat < 256 := (b.getD 0 0).isLt
  have hregs := answer_sameRegs (s := s.tallied count flag) (c := ⟨.spi, BitVec.ofNat 16 (ofBytesLE ((b.drop 2).take 2)), []⟩) (owner := 0)
    (data := []) hop hst
  obtain ⟨hflag, hcount⟩ := tallied_get (s := s) hw hne
  refine ⟨answer_replied (s := s.tallied count flag) (c := ⟨.spi, _, []⟩) hop hst, answer_queue (s := s.tallied count flag) (c := ⟨.spi, _, []⟩),
    (hregs _ hlast.2).trans hflag, (hregs _ hlast.1).trans hcount, ?_, answer_only (s := s.tallied count flag) (c := ⟨.spi, _, []⟩)⟩
  exact ((tallied_sameRegs s count flag).mono (List.subset_append_left [count, flag] lastF)).trans
    (hregs.mono (List.subset_append_right [count, flag] lastF))

theorem packetCrc_holds : Claim.packetCrc := by
  rintro s b c ⟨hup, h12, hn, hlen, hcrc, hwait, rfl⟩
  have hexec := execPacket_spi hup (by omega : 4 ≤ b.length) hwait
  rw [takePacket_badCrc (pktLenOk_of h12 hn hlen) (beq_eq_false_iff_ne.2 hcrc)] at hexec
  exact ⟨_, hexec, hwReply_tallied s b (by decide) rfl (by decide) (by decide)⟩

theorem packetBusy_holds : Claim.packetBusy := by
  rintro s b c ⟨hup, h12, hn, hlen, hcrc, hres, hwait, rfl, hfull⟩
  have hexec := execPacket_spi hup (by omega : 4 ≤ b.length) hwait
  rw [takePacket_full (pktLenOk_of h12 hn hlen) (beq_iff_eq.2 hcrc) hres (by rwa [queueLevel_eq])] at hexec
  obtain ⟨hreply, hqueue, hflag, -, hregs, honly⟩ := hwReply_tallied s b (st := stBusy) (count := CMD_BUSY_CNT_COUNT)
    (flag := CMD_FLAGS_BUSY) (by decide) rfl (by decide) (by decide)
  exact ⟨_, hexec, hreply, hqueue, hflag, hregs, honly⟩

/-! ### The queue (R325) -/

theorem commandDequeue_holds : Claim.commandDequeue := by
  rintro s p rest ⟨hd, hidle, hqueue, hres, hphase, hknown, hroom⟩
  refine ⟨_, ?_, rfl⟩
  show execCommandDequeue s = _
  simp [execCommandDequeue, hd, hidle, hqueue, hroom, hres, hphase, hknown, State.setCmd]

theorem dequeueUnknown_holds : Claim.dequeueUnknown := by
  rintro s p rest ⟨hd, hidle, hqueue, hres, hphase, hunknown, hroom⟩
  have hexec : exec .commandDequeue s = .next ((s.setCmd fun c => { c with queue := rest }).answerPkt p stBadOpcode) := by
    show execCommandDequeue s = _
    simp [execCommandDequeue, hd, hidle, hqueue, hroom, hres, hphase, hunknown]
  have hop : p.op.toNat < 256 := p.op.isLt
  exact ⟨_, hexec, answer_replied (s := s.setCmd _) (c := ⟨p.src, p.tag, p.ps⟩) hop (by decide), answer_queue (c := ⟨p.src, p.tag, p.ps⟩),
    (answer_exec (c := ⟨p.src, p.tag, p.ps⟩)).trans hidle, answer_sameRegs (s := s.setCmd _) (c := ⟨p.src, p.tag, p.ps⟩) hop (by decide),
    answer_only (c := ⟨p.src, p.tag, p.ps⟩)⟩

/-! ### The port (R333–R336) -/

theorem spiPoll_holds : Claim.spiPoll := by
  intro s hup
  refine ⟨s.portOut [], congrArg Host.Outcome.next (if_pos hup), List.append_nil _, rfl⟩

theorem cmdWrite_holds : Claim.cmdWrite := by
  rintro s b ⟨hup, h12, hn, hlen, hcrc, hres, hwait, hroom⟩
  have hexec : exec (.cmdWrite b) s
      = .next ((s.portOut (List.replicate b.length 0)).entered CMD_RX_SPI_COUNT (pktOf .spi b)) := by
    show execCmdWrite b s = _
    have hempty : (s.portOut (List.replicate b.length 0)).cmd.waiting.isEmpty = true := List.isEmpty_iff.2 hwait
    rw [execCmdWrite, if_pos hup, if_neg (by omega), State.intake, if_pos hempty,
      takePacket_entered (s := s.portOut _) (pktLenOk_of h12 hn hlen) (beq_iff_eq.2 hcrc) hres (by rw [queueLevel_eq]; exact hroom)]
  obtain ⟨hregs, honly⟩ := entered_only (s.portOut (List.replicate b.length 0)) CMD_RX_SPI_COUNT (pktOf .spi b)
  refine ⟨_, hexec, ?_, List.length_append, List.take_left, entered_get (s.portOut _) _ _, hregs, honly⟩
  exact List.take_left' (length_bytesLE 4 s.portStatus)

theorem cmdWriteShort_holds : Claim.cmdWriteShort := by
  rintro s b ⟨hup, hshort⟩
  have hexec : exec (.cmdWrite b) s = .next ((s.portOut (List.replicate b.length 0)).tallied CMD_FRAME_ERR_COUNT CMD_FLAGS_FRAME_ERR) := by
    show execCmdWrite b s = _
    rw [execCmdWrite, if_pos hup, if_pos hshort]
    rfl
  obtain ⟨hflag, hcount⟩ := tallied_get (s := s.portOut (List.replicate b.length 0)) (count := CMD_FRAME_ERR_COUNT) (flag := CMD_FLAGS_FRAME_ERR)
    rfl (by decide)
  refine ⟨_, hexec, hflag, hcount, ?_, rfl⟩
  exact (tallied_sameRegs (s.portOut (List.replicate b.length 0)) _ _).mono (List.Perm.swap _ _ []).subset

theorem rplyRead_holds : Claim.rplyRead := by
  rintro s n r rest ⟨hup, hreplies, hwait, hheld⟩
  have hexec : exec (.rplyRead n) s = .next ((s.portOut ((r ++ List.replicate (n - r.length) 0).take n)).setCmd fun c =>
      { c with replies := if r.length ≤ n then rest else r :: rest }) := by
    show execRplyRead n s = _
    rw [execRplyRead, if_pos hup, hreplies]
    by_cases hall : r.length ≤ n
    · simp [hall, hwait, hheld, State.placeReplies, State.setCmd, State.portOut]
    · simp [hall, ← hreplies, State.setCmd, State.portOut]
  exact ⟨_, hexec, rfl, rfl, rfl⟩

theorem rplyReadEmpty_holds : Claim.rplyReadEmpty := by
  rintro s n ⟨hup, hempty⟩
  refine ⟨s.portOut (List.replicate n 0), ?_, rfl, rfl⟩
  show execRplyRead n s = _
  rw [execRplyRead, if_pos hup, hempty]

theorem spiBadOp_holds : Claim.spiBadOp := by
  rintro s op ⟨hup, hop⟩
  have hexec : exec (.spiBadOp op) s = .next ((s.portOut []).raise CMD_FLAGS_SPI_BAD_OP 1) := by
    show execSpiBadOp op s = _
    rw [execSpiBadOp, hup, decide_eq_true hop]
    rfl
  exact ⟨_, hexec, get_raise_flag rfl, (SameRegs.refl _ _).set (.head _) _, rfl⟩

/-! ### Opcodes without an access (R328, R329) -/

/-- An opcode of the command interface without parameters. -/
theorem plain_judge {op : Nat} {body : State → List Nat → CmdRes} {c : CmdIn} {s : State} (hready : Ready 11 s) (hwords : c.words = []) :
    s.judge op 11 (fun _ => []) body c = body s [] := by
  have hform : paramsOk [] c.words = true := by rw [hwords]; rfl
  rw [judge_ready hready hform, hwords]

theorem nopCommand_holds : Claim.nopCommand := by
  rintro c s ⟨hready, hwords⟩
  exact ⟨_, rfl, runCmd_unchanged (plain_judge hready hwords) (by decide) (by decide)⟩
theorem identCmd_holds : Claim.identCmd := by
  rintro c s ⟨hready, hwords⟩
  exact ⟨_, rfl, runCmd_unchanged (plain_judge hready hwords) (by decide) (by decide)⟩
theorem statusCmd_holds : Claim.statusCmd := by
  rintro c s ⟨hready, hwords⟩
  exact ⟨_, rfl, runCmd_unchanged (plain_judge hready hwords) (by decide) (by decide)⟩

/-- The state in which no further command is taken, and the reset has its instant. -/
def State.resetAsked (s : State) : State := (s.setCmd fun c => { c with resetting := true }).armReset

theorem resetCmd_holds : Claim.resetCmd := by
  rintro c s ⟨hready, hwords⟩
  have hform : paramsOk [full] c.words = true := by rw [hwords]; rfl
  have hjudge : s.judge 0x05 11 (fun _ => [full]) resetBody c = .done stOk [] s.resetAsked := by
    rw [judge_ready hready hform, hwords]
    rfl
  obtain ⟨hreply, hregs, honly⟩ := runCmd_done hjudge (by decide) (by decide)
  have hat : s.resetAsked.cmd.resetAt = s.cyc + (0 + Config.freeNat s.freeCtr % (400000 - 0 + 1)) := rfl
  have hcmd : (runCmd 0x05 11 (fun _ => [full]) resetBody c s).cmd.resetAt = s.resetAsked.cmd.resetAt := congrArg (·.cmd.resetAt) honly
  refine ⟨_, rfl, congrArg (·.cmd.resetting) honly, ?_, ?_, hreply, hregs, (congrArg State.mem honly).trans rfl,
    (congrArg State.flash honly).trans rfl, (congrArg State.seq honly).trans rfl, (congrArg State.eng honly).trans rfl⟩
  · rw [hcmd, hat]
    omega
  · rw [hcmd, hat]
    omega

theorem factoryTest_holds : Claim.factoryTest := by
  rintro c s o ⟨hready, -⟩
  have hform : paramsOk (c.words.map fun _ => full) c.words = true := by
    rw [List.map_const']
    exact paramsOk_full _ (words_mem_lt rfl)
  have hjudge : s.judge (0xF0 + o.val) 11 (fun ps => ps.map fun _ => full) factoryBody c = .refuse stDenied 0 :=
    judge_ready (masks := fun ps => ps.map fun _ => full) hready hform
  exact ⟨_, rfl, runCmd_refused_done hjudge (by omega) (by decide)⟩

end Sys2Proof.Machine

namespace Sys2Proof.Proofs
open Sys2Proof.Machine

/-- Settles O19, clause by clause: a packet enters the queue or is answered, with a counter and a flag where R323 gives them; the port
puts its status word before what it clocks out. -/
theorem commandIntake : Obligations.CommandIntake := by
  unfold Obligations.CommandIntake
  exact ⟨packetQueued_holds, packetSpi_holds, packetLength_holds, packetCrc_holds, packetBusy_holds, commandDequeue_holds,
    dequeueUnknown_holds, spiPoll_holds, cmdWrite_holds, cmdWriteShort_holds, rplyRead_holds, rplyReadEmpty_holds, spiBadOp_holds,
    nopCommand_holds, identCmd_holds, statusCmd_holds, resetCmd_holds, factoryTest_holds⟩

end Sys2Proof.Proofs
end

section
/-! SUPPORT. Edges and the decisions on their stamps in the time-measurement block (R397–R403). -/

namespace Sys2Proof.Machine
open Reg

/-- What a field stores when it counts up fits it. -/
theorem counted_mod (n w : Nat) : min n (2 ^ w - 1) % 2 ^ w = min n (2 ^ w - 1) :=
  Nat.mod_eq_of_lt (Nat.lt_of_le_of_lt (Nat.min_le_right _ _) (Nat.sub_lt (Nat.two_pow_pos w) Nat.one_pos))
theorem inc_get (s : State) (f : Fld) : (s.inc f).get f = min (s.get f + 1) (2 ^ f.w - 1) :=
  (State.get_set_same s f _).trans (counted_mod _ _)
theorem inc_only (s : State) (f : Fld) : Only [f] s s (s.inc f) := (Only.refl _ s).set (.head _) _

/-- What the channels of the time-measurement block hold may be named from the state reached. -/
theorem Only.tdc {fs : List Fld} {s t : State} {x : TdcRun} (h : Only fs s { s with tdc := x } t) : Only fs s { s with tdc := t.tdc } t := by
  have hx : t.tdc = x := congrArg State.tdc h.2
  rwa [hx]

/-! ### Edges (R397, R400, R401) -/

/-- A user channel takes its own polarity and prescaler (R397). -/
theorem edgeSel_user {s : State} {n : Fin 8} (hn : n.val < 4) (howner : s.tdcOwner n = ownerOf 0x0A n) :
    s.edgeSel n = (s.get (TDC_CHn_CTRL_POL n), s.get (TDC_CHn_CTRL_PRESC n) + 1) := by
  have hmark : ¬ (n.val = 3 ∧ s.tdcOwner 3 = ownerOf 9 3) := by
    rintro ⟨h3, hseq⟩
    rw [h3, hseq] at howner
    exact absurd howner (by decide)
  rw [State.edgeSel, if_neg hmark, if_pos hn]

/-- The prescaler has counted an edge. -/
def State.edged (s : State) (n : Fin 8) (k : Nat) : State := s.setTdc n fun c => { c with edges := k }
/-- An edge is stamped. -/
def State.edgeStamped (s : State) (ip : Fin 9) (n : Fin 8) (k st : Nat) : State :=
  ({ s.edged n k with tdc := { (s.edged n k).tdc with last := s.tdc.last.set ip (some st) } }).inc (TDC_CHn_STAMPS_COUNT n)
/-- What an edge does that its channel looks at. -/
def State.edgeTaken (s : State) (ip : Fin 9) (e : EdgeIn) (n : Fin 8) : State :=
  let k := ((s.tdc.ch[n]).edges + 1) % (s.get (TDC_CHn_CTRL_PRESC n) + 1)
  let st := s.stampFor ip.val e.coarse.toNat e.code.toNat
  if k ≠ 0 then s.edged n k
  else if s.tooSoon ip st then (s.edged n k).inc (TDC_CHn_DEAD_COUNT n)
  else (s.edgeStamped ip n k st).takeEdge n st e.falling

theorem ipChan_user {ip : Fin 9} {n : Fin 8} (hip : ip.val < 4) (hn : n.val = ip.val) : ipChan ip = n := by
  refine Fin.ext ?_
  rw [ipChan, Fin.val_ofNat]
  omega
theorem execEdgeStamp_user {s : State} {ip : Fin 9} {e : EdgeIn} {n : Fin 8} (hd : s.domainOn 2 = true) (hfab : s.fabRuns = true)
    (hcal : (s.get TDC_STATUS_CAL_BUSY).testBit ip.val = false) (hip : ip.val < 4) (hn : n.val = ip.val)
    (howner : s.tdcOwner n = ownerOf 0x0A n) (hpol : s.get (TDC_CHn_CTRL_POL n) = 2 ∨ s.get (TDC_CHn_CTRL_POL n) = e.falling.toNat) :
    exec (.edgeStamp ip e) s = .next (s.edgeTaken ip e n) := by
  obtain rfl := ipChan_user hip hn
  have hused : s.tdcUsed (ipChan ip) = true := by
    have h : s.tdcOwner (ipChan ip) ≠ 0 := by rw [howner, ownerOf]; omega
    simp [State.tdcUsed, h]
  have hsel : (s.get (TDC_CHn_CTRL_POL (ipChan ip)) == 2 || s.get (TDC_CHn_CTRL_POL (ipChan ip)) == e.falling.toNat) = true := by
    simpa using hpol
  show execEdgeStamp ip e s = _
  rw [execEdgeStamp, onCore_running hd hfab]
  simp only [edgeSel_user (hn ▸ hip) howner, hcal, hused, hsel, Bool.not_true, Bool.or_self, Bool.false_eq_true, if_false]
  rfl

theorem edgePrescaled_holds : Claim.edgePrescaled := by
  rintro s ip e n ⟨hd, hfab, hcal, hip, hn, howner, hpol, hpresc⟩
  have hk : ((s.tdc.ch[n]).edges + 1) % (s.get (TDC_CHn_CTRL_PRESC n) + 1) = (s.tdc.ch[n]).edges + 1 := Nat.mod_eq_of_lt hpresc
  refine ⟨_, execEdgeStamp_user hd hfab hcal hip hn howner (.inl hpol), ?_⟩
  simp only [State.edgeTaken, hk]
  rw [if_pos (Nat.succ_ne_zero _)]
  rfl

/-- Every edge passes a prescaler of 0. -/
theorem edgeTaken_every {s : State} {ip : Fin 9} {e : EdgeIn} {n : Fin 8} (hpresc : s.get (TDC_CHn_CTRL_PRESC n) = 0) :
    s.edgeTaken ip e n = if s.tooSoon ip (s.stampFor ip.val e.coarse.toNat e.code.toNat) then (s.edged n 0).inc (TDC_CHn_DEAD_COUNT n)
      else (s.edgeStamped ip n 0 (s.stampFor ip.val e.coarse.toNat e.code.toNat)).takeEdge n
        (s.stampFor ip.val e.coarse.toNat e.code.toNat) e.falling := by
  simp only [State.edgeTaken, hpresc, Nat.zero_add, Nat.mod_one]
  rw [if_neg (by simp)]

theorem edgeDead_holds : Claim.edgeDead := by
  rintro s ip e n l ⟨hd, hfab, hcal, hip, hn, howner, hpol, hpresc, hlast, hdead⟩
  have hsoon : s.tooSoon ip (s.stampFor ip.val e.coarse.toNat e.code.toNat) = true := by
    rw [State.tooSoon, hlast]
    exact decide_eq_true hdead
  refine ⟨_, execEdgeStamp_user hd hfab hcal hip hn howner (.inr hpol), ?_⟩
  rw [edgeTaken_every hpresc, if_pos hsoon]
  obtain ⟨hregs, honly⟩ := inc_only (s.edged n 0) (TDC_CHn_DEAD_COUNT n)
  refine ⟨inc_get (s.edged n 0) _, rfl, ?_, hregs, honly⟩
  simp [State.edged, State.setTdc, State.inc, State.incBy]

theorem tooSoon_none {s : State} {ip : Fin 9} (h : s.tdc.last[ip] = none) (st : Nat) : s.tooSoon ip st = false := by
  rw [State.tooSoon, h]
/-- An edge stamped changes no field but its count. -/
theorem edgeStamped_mode (s : State) (ip : Fin 9) (n : Fin 8) (k st : Nat) : (s.edgeStamped ip n k st).tdcMode n = s.tdcMode n := by
  have hkeys : ∀ n : Fin 8, (TDC_CHn_CTRL_MODE n).key ≠ (TDC_CHn_STAMPS_COUNT n).key := by decide
  exact State.get_set_ne _ (hkeys n) _
theorem edgeStamped_get (s : State) (ip : Fin 9) (n : Fin 8) (k st : Nat) :
    (s.edgeStamped ip n k st).get (TDC_CHn_STAMPS_COUNT n) = min (s.get (TDC_CHn_STAMPS_COUNT n) + 1) (2 ^ 32 - 1) := inc_get _ _
theorem edgeStamped_only (s : State) (ip : Fin 9) (n : Fin 8) (k st : Nat) :
    Only [TDC_CHn_STAMPS_COUNT n] s { s with tdc := (s.edgeStamped ip n k st).tdc } (s.edgeStamped ip n k st) :=
  ⟨(SameRegs.refl _ s).set (.head _) _, rfl⟩
theorem edgeStamped_last (s : State) (ip : Fin 9) (n : Fin 8) (k st : Nat) : (s.edgeStamped ip n k st).tdc.last[ip] = some st := by
  simp [State.edgeStamped, State.inc, State.incBy]
theorem edgeStamped_ch (s : State) (ip : Fin 9) (n : Fin 8) (k st : Nat) :
    (s.edgeStamped ip n k st).tdc.ch[n] = { s.tdc.ch[n] with edges := k } := by
  simp [State.edgeStamped, State.edged, State.setTdc, State.inc, State.incBy]

/-- A change of what a channel holds, beside register fields. -/
theorem Only.setTdc {fs : List Fld} {s t : State} (h : Only fs s { s with tdc := t.tdc } t) (n : Fin 8) (g : TdcChan → TdcChan) :
    Only fs s { s with tdc := (t.setTdc n g).tdc } (t.setTdc n g) :=
  ⟨h.1.of_regs rfl, congrArg (State.setTdc · n g) h.2⟩
theorem setTdc_ch (s : State) (n : Fin 8) (g : TdcChan → TdcChan) : (s.setTdc n g).tdc.ch[n] = g (s.tdc.ch[n]) := by
  simp [State.setTdc]

theorem edgeStampMode_holds : Claim.edgeStampMode := by
  rintro s ip e n st ⟨hd, hfab, hcal, hip, hn, howner, hpol, hpresc, hlast, hmode, rfl⟩
  refine ⟨_, execEdgeStamp_user hd hfab hcal hip hn howner (.inr hpol), ?_⟩
  have hmode' : ∀ st, (s.edgeStamped ip n 0 st).tdcMode n = 1 := fun st => (edgeStamped_mode s ip n 0 st).trans hmode
  rw [edgeTaken_every hpresc, tooSoon_none hlast, if_neg (by decide), State.takeEdge, if_pos ⟨hn ▸ hip, hmode' _⟩]
  refine ⟨?_, ?_, ?_, edgeStamped_get s ip n 0 _, edgeStamped_last s ip n 0 _, (edgeStamped_only s ip n 0 _).setTdc n _⟩
  · rw [setTdc_ch, edgeStamped_ch]
    rfl
  · rw [setTdc_ch, edgeStamped_ch]
  · rw [setTdc_ch, edgeStamped_ch]

theorem phaseDiff_of_le {a st : Nat} (ha : a ≤ st) (hst : st < 2 ^ 63) : 0 ≤ phaseDiff st (a % 2 ^ 64) := by
  have hmod : (((st : Int) - (a % 2 ^ 64 : Nat)) % (2 ^ 64 : Int)).toNat = st - a := by omega
  rw [phaseDiff, hmod, signedOf, if_neg (by omega)]
  omega

theorem edgeGate_holds : Claim.edgeGate := by
  rintro s ip e n st a b ⟨hd, hfab, hcal, hip, hn, howner, hpol, hpresc, hlast, hmode, rfl, hgate, hb, ha, hst⟩
  refine ⟨_, execEdgeStamp_user hd hfab hcal hip hn howner (.inr hpol), ?_⟩
  have hmode' : ∀ st, (s.edgeStamped ip n 0 st).tdcMode n = 2 := fun st => (edgeStamped_mode s ip n 0 st).trans hmode
  have hgate' : ∀ st, ((s.edgeStamped ip n 0 st).tdc.ch[n]).gate = some (a, b) := fun st => by rw [edgeStamped_ch]; exact hgate
  have hin := phaseDiff_of_le ha (by omega)
  rw [edgeTaken_every hpresc, tooSoon_none hlast, if_neg (by decide), State.takeEdge, if_neg (by rw [hmode']; simp),
    if_pos ⟨hn ▸ hip, hmode' _⟩, State.freqMode, hgate']
  simp only [if_pos hin]
  refine ⟨?_, edgeStamped_last s ip n 0 _, ?_, (edgeStamped_only s ip n 0 _).setTdc n _⟩
  · rw [setTdc_ch, edgeStamped_ch]
  · rw [setTdc_ch, edgeStamped_ch]
    exact hgate

/-! ### Decisions (R402, R403) -/

section
variable {s : State} {n : Fin 8} {st r : Nat} {fall : Bool}

theorem tdcRef_self (h : s.get (TDC_CHn_CTRL_REF n) = 15) : s.tdcRef 5 n st = some st := by
  rw [show (5 : Nat) = 4 + 1 from rfl, State.tdcRef]
  simp only [h, if_true]
theorem tdcRef_launch {k : Fin 2} (h : s.get (TDC_CHn_CTRL_REF n) = 8 + k.val) :
    s.tdcRef 5 n st = latestAt st ((s.sq k).launches.map stampOf) := by
  have hk : Fin.ofNat 2 (8 + k.val - 8) = k := by
    refine Fin.ext ?_
    rw [Fin.val_ofNat]
    omega
  rw [show (5 : Nat) = 4 + 1 from rfl, State.tdcRef]
  simp only [h, hk]
  rw [if_neg (by omega), if_neg (by omega), if_neg (by omega), if_pos (by omega)]

theorem phaseDiff_self (st : Nat) : phaseDiff st st = 0 := by simp [phaseDiff, signedOf]

/-- A stamp is accepted where its reference is itself, or the window holds its interval. -/
theorem stampMode_accepts (href : s.tdcRef 5 n st = some r)
    (h : s.get (TDC_CHn_CTRL_REF n) = 15 ∨ s.inWindow n (phaseDiff st r).toNat = true) :
    s.stampMode n st fall = (s.keepStamp n st).pushRecord n (s.stampRecord st (phaseDiff st r).toNat fall) := by
  simp only [State.stampMode, href]
  exact if_pos h
/-- A stamp without a reference that its window holds is rejected. -/
theorem stampMode_rejects {k : Fin 2} (h : s.get (TDC_CHn_CTRL_REF n) = 8 + k.val)
    (hout : ∀ r, s.tdcRef 5 n st = some r → s.inWindow n (phaseDiff st r).toNat = false) :
    s.stampMode n st fall = s.inc (TDC_CHn_REJ_COUNT n) := by
  have hself : s.get (TDC_CHn_CTRL_REF n) ≠ n.val := by omega
  have hevery : s.get (TDC_CHn_CTRL_REF n) ≠ 15 := by omega
  simp only [State.stampMode, if_neg hself]
  split
  next r href => exact if_neg (by simp [hevery, hout r href])
  next => rfl

/-- The state in which a record has entered the FIFO. -/
def State.pushed (s : State) (n : Fin 8) (st : Nat) (rec : List Nat) : State :=
  ((s.keepStamp n st).setTdc n fun c => { c with fifo := c.fifo ++ [rec] }).set (TDC_CHn_STAT_LEVEL n) ((s.tdc.ch[n]).fifo.length + 1)
theorem keepStamp_ch (s : State) (n : Fin 8) (st : Nat) :
    (s.keepStamp n st).tdc.ch[n] = { s.tdc.ch[n] with accepted := (st :: (s.tdc.ch[n]).accepted).take 16 } := setTdc_ch s n _
theorem pushRecord_room (h : (s.tdc.ch[n]).fifo.length < 64) (rec : List Nat) :
    (s.keepStamp n st).pushRecord n rec = s.pushed n st rec := by
  rw [State.pushRecord, keepStamp_ch, if_neg (Nat.not_le.2 h)]
  rfl
theorem pushed_ch (s : State) (n : Fin 8) (st : Nat) (rec : List Nat) : (s.pushed n st rec).tdc.ch[n]
    = { s.tdc.ch[n] with accepted := (st :: (s.tdc.ch[n]).accepted).take 16, fifo := (s.tdc.ch[n]).fifo ++ [rec] } := by
  have h : (s.pushed n st rec).tdc = ((s.keepStamp n st).setTdc n fun c => { c with fifo := c.fifo ++ [rec] }).tdc := rfl
  rw [h, setTdc_ch, keepStamp_ch]
theorem pushed_only (s : State) (n : Fin 8) (st : Nat) (rec : List Nat) :
    Only [TDC_CHn_STAT_LEVEL n] s { s with tdc := (s.pushed n st rec).tdc } (s.pushed n st rec) :=
  (((Only.refl _ s).setTdc n _).setTdc n _).set (.head _) _
theorem pushed_level (h : (s.tdc.ch[n]).fifo.length < 64) (rec : List Nat) :
    (s.pushed n st rec).get (TDC_CHn_STAT_LEVEL n) = (s.tdc.ch[n]).fifo.length + 1 :=
  (State.get_set_same _ (TDC_CHn_STAT_LEVEL n) _).trans (Nat.mod_eq_of_lt (show (s.tdc.ch[n]).fifo.length + 1 < 2 ^ 7 by omega))
end

theorem stampAccepted_holds : Claim.stampAccepted := by
  rintro s n r st fall ⟨href, hlatest, hlo, hhi, hroom⟩
  have hwin : s.inWindow n (phaseDiff st r).toNat = true := by
    rw [State.inWindow, Bool.and_eq_true, decide_eq_true_eq, decide_eq_true_eq]
    omega
  refine ⟨_, rfl, ?_⟩
  rw [stampMode_accepts ((tdcRef_launch (k := 1) href).trans hlatest) (.inr hwin), pushRecord_room hroom]
  exact ⟨by rw [pushed_ch], by rw [pushed_ch], pushed_level hroom _, pushed_only s n st _⟩

theorem stampEvery_holds : Claim.stampEvery := by
  rintro s n st fall ⟨href, hroom, hepoch, hhold⟩
  have hrec : s.stampRecord st (phaseDiff st st).toNat fall = [st % 2 ^ 32, st / 2 ^ 32 % 2 ^ 32, 0, 2 ^ 16 + fall.toNat * 2 ^ 18, 0, 0] := by
    simp [State.stampRecord, phaseDiff_self, off_of_get_zero hepoch, off_of_get_zero hhold, lo32, hi32, fld]
  refine ⟨_, rfl, ?_⟩
  rw [stampMode_accepts (tdcRef_self href) (.inl href), pushRecord_room hroom, hrec]
  exact ⟨by rw [pushed_ch], pushed_level hroom _, pushed_only s n st _⟩

theorem stampRejected_holds : Claim.stampRejected := by
  rintro s n st fall k ⟨href, -, hall⟩
  have hout : ∀ r, s.tdcRef 5 n st = some r → s.inWindow n (phaseDiff st r).toNat = false := fun r hr => by
    rw [tdcRef_launch href] at hr
    rw [hr, Option.all_some, decide_eq_true_eq] at hall
    rw [State.inWindow, Bool.and_eq_false_iff, decide_eq_false_iff_not, decide_eq_false_iff_not]
    omega
  refine ⟨_, rfl, ?_⟩
  rw [stampMode_rejects href hout]
  exact ⟨inc_get s _, inc_only s _⟩

theorem stampLost_holds : Claim.stampLost := by
  rintro s n st fall ⟨href, hfull⟩
  have hlost : s.stampMode n st fall = ((s.keepStamp n st).inc (TDC_CHn_LOST_COUNT n)).raise TDC_FLAGS_LOST (2 ^ n.val) := by
    rw [stampMode_accepts (tdcRef_self href) (.inl href), State.pushRecord, keepStamp_ch, if_pos (Nat.le_of_eq hfull.symm)]
  have hkeys : ∀ n : Fin 8, (TDC_CHn_LOST_COUNT n).key ≠ TDC_FLAGS_LOST.key := by decide
  refine ⟨_, hlost, ?_, ?_, ?_, ?_⟩
  · rw [get_raise, if_neg (hkeys n)]
    exact inc_get (s.keepStamp n st) _
  · rw [get_raise, if_pos rfl, State.inc, State.incBy, State.get_set_ne _ (hkeys n).symm]
    rfl
  · have h : (((s.keepStamp n st).inc (TDC_CHn_LOST_COUNT n)).raise TDC_FLAGS_LOST (2 ^ n.val)).tdc = (s.keepStamp n st).tdc := rfl
    rw [h, keepStamp_ch]
  · obtain ⟨hregs, honly⟩ := ((Only.refl [TDC_CHn_LOST_COUNT n, TDC_FLAGS_LOST] s).setTdc n _).set (f := TDC_CHn_LOST_COUNT n) (.head _) _
    exact ⟨(hregs.set (.tail _ (.head _)) _).of_regs rfl, raise_noted honly _ _⟩

theorem stampsDecided_holds : Claim.stampsDecided := by
  rintro s n st c0 fall hwait
  have hwait' : (s.tdc.ch[n]).wait = [(st, fall, c0)] := hwait
  refine ⟨_, rfl, fun hripe => ?_, fun hearly => ?_⟩
  · have hyes : decide (c0 + 8 < s.cyc) = true := decide_eq_true hripe
    simp only [State.tickStamps, hwait', List.filter_cons, List.filter_nil, hyes]
    rfl
  · have hno : decide (c0 + 8 < s.cyc) = false := decide_eq_false (Nat.not_lt.2 hearly)
    simp only [State.tickStamps, hwait', List.filter_cons, List.filter_nil, hno]
    rfl

end Sys2Proof.Machine
end

section
/-! SUPPORT. Gates, calibrations and the FIFO's register of the time-measurement block (R403–R411). -/

namespace Sys2Proof.Machine
open Reg

/-- A user channel is one of the first four of the eight. -/
theorem exists_chan (n : Fin 4) : ∃ (c : Fin 8) (h : c.val < 4), n = ⟨c.val, h⟩ := ⟨⟨n.val, by omega⟩, n.isLt, rfl⟩

theorem Only.raise {fs : List Fld} {s u t : State} (h : Only fs s u t) {f : Fld} (hf : f ∈ fs) (v : Nat) : Only fs s u (t.raise f v) :=
  ⟨(h.1.set hf _).of_regs rfl, raise_noted h.2 f v⟩

theorem setTdc_noted {s t : State} (h : t = butNotes s t) (n : Fin 8) (g : TdcChan → TdcChan) :
    t.setTdc n g = butNotes { s with tdc := (t.setTdc n g).tdc } (t.setTdc n g) := by
  rw [h]
  rfl

/-! ### Gates (R408, R409) -/

/-- The result of a gate. -/
def gateResultFields (c : Fin 8) (r cnt : Nat) (few : Bool) : List (Fld × Nat) :=
  [(TDC_CHn_RESID_PS c, r), (TDC_CHn_NEDGE_COUNT c, cnt), (TDC_CHn_STAT_NO_EDGES c, few.toNat), (TDC_CHn_STAT_RESULT_VALID c, 1)]
/-- What the close of a gate stores. -/
def tdcGateFields (s : State) (c : Fin 8) (r cnt : Nat) (few : Bool) : List (Fld × Nat) :=
  gateResultFields c r cnt few ++ [(TDC_FLAGS_RESULT, s.get TDC_FLAGS_RESULT ||| 2 ^ c.val), (TDC_CHn_STAT_GATE_BUSY c, 0)]
/-- The fields that the close of a gate stores. -/
def tdcGateF (c : Fin 8) : List Fld :=
  [TDC_CHn_NEDGE_COUNT c, TDC_CHn_STAT_RESULT_VALID c, TDC_CHn_STAT_NO_EDGES c, TDC_CHn_STAT_GATE_BUSY c, TDC_FLAGS_RESULT, TDC_CHn_RESID_PS c]
/-- A gate that closes with residual `r`, `cnt` stamps and period `per`. -/
def State.gateClosed (s : State) (c : Fin 8) (r cnt : Nat) (few : Bool) (per : Nat) : State :=
  (((s.puts (gateResultFields c r cnt few)).raise TDC_FLAGS_RESULT (2 ^ c.val)).set (TDC_CHn_STAT_GATE_BUSY c) 0).setTdc c fun x =>
    { x with per := per, gate := none, stamps := [] }

section
variable {s : State} {c : Fin 8} {r cnt per : Nat} {few : Bool}

theorem gateClosed_regs : (s.gateClosed c r cnt few per).regs = (s.puts (tdcGateFields s c r cnt few)).regs := by
  have hkeys : ∀ c : Fin 8, TDC_FLAGS_RESULT.key ∉ ((gateResultFields c 0 0 false).map Prod.fst).map Fld.key := by decide
  have hget := sameRegs_puts s (gateResultFields c r cnt few) TDC_FLAGS_RESULT (hkeys c)
  rw [tdcGateFields, puts_append, ← hget]
  rfl
theorem tdcGateFields_keys (s : State) (c : Fin 8) (r cnt : Nat) (few : Bool) : ((tdcGateFields s c r cnt few).map fun p => p.1.key).Nodup := by
  have h : ∀ c : Fin 8, ((tdcGateFields State.reset c 0 0 false).map fun p => p.1.key).Nodup := by decide
  exact h c
theorem gateClosed_get {g : Fld} {v : Nat} (hp : (g, v) ∈ tdcGateFields s c r cnt few) : (s.gateClosed c r cnt few per).get g = v % 2 ^ g.w :=
  get_of_puts gateClosed_regs (tdcGateFields_keys s c r cnt few) hp
theorem gateClosed_sameRegs : SameRegs (tdcGateF c) s (s.gateClosed c r cnt few per) :=
  ((sameRegs_puts s (tdcGateFields s c r cnt few)).of_regs gateClosed_regs).mono (by simp [tdcGateFields, gateResultFields, tdcGateF])
theorem gateClosed_only : s.gateClosed c r cnt few per = butNotes { s with tdc := (s.gateClosed c r cnt few per).tdc }
    (s.gateClosed c r cnt few per) := by
  have hflag := raise_noted (puts_butNotes s (gateResultFields c r cnt few)) TDC_FLAGS_RESULT (2 ^ c.val)
  exact setTdc_noted (set_noted hflag (TDC_CHn_STAT_GATE_BUSY c) 0) c fun x => { x with per := per, gate := none, stamps := [] }
theorem gateClosed_ch : (s.gateClosed c r cnt few per).tdc.ch[c] = { s.tdc.ch[c] with per := per, gate := none, stamps := [] } :=
  setTdc_ch _ c _

/-- Three stamps or more give the period and the residual of their line. -/
theorem gateResult_line {st : List Nat} {l : Rat × Rat} (h3 : 3 ≤ st.length) (hfit : lineFit (gatePts st) = some l) :
    s.gateResult c st = s.gateClosed c (residPs (gatePts st)) st.length false ((roundHalfUp (l.2 * 2 ^ 24)).toNat % 2 ^ 56) := by
  have hfew : decide (st.length < 3) = false := decide_eq_false (Nat.not_lt.2 h3)
  simp only [State.gateResult, hfit, if_neg (Nat.not_lt.2 h3), if_neg (show ¬ st.length < 2 by omega), hfew]
  rfl
/-- Fewer stamps give period 0; below two the residual is free. -/
theorem gateResult_few {st : List Nat} (h3 : st.length < 3) :
    ∃ r k, s.gateResult c st = State.gateClosed { s with freeCtr := k } c r st.length true 0 := by
  have hfew : decide (st.length < 3) = true := decide_eq_true h3
  simp only [State.gateResult, if_pos h3, hfew]
  split
  · exact ⟨_, _, rfl⟩
  · exact ⟨_, s.freeCtr, rfl⟩

/-- A gate that closes, with its stamps and those after it. -/
theorem execGateClose_due {a b : Nat} {st after : List Nat} (hd : s.domainOn 2 = true) (hfab : s.fabRuns = true) (hc : c.val < 4)
    (hgate : (s.tdc.ch[c]).gate = some (a, b)) (hdue : b < (s.coarseNow + 2) * 65536)
    (hst : gateStamps b (s.tdc.ch[c]).stamps = (st, after)) :
    exec (.gateClose ⟨c.val, hc⟩) s = .next (if s.on (TDC_CHn_CTRL_CONT c) then (s.gateResult c st).openGate c b true after
      else if s.on (TDC_CHn_STAT_GATE_HELD c) then ((s.gateResult c st).set (TDC_CHn_STAT_GATE_HELD c) 0).openGate c b true after
      else s.gateResult c st) := by
  show execGateClose _ s = _
  rw [execGateClose, onCore_running hd hfab]
  simp only [Fin.ofNat_val_eq_self, hgate, if_pos hdue, hst]
end

theorem gateCloseOnce_holds : Claim.gateCloseOnce := by
  intro s n a b l h
  obtain ⟨c, hc, rfl⟩ := exists_chan n
  simp only [Claim.preGateCloseOnce, Fin.ofNat_val_eq_self] at h ⊢
  obtain ⟨hd, hfab, hgate, hdue, hcont, hheld, h3, hlen, hst, hfit⟩ := h
  refine ⟨_, execGateClose_due hd hfab hc hgate hdue hst, ?_⟩
  rw [off_of_get_zero hcont, off_of_get_zero hheld, if_neg Bool.false_ne_true, if_neg Bool.false_ne_true, gateResult_line h3 hfit]
  refine ⟨by rw [gateClosed_ch], by rw [gateClosed_ch], (gateClosed_get (.tail _ (.head _))).trans (Nat.mod_eq_of_lt hlen),
    gateClosed_get (v := 1) (.tail _ (.tail _ (.tail _ (.head _)))), gateClosed_get (v := 0) (.tail _ (.tail _ (.head _))),
    gateClosed_get (v := 0) (.tail _ (.tail _ (.tail _ (.tail _ (.tail _ (.head _)))))),
    gateClosed_get (.tail _ (.tail _ (.tail _ (.tail _ (.head _))))), gateClosed_sameRegs, gateClosed_only⟩

section
variable {s : State} {c : Fin 8} {b : Nat} {after : Bool} {held : List Nat}

theorem openGate_get {g : Fld} (hg : g.key ≠ (TDC_CHn_STAT_GATE_BUSY c).key) : (s.openGate c b after held).get g = s.get g :=
  State.get_set_ne s hg 1
theorem openGate_busy : (s.openGate c b after held).get (TDC_CHn_STAT_GATE_BUSY c) = 1 := State.get_set_same s (TDC_CHn_STAT_GATE_BUSY c) 1
theorem openGate_ch : (s.openGate c b after held).tdc.ch[c] = { s.tdc.ch[c] with
    gate := some (b + after.toNat, b + s.get (TDC_CHn_GATE_US c) * 800 * 65536), stamps := held } := setTdc_ch _ c _
end

theorem gateCloseCont_holds : Claim.gateCloseCont := by
  intro s n a b h
  obtain ⟨c, hc, rfl⟩ := exists_chan n
  simp only [Claim.preGateCloseCont, Fin.ofNat_val_eq_self] at h ⊢
  obtain ⟨hd, hfab, hgate, hdue, hcont, hfew, hst⟩ := h
  refine ⟨_, execGateClose_due hd hfab hc hgate hdue hst, ?_⟩
  obtain ⟨r, k, hres⟩ := gateResult_few (s := s) (c := c) hfew
  rw [on_of_get_one hcont, if_pos rfl, hres]
  have hkeys : ∀ c : Fin 8, (TDC_CHn_NEDGE_COUNT c).key ≠ (TDC_CHn_STAT_GATE_BUSY c).key
      ∧ (TDC_CHn_STAT_RESULT_VALID c).key ≠ (TDC_CHn_STAT_GATE_BUSY c).key ∧ (TDC_CHn_STAT_NO_EDGES c).key ≠ (TDC_CHn_STAT_GATE_BUSY c).key
      ∧ TDC_FLAGS_RESULT.key ≠ (TDC_CHn_STAT_GATE_BUSY c).key ∧ (TDC_CHn_GATE_US c).key ∉ (tdcGateF c).map Fld.key := by decide
  obtain ⟨hnedge, hvalid, hnone, hflag, hgus⟩ := hkeys c
  have hus : (State.gateClosed { s with freeCtr := k } c r (s.tdc.ch[c]).stamps.length true 0).get (TDC_CHn_GATE_US c)
      = s.get (TDC_CHn_GATE_US c) := gateClosed_sameRegs _ hgus
  have hsame := gateClosed_sameRegs (s := { s with freeCtr := k }) (c := c) (r := r) (cnt := (s.tdc.ch[c]).stamps.length) (few := true)
    (per := 0)
  have honly := gateClosed_only (s := { s with freeCtr := k }) (c := c) (r := r) (cnt := (s.tdc.ch[c]).stamps.length) (few := true)
    (per := 0)
  refine ⟨by rw [openGate_ch, gateClosed_ch], by rw [openGate_ch, hus]; rfl, by rw [openGate_ch], ?_, ?_, ?_, openGate_busy, ?_,
    (hsame.set (f := TDC_CHn_STAT_GATE_BUSY c) (by simp [tdcGateF]) 1).of_regs rfl, ?_⟩
  · rw [openGate_get hnedge]
    exact (gateClosed_get (.tail _ (.head _))).trans (Nat.mod_eq_of_lt (show _ < 2 ^ 32 by omega))
  · rw [openGate_get hvalid]
    exact gateClosed_get (v := 1) (.tail _ (.tail _ (.tail _ (.head _))))
  · rw [openGate_get hnone]
    exact gateClosed_get (v := 1) (.tail _ (.tail _ (.head _)))
  · rw [openGate_get hflag]
    exact gateClosed_get (s := { s with freeCtr := k }) (.tail _ (.tail _ (.tail _ (.tail _ (.head _)))))
  · exact congrArg (fun t => State.openGate t c b true []) honly

/-! ### Calibrations (R405, R406) -/

/-- What a complete calibration stores, whether it fails or not. -/
def tdcDoneFields (s : State) (ip : Nat) : List (Fld × Nat) :=
  [(TDC_STATUS_CAL_BUSY, s.get TDC_STATUS_CAL_BUSY - 2 ^ ip), (TDC_CALTEMPi_TEMP ip, s.get (MGMT_TEMPi_TEMP 5))]
/-- The bin widths of an interpolator. -/
def tableFields (ip : Nat) (w : List Nat) : List (Fld × Nat) :=
  (List.range 512).map fun j => (TDC_TABLE ip j, w.getD (2 * j) 0 + w.getD (2 * j + 1) 0 * 2 ^ 16)
theorem tableFields_fields (ip : Nat) (w : List Nat) : (tableFields ip w).map Prod.fst = (List.range 512).map fun j => TDC_TABLE ip j :=
  List.map_map
theorem tableFields_keys (ip : Nat) (w : List Nat) : ((tableFields ip w).map fun p => p.1.key).Nodup := by
  rw [tableFields, List.map_map]
  refine List.nodup_range.map fun i j h => ?_
  simp only [Function.comp_apply, TDC_TABLE, key] at h
  omega
/-- A field below the tables is none of theirs. -/
theorem table_other {f : Fld} (hf : f.key < key 14 0x8000 0) (ip : Nat) (w : List Nat) :
    f.key ∉ ((tableFields ip w).map Prod.fst).map Fld.key := fun hm => by
  rw [tableFields_fields, List.map_map] at hm
  obtain ⟨j, -, hj⟩ := List.mem_map.1 hm
  simp only [Function.comp_apply, TDC_TABLE, key] at hj hf
  omega

/-- The state of a calibration that is complete and does not fail. -/
def State.tdcCalibrated (s : State) (ip : Fin 9) (w : List Nat) : State :=
  ((s.puts (tdcDoneFields s ip)).puts (tableFields ip w)).set TDC_STATUS_CAL_VALID (s.get TDC_STATUS_CAL_VALID ||| 2 ^ ip.val)

theorem execTdcCalibration {s : State} {ip : Fin 9} {hist : List Nat} (hd : s.domainOn 2 = true) (hfab : s.fabRuns = true)
    (hbusy : (s.get TDC_STATUS_CAL_BUSY).testBit ip.val = true) (hlen : hist.length = 1024) (hsum : hist.sum = 2 ^ 20) :
    exec (.tdcCalibrationComplete ip hist) s = .next (if calFails (widthsOf 0 hist)
      then (s.puts (tdcDoneFields s ip)).raise TDC_FLAGS_CAL_FAIL (2 ^ ip.val) else s.tdcCalibrated ip (widthsOf 0 hist)) := by
  have hkeys : ∀ ip : Fin 9, TDC_STATUS_CAL_VALID.key ∉ ((tdcDoneFields State.reset ip).map Prod.fst).map Fld.key := by decide
  have hvalid : ((s.puts (tdcDoneFields s ip)).puts (tableFields ip (widthsOf 0 hist))).get TDC_STATUS_CAL_VALID
      = s.get TDC_STATUS_CAL_VALID :=
    (sameRegs_puts _ _ _ (table_other (by decide) ip _)).trans (sameRegs_puts s (tdcDoneFields s ip) _ (hkeys ip))
  show execTdcCalibrationComplete ip hist s = _
  rw [execTdcCalibrationComplete, onCore_running hd hfab, hbusy, beq_iff_eq.2 hlen, beq_iff_eq.2 hsum, State.tdcCalibrated, ← hvalid,
    tableFields, puts_map]
  rfl

/-- What every complete calibration shows. -/
theorem tdcDone_get {s : State} {ip : Fin 9} : (s.puts (tdcDoneFields s ip)).get TDC_STATUS_CAL_BUSY = (s.get TDC_STATUS_CAL_BUSY - 2 ^ ip.val) % 2 ^ 9
    ∧ (s.puts (tdcDoneFields s ip)).get (TDC_CALTEMPi_TEMP ip) = s.get (MGMT_TEMPi_TEMP 5) % 2 ^ 16 := by
  have hkeys : ∀ ip : Fin 9, ((tdcDoneFields State.reset ip).map fun p => p.1.key).Nodup := by decide
  have hn : ((tdcDoneFields s ip).map fun p => p.1.key).Nodup := hkeys ip
  exact ⟨get_puts hn (.head _), get_puts hn (.tail _ (.head _))⟩

/-- Bin widths of at most 512 keep apart in their word. -/
theorem getD_le {w : List Nat} {m : Nat} (h : ∀ x ∈ w, x ≤ m) (i : Nat) : w.getD i 0 ≤ m := by
  rw [List.getD_eq_getElem?_getD]
  cases hi : w[i]? with
  | none => exact Nat.zero_le m
  | some x => exact h x (List.mem_of_getElem? hi)

theorem tdcCalibrationGood_holds : Claim.tdcCalibrationGood := by
  rintro s ip hist ⟨hd, hfab, hbusy, hlen, hsum, hmany, hwide⟩
  have hgood : calFails (widthsOf 0 hist) = false := by
    rw [calFails, Bool.or_eq_false_iff, decide_eq_false_iff_not, List.any_eq_false]
    exact ⟨Nat.not_lt.2 hmany, fun x hx => by simpa using hwide x hx⟩
  have hexec := execTdcCalibration hd hfab hbusy hlen hsum
  rw [hgood, if_neg Bool.false_ne_true] at hexec
  have hkeys : ∀ ip : Fin 9, TDC_STATUS_CAL_BUSY.key ≠ TDC_STATUS_CAL_VALID.key ∧ (TDC_CALTEMPi_TEMP ip).key ≠ TDC_STATUS_CAL_VALID.key
      ∧ (TDC_CALTEMPi_TEMP ip).key < key 14 0x8000 0 := by decide
  obtain ⟨hkbusy, hktemp, hklow⟩ := hkeys ip
  obtain ⟨hgbusy, hgtemp⟩ := tdcDone_get (s := s) (ip := ip)
  refine ⟨_, hexec, fun j => ?_, State.get_set_same _ TDC_STATUS_CAL_VALID _, ?_, ?_, ?_, ?_⟩
  · have hne : (TDC_TABLE ip j).key ≠ TDC_STATUS_CAL_VALID.key := by simp only [TDC_TABLE, TDC_STATUS_CAL_VALID, key]; omega
    have hmem : (TDC_TABLE ip j, (widthsOf 0 hist).getD (2 * j) 0 + (widthsOf 0 hist).getD (2 * j + 1) 0 * 2 ^ 16)
        ∈ tableFields ip (widthsOf 0 hist) := List.mem_map.2 ⟨j, List.mem_range.2 j.isLt, rfl⟩
    have h1 := getD_le hwide (2 * j)
    have h2 := getD_le hwide (2 * j + 1)
    rw [State.tdcCalibrated, State.get_set_ne _ hne, get_puts (tableFields_keys ip _) hmem]
    exact Nat.mod_eq_of_lt (show _ < 2 ^ 32 by omega)
  · rw [State.tdcCalibrated, State.get_set_ne _ hkbusy, sameRegs_puts _ _ _ (table_other (by decide) ip _), hgbusy]
  · rw [State.tdcCalibrated, State.get_set_ne _ hktemp, sameRegs_puts _ _ _ (table_other hklow ip _), hgtemp]
  · rw [State.tdcCalibrated, ← tableFields_fields ip (widthsOf 0 hist)]
    have hdone := (sameRegs_puts s (tdcDoneFields s ip)).mono (gs := [TDC_STATUS_CAL_VALID, TDC_STATUS_CAL_BUSY, TDC_CALTEMPi_TEMP ip]
      ++ (tableFields ip (widthsOf 0 hist)).map Prod.fst) (by simp [tdcDoneFields])
    exact (hdone.trans ((sameRegs_puts _ _).mono (List.subset_append_right _ _))).set (by simp) _
  · have h : s.tdcCalibrated ip (widthsOf 0 hist) = s.puts (tdcDoneFields s ip ++ tableFields ip (widthsOf 0 hist)
        ++ [(TDC_STATUS_CAL_VALID, s.get TDC_STATUS_CAL_VALID ||| 2 ^ ip.val)]) := by
      rw [puts_append, puts_append]
      rfl
    rw [h]
    exact puts_butNotes s _

theorem tdcCalibrationBad_holds : Claim.tdcCalibrationBad := by
  rintro s ip hist ⟨hd, hfab, hbusy, hlen, hsum, hfew⟩
  have hbad : calFails (widthsOf 0 hist) = true := by rw [calFails, decide_eq_true hfew, Bool.true_or]
  have hexec := execTdcCalibration hd hfab hbusy hlen hsum
  rw [hbad, if_pos rfl] at hexec
  have hkeys : ∀ ip : Fin 9, TDC_STATUS_CAL_BUSY.key ≠ TDC_FLAGS_CAL_FAIL.key ∧ (TDC_CALTEMPi_TEMP ip).key ≠ TDC_FLAGS_CAL_FAIL.key
      ∧ TDC_FLAGS_CAL_FAIL.key ∉ ((tdcDoneFields State.reset ip).map Prod.fst).map Fld.key := by decide
  obtain ⟨hkbusy, hktemp, hkfail⟩ := hkeys ip
  obtain ⟨hgbusy, hgtemp⟩ := tdcDone_get (s := s) (ip := ip)
  refine ⟨_, hexec, ?_, ?_, ?_, ?_, raise_noted (puts_butNotes s _) _ _⟩
  · rw [get_raise, if_pos rfl, sameRegs_puts s (tdcDoneFields s ip) _ hkfail]
    rfl
  · rw [get_raise, if_neg hkbusy, hgbusy]
  · rw [get_raise, if_neg hktemp, hgtemp]
  · exact (((sameRegs_puts s (tdcDoneFields s ip)).mono (by simp [tdcDoneFields])).set (.head _) _).of_regs rfl

/-! ### The FIFO's register (R411) -/

/-- The words that a read of FIFO word 0 latches. -/
def fifoWords (s : State) (c : Fin 8) : List (Fld × Nat) :=
  (List.range 6).map fun w => (TDC_CHn_FIFOw_WORD c w, ((s.tdc.ch[c]).fifo.headD []).getD w 0)
/-- What a read of FIFO word 0 stores. -/
def fifoFields (s : State) (c : Fin 8) : List (Fld × Nat) := fifoWords s c ++ [(TDC_CHn_STAT_LEVEL c, (s.tdc.ch[c]).fifo.length - 1)]
/-- The oldest record leaves the FIFO. -/
def State.fifoTaken (u : State) (c : Fin 8) (level : Nat) : State :=
  (u.setTdc c fun x => { x with fifo := x.fifo.drop 1 }).set (TDC_CHn_STAT_LEVEL c) level
theorem fifoTaken_regs (u : State) (c : Fin 8) (level : Nat) : (u.fifoTaken c level).regs = (u.puts [(TDC_CHn_STAT_LEVEL c, level)]).regs :=
  rfl
theorem fifoTaken_only {fs : List Fld} {s u : State} {c : Fin 8} (h : Only fs s { s with tdc := u.tdc } u) (hf : TDC_CHn_STAT_LEVEL c ∈ fs)
    (level : Nat) : Only fs s { s with tdc := (u.fifoTaken c level).tdc } (u.fifoTaken c level) :=
  (h.setTdc c fun x => { x with fifo := x.fifo.drop 1 }).set hf level
theorem fifoTaken_ch (u : State) (c : Fin 8) (level : Nat) :
    (u.fifoTaken c level).tdc.ch[c] = { u.tdc.ch[c] with fifo := (u.tdc.ch[c]).fifo.drop 1 } :=
  setTdc_ch u c fun x => { x with fifo := x.fifo.drop 1 }
theorem fifoRead_eq (s : State) (c : Fin 8) : s.fifoRead c = (s.puts (fifoWords s c)).fifoTaken c ((s.tdc.ch[c]).fifo.length - 1) := by
  rw [fifoWords, puts_map]
  rfl
theorem fifoRead_regs (s : State) (c : Fin 8) : (s.fifoRead c).regs = (s.puts (fifoFields s c)).regs := by
  rw [fifoRead_eq, fifoTaken_regs, fifoFields, puts_append]
theorem fifoFields_keys (s : State) (c : Fin 8) : ((fifoFields s c).map fun p => p.1.key).Nodup := by
  have h : ∀ c : Fin 8, ((fifoFields State.reset c).map fun p => p.1.key).Nodup := by decide
  exact h c
theorem fifoRead_get {s : State} {c : Fin 8} {g : Fld} {v : Nat} (hp : (g, v) ∈ fifoFields s c) : (s.fifoRead c).get g = v % 2 ^ g.w :=
  get_of_puts (fifoRead_regs s c) (fifoFields_keys s c) hp
theorem fifoRead_only (s : State) (c : Fin 8) :
    Only ((fifoFields s c).map Prod.fst) s { s with tdc := (s.fifoRead c).tdc } (s.fifoRead c) := by
  have hwords : Only ((fifoFields s c).map Prod.fst) s s (s.puts (fifoWords s c)) :=
    ⟨(sameRegs_puts s _).mono (by simp [fifoFields]), puts_butNotes s _⟩
  rw [fifoRead_eq]
  exact fifoTaken_only hwords.tdc (by simp [fifoFields]) _
theorem fifoRead_fifo (s : State) (c : Fin 8) : ((s.fifoRead c).tdc.ch[c]).fifo = (s.tdc.ch[c]).fifo.drop 1 := by
  have hputs : (s.puts (fifoWords s c)).tdc = s.tdc := (congrArg State.tdc (puts_butNotes s (fifoWords s c))).trans rfl
  rw [fifoRead_eq, fifoTaken_ch, hputs]

theorem fifo0Read_holds : Claim.fifo0Read := by
  intro s n h
  obtain ⟨c, hc, rfl⟩ := exists_chan n
  simp only [Claim.preFifo0Read, Fin.ofNat_val_eq_self] at h ⊢
  obtain ⟨hd, hfab, hlevel, hwords⟩ := h
  have hexec : exec (.fifo0Read ⟨c.val, hc⟩) s = .next (s.fifoRead c) := by
    show execFifo0Read _ s = _
    rw [execFifo0Read, onReg_reached (reach_of_running hd hfab rfl), Fin.ofNat_val_eq_self]
  refine ⟨_, hexec, fun w => ?_, fifoRead_fifo s c, ?_, ?_⟩
  · exact (fifoRead_get (List.mem_append_left _ (List.mem_map.2 ⟨w, List.mem_range.2 w.isLt, rfl⟩))).trans (Nat.mod_eq_of_lt (hwords w))
  · exact (fifoRead_get (List.mem_append_right _ (.head _))).trans (Nat.mod_eq_of_lt (show _ < 2 ^ 7 by omega))
  · refine (fifoRead_only s c).mono ?_
    rw [fifoFields, fifoWords, List.map_append, List.map_map]
    exact List.append_subset.2 ⟨List.subset_cons_of_subset _ (List.Subset.refl _), by simp⟩

end Sys2Proof.Machine
end

section
/-! SUPPORT. The opcodes of the time-measurement block (R398, R413). -/

namespace Sys2Proof.Machine
open Reg

/-- The state that an opcode's body leaves names what the channels hold. -/
theorem Done.tdc {op st : Nat} {d : List Nat} {fs : List Fld} {c : CmdIn} {s t : State} {x : TdcRun}
    (h : Done op st d fs c s { s with tdc := x } t) : t.tdc = x ∧ Done op st d fs c s { s with tdc := t.tdc } t := by
  have hx : t.tdc = x := congrArg State.tdc h.2.2
  exact ⟨hx, by rwa [hx]⟩

/-! ### TDC_CONFIG (R398, R413) -/

theorem tdcConfig_judge {m : CmdIn} {s : State} {c : Fin 8} {v o w g : Nat} (hready : Ready 14 s) (hwords : m.words = [0, c.val, v, o, w, g])
    (hv : v &&& 0xFFF1F = v) (ho : o < 2 ^ 24) (hw : w < 2 ^ 24) (hg : g < 2 ^ 24) :
    s.judge 0xC6 14 (fun _ => [0, full, 0xFFF1F, 0xFFFFFF, 0xFFFFFF, 0xFFFFFF]) tdcConfig m = tdcConfig s [0, c.val, v, o, w, g] := by
  have hform : paramsOk [0, full, 0xFFF1F, 0xFFFFFF, 0xFFFFFF, 0xFFFFFF] m.words = true := by
    simp only [hwords, paramsOk_cons]
    exact ⟨rfl, and_full (by omega), hv, and_mask (n := 24) ho, and_mask (n := 24) hw, and_mask (n := 24) hg, paramsOk_nil⟩
  rw [judge_ready hready hform, hwords]

/-- What TDC_CONFIG stores beside the mode. -/
def tdcCfgFields (c : Fin 8) (v o w g : Nat) : List (Fld × Nat) :=
  [(TDC_CHn_CTRL_POL c, fld v 2 2), (TDC_CHn_CTRL_CONT c, fld v 4 1), (TDC_CHn_CTRL_PRESC c, fld v 8 8), (TDC_CHn_CTRL_REF c, fld v 16 4),
    (TDC_CHn_WIN_OPEN_OPEN c, o), (TDC_CHn_WIN_CLOSE_CLOSE c, w), (TDC_CHn_GATE_US c, g)]

/-- Values that the registers accept (R411). -/
theorem tdcCfgOk_of {v o w g : Nat} (hv : v &&& 0xFFF1F = v) (hmode : v % 4 ≠ 3) (hpol : v / 4 % 4 < 3)
    (href : v / 2 ^ 16 < 10 ∨ v / 2 ^ 16 = 15) (how : o ≤ w) (hlo : 10 ≤ g) (hhi : g ≤ 10000000) : tdcCfgOk v o w g = true := by
  have hlt : v < 2 ^ 20 := by
    have h : v &&& 0xFFF1F ≤ 0xFFF1F := Nat.and_le_right
    omega
  have hfmode : fld v 0 2 = v % 4 := by simp [fld]
  have hfpol : fld v 2 2 = v / 4 % 4 := rfl
  have hfref : fld v 16 4 = v / 2 ^ 16 := Nat.mod_eq_of_lt (by omega)
  have hrefOk : (decide (v / 2 ^ 16 < 10) || v / 2 ^ 16 == 15) = true := by simpa using href
  simp only [tdcCfgOk, hfmode, hfpol, hfref, hrefOk, Bool.and_eq_true, decide_eq_true_eq, bne_iff_ne]
  exact ⟨⟨⟨⟨⟨hmode, by omega⟩, trivial⟩, how⟩, hlo⟩, hhi⟩

/-- TDC_CONFIG of values that the registers accept, where nothing forbids the mode. -/
theorem tdcConfig_ok {s : State} {c : Fin 8} {v o w g : Nat} (hc : c.val < 4) (hfree : v % 4 ≠ 0 → s.tdcTaken c = 0 ∧ s.tdcMode c = 0)
    (hok : tdcCfgOk v o w g = true) :
    tdcConfig s [0, c.val, v, o, w, g] = .done stOk [] ((s.puts (tdcCfgFields c v o w g)).setTdcMode c (v % 4)) := by
  have hfmode : fld v 0 2 = v % 4 := by simp [fld]
  simp only [tdcConfig, par, List.getD_cons_succ, List.getD_cons_zero, Fin.ofNat_val_eq_self, hfmode]
  rw [if_neg (by omega), if_neg fun h => h.2 (hfree h.1).1, if_neg fun h => h.2 (hfree h.1).2, if_neg (by simp [hok])]
  rfl

/-- A channel acquired counts its edges afresh. -/
theorem tdcAcquire_eq (s : State) (c : Fin 8) (owner : Nat) :
    s.tdcAcquire c owner = (s.set (TDC_CHn_STAT_OWNER c) owner).setTdc c fun x => { x with edges := 0 } := by
  simp only [State.tdcAcquire, Fin.ofNat_val_eq_self]
  rfl

/-- A free channel in STAMP mode. -/
def State.stampOn (s : State) (c : Fin 8) : State :=
  (((s.set (TDC_CHn_CTRL_MODE c) 1).setTdc c fun x => { x with wait := [] }).tdcAcquire c (ownerOf 0x0A c)).setTdc c (fun x =>
    { x with edges := 0, fifo := [], accepted := [], wait := [] }) |>.set (TDC_CHn_STAT_LEVEL c) 0
theorem setTdcMode_stamp {s : State} {c : Fin 8} (h : s.tdcMode c = 0) : s.setTdcMode c 1 = s.stampOn c := by
  simp [State.setTdcMode, h, State.stampOn]
theorem stampOn_regs (s : State) (c : Fin 8) : (s.stampOn c).regs
    = (s.puts [(TDC_CHn_CTRL_MODE c, 1), (TDC_CHn_STAT_OWNER c, ownerOf 0x0A c), (TDC_CHn_STAT_LEVEL c, 0)]).regs := by
  rw [State.stampOn, tdcAcquire_eq]
  rfl
theorem stampOn_noted {s u : State} (h : u = butNotes s u) (c : Fin 8) :
    u.stampOn c = butNotes { s with tdc := (u.stampOn c).tdc } (u.stampOn c) := by
  rw [State.stampOn, tdcAcquire_eq, h]
  rfl
theorem stampOn_ch (s : State) (c : Fin 8) :
    (s.stampOn c).tdc.ch[c] = { s.tdc.ch[c] with edges := 0, fifo := [], accepted := [], wait := [] } := by
  rw [State.stampOn, tdcAcquire_eq]
  simp [State.setTdc, State.set]

/-- A field of a channel's owner holds the owner's code. -/
theorem ownerOf_mod : ∀ c : Fin 8, ownerOf 0x0A c % 2 ^ 16 = 0x0A00 + c.val := by decide

theorem tdcConfig_holds : Claim.tdcConfig := by
  intro m s n v o w g h
  obtain ⟨c, hc, rfl⟩ := exists_chan n
  simp only [Claim.preTdcConfig, Fin.ofNat_val_eq_self] at h ⊢
  obtain ⟨hready, hwords, hv, hmode, hpol, href, how, hw, hlo, hhi, howner, hpin, hoff⟩ := h
  have hkeys : ∀ c : Fin 8, ((tdcCfgFields c 0 0 0 0 ++ [(TDC_CHn_CTRL_MODE c, 1), (TDC_CHn_STAT_OWNER c, ownerOf 0x0A c),
      (TDC_CHn_STAT_LEVEL c, 0)]).map (fun p => p.1.key) ++ lastF.map Fld.key).Nodup
      ∧ (TDC_CHn_CTRL_MODE c).key ∉ ((tdcCfgFields c 0 0 0 0).map Prod.fst).map Fld.key
      ∧ (tdcCfgFields c 0 0 0 0 ++ [(TDC_CHn_CTRL_MODE c, 1), (TDC_CHn_STAT_OWNER c, ownerOf 0x0A c), (TDC_CHn_STAT_LEVEL c, 0)]).map Prod.fst
        ⊆ TDC_CHn_CTRL_MODE c :: ((tdcCfgFields c 0 0 0 0).map Prod.fst ++ [TDC_CHn_STAT_OWNER c, TDC_CHn_STAT_LEVEL c]) := by decide
  obtain ⟨hn, hkmode, hsub⟩ := hkeys c
  have hfree : s.tdcTaken c = 0 := by simp [State.tdcTaken, howner, hpin]
  have hmode0 : (s.puts (tdcCfgFields c v o w g)).tdcMode c = 0 := (sameRegs_puts s (tdcCfgFields c v o w g) _ hkmode).trans hoff
  have hjudge : s.judge 0xC6 14 (fun _ => [0, full, 0xFFF1F, 0xFFFFFF, 0xFFFFFF, 0xFFFFFF]) tdcConfig m
      = .done stOk [] ((s.puts (tdcCfgFields c v o w g)).stampOn c) := by
    rw [tdcConfig_judge hready hwords hv (by omega) hw (by omega), tdcConfig_ok hc (fun _ => ⟨hfree, hoff⟩)
      (tdcCfgOk_of hv (by omega) hpol href how hlo hhi), hmode, setTdcMode_stamp hmode0]
  have hregs : ((s.puts (tdcCfgFields c v o w g)).stampOn c).regs = (s.puts (tdcCfgFields c v o w g ++ [(TDC_CHn_CTRL_MODE c, 1),
      (TDC_CHn_STAT_OWNER c, ownerOf 0x0A c), (TDC_CHn_STAT_LEVEL c, 0)])).regs := by rw [stampOn_regs, puts_append]
  obtain ⟨hget, hdone⟩ := runCmd_puts hjudge (by decide) (by decide) hregs (stampOn_noted (puts_butNotes s _) c) rfl rfl hn
  obtain ⟨htdc, hdone⟩ := hdone.tdc
  have hfld (lo k : Nat) : fld v lo k % 2 ^ k = fld v lo k := Nat.mod_mod _ _
  have hg24 : g < 2 ^ 24 := by omega
  have hcfg {p : Fld × Nat} (hp : p ∈ tdcCfgFields c v o w g) : p ∈ tdcCfgFields c v o w g ++ [(TDC_CHn_CTRL_MODE c, 1),
      (TDC_CHn_STAT_OWNER c, ownerOf 0x0A c), (TDC_CHn_STAT_LEVEL c, 0)] := List.mem_append_left _ hp
  refine ⟨_, rfl, hget (v := 1) (List.mem_append_right _ (.head _)), (hget (hcfg (.head _))).trans (hfld 2 2),
    (hget (hcfg (.tail _ (.head _)))).trans (hfld 4 1), (hget (hcfg (.tail _ (.tail _ (.head _))))).trans (hfld 8 8),
    (hget (hcfg (.tail _ (.tail _ (.tail _ (.head _)))))).trans (hfld 16 4),
    (hget (hcfg (.tail _ (.tail _ (.tail _ (.tail _ (.head _))))))).trans (Nat.mod_eq_of_lt (show o < 2 ^ 24 by omega)),
    (hget (hcfg (.tail _ (.tail _ (.tail _ (.tail _ (.tail _ (.head _)))))))).trans (Nat.mod_eq_of_lt hw),
    (hget (hcfg (.tail _ (.tail _ (.tail _ (.tail _ (.tail _ (.tail _ (.head _))))))))).trans (Nat.mod_eq_of_lt hg24),
    (hget (List.mem_append_right _ (.tail _ (.head _)))).trans (ownerOf_mod c),
    hget (v := 0) (List.mem_append_right _ (.tail _ (.tail _ (.head _)))), by rw [htdc, stampOn_ch], by rw [htdc, stampOn_ch],
    hdone.mono hsub⟩

/-- What a gate that is abandoned stores, and what the release stores with it. -/
def abandonFields (c : Fin 8) : List (Fld × Nat) := [(TDC_CHn_CTRL_MODE c, 0), (TDC_CHn_STAT_GATE_BUSY c, 0), (TDC_CHn_STAT_GATE_HELD c, 0)]
def freqOffFields (c : Fin 8) : List (Fld × Nat) := abandonFields c ++ [(TDC_CHn_STAT_OWNER c, 0)]
/-- A channel that leaves FREQ mode is released, and its gate is abandoned. -/
def State.freqOff (s : State) (c : Fin 8) : State :=
  ((s.puts (abandonFields c)).setTdc c fun x => { x with gate := none, stamps := [] }).set (TDC_CHn_STAT_OWNER c) 0
theorem setTdc_owner (s : State) (c : Fin 8) (g : TdcChan → TdcChan) (n : Nat) : (s.setTdc c g).tdcOwner n = s.tdcOwner n := rfl
theorem setTdcMode_off {s : State} {c : Fin 8} (h : s.tdcMode c = 2) (howner : s.tdcOwner c = ownerOf 0x0A c) :
    s.setTdcMode c 0 = s.freqOff c := by
  have hkeys : ∀ c : Fin 8, (TDC_CHn_STAT_OWNER c).key ∉ ((abandonFields c).map Prod.fst).map Fld.key := by decide
  have howner' : (s.puts (abandonFields c)).tdcOwner c = ownerOf 0x0A c := (sameRegs_puts s (abandonFields c) _ (hkeys c)).trans howner
  have hchain : ((s.set (TDC_CHn_CTRL_MODE c) 0).set (TDC_CHn_STAT_GATE_BUSY c) 0).set (TDC_CHn_STAT_GATE_HELD c) 0
      = s.puts (abandonFields c) := rfl
  simp only [State.setTdcMode, h, if_true, State.tdcRelease, hchain, setTdc_owner, howner', beq_self_eq_true]
  rw [if_neg (by decide), if_neg (by simp)]
  rfl
theorem freqOff_regs (s : State) (c : Fin 8) : (s.freqOff c).regs = (s.puts (freqOffFields c)).regs := by
  rw [freqOffFields, puts_append]
  rfl
theorem freqOff_noted {s u : State} (h : u = butNotes s u) (c : Fin 8) :
    u.freqOff c = butNotes { s with tdc := (u.freqOff c).tdc } (u.freqOff c) := by
  have hfields : u.puts (abandonFields c) = butNotes s (u.puts (abandonFields c)) := by
    rw [puts_butNotes u, h]
  exact set_noted (setTdc_noted hfields c fun x => { x with gate := none, stamps := [] }) (TDC_CHn_STAT_OWNER c) 0
theorem freqOff_ch (s : State) (c : Fin 8) : (s.freqOff c).tdc.ch[c] = { s.tdc.ch[c] with gate := none, stamps := [] } :=
  setTdc_ch _ c fun x => { x with gate := none, stamps := [] }

theorem tdcConfigOff_holds : Claim.tdcConfigOff := by
  intro m s n v o w g h
  obtain ⟨c, hc, rfl⟩ := exists_chan n
  simp only [Claim.preTdcConfigOff, Fin.ofNat_val_eq_self] at h ⊢
  obtain ⟨hready, hwords, hv, hmode, hpol, href, how, hw, hlo, hhi, howner, hfreq⟩ := h
  have hkeys : ∀ c : Fin 8, ((tdcCfgFields c 0 0 0 0 ++ freqOffFields c).map (fun p => p.1.key) ++ lastF.map Fld.key).Nodup
      ∧ (TDC_CHn_CTRL_MODE c).key ∉ ((tdcCfgFields c 0 0 0 0).map Prod.fst).map Fld.key
      ∧ (TDC_CHn_STAT_OWNER c).key ∉ ((tdcCfgFields c 0 0 0 0).map Prod.fst).map Fld.key
      ∧ (tdcCfgFields c 0 0 0 0 ++ freqOffFields c).map Prod.fst ⊆ TDC_CHn_CTRL_MODE c :: ((tdcCfgFields c 0 0 0 0).map Prod.fst
        ++ [TDC_CHn_STAT_OWNER c, TDC_CHn_STAT_GATE_BUSY c, TDC_CHn_STAT_GATE_HELD c]) := by decide
  obtain ⟨hn, hkmode, hkowner, hsub⟩ := hkeys c
  have hmode2 : (s.puts (tdcCfgFields c v o w g)).tdcMode c = 2 := (sameRegs_puts s (tdcCfgFields c v o w g) _ hkmode).trans hfreq
  have howner' : (s.puts (tdcCfgFields c v o w g)).tdcOwner c = ownerOf 0x0A c :=
    (sameRegs_puts s (tdcCfgFields c v o w g) _ hkowner).trans howner
  have hjudge : s.judge 0xC6 14 (fun _ => [0, full, 0xFFF1F, 0xFFFFFF, 0xFFFFFF, 0xFFFFFF]) tdcConfig m
      = .done stOk [] ((s.puts (tdcCfgFields c v o w g)).freqOff c) := by
    rw [tdcConfig_judge hready hwords hv (by omega) hw (by omega), tdcConfig_ok hc (fun h => absurd hmode h)
      (tdcCfgOk_of hv (by omega) hpol href how hlo hhi), hmode, setTdcMode_off hmode2 howner']
  have hregs : ((s.puts (tdcCfgFields c v o w g)).freqOff c).regs = (s.puts (tdcCfgFields c v o w g ++ freqOffFields c)).regs := by
    rw [freqOff_regs, puts_append]
  obtain ⟨hget, hdone⟩ := runCmd_puts hjudge (by decide) (by decide) hregs (freqOff_noted (puts_butNotes s _) c) rfl rfl hn
  obtain ⟨htdc, hdone⟩ := hdone.tdc
  have hputs : (s.puts (tdcCfgFields c v o w g)).tdc = s.tdc := (congrArg State.tdc (puts_butNotes s (tdcCfgFields c v o w g))).trans rfl
  have hoff {p : Fld × Nat} (hp : p ∈ freqOffFields c) : p ∈ tdcCfgFields c v o w g ++ freqOffFields c := List.mem_append_right _ hp
  refine ⟨_, rfl, hget (v := 0) (hoff (.head _)), hget (v := 0) (hoff (.tail _ (.tail _ (.tail _ (.head _))))),
    hget (v := 0) (hoff (.tail _ (.head _))), hget (v := 0) (hoff (.tail _ (.tail _ (.head _)))), by rw [htdc, freqOff_ch],
    by rw [htdc, freqOff_ch, hputs], hdone.mono hsub⟩

theorem tdcConfigBusy_holds : Claim.tdcConfigBusy := by
  intro m s n v o w g h
  obtain ⟨c, hc, rfl⟩ := exists_chan n
  simp only [Claim.preTdcConfigBusy] at h ⊢
  obtain ⟨hready, hwords, hv, hmode, ho, hw, hg, howner, hother⟩ := h
  have htaken : s.tdcTaken c = s.tdcOwner c := by
    have h0 : s.tdcOwner c ≠ ownerOf 0x0A c := hother
    simp [State.tdcTaken, howner, h0]
  have hfmode : fld v 0 2 = v % 4 := by simp [fld]
  have hjudge : s.judge 0xC6 14 (fun _ => [0, full, 0xFFF1F, 0xFFFFFF, 0xFFFFFF, 0xFFFFFF]) tdcConfig m
      = .refuse stResourceBusy (s.tdcOwner c) := by
    rw [tdcConfig_judge hready hwords hv ho hw hg]
    simp only [tdcConfig, par, List.getD_cons_succ, List.getD_cons_zero, Fin.ofNat_val_eq_self, hfmode, htaken]
    rw [if_neg (by omega), if_pos ⟨hmode, howner⟩]
    rfl
  exact ⟨_, rfl, runCmd_refused hjudge (by decide) (by decide)⟩

/-! ### TDC_CALIBRATE (R405, R406) -/

theorem tdcCalibrate_holds : Claim.tdcCalibrate := by
  rintro c s m ⟨hready, hwords, hpos, hlt, hfree⟩
  have hform : paramsOk [0, full] c.words = true := by
    simp only [hwords, paramsOk_cons]
    exact ⟨rfl, and_full (by omega), paramsOk_nil⟩
  have hnone : ((List.range 9).any fun i => m.testBit i && s.ipInUse i) = false := by
    rw [List.any_eq_false]
    intro i hi
    rw [Bool.and_eq_true]
    rintro ⟨hbit, huse⟩
    exact Bool.false_ne_true ((hfree ⟨i, List.mem_range.1 hi⟩ hbit).symm.trans huse)
  have hjudge : s.judge 0xC7 14 (fun _ => [0, full]) tdcCalibrateBody c
      = .done stOk [] (s.puts [(TDC_STATUS_CAL_BUSY, s.get TDC_STATUS_CAL_BUSY ||| m)]) := by
    rw [judge_ready hready hform, hwords]
    simp only [tdcCalibrateBody, par, List.getD_cons_succ, List.getD_cons_zero, hnone]
    rw [if_neg Bool.false_ne_true, if_neg (by omega)]
    rfl
  obtain ⟨hget, hdone⟩ := runCmd_puts hjudge (by decide) (by decide) rfl rfl rfl rfl
    (by simp only [List.map_cons, List.map_nil]; decide)
  exact ⟨_, rfl, hget (.head _), hdone⟩

/-! ### TDC_READ and TDC_FREQ (R403, R408, R413) -/

/-- An opcode with a channel's number and one more parameter. -/
theorem chan_judge {op : Nat} {mask : Nat} {body : State → List Nat → CmdRes} {m : CmdIn} {s : State} {c : Fin 8} {k : Nat}
    (hready : Ready 14 s) (hwords : m.words = [0, c.val, k]) (hk : k &&& mask = k) :
    s.judge op 14 (fun _ => [0, full, mask]) body m = body s [0, c.val, k] := by
  have hform : paramsOk [0, full, mask] m.words = true := by
    simp only [hwords, paramsOk_cons]
    exact ⟨rfl, and_full (by omega), hk, paramsOk_nil⟩
  rw [judge_ready hready hform, hwords]

/-- Records have left the FIFO. -/
def State.fifoDropped (s : State) (c : Fin 8) (k level : Nat) : State :=
  (s.setTdc c fun x => { x with fifo := x.fifo.drop k }).set (TDC_CHn_STAT_LEVEL c) level

theorem tdcRead_holds : Claim.tdcRead := by
  intro m s n k h
  obtain ⟨c, hc, rfl⟩ := exists_chan n
  simp only [Claim.preTdcRead, Fin.ofNat_val_eq_self] at h ⊢
  obtain ⟨hready, hwords, hmode, hpos, hmax, hlen⟩ := h
  have hjudge : s.judge 0xC8 14 (fun _ => [0, full, full]) tdcRead m
      = .done stOk (min k (s.tdc.ch[c]).fifo.length :: ((s.tdc.ch[c]).fifo.take k).flatten)
        (s.fifoDropped c k ((s.tdc.ch[c]).fifo.length - min k (s.tdc.ch[c]).fifo.length)) := by
    have hstamp : s.tdcMode c = 1 := hmode
    rw [chan_judge hready hwords (and_full (by omega))]
    simp only [tdcRead, par, List.getD_cons_succ, List.getD_cons_zero, Fin.ofNat_val_eq_self, hstamp, List.length_take]
    rw [if_neg (by omega), if_neg (by simp), if_neg (by omega)]
    rfl
  have hkeys : ∀ c : Fin 8, ([(TDC_CHn_STAT_LEVEL c, 0)].map (fun p : Fld × Nat => p.1.key) ++ lastF.map Fld.key).Nodup := by decide
  obtain ⟨hget, hdone⟩ := runCmd_puts
    (l := [(TDC_CHn_STAT_LEVEL c, (s.tdc.ch[c]).fifo.length - min k (s.tdc.ch[c]).fifo.length)]) hjudge (by decide) (by decide) rfl
    (set_noted (setTdc_noted (t := s) rfl c _) _ _) rfl rfl (hkeys c)
  obtain ⟨htdc, hdone⟩ := hdone.tdc
  refine ⟨_, rfl, ?_, (hget (.head _)).trans ?_, hdone⟩
  · rw [htdc, setTdc_ch]
  · exact (Nat.mod_eq_of_lt (show _ < 2 ^ 7 by omega)).trans (by omega)

/-- With a period measured, the data draw no free value. -/
theorem freqData_state {s : State} {c : Fin 8} (h : (s.tdc.ch[c]).per ≠ 0) : (s.freqData c).2 = s := by
  simp only [State.freqData, if_neg h]

theorem startGate_noted (s : State) (c : Fin 8) : s.startGate c = butNotes { s with tdc := (s.startGate c).tdc } (s.startGate c) := by
  rw [State.startGate, State.openGate]
  exact setTdc_noted (set_noted (t := s) (u := s) rfl (TDC_CHn_STAT_GATE_BUSY c) 1) c _
theorem startGate_ch (s : State) (c : Fin 8) : (s.startGate c).tdc.ch[c] = { s.tdc.ch[c] with
    gate := some ((s.coarseNow + 1) * 65536, (s.coarseNow + 1) * 65536 + s.get (TDC_CHn_GATE_US c) * 800 * 65536), stamps := [] } := by
  rw [State.startGate, openGate_ch, Bool.toNat_false, Nat.add_zero]

theorem tdcFreqStart_holds : Claim.tdcFreqStart := by
  intro m s n h
  obtain ⟨c, hc, rfl⟩ := exists_chan n
  simp only [Claim.preTdcFreqStart, Fin.ofNat_val_eq_self] at h ⊢
  obtain ⟨hready, hwords, hmode, hcont, hbusy, hper⟩ := h
  have hjudge : s.judge 0xC9 14 (fun _ => [0, full, 1]) tdcFreq m = .done stOk (s.freqData c).1 (s.startGate c) := by
    have hfreq : s.tdcMode c = 2 := hmode
    rw [chan_judge hready hwords rfl]
    simp only [tdcFreq, par, List.getD_cons_succ, List.getD_cons_zero, Fin.ofNat_val_eq_self, hfreq, off_of_get_zero hcont,
      off_of_get_zero hbusy, freqData_state hper]
    rw [if_neg (by omega), if_neg (by simp), if_pos (by decide)]
    rfl
  have hkeys : ∀ c : Fin 8, ([(TDC_CHn_STAT_GATE_BUSY c, 1)].map (fun p : Fld × Nat => p.1.key) ++ lastF.map Fld.key).Nodup := by decide
  obtain ⟨hget, hdone⟩ := runCmd_puts (l := [(TDC_CHn_STAT_GATE_BUSY c, 1)]) (u := { s with tdc := (s.startGate c).tdc }) hjudge
    (by decide) (by decide) rfl (startGate_noted s c) rfl rfl (hkeys c)
  obtain ⟨htdc, hdone⟩ := hdone.tdc
  exact ⟨_, rfl, by rw [htdc, startGate_ch], by rw [htdc, startGate_ch], hget (v := 1) (.head _), hdone⟩

theorem tdcFreqHeld_holds : Claim.tdcFreqHeld := by
  intro m s n h
  obtain ⟨c, hc, rfl⟩ := exists_chan n
  simp only [Claim.preTdcFreqHeld, Fin.ofNat_val_eq_self] at h ⊢
  obtain ⟨hready, hwords, hmode, hcont, hbusy, hheld, hper⟩ := h
  have hjudge : s.judge 0xC9 14 (fun _ => [0, full, 1]) tdcFreq m
      = .done stPending (s.freqData c).1 (s.puts [(TDC_CHn_STAT_GATE_HELD c, 1)]) := by
    have hfreq : s.tdcMode c = 2 := hmode
    rw [chan_judge hready hwords rfl]
    simp only [tdcFreq, par, List.getD_cons_succ, List.getD_cons_zero, Fin.ofNat_val_eq_self, hfreq, off_of_get_zero hcont,
      on_of_get_one hbusy, off_of_get_zero hheld, freqData_state hper]
    rw [if_neg (by omega), if_neg (by simp), if_pos (by decide)]
    rfl
  have hkeys : ∀ c : Fin 8, ([(TDC_CHn_STAT_GATE_HELD c, 1)].map (fun p : Fld × Nat => p.1.key) ++ lastF.map Fld.key).Nodup := by decide
  obtain ⟨hget, hdone⟩ := runCmd_puts hjudge (by decide) (by decide) rfl (puts_butNotes s _) rfl rfl (hkeys c)
  exact ⟨_, rfl, hget (v := 1) (.head _), hdone⟩

/-- The nearest whole number of a quotient, halves upward. -/
theorem roundHalfUp_nearest (a : Nat) {p : Nat} (hp : p ≠ 0) :
    2 * (roundHalfUp ((a : Rat) / p)).toNat * p ≤ 2 * a + p ∧ 2 * a < 2 * (roundHalfUp ((a : Rat) / p)).toNat * p + p := by
  have hp' : (0 : Rat) < p := by exact_mod_cast Nat.pos_of_ne_zero hp
  have hnonneg : 0 ≤ roundHalfUp ((a : Rat) / p) := by
    rw [roundHalfUp, Rat.le_floor_iff]
    positivity
  have hcast : (((roundHalfUp ((a : Rat) / p)).toNat : Nat) : Rat) = ((roundHalfUp ((a : Rat) / p) : Int) : Rat) := by
    exact_mod_cast Int.toNat_of_nonneg hnonneg
  have hle : (((roundHalfUp ((a : Rat) / p)).toNat : Nat) : Rat) ≤ (a : Rat) / p + 1 / 2 := by
    rw [hcast]
    exact Rat.le_floor_iff.1 (le_refl (Rat.floor _))
  have hlt : (a : Rat) / p + 1 / 2 < (((roundHalfUp ((a : Rat) / p)).toNat : Nat) : Rat) + 1 := by
    rw [hcast]
    exact_mod_cast Rat.lt_floor_add_one _
  constructor
  · have h : 2 * (((roundHalfUp ((a : Rat) / p)).toNat : Nat) : Rat) * p ≤ 2 * a + p := by
      have := mul_le_mul_of_nonneg_right hle hp'.le
      rw [add_mul, div_mul_cancel₀ _ hp'.ne'] at this
      linarith
    exact_mod_cast h
  · have h : 2 * (a : Rat) < 2 * (((roundHalfUp ((a : Rat) / p)).toNat : Nat) : Rat) * p + p := by
      have := mul_lt_mul_of_pos_right hlt hp'
      rw [add_mul, div_mul_cancel₀ _ hp'.ne'] at this
      linarith
    exact_mod_cast h

theorem tdcFreqRead_holds : Claim.tdcFreqRead := by
  intro m s n p h
  obtain ⟨c, hc, rfl⟩ := exists_chan n
  simp only [Claim.preTdcFreqRead, Fin.ofNat_val_eq_self] at h ⊢
  obtain ⟨hready, hwords, hmode, hvalid, rfl, hper⟩ := h
  have hdata : (s.freqData c).1 = [(s.tdc.ch[c]).per % 2 ^ 32, (s.tdc.ch[c]).per / 2 ^ 32 % 2 ^ 32, s.get (TDC_CHn_RESID_PS c),
      s.get (TDC_CHn_NEDGE_COUNT c),
      (roundHalfUp (((s.get (TDC_CHn_CTRL_PRESC c) + 1) * 2 ^ 24 * 10 ^ 15 : Nat) / ((s.tdc.ch[c]).per : Rat))).toNat % 2 ^ 32,
      (roundHalfUp (((s.get (TDC_CHn_CTRL_PRESC c) + 1) * 2 ^ 24 * 10 ^ 15 : Nat) / ((s.tdc.ch[c]).per : Rat))).toNat / 2 ^ 32 % 2 ^ 32] := by
    simp only [State.freqData, if_neg hper]
    rfl
  have hjudge : s.judge 0xC9 14 (fun _ => [0, full, 1]) tdcFreq m = .done stOk (s.freqData c).1 s := by
    have hfreq : s.tdcMode c = 2 := hmode
    rw [chan_judge hready hwords rfl]
    simp only [tdcFreq, par, List.getD_cons_succ, List.getD_cons_zero, Fin.ofNat_val_eq_self, hfreq, on_of_get_one hvalid,
      freqData_state hper]
    rw [if_neg (by omega), if_neg (by simp), if_neg (by decide)]
    rfl
  rw [hdata] at hjudge
  obtain ⟨hlo, hhi⟩ := roundHalfUp_nearest ((s.get (TDC_CHn_CTRL_PRESC c) + 1) * 2 ^ 24 * 10 ^ 15) hper
  refine ⟨_, rfl, _, ⟨?_, ?_⟩, runCmd_unchanged hjudge (by decide) (by decide)⟩
  · omega
  · omega

theorem tdcGetStatus_holds : Claim.tdcGetStatus := by
  rintro c s ⟨hready, hwords⟩
  have hform : paramsOk [] c.words = true := by rw [hwords]; rfl
  exact ⟨_, rfl, runCmd_unchanged (judge_ready hready hform) (by decide) (by decide)⟩

end Sys2Proof.Machine

namespace Sys2Proof.Proofs
open Sys2Proof.Machine

/-- Settles O15, clause by clause: what an edge does rests on its prescaler and the dead time, a decision on the reference that the
channel names, and each opcode on the mode and the owner of its channel. -/
theorem timeMeasurement : Obligations.TimeMeasurement := by
  unfold Obligations.TimeMeasurement
  exact ⟨edgePrescaled_holds, edgeDead_holds, edgeStampMode_holds, stampAccepted_holds, stampEvery_holds, stampRejected_holds,
    stampLost_holds, stampsDecided_holds, edgeGate_holds, gateCloseOnce_holds, gateCloseCont_holds, tdcCalibrationGood_holds,
    tdcCalibrationBad_holds, fifo0Read_holds, tdcConfig_holds, tdcConfigOff_holds, tdcConfigBusy_holds, tdcCalibrate_holds,
    tdcRead_holds, tdcFreqStart_holds, tdcFreqHeld_holds, tdcFreqRead_holds, tdcGetStatus_holds⟩

end Sys2Proof.Proofs
end

section
/-! SUPPORT. The boot flash: what programming and erasing leave at each offset, records appended to a region (R355, R358), and the
boot selection record (R344). -/

namespace Sys2Proof.Machine
open Reg
open Claim (FlashKept)

/-! ### Looking up bytes -/

theorem kget_none_of_keys {α : Type} {k : Nat} {m : KMap α} (h : ∀ e ∈ m, e.1 ≠ k) : kget k m = none := by
  induction m with
  | nil => rfl
  | cons e t ih =>
    obtain ⟨i, w⟩ := e
    rw [kget, if_neg (Ne.symm (h (i, w) (List.mem_cons_self ..)))]
    exact ih fun x hx => h x (List.mem_cons_of_mem _ hx)

/-- In the canonical form an entry whose value is dropped reads as absent, every other as before. -/
theorem kget_filter_value {α : Type} (p : α → Bool) (k : Nat) {m : KMap α} (h : kwf m = true) :
    kget k (m.filter fun e => p e.2) = (kget k m).filter p := by
  rw [kwf_iff] at h
  induction m with
  | nil => rfl
  | cons e t ih =>
    obtain ⟨i, w⟩ := e
    obtain ⟨hlt, ht⟩ := List.pairwise_cons.1 h
    have hrest := ih ht
    by_cases hk : k = i
    · subst hk
      have habs : kget k (t.filter fun e => p e.2) = none := kget_none_of_keys fun e he =>
        (Nat.ne_of_lt (hlt e.1 (List.mem_map_of_mem (List.mem_of_mem_filter he)))).symm
      cases hp : p w <;> simp [hp, kget, habs, Option.filter]
    · cases hp : p w <;> simp [hp, kget, hk, hrest]

theorem mem_of_kget {α : Type} {k : Nat} {v : α} {m : KMap α} (h : kget k m = some v) : (k, v) ∈ m := by
  induction m with
  | nil => simp [kget] at h
  | cons e t ih =>
    obtain ⟨i, w⟩ := e
    rw [kget] at h
    split at h
    next hk =>
      obtain rfl := Option.some.inj h
      exact hk ▸ List.mem_cons_self ..
    next => exact List.mem_cons_of_mem _ (ih h)

/-! ### Programming and erasing -/

/-- Every byte of the flash after programming; an erased byte is not listed. -/
theorem kget_flashPut {s : State} (h : Memory.flashWf s.flash = true) (a : Nat) (bs : List Byte) (j : Nat) :
    kget j (s.flashPut a bs).flash = if a ≤ j ∧ j < a + bs.length then bs[j - a]?.filter (· != 0xFF) else kget j s.flash := by
  obtain ⟨hwf, hff⟩ := (flashWf_iff _).1 h
  show kget j ((putBytes a bs s.flash).filter fun e => e.2 != 0xFF) = _
  rw [kget_filter_value (· != 0xFF) j (putBytes_wf a bs hwf), kget_putBytes]
  split
  · rfl
  · cases hk : kget j s.flash with
    | none => rfl
    | some v => simpa [Option.filter] using hff _ (mem_of_kget hk)

theorem flashKept_refl (lo hi : Nat) (s : State) : FlashKept lo hi s s := fun _ _ => rfl
theorem flashKept_trans {lo hi : Nat} {s t u : State} (h : FlashKept lo hi s t) (k : FlashKept lo hi t u) : FlashKept lo hi s u :=
  fun a ha => (k a ha).trans (h a ha)
theorem flashKept_mono {lo hi lo' hi' : Nat} {s t : State} (h : FlashKept lo hi s t) (hlo : lo' ≤ lo) (hhi : hi ≤ hi') :
    FlashKept lo' hi' s t := fun a ha => h a (by omega)

theorem flashPut_kept {s : State} (h : Memory.flashWf s.flash = true) (a : Nat) (bs : List Byte) :
    FlashKept a (a + bs.length) s (s.flashPut a bs) := fun j hj => by
  rw [kget_flashPut h, if_neg (by omega)]
theorem flashErase_kept (s : State) (a n : Nat) : FlashKept a (a + n) s (s.flashErase a n) := fun j hj => by
  rw [kget_flashErase, if_pos hj]

/-- What was programmed is read. -/
theorem flashGet_flashPut {s : State} (h : Memory.flashWf s.flash = true) (a : Nat) (bs : List Byte) :
    (s.flashPut a bs).flashGet a bs.length = bs := by
  refine List.ext_getElem (by simp [State.flashGet]) fun i hi hb => ?_
  have hget : kget (a + i) (s.flashPut a bs).flash = (some bs[i]).filter (· != 0xFF) := by
    rw [kget_flashPut h, if_pos (by omega), Nat.add_sub_cancel_left, List.getElem?_eq_getElem hb]
  simp only [State.flashGet, List.getElem_map, List.getElem_range, hget]
  by_cases hff : bs[i] = 0xFF
  · rw [hff]
    rfl
  · rw [Option.filter_some_pos (by simpa using hff)]
    rfl

/-- A range whose bytes are kept reads as before. -/
theorem flashGet_congr {s t : State} {a n : Nat} (h : ∀ i < n, kget (a + i) t.flash = kget (a + i) s.flash) :
    t.flashGet a n = s.flashGet a n :=
  List.map_congr_left fun i hi => by rw [h i (List.mem_range.1 hi)]
theorem flashGet_kept {lo hi a n : Nat} {s t : State} (h : FlashKept lo hi s t) (ha : a + n ≤ lo ∨ hi ≤ a) :
    t.flashGet a n = s.flashGet a n := flashGet_congr fun i hi => h _ (by omega)

/-- An erased range reads 0xFF. -/
theorem flashGet_flashErase (s : State) {a b n m : Nat} (hlo : a ≤ b) (hhi : b + m ≤ a + n) :
    (s.flashErase a n).flashGet b m = List.replicate m 0xFF := by
  refine List.ext_getElem (by simp [State.flashGet]) fun i hi _ => ?_
  have hm : i < m := by simpa [State.flashGet] using hi
  have hnone : kget (b + i) (s.flashErase a n).flash = none := by
    rw [kget_flashErase, if_neg (by omega)]
  simp [State.flashGet, hnone]

theorem flashErase_erased (s : State) (a n : Nat) : (s.flashErase a n).erased a n = true := by
  simp only [State.erased, State.flashErase, kclear, List.all_eq_true, List.mem_filter]
  exact fun e he => he.2

theorem flashGet_append (s : State) (a n m : Nat) : s.flashGet a (n + m) = s.flashGet a n ++ s.flashGet (a + n) m := by
  simp [State.flashGet, List.range_add, Nat.add_assoc]

/-! ### Words -/

theorem toWords_append_word {w : Nat} (hw : w < 2 ^ 32) (bs : List Byte) : toWords (bytesLE 4 w ++ bs) = w :: toWords bs := by
  have hval : ofBytesLE (bytesLE 4 w) = w := by
    rw [ofBytesLE_bytesLE]
    exact Nat.mod_eq_of_lt hw
  exact congrArg (· :: toWords bs) hval
theorem toWords_wordsLE_append {ws : List Nat} (h : ∀ w ∈ ws, w < 2 ^ 32) (bs : List Byte) :
    toWords (wordsLE ws ++ bs) = ws ++ toWords bs := by
  induction ws with
  | nil => rfl
  | cons w t ih =>
    obtain ⟨hw, ht⟩ := List.forall_mem_cons.1 h
    show toWords ((bytesLE 4 w ++ wordsLE t) ++ bs) = _
    rw [List.append_assoc, toWords_append_word hw, ih ht, List.cons_append]
theorem toWords_wordsLE {ws : List Nat} (h : ∀ w ∈ ws, w < 2 ^ 32) : toWords (wordsLE ws) = ws := by
  simpa [toWords] using toWords_wordsLE_append h []

/-- Words programmed are read. -/
theorem flashWords_flashPut {s : State} (h : Memory.flashWf s.flash = true) (a : Nat) {ws : List Nat} (hws : ∀ w ∈ ws, w < 2 ^ 32) :
    (s.flashPut a (wordsLE ws)).flashWords a ws.length = ws := by
  rw [State.flashWords, ← Tests.wordsLE_length, flashGet_flashPut h, toWords_wordsLE hws]

theorem xor_lt_32 {a b : Nat} (ha : a < 2 ^ 32) (hb : b < 2 ^ 32) : a ^^^ b < 2 ^ 32 := Nat.xor_lt_two_pow ha hb
theorem crcBit_lt {p c : Nat} (hp : p < 2 ^ 32) (hc : c < 2 ^ 32) : crcBit p c < 2 ^ 32 := by
  rw [crcBit]
  split
  · exact xor_lt_32 (by omega) hp
  · omega
/-- A check word has 32 bits. -/
theorem crc32_lt (bs : List Byte) : crc32 bs < 2 ^ 32 := by
  have hbits : ∀ (n c : Nat), c < 2 ^ 32 → Nat.repeat (crcBit 0xEDB88320) n c < 2 ^ 32 := fun n c hc => by
    induction n with
    | zero => exact hc
    | succ n ih => exact crcBit_lt (by decide) ih
  have hfold : ∀ (l : List Byte) (c : Nat), c < 2 ^ 32 →
      l.foldl (fun c b => Nat.repeat (crcBit 0xEDB88320) 8 (c ^^^ b.toNat)) c < 2 ^ 32 := fun l => by
    induction l with
    | nil => exact fun _ hc => hc
    | cons b t ih => exact fun c hc => ih _ (hbits 8 _ (xor_lt_32 hc (by have := b.isLt; omega)))
  exact xor_lt_32 (hfold bs _ (by decide)) (by decide)

/-! ### Records appended to a region -/

section
variable {s : State} {base w n : Nat} {bs : List Byte}

theorem nextFree_lt (s : State) (base w : Nat) (hn : 0 < n) : s.nextFree base w n < n := by
  unfold State.nextFree
  split
  · exact hn
  · cases h : (List.range n).find? fun i => s.erased (base + w * i) w && !s.erased (base + w * ((i + n - 1) % n)) w with
    | none => exact hn
    | some i => exact List.mem_range.1 (List.mem_of_find?_eq_some h)

theorem flashAppend_only (s : State) (base w n : Nat) (bs : List Byte) :
    s.flashAppend base w n bs = { s with flash := (s.flashAppend base w n bs).flash } := by
  unfold State.flashAppend
  dsimp only
  split <;> rfl

/-- The sector that is erased after an append lies in the region and does not hold the new record. -/
theorem flashAppend_sector {i : Nat} (hw : 0 < w) (hwhole : w * n % 0x1000 = 0) (hroom : 0x1000 + w ≤ w * n) (hi : i < n)
    (hfull : w * (i + 1) % 0x1000 = 0) : w * ((i + 1) % n) + 0x1000 ≤ w * n
      ∧ (w * i + w ≤ w * ((i + 1) % n) ∨ w * ((i + 1) % n) + 0x1000 ≤ w * i) := by
  have hsucc : w * (i + 1) = w * i + w := Nat.mul_succ w i
  by_cases hlast : i + 1 = n
  · subst hlast
    rw [Nat.mod_self]
    omega
  · rw [Nat.mod_eq_of_lt (by omega)]
    have hlt : w * (i + 1) < w * n := Nat.mul_lt_mul_of_pos_left (by omega) hw
    omega

/-- A record appended stands in the next free place, and nothing outside the region changes (R355, R358). -/
theorem flashAppend_spec (h : Memory.flashWf s.flash = true) (hw : 0 < w) (hn : 0 < n) (hwhole : w * n % 0x1000 = 0)
    (hroom : 0x1000 + w ≤ w * n) (hbs : bs.length = w) :
    (s.flashAppend base w n bs).flashGet (base + w * s.nextFree base w n) w = bs
      ∧ FlashKept base (base + w * n) s (s.flashAppend base w n bs) := by
  have hi : s.nextFree base w n < n := nextFree_lt s base w hn
  have hplace : w * s.nextFree base w n + w ≤ w * n := by
    rw [← Nat.mul_succ]
    exact Nat.mul_le_mul_left w hi
  have hput : (s.flashPut (base + w * s.nextFree base w n) bs).flashGet (base + w * s.nextFree base w n) w = bs := by
    have := flashGet_flashPut h (base + w * s.nextFree base w n) bs
    rwa [hbs] at this
  have hkept : FlashKept base (base + w * n) s (s.flashPut (base + w * s.nextFree base w n) bs) :=
    flashKept_mono (flashPut_kept h _ bs) (by omega) (by omega)
  unfold State.flashAppend
  dsimp only
  split
  next hfull =>
    obtain ⟨hin, hout⟩ := flashAppend_sector hw hwhole hroom hi hfull.1
    have herase := flashErase_kept (s.flashPut (base + w * s.nextFree base w n) bs) (base + w * ((s.nextFree base w n + 1) % n)) 0x1000
    exact ⟨(flashGet_kept herase (by omega)).trans hput, flashKept_trans hkept (flashKept_mono herase (by omega) (by omega))⟩
  next => exact ⟨hput, hkept⟩

end

/-! ### The boot selection record -/

/-- Sector and SEQ that the record is rewritten with: the sector not in use and SEQ + 1, or S0 and SEQ 0 (R344). -/
def State.selNext (s : State) : Nat × Nat :=
  match s.selRecord with | some (k, q, _) => (1 - k, (q + 1) % 2 ^ 32) | none => (0, 0)

theorem selSector_eq {s : State} {k q f : Nat} (hq : q < 2 ^ 32) (hf : f < 2 ^ 32)
    (h : s.flashGet (0x1000 * k) 12 = wordsLE [q, f] ++ bytesLE 4 (crc32 (wordsLE [q, f]))) : s.selSector k = some (q, f) := by
  have hwords : s.flashWords (0x1000 * k) 3 = [q, f, crc32 (wordsLE [q, f])] := by
    have hall : wordsLE [q, f] ++ bytesLE 4 (crc32 (wordsLE [q, f])) = wordsLE [q, f, crc32 (wordsLE [q, f])] := by simp [wordsLE]
    rw [State.flashWords, h, hall]
    refine toWords_wordsLE fun w hw => ?_
    simp only [List.mem_cons, List.not_mem_nil, or_false] at hw
    rcases hw with rfl | rfl | rfl
    · exact hq
    · exact hf
    · exact crc32_lt _
  rw [State.selSector, hwords]
  exact if_pos rfl

/-- A sector whose bytes are kept holds the record that it held. -/
theorem selSector_kept {lo hi k : Nat} {s t : State} (h : FlashKept lo hi s t) (hk : 0x1000 * k + 12 ≤ lo ∨ hi ≤ 0x1000 * k) :
    t.selSector k = s.selSector k := by
  rw [State.selSector, State.selSector, State.flashWords, State.flashWords, flashGet_kept h hk]

theorem selRecord_kept {lo hi : Nat} {s t : State} (h : FlashKept lo hi s t) (hlo : 0x2000 ≤ lo) : t.selRecord = s.selRecord := by
  rw [State.selRecord, State.selRecord, selSector_kept (k := 0) h (by omega), selSector_kept (k := 1) h (by omega)]
theorem selFlags_kept {lo hi : Nat} {s t : State} (h : FlashKept lo hi s t) (hlo : 0x2000 ≤ lo) : t.selFlags = s.selFlags := by
  rw [State.selFlags, State.selFlags, selRecord_kept h hlo]

theorem toWords_lt (bs : List Byte) : ∀ w ∈ toWords bs, w < 2 ^ 32 := by
  induction bs using toWords.induct with
  | case1 a b c d t ih =>
    intro w hw
    rcases List.mem_cons.1 hw with rfl | hw
    · have ha := a.isLt
      have hb := b.isLt
      have hc := c.isLt
      have hd := d.isLt
      simp only [ofBytesLE]
      omega
    · exact ih w hw
  | case2 bs hshort =>
    intro w hw
    rw [toWords.eq_2 bs hshort] at hw
    exact absurd hw List.not_mem_nil

theorem selSector_lt {s : State} {k : Nat} {r : Nat × Nat} (h : s.selSector k = some r) : r.1 < 2 ^ 32 := by
  unfold State.selSector at h
  split at h
  next q f c hws =>
    split at h
    · obtain rfl := Option.some.inj h
      exact toWords_lt _ q (by rw [show toWords (s.flashGet (0x1000 * k) (4 * 3)) = _ from hws]; exact List.mem_cons_self ..)
    · exact absurd h (by simp)
  next => exact absurd h (by simp)

/-- The record in use is that of its sector, S0 or S1. -/
theorem selRecord_sector {s : State} {k : Nat} {r : Nat × Nat} (h : s.selRecord = some (k, r)) : k < 2 ∧ s.selSector k = some r := by
  unfold State.selRecord at h
  split at h
  next a b ha hb =>
    split at h
    · obtain ⟨rfl, rfl⟩ := Prod.mk.inj (Option.some.inj h)
      exact ⟨by decide, hb⟩
    · obtain ⟨rfl, rfl⟩ := Prod.mk.inj (Option.some.inj h)
      exact ⟨by decide, ha⟩
  next ha _ =>
    obtain ⟨rfl, rfl⟩ := Prod.mk.inj (Option.some.inj h)
    exact ⟨by decide, ha⟩
  next hb =>
    obtain ⟨rfl, rfl⟩ := Prod.mk.inj (Option.some.inj h)
    exact ⟨by decide, hb⟩
  next => exact absurd h (by simp)

theorem selRecord_none {s : State} (h : s.selRecord = none) : s.selSector 0 = none ∧ s.selSector 1 = none := by
  unfold State.selRecord at h
  split at h
  next => split at h <;> exact absurd h (by simp)
  next => exact absurd h (by simp)
  next => exact absurd h (by simp)
  next ha hb => exact ⟨ha, hb⟩

/-- SEQ + 1 is later than SEQ by signed difference, and SEQ not later than SEQ + 1 (R344). -/
theorem seq_succ_later {q : Nat} (hq : q < 2 ^ 32) :
    0 < signedOf 32 (((q + 1) % 2 ^ 32 + 2 ^ 32 - q) % 2 ^ 32) ∧ ¬ 0 < signedOf 32 ((q + 2 ^ 32 - (q + 1) % 2 ^ 32) % 2 ^ 32) := by
  have hup : ((q + 1) % 2 ^ 32 + 2 ^ 32 - q) % 2 ^ 32 = 1 := by omega
  have hdown : (q + 2 ^ 32 - (q + 1) % 2 ^ 32) % 2 ^ 32 = 2 ^ 32 - 1 := by omega
  rw [hup, hdown]
  decide

theorem selWrite_eq (s : State) (r : Nat × Nat × Nat) : s.selWrite r =
    (s.flashErase (0x1000 * s.selNext.1) 0x1000).flashPut (0x1000 * s.selNext.1)
      (wordsLE [s.selNext.2, selBits r] ++ bytesLE 4 (crc32 (wordsLE [s.selNext.2, selBits r]))) := by
  unfold State.selWrite State.selNext
  cases s.selRecord <;> rfl

theorem selWrite_only (s : State) (r : Nat × Nat × Nat) : s.selWrite r = { s with flash := (s.selWrite r).flash } := by
  rw [selWrite_eq]
  rfl

theorem selNext_lt (s : State) : s.selNext.1 < 2 ∧ s.selNext.2 < 2 ^ 32 := by
  unfold State.selNext
  split
  · exact ⟨by omega, by omega⟩
  · exact ⟨by decide, by decide⟩

theorem selWrite_kept {s : State} (h : Memory.flashWf s.flash = true) (r : Nat × Nat × Nat) :
    FlashKept (0x1000 * s.selNext.1) (0x1000 * s.selNext.1 + 0x1000) s (s.selWrite r) := by
  rw [selWrite_eq]
  refine flashKept_trans (flashErase_kept s _ _) (flashKept_mono (flashPut_kept (flashErase_wf s _ _ h) _ _) (Nat.le_refl _) ?_)
  rw [List.length_append, Tests.wordsLE_length, length_bytesLE, List.length_cons, List.length_cons, List.length_nil]
  omega

/-- The rewritten record is the one in use from then on (R344). -/
theorem selWrite_record {s : State} (h : Memory.flashWf s.flash = true) {r : Nat × Nat × Nat} (hr : selBits r < 2 ^ 32) :
    (s.selWrite r).selRecord = some (s.selNext.1, s.selNext.2, selBits r) := by
  obtain ⟨hk, hq⟩ := selNext_lt s
  have hnew : (s.selWrite r).selSector s.selNext.1 = some (s.selNext.2, selBits r) := by
    refine selSector_eq hq hr ?_
    rw [selWrite_eq]
    exact flashGet_flashPut (flashErase_wf s _ _ h) _ _
  have hkept := selWrite_kept h r
  have hold : (s.selWrite r).selSector (1 - s.selNext.1) = s.selSector (1 - s.selNext.1) := selSector_kept hkept (by omega)
  generalize s.selWrite r = t at hnew hold
  cases hrec : s.selRecord with
  | none =>
    have hnext : s.selNext = (0, 0) := by rw [State.selNext, hrec]
    rw [hnext] at hnew hold ⊢
    have hnone : t.selSector 1 = none := hold.trans (selRecord_none hrec).2
    rw [State.selRecord, hnew, hnone]
  | some x =>
    obtain ⟨k, q, f⟩ := x
    obtain ⟨hk2, hsec⟩ := selRecord_sector hrec
    have hq' : q < 2 ^ 32 := selSector_lt hsec
    have hnext : s.selNext = (1 - k, (q + 1) % 2 ^ 32) := by rw [State.selNext, hrec]
    obtain ⟨hup, hdown⟩ := seq_succ_later hq'
    rw [hnext] at hnew hold ⊢
    obtain rfl | rfl : k = 0 ∨ k = 1 := by omega
    · have hother : t.selSector 0 = some (q, f) := hold.trans hsec
      have hmine : t.selSector 1 = _ := hnew
      rw [State.selRecord, hother, hmine]
      exact if_pos hup
    · have hother : t.selSector 1 = some (q, f) := hold.trans hsec
      have hmine : t.selSector 0 = _ := hnew
      rw [State.selRecord, hother, hmine]
      exact if_neg hdown

/-- PREF, TRIAL and TRIES as they are kept in the record (R344). -/
theorem selFlags_of_record {s : State} {k q p t n : Nat} (h : s.selRecord = some (k, q, selBits (p, t, n))) (hp : p < 2) (ht : t < 2)
    (hn : n < 8) : s.selFlags = (p, t, n) := by
  rw [State.selFlags, h]
  simp only [selBits, fld, Prod.mk.injEq]
  omega

theorem selBits_lt {p t n : Nat} (hp : p < 2) (ht : t < 2) (hn : n < 8) : selBits (p, t, n) < 2 ^ 32 := by
  simp only [selBits]
  omega

end Sys2Proof.Machine
end

section
/-! SUPPORT. Management SRAM as firmware and the command interface use it (R387, R390), and the opcodes CFG_READ and CFG_WRITE
(R350, R351, R365). -/

namespace Sys2Proof.Machine
open Reg
open Claim (FlashKept)

/-! ### Words read from management SRAM -/

section
variable {s : State} {a : Nat} {bs : List Byte}

theorem regionOf_sram (hlo : 0x100000 ≤ a) (hhi : a < 0x200000) : regionOf a = .mgmtSram := by
  rw [regionOf, if_neg (by omega), if_pos hhi]

theorem useMem_noted (s : State) (m : Master) (a : Nat) : ∃ x, s.useMem m a = s.noted x := ⟨_, rfl⟩

/-- A word of management SRAM that has been written and carries no error is read without a further effect. -/
theorem readMem_sram (hlo : 0x100000 ≤ a) (hhi : a < 0x200000) (hheld : NoHeld s) (hrun : s.get PMON_CTRL_RUN = 0)
    (hbs : getBytes s.mem a 8 = some bs) (hecc : kget a s.ecc = none) (m : Master) :
    ∃ x, s.readMem m a = ((ofBytesLE bs, false), s.noted x) := by
  obtain ⟨x, hx⟩ := useMem_noted s m a
  have hreg := regionOf_sram hlo hhi
  have hpeek : (s.noted x).peekWord a = ((ofBytesLE bs, .ok), s.noted x) := by
    have hbs' : getBytes (s.noted x).mem a 8 = some bs := hbs
    have hecc' : kget a (s.noted x).ecc = none := hecc
    simp [State.peekWord, State.wordBytes, hreg, hbs', hecc']
  have hfree : (s.noted x).releaseFor a = s.noted x := releaseFor_of_noHeld (s := s.noted x) hheld a
  refine ⟨x, ?_⟩
  rw [State.readMem, hreg]
  simp only [State.readWord, pmonIo_stopped (off_of_get_zero hrun), hx, hfree, hpeek]

theorem wordsLE_drop (ws : List Nat) (i : Nat) : (wordsLE ws).drop (4 * i) = wordsLE (ws.drop i) := by
  induction i generalizing ws with
  | zero => rfl
  | succ i ih =>
    cases ws with
    | nil => simp [wordsLE]
    | cons w t =>
      show (bytesLE 4 w ++ wordsLE t).drop (4 * i + 4) = _
      rw [Nat.add_comm, ← List.drop_drop, List.drop_left' (length_bytesLE 4 w), ih, List.drop_succ_cons]

/-- A 32-bit half of the 64-bit word that holds it. -/
theorem half_of_word {ws : List Nat} {i : Nat} (hi : i < ws.length) (hw : ws[i] < 2 ^ 32) :
    ofBytesLE (((wordsLE ws).drop (8 * (i / 2))).take 8) / 2 ^ (8 * (4 * (i % 2))) % 2 ^ 32 = ws[i] := by
  have hplace : 8 * (i / 2) + 4 * (i % 2) = 4 * i := by omega
  have hcut : ((((wordsLE ws).drop (8 * (i / 2))).take 8).drop (4 * (i % 2))).take 4 = bytesLE 4 ws[i] := by
    rw [List.drop_take, List.drop_drop, hplace, List.take_take, Nat.min_eq_left (by omega), wordsLE_drop, List.drop_eq_getElem_cons hi]
    show (bytesLE 4 ws[i] ++ wordsLE _).take 4 = _
    rw [List.take_left' (length_bytesLE 4 _)]
  have hval := ofBytesLE_slice (((wordsLE ws).drop (8 * (i / 2))).take 8) (4 * (i % 2)) 4
  rw [hcut, ofBytesLE_bytesLE] at hval
  exact hval.symm.trans (Nat.mod_eq_of_lt hw)

/-- Words of management SRAM that have been written and carry no error are read without a further effect. -/
theorem readWords_sram {ws : List Nat} {n : Nat} (hal : a % 8 = 0) (hlo : 0x100000 ≤ a) (hhi : a + 4 * n ≤ 0x200000) (hn : n % 2 = 0)
    (hheld : NoHeld s) (hrun : s.get PMON_CTRL_RUN = 0) (hbs : getBytes s.mem a (4 * n) = some (wordsLE ws)) (hlen : ws.length = n)
    (hws : ∀ w ∈ ws, w < 2 ^ 32) (hecc : ∀ j < n / 2, kget (a + 8 * j) s.ecc = none) (m : Master) :
    ∃ x, s.readWords m a n = ((ws, none), s.noted x) := by
  have hpart : ∀ i ≤ n, ∃ x, s.readWords m a i = ((ws.take i, none), s.noted x) := fun i => by
    induction i with
    | zero => exact fun _ => ⟨s.scrub.uses, rfl⟩
    | succ i ih =>
      intro hi
      obtain ⟨x, hx⟩ := ih (by omega)
      have hil : i < ws.length := by omega
      have hword : (a + 4 * i) / 8 * 8 = a + 8 * (i / 2) := by omega
      have hoff : (a + 4 * i) % 8 = 4 * (i % 2) := by omega
      have hbytes : getBytes (s.noted x).mem (a + 8 * (i / 2)) 8 = some (((wordsLE ws).drop (8 * (i / 2))).take 8) :=
        getBytes_slice hbs (by omega)
      obtain ⟨y, hy⟩ := readMem_sram (s := s.noted x) (by omega) (by omega) hheld hrun hbytes (hecc (i / 2) (by omega)) m
      refine ⟨y, ?_⟩
      rw [State.readWords] at hx
      rw [State.readWords, List.range_succ, List.foldl_append, hx, List.foldl_cons, List.foldl_nil]
      simp only [hword, hoff, hy, half_of_word hil (hws _ (List.getElem_mem hil)), List.take_append_getElem, noted_noted]
      rfl
  obtain ⟨x, hx⟩ := hpart n (Nat.le_refl n)
  exact ⟨x, by rw [hx, List.take_of_length_le (Nat.le_of_eq hlen)]⟩

end

/-! ### A pair of words that firmware writes to management SRAM -/

theorem wordsLE_pair_length (v w : Nat) : (wordsLE [v, w]).length = 8 := by rw [Tests.wordsLE_length, List.length_cons, List.length_singleton]
theorem ofBytesLE_pair (v w : Nat) : ofBytesLE (wordsLE [v, w]) = v % 2 ^ 32 + w % 2 ^ 32 * 2 ^ 32 := by
  have hpow : (256 : Nat) ^ 4 = 2 ^ 32 := by decide
  simp only [wordsLE, List.flatMap_cons, List.flatMap_nil, List.append_nil, ofBytesLE_append, ofBytesLE_bytesLE, length_bytesLE, hpow]
  omega
theorem bytesLE_pair (v w : Nat) : bytesLE 8 (v % 2 ^ 32 + w % 2 ^ 32 * 2 ^ 32) = wordsLE [v, w] := by
  have h := bytesLE_ofBytesLE (wordsLE [v, w])
  rw [ofBytesLE_pair, wordsLE_pair_length] at h
  exact h

/-- `s` with another state of the scrubber and of the held halves. -/
def State.withScrub (s : State) (x : ScrubRun) : State := { s with scrub := x }
theorem noted_withScrub (s : State) (x : KMap Nat) : s.noted x = s.withScrub { s.scrub with uses := x } := rfl
theorem setComb_withScrub (s : State) (h : Option Held32) : s.setComb .mgmt h = s.withScrub { s.scrub with combMgmt := h } := rfl
theorem withScrub_withScrub (s : State) (x y : ScrubRun) : (s.withScrub x).withScrub y = s.withScrub y := rfl
theorem withScrub_scrub (s : State) (x : ScrubRun) : (s.withScrub x).scrub = x := rfl
/-- A half held and released again leaves nothing but the notes of the two uses. -/
theorem held_released {s : State} (h : s.scrub.combMgmt = none) (x y : KMap Nat) (held : Held32) :
    (((s.noted x).setComb .mgmt (some held)).noted y).setComb .mgmt none = s.noted y := by
  simp only [noted_withScrub, setComb_withScrub, withScrub_withScrub, withScrub_scrub, ← h]
theorem writeWord_sram {a : Nat} (hlo : 0x100000 ≤ a) (hhi : a < 0x200000) (s : State) (v : Nat) :
    s.writeWord a v = { s with mem := putBytes a (bytesLE 8 v) s.mem, ecc := kdel a s.ecc }.rptFree a := by
  rw [State.writeWord, State.storeWord, regionOf_sram hlo hhi]

/-- A pair of words from an even word on is stored with fresh check bits, and beside it only entries of the repeat table are
freed (R387, R390, R391). -/
theorem firmwareWrite_sram {s : State} {a : Nat} (v w : Nat) (hal : a % 8 = 0) (hlo : 0x100000 ≤ a) (hhi : a < 0x200000)
    (hheld : NoHeld s) (hrun : s.get PMON_CTRL_RUN = 0) : (s.firmwareWrite a [v, w]).mem = putBytes a (wordsLE [v, w]) s.mem
      ∧ Only rptF s { s with mem := (s.firmwareWrite a [v, w]).mem, ecc := (s.firmwareWrite a [v, w]).ecc } (s.firmwareWrite a [v, w]) := by
  obtain ⟨hmgmt, hcmd⟩ := hheld
  have hlow := write32_low v hal (s := s) hmgmt
  generalize hs1 : s.write32 .mgmt a v = s1 at hlow
  have hcomb : s1.comb .mgmt = some ⟨a, v, (s.accessed a).cyc + 16⟩ := by
    rw [hlow]
    rfl
  have hhigh := write32_high w rfl hal hcomb
  obtain ⟨x, hx⟩ : ∃ x, (s1.accessed (a + 4)).setComb .mgmt none = s.noted x := by
    have hacc : s.accessed a = s.useMem .mgmt a := by rw [State.accessed, pmonIo_stopped (off_of_get_zero hrun)]
    have hrun1 : s1.get PMON_CTRL_RUN = 0 := by
      rw [hlow, hacc]
      exact hrun
    rw [State.accessed, pmonIo_stopped (off_of_get_zero hrun1), hlow, hacc]
    obtain ⟨x, hx⟩ := useMem_noted s .mgmt a
    obtain ⟨y, hy⟩ := useMem_noted ((s.noted x).setComb .mgmt (some ⟨a, v, (s.noted x).cyc + 16⟩)) .mgmt (a + 4)
    rw [hx, hy]
    exact ⟨y, held_released hmgmt x y _⟩
  have hwrite : s.firmwareWrite a [v, w] = (s.noted x).writeWord a (v % 2 ^ 32 + w % 2 ^ 32 * 2 ^ 32) := by
    have hword := hhigh.trans (congrArg (State.writeWord · a _) hx)
    have hfree : (s1.write32 .mgmt (a + 4) w).comb .mgmt = none := by
      rw [hword, writeWord_sram hlo hhi]
      exact (congrArg ScrubRun.combMgmt (rptFree_scrub _ _)).trans hmgmt
    rw [← hword, State.firmwareWrite, List.foldl_cons, List.foldl_cons, List.foldl_nil, hs1]
    exact release_none hfree
  have hstore : s.firmwareWrite a [v, w] = { s.noted x with mem := putBytes a (wordsLE [v, w]) s.mem, ecc := kdel a s.ecc }.rptFree a := by
    rw [hwrite, writeWord_sram hlo hhi, bytesLE_pair]
    rfl
  obtain ⟨hregs, honly⟩ := rptFree_freed { s.noted x with mem := putBytes a (wordsLE [v, w]) s.mem, ecc := kdel a s.ecc } a
  rw [hstore]
  generalize State.rptFree _ a = t at hregs honly ⊢
  have hregs' : SameRegs rptF s t := fun g hg => (hregs g hg).trans (get_of_regs rfl g)
  generalize t.regs = r at honly
  subst honly
  exact ⟨rfl, hregs', rfl⟩

/-! ### CFG_READ -/

theorem cfgRead_judge {c : CmdIn} {s : State} {src first n : Nat} (hready : Ready 20 s) (hwords : c.words = [src, first, n]) :
    s.judge 0xA1 20 (fun _ => [full, full, full]) cfgReadBody c = cfgReadBody s [src, first, n] := by
  have hform : paramsOk [full, full, full] c.words = true := by
    rw [hwords]
    exact paramsOk_full [src, first, n] (words_mem_lt hwords)
  rw [judge_ready hready hform, hwords]

theorem cfgReadSlot_holds : Claim.cfgReadSlot := by
  rintro c s k first n ⟨hready, hwords, hn, hmax, hin, hfree⟩
  have hk := k.isLt
  have hjudge : s.judge 0xA1 20 (fun _ => [full, full, full]) cfgReadBody c
      = .done stOk (s.flashWords (0x10000 * (k.val + 1) + 4 * first) n) s := by
    rw [cfgRead_judge hready hwords]
    simp only [cfgReadBody, par, List.getD_cons_zero, List.getD_cons_succ, Nat.add_sub_cancel]
    rw [if_neg (by omega), if_neg (fun h => hfree h.2), if_neg (by omega), if_neg (by omega)]
    rfl
  exact ⟨_, rfl, runCmd_unchanged hjudge (by decide) (by decide)⟩

theorem cfgReadBusy_holds : Claim.cfgReadBusy := by
  rintro c s k first n ⟨hready, hwords, hn, hmax, hin, hbusy⟩
  have hk := k.isLt
  have hjudge : s.judge 0xA1 20 (fun _ => [full, full, full]) cfgReadBody c = .refuse stDenied 0 := by
    rw [cfgRead_judge hready hwords]
    simp only [cfgReadBody, par, List.getD_cons_zero, List.getD_cons_succ, Nat.add_sub_cancel]
    rw [if_neg (by omega), if_pos ⟨by omega, hbusy⟩]
    rfl
  exact ⟨_, rfl, runCmd_refused_done hjudge (by decide) (by decide)⟩

/-- The region of the factory defaults begins with their record. -/
theorem factoryWords {n : Nat} (hn : n ≤ 25) : (List.range n).map factoryWord = factoryRecord.take n := by
  have hlen : factoryRecord.length = 25 := by decide
  refine List.ext_getElem (by simp [hlen, hn]) fun i hi _ => ?_
  have hi' : i < n := by simpa using hi
  have hin : i < factoryRecord.length := by omega
  rw [List.getElem_map, List.getElem_range, List.getElem_take, factoryWord, if_pos (by omega)]
  exact List.getD_eq_getElem _ _ hin

theorem cfgReadFactory_holds : Claim.cfgReadFactory := by
  rintro c s n ⟨hready, hwords, hn, hmax⟩
  have hjudge : s.judge 0xA1 20 (fun _ => [full, full, full]) cfgReadBody c = .done stOk (factoryRecord.take n) s := by
    rw [cfgRead_judge hready hwords]
    simp only [cfgReadBody, par, List.getD_cons_zero, List.getD_cons_succ, Nat.zero_add]
    rw [if_neg (by omega), if_neg (by omega), if_neg (by omega), if_pos trivial, factoryWords hmax]
    rfl
  exact ⟨_, rfl, runCmd_unchanged hjudge (by decide) (by decide)⟩

/-- What is noted of the use of a memory is no other effect. -/
theorem only_noted (fs : List Fld) (s : State) (x : KMap Nat) : Only fs s s (s.noted x) := ⟨(SameRegs.refl fs s).of_regs rfl, rfl⟩

theorem cfgReadStaging_holds : Claim.cfgReadStaging := by
  rintro c s first x y ⟨hready, hwords, hin, heven, hheld, hx, hy, hintact, hbytes, hrun⟩
  have hlt : ∀ w ∈ [x, y], w < 2 ^ 32 := by
    rintro w (_ | ⟨_, _ | ⟨_, hw⟩⟩)
    · exact hx
    · exact hy
    · exact absurd hw List.not_mem_nil
  have hecc : ∀ j < 2 / 2, kget (stagingImage + 4 * first + 8 * j) s.ecc = none := fun j hj => by
    obtain rfl : j = 0 := by omega
    exact hintact.2
  obtain ⟨u, hu⟩ := readWords_sram (s := s) (a := stagingImage + 4 * first) (n := 2) (by rw [stagingImage]; omega) (by rw [stagingImage]; omega)
    (by rw [stagingImage]; omega) rfl hheld hrun hbytes rfl hlt hecc .cmd
  have hjudge : s.judge 0xA1 20 (fun _ => [full, full, full]) cfgReadBody c = .done stOk [x, y] (s.noted u) := by
    rw [cfgRead_judge hready hwords]
    simp only [cfgReadBody, par, List.getD_cons_zero, List.getD_cons_succ, hu]
    rw [if_neg (by omega), if_neg (by omega), if_pos trivial]
  exact ⟨_, rfl, runCmd_only hjudge (by decide) (by decide) (only_noted [] s u) rfl rfl⟩

/-! ### CFG_WRITE -/

theorem cfgWrite_holds : Claim.cfgWrite := by
  rintro c s first x y ⟨hready, hwords, hin, heven, hheld, hfree, hrun, hx, hy⟩
  have hform : paramsOk ((fun ps => [full, full] ++ List.replicate (min (par ps 1) 498) full) c.words) c.words = true := by
    rw [hwords]
    exact paramsOk_full [first, 2, x, y] (words_mem_lt hwords)
  have hjudge : s.judge 0xA2 20 (fun ps => [full, full] ++ List.replicate (min (par ps 1) 498) full) cfgWriteBody c
      = .done stOk [] (s.firmwareWrite (0x1E0000 + 4 * first) [x, y]) := by
    rw [judge_ready hready hform, hwords]
    simp only [cfgWriteBody, par, List.getD_cons_zero, List.getD_cons_succ]
    rw [if_neg (by omega), if_neg (by simp [off_of_get_zero hfree])]
    rfl
  obtain ⟨hmem, honly⟩ := firmwareWrite_sram (s := s) (a := 0x1E0000 + 4 * first) x y (by omega) (by omega) (by omega) hheld hrun
  have hdone := runCmd_only hjudge (by decide) (by decide) honly rfl rfl
  have hm : (runCmd 0xA2 20 (fun ps => [full, full] ++ List.replicate (min (par ps 1) 498) full) cfgWriteBody c s).mem
      = (s.firmwareWrite (0x1E0000 + 4 * first) [x, y]).mem := (congrArg State.mem hdone.2.2).trans rfl
  have he : (runCmd 0xA2 20 (fun ps => [full, full] ++ List.replicate (min (par ps 1) 498) full) cfgWriteBody c s).ecc
      = (s.firmwareWrite (0x1E0000 + 4 * first) [x, y]).ecc := (congrArg State.ecc hdone.2.2).trans rfl
  rw [← hm, ← he] at hdone
  have hlen := wordsLE_pair_length x y
  refine ⟨_, rfl, ?_, fun j hj => ?_, hdone⟩
  · rw [hm, hmem, ← hlen, getBytes_putBytes_same]
  · rw [hm, hmem, kget_putBytes_out (by omega)]

end Sys2Proof.Machine
end

section
/-! SUPPORT. CFG_COMMIT and its end (R347, R350, R351): the record is programmed into the slot that does not hold the loaded one, its
check word last. -/

namespace Sys2Proof.Machine
open Reg
open Claim (FlashKept)

/-! ### Flash and management beside registers -/

section
variable {op st : Nat} {d : List Nat} {fs : List Fld} {c : CmdIn} {s t : State} {x : KMap Byte} {m : MgmtRun}

/-- The state that an opcode's body leaves names what the flash and management hold. -/
theorem Done.flash (h : Done op st d fs c s { s with flash := x, mgmt := m } t) :
    t.flash = x ∧ t.mgmt = m ∧ Done op st d fs c s { s with flash := t.flash, mgmt := m } t := by
  have hx : t.flash = x := congrArg State.flash h.2.2
  exact ⟨hx, congrArg State.mgmt h.2.2, by rwa [hx]⟩

theorem flashGet_of_flash (h : t.flash = s.flash) (a n : Nat) : t.flashGet a n = s.flashGet a n := flashGet_congr fun _ _ => by rw [h]
theorem flashWords_of_flash (h : t.flash = s.flash) (a n : Nat) : t.flashWords a n = s.flashWords a n := by
  rw [State.flashWords, flashGet_of_flash h, State.flashWords]
theorem flashKept_of_flash {lo hi : Nat} {u : State} (h : FlashKept lo hi s t) (hu : u.flash = t.flash) : FlashKept lo hi s u :=
  fun a ha => (congrArg (kget a) hu).trans (h a ha)
end

/-! ### CFG_COMMIT -/

/-- What CFG_COMMIT programs in slot `k`: the record but its check word (R350). -/
def State.recordPut (s : State) (k : Nat) (ws : List Nat) : State :=
  (s.flashErase (0x10000 * (k + 1)) 0x10000).flashPut (0x10000 * (k + 1)) (wordsLE ws)

theorem recordPut_kept {s : State} (h : Memory.flashWf s.flash = true) {k : Nat} {ws : List Nat} (hws : 4 * ws.length ≤ 0x10000) :
    FlashKept (0x10000 * (k + 1)) (0x10000 * (k + 1) + 0x10000) s (s.recordPut k ws) := by
  refine flashKept_trans (flashErase_kept s _ _) (flashKept_mono (flashPut_kept (flashErase_wf s _ _ h) _ _) (Nat.le_refl _) ?_)
  rw [Tests.wordsLE_length]
  omega

/-- The word after those programmed is still erased. -/
theorem recordPut_words {s : State} (h : Memory.flashWf s.flash = true) {k : Nat} {ws : List Nat} (hlen : 4 * ws.length + 4 ≤ 0x10000)
    (hws : ∀ w ∈ ws, w < 2 ^ 32) : (s.recordPut k ws).flashWords (0x10000 * (k + 1)) (ws.length + 1) = ws ++ [0xFFFFFFFF] := by
  have hwf := flashErase_wf s (0x10000 * (k + 1)) 0x10000 h
  have hput : (s.recordPut k ws).flashGet (0x10000 * (k + 1)) (4 * ws.length) = wordsLE ws := by
    rw [← Tests.wordsLE_length]
    exact flashGet_flashPut hwf _ _
  have hrest : (s.recordPut k ws).flashGet (0x10000 * (k + 1) + 4 * ws.length) 4 = List.replicate 4 0xFF := by
    have hkept := flashPut_kept hwf (0x10000 * (k + 1)) (wordsLE ws)
    rw [Tests.wordsLE_length] at hkept
    exact (flashGet_kept hkept (.inr (Nat.le_refl _))).trans (flashGet_flashErase s (by omega) (by omega))
  rw [State.flashWords, show 4 * (ws.length + 1) = 4 * ws.length + 4 from rfl, flashGet_append, hput, hrest, toWords_wordsLE_append hws]
  rfl

theorem sramRead_eq {s t : State} {a n : Nat} {ws : List Nat} (h : s.readWords .mgmt a n = ((ws, none), t)) (k : List Nat → State → CmdRes) :
    s.sramRead a n k = k ws t := by
  simp only [State.sramRead, h]

/-- A record that is well formed fits in the words that hold it. -/
theorem cfgOk_length {ws : List Nat} (h : cfgOk ws = true) : 25 ≤ ws.getD 2 0 / 4 ∧ ws.getD 2 0 / 4 ≤ ws.length := by
  simp only [cfgOk, Bool.and_eq_true, decide_eq_true_eq] at h
  obtain ⟨⟨⟨hlen, -⟩, hin⟩, -⟩ := h
  simp only [cfgLenOk, Bool.and_eq_true, decide_eq_true_eq] at hlen
  omega

theorem cfgCommit_body {s : State} {x : KMap Nat} {ws : List Nat} {k : Nat}
    (hread : s.readWords .mgmt stagingImage 16384 = ((ws, none), s.noted x)) (hslot : s.mgmt.recSlot = some k)
    (hmagic : ws.getD 0 0 = cfgMagic) (hgen : ws.getD 1 0 = s.nextGen) (hok : cfgOk ws = true) (hfree : s.flashBusy = false) :
    cfgCommitBody s [] = .done stOk [ws.getD 1 0]
      ((((s.noted x).recordPut (1 - k) (ws.take (ws.getD 2 0 / 4 - 1))).set MGMT_STATUS_CFG_BUSY 1).setMgmt fun m => { m with commit := some (1 - k) }) := by
  have hcommit : (s.noted x).commitSlot = (1 - k, s.noted x) := by
    rw [State.commitSlot, show (s.noted x).mgmt.recSlot = some k from hslot]
  rw [cfgCommitBody, sramRead_eq hread, if_neg (fun h => h.elim (· hmagic) (·.elim (· hgen) (by simp [hok]))), if_neg (by simp [hfree]), hcommit]
  rfl

theorem cfgCommit_holds : Claim.cfgCommit := by
  rintro c s ws k ⟨hready, hwords, hcfg, hupd, hheld, hrun, hwf, hbytes, hlen, hws, hecc, hslot, hmagic, hgen, hok⟩
  have hk := k.isLt
  obtain ⟨hlo, hhi⟩ := cfgOk_length hok
  obtain ⟨x, hread⟩ := readWords_sram (s := s) (a := stagingImage) (n := 16384) rfl (by decide) (by decide) rfl hheld hrun hbytes hlen hws
    (fun j hj => kget_none_of_keys fun e he => by
      have := hecc e he
      rw [stagingImage]
      omega) .mgmt
  have hfree : s.flashBusy = false := by simp [State.flashBusy, off_of_get_zero hcfg, off_of_get_zero hupd]
  have hnext : s.nextGen = ((s.mgmt.record.getD 1 0).toNat + 1) % 2 ^ 32 := by
    rw [State.nextGen, hslot]
    rfl
  have hjudge : s.judge 0xA3 20 (fun _ => []) cfgCommitBody c = .done stOk [ws.getD 1 0]
      ((((s.noted x).recordPut (1 - k.val) (ws.take (ws.getD 2 0 / 4 - 1))).set MGMT_STATUS_CFG_BUSY 1).setMgmt
        fun m => { m with commit := some (1 - k.val) }) := by
    rw [judge_ready hready (by rw [hwords]; exact paramsOk_nil), hwords]
    exact cfgCommit_body hread hslot hmagic (hgen.trans hnext.symm) hok hfree
  obtain ⟨hget, hdone⟩ := runCmd_puts (l := [(MGMT_STATUS_CFG_BUSY, 1)])
    (u := { s with flash := ((s.noted x).recordPut (1 - k.val) (ws.take (ws.getD 2 0 / 4 - 1))).flash
                   mgmt := { s.mgmt with commit := some (1 - k.val) } }) hjudge (by decide) (by decide) rfl rfl rfl rfl (by decide)
  obtain ⟨hflash, hmgmt, hdone⟩ := hdone.flash
  have htake : (ws.take (ws.getD 2 0 / 4 - 1)).length = ws.getD 2 0 / 4 - 1 := List.length_take_of_le (by omega)
  have hplace : 0x10000 * (1 - k.val + 1) = 0x10000 * (2 - k.val) := by omega
  have hwfx : Memory.flashWf (s.noted x).flash = true := hwf
  refine ⟨_, rfl, ?_, ?_, hget (v := 1) (.head _), congrArg MgmtRun.commit hmgmt, hdone⟩
  · have hput := recordPut_words hwfx (k := 1 - k.val) (ws := ws.take (ws.getD 2 0 / 4 - 1)) (by omega)
      fun w hw => hws w (List.mem_of_mem_take hw)
    rw [htake, Nat.sub_add_cancel (by omega)] at hput
    exact (flashWords_of_flash hflash _ _).trans hput
  · rw [← hplace]
    exact flashKept_of_flash (recordPut_kept hwfx (by omega)) hflash

/-! ### The end of a commit -/

theorem cfgLenOk_spec {len : Nat} (h : cfgLenOk len = true) : len % 4 = 0 ∧ 100 ≤ len ∧ len ≤ 65536 := by
  simp only [cfgLenOk, Bool.and_eq_true, decide_eq_true_eq, beq_iff_eq] at h
  obtain ⟨⟨⟨hmod, hlo⟩, hhi⟩, -⟩ := h
  exact ⟨hmod, hlo, hhi⟩

theorem cfgCommitComplete_holds : Claim.cfgCommitComplete := by
  rintro s k ⟨hcommit, hwf, hlenok⟩
  obtain ⟨hmod, hlo, hhi⟩ := cfgLenOk_spec hlenok
  generalize hlen : (s.slotWords k 2 1).getD 0 0 = len at hmod hlo hhi ⊢
  generalize hcrc : crc32 (s.flashGet (0x10000 * (k.val + 1)) (4 * (len / 4 - 1))) = w
  have hw : w < 2 ^ 32 := hcrc ▸ crc32_lt _
  have hexec : exec (.cfgCommitComplete true) s = .next (((s.flashPut (0x10000 * (k.val + 1) + 4 * (len / 4 - 1)) (bytesLE 4 w)).set
      MGMT_STATUS_CFG_BUSY 0).setMgmt fun m => { m with commit := none }) := by
    show execCfgCommitComplete true s = _
    simp only [execCfgCommitComplete, hcommit, hlen, hcrc, if_true]
  have hplace : 0x10000 * (k.val + 1) + 4 * (len / 4 - 1) = 0x10000 * (k.val + 1) + len - 4 := by omega
  have hget := flashGet_flashPut hwf (0x10000 * (k.val + 1) + 4 * (len / 4 - 1)) (bytesLE 4 w)
  have hkept := flashPut_kept hwf (0x10000 * (k.val + 1) + 4 * (len / 4 - 1)) (bytesLE 4 w)
  rw [length_bytesLE] at hget hkept
  refine ⟨_, hexec, ?_, ?_, State.get_set_same _ _ 0, ((SameRegs.refl _ s).set (.head _) 0).of_regs rfl, rfl⟩
  · have hwords := toWords_append_word hw []
    rw [List.append_nil] at hwords
    exact (congrArg toWords hget).trans hwords
  · exact flashKept_of_flash (flashKept_mono hkept (by omega) (by omega)) rfl

theorem cfgCommitFails_holds : Claim.cfgCommitFails := by
  rintro s k ⟨hcommit, hwf, hlenok⟩
  obtain ⟨hmod, hlo, hhi⟩ := cfgLenOk_spec hlenok
  generalize hlen : (s.slotWords k 2 1).getD 0 0 = len at hmod hlo hhi
  have hexec : exec (.cfgCommitComplete false) s = .next (({ (s.flashErase (0x10000 * (k.val + 1)) 0x10000).flashPut (0x10000 * (k.val + 1))
      ((List.range (4 * (len / 4))).map (Config.unwrittenByte s.freeCtr)) with freeCtr := s.freeCtr + 1 }.raise MGMT_FLAGS_CFG_COMMIT_FAIL 1
        |>.set MGMT_STATUS_CFG_BUSY 0).setMgmt fun m => { m with commit := none }) := by
    show execCfgCommitComplete false s = _
    simp only [execCfgCommitComplete, hcommit, hlen, Bool.false_eq_true, if_false]
  have hkept := flashPut_kept (flashErase_wf s (0x10000 * (k.val + 1)) 0x10000 hwf) (0x10000 * (k.val + 1))
    ((List.range (4 * (len / 4))).map (Config.unwrittenByte s.freeCtr))
  rw [List.length_map, List.length_range] at hkept
  refine ⟨_, hexec, State.get_set_same _ _ 0, ?_, ?_, ?_, rfl⟩
  · exact (State.get_set_ne _ (by decide) _).trans (get_raise_flag rfl)
  · exact flashKept_of_flash (flashKept_trans (flashErase_kept s _ _) (flashKept_mono hkept (Nat.le_refl _) (by omega))) rfl
  · exact ((((SameRegs.refl _ s).of_regs rfl).set (.tail _ (.head _)) _).set (.head _) 0).of_regs rfl

end Sys2Proof.Machine
end

section
/-! SUPPORT. Firmware updates (R346, R351, R352) and the boot selection record that UPD_SELECT rewrites (R344, R353). -/

namespace Sys2Proof.Machine
open Reg
open Claim (FlashKept)

/-! ### UPD_BEGIN -/

theorem imageBase_eq (i : Nat) : imageBase i = 0x100000 + 0x100000 * i := rfl
theorem flashKept_of_eq {lo hi : Nat} {s t : State} (h : t.flash = s.flash) : FlashKept lo hi s t :=
  flashKept_of_flash (flashKept_refl lo hi s) h
theorem selRecord_of_flash {s t : State} (h : t.flash = s.flash) : t.selRecord = s.selRecord :=
  selRecord_kept (lo := 0x2000) (flashKept_of_eq (hi := 0) h) (Nat.le_refl _)
theorem selFlags_of_flash {s t : State} (h : t.flash = s.flash) : t.selFlags = s.selFlags :=
  selFlags_kept (lo := 0x2000) (flashKept_of_eq (hi := 0) h) (Nat.le_refl _)
theorem selWords_of_flash {s t : State} (h : t.flash = s.flash) : t.selWords = s.selWords := by
  rw [State.selWords, selRecord_of_flash h, State.selWords]

theorem selFlags_lt (s : State) : s.selFlags.2.2 < 8 := by
  unfold State.selFlags
  split
  · exact Nat.mod_lt _ (by decide)
  · decide

/-- The record gives up a preference for the image to be erased (R352). -/
def State.selGivenUp (s : State) (i : Nat) : State := if s.selFlags.1 = i then s.selWrite (1 - i, 0, s.selFlags.2.2) else s

theorem selGivenUp_only (s : State) (i : Nat) : s.selGivenUp i = { s with flash := (s.selGivenUp i).flash } := by
  unfold State.selGivenUp
  split
  · exact selWrite_only s _
  · rfl

theorem selWrite_kept_sectors {s : State} (h : Memory.flashWf s.flash = true) (r : Nat × Nat × Nat) : FlashKept 0 0x2000 s (s.selWrite r) := by
  have hk := (selNext_lt s).1
  exact flashKept_mono (selWrite_kept h r) (by omega) (by omega)

theorem selGivenUp_kept {s : State} (h : Memory.flashWf s.flash = true) (i : Nat) : FlashKept 0 0x2000 s (s.selGivenUp i) := by
  unfold State.selGivenUp
  split
  · exact selWrite_kept_sectors h _
  · exact flashKept_refl _ _ s

theorem selWrite_flags {s : State} (h : Memory.flashWf s.flash = true) {p t n : Nat} (hp : p < 2) (ht : t < 2) (hn : n < 8) :
    (s.selWrite (p, t, n)).selFlags = (p, t, n) := selFlags_of_record (selWrite_record h (selBits_lt hp ht hn)) hp ht hn

/-- What UPD_BEGIN leaves in the flash: the image erased, and the record as it then stands. -/
def State.imageErased (s : State) (i : Nat) : State := (s.selGivenUp i).flashErase (imageBase i) 0x100000

theorem updBegin_body {s : State} {i : Fin 2} {len : Nat} (hmod : len % 4 = 0) (hlo : 1024 ≤ len) (hhi : len ≤ 0xC0000)
    (hfree : s.flashBusy = false) (himage : s.runningImage = 1 - i.val) : updBeginBody s [len] = .done stOk [i.val]
      ((((s.selGivenUp i).set (imgValidF i) 0).set MGMT_STATUS_UPD_BUSY 1).flashErase (imageBase i) 0x100000 |>.setMgmt fun m =>
        { m with upd := some ⟨i.val, len, 0, 0, [], true, false⟩ }) := by
  have hi : 1 - (1 - i.val) = i.val := by omega
  simp only [updBeginBody, par, List.getD_cons_zero, himage, hi]
  rw [if_neg (by omega), if_neg (by simp [hfree]), State.selGivenUp]

theorem erased_of_flash {s t : State} (h : t.flash = s.flash) (a n : Nat) : t.erased a n = s.erased a n := by
  rw [State.erased, h, State.erased]

theorem updBegin_keys : ∀ i : Fin 2, (([(imgValidF i, 0), (MGMT_STATUS_UPD_BUSY, 1)] : List (Fld × Nat)).map (fun p => p.1.key)
    ++ lastF.map Fld.key).Nodup := by decide

theorem updBegin_holds : Claim.updBegin := by
  rintro c s i len ⟨hready, hwords, hmod, hlo, hhi, hcfg, hupd, himage, hwf⟩
  have hfree : s.flashBusy = false := by simp [State.flashBusy, off_of_get_zero hcfg, off_of_get_zero hupd]
  have hform : paramsOk [full] c.words = true := by
    rw [hwords]
    exact paramsOk_full [len] (words_mem_lt hwords)
  have hjudge : s.judge 0xA4 20 (fun _ => [full]) updBeginBody c = .done stOk [i.val]
      ((((s.selGivenUp i).set (imgValidF i) 0).set MGMT_STATUS_UPD_BUSY 1).flashErase (imageBase i) 0x100000 |>.setMgmt fun m =>
        { m with upd := some ⟨i.val, len, 0, 0, [], true, false⟩ }) := by
    rw [judge_ready hready hform, hwords]
    exact updBegin_body hmod hlo hhi hfree himage
  rw [selGivenUp_only] at hjudge
  obtain ⟨hget, hdone⟩ := runCmd_puts (l := [(imgValidF i, 0), (MGMT_STATUS_UPD_BUSY, 1)])
    (u := { s with flash := (s.imageErased i).flash, mgmt := { s.mgmt with upd := some ⟨i.val, len, 0, 0, [], true, false⟩ } })
    hjudge (by decide) (by decide) rfl rfl rfl rfl (updBegin_keys i)
  obtain ⟨hflash, hmgmt, hdone⟩ := hdone.flash
  have hupd' : _ = some (⟨i.val, len, 0, 0, [], true, false⟩ : Update) := congrArg MgmtRun.upd hmgmt
  have herase : FlashKept (imageBase i) (imageBase i + 0x100000) (s.selGivenUp i) (s.imageErased i) := flashErase_kept _ _ _
  have hbase := imageBase_eq i
  have hi := i.isLt
  refine ⟨_, rfl, hget (v := 0) (.head _), hget (v := 1) (.tail _ (.head _)), hupd', ?_, fun hpref => ?_, fun hother => ?_, fun a ha hout => ?_,
    by rw [hupd']; exact hdone⟩
  · exact (erased_of_flash hflash _ _).trans (flashErase_erased _ _ _)
  · rw [selFlags_of_flash hflash, selFlags_kept herase (by omega), State.selGivenUp, if_pos hpref]
    exact selWrite_flags hwf (by omega) (by omega) (selFlags_lt s)
  · rw [selRecord_of_flash hflash, selRecord_kept herase (by omega), State.selGivenUp, if_neg hother]
  · rw [hflash, herase a hout]
    exact selGivenUp_kept hwf i a (.inr ha)

theorem updEraseComplete_holds : Claim.updEraseComplete := by
  rintro s u ⟨hupd, herasing⟩
  have hexec : exec .updEraseComplete s
      = .next ((s.set MGMT_STATUS_UPD_BUSY 0).setMgmt fun m => { m with upd := some { u with erasing := false } }) := by
    show execUpdEraseComplete s = _
    rw [execUpdEraseComplete, hupd]
    simp only [herasing, if_true]
  exact ⟨_, hexec, State.get_set_same _ _ 0, ((SameRegs.refl _ s).set (.head _) 0).of_regs rfl, rfl⟩

/-! ### UPD_DATA -/

theorem updData_judge {c : CmdIn} {s : State} {off : Nat} {ws : List Nat} (hready : Ready 20 s) (hwords : c.words = [off, ws.length] ++ ws)
    (hmax : ws.length ≤ 497) : s.judge 0xA5 20 (fun ps => [full, full] ++ List.replicate (min (par ps 1) 497) full) updDataBody c
      = updDataBody s (off :: ws.length :: ws) := by
  have hwords' : c.words = off :: ws.length :: ws := hwords
  have hform : paramsOk ((fun ps => [full, full] ++ List.replicate (min (par ps 1) 497) full) c.words) c.words = true := by
    have hmin : min (par c.words 1) 497 = ws.length := by
      rw [hwords']
      exact Nat.min_eq_left hmax
    show paramsOk ([full, full] ++ List.replicate (min (par c.words 1) 497) full) c.words = true
    rw [hmin, hwords']
    exact paramsOk_full (off :: ws.length :: ws) (words_mem_lt hwords')
  rw [judge_ready hready hform, hwords']

theorem updDataAgain_holds : Claim.updDataAgain := by
  rintro c s u ws ⟨hready, hwords, hupd, herasing, hlo, hhi, hsame⟩
  have hne : ws.map (BitVec.ofNat 32) ≠ [] := by
    cases ws with
    | nil => exact absurd hlo (by decide)
    | cons w t => exact List.cons_ne_nil _ _
  have hjudge : s.judge 0xA5 20 (fun ps => [full, full] ++ List.replicate (min (par ps 1) 497) full) updDataBody c
      = .done stAlready [u.written] s := by
    rw [updData_judge hready hwords hhi]
    simp only [updDataBody, par, List.getD_cons_zero, List.getD_cons_succ, List.drop_succ_cons, List.drop_zero, hupd, hsame]
    rw [if_neg (by omega), if_pos (by simpa using hne)]
  exact ⟨_, rfl, runCmd_unchanged hjudge (by decide) (by decide)⟩

theorem updData_holds : Claim.updData := by
  rintro c s u ws ⟨hready, hwords, hupd, herasing, hlo, hhi, hroom, hlen, hnew, hwf⟩
  have hwords' : c.words = u.written :: ws.length :: ws := hwords
  have hws : ∀ w ∈ ws, w < 2 ^ 32 := fun w hw => words_mem_lt hwords' w (.tail _ (.tail _ hw))
  have hother : (!u.lastData.isEmpty && u.lastOff == u.written && u.lastData == ws.map (BitVec.ofNat 32)) = false := by
    rcases hnew with h | h
    · simp [h]
    · simp [h]
  have hjudge : s.judge 0xA5 20 (fun ps => [full, full] ++ List.replicate (min (par ps 1) 497) full) updDataBody c
      = .done stOk [u.written + 4 * ws.length] ((s.flashPut (imageBase u.image + u.written) (wordsLE ws)).setMgmt fun m => { m with
          upd := some { u with written := u.written + 4 * ws.length, lastOff := u.written, lastData := ws.map (BitVec.ofNat 32) } }) := by
    rw [updData_judge hready hwords hhi]
    simp only [updDataBody, par, List.getD_cons_zero, List.getD_cons_succ, List.drop_succ_cons, List.drop_zero, hupd, hother, herasing]
    rw [if_neg (by omega), if_neg (by simp), if_neg (by omega), if_neg (by simp)]
  obtain ⟨-, hdone⟩ := runCmd_puts (l := [])
    (u := { s with flash := (s.flashPut (imageBase u.image + u.written) (wordsLE ws)).flash, mgmt := { s.mgmt with
      upd := some { u with written := u.written + 4 * ws.length, lastOff := u.written, lastData := ws.map (BitVec.ofNat 32) } } })
    hjudge (by decide) (by decide) rfl rfl rfl rfl (by decide)
  obtain ⟨hflash, hmgmt, hdone⟩ := hdone.flash
  have hupd' : _ = some _ := congrArg MgmtRun.upd hmgmt
  refine ⟨_, rfl, ?_, ?_, hupd', by rw [hupd']; exact hdone⟩
  · exact (flashWords_of_flash hflash _ _).trans (flashWords_flashPut hwf _ hws)
  · rw [← Tests.wordsLE_length]
    exact flashKept_of_flash (flashPut_kept hwf _ _) hflash

/-! ### UPD_COMMIT -/

theorem updCommit_holds : Claim.updCommit := by
  rintro c s u ⟨hready, hwords, hupd, hall, hcfg, hbusy⟩
  have hfree : s.flashBusy = false := by simp [State.flashBusy, off_of_get_zero hcfg, off_of_get_zero hbusy]
  have hjudge : s.judge 0xA6 20 (fun _ => []) updCommitBody c
      = .done stOk [] ((s.set MGMT_STATUS_UPD_BUSY 1).setMgmt fun m => { m with upd := some { u with verifying := true } }) := by
    rw [judge_ready hready (by rw [hwords]; exact paramsOk_nil), updCommitBody, hupd]
    simp only [hfree, hall, bne_self_eq_false, Bool.or_self, Bool.false_eq_true, if_false]
    rfl
  obtain ⟨hget, hdone⟩ := runCmd_puts (l := [(MGMT_STATUS_UPD_BUSY, 1)])
    (u := { s with mgmt := { s.mgmt with upd := some { u with verifying := true } } }) hjudge (by decide) (by decide) rfl rfl rfl rfl (by decide)
  exact ⟨_, rfl, hget (v := 1) (.head _), hdone⟩

/-! ### UPD_SELECT -/

/-- What UPD_SELECT stores in the status beside the record: TRIES, and the end of a trial of the running image (R353). -/
def selFields (s : State) (r : Nat × Nat × Nat) : List (Fld × Nat) :=
  (MGMT_STATUS_TRIES, r.2.2) :: if r.2.1 = 0 ∧ r.1 = s.runningImage then [(MGMT_STATUS_TRIAL, 0)] else []

theorem selAnswer_eq {s : State} {r : Nat × Nat × Nat} (h : r ≠ s.selFlags) :
    s.selAnswer r = .done stOk (s.selWrite r).selWords ((s.selWrite r).puts (selFields s r)) := by
  have hrun : ((s.selWrite r).set MGMT_STATUS_TRIES r.2.2).runningImage = s.runningImage := by
    rw [State.runningImage, State.get_set_ne _ (by decide), selWrite_only]
    rfl
  have hstate : (if r.2.1 = 0 ∧ r.1 = s.runningImage then ((s.selWrite r).set MGMT_STATUS_TRIES r.2.2).set MGMT_STATUS_TRIAL 0
      else (s.selWrite r).set MGMT_STATUS_TRIES r.2.2) = (s.selWrite r).puts (selFields s r) := by
    rw [selFields]
    split <;> rfl
  have hflash : ((s.selWrite r).puts (selFields s r)).flash = (s.selWrite r).flash :=
    (congrArg State.flash (puts_butNotes (s.selWrite r) (selFields s r))).trans rfl
  rw [State.selAnswer, if_neg h]
  simp only [hstate, selWords_of_flash hflash]

theorem selFields_keys (s : State) (r : Nat × Nat × Nat) : ((selFields s r).map (fun p => p.1.key) ++ lastF.map Fld.key).Nodup := by
  rw [selFields]
  split
  · exact (by decide : (([MGMT_STATUS_TRIES, MGMT_STATUS_TRIAL] : List Fld).map Fld.key ++ lastF.map Fld.key).Nodup)
  · exact (by decide : (([MGMT_STATUS_TRIES] : List Fld).map Fld.key ++ lastF.map Fld.key).Nodup)

/-- UPD_SELECT that changes the record: its flags read as given, in the sector that was not in use (R344, R353). -/
theorem updSelect_done {c : CmdIn} {s : State} {p t n : Nat} (hjudge : s.judge 0xA7 20 (fun _ => [full, full, full]) updSelectBody c = s.selAnswer (p, t, n))
    (hne : (p, t, n) ≠ s.selFlags) (hwf : Memory.flashWf s.flash = true) (hp : p < 2) (ht : t < 2) (hn : n < 8) :
    ∃ v, exec (.updSelect c) s = .next v ∧ v.selRecord = some (s.selNext.1, s.selNext.2, selBits (p, t, n)) ∧ v.selFlags = (p, t, n)
      ∧ FlashKept 0 0x2000 s v ∧ (∀ {f : Fld} {x : Nat}, (f, x) ∈ selFields s (p, t, n) → v.get f = x % 2 ^ f.w)
      ∧ Done 0xA7 0 v.selWords ((selFields s (p, t, n)).map Prod.fst) c s { s with flash := v.flash } v := by
  rw [selAnswer_eq hne] at hjudge
  have hwrite := selWrite_only s (p, t, n)
  have hregs : ((s.selWrite (p, t, n)).puts (selFields s (p, t, n))).regs = (s.puts (selFields s (p, t, n))).regs := by
    rw [puts_regs, hwrite, puts_regs]
  have honly : (s.selWrite (p, t, n)).puts (selFields s (p, t, n))
      = butNotes { s with flash := (s.selWrite (p, t, n)).flash } ((s.selWrite (p, t, n)).puts (selFields s (p, t, n))) :=
    (puts_butNotes _ _).trans (congrArg (butNotes · _) hwrite)
  obtain ⟨hget, hdone⟩ := runCmd_puts hjudge (by decide) (by decide) hregs honly rfl rfl (selFields_keys s (p, t, n))
  obtain ⟨hflash, -, hdone⟩ := Done.flash (m := s.mgmt) hdone
  have hrecord : _ = some _ := (selRecord_of_flash hflash).trans (selWrite_record hwf (selBits_lt hp ht hn))
  have hwords : _ = (s.selWrite (p, t, n)).selWords := selWords_of_flash hflash
  refine ⟨_, rfl, hrecord, selFlags_of_record hrecord hp ht hn, flashKept_of_flash (selWrite_kept_sectors hwf _) hflash, hget, ?_⟩
  rw [hwords]
  exact hdone

theorem updSelect_judge {c : CmdIn} {s : State} {a b p : Nat} (hready : Ready 20 s) (hwords : c.words = [a, b, p]) :
    s.judge 0xA7 20 (fun _ => [full, full, full]) updSelectBody c = updSelectBody s [a, b, p] := by
  have hform : paramsOk [full, full, full] c.words = true := by
    rw [hwords]
    exact paramsOk_full [a, b, p] (words_mem_lt hwords)
  rw [judge_ready hready hform, hwords]

theorem updSelectTrial_holds : Claim.updSelectTrial := by
  rintro c s i n ⟨hready, hwords, hlo, hhi, hvalid, hne, hwf⟩
  have hi := i.isLt
  have hjudge : s.judge 0xA7 20 (fun _ => [full, full, full]) updSelectBody c = s.selAnswer (i.val, 1, n) := by
    rw [updSelect_judge hready hwords]
    simp only [updSelectBody, par, List.getD_cons_zero, List.getD_cons_succ]
    rw [if_neg (by omega), if_neg (by simp [on_of_get_one hvalid])]
  obtain ⟨t, hexec, hrecord, hflags, hkept, hget, hdone⟩ := updSelect_done hjudge hne.symm hwf hi (by decide) (by omega)
  refine ⟨t, hexec, hflags, hkept, (hget (.head _)).trans (Nat.mod_eq_of_lt (show n < 2 ^ 3 by omega)), fun r hr => ?_, hdone⟩
  rw [hrecord, State.selNext, hr]
  rfl

theorem updSelectConfirm_holds : Claim.updSelectConfirm := by
  rintro c s p ⟨hready, hwords, himage, htrial, hflags, htries, hwf, hp⟩
  have hpref : s.selFlags.1 = s.get MGMT_STATUS_IMAGE := congrArg Prod.fst hflags
  have hne : (s.get MGMT_STATUS_IMAGE, 0, s.selFlags.2.2) ≠ s.selFlags := fun h => by
    have h1 : 0 = s.selFlags.2.1 := congrArg (fun r : Nat × Nat × Nat => r.2.1) h
    have h2 : s.selFlags.2.1 = 1 := congrArg (fun r : Nat × Nat × Nat => r.2.1) hflags
    omega
  have hjudge : s.judge 0xA7 20 (fun _ => [full, full, full]) updSelectBody c = s.selAnswer (s.get MGMT_STATUS_IMAGE, 0, s.selFlags.2.2) := by
    rw [updSelect_judge hready hwords]
    simp only [updSelectBody, par, List.getD_cons_zero, List.getD_cons_succ, hpref]
    rw [if_neg (by omega), if_neg (by simp [on_of_get_one htrial, State.runningImage])]
  obtain ⟨t, hexec, -, hflags', hkept, hget, hdone⟩ := updSelect_done hjudge hne hwf himage (by decide) (by omega)
  have hfields : selFields s (s.get MGMT_STATUS_IMAGE, 0, s.selFlags.2.2) = [(MGMT_STATUS_TRIES, s.selFlags.2.2), (MGMT_STATUS_TRIAL, 0)] :=
    congrArg _ (if_pos ⟨rfl, rfl⟩)
  rw [hfields] at hdone
  refine ⟨t, hexec, hflags', hkept, hget (f := MGMT_STATUS_TRIAL) (x := 0) ?_, hdone⟩
  rw [hfields]
  exact .tail _ (.head _)

theorem updSelectPrefer_holds : Claim.updSelectPrefer := by
  rintro c s i p ⟨hready, hwords, hp, hvalid, himage, hother, htries, hwf⟩
  have hi := i.isLt
  have hne : (i.val, 0, s.selFlags.2.2) ≠ s.selFlags := fun h => by
    have h1 : i.val = s.selFlags.1 := congrArg Prod.fst h
    have h2 : 0 = s.selFlags.2.1 := congrArg (fun r : Nat × Nat × Nat => r.2.1) h
    omega
  have hjudge : s.judge 0xA7 20 (fun _ => [full, full, full]) updSelectBody c = s.selAnswer (i.val, 0, s.selFlags.2.2) := by
    rw [updSelect_judge hready hwords]
    simp only [updSelectBody, par, List.getD_cons_zero, List.getD_cons_succ]
    rw [if_neg (by omega), if_neg (by simp [on_of_get_one hvalid])]
  obtain ⟨t, hexec, -, hflags, hkept, -, hdone⟩ := updSelect_done hjudge hne hwf hi (by decide) (by omega)
  have hfields : selFields s (i.val, 0, s.selFlags.2.2) = [(MGMT_STATUS_TRIES, s.selFlags.2.2)] :=
    congrArg _ (if_neg (by rw [State.runningImage, himage]; omega))
  rw [hfields] at hdone
  exact ⟨t, hexec, hflags, hkept, hdone⟩

theorem updSelectDenied_holds : Claim.updSelectDenied := by
  rintro c s i n ⟨hready, hwords, hlo, hhi, hvalid⟩
  have hi := i.isLt
  have hjudge : s.judge 0xA7 20 (fun _ => [full, full, full]) updSelectBody c = .refuse stDenied 0 := by
    rw [updSelect_judge hready hwords]
    simp only [updSelectBody, par, List.getD_cons_zero, List.getD_cons_succ]
    rw [if_neg (by omega), if_pos (by simp [off_of_get_zero hvalid])]
    rfl
  exact ⟨_, rfl, runCmd_refused_done hjudge (by decide) (by decide)⟩

end Sys2Proof.Machine
end

section
/-! SUPPORT. A record of the event log (R354, R355), and the end of an update's verification, which logs an image that is not valid
(R346, R352, R356). -/

namespace Sys2Proof.Machine
open Reg

/-! ### Entering a record -/

/-- A record has entered the ring: the next LSEQ, the ring alone of memory, and what waits for the persistent log. -/
structure Logged (s t : State) : Prop where
  seq : t.get MGMT_LOG_SEQ_NEXT = (s.get MGMT_LOG_SEQ_NEXT + 1) % 2 ^ 32
  ring : LogKept s t
  mgmt : t.mgmt = { s.mgmt with persistQ := t.mgmt.persistQ }
  beside : Beside logF s t

theorem seqNext_notMem_rptF : MGMT_LOG_SEQ_NEXT.key ∉ rptF.map Fld.key := by decide

theorem logEnter_logged (s : State) {ws : List Nat} (hws : ws.length = 8) (sev : Nat) (hb : Beside logF s (s.logEnter ws sev)) :
    Logged s (s.logEnter ws sev) := by
  revert hb
  unfold State.logEnter
  extract_lets n s1 s2 m s3
  have hseq1 : s1.get MGMT_LOG_SEQ_NEXT = (s.get MGMT_LOG_SEQ_NEXT + 1) % 2 ^ 32 := State.get_set_same _ _ _
  have hkept1 : s1.mem = s.mem ∧ s1.mgmt = s.mgmt := by
    by_cases h : 4096 ≤ n
    · simp only [s1, if_pos h]
      exact ⟨rfl, rfl⟩
    · simp only [s1, if_neg h]
      exact ⟨rfl, rfl⟩
  clear_value s1
  obtain ⟨hmem1, hmgmt1⟩ := hkept1
  obtain ⟨hregs2, honly2⟩ := writeRange_freed s1 (logSlot n) (wordsLE ws)
  have hseq2 : s2.get MGMT_LOG_SEQ_NEXT = s1.get MGMT_LOG_SEQ_NEXT := hregs2 _ seqNext_notMem_rptF
  have hring2 : LogKept s s2 := fun a ha => by
    have hmem2 : s2.mem = putBytes (logSlot n) (wordsLE ws) s1.mem := congrArg State.mem honly2
    have hlen : (wordsLE ws).length = 32 := by rw [Tests.wordsLE_length, hws]
    rw [hmem2, hmem1, kget_putBytes_out]
    rw [hlen, logSlot]
    omega
  have hmgmt2 : s2.mgmt = s.mgmt := (congrArg State.mgmt honly2).trans hmgmt1
  clear_value s2
  have hs3 : s3.get MGMT_LOG_SEQ_NEXT = s2.get MGMT_LOG_SEQ_NEXT ∧ s3.mem = s2.mem
      ∧ s3.mgmt = { s.mgmt with persistQ := s3.mgmt.persistQ } := by
    by_cases h : s2.get MGMT_LOG_CTRL_PERSIST ≤ sev
    · rw [show s3 = _ from if_pos h, ← hmgmt2]
      exact ⟨rfl, rfl, rfl⟩
    · rw [show s3 = _ from if_neg h, ← hmgmt2]
      exact ⟨rfl, rfl, rfl⟩
  clear_value s3
  obtain ⟨hseq3, hmem3, hmgmt3⟩ := hs3
  have hring3 : LogKept s s3 := fun a ha => by rw [hmem3, hring2 a ha]
  have hseq := hseq3.trans (hseq2.trans hseq1)
  split
  · exact fun hb => ⟨hseq, hring3, hmgmt3, hb⟩
  · exact fun hb => ⟨hseq, hring3, hmgmt3, hb⟩

/-- In READY an event is logged at once (R343, R355). -/
theorem logEvent_logged {s : State} (h : s.get MGMT_STATUS_PHASE = 4) (code sev p0 p1 : Nat) : Logged s (s.logEvent code sev p0 p1) := by
  have heq : s.logEvent code sev p0 p1 = s.logEnter (s.logWords (s.get MGMT_LOG_SEQ_NEXT) code sev p0 p1) sev := by
    rw [State.logEvent, if_neg (by omega)]
  have hb := logEvent_beside s code sev p0 p1
  rw [heq] at hb ⊢
  exact logEnter_logged s rfl sev hb

/-- What a record leaves of a state before it, which differs only in registers and management. -/
theorem Logged.kept {s t : State} (h : Logged s t) {α : Type} (p : State → α) (hp : ∀ t u : State, p (t.besides u) = p t) : p t = p s :=
  h.beside.kept p hp

/-! ### UPD_VERIFY_COMPLETE -/

/-- What the end of a verification stores whatever it finds. -/
def State.verified (s : State) : State := (s.set MGMT_STATUS_UPD_BUSY 0).setMgmt fun m => { m with upd := none }

theorem updVerify_keys : ∀ i : Fin 2, MGMT_STATUS_UPD_BUSY.key ≠ (imgValidF i).key ∧ MGMT_FLAGS_UPD_FAIL.key ≠ (imgValidF i).key
    ∧ (imgValidF i).key ∉ (MGMT_STATUS_UPD_BUSY :: MGMT_FLAGS_UPD_FAIL :: logF).map Fld.key
    ∧ (imgValidF i).w = 1 := by decide

/-- The verification accepts an image that is valid and whose SVN is not below that of the running image. -/
abbrev State.verifyOk (s : State) (i : Nat) : Prop := s.imageFault i = 0 ∧ s.imageWord (1 - i) 4 ≤ s.imageWord i 4

theorem updVerify_ok {s : State} {u : Update} {i : Fin 2} (hupd : s.mgmt.upd = some u) (hver : u.verifying = true) (hi : u.image = i.val)
    (himage : s.runningImage = 1 - i.val) (hok : s.verifyOk i) :
    exec .updVerifyComplete s = .next (s.verified.set (imgValidF i) 1) := by
  obtain ⟨hfault, hsvn⟩ := hok
  show execUpdVerifyComplete s = _
  rw [execUpdVerifyComplete, hupd]
  simp only [hver, hi, himage, hfault, ne_eq, not_true_eq_false, if_false, Bool.not_true, Bool.false_eq_true, if_neg (Nat.not_lt.2 hsvn), if_true]
  rfl

theorem updVerify_bad {s : State} {u : Update} {i : Fin 2} (hupd : s.mgmt.upd = some u) (hver : u.verifying = true) (hi : u.image = i.val)
    (himage : s.runningImage = 1 - i.val) (hbad : ¬ s.verifyOk i) :
    ∃ why, exec .updVerifyComplete s = .next ((s.verified.raise MGMT_FLAGS_UPD_FAIL 1).logEvent 0x1405 2 why 0) := by
  refine ⟨if s.imageFault i ≠ 0 then s.imageFault i else 3, ?_⟩
  show execUpdVerifyComplete s = _
  rw [execUpdVerifyComplete, hupd]
  simp only [hver, hi, himage, Bool.not_true, Bool.false_eq_true, if_false]
  by_cases hfault : s.imageFault i = 0
  · have hsvn : s.imageWord i 4 < s.imageWord (1 - i) 4 := Nat.not_le.1 fun h => hbad ⟨hfault, h⟩
    simp only [hfault, hsvn, ne_eq, not_true_eq_false, if_false, if_true]
    rfl
  · simp only [hfault, ne_eq, not_false_eq_true, if_true, if_false]
    rfl

theorem updVerifyComplete_holds : Claim.updVerifyComplete := by
  rintro s u i ⟨hupd, hver, hi, himage, hphase⟩
  obtain ⟨hbusyKey, hfailKey, hvalidKey, hwidth⟩ := updVerify_keys i
  by_cases hok : s.verifyOk i
  · refine ⟨_, updVerify_ok hupd hver hi himage hok, (State.get_set_ne _ hbusyKey 1).trans (State.get_set_same _ _ 0), rfl, rfl, ?_, ?_, fun _ _ => rfl,
      rfl, rfl, rfl⟩
    · rw [if_pos hok]
      refine ⟨(State.get_set_same _ _ 1).trans (by rw [hwidth]; rfl), rfl, (State.get_set_ne _ hfailKey 1).trans ?_⟩
      exact State.get_set_ne s (by decide) 0
    · exact (((SameRegs.refl _ s).set (.head _) 0).of_regs (u := s.verified) rfl).set (.tail _ (.head _)) 1
  · obtain ⟨why, hexec⟩ := updVerify_bad hupd hver hi himage hok
    have hphase' : (s.verified.raise MGMT_FLAGS_UPD_FAIL 1).get MGMT_STATUS_PHASE = 4 :=
      (State.get_set_ne _ (by decide) _).trans ((State.get_set_ne s (by decide) 0).trans hphase)
    have hlog := logEvent_logged hphase' 0x1405 2 why 0
    have hbefore : SameRegs [MGMT_STATUS_UPD_BUSY, MGMT_FLAGS_UPD_FAIL] s (s.verified.raise MGMT_FLAGS_UPD_FAIL 1) :=
      ((((SameRegs.refl _ s).set (.head _) 0).of_regs (u := s.verified) rfl).set (.tail _ (.head _)) _).of_regs rfl
    have hall : SameRegs (MGMT_STATUS_UPD_BUSY :: MGMT_FLAGS_UPD_FAIL :: logF) s _ :=
      (hbefore.mono (List.subset_append_left _ logF)).trans (hlog.beside.1.mono (List.subset_append_right _ _))
    have hsub : ∀ i : Fin 2, MGMT_STATUS_UPD_BUSY :: MGMT_FLAGS_UPD_FAIL :: logF ⊆ [MGMT_STATUS_UPD_BUSY, imgValidF i, MGMT_FLAGS_UPD_FAIL] ++ logF := by
      decide
    have hfail := get_raise_flag (s := s.verified) (f := MGMT_FLAGS_UPD_FAIL) rfl
    have hbusy : (s.verified.raise MGMT_FLAGS_UPD_FAIL 1).get MGMT_STATUS_UPD_BUSY = 0 :=
      (State.get_set_ne _ (by decide) _).trans (State.get_set_same _ _ 0)
    have hseq : (s.verified.raise MGMT_FLAGS_UPD_FAIL 1).get MGMT_LOG_SEQ_NEXT = s.get MGMT_LOG_SEQ_NEXT :=
      hbefore _ (by decide)
    refine ⟨_, hexec, (hlog.beside.1 _ (by decide)).trans hbusy, ?_, hlog.kept State.flash fun _ _ => rfl, ?_, hall.mono (hsub i), hlog.ring,
      hlog.kept State.eng fun _ _ => rfl, hlog.kept State.cmd fun _ _ => rfl, hlog.kept State.seq fun _ _ => rfl⟩
    · exact (congrArg MgmtRun.upd hlog.mgmt).trans rfl
    · rw [if_neg hok]
      exact ⟨(hlog.beside.1 _ (by decide)).trans hfail, hall _ hvalidKey, hlog.seq.trans (by rw [hseq])⟩

end Sys2Proof.Machine
end

section
/-! SUPPORT. LOG_READ (R355, R365), records appended to the persistent log and the lifetime region (R355, R358), and one second of the
lifetime counts (R357). -/

namespace Sys2Proof.Machine
open Reg
open Claim (FlashKept)

/-! ### LOG_READ -/

theorem logRead_judge {c : CmdIn} {s : State} {a b p : Nat} (hready : Ready 20 s) (hwords : c.words = [a, b, p]) :
    s.judge 0xA8 20 (fun _ => [full, full, full]) logReadBody c = logReadBody s [a, b, p] := by
  have hform : paramsOk [full, full, full] c.words = true := by
    rw [hwords]
    exact paramsOk_full [a, b, p] (words_mem_lt hwords)
  rw [judge_ready hready hform, hwords]

theorem logRead_holds : Claim.logRead := by
  rintro c s first n ws ⟨hready, hwords, hbefore, hkept, rfl, hheld, hrun, hfirst, hbytes, hlen, hws, hecc⟩
  obtain ⟨x, hread⟩ := readWords_sram (s := s) (a := logSlot first) (n := 8) (by rw [logSlot]; omega) (by rw [logSlot]; omega)
    (by rw [logSlot]; omega) rfl hheld hrun hbytes hlen hws (fun j hj => hecc ⟨j, hj⟩) .mgmt
  have hmax : max first (s.get MGMT_LOG_SEQ_NEXT - 4096) = first := by omega
  have hone : min 1 (s.get MGMT_LOG_SEQ_NEXT - first) = 1 := by omega
  have hjudge : s.judge 0xA8 20 (fun _ => [full, full, full]) logReadBody c = .done stOk ([first, 1] ++ ws) (s.noted x) := by
    rw [logRead_judge hready hwords]
    simp only [logReadBody, par, List.getD_cons_zero, List.getD_cons_succ, hmax, hone, List.range_one, List.foldl_cons, List.foldl_nil,
      Nat.add_zero, hread]
    rw [if_neg (by omega), if_neg (by omega)]
    rfl
  exact ⟨_, rfl, runCmd_only hjudge (by decide) (by decide) (only_noted [] s x) rfl rfl⟩

theorem logReadNone_holds : Claim.logReadNone := by
  rintro c s first n ⟨hready, hwords, hlate, hlo, hhi, hfirst⟩
  have hmax : max first (s.get MGMT_LOG_SEQ_NEXT - 4096) = first := by omega
  have hzero : min n (s.get MGMT_LOG_SEQ_NEXT - first) = 0 := by omega
  have hjudge : s.judge 0xA8 20 (fun _ => [full, full, full]) logReadBody c = .done stOk [first, 0] s := by
    rw [logRead_judge hready hwords]
    simp only [logReadBody, par, List.getD_cons_zero, List.getD_cons_succ, hmax, hzero, List.range_zero, List.foldl_nil]
    rw [if_neg (by omega), if_neg (by omega)]
    rfl
  exact ⟨_, rfl, runCmd_unchanged hjudge (by decide) (by decide)⟩

theorem logReadPersistent_holds : Claim.logReadPersistent := by
  rintro c s first n ⟨hready, hwords, hlo, hhi, hfirst⟩
  have hjudge : s.judge 0xA8 20 (fun _ => [full, full, full]) logReadBody c = .done stOk
      ([((((s.persistRecords.filter fun r => first ≤ r.getD 0 0).take n).headD [first]).getD 0 0),
        ((s.persistRecords.filter fun r => first ≤ r.getD 0 0).take n).length]
          ++ ((s.persistRecords.filter fun r => first ≤ r.getD 0 0).take n).flatten) s := by
    rw [logRead_judge hready hwords, logReadBody]
    simp only [par, List.getD_cons_zero, List.getD_cons_succ]
    rw [if_neg (by omega), if_pos trivial]
    rfl
  exact ⟨_, rfl, runCmd_unchanged hjudge (by decide) (by decide)⟩

/-! ### Records appended -/

theorem persistentLogAppend_holds : Claim.persistentLogAppend := by
  rintro s r rest ⟨hdom, hq, hlen, hwf⟩
  have hwords : (wordsLE (r.map (·.toNat))).length = 32 := by rw [Tests.wordsLE_length, List.length_map, hlen]
  have hexec : exec .persistentLogAppend s
      = .next ((s.setMgmt fun m => { m with persistQ := rest }).flashAppend 0x80000 32 16384 (wordsLE (r.map (·.toNat)))) := by
    show execPersistentLogAppend s = _
    rw [execPersistentLogAppend, State.onMgmt, State.onDom, if_pos hdom, State.persistAppend, hq]
    rfl
  obtain ⟨hrecord, hkept⟩ := flashAppend_spec (s := s.setMgmt fun m => { m with persistQ := rest }) (base := 0x80000) (w := 32) (n := 16384)
    hwf (by decide) (by decide) (by decide) (by decide) hwords
  exact ⟨_, hexec, hrecord, hkept, flashAppend_only _ _ _ _ _⟩

theorem firmwareRuns_ready {s : State} (hdom : s.domainOn 1 = true) (hphase : s.get MGMT_STATUS_PHASE = 4) : s.firmwareRuns = true := by
  simp [State.firmwareRuns, hdom, hphase]

/-- The lifetime record with LREC_SEQ + 1, and when the next is due (R358). -/
def State.lifeNext (s : State) : State :=
  s.setMgmt fun m => { m with life := m.life.set 0 ((m.life.getD 0 0 + 1) % 2 ^ 32), lifeDue := s.cyc + msCyc 600000 }

theorem lifeWords_length {l : List Nat} (h : l.length = 63) : (wordsLE (lifeWords l)).length = 256 := by
  rw [Tests.wordsLE_length, lifeWords, List.length_append, h, List.length_singleton]

theorem lifetimeAppend_exec {s : State} (hdom : s.domainOn 1 = true) (hphase : s.get MGMT_STATUS_PHASE = 4) (hdue : s.mgmt.lifeDue ≤ s.cyc) (ok : Bool) :
    exec (.lifetimeAppend ok) s = .next (s.lifeAppend ok) := by
  show execLifetimeAppend ok s = _
  rw [execLifetimeAppend, firmwareRuns_ready hdom hphase, decide_eq_true hdue]
  rfl

theorem lifetimeAppend_holds : Claim.lifetimeAppend := by
  rintro s ⟨hdom, hphase, hdue, hlen, hwf⟩
  have hlife : s.lifeNext.mgmt.life.length = 63 := (List.length_set ..).trans hlen
  obtain ⟨hrecord, hkept⟩ := flashAppend_spec (s := s.lifeNext) (base := 0x40000) (w := 256) (n := 1024) hwf (by decide) (by decide)
    (by decide) (by decide) (lifeWords_length hlife)
  have honly := flashAppend_only s.lifeNext 0x40000 256 1024 (wordsLE (lifeWords s.lifeNext.mgmt.life))
  have happend : s.lifeAppend true
      = (s.lifeNext.flashAppend 0x40000 256 1024 (wordsLE (lifeWords s.lifeNext.mgmt.life))).set MGMT_STATUS_LIFE_VALID 1 := rfl
  generalize s.lifeNext.flashAppend 0x40000 256 1024 _ = u at hrecord hkept honly happend
  have hmgmt : u.mgmt = s.lifeNext.mgmt := (congrArg State.mgmt honly).trans rfl
  refine ⟨_, lifetimeAppend_exec hdom hphase hdue true, ?_⟩
  rw [happend]
  refine ⟨congrArg MgmtRun.life hmgmt, congrArg MgmtRun.lifeDue hmgmt, State.get_set_same _ _ 1, ?_, hkept, ?_, ?_⟩
  · exact hrecord.trans (congrArg (fun m : MgmtRun => wordsLE (lifeWords m.life)) hmgmt.symm)
  · exact ((SameRegs.refl _ s).of_regs ((congrArg State.regs honly).trans rfl)).set (.head _) 1
  · rw [honly]
    rfl

/-- Bytes that the lifetime region holds where the readback failed, and the record written once more (R358). -/
def State.lifeTwice (s : State) (bs cs : List Byte) (free : Nat) : State :=
  { s.flashAppend lifeBase 256 1024 bs with freeCtr := free }.flashAppend lifeBase 256 1024 cs
theorem lifeTwice_only (s : State) (bs cs : List Byte) (free : Nat) :
    s.lifeTwice bs cs free = { s with flash := (s.lifeTwice bs cs free).flash, freeCtr := free } :=
  (flashAppend_only _ lifeBase 256 1024 cs).trans
    (congrArg (fun u : State => { u with flash := (s.lifeTwice bs cs free).flash, freeCtr := free }) (flashAppend_only s lifeBase 256 1024 bs))

theorem lifeAppend_fails (s : State) : ∃ bs free a, s.lifeAppend false
    = (((s.lifeNext.lifeTwice bs (wordsLE (lifeWords s.lifeNext.mgmt.life)) free).raise MGMT_FLAGS_LIFE_WRITE_FAIL 1).logEvent 0x1408 3 a 0).set
        MGMT_STATUS_LIFE_VALID 1 := by
  refine ⟨(List.range 256).map fun i => Config.unwrittenByte s.lifeNext.freeCtr i, s.lifeNext.freeCtr + 1,
    lifeBase + 256 * s.lifeNext.nextFree lifeBase 256 1024, ?_⟩
  simp only [State.lifeAppend, Bool.false_eq_true, if_false, State.lifeTwice, State.lifeNext]

theorem lifetimeAppendFails_holds : Claim.lifetimeAppendFails := by
  rintro s ⟨hdom, hphase, hdue, hlen⟩
  obtain ⟨bs, free, a, happend⟩ := lifeAppend_fails s
  have hkept := lifeTwice_only s.lifeNext bs (wordsLE (lifeWords s.lifeNext.mgmt.life)) free
  generalize s.lifeNext.lifeTwice bs _ free = u at happend hkept
  have hregs : u.regs = s.regs := (congrArg State.regs hkept).trans rfl
  have hraised : SameRegs [MGMT_FLAGS_LIFE_WRITE_FAIL] s (u.raise MGMT_FLAGS_LIFE_WRITE_FAIL 1) :=
    (((SameRegs.refl _ s).of_regs hregs).set (.head _) _).of_regs rfl
  have hlog := logEvent_logged ((hraised _ (by decide)).trans hphase) 0x1408 3 a 0
  have hflag := get_raise_flag (s := u) (f := MGMT_FLAGS_LIFE_WRITE_FAIL) rfl
  generalize State.logEvent _ _ _ _ _ = v at happend hlog
  have hseq : v.get MGMT_LOG_SEQ_NEXT = (s.get MGMT_LOG_SEQ_NEXT + 1) % 2 ^ 32 := hlog.seq.trans (by rw [hraised _ (by decide)])
  have hmem : u.mem = s.mem := (congrArg State.mem hkept).trans rfl
  refine ⟨_, lifetimeAppend_exec hdom hphase hdue false, ?_⟩
  rw [happend]
  refine ⟨?_, State.get_set_same _ _ 1, (State.get_set_ne _ (by decide) _).trans hseq, ?_, fun a ha => (hlog.ring a ha).trans ?_, ?_, ?_, ?_⟩
  · exact (State.get_set_ne _ (by decide) _).trans ((hlog.beside.1 _ (by decide)).trans hflag)
  · refine SameRegs.set ?_ (.tail _ (.head _)) 1
    exact (hraised.mono (List.subset_append_left [MGMT_FLAGS_LIFE_WRITE_FAIL] (MGMT_STATUS_LIFE_VALID :: logF))).trans
      (hlog.beside.1.mono (List.subset_append_right [MGMT_FLAGS_LIFE_WRITE_FAIL, MGMT_STATUS_LIFE_VALID] logF))
  · exact congrArg (kget a) hmem
  · exact (hlog.kept State.eng fun _ _ => rfl).trans ((congrArg State.eng hkept).trans rfl)
  · exact (hlog.kept State.cmd fun _ _ => rfl).trans ((congrArg State.cmd hkept).trans rfl)
  · exact (hlog.kept State.hk fun _ _ => rfl).trans ((congrArg State.hk hkept).trans rfl)

theorem lifeRead_holds : Claim.lifeRead := by
  rintro c s ⟨hready, hwords⟩
  have hjudge : s.judge 0xA9 20 (fun _ => []) lifeReadBody c = .done stOk (s.mgmt.life ++ [crc32 (wordsLE s.mgmt.life)]) s := by
    rw [judge_ready hready (by rw [hwords]; exact paramsOk_nil)]
    rfl
  exact ⟨_, rfl, runCmd_unchanged hjudge (by decide) (by decide)⟩

/-! ### One second of the lifetime counts -/

/-- `s` with other lifetime words. -/
def State.withLife (s : State) (l : List Nat) : State := { s with mgmt := { s.mgmt with life := l } }
theorem withLife_life (s : State) (l : List Nat) : (s.withLife l).mgmt.life = l := rfl

/-- One lifetime word, counted up and saturating (R357). -/
def lifeUp (l : List Nat) (w n : Nat) : List Nat := l.set w (min (l.getD w 0 + n) 0xFFFFFFFF)

theorem getD_set_same {l : List Nat} {i : Nat} (h : i < l.length) (v : Nat) : (l.set i v).getD i 0 = v := by
  rw [List.getD_eq_getElem _ _ (by rwa [List.length_set]), List.getElem_set_self]
theorem getD_set_ne (l : List Nat) {i j : Nat} (h : i ≠ j) (v : Nat) : (l.set i v).getD j 0 = l.getD j 0 := by
  rw [List.getD_eq_getElem?_getD, List.getElem?_set_ne h, List.getD_eq_getElem?_getD]

/-- A sink that is off counts neither charge nor on-time (R357, R445). -/
theorem sinkSecond_off {s : State} {c : Fin 4} (ha : s.get (EMIT_CHc_ACT_CODE c) = 0) (hq : s.mgmt.charge[c] < 1843200) :
    s.sinkSecond c = s.withLife (lifeUp s.mgmt.life (24 + c.val) 0) := by
  have hset : s.mgmt.charge.set c s.mgmt.charge[c] = s.mgmt.charge := by simp
  have hdiv : s.mgmt.charge[c] / 1843200 = 0 := Nat.div_eq_of_lt hq
  have hmod : s.mgmt.charge[c] % 1843200 = s.mgmt.charge[c] := Nat.mod_eq_of_lt hq
  simp only [State.sinkSecond, ha, Nat.mul_zero, Nat.add_zero, hdiv, if_true, hmod]
  show { s with mgmt := { s.mgmt with life := _, charge := s.mgmt.charge.set c s.mgmt.charge[c] } } = _
  rw [hset]
  rfl

/-- The lifetime words after a second with every sink off. -/
def lifeSecond (l : List Nat) (b hot cold : Nat) : List Nat :=
  lifeUp (lifeUp (lifeUp (lifeUp (((lifeUp (lifeUp l 3 1) (4 + b) 1).set 22 hot).set 23 cold) 24 0) 25 0) 26 0) 27 0

theorem sinks_off {s : State} (ha : ∀ k : Fin 4, s.get (EMIT_CHc_ACT_CODE k) = 0) (hq : ∀ k : Fin 4, s.mgmt.charge[k] < 1843200) (l : List Nat) :
    ([0, 1, 2, 3] : List (Fin 4)).foldl (fun (t : State) c => t.sinkSecond c) (s.withLife l)
      = s.withLife (lifeUp (lifeUp (lifeUp (lifeUp l 24 0) 25 0) 26 0) 27 0) := by
  have hsink (m : List Nat) (c : Fin 4) : (s.withLife m).sinkSecond c = s.withLife (lifeUp m (24 + c.val) 0) :=
    sinkSecond_off (s := s.withLife m) (ha c) (hq c)
  simp only [List.foldl_cons, List.foldl_nil, hsink]
  rfl

theorem lifeUp_below (l : List Nat) {i w : Nat} (h : i ≠ w) (n : Nat) : (lifeUp l w n).getD i 0 = l.getD i 0 := getD_set_ne l h.symm _
theorem lifeUp_same {l : List Nat} {w : Nat} (h : w < l.length) (n : Nat) : (lifeUp l w n).getD w 0 = min (l.getD w 0 + n) 0xFFFFFFFF :=
  getD_set_same h _
theorem lifeUp_length (l : List Nat) (w n : Nat) : (lifeUp l w n).length = l.length := List.length_set ..
theorem lifeUp_drop (l : List Nat) {w m : Nat} (h : w < m) (n : Nat) : (lifeUp l w n).drop m = l.drop m := List.drop_set_of_lt h

theorem lifeSecond_below (l : List Nat) {b i : Nat} (hot cold : Nat) (hi : i < 24) :
    (lifeSecond l b hot cold).getD i 0 = (((lifeUp (lifeUp l 3 1) (4 + b) 1).set 22 hot).set 23 cold).getD i 0 := by
  rw [lifeSecond, lifeUp_below _ (by omega), lifeUp_below _ (by omega), lifeUp_below _ (by omega), lifeUp_below _ (by omega)]

theorem lifetimeSample_holds : Claim.lifetimeSample := by
  rintro s b hot cold ⟨hdom, hphase, hlen, hb, hb18, hpowered, hact, hcharge, hhot, hcold⟩
  have hfirst : (s.mgmt.life.getD 3 0 == 0) = false := by simpa using hpowered
  have hexec : exec .lifetimeSample s = .next (s.withLife (lifeSecond s.mgmt.life b hot cold)) := by
    show execLifetimeSample s = _
    rw [execLifetimeSample, firmwareRuns_ready hdom hphase]
    simp only [Bool.not_true, Bool.false_eq_true, if_false, hfirst, ← hb, ← hhot, ← hcold]
    exact congrArg _ (sinks_off hact hcharge _)
  refine ⟨_, hexec, ?_, ?_, ?_, ?_, fun i h3 h4 h22 => ?_, ?_, rfl, rfl, rfl, rfl, rfl, rfl⟩
  · rw [withLife_life, lifeSecond_below _ _ _ (by omega), getD_set_ne _ (by omega), getD_set_ne _ (by omega), lifeUp_below _ (by omega),
      lifeUp_same (by omega)]
  · rw [withLife_life, lifeSecond_below _ _ _ (by omega), getD_set_ne _ (by omega), getD_set_ne _ (by omega),
      lifeUp_same (by rw [lifeUp_length]; omega), lifeUp_below _ (by omega)]
  · rw [withLife_life, lifeSecond_below _ _ _ (by omega), getD_set_ne _ (by omega), getD_set_same (by rw [lifeUp_length, lifeUp_length]; omega)]
  · rw [withLife_life, lifeSecond_below _ _ _ (by omega), getD_set_same (by rw [List.length_set, lifeUp_length, lifeUp_length]; omega)]
  · rw [withLife_life, lifeSecond_below _ _ _ i.isLt, getD_set_ne _ (by omega), getD_set_ne _ (by omega), lifeUp_below _ h4, lifeUp_below _ h3]
  · rw [withLife_life, lifeSecond, lifeUp_drop _ (by decide), lifeUp_drop _ (by decide), lifeUp_drop _ (by decide), lifeUp_drop _ (by decide),
      List.drop_set_of_lt (by decide), List.drop_set_of_lt (by decide), lifeUp_drop _ (by omega), lifeUp_drop _ (by decide)]

end Sys2Proof.Machine
end

section
/-! SUPPORT. The readings of the die sensors (R359), the check of the hottest of them against its limit, and the interpolators that die
sensor 5 has left (R407). -/

namespace Sys2Proof.Machine
open Reg

/-! ### The readings -/

/-- What a reading of the die sensors and of the supplies stores (R359). -/
def sensorFields (temps : Vector (BitVec 16) 8) (mv : Vector (BitVec 16) 10) : List (Fld × Nat) :=
  (List.finRange 8).map (fun i : Fin 8 => (MGMT_TEMPi_TEMP i, temps[i].toNat)) ++ (List.finRange 10).map fun i : Fin 10 => (MGMT_VMONj_MV i, mv[i].toNat)
def sensorF : List Fld := (List.range 8).map (fun i => MGMT_TEMPi_TEMP i) ++ (List.range 10).map fun j => MGMT_VMONj_MV j

section
variable {temps : Vector (BitVec 16) 8} {mv : Vector (BitVec 16) 10} {s : State}

theorem sensorFields_keys (temps : Vector (BitVec 16) 8) (mv : Vector (BitVec 16) 10) : ((sensorFields temps mv).map fun p => p.1.key).Nodup := by
  have h : (sensorF.map Fld.key).Nodup := by decide
  exact h

/-- A field below the readings is none of them. -/
theorem sensor_notMem {g : Fld} (h : g.key < (MGMT_TEMPi_TEMP 0).key) : g.key ∉ sensorF.map Fld.key := fun hm => by
  have hge : ∀ k ∈ sensorF.map Fld.key, (MGMT_TEMPi_TEMP 0).key ≤ k := by decide
  exact absurd (hge _ hm) (Nat.not_le.2 h)

theorem sensors_get (s : State) {g : Fld} (h : g.key < (MGMT_TEMPi_TEMP 0).key) : (s.puts (sensorFields temps mv)).get g = s.get g :=
  sameRegs_puts s (sensorFields temps mv) g (sensor_notMem h)
theorem sensors_temp (s : State) (i : Fin 8) : (s.puts (sensorFields temps mv)).get (MGMT_TEMPi_TEMP i) = temps[i].toNat := by
  have hmem : (MGMT_TEMPi_TEMP i, temps[i].toNat) ∈ sensorFields temps mv :=
    List.mem_append_left _ (List.mem_map.2 ⟨i, List.mem_finRange i, rfl⟩)
  exact (get_puts (sensorFields_keys temps mv) hmem).trans (Nat.mod_eq_of_lt temps[i].isLt)
theorem sensors_mv (s : State) (i : Fin 10) : (s.puts (sensorFields temps mv)).get (MGMT_VMONj_MV i) = mv[i].toNat := by
  have hmem : (MGMT_VMONj_MV i, mv[i].toNat) ∈ sensorFields temps mv :=
    List.mem_append_right _ (List.mem_map.2 ⟨i, List.mem_finRange i, rfl⟩)
  exact (get_puts (sensorFields_keys temps mv) hmem).trans (Nat.mod_eq_of_lt mv[i].isLt)

theorem signedOf_toNat (v : BitVec 16) : signedOf 16 v.toNat = v.toInt := by
  have hv := v.isLt
  rw [signedOf, BitVec.toInt_eq_toNat_cond]
  split <;> split <;> omega
theorem sensors_getI (s : State) (i : Fin 8) : (s.puts (sensorFields temps mv)).getI (MGMT_TEMPi_TEMP i) = temps[i].toInt := by
  rw [State.getI, sensors_temp]
  exact signedOf_toNat _
theorem sensors_dieTemps (s : State) : (s.puts (sensorFields temps mv)).dieTemps = (List.finRange 8).map fun i : Fin 8 => temps[i].toInt := by
  have hrange : List.range 8 = (List.finRange 8).map Fin.val := by decide
  rw [State.dieTemps, hrange, List.map_map]
  refine List.map_congr_left fun i _ => ?_
  rw [Function.comp_apply, sensors_getI]
theorem sensors_limit (s : State) : (s.puts (sensorFields temps mv)).getI MGMT_TJ_LIMIT_LIMIT = s.getI MGMT_TJ_LIMIT_LIMIT := by
  rw [State.getI, sensors_get s (by decide), State.getI]

theorem reach_of_get {t : State} {blk : Nat} (hdom : t.get PWR_STATUS_DOMAIN_ON = s.get PWR_STATUS_DOMAIN_ON)
    (hfab : t.get SYS_CLK_STATUS_FAB_RUN = s.get SYS_CLK_STATUS_FAB_RUN) : t.reach blk = s.reach blk := by
  simp only [State.reach, State.domainOn, State.fabRuns, State.on, hdom, hfab]
theorem sensors_reach (s : State) (blk : Nat) : (s.puts (sensorFields temps mv)).reach blk = s.reach blk :=
  reach_of_get (sensors_get s (by decide)) (sensors_get s (by decide))
theorem sensors_mgmt (s : State) : (s.puts (sensorFields temps mv)).mgmt = s.mgmt := (congrArg State.mgmt (puts_butNotes s _)).trans rfl

end

/-! ### The hottest sensor -/

/-- The hotter of a sensor found and the next one. -/
def hotter (m : Nat × Int) (t : Int × Nat) : Nat × Int := if m.2 < t.1 then (t.2, t.1) else m

/-- What holds of the first found and of every sensor holds of the hottest. -/
theorem hotter_fold {P : Nat × Int → Prop} {l : List (Int × Nat)} (hl : ∀ t ∈ l, P (t.2, t.1)) : ∀ {m : Nat × Int}, P m → P (l.foldl hotter m) := by
  induction l with
  | nil => exact fun hm => hm
  | cons t l ih =>
    intro m hm
    refine ih (fun x hx => hl x (List.mem_cons_of_mem _ hx)) ?_
    rw [hotter]
    split
    · exact hl t (List.mem_cons_self ..)
    · exact hm

theorem hotter_ge (l : List (Int × Nat)) (m : Nat × Int) : m.2 ≤ (l.foldl hotter m).2 ∧ ∀ t ∈ l, t.1 ≤ (l.foldl hotter m).2 := by
  induction l generalizing m with
  | nil => exact ⟨Int.le_refl _, fun t ht => absurd ht List.not_mem_nil⟩
  | cons t l ih =>
    obtain ⟨hfirst, hrest⟩ := ih (hotter m t)
    have hstep : m.2 ≤ (hotter m t).2 ∧ t.1 ≤ (hotter m t).2 := by
      rw [hotter]
      split
      next hlt => exact ⟨Int.le_of_lt hlt, Int.le_refl _⟩
      next hge => exact ⟨Int.le_refl _, Int.not_lt.1 hge⟩
    refine ⟨Int.le_trans hstep.1 hfirst, fun x hx => ?_⟩
    rcases List.mem_cons.1 hx with rfl | hx
    · exact Int.le_trans hstep.2 hfirst
    · exact hrest x hx

theorem hottest_ge {ts : List Int} {t : Int} (h : t ∈ ts) : t ≤ (hottest ts).2 := by
  obtain ⟨i, hi⟩ := List.getElem?_of_mem h
  exact (hotter_ge ts.zipIdx (0, ts.headD 0)).2 (t, i) (List.mem_zipIdx_iff_getElem?.2 hi)
/-- The hottest sensor is one of them. -/
theorem hottest_mem {ts : List Int} (h : ts ≠ []) : ts[(hottest ts).1]? = some (hottest ts).2 := by
  refine hotter_fold (P := fun m => ts[m.1]? = some m.2) (l := ts.zipIdx) (m := (0, ts.headD 0))
    (fun t ht => List.mem_zipIdx_iff_getElem?.1 ht) ?_
  cases ts with
  | nil => exact absurd rfl h
  | cons t l => rfl

theorem hottest_le {temps : Vector (BitVec 16) 8} {lim : Int} (h : ∀ i : Fin 8, temps[i].toInt ≤ lim) :
    (hottest ((List.finRange 8).map fun i : Fin 8 => temps[i].toInt)).2 ≤ lim := by
  obtain ⟨i, -, hi⟩ := List.mem_map.1 (List.mem_of_getElem? (hottest_mem (ts := (List.finRange 8).map fun i : Fin 8 => temps[i].toInt) (by simp)))
  exact hi ▸ h i

/-- A sensor hotter than every other is the hottest. -/
theorem hottest_unique {temps : Vector (BitVec 16) 8} {i : Fin 8} (h : ∀ j : Fin 8, j ≠ i → temps[j].toInt < temps[i].toInt) :
    hottest ((List.finRange 8).map fun i : Fin 8 => temps[i].toInt) = (i.val, temps[i].toInt) := by
  have hmem := hottest_mem (ts := (List.finRange 8).map fun i : Fin 8 => temps[i].toInt) (by simp)
  have hge : temps[i].toInt ≤ (hottest ((List.finRange 8).map fun i : Fin 8 => temps[i].toInt)).2 :=
    hottest_ge (List.mem_map.2 ⟨i, List.mem_finRange i, rfl⟩)
  generalize hottest ((List.finRange 8).map fun i : Fin 8 => temps[i].toInt) = r at hmem hge ⊢
  obtain ⟨k, v⟩ := r
  have hk : k < 8 := by
    have hlt := (List.getElem?_eq_some_iff.1 hmem).1
    simpa using hlt
  have hv : temps[(⟨k, hk⟩ : Fin 8)].toInt = v := by simpa [hk] using hmem
  by_cases hki : (⟨k, hk⟩ : Fin 8) = i
  · rw [← hki]
    exact Prod.ext rfl hv.symm
  · have hlt := h _ hki
    simp only at hge
    omega

/-! ### The check against the limit -/

theorem tjHot_none {s : State} (h : s.mgmt.tjHot = none) : (s.setMgmt fun m => { m with tjHot := none }) = s := by
  have hm : { s.mgmt with tjHot := none } = s.mgmt := by rw [← h]
  show { s with mgmt := { s.mgmt with tjHot := none } } = s
  rw [hm]

theorem tjCheck_cool {s : State} (h : s.mgmt.tjHot = none) (hcool : (hottest s.dieTemps).2 ≤ s.getI MGMT_TJ_LIMIT_LIMIT) : s.tjCheck = s := by
  simp only [State.tjCheck, h, if_true, tjHot_none h, Bool.true_and]
  rw [if_neg (by simpa using hcool)]

theorem tjCheck_hot {s : State} {i : Nat} {v : Int} (h : s.mgmt.tjHot = none) (hhot : hottest s.dieTemps = (i, v))
    (hlim : s.getI MGMT_TJ_LIMIT_LIMIT < v) : s.tjCheck
      = ((s.setMgmt fun m => { m with tjHot := some i }).raise MGMT_FLAGS_TJ_LIMIT 1).logEvent 0x1407 2 (bitsOf 32 v) i := by
  simp only [State.tjCheck, h, if_true, tjHot_none h, Bool.true_and, hhot]
  rw [if_pos (by simpa using hlim)]

/-! ### DIE_SENSOR_UPDATE -/

/-- What firmware derives from readings. -/
def State.sensed (s : State) : State :=
  let s4 := if s.tjCheck.reach 16 then (s.tjCheck.calTemp 0).calTemp 1 else s.tjCheck
  if s4.reach 14 then s4.tdcCalibrate s4.tdcDrift else s4

theorem dieSensorUpdate_exec {temps : Vector (BitVec 16) 8} {mv : Vector (BitVec 16) 10} {s : State} (hdom : s.domainOn 1 = true) :
    exec (.dieSensorUpdate temps mv) s = .next (if (s.puts (sensorFields temps mv)).firmwareRuns then (s.puts (sensorFields temps mv)).sensed
      else s.puts (sensorFields temps mv)) := by
  have hputs : (List.finRange 10).foldl (fun (t : State) (i : Fin 10) => t.set (MGMT_VMONj_MV i) mv[i].toNat)
      ((List.finRange 8).foldl (fun (t : State) (i : Fin 8) => t.set (MGMT_TEMPi_TEMP i) temps[i].toNat) s) = s.puts (sensorFields temps mv) := by
    rw [sensorFields, puts_append, puts_map, puts_map]
  show execDieSensorUpdate temps mv s = _
  simp only [execDieSensorUpdate, hdom, Bool.not_true, Bool.false_eq_true, if_false, hputs]
  cases (s.puts (sensorFields temps mv)).firmwareRuns <;> rfl

theorem sensed_unreached {s : State} (h16 : s.tjCheck.reach 16 = false) (h14 : s.tjCheck.reach 14 = false) : s.sensed = s.tjCheck := by
  simp only [State.sensed, h16, h14, Bool.false_eq_true, if_false]

theorem sensors_cool {temps : Vector (BitVec 16) 8} {mv : Vector (BitVec 16) 10} {s : State} (h : s.mgmt.tjHot = none)
    (hcool : ∀ i : Fin 8, temps[i].toInt ≤ s.getI MGMT_TJ_LIMIT_LIMIT) :
    (s.puts (sensorFields temps mv)).tjCheck = s.puts (sensorFields temps mv) := by
  refine tjCheck_cool (by rw [sensors_mgmt, h]) ?_
  rw [sensors_dieTemps, sensors_limit]
  exact hottest_le hcool

theorem sensors_only (temps : Vector (BitVec 16) 8) (mv : Vector (BitVec 16) 10) (s : State) :
    Only sensorF s s (s.puts (sensorFields temps mv)) :=
  Only.of_puts (l := sensorFields temps mv) rfl (puts_butNotes s _)

theorem dieSensorUpdate_holds : Claim.dieSensorUpdate := by
  rintro s temps mv ⟨hdom, hnone, h16, h14, hcool⟩
  have hexec : exec (.dieSensorUpdate temps mv) s = .next (s.puts (sensorFields temps mv)) := by
    have hcheck := sensors_cool (mv := mv) hnone hcool
    rw [dieSensorUpdate_exec hdom, sensed_unreached (by rw [hcheck, sensors_reach, h16]) (by rw [hcheck, sensors_reach, h14]), hcheck, ite_self]
  exact ⟨_, hexec, sensors_temp s, sensors_mv s, sensors_only temps mv s⟩

theorem sensors_firmware {temps : Vector (BitVec 16) 8} {mv : Vector (BitVec 16) 10} {s : State} (hdom : s.domainOn 1 = true)
    (hphase : s.get MGMT_STATUS_PHASE = 4) : (s.puts (sensorFields temps mv)).firmwareRuns = true := by
  have hdom' : (s.puts (sensorFields temps mv)).domainOn 1 = true := by
    rw [State.domainOn, sensors_get s (by decide), ← State.domainOn, hdom]
  exact firmwareRuns_ready hdom' ((sensors_get s (by decide)).trans hphase)

theorem dieSensorHot_holds : Claim.dieSensorHot := by
  rintro s temps mv i ⟨hdom, hphase, hnone, h16, h14, hhot, hother⟩
  generalize hu : s.puts (sensorFields temps mv) = u
  have hexec0 := dieSensorUpdate_exec (temps := temps) (mv := mv) hdom
  have hfw := sensors_firmware (temps := temps) (mv := mv) hdom hphase
  have honly := sensors_only temps mv s
  have htemp := sensors_temp (temps := temps) (mv := mv) s
  have hcheck := tjCheck_hot (s := s.puts (sensorFields temps mv)) (i := i.val) (v := temps[i].toInt) (by rw [sensors_mgmt, hnone])
    (by rw [sensors_dieTemps]; exact hottest_unique hother) (by rw [sensors_limit]; exact hhot)
  rw [hu] at hexec0 hfw honly htemp hcheck
  generalize hv : (u.setMgmt fun m => { m with tjHot := some i.val }).raise MGMT_FLAGS_TJ_LIMIT 1 = v at hcheck
  have hraised : SameRegs [MGMT_FLAGS_TJ_LIMIT] u v := by
    rw [← hv]
    exact (((SameRegs.refl _ u).of_regs (u := u.setMgmt fun m => { m with tjHot := some i.val }) rfl).set (.head _) _).of_regs rfl
  have hflag : v.get MGMT_FLAGS_TJ_LIMIT = 1 := by
    rw [← hv]
    exact get_raise_flag rfl
  have hmgmt : v.mgmt.tjHot = some i.val := by
    rw [← hv]
    rfl
  have hkept : v.mem = u.mem ∧ v.flash = u.flash ∧ v.hk = u.hk := by
    rw [← hv]
    exact ⟨rfl, rfl, rfl⟩
  obtain ⟨hmem, hflash, hhk⟩ := hkept
  have hlog := logEvent_logged (s := v) ((hraised _ (by decide)).trans ((honly.1 _ (by decide)).trans hphase)) 0x1407 2 (bitsOf 32 temps[i].toInt) i.val
  generalize v.logEvent _ _ _ _ = t at hcheck hlog
  have hall : SameRegs (sensorF ++ MGMT_FLAGS_TJ_LIMIT :: logF) s t :=
    (honly.1.mono (List.subset_append_left _ _)).trans ((hraised.mono fun f hf => List.mem_append_right _ (List.mem_singleton.1 hf ▸ .head _)).trans
      (hlog.beside.1.mono fun f hf => List.mem_append_right _ (.tail _ hf)))
  have hreach (blk : Nat) : t.reach blk = s.reach blk := reach_of_get (hall _ (by decide)) (hall _ (by decide))
  have hexec : exec (.dieSensorUpdate temps mv) s = .next t := by
    rw [hexec0, hfw, if_pos rfl, sensed_unreached (by rw [hcheck, hreach, h16]) (by rw [hcheck, hreach, h14]), hcheck]
  have hkeys : ∀ j : Fin 8, (MGMT_TEMPi_TEMP j).key ∉ logF.map Fld.key ∧ (MGMT_TEMPi_TEMP j).key ∉ [MGMT_FLAGS_TJ_LIMIT].map Fld.key := by decide
  refine ⟨t, hexec, (hlog.beside.1 _ (by decide)).trans hflag, (congrArg MgmtRun.tjHot hlog.mgmt).trans hmgmt, ?_, fun j => ?_, ?_,
    fun a ha => (hlog.ring a ha).trans ?_, ?_, ?_⟩
  · rw [hlog.seq, hraised _ (by decide), honly.1 _ (by decide)]
  · rw [hlog.beside.1 _ (hkeys j).1, hraised _ (hkeys j).2, htemp]
  · exact hall
  · rw [hmem, honly.2]
  · exact (hlog.kept State.flash fun _ _ => rfl).trans (hflash.trans ((congrArg State.flash honly.2).trans rfl))
  · exact (hlog.kept State.hk fun _ _ => rfl).trans (hhk.trans ((congrArg State.hk honly.2).trans rfl))

end Sys2Proof.Machine
end

section
/-! SUPPORT. Interpolators that die sensor 5 has left (R407), the sensors of the DRAM modules (R359, R375), and SENSOR_READ and
MGMT_STATUS (R365). -/

namespace Sys2Proof.Machine
open Reg

/-! ### Interpolators to calibrate -/

/-- The sum of the powers of two at the places of a predicate has a bit just there. -/
theorem sum_powers_lt (p : Nat → Prop) [DecidablePred p] (n : Nat) : ((List.range n).map fun i => if p i then 2 ^ i else 0).sum < 2 ^ n := by
  induction n with
  | zero => exact Nat.one_pos
  | succ n ih =>
    rw [List.range_succ, List.map_append, List.sum_append, Nat.pow_succ]
    simp only [List.map_cons, List.map_nil, List.sum_cons, List.sum_nil]
    split <;> omega
theorem sum_powers_testBit (p : Nat → Prop) [DecidablePred p] {n j : Nat} (hj : j < n) :
    ((List.range n).map fun i => if p i then 2 ^ i else 0).sum.testBit j = decide (p j) := by
  induction n with
  | zero => exact absurd hj (Nat.not_lt_zero j)
  | succ n ih =>
    have hlt := sum_powers_lt p n
    rw [List.range_succ, List.map_append, List.sum_append, Nat.add_comm]
    simp only [List.map_cons, List.map_nil, List.sum_cons, List.sum_nil, Nat.add_zero]
    by_cases hlast : j = n
    · subst hlast
      split
      next hp => rw [Nat.testBit_two_pow_add_eq, Nat.testBit_lt_two_pow hlt, decide_eq_true hp, Bool.not_false]
      next hp => rw [Nat.zero_add, Nat.testBit_lt_two_pow hlt, decide_eq_false hp]
    · split
      · rw [Nat.testBit_two_pow_add_gt (by omega), ih (by omega)]
      · rw [Nat.zero_add, ih (by omega)]

section
variable {temps : Vector (BitVec 16) 8} {mv : Vector (BitVec 16) 10} {s : State}

theorem sensors_grp (s : State) : (s.puts (sensorFields temps mv)).grp = s.grp := (congrArg State.grp (puts_butNotes s _)).trans rfl
theorem sensors_on (s : State) {g : Fld} (h : g.key < (MGMT_TEMPi_TEMP 0).key) : (s.puts (sensorFields temps mv)).on g = s.on g := by
  rw [State.on, sensors_get s h, State.on]

/-- The fields that tell whether an interpolator is in use lie below the readings (R406). -/
theorem ipInUse_keys : ∀ i : Fin 9, (TDC_CHn_CTRL_MODE i).key < (MGMT_TEMPi_TEMP 0).key ∧ (TDC_CHn_STAT_OWNER i).key < (MGMT_TEMPi_TEMP 0).key
    ∧ (SEQ_CTRL_LMON_EN (i.val - 5)).key < (MGMT_TEMPi_TEMP 0).key ∧ (SEQ_STATUS_STATE (i.val - 5)).key < (MGMT_TEMPi_TEMP 0).key
    ∧ (TDC_CALTEMPi_TEMP i).key < (MGMT_TEMPi_TEMP 0).key := by decide
theorem groupEn_keys : ∀ g : Fin 8, (LINK_GRPn_CTRL_EN g).key < (MGMT_TEMPi_TEMP 0).key := by decide

theorem sensors_ipInUse (s : State) (i : Fin 9) : (s.puts (sensorFields temps mv)).ipInUse i = s.ipInUse i := by
  obtain ⟨hmode, howner, hmon, hstate, -⟩ := ipInUse_keys i
  have hgroups : (s.puts (sensorFields temps mv)).groupsOff = s.groupsOff := by
    simp only [State.groupsOff, State.grpOn, sensors_grp, sensors_on s (groupEn_keys _)]
  simp only [State.ipInUse, State.tdcMode, State.tdcOwner, State.allIdle, State.seqState, hgroups, sensors_get s hmode, sensors_get s howner,
    sensors_on s hmon, sensors_get s hstate, sensors_on s (g := SEQ_REF_CTRL_SRC) (by decide),
    sensors_get s (g := SEQ_STATUS_STATE 0) (by decide), sensors_get s (g := SEQ_STATUS_STATE 1) (by decide)]

/-- Die sensor 5 has left an interpolator by 10 K or more, and it may be calibrated (R406, R407). -/
def State.drifted (s : State) (t : Int) (i : Nat) : Bool := decide (100 ≤ (t - s.getI (TDC_CALTEMPi_TEMP i)).natAbs) && !s.ipInUse i

theorem sensors_drift (s : State) (i : Fin 9) : (s.puts (sensorFields temps mv)).tdcDrift.testBit i.val
    = (s.drifted temps[5].toInt i && !(s.get TDC_STATUS_CAL_BUSY).testBit i.val) := by
  obtain ⟨-, -, -, -, hcal⟩ := ipInUse_keys i
  have hcalI : (s.puts (sensorFields temps mv)).getI (TDC_CALTEMPi_TEMP i) = s.getI (TDC_CALTEMPi_TEMP i) := by
    rw [State.getI, sensors_get s hcal, State.getI]
  have htemp : (s.puts (sensorFields temps mv)).getI (MGMT_TEMPi_TEMP 5) = temps[5].toInt := sensors_getI s 5
  rw [State.tdcDrift, sum_powers_testBit _ i.isLt, htemp, hcalI, sensors_ipInUse, sensors_get s (g := TDC_STATUS_CAL_BUSY) (by decide), State.drifted]
  simp only [Bool.decide_and, Bool.and_assoc, Bool.decide_eq_true]

theorem dieSensorDrift_holds : Claim.dieSensorDrift := by
  rintro s temps mv ⟨hdom, hphase, hnone, h14, hcool, hauto0, hauto1⟩
  have hcheck := sensors_cool (mv := mv) hnone hcool
  have hmanual : ((s.puts (sensorFields temps mv)).calTemp 0).calTemp 1 = s.puts (sensorFields temps mv) := by
    rw [calTemp_manual (f := 0) ((sensors_get s (by decide)).trans hauto0), calTemp_manual (f := 1) ((sensors_get s (by decide)).trans hauto1)]
  have hexec : exec (.dieSensorUpdate temps mv) s
      = .next ((s.puts (sensorFields temps mv)).tdcCalibrate (s.puts (sensorFields temps mv)).tdcDrift) := by
    rw [dieSensorUpdate_exec hdom, sensors_firmware hdom hphase, if_pos rfl]
    simp only [State.sensed, hcheck, hmanual, ite_self, sensors_reach, h14, if_true]
  refine ⟨_, hexec, fun i => ?_, ?_⟩
  · have hget : ((s.puts (sensorFields temps mv)).tdcCalibrate (s.puts (sensorFields temps mv)).tdcDrift).get TDC_STATUS_CAL_BUSY
        = ((s.puts (sensorFields temps mv)).get TDC_STATUS_CAL_BUSY ||| (s.puts (sensorFields temps mv)).tdcDrift) % 2 ^ 9 :=
      State.get_set_same _ _ _
    have hi := i.isLt
    rw [hget, Nat.testBit_mod_two_pow, decide_eq_true hi, Bool.true_and, Nat.testBit_or, sensors_drift, sensors_get s (by decide)]
    show _ = ((s.get TDC_STATUS_CAL_BUSY).testBit i.val || s.drifted temps[5].toInt i)
    cases (s.get TDC_STATUS_CAL_BUSY).testBit i.val
    · rw [Bool.not_false, Bool.and_true]
    · rfl
  · exact ((sensors_only temps mv s).mono (List.subset_append_left _ [TDC_STATUS_CAL_BUSY])).set (List.mem_append_right _ (.head _)) _

end

/-! ### The sensors of the modules -/

/-- Where a channel's reading is kept, and what is kept of it (R359). -/
def moduleF (ch : Chan) : Fld := if ch = 0 then MGMT_DRAM_TEMP_DA else MGMT_DRAM_TEMP_DB
def moduleValue (r : Option (BitVec 16)) : Nat := match r with | some v => v.toNat | none => 0x8000
/-- A reading noted, with I2C_FAIL where the module does not answer. -/
def State.moduleNoted (s : State) (ch : Chan) (r : Option (BitVec 16)) : State :=
  if r.isNone then (s.set (moduleF ch) (moduleValue r)).raise MGMT_FLAGS_I2C_FAIL 1 else s.set (moduleF ch) (moduleValue r)

theorem moduleRead_eq (s : State) (ch : Chan) (r : Option (BitVec 16)) : s.moduleRead ch r
    = if (s.moduleNoted ch r).reach 12 then (s.moduleNoted ch r).dramTemp ch (moduleValue r) else s.moduleNoted ch r := rfl

theorem moduleValue_lt (r : Option (BitVec 16)) : moduleValue r < 2 ^ 16 := by
  cases r with
  | none => decide
  | some v => exact v.isLt
theorem moduleF_keys : ∀ ch : Chan, (moduleF ch).w = 16 ∧ (moduleF ch).key ≠ MGMT_FLAGS_I2C_FAIL.key ∧ MGMT_FLAGS_I2C_FAIL.key ≠ (moduleF ch).key
    ∧ PWR_STATUS_DOMAIN_ON.key ∉ [moduleF ch, MGMT_FLAGS_I2C_FAIL].map Fld.key ∧ SYS_CLK_STATUS_FAB_RUN.key ∉ [moduleF ch, MGMT_FLAGS_I2C_FAIL].map Fld.key
    ∧ (DRAMC_CONFIG_EN 1).key ∉ [moduleF ch, MGMT_FLAGS_I2C_FAIL].map Fld.key ∧ (DRAMC_CHSTAT_HOT 1).key ∉ [moduleF ch, MGMT_FLAGS_I2C_FAIL].map Fld.key := by
  decide

theorem moduleNoted_only {fs : List Fld} {s t : State} (h : Only fs s s t) (ch : Chan) (r : Option (BitVec 16)) (hf : moduleF ch ∈ fs)
    (hfail : MGMT_FLAGS_I2C_FAIL ∈ fs) : Only fs s s (t.moduleNoted ch r) := by
  unfold State.moduleNoted
  split
  · exact (h.set hf _).raise hfail 1
  · exact h.set hf _
theorem moduleNoted_own (s : State) (ch : Chan) (r : Option (BitVec 16)) :
    Only [moduleF ch, MGMT_FLAGS_I2C_FAIL] s s (s.moduleNoted ch r) :=
  moduleNoted_only (.refl _ s) ch r (.head _) (.tail _ (.head _))

theorem moduleNoted_value (s : State) (ch : Chan) (r : Option (BitVec 16)) : (s.moduleNoted ch r).get (moduleF ch) = moduleValue r := by
  obtain ⟨hwidth, hkey, -⟩ := moduleF_keys ch
  have hset : (s.set (moduleF ch) (moduleValue r)).get (moduleF ch) = moduleValue r := by
    rw [State.get_set_same, hwidth]
    exact Nat.mod_eq_of_lt (moduleValue_lt r)
  unfold State.moduleNoted
  split
  · exact (State.get_set_ne _ hkey _).trans hset
  · exact hset
theorem moduleNoted_fail (s : State) (ch : Chan) (r : Option (BitVec 16)) :
    (s.moduleNoted ch r).get MGMT_FLAGS_I2C_FAIL = if r.isNone then 1 else s.get MGMT_FLAGS_I2C_FAIL := by
  obtain ⟨-, -, hkey, -⟩ := moduleF_keys ch
  unfold State.moduleNoted
  split
  · exact get_raise_flag rfl
  · exact State.get_set_ne _ hkey _
theorem moduleNoted_reach (s : State) (ch : Chan) (r : Option (BitVec 16)) (blk : Nat) : (s.moduleNoted ch r).reach blk = s.reach blk := by
  obtain ⟨-, -, -, hdom, hfab, -⟩ := moduleF_keys ch
  exact reach_of_get ((moduleNoted_own s ch r).1 _ hdom) ((moduleNoted_own s ch r).1 _ hfab)

theorem dramSensorRead_holds : Claim.dramSensorRead := by
  rintro s a b ⟨hdom, hphase, hen0, hen1, hreach⟩
  obtain ⟨-, -, -, -, -, hen, -⟩ := moduleF_keys 0
  have hread (u : State) (hu : u.reach 12 = false) (ch : Chan) (r : Option (BitVec 16)) : u.moduleRead ch r = u.moduleNoted ch r := by
    rw [moduleRead_eq, moduleNoted_reach, hu]
    rfl
  have hon : (s.moduleNoted 0 a).on (DRAMC_CONFIG_EN 1) = true := on_of_get_one (((moduleNoted_own s 0 a).1 _ hen).trans hen1)
  have hexec : exec (.dramSensorRead a b) s = .next ((s.moduleNoted 0 a).moduleNoted 1 b) := by
    show execDramSensorRead a b s = _
    simp only [execDramSensorRead, firmwareRuns_ready hdom hphase, Bool.not_true, Bool.false_eq_true, if_false, on_of_get_one hen0, if_true,
      hread s hreach, hon, hread _ ((moduleNoted_reach s 0 a 12).trans hreach)]
  have hfail : ((s.moduleNoted 0 a).moduleNoted 1 b).get MGMT_FLAGS_I2C_FAIL
      = if b.isNone then 1 else if a.isNone then 1 else s.get MGMT_FLAGS_I2C_FAIL := by
    rw [moduleNoted_fail, moduleNoted_fail]
  refine ⟨_, hexec, ?_, moduleNoted_value _ 1 b, fun hnone => ?_, fun ha hb => ?_,
    moduleNoted_only (moduleNoted_only (.refl _ s) 0 a (.head _) (.tail _ (.tail _ (.head _)))) 1 b (.tail _ (.head _)) (.tail _ (.tail _ (.head _)))⟩
  · exact ((moduleNoted_own _ 1 b).1 MGMT_DRAM_TEMP_DA (by decide)).trans (moduleNoted_value s 0 a)
  · rw [hfail]
    rcases hnone with rfl | rfl
    · simp
    · rfl
  · obtain ⟨x, rfl⟩ := Option.ne_none_iff_exists'.1 ha
    obtain ⟨y, rfl⟩ := Option.ne_none_iff_exists'.1 hb
    exact hfail

/-- A reading of at most 77.0 °C is registered, and the channel is not hot (R375). -/
theorem dramTemp_cool {s : State} {ch : Chan} {v : BitVec 16} (hcool : v.toInt ≤ 770) (hv : v ≠ 0x8000) : s.dramTemp ch v.toNat
    = (((s.set (DRAMC_TEMP_TEMP ch) v.toNat).setDram ch fun d => { d with tempAt := s.cyc }).set (DRAMC_CHSTAT_HOT ch) 0).set (hotF ch) 0 := by
  have hne : v.toNat ≠ 0x8000 := fun h => hv (BitVec.eq_of_toNat_eq h)
  simp only [State.dramTemp, signedOf_toNat]
  rw [if_neg hne, if_neg (show ¬ 800 ≤ v.toInt by omega), if_pos hcool, if_neg (show ¬ 950 ≤ v.toInt by omega)]

theorem dramSensorPassed_holds : Claim.dramSensorPassed := by
  rintro s v ⟨hdom, hphase, hen0, hen1, hreach, hcool, hv, hhot⟩
  have hnoted : (s.moduleNoted 1 (some v)).reach 12 = true := (moduleNoted_reach s 1 (some v) 12).trans hreach
  have hexec : exec (.dramSensorRead none (some v)) s = .next ((s.moduleNoted 1 (some v)).dramTemp 1 v.toNat) := by
    show execDramSensorRead none (some v) s = _
    simp only [execDramSensorRead, firmwareRuns_ready hdom hphase, Bool.not_true, Bool.false_eq_true, if_false, off_of_get_zero hen0,
      on_of_get_one hen1, if_true, moduleRead_eq, hnoted]
    rfl
  rw [dramTemp_cool hcool hv] at hexec
  have hvalue : (s.moduleNoted 1 (some v)).get MGMT_DRAM_TEMP_DB = v.toNat := moduleNoted_value s 1 (some v)
  have hother : (s.moduleNoted 1 (some v)).get MGMT_DRAM_TEMP_DA = s.get MGMT_DRAM_TEMP_DA := (moduleNoted_own s 1 (some v)).1 _ (by decide)
  generalize s.moduleNoted 1 (some v) = u at hexec hvalue hother
  have hregs : SameRegs [DRAMC_TEMP_TEMP 1, DRAMC_CHSTAT_HOT 1, hotF 1] u ((((u.set (DRAMC_TEMP_TEMP 1) v.toNat).setDram 1 fun d =>
      { d with tempAt := u.cyc }).set (DRAMC_CHSTAT_HOT 1) 0).set (hotF 1) 0) :=
    ((((SameRegs.refl _ u).set (.head _) _).of_regs (u := (u.set (DRAMC_TEMP_TEMP 1) v.toNat).setDram 1 fun d => { d with tempAt := u.cyc }) rfl).set
      (.tail _ (.head _)) 0).set (.tail _ (.tail _ (.head _))) 0
  refine ⟨_, hexec, (hregs _ (by decide)).trans hvalue, ?_, (hregs _ (by decide)).trans hother, ?_⟩
  · refine (State.get_set_ne _ (by decide) 0).trans ((State.get_set_ne _ (by decide) 0).trans ?_)
    exact (State.get_set_same u (DRAMC_TEMP_TEMP 1) v.toNat).trans (Nat.mod_eq_of_lt v.isLt)
  · exact (State.get_set_ne _ (by decide) 0).trans (State.get_set_same _ _ 0)

/-! ### Opcodes that read -/

theorem sensorRead_holds : Claim.sensorRead := by
  rintro c s ⟨hready, hwords⟩
  have hjudge : s.judge 0xAA 20 (fun _ => []) sensorReadBody c = .done stOk
      ((List.range 8).map (fun i => s.get (MGMT_TEMPi_TEMP i)) ++ (List.range 10).map (fun i => s.get (MGMT_VMONj_MV i)) ++ [s.rawReg 20 0x68]) s := by
    rw [judge_ready hready (by rw [hwords]; exact paramsOk_nil)]
    rfl
  exact ⟨_, rfl, runCmd_unchanged hjudge (by decide) (by decide)⟩

theorem mgmtStatus_holds : Claim.mgmtStatus := by
  rintro c s ⟨hready, hwords, hvalid, hbad⟩
  have ha : s.imageIds 0 = [s.imageWord 0 3, s.imageWord 0 4] := if_pos (on_of_get_one (g := imgValidF 0) hvalid)
  have hb : s.imageIds 1 = [0, 0] := if_neg (by rw [off_of_get_zero (g := imgValidF 1) hbad]; exact Bool.false_ne_true)
  have hjudge : s.judge 0xA0 20 (fun _ => []) mgmtStatusBody c = .done stOk
      [s.rawReg 20 0, s.rawReg 20 4, s.imageWord 0 3, s.imageWord 0 4, 0, 0, (s.mgmt.record.getD 1 0).toNat] s := by
    rw [judge_ready hready (by rw [hwords]; exact paramsOk_nil), mgmtStatusBody, State.mgmtData, ha, hb]
    rfl
  exact ⟨_, rfl, runCmd_unchanged hjudge (by decide) (by decide)⟩

end Sys2Proof.Machine
end

section
/-! SUPPORT. Coil temperatures (R423, R429): the accumulators of a coil are read with clearing, and the temperature of their ratio is
written. -/

namespace Sys2Proof.Machine
open Reg

/-! ### An accumulator read with clearing (R423) -/

/-- What a read with clearing writes: the latched sums and extremes, the count and FULL. -/
def takenF (i : Nat) : List Fld :=
  [HK_ACCa_SUM_LO_SUM i, HK_ACCa_SUM_HI_SUM i, HK_ACCa_MIN_MIN i, HK_ACCa_MAX_MAX i, HK_ACCa_CNT_CNT i, HK_ACCa_CTRL_FULL i]
/-- An accumulator read and cleared. -/
def State.accRead (s : State) (a : Fin 72) : State := (s.accLatch a).accClear a
/-- Accumulator `i` read and cleared, where there is one. -/
def State.accTaken (s : State) (i : Nat) : State := if i < 72 then s.accRead (Fin.ofNat 72 i) else s

theorem taken_keys {i : Nat} {f : Fld} (h : f ∈ takenF i) : key 15 (0x1000 + 0x20 * i) 0 ≤ f.key ∧ f.key < key 15 (0x1020 + 0x20 * i) 0 := by
  simp only [takenF, List.mem_cons, List.not_mem_nil, or_false] at h
  simp only [key]
  rcases h with rfl | rfl | rfl | rfl | rfl | rfl <;>
    simp only [HK_ACCa_SUM_LO_SUM, HK_ACCa_SUM_HI_SUM, HK_ACCa_MIN_MIN, HK_ACCa_MAX_MAX, HK_ACCa_CNT_CNT, HK_ACCa_CTRL_FULL, key] <;> omega
/-- A field outside an accumulator's registers is none of those. -/
theorem taken_notMem {i : Nat} {g : Fld} (h : g.key < key 15 (0x1000 + 0x20 * i) 0 ∨ key 15 (0x1020 + 0x20 * i) 0 ≤ g.key) :
    g.key ∉ (takenF i).map Fld.key := fun hm => by
  obtain ⟨f, hf, hkey⟩ := List.mem_map.1 hm
  have := taken_keys hf
  omega

section
variable {s t : State}

theorem setHk_regs (s : State) (g : HkRun → HkRun) : (s.setHk g).regs = s.regs := rfl
theorem setAccs_noted (h : t = butNotes { s with hk := { s.hk with accs := t.hk.accs } } t) (a : Fin 72) (x : HkAcc) :
    (t.setHk fun r => { r with accs := r.accs.set a x }) = butNotes { s with hk := { s.hk with accs :=
      (t.setHk fun r => { r with accs := r.accs.set a x }).hk.accs } } (t.setHk fun r => { r with accs := r.accs.set a x }) :=
  congrArg (fun u : State => u.setHk fun r => { r with accs := r.accs.set a x }) h

/-- What a read latches, and what a clear stores. -/
def latchFields (v : HkAcc) (i : Nat) : List (Fld × Nat) :=
  [(HK_ACCa_SUM_LO_SUM i, bitsOf 64 v.sum), (HK_ACCa_SUM_HI_SUM i, bitsOf 64 v.sum / 2 ^ 32), (HK_ACCa_MIN_MIN i, bitsOf 32 v.mn),
    (HK_ACCa_MAX_MAX i, bitsOf 32 v.mx)]
def clearFields (i n : Nat) : List (Fld × Nat) := [(HK_ACCa_CNT_CNT i, n), (HK_ACCa_CTRL_FULL i, 0)]
theorem accLatch_eq (s : State) (a : Fin 72) : s.accLatch a = s.puts (latchFields s.hk.accs[a] a) := rfl
theorem accClear_eq (s : State) (a : Fin 72) : ∃ n x, s.accClear a
    = (s.puts (clearFields a n)).setHk fun r => { r with accs := r.accs.set a x } := by
  unfold State.accClear
  split
  · exact ⟨_, _, rfl⟩
  · exact ⟨_, _, rfl⟩

theorem accTaken_none {i : Nat} (h : 72 ≤ i) (s : State) : s.accTaken i = s := if_neg (Nat.not_lt.2 h)
theorem accTaken_eq {i : Nat} (h : i < 72) (s : State) : s.accTaken i = s.accRead (Fin.ofNat 72 i) := if_pos h
theorem ofNat_val {i : Nat} (h : i < 72) : (Fin.ofNat 72 i).val = i := Nat.mod_eq_of_lt h

theorem puts_hk (s : State) (l : List (Fld × Nat)) : (s.puts l).hk = s.hk := (congrArg State.hk (puts_butNotes s l)).trans rfl
theorem puts_noted (h : t = butNotes { s with hk := { s.hk with accs := t.hk.accs } } t) (l : List (Fld × Nat)) :
    t.puts l = butNotes { s with hk := { s.hk with accs := (t.puts l).hk.accs } } (t.puts l) := by
  rw [puts_hk]
  exact (puts_butNotes t l).trans ((congrArg (fun u : State => butNotes u (t.puts l)) h).trans rfl)

/-- A read with clearing leaves everything but the registers and the accumulators. -/
theorem accTaken_noted (h : t = butNotes { s with hk := { s.hk with accs := t.hk.accs } } t) (i : Nat) :
    t.accTaken i = butNotes { s with hk := { s.hk with accs := (t.accTaken i).hk.accs } } (t.accTaken i) := by
  by_cases hi : i < 72
  · rw [accTaken_eq hi, State.accRead]
    obtain ⟨n, x, hclear⟩ := accClear_eq (t.accLatch (Fin.ofNat 72 i)) (Fin.ofNat 72 i)
    rw [hclear, accLatch_eq]
    exact setAccs_noted (puts_noted (puts_noted h _) _) _ _
  · rw [accTaken_none (by omega)]
    exact h

theorem accRead_regs (s : State) (a : Fin 72) : SameRegs (takenF a) s (s.accRead a) := by
  obtain ⟨n, x, hclear⟩ := accClear_eq (s.accLatch a) a
  rw [State.accRead, hclear, accLatch_eq, ← puts_append]
  exact (sameRegs_puts s (latchFields s.hk.accs[a] a ++ clearFields a n)).of_regs (setHk_regs _ _)
theorem accTaken_regs (s : State) (i : Nat) : SameRegs (takenF i) s (s.accTaken i) := by
  by_cases hi : i < 72
  · have h := accRead_regs s (Fin.ofNat 72 i)
    rw [ofNat_val hi] at h
    rw [accTaken_eq hi]
    exact h
  · rw [accTaken_none (by omega)]
    exact .refl _ s

/-- Without a result of the same clk_mgmt cycle the accumulator is as it stands (R423). -/
theorem accBefore_quiet {a : Fin 72} (h : ((s.hk.accs[a]).was.map (·.1)) ≠ some (s.cyc / 2)) : s.accBefore a = (none, s) := by
  unfold State.accBefore
  split
  next c v lo hi hwas =>
    have hc : c ≠ s.cyc / 2 := fun hc => h (by rw [hwas, Option.map_some, hc])
    rw [if_neg hc]
  next => rfl

theorem cnt_ne_full (i : Nat) : (HK_ACCa_CNT_CNT i).key ≠ (HK_ACCa_CTRL_FULL i).key := by
  simp only [HK_ACCa_CNT_CNT, HK_ACCa_CTRL_FULL, key]
  omega

/-- A read with clearing, without a result of the same cycle, leaves count and sum 0 and the other accumulators as they were. -/
theorem accRead_quiet {a : Fin 72} (h : ((s.hk.accs[a]).was.map (·.1)) ≠ some (s.cyc / 2)) :
    (s.accRead a).get (HK_ACCa_CNT_CNT a) = 0 ∧ (s.accRead a).hk.accs = s.hk.accs.set a HkAcc.init := by
  have hbefore : (s.accLatch a).accBefore a = (none, s.accLatch a) := accBefore_quiet h
  have hclear : s.accRead a = (((s.accLatch a).set (HK_ACCa_CNT_CNT a) 0).set (HK_ACCa_CTRL_FULL a) 0).setHk fun r =>
      { r with accs := r.accs.set a HkAcc.init } := by
    rw [State.accRead, State.accClear, hbefore]
  have hcnt : (((s.accLatch a).set (HK_ACCa_CNT_CNT a) 0).set (HK_ACCa_CTRL_FULL a) 0).get (HK_ACCa_CNT_CNT a) = 0 :=
    (State.get_set_ne _ (cnt_ne_full a) 0).trans ((State.get_set_same _ _ 0).trans (Nat.zero_mod _))
  rw [hclear]
  exact ⟨(get_of_regs (setHk_regs _ _) _).trans hcnt, rfl⟩
theorem accTaken_quiet {i : Nat} (hi : i < 72) (h : ((s.hk.accs[Fin.ofNat 72 i]).was.map (·.1)) ≠ some (s.cyc / 2)) :
    (s.accTaken i).get (HK_ACCa_CNT_CNT i) = 0 ∧ (s.accTaken i).hk.accs = s.hk.accs.set (Fin.ofNat 72 i) HkAcc.init := by
  obtain ⟨hcnt, haccs⟩ := accRead_quiet h
  rw [ofNat_val hi] at hcnt
  rw [accTaken_eq hi]
  exact ⟨hcnt, haccs⟩

end

/-! ### One coil -/

/-- The temperature that a coil's accumulators give, none where there is none (R429). -/
def State.coilTemp (s : State) (c : Nat) : Option Int :=
  let a := s.get (HK_COILc_MAP_RTD_ACC c)
  let inj := decide (64 ≤ a)
  if (s.get HK_RTD_STAT_FAULT).testBit (s.hkHalf inj (if inj then (a - 64) / 2 else a / 2) (a % 2)).exc then none else (s.coilRatio c).bind platinumTemp
/-- Both accumulators of a coil read and cleared. -/
def State.coilTaken (s : State) (c : Nat) : State := (s.accTaken (s.get (HK_COILc_MAP_RTD_ACC c))).accTaken (s.get (HK_COILc_MAP_REF_ACC c))

theorem coilUpdate_some {s : State} {c : Nat} {v : Int} (h : s.coilTemp c = some v) : s.coilUpdate c
    = ((s.coilTaken c).set (BRIL_COILk_T_TEMP (c / 2) (c % 2)) (bitsOf 24 v)).set (BRIL_COILk_T_VALID (c / 2) (c % 2)) 1 := by
  have heq : s.coilUpdate c = match s.coilTemp c with
      | some v => ((s.coilTaken c).set (BRIL_COILk_T_TEMP (c / 2) (c % 2)) (bitsOf 24 v)).set (BRIL_COILk_T_VALID (c / 2) (c % 2)) 1
      | none => (s.coilTaken c).set (BRIL_COILk_T_VALID (c / 2) (c % 2)) 0 := rfl
  rw [heq, h]
theorem coilUpdate_none {s : State} {c : Nat} (h : s.coilTemp c = none) : s.coilUpdate c
    = (s.coilTaken c).set (BRIL_COILk_T_VALID (c / 2) (c % 2)) 0 := by
  have heq : s.coilUpdate c = match s.coilTemp c with
      | some v => ((s.coilTaken c).set (BRIL_COILk_T_TEMP (c / 2) (c % 2)) (bitsOf 24 v)).set (BRIL_COILk_T_VALID (c / 2) (c % 2)) 1
      | none => (s.coilTaken c).set (BRIL_COILk_T_VALID (c / 2) (c % 2)) 0 := rfl
  rw [heq, h]

theorem coilTaken_noted (s : State) (c : Nat) :
    s.coilTaken c = butNotes { s with hk := { s.hk with accs := (s.coilTaken c).hk.accs } } (s.coilTaken c) :=
  accTaken_noted (accTaken_noted (t := s) rfl _) _

/-- A register below the accumulators is kept. -/
theorem coilTaken_get (s : State) (c : Nat) {g : Fld} (h : g.key < key 15 0x1000 0) : (s.coilTaken c).get g = s.get g := by
  have hlow (i : Nat) : g.key < key 15 (0x1000 + 0x20 * i) 0 := by
    simp only [key] at h ⊢
    omega
  exact (accTaken_regs _ _ g (taken_notMem (.inl (hlow _)))).trans (accTaken_regs _ _ g (taken_notMem (.inl (hlow _))))

theorem coil_keys : ∀ k j : Fin 4, (HK_COILc_MAP_EN j).key < key 15 0x1000 0
    ∧ (HK_COILc_MAP_EN j).key ≠ (BRIL_COILk_T_TEMP (k.val / 2) (k.val % 2)).key
    ∧ (HK_COILc_MAP_EN j).key ≠ (BRIL_COILk_T_VALID (k.val / 2) (k.val % 2)).key
    ∧ (BRIL_COILk_T_TEMP (k.val / 2) (k.val % 2)).key ≠ (BRIL_COILk_T_VALID (k.val / 2) (k.val % 2)).key
    ∧ (BRIL_COILk_T_TEMP (k.val / 2) (k.val % 2)).key < key 15 0x1000 0
    ∧ (BRIL_COILk_T_VALID (k.val / 2) (k.val % 2)).key < key 15 0x1000 0 := by decide

theorem coilUpdate_enable (s : State) (k j : Fin 4) : (s.coilUpdate k).get (HK_COILc_MAP_EN j) = s.get (HK_COILc_MAP_EN j) := by
  obtain ⟨hlow, htemp, hvalid, -⟩ := coil_keys k j
  cases h : s.coilTemp k with
  | none =>
    rw [coilUpdate_none h]
    exact (State.get_set_ne _ hvalid 0).trans (coilTaken_get s k hlow)
  | some v =>
    rw [coilUpdate_some h]
    exact (State.get_set_ne _ hvalid 1).trans ((State.get_set_ne _ htemp _).trans (coilTaken_get s k hlow))

/-- Of four steps just one acts. -/
theorem foldl_four_one {g : State → Nat → State} {s t : State} (k : Fin 4) (hk : g s k = t) (hbefore : ∀ j : Fin 4, j ≠ k → g s j = s)
    (hafter : ∀ j : Fin 4, j ≠ k → g t j = t) : ([0, 1, 2, 3] : List Nat).foldl g s = t := by
  show g (g (g (g s (0 : Fin 4)) (1 : Fin 4)) (2 : Fin 4)) (3 : Fin 4) = t
  match k with
  | 0 => rw [hk, hafter 1 (by decide), hafter 2 (by decide), hafter 3 (by decide)]
  | 1 => rw [hbefore 0 (by decide), hk, hafter 2 (by decide), hafter 3 (by decide)]
  | 2 => rw [hbefore 0 (by decide), hbefore 1 (by decide), hk, hafter 3 (by decide)]
  | 3 => rw [hbefore 0 (by decide), hbefore 1 (by decide), hbefore 2 (by decide), hk]

theorem coilTemperature_exec {s : State} {k : Fin 4} (hdom : s.domainOn 1 = true) (hphase : s.get MGMT_STATUS_PHASE = 4) (hreach : s.reach 6 = true)
    (hen : ∀ j : Fin 4, s.get (HK_COILc_MAP_EN j) = if j = k then 1 else 0) : exec .coilTemperatureUpdate s = .next (s.coilUpdate k) := by
  have hone : s.on (HK_COILc_MAP_EN k) = true := on_of_get_one ((hen k).trans (if_pos rfl))
  have hoff (j : Fin 4) (hj : j ≠ k) : s.on (HK_COILc_MAP_EN j) = false := off_of_get_zero ((hen j).trans (if_neg hj))
  have hoff' (j : Fin 4) (hj : j ≠ k) : (s.coilUpdate k).on (HK_COILc_MAP_EN j) = false :=
    off_of_get_zero ((coilUpdate_enable s k j).trans ((hen j).trans (if_neg hj)))
  have hfold : ([0, 1, 2, 3] : List Nat).foldl (fun (t : State) c => if t.on (HK_COILc_MAP_EN c) then t.coilUpdate c else t) s = s.coilUpdate k :=
    foldl_four_one k (if_pos hone) (fun j hj => if_neg (by rw [hoff j hj]; exact Bool.false_ne_true))
      fun j hj => if_neg (by rw [hoff' j hj]; exact Bool.false_ne_true)
  show execCoilTemperatureUpdate s = _
  rw [execCoilTemperatureUpdate, firmwareRuns_ready hdom hphase, hreach, Bool.and_self, if_pos rfl, hfold]

/-! ### COIL_TEMPERATURE_UPDATE -/

/-- A count of 0 is 0 also without the result of the same cycle. -/
theorem accBefore_empty {s : State} {a : Fin 72} (h : s.get (HK_ACCa_CNT_CNT a) = 0) : (s.accBefore a).2.get (HK_ACCa_CNT_CNT a) = 0 := by
  unfold State.accBefore
  split
  next c v lo hi hwas =>
    split
    · refine (State.get_set_ne _ (cnt_ne_full a) 0).trans ((State.get_set_same _ _ _).trans ?_)
      rw [h]
      rfl
    · exact h
  next => exact h

theorem coilEmpty_holds : Claim.coilEmpty := by
  rintro s k a ⟨hdom, hphase, hreach, hen, hrtd, href, hcnt⟩
  have ha := a.isLt
  have hval : (Fin.ofNat 72 a.val).val = a.val := Nat.mod_eq_of_lt (by omega)
  have hratio : s.coilRatio k = none := by
    have hempty : (s.accBefore (Fin.ofNat 72 a.val)).2.get (HK_ACCa_CNT_CNT (Fin.ofNat 72 a.val)) = 0 := accBefore_empty (by rw [hval, hcnt])
    simp only [State.coilRatio, hrtd, hempty]
    exact if_pos (.inr trivial)
  have hnone : s.coilTemp k = none := by
    simp only [State.coilTemp, hratio, Option.bind_none, ite_self]
  refine ⟨_, coilTemperature_exec hdom hphase hreach hen, ?_, ?_⟩
  · rw [coilUpdate_none hnone]
    exact State.get_set_same _ _ 0
  · rw [coilUpdate_none hnone]
    exact set_noted (coilTaken_noted s k) _ _

/-- The ratio of two accumulators with a reference resistor (R429). -/
theorem coilRatio_reference {s : State} {k : Fin 4} {a b : Fin 64} (hrtd : s.get (HK_COILc_MAP_RTD_ACC k) = a.val)
    (href : s.get (HK_COILc_MAP_REF_ACC k) = b.val) (hca : s.get (HK_ACCa_CNT_CNT a) ≠ 0) (hcb : s.get (HK_ACCa_CNT_CNT b) ≠ 0)
    (hsum : (s.hk.accs[Fin.ofNat 72 b.val]).sum ≠ 0) (hwas : ∀ i : Fin 72, ((s.hk.accs[i]).was.map (·.1)) ≠ some (s.cyc / 2))
    (hnom : s.get (HK_COILc_MAP_NOMSEL k) < 2) : s.coilRatio k = some ((s.get (HK_COILc_RREF_MOHM k) : Rat)
      * ((s.hk.accs[Fin.ofNat 72 a.val]).sum / s.get (HK_ACCa_CNT_CNT a)) / ((s.hk.accs[Fin.ofNat 72 b.val]).sum / s.get (HK_ACCa_CNT_CNT b))
        / (if s.get (HK_COILc_MAP_NOMSEL k) = 0 then 100000 else 1000000)) := by
  have ha := a.isLt
  have hb := b.isLt
  have hva : (Fin.ofNat 72 a.val).val = a.val := Nat.mod_eq_of_lt (by omega)
  have hvb : (Fin.ofNat 72 b.val).val = b.val := Nat.mod_eq_of_lt (by omega)
  have hsel : (if s.on (HK_COILc_MAP_NOMSEL k) then (1000000 : Rat) else 100000)
      = if s.get (HK_COILc_MAP_NOMSEL k) = 0 then 100000 else 1000000 := by
    by_cases h0 : s.get (HK_COILc_MAP_NOMSEL k) = 0
    · rw [off_of_get_zero h0, if_pos h0]
      rfl
    · rw [on_of_get_one (show s.get (HK_COILc_MAP_NOMSEL k) = 1 by omega), if_neg h0]
      rfl
  simp only [State.coilRatio, hrtd, href, accBefore_quiet (hwas _), hva, hvb, hsel]
  rw [if_neg (by omega), if_neg (by omega), if_neg (by omega)]
  congr 2
  rw [div_div_eq_mul_div, mul_div_assoc', div_mul_eq_mul_div, div_div]

theorem coilReference_holds : Claim.coilReference := by
  rintro s k a b v ⟨hdom, hphase, hreach, hen, hrtd, href, hab, hca, hcb, hsum, hwas, hfault, hplat, hnom⟩
  have ha := a.isLt
  have hb := b.isLt
  have hva : (Fin.ofNat 72 a.val).val = a.val := Nat.mod_eq_of_lt (by omega)
  have hvb : (Fin.ofNat 72 b.val).val = b.val := Nat.mod_eq_of_lt (by omega)
  have hne : a.val ≠ b.val := fun h => hab (Fin.ext h)
  obtain ⟨-, -, -, hkeys, htempLow, hvalidLow⟩ := coil_keys k 0
  have htemp : s.coilTemp k = some v := by
    have hinj : decide (64 ≤ a.val) = false := decide_eq_false (by omega)
    simp only [State.coilTemp, hrtd, hinj, Bool.false_eq_true, if_false, hfault, coilRatio_reference hrtd href hca hcb hsum hwas hnom, Option.bind_some]
    exact hplat
  have hnoted := coilTaken_noted s k
  have htaken : s.coilTaken k = (s.accTaken a.val).accTaken b.val := by rw [State.coilTaken, hrtd, href]
  obtain ⟨hcnta, haccs⟩ := accTaken_quiet (s := s) (i := a.val) (by omega) (hwas _)
  have hcyc : (s.accTaken a.val).cyc = s.cyc := (congrArg State.cyc (accTaken_noted (t := s) rfl a.val)).trans rfl
  have hother : ∀ i : Fin 72, i.val ≠ a.val → (s.accTaken a.val).hk.accs[i] = s.hk.accs[i] := fun i hi => by
    rw [haccs]
    exact Vector.getElem_set_ne _ _ (fun h => hi (h.symm.trans hva))
  have hwasb : (((s.accTaken a.val).hk.accs[Fin.ofNat 72 b.val]).was.map (·.1)) ≠ some ((s.accTaken a.val).cyc / 2) := by
    rw [hcyc, hother _ (fun h => hne (h.symm.trans hvb))]
    exact hwas _
  obtain ⟨hcntb, haccsb⟩ := accTaken_quiet (s := s.accTaken a.val) (i := b.val) (by omega) hwasb
  have hcnta' : ((s.accTaken a.val).accTaken b.val).get (HK_ACCa_CNT_CNT a) = 0 := by
    refine (accTaken_regs _ _ _ (taken_notMem ?_)).trans hcnta
    simp only [HK_ACCa_CNT_CNT, key]
    omega
  have hotherb : ∀ i : Fin 72, i.val ≠ b.val → ((s.accTaken a.val).accTaken b.val).hk.accs[i] = (s.accTaken a.val).hk.accs[i] := fun i hi => by
    rw [haccsb]
    exact Vector.getElem_set_ne _ _ (fun h => hi (h.symm.trans hvb))
  rw [← htaken] at hcntb hcnta' haccsb hotherb
  have hcntKey (i : Nat) : key 15 0x1000 0 ≤ (HK_ACCa_CNT_CNT i).key := by
    simp only [HK_ACCa_CNT_CNT, key]
    omega
  have hcnt (i : Nat) : (((s.coilTaken k).set (BRIL_COILk_T_TEMP (k.val / 2) (k.val % 2)) (bitsOf 24 v)).set
      (BRIL_COILk_T_VALID (k.val / 2) (k.val % 2)) 1).get (HK_ACCa_CNT_CNT i) = (s.coilTaken k).get (HK_ACCa_CNT_CNT i) := by
    have hi := hcntKey i
    exact (State.get_set_ne _ (by omega) 1).trans (State.get_set_ne _ (by omega) _)
  have hexec := coilTemperature_exec hdom hphase hreach hen
  rw [coilUpdate_some htemp] at hexec
  refine ⟨_, hexec, ?_, State.get_set_same _ _ 1, (hcnt _).trans hcnta', (hcnt _).trans hcntb, ?_, ?_, set_noted (set_noted hnoted _ _) _ _, fun i hia hib => ?_⟩
  · exact (State.get_set_ne _ hkeys 1).trans ((State.get_set_same _ _ _).trans (Nat.mod_eq_of_lt (by rw [bitsOf]; show _ < 2 ^ 24; omega)))
  · show ((s.coilTaken k).hk.accs[Fin.ofNat 72 a.val]).sum = 0
    rw [hotherb _ (fun h => hne (hva.symm.trans h)), haccs]
    exact congrArg HkAcc.sum (Vector.getElem_set_self _)
  · show ((s.coilTaken k).hk.accs[Fin.ofNat 72 b.val]).sum = 0
    rw [haccsb]
    exact congrArg HkAcc.sum (Vector.getElem_set_self _)
  · show (s.coilTaken k).hk.accs[i] = _
    rw [hotherb i hib, hother i hia]

end Sys2Proof.Machine

namespace Sys2Proof.Proofs
open Sys2Proof.Machine

/-- Settles O10, clause by clause: the flash holds what was programmed last in each place, so a record that is appended, a slot that is
committed and a selection record that is rewritten read back as written; what firmware logs touches the event log alone. -/
theorem management : Obligations.Management := by
  unfold Obligations.Management
  exact ⟨cfgReadSlot_holds, cfgReadBusy_holds, cfgReadFactory_holds, cfgReadStaging_holds, cfgWrite_holds, cfgCommit_holds,
    cfgCommitComplete_holds, cfgCommitFails_holds, updBegin_holds, updEraseComplete_holds, updData_holds, updDataAgain_holds,
    updCommit_holds, updVerifyComplete_holds, updSelectTrial_holds, updSelectConfirm_holds, updSelectPrefer_holds,
    updSelectDenied_holds, logRead_holds, logReadNone_holds, logReadPersistent_holds, persistentLogAppend_holds,
    lifetimeSample_holds, lifetimeAppend_holds, lifetimeAppendFails_holds, lifeRead_holds, dieSensorUpdate_holds,
    dieSensorHot_holds, dieSensorDrift_holds, dramSensorRead_holds, dramSensorPassed_holds, sensorRead_holds, mgmtStatus_holds,
    coilReference_holds, coilEmpty_holds⟩

end Sys2Proof.Proofs
end
